-- ==== Sys2Proof/Word.lean ====
section
/-!
DEFINITION. The word types of the part and the type of sparse tables (spec/00_scope.md R4 to R8).
-/
namespace Sys2Proof

/-- One byte of memory (R7). -/
abbrev Byte := BitVec 8
/-- A BAR0 register (R8). -/
abbrev W32 := BitVec 32
/-- A descriptor word, a general register of a Spar engine, a tick number (R60, R255). -/
abbrev W64 := BitVec 64

/-- Sparse data by number: the entries that differ from their default, numbers strictly rising.
Everything that is not listed holds its default (for a register: its reset word). -/
abbrev Table (α : Type) := List (Nat × α)

end Sys2Proof
end

