-- ==== Sys2Proof/Syntax.lean ====
section
/-!
DEFINITION. The commands of the block: one constructor for each row of spec/opcode_table.json, with its operands. The table
gives no row any bits, so the operands are plain data: a ring, an engine, a channel, a descriptor with its payload words, the
fields of a frame, a level or a code of the world outside, and (`cyc`) the cycle after the latest strobe at which the command
acts.
-/
namespace Sys2Proof

/-- What an identification step measured (R203): the electrical values and the alignment; speed (Q40.24) and current (Q2.30) of each run at
constant speed; current, mean speed (Q40.24) and acceleration (Q48.16) of each current step; the peaks of the response; the amplitude of
the chirp. -/
structure IdResult where
  rs : W32 := 0
  xd : W32 := 0
  xq : W32 := 0
  angleOfs : W32 := 0
  runs : List (W64 × W32) := []
  steps : List (W32 × W64 × W64) := []
  /-- Frequency (Q16.16 Hz), damping (Q2.30) and magnitude (Q40.24 counts/s per IFS) of each peak of the response. -/
  peaks : List (W32 × W32 × W64) := []
  ampl : W32 := 0
deriving DecidableEq, Repr

/-- One axis of a Halyard REPLY (Table 12.6). -/
structure HalAxis where
  pos : W64
  vel : W64
  iAct : W32
  astat : W32
deriving DecidableEq, Repr

/-- A Halyard REPLY as received (Tables 12.5 and 12.6). -/
structure HalReply where
  mac : BitVec 48
  node : BitVec 8
  tick : W64
  tSample : W64
  nstat : W32
  axes : List HalAxis
  input : List Byte
  tse : List Byte
deriving DecidableEq, Repr

/-- A Halyard ANNOUNCE as received (Table 12.6). -/
structure HalAnnounce where
  mac : BitVec 48
  vendor : W32
  product : W32
  serial : W32
  axes : BitVec 8
  ioIn : BitVec 8
  ioOut : BitVec 8
  caps : BitVec 8
deriving DecidableEq, Repr

/-- A PTP message as received: domain, source, sequence number, correction in 2^-16 ns, the timestamp it carries in ns, whether a
Follow_Up will come (two-step), and its receive timestamp in 2^-2 ns. -/
structure PtpMsg where
  domain : BitVec 8
  src : W64
  srcPort : BitVec 16
  seq : BitVec 16
  corr : W64
  time : W64
  twoStep : Bool
  stamp : W64
deriving DecidableEq, Repr

/-- The data set of a PTP Announce (IEEE 1588-2019) with its source. -/
structure PtpAnn where
  domain : BitVec 8
  src : W64
  srcPort : BitVec 16
  gm : W64
  prio1 : BitVec 8
  cls : BitVec 8
  acc : BitVec 8
  var : BitVec 16
  prio2 : BitVec 8
  steps : BitVec 16
deriving DecidableEq, Repr

/-! ## The safety configuration (Tables 13.1 and 13.4): the elements that a SAFETY image holds -/

structure PairCfg where
  kind : Nat := 0
  dt : Nat := 1
  filt : Nat := 1
  test : Bool := false
deriving DecidableEq, Repr

structure OutCfg where
  use : Nat := 0
  zone : Nat := 0
  tp : Nat := 20
deriving DecidableEq, Repr

/-- The reset source of a zone: an input pair or a TSE connection. -/
inductive RstSrc where
  | pair (p : Nat)
  | tse (c : Nat)
deriving DecidableEq, Repr

structure ZoneCfg where
  slots : Nat
  line : Bool
  rst : RstSrc
deriving DecidableEq, Repr

structure SafeAxisCfg where
  axis : Nat
  src : Nat
  fb1 : Nat
  fb2 : Nat
  num : Nat
  den : Nat
  axNum : Nat
  axDen : Nat
  posTol : Nat
  vRef : Nat
  vTol : Nat
  vZero : Nat
  posWin : Nat
  sdiTol : Nat
deriving DecidableEq, Repr

structure TseCfg where
  node : Nat
  connId : Nat
  wd : Nat
  zone : Nat
  axmap : List (Option Nat)
deriving DecidableEq, Repr

/-- A function instance; DEMAND as the input pairs, the host bit and one TSE input bit (connection and bit). -/
structure FnCfg where
  func : Nat
  zone : Nat
  pairs : Nat
  host : Bool
  tse : Option (Nat × Nat)
  restart : Bool
  react : Bool
  tDelay : Nat
  tRamp : Nat
  hd : Bool
  share : Nat
  margin : Nat
  reef : Bool
  tReact : Nat
  dir : Bool
  out : Nat
  tBrake : Nat
deriving DecidableEq, Repr

structure SafetyCfg where
  pairs : List PairCfg
  tpIn : List Nat
  outs : List OutCfg
  zones : Table ZoneCfg
  axes : Table SafeAxisCfg
  conns : Table TseCfg
  fns : Table FnCfg
deriving DecidableEq, Repr

/-- What both cores of the Shroud sample in a Shroud tick: the counts of their own decoders by FB pad, the readbacks of the STO
enables and of the safety outputs by channel, what the pulses of SHR.TEST show where they run in it (slots whose enables follow, output
channels that fall, bit 2q + channel), whether the states exchanged agree, and whether the self-tests pass; `cyc` is the cycle of the tick. -/
structure ShroudSample where
  cyc : Nat := 0
  counts0 : Table W32 := []
  counts1 : Table W32 := []
  stoA : BitVec 24 := 0
  stoB : BitVec 24 := 0
  outA : BitVec 4 := 0
  outB : BitVec 4 := 0
  checkA : BitVec 24 := 0
  checkB : BitVec 24 := 0
  fell : BitVec 8 := 0
  agree : Bool := true
  selfTest : Bool := true
deriving DecidableEq, Repr

/-- What self-calibration finds (R111, R318, R348, R349, R388): the units that fail, the sigma-delta inputs without activity, the trims
of each converter of a pair, and the sampling delay of each sigma-delta input. -/
structure CalResult where
  pwm : BitVec 24 := 0
  adc : BitVec 16 := 0
  sdi : BitVec 48 := 0
  sdiIdle : BitVec 48 := 0
  tdc : BitVec 16 := 0
  cal0 : List W32 := []
  cal1 : List W32 := []
  delay : List (BitVec 5) := []
deriving DecidableEq, Repr

/-- The way a register access takes: BAR0, BAR2, the JTAG port, which reaches the DBG block alone, or a configuration request. -/
inductive RegPath where
  | bar0 | bar2 | jtag | config
deriving DecidableEq, Repr

/-- Where and when an instruction issues: the engine (Table 1.1, codes 0 to 37) and the cycle after the latest strobe. -/
structure SparAt where
  e : Fin 38
  cyc : Nat := 0
deriving DecidableEq, Repr

/-- The address part of the M format (Table 7.3, Table 7.5): base plus offset, or a generator in index or post-modify mode. -/
inductive MemAddr where
  | base (ra : Fin 64) (k : BitVec 10)
  | gen (n : Fin 4) (post : Bool) (k : BitVec 12)
deriving DecidableEq, Repr

/-- The signs of a MAC-class product (Table 7.9, SG). -/
inductive MacSign where
  | ss | uu | su
deriving DecidableEq, Repr

/-- A sub-tick boundary of a slot (R32): its index in the tick, and whether the base level has stored
the current command of the tick before it. -/
structure SubBoundary where
  i : Fin 8
  stored : Bool
deriving DecidableEq, Repr

/-- The times of a peer exchange (R435): the peer's transmit time T3 and the egress time of the answer when it goes on. -/
structure PeerTimes where
  t3 : W64
  egress : W64
deriving DecidableEq, Repr

/-- A dark pulse of an output channel (R483): channel B or A, whether its readback falls, and the cycle of the tick. -/
structure DarkPulse where
  b : Bool
  fell : Bool
  cyc : Nat
deriving DecidableEq, Repr

/-- Who attaches to the DBG block, the JTAG port or a host (R580), and in which cycle of the tick. -/
structure AttachBy where
  jtag : Bool
  cyc : Nat
deriving DecidableEq, Repr

/-- A byte address on a path to the registers. -/
structure RegAt where
  path : RegPath
  a : BitVec 20
deriving DecidableEq, Repr

/-- A descriptor as the part fetched it (R60): the ring it came from, TAG, SEQUENCE, IRQ, LEN, whether a reserved bit of
word 0 is set, and payload words 1 to 7. `data` is what the part's reads of a buffer that the payload names return; it is empty
for a descriptor that names none. `safety` is the set of elements that a fetched safety configuration holds. -/
structure Desc where
  ring : Fin 64
  tag : BitVec 16 := 0
  seq : BitVec 16 := 0
  irq : Bool := false
  len : Fin 8 := 0
  rsv : Bool := false
  w1 : W64 := 0
  w2 : W64 := 0
  w3 : W64 := 0
  w4 : W64 := 0
  w5 : W64 := 0
  w6 : W64 := 0
  w7 : W64 := 0
  data : List Byte := []
  safety : Option SafetyCfg := none
deriving DecidableEq, Repr

/-- Payload word `i`, 1 to 7; words beyond LEN are ignored (R60). -/
def Desc.w (d : Desc) (i : Nat) : W64 :=
  if d.len.val < i then 0 else
  match i with
  | 1 => d.w1 | 2 => d.w2 | 3 => d.w3 | 4 => d.w4 | 5 => d.w5 | 6 => d.w6 | 7 => d.w7 | _ => 0

/-- The commands: one constructor for each row of the opcode table. An instruction of an engine carries where and when it issues;
a descriptor carries its ring and its words; a write to a register of a hardware block carries who writes it: an engine, or none for the
host. -/
inductive Instr where
  /-- R35: A frame tick begins: the tick number advances, the exchange images swap and the ending tick is checked for overruns. -/
  | tickStrobe (late : BitVec 38) (vmain : BitVec 16) (vback : BitVec 16) (pIn : BitVec 16)
  /-- R44: The third consecutive overrun faults the engine with the consequences of Table 1.8. -/
  | engineFault (e : Fin 38)
  /-- R44: VE, or the hardware for VE, restarts NE, CE, HE or VE from its image after its overrun fault. -/
  | engineRestart (e : Fin 38)
  /-- R32: A sub-tick boundary of a slot raises the SUB interrupt of AEn, which takes steps 1 and 2 of the current-stage update. -/
  | subInterrupt (n : Fin 24) (b : SubBoundary)
  /-- R170: The input-ready interrupt runs steps 3 to 10 of the current-stage update and writes the compares. -/
  | inrdyInterrupt (n : Fin 24) (cyc : Nat)
  /-- R343: INRDY is raised at t_end + INRDY_MAX cycles when the gated inputs have not delivered earlier. -/
  | inrdyTimeout (n : Fin 24) (cyc : Nat)
  /-- R283: The engine timer interrupt is raised when CYC equals TMR_CMP. -/
  | tmrInterrupt (e : Fin 38)
  /-- R37: At the Halyard input cutoff NE delivers actuals to the planner engines and evaluates the partner watchdogs. -/
  | halCutoff
  /-- R29: A pending FT or sub-tick selection is adopted at a common tick boundary, raising FT to 62.5 us under R30 where needed. -/
  | ftAdopt
  /-- R424: A held or requested step of the local clock is applied at a tick boundary with the long tick of R31. -/
  | clockStep
  /-- R463: A Shroud tick of its own clock applies arrivals, evaluates the safety functions and timers and exchanges state between the
  cores. -/
  | shroudTick (m : ShroudSample)
  /-- R465: The Shroud completes its own start-up and awaits a reset edge before releasing STO. -/
  | shroudStartUp
  /-- R55: A function level reset, D3hot entry, link down or Bus Master Enable clear makes VE expire armed watchdogs, disable every ring and
  raise HOST_LOSS. -/
  | hostLoss (kind : Fin 4)
  /-- R71: A write to a submission-ring doorbell records SQ_TAIL and CQ_HEAD and counts as a watchdog arrival. -/
  | submissionDoorbell (n : Fin 64) (t : Option W32) (k : Option W32)
  /-- R83: A write to the event ring doorbell records the host's event count. -/
  | eventRingDoorbell (v : W32)
  /-- R415: A write to a CR doorbell records the released count and frees the released blocks. -/
  | captureRingDoorbell (m : Fin 4) (v : W32)
  /-- R73: Setting RINGn_CFG.EN enables a submission ring with its effective grant or leaves it disabled with NO_GRANT. -/
  | ringEnable (n : Fin 64) (v : W32)
  /-- R75: Clearing RINGn_CFG.EN disables a submission ring, zeroes its counts and discards fetched descriptors. -/
  | ringDisable (n : Fin 64) (v : W32)
  /-- R83: Setting EVT_CFG.EN enables the event ring with its written count at 0. -/
  | eventRingEnable (v : W32)
  /-- R83: Clearing EVT_CFG.EN disables the event ring; events then stay in the internal buffer. -/
  | eventRingDisable (v : W32)
  /-- R85: Setting CRm_CFG.EN enables a capture ring. -/
  | captureRingEnable (m : Fin 4) (v : W32)
  /-- R415: Clearing CRm_CFG.EN disables a capture ring and frees every block handed to it and not released. -/
  | captureRingDisable (m : Fin 4) (v : W32)
  /-- R76: A fetch or record write that ends in an error puts the ring into its error state and raises RING_DMA_ERROR. -/
  | ringDmaError (ring : Fin 69) (wr : Bool) (addr : W64)
  /-- R81: An expired ring watchdog sets WD_EXP, raises RING_WATCHDOG and acts as WD_ACT selects. -/
  | ringWatchdog (n : Fin 64)
  /-- R63: The NOP descriptor has no effect and receives a completion. -/
  | nop (d : Desc)
  /-- R64: The FENCE descriptor holds back the later descriptors of its ring until the covered descriptors are done. -/
  | fence (d : Desc)
  /-- R64: The descriptors held behind a FENCE are applied once every covered descriptor is done, with HELD set. -/
  | fenceRelease (n : Fin 64)
  /-- R101: The MODE descriptor requests a device mode change, reporting REASON and MODE_AFTER. -/
  | mode (d : Desc)
  /-- R103: The GROUP_CLR field of MODE clears the fault of the named groups and begins the reload of their faulted engines. -/
  | groupClr (d : Desc)
  /-- R103: A recovered engine signals its first done, FAULT clears and the named groups go from FAULTED to IDLE. -/
  | engineRecovered (e : Fin 38)
  /-- R98: The 20 ms Backstay window expires without VMAIN returning and HAULDOWN is decided. -/
  | backstayWindowExpiry (cyc : Nat)
  /-- R105: Both supplies below 5.5 V then one above 6 V reset the module and the Shroud. -/
  | powerOnReset (also : BitVec 7)
  /-- R105: RST_n low for at least 1 us resets the module and the Shroud. -/
  | padReset (also : BitVec 7)
  /-- R105: PERST_n asserted while PERST_ACT is 1 resets the module while the Shroud holds STO. -/
  | perstReset (also : BitVec 7)
  /-- R106: A write of the key with SOFT to GLB.RESET_CTRL resets the module or is refused with REFUSED set. -/
  | softReset (v : W32)
  /-- R51: The PLL loses lock or the reference stops, setting LOCK_LOSS or REF_LOSS. -/
  | pllLockLoss (refLoss : Bool)
  /-- R105: Lock not regained within 1 ms of a loss resets the module. -/
  | pllReset (also : BitVec 7)
  /-- R105: VE signalling no done in the 100 ticks after a restart resets the module. -/
  | supervisorReset (also : BitVec 7)
  /-- R109: The PLL locks in start-up step 1, or step 1 repeats after 10 ms without lock. -/
  | pllLock (ok : Bool)
  /-- R110: The start-up memory wipe ends and the device enters CALIBRATE, or stops with BOOT_ERR on a read-back mismatch. -/
  | memoryWipeComplete (ok : Bool) (ms : Nat)
  /-- R111: Self-calibration ends, marking failed units, and from STANDBY the device returns to STANDBY. -/
  | calibrationDone (c : CalResult)
  /-- R112: The image checks of step 4 end, READY sets and the device enters STANDBY, QUARANTINE or THERMAL_HOLD. -/
  | startUp (pairs : List (Nat × Nat × BitVec 256)) (readyMs : Nat)
  /-- R115: A write of GLB.LC_CTRL with CONFIRM in a safety session requests a life-cycle change or sets REFUSED with a reason. -/
  | lcChangeRequest (v : W32)
  /-- R116: An accepted life-cycle change finishes writing state and wipe, clears the mark and resets with cause LC. -/
  | lcChangeComplete
  /-- R116: At start-up a pending life-cycle wipe starts once the flash-write window opens. -/
  | pendingWipeStart
  /-- R531: The flash-write window does not open within 10 s and start-up stops with BOOT_ERR 0x2. -/
  | pendingWipeTimeout
  /-- R120: The AXIS_BIND descriptor binds or unbinds an axis to a group member slot. -/
  | axisBind (d : Desc)
  /-- R122: The AXIS_LIMITS descriptor sets the soft limits, VMAX, AMAX and JMAX of an axis. -/
  | axisLimits (d : Desc)
  /-- R123: The PROFILE descriptor sets one of a group's eight motion profiles, optionally live. -/
  | profile (d : Desc)
  /-- R130: The MOVE descriptor queues a linear segment of the named members, or opens it when MORE is set. -/
  | move (d : Desc)
  /-- R151: A MOVE with IMMEDIATE replaces the executing segment and the queue when its segment enters the queue. -/
  | moveImmediate (d : Desc)
  /-- R133: The MOVE_CONT descriptor adds member targets to the open MOVE and closes it when MORE is clear. -/
  | moveCont (d : Desc)
  /-- R133: An open MOVE followed by no MOVE_CONT within 16 ticks enters the queue with the targets received. -/
  | moveIncomplete (ring : Fin 64)
  /-- R142: GROUP_CTRL ENABLE takes an IDLE group to ENABLED. -/
  | groupEnable (d : Desc)
  /-- R142: GROUP_CTRL DISABLE takes an ENABLED or HOLDING group to IDLE. -/
  | groupDisable (d : Desc)
  /-- R142: GROUP_CTRL STOP decelerates a MOVING group to HOLDING, keeping the rest of its path. -/
  | groupStop (d : Desc)
  /-- R142: GROUP_CTRL RESUME takes a HOLDING group back to MOVING along the remaining path. -/
  | groupResume (d : Desc)
  /-- R142: GROUP_CTRL FLUSH discards every queued entry that is neither executing nor committed. -/
  | groupFlush (d : Desc)
  /-- R138: An ENABLED group starts its queue in the first tick in which the device mode permits motion. -/
  | queueStart (g : Fin 32)
  /-- R134: A queue entry ends, its slot is freed and the group moves on or goes to ENABLED. -/
  | segmentEnd (g : Fin 32)
  /-- R156: The GEAR descriptor queues the engagement of a slave member to a master at a ratio with a clutch. -/
  | gearEngage (d : Desc)
  /-- R155: A GEAR with OFF queues the disengagement of the slave, which decelerates to rest. -/
  | gearDisengage (d : Desc)
  /-- R158: The CAM_LOAD descriptor fetches cam points from host memory for a spline table. -/
  | camLoad (d : Desc)
  /-- R158: The spline of a loaded cam table is computed and the table can be used, or CAM_INVALID keeps the old contents. -/
  | camReady (t : Fin 32)
  /-- R159: The CAM_ENGAGE descriptor queues the engagement of a slave to a cam table. -/
  | camEngage (d : Desc)
  /-- R159: A CAM_ENGAGE with OFF queues the disengagement of the cam slave. -/
  | camDisengage (d : Desc)
  /-- R161: The GROUP_REPORT descriptor writes the 320-byte group report to host memory. -/
  | groupReport (d : Desc)
  /-- R210: The MOTOR descriptor sets a local axis's motor, feedback, current limits and bus configuration. -/
  | motor (d : Desc)
  /-- R178: The ISENSE descriptor sets the current-sensing inputs and mode of a local axis. -/
  | isense (d : Desc)
  /-- R210: The CURRENT_LOOP descriptor sets the current-loop gains and feed-forward. -/
  | currentLoop (d : Desc)
  /-- R183: The VELOCITY_LOOP descriptor sets the speed source, gains, filter and scale bounds. -/
  | velocityLoop (d : Desc)
  /-- R187: The POSITION_LOOP descriptor sets the position channel, gain, feed-forward and following-error limit. -/
  | positionLoop (d : Desc)
  /-- R190: The NOTCH descriptor sets a parametric or tracking notch of an axis. -/
  | notch (d : Desc)
  /-- R191: The NOTCH_RAW descriptor loads biquad coefficients directly with the pole pair clamped. -/
  | notchRaw (d : Desc)
  /-- R200: The STEPPER descriptor sets load-following, open-loop and stall settings of a stepper slot. -/
  | stepper (d : Desc)
  /-- R203: The IDENTIFY descriptor starts self-commissioning of one axis of a group. -/
  | identify (d : Desc)
  /-- R207: IDENTIFY with ABORT stops the running identification and holds its results. -/
  | identifyAbort (d : Desc)
  /-- R203: An identification step completes and the next step of Table 5.8 begins, ending in DONE or ABORTED. -/
  | idState (a : Fin 256) (r : IdResult) (cause : Option (Fin 256))
  /-- R210: The LOOP_REPORT descriptor writes the 128-byte loop report to host memory. -/
  | loopReport (d : Desc)
  /-- R210: The ID_REPORT descriptor writes the 128-byte identification report to host memory. -/
  | idReport (d : Desc)
  /-- R195: The LOOP_FLAGS_CLR descriptor clears sticky flags of the loop stages at the next strobe. -/
  | loopFlagsClr (d : Desc)
  /-- R217: The LINE descriptor sets the reference axis, tension switch, publication and haul-down parameters. -/
  | line (d : Desc)
  /-- R214: The ROLL descriptor configures an axis as a roll with its diameter, deceleration capacity and torque scale. -/
  | roll (d : Desc)
  /-- R215: ROLL with REMOVE makes the axis cease to be a roll and its spans and winders absent. -/
  | rollRemove (d : Desc)
  /-- R215: The SPAN descriptor configures a span between two rolls. -/
  | span (d : Desc)
  /-- R215: SPAN with REMOVE makes the span and every span downstream of it absent. -/
  | spanRemove (d : Desc)
  /-- R226: The TENSION_LOOP descriptor sets a span's tension loop source, setpoint and gains. -/
  | tensionLoop (d : Desc)
  /-- R233: The WINDER descriptor configures a roll as rewinder or unwinder. -/
  | winder (d : Desc)
  /-- R233: WINDER with REMOVE makes the roll cease to be a winder. -/
  | winderRemove (d : Desc)
  /-- R225: The MATERIAL descriptor sets a change of stiffness and thickness to enter the line. -/
  | material (d : Desc)
  /-- R225: A waiting material change enters its span when the line reference setpoint passes LINE_POS. -/
  | materialEnter (i : Nat)
  /-- R225: A material change in transit reaches a span midpoint or a winder and takes effect there. -/
  | materialReach (i : Nat) (winder : Bool) (k : Fin 24)
  /-- R239: The DIAMETER_SET descriptor replaces a winder's diameter and restarts its revolution window. -/
  | diameterSet (d : Desc)
  /-- R253: The LINE_REPORT descriptor writes the 1,088-byte line report to host memory. -/
  | lineReport (d : Desc)
  /-- R235: A winder completes a revolution and its ratio estimate corrects the diameter or sets DIAM_DEV. -/
  | winderRevolution (w : Fin 8)
  /-- R232: Measured tension below T_BREAK for 16 consecutive ticks at speed sets BREAK and raises WEB_BREAK. -/
  | webBreak (k : Fin 24)
  /-- R249: Every roll at or below ZERO_SPEED for 16 ticks ends the haul-down and the device goes to STANDBY. -/
  | lineStandstill
  /-- R251: Every PUB_DIV ticks VE writes the line status record to host memory. -/
  | lineStatusPublish (ok : Bool)
  /-- R272: The ADDI instruction adds a signed immediate, wrapping. -/
  | addi (i : SparAt) (rd : Fin 64) (ra : Fin 64) (imm : BitVec 14)
  /-- R272: The ANDI instruction ands a zero-extended immediate. -/
  | andi (i : SparAt) (rd : Fin 64) (ra : Fin 64) (imm : BitVec 14)
  /-- R279: The LDI instruction loads a sign-extended 16-bit immediate. -/
  | ldi (i : SparAt) (rd : Fin 64) (imm : BitVec 16)
  /-- R279: The LDK instruction writes a 16-bit immediate into one lane of a register. -/
  | ldk (i : SparAt) (rd : Fin 64) (lane : Fin 4) (imm : BitVec 16)
  /-- R279: The SEL instruction selects one of two registers by a condition register. -/
  | sel (i : SparAt) (rd : Fin 64) (ra : Fin 64) (rb : Fin 64) (rc : Fin 64)
  /-- R280: The LD instruction loads a value of the given size from the data space. -/
  | ld (i : SparAt) (rd : Fin 64) (sz : Fin 7) (m : MemAddr)
  /-- R280: The ST instruction stores the low bytes of a register into the data space. -/
  | st (i : SparAt) (rs : Fin 64) (sz : Fin 7) (m : MemAddr)
  /-- R272: The ADD instruction adds two registers, wrapping. -/
  | add (i : SparAt) (rd : Fin 64) (ra : Fin 64) (rb : Fin 64)
  /-- R272: The ADDS instruction adds two registers with saturation. -/
  | adds (i : SparAt) (rd : Fin 64) (ra : Fin 64) (rb : Fin 64)
  /-- R272: The SUB instruction subtracts two registers, wrapping. -/
  | sub (i : SparAt) (rd : Fin 64) (ra : Fin 64) (rb : Fin 64)
  /-- R272: The SUBS instruction subtracts two registers with saturation. -/
  | subs (i : SparAt) (rd : Fin 64) (ra : Fin 64) (rb : Fin 64)
  /-- R272: The AND instruction forms the bitwise and. -/
  | and (i : SparAt) (rd : Fin 64) (ra : Fin 64) (rb : Fin 64)
  /-- R272: The OR instruction forms the bitwise or. -/
  | or (i : SparAt) (rd : Fin 64) (ra : Fin 64) (rb : Fin 64)
  /-- R272: The XOR instruction forms the bitwise exclusive or. -/
  | xor (i : SparAt) (rd : Fin 64) (ra : Fin 64) (rb : Fin 64)
  /-- R277: The SHL instruction shifts left by a register amount. -/
  | shl (i : SparAt) (rd : Fin 64) (ra : Fin 64) (rb : Fin 64)
  /-- R277: The SHR instruction shifts right logically by a register amount. -/
  | shr (i : SparAt) (rd : Fin 64) (ra : Fin 64) (rb : Fin 64)
  /-- R277: The SRA instruction shifts right arithmetically by a register amount. -/
  | sra (i : SparAt) (rd : Fin 64) (ra : Fin 64) (rb : Fin 64)
  /-- R277: The SHLS instruction shifts left by a register amount with saturation. -/
  | shls (i : SparAt) (rd : Fin 64) (ra : Fin 64) (rb : Fin 64)
  /-- R277: The SHLI instruction shifts left by an immediate amount. -/
  | shli (i : SparAt) (rd : Fin 64) (ra : Fin 64) (n : Fin 64)
  /-- R277: The SHRI instruction shifts right logically by an immediate amount. -/
  | shri (i : SparAt) (rd : Fin 64) (ra : Fin 64) (n : Fin 64)
  /-- R277: The SRAI instruction shifts right arithmetically by an immediate amount. -/
  | srai (i : SparAt) (rd : Fin 64) (ra : Fin 64) (n : Fin 64)
  /-- R277: The SHLSI instruction shifts left by an immediate amount with saturation. -/
  | shlsi (i : SparAt) (rd : Fin 64) (ra : Fin 64) (n : Fin 64)
  /-- R279: The MIN instruction gives the signed minimum. -/
  | min (i : SparAt) (rd : Fin 64) (ra : Fin 64) (rb : Fin 64)
  /-- R279: The MAX instruction gives the signed maximum. -/
  | max (i : SparAt) (rd : Fin 64) (ra : Fin 64) (rb : Fin 64)
  /-- R279: The MINU instruction gives the unsigned minimum. -/
  | minu (i : SparAt) (rd : Fin 64) (ra : Fin 64) (rb : Fin 64)
  /-- R279: The MAXU instruction gives the unsigned maximum. -/
  | maxu (i : SparAt) (rd : Fin 64) (ra : Fin 64) (rb : Fin 64)
  /-- R272: The ABSS instruction gives the saturated absolute value. -/
  | abss (i : SparAt) (rd : Fin 64) (ra : Fin 64)
  /-- R272: The NEGS instruction gives the saturated negation. -/
  | negs (i : SparAt) (rd : Fin 64) (ra : Fin 64)
  /-- R279: The SLT instruction gives 1 if ga is less than gb, signed. -/
  | slt (i : SparAt) (rd : Fin 64) (ra : Fin 64) (rb : Fin 64)
  /-- R279: The SLTU instruction gives 1 if ga is less than gb, unsigned. -/
  | sltu (i : SparAt) (rd : Fin 64) (ra : Fin 64) (rb : Fin 64)
  /-- R279: The SEQ instruction gives 1 if the registers are equal. -/
  | seq (i : SparAt) (rd : Fin 64) (ra : Fin 64) (rb : Fin 64)
  /-- R279: The SEXT32 instruction sign-extends the low 32 bits. -/
  | sext32 (i : SparAt) (rd : Fin 64) (ra : Fin 64)
  /-- R279: The SEXT16 instruction sign-extends the low 16 bits. -/
  | sext16 (i : SparAt) (rd : Fin 64) (ra : Fin 64)
  /-- R279: The SEXT8 instruction sign-extends the low 8 bits. -/
  | sext8 (i : SparAt) (rd : Fin 64) (ra : Fin 64)
  /-- R275: The NORM instruction counts the bits below bit 63 equal to the sign bit. -/
  | norm (i : SparAt) (rd : Fin 64) (ra : Fin 64)
  /-- R275: The EXPX instruction converts an unsigned fixed-point value to a gain word. -/
  | expx (i : SparAt) (rd : Fin 64) (ra : Fin 64) (q : Fin 64)
  /-- R275: The GMUL instruction multiplies a signed value by a gain word with saturation. -/
  | gmul (i : SparAt) (rd : Fin 64) (ra : Fin 64) (rb : Fin 64)
  /-- R279: The MULH instruction gives the high 64 bits of the signed product. -/
  | mulh (i : SparAt) (rd : Fin 64) (ra : Fin 64) (rb : Fin 64)
  /-- R279: The MULL instruction gives the low 64 bits of the signed product. -/
  | mull (i : SparAt) (rd : Fin 64) (ra : Fin 64) (rb : Fin 64)
  /-- R272: The CLIPS instruction clamps ga to plus or minus the magnitude of gb. -/
  | clips (i : SparAt) (rd : Fin 64) (ra : Fin 64) (rb : Fin 64)
  /-- R273: The MUL instruction replaces an accumulator with the product. -/
  | mul (i : SparAt) (ra : Fin 64) (rb : Fin 64) (acc : Bool) (sg : MacSign)
  /-- R273: The MAC instruction adds the product to an accumulator. -/
  | mac (i : SparAt) (ra : Fin 64) (rb : Fin 64) (acc : Bool) (sg : MacSign)
  /-- R273: The MSU instruction subtracts the product from an accumulator. -/
  | msu (i : SparAt) (ra : Fin 64) (rb : Fin 64) (acc : Bool) (sg : MacSign)
  /-- R273: The MULLD instruction replaces the accumulator with the product and reloads both operands through AGX and AGY. -/
  | mulld (i : SparAt) (ra : Fin 64) (rb : Fin 64) (agx : Fin 4) (agy : Fin 4) (acc : Bool) (sg : MacSign)
  /-- R273: The MACLD instruction adds the product and reloads both operands. -/
  | macld (i : SparAt) (ra : Fin 64) (rb : Fin 64) (agx : Fin 4) (agy : Fin 4) (acc : Bool) (sg : MacSign)
  /-- R273: The MSULD instruction subtracts the product and reloads both operands. -/
  | msuld (i : SparAt) (ra : Fin 64) (rb : Fin 64) (agx : Fin 4) (agy : Fin 4) (acc : Bool) (sg : MacSign)
  /-- R274: The EXTR instruction extracts a shifted, rounded and saturated value from an accumulator. -/
  | extr (i : SparAt) (rd : Fin 64) (shift : Fin 128) (acc : Bool) (rnd : Bool)
  /-- R274: The ACLD instruction loads an accumulator with a shifted register. -/
  | acld (i : SparAt) (ra : Fin 64) (shift : Fin 128) (acc : Bool)
  /-- R274: The NORMA instruction counts the bits below bit 159 of an accumulator equal to its sign. -/
  | norma (i : SparAt) (rd : Fin 64) (acc : Bool)
  /-- R276: The DIV instruction divides signed registers over 18 cycles. -/
  | div (i : SparAt) (rd : Fin 64) (ra : Fin 64) (rb : Fin 64)
  /-- R276: The DIVU instruction divides unsigned registers over 18 cycles. -/
  | divu (i : SparAt) (rd : Fin 64) (ra : Fin 64) (rb : Fin 64)
  /-- R276: The DIVA0 instruction divides acc0 by a register over 34 cycles. -/
  | diva0 (i : SparAt) (rd : Fin 64) (ra : Fin 64)
  /-- R276: The DIVA1 instruction divides acc1 by a register over 34 cycles. -/
  | diva1 (i : SparAt) (rd : Fin 64) (ra : Fin 64)
  /-- R276: The SQRTU instruction gives the floor of the unsigned square root. -/
  | sqrtu (i : SparAt) (rd : Fin 64) (ra : Fin 64)
  /-- R276: The SINCOS instruction writes sine and cosine of an angle in Q2.30. -/
  | sincos (i : SparAt) (rd : Fin 64) (ra : Fin 64) (rb : Fin 64)
  /-- R276: The ATAN2 instruction gives the angle of a vector. -/
  | atan2 (i : SparAt) (rd : Fin 64) (ra : Fin 64) (rb : Fin 64)
  /-- R282: The BEQZ branch is taken when the register is zero. -/
  | beqz (i : SparAt) (ra : Fin 64) (off : BitVec 16)
  /-- R282: The BNEZ branch is taken when the register is not zero. -/
  | bnez (i : SparAt) (ra : Fin 64) (off : BitVec 16)
  /-- R282: The BLTZ branch is taken when the register is negative. -/
  | bltz (i : SparAt) (ra : Fin 64) (off : BitVec 16)
  /-- R282: The BGEZ branch is taken when the register is zero or positive. -/
  | bgez (i : SparAt) (ra : Fin 64) (off : BitVec 16)
  /-- R282: The BGTZ branch is taken when the register is positive. -/
  | bgtz (i : SparAt) (ra : Fin 64) (off : BitVec 16)
  /-- R282: The BLEZ branch is taken when the register is zero or negative. -/
  | blez (i : SparAt) (ra : Fin 64) (off : BitVec 16)
  /-- R282: The B branch is always taken. -/
  | b (i : SparAt) (off : BitVec 16)
  /-- R282: The BLOOP branch decrements LC and is taken while it is not zero. -/
  | bloop (i : SparAt) (off : BitVec 16)
  /-- R260: The BLOOPR branch acts as BLOOP and decrements RRB. -/
  | bloopr (i : SparAt) (off : BitVec 16)
  /-- R282: The JAL instruction saves the return address and jumps. -/
  | jal (i : SparAt) (rd : Fin 64) (off : BitVec 16)
  /-- R282: The JR instruction jumps to the address in a register. -/
  | jr (i : SparAt) (ra : Fin 64)
  /-- R294: The MFC instruction reads a control register. -/
  | mfc (i : SparAt) (rd : Fin 64) (num : BitVec 8)
  /-- R294: The MTC instruction writes a control register, including DMA starts and W1C clears. -/
  | mtc (i : SparAt) (ra : Fin 64) (num : BitVec 8)
  /-- R259: The MFS instruction copies a register of the other set. -/
  | mfs (i : SparAt) (rd : Fin 64) (ra : Fin 64)
  /-- R259: The MTS instruction copies a register into the other set. -/
  | mts (i : SparAt) (rd : Fin 64) (ra : Fin 64)
  /-- R279: The NOP instruction does nothing. -/
  | sparNop (i : SparAt)
  /-- R288: The DONE instruction signals done for the present tick, or ends a late tick. -/
  | done (i : SparAt)
  /-- R289: The WAITT instruction signals done if needed and waits for the next strobe. -/
  | waitt (i : SparAt)
  /-- R279: The WAITC instruction waits for the Halyard input cutoff of the present tick. -/
  | waitc (i : SparAt)
  /-- R284: The RETI instruction leaves the handler or enters the next pending vector. -/
  | reti (i : SparAt)
  /-- R296: The BRK instruction halts the engine in SERVICE with a debugger attached, otherwise acts as NOP. -/
  | brk (i : SparAt)
  /-- R264: The FENCE.IO instruction waits until every posted I/O write has arrived. -/
  | fenceIo (i : SparAt)
  /-- R293: An engine DMA transfer completes, sets DONE, clears BUSY and raises the DMA interrupt. -/
  | dmaComplete (e : Fin 38) (cyc : Nat)
  /-- R306: A write of COMMIT moves the staging set into the set in force at the slot's instant of effect. -/
  | pwmCommit (who : Option (Fin 38)) (n : Fin 24) (cyc : Nat)
  /-- R308: Committed compares take effect, moving unfired edges and recording the update delay. -/
  | pwmCommitEffect (n : Fin 24) (cyc : Nat)
  /-- R310: At a period boundary each pair's pulse is skipped, pulsed whole or pulsed under its residue and a new period takes effect. -/
  | pwmPeriodBoundary (n : Fin 24) (cyc : Nat)
  /-- R313: A write setting RUN starts the slot pulsing at the next period boundary, or is ignored. -/
  | pwmRunSet (who : Option (Fin 38)) (n : Fin 24) (cyc : Nat)
  /-- R313: A write clearing RUN drives the safe levels at once. -/
  | pwmRunClear (who : Option (Fin 38)) (n : Fin 24) (cyc : Nat)
  /-- R315: A mapped fault input low beyond its filter sets FLT_LATCH and forces the safe levels. -/
  | pwmFault (f : Fin 8) (cyc : Nat)
  /-- R316: A write of 1 to FLT_LATCH clears the latch when every mapped input is high. -/
  | fltLatchClear (n : Fin 24)
  /-- R325: The INPUT_BIND descriptor binds an analogue or sigma-delta input to an engine. -/
  | inputBind (d : Desc)
  /-- R329: A write of GO triggers the converter's sequence. -/
  | adcSoftwareTrigger (who : Option (Fin 38)) (c : Fin 32) (cyc : Nat)
  /-- R329: The converter's timer fires at its phase and period after the strobe and triggers the sequence. -/
  | adcTimerTrigger (c : Fin 32) (cyc : Nat)
  /-- R329: A PWM event, delayed by DELAY cycles, triggers the converter's sequence. -/
  | adcEventTrigger (c : Fin 32) (cyc : Nat)
  /-- R324: A conversion completes and its result and tag are written to the input's registers and sum. -/
  | adcResult (c : Fin 32) (code : Int) (cyc : Nat)
  /-- R331: A converter configuration write held under CFG_PEND takes effect when the running sequence ends. -/
  | adcCfgApply (c : Fin 32) (cyc : Nat)
  /-- R344: Every DIAG_PERIOD ticks the pair injects a check-DAC test conversion. -/
  | diagInjection (j : Fin 16) (cyc : Nat)
  /-- R334: A sigma-delta filter word becomes available with its value and tag. -/
  | sdiWord (i : Fin 48) (value : Int) (run : Nat) (cyc : Nat)
  /-- R335: A run of 1,024 identical bits sets STUCK and faults the sigma-delta channel. -/
  | sdiStuck (i : Fin 48) (cyc : Nat)
  /-- R342: A segment sum is published once its results are in, and INRDY may be raised. -/
  | segmentPublish (sdi : Bool) (k : Fin 96) (cyc : Nat)
  /-- R347: A write of 1 to DIAG_FAULT resumes the converter and opens the recovery windows of its inputs. -/
  | diagFaultClear (who : Option (Fin 38)) (c : Fin 32) (cyc : Nat)
  /-- R335: A write of 1 to STUCK clears it once the data line has toggled. -/
  | stuckClear (who : Option (Fin 38)) (i : Fin 48) (cyc : Nat)
  /-- R339: An input's 100 ms recovery window ends and RECOVERY clears. -/
  | recoveryWindowEnd (sdi : Bool) (k : Fin 96) (cyc : Nat)
  /-- R353: The FEEDBACK_BIND descriptor binds a feedback channel or latch input to an engine. -/
  | feedbackBind (d : Desc)
  /-- R362: Setting FBn_CTRL.EN starts the channel's speed measurement afresh. -/
  | fbEnable (who : Option (Fin 38)) (n : Fin 32) (cyc : Nat)
  /-- R380: Clearing FBn_CTRL.EN stops the channel, and is a channel fault while the channel is in use. -/
  | fbDisable (who : Option (Fin 38)) (n : Fin 32) (cyc : Nat)
  /-- R357: An accepted quadrature or Hall transition counts, updates the speed or records an illegal transition. -/
  | fbCount (n : Fin 32) (lines : Fin 8) (cyc : Nat)
  /-- R361: An accepted rising Z edge records ZPOS and ZTIME and increments ZCNT. -/
  | fbIndex (n : Fin 32) (cyc : Nat)
  /-- R365: No count for STILL_T sets STILL and the speed reads 0. -/
  | fbStill (n : Fin 32) (cyc : Nat)
  /-- R367: A count gate boundary gives the count speed and may change the measurement method. -/
  | fbGate (n : Fin 32) (cyc : Nat)
  /-- R372: A serial encoder read starts at the strobe or sub-tick, or the trigger is skipped. -/
  | serialReadStart (n : Fin 32) (cyc : Nat)
  /-- R373: A serial read ends and updates POS, or fails and counts towards ERR_LIM. -/
  | serialReadDone (n : Fin 32) (started : Bool) (raw : W64) (nE : Bool) (nW : Bool) (crc : Fin 64) (cyc : Nat)
  /-- R378: The resolver channel triggers its converters RES_PHASE after each excitation peak. -/
  | resolverTrigger (n : Fin 32) (cyc : Nat)
  /-- R380: A write of 1 to FAULT clears the channel fault and sets REF_LOST. -/
  | fbFaultClear (who : Option (Fin 38)) (n : Fin 32) (cyc : Nat)
  /-- R382: A selected edge on an armed latch input is time-stamped and opens a waiting record. -/
  | latchEdge (i : Fin 16) (rise : Bool) (taps : Fin 128) (cyc : Nat)
  /-- R386: A waiting latch record completes with its interpolated position and enters the FIFO. -/
  | latchRecord (i : Fin 16)
  /-- R384: No completing count within STILL_T completes the record with FRAC_VALID 0. -/
  | latchRecordTimeout (i : Fin 16) (cyc : Nat)
  /-- R382: A write of ARM arms a single-shot latch input. -/
  | latchArm (who : Option (Fin 38)) (i : Fin 16) (cyc : Nat)
  /-- R386: A write of POP removes the oldest latch record. -/
  | latchPop (who : Option (Fin 38)) (i : Fin 16) (cyc : Nat)
  /-- R386: A write of FLUSH removes every latch record, including a waiting one. -/
  | latchFlush (who : Option (Fin 38)) (i : Fin 16) (cyc : Nat)
  /-- R388: Every 1 ms in RUN each delay line is re-measured, and a failure raises LATCH_FAULT. -/
  | tdcRecalibration (i : Fin 16) (ok : Bool)
  /-- R409: CAPTURE_CTRL ARM clamps PRE and POST, reserves blocks and starts sampling. -/
  | captureArm (d : Desc)
  /-- R410: CAPTURE_CTRL STOP ends the running capture and hands it. -/
  | captureStop (d : Desc)
  /-- R410: CAPTURE_CTRL FORCE takes the present state's trigger at the first sample of the strobe. -/
  | captureForce (d : Desc)
  /-- R410: CAPTURE_CTRL DISARM discards the capture and returns the unit to IDLE. -/
  | captureDisarm (d : Desc)
  /-- R409: A unit waiting for blocks reserves ALLOC blocks at a strobe and starts sampling. -/
  | captureBlocksReserved (u : Fin 4)
  /-- R396: A unit takes a sample, evaluates its comparators and exits and stores or buffers the record. -/
  | captureSample (u : Fin 4) (full : Bool) (cyc : Nat)
  /-- R402: A sequencer state's timeout expires and the unit goes to TMO_NEXT with TMO_ACT. -/
  | sequencerTimeout (u : Fin 4) (full : Bool) (cyc : Nat)
  /-- R411: In MODE 1 the next capture begins after the dead time once blocks are reserved again. -/
  | captureRestart (u : Fin 4) (full : Bool) (cyc : Nat)
  /-- R414: CE copies a finished block or header into a capture ring once it has room. -/
  | captureRingWrite (m : Fin 4)
  /-- R422: A port's link goes up, down or changes speed, and nodes on a Halyard port may leave. -/
  | linkChange (p : Fin 2) (up : Bool) (speed : Fin 3)
  /-- R421: A received frame is classified and dropped frames are counted in RX_OTHER or RX_ERR. -/
  | rxFrame (p : Fin 2) (err : Bool)
  /-- R432: A received Sync gives an offset that steps the clock, feeds the servo or is refused. -/
  | sync (p : Fin 2) (m : PtpMsg) (egress : W64)
  /-- R430: A received Follow_Up completes its two-step Sync. -/
  | followUp (p : Fin 2) (m : PtpMsg) (residence : W64)
  /-- R427: A received PTP Announce updates the foreign masters for the BMCA. -/
  | ptpAnnounce (p : Fin 2) (a : PtpAnn)
  /-- R428: A received Delay_Req is answered as master or corrected as transparent clock. -/
  | delayReq (p : Fin 2) (m : PtpMsg) (egress : W64)
  /-- R435: A received Delay_Resp gives a path-delay measurement or starts a path hold. -/
  | delayResp (p : Fin 2) (m : PtpMsg)
  /-- R428: A received Pdelay_Req is answered with peer-delay responses. -/
  | pdelayReq (p : Fin 2) (m : PtpMsg) (egress : W64)
  /-- R435: A received Pdelay_Resp gives a peer path-delay measurement. -/
  | pdelayResp (p : Fin 2) (m : PtpMsg) (t : PeerTimes)
  /-- R426: A PTP message interval expires and the port sends Sync, Announce or a delay request. -/
  | ptpTransmit (p : Fin 2) (kind : Fin 3) (stamp : W64)
  /-- R430: No Announce within ANN_TMO intervals expires the master on the port. -/
  | announceReceiptTimeout (p : Fin 2)
  /-- R430: No Sync within SYNC_TMO intervals expires the master and may enter HOLDOVER. -/
  | syncReceiptTimeout (p : Fin 2)
  /-- R430: A delay request left 1 s without response counts in DELAY_MISSED. -/
  | delayRespTimeout (p : Fin 2)
  /-- R436: The path hold expires and the delay is adopted or the hold restarts. -/
  | pathHoldExpiry
  /-- R434: A step authorisation lapses after 2 s without a measured offset. -/
  | stepAuthLapse
  /-- R434: PTP_STEP with MODE 0 authorises the next offset to be applied as a step. -/
  | ptpStepAuthorise (d : Desc)
  /-- R457: PTP_STEP with MODE 1 steps the clock by AMOUNT in FREE or HOLDOVER. -/
  | ptpStep (d : Desc)
  /-- R438: The TIME_COMPARE descriptor adds a compare target to the pending list. -/
  | timeCompare (d : Desc)
  /-- R440: TIME_COMPARE with CANCEL removes every entry with its ID. -/
  | timeCompareCancel (d : Desc)
  /-- R439: An armed compare fires, raises TIME_COMPARE and returns with its period if set. -/
  | timeCompareFire (c : Fin 8) (cyc : Nat)
  /-- R441: The NET_SEND descriptor fetches a frame and queues it, timed or not. -/
  | netSend (d : Desc)
  /-- R441: A timed frame is launched at its time or late when the port is busy. -/
  | timedLaunch (k : Fin 8) (cyc : Nat)
  /-- R442: A transmitted frame's timestamp is written into its entry, which becomes ready. -/
  | txTimestamp (p : Fin 2) (stamp : W64)
  /-- R443: Reading PORTp_TXTS_ID returns the oldest ready entry and latches its time. -/
  | txtsIdRead (p : Fin 2)
  /-- R443: A write of POP frees the oldest ready timestamp entry. -/
  | txtsPop (p : Fin 2)
  /-- R457: The NET_REPORT descriptor writes the network report to host memory. -/
  | netReport (d : Desc)
  /-- R444: The NODE_CFG descriptor configures a node slot or removes it. -/
  | nodeCfg (d : Desc)
  /-- R455: The NODE_IO descriptor sets the output data of a host-owned node. -/
  | nodeIo (d : Desc)
  /-- R450: At the first strobe after each whole second NE sends DISCOVER on each Halyard port. -/
  | discover
  /-- R450: A received Halyard ANNOUNCE is matched to a node slot and checked for joining. -/
  | announce (p : Fin 2) (a : HalAnnounce)
  /-- R451: At the strobe after a passed match NE sends JOIN_REQ and the slot goes to INVITED. -/
  | joinReq (n : Fin 128)
  /-- R451: A received JOIN_ACK makes the slot JOINING and starts its partner watchdog. -/
  | joinAck (p : Fin 2) (mac : BitVec 48) (n : Fin 128)
  /-- R451: The join timer expires and the slot returns to SEEKING. -/
  | joinTimeout (n : Fin 128)
  /-- R448: A valid REPLY restarts the partner watchdog and supplies the node's actuals. -/
  | reply (p : Fin 2) (r : HalReply)
  /-- R452: A received LEAVE makes the node leave and its remote axes fault. -/
  | leave (p : Fin 2) (mac : BitVec 48)
  /-- R452: WD_FRAMES steps without a valid reply make the node leave with cause 0. -/
  | partnerWatchdog (n : Fin 128)
  /-- R470: A safety input channel takes a new filtered level and its pair state is re-read. -/
  | safetyInputChange (p : Fin 8) (b : Bool) (level : Bool)
  /-- R471: The discrepancy timer expires without the other channel following and the pair faults. -/
  | discrepancyTimeout (p : Fin 8)
  /-- R472: A test source switches off for a dark pulse and the channels are checked for missed or foreign pulses. -/
  | inputTestPulse (srcB : Bool) (dark : BitVec 16)
  /-- R473: A reset press held past 500 steps is rejected. -/
  | resetWindowExpiry (z : Fin 16)
  /-- R479: An SS1 or SS2 reaches T_DELAY + T_RAMP and removes torque or begins SOS. -/
  | stopComplete (k : Fin 32)
  /-- R480: T_REACT after an SLS onset the limit starts to be monitored. -/
  | slsReact (k : Fin 32)
  /-- R481: T_BRAKE after the zone's STO the SBC output pair switches off. -/
  | brakeDelay (k : Fin 32)
  /-- R483: A safety output channel runs its dark pulse and its readback is checked. -/
  | outputTestPulse (q : Fin 4) (x : DarkPulse)
  /-- R485: A safety output driver without refresh for 2 ms turns off. -/
  | fieldDriverTimeout (q : Fin 4) (b : Bool)
  /-- R487: A received TSE container is checked and accepted, ignored as a repeat or faults the connection. -/
  | tseMessage (c : Fin 127)
  /-- R488: The TSE watchdog expires without an acknowledgement and the connection faults. -/
  | tseWatchdog (c : Fin 127)
  /-- R489: Once the node is JOINED the Shroud starts the connection with SEQ 1 and START. -/
  | tseConnectionStart (c : Fin 127)
  /-- R490: SAFETY_SESSION with OPEN opens a safety session when the password is right. -/
  | safetySessionOpen (d : Desc)
  /-- R490: SAFETY_SESSION with OPEN 0 closes the session. -/
  | safetySessionClose (d : Desc)
  /-- R490: 600 s without a safety descriptor from its ring ends the session. -/
  | sessionTimeout
  /-- R491: The 60 s lockout after three wrong passwords ends. -/
  | lockoutEnd
  /-- R491: The SAFETY_PASSWORD descriptor sets a new password. -/
  | safetyPassword (d : Desc)
  /-- R492: The SAFETY_CONFIG descriptor fetches and checks a safety configuration and makes it pending. -/
  | safetyConfig (d : Desc)
  /-- R492: The SAFETY_CONFIRM descriptor with the matching CRC writes the pending configuration into force. -/
  | safetyConfirm (d : Desc)
  /-- R492: 60 s without confirmation discards the pending configuration. -/
  | confirmTimeout
  /-- R495: The SAFETY_DEMAND descriptor replaces the host demand bits of the instances. -/
  | safetyDemand (d : Desc)
  /-- R495: The DEVICE_STO bit of SAFETY_DEMAND brings every zone to STO. -/
  | deviceSto (d : Desc)
  /-- R495: SAFETY_REPORT 0 writes a copy of the SHR status block to host memory. -/
  | safetyReportStatus (d : Desc)
  /-- R493: SAFETY_REPORT 1 writes the change log to host memory. -/
  | safetyReportLog (d : Desc)
  /-- R496: Writing STO_CHECK pulses the enables of STO zones and checks their readback. -/
  | stoCheck (rsv : BitVec 30) (pulse : Bool)
  /-- R496: Writing PULSE_NOW runs a dark pulse on every on channel at the next Shroud tick. -/
  | pulseNow (rest : BitVec 31)
  /-- R498: VFLD below 18.0 V sets FLD_UV and raises FLD_SUPPLY. -/
  | fldUvSet (mv : BitVec 16) (cyc : Nat)
  /-- R498: VFLD above 18.0 V clears FLD_UV. -/
  | fldUvClear (mv : BitVec 16) (cyc : Nat)
  /-- R498: VFLD below 11.0 V switches every output off and latches FLD_OFF. -/
  | fldOff (mv : BitVec 16) (cyc : Nat)
  /-- R498: VFLD above 11.0 V with FLD_OFF set resumes input filtering. -/
  | inValid (mv : BitVec 16) (cyc : Nat)
  /-- R499: The FIELD_REENABLE descriptor clears FLD_OFF while VFLD lies above 18.0 V. -/
  | fieldReenable (d : Desc)
  /-- R508: The FIELD_OUT descriptor stores new commands of the masked outputs. -/
  | fieldOut (d : Desc)
  /-- R508: At the next strobe the field side switches the outputs to their commands. -/
  | fieldOutputUpdate (read : BitVec 16)
  /-- R503: A field input's counter reaches a bound and the input takes a new level. -/
  | fieldInput (j : Fin 32) (samples : List Bool) (cyc : Nat)
  /-- R503: A write changing FILT clamps the input counter to the new FILT. -/
  | inFiltWrite (m : Fin 8) (v : W32)
  /-- R505: An output enters current limit and OVERLOAD sets. -/
  | overload (q : Fin 16)
  /-- R505: An output in current limit reaches its thermal limit and turns off. -/
  | thermalOffPhase (q : Fin 16)
  /-- R505: An output in a thermal off phase cools and turns on again. -/
  | thermalOffEnd (q : Fin 16)
  /-- R506: An output commanded off reads above 11 V for 1 ms and EXT_HIGH sets. -/
  | extHigh (q : Fin 16)
  /-- R509: An output without refresh for 2 ms holds its last command and HOLD_SEEN sets. -/
  | holdSeen
  /-- R511: A coupler without a toggle for 1 ms is faulted and its channel holds. -/
  | fieldCpl (out : Bool) (ch : Fin 32) (cyc : Nat)
  /-- R511: The coupler toggle returns, the fault bit clears and the channel resumes. -/
  | couplerRestored (out : Bool) (ch : Fin 32)
  /-- R516: VMAIN below LOSS for 1 us is lost, the charger disconnects and VBACK takes over. -/
  | vmainLost (vmain : BitVec 16) (vback : BitVec 16) (cyc : Nat)
  /-- R516: VMAIN rising above RETURN starts or restarts its return qualification. -/
  | returnQualification (vmain : BitVec 16) (cyc : Nat)
  /-- R516: VMAIN above RETURN for RET_US is back and carries the module again. -/
  | vmainBack (vmain : BitVec 16) (vback : BitVec 16) (cyc : Nat)
  /-- R516: VBACK falls below or rises above 6.0 V, setting or clearing VBACK_ABSENT. -/
  | vbackAbsent (vback : BitVec 16) (cyc : Nat)
  /-- R519: The charger changes state, such as from CC to CV on reaching V_CHG. -/
  | chargeState (vback : BitVec 16) (mA : BitVec 16) (cyc : Nat)
  /-- R520: The bank thermistor is measured every 100 ms and the charger is held or resumed by the window. -/
  | bankTempMeasure (t : Int) (cyc : Nat)
  /-- R522: The charger runs in CC for CHG_TMO without reaching V_CHG and goes to FAULT. -/
  | chargeTimeout (cyc : Nat)
  /-- R522: CHARGE_CTRL with CLEAR takes the charger from FAULT to OFF. -/
  | chargeCtrl (d : Desc)
  /-- R525: A sensor is measured and checked against its limit, rate and plausibility. -/
  | tempMeasure (k : Fin 10) (t : Int) (cyc : Nat)
  /-- R532: The THERMAL_MEASURE descriptor measures the named sensors within 2 ms. -/
  | thermalMeasure (d : Desc)
  /-- R528: A die comparator at 135 C drives safe levels and STO low and the device goes to THERMAL_HOLD. -/
  | thermalTrip (src : BitVec 6) (cyc : Nat)
  /-- R529: Every die comparator releases at 110 C and the device leaves THERMAL_HOLD for STANDBY. -/
  | thermalRelease (src : BitVec 6) (cyc : Nat)
  /-- R539: The IMAGE_STORE descriptor fetches and checks an image and starts its store write. -/
  | imageStore (d : Desc)
  /-- R539: A store write ends with its read-back and IMAGE_STORED is raised. -/
  | imageStored (ok : Bool)
  /-- R546: The IMAGE_LOAD descriptor checks an image for the masked engines and reloads or stages it. -/
  | imageLoad (d : Desc)
  /-- R547: A reload finishes loading code and data and the engine restarts at the next strobe. -/
  | engineReload (e : Fin 34)
  /-- R548: Staging of the whole mask completes and the swap may be armed. -/
  | imageStaged (e : Fin 34)
  /-- R549: The IMAGE_SWAP descriptor arms the swap of a staged image. -/
  | imageSwap (d : Desc)
  /-- R552: IMAGE_SWAP with ROLLBACK swaps back to the previous image or ends probation in a rollback. -/
  | imageRollback (d : Desc)
  /-- R550: At the first strobe after a tick in which every masked engine signalled done all engines swap banks. -/
  | swapTakeEffect (e : Fin 34)
  /-- R549: No swap strobe within TRIES strobes abandons the swap. -/
  | swapAbandon (e : Fin 34)
  /-- R551: An overrun, exception, fault or mode decision during probation rolls the swap back at the next strobe. -/
  | swapRollback (e : Fin 34)
  /-- R551: Probation ends without rollback, SWAP_END is raised and the boot slots may be written. -/
  | probationEnd (e : Fin 34)
  /-- R551: A boot-slot write waiting for the flash-write window is made. -/
  | bootSlotWrite
  /-- R545: The IMAGE_OVERRIDE descriptor loads the failed images of a quarantined group and takes it to IDLE. -/
  | imageOverride (d : Desc)
  /-- R554: The ENGINE_PARAM descriptor writes words into an engine's parameter window. -/
  | engineParam (d : Desc)
  /-- R555: The IMAGE_KEY descriptor stores the integrator's public key. -/
  | imageKey (d : Desc)
  /-- R580: A write of KEY with ATTACH 1 attaches a debug path to the DBG block. -/
  | debugAttach (x : AttachBy)
  /-- R580: A write of ATTACH 0 detaches the path and resumes the halted engines. -/
  | debugDetach (jtag : Bool)
  /-- R580: A TAP reset detaches a JTAG owner of the debug block. -/
  | tapReset
  /-- R581: Writing HALT in DBG.ENGe_CTRL stops the engine at the next instruction boundary and sets HALT. -/
  | halt (jtag : Bool) (e : Fin 40)
  /-- R581: Writing RESUME continues a halted engine. -/
  | resume (jtag : Bool) (e : Fin 40)
  /-- R581: Writing STEP executes one instruction of a halted engine. -/
  | step (jtag : Bool) (e : Fin 40)
  /-- R581: Writing GO starts a 64-bit debug memory transfer. -/
  | memoryTransfer (jtag : Bool) (v : W32)
  /-- R581: A debug memory transfer completes within 1 us or sets ERR. -/
  | memoryTransferDone
  /-- R582: The JTAG BYPASS instruction selects the bypass register. -/
  | bypass
  /-- R582: The JTAG IDCODE instruction returns the revision's IDCODE. -/
  | idcode
  /-- R582: The JTAG SAMPLE/PRELOAD instruction samples the boundary register. -/
  | samplePreload (pads : List Bool) (drive : List Bool)
  /-- R582: The JTAG EXTEST instruction drives pads from the boundary register while STO_ALL reads 1. -/
  | extest
  /-- R582: The JTAG HIGHZ instruction floats the boundary pads while STO_ALL reads 1. -/
  | highz
  /-- R582: The JTAG CLAMP instruction holds the boundary pads while STO_ALL reads 1. -/
  | clamp
  /-- R8: Reading the low word of a 64-bit register latches its high word. -/
  | wideRegisterRead (r : RegAt)
  /-- R8: Writing the high word of a 64-bit register makes both words take effect. -/
  | wideRegisterWrite (a : BitVec 18) (v : W64)
  /-- R425: Reading PTP.TIME_LO latches TIME_HI and TIME_FRAC. -/
  | timeRead (word : Fin 3) (cyc : Nat)
  /-- R324: Reading an input's RES latches the TIME of the same result. -/
  | resRead (sdi : Bool) (k : Fin 96) (word : Fin 2)
  /-- R342: Reading SEG0_SUM latches SEG1_SUM, SEG_CNT and SEG_TIME of the same publication. -/
  | seg0SumRead (sdi : Bool) (k : Fin 96) (word : Fin 4)
  /-- R362: Reading FBn_POS latches POS_TIME and the speed of the same moment. -/
  | posRead (n : Fin 32) (word : Fin 4) (cyc : Nat)
  /-- R10: A write to a register without a row of its own acts by its access type. -/
  | registerWrite (p : RegPath) (a : BitVec 20) (v : W32) (cyc : Nat)
  /-- R62: A descriptor whose OPCODE is not defined has no effect, uses its credit and receives a completion with REJECTED_OPCODE. -/
  | rejectedOpcode (opcode : BitVec 16) (d : Desc)
  /-- R142: GROUP_CTRL with CMD 0x0, or a code that falls back to it, is applied with NO_EFFECT and reason 0x0B, setting CLAMPED for a
  fallback. -/
  | groupCtrlNoAction (d : Desc)
  /-- R406: CAPTURE_CTRL with a CMD that falls back to 0x0 is applied with no action. -/
  | captureCtrlNoAction (d : Desc)
  /-- R279: An instruction word whose encoding is undefined, or that uses a reserved field value, raises an illegal-instruction exception.
  -/
  | illegalInstruction (i : SparAt) (w : W32)
  /-- R305: The carrier reaches a compare and a pair's output edge fires, with dead time applied and an edge that would end an on-state
  early postponed for MIN_ON, setting MINON_EXT. -/
  | pwmEdge (n : Fin 24) (p : Fin 4) (rising : Bool) (cyc : Nat)
  /-- R312: A free slot with DBL 1 reaches mid-period, an update point at which the delay timer restarts, NO_UPD may count and the PWM mid-
  period event is raised. -/
  | pwmMidPeriod (n : Fin 24) (cyc : Nat)
  /-- R316: A fault input FLTf_n returns high, clearing FLT_ACTIVE and LEVEL so that FLT_LATCH can be cleared. -/
  | faultInputHigh (f : Fin 8) (cyc : Nat)
  /-- R105: The PLL regains lock within 1 ms after a loss, LOCK reads 1 again and no PLL reset follows. -/
  | pllLockRegained
deriving DecidableEq, Repr

end Sys2Proof
end

