-- ==== Sys2Proof/Decode.lean ====
section
/-!
DEFINITION. The commands that spec/opcode_table.json spells by bits. Every row of the table has an empty list of fields: the block takes
commands, and none of them is a word. A host's descriptor does have an encoding in host memory; `descFetch` reads it.
-/
namespace Sys2Proof

/-- Word `i` of a descriptor's 64 bytes, which stand with their first byte in bits [7:0] (R60). -/
def slotWord (slot : BitVec 512) (i : Nat) : W64 := slot.extractLsb' (64 * i) 64
/-- The opcode and the descriptor that a 64-byte submission slot of a ring holds (R60, Table 2.3). -/
def descFetch (ring : Fin 64) (slot : BitVec 512) : BitVec 16 × Desc :=
  let w0 := slotWord slot 0
  (w0.extractLsb' 0 16,
    { ring := ring, seq := w0.extractLsb' 48 16, tag := w0.extractLsb' 32 16, irq := w0.getLsbD 20
      len := ⟨(w0.extractLsb' 16 3).toNat, (w0.extractLsb' 16 3).isLt⟩
      rsv := w0.getLsbD 19 || w0.extractLsb' 21 11 != 0
      w1 := slotWord slot 1, w2 := slotWord slot 2, w3 := slotWord slot 3, w4 := slotWord slot 4
      w5 := slotWord slot 5, w6 := slotWord slot 6, w7 := slotWord slot 7 })

/-- The command that the low `nbits` bits of `w` spell: the table gives no row any bits. -/
def decodeTableWord (_nbits _w : Nat) : Option Instr := none

end Sys2Proof
end

