-- ==== Sys2Proof/Config.lean ====
section
/-!
DEFINITION. What the manual leaves open. Every constant here is opaque: it has no body, so nothing can evaluate it and a
claim about it holds whatever it is (notes/assumptions/9.md).
-/
namespace Sys2Proof

/-- The k-th free value: where the manual says a result is undefined or does not state it, the machine goes on with
this value. The model draws a new one each time (State.free counts them). -/
opaque Config.freeValue : Nat → BitVec 64

/-- The nearest integer to the numerator over the denominator, at an exact tie: whether it goes up. The manual does
not say how the fractions of its formulas are rounded. -/
opaque Config.roundUp : Int → Int → Bool

/-- SHA-256 of bytes, as 256 bits (R491, R538): the manual names the function and does not define it. -/
opaque Config.sha256 : List (BitVec 8) → BitVec 256
/-- Whether a signature over a digest verifies under a key (R538): key, digest, signature. -/
opaque Config.verifies : List (BitVec 8) → BitVec 256 → List (BitVec 8) → Bool

/-- Which of the integers within the error that R276 permits the sine and the cosine of an angle are. -/
opaque Config.sinCos : BitVec 32 → Nat × Nat
/-- Which of the integers within the error that R276 permits the angle of a vector is. -/
opaque Config.atan2 : BitVec 64 → BitVec 64 → Nat
/-- Which of the numbers within the error that R220 permits the exponential of an argument (numerator, denominator) is. -/
opaque Config.expSlack : Nat → Nat → Nat
/-- How many ticks identification takes in a state of Table 5.8 for one electrical turn, a run at constant speed, a current step, the
chirp (R203 gives typical durations of whole steps). -/
opaque Config.idTime : Nat → Nat
/-- The quotient of a division whose divisor is 0. -/
opaque Config.divZero : Int → Int
/-- Salt of a stored password: the manual says only that one is drawn. -/
opaque Config.salt : Nat → BitVec 128

/-- The Ephagon key held in the controller's ROM (R537). -/
opaque Config.romKey : List (BitVec 8)

end Sys2Proof
end

