-- ==== Sys2Proof/Machine/Bits.lean ====
section
/-!
DEFINITION. Bit fields, two's complement, saturation and byte order (spec/00_scope.md R4 to R7).
-/
namespace Sys2Proof.Machine

/-- The bits [hi:lo] of a number. -/
def nbits (x hi lo : Nat) : Nat := x / 2 ^ lo % 2 ^ (hi + 1 - lo)

/-- The bits [hi:lo] of a word, as a number. -/
def bits {w : Nat} (x : BitVec w) (hi lo : Nat) : Nat := nbits x.toNat hi lo

/-- Bit `i` of a word. -/
def bit {w : Nat} (x : BitVec w) (i : Nat) : Bool := x.getLsbD i

/-- The mask of the bits [hi:lo]. -/
def maskOf (hi lo : Nat) : W32 := BitVec.ofNat 32 ((2 ^ (hi + 1 - lo) - 1) * 2 ^ lo)

/-- A register with its bits [hi:lo] replaced. -/
def setBits (x : W32) (hi lo v : Nat) : W32 :=
  (x &&& ~~~(maskOf hi lo)) ||| (BitVec.ofNat 32 (v * 2 ^ lo) &&& maskOf hi lo)

/-- A number of `w` bits read as two's complement (R5). -/
def sx (w x : Nat) : Int :=
  let y := x % 2 ^ w
  if y < 2 ^ (w - 1) then (y : Int) else (y : Int) - (2 ^ w : Nat)

/-- An integer as `w` bits of two's complement, wrapping. -/
def wrapN (w : Nat) (x : Int) : Nat := (x % (2 ^ w : Nat)).toNat

/-- A word's signed bits [hi:lo]. -/
def sbits {w : Nat} (x : BitVec w) (hi lo : Nat) : Int := sx (hi + 1 - lo) (bits x hi lo)

/-- An integer held within bounds. -/
def clampI (lo hi x : Int) : Int := if x < lo then lo else if hi < x then hi else x
/-- A number held within bounds. -/
def clampN (lo hi x : Nat) : Nat := if x < lo then lo else if hi < x then hi else x

/-- Saturation to `w` signed bits. -/
def satI (w : Nat) (x : Int) : Int := clampI (-(2 ^ (w - 1) : Nat)) ((2 ^ (w - 1) : Nat) - 1) x
/-- Saturation to `w` unsigned bits. -/
def satN (w : Nat) (x : Nat) : Nat := if 2 ^ w ≤ x then 2 ^ w - 1 else x

/-- The signed difference `a - b` of two 32-bit counts (R57). -/
def cdiff (a b : W32) : Int := (a - b).toInt

/-- `n` little-endian bytes of a number (R7). -/
def leBytes : Nat → Nat → List Byte
  | 0, _ => []
  | n + 1, x => BitVec.ofNat 8 x :: leBytes n (x / 256)

/-- The number that little-endian bytes spell (R7). -/
def ofLe : List Byte → Nat
  | [] => 0
  | b :: r => b.toNat + 256 * ofLe r

/-- `n` bytes of a buffer from byte `o` on, as a number; bytes past its end count as 0. -/
def leAt (b : List Byte) (o n : Nat) : Nat := ofLe ((b.drop o).take n)

/-- One byte into a reflected CRC-32C (polynomial 0x1EDC_6F41, reflected 0x82F6_3B78). -/
def crcByte (crc : W32) (b : Byte) : W32 :=
  let step (c : W32) : W32 := if c.getLsbD 0 then (c >>> 1) ^^^ 0x82F63B78 else c >>> 1
  step (step (step (step (step (step (step (step (crc ^^^ b.setWidth 32))))))))
/-- CRC-32C of bytes from an initial value, final XOR 0xFFFF_FFFF (R486, R492, R538). -/
def crc32c (init : W32) (b : List Byte) : W32 := ~~~(b.foldl crcByte init)

/-- Floor division and nearest (ties up) division of integers by a positive number. -/
def fdiv (a b : Int) : Int := Int.fdiv a b
/-- The nearest integer to `a / b`, ties towards positive infinity. -/
def ndiv (a b : Int) : Int := Int.fdiv (2 * a + b) (2 * b)

/-- The integer square root, floor: bit by bit from bit `n` down. -/
def isqrtAux (x : Nat) : Nat → Nat → Nat
  | 0, r => r
  | n + 1, r =>
    let c := r + 2 ^ n
    isqrtAux x n (if c * c ≤ x then c else r)
/-- The floor of the square root of a number below 2^128. -/
def isqrt (x : Nat) : Nat := isqrtAux x 64 0

/-- The `n` numbers from 0 on. -/
def upto (n : Nat) : List Nat := List.range n

/-- Sorts a list by `le`, keeping the order of equals. -/
def insertBy {α : Type} (le : α → α → Bool) (x : α) : List α → List α
  | [] => [x]
  | y :: r => if le x y then x :: y :: r else y :: insertBy le x r
def sortBy {α : Type} (le : α → α → Bool) (l : List α) : List α := l.foldr (insertBy le) []

/-- Replaces entry `i` of a list. -/
def setAt {α : Type} (l : List α) (i : Nat) (v : α) : List α := l.set i v

/-- How many of a list satisfy a test. -/
def countIf {α : Type} (p : α → Bool) (l : List α) : Nat := (l.filter p).length

end Sys2Proof.Machine
end

