-- ==== Sys2Proof/Machine/RegMap.lean ====
section
/-!
DEFINITION. The BAR0 register map: for each register its address, its reset word and the access type of each field
(Table 0.3 of spec/00_scope.md R10; the register tables of R51, R87, R117, R320, R350, R389, R390, R418, R458, R459,
R496, R513, R533, R557 and R581). A register repeated by number has its address as a function of the number.
-/
namespace Sys2Proof.Machine

/-- A field of a register: address and bits [hi:lo]. -/
structure Fld where
  a : Nat
  hi : Nat
  lo : Nat
deriving DecidableEq, Repr

/-- A family of registers at `base + i * s1 + j * s2 + l * s3`, `i < n1`, `j < n2`, `l < n3`, with the masks of its
fields by access type: `rw` read and write, `w1c` write 1 to clear, `w1s` write 1 to set, `rwl` writable in a safety
session, `all` every defined bit. -/
structure RegGroup where
  base : Nat
  reset : Nat
  all : Nat
  rw : Nat
  w1c : Nat
  w1s : Nat
  rwl : Nat
  n1 : Nat := 1
  s1 : Nat := 0x40000
  n2 : Nat := 1
  s2 : Nat := 0x40000
  n3 : Nat := 1
  s3 : Nat := 0x40000
deriving DecidableEq, Repr

/-- Whether an address is a register of the family. -/
def RegGroup.has (g : RegGroup) (a : Nat) : Bool :=
  decide (g.base ≤ a) &&
    (let o := a - g.base
     let i := o / g.s1
     let r := o % g.s1
     let j := r / g.s2
     let q := r % g.s2
     decide (i < g.n1) && decide (j < g.n2) && decide (q / g.s3 < g.n3) && decide (q % g.s3 = 0))

/-! ## Addresses -/

/-- GLB.ID (spec/03 R117). -/
def A.glbId : Nat := 0x00000
/-- GLB.CAPS (spec/03 R117). -/
def A.glbCaps : Nat := 0x00004
/-- GLB.SERIAL_LO (spec/03 R117). -/
def A.glbSerialLo : Nat := 0x00008
/-- GLB.SERIAL_HI (spec/03 R117). -/
def A.glbSerialHi : Nat := 0x0000c
/-- GLB.STATUS (spec/03 R117). -/
def A.glbStatus : Nat := 0x00010
/-- GLB.MODE (spec/03 R117). -/
def A.glbMode : Nat := 0x00014
/-- GLB.MODE_TICK_LO (spec/03 R117). -/
def A.glbModeTickLo : Nat := 0x00018
/-- GLB.MODE_TICK_HI (spec/03 R117). -/
def A.glbModeTickHi : Nat := 0x0001c
/-- GLB.GRP_STATE (spec/03 R117). -/
def A.glbGrpState (n : Nat) : Nat := 0x00020 + 0x4 * n
/-- GLB.RESET_CTRL (spec/03 R117). -/
def A.glbResetCtrl : Nat := 0x00030
/-- GLB.RESET_CAUSE (spec/03 R117). -/
def A.glbResetCause : Nat := 0x00034
/-- GLB.BOOT_TIME (spec/03 R117). -/
def A.glbBootTime : Nat := 0x00038
/-- GLB.CAL_STATUS (spec/03 R117). -/
def A.glbCalStatus : Nat := 0x0003c
/-- GLB.LC (spec/03 R117). -/
def A.glbLc : Nat := 0x00040
/-- GLB.LC_CTRL (spec/03 R117). -/
def A.glbLcCtrl : Nat := 0x00044
/-- GLB.RESET_CFG (spec/03 R117). -/
def A.glbResetCfg : Nat := 0x00048
/-- HRI.INFO (spec/02 R87). -/
def A.hriInfo : Nat := 0x01000
/-- HRI.GRANT_SUM (spec/02 R87). -/
def A.hriGrantSum : Nat := 0x01004
/-- HRI.TICK_IRQ (spec/02 R87). -/
def A.hriTickIrq : Nat := 0x01008
/-- HRI.ATTN_LO (spec/02 R87). -/
def A.hriAttnLo : Nat := 0x01010
/-- HRI.ATTN_HI (spec/02 R87). -/
def A.hriAttnHi : Nat := 0x01014
/-- HRI.EVT_BASE_LO (spec/02 R87). -/
def A.hriEvtBaseLo : Nat := 0x01100
/-- HRI.EVT_BASE_HI (spec/02 R87). -/
def A.hriEvtBaseHi : Nat := 0x01104
/-- HRI.EVT_CFG (spec/02 R87). -/
def A.hriEvtCfg : Nat := 0x01108
/-- HRI.EVT_TAIL (spec/02 R87). -/
def A.hriEvtTail : Nat := 0x0110c
/-- HRI.EVT_LOST (spec/02 R87). -/
def A.hriEvtLost : Nat := 0x01110
/-- HRI.CR_BASE_LO (spec/02 R87). -/
def A.hriCrBaseLo (n : Nat) : Nat := 0x01200 + 0x20 * n
/-- HRI.CR_BASE_HI (spec/02 R87). -/
def A.hriCrBaseHi (n : Nat) : Nat := 0x01204 + 0x20 * n
/-- HRI.CR_CFG (spec/02 R87). -/
def A.hriCrCfg (n : Nat) : Nat := 0x01208 + 0x20 * n
/-- HRI.CR_TAIL (spec/02 R87). -/
def A.hriCrTail (n : Nat) : Nat := 0x0120c + 0x20 * n
/-- HRI.CR_HEAD (spec/02 R87). -/
def A.hriCrHead (n : Nat) : Nat := 0x01210 + 0x20 * n
/-- HRI.RING_SQ_BASE_LO (spec/02 R87). -/
def A.hriRingSqBaseLo (n : Nat) : Nat := 0x01400 + 0x30 * n
/-- HRI.RING_SQ_BASE_HI (spec/02 R87). -/
def A.hriRingSqBaseHi (n : Nat) : Nat := 0x01404 + 0x30 * n
/-- HRI.RING_CQ_BASE_LO (spec/02 R87). -/
def A.hriRingCqBaseLo (n : Nat) : Nat := 0x01408 + 0x30 * n
/-- HRI.RING_CQ_BASE_HI (spec/02 R87). -/
def A.hriRingCqBaseHi (n : Nat) : Nat := 0x0140c + 0x30 * n
/-- HRI.RING_CFG (spec/02 R87). -/
def A.hriRingCfg (n : Nat) : Nat := 0x01410 + 0x30 * n
/-- HRI.RING_WD (spec/02 R87). -/
def A.hriRingWd (n : Nat) : Nat := 0x01414 + 0x30 * n
/-- HRI.RING_WDGRP (spec/02 R87). -/
def A.hriRingWdgrp (n : Nat) : Nat := 0x01418 + 0x30 * n
/-- HRI.RING_STATUS (spec/02 R87). -/
def A.hriRingStatus (n : Nat) : Nat := 0x0141c + 0x30 * n
/-- HRI.RING_HEAD (spec/02 R87). -/
def A.hriRingHead (n : Nat) : Nat := 0x01420 + 0x30 * n
/-- HRI.RING_CREDIT (spec/02 R87). -/
def A.hriRingCredit (n : Nat) : Nat := 0x01424 + 0x30 * n
/-- HRI.RING_CLAMP_COUNT (spec/02 R87). -/
def A.hriRingClampCount (n : Nat) : Nat := 0x01428 + 0x30 * n
/-- HRI.RING_CQ_TAIL (spec/02 R87). -/
def A.hriRingCqTail (n : Nat) : Nat := 0x0142c + 0x30 * n
/-- CLK.PLL_STATUS (spec/01 R51). -/
def A.clkPllStatus : Nat := 0x02000
/-- CLK.FT_CTRL (spec/01 R51). -/
def A.clkFtCtrl : Nat := 0x02004
/-- CLK.FT_STATUS (spec/01 R51). -/
def A.clkFtStatus : Nat := 0x02008
/-- CLK.HAL_CUT (spec/01 R51). -/
def A.clkHalCut : Nat := 0x0200c
/-- CLK.HAL_CUT_ACT (spec/01 R51). -/
def A.clkHalCutAct : Nat := 0x02010
/-- CLK.TICK_LO (spec/01 R51). -/
def A.clkTickLo : Nat := 0x02018
/-- CLK.TICK_HI (spec/01 R51). -/
def A.clkTickHi : Nat := 0x0201c
/-- CLK.SUB_SEL0 (spec/01 R51). -/
def A.clkSubSel0 : Nat := 0x02020
/-- CLK.SUB_SEL1 (spec/01 R51). -/
def A.clkSubSel1 : Nat := 0x02024
/-- CLK.ENG_STAT (spec/01 R51). -/
def A.clkEngStat (n : Nat) : Nat := 0x02100 + 0x4 * n
/-- PWT.SUP_STATUS (spec/15 R533). -/
def A.pwtSupStatus : Nat := 0x03000
/-- PWT.VMAIN_TH (spec/15 R533). -/
def A.pwtVmainTh : Nat := 0x03004
/-- PWT.VMAIN_RET (spec/15 R533). -/
def A.pwtVmainRet : Nat := 0x03008
/-- PWT.VOLTS (spec/15 R533). -/
def A.pwtVolts : Nat := 0x0300c
/-- PWT.POWER (spec/15 R533). -/
def A.pwtPower : Nat := 0x03010
/-- PWT.BANK_CFG (spec/15 R533). -/
def A.pwtBankCfg : Nat := 0x03020
/-- PWT.BANK_V (spec/15 R533). -/
def A.pwtBankV : Nat := 0x03024
/-- PWT.BANK_C (spec/15 R533). -/
def A.pwtBankC : Nat := 0x03028
/-- PWT.BANK_P (spec/15 R533). -/
def A.pwtBankP : Nat := 0x0302c
/-- PWT.BANK_STATUS (spec/15 R533). -/
def A.pwtBankStatus : Nat := 0x03030
/-- PWT.HOLD_AVAIL (spec/15 R533). -/
def A.pwtHoldAvail : Nat := 0x03034
/-- PWT.HOLD_NEED (spec/15 R533). -/
def A.pwtHoldNeed : Nat := 0x03038
/-- PWT.TS_READ (spec/15 R533). -/
def A.pwtTsRead (n : Nat) : Nat := 0x03100 + 0x10 * n
/-- PWT.TS_LIM (spec/15 R533). -/
def A.pwtTsLim (n : Nat) : Nat := 0x03104 + 0x10 * n
/-- PWT.NTC_LIM (spec/15 R533). -/
def A.pwtNtcLim (n : Nat) : Nat := 0x03164 + 0x10 * n
/-- PWT.TS_MEAS (spec/15 R533). -/
def A.pwtTsMeas (n : Nat) : Nat := 0x03108 + 0x10 * n
/-- PWT.NTC_MEAS (spec/15 R533). -/
def A.pwtNtcMeas (n : Nat) : Nat := 0x03168 + 0x10 * n
/-- PWT.TS_STATUS (spec/15 R533). -/
def A.pwtTsStatus (n : Nat) : Nat := 0x0310c + 0x10 * n
/-- PWT.THERM_STATUS (spec/15 R533). -/
def A.pwtThermStatus : Nat := 0x03200
/-- IMG.INFO (spec/16 R557). -/
def A.imgInfo : Nat := 0x04000
/-- IMG.STATUS (spec/16 R557). -/
def A.imgStatus : Nat := 0x04004
/-- IMG.SWAP_CFG (spec/16 R557). -/
def A.imgSwapCfg : Nat := 0x04008
/-- IMG.ENG (spec/16 R557). -/
def A.imgEng (n : Nat) : Nat := 0x04100 + 0x4 * n
/-- IMG.SLOT (spec/16 R557). -/
def A.imgSlot (n : Nat) : Nat := 0x04400 + 0x10 * n
/-- IMG.SLOT_VERSION (spec/16 R557). -/
def A.imgSlotVersion (n : Nat) : Nat := 0x04404 + 0x10 * n
/-- IMG.SLOT_EPOCH (spec/16 R557). -/
def A.imgSlotEpoch (n : Nat) : Nat := 0x04408 + 0x10 * n
/-- IMG.SLOT_SHASH (spec/16 R557). -/
def A.imgSlotShash (n : Nat) : Nat := 0x0440c + 0x10 * n
/-- IMG.PAIR (spec/16 R557). -/
def A.imgPair (n : Nat) : Nat := 0x04800 + 0x8 * n
/-- IMG.PAIR_EPOCH (spec/16 R557). -/
def A.imgPairEpoch (n : Nat) : Nat := 0x04804 + 0x8 * n
/-- PWM.SLOT_CFG (spec/08 R320). -/
def A.pwmSlotCfg (n : Nat) : Nat := 0x08000 + 0x100 * n
/-- PWM.SLOT_CTRL (spec/08 R320). -/
def A.pwmSlotCtrl (n : Nat) : Nat := 0x08004 + 0x100 * n
/-- PWM.SLOT_PAIR_CFG (spec/08 R320). -/
def A.pwmSlotPairCfg (n : Nat) : Nat := 0x08008 + 0x100 * n
/-- PWM.SLOT_TIMING (spec/08 R320). -/
def A.pwmSlotTiming (n : Nat) : Nat := 0x0800c + 0x100 * n
/-- PWM.SLOT_PER (spec/08 R320). -/
def A.pwmSlotPer (n : Nat) : Nat := 0x08010 + 0x100 * n
/-- PWM.SLOT_PER_ACT (spec/08 R320). -/
def A.pwmSlotPerAct (n : Nat) : Nat := 0x08014 + 0x100 * n
/-- PWM.SLOT_CMPA (spec/08 R320). -/
def A.pwmSlotCmpa (n : Nat) (p : Nat) : Nat := 0x08020 + 0x100 * n + 0x8 * p
/-- PWM.SLOT_CMPB (spec/08 R320). -/
def A.pwmSlotCmpb (n : Nat) (p : Nat) : Nat := 0x08024 + 0x100 * n + 0x8 * p
/-- PWM.SLOT_COMMIT (spec/08 R320). -/
def A.pwmSlotCommit (n : Nat) : Nat := 0x08040 + 0x100 * n
/-- PWM.SLOT_STATUS (spec/08 R320). -/
def A.pwmSlotStatus (n : Nat) : Nat := 0x08044 + 0x100 * n
/-- PWM.SLOT_DLY_TIMER (spec/08 R320). -/
def A.pwmSlotDlyTimer (n : Nat) : Nat := 0x08048 + 0x100 * n
/-- PWM.SLOT_DLY_LAST (spec/08 R320). -/
def A.pwmSlotDlyLast (n : Nat) : Nat := 0x0804c + 0x100 * n
/-- PWM.SLOT_COUNTS (spec/08 R320). -/
def A.pwmSlotCounts (n : Nat) : Nat := 0x08050 + 0x100 * n
/-- PWM.SLOT_SKIP_COUNT (spec/08 R320). -/
def A.pwmSlotSkipCount (n : Nat) : Nat := 0x08054 + 0x100 * n
/-- PWM.SLOT_RESIDUE (spec/08 R320). -/
def A.pwmSlotResidue (n : Nat) (p : Nat) : Nat := 0x08058 + 0x100 * n + 0x4 * p
/-- PWM.SLOT_CMPA_ACT (spec/08 R320). -/
def A.pwmSlotCmpaAct (n : Nat) (p : Nat) : Nat := 0x08080 + 0x100 * n + 0x8 * p
/-- PWM.SLOT_CMPB_ACT (spec/08 R320). -/
def A.pwmSlotCmpbAct (n : Nat) (p : Nat) : Nat := 0x08084 + 0x100 * n + 0x8 * p
/-- PWM.FLT_CFG (spec/08 R320). -/
def A.pwmFltCfg : Nat := 0x09800
/-- PWM.FLT_STATE (spec/08 R320). -/
def A.pwmFltState : Nat := 0x09804
/-- PWM.INFO (spec/08 R320). -/
def A.pwmInfo : Nat := 0x09808
/-- ADC.CONV_CFG (spec/09 R350). -/
def A.adcConvCfg (n : Nat) : Nat := 0x0a000 + 0x20 * n
/-- ADC.CONV_SEQ (spec/09 R350). -/
def A.adcConvSeq (n : Nat) (p : Nat) : Nat := 0x0a004 + 0x20 * n + 0x4 * p
/-- ADC.CONV_TRIG (spec/09 R350). -/
def A.adcConvTrig (n : Nat) : Nat := 0x0a00c + 0x20 * n
/-- ADC.CONV_TIMER (spec/09 R350). -/
def A.adcConvTimer (n : Nat) : Nat := 0x0a010 + 0x20 * n
/-- ADC.CONV_SWTRIG (spec/09 R350). -/
def A.adcConvSwtrig (n : Nat) : Nat := 0x0a014 + 0x20 * n
/-- ADC.CONV_STATUS (spec/09 R350). -/
def A.adcConvStatus (n : Nat) : Nat := 0x0a018 + 0x20 * n
/-- ADC.CONV_COUNTS (spec/09 R350). -/
def A.adcConvCounts (n : Nat) : Nat := 0x0a01c + 0x20 * n
/-- ADC.PAIR_CFG (spec/09 R350). -/
def A.adcPairCfg (n : Nat) : Nat := 0x0a400 + 0x20 * n
/-- ADC.PAIR_DAC (spec/09 R350). -/
def A.adcPairDac (n : Nat) : Nat := 0x0a404 + 0x20 * n
/-- ADC.PAIR_STATUS (spec/09 R350). -/
def A.adcPairStatus (n : Nat) : Nat := 0x0a408 + 0x20 * n
/-- ADC.PAIR_CAL0 (spec/09 R350). -/
def A.adcPairCal0 (n : Nat) : Nat := 0x0a40c + 0x20 * n
/-- ADC.PAIR_CAL1 (spec/09 R350). -/
def A.adcPairCal1 (n : Nat) : Nat := 0x0a410 + 0x20 * n
/-- ADC.AIN_RES (spec/09 R350). -/
def A.adcAinRes (n : Nat) : Nat := 0x0a600 + 0x20 * n
/-- ADC.AIN_TIME (spec/09 R350). -/
def A.adcAinTime (n : Nat) : Nat := 0x0a604 + 0x20 * n
/-- ADC.AIN_SEG0_SUM (spec/09 R350). -/
def A.adcAinSeg0Sum (n : Nat) : Nat := 0x0a608 + 0x20 * n
/-- ADC.AIN_SEG1_SUM (spec/09 R350). -/
def A.adcAinSeg1Sum (n : Nat) : Nat := 0x0a60c + 0x20 * n
/-- ADC.AIN_SEG_CNT (spec/09 R350). -/
def A.adcAinSegCnt (n : Nat) : Nat := 0x0a610 + 0x20 * n
/-- ADC.AIN_SEG_TIME (spec/09 R350). -/
def A.adcAinSegTime (n : Nat) : Nat := 0x0a614 + 0x20 * n
/-- ADC.AIN_STATUS (spec/09 R350). -/
def A.adcAinStatus (n : Nat) : Nat := 0x0a618 + 0x20 * n
/-- ADC.SDI_RES (spec/09 R350). -/
def A.adcSdiRes (n : Nat) : Nat := 0x0b200 + 0x20 * n
/-- ADC.SDI_TIME (spec/09 R350). -/
def A.adcSdiTime (n : Nat) : Nat := 0x0b204 + 0x20 * n
/-- ADC.SDI_SEG0_SUM (spec/09 R350). -/
def A.adcSdiSeg0Sum (n : Nat) : Nat := 0x0b208 + 0x20 * n
/-- ADC.SDI_SEG1_SUM (spec/09 R350). -/
def A.adcSdiSeg1Sum (n : Nat) : Nat := 0x0b20c + 0x20 * n
/-- ADC.SDI_SEG_CNT (spec/09 R350). -/
def A.adcSdiSegCnt (n : Nat) : Nat := 0x0b210 + 0x20 * n
/-- ADC.SDI_SEG_TIME (spec/09 R350). -/
def A.adcSdiSegTime (n : Nat) : Nat := 0x0b214 + 0x20 * n
/-- ADC.SDI_STATUS (spec/09 R350). -/
def A.adcSdiStatus (n : Nat) : Nat := 0x0b218 + 0x20 * n
/-- ADC.SDI_CFG (spec/09 R350). -/
def A.adcSdiCfg (n : Nat) : Nat := 0x0b21c + 0x20 * n
/-- ADC.INFO (spec/09 R350). -/
def A.adcInfo : Nat := 0x0bf00
/-- ADC.SDCLK_CFG (spec/09 R350). -/
def A.adcSdclkCfg : Nat := 0x0bf04
/-- ADC.INRDY_MAX (spec/09 R350). -/
def A.adcInrdyMax : Nat := 0x0bf08
/-- ADC.GATE (spec/09 R350). -/
def A.adcGate (n : Nat) : Nat := 0x0bf40 + 0x4 * n
/-- FBK.FB_CFG (spec/10 R389). -/
def A.fbkFbCfg (n : Nat) : Nat := 0x0c000 + 0x80 * n
/-- FBK.FB_SPD (spec/10 R389). -/
def A.fbkFbSpd (n : Nat) : Nat := 0x0c004 + 0x80 * n
/-- FBK.FB_SPD_MC (spec/10 R389). -/
def A.fbkFbSpdMc (n : Nat) : Nat := 0x0c008 + 0x80 * n
/-- FBK.FB_SER (spec/10 R389). -/
def A.fbkFbSer (n : Nat) : Nat := 0x0c00c + 0x80 * n
/-- FBK.FB_SER2 (spec/10 R389). -/
def A.fbkFbSer2 (n : Nat) : Nat := 0x0c010 + 0x80 * n
/-- FBK.FB_ANA (spec/10 R389). -/
def A.fbkFbAna (n : Nat) : Nat := 0x0c014 + 0x80 * n
/-- FBK.FB_ANA2 (spec/10 R389). -/
def A.fbkFbAna2 (n : Nat) : Nat := 0x0c018 + 0x80 * n
/-- FBK.FB_CTRL (spec/10 R389). -/
def A.fbkFbCtrl (n : Nat) : Nat := 0x0c01c + 0x80 * n
/-- FBK.FB_POS (spec/10 R389). -/
def A.fbkFbPos (n : Nat) : Nat := 0x0c020 + 0x80 * n
/-- FBK.FB_POS_TIME (spec/10 R389). -/
def A.fbkFbPosTime (n : Nat) : Nat := 0x0c024 + 0x80 * n
/-- FBK.FB_SPEED_LO (spec/10 R389). -/
def A.fbkFbSpeedLo (n : Nat) : Nat := 0x0c028 + 0x80 * n
/-- FBK.FB_SPEED_HI (spec/10 R389). -/
def A.fbkFbSpeedHi (n : Nat) : Nat := 0x0c02c + 0x80 * n
/-- FBK.FB_SNAP_POS (spec/10 R389). -/
def A.fbkFbSnapPos (n : Nat) : Nat := 0x0c030 + 0x80 * n
/-- FBK.FB_SNAP_SPEED_LO (spec/10 R389). -/
def A.fbkFbSnapSpeedLo (n : Nat) : Nat := 0x0c038 + 0x80 * n
/-- FBK.FB_SNAP_SPEED_HI (spec/10 R389). -/
def A.fbkFbSnapSpeedHi (n : Nat) : Nat := 0x0c03c + 0x80 * n
/-- FBK.FB_ZPOS (spec/10 R389). -/
def A.fbkFbZpos (n : Nat) : Nat := 0x0c040 + 0x80 * n
/-- FBK.FB_ZTIME (spec/10 R389). -/
def A.fbkFbZtime (n : Nat) : Nat := 0x0c044 + 0x80 * n
/-- FBK.FB_ABS_LO (spec/10 R389). -/
def A.fbkFbAbsLo (n : Nat) : Nat := 0x0c048 + 0x80 * n
/-- FBK.FB_ABS_HI (spec/10 R389). -/
def A.fbkFbAbsHi (n : Nat) : Nat := 0x0c04c + 0x80 * n
/-- FBK.FB_STATUS (spec/10 R389). -/
def A.fbkFbStatus (n : Nat) : Nat := 0x0c050 + 0x80 * n
/-- FBK.FB_ERRS (spec/10 R389). -/
def A.fbkFbErrs (n : Nat) : Nat := 0x0c054 + 0x80 * n
/-- FBK.FB_ZCNT (spec/10 R389). -/
def A.fbkFbZcnt (n : Nat) : Nat := 0x0c058 + 0x80 * n
/-- LAT.LAT_CFG (spec/10 R390). -/
def A.latLatCfg (n : Nat) : Nat := 0x0e000 + 0x40 * n
/-- LAT.LAT_WIN_CENTER (spec/10 R390). -/
def A.latLatWinCenter (n : Nat) : Nat := 0x0e004 + 0x40 * n
/-- LAT.LAT_WIN_HALF (spec/10 R390). -/
def A.latLatWinHalf (n : Nat) : Nat := 0x0e008 + 0x40 * n
/-- LAT.LAT_CTRL (spec/10 R390). -/
def A.latLatCtrl (n : Nat) : Nat := 0x0e00c + 0x40 * n
/-- LAT.LAT_REC_TIME_LO (spec/10 R390). -/
def A.latLatRecTimeLo (n : Nat) : Nat := 0x0e010 + 0x40 * n
/-- LAT.LAT_REC_TIME_HI (spec/10 R390). -/
def A.latLatRecTimeHi (n : Nat) : Nat := 0x0e014 + 0x40 * n
/-- LAT.LAT_REC_TFRAC (spec/10 R390). -/
def A.latLatRecTfrac (n : Nat) : Nat := 0x0e018 + 0x40 * n
/-- LAT.LAT_REC_POS (spec/10 R390). -/
def A.latLatRecPos (n : Nat) : Nat := 0x0e01c + 0x40 * n
/-- LAT.LAT_REC_INFO (spec/10 R390). -/
def A.latLatRecInfo (n : Nat) : Nat := 0x0e020 + 0x40 * n
/-- LAT.LAT_STATUS (spec/10 R390). -/
def A.latLatStatus (n : Nat) : Nat := 0x0e024 + 0x40 * n
/-- LAT.LAT_COUNTS (spec/10 R390). -/
def A.latLatCounts (n : Nat) : Nat := 0x0e028 + 0x40 * n
/-- CAP.CU_CFG (spec/11 R418). -/
def A.capCuCfg (n : Nat) : Nat := 0x10000 + 0x400 * n
/-- CAP.CU_CLK (spec/11 R418). -/
def A.capCuClk (n : Nat) : Nat := 0x10004 + 0x400 * n
/-- CAP.CU_CLK_SRC (spec/11 R418). -/
def A.capCuClkSrc (n : Nat) : Nat := 0x10008 + 0x400 * n
/-- CAP.CU_ALLOC (spec/11 R418). -/
def A.capCuAlloc (n : Nat) : Nat := 0x1000c + 0x400 * n
/-- CAP.CU_STATUS (spec/11 R418). -/
def A.capCuStatus (n : Nat) : Nat := 0x10010 + 0x400 * n
/-- CAP.CU_CAPNO (spec/11 R418). -/
def A.capCuCapno (n : Nat) : Nat := 0x10014 + 0x400 * n
/-- CAP.CU_DEAD_LAST (spec/11 R418). -/
def A.capCuDeadLast (n : Nat) : Nat := 0x10018 + 0x400 * n
/-- CAP.CU_HELD (spec/11 R418). -/
def A.capCuHeld (n : Nat) : Nat := 0x1001c + 0x400 * n
/-- CAP.CU_SRC (spec/11 R418). -/
def A.capCuSrc (n : Nat) (p : Nat) : Nat := 0x10040 + 0x400 * n + 0x4 * p
/-- CAP.CU_CMP_CFG (spec/11 R418). -/
def A.capCuCmpCfg (n : Nat) (p : Nat) : Nat := 0x10080 + 0x400 * n + 0x10 * p
/-- CAP.CU_CMP_A (spec/11 R418). -/
def A.capCuCmpA (n : Nat) (p : Nat) : Nat := 0x10084 + 0x400 * n + 0x10 * p
/-- CAP.CU_CMP_B (spec/11 R418). -/
def A.capCuCmpB (n : Nat) (p : Nat) : Nat := 0x10088 + 0x400 * n + 0x10 * p
/-- CAP.CU_ST_TMO (spec/11 R418). -/
def A.capCuStTmo (n : Nat) (p : Nat) : Nat := 0x10100 + 0x400 * n + 0x20 * p
/-- CAP.CU_ST_TMO_EXIT (spec/11 R418). -/
def A.capCuStTmoExit (n : Nat) (p : Nat) : Nat := 0x10104 + 0x400 * n + 0x20 * p
/-- CAP.CU_ST_EXIT (spec/11 R418). -/
def A.capCuStExit (n : Nat) (p : Nat) (x : Nat) : Nat := 0x10108 + 0x400 * n + 0x20 * p + 0x4 * x
/-- CAP.INFO (spec/11 R418). -/
def A.capInfo : Nat := 0x11000
/-- CAP.FREE (spec/11 R418). -/
def A.capFree : Nat := 0x11004
/-- CAP.CR_DATA_LO (spec/11 R418). -/
def A.capCrDataLo (n : Nat) : Nat := 0x11010 + 0x10 * n
/-- CAP.CR_DATA_HI (spec/11 R418). -/
def A.capCrDataHi (n : Nat) : Nat := 0x11014 + 0x10 * n
/-- CAP.CR_STATUS (spec/11 R418). -/
def A.capCrStatus (n : Nat) : Nat := 0x11018 + 0x10 * n
/-- NET.INFO (spec/12 R458). -/
def A.netInfo : Nat := 0x12000
/-- NET.HAL_CFG (spec/12 R458). -/
def A.netHalCfg : Nat := 0x12004
/-- NET.HAL_APPLY (spec/12 R458). -/
def A.netHalApply : Nat := 0x12008
/-- NET.HAL_SAMPLE (spec/12 R458). -/
def A.netHalSample : Nat := 0x1200c
/-- NET.HAL_LOAD (spec/12 R458). -/
def A.netHalLoad : Nat := 0x12010
/-- NET.NODE_STATE (spec/12 R458). -/
def A.netNodeState (n : Nat) : Nat := 0x12040 + 0x4 * n
/-- NET.PORT_CFG (spec/12 R458). -/
def A.netPortCfg (n : Nat) : Nat := 0x12100 + 0x80 * n
/-- NET.PORT_STATUS (spec/12 R458). -/
def A.netPortStatus (n : Nat) : Nat := 0x12104 + 0x80 * n
/-- NET.PORT_MAC_LO (spec/12 R458). -/
def A.netPortMacLo (n : Nat) : Nat := 0x12108 + 0x80 * n
/-- NET.PORT_MAC_HI (spec/12 R458). -/
def A.netPortMacHi (n : Nat) : Nat := 0x1210c + 0x80 * n
/-- NET.PORT_IP (spec/12 R458). -/
def A.netPortIp (n : Nat) : Nat := 0x12110 + 0x80 * n
/-- NET.PORT_LAT_TRIM (spec/12 R458). -/
def A.netPortLatTrim (n : Nat) : Nat := 0x12114 + 0x80 * n
/-- NET.PORT_RX_HAL (spec/12 R458). -/
def A.netPortRxHal (n : Nat) : Nat := 0x12118 + 0x80 * n
/-- NET.PORT_RX_PTP (spec/12 R458). -/
def A.netPortRxPtp (n : Nat) : Nat := 0x1211c + 0x80 * n
/-- NET.PORT_RX_OTHER (spec/12 R458). -/
def A.netPortRxOther (n : Nat) : Nat := 0x12120 + 0x80 * n
/-- NET.PORT_RX_ERR (spec/12 R458). -/
def A.netPortRxErr (n : Nat) : Nat := 0x12124 + 0x80 * n
/-- NET.PORT_TX_FRAMES (spec/12 R458). -/
def A.netPortTxFrames (n : Nat) : Nat := 0x12128 + 0x80 * n
/-- NET.PORT_LATE (spec/12 R458). -/
def A.netPortLate (n : Nat) : Nat := 0x1212c + 0x80 * n
/-- PTP.TIME_LO (spec/12 R459). -/
def A.ptpTimeLo : Nat := 0x14000
/-- PTP.TIME_HI (spec/12 R459). -/
def A.ptpTimeHi : Nat := 0x14004
/-- PTP.TIME_FRAC (spec/12 R459). -/
def A.ptpTimeFrac : Nat := 0x14008
/-- PTP.INCR_FRAC (spec/12 R459). -/
def A.ptpIncrFrac : Nat := 0x1400c
/-- PTP.INCR_INT (spec/12 R459). -/
def A.ptpIncrInt : Nat := 0x14010
/-- PTP.CFG (spec/12 R459). -/
def A.ptpCfg : Nat := 0x14014
/-- PTP.CFG2 (spec/12 R459). -/
def A.ptpCfg2 : Nat := 0x14018
/-- PTP.SERVO (spec/12 R459). -/
def A.ptpServo : Nat := 0x1401c
/-- PTP.RATE_MAX (spec/12 R459). -/
def A.ptpRateMax : Nat := 0x14020
/-- PTP.STEP_LIMIT (spec/12 R459). -/
def A.ptpStepLimit : Nat := 0x14024
/-- PTP.PATH (spec/12 R459). -/
def A.ptpPath : Nat := 0x14028
/-- PTP.LOCK_THRESH (spec/12 R459). -/
def A.ptpLockThresh : Nat := 0x1402c
/-- PTP.STATUS (spec/12 R459). -/
def A.ptpStatus : Nat := 0x14030
/-- PTP.OFFSET (spec/12 R459). -/
def A.ptpOffset : Nat := 0x14034
/-- PTP.PATH_DELAY (spec/12 R459). -/
def A.ptpPathDelay : Nat := 0x14038
/-- PTP.RATE (spec/12 R459). -/
def A.ptpRate : Nat := 0x1403c
/-- PTP.ASYM_BOUND (spec/12 R459). -/
def A.ptpAsymBound : Nat := 0x14040
/-- PTP.MASTER_ID_LO (spec/12 R459). -/
def A.ptpMasterIdLo : Nat := 0x14044
/-- PTP.MASTER_ID_HI (spec/12 R459). -/
def A.ptpMasterIdHi : Nat := 0x14048
/-- PTP.CMP_STATUS (spec/12 R459). -/
def A.ptpCmpStatus : Nat := 0x1404c
/-- PTP.PORT_CFG (spec/12 R459). -/
def A.ptpPortCfg (n : Nat) : Nat := 0x14100 + 0x80 * n
/-- PTP.PORT_STATE (spec/12 R459). -/
def A.ptpPortState (n : Nat) : Nat := 0x14104 + 0x80 * n
/-- PTP.PORT_TXTS_STATUS (spec/12 R459). -/
def A.ptpPortTxtsStatus (n : Nat) : Nat := 0x14108 + 0x80 * n
/-- PTP.PORT_TXTS_ID (spec/12 R459). -/
def A.ptpPortTxtsId (n : Nat) : Nat := 0x1410c + 0x80 * n
/-- PTP.PORT_TXTS_TIME_LO (spec/12 R459). -/
def A.ptpPortTxtsTimeLo (n : Nat) : Nat := 0x14110 + 0x80 * n
/-- PTP.PORT_TXTS_TIME_HI (spec/12 R459). -/
def A.ptpPortTxtsTimeHi (n : Nat) : Nat := 0x14114 + 0x80 * n
/-- PTP.PORT_TXTS_FRAC (spec/12 R459). -/
def A.ptpPortTxtsFrac (n : Nat) : Nat := 0x14118 + 0x80 * n
/-- PTP.PORT_TXTS_POP (spec/12 R459). -/
def A.ptpPortTxtsPop (n : Nat) : Nat := 0x1411c + 0x80 * n
/-- DIO.INFO (spec/14 R513). -/
def A.dioInfo : Nat := 0x16000
/-- DIO.IN_TYPE (spec/14 R513). -/
def A.dioInType : Nat := 0x16004
/-- DIO.IN_LEVEL (spec/14 R513). -/
def A.dioInLevel : Nat := 0x16008
/-- DIO.IN_RAW (spec/14 R513). -/
def A.dioInRaw : Nat := 0x1600c
/-- DIO.IN_RISE (spec/14 R513). -/
def A.dioInRise : Nat := 0x16010
/-- DIO.IN_FALL (spec/14 R513). -/
def A.dioInFall : Nat := 0x16014
/-- DIO.IN_EVT (spec/14 R513). -/
def A.dioInEvt : Nat := 0x16018
/-- DIO.IN_FILT (spec/14 R513). -/
def A.dioInFilt (n : Nat) : Nat := 0x16040 + 0x4 * n
/-- DIO.OUT_CMD (spec/14 R513). -/
def A.dioOutCmd : Nat := 0x16080
/-- DIO.OUT_READ (spec/14 R513). -/
def A.dioOutRead : Nat := 0x16084
/-- DIO.OUT_STATUS (spec/14 R513). -/
def A.dioOutStatus : Nat := 0x16088
/-- DIO.OUT_LIMIT (spec/14 R513). -/
def A.dioOutLimit : Nat := 0x1608c
/-- DIO.FLD_STATUS (spec/14 R513). -/
def A.dioFldStatus : Nat := 0x160c0
/-- DIO.CPL_FAULT_IN (spec/14 R513). -/
def A.dioCplFaultIn : Nat := 0x160c4
/-- DIO.CPL_FAULT_OUT (spec/14 R513). -/
def A.dioCplFaultOut : Nat := 0x160c8
/-- SHR.STATUS (spec/13 R496). -/
def A.shrStatus : Nat := 0x18000
/-- SHR.CFG_CRC (spec/13 R496). -/
def A.shrCfgCrc : Nat := 0x18004
/-- SHR.PEND_CRC (spec/13 R496). -/
def A.shrPendCrc : Nat := 0x18008
/-- SHR.TICK (spec/13 R496). -/
def A.shrTick : Nat := 0x1800c
/-- SHR.FAULT (spec/13 R496). -/
def A.shrFault : Nat := 0x18010
/-- SHR.SI_STATE (spec/13 R496). -/
def A.shrSiState : Nat := 0x18020
/-- SHR.SO_STATE (spec/13 R496). -/
def A.shrSoState : Nat := 0x18024
/-- SHR.STO_CMD (spec/13 R496). -/
def A.shrStoCmd : Nat := 0x18030
/-- SHR.STO_FAULT (spec/13 R496). -/
def A.shrStoFault : Nat := 0x18034
/-- SHR.ZONE_STATE (spec/13 R496). -/
def A.shrZoneState : Nat := 0x18040
/-- SHR.FN (spec/13 R496). -/
def A.shrFn (n : Nat) : Nat := 0x18100 + 0x4 * n
/-- SHR.SA (spec/13 R496). -/
def A.shrSa (n : Nat) : Nat := 0x18200 + 0x10 * n
/-- SHR.SA_SPEED (spec/13 R496). -/
def A.shrSaSpeed (n : Nat) : Nat := 0x18204 + 0x10 * n
/-- SHR.SA_CEIL (spec/13 R496). -/
def A.shrSaCeil (n : Nat) : Nat := 0x18208 + 0x10 * n
/-- SHR.SA_POS (spec/13 R496). -/
def A.shrSaPos (n : Nat) : Nat := 0x1820c + 0x10 * n
/-- SHR.TSE (spec/13 R496). -/
def A.shrTse (n : Nat) : Nat := 0x18800 + 0x10 * n
/-- SHR.TSE_SEQ (spec/13 R496). -/
def A.shrTseSeq (n : Nat) : Nat := 0x18804 + 0x10 * n
/-- SHR.TSE_CNT (spec/13 R496). -/
def A.shrTseCnt (n : Nat) : Nat := 0x18808 + 0x10 * n
/-- SHR.TSE_ID (spec/13 R496). -/
def A.shrTseId (n : Nat) : Nat := 0x1880c + 0x10 * n
/-- SHR.LOG_COUNT (spec/13 R496). -/
def A.shrLogCount : Nat := 0x19000
/-- SHR.TEST (spec/13 R496). -/
def A.shrTest : Nat := 0x19008
/-- DBG.INFO (spec/17 R581). -/
def A.dbgInfo : Nat := 0x1c000
/-- DBG.CTRL (spec/17 R581). -/
def A.dbgCtrl : Nat := 0x1c004
/-- DBG.MEM_CTRL (spec/17 R581). -/
def A.dbgMemCtrl : Nat := 0x1c010
/-- DBG.MEM_ADDR (spec/17 R581). -/
def A.dbgMemAddr : Nat := 0x1c014
/-- DBG.MEM_DATA_LO (spec/17 R581). -/
def A.dbgMemDataLo : Nat := 0x1c018
/-- DBG.MEM_DATA_HI (spec/17 R581). -/
def A.dbgMemDataHi : Nat := 0x1c01c
/-- DBG.ENG_CTRL (spec/17 R581). -/
def A.dbgEngCtrl (n : Nat) : Nat := 0x1c100 + 0x8 * n
/-- DBG.ENG_STATUS (spec/17 R581). -/
def A.dbgEngStatus (n : Nat) : Nat := 0x1c104 + 0x8 * n

/-! ## Fields -/

def F.glbId_PART : Fld := ⟨A.glbId, 31, 16⟩
def F.glbId_REV : Fld := ⟨A.glbId, 15, 8⟩
def F.glbCaps_SLOTS : Fld := ⟨A.glbCaps, 23, 16⟩
def F.glbCaps_ADCS : Fld := ⟨A.glbCaps, 15, 8⟩
def F.glbCaps_AINS : Fld := ⟨A.glbCaps, 7, 0⟩
def F.glbSerialLo_SERIAL : Fld := ⟨A.glbSerialLo, 31, 0⟩
def F.glbSerialHi_SERIAL : Fld := ⟨A.glbSerialHi, 31, 0⟩
def F.glbStatus_BOOT_ERR : Fld := ⟨A.glbStatus, 7, 6⟩
def F.glbStatus_THERM_LATCH : Fld := ⟨A.glbStatus, 5, 5⟩
def F.glbStatus_ON_VBACK : Fld := ⟨A.glbStatus, 4, 4⟩
def F.glbStatus_CAL_FAIL : Fld := ⟨A.glbStatus, 3, 3⟩
def F.glbStatus_QUAR_GRP : Fld := ⟨A.glbStatus, 2, 2⟩
def F.glbStatus_SAFE_SESS : Fld := ⟨A.glbStatus, 1, 1⟩
def F.glbStatus_READY : Fld := ⟨A.glbStatus, 0, 0⟩
def F.glbMode_CAUSE : Fld := ⟨A.glbMode, 15, 12⟩
def F.glbMode_MODE_PREV : Fld := ⟨A.glbMode, 7, 4⟩
def F.glbMode_MODE_ACT : Fld := ⟨A.glbMode, 3, 0⟩
def F.glbModeTickLo_MODE_TICK : Fld := ⟨A.glbModeTickLo, 31, 0⟩
def F.glbModeTickHi_MODE_TICK : Fld := ⟨A.glbModeTickHi, 31, 0⟩
def F.glbGrpState_GRP (n : Nat) : Fld := ⟨A.glbGrpState n, 31, 0⟩
def F.glbResetCtrl_KEY : Fld := ⟨A.glbResetCtrl, 31, 16⟩
def F.glbResetCtrl_REFUSED : Fld := ⟨A.glbResetCtrl, 2, 2⟩
def F.glbResetCtrl_FORCE : Fld := ⟨A.glbResetCtrl, 1, 1⟩
def F.glbResetCtrl_SOFT : Fld := ⟨A.glbResetCtrl, 0, 0⟩
def F.glbResetCause_CAUSE : Fld := ⟨A.glbResetCause, 6, 0⟩
def F.glbBootTime_READY_MS : Fld := ⟨A.glbBootTime, 31, 16⟩
def F.glbBootTime_WIPE_MS : Fld := ⟨A.glbBootTime, 15, 0⟩
def F.glbCalStatus_SDI : Fld := ⟨A.glbCalStatus, 3, 3⟩
def F.glbCalStatus_PWM : Fld := ⟨A.glbCalStatus, 2, 2⟩
def F.glbCalStatus_TDC : Fld := ⟨A.glbCalStatus, 1, 1⟩
def F.glbCalStatus_ADC : Fld := ⟨A.glbCalStatus, 0, 0⟩
def F.glbLc_REASON : Fld := ⟨A.glbLc, 11, 8⟩
def F.glbLc_REFUSED : Fld := ⟨A.glbLc, 4, 4⟩
def F.glbLc_LC_STATE : Fld := ⟨A.glbLc, 3, 0⟩
def F.glbLcCtrl_CONFIRM : Fld := ⟨A.glbLcCtrl, 31, 16⟩
def F.glbLcCtrl_TARGET : Fld := ⟨A.glbLcCtrl, 3, 0⟩
def F.glbResetCfg_PERST_ACT : Fld := ⟨A.glbResetCfg, 0, 0⟩
def F.hriInfo_GRANT_MAX : Fld := ⟨A.hriInfo, 31, 16⟩
def F.hriInfo_RINGS : Fld := ⟨A.hriInfo, 15, 8⟩
def F.hriInfo_VECTORS : Fld := ⟨A.hriInfo, 7, 0⟩
def F.hriGrantSum_GRANT_SUM : Fld := ⟨A.hriGrantSum, 8, 0⟩
def F.hriTickIrq_DIV : Fld := ⟨A.hriTickIrq, 15, 0⟩
def F.hriAttnLo_ATTN : Fld := ⟨A.hriAttnLo, 31, 0⟩
def F.hriAttnHi_ATTN : Fld := ⟨A.hriAttnHi, 31, 0⟩
def F.hriEvtBaseLo_BASE : Fld := ⟨A.hriEvtBaseLo, 31, 12⟩
def F.hriEvtBaseHi_BASE : Fld := ⟨A.hriEvtBaseHi, 31, 0⟩
def F.hriEvtCfg_EN : Fld := ⟨A.hriEvtCfg, 31, 31⟩
def F.hriEvtCfg_DMA_ERR : Fld := ⟨A.hriEvtCfg, 30, 30⟩
def F.hriEvtCfg_SIZE : Fld := ⟨A.hriEvtCfg, 4, 0⟩
def F.hriEvtTail_TAIL : Fld := ⟨A.hriEvtTail, 31, 0⟩
def F.hriEvtLost_LOST : Fld := ⟨A.hriEvtLost, 31, 0⟩
def F.hriCrBaseLo_BASE (n : Nat) : Fld := ⟨A.hriCrBaseLo n, 31, 12⟩
def F.hriCrBaseHi_BASE (n : Nat) : Fld := ⟨A.hriCrBaseHi n, 31, 0⟩
def F.hriCrCfg_EN (n : Nat) : Fld := ⟨A.hriCrCfg n, 31, 31⟩
def F.hriCrCfg_DMA_ERR (n : Nat) : Fld := ⟨A.hriCrCfg n, 30, 30⟩
def F.hriCrCfg_SIZE (n : Nat) : Fld := ⟨A.hriCrCfg n, 3, 0⟩
def F.hriCrTail_TAIL (n : Nat) : Fld := ⟨A.hriCrTail n, 31, 0⟩
def F.hriCrHead_HEAD (n : Nat) : Fld := ⟨A.hriCrHead n, 31, 0⟩
def F.hriRingSqBaseLo_BASE (n : Nat) : Fld := ⟨A.hriRingSqBaseLo n, 31, 12⟩
def F.hriRingSqBaseHi_BASE (n : Nat) : Fld := ⟨A.hriRingSqBaseHi n, 31, 0⟩
def F.hriRingCqBaseLo_BASE (n : Nat) : Fld := ⟨A.hriRingCqBaseLo n, 31, 12⟩
def F.hriRingCqBaseHi_BASE (n : Nat) : Fld := ⟨A.hriRingCqBaseHi n, 31, 0⟩
def F.hriRingCfg_EN (n : Nat) : Fld := ⟨A.hriRingCfg n, 31, 31⟩
def F.hriRingCfg_GRANT (n : Nat) : Fld := ⟨A.hriRingCfg n, 24, 16⟩
def F.hriRingCfg_IRQ_TICK (n : Nat) : Fld := ⟨A.hriRingCfg n, 13, 13⟩
def F.hriRingCfg_VEC (n : Nat) : Fld := ⟨A.hriRingCfg n, 12, 8⟩
def F.hriRingCfg_SIZE (n : Nat) : Fld := ⟨A.hriRingCfg n, 3, 0⟩
def F.hriRingWd_WD_ACT (n : Nat) : Fld := ⟨A.hriRingWd n, 17, 16⟩
def F.hriRingWd_WD_TICKS (n : Nat) : Fld := ⟨A.hriRingWd n, 15, 0⟩
def F.hriRingWdgrp_WDGRP (n : Nat) : Fld := ⟨A.hriRingWdgrp n, 31, 0⟩
def F.hriRingStatus_GRANT_ACT (n : Nat) : Fld := ⟨A.hriRingStatus n, 24, 16⟩
def F.hriRingStatus_NO_GRANT (n : Nat) : Fld := ⟨A.hriRingStatus n, 7, 7⟩
def F.hriRingStatus_WD_EXP (n : Nat) : Fld := ⟨A.hriRingStatus n, 6, 6⟩
def F.hriRingStatus_DMA_ERR (n : Nat) : Fld := ⟨A.hriRingStatus n, 5, 5⟩
def F.hriRingStatus_DB_ERR (n : Nat) : Fld := ⟨A.hriRingStatus n, 4, 4⟩
def F.hriRingStatus_OVERSUB (n : Nat) : Fld := ⟨A.hriRingStatus n, 3, 3⟩
def F.hriRingStatus_STATE (n : Nat) : Fld := ⟨A.hriRingStatus n, 1, 0⟩
def F.hriRingHead_HEAD (n : Nat) : Fld := ⟨A.hriRingHead n, 31, 0⟩
def F.hriRingCredit_CREDIT (n : Nat) : Fld := ⟨A.hriRingCredit n, 31, 0⟩
def F.hriRingClampCount_CLAMP_COUNT (n : Nat) : Fld := ⟨A.hriRingClampCount n, 31, 0⟩
def F.hriRingCqTail_CQ_TAIL (n : Nat) : Fld := ⟨A.hriRingCqTail n, 31, 0⟩
def F.clkPllStatus_REF_LOSS : Fld := ⟨A.clkPllStatus, 2, 2⟩
def F.clkPllStatus_LOCK_LOSS : Fld := ⟨A.clkPllStatus, 1, 1⟩
def F.clkPllStatus_LOCK : Fld := ⟨A.clkPllStatus, 0, 0⟩
def F.clkFtCtrl_FT_SEL : Fld := ⟨A.clkFtCtrl, 1, 0⟩
def F.clkFtStatus_SHR_PER : Fld := ⟨A.clkFtStatus, 15, 8⟩
def F.clkFtStatus_STEP_TICK : Fld := ⟨A.clkFtStatus, 3, 3⟩
def F.clkFtStatus_FT_RAISED : Fld := ⟨A.clkFtStatus, 2, 2⟩
def F.clkFtStatus_FT_ACT : Fld := ⟨A.clkFtStatus, 1, 0⟩
def F.clkHalCut_CUT : Fld := ⟨A.clkHalCut, 16, 0⟩
def F.clkHalCutAct_CUT_ACT : Fld := ⟨A.clkHalCutAct, 16, 0⟩
def F.clkTickLo_TICK : Fld := ⟨A.clkTickLo, 31, 0⟩
def F.clkTickHi_TICK : Fld := ⟨A.clkTickHi, 31, 0⟩
def F.clkSubSel0_SUB : Fld := ⟨A.clkSubSel0, 31, 0⟩
def F.clkSubSel1_SUB : Fld := ⟨A.clkSubSel1, 15, 0⟩
def F.clkEngStat_OVR_TOTAL (n : Nat) : Fld := ⟨A.clkEngStat n, 31, 16⟩
def F.clkEngStat_SUB_OVR_TOTAL (n : Nat) : Fld := ⟨A.clkEngStat n, 15, 8⟩
def F.clkEngStat_HALT (n : Nat) : Fld := ⟨A.clkEngStat n, 5, 5⟩
def F.clkEngStat_FAULT (n : Nat) : Fld := ⟨A.clkEngStat n, 4, 4⟩
def F.clkEngStat_OVR_RUN (n : Nat) : Fld := ⟨A.clkEngStat n, 3, 2⟩
def F.clkEngStat_LATE (n : Nat) : Fld := ⟨A.clkEngStat n, 1, 1⟩
def F.clkEngStat_DONE (n : Nat) : Fld := ⟨A.clkEngStat n, 0, 0⟩
def F.pwtSupStatus_VBACK_LOW : Fld := ⟨A.pwtSupStatus, 6, 6⟩
def F.pwtSupStatus_RET_QUAL : Fld := ⟨A.pwtSupStatus, 5, 5⟩
def F.pwtSupStatus_LOSS_SEEN : Fld := ⟨A.pwtSupStatus, 4, 4⟩
def F.pwtSupStatus_VBACK_ABSENT : Fld := ⟨A.pwtSupStatus, 3, 3⟩
def F.pwtSupStatus_VMAIN_LOST : Fld := ⟨A.pwtSupStatus, 2, 2⟩
def F.pwtSupStatus_ON_VBACK : Fld := ⟨A.pwtSupStatus, 1, 1⟩
def F.pwtVmainTh_RETURN : Fld := ⟨A.pwtVmainTh, 31, 16⟩
def F.pwtVmainTh_LOSS : Fld := ⟨A.pwtVmainTh, 15, 0⟩
def F.pwtVmainRet_RET_US : Fld := ⟨A.pwtVmainRet, 14, 0⟩
def F.pwtVolts_VMAIN : Fld := ⟨A.pwtVolts, 31, 16⟩
def F.pwtVolts_VBACK : Fld := ⟨A.pwtVolts, 15, 0⟩
def F.pwtPower_P_IN : Fld := ⟨A.pwtPower, 31, 16⟩
def F.pwtPower_I_CHG_ACT : Fld := ⟨A.pwtPower, 15, 0⟩
def F.pwtBankCfg_I_CHG : Fld := ⟨A.pwtBankCfg, 31, 16⟩
def F.pwtBankCfg_BANK_NTC : Fld := ⟨A.pwtBankCfg, 5, 4⟩
def F.pwtBankCfg_CHG_EN : Fld := ⟨A.pwtBankCfg, 1, 1⟩
def F.pwtBankCfg_KIND : Fld := ⟨A.pwtBankCfg, 0, 0⟩
def F.pwtBankV_V_CHG : Fld := ⟨A.pwtBankV, 31, 16⟩
def F.pwtBankV_V_MIN : Fld := ⟨A.pwtBankV, 15, 0⟩
def F.pwtBankC_C : Fld := ⟨A.pwtBankC, 31, 16⟩
def F.pwtBankC_ETA : Fld := ⟨A.pwtBankC, 15, 0⟩
def F.pwtBankP_CHG_TMO : Fld := ⟨A.pwtBankP, 31, 16⟩
def F.pwtBankP_P_HOLD : Fld := ⟨A.pwtBankP, 15, 0⟩
def F.pwtBankStatus_RESERVE_LOW : Fld := ⟨A.pwtBankStatus, 7, 7⟩
def F.pwtBankStatus_TEMP_HELD : Fld := ⟨A.pwtBankStatus, 6, 6⟩
def F.pwtBankStatus_CHG_FAULT : Fld := ⟨A.pwtBankStatus, 5, 5⟩
def F.pwtBankStatus_CHG_STATE : Fld := ⟨A.pwtBankStatus, 2, 0⟩
def F.pwtHoldAvail_HOLD_AVAIL : Fld := ⟨A.pwtHoldAvail, 31, 0⟩
def F.pwtHoldNeed_HOLD_NEED : Fld := ⟨A.pwtHoldNeed, 31, 0⟩
def F.pwtTsRead_TEMP (n : Nat) : Fld := ⟨A.pwtTsRead n, 31, 16⟩
def F.pwtTsRead_RATE (n : Nat) : Fld := ⟨A.pwtTsRead n, 15, 0⟩
def F.pwtTsLim_LIM (n : Nat) : Fld := ⟨A.pwtTsLim n, 31, 16⟩
def F.pwtTsLim_RATE_LIM (n : Nat) : Fld := ⟨A.pwtTsLim n, 15, 0⟩
def F.pwtNtcLim_LIM (n : Nat) : Fld := ⟨A.pwtNtcLim n, 31, 16⟩
def F.pwtNtcLim_RATE_LIM (n : Nat) : Fld := ⟨A.pwtNtcLim n, 15, 0⟩
def F.pwtTsMeas_MODE (n : Nat) : Fld := ⟨A.pwtTsMeas n, 31, 30⟩
def F.pwtTsMeas_NEAR (n : Nat) : Fld := ⟨A.pwtTsMeas n, 29, 24⟩
def F.pwtTsMeas_FAST_MS (n : Nat) : Fld := ⟨A.pwtTsMeas n, 23, 14⟩
def F.pwtTsMeas_PER_MS (n : Nat) : Fld := ⟨A.pwtTsMeas n, 13, 0⟩
def F.pwtNtcMeas_MODE (n : Nat) : Fld := ⟨A.pwtNtcMeas n, 31, 30⟩
def F.pwtNtcMeas_NEAR (n : Nat) : Fld := ⟨A.pwtNtcMeas n, 29, 24⟩
def F.pwtNtcMeas_FAST_MS (n : Nat) : Fld := ⟨A.pwtNtcMeas n, 23, 14⟩
def F.pwtNtcMeas_PER_MS (n : Nat) : Fld := ⟨A.pwtNtcMeas n, 13, 0⟩
def F.pwtTsStatus_FAST (n : Nat) : Fld := ⟨A.pwtTsStatus n, 4, 4⟩
def F.pwtTsStatus_BROKEN (n : Nat) : Fld := ⟨A.pwtTsStatus n, 3, 3⟩
def F.pwtTsStatus_RISE (n : Nat) : Fld := ⟨A.pwtTsStatus n, 2, 2⟩
def F.pwtTsStatus_OVER_SEEN (n : Nat) : Fld := ⟨A.pwtTsStatus n, 1, 1⟩
def F.pwtTsStatus_OVER (n : Nat) : Fld := ⟨A.pwtTsStatus n, 0, 0⟩
def F.pwtThermStatus_DIE_MAX : Fld := ⟨A.pwtThermStatus, 31, 16⟩
def F.pwtThermStatus_TRIP_SRC : Fld := ⟨A.pwtThermStatus, 13, 8⟩
def F.pwtThermStatus_FLASH_OK : Fld := ⟨A.pwtThermStatus, 2, 2⟩
def F.pwtThermStatus_TRIP_SEEN : Fld := ⟨A.pwtThermStatus, 1, 1⟩
def F.pwtThermStatus_TRIP : Fld := ⟨A.pwtThermStatus, 0, 0⟩
def F.imgInfo_SLOTS : Fld := ⟨A.imgInfo, 31, 24⟩
def F.imgInfo_PAIRS : Fld := ⟨A.imgInfo, 23, 16⟩
def F.imgStatus_BOOT_PENDING : Fld := ⟨A.imgStatus, 5, 5⟩
def F.imgStatus_KEY_SET : Fld := ⟨A.imgStatus, 4, 4⟩
def F.imgStatus_OVERRIDE : Fld := ⟨A.imgStatus, 3, 3⟩
def F.imgStatus_STORE_ERR : Fld := ⟨A.imgStatus, 2, 2⟩
def F.imgStatus_SWAP_BUSY : Fld := ⟨A.imgStatus, 1, 1⟩
def F.imgStatus_STORE_BUSY : Fld := ⟨A.imgStatus, 0, 0⟩
def F.imgSwapCfg_PROBATION : Fld := ⟨A.imgSwapCfg, 31, 16⟩
def F.imgSwapCfg_TRIES : Fld := ⟨A.imgSwapCfg, 7, 0⟩
def F.imgEng_ACTIVE_SLOT (n : Nat) : Fld := ⟨A.imgEng n, 29, 24⟩
def F.imgEng_OTHER_SLOT (n : Nat) : Fld := ⟨A.imgEng n, 21, 16⟩
def F.imgEng_BOOT_SLOT (n : Nat) : Fld := ⟨A.imgEng n, 13, 8⟩
def F.imgEng_STEP (n : Nat) : Fld := ⟨A.imgEng n, 3, 1⟩
def F.imgEng_QUAR (n : Nat) : Fld := ⟨A.imgEng n, 0, 0⟩
def F.imgSlot_KIND (n : Nat) : Fld := ⟨A.imgSlot n, 31, 24⟩
def F.imgSlot_REV_MAX (n : Nat) : Fld := ⟨A.imgSlot n, 23, 16⟩
def F.imgSlot_REV_MIN (n : Nat) : Fld := ⟨A.imgSlot n, 15, 8⟩
def F.imgSlot_VALID (n : Nat) : Fld := ⟨A.imgSlot n, 7, 7⟩
def F.imgSlot_SIGNER (n : Nat) : Fld := ⟨A.imgSlot n, 6, 6⟩
def F.imgSlotVersion_VERSION (n : Nat) : Fld := ⟨A.imgSlotVersion n, 31, 0⟩
def F.imgSlotEpoch_EPOCH (n : Nat) : Fld := ⟨A.imgSlotEpoch n, 31, 0⟩
def F.imgSlotShash_SHASH (n : Nat) : Fld := ⟨A.imgSlotShash n, 31, 0⟩
def F.imgPair_KIND (n : Nat) : Fld := ⟨A.imgPair n, 31, 24⟩
def F.imgPairEpoch_EPOCH (n : Nat) : Fld := ⟨A.imgPairEpoch n, 31, 0⟩
def F.pwmSlotCfg_FLT_MASK (n : Nat) : Fld := ⟨A.pwmSlotCfg n, 31, 24⟩
def F.pwmSlotCfg_RATIO_HOLD (n : Nat) : Fld := ⟨A.pwmSlotCfg n, 7, 7⟩
def F.pwmSlotCfg_TAKE (n : Nat) : Fld := ⟨A.pwmSlotCfg n, 6, 6⟩
def F.pwmSlotCfg_DBL (n : Nat) : Fld := ⟨A.pwmSlotCfg n, 5, 5⟩
def F.pwmSlotCfg_CARRIER (n : Nat) : Fld := ⟨A.pwmSlotCfg n, 4, 4⟩
def F.pwmSlotCfg_TB (n : Nat) : Fld := ⟨A.pwmSlotCfg n, 0, 0⟩
def F.pwmSlotCtrl_RUN (n : Nat) : Fld := ⟨A.pwmSlotCtrl n, 0, 0⟩
def F.pwmSlotPairCfg_PAIRS (n : Nat) : Fld := ⟨A.pwmSlotPairCfg n, 31, 0⟩
def F.pwmSlotTiming_MIN_ON (n : Nat) : Fld := ⟨A.pwmSlotTiming n, 31, 16⟩
def F.pwmSlotTiming_DEAD (n : Nat) : Fld := ⟨A.pwmSlotTiming n, 15, 0⟩
def F.pwmSlotPer_PER (n : Nat) : Fld := ⟨A.pwmSlotPer n, 27, 0⟩
def F.pwmSlotPerAct_PER_ACT (n : Nat) : Fld := ⟨A.pwmSlotPerAct n, 31, 0⟩
def F.pwmSlotCmpa_CMPA (n : Nat) (p : Nat) : Fld := ⟨A.pwmSlotCmpa n p, 31, 0⟩
def F.pwmSlotCmpb_CMPB (n : Nat) (p : Nat) : Fld := ⟨A.pwmSlotCmpb n p, 31, 0⟩
def F.pwmSlotCommit_COMMIT (n : Nat) : Fld := ⟨A.pwmSlotCommit n, 0, 0⟩
def F.pwmSlotStatus_HALTED (n : Nat) : Fld := ⟨A.pwmSlotStatus n, 10, 10⟩
def F.pwmSlotStatus_CAL_FAULT (n : Nat) : Fld := ⟨A.pwmSlotStatus n, 9, 9⟩
def F.pwmSlotStatus_SAFE (n : Nat) : Fld := ⟨A.pwmSlotStatus n, 8, 8⟩
def F.pwmSlotStatus_MINON_EXT (n : Nat) : Fld := ⟨A.pwmSlotStatus n, 6, 6⟩
def F.pwmSlotStatus_EDGE_LATE (n : Nat) : Fld := ⟨A.pwmSlotStatus n, 5, 5⟩
def F.pwmSlotStatus_SKIP (n : Nat) : Fld := ⟨A.pwmSlotStatus n, 4, 4⟩
def F.pwmSlotStatus_CMP_CLAMP (n : Nat) : Fld := ⟨A.pwmSlotStatus n, 3, 3⟩
def F.pwmSlotStatus_UPDATE_SPLIT (n : Nat) : Fld := ⟨A.pwmSlotStatus n, 2, 2⟩
def F.pwmSlotStatus_FLT_LATCH (n : Nat) : Fld := ⟨A.pwmSlotStatus n, 1, 1⟩
def F.pwmSlotStatus_FLT_ACTIVE (n : Nat) : Fld := ⟨A.pwmSlotStatus n, 0, 0⟩
def F.pwmSlotDlyTimer_DLY_TIMER (n : Nat) : Fld := ⟨A.pwmSlotDlyTimer n, 23, 0⟩
def F.pwmSlotDlyLast_DLY_LAST (n : Nat) : Fld := ⟨A.pwmSlotDlyLast n, 31, 0⟩
def F.pwmSlotCounts_NO_UPD (n : Nat) : Fld := ⟨A.pwmSlotCounts n, 31, 16⟩
def F.pwmSlotCounts_UPD (n : Nat) : Fld := ⟨A.pwmSlotCounts n, 15, 0⟩
def F.pwmSlotSkipCount_SKIP_COUNT (n : Nat) : Fld := ⟨A.pwmSlotSkipCount n, 31, 0⟩
def F.pwmSlotResidue_RESIDUE (n : Nat) (p : Nat) : Fld := ⟨A.pwmSlotResidue n p, 31, 0⟩
def F.pwmSlotCmpaAct_CMPA_ACT (n : Nat) (p : Nat) : Fld := ⟨A.pwmSlotCmpaAct n p, 31, 0⟩
def F.pwmSlotCmpbAct_CMPB_ACT (n : Nat) (p : Nat) : Fld := ⟨A.pwmSlotCmpbAct n p, 31, 0⟩
def F.pwmFltCfg_FILT : Fld := ⟨A.pwmFltCfg, 31, 0⟩
def F.pwmFltState_SEEN : Fld := ⟨A.pwmFltState, 15, 8⟩
def F.pwmFltState_LEVEL : Fld := ⟨A.pwmFltState, 7, 0⟩
def F.pwmInfo_SLOTS : Fld := ⟨A.pwmInfo, 7, 0⟩
def F.adcConvCfg_ACQ (n : Nat) : Fld := ⟨A.adcConvCfg n, 25, 16⟩
def F.adcConvCfg_LEN (n : Nat) : Fld := ⟨A.adcConvCfg n, 10, 8⟩
def F.adcConvCfg_MODE (n : Nat) : Fld := ⟨A.adcConvCfg n, 1, 0⟩
def F.adcConvSeq_GAIN3 (n : Nat) (p : Nat) : Fld := ⟨A.adcConvSeq n p, 30, 29⟩
def F.adcConvSeq_INPUT3 (n : Nat) (p : Nat) : Fld := ⟨A.adcConvSeq n p, 26, 24⟩
def F.adcConvSeq_GAIN2 (n : Nat) (p : Nat) : Fld := ⟨A.adcConvSeq n p, 22, 21⟩
def F.adcConvSeq_INPUT2 (n : Nat) (p : Nat) : Fld := ⟨A.adcConvSeq n p, 18, 16⟩
def F.adcConvSeq_GAIN1 (n : Nat) (p : Nat) : Fld := ⟨A.adcConvSeq n p, 14, 13⟩
def F.adcConvSeq_INPUT1 (n : Nat) (p : Nat) : Fld := ⟨A.adcConvSeq n p, 10, 8⟩
def F.adcConvSeq_GAIN0 (n : Nat) (p : Nat) : Fld := ⟨A.adcConvSeq n p, 6, 5⟩
def F.adcConvSeq_INPUT0 (n : Nat) (p : Nat) : Fld := ⟨A.adcConvSeq n p, 2, 0⟩
def F.adcConvTrig_SRC (n : Nat) : Fld := ⟨A.adcConvTrig n, 31, 30⟩
def F.adcConvTrig_EVENT (n : Nat) : Fld := ⟨A.adcConvTrig n, 23, 16⟩
def F.adcConvTrig_DELAY (n : Nat) : Fld := ⟨A.adcConvTrig n, 15, 0⟩
def F.adcConvTimer_PERIOD (n : Nat) : Fld := ⟨A.adcConvTimer n, 31, 16⟩
def F.adcConvTimer_PHASE (n : Nat) : Fld := ⟨A.adcConvTimer n, 15, 0⟩
def F.adcConvSwtrig_GO (n : Nat) : Fld := ⟨A.adcConvSwtrig n, 0, 0⟩
def F.adcConvStatus_DIAG_FAULT (n : Nat) : Fld := ⟨A.adcConvStatus n, 8, 8⟩
def F.adcConvStatus_BUSY (n : Nat) : Fld := ⟨A.adcConvStatus n, 7, 7⟩
def F.adcConvStatus_DEFER (n : Nat) : Fld := ⟨A.adcConvStatus n, 3, 3⟩
def F.adcConvStatus_LOST (n : Nat) : Fld := ⟨A.adcConvStatus n, 2, 2⟩
def F.adcConvStatus_CFG_PEND (n : Nat) : Fld := ⟨A.adcConvStatus n, 1, 1⟩
def F.adcConvStatus_ACTIVE (n : Nat) : Fld := ⟨A.adcConvStatus n, 0, 0⟩
def F.adcConvCounts_TRIG_LOST (n : Nat) : Fld := ⟨A.adcConvCounts n, 31, 16⟩
def F.adcConvCounts_CONVS (n : Nat) : Fld := ⟨A.adcConvCounts n, 15, 0⟩
def F.adcPairCfg_DIAG_PERIOD (n : Nat) : Fld := ⟨A.adcPairCfg n, 31, 16⟩
def F.adcPairCfg_DIAG_TOL (n : Nat) : Fld := ⟨A.adcPairCfg n, 15, 8⟩
def F.adcPairCfg_ILV (n : Nat) : Fld := ⟨A.adcPairCfg n, 4, 4⟩
def F.adcPairCfg_DAC_MODE (n : Nat) : Fld := ⟨A.adcPairCfg n, 1, 0⟩
def F.adcPairDac_EXC_FREQ (n : Nat) : Fld := ⟨A.adcPairDac n, 31, 16⟩
def F.adcPairDac_LEVEL (n : Nat) : Fld := ⟨A.adcPairDac n, 11, 0⟩
def F.adcPairStatus_FAIL_CNT (n : Nat) : Fld := ⟨A.adcPairStatus n, 31, 16⟩
def F.adcPairStatus_CAL_FAULT (n : Nat) : Fld := ⟨A.adcPairStatus n, 6, 6⟩
def F.adcPairStatus_DIAG_OFF (n : Nat) : Fld := ⟨A.adcPairStatus n, 5, 5⟩
def F.adcPairStatus_FAIL (n : Nat) : Fld := ⟨A.adcPairStatus n, 4, 4⟩
def F.adcPairStatus_STREAK1 (n : Nat) : Fld := ⟨A.adcPairStatus n, 3, 2⟩
def F.adcPairStatus_STREAK0 (n : Nat) : Fld := ⟨A.adcPairStatus n, 1, 0⟩
def F.adcPairCal0_CAL (n : Nat) : Fld := ⟨A.adcPairCal0 n, 31, 0⟩
def F.adcPairCal1_CAL (n : Nat) : Fld := ⟨A.adcPairCal1 n, 31, 0⟩
def F.adcAinRes_CODE (n : Nat) : Fld := ⟨A.adcAinRes n, 31, 16⟩
def F.adcAinRes_TAG (n : Nat) : Fld := ⟨A.adcAinRes n, 15, 14⟩
def F.adcAinRes_SEQ (n : Nat) : Fld := ⟨A.adcAinRes n, 13, 0⟩
def F.adcAinTime_TIME (n : Nat) : Fld := ⟨A.adcAinTime n, 31, 0⟩
def F.adcAinSeg0Sum_SUM (n : Nat) : Fld := ⟨A.adcAinSeg0Sum n, 31, 0⟩
def F.adcAinSeg1Sum_SUM (n : Nat) : Fld := ⟨A.adcAinSeg1Sum n, 31, 0⟩
def F.adcAinSegCnt_SEG1_CNT (n : Nat) : Fld := ⟨A.adcAinSegCnt n, 31, 16⟩
def F.adcAinSegCnt_SEG0_CNT (n : Nat) : Fld := ⟨A.adcAinSegCnt n, 15, 0⟩
def F.adcAinSegTime_SEG_TIME (n : Nat) : Fld := ⟨A.adcAinSegTime n, 31, 0⟩
def F.adcAinStatus_OWNER (n : Nat) : Fld := ⟨A.adcAinStatus n, 29, 24⟩
def F.adcAinStatus_RECOVERY (n : Nat) : Fld := ⟨A.adcAinStatus n, 5, 5⟩
def F.adcAinStatus_FAULT (n : Nat) : Fld := ⟨A.adcAinStatus n, 4, 4⟩
def F.adcAinStatus_SUM_SAT (n : Nat) : Fld := ⟨A.adcAinStatus n, 3, 3⟩
def F.adcAinStatus_CLIP (n : Nat) : Fld := ⟨A.adcAinStatus n, 0, 0⟩
def F.adcSdiRes_VALUE (n : Nat) : Fld := ⟨A.adcSdiRes n, 31, 8⟩
def F.adcSdiRes_SEQ (n : Nat) : Fld := ⟨A.adcSdiRes n, 7, 2⟩
def F.adcSdiRes_TAG (n : Nat) : Fld := ⟨A.adcSdiRes n, 1, 0⟩
def F.adcSdiTime_TIME (n : Nat) : Fld := ⟨A.adcSdiTime n, 31, 0⟩
def F.adcSdiSeg0Sum_SUM (n : Nat) : Fld := ⟨A.adcSdiSeg0Sum n, 31, 0⟩
def F.adcSdiSeg1Sum_SUM (n : Nat) : Fld := ⟨A.adcSdiSeg1Sum n, 31, 0⟩
def F.adcSdiSegCnt_SEG1_CNT (n : Nat) : Fld := ⟨A.adcSdiSegCnt n, 31, 16⟩
def F.adcSdiSegCnt_SEG0_CNT (n : Nat) : Fld := ⟨A.adcSdiSegCnt n, 15, 0⟩
def F.adcSdiSegTime_SEG_TIME (n : Nat) : Fld := ⟨A.adcSdiSegTime n, 31, 0⟩
def F.adcSdiStatus_OWNER (n : Nat) : Fld := ⟨A.adcSdiStatus n, 29, 24⟩
def F.adcSdiStatus_IDLE (n : Nat) : Fld := ⟨A.adcSdiStatus n, 6, 6⟩
def F.adcSdiStatus_RECOVERY (n : Nat) : Fld := ⟨A.adcSdiStatus n, 5, 5⟩
def F.adcSdiStatus_FAULT (n : Nat) : Fld := ⟨A.adcSdiStatus n, 4, 4⟩
def F.adcSdiStatus_SUM_SAT (n : Nat) : Fld := ⟨A.adcSdiStatus n, 3, 3⟩
def F.adcSdiStatus_STUCK (n : Nat) : Fld := ⟨A.adcSdiStatus n, 2, 2⟩
def F.adcSdiStatus_CAL_FAULT (n : Nat) : Fld := ⟨A.adcSdiStatus n, 1, 1⟩
def F.adcSdiStatus_CLIP (n : Nat) : Fld := ⟨A.adcSdiStatus n, 0, 0⟩
def F.adcSdiCfg_DELAY (n : Nat) : Fld := ⟨A.adcSdiCfg n, 28, 24⟩
def F.adcSdiCfg_OVL_RUN (n : Nat) : Fld := ⟨A.adcSdiCfg n, 15, 8⟩
def F.adcSdiCfg_ORDER (n : Nat) : Fld := ⟨A.adcSdiCfg n, 4, 4⟩
def F.adcSdiCfg_OSR (n : Nat) : Fld := ⟨A.adcSdiCfg n, 3, 1⟩
def F.adcSdiCfg_EN (n : Nat) : Fld := ⟨A.adcSdiCfg n, 0, 0⟩
def F.adcInfo_PAIRS : Fld := ⟨A.adcInfo, 23, 16⟩
def F.adcInfo_SDIS : Fld := ⟨A.adcInfo, 15, 8⟩
def F.adcInfo_AINS : Fld := ⟨A.adcInfo, 7, 0⟩
def F.adcSdclkCfg_OFF : Fld := ⟨A.adcSdclkCfg, 27, 16⟩
def F.adcSdclkCfg_DIV : Fld := ⟨A.adcSdclkCfg, 11, 0⟩
def F.adcInrdyMax_MAX : Fld := ⟨A.adcInrdyMax, 15, 0⟩
def F.adcGate_EN (n : Nat) : Fld := ⟨A.adcGate n, 31, 31⟩
def F.adcGate_SDI (n : Nat) : Fld := ⟨A.adcGate n, 30, 30⟩
def F.adcGate_AVG (n : Nat) : Fld := ⟨A.adcGate n, 29, 29⟩
def F.adcGate_IN (n : Nat) : Fld := ⟨A.adcGate n, 23, 0⟩
def F.fbkFbCfg_FILT (n : Nat) : Fld := ⟨A.fbkFbCfg n, 13, 8⟩
def F.fbkFbCfg_INV (n : Nat) : Fld := ⟨A.fbkFbCfg n, 3, 3⟩
def F.fbkFbCfg_MODE (n : Nat) : Fld := ⟨A.fbkFbCfg n, 2, 0⟩
def F.fbkFbSpd_STILL_T (n : Nat) : Fld := ⟨A.fbkFbSpd n, 31, 16⟩
def F.fbkFbSpd_GDIV (n : Nat) : Fld := ⟨A.fbkFbSpd n, 9, 8⟩
def F.fbkFbSpd_PER_CNT (n : Nat) : Fld := ⟨A.fbkFbSpd n, 6, 0⟩
def F.fbkFbSpdMc_M_UP (n : Nat) : Fld := ⟨A.fbkFbSpdMc n, 31, 16⟩
def F.fbkFbSpdMc_M_DN (n : Nat) : Fld := ⟨A.fbkFbSpdMc n, 15, 0⟩
def F.fbkFbSer_CLKDIV (n : Nat) : Fld := ⟨A.fbkFbSer n, 25, 16⟩
def F.fbkFbSer_TRIG (n : Nat) : Fld := ⟨A.fbkFbSer n, 14, 14⟩
def F.fbkFbSer_GRAY (n : Nat) : Fld := ⟨A.fbkFbSer n, 13, 13⟩
def F.fbkFbSer_EXTRA (n : Nat) : Fld := ⟨A.fbkFbSer n, 10, 8⟩
def F.fbkFbSer_BITS (n : Nat) : Fld := ⟨A.fbkFbSer n, 5, 0⟩
def F.fbkFbSer2_MONO (n : Nat) : Fld := ⟨A.fbkFbSer2 n, 31, 24⟩
def F.fbkFbSer2_ERR_LIM (n : Nat) : Fld := ⟨A.fbkFbSer2 n, 23, 16⟩
def F.fbkFbSer2_LAT_COMP (n : Nat) : Fld := ⟨A.fbkFbSer2 n, 15, 0⟩
def F.fbkFbAna_EXC_PAIR (n : Nat) : Fld := ⟨A.fbkFbAna n, 28, 24⟩
def F.fbkFbAna_INTERP (n : Nat) : Fld := ⟨A.fbkFbAna n, 20, 16⟩
def F.fbkFbAna_COS_IN (n : Nat) : Fld := ⟨A.fbkFbAna n, 15, 8⟩
def F.fbkFbAna_SIN_IN (n : Nat) : Fld := ⟨A.fbkFbAna n, 7, 0⟩
def F.fbkFbAna2_AMP_MIN (n : Nat) : Fld := ⟨A.fbkFbAna2 n, 31, 24⟩
def F.fbkFbAna2_AMP_MAX (n : Nat) : Fld := ⟨A.fbkFbAna2 n, 23, 16⟩
def F.fbkFbAna2_RES_PHASE (n : Nat) : Fld := ⟨A.fbkFbAna2 n, 15, 0⟩
def F.fbkFbCtrl_EN (n : Nat) : Fld := ⟨A.fbkFbCtrl n, 0, 0⟩
def F.fbkFbPos_POS (n : Nat) : Fld := ⟨A.fbkFbPos n, 31, 0⟩
def F.fbkFbPosTime_POS_TIME (n : Nat) : Fld := ⟨A.fbkFbPosTime n, 31, 0⟩
def F.fbkFbSpeedLo_SPEED (n : Nat) : Fld := ⟨A.fbkFbSpeedLo n, 31, 0⟩
def F.fbkFbSpeedHi_SPEED (n : Nat) : Fld := ⟨A.fbkFbSpeedHi n, 31, 0⟩
def F.fbkFbSnapPos_POS (n : Nat) : Fld := ⟨A.fbkFbSnapPos n, 31, 0⟩
def F.fbkFbSnapSpeedLo_SPEED (n : Nat) : Fld := ⟨A.fbkFbSnapSpeedLo n, 31, 0⟩
def F.fbkFbSnapSpeedHi_SPEED (n : Nat) : Fld := ⟨A.fbkFbSnapSpeedHi n, 31, 0⟩
def F.fbkFbZpos_ZPOS (n : Nat) : Fld := ⟨A.fbkFbZpos n, 31, 0⟩
def F.fbkFbZtime_ZTIME (n : Nat) : Fld := ⟨A.fbkFbZtime n, 31, 0⟩
def F.fbkFbAbsLo_ABS (n : Nat) : Fld := ⟨A.fbkFbAbsLo n, 31, 0⟩
def F.fbkFbAbsHi_ABS (n : Nat) : Fld := ⟨A.fbkFbAbsHi n, 31, 0⟩
def F.fbkFbStatus_DIR (n : Nat) : Fld := ⟨A.fbkFbStatus n, 11, 11⟩
def F.fbkFbStatus_FIRST (n : Nat) : Fld := ⟨A.fbkFbStatus n, 10, 10⟩
def F.fbkFbStatus_CFG_ERR (n : Nat) : Fld := ⟨A.fbkFbStatus n, 9, 9⟩
def F.fbkFbStatus_FAULT (n : Nat) : Fld := ⟨A.fbkFbStatus n, 8, 8⟩
def F.fbkFbStatus_REF_LOST (n : Nat) : Fld := ⟨A.fbkFbStatus n, 7, 7⟩
def F.fbkFbStatus_WARN (n : Nat) : Fld := ⟨A.fbkFbStatus n, 6, 6⟩
def F.fbkFbStatus_AMP (n : Nat) : Fld := ⟨A.fbkFbStatus n, 5, 5⟩
def F.fbkFbStatus_SERR (n : Nat) : Fld := ⟨A.fbkFbStatus n, 4, 4⟩
def F.fbkFbStatus_QERR (n : Nat) : Fld := ⟨A.fbkFbStatus n, 3, 3⟩
def F.fbkFbStatus_METHOD (n : Nat) : Fld := ⟨A.fbkFbStatus n, 2, 2⟩
def F.fbkFbStatus_DIRCHG (n : Nat) : Fld := ⟨A.fbkFbStatus n, 1, 1⟩
def F.fbkFbStatus_STILL (n : Nat) : Fld := ⟨A.fbkFbStatus n, 0, 0⟩
def F.fbkFbErrs_QERR_CNT (n : Nat) : Fld := ⟨A.fbkFbErrs n, 31, 16⟩
def F.fbkFbErrs_SERR_CNT (n : Nat) : Fld := ⟨A.fbkFbErrs n, 15, 0⟩
def F.fbkFbZcnt_SKIP (n : Nat) : Fld := ⟨A.fbkFbZcnt n, 31, 16⟩
def F.fbkFbZcnt_ZCNT (n : Nat) : Fld := ⟨A.fbkFbZcnt n, 15, 0⟩
def F.latLatCfg_HOLDOFF (n : Nat) : Fld := ⟨A.latLatCfg n, 31, 16⟩
def F.latLatCfg_FB_CH (n : Nat) : Fld := ⟨A.latLatCfg n, 12, 8⟩
def F.latLatCfg_EVT (n : Nat) : Fld := ⟨A.latLatCfg n, 5, 5⟩
def F.latLatCfg_WIN_EN (n : Nat) : Fld := ⟨A.latLatCfg n, 4, 4⟩
def F.latLatCfg_SINGLE (n : Nat) : Fld := ⟨A.latLatCfg n, 3, 3⟩
def F.latLatCfg_EDGE (n : Nat) : Fld := ⟨A.latLatCfg n, 1, 0⟩
def F.latLatWinCenter_CENTER (n : Nat) : Fld := ⟨A.latLatWinCenter n, 31, 0⟩
def F.latLatWinHalf_HALF (n : Nat) : Fld := ⟨A.latLatWinHalf n, 31, 0⟩
def F.latLatCtrl_FLUSH (n : Nat) : Fld := ⟨A.latLatCtrl n, 2, 2⟩
def F.latLatCtrl_POP (n : Nat) : Fld := ⟨A.latLatCtrl n, 1, 1⟩
def F.latLatCtrl_ARM (n : Nat) : Fld := ⟨A.latLatCtrl n, 0, 0⟩
def F.latLatRecTimeLo_TIME (n : Nat) : Fld := ⟨A.latLatRecTimeLo n, 31, 0⟩
def F.latLatRecTimeHi_TIME (n : Nat) : Fld := ⟨A.latLatRecTimeHi n, 31, 0⟩
def F.latLatRecTfrac_TFRAC (n : Nat) : Fld := ⟨A.latLatRecTfrac n, 31, 0⟩
def F.latLatRecPos_POS (n : Nat) : Fld := ⟨A.latLatRecPos n, 31, 0⟩
def F.latLatRecInfo_PFRAC (n : Nat) : Fld := ⟨A.latLatRecInfo n, 31, 16⟩
def F.latLatRecInfo_FB_CH (n : Nat) : Fld := ⟨A.latLatRecInfo n, 15, 11⟩
def F.latLatRecInfo_FB_BAD (n : Nat) : Fld := ⟨A.latLatRecInfo n, 9, 9⟩
def F.latLatRecInfo_FRAC_VALID (n : Nat) : Fld := ⟨A.latLatRecInfo n, 8, 8⟩
def F.latLatRecInfo_RISE (n : Nat) : Fld := ⟨A.latLatRecInfo n, 7, 7⟩
def F.latLatRecInfo_SEQ (n : Nat) : Fld := ⟨A.latLatRecInfo n, 6, 0⟩
def F.latLatStatus_FILL (n : Nat) : Fld := ⟨A.latLatStatus n, 20, 16⟩
def F.latLatStatus_CAL_FAULT (n : Nat) : Fld := ⟨A.latLatStatus n, 5, 5⟩
def F.latLatStatus_WAITING (n : Nat) : Fld := ⟨A.latLatStatus n, 4, 4⟩
def F.latLatStatus_ARMED (n : Nat) : Fld := ⟨A.latLatStatus n, 3, 3⟩
def F.latLatStatus_OVF (n : Nat) : Fld := ⟨A.latLatStatus n, 2, 2⟩
def F.latLatStatus_LEVEL (n : Nat) : Fld := ⟨A.latLatStatus n, 0, 0⟩
def F.latLatCounts_LOST (n : Nat) : Fld := ⟨A.latLatCounts n, 31, 16⟩
def F.latLatCounts_OUTWIN (n : Nat) : Fld := ⟨A.latLatCounts n, 15, 0⟩
def F.capCuCfg_MODE (n : Nat) : Fld := ⟨A.capCuCfg n, 31, 30⟩
def F.capCuCfg_CLK (n : Nat) : Fld := ⟨A.capCuCfg n, 29, 28⟩
def F.capCuCfg_RING (n : Nat) : Fld := ⟨A.capCuCfg n, 27, 26⟩
def F.capCuCfg_TSTAMP (n : Nat) : Fld := ⟨A.capCuCfg n, 25, 25⟩
def F.capCuCfg_NSRC_M1 (n : Nat) : Fld := ⟨A.capCuCfg n, 19, 16⟩
def F.capCuClk_SPER (n : Nat) : Fld := ⟨A.capCuClk n, 23, 0⟩
def F.capCuClkSrc_IN_KIND (n : Nat) : Fld := ⟨A.capCuClkSrc n, 24, 24⟩
def F.capCuClkSrc_EVENT (n : Nat) : Fld := ⟨A.capCuClkSrc n, 23, 16⟩
def F.capCuClkSrc_DELAY (n : Nat) : Fld := ⟨A.capCuClkSrc n, 15, 0⟩
def F.capCuAlloc_ALLOC (n : Nat) : Fld := ⟨A.capCuAlloc n, 14, 0⟩
def F.capCuStatus_SRC_ERR (n : Nat) : Fld := ⟨A.capCuStatus n, 11, 11⟩
def F.capCuStatus_CLAMPED (n : Nat) : Fld := ⟨A.capCuStatus n, 10, 10⟩
def F.capCuStatus_NO_BLOCKS (n : Nat) : Fld := ⟨A.capCuStatus n, 9, 9⟩
def F.capCuStatus_OVF (n : Nat) : Fld := ⟨A.capCuStatus n, 8, 8⟩
def F.capCuStatus_SEQ (n : Nat) : Fld := ⟨A.capCuStatus n, 6, 4⟩
def F.capCuStatus_STATE (n : Nat) : Fld := ⟨A.capCuStatus n, 2, 0⟩
def F.capCuCapno_CAPNO (n : Nat) : Fld := ⟨A.capCuCapno n, 31, 0⟩
def F.capCuDeadLast_DEAD_LAST (n : Nat) : Fld := ⟨A.capCuDeadLast n, 31, 0⟩
def F.capCuHeld_HELD (n : Nat) : Fld := ⟨A.capCuHeld n, 14, 0⟩
def F.capCuSrc_KIND (n : Nat) (p : Nat) : Fld := ⟨A.capCuSrc n p, 31, 28⟩
def F.capCuSrc_HALF (n : Nat) (p : Nat) : Fld := ⟨A.capCuSrc n p, 24, 24⟩
def F.capCuSrc_INDEX (n : Nat) (p : Nat) : Fld := ⟨A.capCuSrc n p, 23, 16⟩
def F.capCuSrc_WORD (n : Nat) (p : Nat) : Fld := ⟨A.capCuSrc n p, 8, 0⟩
def F.capCuCmpCfg_OP (n : Nat) (p : Nat) : Fld := ⟨A.capCuCmpCfg n p, 31, 28⟩
def F.capCuCmpCfg_SLOT (n : Nat) (p : Nat) : Fld := ⟨A.capCuCmpCfg n p, 23, 20⟩
def F.capCuCmpA_A (n : Nat) (p : Nat) : Fld := ⟨A.capCuCmpA n p, 31, 0⟩
def F.capCuCmpB_B (n : Nat) (p : Nat) : Fld := ⟨A.capCuCmpB n p, 31, 0⟩
def F.capCuStTmo_TMO (n : Nat) (p : Nat) : Fld := ⟨A.capCuStTmo n p, 31, 0⟩
def F.capCuStTmoExit_TMO_NEXT (n : Nat) (p : Nat) : Fld := ⟨A.capCuStTmoExit n p, 26, 24⟩
def F.capCuStTmoExit_TMO_ACT (n : Nat) (p : Nat) : Fld := ⟨A.capCuStTmoExit n p, 23, 22⟩
def F.capCuStExit_EN (n : Nat) (p : Nat) (x : Nat) : Fld := ⟨A.capCuStExit n p x, 31, 31⟩
def F.capCuStExit_NEG (n : Nat) (p : Nat) (x : Nat) : Fld := ⟨A.capCuStExit n p x, 30, 30⟩
def F.capCuStExit_CMP (n : Nat) (p : Nat) (x : Nat) : Fld := ⟨A.capCuStExit n p x, 29, 27⟩
def F.capCuStExit_NEXT (n : Nat) (p : Nat) (x : Nat) : Fld := ⟨A.capCuStExit n p x, 26, 24⟩
def F.capCuStExit_ACT (n : Nat) (p : Nat) (x : Nat) : Fld := ⟨A.capCuStExit n p x, 23, 22⟩
def F.capCuStExit_NEED (n : Nat) (p : Nat) (x : Nat) : Fld := ⟨A.capCuStExit n p x, 15, 0⟩
def F.capInfo_UNITS : Fld := ⟨A.capInfo, 31, 24⟩
def F.capInfo_BLOCK_KIB : Fld := ⟨A.capInfo, 23, 16⟩
def F.capInfo_BLOCKS : Fld := ⟨A.capInfo, 14, 0⟩
def F.capFree_FREE : Fld := ⟨A.capFree, 14, 0⟩
def F.capCrDataLo_DATA (n : Nat) : Fld := ⟨A.capCrDataLo n, 31, 16⟩
def F.capCrDataHi_DATA (n : Nat) : Fld := ⟨A.capCrDataHi n, 31, 0⟩
def F.capCrStatus_DB_ERR (n : Nat) : Fld := ⟨A.capCrStatus n, 1, 1⟩
def F.capCrStatus_FULL (n : Nat) : Fld := ⟨A.capCrStatus n, 0, 0⟩
def F.netInfo_NODES : Fld := ⟨A.netInfo, 23, 16⟩
def F.netInfo_PORTS : Fld := ⟨A.netInfo, 7, 0⟩
def F.netHalCfg_JOIN_TICKS : Fld := ⟨A.netHalCfg, 31, 16⟩
def F.netHalCfg_ETHERTYPE : Fld := ⟨A.netHalCfg, 15, 0⟩
def F.netHalApply_APPLY : Fld := ⟨A.netHalApply, 31, 0⟩
def F.netHalSample_SAMPLE : Fld := ⟨A.netHalSample, 31, 0⟩
def F.netHalLoad_LOAD1 : Fld := ⟨A.netHalLoad, 31, 16⟩
def F.netHalLoad_LOAD0 : Fld := ⟨A.netHalLoad, 15, 0⟩
def F.netNodeState_STATE (n : Nat) : Fld := ⟨A.netNodeState n, 31, 0⟩
def F.netPortCfg_VID (n : Nat) : Fld := ⟨A.netPortCfg n, 31, 20⟩
def F.netPortCfg_PCP (n : Nat) : Fld := ⟨A.netPortCfg n, 19, 17⟩
def F.netPortCfg_VLAN (n : Nat) : Fld := ⟨A.netPortCfg n, 16, 16⟩
def F.netPortCfg_SPEED_MAX (n : Nat) : Fld := ⟨A.netPortCfg n, 9, 8⟩
def F.netPortCfg_MODE (n : Nat) : Fld := ⟨A.netPortCfg n, 1, 0⟩
def F.netPortStatus_LINK_LOSS (n : Nat) : Fld := ⟨A.netPortStatus n, 6, 6⟩
def F.netPortStatus_LINK_SLOW (n : Nat) : Fld := ⟨A.netPortStatus n, 5, 5⟩
def F.netPortStatus_SPEED (n : Nat) : Fld := ⟨A.netPortStatus n, 3, 2⟩
def F.netPortStatus_LINK (n : Nat) : Fld := ⟨A.netPortStatus n, 0, 0⟩
def F.netPortMacLo_MAC (n : Nat) : Fld := ⟨A.netPortMacLo n, 31, 0⟩
def F.netPortMacHi_MAC (n : Nat) : Fld := ⟨A.netPortMacHi n, 15, 0⟩
def F.netPortIp_IP (n : Nat) : Fld := ⟨A.netPortIp n, 31, 0⟩
def F.netPortLatTrim_EGRESS (n : Nat) : Fld := ⟨A.netPortLatTrim n, 31, 16⟩
def F.netPortLatTrim_INGRESS (n : Nat) : Fld := ⟨A.netPortLatTrim n, 15, 0⟩
def F.netPortRxHal_COUNT (n : Nat) : Fld := ⟨A.netPortRxHal n, 31, 0⟩
def F.netPortRxPtp_COUNT (n : Nat) : Fld := ⟨A.netPortRxPtp n, 31, 0⟩
def F.netPortRxOther_COUNT (n : Nat) : Fld := ⟨A.netPortRxOther n, 31, 0⟩
def F.netPortRxErr_COUNT (n : Nat) : Fld := ⟨A.netPortRxErr n, 31, 0⟩
def F.netPortTxFrames_COUNT (n : Nat) : Fld := ⟨A.netPortTxFrames n, 31, 0⟩
def F.netPortLate_REPLY_LATE (n : Nat) : Fld := ⟨A.netPortLate n, 31, 16⟩
def F.netPortLate_LAUNCH_LATE (n : Nat) : Fld := ⟨A.netPortLate n, 15, 0⟩
def F.ptpTimeLo_TIME : Fld := ⟨A.ptpTimeLo, 31, 0⟩
def F.ptpTimeHi_TIME : Fld := ⟨A.ptpTimeHi, 31, 0⟩
def F.ptpTimeFrac_TIME : Fld := ⟨A.ptpTimeFrac, 31, 0⟩
def F.ptpIncrFrac_INCR_FRAC : Fld := ⟨A.ptpIncrFrac, 31, 0⟩
def F.ptpIncrInt_INCR_INT : Fld := ⟨A.ptpIncrInt, 7, 0⟩
def F.ptpCfg_DOMAIN : Fld := ⟨A.ptpCfg, 30, 24⟩
def F.ptpCfg_PRIORITY1 : Fld := ⟨A.ptpCfg, 23, 16⟩
def F.ptpCfg_PRIORITY2 : Fld := ⟨A.ptpCfg, 15, 8⟩
def F.ptpCfg_CLOCK : Fld := ⟨A.ptpCfg, 1, 0⟩
def F.ptpCfg2_CLOCK_CLASS : Fld := ⟨A.ptpCfg2, 31, 24⟩
def F.ptpCfg2_ACCURACY : Fld := ⟨A.ptpCfg2, 23, 16⟩
def F.ptpCfg2_VARIANCE : Fld := ⟨A.ptpCfg2, 15, 0⟩
def F.ptpServo_KP : Fld := ⟨A.ptpServo, 31, 16⟩
def F.ptpServo_KI : Fld := ⟨A.ptpServo, 15, 0⟩
def F.ptpRateMax_RATE_MAX : Fld := ⟨A.ptpRateMax, 31, 0⟩
def F.ptpStepLimit_STEP_LIMIT : Fld := ⟨A.ptpStepLimit, 31, 0⟩
def F.ptpPath_PATH_HOLD : Fld := ⟨A.ptpPath, 31, 16⟩
def F.ptpPath_PATH_STEP_LIMIT : Fld := ⟨A.ptpPath, 15, 0⟩
def F.ptpLockThresh_LOCK_THRESH : Fld := ⟨A.ptpLockThresh, 31, 0⟩
def F.ptpStatus_CLOCK_ERR : Fld := ⟨A.ptpStatus, 11, 11⟩
def F.ptpStatus_ASYM : Fld := ⟨A.ptpStatus, 10, 10⟩
def F.ptpStatus_STEP_REFUSED : Fld := ⟨A.ptpStatus, 9, 9⟩
def F.ptpStatus_PATH_HOLD : Fld := ⟨A.ptpStatus, 8, 8⟩
def F.ptpStatus_STEP_PENDING : Fld := ⟨A.ptpStatus, 7, 7⟩
def F.ptpStatus_AUTH : Fld := ⟨A.ptpStatus, 6, 6⟩
def F.ptpStatus_LOCKED : Fld := ⟨A.ptpStatus, 5, 5⟩
def F.ptpStatus_SLAVE_PORT : Fld := ⟨A.ptpStatus, 4, 4⟩
def F.ptpStatus_SLAVE : Fld := ⟨A.ptpStatus, 3, 3⟩
def F.ptpStatus_STEPPED : Fld := ⟨A.ptpStatus, 2, 2⟩
def F.ptpStatus_STATE : Fld := ⟨A.ptpStatus, 1, 0⟩
def F.ptpOffset_OFFSET : Fld := ⟨A.ptpOffset, 31, 0⟩
def F.ptpPathDelay_PATH_DELAY : Fld := ⟨A.ptpPathDelay, 31, 0⟩
def F.ptpRate_RATE : Fld := ⟨A.ptpRate, 31, 0⟩
def F.ptpAsymBound_ASYM_BOUND : Fld := ⟨A.ptpAsymBound, 31, 0⟩
def F.ptpMasterIdLo_MASTER_ID : Fld := ⟨A.ptpMasterIdLo, 31, 0⟩
def F.ptpMasterIdHi_MASTER_ID : Fld := ⟨A.ptpMasterIdHi, 31, 0⟩
def F.ptpCmpStatus_PENDING : Fld := ⟨A.ptpCmpStatus, 23, 16⟩
def F.ptpCmpStatus_ARMED : Fld := ⟨A.ptpCmpStatus, 7, 0⟩
def F.ptpPortCfg_EN (n : Nat) : Fld := ⟨A.ptpPortCfg n, 31, 31⟩
def F.ptpPortCfg_P2P (n : Nat) : Fld := ⟨A.ptpPortCfg n, 30, 30⟩
def F.ptpPortCfg_UDP (n : Nat) : Fld := ⟨A.ptpPortCfg n, 29, 29⟩
def F.ptpPortCfg_ONE_STEP (n : Nat) : Fld := ⟨A.ptpPortCfg n, 28, 28⟩
def F.ptpPortCfg_ANN_TMO (n : Nat) : Fld := ⟨A.ptpPortCfg n, 27, 24⟩
def F.ptpPortCfg_SYNC_TMO (n : Nat) : Fld := ⟨A.ptpPortCfg n, 23, 20⟩
def F.ptpPortCfg_LOG_SYNC (n : Nat) : Fld := ⟨A.ptpPortCfg n, 15, 12⟩
def F.ptpPortCfg_LOG_ANN (n : Nat) : Fld := ⟨A.ptpPortCfg n, 11, 8⟩
def F.ptpPortCfg_LOG_DELAY (n : Nat) : Fld := ⟨A.ptpPortCfg n, 7, 4⟩
def F.ptpPortState_DELAY_MISSED (n : Nat) : Fld := ⟨A.ptpPortState n, 31, 16⟩
def F.ptpPortState_PORT_STATE (n : Nat) : Fld := ⟨A.ptpPortState n, 3, 0⟩
def F.ptpPortTxtsStatus_DROPS (n : Nat) : Fld := ⟨A.ptpPortTxtsStatus n, 31, 16⟩
def F.ptpPortTxtsStatus_AWAITING (n : Nat) : Fld := ⟨A.ptpPortTxtsStatus n, 12, 8⟩
def F.ptpPortTxtsStatus_DROP (n : Nat) : Fld := ⟨A.ptpPortTxtsStatus n, 7, 7⟩
def F.ptpPortTxtsStatus_READY (n : Nat) : Fld := ⟨A.ptpPortTxtsStatus n, 4, 0⟩
def F.ptpPortTxtsId_STATUS (n : Nat) : Fld := ⟨A.ptpPortTxtsId n, 18, 16⟩
def F.ptpPortTxtsId_ID (n : Nat) : Fld := ⟨A.ptpPortTxtsId n, 15, 0⟩
def F.ptpPortTxtsTimeLo_TIME (n : Nat) : Fld := ⟨A.ptpPortTxtsTimeLo n, 31, 0⟩
def F.ptpPortTxtsTimeHi_TIME (n : Nat) : Fld := ⟨A.ptpPortTxtsTimeHi n, 31, 0⟩
def F.ptpPortTxtsFrac_FRAC (n : Nat) : Fld := ⟨A.ptpPortTxtsFrac n, 31, 0⟩
def F.ptpPortTxtsPop_POP (n : Nat) : Fld := ⟨A.ptpPortTxtsPop n, 0, 0⟩
def F.dioInfo_OUTS : Fld := ⟨A.dioInfo, 15, 8⟩
def F.dioInfo_INS : Fld := ⟨A.dioInfo, 7, 0⟩
def F.dioInType_TYPE : Fld := ⟨A.dioInType, 31, 0⟩
def F.dioInLevel_LEVEL : Fld := ⟨A.dioInLevel, 31, 0⟩
def F.dioInRaw_RAW : Fld := ⟨A.dioInRaw, 31, 0⟩
def F.dioInRise_RISE : Fld := ⟨A.dioInRise, 31, 0⟩
def F.dioInFall_FALL : Fld := ⟨A.dioInFall, 31, 0⟩
def F.dioInEvt_EVT : Fld := ⟨A.dioInEvt, 31, 0⟩
def F.dioInFilt_FILT (n : Nat) : Fld := ⟨A.dioInFilt n, 31, 0⟩
def F.dioOutCmd_CMD : Fld := ⟨A.dioOutCmd, 15, 0⟩
def F.dioOutRead_READ : Fld := ⟨A.dioOutRead, 15, 0⟩
def F.dioOutStatus_OVERLOAD : Fld := ⟨A.dioOutStatus, 31, 16⟩
def F.dioOutStatus_EXT_HIGH : Fld := ⟨A.dioOutStatus, 15, 0⟩
def F.dioOutLimit_THERM_OFF : Fld := ⟨A.dioOutLimit, 31, 16⟩
def F.dioOutLimit_ILIM : Fld := ⟨A.dioOutLimit, 15, 0⟩
def F.dioFldStatus_VFLD : Fld := ⟨A.dioFldStatus, 31, 16⟩
def F.dioFldStatus_HOLD_SEEN : Fld := ⟨A.dioFldStatus, 4, 4⟩
def F.dioFldStatus_IN_VALID : Fld := ⟨A.dioFldStatus, 3, 3⟩
def F.dioFldStatus_FLD_OFF : Fld := ⟨A.dioFldStatus, 2, 2⟩
def F.dioFldStatus_FLD_UV_SEEN : Fld := ⟨A.dioFldStatus, 1, 1⟩
def F.dioFldStatus_FLD_UV : Fld := ⟨A.dioFldStatus, 0, 0⟩
def F.dioCplFaultIn_CPL_IN : Fld := ⟨A.dioCplFaultIn, 31, 0⟩
def F.dioCplFaultOut_CPL_OUT : Fld := ⟨A.dioCplFaultOut, 15, 0⟩
def F.shrStatus_PW_EMPTY : Fld := ⟨A.shrStatus, 7, 7⟩
def F.shrStatus_LOCKOUT : Fld := ⟨A.shrStatus, 6, 6⟩
def F.shrStatus_SESSION : Fld := ⟨A.shrStatus, 5, 5⟩
def F.shrStatus_PENDING : Fld := ⟨A.shrStatus, 4, 4⟩
def F.shrStatus_CFG_VALID : Fld := ⟨A.shrStatus, 3, 3⟩
def F.shrStatus_STO_ALL : Fld := ⟨A.shrStatus, 2, 2⟩
def F.shrStatus_STATE : Fld := ⟨A.shrStatus, 1, 0⟩
def F.shrCfgCrc_CFG_CRC : Fld := ⟨A.shrCfgCrc, 31, 0⟩
def F.shrPendCrc_PEND_CRC : Fld := ⟨A.shrPendCrc, 31, 0⟩
def F.shrTick_STICK : Fld := ⟨A.shrTick, 31, 0⟩
def F.shrFault_CAUSE : Fld := ⟨A.shrFault, 7, 0⟩
def F.shrSiState_PAIRS : Fld := ⟨A.shrSiState, 31, 0⟩
def F.shrSoState_OUTS : Fld := ⟨A.shrSoState, 31, 0⟩
def F.shrStoCmd_TORQUE : Fld := ⟨A.shrStoCmd, 23, 0⟩
def F.shrStoFault_FAULT : Fld := ⟨A.shrStoFault, 23, 0⟩
def F.shrZoneState_ZONES : Fld := ⟨A.shrZoneState, 31, 0⟩
def F.shrFn_FUNC (n : Nat) : Fld := ⟨A.shrFn n, 31, 28⟩
def F.shrFn_ZONE (n : Nat) : Fld := ⟨A.shrFn n, 27, 24⟩
def F.shrFn_SRC_DEM (n : Nat) : Fld := ⟨A.shrFn n, 23, 8⟩
def F.shrFn_STATE (n : Nat) : Fld := ⟨A.shrFn n, 3, 0⟩
def F.shrSa_AXIS (n : Nat) : Fld := ⟨A.shrSa n, 31, 24⟩
def F.shrSa_ZONE (n : Nat) : Fld := ⟨A.shrSa n, 23, 20⟩
def F.shrSa_SRC (n : Nat) : Fld := ⟨A.shrSa n, 19, 16⟩
def F.shrSa_DISC (n : Nat) : Fld := ⟨A.shrSa n, 2, 2⟩
def F.shrSa_STILL (n : Nat) : Fld := ⟨A.shrSa n, 1, 1⟩
def F.shrSa_FAULT (n : Nat) : Fld := ⟨A.shrSa n, 0, 0⟩
def F.shrSaSpeed_SPEED (n : Nat) : Fld := ⟨A.shrSaSpeed n, 31, 0⟩
def F.shrSaCeil_CEIL (n : Nat) : Fld := ⟨A.shrSaCeil n, 31, 0⟩
def F.shrSaPos_POS (n : Nat) : Fld := ⟨A.shrSaPos n, 31, 0⟩
def F.shrTse_STATE (n : Nat) : Fld := ⟨A.shrTse n, 31, 24⟩
def F.shrTse_NODE (n : Nat) : Fld := ⟨A.shrTse n, 23, 16⟩
def F.shrTse_ZONE (n : Nat) : Fld := ⟨A.shrTse n, 15, 8⟩
def F.shrTse_CAUSE (n : Nat) : Fld := ⟨A.shrTse n, 7, 0⟩
def F.shrTseSeq_TX_SEQ (n : Nat) : Fld := ⟨A.shrTseSeq n, 31, 16⟩
def F.shrTseSeq_RX_SEQ (n : Nat) : Fld := ⟨A.shrTseSeq n, 15, 0⟩
def F.shrTseCnt_REPEATS (n : Nat) : Fld := ⟨A.shrTseCnt n, 31, 16⟩
def F.shrTseCnt_FAULTS (n : Nat) : Fld := ⟨A.shrTseCnt n, 15, 0⟩
def F.shrTseId_CONN_ID (n : Nat) : Fld := ⟨A.shrTseId n, 31, 0⟩
def F.shrLogCount_ENTRY : Fld := ⟨A.shrLogCount, 31, 0⟩
def F.shrTest_STO_CHECK : Fld := ⟨A.shrTest, 1, 1⟩
def F.shrTest_PULSE_NOW : Fld := ⟨A.shrTest, 0, 0⟩
def F.dbgInfo_ENGINES : Fld := ⟨A.dbgInfo, 31, 24⟩
def F.dbgInfo_ACCESS : Fld := ⟨A.dbgInfo, 1, 0⟩
def F.dbgCtrl_KEY : Fld := ⟨A.dbgCtrl, 31, 16⟩
def F.dbgCtrl_CONTEND : Fld := ⟨A.dbgCtrl, 3, 3⟩
def F.dbgCtrl_OWNER : Fld := ⟨A.dbgCtrl, 2, 1⟩
def F.dbgCtrl_ATTACH : Fld := ⟨A.dbgCtrl, 0, 0⟩
def F.dbgMemCtrl_GO : Fld := ⟨A.dbgMemCtrl, 31, 31⟩
def F.dbgMemCtrl_WRITE : Fld := ⟨A.dbgMemCtrl, 30, 30⟩
def F.dbgMemCtrl_SPACE : Fld := ⟨A.dbgMemCtrl, 29, 27⟩
def F.dbgMemCtrl_ERR : Fld := ⟨A.dbgMemCtrl, 26, 26⟩
def F.dbgMemCtrl_BUSY : Fld := ⟨A.dbgMemCtrl, 25, 25⟩
def F.dbgMemCtrl_ENGINE : Fld := ⟨A.dbgMemCtrl, 5, 0⟩
def F.dbgMemAddr_ADDR : Fld := ⟨A.dbgMemAddr, 31, 0⟩
def F.dbgMemDataLo_DATA : Fld := ⟨A.dbgMemDataLo, 31, 0⟩
def F.dbgMemDataHi_DATA : Fld := ⟨A.dbgMemDataHi, 31, 0⟩
def F.dbgEngCtrl_STEP (n : Nat) : Fld := ⟨A.dbgEngCtrl n, 2, 2⟩
def F.dbgEngCtrl_RESUME (n : Nat) : Fld := ⟨A.dbgEngCtrl n, 1, 1⟩
def F.dbgEngCtrl_HALT (n : Nat) : Fld := ⟨A.dbgEngCtrl n, 0, 0⟩
def F.dbgEngStatus_PC (n : Nat) : Fld := ⟨A.dbgEngStatus n, 31, 16⟩
def F.dbgEngStatus_BRK (n : Nat) : Fld := ⟨A.dbgEngStatus n, 3, 3⟩
def F.dbgEngStatus_ACCESS (n : Nat) : Fld := ⟨A.dbgEngStatus n, 2, 2⟩
def F.dbgEngStatus_SET (n : Nat) : Fld := ⟨A.dbgEngStatus n, 1, 1⟩
def F.dbgEngStatus_HALTED (n : Nat) : Fld := ⟨A.dbgEngStatus n, 0, 0⟩

/-! ## The families by block -/

def regsGlb0 : List RegGroup :=
  [{ base := 0x00000, reset := 0x6480b200, all := 0xffffff00, rw := 0x0, w1c := 0x0, w1s := 0x0, rwl := 0x0 },
   { base := 0x00004, reset := 0x182060, all := 0xffffff, rw := 0x0, w1c := 0x0, w1s := 0x0, rwl := 0x0 },
   { base := 0x00008, reset := 0x0, all := 0xffffffff, rw := 0x0, w1c := 0x0, w1s := 0x0, rwl := 0x0 },
   { base := 0x0000c, reset := 0x0, all := 0xffffffff, rw := 0x0, w1c := 0x0, w1s := 0x0, rwl := 0x0 },
   { base := 0x00010, reset := 0x0, all := 0xff, rw := 0x0, w1c := 0x0, w1s := 0x0, rwl := 0x0 },
   { base := 0x00014, reset := 0x6000, all := 0xf0ff, rw := 0x0, w1c := 0x0, w1s := 0x0, rwl := 0x0 },
   { base := 0x00018, reset := 0x0, all := 0xffffffff, rw := 0x0, w1c := 0x0, w1s := 0x0, rwl := 0x0 },
   { base := 0x0001c, reset := 0x0, all := 0xffffffff, rw := 0x0, w1c := 0x0, w1s := 0x0, rwl := 0x0 },
   { base := 0x00020, reset := 0x0, all := 0xffffffff, rw := 0x0, w1c := 0x0, w1s := 0x0, rwl := 0x0, n1 := 4, s1 := 0x4 },
   { base := 0x00030, reset := 0x0, all := 0xffff0007, rw := 0xffff0002, w1c := 0x4, w1s := 0x1, rwl := 0x0 },
   { base := 0x00034, reset := 0x1, all := 0x7f, rw := 0x0, w1c := 0x0, w1s := 0x0, rwl := 0x0 },
   { base := 0x00038, reset := 0x0, all := 0xffffffff, rw := 0x0, w1c := 0x0, w1s := 0x0, rwl := 0x0 },
   { base := 0x0003c, reset := 0x0, all := 0xf, rw := 0x0, w1c := 0x0, w1s := 0x0, rwl := 0x0 },
   { base := 0x00040, reset := 0x3, all := 0xf1f, rw := 0x0, w1c := 0x10, w1s := 0x0, rwl := 0x0 },
   { base := 0x00044, reset := 0x0, all := 0xffff000f, rw := 0x0, w1c := 0x0, w1s := 0x0, rwl := 0xffff000f },
   { base := 0x00048, reset := 0x0, all := 0x1, rw := 0x1, w1c := 0x0, w1s := 0x0, rwl := 0x0 }]
def regsHri0 : List RegGroup :=
  [{ base := 0x01000, reset := 0x1004020, all := 0xffffffff, rw := 0x0, w1c := 0x0, w1s := 0x0, rwl := 0x0 },
   { base := 0x01004, reset := 0x0, all := 0x1ff, rw := 0x0, w1c := 0x0, w1s := 0x0, rwl := 0x0 },
   { base := 0x01008, reset := 0x0, all := 0xffff, rw := 0xffff, w1c := 0x0, w1s := 0x0, rwl := 0x0 },
   { base := 0x01010, reset := 0x0, all := 0xffffffff, rw := 0x0, w1c := 0x0, w1s := 0x0, rwl := 0x0 },
   { base := 0x01014, reset := 0x0, all := 0xffffffff, rw := 0x0, w1c := 0x0, w1s := 0x0, rwl := 0x0 },
   { base := 0x01100, reset := 0x0, all := 0xfffff000, rw := 0xfffff000, w1c := 0x0, w1s := 0x0, rwl := 0x0 },
   { base := 0x01104, reset := 0x0, all := 0xffffffff, rw := 0xffffffff, w1c := 0x0, w1s := 0x0, rwl := 0x0 },
   { base := 0x01108, reset := 0x6, all := 0xc000001f, rw := 0x8000001f, w1c := 0x40000000, w1s := 0x0, rwl := 0x0 },
   { base := 0x0110c, reset := 0x0, all := 0xffffffff, rw := 0x0, w1c := 0x0, w1s := 0x0, rwl := 0x0 },
   { base := 0x01110, reset := 0x0, all := 0xffffffff, rw := 0x0, w1c := 0x0, w1s := 0x0, rwl := 0x0 },
   { base := 0x01200, reset := 0x0, all := 0xfffff000, rw := 0xfffff000, w1c := 0x0, w1s := 0x0, rwl := 0x0, n1 := 4, s1 := 0x20 },
   { base := 0x01204, reset := 0x0, all := 0xffffffff, rw := 0xffffffff, w1c := 0x0, w1s := 0x0, rwl := 0x0, n1 := 4, s1 := 0x20 },
   { base := 0x01208, reset := 0x4, all := 0xc000000f, rw := 0x8000000f, w1c := 0x40000000, w1s := 0x0, rwl := 0x0, n1 := 4, s1 := 0x20 },
   { base := 0x0120c, reset := 0x0, all := 0xffffffff, rw := 0x0, w1c := 0x0, w1s := 0x0, rwl := 0x0, n1 := 4, s1 := 0x20 },
   { base := 0x01210, reset := 0x0, all := 0xffffffff, rw := 0x0, w1c := 0x0, w1s := 0x0, rwl := 0x0, n1 := 4, s1 := 0x20 },
   { base := 0x01400, reset := 0x0, all := 0xfffff000, rw := 0xfffff000, w1c := 0x0, w1s := 0x0, rwl := 0x0, n1 := 64, s1 := 0x30 },
   { base := 0x01404, reset := 0x0, all := 0xffffffff, rw := 0xffffffff, w1c := 0x0, w1s := 0x0, rwl := 0x0, n1 := 64, s1 := 0x30 },
   { base := 0x01408, reset := 0x0, all := 0xfffff000, rw := 0xfffff000, w1c := 0x0, w1s := 0x0, rwl := 0x0, n1 := 64, s1 := 0x30 },
   { base := 0x0140c, reset := 0x0, all := 0xffffffff, rw := 0xffffffff, w1c := 0x0, w1s := 0x0, rwl := 0x0, n1 := 64, s1 := 0x30 },
   { base := 0x01410, reset := 0x100006, all := 0x81ff3f0f, rw := 0x81ff3f0f, w1c := 0x0, w1s := 0x0, rwl := 0x0, n1 := 64, s1 := 0x30 },
   { base := 0x01414, reset := 0x0, all := 0x3ffff, rw := 0x3ffff, w1c := 0x0, w1s := 0x0, rwl := 0x0, n1 := 64, s1 := 0x30 },
   { base := 0x01418, reset := 0x0, all := 0xffffffff, rw := 0xffffffff, w1c := 0x0, w1s := 0x0, rwl := 0x0, n1 := 64, s1 := 0x30 },
   { base := 0x0141c, reset := 0x0, all := 0x1ff00fb, rw := 0x0, w1c := 0x78, w1s := 0x0, rwl := 0x0, n1 := 64, s1 := 0x30 },
   { base := 0x01420, reset := 0x0, all := 0xffffffff, rw := 0x0, w1c := 0x0, w1s := 0x0, rwl := 0x0, n1 := 64, s1 := 0x30 }]
def regsHri1 : List RegGroup :=
  [{ base := 0x01424, reset := 0x0, all := 0xffffffff, rw := 0x0, w1c := 0x0, w1s := 0x0, rwl := 0x0, n1 := 64, s1 := 0x30 },
   { base := 0x01428, reset := 0x0, all := 0xffffffff, rw := 0x0, w1c := 0x0, w1s := 0x0, rwl := 0x0, n1 := 64, s1 := 0x30 },
   { base := 0x0142c, reset := 0x0, all := 0xffffffff, rw := 0x0, w1c := 0x0, w1s := 0x0, rwl := 0x0, n1 := 64, s1 := 0x30 }]
def regsClk0 : List RegGroup :=
  [{ base := 0x02000, reset := 0x0, all := 0x7, rw := 0x0, w1c := 0x6, w1s := 0x0, rwl := 0x0 },
   { base := 0x02004, reset := 0x0, all := 0x3, rw := 0x3, w1c := 0x0, w1s := 0x0, rwl := 0x0 },
   { base := 0x02008, reset := 0x2000, all := 0xff0f, rw := 0x0, w1c := 0xc, w1s := 0x0, rwl := 0x0 },
   { base := 0x0200c, reset := 0x1388, all := 0x1ffff, rw := 0x1ffff, w1c := 0x0, w1s := 0x0, rwl := 0x0 },
   { base := 0x02010, reset := 0x1388, all := 0x1ffff, rw := 0x0, w1c := 0x0, w1s := 0x0, rwl := 0x0 },
   { base := 0x02018, reset := 0x0, all := 0xffffffff, rw := 0x0, w1c := 0x0, w1s := 0x0, rwl := 0x0 },
   { base := 0x0201c, reset := 0x0, all := 0xffffffff, rw := 0x0, w1c := 0x0, w1s := 0x0, rwl := 0x0 },
   { base := 0x02020, reset := 0x0, all := 0xffffffff, rw := 0xffffffff, w1c := 0x0, w1s := 0x0, rwl := 0x0 },
   { base := 0x02024, reset := 0x0, all := 0xffff, rw := 0xffff, w1c := 0x0, w1s := 0x0, rwl := 0x0 },
   { base := 0x02100, reset := 0x0, all := 0xffffff3f, rw := 0x0, w1c := 0x2, w1s := 0x0, rwl := 0x0, n1 := 40, s1 := 0x4 }]
def regsPwt0 : List RegGroup :=
  [{ base := 0x03000, reset := 0x0, all := 0x7e, rw := 0x0, w1c := 0x50, w1s := 0x0, rwl := 0x0 },
   { base := 0x03004, reset := 0x7d00708, all := 0xffffffff, rw := 0xffffffff, w1c := 0x0, w1s := 0x0, rwl := 0x0 },
   { base := 0x03008, reset := 0x3e8, all := 0x7fff, rw := 0x7fff, w1c := 0x0, w1s := 0x0, rwl := 0x0 },
   { base := 0x0300c, reset := 0x0, all := 0xffffffff, rw := 0x0, w1c := 0x0, w1s := 0x0, rwl := 0x0 },
   { base := 0x03010, reset := 0x0, all := 0xffffffff, rw := 0x0, w1c := 0x0, w1s := 0x0, rwl := 0x0 },
   { base := 0x03020, reset := 0x7d00000, all := 0xffff0033, rw := 0xffff0033, w1c := 0x0, w1s := 0x0, rwl := 0x0 },
   { base := 0x03024, reset := 0xc800320, all := 0xffffffff, rw := 0xffffffff, w1c := 0x0, w1s := 0x0, rwl := 0x0 },
   { base := 0x03028, reset := 0xe666, all := 0xffffffff, rw := 0xffffffff, w1c := 0x0, w1s := 0x0, rwl := 0x0 },
   { base := 0x0302c, reset := 0x2584e20, all := 0xffffffff, rw := 0xffffffff, w1c := 0x0, w1s := 0x0, rwl := 0x0 },
   { base := 0x03030, reset := 0x0, all := 0xe7, rw := 0x0, w1c := 0x0, w1s := 0x0, rwl := 0x0 },
   { base := 0x03034, reset := 0xffffffff, all := 0xffffffff, rw := 0x0, w1c := 0x0, w1s := 0x0, rwl := 0x0 },
   { base := 0x03038, reset := 0x0, all := 0xffffffff, rw := 0x0, w1c := 0x0, w1s := 0x0, rwl := 0x0 },
   { base := 0x03100, reset := 0x0, all := 0xffffffff, rw := 0x0, w1c := 0x0, w1s := 0x0, rwl := 0x0, n1 := 10, s1 := 0x10 },
   { base := 0x03104, reset := 0x37000a00, all := 0xffffffff, rw := 0xffffffff, w1c := 0x0, w1s := 0x0, rwl := 0x0, n1 := 6, s1 := 0x10 },
   { base := 0x03164, reset := 0x28000a00, all := 0xffffffff, rw := 0xffffffff, w1c := 0x0, w1s := 0x0, rwl := 0x0, n1 := 4, s1 := 0x10 },
   { base := 0x03108, reset := 0x5028064, all := 0xffffffff, rw := 0xffffffff, w1c := 0x0, w1s := 0x0, rwl := 0x0, n1 := 6, s1 := 0x10 },
   { base := 0x03168, reset := 0x85028064, all := 0xffffffff, rw := 0xffffffff, w1c := 0x0, w1s := 0x0, rwl := 0x0, n1 := 4, s1 := 0x10 },
   { base := 0x0310c, reset := 0x0, all := 0x1f, rw := 0x0, w1c := 0x6, w1s := 0x0, rwl := 0x0, n1 := 10, s1 := 0x10 },
   { base := 0x03200, reset := 0x0, all := 0xffff3f07, rw := 0x0, w1c := 0x2, w1s := 0x0, rwl := 0x0 }]
def regsImg0 : List RegGroup :=
  [{ base := 0x04000, reset := 0x40000000, all := 0xffff0000, rw := 0x0, w1c := 0x0, w1s := 0x0, rwl := 0x0 },
   { base := 0x04004, reset := 0x0, all := 0x3f, rw := 0x0, w1c := 0x4, w1s := 0x0, rwl := 0x0 },
   { base := 0x04008, reset := 0x400004, all := 0xffff00ff, rw := 0xffff00ff, w1c := 0x0, w1s := 0x0, rwl := 0x0 },
   { base := 0x04100, reset := 0x3f3f00, all := 0x3f3f3f0f, rw := 0x0, w1c := 0x0, w1s := 0x0, rwl := 0x0, n1 := 38, s1 := 0x4 },
   { base := 0x04400, reset := 0x0, all := 0xffffffc0, rw := 0x0, w1c := 0x0, w1s := 0x0, rwl := 0x0, n1 := 64, s1 := 0x10 },
   { base := 0x04404, reset := 0x0, all := 0xffffffff, rw := 0x0, w1c := 0x0, w1s := 0x0, rwl := 0x0, n1 := 64, s1 := 0x10 },
   { base := 0x04408, reset := 0x0, all := 0xffffffff, rw := 0x0, w1c := 0x0, w1s := 0x0, rwl := 0x0, n1 := 64, s1 := 0x10 },
   { base := 0x0440c, reset := 0x0, all := 0xffffffff, rw := 0x0, w1c := 0x0, w1s := 0x0, rwl := 0x0, n1 := 64, s1 := 0x10 },
   { base := 0x04800, reset := 0x0, all := 0xff000000, rw := 0x0, w1c := 0x0, w1s := 0x0, rwl := 0x0, n1 := 256, s1 := 0x8 },
   { base := 0x04804, reset := 0x0, all := 0xffffffff, rw := 0x0, w1c := 0x0, w1s := 0x0, rwl := 0x0, n1 := 256, s1 := 0x8 }]
def regsPwm0 : List RegGroup :=
  [{ base := 0x08000, reset := 0x0, all := 0xff0000f1, rw := 0xff0000f1, w1c := 0x0, w1s := 0x0, rwl := 0x0, n1 := 24, s1 := 0x100 },
   { base := 0x08004, reset := 0x0, all := 0x1, rw := 0x1, w1c := 0x0, w1s := 0x0, rwl := 0x0, n1 := 24, s1 := 0x100 },
   { base := 0x08008, reset := 0xa0a0a0a0, all := 0xffffffff, rw := 0xffffffff, w1c := 0x0, w1s := 0x0, rwl := 0x0, n1 := 24, s1 := 0x100 },
   { base := 0x0800c, reset := 0x2800500, all := 0xffffffff, rw := 0xffffffff, w1c := 0x0, w1s := 0x0, rwl := 0x0, n1 := 24, s1 := 0x100 },
   { base := 0x08010, reset := 0xc3500, all := 0xfffffff, rw := 0xfffffff, w1c := 0x0, w1s := 0x0, rwl := 0x0, n1 := 24, s1 := 0x100 },
   { base := 0x08014, reset := 0x0, all := 0xffffffff, rw := 0x0, w1c := 0x0, w1s := 0x0, rwl := 0x0, n1 := 24, s1 := 0x100 },
   { base := 0x08020, reset := 0x0, all := 0xffffffff, rw := 0xffffffff, w1c := 0x0, w1s := 0x0, rwl := 0x0, n1 := 24, s1 := 0x100, n2 := 4, s2 := 0x8 },
   { base := 0x08024, reset := 0x0, all := 0xffffffff, rw := 0xffffffff, w1c := 0x0, w1s := 0x0, rwl := 0x0, n1 := 24, s1 := 0x100, n2 := 4, s2 := 0x8 },
   { base := 0x08040, reset := 0x0, all := 0x1, rw := 0x0, w1c := 0x0, w1s := 0x1, rwl := 0x0, n1 := 24, s1 := 0x100 },
   { base := 0x08044, reset := 0x100, all := 0x77f, rw := 0x0, w1c := 0x7e, w1s := 0x0, rwl := 0x0, n1 := 24, s1 := 0x100 },
   { base := 0x08048, reset := 0x0, all := 0xffffff, rw := 0x0, w1c := 0x0, w1s := 0x0, rwl := 0x0, n1 := 24, s1 := 0x100 },
   { base := 0x0804c, reset := 0x0, all := 0xffffffff, rw := 0x0, w1c := 0x0, w1s := 0x0, rwl := 0x0, n1 := 24, s1 := 0x100 },
   { base := 0x08050, reset := 0x0, all := 0xffffffff, rw := 0x0, w1c := 0x0, w1s := 0x0, rwl := 0x0, n1 := 24, s1 := 0x100 },
   { base := 0x08054, reset := 0x0, all := 0xffffffff, rw := 0x0, w1c := 0x0, w1s := 0x0, rwl := 0x0, n1 := 24, s1 := 0x100 },
   { base := 0x08058, reset := 0x0, all := 0xffffffff, rw := 0x0, w1c := 0x0, w1s := 0x0, rwl := 0x0, n1 := 24, s1 := 0x100, n2 := 4, s2 := 0x4 },
   { base := 0x08080, reset := 0x0, all := 0xffffffff, rw := 0x0, w1c := 0x0, w1s := 0x0, rwl := 0x0, n1 := 24, s1 := 0x100, n2 := 4, s2 := 0x8 },
   { base := 0x08084, reset := 0x0, all := 0xffffffff, rw := 0x0, w1c := 0x0, w1s := 0x0, rwl := 0x0, n1 := 24, s1 := 0x100, n2 := 4, s2 := 0x8 },
   { base := 0x09800, reset := 0x0, all := 0xffffffff, rw := 0xffffffff, w1c := 0x0, w1s := 0x0, rwl := 0x0 },
   { base := 0x09804, reset := 0x0, all := 0xffff, rw := 0x0, w1c := 0xff00, w1s := 0x0, rwl := 0x0 },
   { base := 0x09808, reset := 0x18, all := 0xff, rw := 0x0, w1c := 0x0, w1s := 0x0, rwl := 0x0 }]
def regsAdc0 : List RegGroup :=
  [{ base := 0x0a000, reset := 0xf0000, all := 0x3ff0703, rw := 0x3ff0703, w1c := 0x0, w1s := 0x0, rwl := 0x0, n1 := 32, s1 := 0x20 },
   { base := 0x0a004, reset := 0x0, all := 0x67676767, rw := 0x67676767, w1c := 0x0, w1s := 0x0, rwl := 0x0, n1 := 32, s1 := 0x20, n2 := 2, s2 := 0x4 },
   { base := 0x0a00c, reset := 0x0, all := 0xc0ffffff, rw := 0xc0ffffff, w1c := 0x0, w1s := 0x0, rwl := 0x0, n1 := 32, s1 := 0x20 },
   { base := 0x0a010, reset := 0x280000, all := 0xffffffff, rw := 0xffffffff, w1c := 0x0, w1s := 0x0, rwl := 0x0, n1 := 32, s1 := 0x20 },
   { base := 0x0a014, reset := 0x0, all := 0x1, rw := 0x0, w1c := 0x0, w1s := 0x1, rwl := 0x0, n1 := 32, s1 := 0x20 },
   { base := 0x0a018, reset := 0x0, all := 0x18f, rw := 0x0, w1c := 0x10c, w1s := 0x0, rwl := 0x0, n1 := 32, s1 := 0x20 },
   { base := 0x0a01c, reset := 0x0, all := 0xffffffff, rw := 0x0, w1c := 0x0, w1s := 0x0, rwl := 0x0, n1 := 32, s1 := 0x20 },
   { base := 0x0a400, reset := 0x404000, all := 0xffffff13, rw := 0xffffff13, w1c := 0x0, w1s := 0x0, rwl := 0x0, n1 := 16, s1 := 0x20 },
   { base := 0x0a404, reset := 0x3e80000, all := 0xffff0fff, rw := 0xffff0fff, w1c := 0x0, w1s := 0x0, rwl := 0x0, n1 := 16, s1 := 0x20 },
   { base := 0x0a408, reset := 0x0, all := 0xffff007f, rw := 0x0, w1c := 0x10, w1s := 0x0, rwl := 0x0, n1 := 16, s1 := 0x20 },
   { base := 0x0a40c, reset := 0x0, all := 0xffffffff, rw := 0x0, w1c := 0x0, w1s := 0x0, rwl := 0x0, n1 := 16, s1 := 0x20 },
   { base := 0x0a410, reset := 0x0, all := 0xffffffff, rw := 0x0, w1c := 0x0, w1s := 0x0, rwl := 0x0, n1 := 16, s1 := 0x20 },
   { base := 0x0a600, reset := 0x0, all := 0xffffffff, rw := 0x0, w1c := 0x0, w1s := 0x0, rwl := 0x0, n1 := 96, s1 := 0x20 },
   { base := 0x0a604, reset := 0x0, all := 0xffffffff, rw := 0x0, w1c := 0x0, w1s := 0x0, rwl := 0x0, n1 := 96, s1 := 0x20 },
   { base := 0x0a608, reset := 0x0, all := 0xffffffff, rw := 0x0, w1c := 0x0, w1s := 0x0, rwl := 0x0, n1 := 96, s1 := 0x20 },
   { base := 0x0a60c, reset := 0x0, all := 0xffffffff, rw := 0x0, w1c := 0x0, w1s := 0x0, rwl := 0x0, n1 := 96, s1 := 0x20 },
   { base := 0x0a610, reset := 0x0, all := 0xffffffff, rw := 0x0, w1c := 0x0, w1s := 0x0, rwl := 0x0, n1 := 96, s1 := 0x20 },
   { base := 0x0a614, reset := 0x0, all := 0xffffffff, rw := 0x0, w1c := 0x0, w1s := 0x0, rwl := 0x0, n1 := 96, s1 := 0x20 },
   { base := 0x0a618, reset := 0x23000000, all := 0x3f000039, rw := 0x0, w1c := 0x9, w1s := 0x0, rwl := 0x0, n1 := 96, s1 := 0x20 },
   { base := 0x0b200, reset := 0x0, all := 0xffffffff, rw := 0x0, w1c := 0x0, w1s := 0x0, rwl := 0x0, n1 := 48, s1 := 0x20 },
   { base := 0x0b204, reset := 0x0, all := 0xffffffff, rw := 0x0, w1c := 0x0, w1s := 0x0, rwl := 0x0, n1 := 48, s1 := 0x20 },
   { base := 0x0b208, reset := 0x0, all := 0xffffffff, rw := 0x0, w1c := 0x0, w1s := 0x0, rwl := 0x0, n1 := 48, s1 := 0x20 },
   { base := 0x0b20c, reset := 0x0, all := 0xffffffff, rw := 0x0, w1c := 0x0, w1s := 0x0, rwl := 0x0, n1 := 48, s1 := 0x20 },
   { base := 0x0b210, reset := 0x0, all := 0xffffffff, rw := 0x0, w1c := 0x0, w1s := 0x0, rwl := 0x0, n1 := 48, s1 := 0x20 }]
def regsAdc1 : List RegGroup :=
  [{ base := 0x0b214, reset := 0x0, all := 0xffffffff, rw := 0x0, w1c := 0x0, w1s := 0x0, rwl := 0x0, n1 := 48, s1 := 0x20 },
   { base := 0x0b218, reset := 0x23000000, all := 0x3f00007f, rw := 0x0, w1c := 0xd, w1s := 0x0, rwl := 0x0, n1 := 48, s1 := 0x20 },
   { base := 0x0b21c, reset := 0x4001800, all := 0x1f00ff1f, rw := 0x1f00ff1f, w1c := 0x0, w1s := 0x0, rwl := 0x0, n1 := 48, s1 := 0x20 },
   { base := 0x0bf00, reset := 0x103060, all := 0xffffff, rw := 0x0, w1c := 0x0, w1s := 0x0, rwl := 0x0 },
   { base := 0x0bf04, reset := 0x0, all := 0xfff0fff, rw := 0xfff0fff, w1c := 0x0, w1s := 0x0, rwl := 0x0 },
   { base := 0x0bf08, reset := 0x4b0, all := 0xffff, rw := 0xffff, w1c := 0x0, w1s := 0x0, rwl := 0x0 },
   { base := 0x0bf40, reset := 0xffffff, all := 0xe0ffffff, rw := 0xe0ffffff, w1c := 0x0, w1s := 0x0, rwl := 0x0, n1 := 24, s1 := 0x4 }]
def regsFbk0 : List RegGroup :=
  [{ base := 0x0c000, reset := 0x0, all := 0x3f0f, rw := 0x3f0f, w1c := 0x0, w1s := 0x0, rwl := 0x0, n1 := 32, s1 := 0x80 },
   { base := 0x0c004, reset := 0x1900004, all := 0xffff037f, rw := 0xffff037f, w1c := 0x0, w1s := 0x0, rwl := 0x0, n1 := 32, s1 := 0x80 },
   { base := 0x0c008, reset := 0x1000080, all := 0xffffffff, rw := 0xffffffff, w1c := 0x0, w1s := 0x0, rwl := 0x0, n1 := 32, s1 := 0x80 },
   { base := 0x0c00c, reset := 0x310018, all := 0x3ff673f, rw := 0x3ff673f, w1c := 0x0, w1s := 0x0, rwl := 0x0, n1 := 32, s1 := 0x80 },
   { base := 0x0c010, reset := 0x14030000, all := 0xffffffff, rw := 0xffffffff, w1c := 0x0, w1s := 0x0, rwl := 0x0, n1 := 32, s1 := 0x80 },
   { base := 0x0c014, reset := 0xcffff, all := 0x1f1fffff, rw := 0x1f1fffff, w1c := 0x0, w1s := 0x0, rwl := 0x0, n1 := 32, s1 := 0x80 },
   { base := 0x0c018, reset := 0x40f00000, all := 0xffffffff, rw := 0xffffffff, w1c := 0x0, w1s := 0x0, rwl := 0x0, n1 := 32, s1 := 0x80 },
   { base := 0x0c01c, reset := 0x0, all := 0x1, rw := 0x1, w1c := 0x0, w1s := 0x0, rwl := 0x0, n1 := 32, s1 := 0x80 },
   { base := 0x0c020, reset := 0x0, all := 0xffffffff, rw := 0x0, w1c := 0x0, w1s := 0x0, rwl := 0x0, n1 := 32, s1 := 0x80 },
   { base := 0x0c024, reset := 0x0, all := 0xffffffff, rw := 0x0, w1c := 0x0, w1s := 0x0, rwl := 0x0, n1 := 32, s1 := 0x80 },
   { base := 0x0c028, reset := 0x0, all := 0xffffffff, rw := 0x0, w1c := 0x0, w1s := 0x0, rwl := 0x0, n1 := 32, s1 := 0x80 },
   { base := 0x0c02c, reset := 0x0, all := 0xffffffff, rw := 0x0, w1c := 0x0, w1s := 0x0, rwl := 0x0, n1 := 32, s1 := 0x80 },
   { base := 0x0c030, reset := 0x0, all := 0xffffffff, rw := 0x0, w1c := 0x0, w1s := 0x0, rwl := 0x0, n1 := 32, s1 := 0x80 },
   { base := 0x0c038, reset := 0x0, all := 0xffffffff, rw := 0x0, w1c := 0x0, w1s := 0x0, rwl := 0x0, n1 := 32, s1 := 0x80 },
   { base := 0x0c03c, reset := 0x0, all := 0xffffffff, rw := 0x0, w1c := 0x0, w1s := 0x0, rwl := 0x0, n1 := 32, s1 := 0x80 },
   { base := 0x0c040, reset := 0x0, all := 0xffffffff, rw := 0x0, w1c := 0x0, w1s := 0x0, rwl := 0x0, n1 := 32, s1 := 0x80 },
   { base := 0x0c044, reset := 0x0, all := 0xffffffff, rw := 0x0, w1c := 0x0, w1s := 0x0, rwl := 0x0, n1 := 32, s1 := 0x80 },
   { base := 0x0c048, reset := 0x0, all := 0xffffffff, rw := 0x0, w1c := 0x0, w1s := 0x0, rwl := 0x0, n1 := 32, s1 := 0x80 },
   { base := 0x0c04c, reset := 0x0, all := 0xffffffff, rw := 0x0, w1c := 0x0, w1s := 0x0, rwl := 0x0, n1 := 32, s1 := 0x80 },
   { base := 0x0c050, reset := 0x1, all := 0xfff, rw := 0x0, w1c := 0x1f8, w1s := 0x0, rwl := 0x0, n1 := 32, s1 := 0x80 },
   { base := 0x0c054, reset := 0x0, all := 0xffffffff, rw := 0x0, w1c := 0x0, w1s := 0x0, rwl := 0x0, n1 := 32, s1 := 0x80 },
   { base := 0x0c058, reset := 0x0, all := 0xffffffff, rw := 0x0, w1c := 0x0, w1s := 0x0, rwl := 0x0, n1 := 32, s1 := 0x80 }]
def regsLat0 : List RegGroup :=
  [{ base := 0x0e000, reset := 0x640000, all := 0xffff1f3b, rw := 0xffff1f3b, w1c := 0x0, w1s := 0x0, rwl := 0x0, n1 := 16, s1 := 0x40 },
   { base := 0x0e004, reset := 0x0, all := 0xffffffff, rw := 0xffffffff, w1c := 0x0, w1s := 0x0, rwl := 0x0, n1 := 16, s1 := 0x40 },
   { base := 0x0e008, reset := 0x0, all := 0xffffffff, rw := 0xffffffff, w1c := 0x0, w1s := 0x0, rwl := 0x0, n1 := 16, s1 := 0x40 },
   { base := 0x0e00c, reset := 0x0, all := 0x7, rw := 0x0, w1c := 0x0, w1s := 0x7, rwl := 0x0, n1 := 16, s1 := 0x40 },
   { base := 0x0e010, reset := 0x0, all := 0xffffffff, rw := 0x0, w1c := 0x0, w1s := 0x0, rwl := 0x0, n1 := 16, s1 := 0x40 },
   { base := 0x0e014, reset := 0x0, all := 0xffffffff, rw := 0x0, w1c := 0x0, w1s := 0x0, rwl := 0x0, n1 := 16, s1 := 0x40 },
   { base := 0x0e018, reset := 0x0, all := 0xffffffff, rw := 0x0, w1c := 0x0, w1s := 0x0, rwl := 0x0, n1 := 16, s1 := 0x40 },
   { base := 0x0e01c, reset := 0x0, all := 0xffffffff, rw := 0x0, w1c := 0x0, w1s := 0x0, rwl := 0x0, n1 := 16, s1 := 0x40 },
   { base := 0x0e020, reset := 0x0, all := 0xfffffbff, rw := 0x0, w1c := 0x0, w1s := 0x0, rwl := 0x0, n1 := 16, s1 := 0x40 },
   { base := 0x0e024, reset := 0x0, all := 0x1f003d, rw := 0x0, w1c := 0x4, w1s := 0x0, rwl := 0x0, n1 := 16, s1 := 0x40 },
   { base := 0x0e028, reset := 0x0, all := 0xffffffff, rw := 0x0, w1c := 0x0, w1s := 0x0, rwl := 0x0, n1 := 16, s1 := 0x40 }]
def regsCap0 : List RegGroup :=
  [{ base := 0x10000, reset := 0x0, all := 0xfe0f0000, rw := 0xfe0f0000, w1c := 0x0, w1s := 0x0, rwl := 0x0, n1 := 4, s1 := 0x400 },
   { base := 0x10004, reset := 0x14, all := 0xffffff, rw := 0xffffff, w1c := 0x0, w1s := 0x0, rwl := 0x0, n1 := 4, s1 := 0x400 },
   { base := 0x10008, reset := 0x0, all := 0x1ffffff, rw := 0x1ffffff, w1c := 0x0, w1s := 0x0, rwl := 0x0, n1 := 4, s1 := 0x400 },
   { base := 0x1000c, reset := 0x0, all := 0x7fff, rw := 0x7fff, w1c := 0x0, w1s := 0x0, rwl := 0x0, n1 := 4, s1 := 0x400 },
   { base := 0x10010, reset := 0x0, all := 0xf77, rw := 0x0, w1c := 0xf00, w1s := 0x0, rwl := 0x0, n1 := 4, s1 := 0x400 },
   { base := 0x10014, reset := 0x0, all := 0xffffffff, rw := 0x0, w1c := 0x0, w1s := 0x0, rwl := 0x0, n1 := 4, s1 := 0x400 },
   { base := 0x10018, reset := 0x0, all := 0xffffffff, rw := 0x0, w1c := 0x0, w1s := 0x0, rwl := 0x0, n1 := 4, s1 := 0x400 },
   { base := 0x1001c, reset := 0x0, all := 0x7fff, rw := 0x0, w1c := 0x0, w1s := 0x0, rwl := 0x0, n1 := 4, s1 := 0x400 },
   { base := 0x10040, reset := 0x0, all := 0xf1ff01ff, rw := 0xf1ff01ff, w1c := 0x0, w1s := 0x0, rwl := 0x0, n1 := 4, s1 := 0x400, n2 := 16, s2 := 0x4 },
   { base := 0x10080, reset := 0x0, all := 0xf0f00000, rw := 0xf0f00000, w1c := 0x0, w1s := 0x0, rwl := 0x0, n1 := 4, s1 := 0x400, n2 := 8, s2 := 0x10 },
   { base := 0x10084, reset := 0x0, all := 0xffffffff, rw := 0xffffffff, w1c := 0x0, w1s := 0x0, rwl := 0x0, n1 := 4, s1 := 0x400, n2 := 8, s2 := 0x10 },
   { base := 0x10088, reset := 0x0, all := 0xffffffff, rw := 0xffffffff, w1c := 0x0, w1s := 0x0, rwl := 0x0, n1 := 4, s1 := 0x400, n2 := 8, s2 := 0x10 },
   { base := 0x10100, reset := 0x0, all := 0xffffffff, rw := 0xffffffff, w1c := 0x0, w1s := 0x0, rwl := 0x0, n1 := 4, s1 := 0x400, n2 := 8, s2 := 0x20 },
   { base := 0x10104, reset := 0x0, all := 0x7c00000, rw := 0x7c00000, w1c := 0x0, w1s := 0x0, rwl := 0x0, n1 := 4, s1 := 0x400, n2 := 8, s2 := 0x20 },
   { base := 0x10108, reset := 0x1, all := 0xffc0ffff, rw := 0xffc0ffff, w1c := 0x0, w1s := 0x0, rwl := 0x0, n1 := 4, s1 := 0x400, n2 := 8, s2 := 0x20, n3 := 4, s3 := 0x4 },
   { base := 0x11000, reset := 0x4406000, all := 0xffff7fff, rw := 0x0, w1c := 0x0, w1s := 0x0, rwl := 0x0 },
   { base := 0x11004, reset := 0x6000, all := 0x7fff, rw := 0x0, w1c := 0x0, w1s := 0x0, rwl := 0x0 },
   { base := 0x11010, reset := 0x0, all := 0xffff0000, rw := 0xffff0000, w1c := 0x0, w1s := 0x0, rwl := 0x0, n1 := 4, s1 := 0x10 },
   { base := 0x11014, reset := 0x0, all := 0xffffffff, rw := 0xffffffff, w1c := 0x0, w1s := 0x0, rwl := 0x0, n1 := 4, s1 := 0x10 },
   { base := 0x11018, reset := 0x0, all := 0x3, rw := 0x0, w1c := 0x2, w1s := 0x0, rwl := 0x0, n1 := 4, s1 := 0x10 }]
def regsNet0 : List RegGroup :=
  [{ base := 0x12000, reset := 0x800002, all := 0xff00ff, rw := 0x0, w1c := 0x0, w1s := 0x0, rwl := 0x0 },
   { base := 0x12004, reset := 0x14088b5, all := 0xffffffff, rw := 0xffffffff, w1c := 0x0, w1s := 0x0, rwl := 0x0 },
   { base := 0x12008, reset := 0x2710, all := 0xffffffff, rw := 0xffffffff, w1c := 0x0, w1s := 0x0, rwl := 0x0 },
   { base := 0x1200c, reset := 0x0, all := 0xffffffff, rw := 0xffffffff, w1c := 0x0, w1s := 0x0, rwl := 0x0 },
   { base := 0x12010, reset := 0x0, all := 0xffffffff, rw := 0x0, w1c := 0x0, w1s := 0x0, rwl := 0x0 },
   { base := 0x12040, reset := 0x0, all := 0xffffffff, rw := 0x0, w1c := 0x0, w1s := 0x0, rwl := 0x0, n1 := 16, s1 := 0x4 },
   { base := 0x12100, reset := 0x0, all := 0xffff0303, rw := 0xffff0303, w1c := 0x0, w1s := 0x0, rwl := 0x0, n1 := 2, s1 := 0x80 },
   { base := 0x12104, reset := 0x0, all := 0x6d, rw := 0x0, w1c := 0x40, w1s := 0x0, rwl := 0x0, n1 := 2, s1 := 0x80 },
   { base := 0x12108, reset := 0x0, all := 0xffffffff, rw := 0xffffffff, w1c := 0x0, w1s := 0x0, rwl := 0x0, n1 := 2, s1 := 0x80 },
   { base := 0x1210c, reset := 0x0, all := 0xffff, rw := 0xffff, w1c := 0x0, w1s := 0x0, rwl := 0x0, n1 := 2, s1 := 0x80 },
   { base := 0x12110, reset := 0x0, all := 0xffffffff, rw := 0xffffffff, w1c := 0x0, w1s := 0x0, rwl := 0x0, n1 := 2, s1 := 0x80 },
   { base := 0x12114, reset := 0x0, all := 0xffffffff, rw := 0xffffffff, w1c := 0x0, w1s := 0x0, rwl := 0x0, n1 := 2, s1 := 0x80 },
   { base := 0x12118, reset := 0x0, all := 0xffffffff, rw := 0x0, w1c := 0x0, w1s := 0x0, rwl := 0x0, n1 := 2, s1 := 0x80 },
   { base := 0x1211c, reset := 0x0, all := 0xffffffff, rw := 0x0, w1c := 0x0, w1s := 0x0, rwl := 0x0, n1 := 2, s1 := 0x80 },
   { base := 0x12120, reset := 0x0, all := 0xffffffff, rw := 0x0, w1c := 0x0, w1s := 0x0, rwl := 0x0, n1 := 2, s1 := 0x80 },
   { base := 0x12124, reset := 0x0, all := 0xffffffff, rw := 0x0, w1c := 0x0, w1s := 0x0, rwl := 0x0, n1 := 2, s1 := 0x80 },
   { base := 0x12128, reset := 0x0, all := 0xffffffff, rw := 0x0, w1c := 0x0, w1s := 0x0, rwl := 0x0, n1 := 2, s1 := 0x80 },
   { base := 0x1212c, reset := 0x0, all := 0xffffffff, rw := 0x0, w1c := 0x0, w1s := 0x0, rwl := 0x0, n1 := 2, s1 := 0x80 }]
def regsPtp0 : List RegGroup :=
  [{ base := 0x14000, reset := 0x0, all := 0xffffffff, rw := 0x0, w1c := 0x0, w1s := 0x0, rwl := 0x0 },
   { base := 0x14004, reset := 0x0, all := 0xffffffff, rw := 0x0, w1c := 0x0, w1s := 0x0, rwl := 0x0 },
   { base := 0x14008, reset := 0x0, all := 0xffffffff, rw := 0x0, w1c := 0x0, w1s := 0x0, rwl := 0x0 },
   { base := 0x1400c, reset := 0x80000000, all := 0xffffffff, rw := 0x0, w1c := 0x0, w1s := 0x0, rwl := 0x0 },
   { base := 0x14010, reset := 0x2, all := 0xff, rw := 0x0, w1c := 0x0, w1s := 0x0, rwl := 0x0 },
   { base := 0x14014, reset := 0x808001, all := 0x7fffff03, rw := 0x7fffff03, w1c := 0x0, w1s := 0x0, rwl := 0x0 },
   { base := 0x14018, reset := 0xf8feffff, all := 0xffffffff, rw := 0xffffffff, w1c := 0x0, w1s := 0x0, rwl := 0x0 },
   { base := 0x1401c, reset := 0x40001000, all := 0xffffffff, rw := 0xffffffff, w1c := 0x0, w1s := 0x0, rwl := 0x0 },
   { base := 0x14020, reset := 0x186a0, all := 0xffffffff, rw := 0xffffffff, w1c := 0x0, w1s := 0x0, rwl := 0x0 },
   { base := 0x14024, reset := 0x3e8, all := 0xffffffff, rw := 0xffffffff, w1c := 0x0, w1s := 0x0, rwl := 0x0 },
   { base := 0x14028, reset := 0x1000c8, all := 0xffffffff, rw := 0xffffffff, w1c := 0x0, w1s := 0x0, rwl := 0x0 },
   { base := 0x1402c, reset := 0x64, all := 0xffffffff, rw := 0xffffffff, w1c := 0x0, w1s := 0x0, rwl := 0x0 },
   { base := 0x14030, reset := 0x0, all := 0xfff, rw := 0x0, w1c := 0x600, w1s := 0x0, rwl := 0x0 },
   { base := 0x14034, reset := 0x0, all := 0xffffffff, rw := 0x0, w1c := 0x0, w1s := 0x0, rwl := 0x0 },
   { base := 0x14038, reset := 0x0, all := 0xffffffff, rw := 0x0, w1c := 0x0, w1s := 0x0, rwl := 0x0 },
   { base := 0x1403c, reset := 0x0, all := 0xffffffff, rw := 0x0, w1c := 0x0, w1s := 0x0, rwl := 0x0 },
   { base := 0x14040, reset := 0x0, all := 0xffffffff, rw := 0x0, w1c := 0x0, w1s := 0x0, rwl := 0x0 },
   { base := 0x14044, reset := 0x0, all := 0xffffffff, rw := 0x0, w1c := 0x0, w1s := 0x0, rwl := 0x0 },
   { base := 0x14048, reset := 0x0, all := 0xffffffff, rw := 0x0, w1c := 0x0, w1s := 0x0, rwl := 0x0 },
   { base := 0x1404c, reset := 0x0, all := 0xff00ff, rw := 0x0, w1c := 0x0, w1s := 0x0, rwl := 0x0 },
   { base := 0x14100, reset := 0x330c000, all := 0xfff0fff0, rw := 0xfff0fff0, w1c := 0x0, w1s := 0x0, rwl := 0x0, n1 := 2, s1 := 0x80 },
   { base := 0x14104, reset := 0x3, all := 0xffff000f, rw := 0x0, w1c := 0x0, w1s := 0x0, rwl := 0x0, n1 := 2, s1 := 0x80 },
   { base := 0x14108, reset := 0x0, all := 0xffff1f9f, rw := 0x0, w1c := 0x80, w1s := 0x0, rwl := 0x0, n1 := 2, s1 := 0x80 },
   { base := 0x1410c, reset := 0x0, all := 0x7ffff, rw := 0x0, w1c := 0x0, w1s := 0x0, rwl := 0x0, n1 := 2, s1 := 0x80 }]
def regsPtp1 : List RegGroup :=
  [{ base := 0x14110, reset := 0x0, all := 0xffffffff, rw := 0x0, w1c := 0x0, w1s := 0x0, rwl := 0x0, n1 := 2, s1 := 0x80 },
   { base := 0x14114, reset := 0x0, all := 0xffffffff, rw := 0x0, w1c := 0x0, w1s := 0x0, rwl := 0x0, n1 := 2, s1 := 0x80 },
   { base := 0x14118, reset := 0x0, all := 0xffffffff, rw := 0x0, w1c := 0x0, w1s := 0x0, rwl := 0x0, n1 := 2, s1 := 0x80 },
   { base := 0x1411c, reset := 0x0, all := 0x1, rw := 0x0, w1c := 0x0, w1s := 0x1, rwl := 0x0, n1 := 2, s1 := 0x80 }]
def regsDio0 : List RegGroup :=
  [{ base := 0x16000, reset := 0x1020, all := 0xffff, rw := 0x0, w1c := 0x0, w1s := 0x0, rwl := 0x0 },
   { base := 0x16004, reset := 0x0, all := 0xffffffff, rw := 0xffffffff, w1c := 0x0, w1s := 0x0, rwl := 0x0 },
   { base := 0x16008, reset := 0x0, all := 0xffffffff, rw := 0x0, w1c := 0x0, w1s := 0x0, rwl := 0x0 },
   { base := 0x1600c, reset := 0x0, all := 0xffffffff, rw := 0x0, w1c := 0x0, w1s := 0x0, rwl := 0x0 },
   { base := 0x16010, reset := 0x0, all := 0xffffffff, rw := 0x0, w1c := 0xffffffff, w1s := 0x0, rwl := 0x0 },
   { base := 0x16014, reset := 0x0, all := 0xffffffff, rw := 0x0, w1c := 0xffffffff, w1s := 0x0, rwl := 0x0 },
   { base := 0x16018, reset := 0x0, all := 0xffffffff, rw := 0xffffffff, w1c := 0x0, w1s := 0x0, rwl := 0x0 },
   { base := 0x16040, reset := 0x28282828, all := 0xffffffff, rw := 0xffffffff, w1c := 0x0, w1s := 0x0, rwl := 0x0, n1 := 8, s1 := 0x4 },
   { base := 0x16080, reset := 0x0, all := 0xffff, rw := 0x0, w1c := 0x0, w1s := 0x0, rwl := 0x0 },
   { base := 0x16084, reset := 0x0, all := 0xffff, rw := 0x0, w1c := 0x0, w1s := 0x0, rwl := 0x0 },
   { base := 0x16088, reset := 0x0, all := 0xffffffff, rw := 0x0, w1c := 0xffffffff, w1s := 0x0, rwl := 0x0 },
   { base := 0x1608c, reset := 0x0, all := 0xffffffff, rw := 0x0, w1c := 0x0, w1s := 0x0, rwl := 0x0 },
   { base := 0x160c0, reset := 0x0, all := 0xffff001f, rw := 0x0, w1c := 0x12, w1s := 0x0, rwl := 0x0 },
   { base := 0x160c4, reset := 0x0, all := 0xffffffff, rw := 0x0, w1c := 0x0, w1s := 0x0, rwl := 0x0 },
   { base := 0x160c8, reset := 0x0, all := 0xffff, rw := 0x0, w1c := 0x0, w1s := 0x0, rwl := 0x0 }]
def regsShr0 : List RegGroup :=
  [{ base := 0x18000, reset := 0x84, all := 0xff, rw := 0x0, w1c := 0x0, w1s := 0x0, rwl := 0x0 },
   { base := 0x18004, reset := 0x0, all := 0xffffffff, rw := 0x0, w1c := 0x0, w1s := 0x0, rwl := 0x0 },
   { base := 0x18008, reset := 0x0, all := 0xffffffff, rw := 0x0, w1c := 0x0, w1s := 0x0, rwl := 0x0 },
   { base := 0x1800c, reset := 0x0, all := 0xffffffff, rw := 0x0, w1c := 0x0, w1s := 0x0, rwl := 0x0 },
   { base := 0x18010, reset := 0x0, all := 0xff, rw := 0x0, w1c := 0x0, w1s := 0x0, rwl := 0x0 },
   { base := 0x18020, reset := 0x44444444, all := 0xffffffff, rw := 0x0, w1c := 0x0, w1s := 0x0, rwl := 0x0 },
   { base := 0x18024, reset := 0x0, all := 0xffffffff, rw := 0x0, w1c := 0x0, w1s := 0x0, rwl := 0x0 },
   { base := 0x18030, reset := 0x0, all := 0xffffff, rw := 0x0, w1c := 0x0, w1s := 0x0, rwl := 0x0 },
   { base := 0x18034, reset := 0x0, all := 0xffffff, rw := 0x0, w1c := 0x0, w1s := 0x0, rwl := 0x0 },
   { base := 0x18040, reset := 0xaaaaaaaa, all := 0xffffffff, rw := 0x0, w1c := 0x0, w1s := 0x0, rwl := 0x0 },
   { base := 0x18100, reset := 0x0, all := 0xffffff0f, rw := 0x0, w1c := 0x0, w1s := 0x0, rwl := 0x0, n1 := 32, s1 := 0x4 },
   { base := 0x18200, reset := 0x0, all := 0xffff0007, rw := 0x0, w1c := 0x0, w1s := 0x0, rwl := 0x0, n1 := 64, s1 := 0x10 },
   { base := 0x18204, reset := 0x0, all := 0xffffffff, rw := 0x0, w1c := 0x0, w1s := 0x0, rwl := 0x0, n1 := 64, s1 := 0x10 },
   { base := 0x18208, reset := 0x0, all := 0xffffffff, rw := 0x0, w1c := 0x0, w1s := 0x0, rwl := 0x0, n1 := 64, s1 := 0x10 },
   { base := 0x1820c, reset := 0x0, all := 0xffffffff, rw := 0x0, w1c := 0x0, w1s := 0x0, rwl := 0x0, n1 := 64, s1 := 0x10 },
   { base := 0x18800, reset := 0xff, all := 0xffffffff, rw := 0x0, w1c := 0x0, w1s := 0x0, rwl := 0x0, n1 := 127, s1 := 0x10 },
   { base := 0x18804, reset := 0x0, all := 0xffffffff, rw := 0x0, w1c := 0x0, w1s := 0x0, rwl := 0x0, n1 := 127, s1 := 0x10 },
   { base := 0x18808, reset := 0x0, all := 0xffffffff, rw := 0x0, w1c := 0x0, w1s := 0x0, rwl := 0x0, n1 := 127, s1 := 0x10 },
   { base := 0x1880c, reset := 0x0, all := 0xffffffff, rw := 0x0, w1c := 0x0, w1s := 0x0, rwl := 0x0, n1 := 127, s1 := 0x10 },
   { base := 0x19000, reset := 0x0, all := 0xffffffff, rw := 0x0, w1c := 0x0, w1s := 0x0, rwl := 0x0 },
   { base := 0x19008, reset := 0x0, all := 0x3, rw := 0x0, w1c := 0x0, w1s := 0x0, rwl := 0x3 }]
def regsDbg0 : List RegGroup :=
  [{ base := 0x1c000, reset := 0x28000001, all := 0xff000003, rw := 0x0, w1c := 0x0, w1s := 0x0, rwl := 0x0 },
   { base := 0x1c004, reset := 0x0, all := 0xffff000f, rw := 0xffff0001, w1c := 0x8, w1s := 0x0, rwl := 0x0 },
   { base := 0x1c010, reset := 0x0, all := 0xfe00003f, rw := 0x7800003f, w1c := 0x4000000, w1s := 0x80000000, rwl := 0x0 },
   { base := 0x1c014, reset := 0x0, all := 0xffffffff, rw := 0xffffffff, w1c := 0x0, w1s := 0x0, rwl := 0x0 },
   { base := 0x1c018, reset := 0x0, all := 0xffffffff, rw := 0xffffffff, w1c := 0x0, w1s := 0x0, rwl := 0x0 },
   { base := 0x1c01c, reset := 0x0, all := 0xffffffff, rw := 0xffffffff, w1c := 0x0, w1s := 0x0, rwl := 0x0 },
   { base := 0x1c100, reset := 0x0, all := 0x7, rw := 0x0, w1c := 0x0, w1s := 0x7, rwl := 0x0, n1 := 40, s1 := 0x8 },
   { base := 0x1c104, reset := 0x0, all := 0xffff000f, rw := 0x0, w1c := 0x0, w1s := 0x0, rwl := 0x0, n1 := 40, s1 := 0x8 }]

/-- The families of the block an address lies in (Table 1.10, R50); from 0x2_0000 on there are none. -/
def blockRegs (a : Nat) : List RegGroup :=
  if a < 0x1000 then regsGlb0
  else if a < 0x2000 then regsHri0 ++ regsHri1
  else if a < 0x3000 then regsClk0
  else if a < 0x4000 then regsPwt0
  else if a < 0x8000 then regsImg0
  else if a < 0xa000 then regsPwm0
  else if a < 0xc000 then regsAdc0 ++ regsAdc1
  else if a < 0xe000 then regsFbk0
  else if a < 0x10000 then regsLat0
  else if a < 0x12000 then regsCap0
  else if a < 0x14000 then regsNet0
  else if a < 0x16000 then regsPtp0 ++ regsPtp1
  else if a < 0x18000 then regsDio0
  else if a < 0x1c000 then regsShr0
  else if a < 0x20000 then regsDbg0
  else []

/-- The family of an address; none where BAR0 holds no register (R9). -/
def regGroup? (a : Nat) : Option RegGroup := (blockRegs a).find? (fun g => g.has a)

/-- The reset word of the register at an address; 0 where there is none (R9). `HRI.RINGn_CFG.VEC` resets to
3 + (n mod 29) (Table 2.20). -/
def regReset (a : Nat) : W32 :=
  match regGroup? a with
  | none => 0
  | some g =>
    if g.base = 0x1410 then BitVec.ofNat 32 (g.reset + (3 + (a - 0x1410) / 0x30 % 29) * 256)
    else BitVec.ofNat 32 g.reset

end Sys2Proof.Machine
end

