-- ==== Sys2Proof/Machine/Table.lean ====
section
/-!
DEFINITION. Reading and writing a sparse table in its one canonical form: numbers strictly rising, no entry equal to
the default `d` of its number. Writing a default value removes the entry, so equal contents are equal lists.
-/
namespace Sys2Proof.Machine

/-- What number `k` holds; `d` when it is not listed. -/
def Table.look {α : Type} (d : α) (t : Table α) (k : Nat) : α :=
  match t with
  | [] => d
  | (k', v) :: r => if k' = k then v else Table.look d r k

/-- The table in which number `k` holds `v`, where the default of `k` is `d`. Whatever the table was, `k` is listed at most once after. -/
def Table.put {α : Type} [DecidableEq α] (d : α) (k : Nat) (v : α) : Table α → Table α
  | [] => if v = d then [] else [(k, v)]
  | (k', v') :: r =>
    if k' = k then Table.put d k v r
    else if k < k' then
      (if v = d then (k', v') :: r.filter (fun e => e.1 != k) else (k, v) :: (k', v') :: r.filter (fun e => e.1 != k))
    else (k', v') :: Table.put d k v r

/-- Changes what number `k` holds. -/
def Table.upd {α : Type} [DecidableEq α] (d : α) (k : Nat) (f : α → α) (t : Table α) : Table α :=
  Table.put d k (f (Table.look d t k)) t

/-- Changes what every listed number holds; entries that become the default are dropped. -/
def Table.mapVals {α : Type} [DecidableEq α] (d : α) (f : α → α) (t : Table α) : Table α :=
  (t.map (fun e => (e.1, f e.2))).filter (fun e => decide (e.2 ≠ d))

/-- The numbers of a table are strictly rising, each above `lo` where there is a bound. -/
def Table.rising {α : Type} : Option Nat → Table α → Bool
  | _, [] => true
  | none, (k, _) :: r => Table.rising (some k) r
  | some lo, (k, _) :: r => decide (lo < k) && Table.rising (some k) r

/-- The canonical form: numbers strictly rising, no entry equal to its default. -/
def Table.wf {α : Type} [DecidableEq α] (d : Nat → α) (t : Table α) : Bool :=
  Table.rising none t && t.all (fun e => decide (e.2 ≠ d e.1))

end Sys2Proof.Machine
end

