-- ==== Sys2Proof/Machine/State.lean ====
section
/-!
DEFINITION. The state of the OVK6480 as plain data: the BAR0 registers (sparse, each listed only where it differs from its
reset word), the state behind them chapter by chapter, the host memory the part has written, and the queue of commands.
Every field's declared default is its reset value; `State.reset` is the state in which each field holds it.
-/
namespace Sys2Proof.Machine

/-- No command of this block stops the machine: everything the manual describes is an effect on the state, so there is no
fault a meaning could raise. The one constructor is kept for a state that breaks the model's own invariant and is raised by
nobody (safe: a stop proves nothing). -/
inductive Fault where
  | neverRaised
deriving DecidableEq, Repr

/-- Why a command is refused. -/
inductive Refusal where
  /-- Raised by the arms of `exec` that have no meaning yet. Safe: it only stops. -/
  | notModelled (mnemonic : String)
deriving DecidableEq, Repr


/-! ## Host interface (spec/02_host_rings.md) -/

/-- An event record before it is written to host memory (Table 2.13): TIME is the local time in ns. -/
structure Event where
  code : BitVec 16
  sev : Nat
  data : BitVec 16
  ctrl : BitVec 16
  time : W64
  payload : BitVec 128 := 0
deriving DecidableEq, Repr

/-- Flags that have set for the first time since their clear in the present tick, for the sticky events that are raised at most
once in each tick (R195, R321, R351, R391): the event's code, places, payload prefix, byte of the flags, the flags, which of
them make it a warning, and the time of the first. -/
structure Note where
  code : Nat
  data : Nat
  ctrl : Nat
  pre : List (Nat × Nat × Nat)
  byte : Nat
  flags : Nat
  warn : Nat
  time : Nat
deriving DecidableEq, Repr

/-- What a FENCE waits for (R64): for each covered ring, the submission count recorded and the ring's generation, and the
step in which the FENCE was applied. -/
structure FenceHold where
  covered : List (Nat × W32 × Nat)
  step : Nat
deriving DecidableEq, Repr

/-- A write of a ring in the present tick: a completion record, or a report before it (R76): host address, the bytes that stood
there, the count of the completion record it is or precedes, and, for the event ring, the event. -/
structure RingWrite where
  addr : Nat
  old : List Byte
  count : W32
  event : Option Event := none
deriving DecidableEq, Repr

/-- A submission ring (R71 to R76, R80). `t` SQ_TAIL and `k` CQ_HEAD as recorded, `h` descriptors fetched, `c` completion
records written, `done` descriptors applied or rejected, `g` the effective grant, `gen` how often the ring has dropped its
descriptors, `done0`/`gen0` both as VE's present step began to fetch (R64), `dbT`/`dbK`/`arrival` a doorbell not yet recorded, `armed` the step
of the arrival that started the watchdog (none once it has acted), `fence`/`held` the FENCE hold and the descriptors held behind it,
`wrote` the writes of this tick in their order (R76), `irqSent` whether the vector has been raised in this tick. -/
structure Ring where
  t : W32 := 0
  k : W32 := 0
  h : W32 := 0
  c : W32 := 0
  done : W32 := 0
  g : Nat := 0
  gen : Nat := 0
  dbT : Option W32 := none
  dbK : Option W32 := none
  arrival : Bool := false
  armed : Option Nat := none
  fence : Option FenceHold := none
  held : List (Nat × Desc) := []
  done0 : W32 := 0
  gen0 : Nat := 0
  wrote : List RingWrite := []
  irqSent : Bool := false
deriving DecidableEq, Repr

/-- A binding that VE has made (R325, R353): the kind (0 AIN, 1 SDI, 2 FB, 3 LAT), the number and the engine. -/
structure Binding where
  kind : Nat
  number : Nat
  engine : Nat
deriving DecidableEq, Repr

/-- The host interface: the rings, the event buffer (R83), the interrupts raised in this tick (R86), the
HRI writes waiting for the next step in their order (R65), the holding copies and half-written wide registers (R8), the MSI-X table and
the vectors pending while their entry masks them (R70), the records the event ring has taken in this tick (R76), the word the
latest register read returned (the model's own), and the bindings that VE has made in its step and that reach the engines at the next
strobe (R38). -/
structure HostSt where
  rings : Table Ring := []
  evBuf : List Event := []
  evDropped : Nat := 0
  evHost : W32 := 0
  evDb : Option W32 := none
  crDb : Table (Option W32) := []
  irqs : List Nat := []
  notes : List Note := []
  hriPend : List (Nat × W32) := []
  holds : Table (Option W32) := []
  wideLo : Table (Option W32) := []
  msix : Table W32 := []
  msixPend : List Nat := []
  evWrote : List RingWrite := []
  readData : W32 := 0
  binds : List Binding := []
deriving DecidableEq, Repr

/-! ## Clock and ticks (spec/01_architecture_and_tick.md) -/

/-- The local clock in units of 2^-32 ns at the latest strobe (R28), its increment per cycle (R423) and the one pending for
the next strobe, the cycle of the present tick at which the current command acts (the model's own), whether this tick is a
long one (R31), the sub-tick dividers in force (R32), the engines that run late (R42), consecutive sub-tick overruns (R43),
writes that wait for the next tick, whether a request for an FT or a divider was pending at the latest entry into STANDBY
(R29), the W1C bits that hardware has set in the present cycle, by register (R11), and the registers that engines have written in it
(R264). -/
structure ClkSt where
  clk : Nat := 0
  incr : Nat := 0x0280000000
  incrNext : Option Nat := none
  cyc : Nat := 0
  longTick : Bool := false
  ticks : Nat := 0
  subAct : Table Nat := []
  late : Table Bool := []
  subOvrRun : Table Nat := []
  tickWrites : List (Nat × W32) := []
  ftDue : Bool := false
  fresh : Table Nat := []
  engWrote : List Nat := []
deriving DecidableEq, Repr

/-! ## Modes, resets, life cycle (spec/03_modes_and_startup.md) -/

/-- A mode change: the mode, its cause (Table 3.12) and its rank (Table 3.5). -/
structure Decision where
  target : Nat
  cause : Nat
  rank : Nat
deriving DecidableEq, Repr

/-- A MODE descriptor that VE has applied in the present step: where its completion stands, its target, whether its request stands, and whether
its GROUP_CLR cleared a group (R100, R101). -/
structure HostMode where
  record : Nat
  target : Nat
  stands : Bool
  cleared : Bool
deriving DecidableEq, Repr

/-- Mode control: the change decided for the next strobe (R96), the triggers VE sees in its next step (R100), the mode before
BACKSTAY and the step in which the window expires (R98), the MODE descriptors of the present step, the start-up step (Table 3.8),
whether start-up has stopped (R110), an accepted life-cycle change and the pending-wipe mark (R116), whether the PLL has lost lock
(Table 3.7), and the ticks since a restart of VE that has not signalled done (Table 3.7). -/
structure ModeSt where
  decided : Option Decision := none
  reqs : List Decision := []
  backFrom : Nat := 0
  windowDue : Option Nat := none
  host : List HostMode := []
  bootStep : Nat := 0
  bootStop : Bool := false
  lcTarget : Option Nat := none
  wipeMark : Bool := false
  pllLost : Bool := false
  veWatch : Option Nat := none
deriving DecidableEq, Repr


/-! ## Planner (spec/04_motion_planner.md)

Along a path the speed is held in units of 2^-65 counts/s, the acceleration in 2^-32 counts/s^2 and the distance in
1/(3 * 2^97) count: with phase durations in 2^-32 s (R127) the formulas of R124 are then exact in integers. -/

/-- A motion profile (R123, Table 4.3): V in Q40.24, A and D in Q48.16, J in counts/s^3; 0 sets no value. -/
structure Profile where
  v : Nat := 0
  a : Nat := 0
  d : Nat := 0
  j : Nat := 0
deriving DecidableEq, Repr

/-- A linear segment (R129, R130): the named members, start and target of each member (Q48.16), the lead member, the path
length |Δlead| (Q48.16) and its V (Q40.24), A, D (Q48.16) and J; `profV` the profile taken when it was applied. -/
structure Seg where
  tag : Nat
  ctol : Nat
  feed : Nat
  prof : Nat
  profV : Profile
  named : List Nat
  start : List Int
  target : List Int
  lead : Nat
  len : Nat
  v : Nat
  a : Nat
  d : Nat
  j : Nat
  /-- Formed afresh from the stop point when it starts (R151). -/
  reform : Bool := false
  /-- The way to rest of a discarded segment, which holds no slot (R151). -/
  noSlot : Bool := false
  /-- The step in which VE applied its descriptor (R128). -/
  step : Nat := 0
deriving DecidableEq, Repr

/-- A gear or cam entry (R155 to R159): `cam` the table or none for a gear. -/
structure Couple where
  tag : Nat
  off : Bool
  cam : Option Nat
  source : Nat
  master : Nat
  member : Nat
  catchUp : Bool
  num : Int
  den : Nat
  clutch : Nat
  mOff : Int
  sOff : Int
  step : Nat := 0
deriving DecidableEq, Repr

/-- A queue entry (R134). -/
inductive Entry where
  | move (s : Seg)
  | couple (c : Couple)
deriving DecidableEq, Repr

/-- A phase of constant jerk (R124): duration in 2^-32 s, jerk, and the path state at its start. -/
structure Phase where
  n : Nat
  j : Int
  s : Int
  v : Int
  a : Int
deriving DecidableEq, Repr

/-- An executing segment: its phases, the time since its start in 1/125 of 2^-32 s, the number of phases before its final
ramp, the blend at its end (speed, length of the overlap in 2^-32 s, 0 none, limit and jerk of its ramp), whether a STOP ends it at
rest short of its target, the peak speed the plan was made for, where its members stand at its end if not at the segment's target
(R151), whether the plan knew a successor (R137), and the member that passes a soft limit on the way to rest, with its position at
standstill (R146). -/
structure Exec where
  seg : Seg
  phases : List Phase
  el : Nat := 0
  total : Nat
  tailFrom : Nat
  vEnd : Int := 0
  tb : Nat := 0
  xb : Nat := 0
  jb : Nat := 0
  stopped : Bool := false
  cap : Nat := 0
  stopAt : Option (List Int) := none
  succ : Bool := false
  beyond : Option (Nat × Int) := none
deriving DecidableEq, Repr

/-- A member that stops on its own (R142, R150): start position (Q48.16), direction, phases in its own counts, elapsed; `slot` where
it is the disengagement of a gear or cam, which holds a queue slot (R134, R155). -/
structure MemberStop where
  member : Nat
  pos : Int
  neg : Bool
  phases : List Phase
  el : Nat := 0
  total : Nat
  slot : Bool := false
deriving DecidableEq, Repr

/-- A gear or cam in force (R156, R159): the master and slave positions at engagement, the offset taken up as slip, the
demand of the tick before and its rate, the slip kept, and whether the slip event and the range event have been raised in this excursion. -/
structure Rel where
  c : Couple
  m0 : Int
  s0 : Int
  off : Int := 0
  want : Int := 0
  rate : Int := 0
  slip : Int := 0
  slipSeen : Bool := false
  rangeOut : Bool := false
deriving DecidableEq, Repr

/-- An open MOVE of a ring (R133): its group, header, targets received by member, parts taken and the step of the latest part. -/
structure OpenMove where
  group : Nat
  tag : Nat
  ctol : Nat
  feed : Nat
  prof : Nat
  rel : Bool
  imm : Bool
  targets : List (Nat × Int)
  parts : Nat
  step : Nat
  reserved : Bool
deriving DecidableEq, Repr

/-- The group trigger that stands in a VE step (R95): the step, its standing (3 FAULTED, 2 QUARANTINED, 1 stops motion, 0 starts
it), the state it met, and where the completion of its command stands in host memory. -/
structure GrpTrig where
  step : Nat
  rank : Nat
  met : Nat
  record : Option Nat := none
deriving DecidableEq, Repr

/-- What a planner engine takes up in its next tick (R128): a stop (R142, R143), a change of the window (R136), an immediate target
(R151), or LIVE values, each segment with what it becomes (R153). -/
inductive PlanAct where
  | stop
  | window
  | immediate
  | live (segs : List (Seg × Seg))
deriving DecidableEq, Repr

/-- A group's plan: profiles, queue, the executing segment and its blend successor, members stopping on their own, gears and
cams in force, what the next tick takes up, slots freed and not yet published (R134), whether a ceiling lowers the plan, whether a
LIVE value is overridden, and the values published for GROUP_REPORT in the tick before (R161); `trig` the group's trigger of the
latest step (R95). -/
structure GroupP where
  profiles : Table Profile := []
  queue : List Entry := []
  cur : Option Exec := none
  nxt : Option Exec := none
  stops : List MemberStop := []
  rels : List Rel := []
  todo : List PlanAct := []
  freed : Nat := 0
  reef : Bool := false
  overridden : Bool := false
  evalNs : Nat := 0
  visFlags : Nat := 0
  visTag : Nat := 0
  visLeft : Int := 0
  visV : Int := 0
  visNs : Nat := 0
  visState : Nat := 0
  visFree : Nat := 256
  visQueued : Nat := 0
  trig : Option GrpTrig := none
deriving DecidableEq, Repr

/-- An axis (R119 to R122): group and member, NO_REVERSE, LEAD_TICKS, limits, planner engine of a remote axis (R20), setpoint
(position Q48.16, velocity Q40.24, acceleration Q48.16) as published in this tick and as visible to the others (R35), the
previous target of its member, whether the axis is faulted, and whether its Halyard node has left the link (R149). -/
structure AxisP where
  bound : Option (Nat × Nat) := none
  noReverse : Bool := false
  lead : Nat := 0
  softMin : Int := -9223372036854775808
  softMax : Int := 9223372036854775807
  vmax : Nat := 0
  amax : Nat := 0
  jmax : Nat := 0
  pe : Option Nat := none
  peOrder : Nat := 0
  pos : Int := 0
  vel : Int := 0
  acc : Int := 0
  visPos : Int := 0
  visVel : Int := 0
  visAcc : Int := 0
  target : Int := 0
  faulted : Bool := false
  left : Bool := false
deriving DecidableEq, Repr

/-- A cam table (R158): master and slave positions (Q48.16), whether it is periodic, whether the spline is computed; `next` the
points of a CAM_LOAD whose spline is not yet computed. -/
structure Cam where
  pts : List (Int × Int) := []
  periodic : Bool := false
  ready : Bool := false
  next : Option (List (Int × Int) × Bool) := none
deriving DecidableEq, Repr

structure PlanSt where
  axes : Table AxisP := []
  groups : Table GroupP := []
  opens : Table (Option OpenMove) := []
  cams : Table Cam := []
  binds : Nat := 0
deriving DecidableEq, Repr


/-! ## Loops (spec/05_servo_loops.md) -/

/-- A notch (R189 to R192): its configuration (Table 5.15), coefficients in Q4.60 and states; `raw` a biquad loaded by NOTCH_RAW. -/
structure Notch where
  mode : Nat := 0
  raw : Bool := false
  lock : Bool := false
  depth : Nat := 0
  width : Nat := 0
  f0 : Nat := 0
  fMax : Nat := 0
  fMin : Nat := 0
  rate : Nat := 0
  b0 : Int := 0
  b1 : Int := 0
  b2 : Int := 0
  a1 : Int := 0
  a2 : Int := 0
  x1 : Int := 0
  x2 : Int := 0
  y1 : Int := 0
  y2 : Int := 0
  edge : Bool := false
deriving DecidableEq, Repr

/-- The configuration of an axis's loops with the reset values of Tables 5.10 to 5.14 and 5.17. -/
structure LoopCfg where
  ifs : Nat := 0
  dirInv : Bool := false
  fbCh : Nat := 0xFF
  polePairs : Nat := 1
  kind : Nat := 0
  angleOfs : Nat := 0
  countsRev : Nat := 1
  iTrip : Nat := 0x40000000
  iLimit : Nat := 0
  vbusFs : Nat := 0
  vbusIn : Nat := 0xFF
  modMax : Nat := 0x40000000
  vbusNom : Nat := 0
  inA : Nat := 0xFF
  inB : Nat := 0xFF
  inC : Nat := 0xFF
  window : Bool := false
  sdi : Bool := false
  avg : Bool := false
  bemf : Bool := false
  decouple : Bool := false
  ti : Nat := 0
  kpI : Nat := 0
  xq : Nat := 0
  xd : Nat := 0
  ke : Nat := 0
  velFb : Nat := 0xFF
  vsrc : Nat := 0
  kv : W64 := 0
  tf : Nat := 0
  tn : Nat := 0
  kaff : W64 := 0
  scaleMax : Nat := 0x01000000
  scaleMin : Nat := 0x01000000
  posFb : Nat := 0xFF
  kp : W64 := 0
  vff : Nat := 0x40000000
  feMax : Nat := 0
  openLoop : Bool := false
  stallFault : Bool := false
  lf : Bool := false
  iMax : Nat := 0
  iMin : Nat := 0
  deltaHi : Nat := 0x2AAAAAAB
  deltaLo : Nat := 0x0E38E38E
  fallTicks : Nat := 0x100
  iHold : Nat := 0
  motorDone : Bool := false
  isenseDone : Bool := false
deriving DecidableEq, Repr

/-- A resonance found by identification (Table 5.21). -/
structure Resonance where
  f : Nat
  damp : Nat
  peak : Nat
  placed : Nat := 0xFF
deriving DecidableEq, Repr

/-- What the Ephagon image does in a step of identification: nothing, a planned path from an origin in one direction, a current step of
one sign, or (alone) the excitation of the step. -/
inductive IdRun where
  | rest
  | path (phases : List Phase) (origin : Int) (forward : Bool)
  | push (forward : Bool) (origin : Int)
  | excite
deriving DecidableEq, Repr

/-- Identification of one axis (R203 to R209, Tables 5.8, 5.18, 5.21): the start position, the runs of the present step that have begun,
the run with its speed limit and the ticks it has taken, and the values that were given and measured. -/
structure Ident where
  state : Nat := 0
  start : Int := 0
  begun : Nat := 0
  run : IdRun := .rest
  vRun : Nat := 0
  el : Nat := 0
  steps : Nat := 0
  place : Bool := false
  travel : Nat := 0
  vmax : Nat := 0
  ampl : Nat := 0
  imax : Nat := 0
  valid : Nat := 0
  cause : Nat := 0xFF
  rs : Nat := 0
  xd : Nat := 0
  xq : Nat := 0
  angleOfs : Nat := 0
  coulomb : Int := 0
  b : W64 := 0
  ji : W64 := 0
  res : List Resonance := []
  kpI : Nat := 0
  ti : Nat := 0
  kv : W64 := 0
  tn : Nat := 0
  kp : W64 := 0
  amplUsed : Nat := 0
  time : Nat := 0
deriving DecidableEq, Repr

/-- The loops of an axis: configuration as VE holds it and as the engine uses it since a strobe (R38), notches and the definitions that
wait for a strobe, the word of ADC.GATEn that the image wrote last (R343), whether its loops are closed and its current stage runs, the extended position
(Q48.16) with the count it was formed from, the extended position of the commutation channel, the values of Table 5.20, the
integrators (velocity: 2^-54 of full-scale current; d and q: 2^-54 of VBUS_FS), the update in progress (R170, R171), the delay
predicted for it and the update count seen last (R174), the extremes of the delay since the latest report, consecutive updates
with a held phase or with overcurrent, the stepper values, the sticky flags with the ones to clear at the next strobe, and
identification. The speed channel's count of the latest strobe and its difference over the tick (R183), and the actual position and
speed that other engines see (R35), stand beside the extended position. -/
structure AxisL where
  cfg : LoopCfg := {}
  use : LoopCfg := {}
  notches : Table Notch := []
  notchPend : List (Nat × Notch) := []
  gate : Nat := 0x00FFFFFF
  closed : Bool := false
  curRun : Bool := false
  actual : Int := 0
  lastCnt : W32 := 0
  velCnt : W32 := 0
  velDiff : Int := 0
  actVis : Int := 0
  vActVis : Int := 0
  comPos : Int := 0
  comCnt : W32 := 0
  vAct : Int := 0
  vFilt : Int := 0
  vCmd : Int := 0
  pErr : Int := 0
  iSet : Int := 0
  iNext : Int := 0
  velInt : Int := 0
  intD : Int := 0
  intQ : Int := 0
  id : Int := 0
  iq : Int := 0
  vd : Int := 0
  vq : Int := 0
  ia : Int := 0
  ib : Int := 0
  ic : Int := 0
  thetaM : Nat := 0
  tRead : Nat := 0
  omegaE : Int := 0
  theta : Nat := 0
  updating : Bool := false
  dPred : Nat := 0
  updSeen : Nat := 0
  dlyMin : Nat := 0
  dlyMax : Nat := 0
  dlySeen : Bool := false
  dlyLong : Bool := false
  samplesA : Nat := 0
  samplesB : Nat := 0
  held : Nat := 0
  heldRun : Nat := 0
  isenseAct : Nat := 0
  fallback : Bool := false
  ocRun : Nat := 0
  iStep : Int := 0
  loadAngle : Int := 0
  lostSteps : Nat := 0
  lostArmed : Bool := true
  flagsI : Nat := 0
  flagsV : Nat := 0
  flagsP : Nat := 0
  clrI : Nat := 0
  clrV : Nat := 0
  clrP : Nat := 0
  valNs : Nat := 0
  scale : Nat := 0x01000000
  ident : Ident := {}
deriving DecidableEq, Repr

structure LoopSt where
  axes : Table AxisL := []
deriving DecidableEq, Repr

/-! ## Web line (spec/06_web_spans_and_hauldown.md)

Web quantities are in units of 2^-32 of their SI unit (R213); draws and shares are Q2.30. -/

/-- A roll (Table 6.3): counts per revolution, fixed diameter, capacity, torque scale; the draw sum with the gear correction and the
current correction as published in this tick and as visible to the loops (R231), its share rho (R244) and its actual position of the tick before. -/
structure RollSt where
  on : Bool := false
  cpr : Nat := 1
  dFix : Nat := 0
  cap : Nat := 0
  kt : Nat := 0
  dvNew : Int := 0
  diNew : Int := 0
  dvVis : Int := 0
  diVis : Int := 0
  rho : Nat := 0x40000000
  lastPos : Int := 0
deriving DecidableEq, Repr

/-- A span with its tension loop (Tables 6.4 and 6.5): the estimate (R221), whether it is valid,
the material in force, the effective setpoint, integrator and output of the loop, whether the loop runs, what is left of a ramp
to 0 after TENSION_ON fell (R230), flags of Table 6.11 that have been raised in the present excursion, and the break count. -/
structure SpanSt where
  on : Bool := false
  up : Nat := 0
  dn : Nat := 0
  upstream : Nat := 0xFF
  len : Nat := 0
  lane : Nat := 0x40000000
  band : Nat := 0x03333333
  tMax : Nat := 0
  tIn : Nat := 0
  source : Nat := 0
  act : Bool := false
  ctrl : Bool := true
  cascade : Bool := false
  fb : Bool := false
  input : Nat := 0xFF
  tSet : Nat := 0
  tRate : Nat := 0
  kp : W64 := 0
  tn : Nat := 0
  lim : Nat := 0
  gain : Int := 0
  zero : Nat := 0
  corrM : Nat := 0
  tBreak : Nat := 0
  ea : Nat := 0
  t : Int := 0
  valid : Bool := false
  meas : Int := 0
  tEff : Int := 0
  running : Bool := false
  integ : Int := 0
  corr : Int := 0
  ramp : Nat := 0
  rampFrom : Int := 0
  slack : Bool := false
  limHit : Bool := false
  bandOut : Bool := false
  overMax : Bool := false
  broke : Bool := false
  breakRun : Nat := 0
deriving DecidableEq, Repr

/-- A winder (Table 6.6): its diameter in 2^-64 m, the last ratio estimate, inertia, scale and prediction, the thickness in
force, the revolution window (winder position at its start in Q48.16 counts, web length passed by the other roll since, whether
the surface speed fell below ZERO_SPEED), and the excursions raised. -/
structure WinderSt where
  on : Bool := false
  unwind : Bool := false
  span : Nat := 0
  axis : Nat := 0
  dMax : Nat := 0
  dCore : Nat := 0
  dGear : Nat := 0
  h : Nat := 0
  jFix : Nat := 0
  rho : Nat := 0
  jRef : Nat := 0
  fRef : Nat := 0
  devMax : Nat := 0
  taper : Nat := 0
  trust : Nat := 0x4000
  d : Nat := 0
  hNow : Nat := 0
  ratio : Nat := 0
  j : Nat := 0
  scale : Nat := 0x01000000
  pred : Nat := 0
  revPos : Int := 0
  revLen : Int := 0
  slow : Bool := false
  dev : Bool := false
  atCore : Bool := false
  atMax : Bool := false
deriving DecidableEq, Repr

/-- A material change (R225): EA and thickness, entry span, whether it takes effect downstream without transport (ALL), the line position
it waits for, the line web length at its entry, and
the spans and winders that have taken it. -/
structure Mat where
  ea : Nat
  h : Nat
  span : Nat
  all : Bool
  wait : Option Int
  entered : Int
  spans : List Nat
  winders : List Nat
deriving DecidableEq, Repr

/-- The haul-down figures (R244): speed, acceleration, stop distance in m and counts, stop time in ns, deceleration, weakest axis,
state, warning, and HOLD_NEED in ms (R250). -/
structure Figures where
  tick : Nat := 0
  vL : Int := 0
  aL : Int := 0
  dist : Int := 0
  cnt : Int := 0
  time : Nat := 0
  aHd : Nat := 0
  weak : Nat := 0xFF
  state : Nat := 3
  hdWeak : Bool := false
  need : Nat := 0
deriving DecidableEq, Repr

/-- A running haul-down (R245, R247): the phases of the profile over lengths of 2^-32 m, the tick T_on / FT from which they count,
the line speed at onset, the distance that earlier profiles of this stop covered (2^-32 m), the deceleration in use, the ticks at
standstill, and V and a of the present tick. -/
structure Haul where
  phases : List Phase
  t0 : Nat
  v0 : Int
  before : Int := 0
  aHd : Nat
  still : Nat := 0
  speed : Int := 0
  accel : Int := 0
deriving DecidableEq, Repr

/-- The line (Table 6.2), its rolls, spans, winders and material in transit, the spans and winders as their Sheet engines published them in
the tick before (R35, R240), the line web length (2^-32 m), the figures of this tick and those published in the tick before, and a
running haul-down. -/
structure WebSt where
  refAxis : Nat := 0xFF
  tensionOn : Bool := false
  pubDiv : Nat := 0
  pubAddr : Nat := 0
  hdMax : Nat := 0x0000000100000000
  hdJerk : Nat := 0x0000000A00000000
  hdMin : Nat := 0x000000001999999A
  zeroSpeed : Nat := 0x000000000147AE14
  margin : Nat := 0x06666666
  rolls : Table RollSt := []
  spans : Table SpanSt := []
  winders : Table WinderSt := []
  spansPub : Table SpanSt := []
  windersPub : Table WinderSt := []
  mats : List Mat := []
  sL : Int := 0
  fig : Figures := {}
  figVis : Figures := {}
  haul : Option Haul := none
deriving DecidableEq, Repr

/-! ## Spar engines (spec/07_spar_engines.md) -/

/-- An address generator (R269). -/
structure Ag where
  base : W32 := 0
  len : Nat := 0
  ofs : W32 := 0
deriving DecidableEq, Repr

/-- A register set (R257): g by physical number, the accumulators, the address generators, RRB, LC and STICKY. -/
structure RegSet where
  g : Table W64 := []
  acc0 : BitVec 160 := 0
  acc1 : BitVec 160 := 0
  ags : Table Ag := []
  rrb : Nat := 0
  lc : W64 := 0
  sticky : Nat := 0
deriving DecidableEq, Repr

/-- What the base level of an engine waits for (R289, Table 7.7). -/
inductive Wait where
  | none | tick | cut
deriving DecidableEq, Repr

/-- A running DMA transfer (R293). -/
structure Dma where
  toRegion : Bool
  cam : Option Nat
  len : Nat
  loc : Nat
  ext : Nat
deriving DecidableEq, Repr

/-- An engine: the two register sets, the pc of the next instruction, the base level's pc while a handler runs, the handler's
source (R283), an update in progress (R285), interrupt registers, whether it runs, starts at the next strobe (R286) or waits, an
exception not yet declared (R292), the handshake bits (R287 to R290), a debug step granted (R581), the DMA channel, the code banks
with the pending swap (R291), and its memories: data SRAM, code banks, exchange write image with the words written in this tick,
the published image, the parameter window with the writes waiting for the next strobe (R268), the Halyard input buffer and the
private region. -/
structure Eng where
  base : RegSet := {}
  intr : RegSet := {}
  pc : Nat := 0
  ret : Nat := 0
  inH : Bool := false
  src : Nat := 0
  update : Bool := false
  ien : Nat := 0
  ipend : Nat := 0
  tmrCmp : Nat := 0
  tmrDone : Bool := false
  run : Bool := false
  starts : Bool := false
  wait : Wait := .none
  exc : Option Nat := none
  xDone : Bool := false
  tickPend : Bool := false
  xLate : Bool := false
  cutPassed : Bool := false
  stepOne : Bool := false
  dmaLoc : Nat := 0
  dmaExt : Nat := 0
  dmaCtl : Nat := 0
  dmaDone : Bool := false
  dma : Option Dma := none
  active : Bool := false
  swapped : Bool := false
  otherValid : Bool := false
  sram : Table Byte := []
  code0 : Table Byte := []
  code1 : Table Byte := []
  xw : Table Byte := []
  xwMask : List Nat := []
  pub : Table Byte := []
  prm : Table Byte := []
  prmNext : List (Nat × Byte) := []
  hal : Table Byte := []
  region : Table Byte := []
deriving DecidableEq, Repr

structure SparSt where
  engs : Table Eng := []
deriving DecidableEq, Repr

/-! ## PWM generator (spec/08_pwm.md)

Instants are local times in units of 2^-32 ns; one edge unit (R299) is 5 * 2^26 of them. -/

/-- The decision for a pair's running period (R310). -/
inductive Pulse where
  | none | whole | width
deriving DecidableEq, Repr

/-- A pair (R301 to R305, R310): its decision, the edges of the running period that have not fired, the level of its pulse, and
the latest spans over which its high and its low side conduct, from an instant and, once ended, to an instant. The residue and
the compares stand in the registers. -/
structure PairSt where
  pulse : Pulse := .none
  rise : Option Nat := none
  fall : Option Nat := none
  on : Bool := false
  high : Option Nat := none
  highEnd : Nat := 0
  low : Option Nat := none
  lowEnd : Nat := 0
deriving DecidableEq, Repr

/-- A COMMIT waiting for its instant of effect (R306, R307): compares A and B by pair, a new PER, which compares were written
into the staging set since the running period began (R309; bit 2p CMPAp, bit 2p+1 CMPBp), the instant of the write and the one from
which it may take effect as computed, and t_end when it is the first COMMIT since (R312). -/
structure Commit where
  a : List Nat
  b : List Nat
  per : Option Nat
  wrote : Nat
  made : Nat
  due : Nat
  meas : Option Nat
deriving DecidableEq, Repr

/-- A slot: its pairs, whether it pulses, the start of the running period, staged writes of the running period, a COMMIT waiting,
the compares that took effect in this period having been written in it (R309), t_end with the one before it and whether a COMMIT has come since (R312),
the latest instants of its events by number (R319), and whether an exception of its engine holds it (R292). -/
structure SlotSt where
  pairs : Table PairSt := []
  pulsing : Bool := false
  start : Nat := 0
  staged : Nat := 0
  commit : Option Commit := none
  matched : Nat := 0
  tEnd : Nat := 0
  tPrev : Nat := 0
  committed : Bool := false
  events : Table (Option Nat) := []
  excepted : Bool := false
deriving DecidableEq, Repr

structure PwmSt where
  slots : Table SlotSt := []
deriving DecidableEq, Repr

/-! ## Converters (spec/09_converters.md); instants are local times in 2^-32 ns -/

/-- A segment of an input (R341): its closing boundary, sum and count, and whether a clipped or over-range result is among those it
counts (R181). -/
structure Segment where
  at' : Nat := 0
  sum : Int := 0
  cnt : Nat := 0
  clip : Bool := false
deriving DecidableEq, Repr

/-- An input, AIN or SDI: the running segment (R341), the segments that are closed and not yet published, the boundary of the running
segment, the boundary published last with the clip marks of SEG0 and SEG1, the end of its recovery window (R339), the sample
instant of its latest result and whether that was clipped or over range, words still to be tagged settling (R337), and whether an SDI
line has toggled since its latest long run (R335). -/
structure AinSt where
  seg : Segment := {}
  closed : List Segment := []
  boundary : Nat := 0
  published : Nat := 0
  clip0 : Bool := false
  clip1 : Bool := false
  lastClip : Bool := false
  recover : Option Nat := none
  last : Nat := 0
  settle : Nat := 0
  toggled : Bool := false
deriving DecidableEq, Repr

/-- A converter: when the held trigger arrived, the instant at which the present acquisition starts, the entry to convert next, writes held under CFG_PEND
(R331), conversions to tag settling by input and by entry (R337), an injection waiting or running (R344): entry and level number;
and a trigger deferred behind a running one. -/
structure ConvSt where
  running : Bool := false
  arrived : Nat := 0
  start : Nat := 0
  entry : Nat := 0
  pend : List (Nat × W32) := []
  settleIn : Table Nat := []
  settleEnt : Table Nat := []
  inject : Option (Nat × Nat) := none
  injecting : Bool := false
  deferred : Bool := false
deriving DecidableEq, Repr

/-- A pair's diagnosis (R344, R345): ticks since the last injection, the converter and, for each converter, the entry of its next
one, and the level. -/
structure PairDiag where
  ticks : Nat := 0
  odd : Bool := false
  entry0 : Nat := 0
  entry1 : Nat := 0
  level : Nat := 0
deriving DecidableEq, Repr

structure AdcSt where
  ains : Table AinSt := []
  sdis : Table AinSt := []
  convs : Table ConvSt := []
  diags : Table PairDiag := []
  inrdyDone : Table Bool := []
deriving DecidableEq, Repr

/-! ## Feedback channels and latches (spec/10_feedback_and_latches.md); instants are local times in 2^-32 ns -/

/-- A feedback channel: line levels, raw count and turning point (R369), latest reported counts' times, newest first (R364),
whether the latest count went down, net count of the present gate and whether the gate began after EN (R362, R366), the last
valid Hall state (R358), the time of the last illegal transition (R359), the serial read in progress with its sample instant, the
instant from which the next may start (R370) and consecutive failures (R374), whether a valid sample has been taken since EN
(R375) with its value, its position and its instant, the extended phase of an analogue channel (R376) and the instants of the
inputs' results used last, the speed in force and the period method's own, both Q40.24. -/
structure FbSt where
  lines : Nat := 0
  raw : Int := 0
  turn : Int := 0
  times : List Nat := []
  down : Bool := false
  gate : Int := 0
  gateOk : Bool := false
  hall : Nat := 0
  badAt : Option Nat := none
  busy : Bool := false
  readAt : Nat := 0
  freeAt : Nat := 0
  fails : Nat := 0
  valid : Bool := false
  prevV : Nat := 0
  prevAt : Nat := 0
  ext : Int := 0
  sinAt : Nat := 0
  cosAt : Nat := 0
  speed : Int := 0
  perSpeed : Int := 0
deriving DecidableEq, Repr

/-- A latch record (R381, R386): edge time in 2^-32 ns, position and the word REC_INFO. -/
structure LatRec where
  time : Nat
  pos : W32
  info : W32
deriving DecidableEq, Repr

/-- A record that waits for the count or sample that completes it (R384 to R386): the edge time, the channel, rising, N_a with its time
(none where no count of the last STILL_T or valid sample gives one) and whether N_a was reached counting down, N_b with its time and direction once it has come, whether the channel counts or samples,
and whether the channel was unusable at the edge. -/
structure LatWait where
  time : Nat
  ch : Nat
  rise : Bool
  na : W32
  ta : Option Nat
  down : Bool
  nb : Option (W32 × Nat × Bool) := none
  counting : Bool
  bad : Bool
deriving DecidableEq, Repr

/-- A latch input: records waiting and held, end of the holdoff in 2^-32 ns, number of records completed, and the instant from which a
single-shot input that ARM has armed takes an edge (R382). -/
structure LatSt where
  waiting : List LatWait := []
  recs : List LatRec := []
  holdoff : Nat := 0
  seq : Nat := 0
  armedAt : Nat := 0
deriving DecidableEq, Repr

/-- Channels and latch inputs, with the engine each is bound to, 35 when it is not (R353). -/
structure FbkSt where
  fbs : Table FbSt := []
  lats : Table LatSt := []
  fbOwner : Table Nat := []
  latOwner : Table Nat := []
deriving DecidableEq, Repr

/-! ## Capture (spec/11_capture.md); instants are local times in 2^-32 ns -/

/-- A record (R399): its instant and its source words. -/
structure CapRec where
  time : Nat
  words : List W32
deriving DecidableEq, Repr

/-- The trigger of a capture (R403, R405): its instant, the comparator mask, the state and the mask of exits, the instant of the
trigger sample, and whether the servo was locked (R417). -/
structure CapTrig where
  time : Nat
  conds : Nat
  exits : Nat
  locked : Bool
deriving DecidableEq, Repr

/-- An entry that waits for its ring (R413): unit, the 128 bytes without PHASE, the slot's records, whether it is a header, the capture's
number, and the payload of CAPTURE_DONE. -/
structure CapEntry where
  unit : Nat
  body : List Byte
  data : List Byte
  header : Bool
  no : Nat
  done : BitVec 128
deriving DecidableEq, Repr

/-- A CAPTURE_CTRL command that takes effect at the next strobe (R406). -/
structure CapCmd where
  unit : Nat
  cmd : Nat
  count : Nat
  pre : Nat
  post : Nat
  clamped : Bool
deriving DecidableEq, Repr

/-- A unit: whether it samples, the origin of its grid and the next grid index (R395), the instant of the result or event it
sampled last, the previous sample's instant and words, the edges and PWM events seen since (latch or event, number, instant),
PRE, POST and COUNT in force, the records held before the trigger, the records of the running capture after it that are
in no queue, PRE_EFF and POST_EFF, how many records a stream has queued and in how many blocks, the blocks reserved and not
queued, the instant of record 0, the trigger, exit counts and timer of the sequencer state, a FORCE waiting, the end of the capture
before with whether the next one has its blocks (R411), captures left, and flags of the header. -/
structure CapUnit where
  on : Bool := false
  t0 : Nat := 0
  k : Nat := 0
  last : Nat := 0
  prevT : Option Nat := none
  prev : List W32 := []
  seen : List (Bool × Nat × Nat) := []
  pre : Nat := 0
  post : Nat := 0
  left : Option Nat := none
  recs : List CapRec := []
  posts : List CapRec := []
  preEff : Nat := 0
  postEff : Nat := 0
  handed : Nat := 0
  blocks : Nat := 0
  own : Nat := 0
  firstTime : Option Nat := none
  trig : Option CapTrig := none
  counts : List Nat := [0, 0, 0, 0]
  timer : Nat := 0
  force : Bool := false
  forced : Bool := false
  clamped : Bool := false
  srcErr : Bool := false
  dead : Nat := 0
  endT : Nat := 0
  reserved : Bool := false
deriving DecidableEq, Repr

/-- A write of CE to a capture ring in the present tick, a block's records or an entry's 128 bytes, with its entry (R76, R415). -/
structure CapWrote where
  write : RingWrite
  entry : CapEntry
  final : Bool
deriving DecidableEq, Repr

/-- The units, the commands for the next strobe, the entries waiting for each ring, and, per ring, the counts of the block
entries written and not released (R414) and the writes of the present tick (R76). -/
structure CapSt where
  units : Table CapUnit := []
  cmds : List CapCmd := []
  queues : Table (List CapEntry) := []
  handed : Table (List Nat) := []
  wrote : Table (List CapWrote) := []
deriving DecidableEq, Repr

/-! ## Ports, PTP and the Halyard link (spec/12_network_and_time.md)

PTP quantities are in 2^-16 ns, rates in 2^-32 ppb; instants of frames are local times in 2^-32 ns. -/

/-- The configuration of a node slot (Table 12.11). -/
structure NodeCfg where
  owner : Nat
  wd : Nat
  rejoin : Bool
  tse : Bool
  port : Nat
  product : Nat
  vendor : Nat
  serial : Nat
  count : Nat
  base : Nat
  ioOut : Nat
  ioIn : Nat
deriving DecidableEq, Repr

/-- A node slot (R444, R450 to R456): its configuration, the node matched to it (MAC, port, AXES, CAPS, SERIAL) and in which step,
whether JOIN_REQ goes out at the next strobe, the steps in which the join timer and the partner watchdog expire, the latest causes
of a leave and of a refusal, counts, the offsets of its I/O areas, its input and output data, the replies of this tick with TICK = k
and k - 1, the TICK of the latest valid reply, the TSE container to send with whether it is new, and the step of the latest LEAVE
received from the node (R453). Its state stands in NET.NODE_STATE. -/
structure Node where
  cfg : Option NodeCfg := none
  mac : Nat := 0
  port : Nat := 0
  axes : Nat := 0
  caps : Nat := 0
  serial : Nat := 0
  seenIn : Option Nat := none
  invite : Bool := false
  joinDue : Nat := 0
  wdDue : Nat := 0
  leftBy : Nat := 0xFF
  refused : Nat := 0xFF
  missed : Nat := 0
  aged : Nat := 0
  joins : Nat := 0
  inOfs : Nat := 0
  outOfs : Nat := 0
  input : List Byte := []
  output : List Byte := []
  fresh : Option HalReply := none
  old : Option HalReply := none
  lastTick : Nat := 0
  tseOut : List Byte := []
  tseNew : Bool := false
  leftIn : Option Nat := none
deriving DecidableEq, Repr

/-- A frame of NET_SEND (R441, R442): its bytes, TS_ID, whether a timestamp entry was taken for it, and its launch time in ns. -/
structure TxFrame where
  port : Nat
  data : List Byte
  tsId : Nat
  entry : Bool
  launch : Option Nat
deriving DecidableEq, Repr

/-- A compare target (R438 to R440), in ns. -/
structure Compare where
  id : Nat
  target : Nat
  period : Nat
deriving DecidableEq, Repr

/-- An entry of the pending list, with its time in ns. -/
inductive Timed where
  | compare (c : Compare)
  | frame (f : TxFrame)
deriving DecidableEq, Repr

/-- A ready timestamp entry (R442, R443): TS_ID, STATUS, time in 2^-32 ns. -/
structure TxStamp where
  id : Nat
  status : Nat
  time : Nat
deriving DecidableEq, Repr

/-- A foreign master of a port (R427): its latest Announce, how many have come in succession, and the step of the latest. -/
structure Foreign where
  ann : PtpAnn
  n : Nat
  step : Nat
deriving DecidableEq, Repr

/-- PTP on a port: foreign masters, the parent when the port is SLAVE, a two-step Sync that waits for its Follow_Up, the latest Sync
used (t1, t2, c), a delay request in flight (sequence number, t3, step of its time-out), the steps in which the receipt timers and
the message intervals expire, the next sequence numbers, and the latest message sent (kind, sequence number, correction). -/
structure PtpPort where
  foreign : List Foreign := []
  parent : Option (W64 × BitVec 16) := none
  sync : Option PtpMsg := none
  last : Option (Int × Int × Int) := none
  req : Option (BitVec 16 × Int × Nat) := none
  annDue : Nat := 0
  syncDue : Nat := 0
  txDue : List Nat := [0, 0, 0]
  seqs : List Nat := [0, 0, 0]
  sent : Option (Nat × Nat × Int) := none
deriving DecidableEq, Repr

/-- A path hold (R436): the step in which it expires and the measurements kept aside. -/
structure PathHold where
  due : Nat
  aside : List Int
deriving DecidableEq, Repr

/-- The servo and its filters (R431 to R437): integrator and rate, accepted measurements, D, the path hold, whether offsets are
taken out by rate only, a step that is held with whether it is the first-lock step, the step in which an authorisation lapses, the
runs of offsets within and above LOCK_THRESH, and whether the present excursion has raised OFFSET_REFUSED. -/
structure PtpSt where
  ports : Table PtpPort := []
  integ : Int := 0
  rate : Int := 0
  meas : List Int := []
  d : Option Int := none
  hold : Option PathHold := none
  byRate : Bool := false
  step : Option (Int × Bool) := none
  authDue : Option Nat := none
  good : Nat := 0
  bad : Nat := 0
  refused : Bool := false
deriving DecidableEq, Repr

/-- A port: frames accepted and not yet sent, in order, the timestamp entries awaiting and ready, the frames of the Halyard output
burst launched at the latest strobe with the sections in them, and whether TXTS_DROPPED has been raised in this tick. -/
structure PortSt where
  sending : List TxFrame := []
  awaiting : Nat := 0
  ready : List TxStamp := []
  burst : List (List Byte) := []
  sections : List (List Byte) := []
  dropped : Bool := false
deriving DecidableEq, Repr

/-- The link: node slots, MAC addresses that raised NODE_SEEN with the local time in ns, ports, PTP, the pending list, compare units
and launch slots (4 per port), the whole second of the latest DISCOVER, and the DISCOVER, JOIN_REQ or NET_SEND frame sent last per
port. -/
structure NetSt where
  nodes : Table Node := []
  seenMacs : List (Nat × Nat) := []
  ports : Table PortSt := []
  ptp : PtpSt := {}
  pendList : List Timed := []
  units : Table (Option (Compare × Bool)) := []
  launch : Table (Option TxFrame) := []
  second : Nat := 0
  lastTx : Table (List Byte) := []
deriving DecidableEq, Repr

/-! ## The Shroud (spec/13_shroud_safety.md); times are numbers of Shroud ticks -/

/-- An input pair (R470 to R473): the filtered levels, the consistent state (true is demand or pressed), the step in which it left
it, a fault with whether both channels have since been in the demand (or released) state together, and the step of an accepted
press with whether it has been held too long. -/
structure PairIn where
  a : Bool := false
  b : Bool := false
  state : Bool := true
  left : Option Nat := none
  fault : Bool := false
  seen : Bool := false
  press : Option Nat := none
  jammed : Bool := false
deriving DecidableEq, Repr

/-- A function instance (Table 13.11 STATE): the state, the step of its onset, whether the SLS limit is monitored and whether the
instance has been demanded since its latest release, T_DELAY and T_RAMP of the running envelope, the speed of each safe axis at onset, positions at onset or the furthest points, whether it
holds STO or an SOS that follows an SS2, and the host demand bit. -/
structure FnSt where
  state : Nat := 0
  onset : Nat := 0
  live : Bool := false
  limits : Bool := false
  env : Nat × Nat := (0, 0)
  v0 : Table Int := []
  pos : Table Int := []
  sto : Bool := false
  sos : Bool := false
  host : Bool := false
deriving DecidableEq, Repr

/-- A safe axis (R468, R469): the decoder counts of the two channels at the latest step and where the comparison began, position and
speed, consecutive steps of discrepancy, fault, and the 24-bit position received last. -/
structure SafeAxis where
  c1 : Option W32 := none
  c2 : W32 := 0
  d1 : Int := 0
  d2 : Int := 0
  pos : Int := 0
  speed : Int := 0
  run : Nat := 0
  disc : Bool := false
  fault : Bool := false
  tsePos : Option Nat := none
deriving DecidableEq, Repr

/-- An output pair (R483 to R485): command, local time (ns) from which a command on may act, the local times at which the latest dark pulse of
each channel began, consecutive steps in which each channel reads high while off, fault, channels whose field
driver has turned off, and the step in which a brake output switches off. -/
structure OutPair where
  on : Bool := false
  rise : Nat := 0
  darkA : Option Nat := none
  darkB : Option Nat := none
  high : Nat × Nat := (0, 0)
  fault : Bool := false
  offA : Bool := false
  offB : Bool := false
  rbA : Bool := false
  rbB : Bool := false
  brakeDue : Option Nat := none
deriving DecidableEq, Repr

/-- A TSE connection (R486 to R489): state and cause of Table 13.11, SEQ last sent, accepted and acknowledged by the node, the SEQ sent
before the last, whether a message is in transit, the step in which the last was sent and that in which its watchdog expires, the node's IN bits, its RESET bit with an accepted press, whether a fault holds STO_REL at 0 until a reset edge, counts, and a container that has
been handed over. -/
structure TseSt where
  state : Nat := 0
  cause : Nat := 0xFF
  tx : Nat := 0
  rx : Nat := 0
  acked : Nat := 0
  prev : Nat := 0
  flying : Bool := false
  sent : Nat := 0
  wdDue : Nat := 0
  input : Nat := 0
  reset : Bool := false
  press : Option Nat := none
  jammed : Bool := false
  hold : Bool := false
  repeats : Nat := 0
  faults : Nat := 0
  box : Option (List Byte) := none
deriving DecidableEq, Repr

/-- A zone: its start-up has been acknowledged by a reset edge (R474), an edge has come for the present step, DEVICE_STO has been in force
since the latest reset edge, STO is in force. -/
structure ZoneSt where
  acked : Bool := false
  held : Bool := false
  edge : Bool := false
  sto : Bool := true
deriving DecidableEq, Repr

/-- A change-log entry (Table 13.6). -/
structure LogEntry where
  no : Nat
  time : Nat
  kind : Nat
  ring : Nat
  lc : Nat
  oldCrc : Nat
  newCrc : Nat
  detail : Nat
deriving DecidableEq, Repr

/-- The Shroud: Shroud ticks since it started, the configuration in force and its store, one that takes effect at the next tick, the
pending one with the step in which it lapses, inputs, outputs, functions, safe axes, connections, zones, consecutive disagreements,
slots whose readback differs by channel with the run of steps, DEVICE_STO, the session (ring, step in which it lapses), the
password (salt and digest), wrong passwords in a row, the end of a lockout, and the change log, newest first. -/
structure ShrSt where
  tick : Nat := 0
  started : Bool := false
  cfg : Option (SafetyCfg × Nat) := none
  store : Option (SafetyCfg × Nat) := none
  apply : Option (SafetyCfg × Nat × Nat) := none
  pend : Option (SafetyCfg × Nat × Nat) := none
  pairs : Table PairIn := []
  outs : Table OutPair := []
  fns : Table FnSt := []
  axes : Table SafeAxis := []
  conns : Table TseSt := []
  zones : Table ZoneSt := []
  disagree : Nat := 0
  stoRun : Table (Nat × Nat) := []
  deviceSto : Bool := false
  session : Option (Nat × Nat) := none
  password : Option (BitVec 128 × BitVec 256) := none
  wrong : Nat := 0
  lockDue : Option Nat := none
  log : List LogEntry := []
deriving DecidableEq, Repr

/-! ## Field I/O (spec/14_field_io.md) -/

/-- The field side: the latest VFLD in mV and whether VFLD stands above 11.0 V (R498), the filter counters of the inputs (R502), the command that VE's latest strobe handed over and whether FLD_OFF was
clear at it (R508, R499), the command each output was last refreshed with and the switches that are on (R509), and the edges accepted
in this tick (Table 14.3). -/
structure FldSt where
  mv : Nat := 0
  up : Bool := false
  ctr : Table Nat := []
  lat : BitVec 16 := 0
  enab : Bool := false
  held : BitVec 16 := 0
  on : BitVec 16 := 0
  rise : W32 := 0
  fall : W32 := 0
deriving DecidableEq, Repr

/-! ## Power and temperature (spec/15_power_and_thermal.md) -/

/-- A temperature sensor (R525 to R527): its readings of the last 10 s, newest first, each with the up-time in ns at which it was
taken, consecutive implausible (plausible, while broken) measurements, a rate excursion, and a THERMAL_MEASURE not yet answered. -/
structure Sensor where
  hist : List (Nat × Int) := []
  bad : Nat := 0
  good : Nat := 0
  rising : Bool := false
  asked : Bool := false
deriving DecidableEq, Repr

/-- Power: the up-time in ns at the latest strobe, supply arrivals that VE has not seen (true a loss, false a return, R517), a loss
that VE has still to act on (R97, R100), the up-time at which the running return qualification began (R516), the time in ns that the
charger has spent in CC up to the latest change of its state with the up-time of that change (R522), and the sensors. -/
structure PwrSt where
  upNs : Nat := 0
  arr : List Bool := []
  lossPend : Bool := false
  qual : Nat := 0
  ccNs : Nat := 0
  ccFrom : Nat := 0
  sensors : Table Sensor := []
deriving DecidableEq, Repr

/-! ## Images (spec/16_images_and_update.md) -/

/-- The header fields of a Gycon image that the module goes by (Table 16.1). -/
structure Hdr where
  kind : Nat
  signer : Nat
  version : Nat
  epoch : Nat
  revMin : Nat
  revMax : Nat
  xhash : BitVec 256
  shash : BitVec 256
  phash : BitVec 256
deriving DecidableEq, Repr

/-- An image: header, code and initial data. -/
structure Image where
  h : Hdr
  code : List Byte
  data : List Byte
deriving DecidableEq, Repr

/-- The image side of an engine: the running image (none: the IDLE image), the one in the other bank, a staged image with the slot it
came from and whether BOOT was set, the image a reload brings (slot and BOOT), the slot and failed test of an image that failed its
check (R543), and a recovery of R103 (the groups named). -/
structure EngImg where
  act : Option Hdr := none
  other : Option Hdr := none
  staged : Option (Nat × Bool) := none
  reload : Option (Nat × Bool) := none
  failed : Option (Nat × Nat) := none
  recover : Option Nat := none
deriving DecidableEq, Repr

/-- Staging in progress: the engines, the slot, SWAP and BOOT. -/
structure Staging where
  mask : List Nat
  slot : Nat
  swap : Bool
  boot : Bool
deriving DecidableEq, Repr

/-- A swap (R549 to R552): its engines, whether it has taken effect (probation), ticks counted since its groups went to SWAPPING or
since it took effect, the states the groups return to, the boot slots to write,
and a rollback (cause of Table 16.8 and the tick count it was called in). -/
structure SwapJob where
  mask : List Nat
  done : Bool := false
  count : Nat := 0
  prev : List (Nat × Nat) := []
  roll : Option (Nat × Nat) := none
  back : Bool := false
  boots : List (Nat × Nat) := []
deriving DecidableEq, Repr

/-- The image store by slot, a store write that is running (slot, image), the integrator key, the pairing table of the running
supervisor (kind, epoch, XHASH), the engines, stagings and swaps, group states that come into force at the next strobe (group, state),
boot slots that wait for the flash window, and the overrides in force by group (engines and the PAYLOAD_HASH of the image covered). -/
structure ImgSt where
  slots : Table (Option Image) := []
  write : Option (Nat × Image) := none
  key : Option (List Byte) := none
  pairs : List (Nat × Nat × BitVec 256) := []
  engs : Table EngImg := []
  staging : List Staging := []
  jobs : List SwapJob := []
  grpNext : List (Nat × Nat) := []
  bootPend : List (Nat × Nat) := []
  overrides : Table (List (Nat × BitVec 256)) := []
deriving DecidableEq, Repr

/-! ## Debug and JTAG (spec/17_electrical_and_package.md) -/

/-- The instruction of the JTAG port (R582). -/
inductive JtagIr where
  | bypass | idcode | sample | extest | highz | clamp
deriving DecidableEq, Repr

/-- The JTAG port: its instruction, the data register it selects as captured, the boundary cells' latest sample and the values
preloaded into them; a debug memory transfer that runs, with MEM_CTRL, ADDR and DATA as it was started, and the tick and cycle in which the
owner attached (R580). -/
structure DbgSt where
  ir : JtagIr := .idcode
  tdr : W32 := 0
  cells : List Bool := []
  drive : List Bool := []
  xfer : Option (W32 × Nat × Nat) := none
  since : Nat × Nat := (0, 0)
deriving DecidableEq, Repr

/-! ## The machine -/

/-- The state of the part: the BAR0 registers (each listed only where it differs from its reset word), the state behind them,
the host memory the part has written (a byte not listed reads 0), and, the model's own, the number of free values drawn and the
queue of commands, first in, first out. -/
structure State where
  regs : Table W32 := []
  /-- The clock and the ticks. -/
  clk : ClkSt := {}
  /-- The host interface. -/
  host : HostSt := {}
  /-- Device modes and start-up. -/
  md : ModeSt := {}
  /-- The planner. -/
  plan : PlanSt := {}
  /-- The servo loops. -/
  loop : LoopSt := {}
  /-- The web line. -/
  web : WebSt := {}
  /-- The Spar engines. -/
  spar : SparSt := {}
  /-- The PWM generator. -/
  pwm : PwmSt := {}
  /-- The converters. -/
  adc : AdcSt := {}
  /-- Feedback channels and latches. -/
  fbk : FbkSt := {}
  /-- Capture. -/
  cap : CapSt := {}
  /-- Ports, PTP and Halyard. -/
  net : NetSt := {}
  /-- The Shroud. -/
  shr : ShrSt := {}
  /-- Field inputs and outputs. -/
  fld : FldSt := {}
  /-- Power and temperature. -/
  pwr : PwrSt := {}
  /-- Images. -/
  img : ImgSt := {}
  /-- The debug port. -/
  dbg : DbgSt := {}
  hostMem : Table Byte := []
  free : Nat := 0
  pending : List Instr := []
deriving DecidableEq, Repr

/-- The machine right after power-on reset (R105, R111): every field holds the reset value its declaration names. -/
def State.reset : State := {}

end Sys2Proof.Machine
end

