-- ==== Sys2Proof/Machine/Trig.lean ====
section
/-!
DEFINITION. Sine, cosine and the angle of a vector (R276); the exponential and the tangent. Of the first three the manual bounds the error and states no value: each result is the free
value of Config among the integers that lie within the permitted error (notes/assumptions/9.md). The series below only find that range.
-/
namespace Sys2Proof.Machine

/-- pi / 2 and 2 pi in units of 2^-64. -/
def halfPi : Nat := 28976077832308491370
def twoPi : Nat := 115904311329233965478

/-- The alternating series of sine (`k` 1) and cosine (`k` 0) from a term on, in 2^-64; `x2` is the square of the argument. -/
def trigSum : Nat → Nat → Nat → Nat → Int
  | 0, _, _, _ => 0
  | n + 1, x2, t, k => (t : Int) - trigSum n x2 (t * x2 / 2 ^ 64 / ((k + 1) * (k + 2))) (k + 2)
/-- Sine and cosine of an angle of 2^32 per turn, in 2^-64. -/
def sinCos64 (theta : Nat) : Int × Int :=
  let x := theta % 2 ^ 30 * halfPi / 2 ^ 30
  let s := trigSum 16 (x * x / 2 ^ 64) x 1
  let c := trigSum 16 (x * x / 2 ^ 64) (2 ^ 64) 0
  match theta / 2 ^ 30 % 4 with
  | 0 => (s, c)
  | 1 => (c, -s)
  | 2 => (-s, -c)
  | _ => (-c, s)

/-- An integer within `err` of the value `v` of units of 2^-n; which of them is the free value. -/
def within (n : Nat) (err : Nat) (v : Int) (free : Nat) : Int :=
  let lo : Int := -((err * 2 ^ n - v) / (2 ^ n : Nat))
  let hi : Int := (v + err * 2 ^ n) / (2 ^ n : Nat)
  lo + (free % (hi - lo + 1).toNat : Nat)

/-- Sine in Q2.30: within 2 LSB, and exact where it is 1.0 or -1.0. -/
def sinOf (theta : Nat) : Int :=
  if theta % 2 ^ 32 = 2 ^ 30 then 2 ^ 30 else if theta % 2 ^ 32 = 3 * 2 ^ 30 then -(2 ^ 30)
  else within 34 2 (sinCos64 theta).1 (Config.sinCos (BitVec.ofNat 32 theta)).1
/-- Cosine in Q2.30: within 2 LSB, and exact where it is 1.0 or -1.0. -/
def cosOf (theta : Nat) : Int :=
  if theta % 2 ^ 32 = 0 then 2 ^ 30 else if theta % 2 ^ 32 = 2 ^ 31 then -(2 ^ 30)
  else within 34 2 (sinCos64 theta).2 (Config.sinCos (BitVec.ofNat 32 theta)).2

/-! ## Exponential and tangent (R184, R190, R200, R219) -/

/-- ln 2 and ln 10 in units of 2^-128. -/
def ln2Fx : Nat := 235865763225513294137944142764154484399
def ln10Fx : Nat := 783529105480883066805338482703447369892
/-- The series of e^-x in nested form, from its `k`-th factor on, in 2^-128: 1 - (x/k)(1 - (x/(k+1))(...)). -/
def expSum : Nat → Nat → Nat → Nat
  | 0, _, _ => 2 ^ 128
  | n + 1, x, k => 2 ^ 128 - x * expSum n x (k + 1) / 2 ^ 128 / k
/-- e^-(num/den) in units of 2^-128, to some units. -/
def expNeg (num den : Nat) : Nat :=
  let x := num * 2 ^ 128 / den
  let q := x / ln2Fx
  if 128 < q then 0 else expSum 34 (x % ln2Fx) 1 / 2 ^ q
/-- tan(pi num/den) below a quarter of a turn, in units of 2^-64. -/
def tanPi (num den : Nat) : Nat :=
  let x := num * twoPi / (2 * den)
  let s := trigSum 16 (x * x / 2 ^ 64) x 1
  let c := trigSum 16 (x * x / 2 ^ 64) (2 ^ 64) 0
  (s * 2 ^ 64 / c).toNat
/-- 10^(-x/20) of an unsigned Q8.8 argument, in units of 2^-128 (R190). -/
def attenuation (x : Nat) : Nat := expNeg (x * ln10Fx) (5120 * 2 ^ 128)

/-- tan(a / 2) from t = tan a, in 2^-64. -/
def halfTan (t : Nat) : Nat := t * 2 ^ 64 / (2 ^ 64 + isqrtAux (2 ^ 128 + t * t) 66 0)
/-- The arctangent series from t^k on, in 2^-64. -/
def atanSum : Nat → Nat → Nat → Nat → Int
  | 0, _, _, _ => 0
  | n + 1, t2, p, k => (p / k : Nat) - atanSum n t2 (p * t2 / 2 ^ 64) (k + 2)
/-- The angle of a vector that is not 0, 2^64 per turn. -/
def angle64 (x y : Int) : Int :=
  let lo := min x.natAbs y.natAbs
  let hi := max x.natAbs y.natAbs
  let t := halfTan (halfTan (lo * 2 ^ 64 / hi))
  let a : Int := 4 * atanSum 16 (t * t / 2 ^ 64) t 1 * 2 ^ 64 / twoPi
  let a1 := if x.natAbs < y.natAbs then 2 ^ 62 - a else a
  let a2 := if x < 0 then 2 ^ 63 - a1 else a1
  if y < 0 then -a2 else a2
/-- ATAN2: the angle of a vector within 4 units of 2^-32 turn; 0 for the vector (0, 0). -/
def angleOfVec (x y : Int) : Nat :=
  if x = 0 ∧ y = 0 then 0 else wrapN 32 (within 32 4 (angle64 x y) (Config.atan2 (BitVec.ofInt 64 x) (BitVec.ofInt 64 y)))

end Sys2Proof.Machine
end

