-- ==== Sys2Proof/Machine/Ops.lean ====
section
/-!
DEFINITION. The named operations every meaning is built from: registers and their fields, the local clock, free values, events
and interrupts, host memory, the group states, the entity tables.
-/
namespace Sys2Proof.Machine

/-! ## Registers (R8 to R10) -/

/-- The word of the register at a BAR0 address; where BAR0 holds no register, 0 (R9). -/
def State.reg (s : State) (a : Nat) : W32 := Table.look (regReset a) s.regs a
/-- The state in which the register at an address holds a word. -/
def State.setReg (s : State) (a : Nat) (v : W32) : State :=
  { s with regs := Table.put (regReset a) a v s.regs }
/-- The value of a register field. -/
def State.get (s : State) (f : Fld) : Nat := bits (s.reg f.a) f.hi f.lo
/-- Whether a field is not 0. -/
def State.getB (s : State) (f : Fld) : Bool := s.get f != 0
/-- The state in which a field holds a value (truncated to the field). -/
def State.set (s : State) (f : Fld) (v : Nat) : State := s.setReg f.a (setBits (s.reg f.a) f.hi f.lo v)
/-- Hardware sets a W1C flag in the present cycle; a write of 1 in the same cycle leaves it set (R11). -/
def State.flag (s : State) (f : Fld) : State :=
  let t := s.set f 1
  { t with clk := { t.clk with fresh := Table.upd 0 f.a (· ||| (maskOf f.hi f.lo).toNat) t.clk.fresh } }
/-- A written word without the W1C bits that hardware has set in the same cycle: setting wins (R11). -/
def State.spared (s : State) (a : Nat) (v : W32) : W32 :=
  v &&& ~~~ BitVec.ofNat 32 (Table.look 0 s.clk.fresh a &&& (match regGroup? a with | some g => g.w1c | none => 0))
def State.setB (s : State) (f : Fld) (b : Bool) : State := s.set f (if b then 1 else 0)
/-- Sets a field to a signed value, wrapping. -/
def State.setI (s : State) (f : Fld) (v : Int) : State := s.set f (wrapN (f.hi + 1 - f.lo) v)
/-- Counts in a field, wrapping at its width. -/
def State.bump (s : State) (f : Fld) : State := s.set f (s.get f + 1)
/-- Counts in a field, saturating at its width. -/
def State.bumpSat (s : State) (f : Fld) (n : Nat := 1) : State :=
  s.set f (min (s.get f + n) (2 ^ (f.hi + 1 - f.lo) - 1))
/-- A 64-bit quantity in two consecutive registers, low word first (R8). -/
def State.get64 (s : State) (a : Nat) : Nat := (s.reg a).toNat + (s.reg (a + 4)).toNat * 2 ^ 32
def State.set64 (s : State) (a v : Nat) : State :=
  (s.setReg a (BitVec.ofNat 32 v)).setReg (a + 4) (BitVec.ofNat 32 (v / 2 ^ 32))

/-! ## Folding an operation over numbers -/

/-- Does `f` for each number of a list, in its order. -/
def forEach {α : Type} (l : List α) (f : α → State → State) (s : State) : State := l.foldl (fun t x => f x t) s
/-- Does `f` only where a condition holds. -/
def whenB (c : Bool) (f : State → State) (s : State) : State := if c then f s else s

/-! ## Clock (R27, R28) -/

/-- The act of the current command falls `c` cycles after the latest strobe; what hardware set and engines wrote in another cycle no longer
counts (R11, R264). -/
def State.atCyc (s : State) (c : Nat) : State :=
  { s with clk := { s.clk with
    cyc := c, fresh := if c = s.clk.cyc then s.clk.fresh else [], engWrote := if c = s.clk.cyc then s.clk.engWrote else [] } }
/-- The local time of the current command, in 2^-32 ns. -/
def State.nowFx (s : State) : Nat := s.clk.clk + s.clk.cyc * s.clk.incr
/-- The local time of the current command, in ns. -/
def State.nowNs (s : State) : Nat := s.nowFx / 2 ^ 32
/-- FT in ns for a selection (R27). -/
def ftNsOf (sel : Nat) : Nat := 31250 * 2 ^ sel
def State.ftSel (s : State) : Nat := s.get F.clkFtStatus_FT_ACT
def State.ftNs (s : State) : Nat := ftNsOf s.ftSel
/-- The nominal tick length in cycles (Table 1.6). -/
def State.ftCyc (s : State) : Nat := 12500 * 2 ^ s.ftSel
/-- The tick number (R28). -/
def State.tickNo (s : State) : Nat := s.get64 A.clkTickLo
/-- How many frame ticks make `ms` milliseconds. -/
def State.msTicks (s : State) (ms : Nat) : Nat := ms * 1000000 / s.ftNs

/-! ## Identity -/

/-- The local axis slots of the variant (Table 0.1). -/
def State.slots (s : State) : Nat := s.get F.glbCaps_SLOTS
def State.mode (s : State) : Nat := s.get F.glbMode_MODE_ACT
def State.ready (s : State) : Bool := s.getB F.glbStatus_READY

/-! ## Free values (notes/assumptions/9.md) -/

/-- The next free value and the state that has drawn it. -/
def State.draw (s : State) : W64 × State := (Config.freeValue s.free, { s with free := s.free + 1 })

/-- A quotient whose rounding the manual does not state: exact where it is exact, else the floor or the next integer. -/
def qdiv (a b : Int) : Int :=
  if b = 0 then Config.divZero a
  else if a % b = 0 then a / b
  else Int.fdiv a b + (if Config.roundUp a b then 1 else 0)
/-- The quotient rounded to nearest, ties away from zero (R127). -/
def rdiv (a b : Int) : Int :=
  if b = 0 then Config.divZero a
  else
    let m : Int := (2 * a.natAbs + b.natAbs) / (2 * b.natAbs)
    if (a < 0) == (b < 0) then m else -m
/-- A square root whose rounding the manual does not state. -/
def qsqrt (x : Nat) : Nat :=
  let r := isqrt x
  if r * r = x then r else r + (if Config.roundUp x r then 1 else 0)

/-! ## Events and interrupts (R82 to R86) -/

/-- Payload of an event from (byte of the record, bytes, value) entries (Table 2.13). -/
def pl : List (Nat × Nat × Nat) → BitVec 128
  | [] => 0
  | (o, n, v) :: r => BitVec.ofNat 128 (v % 256 ^ n * 256 ^ (o - 16)) ||| pl r

/-- Severities of Table 2.13. -/
abbrev sevInfo : Nat := 0
abbrev sevWarn : Nat := 1
abbrev sevFault : Nat := 2

/-- Raises an event that happened at a given time: it enters the buffer of 256 records, or is dropped and counted (R83). -/
def State.raiseAt (s : State) (time code sev data ctrl : Nat) (p : List (Nat × Nat × Nat) := []) : State :=
  if 256 ≤ s.host.evBuf.length then
    { s with host := { s.host with evDropped := s.host.evDropped + 1 } }.bumpSat F.hriEvtLost_LOST
  else
    { s with host := { s.host with evBuf := s.host.evBuf ++
      [{ code := BitVec.ofNat 16 code, sev := sev, data := BitVec.ofNat 16 data, ctrl := BitVec.ofNat 16 ctrl,
         time := BitVec.ofNat 64 time, payload := pl p }] } }
/-- Raises an event now. -/
def State.raise (s : State) (code sev data ctrl : Nat) (p : List (Nat × Nat × Nat) := []) : State :=
  s.raiseAt s.nowNs code sev data ctrl p

/-- A control place (Table 1.4): engine, block, channel. -/
def place (engine block chan : Nat) : Nat := engine * 1024 + block * 128 + chan

/-- The word of the MSI-X table after a reset (notes/assumptions/102.md): every entry is masked. -/
def msixReset (i : Nat) : W32 := if i % 4 = 3 then 1 else 0
/-- Word `i` of the MSI-X table (R70). -/
def State.msixWord (s : State) (i : Nat) : W32 := Table.look (msixReset i) s.host.msix i
/-- Raises an MSI-X vector (R86); it stays pending while its entry of the table masks it. -/
def State.irq (s : State) (v : Nat) : State :=
  { s with host := { s.host with
    irqs := s.host.irqs ++ [v]
    msixPend := if (s.msixWord (4 * v + 3)).getLsbD 0 then s.host.msixPend.filter (· != v) ++ [v] else s.host.msixPend } }

/-- A sticky flag has set for the first time since its clear: its event is raised once in this tick, with every such flag of the
same place (R195, R321, R351, R391). The flags stand at byte `byte` of the record, `pre` before them; `warn` marks the flags that
make it a warning. -/
def State.note (s : State) (code data ctrl : Nat) (pre : List (Nat × Nat × Nat)) (byte flags warn : Nat) : State :=
  let same (n : Note) : Bool := n.code == code && n.data == data && n.ctrl == ctrl && n.pre == pre
  if s.host.notes.any same then
    { s with host := { s.host with notes := s.host.notes.map (fun n => if same n then { n with flags := n.flags ||| flags } else n) } }
  else
    { s with host := { s.host with notes := s.host.notes ++
      [{ code := code, data := data, ctrl := ctrl, pre := pre, byte := byte, flags := flags, warn := warn, time := s.nowNs }] } }
/-- Raises the sticky events of the ending tick. -/
def State.flushNotes (s : State) : State :=
  let t := s.host.notes.foldl (fun t n =>
    t.raiseAt n.time n.code (if n.flags &&& n.warn = 0 then sevInfo else sevWarn) n.data n.ctrl (n.pre ++ [(n.byte, 2, n.flags)])) s
  { t with host := { t.host with notes := [] } }

/-! ## Host memory -/

/-- Writes bytes into host memory from an address on. -/
def hostWriteAux : Nat → List Byte → Table Byte → Table Byte
  | _, [], m => m
  | a, b :: r, m => hostWriteAux (a + 1) r (Table.put 0 (a % 2 ^ 64) b m)
def State.hostWrite (s : State) (a : Nat) (b : List Byte) : State :=
  { s with hostMem := hostWriteAux a b s.hostMem }
/-- `n` bytes of host memory from an address on. -/
def State.hostBytes (s : State) (a n : Nat) : List Byte := (upto n).map (fun i => Table.look 0 s.hostMem ((a + i) % 2 ^ 64))
/-- Rewrites a 16-byte completion record, in one write (R59). -/
def patchRecord (a : Nat) (f : List Byte → List Byte) (s : State) : State := s.hostWrite a (f (s.hostBytes a 16))
/-- One byte of host memory; a byte that the part has not written reads 0 (notes/assumptions/4.md). -/
def State.hostByte (s : State) (a : Nat) : Byte := Table.look 0 s.hostMem a

/-! ## Entities -/

def State.ring (s : State) (n : Nat) : Ring := Table.look {} s.host.rings n
def State.updRing (s : State) (n : Nat) (f : Ring → Ring) : State :=
  { s with host := { s.host with rings := Table.upd {} n f s.host.rings } }
/-- A write for a ring, kept for the tick in case it fails (R76): a completion record, or a report before it. -/
def ringPut (n a : Nat) (b : List Byte) (s : State) : State :=
  let w : RingWrite := { addr := a, old := s.hostBytes a b.length, count := (s.ring n).c }
  (s.hostWrite a b).updRing n (fun x => { x with wrote := x.wrote ++ [w] })
def State.axis (s : State) (a : Nat) : AxisP := Table.look {} s.plan.axes a
def State.updAxis (s : State) (a : Nat) (f : AxisP → AxisP) : State :=
  { s with plan := { s.plan with axes := Table.upd {} a f s.plan.axes } }
def State.grp (s : State) (g : Nat) : GroupP := Table.look {} s.plan.groups g
def State.updGrp (s : State) (g : Nat) (f : GroupP → GroupP) : State :=
  { s with plan := { s.plan with groups := Table.upd {} g f s.plan.groups } }

/-- The axes bound to a group, with their members, in axis order (R119). -/
def State.members (s : State) (g : Nat) : List (Nat × Nat) :=
  s.plan.axes.filterMap (fun e => match (s.axis e.1).bound with
    | some (g', m) => if g' = g then some (m, e.1) else none
    | none => none)
/-- The axis in a member slot. -/
def State.memberAxis (s : State) (g m : Nat) : Option Nat :=
  (s.members g).find? (fun e => e.1 == m) |>.map (·.2)
/-- The group of an axis. -/
def State.groupOf (s : State) (a : Nat) : Option Nat := (s.axis a).bound.map (·.1)

/-! ## Spar engines -/

/-- Engine codes (Table 1.1). -/
abbrev eNE : Nat := 34
abbrev eCE : Nat := 35
abbrev eVE : Nat := 36
abbrev eHE : Nat := 37
def State.eng (s : State) (e : Nat) : Eng := Table.look {} s.spar.engs e
def State.updEng (s : State) (e : Nat) (f : Eng → Eng) : State :=
  { s with spar := { s.spar with engs := Table.upd {} e f s.spar.engs } }
/-- An interrupt source of an engine becomes pending (R283, R284). -/
def State.engIrq (s : State) (e bitNo : Nat) : State := s.updEng e (fun x => { x with ipend := x.ipend ||| 2 ^ bitNo })

/-! ## What capture units observe (R400) -/

/-- Every sampling unit sees a latch edge (`lat`) or a PWM event of a number at an instant. -/
def State.capSee (s : State) (lat : Bool) (num t : Nat) : State :=
  { s with cap := { s.cap with units := s.cap.units.map (fun e =>
    if e.2.on then (e.1, { e.2 with seen := e.2.seen ++ [(lat, num, t)] }) else e) } }

/-! ## Group states (Tables 3.2 and 3.3) -/

abbrev gIdle : Nat := 0
abbrev gEnabled : Nat := 1
abbrev gMoving : Nat := 2
abbrev gHolding : Nat := 3
abbrev gSwapping : Nat := 4
abbrev gQuarantined : Nat := 5
abbrev gFaulted : Nat := 6

/-- The field of GLB.GRP_STATE0-3 that holds a group's state (Table 3.12). -/
def grpFld (g : Nat) : Fld := ⟨A.glbGrpState (g / 8), 4 * (g % 8) + 3, 4 * (g % 8)⟩
def State.gst (s : State) (g : Nat) : Nat := s.get (grpFld g)
/-- Whether any group is QUARANTINED (Table 3.11). -/
def State.anyQuar (s : State) : Bool := (upto 32).any (fun g => s.gst g == gQuarantined)
/-- The standing of a group trigger (R95). -/
def trigRank (old st : Nat) : Nat :=
  if st = gFaulted then 3 else if st = gQuarantined then 2
  else if st = gHolding ∨ st = gIdle ∨ (old = gMoving ∧ st = gEnabled) then 1 else 0
/-- Puts a group into a state; GROUP_STATE is raised when it changes (R118). -/
def State.setGst (s : State) (g st : Nat) : State :=
  let old := s.gst g
  if old = st then s
  else
    let t := s.set (grpFld g) st
    let t := t.setB F.glbStatus_QUAR_GRP t.anyQuar
    let t := t.updGrp g (fun p =>
      let met := match p.trig with | some x => if x.step = s.clk.ticks then x.met else old | none => old
      { p with trig := some { step := s.clk.ticks, rank := trigRank old st, met := met } })
    t.raise 0x0021 (if st = gFaulted ∨ st = gQuarantined then sevFault else sevInfo) (0x3000 + g) 0x907F
      [(16, 1, st), (17, 1, old)]

/-! ## Device modes (Table 3.1) -/

abbrev mReset : Nat := 0x0
abbrev mCalibrate : Nat := 0x1
abbrev mStandby : Nat := 0x2
abbrev mCommission : Nat := 0x3
abbrev mRun : Nat := 0x4
abbrev mReef : Nat := 0x5
abbrev mHauldown : Nat := 0x6
abbrev mSto : Nat := 0x7
abbrev mBackstay : Nat := 0x8
abbrev mThermal : Nat := 0x9
abbrev mService : Nat := 0xA
abbrev mQuarantine : Nat := 0xB

/-- The mode whose group transitions apply: in BACKSTAY the mode it was entered from (R94). -/
def State.motionMode (s : State) : Nat := if s.mode = mBackstay then s.md.backFrom else s.mode
/-- Whether planner motion may start in the mode in force (Tables 3.1 and 3.3). -/
def State.motionOk (s : State) : Bool :=
  s.motionMode == mCommission || s.motionMode == mRun || s.motionMode == mReef

/-- A trigger for a mode change that VE sees in its next step (R96, R100). -/
def State.request (s : State) (target cause rank : Nat) : State :=
  { s with md := { s.md with reqs := s.md.reqs ++ [{ target := target, cause := cause, rank := rank }] } }
/-- The life-cycle state (Table 3.9), and whether it permits a mode: in RETURN STANDBY, SERVICE and QUARANTINE only (R114). -/
def State.lc (s : State) : Nat := s.get F.glbLc_LC_STATE
def State.lcPermits (s : State) (target : Nat) : Bool := s.lc != 4 || [mStandby, mService, mQuarantine].contains target
/-- VE decides a mode change in the present step: the highest rank stands, among host requests the last (R100). -/
def State.decideMode (s : State) (target cause rank : Nat) : State :=
  if !s.lcPermits target then s else
  match s.md.decided with
  | none => { s with md := { s.md with decided := some { target := target, cause := cause, rank := rank } } }
  | some d =>
    if rank < d.rank ∨ (rank = d.rank ∧ rank = 7) then
      { s with md := { s.md with decided := some { target := target, cause := cause, rank := rank } } }
    else s

end Sys2Proof.Machine
end

