-- ==== Sys2Proof/Machine/Operands.lean ====
section
/-!
DEFINITION. Descriptor payloads: the lengths and defined bits of every opcode (Table 2.4 and the payload tables of the
chapters), clamping by field class (R77, R78, R583) and the outcome of a descriptor (Tables 2.6 to 2.8).
-/
namespace Sys2Proof

/-- A field of a payload word. -/
def Desc.f (d : Desc) (w hi lo : Nat) : Nat := Machine.bits (d.w w) hi lo
def Desc.fb (d : Desc) (w i : Nat) : Bool := Machine.bit (d.w w) i
/-- A payload word as a signed number. -/
def Desc.i (d : Desc) (w : Nat) : Int := (d.w w).toInt
def Desc.n (d : Desc) (w : Nat) : Nat := (d.w w).toNat
/-- A signed field of a payload word. -/
def Desc.fi (d : Desc) (w hi lo : Nat) : Int := Machine.sbits (d.w w) hi lo
/-- The descriptor with a field of payload word 1 at a value: the form of an opcode that a row of the opcode table stands for. -/
def Desc.force (d : Desc) (w hi lo v : Nat) : Desc :=
  if w = 1 then { d with w1 := d.w1 - BitVec.ofNat 64 (Machine.bits d.w1 hi lo * 2 ^ lo) + BitVec.ofNat 64 (v * 2 ^ lo) } else d
/-- The descriptor with CMD outside 1 to `top`: a code within them becomes 0. -/
def Desc.noCmd (d : Desc) (top : Nat) : Desc := if 1 ≤ d.f 1 11 8 ∧ d.f 1 11 8 ≤ top then d.force 1 11 8 0 else d

end Sys2Proof

namespace Sys2Proof.Machine

/-- What applying a descriptor reports: a bit per clamped word, NO_EFFECT, RESULT. -/
structure Reply where
  clamps : Nat := 0
  noEffect : Bool := false
  result : Nat := 0
deriving DecidableEq, Repr

/-- A value and whether it was clamped. -/
structure Clamped (α : Type) where
  val : α
  hit : Bool
deriving DecidableEq, Repr

/-- A number held within its legal range (Table 2.11). -/
def cN (lo hi x : Nat) : Clamped Nat := ⟨clampN lo hi x, decide (clampN lo hi x ≠ x)⟩
/-- A signed number held within its legal range. -/
def cI (lo hi x : Int) : Clamped Int := ⟨clampI lo hi x, decide (clampI lo hi x ≠ x)⟩
/-- 0, or a number held within its legal range. -/
def cN0 (lo hi x : Nat) : Clamped Nat := if x = 0 then ⟨0, false⟩ else cN lo hi x
/-- An enumerated code: codes above `top` fall back (Table 2.11). -/
def cE (top fallback x : Nat) : Clamped Nat := if x ≤ top then ⟨x, false⟩ else ⟨fallback, true⟩
/-- An enumerated code among those listed, else the fallback. -/
def cL (codes : List Nat) (fallback x : Nat) : Clamped Nat :=
  if codes.contains x then ⟨x, false⟩ else ⟨fallback, true⟩

/-- The mask of clamped words from (word, clamped) entries. -/
def clampMask : List (Nat × Bool) → Nat
  | [] => 0
  | (w, c) :: r => (if c then 2 ^ w else 0) ||| clampMask r

/-- The mask [hi:lo] of a payload word. -/
def fm (hi lo : Nat) : Nat := 2 ^ (hi + 1) - 2 ^ lo
def fullW : Nat := 2 ^ 64 - 1

/-- The shortest and longest LEN of an opcode and the defined bits of its payload words; none where the opcode is not defined
(R61, R62). -/
def opInfo (op : Nat) : Option (Nat × Nat × List Nat) :=
  match op with
  | 0x0000 => some (0, 0, [])
  | 0x0001 => some (1, 1, [fullW])
  | 0x0002 => some (1, 2, [fm 3 0, fm 31 0])
  | 0x0100 => some (1, 1, [fm 23 16 + fm 12 0])
  | 0x0101 => some (6, 6, [fm 7 0, fullW, fullW, fullW, fullW, fullW])
  | 0x0102 => some (5, 5, [fm 8 0, fullW, fullW, fullW, fullW])
  | 0x0103 => some (2, 7, [fm 63 48 + fm 42 16 + fm 10 0, fullW, fullW, fullW, fullW, fullW, fullW])
  | 0x0104 => some (2, 7, [fm 31 16 + fm 10 10 + fm 4 0, fullW, fullW, fullW, fullW, fullW, fullW])
  | 0x0105 => some (1, 1, [fm 11 8 + fm 4 0])
  | 0x0106 => some (3, 3, [fm 27 16 + fm 11 8 + fm 4 0, fullW, fullW])
  | 0x0107 => some (2, 2, [fm 28 16 + fm 5 0, fullW])
  | 0x0108 => some (3, 3, [fm 31 16 + fm 12 12 + fm 11 8 + fm 4 0, fullW, fullW])
  | 0x0109 => some (2, 2, [fm 4 0, fm 63 6])
  | 0x0200 => some (5, 5, [fm 63 48 + fm 40 32 + fm 23 16 + fm 9 0, fullW, fullW, fm 55 0, fm 31 0])
  | 0x0201 => some (1, 1, [fm 47 24 + fm 18 16 + fm 7 0])
  | 0x0202 => some (4, 4, [fm 9 0, fullW, fullW, fm 31 0])
  | 0x0203 => some (5, 5, [fm 23 16 + fm 9 0, fullW, fullW, fullW, fullW])
  | 0x0204 => some (3, 3, [fm 15 0, fullW, fullW])
  | 0x0205 => some (4, 4, [fm 13 11 + fm 9 0, fullW, fullW, fm 31 0])
  | 0x0206 => some (6, 6, [fm 11 11 + fm 9 0, fullW, fullW, fullW, fullW, fullW])
  | 0x0207 => some (4, 4, [fm 10 0, fullW, fullW, fm 47 0])
  | 0x0208 => some (4, 4, [fm 13 0, fullW, fullW, fullW])
  | 0x0209 => some (2, 2, [fm 7 0, fm 63 6])
  | 0x020A => some (2, 2, [fm 7 0, fm 63 6])
  | 0x020B => some (2, 2, [fm 7 0, fm 47 0])
  | 0x0300 => some (7, 7, [fm 31 16 + fm 8 0, fullW, fullW, fullW, fullW, fullW, fm 31 0])
  | 0x0301 => some (4, 4, [fm 47 15 + fm 7 0, fullW, fullW, fullW])
  | 0x0302 => some (5, 5, [fm 32 8 + fm 4 0, fullW, fullW, fullW, fullW])
  | 0x0303 => some (7, 7, [fm 23 16 + fm 13 8 + fm 4 0, fullW, fullW, fullW, fullW, fullW, fullW])
  | 0x0304 => some (7, 7, [fm 63 32 + fm 25 24 + fm 20 16 + fm 15 8 + fm 2 0, fullW, fullW, fullW, fullW, fullW, fullW])
  | 0x0305 => some (3, 3, [fm 63 32 + fm 9 8 + fm 4 0, fullW, fullW])
  | 0x0306 => some (2, 2, [fm 2 0, fm 31 0])
  | 0x0307 => some (2, 2, [0, fm 63 6])
  | 0x0400 => some (2, 2, [fm 63 32 + fm 5 0, fullW])
  | 0x0401 => some (2, 2, [fm 9 8 + fm 5 0, fm 33 0])
  | 0x0402 => some (1, 1, [fm 63 63 + fm 33 0])
  | 0x0403 => some (1, 1, [fm 4 0])
  | 0x0404 => some (2, 7, [fm 27 16 + fm 5 0, fullW, fullW, fullW, fullW, fullW, fullW])
  | 0x0405 => some (1, 1, [fullW])
  | 0x0600 => some (1, 1, [fm 29 24 + fm 16 16 + fm 15 8])
  | 0x0700 => some (1, 1, [fm 29 24 + fm 16 16 + fm 15 8])
  | 0x0800 => some (2, 2, [fm 47 32 + fm 11 8 + fm 1 0, fullW])
  | 0x0900 => some (4, 4, [fm 31 24 + fm 19 16 + fm 12 8 + fm 6 0, fullW, fm 63 32 + fm 23 16 + fm 7 0, fm 15 0])
  | 0x0901 => some (2, 6, [fm 6 0, fullW, fullW, fullW, fullW, fullW])
  | 0x0902 => some (2, 2, [fm 0 0, fullW])
  | 0x0903 => some (3, 3, [fm 31 16 + fm 1 1, fullW, fullW])
  | 0x0904 => some (3, 3, [fm 47 16 + fm 2 0, fullW, fullW])
  | 0x0905 => some (2, 2, [0, fm 63 6])
  | 0x0A00 => some (5, 5, [fm 15 8 + fm 0 0, fullW, fullW, fullW, fullW])
  | 0x0A01 => some (5, 5, [fm 15 8 + fm 0 0, fullW, fullW, fullW, fullW])
  | 0x0A02 => some (2, 2, [fm 31 0, fullW])
  | 0x0A03 => some (1, 1, [fm 31 0])
  | 0x0A04 => some (1, 1, [fm 63 63 + fm 31 0])
  | 0x0A05 => some (2, 2, [fm 0 0, fm 63 6])
  | 0x0B00 => some (1, 1, [fm 31 0])
  | 0x0B01 => some (0, 0, [])
  | 0x0C00 => some (1, 1, [fm 9 0])
  | 0x0C01 => some (1, 1, [fm 0 0])
  | _ => none

/-- The words among 1 to LEN whose reserved bits are not 0: their bits are ignored and the word counts as clamped (R77). -/
def rsvMask (d : Desc) (masks : List Nat) : Nat :=
  clampMask ((upto d.len.val).map (fun i =>
    (i + 1, (d.n (i + 1)) &&& ((fullW - masks.getD i fullW)) != 0)))

/-- The outcome with a reason: RESULT [31:24] holds it, NO_EFFECT is set when it is not 0. -/
def why (reason : Nat) (low : Nat := 0) (clamps : Nat := 0) : Reply :=
  { clamps := clamps, noEffect := reason != 0, result := reason * 2 ^ 24 + low }

/-- A report's host address: bits [5:0] are reserved and ignored (R583; `opInfo` and `rsvMask` report them). -/
def reportAddr (d : Desc) (w : Nat) : Nat := d.n w / 64 * 64

end Sys2Proof.Machine
end

