-- ==== Sys2Proof/Machine/Path.lean ====
section
/-!
DEFINITION. The jerk-limited path of a segment (R124 to R126, R136, R139, R140): exact integer arithmetic in the units that
Machine/State.lean names (distance 1/(3*2^97) count, speed 2^-65 counts/s, acceleration 2^-32 counts/s^2, time 2^-32 s). Phase
durations are the only quantities rounded; their rounding is not stated (`qdiv`, `qsqrt`).
-/
namespace Sys2Proof.Machine

/-- Distance units of one count of a Q48.16 length. -/
def sOf16 (x : Int) : Int := x * 3 * 2 ^ 81
/-- Speed units of a Q40.24 speed, acceleration units of a Q48.16 acceleration. -/
def vOf24 (x : Int) : Int := x * 2 ^ 41
def aOf16 (x : Int) : Int := x * 2 ^ 16

/-- A path state in path units. -/
structure PathState where
  s : Int
  v : Int
  a : Int
deriving DecidableEq, Repr

/-- The path state after `n` time units of jerk `j` (R124). -/
def advance (p : PathState) (n : Nat) (j : Int) : PathState :=
  { s := p.s + 3 * p.v * n + 3 * p.a * n * n + j * n * n * n
    v := p.v + 2 * p.a * n + j * n * n
    a := p.a + j * n }

/-- The durations and jerks of a ramp from speed `va` to `vb`, limit `x`, jerk `j` (R125). -/
def ramp (va vb : Int) (x j : Nat) : List (Nat × Int) :=
  let dv := (vb - va).natAbs
  let sg : Int := if va ≤ vb then 1 else -1
  if dv = 0 ∨ x = 0 ∨ j = 0 then []
  else if 2 * x * x ≤ dv * j then
    let n1 := (qdiv x j).toNat
    let n2 := (qdiv dv (2 * x)).toNat - n1
    [(n1, sg * j), (n2, 0), (n1, -(sg * j))]
  else
    let n1 := qsqrt (dv / (2 * j))
    [(n1, sg * j), (n1, -(sg * j))]

/-- A ramp to speed `vb` from a state whose acceleration is not 0: an acceleration towards `vb` goes on to its peak and is
released in time, one above the limit is lowered to it; any other is released first (R153: the values apply at once through the jerk
limit). -/
def rampFrom (v a vb : Int) (x j : Nat) : List (Nat × Int) :=
  if a = 0 ∨ j = 0 then ramp v vb x j
  else
    let rel := (qdiv a.natAbs j).toNat
    let sg : Int := if 0 < a then 1 else -1
    let vr := v + sg * qdiv (a * a) j
    if 0 < sg * (vb - vr) then
      -- still short of vb after a release now: the peak p satisfies 2 p^2 = j |vb - v| + a^2
      let p2 := (j * (vb - v).natAbs + a.natAbs * a.natAbs) / 2
      let p := qsqrt p2
      if x < a.natAbs then
        -- down to the limit, at the limit, and out
        let hold := if x = 0 then 0 else (qdiv (vb - vr).natAbs (2 * x)).toNat
        [((qdiv (a.natAbs - x : Int) j).toNat, -(sg * j)), (hold, 0), ((qdiv x j).toNat, -(sg * j))]
      else if p ≤ x then
        let pk := max p a.natAbs
        [((qdiv (pk - a.natAbs : Int) j).toNat, sg * j), ((qdiv pk j).toNat, -(sg * j))]
      else
        let n0 := (qdiv (x - a.natAbs : Int) j).toNat
        let used := 2 * (x * x : Int) - (a.natAbs * a.natAbs : Int)
        let n1 := (qdiv ((j : Int) * (vb - v).natAbs - used) (2 * x * j)).toNat
        [(n0, sg * j), (n1, 0), ((qdiv x j).toNat, -(sg * j))]
    else (rel, -(sg * j)) :: ramp vr vb x j

/-- Lays phases end to end from a state. -/
def lay : PathState → List (Nat × Int) → List Phase × PathState
  | p, [] => ([], p)
  | p, (n, j) :: r =>
    let (ps, e) := lay (advance p n j) r
    ({ n := n, j := j, s := p.s, v := p.v, a := p.a } :: ps, e)

/-- The total duration of phases. -/
def totalN (ps : List Phase) : Nat := (ps.map (·.n)).sum
/-- The distance a list of durations and jerks covers from a speed and acceleration. -/
def travel (v a : Int) (l : List (Nat × Int)) : Int := (lay ⟨0, v, a⟩ l).2.s

/-- The largest `x` found by `n` bisection steps over [lo, hi], keeping the lower bound at each step (R126, R140). -/
def bisect (ok : Int → Bool) : Nat → Int → Int → Int
  | 0, lo, _ => lo
  | n + 1, lo, hi =>
    let m := (lo + hi) / 2
    if ok m then bisect ok n m hi else bisect ok n lo m

/-- The limits of a plan in path units: peak speed, acceleration, deceleration, jerk. -/
structure Lim where
  v : Nat
  a : Nat
  d : Nat
  j : Nat
deriving DecidableEq, Repr

/-- A plan from a state to distance `len` with end speed `v1` (R126): phases, and how many of them precede the final ramp. -/
def planPath (p : PathState) (len v1 : Int) (l : Lim) : List Phase × Nat :=
  let up (vp : Int) : List (Nat × Int) := rampFrom p.v p.a vp (if p.v ≤ vp then l.a else l.d) l.j
  let down (vp : Int) : List (Nat × Int) := ramp vp v1 l.d l.j
  let need (vp : Int) : Int := travel p.v p.a (up vp) + travel vp 0 (down vp)
  let left := len - p.s
  let lo : Int := if (l.v : Int) < p.v then v1 else max p.v v1
  let vp : Int :=
    if need l.v ≤ left then l.v else bisect (fun x => decide (need x ≤ left)) 32 (min lo l.v) l.v
  let rest := left - need vp
  let cruise : List (Nat × Int) := if 0 < rest ∧ 0 < vp then [((qdiv rest (3 * vp)).toNat, 0)] else []
  let (ps1, e1) := lay p (up vp)
  let (ps2, e2) := lay ⟨e1.s, vp, 0⟩ cruise
  let (ps3, _) := lay ⟨e2.s, vp, 0⟩ (down vp)
  (ps1 ++ ps2 ++ ps3, ps1.length + ps2.length)

/-- The path state at time `x` (1/125 time unit) of a list of phases, scaled: s by 125^3, v by 125^2, a by 125. -/
def evalPhases : List Phase → Nat → Option PathState
  | [], _ => none
  | p :: r, x =>
    if x < 125 * p.n then
      let y : Int := x
      some { s := p.s * 1953125 + 3 * p.v * y * 15625 + 3 * p.a * y * y * 125 + p.j * y * y * y
             v := p.v * 15625 + 2 * p.a * y * 125 + p.j * y * y
             a := p.a * 125 + p.j * y }
    else evalPhases r (x - 125 * p.n)

/-- The state at the end of a list of phases, scaled as `evalPhases`. -/
def endState (ps : List Phase) : PathState :=
  match ps.getLast? with
  | none => ⟨0, 0, 0⟩
  | some p =>
    let e := advance ⟨p.s, p.v, p.a⟩ p.n p.j
    ⟨e.s * 1953125, e.v * 15625, e.a * 125⟩

/-- The largest speed from which speed `v1` is reached within a distance (R136). -/
def reach (len v1 : Int) (x j : Nat) (top : Int) : Int :=
  if travel top 0 (ramp top v1 x j) ≤ len then top
  else bisect (fun v => decide (travel v 0 (ramp v v1 x j) ≤ len)) 32 (min v1 top) top

/-! ## Segments -/

def Seg.lim (s : Seg) : Lim := ⟨s.v * 2 ^ 41, s.a * 2 ^ 16, s.d * 2 ^ 16, s.j⟩
/-- The change of member `m` over the segment, Q48.16. -/
def Seg.delta (s : Seg) (m : Nat) : Int := s.target.getD m 0 - s.start.getD m 0

/-- The bound `x / |u|` of a member's maximum under its share (R130); none when the member does not move. -/
def shareBound (x : Nat) (delta : Int) (len : Nat) : Option Nat :=
  if delta = 0 then none else some (qdiv (x * len : Nat) delta.natAbs).toNat

/-- The smallest of the bounds of the members that move. -/
def minBound (l : List (Option Nat)) : Option Nat :=
  l.foldl (fun acc x => match acc, x with
    | none, b => b
    | some a, none => some a
    | some a, some b => some (min a b)) none

/-- One value of R130: the profile's, or the smallest bound where it is 0, scaled by FEED, lowered to the bound. The flag says
whether a value of the profile was lowered. -/
def formOne (profile : Nat) (bound : Option Nat) (feed : Nat) : Nat × Bool :=
  let raw := if profile = 0 then bound.getD 0 else profile
  let x := if feed = 1024 then raw else (qdiv (raw * feed : Nat) 1024).toNat
  match bound with
  | none => (x, false)
  | some b => if b < x then (b, profile != 0) else (x, false)

/-- The path length and lead member of a move: the largest change, the lowest number among equals (R129). -/
def leadOf (start target : List Int) (named : List Nat) : Nat × Nat :=
  let d (m : Nat) : Nat := (target.getD m 0 - start.getD m 0).natAbs
  named.foldl (fun (acc : Nat × Nat) m => if acc.2 < d m then (m, d m) else acc) (named.headD 0, d (named.headD 0))

/-- A member position from its start and the path state (R129): numerator over `len * 3 * 2^97 * 125^3`, rounded by R127. -/
def memberPos (start delta : Int) (len : Nat) (s : Int) : Int :=
  if len = 0 then start + delta
  else
    let den : Int := (len : Int) * 3 * 2 ^ 97 * 1953125
    rdiv (start * den + delta * s * 2 ^ 16) den
def memberVel (delta : Int) (len : Nat) (v : Int) : Int :=
  if len = 0 then 0 else rdiv (delta * v) ((len : Int) * 2 ^ 41 * 15625)
def memberAcc (delta : Int) (len : Nat) (a : Int) : Int :=
  if len = 0 then 0 else rdiv (delta * a) ((len : Int) * 2 ^ 16 * 125)

end Sys2Proof.Machine
end

