-- ==== Sys2Proof/Machine/Planner.lean ====
section
/-!
DEFINITION. The planner engines (spec/04_motion_planner.md): queues and their slot book, planning and blending, stops,
immediate targets, live profiles, gears and cams, the end of a plan on a fault, and the setpoints of each tick.
-/
namespace Sys2Proof.Machine

/-! ## Places and queue slots -/

/-- The planner engine that owns a group (Table 1.2). -/
def peOf (g : Nat) : Nat := 24 + g / 4
/-- The control place of a planner event (R162). -/
def planPlace (g : Nat) : Nat := place (peOf g) 0 g

/-- The step in which VE applied the descriptor of an entry. -/
def Entry.step : Entry → Nat
  | .move b => b.step
  | .couple c => c.step
/-- Whether a planner engine sees an entry: it takes it from the tick exchange in the tick after VE applied it (R128). -/
def State.sees (s : State) (e : Entry) : Bool := decide (e.step < s.clk.ticks)
/-- The slots that an executing entry holds: none on the way to rest of a discarded one (R151). -/
def Exec.slots (e : Exec) : Nat := if e.seg.noSlot then 0 else 1
/-- Queue slots in use: queued, executing and reserved by open MOVEs (R134, R135); a gear or cam in force executes (R150), and so does a
disengagement until the member is at rest. -/
def State.slotsUsed (s : State) (g : Nat) : Nat :=
  let p := s.grp g
  p.queue.length + (p.cur.map Exec.slots).getD 0 + (p.nxt.map Exec.slots).getD 0 + p.rels.length + countIf (·.slot) p.stops +
    countIf (fun (e : Nat × Option OpenMove) => match e.2 with
      | some o => o.group == g && o.reserved
      | none => false) s.plan.opens
/-- FREE as VE holds it: slots freed in this tick are published at the next exchange (R134, R135). -/
def State.free? (s : State) (g : Nat) : Nat := 256 - s.slotsUsed g - (s.grp g).freed
/-- The RESULT of a planner opcode (R160). -/
def planReply (s : State) (g reason : Nat) (clamps : Nat := 0) : Reply := why reason (s.free? g) clamps
def freeSlots (n : Nat) (p : GroupP) : GroupP := { p with freed := p.freed + n }

/-! ## Ceilings (R144, R145) -/

/-- The lowest reef ceiling the Shroud publishes for an axis, counts/s (R480); none when no safe axis names it. -/
def State.ceiling (s : State) (a : Nat) : Option Nat :=
  minBound ((upto 64).map (fun k =>
    let c := s.get (F.shrSaCeil_CEIL k)
    if c ≠ 0 ∧ s.get (F.shrSa_AXIS k) = a then some c else none))

/-- The speed limit of a plan under the ceilings of its members (R144). -/
def reefV (s : State) (g : Nat) (seg : Seg) : Nat × Bool :=
  let bs := (s.members g).map (fun e =>
    match s.ceiling e.2 with
    | none => none
    | some c => shareBound (c * 2 ^ 24) (seg.delta e.1) seg.len)
  match minBound bs with
  | none => (seg.v, false)
  | some b => if b < seg.v then (b, true) else (seg.v, false)

/-- V, A, D and J of a segment for the axes of its members (R130): the segment and whether a profile value was lowered. -/
def formSeg (s : State) (g : Nat) (seg : Seg) : Seg × Bool :=
  let mem := s.members g
  let bound (pick : AxisP → Nat) : Option Nat :=
    minBound (mem.map (fun e => shareBound (pick (s.axis e.2)) (seg.delta e.1) seg.len))
  let bv := bound (·.vmax)
  let ba := bound (·.amax)
  let bj := bound (·.jmax)
  let v := formOne seg.profV.v bv seg.feed
  let a := formOne seg.profV.a ba 1024
  let d := formOne seg.profV.d ba 1024
  let j := formOne seg.profV.j bj 1024
  ({ seg with v := v.1, a := a.1, d := d.1, j := j.1 }, v.2 || a.2 || d.2 || j.2)

/-- The previous targets of a group's members by member (R129). -/
def State.targets (s : State) (g : Nat) : List Int :=
  (upto 16).map (fun m => match s.memberAxis g m with | some a => (s.axis a).target | none => 0)
/-- The present setpoints of a group's members by member. -/
def State.setpoints (s : State) (g : Nat) : List Int :=
  (upto 16).map (fun m => match s.memberAxis g m with | some a => (s.axis a).pos | none => 0)
def State.setTargets (s : State) (g : Nat) (l : List Int) : State :=
  forEach (s.members g) (fun e t => t.updAxis e.2 (fun x => { x with target := l.getD e.1 x.target })) s

/-! ## Planning -/

/-- Blend limits of a joint (R140): deceleration limit and jerk of the blend ramp. -/
def blendLim (s : State) (g : Nat) (a b : Seg) : Nat × Nat :=
  let du (m : Nat) : Nat := (b.delta m * a.len - a.delta m * b.len).natAbs
  let bnd (pick : AxisP → Nat) : Option Nat :=
    minBound ((s.members g).map (fun e => shareBound (pick (s.axis e.2)) (du e.1) (a.len * b.len)))
  let x := min b.a a.d
  let j := min a.j b.j
  ((match bnd (·.amax) with | some y => min x y | none => x) * 2 ^ 16,
   (match bnd (·.jmax) with | some y => min j y | none => j))

/-- The first member marked NO_REVERSE that a segment would drive backwards (R121). -/
def Seg.reverses (s : State) (g : Nat) (b : Seg) : Option Nat :=
  (s.members g).find? (fun e => (s.axis e.2).noReverse && decide (b.delta e.1 < 0)) |>.map (·.1)

/-- The moves at the head of a queue that a planner engine sees, as far as they are known before they start: at most `n` (R136). -/
def headMoves (s : State) : Nat → List Entry → List Seg
  | n + 1, .move b :: r => if s.sees (.move b) ∧ !b.reform then b :: headMoves s n r else []
  | _, _ => []

/-- Whether the corner deviation of a blend from speed `vb` stays within CTOL for every member (R140). -/
def cornerOk (s : State) (g : Nat) (a b : Seg) (x j : Nat) (vb : Int) : Bool :=
  let ps := (lay ⟨0, 0, 0⟩ (ramp 0 vb x j)).1
  let dmid := match evalPhases ps (totalN ps * 125 / 2) with | some p => p.s | none => 0
  (s.members g).all (fun m =>
    let du : Nat := (b.delta m.1 * a.len - a.delta m.1 * b.len).natAbs
    decide (dmid * du ≤ (a.ctol : Int) * a.len * b.len * 3 * 2 ^ 97 * 1953125))

/-- The speed of the joint between a segment and what follows it (R136, R139, R140): the largest, found by 32 bisection steps over
[0, min(VA, VB)], for which the blend keeps the corner tolerance, the next joint and so the final stop can be reached at the next
segment's D, and `fit` holds (what the segment itself can reach from its entry speed). A joint with CTOL 0, or one before a segment that
R152 will replace, is a stop. -/
def jointSpeed (s : State) (g : Nat) (fit : Nat → Nat → Int → Bool) (a : Seg) : List Seg → Int
  | [] => 0
  | b :: r =>
    if a.ctol = 0 ∨ a.len = 0 ∨ b.len = 0 ∨ (b.reverses s g).isSome then 0
    else
      let vn := jointSpeed s g (fun _ _ _ => true) b r
      let (x, j) := blendLim s g a b
      let out (v : Int) : Int := match r with
        | [] => 0
        | c :: _ => let (xn, jn) := blendLim s g b c; travel v 0 (ramp v 0 xn jn)
      let ok (vb : Int) : Bool :=
        let vt := min vb vn
        cornerOk s g a b x j vb && fit x j vb &&
          decide (travel 0 0 (ramp 0 vb x j) + travel vb 0 (ramp vb vt (b.d * 2 ^ 16) b.j) + out vt ≤ sOf16 b.len)
      let top := vOf24 (min (reefV s g a).1 (reefV s g b).1)
      if top ≤ 0 then 0 else bisect ok 32 0 top

/-- The plan of a segment from a path state: what precedes it is `pre` (a blend-in ramp), the joint at its end is blended with
the next queued move when CTOL is not 0 (R139). The window holds the segment and up to 63 more (R136). -/
def planSeg (s : State) (g : Nat) (seg : Seg) (pre : List (Nat × Int)) (p : PathState) : Exec :=
  let cap := (reefV s g seg).1 * 2 ^ 41
  let lim := { seg.lim with v := cap }
  let (ps0, e0) := lay p pre
  let len := sOf16 seg.len
  let plain (vEnd : Int) (out : List (Nat × Int)) (x j : Nat) : Exec :=
    let outD := travel vEnd 0 out
    let (ps1, tail) := planPath e0 (len - outD) vEnd lim
    let e1 := endState ps1
    let s1 := if ps1.isEmpty then e0.s else e1.s / 1953125
    let (ps2, _) := lay ⟨s1, vEnd, 0⟩ out
    let ps := ps0 ++ ps1 ++ ps2
    { seg := seg, phases := ps, total := totalN ps, tailFrom := ps0.length + tail, vEnd := vEnd,
      tb := totalN ps2, xb := x, jb := j, cap := cap, succ := (s.grp g).queue.any s.sees }
  match headMoves s 63 (s.grp g).queue with
  | [] => plain 0 [] 0 0
  | b :: rest =>
    let fit (x j : Nat) (vb : Int) : Bool :=
      decide (e0.s + travel e0.v e0.a (rampFrom e0.v e0.a vb (if e0.v ≤ vb then lim.a else lim.d) lim.j) +
        travel vb 0 (ramp vb 0 x j) ≤ len)
    let vb := jointSpeed s g fit seg (b :: rest)
    let (x, j) := blendLim s g seg b
    if vb ≤ 0 then plain 0 [] 0 0 else plain vb (ramp vb 0 x j) x j

/-- Whether the executing segment has begun its final ramp, so that its joint is committed (R137). -/
def Exec.committed (e : Exec) : Bool := decide (totalN (e.phases.take e.tailFrom) * 125 ≤ e.el)
/-- The path state of an executing segment at its elapsed time, scaled (see `evalPhases`). -/
def Exec.now (e : Exec) : PathState := (evalPhases e.phases e.el).getD (endState e.phases)
/-- The same, in path units (rounded down below one unit). -/
def Exec.nowUnits (e : Exec) : PathState :=
  let p := e.now
  ⟨p.s / 1953125, p.v / 15625, p.a / 125⟩

/-- Where the members stand at the end of an executing segment. -/
def Exec.restAt (e : Exec) (m : Nat) : Int := match e.stopAt with
  | some l => l.getD m 0
  | none => e.seg.target.getD m 0
/-- Whether the executing segment has reached its end. -/
def Exec.done (e : Exec) : Bool := decide (e.total * 125 ≤ e.el)

/-- The segment a queue entry becomes when it starts: one formed afresh takes its start, lead and shares from the present
setpoints (R151); so does one whose members do not stand where it was to start, behind a gear or cam (notes/assumptions/114.md). One that
would drive a NO_REVERSE member backwards ends where it starts (R121, R152; notes/assumptions/108.md): the
member that forces it is told. -/
def startSeg (s : State) (g : Nat) (seg : Seg) : Seg × Option Nat :=
  let afresh := seg.reform || (s.members g).any (fun e => seg.start.getD e.1 0 != (s.axis e.2).pos)
  let st := if afresh then s.setpoints g else seg.start
  let tg := if afresh then (upto 16).map (fun m => if seg.named.contains m then seg.target.getD m 0 else st.getD m 0) else seg.target
  let b : Seg := { seg with start := st, target := tg, reform := false }
  match b.reverses s g with
  | some m => ({ b with target := st, len := 0 }, some m)
  | none =>
    if afresh then
      let (ld, ln) := leadOf st tg seg.named
      ((formSeg s g { b with lead := ld, len := ln }).1, none)
    else (b, none)

/-- Starts the entry at the head of the queue as the executing segment, `el` time already spent in it. Where its target is replaced, the
moves behind it are formed afresh from there. -/
def startMove (s : State) (g : Nat) (seg0 : Seg) (r : List Entry) (el : Nat) : State :=
  let (seg, repl) := startSeg s g seg0
  let r' := if repl.isNone then r else r.map (fun x => match x with | .move b => .move { b with reform := true } | c => c)
  let s1 := s.updGrp g (fun p => { p with queue := r' })
  let e := planSeg s1 g seg [] ⟨0, 0, 0⟩
  let s2 := s1.updGrp g (fun p => { p with cur := some { e with el := el } })
  match repl with
  | none => s2
  | some m =>
    (if r.isEmpty then s2.setTargets g seg.target else s2).raise 0x0102 sevWarn (0x3000 + g) (planPlace g)
      [(16, 2, seg.tag), (18, 1, m), (24, 8, wrapN 64 (seg.start.getD m 0))]

/-! ## Gears and cams (R155 to R159) -/

/-- The extended feedback position of an axis, Q48.16 counts. -/
def State.actual (s : State) (a : Nat) : Int := (Table.look {} s.loop.axes a).actual

/-- The master's position, Q48.16 counts, `lead` ticks on (R155, R147): what it will have travelled by then is taken at its present
velocity, the model's choice (notes/assumptions/109.md). -/
def State.masterPos (s : State) (c : Couple) (lead : Nat) : Int :=
  let on (p v : Int) : Int := if lead = 0 then p else p + qdiv (v * s.ftNs * lead) (2 ^ 8 * 1000000000)
  match c.source with
  | 1 => on (Table.look {} s.loop.axes c.master).actVis (Table.look {} s.loop.axes c.master).vActVis
  | 2 => if s.web.refAxis = 0xFF then 0 else on (s.axis s.web.refAxis).visPos (s.axis s.web.refAxis).visVel
  | _ => on (s.axis c.master).visPos (s.axis c.master).visVel

/-- Second derivatives of a natural or periodic cubic spline through points with rising masters: the free value of the
manual's spline where the table is not the two-point line. The value between two points is given by the manual only through the
conditions of R158; `Config`'s rounding applies. -/
def splineSecond (pts : List (Int × Int)) (periodic : Bool) : List (Int × Int) :=
  -- rationals (numerator, denominator) of the second derivatives, by the tridiagonal elimination
  let n := pts.length
  let x (i : Nat) : Int := (pts.getD i (0, 0)).1
  let y (i : Nat) : Int := (pts.getD i (0, 0)).2
  let h (i : Nat) : Int := x (i + 1) - x i
  let norm (a b : Int) : Int × Int :=
    let g : Int := Int.gcd a b
    if g = 0 then (0, 1) else if b < 0 then (-a / g, -b / g) else (a / g, b / g)
  let add (p q : Int × Int) : Int × Int := norm (p.1 * q.2 + q.1 * p.2) (p.2 * q.2)
  let mul (p q : Int × Int) : Int × Int := norm (p.1 * q.1) (p.2 * q.2)
  let neg (p : Int × Int) : Int × Int := (-p.1, p.2)
  let dvd (p q : Int × Int) : Int × Int := norm (p.1 * q.2) (p.2 * q.1)
  let slope (i : Nat) : Int × Int := norm (y (i + 1) - y i) (h i)
  if n < 3 then pts.map (fun _ => (0, 1))
  else
    -- unknowns 1 .. n-2 (natural) or 0 .. n-2 (periodic, solved with the corner unknown as a parameter)
    let solve (m0 mN : Int × Int) : List (Int × Int) :=
      -- forward elimination over rows i = 1 .. n-2 with M_0 = m0 and M_{n-1} = mN
      let rows := (List.range (n - 2)).map (· + 1)
      let fwd := rows.foldl (fun (acc : List ((Int × Int) × (Int × Int))) i =>
        let a : Int × Int := (h (i - 1), 1)
        let b : Int × Int := (2 * (h (i - 1) + h i), 1)
        let c : Int × Int := (h i, 1)
        let d := mul (6, 1) (add (slope i) (neg (slope (i - 1))))
        let d := if i = 1 then add d (neg (mul a m0)) else d
        let d := if i = n - 2 then add d (neg (mul c mN)) else d
        match acc.getLast? with
        | none => [(dvd c b, dvd d b)]
        | some (cp, dp) =>
          let den := add b (neg (mul a cp))
          acc ++ [(dvd c den, dvd (add d (neg (mul a dp))) den)]) []
      let back := fwd.reverse.foldl (fun (acc : List (Int × Int)) (cd : (Int × Int) × (Int × Int)) =>
        match acc.head? with
        | none => [cd.2]
        | some nx => add cd.2 (neg (mul cd.1 nx)) :: acc) []
      [m0] ++ back ++ [mN]
    if periodic then
      -- linear in the corner value M: combine the solutions for 0 and 1
      let s0 := solve (0, 1) (0, 1)
      let s1 := solve (1, 1) (1, 1)
      let row (l : List (Int × Int)) : Int × Int :=
        let g (i : Nat) : Int × Int := l.getD i (0, 1)
        add (add (mul (h (n - 2), 1) (g (n - 2))) (mul (2 * (h (n - 2) + h 0), 1) (g 0))) (mul (h 0, 1) (g 1))
      let rhs := mul (6, 1) (add (slope 0) (neg (slope (n - 2))))
      let r0 := row s0
      let r1 := row s1
      let m := dvd (add rhs (neg r0)) (add r1 (neg r0))
      solve m m
    else solve (0, 1) (0, 1)

/-- The interval of a master position in a table: the number of its first point. -/
def camInterval : List (Int × Int) → Int → Nat
  | (_, _) :: (b, y) :: r, x => if x < b ∨ r.isEmpty then 0 else 1 + camInterval ((b, y) :: r) x
  | _, _ => 0

/-- The spline of a table at a master position, Q48.16, and whether the position lies outside a table that is not periodic
(R158, R159). -/
def camEval (c : Cam) (x : Int) : Int × Bool :=
  match c.pts.head?, c.pts.getLast? with
  | some first, some last =>
    let pm := last.1 - first.1
    let turns := if c.periodic ∧ 0 < pm then Int.fdiv (x - first.1) pm else 0
    let x1 := x - turns * pm
    let adv := turns * (last.2 - first.2)
    if x1 < first.1 then (first.2, true)
    else if last.1 < x1 then (last.2, true)
    else
      let i := camInterval c.pts x1
      let m := splineSecond c.pts c.periodic
      let p0 := c.pts.getD i (0, 0)
      let p1 := c.pts.getD (i + 1) (0, 0)
      let h := p1.1 - p0.1
      let m0 := m.getD i (0, 1)
      let m1 := m.getD (i + 1) (0, 1)
      let a := p1.1 - x1
      let b := x1 - p0.1
      -- S = (M0 a^3 + M1 b^3)/(6h) + (y0/h - M0 h/6) a + (y1/h - M1 h/6) b over the common denominator
      let den := 6 * h * m0.2 * m1.2
      let num := m0.1 * m1.2 * (a * a * a - h * h * a) + m1.1 * m0.2 * (b * b * b - h * h * b) +
        6 * m0.2 * m1.2 * (p0.2 * a + p1.2 * b)
      (adv + rdiv num den, false)
  | _, _ => (0, true)

/-- The position a gear or cam demands of its slave (R156, R159), and whether a cam's master has left its range. -/
def relDemand (s : State) (lead : Nat) (r : Rel) : Int × Bool :=
  let x := s.masterPos r.c lead - r.m0
  match r.c.cam with
  | some t =>
    let v := camEval (Table.look {} s.plan.cams t) (s.masterPos r.c lead - r.c.mOff)
    (r.c.sOff + v.1 + r.off, v.2)
  | none =>
    let cl : Int := (r.c.clutch : Int) * 65536
    let den : Int := if r.c.den = 0 then 1 else r.c.den
    let sg : Int := if x < 0 then -1 else 1
    let d :=
      if cl ≠ 0 ∧ x.natAbs < cl.natAbs then qdiv (r.c.num * (x * x)) (den * 2 * cl)
      else qdiv (r.c.num * (2 * x - sg * cl)) (2 * den)
    (r.s0 + d + r.off, false)

/-- Stops a member in its own counts at profile 0's D and J, or at its AMAX and JMAX, from its present speed and acceleration (R142,
R150, R155). -/
def ownStop (s : State) (g m a : Nat) : MemberStop :=
  let ax := s.axis a
  let pr := Table.look {} (s.grp g).profiles 0
  let d := if pr.d = 0 then ax.amax else pr.d
  let j := if pr.j = 0 then ax.jmax else pr.j
  let v0 := vOf24 ax.vel.natAbs
  let a0 := aOf16 (if ax.vel < 0 then -ax.acc else ax.acc)
  let (ps, _) := lay ⟨0, v0, a0⟩ (rampFrom v0 a0 0 (d * 2 ^ 16) j)
  { member := m, pos := ax.pos, neg := decide (ax.vel < 0), phases := ps, total := totalN ps }

/-- The relation of a slave begins at its present position: it does not jump (R156, R159). -/
def relBegin (s : State) (a : Nat) (r : Rel) : Rel :=
  let ax := s.axis a
  let base : Rel := { c := r.c, m0 := s.masterPos r.c ax.lead, s0 := ax.pos, want := ax.pos }
  if r.c.cam.isSome then { base with off := ax.pos - (relDemand s ax.lead base).1 } else base

/-- Engages a gear or cam from the head of a queue, or disengages it: the slave does not jump, a cam reports the offset added (R159). The
entry that it replaces or ends frees its slot. -/
def engage (s : State) (g : Nat) (c : Couple) : State :=
  match s.memberAxis g c.member with
  | none => s.updGrp g (freeSlots 1)
  | some a =>
    let keep := (s.grp g).rels.filter (fun r => r.c.member != c.member)
    let s1 := s.updGrp g (fun p => freeSlots (p.rels.length - keep.length) { p with
      rels := keep, stops := p.stops.filter (fun x => x.member != c.member) })
    if c.off then s1.updGrp g (fun p => { p with stops := p.stops ++ [{ ownStop s g c.member a with slot := true }] })
    else
      let r := relBegin s a { c := c, m0 := 0, s0 := 0 }
      let s2 := s1.updGrp g (fun p => { p with rels := p.rels ++ [r] })
      if c.cam.isSome then s2.raise 0x010B sevInfo (0x4000 + a) (planPlace g) [(16, 1, c.member), (24, 8, wrapN 64 r.off)] else s2

/-- The speed that an acceleration still adds while it is released by `dj` a tick. -/
def releaseGain (a dj ft : Int) : Int :=
  let n : Int := if dj ≤ 0 then 0 else a.natAbs / dj
  let sum := (n * a.natAbs - dj * (n * (n + 1) / 2)) * ft * 2 ^ 8
  qdiv (if a < 0 then -sum else sum) 1000000000
/-- What JMAX changes an acceleration by in a tick. -/
def AxisP.jerkTick (ax : AxisP) (ft : Int) : Int := qdiv ((ax.jmax : Int) * ft * 65536) 1000000000
/-- Whether a slave may take an acceleration in its next tick (R157): within AMAX, within JMAX of the present one, and no larger than can
be released at JMAX before the speed meets its bounds. -/
def slaveMay (ax : AxisP) (ft lo hi a : Int) : Bool :=
  let v := ax.vel + qdiv (a * ft * 2 ^ 8) 1000000000 + releaseGain a (ax.jerkTick ft) ft
  decide (a.natAbs ≤ ax.amax) && decide ((a - ax.acc).natAbs ≤ (ax.jerkTick ft).natAbs) && decide (lo ≤ v) && decide (v ≤ hi)
/-- The largest acceleration that a slave may take and that `fits`; where none does, the nearest that JMAX and AMAX reach. -/
def slaveAcc (ax : AxisP) (ft lo hi : Int) (fits : Int → Bool) : Int :=
  let dj := ax.jerkTick ft
  let least := min (max (ax.acc - dj) (-(ax.amax : Int))) (ax.acc + dj)
  let most := max (min (ax.acc + dj) ax.amax) (ax.acc - dj)
  let speed (a : Int) : Int := ax.vel + qdiv (a * ft * 2 ^ 8) 1000000000 + releaseGain a dj ft
  let up (a : Int) : Bool := decide (speed a ≤ hi) && fits a
  let a := if up most then most else bisect up 32 least most
  if lo ≤ speed a then a else -(bisect (fun x => decide (lo ≤ speed (-x))) 32 (-most) (-a))

/-- One tick of a coupled slave: it follows the demand within VMAX, its ceiling (R144), AMAX and JMAX and never backwards when NO_REVERSE
(R157). It meets the demand where that takes no more than the limits, and else approaches it within them; the manual gives the limits and not
the way the slave is held at them (notes/assumptions/16.md). An excursion lasts until the
slave meets the demand again; without CATCH_UP its slip is what the relation has taken up since it began. A slave that a stop has brought
to rest goes on from there. -/
def relTick (g : Nat) (r : Rel) (s : State) : State :=
  match s.memberAxis g r.c.member with
  | none => s
  | some a =>
    let put (r' : Rel) (t : State) : State :=
      t.updGrp g (fun p => { p with rels := p.rels.map (fun x => if x.c.member = r.c.member then r' else x) })
    match (s.grp g).stops.find? (fun x => x.member == r.c.member) with
    | some x =>
      if x.total * 125 ≤ x.el then
        put (relBegin s a r) (s.updGrp g (fun p => { p with stops := p.stops.filter (fun y => y.member != r.c.member) }))
      else s
    | none =>
      let ax := s.axis a
      let (want, out) := relDemand s ax.lead r
      let ft : Int := s.ftNs
      let top : Nat := match s.ceiling a with | some c => min ax.vmax (c * 2 ^ 24) | none => ax.vmax
      let lo : Int := if ax.noReverse then 0 else -(top : Int)
      let perTick (x : Int) : Int := qdiv (x * 1000000000) (ft * 2 ^ 8)
      let speed (x : Int) : Int := qdiv (x * 2 ^ 8 * 1000000000) ft
      let vreq := speed (want - ax.pos)
      let areq := perTick (vreq - ax.vel)
      let rate := speed (want - r.want)
      let am := clampI (-(ax.amax : Int)) ax.amax (perTick (rate - r.rate))
      let exact := decide (lo ≤ vreq) && decide (vreq ≤ top) && slaveMay ax ft lo top areq
      -- beside the demand: the speed after a tick at an acceleration, and what it goes on to
      let beside (a : Int) : Int := ax.vel + qdiv (a * ft * 2 ^ 8) 1000000000 - rate
      let fits (a : Int) : Bool :=
        if r.c.catchUp then
          let w := vOf24 (beside a)
          let left := want - ax.pos - qdiv ((beside a + rate) * ft) (2 ^ 8 * 1000000000)
          decide (travel w (aOf16 (a - am)) (rampFrom w (aOf16 (a - am)) 0 (ax.amax * 2 ^ 16) ax.jmax) ≤ sOf16 left)
        else decide (beside a - qdiv (am * ft * 2 ^ 8) 1000000000 + releaseGain (a - am) (ax.jerkTick ft) ft ≤ 0)
      let a1 := if exact then areq else slaveAcc ax ft lo top fits
      let v2 := if exact then vreq else
        let v := ax.vel + qdiv (a1 * ft * 2 ^ 8) 1000000000
        if ax.noReverse then max 0 v else v
      let p2 := if exact then want else ax.pos + qdiv (v2 * ft) (2 ^ 8 * 1000000000)
      let short := want - p2
      let slip := if r.c.catchUp ∨ short = 0 then short else r.slip + short
      let far := decide (65536 < slip.natAbs)
      let s1 := s.updAxis a (fun x => { x with pos := p2, vel := v2, acc := a1, target := p2 })
      let s2 := whenB (far && !r.slipSeen) (fun t => t.raise 0x0106 sevWarn (0x4000 + a) (planPlace g)
        [(16, 1, r.c.member), (17, 1, if r.c.cam.isSome then 1 else 0), (24, 8, wrapN 64 slip)]) s1
      let s3 := whenB (out && !r.rangeOut) (fun t => t.raise 0x0109 sevInfo (0x4000 + a) (planPlace g)
        [(16, 1, r.c.member), (17, 1, r.c.cam.getD 0)]) s2
      let s4 := s3.updGrp g (fun p => { p with reef := p.reef || (decide (top < ax.vmax) && decide ((top : Int) < vreq.natAbs)) })
      put { r with
        want := if r.c.catchUp then want else p2, rate := rate, slip := slip, off := if r.c.catchUp then r.off else r.off - short
        slipSeen := short != 0 && (far || r.slipSeen), rangeOut := out } s4

/-! ## Setpoints of a tick (R127, R128, R139) -/

/-- The FT in 1/125 of the planner's time unit: 2^24 at 31.25 us. -/
def State.ftUnits (s : State) : Nat := 2 ^ 24 * 2 ^ s.ftSel

/-- In a haul-down the plan time of a web group's other members advances at V(t) / V_L0 (R246): V, V_L0 and a of the ramp. -/
def haulScale (s : State) (g : Nat) : Option (Int × Int × Int) :=
  match s.web.haul with
  | some h =>
    if (s.members g).any (fun e => (Table.look {} s.web.rolls e.2).on) ∧ (s.web.zeroSpeed : Int) ≤ h.v0 ∧ 0 < h.v0 then
      some (h.speed, h.v0, h.accel) else none
  | none => none
/-- The step of a group's plan time in a tick. -/
def planStep (s : State) (g : Nat) : Nat :=
  match haulScale s g with
  | some (v, v0, _) => (rdiv (s.ftUnits * v) v0).toNat
  | none => s.ftUnits
/-- Velocity and acceleration of a member under that advance. -/
def haulRates (s : State) (g : Nat) (x : Int × Int × Int) : Int × Int × Int :=
  match haulScale s g with
  | some (v, v0, a) => (x.1, rdiv (x.2.1 * v) v0, rdiv (x.2.2 * v * v) (v0 * v0) + rdiv (x.2.1 * a) (v0 * 256))
  | none => x

/-- The contribution of executing segments to a member: position, velocity, acceleration. -/
def execPoint (cur : Exec) (nxt : Option Exec) (m : Nat) : Int × Int × Int :=
  let part (e : Exec) : Int × Int × Int :=
    let p := e.now
    if !e.stopped && e.done then (e.restAt m, 0, 0)
    else (memberPos (e.seg.start.getD m 0) (e.seg.delta m) e.seg.len p.s, memberVel (e.seg.delta m) e.seg.len p.v,
      memberAcc (e.seg.delta m) e.seg.len p.a)
  match nxt with
  | none => part cur
  | some b =>
    let pa := part cur
    let pb := part b
    -- during the overlap each member moves by the sum of the two contributions (R139)
    (pa.1 + pb.1 - b.seg.start.getD m 0, pa.2.1 + pb.2.1, pa.2.2 + pb.2.2)

/-- The contribution of a member that stops on its own. -/
def stopPoint (x : MemberStop) : Int × Int × Int :=
  let p := (evalPhases x.phases x.el).getD (endState x.phases)
  let sg : Int := if x.neg then -1 else 1
  (memberPos x.pos (sg * 65536) 65536 p.s, memberVel (sg * 65536) 65536 p.v, memberAcc (sg * 65536) 65536 p.a)

/-- The overlap begins: the successor starts its blend-in ramp while the executing segment runs its blend-out (R139). -/
def beginOverlap (g : Nat) (s : State) : State :=
  let p := s.grp g
  match p.cur, p.queue with
  | some e, .move b :: r =>
    if e.tb ≠ 0 ∧ p.nxt.isNone ∧ (e.total - e.tb) * 125 ≤ e.el ∧ !e.stopped then
      let s1 := s.updGrp g (fun q => { q with queue := r })
      let x := planSeg s1 g b (ramp 0 e.vEnd e.xb e.jb) ⟨0, 0, 0⟩
      s1.updGrp g (fun q => { q with nxt := some { x with el := e.el - (e.total - e.tb) * 125 } })
    else s
  | _, _ => s

/-- Takes entries from the head of the queue, as far as the planner engine sees them: couples come into force; a move waits while any
gear or cam is engaged, and every entry for the end of a disengagement (R155). -/
def takeHead : Nat → Nat → Nat → State → State
  | 0, _, _, s => s
  | n + 1, g, el, s =>
    let p := s.grp g
    if p.stops.any (·.slot) ∨ p.cur.isSome then s
    else match p.queue with
    | .couple c :: r =>
      if s.sees (.couple c) then takeHead n g el (engage (s.updGrp g (fun q => { q with queue := r })) g c) else s
    | .move b :: r => if p.rels.isEmpty ∧ s.sees (.move b) then startMove s g b r el else s
    | [] => s

/-- The members that a segment names or moves stand where it has ended. -/
def settle (s : State) (g : Nat) (x : Exec) : State :=
  forEach (s.members g) (fun e t => if x.seg.named.contains e.1 ∨ x.seg.delta e.1 ≠ 0 then
    t.updAxis e.2 (fun y => { y with pos := x.restAt e.1, vel := 0, acc := 0 }) else t) s

/-- An executing entry that has reached its end leaves: its slot is freed, its blend successor goes on or the next entry starts at the
exact instant (R127, R134). -/
def finishEntry (g : Nat) (s : State) : State :=
  let p := s.grp g
  match p.cur with
  | none => s
  | some e =>
    if !e.done ∨ e.stopped then s
    else
      let s1 := s.updGrp g (fun q => freeSlots e.slots { q with cur := q.nxt, nxt := none, overridden := false })
      if p.nxt.isNone then takeHead 257 g (e.el - e.total * 125) (settle s1 g e) else s1

/-- Plan time advances. -/
def planOn (g dt : Nat) (s : State) : State :=
  let adv (e : Exec) : Exec := { e with el := min (e.el + dt) (e.total * 125 + dt) }
  s.updGrp g (fun p => { p with cur := p.cur.map adv, nxt := p.nxt.map adv })
/-- The plan as it will stand `dt` later, for a setpoint with LEAD_TICKS (R147). -/
def planAhead (g dt : Nat) (s : State) : State := if dt = 0 then s else finishEntry g (beginOverlap g (planOn g dt s))

/-- A setpoint of a member; a NO_REVERSE one never goes back (R121). -/
def AxisP.follow (x : AxisP) (v : Int × Int × Int) : AxisP :=
  { x with
    pos := if x.noReverse then max x.pos v.1 else v.1
    vel := if x.noReverse then max 0 v.2.1 else v.2.1
    acc := v.2.2 }
/-- Publishes the setpoints of a group's members from its plan (R127, R128), each its LEAD_TICKS ahead (R147). Members that
`skip` names are left alone; so are slaves, unless they stop on their own. -/
def publish (g : Nat) (skip : Nat → Bool) (s : State) : State :=
  let p := s.grp g
  forEach (s.members g) (fun e t =>
    if skip e.2 then t
    else match p.stops.find? (fun x => x.member == e.1) with
      | some x => t.updAxis e.2 (fun y => let z := y.follow (stopPoint x); { z with target := z.pos })
      | none =>
        if p.rels.any (fun r => r.c.member == e.1) then t
        else
          let u := planAhead g ((s.axis e.2).lead * planStep s g) s
          match (u.grp g).cur with
          | some c => t.updAxis e.2 (fun y => y.follow (haulRates s g (execPoint c (u.grp g).nxt e.1)))
          | none => t.updAxis e.2 (fun y => y.follow ((u.axis e.2).pos, 0, 0))) s

/-! ## Ends and starts of entries (R131, R134, R138) -/

/-- SEGMENT_END: the executing entry ends, and a group with nothing left goes to ENABLED (R134, Table 3.3). A move that arrived after
the joint before it had been committed at a stop starts from rest, and is told so where a blend was asked for (R137). -/
def endSegment (g : Nat) (skip : Nat → Bool) (s : State) : State :=
  let p := s.grp g
  match p.cur with
  | none =>
    if s.gst g = gMoving ∧ p.rels.isEmpty ∧ p.queue.isEmpty ∧ p.stops.all (fun x => decide (x.total * 125 ≤ x.el)) then
      (s.updGrp g (fun q => freeSlots (countIf (·.slot) q.stops) { q with stops := [] })).setGst g gEnabled
    else s
  | some e =>
    let runsOn := s.gst g == gFaulted && s.web.haul.isSome
    if !e.done ∨ (s.gst g ≠ gMoving ∧ !runsOn) ∨ e.stopped ∨ e.beyond.isSome then s
    else
      let s1 := finishEntry g s
      let s2 := match p.queue with
        | .move b :: _ => whenB (p.nxt.isNone && e.seg.ctol != 0 && !e.succ)
            (fun t => t.raise 0x0104 sevInfo (0x3000 + g) (planPlace g) [(16, 2, b.tag)]) s1
        | _ => s1
      let p2 := s2.grp g
      if p2.cur.isNone ∧ p2.rels.isEmpty ∧ p2.queue.isEmpty ∧ p2.stops.isEmpty ∧ !runsOn then s2.setGst g gEnabled else publish g skip s2

/-- An ENABLED group starts its queue in a tick in which the mode permits motion and its planner engine sees an entry (R128, R138). -/
def startQueue (g : Nat) (skip : Nat → Bool) (s : State) : State :=
  if s.gst g = gEnabled ∧ s.motionOk ∧ (s.grp g).queue.head?.any s.sees then
    publish g skip (takeHead 257 g 0 ((s.updGrp g (fun p => { p with stops := [], todo := [] })).setGst g gMoving))
  else s

/-! ## Stops (R142, R143, R146, R150) -/

/-- The deceleration of a stop: the segment's D, raised towards AMAX / |u| where a member would pass a soft limit (R146), and the
first member that passes its limit even so, with its position at standstill. -/
def stopDecel (s : State) (g : Nat) (e : Exec) : Nat × Option (Nat × Int) :=
  let st := e.nowUnits
  let restAt (d : Nat) : Int := (lay st (rampFrom st.v st.a 0 d e.seg.j)).2.s * 1953125
  let passes (d : Nat) : Option (Nat × Int) :=
    ((s.members g).map (fun x => (x, memberPos (e.seg.start.getD x.1 0) (e.seg.delta x.1) e.seg.len (restAt d)))).find?
      (fun y => e.seg.delta y.1.1 ≠ 0 && (decide (y.2 < (s.axis y.1.2).softMin) || decide ((s.axis y.1.2).softMax < y.2)))
      |>.map (fun y => (y.1.1, y.2))
  let d0 := e.seg.d * 2 ^ 16
  if (passes d0).isNone then (d0, none)
  else
    let top := (match minBound ((s.members g).map (fun x =>
        shareBound (s.axis x.2).amax (e.seg.delta x.1) e.seg.len)) with
      | some b => max b e.seg.d | none => e.seg.d) * 2 ^ 16
    if (passes top).isSome then (top, passes top)
    else ((- (bisect (fun x => (passes (-x).toNat).isNone) 32 (-(top : Int)) (-(d0 : Int)))).toNat, none)

/-- The executing segment comes to rest along its path. -/
def stopExec (s : State) (g : Nat) (e : Exec) : Exec :=
  let (d, bad) := stopDecel s g e
  let st := e.nowUnits
  let (ps, _) := lay st (rampFrom st.v st.a 0 d e.seg.j)
  { e with phases := ps, el := 0, total := totalN ps, tailFrom := 0, vEnd := 0, tb := 0, stopped := true, beyond := bad }
/-- An executing segment on its way to rest, whose remainder is discarded (R151): it ends where it comes to rest. -/
def Exec.discarded (e : Exec) : Exec :=
  { e with
    stopped := false, seg := { e.seg with noSlot := true, ctol := 0 }
    stopAt := some ((upto 16).map (fun m => (execPoint { e with el := e.total * 125, stopped := true } none m).1)) }

/-- Discards a group's plan: every entry, gear and cam; slots are freed and open MOVEs closed without entering (R150). -/
def discardPlan (g : Nat) (s : State) : State :=
  let used := s.slotsUsed g
  let s1 := s.updGrp g (fun p => freeSlots used { p with
    queue := [], cur := none, nxt := none, rels := [], stops := [], todo := [], reef := false, overridden := false })
  { s1 with plan := { s1.plan with opens := s1.plan.opens.filter (fun e => match e.2 with
      | some o => o.group != g | none => false) } }

/-- A group goes to FAULTED: its plan ends and its unfaulted members decelerate on their own; where its planner engine is faulted
(`peDown`), the local ones take their actual positions as setpoints (R150). Members that `skip` names (web axes in HAULDOWN) keep to the
ramp. -/
def faultGroup (g : Nat) (peDown : Bool) (skip : Nat → Bool) (s : State) : State :=
  let still (t : State) : State :=
    if !peDown then t
    else forEach (t.members g) (fun e u => if e.2 < 24 ∧ !skip e.2 then
      let x := s.actual e.2
      u.updAxis e.2 (fun y => { y with pos := x, vel := 0, acc := 0, target := x, visPos := x, visVel := 0, visAcc := 0 }) else u)
      (t.updGrp g (fun p => { p with stops := [] }))
  if s.gst g = gFaulted then still s
  else
    let closed := decide (s.gst g = gEnabled ∨ s.gst g = gMoving ∨ s.gst g = gHolding ∨ s.gst g = gSwapping)
    let stops := if peDown ∨ !closed then [] else
      ((s.members g).filter (fun e => !(s.axis e.2).faulted && !skip e.2)).map (fun e => ownStop s g e.1 e.2)
    (still ((discardPlan g s).updGrp g (fun p => { p with stops := stops }))).setGst g gFaulted

/-- What the planner engine takes up in its next tick (R128). -/
def planNext (g : Nat) (a : PlanAct) (s : State) : State := s.updGrp g (fun p => { p with todo := p.todo ++ [a] })
/-- A MOVING group is to stop: HOLDING, while its members decelerate along the path and, where they follow a master, on their own,
keeping the rest of the path (R142, R143). -/
def stopGroup (g : Nat) (s : State) : State := if s.gst g ≠ gMoving then s else (planNext g .stop s).setGst g gHolding
/-- A HOLDING group continues from rest along the remaining path and its queue (R142); where the stop still runs, once it has ended
(notes/assumptions/35.md). -/
def resumeGroup (g : Nat) (s : State) : State := s.setGst g gMoving

/-- The executing segment is planned afresh from rest at its present point (R142). -/
def planFromRest (g : Nat) (s : State) : State :=
  match (s.grp g).cur with
  | none => s
  | some e => s.updGrp g (fun q => { q with cur := some (planSeg s g e.seg [] ⟨e.nowUnits.s, 0, 0⟩) })

/-- Replans the rest of the executing segment from its present state, when its joint is not committed (R136, R137, R153); in an overlap
the segment that follows it, whose blend-in stands. -/
def replan (g : Nat) (s : State) : State :=
  let p := s.grp g
  match p.cur, p.nxt with
  | some e, some b =>
    if s.gst g ≠ gMoving ∨ b.committed then s
    else s.updGrp g (fun q => { q with nxt := some { planSeg s g b.seg (ramp 0 e.vEnd e.xb e.jb) ⟨0, 0, 0⟩ with el := b.el } })
  | some e, none =>
    if s.gst g ≠ gMoving ∨ e.stopped ∨ e.stopAt.isSome ∨ e.committed then s
    else s.updGrp g (fun q => { q with cur := some (planSeg s g e.seg [] e.nowUnits) })
  | none, _ => s

/-- A ceiling that has changed changes the plan at once (R144, R153). -/
def reefTick (g : Nat) (s : State) : State :=
  let p := s.grp g
  match (match p.nxt with | some b => some b | none => p.cur) with
  | some e => if (reefV s g e.seg).1 * 2 ^ 41 ≠ e.cap then replan g s else s
  | none => s

/-! ## Live profiles (R153, R154) -/

/-- New values of D and J inside a final ramp (R153): `seg` holds them, `old` the ramp in progress. The remainder releases the
deceleration through J as far as it may, coasts, and ramps: the shortest way to rest at the target in which the speed never rises. Values
that cannot stop at the target are overridden: the flag says by which. -/
def liveRamp (e : Exec) (seg old : Seg) : Exec × Option (Nat × Nat) :=
  let p := e.nowUnits
  let left := sOf16 seg.len - p.s
  let need (d j : Nat) : Int := travel p.v p.a (rampFrom p.v p.a 0 (d * 2 ^ 16) j)
  let ok (d j : Nat) : Bool := decide (need d j ≤ left)
  let planWith (d j : Nat) : Exec :=
    let most : Int := if j = 0 then 0 else p.a.natAbs
    let release (r : Int) : List (Nat × Int) := if r ≤ 0 then [] else [((qdiv r j).toNat, (j : Int))]
    let after (r : Int) : PathState := (lay ⟨0, p.v, p.a⟩ (release r)).2
    let brake (r : Int) : List (Nat × Int) := rampFrom (after r).v (after r).a 0 (d * 2 ^ 16) j
    let fits (r : Int) : Bool := decide (travel p.v p.a (release r ++ brake r) ≤ left)
    let r := if fits most then most else bisect fits 32 0 most
    let spare := left - travel p.v p.a (release r ++ brake r)
    let coast : List (Nat × Int) := if r = most ∧ 0 < spare ∧ 0 < (after r).v then [((qdiv spare (3 * (after r).v)).toNat, 0)] else []
    let (ps, _) := lay p (release r ++ coast ++ brake r)
    { e with seg := seg, phases := ps, el := 0, total := totalN ps, tailFrom := (release r ++ coast).length, vEnd := 0, tb := 0 }
  -- the least x over [lo, hi] that still stops; the value in progress where nothing below it does
  let least (f : Nat → Bool) (lo hi : Nat) : Nat :=
    if !f (hi - hi / 65536) then hi else (-(bisect (fun x => f (-x).toNat) 32 (-(hi : Int)) (-(lo : Int)))).toNat
  if ok seg.d seg.j then (planWith seg.d seg.j, none)
  else if old.j ≤ seg.j then
    let d := least (fun d => ok d seg.j) seg.d (max seg.d old.d)
    if d = old.d ∧ old.j = seg.j then ({ e with seg := seg }, some (0, d)) else (planWith d seg.j, some (0, d))
  else if ok (max seg.d old.d) seg.j then
    let d := least (fun d => ok d seg.j) seg.d (max seg.d old.d)
    (planWith d seg.j, some (0, d))
  else
    let d := max seg.d old.d
    let j := least (fun j => ok d j) seg.j old.j
    if d = old.d ∧ j = old.j then ({ e with seg := seg }, some (1, j)) else (planWith d j, some (1, j))

/-- A PROFILE with LIVE brings new values into a segment that uses it (R142, R153, R154). -/
def liveSeg (s : State) (g index : Nat) (pr : Profile) (seg : Seg) : Seg :=
  if seg.prof ≠ index then seg
  else if seg.reform then { seg with profV := pr }
  else (formSeg s g { seg with profV := pr }).1
/-- PROFILE LIVE: queued segments take the new values, and the executing ones in the next tick. -/
def liveProfile (g index : Nat) (pr : Profile) (s : State) : State :=
  let p := s.grp g
  let execs := (p.cur.toList ++ p.nxt.toList).map (·.seg)
  planNext g (.live (execs.map (fun x => (x, liveSeg s g index pr x)))) (s.updGrp g (fun p => { p with
    queue := p.queue.map (fun x => match x with
      | .move b => .move (liveSeg s g index pr b)
      | c => c) }))

/-! ## What a planner engine takes up (R128, R136, R141, R142, R151, R153) -/

/-- A stop: slaves decelerate on their own, the path at the executing segment's D. -/
def stopAct (g : Nat) (s : State) : State :=
  let p := s.grp g
  let free := p.rels.filter (fun r => !p.stops.any (fun x => x.member == r.c.member))
  let s1 := s.updGrp g (fun q => { q with stops := q.stops ++ free.filterMap (fun r =>
    (s.memberAxis g r.c.member).map (fun a => ownStop s g r.c.member a)) })
  match p.cur with
  | none => s1
  | some e => if e.stopped ∨ e.stopAt.isSome then s1 else s1.updGrp g (fun q => { q with cur := some (stopExec s g e) })

/-- Whether a named member's target lies ahead beyond its stop point (R151). -/
def ahead (s : State) (g : Nat) (e : Exec) (target : List Int) (named : List Nat) : Bool :=
  let st := stopExec s g e
  named.all (fun m => (s.memberAxis g m).isNone ||
    let now := execPoint e none m
    let stop := (execPoint { st with el := st.total * 125 } none m).1
    let t := target.getD m 0
    if now.2.1 = 0 then t == now.1 else if 0 < now.2.1 then decide (stop < t) else decide (t < stop))
/-- An immediate target (R151), its segment at the head of the queue: where it lies ahead, the segment continues from the present speed
and acceleration of its lead; members that it does not name are held at their present setpoints, the model's choice
(notes/assumptions/110.md). Otherwise the group decelerates along its path and the segment is formed afresh from the stop point. A stop that
runs already is finished. -/
def immediateAct (g : Nat) (s : State) : State :=
  let p := s.grp g
  match p.cur, p.queue with
  | some e, .move seg :: r =>
    let put (x : Option Exec) : State := s.updGrp g (fun q => { q with cur := x })
    if e.stopAt.isSome then s
    else if e.stopped then put (if e.done then none else some e.discarded)
    else if ahead s g e seg.target seg.named then
      let st := (upto 16).map (fun m => (execPoint e none m).1)
      let tg := (upto 16).map (fun m => if seg.named.contains m then seg.target.getD m 0 else st.getD m 0)
      let (ld, ln) := leadOf st tg seg.named
      let (sg, _) := formSeg s g { seg with start := st, target := tg, lead := ld, len := ln, reform := false }
      let now := (execPoint e none ld).2
      let v0 := vOf24 now.1.natAbs
      let a0 := aOf16 (if now.1 < 0 then -now.2 else now.2)
      let s1 := s.updGrp g (fun q => { q with queue := r })
      s1.updGrp g (fun q => { q with cur := some (planSeg s1 g sg [] ⟨0, v0, a0⟩) })
    else put (some (stopExec s g e).discarded)
  | _, _ => s
/-- LIVE values of the executing segment: at once outside a final ramp, by R153 inside one that ends at rest. A ramp towards a blend speed
is left as it is, the model's choice (notes/assumptions/111.md). -/
def liveAct (g : Nat) (segs : List (Seg × Seg)) (s : State) : State :=
  match (s.grp g).cur with
  | none => s
  | some e =>
    match segs.find? (fun x => x.1 == e.seg && x.2 != e.seg) with
    | none => s
    | some (_, seg) =>
      let s1 := s.updGrp g (fun q => { q with cur := some { e with seg := seg } })
      if s.gst g ≠ gMoving ∨ e.stopped ∨ e.stopAt.isSome ∨ (e.committed ∧ e.tb ≠ 0) then s1
      else if !e.committed then replan g s1
      else
        let (e', ovr) := liveRamp e seg e.seg
        let s2 := s1.updGrp g (fun q => { q with cur := some e', overridden := ovr.isSome })
        match ovr with
        | some (kind, v) => s2.raise 0x0103 sevWarn (0x3000 + g) (planPlace g) [(16, 2, seg.tag), (18, 1, kind), (24, 8, v)]
        | none => s2
def planAct (g : Nat) (a : PlanAct) (s : State) : State :=
  match a with
  | .stop => stopAct g s
  | .window => replan g s
  | .immediate => immediateAct g s
  | .live segs => liveAct g segs s
/-- What came since the tick before is taken up in its order. In a blend overlap all but a change of the window waits for its end and then
acts on the later segment (R141). -/
def planActs (g : Nat) (s : State) : State :=
  let p := s.grp g
  let overlap := p.nxt.isSome && !(p.cur.any Exec.done)
  let s1 := if p.nxt.isSome ∧ !overlap ∧ p.todo.any (fun a => a != .window) then
      s.updGrp g (fun q => freeSlots ((p.cur.map Exec.slots).getD 0) { q with cur := q.nxt, nxt := none })
    else s
  let s2 := s1.updGrp g (fun q => { q with todo := if overlap then q.todo.filter (fun a => a != .window) else [] })
  (if overlap then p.todo.filter (fun a => a == .window) else p.todo).foldl (fun t a => planAct g a t) s2

/-- What a tick ends of its own: a disengagement that has come to rest frees its slot (R155), a discarded segment of a HOLDING group its
place; a group that RESUME has taken to MOVING goes on once its stop has run out (R142), and takes the next entry where none executes. -/
def planRest (g : Nat) (s : State) : State :=
  let p := s.grp g
  let ended (x : MemberStop) : Bool := x.slot && decide (x.total * 125 ≤ x.el)
  let s1 := s.updGrp g (fun q => freeSlots (countIf ended q.stops) { q with stops := q.stops.filter (fun x => !ended x) })
  match p.cur with
  | none => if s.gst g = gMoving then takeHead 257 g 0 s1 else s1
  | some e =>
    if !e.done ∨ e.beyond.isSome then s1
    else if s.gst g = gHolding ∧ e.stopAt.isSome then (settle s1 g e).updGrp g (fun q => { q with cur := none })
    else if s.gst g = gMoving ∧ s.web.haul.isNone ∧ e.stopped then planFromRest g s1
    else s1
/-- A stop that could not spare a soft limit has come to rest: SOFT_LIMIT, and the group faults (R146). -/
def softLimit (g : Nat) (skip : Nat → Bool) (s : State) : State :=
  match (s.grp g).cur with
  | some e => match e.beyond with
    | some (m, pos) =>
      if e.done then
        let a := (s.memberAxis g m).getD 0
        faultGroup g false skip (s.raise 0x0105 sevFault (0x4000 + a) (planPlace g) [(16, 1, m), (24, 8, wrapN 64 pos)])
      else s
    | none => s
  | none => s

/-! ## One tick of a planner engine (R127, R128, R161) -/

/-- Whether a group's plan runs: MOVING, or coming to rest in HOLDING or FAULTED. -/
def State.planRuns (s : State) (g : Nat) : Bool :=
  s.gst g == gMoving || s.gst g == gHolding || s.gst g == gFaulted
/-- The executing entry that a report names: the later one during a blend. -/
def GroupP.exec (p : GroupP) : Option Exec := match p.nxt with | some e => some e | none => p.cur
/-- What the group published in the tick that ends, for GROUP_REPORT (R161), and the slots freed in it (R134). -/
def planPublished (g : Nat) (s : State) : State :=
  let free := 256 - s.slotsUsed g
  s.updGrp g (fun p => { p with
    freed := 0
    visFlags := (if p.reef then 1 else 0) + (if p.nxt.isSome then 2 else 0) +
      (if p.rels.any (fun r => r.c.cam.isNone) then 4 else 0) + (if p.rels.any (fun r => r.c.cam.isSome) then 8 else 0) +
      (if p.queue.length ≠ 0 ∧ !s.motionOk then 16 else 0) + (if p.overridden then 32 else 0)
    visTag := match p.exec with | some e => e.seg.tag | none => 0
    visLeft := match p.exec with | some e => (e.seg.len : Int) - rdiv e.now.s (3 * 2 ^ 81 * 1953125) | none => 0
    visV := match p.exec with | some e => rdiv e.now.v (2 ^ 41 * 15625) | none => 0
    visFree := free, visQueued := p.queue.length
    visNs := p.evalNs, evalNs := (s.tickNo + 1) * s.ftNs, visState := s.gst g })
/-- One tick of a group's planner (R128): time advances by FT, what came since the tick before is taken up at the instant that the tick's
setpoints stand for, and the setpoints are published. -/
def planTick (g : Nat) (skip : Nat → Bool) (s : State) : State :=
  let p := s.grp g
  let s0 := planPublished g s
  if !s.planRuns g then s0.updGrp g (fun q => { q with todo := [], reef := false })
  else
    let s1 := (planOn g (planStep s g) s0).updGrp g (fun q => { q with
      reef := false, stops := q.stops.map (fun x => { x with el := min (x.el + s.ftUnits) (x.total * 125) }) })
    let s2 := publish g skip s1
    let s3 := if s.gst g = gMoving ∨ p.todo.contains .stop then forEach p.rels (relTick g) s2 else s2
    let s4 := publish g skip (beginOverlap g (reefTick g (planRest g (planActs g s3))))
    let s5 := s4.updGrp g (fun q => { q with reef := q.reef || q.exec.any (fun e => (reefV s4 g e.seg).2) })
    softLimit g skip s5

/-- A group in an ordinary stop ends its queue: the device empties the group (Table 3.3, entry into STO or THERMAL_HOLD). -/
def idleGroup (g : Nat) (s : State) : State :=
  if s.gst g = gEnabled ∨ s.gst g = gMoving ∨ s.gst g = gHolding then (discardPlan g s).setGst g gIdle else s

/-! ## Segments entering the queue (R129 to R133, R151) -/

/-- A segment takes effect at once (R151): the queue and the executing segment are discarded and their slots freed; the planner engine
turns to it in its next tick. A gear or cam in force is no segment and stays. -/
def immediate (g : Nat) (seg : Seg) (s : State) : State :=
  let p := s.grp g
  let held (e : Option Exec) : Nat := (e.map Exec.slots).getD 0
  let bare (e : Exec) : Exec := { e with seg := { e.seg with noSlot := true } }
  let s1 := s.updGrp g (fun q => freeSlots (q.queue.length + held q.cur + held q.nxt) { q with
    queue := [.move { seg with reform := true }], cur := q.cur.map bare, nxt := q.nxt.map bare
    todo := q.todo.filter (fun a => a != .immediate) })
  if p.cur.isSome then planNext g .immediate s1 else s1

/-- The outcome of a complete MOVE: the segment and whether a profile value was lowered, or a reason. -/
def buildSeg (s : State) (o : OpenMove) : Nat × Seg × Bool :=
  let st := s.targets o.group
  let named := (upto 16).filter (fun m => o.targets.any (fun e => e.1 == m))
  let tg := (upto 16).map (fun m => match o.targets.find? (fun e => e.1 == m) with
    | some e => e.2 | none => st.getD m 0)
  let (ld, ln) := leadOf st tg named
  let base : Seg :=
    { tag := o.tag, ctol := o.ctol, feed := o.feed, prof := o.prof, profV := Table.look {} (s.grp o.group).profiles o.prof
      named := named, start := st, target := tg, lead := ld, len := ln, v := 0, a := 0, d := 0, j := 0, step := s.clk.ticks }
  let (seg, low) := formSeg s o.group base
  let la := (s.memberAxis o.group ld).getD 0
  if ln ≠ 0 ∧ (s.axis la).vmax = 0 then (0x09, seg, low) else (0, seg, low)

/-- An open MOVE is closed: its segment enters the queue (R133, R134, R151). An IMMEDIATE one frees slots itself and is never refused for
want of one; a segment that R131 gives no slot is not either (notes/assumptions/55.md). -/
def closeMove (ring : Nat) (o : OpenMove) (s : State) : State × Reply :=
  let g := o.group
  let s0 : State := { s with plan := { s.plan with opens := Table.put none ring none s.plan.opens } }
  let (why?, seg, low) := buildSeg s0 o
  let cl := if low then 2 else 0
  if why? ≠ 0 then (s0, planReply s0 g why? cl)
  else if !o.reserved ∧ !o.imm ∧ s0.free? g = 0 then (s0, planReply s0 g 0x03 cl)
  else
    let s1 := s0.setTargets g seg.target
    let s2 := if o.imm then immediate g seg s1
      else planNext g .window (s1.updGrp g (fun p => { p with queue := p.queue ++ [.move seg] }))
    (s2, planReply s2 g 0 cl)

/-- Closes an open MOVE that is followed by no MOVE_CONT, and raises MOVE_INCOMPLETE (R133). -/
def endOpen (ring : Nat) (s : State) : State :=
  match Table.look none s.plan.opens ring with
  | none => s
  | some o =>
    let mask := o.targets.foldl (fun acc e => acc ||| 2 ^ e.1) 0
    (closeMove ring o s).1.raise 0x010A sevWarn (0x3000 + o.group) (planPlace o.group) [(16, 2, o.tag), (18, 2, mask)]

/-- The group states in which a planner descriptor that needs a slot is taken (R138, R150, Table 3.2). -/
def takesEntries (st : Nat) : Bool := st == gEnabled || st == gMoving || st == gHolding || st == gSwapping

/-- Matches targets to the set bits of MASK in ascending member order, clamped to the soft limits (R130, R132): the pairs, and the
mask of clamped words. The bit of an unbound member consumes its target word, the model's choice (notes/assumptions/112.md). -/
def matchTargets (s : State) (d : Desc) (g : Nat) (rel : Bool) : List (Nat × Int) × Nat :=
  let mask := d.f 1 31 16
  let ms := (upto 16).filter (fun m => mask.testBit m)
  let n := d.len.val - 1
  let used := ms.zip ((upto n).map (· + 2))
  let step (e : Nat × Nat) : Option (Nat × Int) × Nat :=
    match s.memberAxis g e.1 with
    | none => (none, 2)
    | some a =>
      let ax := s.axis a
      let raw := if rel then ax.target + d.i e.2 else d.i e.2
      let c := cI ax.softMin ax.softMax raw
      (some (e.1, c.val), clampMask [(e.2, c.hit)])
  let rs := used.map step
  (rs.filterMap (·.1), rs.foldl (fun acc r => acc ||| r.2) 0 |||
    (if ms.length ≠ n then 2 else 0) ||| clampMask (((upto n).drop ms.length).map (fun i => (i + 2, true))))

end Sys2Proof.Machine
end

