-- ==== Sys2Proof/Machine/Pwm.lean ====
section
/-!
DEFINITION. The operations of the PWM generator (spec/08_pwm.md): commits, period boundaries, edges, the output stage, delay
measurement, safe levels.
-/
namespace Sys2Proof.Machine

/-- One edge unit in 2^-32 ns (R299). -/
def euFx : Nat := 5 * 2 ^ 26

def State.slot (s : State) (n : Nat) : SlotSt := Table.look {} s.pwm.slots n
def State.updSlot (s : State) (n : Nat) (f : SlotSt → SlotSt) : State :=
  { s with pwm := { s.pwm with slots := Table.upd {} n f s.pwm.slots } }
def SlotSt.pair (x : SlotSt) (p : Nat) : PairSt := Table.look {} x.pairs p
def State.updPair (s : State) (n p : Nat) (f : PairSt → PairSt) : State :=
  s.updSlot n (fun x => { x with pairs := Table.upd {} p f x.pairs })

/-- Whether a slot is present (R298). -/
def State.slotPresent (s : State) (n : Nat) : Bool := decide (n < s.slots)
/-- Whether a slot is frozen (R317). -/
def State.frozen (s : State) (n : Nat) : Bool := s.getB (F.pwmSlotStatus_HALTED n)

/-- The place of a PWM event: block 1 of AEn, channel 127 (R321). -/
def pwmPlace (n : Nat) : Nat := place n 1 127

/-- Sets a sticky flag of PWM.SLOTn_STATUS; PWM_STICKY follows a first setting (R321). UPDATE_SPLIT makes it a warning. -/
def pwmFlag (n : Nat) (f : Fld) (s : State) : State :=
  if s.getB f then s.flag f
  else (s.flag f).note 0x0502 (0x4000 + n) (pwmPlace n) [(16, 1, n)] 18 (2 ^ f.lo) 4

/-! ## Periods -/

/-- The sub-tick divider in force for AEn, 1, 2, 4 or 8 (R32). -/
def State.subN (s : State) (n : Nat) : Nat := 2 ^ (Table.look 0 s.clk.subAct n)
/-- The locked period in EU (Table 8.2). -/
def State.lockedPer (s : State) (n : Nat) : Nat :=
  400000 * 2 ^ s.ftSel / s.subN n * (if s.getB (F.pwmSlotCfg_DBL n) then 2 else 1)
/-- The period in force, or the one a slot would take at its first boundary. -/
def State.periodOf (s : State) (n : Nat) : Nat :=
  if s.getB (F.pwmSlotCfg_TB n) then
    (if s.get (F.pwmSlotPerAct_PER_ACT n) = 0 then s.get (F.pwmSlotPer_PER n) else s.get (F.pwmSlotPerAct_PER_ACT n))
  else s.lockedPer n

/-- The cycle at which sub-tick `i` of a slot begins: the first edge at or after its local time (R32). -/
def State.subCycle (s : State) (n i : Nat) : Nat :=
  let ft : Nat := s.ftNs * 2 ^ 32
  let due := s.tickNo * ft + i * ft / s.subN n
  (due - s.clk.clk + s.clk.incr - 1) / s.clk.incr

/-- The instant of the slot's period boundary, or mid-period, that falls in the present cycle; none where none does (R300). A locked slot's
lie on sub-tick boundaries, with DBL on those of even and of odd number; a free slot's carrier runs from the setting of RUN. -/
def State.carrierAt (s : State) (n : Nat) (mid : Bool) : Option Nat :=
  let within (t : Nat) : Option Nat := if t < s.nowFx + s.clk.incr then some t else none
  let x := s.slot n
  if s.getB (F.pwmSlotCfg_TB n) then
    (if s.getB (F.pwmSlotCtrl_RUN n) then within (x.start + s.periodOf n * euFx / (if mid then 2 else 1)) else none)
  else if mid ∧ !s.getB (F.pwmSlotCfg_DBL n) then within (x.start + s.lockedPer n * euFx / 2)
  else
    match (upto (s.subN n)).find? (fun i => s.subCycle n i == s.clk.cyc) with
    | none => none
    | some i =>
      if s.getB (F.pwmSlotCfg_DBL n) ∧ ((s.tickNo * s.subN n + i) % 2 == 1) ≠ mid then none
      else some (s.tickNo * (s.ftNs * 2 ^ 32) + i * (s.ftNs * 2 ^ 32) / s.subN n)

/-- A compare takes effect, clamped to the period (R303). -/
def putCompare (n : Nat) (act : Fld) (per v : Nat) (s : State) : State :=
  if per < v then pwmFlag n (F.pwmSlotStatus_CMP_CLAMP n) (s.set act per) else s.set act v

/-! ## Output stage (R304, R305) -/

/-- DEAD and MIN_ON of a slot in 2^-32 ns. -/
def State.deadFx (s : State) (n : Nat) : Nat := s.get (F.pwmSlotTiming_DEAD n) * euFx
def State.minOnFx (s : State) (n : Nat) : Nat := s.get (F.pwmSlotTiming_MIN_ON n) * euFx
def State.outMode (s : State) (n p : Nat) : Nat := s.get ⟨A.pwmSlotPairCfg n, 8 * p + 1, 8 * p⟩

/-- TP_MIN in EU (R305). -/
def State.tpMin (s : State) (n p : Nat) : Nat :=
  s.get (F.pwmSlotTiming_MIN_ON n) + (if s.outMode n p = 0 then s.get (F.pwmSlotTiming_DEAD n) else 0)

/-- An output that conducts from `since` is told to stop at `t`: when it stops, and whether the edge was postponed for MIN_ON. An
on-state that has not begun does not take place. -/
def offAt (since : Option Nat) (t minOn : Nat) : Nat × Bool :=
  match since with
  | none => (t, false)
  | some f => if t ≤ f then (t, false) else if t < f + minOn then (f + minOn, true) else (t, false)

/-- Records that event number `e` of a slot happened (R319). -/
def slotEvent (n e t : Nat) (s : State) : State :=
  if s.getB (F.pwmSlotStatus_SAFE n) ∨ s.frozen n then s
  else (s.updSlot n (fun x => { x with events := Table.put none e (some t) x.events })).capSee false (8 * n + e) t

/-- The level of a pair's pulse changes at instant `t`. -/
def pairLevel (n p : Nat) (on : Bool) (t : Nat) (s : State) : State :=
  let q := (s.slot n).pair p
  let mode := s.outMode n p
  if on then
    let (off, ext) := offAt q.low t (s.minOnFx n)
    let from' := if mode = 0 then off + s.deadFx n else t
    let s1 := whenB ext (pwmFlag n (F.pwmSlotStatus_MINON_EXT n)) s
    let s2 := s1.updPair n p (fun x => { x with on := true, high := some from', low := none, lowEnd := off })
    slotEvent n (p + 2) from' s2
  else
    let (off, ext) := offAt q.high t (s.minOnFx n)
    let s1 := whenB ext (pwmFlag n (F.pwmSlotStatus_MINON_EXT n)) s
    s1.updPair n p (fun x => { x with
      on := false, high := none, highEnd := off
      low := if mode = 0 then some (off + s.deadFx n) else none })

/-! ## Delay measurement (R312) -/

/-- A reference instant t_end passes: NO_UPD counts when no COMMIT has come since the previous one. -/
def slotTEnd (n : Nat) (s : State) : State :=
  let x := s.slot n
  let s1 := whenB (!x.committed && !s.getB (F.pwmSlotStatus_SAFE n)) (fun t => t.bumpSat (F.pwmSlotCounts_NO_UPD n)) s
  s1.updSlot n (fun y => { y with tPrev := y.tEnd, tEnd := s.nowFx, committed := false })

/-- A measured update takes effect now: DLY_LAST in units of 2^-8 ns, and UPD. -/
def recordDelay (n : Nat) (m : Option Nat) (s : State) : State :=
  match m with
  | none => s
  | some t0 =>
    if s.getB (F.pwmSlotStatus_SAFE n) then s
    else (s.set (F.pwmSlotDlyLast_DLY_LAST n) ((s.nowFx - t0) / 2 ^ 24)).bump (F.pwmSlotCounts_UPD n)

/-- PWM.SLOTn_DLY_TIMER: cycles since t_end, saturating (R312). -/
def dlyTimer (s : State) (n : Nat) : Nat := satN 24 ((s.nowFx - (s.slot n).tEnd) / s.clk.incr)

/-! ## Commits (R306 to R308) -/

/-- A write of COMMIT made at an instant: the whole staging set waits for its instant of effect, as computed two cycles later. -/
def pwmCommitAt (n made : Nat) (s : State) : State :=
  let x := s.slot n
  let taken := s.get (F.pwmSlotPer_PER n)
  let per := if s.getB (F.pwmSlotCfg_TB n) ∧ taken ≠ s.get (F.pwmSlotPerAct_PER_ACT n) then some taken else none
  let c : Commit :=
    { a := (upto 4).map (fun p => s.get (F.pwmSlotCmpa_CMPA n p)), b := (upto 4).map (fun p => s.get (F.pwmSlotCmpb_CMPB n p))
      per := per, wrote := x.staged, made := made, due := made + 2 * s.clk.incr
      meas := if x.committed then (match x.commit with | some o => o.meas | none => none) else some x.tEnd }
  s.updSlot n (fun y => { y with commit := some c, committed := true })
/-- A write of COMMIT now. -/
def pwmCommit (n : Nat) (s : State) : State := pwmCommitAt n s.nowFx s
/-- The instant at which the compares of a COMMIT made at an instant take effect: two cycles later as computed, else at the next
update point (R307). -/
def takesAt (s : State) (n made : Nat) : Nat :=
  if s.getB (F.pwmSlotCfg_TAKE n) then made + 2 * s.clk.incr
  else
    let x := s.slot n
    let half := if s.getB (F.pwmSlotCfg_DBL n) then 2 else 1
    let (base, step) := if s.getB (F.pwmSlotCfg_TB n) then (x.start, s.periodOf n * euFx / half) else (x.tEnd, s.lockedPer n * euFx / half)
    base + (made - base + step - 1) / step * step

/-- An edge of the running period that has not fired moves to its new instant, or fires at the horizon (R308). -/
def moveEdge (horizon new : Nat) (old : Option Nat) : Option Nat × Bool :=
  match old with
  | none => (none, false)
  | some _ => if new < horizon then (some horizon, true) else (some new, false)

/-- Instants of a pair's edges from compares, in EU after the boundary: rise and fall (R301, R302). -/
def edgesOf (centre : Bool) (per a b : Nat) : Nat × Nat :=
  if centre then ((qdiv ((per : Int) - a) 2).toNat, (qdiv ((per : Int) + a) 2).toNat) else (a, b)

/-- The compares of a waiting COMMIT take effect in the running period; unfired edges move, none before `horizon`. -/
def commitNow (n : Nat) (c : Commit) (horizon : Nat) (s : State) : State :=
  let per := s.periodOf n
  let centre := s.getB (F.pwmSlotCfg_CARRIER n)
  let s1 := recordDelay n c.meas (s.updSlot n (fun x => { x with commit := none, matched := x.matched ||| c.wrote }))
  let s2 := forEach (upto 4) (fun p t =>
    putCompare n (F.pwmSlotCmpbAct_CMPB_ACT n p) per (c.b.getD p 0) (putCompare n (F.pwmSlotCmpaAct_CMPA_ACT n p) per (c.a.getD p 0) t)) s1
  let s3 := forEach (upto 4) (fun p t =>
    let x := t.slot n
    let q := x.pair p
    match q.pulse with
    | .width =>
      let (r, f) := edgesOf centre per (t.get (F.pwmSlotCmpaAct_CMPA_ACT n p)) (t.get (F.pwmSlotCmpbAct_CMPB_ACT n p))
      let (r', l1) := moveEdge horizon (x.start + r * euFx) q.rise
      let (f', l2) := moveEdge horizon (x.start + f * euFx) q.fall
      whenB (l1 || l2) (pwmFlag n (F.pwmSlotStatus_EDGE_LATE n)) (t.updPair n p (fun y => { y with rise := r', fall := f' }))
    | _ => t) s2
  slotEvent n 6 s.nowFx s3

/-- Compares committed under as-computed timing take effect, two cycles or more after the write (R307, R308). -/
def pwmCommitEffect (n : Nat) (s : State) : State :=
  match (s.slot n).commit with
  | some c =>
    if s.getB (F.pwmSlotCfg_TAKE n) ∧ c.per.isNone ∧ c.due ≤ s.nowFx ∧ !s.frozen n then
      commitNow n c (s.nowFx + 128 * euFx) s
    else s
  | none => s

/-! ## Period boundary (R307, R309, R310) -/

/-- A new period takes effect over the compares in force (R309): older compares are rescaled or left, all are clamped; `m` marks the matched
ones, of a locked period none. -/
def newPeriod (n old per m : Nat) (s : State) : State :=
  let hold := s.getB (F.pwmSlotCfg_RATIO_HOLD n)
  let scale (i : Nat) (f : Fld) (t : State) : State :=
    let v := t.get f
    putCompare n f per (if hold ∧ !m.testBit i then (rdiv (v * per : Nat) old).toNat else v) t
  let s1 := forEach (upto 4) (fun p t =>
    scale (2 * p + 1) (F.pwmSlotCmpbAct_CMPB_ACT n p) (scale (2 * p) (F.pwmSlotCmpaAct_CMPA_ACT n p) t)) s
  whenB (!hold && decide (m % 256 ≠ 255)) (pwmFlag n (F.pwmSlotStatus_UPDATE_SPLIT n)) s1

/-- The decision for a pair (R310): requested on-time, residue, TP_MIN, period; decision, width and new residue. -/
def skipRule (tau : Nat) (r : Int) (tpMin per : Nat) : Pulse × Nat × Int :=
  let w : Int := tau + r
  if w < tpMin then (.none, 0, w)
  else if (per : Int) - w < tpMin then (.whole, per, w - per)
  else (.width, w.toNat, 0)

/-- The requested on-time of a pair (R301, R302). -/
def tauOf (centre : Bool) (per a b : Nat) : Nat :=
  if centre then a else if a ≤ b then b - a else per - (a - b)

/-- A pair at a period boundary. -/
def pairBoundary (n p : Nat) (s : State) : State :=
  if 2 ≤ s.outMode n p then s.updPair n p (fun _ => {})
  else
    let per := s.periodOf n
    let centre := s.getB (F.pwmSlotCfg_CARRIER n)
    let a := s.get (F.pwmSlotCmpaAct_CMPA_ACT n p)
    let b := s.get (F.pwmSlotCmpbAct_CMPB_ACT n p)
    let tau := tauOf centre per a b
    let (d, w, r) := skipRule tau (sx 32 (s.get (F.pwmSlotResidue_RESIDUE n p))) (s.tpMin n p) per
    let s1 := s.setI (F.pwmSlotResidue_RESIDUE n p) r
    let s2 := if d = .width then s1
      else pwmFlag n (F.pwmSlotStatus_SKIP n) (s1.bump (F.pwmSlotSkipCount_SKIP_COUNT n))
    let t0 := (s.slot n).start
    let (ri, fa) :=
      if centre then edgesOf true per w 0
      else if w = tau then (a, b)
      else (a, if a + w ≤ per then a + w else a + w - per)
    let spans := decide (fa < ri)
    let onAt0 := match d with | .none => false | .whole => true | .width => (spans && fa != 0) || ri == 0
    let s3 := if ((s.slot n).pair p).on = onAt0 then s2 else pairLevel n p onAt0 t0 s2
    s3.updPair n p (fun q => { q with
      pulse := d
      rise := if d = .width ∧ ri ≠ 0 ∧ ri < per then some (t0 + ri * euFx) else none
      fall := if d = .width ∧ fa ≠ 0 ∧ fa < per then some (t0 + fa * euFx) else none })

/-- The period boundary of a slot, at an instant (R300, R307, R309, R310). -/
def pwmBoundaryAt (n now : Nat) (s : State) : State :=
  let x := s.slot n
  let take := match x.commit with
    | some c => decide (c.made ≤ s.nowFx) && (!s.getB (F.pwmSlotCfg_TAKE n) || c.per.isSome)
    | none => false
  let old := s.get (F.pwmSlotPerAct_PER_ACT n)
  let free := s.getB (F.pwmSlotCfg_TB n)
  let per := match free && take, x.commit with
    | true, some c => c.per.getD (s.periodOf n)
    | _, _ => s.periodOf n
  let run := s.getB (F.pwmSlotCtrl_RUN n)
  let s0 := whenB (run || old != 0) (fun t => t.set (F.pwmSlotPerAct_PER_ACT n) per) s
  -- the waiting COMMIT's compares, without moving edges: the running period is over
  let s1 := match x.commit with
    | some c =>
      if take then
        let t := recordDelay n c.meas (s0.updSlot n (fun y => { y with commit := none, matched := y.matched ||| c.wrote }))
        let t := forEach (upto 4) (fun p u => (u.set (F.pwmSlotCmpaAct_CMPA_ACT n p) (c.a.getD p 0)).set
          (F.pwmSlotCmpbAct_CMPB_ACT n p) (c.b.getD p 0)) t
        slotEvent n 6 s.nowFx t
      else s0
    | none => s0
  let s2 := if old ≠ 0 ∧ old ≠ per then newPeriod n old per (if free then (s1.slot n).matched else 0) s1
    else forEach (upto 4) (fun p t =>
      putCompare n (F.pwmSlotCmpbAct_CMPB_ACT n p) per (t.get (F.pwmSlotCmpbAct_CMPB_ACT n p))
        (putCompare n (F.pwmSlotCmpaAct_CMPA_ACT n p) per (t.get (F.pwmSlotCmpaAct_CMPA_ACT n p)) t)) s1
  let s3 := s2.updSlot n (fun y => { y with start := now, staged := 0, matched := 0, pulsing := run })
  let s4 := if run then
      let t := s3.set (F.pwmSlotStatus_SAFE n) 0
      forEach (upto 4) (pairBoundary n) (slotEvent n 0 now t)
    else s3
  if free then slotTEnd n s4 else s4

/-- The boundary that falls in the present cycle; a frozen slot has none (R317). -/
def pwmBoundary (n : Nat) (s : State) : State :=
  if s.frozen n then s
  else match s.carrierAt n false with
    | some t => pwmBoundaryAt n t s
    | none => s

/-- Mid-period: the event, the update point of DBL 1 (R307, R312). -/
def pwmMid (n : Nat) (s : State) : State :=
  match if s.frozen n then none else s.carrierAt n true with
  | none => s
  | some now =>
    let s1 := slotEvent n 1 now s
    if !s.getB (F.pwmSlotCfg_DBL n) then s1
    else
      let s2 := match (s.slot n).commit with
        | some c => if c.made ≤ s.nowFx ∧ !s.getB (F.pwmSlotCfg_TAKE n) ∧ c.per.isNone then commitNow n c s.nowFx s1 else s1
        | none => s1
      if s.getB (F.pwmSlotCfg_TB n) then slotTEnd n s2 else s2

/-- An edge of the running period fires at its instant (R304, R305). -/
def pwmEdge (n p : Nat) (rising : Bool) (s : State) : State :=
  if s.frozen n ∨ !(s.slot n).pulsing then s
  else
    let q := (s.slot n).pair p
    match (if rising then q.rise else q.fall) with
    | none => s
    | some t =>
      if s.nowFx + s.clk.incr ≤ t then s else
      let s1 := s.updPair n p (fun x => if rising then { x with rise := none } else { x with fall := none })
      if q.on = rising then s1 else pairLevel n p rising t s1

/-! ## Running and safe levels (R313, R314) -/

/-- Residues of a slot return to 0 (R311). -/
def dropResidues (n : Nat) (s : State) : State :=
  forEach (upto 4) (fun p t => t.set (F.pwmSlotResidue_RESIDUE n p) 0) s

/-- A slot goes to its safe levels: RUN falls (R313, R314). -/
def slotSafe (n : Nat) (s : State) : State :=
  if !s.slotPresent n then s
  else
    let s1 := (s.set (F.pwmSlotCtrl_RUN n) 0).set (F.pwmSlotStatus_SAFE n) 1
    dropResidues n (s1.updSlot n (fun x => { x with pulsing := false, pairs := [] }))

/-- Whether a cause of Table 8.3 forces safe levels on every slot: a mode, or the hardware thermal shutdown. -/
def State.safeForced (s : State) : Bool :=
  s.mode == mReset || s.mode == mCalibrate || s.mode == mSto || s.mode == mThermal || s.mode == mQuarantine ||
    s.getB F.pwtThermStatus_TRIP

/-- A write that sets RUN, or is ignored (R313). A free slot's carrier runs from here (R300). -/
def pwmRunSet (n : Nat) (s : State) : State :=
  if !s.slotPresent n ∨ s.getB (F.pwmSlotStatus_FLT_LATCH n) ∨ s.getB (F.pwmSlotStatus_CAL_FAULT n) ∨ s.safeForced ∨
      s.getB (F.pwmSlotStatus_FLT_ACTIVE n) ∨ (s.slot n).excepted then s
  else if s.getB (F.pwmSlotCtrl_RUN n) then s
  else
    let s1 := s.set (F.pwmSlotCtrl_RUN n) 1
    if s.getB (F.pwmSlotCfg_TB n) then s1.updSlot n (fun x => { x with start := s.nowFx, tEnd := s.nowFx, committed := false })
    else s1

/-! ## Fault inputs (R315, R316) -/

/-- Whether an input mapped to a slot is low. -/
def State.fltLow (s : State) (n : Nat) : Bool :=
  (s.get (F.pwmSlotCfg_FLT_MASK n) &&& s.get F.pwmFltState_LEVEL) != 0

/-- FLT_ACTIVE follows the mapped inputs. -/
def fltRefresh (n : Nat) (s : State) : State := s.setB (F.pwmSlotStatus_FLT_ACTIVE n) (s.fltLow n)

/-- Clears FLT_LATCH when every mapped input is high (R316). -/
def fltClear (n : Nat) (s : State) : State :=
  if s.fltLow n then s else s.set (F.pwmSlotStatus_FLT_LATCH n) 0

end Sys2Proof.Machine
end

