-- ==== Sys2Proof/Machine/Faults.lean ====
section
/-!
DEFINITION. Faults on their way up (R23, R44, R150, R196, R197, R316): axes, their groups and the line.
-/
namespace Sys2Proof.Machine

def State.axisL (s : State) (a : Nat) : AxisL := Table.look {} s.loop.axes a
def State.updAxisL (s : State) (a : Nat) (f : AxisL → AxisL) : State :=
  { s with loop := { s.loop with axes := Table.upd {} a f s.loop.axes } }
def State.roll (s : State) (a : Nat) : RollSt := Table.look {} s.web.rolls a
def State.updRoll (s : State) (a : Nat) (f : RollSt → RollSt) : State :=
  { s with web := { s.web with rolls := Table.upd {} a f s.web.rolls } }

/-- A web axis is one that ROLL configured (R214). -/
def State.isWeb (s : State) (a : Nat) : Bool := (s.roll a).on
/-- The engine that owns an axis (Table 1.2); none for a remote axis without one. -/
def State.axisEngine (s : State) (a : Nat) : Option Nat := if a < 24 then some a else (s.axis a).pe
def State.engFaulted (s : State) (e : Nat) : Bool := s.getB (F.clkEngStat_FAULT e)
/-- A roll that has left the haul-down (R248). -/
def State.excluded (s : State) (a : Nat) : Bool :=
  (s.axis a).faulted || (s.axis a).left || (match s.axisEngine a with | some e => s.engFaulted e | none => true)
/-- The axes that follow the haul-down ramp and not their plan (R167, R248). -/
def State.onRamp (s : State) (a : Nat) : Bool := s.web.haul.isSome && s.isWeb a && !s.excluded a

/-- Whether the loops of an axis are closed (R168, R150). -/
def State.loopsClosed (s : State) (a : Nat) : Bool := (s.axisL a).closed && !(s.axis a).faulted

/-- The list position of a remote axis on its planner engine (Table 1.5). -/
def State.listPos (s : State) (a : Nat) : Nat :=
  countIf (fun (e : Nat × AxisP) => e.2.pe == (s.axis a).pe && decide (e.2.peOrder < (s.axis a).peOrder)) s.plan.axes
/-- The control place of a loop event (R212). -/
def State.loopPlace (s : State) (a stage : Nat) : Nat :=
  if a < 24 then place a 0 stage else place ((s.axis a).pe.getD 0) 1 (s.listPos a)

/-! ## Identification ends (R207) -/

def idRunning (x : Ident) : Bool := decide (1 ≤ x.state ∧ x.state ≤ 6)

/-- Identification of an axis aborts with a cause of Table 5.21. -/
def abortIdent (a cause : Nat) (s : State) : State :=
  let x := (s.axisL a).ident
  if !idRunning x then s
  else
    -- the excitation stops; a moving axis takes its actual position as its setpoint
    let s0 := if x.run = .rest then s else
      let p := (s.axisL a).actual
      (s.updAxis a (fun y => { y with pos := p, vel := 0, acc := 0, visPos := p, visVel := 0, visAcc := 0, target := p })).updAxisL a
        (fun y => { y with iSet := 0, iNext := 0 })
    let s1 := s0.updAxisL a (fun y => { y with ident := { y.ident with state := 8, run := .rest, cause := cause, time := s.nowNs } })
    let s2 := s1.raise 0x0207 sevInfo (0x5200 + a) (s.loopPlace a 2) [(16, 1, 8), (17, 1, x.state)]
    s2.raise 0x0208 sevWarn (0x5200 + a) (s.loopPlace a 2) [(16, 1, 8), (17, 1, cause), (18, 1, x.valid)]

/-! ## Haul-down triggers that act at the next strobe (R45, R197) -/

/-- The modes from which HAULDOWN is reached (Table 3.4). -/
def haulFrom (m : Nat) : Bool := m == mCommission || m == mRun || m == mReef || m == mBackstay
/-- HAULDOWN comes into force at the next strobe. -/
def haulNow (cause : Nat) (s : State) : State :=
  if haulFrom s.mode then s.decideMode mHauldown cause 4 else s
/-- The same for a loop fault; which of the CAUSE codes of Table 3.12 it carries the manual does not say. -/
def haulByFault (s : State) : State :=
  if haulFrom s.mode then let (v, t) := s.draw; t.decideMode mHauldown (v.toNat % 10) 4 else s

/-! ## Stages and groups -/

/-- The current stage of a local axis stops and its slot goes to safe levels; its loops open (R168, R196). -/
def stopStage (a : Nat) (s : State) : State :=
  let s1 := s.updAxisL a (fun x => { x with closed := false, curRun := false, updating := false, iSet := 0, iNext := 0 })
  if a < 24 then slotSafe a s1 else s1

/-- A group goes to FAULTED (R150); in a haul-down the plan of a web group runs on until standstill. -/
def groupFault (g : Nat) (peDown : Bool) (s : State) : State :=
  if s.web.haul.isSome ∧ (s.members g).any (fun e => s.isWeb e.2) then s.setGst g gFaulted
  else faultGroup g peDown s.onRamp s

/-- An axis faults: its loops open, its slot goes to safe levels or its current setpoint to zero, its group faults (R23). -/
def axisFault (a : Nat) (s : State) : State :=
  if (s.axis a).faulted then s
  else
    let s1 := abortIdent a 3 (s.updAxis a (fun x => { x with faulted := true }))
    let s2 := stopStage a s1
    match s.groupOf a with
    | some g => groupFault g false s2
    | none => s2

/-- A loop fault of Table 5.7: cause, stage concerned and payload bytes 24 to 31 (R196, R197). -/
def loopFault (a cause stage : Nat) (value : Nat) (s : State) : State :=
  if (s.axis a).faulted then s
  else
    let s1 := s.raise 0x0201 sevFault (0x5000 + stage * 256 + a) (s.loopPlace a stage) [(16, 1, cause), (24, 8, value)]
    let s2 := axisFault a s1
    if s.isWeb a then haulByFault s2 else s2

/-- A group goes to IDLE: its plan is discarded, its stages stop (R168, Table 3.3). -/
def groupToIdle (g : Nat) (s : State) : State :=
  let s1 := forEach (s.members g) (fun e t => stopStage e.2 t) (discardPlan g s)
  s1.setGst g gIdle

/-! ## Fault inputs (R315, R316) -/

/-- FLT_LATCH of a slot sets: event, residues, safe levels, and the axis faults. -/
def latchSlot (n : Nat) (s : State) : State :=
  if !s.slotPresent n ∨ s.getB (F.pwmSlotStatus_FLT_LATCH n) then s
  else
    let s1 := slotSafe n (s.flag (F.pwmSlotStatus_FLT_LATCH n))
    let s2 := s1.raise 0x0501 sevFault (0x4000 + n) (pwmPlace n) [(16, 1, n), (17, 1, s.get F.pwmFltState_LEVEL)]
    if s.isWeb n then haulByFault (axisFault n s2) else axisFault n s2

/-- Fault inputs or their mapping have changed: FLT_ACTIVE follows, and a slot with a low mapped input latches. -/
def fltScan (n : Nat) (s : State) : State :=
  if !s.slotPresent n then s
  else
    let s1 := fltRefresh n s
    if s.fltLow n then latchSlot n s1 else s1

end Sys2Proof.Machine
end

