-- ==== Sys2Proof/Machine/Fbk.lean ====
section
/-!
DEFINITION. The operations of feedback channels and registration latches (spec/10_feedback_and_latches.md).
-/
namespace Sys2Proof.Machine

def State.fb (s : State) (n : Nat) : FbSt := Table.look {} s.fbk.fbs n
def State.updFb (s : State) (n : Nat) (f : FbSt → FbSt) : State :=
  { s with fbk := { s.fbk with fbs := Table.upd {} n f s.fbk.fbs } }
def State.lat (s : State) (i : Nat) : LatSt := Table.look {} s.fbk.lats i
def State.updLat (s : State) (i : Nat) (f : LatSt → LatSt) : State :=
  { s with fbk := { s.fbk with lats := Table.upd {} i f s.fbk.lats } }
def State.fbOwner (s : State) (n : Nat) : Nat := Table.look 35 s.fbk.fbOwner n
def State.latOwner (s : State) (i : Nat) : Nat := Table.look 35 s.fbk.latOwner i

/-! ## Bindings (R22, R38) -/

/-- The engine that an input or channel is bound to, in force: kinds AIN, SDI, FB and LAT as in `Binding`. -/
def State.ownerOf (s : State) (kind n : Nat) : Nat :=
  match kind with
  | 0 => s.get (F.adcAinStatus_OWNER n)
  | 1 => s.get (F.adcSdiStatus_OWNER n)
  | 2 => s.fbOwner n
  | _ => s.latOwner n
/-- The engine that VE holds an input or channel to be bound to, after every descriptor that it has applied (R38). -/
def State.heldBy (s : State) (kind n : Nat) : Nat :=
  match s.host.binds.find? (fun b => b.kind == kind && b.number == n) with
  | some b => b.engine
  | none => s.ownerOf kind n
/-- VE binds an input or channel; the binding reaches the engines at the next strobe (R38). -/
def bindLater (b : Binding) (s : State) : State :=
  { s with host := { s.host with binds := s.host.binds.filter (fun c => !(c.kind == b.kind && c.number == b.number)) ++ [b] } }
/-- A binding comes into force. -/
def bindNow (b : Binding) (s : State) : State :=
  match b.kind with
  | 0 => s.set (F.adcAinStatus_OWNER b.number) b.engine
  | 1 => s.set (F.adcSdiStatus_OWNER b.number) b.engine
  | 2 => { s with fbk := { s.fbk with fbOwner := Table.put 35 b.number b.engine s.fbk.fbOwner } }
  | _ => { s with fbk := { s.fbk with latOwner := Table.put 35 b.number b.engine s.fbk.latOwner } }
/-- At a strobe the bindings of VE's step come into force. -/
def takeBinds (s : State) : State := s.host.binds.foldl (fun t b => bindNow b t) { s with host := { s.host with binds := [] } }

/-- Places of R391. -/
def State.fbPlace (s : State) (n : Nat) : Nat := place (s.fbOwner n) 4 n
def State.latPlace (s : State) (i : Nat) : Nat := place (s.latOwner i) 5 i

/-- Sets a sticky flag of a channel; FB_STICKY follows a first setting (R391). -/
def fbFlag (n : Nat) (f : Fld) (s : State) : State :=
  if s.getB f then s.flag f else (s.flag f).note 0x0702 (0x6200 + n) (s.fbPlace n) [] 16 (2 ^ f.lo) 0x18

/-- The channels an axis reads, with their stage: commutation, speed, position, defaults resolved (R354). -/
def LoopCfg.channels (c : LoopCfg) : List (Nat × Nat) :=
  let vel := if c.velFb = 0xFF then c.fbCh else c.velFb
  let pos := if c.posFb = 0xFF then vel else c.posFb
  [(0, c.fbCh), (1, vel), (2, pos)]
/-- The local axes that read a channel, each with its lowest stage that does. -/
def State.fbReaders (s : State) (n : Nat) : List (Nat × Nat) :=
  s.loop.axes.filterMap (fun e =>
    if e.1 < 24 then (e.2.cfg.channels.find? (fun c => c.2 == n)).map (fun c => (e.1, c.1)) else none)
/-- The spans whose tension loop reads an input, by kind (R226). -/
def State.spanReaders (s : State) (fb : Bool) (n : Nat) : List (Nat × SpanSt) :=
  s.web.spans.filter (fun e => e.2.on && e.2.source != 0 && e.2.source != 3 && e.2.fb == fb && e.2.input == n)
/-- Whether a running tension loop reads an input. -/
def State.spanReads (s : State) (fb : Bool) (n : Nat) : Bool := (s.spanReaders fb n).any (fun e => e.2.running)
/-- Whether a loop stage of a bound axis of a group that is not IDLE reads a channel, or a running tension loop (R354). -/
def State.fbInUse (s : State) (n : Nat) : Bool :=
  (s.fbReaders n).any (fun e => match s.groupOf e.1 with | some g => s.gst g != gIdle | none => false) || s.spanReads true n
/-- The roll a span's loop acts on (R228). -/
def SpanSt.controlled (x : SpanSt) : Nat := if x.ctrl then x.dn else x.up

/-- A channel fault: cause of Table 10.10 (R380). -/
def fbFault (n cause : Nat) (s : State) : State :=
  if s.getB (F.fbkFbStatus_FAULT n) then s
  else
    let s1 := fbFlag n (F.fbkFbStatus_FAULT n) s
    let s2 := s1.raise 0x0701 sevFault (0x6200 + n) (s.fbPlace n) [(16, 1, cause), (20, 4, s.get (F.fbkFbPos_POS n))]
    let s3 := forEach (s.fbReaders n) (fun e t => loopFault e.1 4 e.2 0 t) s2
    forEach (s.spanReaders true n) (fun e t => loopFault e.2.controlled 4 3 0 t) s3

/-! ## Counting (R356 to R361) -/

/-- Whether a channel is present and enabled with a mode, and has no configuration error. -/
def State.fbRuns (s : State) (n : Nat) : Bool :=
  s.getB (F.fbkFbCtrl_EN n) && s.get (F.fbkFbCfg_MODE n) != 0 && !s.getB (F.fbkFbStatus_CFG_ERR n)
def State.fbCounting (s : State) (n : Nat) : Bool :=
  s.get (F.fbkFbCfg_MODE n) == 1 || s.get (F.fbkFbCfg_MODE n) == 2
/-- STILL_T in 2^-32 ns. -/
def State.stillT (s : State) (n : Nat) : Nat := s.get (F.fbkFbSpd_STILL_T n) * 10000 * 2 ^ 32

/-- `num` counts over `t` (2^-32 ns) in Q40.24 counts/s (R364). -/
def rateOf (num : Int) (t : Nat) : Int := qdiv (num * 1000000000 * 2 ^ 56) t

/-- The speed a read or the strobe sees: in the period method it falls once the time since the latest count exceeds T/N (R365). -/
def fbSpeed (s : State) (n : Nat) : Int :=
  let x := s.fb n
  if s.getB (F.fbkFbStatus_METHOD n) ∨ !s.fbCounting n ∨ x.speed = 0 then x.speed
  else
    match x.times.head?, x.times.getLast? with
    | some t1, some t0 =>
      let el := s.nowFx - t1
      if t1 - t0 < el * (x.times.length - 1) then rateOf (if x.speed < 0 then -1 else 1) el else x.speed
    | _, _ => x.speed

/-- The speed registers follow the speed in force. -/
def fbSetSpeed (n : Nat) (v : Int) (s : State) : State :=
  (s.updFb n (fun x => { x with speed := v })).set64 (A.fbkFbSpeedLo n) (wrapN 64 v)

/-- A count that latches wait for: before or at their edge it is N_a, after it N_b (R384). -/
def latchCount (n : Nat) (pos : W32) (t : Nat) (down : Bool) (s : State) : State :=
  forEach (upto 16) (fun i u =>
    u.updLat i (fun l => { l with waiting := l.waiting.map (fun w =>
      if w.ch ≠ n ∨ w.nb.isSome ∨ w.bad then w
      else if t ≤ w.time then { w with na := pos, ta := some t, down := down }
      else { w with nb := some (pos, t, down) }) })) s

/-- A reported count (R362, R364, R365, R368, R369). -/
def fbReported (n : Nat) (up : Bool) (t : Nat) (turned : Bool) (s : State) : State :=
  let x := s.fb n
  let sg : Int := if up then 1 else -1
  let st := F.fbkFbStatus_STILL n
  let pos := s.reg (A.fbkFbPos n) + (if up then 1 else -1)
  let s1 := (s.setReg (A.fbkFbPos n) pos).set (F.fbkFbPosTime_POS_TIME n) (t / 2 ^ 32)
  let s1 := (s1.setB (F.fbkFbStatus_DIR n) !up).updFb n (fun y => { y with gate := y.gate + sg, down := !up })
  let s2 :=
    if s.getB st then
      fbSetSpeed n 0 (((s1.set st 0).set (F.fbkFbStatus_FIRST n) 1).updFb n (fun y => { y with times := [t], perSpeed := 0 }))
    else if turned then
      let v := match x.times.head? with | some t0 => rateOf sg (t - t0) | none => 0
      fbSetSpeed n v (((s1.set (F.fbkFbStatus_FIRST n) 0).set (F.fbkFbStatus_METHOD n) 0).updFb n
        (fun y => { y with times := t :: y.times.take 1, perSpeed := v }))
    else if x.down = up ∧ n < 28 then
      fbSetSpeed n 0 ((((s1.set (F.fbkFbStatus_DIRCHG n) 1).set (F.fbkFbStatus_FIRST n) 0).set (F.fbkFbStatus_METHOD n) 0).updFb n
        (fun y => { y with times := [t], perSpeed := 0 }))
    else
      let times := (t :: x.times).take (s.get (F.fbkFbSpd_PER_CNT n) + 1)
      let v := rateOf (sg * (times.length - 1)) (t - times.getLastD t)
      let s3 := ((s1.set (F.fbkFbStatus_DIRCHG n) 0).set (F.fbkFbStatus_FIRST n) 0).updFb n
        (fun y => { y with times := times, perSpeed := v })
      if s.getB (F.fbkFbStatus_METHOD n) then s3 else fbSetSpeed n v s3
  latchCount n pos t (!up) s2

/-- A raw count (R357, R369). -/
def fbRaw (n : Nat) (up : Bool) (t : Nat) (s : State) : State :=
  let x := s.fb n
  let raw := if up then x.raw + 1 else x.raw - 1
  let s1 := s.updFb n (fun y => { y with raw := raw })
  if n < 28 then fbReported n up t false s1
  else
    let dirDown := s.getB (F.fbkFbStatus_DIR n)
    let moved := s1.updFb n (fun y => { y with turn := raw })
    if !dirDown then
      (if x.turn < raw then fbReported n true t false moved
       else if raw ≤ x.turn - 2 then fbReported n false t true moved else s1)
    else
      (if raw < x.turn then fbReported n false t false moved
       else if x.turn + 2 ≤ raw then fbReported n true t true moved else s1)

/-- An illegal transition (R358, R359). -/
def fbIllegal (n : Nat) (flag : Fld) (cause t : Nat) (s : State) : State :=
  let s1 := fbFlag n flag (s.bumpSat (F.fbkFbErrs_QERR_CNT n))
  let s2 := s1.updFb n (fun x => { x with badAt := some t })
  match (s.fb n).badAt with
  | some t0 => if t ≤ t0 + 1000000 * 2 ^ 32 then fbFault n cause s2 else s2
  | none => s2

/-- The place of a Hall state in Table 10.3. -/
def hallIdx (st : Nat) : Nat :=
  match st with | 1 => 0 | 3 => 1 | 2 => 2 | 6 => 3 | 4 => 4 | _ => 5

/-- Lines take new levels: bit 0 the A or U pad, bit 1 B or V, bit 2 Z or W (R356 to R360). -/
def fbLines (n lv : Nat) (s : State) : State :=
  if !s.fbRuns n then s.updFb n (fun x => { x with lines := lv })
  else
    let x := s.fb n
    let t := s.nowFx - (s.get (F.fbkFbCfg_FILT n) + 2) * s.clk.incr
    let inv := s.getB (F.fbkFbCfg_INV n)
    let s1 := s.updFb n (fun y => { y with lines := lv })
    if s.get (F.fbkFbCfg_MODE n) = 1 then
      let a := lv.testBit 0 != x.lines.testBit 0
      let b := lv.testBit 1 != x.lines.testBit 1
      if a && b then fbIllegal n (F.fbkFbStatus_QERR n) 0 t s1
      else if a || b then
        -- A leads B: an edge of A away from B, or of B towards A
        let up := if a then lv.testBit 0 != lv.testBit 1 else lv.testBit 0 == lv.testBit 1
        fbRaw n (up != inv) t s1
      else s1
    else if s.get (F.fbkFbCfg_MODE n) = 2 then
      if lv = x.lines then s1
      else if lv = 0 ∨ lv = 7 then fbIllegal n (F.fbkFbStatus_QERR n) 0 t s1
      else
        let s2 := s1.updFb n (fun y => { y with hall := lv })
        if x.hall = 0 ∨ x.hall = lv then s2
        else
          let d := (hallIdx lv + 6 - hallIdx x.hall) % 6
          if d = 1 then fbRaw n (!inv) t s2
          else if d = 5 then fbRaw n inv t s2
          else fbIllegal n (F.fbkFbStatus_QERR n) 0 t s2
    else s1

/-- A rising edge of Z (R361). -/
def fbIndex (n : Nat) (s : State) : State :=
  if !s.fbRuns n ∨ s.get (F.fbkFbCfg_MODE n) ≠ 1 then s
  else
    let t := s.nowFx - (s.get (F.fbkFbCfg_FILT n) + 2) * s.clk.incr
    ((s.set (F.fbkFbZpos_ZPOS n) (s.get (F.fbkFbPos_POS n))).set (F.fbkFbZtime_ZTIME n) (t / 2 ^ 32)).bump (F.fbkFbZcnt_ZCNT n)

/-- No count for STILL_T (R365). -/
def fbStill (n : Nat) (s : State) : State :=
  let x := s.fb n
  let due : Bool := match x.times.head? with | some t => decide (t + s.stillT n ≤ s.nowFx) | none => false
  if s.fbRuns n ∧ s.fbCounting n ∧ !s.getB (F.fbkFbStatus_METHOD n) ∧ due then
    fbSetSpeed n 0 ((((s.set (F.fbkFbStatus_STILL n) 1).set (F.fbkFbStatus_FIRST n) 0).set (F.fbkFbStatus_DIRCHG n) 0).updFb n
      (fun y => { y with times := [], perSpeed := 0 }))
  else s

/-- Whether the first cycle edge at or after a gate boundary, a whole multiple of FT / 2^GDIV of local time, is now (R366). -/
def State.gateDue (s : State) (n : Nat) : Bool :=
  decide (s.nowFx % (s.ftNs * 2 ^ 32 / 2 ^ s.get (F.fbkFbSpd_GDIV n)) < s.clk.incr)
/-- A gate boundary (R366, R367). -/
def fbGate (n : Nat) (s : State) : State :=
  if !s.fbRuns n ∨ !s.fbCounting n ∨ !s.gateDue n then s
  else
    let x := s.fb n
    let c := x.gate
    let s1 := s.updFb n (fun y => { y with gate := 0, gateOk := true })
    if !x.gateOk then s1
    else
      let v := qdiv (c * 1000000000 * 2 ^ 24 * 2 ^ s.get (F.fbkFbSpd_GDIV n)) s.ftNs
      if s.getB (F.fbkFbStatus_METHOD n) then
        (if c.natAbs ≤ s.get (F.fbkFbSpdMc_M_DN n) then fbSetSpeed n x.perSpeed (s1.set (F.fbkFbStatus_METHOD n) 0)
         else fbSetSpeed n v s1)
      else if s.get (F.fbkFbSpdMc_M_UP n) ≤ c.natAbs then fbSetSpeed n v (s1.set (F.fbkFbStatus_METHOD n) 1)
      else s1

/-! ## Enabling (R362, R379) -/

/-- Whether the analogue configuration of a channel is in error (R379). -/
def fbCfgBad (s : State) (n : Nat) : Bool :=
  let m := s.get (F.fbkFbCfg_MODE n)
  if m ≠ 5 ∧ m ≠ 6 then false
  else
    let a := s.get (F.fbkFbAna_SIN_IN n)
    let b := s.get (F.fbkFbAna_COS_IN n)
    let ains := s.get F.adcInfo_AINS
    decide (ains ≤ a) || decide (ains ≤ b) || a / 6 != b / 6 ||
      s.get (F.adcAinStatus_OWNER a) != s.fbOwner n || s.get (F.adcAinStatus_OWNER b) != s.fbOwner n ||
      (m == 6 && s.get (F.adcPairCfg_DAC_MODE (s.get (F.fbkFbAna_EXC_PAIR n))) != 1)

/-- CFG_ERR follows the configuration of an enabled channel. -/
def fbCheck (n : Nat) (s : State) : State :=
  s.setB (F.fbkFbStatus_CFG_ERR n) (s.getB (F.fbkFbCtrl_EN n) && fbCfgBad s n)

/-- EN is set (R362). -/
def fbEnable (n : Nat) (s : State) : State :=
  if s.getB (F.fbkFbCtrl_EN n) then s
  else
    let s1 := s.set (F.fbkFbCtrl_EN n) 1
    let sampled := decide (3 ≤ s.get (F.fbkFbCfg_MODE n))
    let s2 := (((s1.set (F.fbkFbStatus_METHOD n) (if sampled then 1 else 0)).set (F.fbkFbStatus_STILL n)
      (if sampled then 0 else 1)).set (F.fbkFbStatus_FIRST n) 0).set (F.fbkFbStatus_DIRCHG n) 0
    let s3 := s2.updFb n (fun x => { x with
      times := [], perSpeed := 0, gate := 0, gateOk := false, turn := x.raw, valid := false, ext := 0
      hall := if x.lines = 7 then 0 else x.lines, busy := false })
    fbCheck n (fbSetSpeed n 0 (if n < 28 then s3 else s3.set (F.fbkFbStatus_DIR n) 0))

/-- EN is cleared; a fault while the channel is in use (R380). -/
def fbDisable (n : Nat) (s : State) : State :=
  if !s.getB (F.fbkFbCtrl_EN n) then s
  else
    let s1 := (s.set (F.fbkFbCtrl_EN n) 0).updFb n (fun x => { x with busy := false })
    let s2 := s1.set (F.fbkFbStatus_CFG_ERR n) 0
    if s.fbInUse n then fbFault n 3 s2 else s2

/-- A write of 1 to FAULT (R380). -/
def fbFaultClear (n : Nat) (s : State) : State :=
  if s.getB (F.fbkFbStatus_FAULT n) then fbFlag n (F.fbkFbStatus_REF_LOST n) (s.set (F.fbkFbStatus_FAULT n) 0) else s

/-- The snapshot of the strobe (R363). -/
def fbSnap (n : Nat) (s : State) : State :=
  if s.getB (F.fbkFbCtrl_EN n) then
    (s.set (F.fbkFbSnapPos_POS n) (s.get (F.fbkFbPos_POS n))).set64 (A.fbkFbSnapSpeedLo n) (wrapN 64 (fbSpeed s n))
  else s

/-! ## Sampled modes (R370 to R378) -/

/-- A valid sample: its position, the counts since the one before, and its instant (R375). -/
def fbSample (n : Nat) (pos : W32) (d : Int) (t : Nat) (s : State) : State :=
  let x := s.fb n
  let v := if x.valid ∧ x.prevAt < t then rateOf d (t - x.prevAt) else 0
  let s1 := (s.setReg (A.fbkFbPos n) pos).set (F.fbkFbPosTime_POS_TIME n) (t / 2 ^ 32)
  let s2 := fbSetSpeed n v (s1.updFb n (fun y => { y with valid := true, prevAt := t }))
  latchCount n pos t (decide (d < 0)) s2

/-- Whether a serial read is triggered now: at the strobe, or with TRIG at every sub-tick of the owning axis engine (R372). -/
def State.serialDue (s : State) (n : Nat) : Bool :=
  s.clk.cyc == 0 || (s.getB (F.fbkFbSer_TRIG n) && decide (s.fbOwner n < 24) &&
    (upto (s.subN (s.fbOwner n))).any (fun i => s.subCycle (s.fbOwner n) i == s.clk.cyc))
/-- A trigger of a serial read (R370, R372). -/
def serialStart (n : Nat) (s : State) : State :=
  let m := s.get (F.fbkFbCfg_MODE n)
  if !s.fbRuns n ∨ (m ≠ 3 ∧ m ≠ 4) ∨ !s.serialDue n then s
  else
    let x := s.fb n
    if x.busy ∨ s.nowFx < x.freeAt then s.bumpSat (F.fbkFbZcnt_SKIP n)
    else s.updFb n (fun y => { y with busy := true, readAt := s.nowFx + s.get (F.fbkFbSer2_LAT_COMP n) * 2 ^ 32 })

/-- The number a Gray code spells. -/
def ungray : Nat → Nat → Nat
  | 0, _ => 0
  | n + 1, x => let hi := x / 2 ^ n % 2
                let r := ungray n x
                if hi = 1 then 2 ^ n + (2 ^ n - 1 - r) else r

/-- The CRC of R371 over the `n` low bits of a number, MSB first: x^6 + x + 1, start value 0. -/
def crc6 : Nat → Nat → Nat → Nat
  | 0, _, c => c
  | n + 1, x, c => crc6 n x ((if c / 32 % 2 = x / 2 ^ n % 2 then c * 2 else Nat.xor (c * 2) 3) % 64)

/-- What a serial line returned: whether the read could start (SSI: data line high; BiSS: start bit in time), the position bits as
read, nE, nW and the CRC bits as received (BiSS). -/
def serialValid (s : State) (n : Nat) (started : Bool) (raw : Nat) (nE nW : Bool) (crc : Nat) : Bool :=
  if s.get (F.fbkFbCfg_MODE n) = 3 then started
  else
    let b := s.get (F.fbkFbSer_BITS n)
    let word := raw % 2 ^ b * 4 + (if nE then 2 else 0) + (if nW then 1 else 0)
    started && nE && crc == 63 - crc6 (b + 2) word 0

/-- A serial read ends (R373, R374). -/
def serialDone (n : Nat) (started : Bool) (raw : Nat) (nE nW : Bool) (crc : Nat) (s : State) : State :=
  let x := s.fb n
  if !x.busy then s
  else
    let bits' := s.get (F.fbkFbSer_BITS n)
    let mono := if s.get (F.fbkFbCfg_MODE n) = 3 then s.get (F.fbkFbSer2_MONO n) * 1000 * 2 ^ 32 else 0
    let s1 := s.updFb n (fun y => { y with busy := false, freeAt := s.nowFx + mono })
    if serialValid s n started raw nE nW crc then
      let v := if s.get (F.fbkFbCfg_MODE n) = 3 ∧ s.getB (F.fbkFbSer_GRAY n) then ungray bits' (raw % 2 ^ bits') else raw % 2 ^ bits'
      let d := sx bits' ((v + 2 ^ bits' - x.prevV) % 2 ^ bits')
      let pos : W32 := if x.valid then s.reg (A.fbkFbPos n) + BitVec.ofInt 32 d else BitVec.ofNat 32 v
      let s2 := fbSample n pos d x.readAt (s1.set64 (A.fbkFbAbsLo n) v)
      let s3 := s2.updFb n (fun y => { y with prevV := v, fails := 0 })
      whenB (s.get (F.fbkFbCfg_MODE n) == 4 && !nW) (fbFlag n (F.fbkFbStatus_WARN n)) s3
    else
      let s2 := fbFlag n (F.fbkFbStatus_SERR n) (s1.bumpSat (F.fbkFbErrs_SERR_CNT n))
      let fails := x.fails + 1
      let s3 := s2.updFb n (fun y => { y with fails := fails })
      if s.get (F.fbkFbSer2_ERR_LIM n) ≤ fails then fbFault n 1 s3 else s3

/-- A sample of the analogue modes from the codes of its two inputs and their instants (R376, R377). -/
def analogSample (n : Nat) (sin cos : Int) (tSin tCos : Nat) (s : State) : State :=
  let x := s.fb n
  let t := (tSin + tCos) / 2
  let s0 := s.updFb n (fun y => { y with sinAt := tSin, cosAt := tCos })
  let amp := sin * sin + cos * cos
  let lo := s.get (F.fbkFbAna2_AMP_MIN n) * 128
  let hi := s.get (F.fbkFbAna2_AMP_MAX n) * 128
  let phi := angleOfVec cos sin
  let d := sx 32 (wrapN 32 ((phi : Int) - x.ext))
  let badAmp := decide (amp < (lo * lo : Nat) ∨ ((hi * hi : Nat) : Int) < amp)
  let badStep := x.valid && decide (2 ^ 30 < d.natAbs)
  if badAmp then fbIllegal n (F.fbkFbStatus_AMP n) 2 t (whenB badStep (fbFlag n (F.fbkFbStatus_QERR n)) s0)
  else if badStep then fbIllegal n (F.fbkFbStatus_QERR n) 2 t s0
  else
    let ext : Int := if x.valid then x.ext + d else phi
    let pos := BitVec.ofInt 32 (Int.fdiv ext (2 ^ (32 - s.get (F.fbkFbAna_INTERP n)) : Nat))
    fbSample n pos (pos - s.reg (A.fbkFbPos n)).toInt t (s0.updFb n (fun y => { y with ext := ext }))

/-! ## Latches (R381 to R388) -/

/-- Sets a sticky flag of a latch input; LATCH_STICKY follows a first setting (R391). -/
def latFlag (i : Nat) (f : Fld) (s : State) : State :=
  if s.getB f then s.flag f else (s.flag f).note 0x0704 (0x6300 + i) (s.latPlace i) [] 16 (2 ^ f.lo) 4

/-- The registers of the FIFO and the state of a latch input follow its records (R386). -/
def latRefresh (i : Nat) (s : State) : State :=
  let l := s.lat i
  let s1 := (s.set (F.latLatStatus_FILL i) l.recs.length).setB (F.latLatStatus_WAITING i) !l.waiting.isEmpty
  let s1 := if s.getB (F.latLatCfg_SINGLE i) then s1 else s1.setB (F.latLatStatus_ARMED i) (s.get (F.latLatCfg_EDGE i) != 0)
  match l.recs.head? with
  | none => (((s1.set64 (A.latLatRecTimeLo i) 0).setReg (A.latLatRecTfrac i) 0).setReg (A.latLatRecPos i) 0).setReg (A.latLatRecInfo i) 0
  | some r => (((s1.set64 (A.latLatRecTimeLo i) (r.time / 2 ^ 32)).setReg (A.latLatRecTfrac i)
      (BitVec.ofNat 32 r.time)).setReg (A.latLatRecPos i) r.pos).setReg (A.latLatRecInfo i) r.info

/-- An edge of a latch input, `taps` LSBs after the present cycle (R381 to R385). -/
def latchEdge (i : Nat) (rise : Bool) (taps : Nat) (s : State) : State :=
  let s0 := s.setB (F.latLatStatus_LEVEL i) rise
  let t := s.nowFx + taps * s.clk.incr / 128
  let sel := s.get (F.latLatCfg_EDGE i)
  let l := s.lat i
  if !(if rise then sel.testBit 0 else sel.testBit 1) ∨ !s.getB (F.latLatStatus_ARMED i) ∨ s.getB (F.latLatStatus_CAL_FAULT i) ∨
      t < l.holdoff ∨ (s.getB (F.latLatCfg_SINGLE i) ∧ s.nowFx < l.armedAt) then s0
  else
    let n := s.get (F.latLatCfg_FB_CH i)
    let pos := s.reg (A.fbkFbPos n)
    let d := cdiff pos (s.reg (A.latLatWinCenter i))
    if s.getB (F.latLatCfg_WIN_EN i) ∧ s.get (F.latLatWinHalf_HALF i) < d.natAbs then s0.bumpSat (F.latLatCounts_OUTWIN i)
    else
      let bad := s.getB (F.fbkFbStatus_FAULT n) || !s.fbRuns n
      let x := s.fb n
      let w : LatWait :=
        { time := t, ch := n, rise := rise, na := pos, down := x.down
          ta := if s.fbCounting n then x.times.head? else if x.valid then some x.prevAt else none
          counting := s.fbCounting n, bad := bad }
      let s1 := s0.updLat i (fun y => { y with
        waiting := y.waiting ++ [w], holdoff := t + s.get (F.latLatCfg_HOLDOFF i) * 2 ^ 32 })
      let s1 := s1.capSee true i t
      latRefresh i (if s.getB (F.latLatCfg_SINGLE i) then s1.set (F.latLatStatus_ARMED i) 0 else s1)

/-- The position of a record from its bracket: whole count, fraction in 2^-16 and whether it is valid (R384, R385). -/
def latchPos (w : LatWait) (stillT : Nat) : W32 × Nat × Bool :=
  match w.ta, w.nb with
  | some ta, some (nb, tb, down) =>
    let span := tb - ta
    let f := (rdiv ((w.time - ta : Nat) * 65536) span).toNat
    let put (base : W32) (f : Nat) : W32 × Nat × Bool := (base + BitVec.ofNat 32 (f / 65536), f % 65536, true)
    if w.bad ∨ span = 0 then (w.na, 0, false)
    else if w.counting then
      if stillT < span ∨ down ≠ w.down ∨ w.time + stillT < tb then (w.na, 0, false)
      else if nb = w.na + 1 ∧ !down then put w.na f
      else if nb = w.na - 1 ∧ down then put w.na (65536 - f)
      else (w.na, 0, false)
    else if w.time + stillT < tb then (w.na, 0, false)
    else
      let d := (nb - w.na).toInt
      let p := rdiv (d * (w.time - ta : Nat) * 65536) span
      (w.na + BitVec.ofInt 32 (Int.fdiv p 65536), (p % 65536).toNat, true)
  | _, _ => (w.na, 0, false)

/-- The oldest waiting record completes (R384 to R387). -/
def latchComplete (i : Nat) (s : State) : State :=
  let l := s.lat i
  match l.waiting with
  | [] => s
  | w :: r =>
    let (pos, frac, ok) := latchPos w (s.stillT w.ch)
    let info := BitVec.ofNat 32 (frac * 65536 + w.ch * 2048 + (if w.bad then 512 else 0) + (if ok then 256 else 0) +
      (if w.rise then 128 else 0) + l.seq % 128)
    let rec' : LatRec := { time := w.time, pos := pos, info := info }
    let full := decide (16 ≤ l.recs.length)
    let s1 := s.updLat i (fun y => { y with waiting := r, seq := y.seq + 1, recs := if full then y.recs else y.recs ++ [rec'] })
    let s2 := if full then latFlag i (F.latLatStatus_OVF i) (s1.bumpSat (F.latLatCounts_LOST i)) else s1
    let s3 := whenB (s.getB (F.latLatCfg_EVT i)) (fun t => t.raiseAt (w.time / 2 ^ 32) 0x0703 sevInfo (0x6300 + i) (s.latPlace i)
      [(16, 4, w.time % 2 ^ 32), (20, 4, pos.toNat), (24, 4, info.toNat)]) s2
    latRefresh i s3

/-- A record whose bracket is closed, or whose channel is unusable, completes. -/
def latchRecord (i : Nat) (s : State) : State :=
  match (s.lat i).waiting with
  | w :: _ => if w.nb.isSome ∨ w.bad then latchComplete i s else s
  | [] => s
/-- STILL_T has passed since the edge without a completing count or sample. -/
def latchTimeout (i : Nat) (s : State) : State :=
  match (s.lat i).waiting with
  | w :: _ => if w.nb.isNone ∧ w.time + s.stillT w.ch < s.nowFx then latchComplete i s else s
  | [] => s

/-- ARM: a single-shot input is armed from the cycle after the write (R382). -/
def latchArm (i : Nat) (s : State) : State :=
  if !s.getB (F.latLatCfg_SINGLE i) ∨ s.getB (F.latLatStatus_ARMED i) then s
  else (s.set (F.latLatStatus_ARMED i) 1).updLat i (fun l => { l with armedAt := s.nowFx + s.clk.incr })
def latchPop (i : Nat) (s : State) : State := latRefresh i (s.updLat i (fun l => { l with recs := l.recs.drop 1 }))
def latchFlush (i : Nat) (s : State) : State := latRefresh i (s.updLat i (fun l => { l with recs := [], waiting := [] }))

/-- A delay line is re-measured in RUN (R388). -/
def tdcCheck (i : Nat) (ok : Bool) (s : State) : State :=
  if s.mode ≠ mRun ∨ ok ∨ s.getB (F.latLatStatus_CAL_FAULT i) then s
  else (s.set (F.latLatStatus_CAL_FAULT i) 1).raise 0x0705 sevFault (0x6300 + i) (s.latPlace i) [(16, 1, i)]

end Sys2Proof.Machine
end

