-- ==== Sys2Proof/Machine/Adc.lean ====
section
/-!
DEFINITION. The operations of the converters (spec/09_converters.md): triggers, results and tags, segment sums, input-ready
gating, diagnosis, channel faults, configuration.
-/
namespace Sys2Proof.Machine

def State.ain (s : State) (sdi : Bool) (k : Nat) : AinSt := Table.look {} (if sdi then s.adc.sdis else s.adc.ains) k
def State.updAin (s : State) (sdi : Bool) (k : Nat) (f : AinSt → AinSt) : State :=
  if sdi then { s with adc := { s.adc with sdis := Table.upd {} k f s.adc.sdis } }
  else { s with adc := { s.adc with ains := Table.upd {} k f s.adc.ains } }
def State.conv (s : State) (c : Nat) : ConvSt := Table.look {} s.adc.convs c
def State.updConv (s : State) (c : Nat) (f : ConvSt → ConvSt) : State :=
  { s with adc := { s.adc with convs := Table.upd {} c f s.adc.convs } }

/-! ## The registers of an input by kind -/

def inSeq (sdi : Bool) (k : Nat) : Fld := if sdi then F.adcSdiRes_SEQ k else F.adcAinRes_SEQ k
def inTag (sdi : Bool) (k : Nat) : Fld := if sdi then F.adcSdiRes_TAG k else F.adcAinRes_TAG k
def inStatus (sdi : Bool) (k : Nat) : Nat := if sdi then A.adcSdiStatus k else A.adcAinStatus k
def inFault (sdi : Bool) (k : Nat) : Fld := ⟨inStatus sdi k, 4, 4⟩
def inRecovery (sdi : Bool) (k : Nat) : Fld := ⟨inStatus sdi k, 5, 5⟩
def inSat (sdi : Bool) (k : Nat) : Fld := ⟨inStatus sdi k, 3, 3⟩
def inClip (sdi : Bool) (k : Nat) : Fld := ⟨inStatus sdi k, 0, 0⟩
def inOwner (sdi : Bool) (k : Nat) : Fld := ⟨inStatus sdi k, 29, 24⟩
def inTime (sdi : Bool) (k : Nat) : Nat := if sdi then A.adcSdiTime k else A.adcAinTime k
def inSeg0 (sdi : Bool) (k : Nat) : Nat := if sdi then A.adcSdiSeg0Sum k else A.adcAinSeg0Sum k

/-- Whether an input is present (R322). -/
def State.inPresent (s : State) (sdi : Bool) (k : Nat) : Bool :=
  if sdi then decide (k < 48) else decide (k < s.get F.adcInfo_AINS)

/-- Places of R351. -/
def inData (sdi : Bool) (k : Nat) : Nat := (if sdi then 0x6100 else 0x6000) + k
def State.inPlace (s : State) (sdi : Bool) (k : Nat) : Nat :=
  let o := s.get (inOwner sdi k)
  if o = 32 ∨ o = 33 then place o 6 k else place o (if sdi then 3 else 2) k

/-- Sets a sticky flag of an input; ADC_STICKY follows a first setting, a warning for CLIP (R351). -/
def adcFlag (sdi : Bool) (k : Nat) (f : Fld) (s : State) : State :=
  if s.getB f then s.flag f else (s.flag f).note 0x0601 (inData sdi k) (s.inPlace sdi k) [] 16 (2 ^ f.lo) 1

/-! ## Gates (R341, R343) -/

/-- The inputs an enabled gate of AEn names. -/
def State.gateInputs (s : State) (n : Nat) : List (Bool × Nat) :=
  if !s.getB (F.adcGate_EN n) then []
  else
    let w := s.get (F.adcGate_IN n)
    let sdi := s.getB (F.adcGate_SDI n)
    ((upto 3).map (fun i => (sdi, w / 256 ^ i % 256))).filter (fun e => s.inPresent e.1 e.2)
/-- The slot whose update points bound the segments of an input: the lowest enabled gate that names it. -/
def State.gateSlot (s : State) (sdi : Bool) (k : Nat) : Option Nat :=
  (upto s.slots).find? (fun n => (s.gateInputs n).contains (sdi, k))

/-- A boundary closes the running segment of an input (R341). -/
def closeSegment (sdi : Bool) (k : Nat) (s : State) : State :=
  s.updAin sdi k (fun x => { x with closed := x.closed ++ [{ x.seg with at' := s.nowFx }], seg := {}, boundary := s.nowFx })

/-- INRDY of AEn is raised for the present update point (R343, Table 7.14a). -/
def raiseInrdy (n : Nat) (s : State) : State :=
  { (s.engIrq n 1) with adc := { s.adc with inrdyDone := Table.put false n true s.adc.inrdyDone } }
def State.inrdyDone (s : State) (n : Nat) : Bool := Table.look false s.adc.inrdyDone n

/-- Whether the gated inputs have delivered for the present update point (R343). -/
def inrdyDue (s : State) (n : Nat) : Bool :=
  let t := (s.slot n).tEnd
  s.getB (F.adcGate_EN n) &&
    (if s.getB (F.adcGate_AVG n) then (s.gateInputs n).all (fun e => decide (t ≤ (s.ain e.1 e.2).published))
     else decide (t + 4 * s.clk.incr ≤ s.nowFx) &&
       (s.gateInputs n).all (fun e => decide ((s.slot n).tPrev < (s.ain e.1 e.2).last)))
/-- Raises INRDY where it is due and not yet raised. -/
def inrdyCheck (n : Nat) (s : State) : State := if inrdyDue s n ∧ !s.inrdyDone n then raiseInrdy n s else s
/-- t_end + INRDY_MAX has come. -/
def inrdyTimeout (n : Nat) (s : State) : State :=
  if s.getB (F.adcGate_EN n) ∧ !s.inrdyDone n ∧ (s.slot n).tEnd + s.get F.adcInrdyMax_MAX * s.clk.incr ≤ s.nowFx then
    raiseInrdy n s
  else s
def inrdyCheckAll (sdi : Bool) (k : Nat) (s : State) : State :=
  forEach ((upto s.slots).filter (fun n => (s.gateInputs n).contains (sdi, k))) inrdyCheck s

/-- An update point t_end of a slot: delay measurement, the segments of its gated inputs, a fresh INRDY (R312, R341, R343). -/
def updatePoint (n : Nat) (s : State) : State :=
  let s1 := slotTEnd n s
  let s2 := forEach ((s.gateInputs n).filter (fun e => s.gateSlot e.1 e.2 == some n)) (fun e t => closeSegment e.1 e.2 t) s1
  { s2 with adc := { s2.adc with inrdyDone := Table.put false n false s2.adc.inrdyDone } }

/-! ## Channel faults (R347) -/

/-- The inputs of an axis's phases; a stepper has no third (R198). -/
def LoopCfg.curInputs (c : LoopCfg) : List Nat := [c.inA, c.inB] ++ (if c.kind = 1 then [] else [c.inC])
/-- The local axes whose current stage reads an input, as a phase or as the bus voltage. -/
def State.currentReaders (s : State) (sdi : Bool) (k : Nat) : List Nat :=
  s.loop.axes.filterMap (fun e =>
    if e.1 < 24 ∧ ((e.2.cfg.sdi = sdi ∧ e.2.cfg.curInputs.contains k) ∨ (!sdi ∧ e.2.cfg.vbusIn = k)) then
      some e.1 else none)

/-- An input's channel is faulted: cause of Table 9.11 and the converter (R347). -/
def chanFault (sdi : Bool) (k cause conv : Nat) (s : State) : State :=
  if s.getB (inFault sdi k) then s
  else
    let s1 := (s.set (inFault sdi k) 1).raise 0x0603 sevFault (inData sdi k) (s.inPlace sdi k) [(16, 1, cause), (17, 1, conv)]
    let s2 := forEach (s.currentReaders sdi k) (fun a t => loopFault a 1 0 (wrapN 32 (s.axisL a).iq) t) s1
    let s3 := if sdi then s2 else forEach (s.spanReaders false k) (fun e t => loopFault e.2.controlled 4 3 0 t) s2
    if sdi then s3
    else forEach ((upto 32).filter (fun n => decide (5 ≤ s.get (F.fbkFbCfg_MODE n)) && s.getB (F.fbkFbCtrl_EN n) &&
        (s.get (F.fbkFbAna_SIN_IN n) == k || s.get (F.fbkFbAna_COS_IN n) == k)))
      (fun n t => forEach (t.fbReaders n) (fun e u => loopFault e.1 4 e.2 0 u) t) s3

/-! ## Converters (R328 to R332) -/

def State.ilv (s : State) (c : Nat) : Bool := s.getB (F.adcPairCfg_ILV (c / 2))
/-- The converter whose configuration a converter follows: the even one under ILV (R332). -/
def State.lead (s : State) (c : Nat) : Nat := if s.ilv c then c / 2 * 2 else c
def State.convMode (s : State) (c : Nat) : Nat := s.get (F.adcConvCfg_MODE (s.lead c))
def State.acq (s : State) (c : Nat) : Nat := s.get (F.adcConvCfg_ACQ (s.lead c))
def State.lenOf (s : State) (c : Nat) : Nat := if s.ilv c then 0 else s.get (F.adcConvCfg_LEN c)
/-- Byte `e mod 4` of a sequence word: gain code and input of entry `e`. -/
def seqByte (lo hi : W32) (e : Nat) : Nat := nbits (if e < 4 then lo else hi).toNat (8 * (e % 4) + 7) (8 * (e % 4))
def State.entryByte (s : State) (c e : Nat) : Nat :=
  seqByte (s.reg (A.adcConvSeq (s.lead c) 0)) (s.reg (A.adcConvSeq (s.lead c) 1)) e
/-- The AIN an entry of a converter names. -/
def State.entryIn (s : State) (c e : Nat) : Nat := c / 2 * 6 + min 5 (s.entryByte c e % 8)
def State.entryGain (s : State) (c e : Nat) : Nat := 2 ^ (s.entryByte c e / 32 % 4)
/-- The entries a converter uses. -/
def State.entries (s : State) (c : Nat) : List Nat := upto (s.lenOf c + 1)
def State.convInputs (s : State) (c : Nat) : List Nat := ((s.entries c).map (s.entryIn c)).eraseDups
def State.convPresent (s : State) (c : Nat) : Bool := decide (c / 2 < s.get F.adcInfo_PAIRS)
def State.convOk (s : State) (c : Nat) : Bool :=
  s.convPresent c && s.convMode c != 0 && !s.getB (F.adcConvStatus_DIAG_FAULT c) && !s.getB (F.adcPairStatus_CAL_FAULT (c / 2))

/-- ACTIVE of a pair's converters and DIAG_OFF follow their configuration (Tables 9.6, 9.7). -/
def convRefresh (j : Nat) (s : State) : State :=
  let act (c : Nat) : Bool := s.convOk c
  let dac := s.get (F.adcPairCfg_DAC_MODE j)
  let off := s.get (F.adcPairCfg_DIAG_PERIOD j) == 0 || dac == 1 || (dac == 2 && s.mode == mService) ||
    !(act (2 * j) || act (2 * j + 1))
  ((s.setB (F.adcConvStatus_ACTIVE (2 * j)) (act (2 * j))).setB (F.adcConvStatus_ACTIVE (2 * j + 1)) (act (2 * j + 1))).setB
    (F.adcPairStatus_DIAG_OFF j) off

/-- A multiplexer change of a converter on an input (Table 9.3). -/
def muxChange (c k : Nat) (s : State) : State :=
  if s.acq c < 80 then s.updConv c (fun x => { x with settleIn := Table.put 0 k 2 x.settleIn }) else s

/-- Starts a converter's sequence at an instant. -/
def convStart (c at' : Nat) (s : State) : State :=
  (s.set (F.adcConvStatus_BUSY c) 1).updConv c (fun x => { x with
    running := true, arrived := s.nowFx, start := at', entry := 0 })
/-- A converter stops: what it held or ran is dropped. -/
def convHalt (c : Nat) (s : State) : State :=
  (s.set (F.adcConvStatus_BUSY c) 0).updConv c (fun x => { x with
    running := false, injecting := false, inject := none, deferred := false })

/-- A trigger that reaches a converter, whose acquisition starts at an instant (R328 to R331, R344); triggers of one cycle count as one. -/
def convTake (c at' : Nat) (s : State) : State :=
  let x := s.conv c
  let busy := x.running || x.deferred
  if !s.convOk c ∨ (busy ∧ (x.arrived = s.nowFx ∨ (x.running ∧ s.convMode c = 2))) then s
  else if busy then (s.bumpSat (F.adcConvCounts_TRIG_LOST c)).flag (F.adcConvStatus_LOST c)
  else if x.injecting then
    ((s.flag (F.adcConvStatus_DEFER c)).set (F.adcConvStatus_BUSY c) 1).updConv c (fun y => { y with
      deferred := true, arrived := s.nowFx, start := at' })
  else convStart c at' s
/-- The cycles by which the odd converter follows the even one under ILV (R332). -/
def State.ilvLag (s : State) (c : Nat) : Nat := (s.acq c + 25) / 2 * s.clk.incr
/-- A trigger of a converter: under ILV the even converter's triggers serve both, the odd one later (R332). -/
def adcTrigger (c at' : Nat) (s : State) : State :=
  if !s.ilv c then convTake c at' s
  else if c % 2 = 1 then s
  else convTake (c + 1) (at' + s.ilvLag c) (convTake c at' s)

/-- The first cycle edge at or after an instant (R329). -/
def cycleCeil (s : State) (t : Nat) : Nat :=
  let o := t - s.clk.clk
  s.clk.clk + (o + s.clk.incr - 1) / s.clk.incr * s.clk.incr

/-! ## Results (R324, R336 to R341) -/

/-- A segment with one result more; its sum saturates (R341). -/
def Segment.add (g : Segment) (v : Int) (clip : Bool) : Segment :=
  { g with sum := satI 32 (g.sum + v), cnt := g.cnt + 1, clip := g.clip || clip }
/-- Adds a result to its segment (R341): a closed one that ends at or after its instant, else the running one. -/
def addSum (sdi : Bool) (k : Nat) (v : Int) (clip : Bool) (t : Nat) (s : State) : State :=
  let x := s.ain sdi k
  let (was, put) : Segment × (Segment → AinSt → AinSt) := match x.closed.findIdx? (fun e => decide (t ≤ e.at')) with
    | some i => (x.closed.getD i {}, fun g y => { y with closed := y.closed.set i g })
    | none => (x.seg, fun g y => { y with seg := g })
  let g := was.add v clip
  whenB (g.sum != was.sum + v) (adcFlag sdi k (inSat sdi k)) (s.updAin sdi k (put g))

/-- Whether an over-range result is tagged 10 (R338). -/
def tagsOver (s : State) (sdi : Bool) (k : Nat) : Bool :=
  s.mode == mCalibrate || s.mode == mService || s.getB (inRecovery sdi k)

/-- The channels of the analogue modes take a sample when both their inputs hold a new valid result (R376). -/
def analogScan (k : Nat) (s : State) : State :=
  forEach (upto 32) (fun n t =>
    let a := t.get (F.fbkFbAna_SIN_IN n)
    let b := t.get (F.fbkFbAna_COS_IN n)
    if !t.fbRuns n ∨ t.get (F.fbkFbCfg_MODE n) < 5 ∨ (a ≠ k ∧ b ≠ k) then t
    else
      let ta := (t.ain false a).last
      let tb := (t.ain false b).last
      let x := t.fb n
      if t.get (F.adcAinRes_TAG a) = 0 ∧ t.get (F.adcAinRes_TAG b) = 0 ∧ x.sinAt < ta ∧ x.cosAt < tb ∧
          (ta - tb) + (tb - ta) ≤ 10 * t.clk.incr then
        analogSample n (sx 16 (t.get (F.adcAinRes_CODE a))) (sx 16 (t.get (F.adcAinRes_CODE b))) ta tb t
      else t) s

/-- Writes a result of an input: registers, CLIP, sum, gates. -/
def putResult (k : Nat) (code : Int) (ovr : Bool) (tag t : Nat) (s : State) : State :=
  let s1 := (((s.setI (F.adcAinRes_CODE k) code).set (F.adcAinRes_TAG k) tag).bump (F.adcAinRes_SEQ k)).set
    (F.adcAinTime_TIME k) (t / 2 ^ 32)
  let s2 := s1.updAin false k (fun x => { x with last := t, lastClip := ovr })
  let s3 := whenB ovr (adcFlag false k (inClip false k)) s2
  let s4 := if tag = 0 ∨ tag = 2 then addSum false k code ovr t s3 else s3
  analogScan k (inrdyCheckAll false k s4)

/-- The level fractions of injections, in quarters of full scale (R345). -/
def diagQuarter (level : Nat) : Int := match level % 4 with | 0 => -3 | 1 => -1 | 2 => 1 | _ => 3

/-- The outcome of an injection (R345). -/
def diagResult (c k : Nat) (code : Int) (level : Nat) (s : State) : State :=
  let j := c / 2
  let want := diagQuarter level * 8192
  let streak := if c % 2 = 0 then F.adcPairStatus_STREAK0 j else F.adcPairStatus_STREAK1 j
  if (code - want).natAbs ≤ s.get (F.adcPairCfg_DIAG_TOL j) then s.set streak 0
  else
    let n := min 3 (s.get streak + 1)
    let s1 := ((s.bumpSat (F.adcPairStatus_FAIL_CNT j)).flag (F.adcPairStatus_FAIL j)).set streak n
    let s2 := s1.raise 0x0602 sevWarn (inData false k) (s.inPlace false k)
      [(16, 1, c), (18, 2, wrapN 16 want), (20, 2, wrapN 16 code), (22, 1, n)]
    if n = 3 ∧ !s.getB (F.adcConvStatus_DIAG_FAULT c) then
      let s3 := convHalt c (s2.flag (F.adcConvStatus_DIAG_FAULT c))
      convRefresh j (forEach (s.convInputs c) (fun i t => chanFault false i 0 c t) s3)
    else s2

/-- Whether an injection takes the place of a conversion, in MODE 2 and under ILV, instead of following a sequence (R344). -/
def State.injectsInPlace (s : State) (c : Nat) : Bool := s.convMode c == 2 || s.ilv c
/-- What a converter does after a conversion that ended at `t`: the next entry, an injection, a deferred trigger, or rest. -/
def convNext (c t : Nat) (s : State) : State :=
  let x := s.conv c
  let last := decide (s.lenOf c ≤ x.entry)
  let inject : Option (Nat × Nat) := x.inject
  if x.injecting then
    let s1 := s.updConv c (fun y => { y with injecting := false, inject := none })
    if x.deferred then s1.updConv c (fun y => { y with deferred := false, running := true, entry := 0, start := max y.start t })
    else if s.convMode c = 2 then s1.updConv c (fun y => { y with
      running := true, start := t, entry := if last then 0 else y.entry + 1 })
    else s1.set (F.adcConvStatus_BUSY c) 0
  else if s.convMode c = 2 then s.updConv c (fun y => { y with start := t, entry := if last then 0 else y.entry + 1 })
  else if !last then s.updConv c (fun y => { y with start := t, entry := y.entry + 1 })
  else if inject.isSome ∧ !s.injectsInPlace c then s.updConv c (fun y => { y with running := false, injecting := true, start := t })
  else (s.set (F.adcConvStatus_BUSY c) 0).updConv c (fun y => { y with running := false })

/-- A conversion of a converter completes with a code not yet limited (R324, R336 to R338, R345). -/
def adcResult (c : Nat) (code : Int) (s : State) : State :=
  let x := s.conv c
  let t := x.start + s.acq c * s.clk.incr
  let done := t + 25 * s.clk.incr
  if !s.convOk c ∨ !(x.running ∨ x.injecting) ∨ s.nowFx < done then s
  else
    let e := match x.inject with
      | some (e, _) => if x.injecting then e else x.entry
      | none => x.entry
    let k := s.entryIn c e
    let lim := clampI (-32768) 32767 code
    let ovr := lim != code
    -- in MODE 2 and under ILV an injection takes the place of the conversion of its own input
    let injected : Option Nat := match x.inject with
      | some (e', lv) => if x.injecting ∨ (s.injectsInPlace c ∧ s.entryIn c e' = k) then some lv else none
      | none => none
    let s1 := s.bump (F.adcConvCounts_CONVS c)
    match injected with
    | some lv =>
      let s2 := putResult k lim ovr 3 t s1
      let s3 := diagResult c k lim lv s2
      let s4 := if x.injecting then s3 else s3.updConv c (fun y => { y with inject := none })
      if s4.getB (F.adcConvStatus_DIAG_FAULT c) then s4 else convNext c done (muxChange c k s4)
    | none =>
      let si := Table.look 0 x.settleIn k
      let se := Table.look 0 x.settleEnt e
      let tag := if si ≠ 0 ∨ se ≠ 0 then 1 else if ovr ∧ tagsOver s false k then 2 else 0
      let s2 := s1.updConv c (fun y => { y with
        settleIn := Table.put 0 k (si - 1) y.settleIn, settleEnt := Table.put 0 e (se - 1) y.settleEnt })
      convNext c done (putResult k lim ovr tag t s2)

/-! ## Configuration of converters (R331, R337) -/

/-- What a converter's change from the configuration of `old` to that of `new` does to it: conversions to tag settling (Table 9.3), and the
end of a sequence that its MODE no longer runs. -/
def convChanged (old new : State) (c : Nat) (s : State) : State :=
  let gainChanged := (upto 8).filter (fun e => old.entryByte c e / 32 % 4 != new.entryByte c e / 32 % 4)
  let inChanged := (upto 8).filter (fun e => old.entryByte c e % 8 != new.entryByte c e % 8)
  let s2 := forEach gainChanged (fun e t => t.updConv c (fun x => { x with settleEnt := Table.put 0 e 8 x.settleEnt })) s
  let s3 := forEach inChanged (fun e t => muxChange c (new.entryIn c e) t) s2
  if old.convMode c = 0 ∧ new.convMode c ≠ 0 then forEach (new.convInputs c) (fun k t => muxChange c k t) s3
  else if old.convMode c ≠ new.convMode c then convHalt c s3
  else s3
/-- The converters that a converter's own configuration drives: under ILV the even one's drives both, the odd one's none (R332). -/
def State.drivenBy (s : State) (c : Nat) : List Nat :=
  if !s.ilv c then [c] else if c % 2 = 0 then [c, c + 1] else []
/-- Writes a configuration register of a converter at once. -/
def convWrite (c a : Nat) (v : W32) (s : State) : State :=
  let s1 := s.setReg a v
  convRefresh (c / 2) (forEach (s1.drivenBy c) (convChanged s s1) s1)

/-- The word of a configuration register that a further write meets: the one held under CFG_PEND, else the register's (R331). -/
def State.convWord (s : State) (c a : Nat) : W32 :=
  match (s.conv c).pend.find? (fun e => e.1 == a) with
  | some e => e.2
  | none => s.reg a
/-- A write to CFG, SEQ, TRIG or TIMER of a converter: held while its sequence, or an injection behind it, runs (R331). -/
def convConfig (c a : Nat) (v : W32) (s : State) : State :=
  let x := s.conv c
  if (x.running ∨ x.injecting) ∧ s.lead c = c then
    (s.set (F.adcConvStatus_CFG_PEND c) 1).updConv c (fun y => { y with
      pend := y.pend.filter (fun e => e.1 != a) ++ [(a, v)] })
  else convWrite c a v s

/-- The held writes take effect when the sequence has ended, or in MODE 2 at the instant at which a pass has ended (R331). -/
def convApply (c : Nat) (s : State) : State :=
  let x := s.conv c
  let passEnd := s.convMode c == 2 && x.entry == 0 && decide (x.start ≤ s.nowFx ∧ s.nowFx < x.start + s.clk.incr)
  if x.pend.isEmpty ∨ (x.running ∧ !passEnd) ∨ x.injecting then s
  else
    let s1 := (s.set (F.adcConvStatus_CFG_PEND c) 0).updConv c (fun y => { y with pend := [] })
    x.pend.foldl (fun t e => convWrite c e.1 e.2 t) s1

/-- The running sequences where ILV changes (notes/assumptions/123.md): the odd converter leaves its own, and follows an even converter
that runs. -/
def ilvTurn (j : Nat) (s : State) : State :=
  let x := s.conv (2 * j)
  let s1 := convHalt (2 * j + 1) s
  if !s.ilv (2 * j) ∨ !x.running ∨ !s.convOk (2 * j + 1) then s1
  else
    let s2 := s1.updConv (2 * j) (fun y => { y with entry := 0 })
    let t := x.start + s.ilvLag (2 * j)
    convStart (2 * j + 1) (if s.nowFx ≤ t then t else t + (s.acq (2 * j) + 25) * s.clk.incr) s2
/-- A write to PAIRj_CFG: a change of ILV is a multiplexer change of both converters (R332). -/
def pairConfig (j : Nat) (v : W32) (s : State) : State :=
  let was := s.getB (F.adcPairCfg_ILV j)
  let s1 := s.setReg (A.adcPairCfg j) v
  let s2 := if was ≠ s1.getB (F.adcPairCfg_ILV j) then
      ilvTurn j (forEach [2 * j, 2 * j + 1] (fun c t => forEach (s1.convInputs c) (fun k u => muxChange c k u) t) s1)
    else s1
  convRefresh j s2

/-! ## Sigma-delta inputs (R333 to R335) -/

/-- Bit periods of one word, and cycles of one bit period. -/
def State.sdiSpan (s : State) (i : Nat) : Nat := (if s.getB (F.adcSdiCfg_ORDER i) then 4 else 3) * 16 * 2 ^ s.get (F.adcSdiCfg_OSR i)
def State.sdiBit (s : State) (i : Nat) : Nat := if (s.get F.adcSdclkCfg_DIV).testBit (i / 4) then 40 else 20

/-- A filter word becomes available: its value in Q1.23 before limiting, and the longest run of identical bits in its span. -/
def sdiWord (i : Nat) (value : Int) (run : Nat) (s : State) : State :=
  if !s.getB (F.adcSdiCfg_EN i) ∨ (s.get F.adcSdclkCfg_OFF).testBit (i / 4) then s
  else
    let half := s.sdiSpan i * s.sdiBit i * s.clk.incr / 2
    let t := s.nowFx - 200 * s.clk.incr - half
    let v := clampI (-8388608) 8388607 value
    let ovr := decide (s.get (F.adcSdiCfg_OVL_RUN i) ≤ run)
    let x := s.ain true i
    let tag := if x.settle ≠ 0 then 1 else if ovr ∧ tagsOver s true i then 2 else 0
    let s1 := (((s.setI (F.adcSdiRes_VALUE i) v).set (F.adcSdiRes_TAG i) tag).bump (F.adcSdiRes_SEQ i)).set
      (F.adcSdiTime_TIME i) (t / 2 ^ 32)
    let s2 := s1.updAin true i (fun y => { y with
      last := t, lastClip := ovr, settle := y.settle - 1, toggled := y.toggled || decide (run < s.sdiSpan i) })
    let s3 := whenB ovr (adcFlag true i (inClip true i)) s2
    let s4 := if tag = 0 ∨ tag = 2 then addSum true i (Int.fdiv v 256) ovr t s3 else s3
    inrdyCheckAll true i s4

/-- A run of 1,024 identical bits (R335). -/
def sdiStuck (i : Nat) (s : State) : State :=
  if !s.getB (F.adcSdiCfg_EN i) then s
  else
    let s1 := (adcFlag true i (F.adcSdiStatus_STUCK i) s).updAin true i (fun y => { y with toggled := false })
    chanFault true i 2 0xFF s1

/-- A write to SDIi_CFG: ORDER, OSR or EN start the settling of Table 9.3. -/
def sdiConfig (i : Nat) (v : W32) (s : State) : State :=
  let s1 := s.setReg (A.adcSdiCfg i) v
  let en := s1.getB (F.adcSdiCfg_EN i)
  let changed := s.get (F.adcSdiCfg_ORDER i) != s1.get (F.adcSdiCfg_ORDER i) ||
    s.get (F.adcSdiCfg_OSR i) != s1.get (F.adcSdiCfg_OSR i) || !s.getB (F.adcSdiCfg_EN i)
  if en ∧ changed then s1.updAin true i (fun x => { x with settle := if s1.getB (F.adcSdiCfg_ORDER i) then 4 else 3 }) else s1

/-! ## Recovery, publication, clears -/

/-- An input's recovery window opens: 100 ms of local time (R339). -/
def openRecovery (sdi : Bool) (k : Nat) (s : State) : State :=
  (s.set (inRecovery sdi k) 1).updAin sdi k (fun x => { x with recover := some (s.nowFx + 100000000 * 2 ^ 32) })
def recoveryEnd (sdi : Bool) (k : Nat) (s : State) : State :=
  match (s.ain sdi k).recover with
  | some t => if t ≤ s.nowFx then (s.set (inRecovery sdi k) 0).updAin sdi k (fun x => { x with recover := none }) else s
  | none => s

/-- Whether a segment that closed at an instant has all of its results: a SAR input 120 cycles later, an SDI input when the next word of
its grid would lie past the boundary, or no further word comes (R342). -/
def State.segDue (s : State) (sdi : Bool) (k at' : Nat) : Bool :=
  if !sdi then decide (at' + 120 * s.clk.incr ≤ s.nowFx)
  else
    let x := s.ain true k
    let runs := s.getB (F.adcSdiCfg_EN k) && !(s.get F.adcSdclkCfg_OFF).testBit (k / 4)
    !runs || x.last == 0 || decide (at' < x.last + 16 * 2 ^ s.get (F.adcSdiCfg_OSR k) * s.sdiBit k * s.clk.incr)
/-- The oldest closed segment of an input is published (R342). -/
def segPublish (sdi : Bool) (k : Nat) (s : State) : State :=
  match (s.ain sdi k).closed with
  | [] => s
  | g :: r =>
    if !s.segDue sdi k g.at' then s
    else
      let a := inSeg0 sdi k
      let cnt0 := bits (s.reg (a + 8)) 15 0
      let s1 := (s.setReg (a + 4) (s.reg a)).setReg a (BitVec.ofInt 32 g.sum)
      let s2 := (s1.setReg (a + 8) (BitVec.ofNat 32 (cnt0 * 65536 + g.cnt % 65536))).setReg (a + 12) (BitVec.ofNat 32 (g.at' / 2 ^ 32))
      inrdyCheckAll sdi k (s2.updAin sdi k (fun x => { x with closed := r, published := g.at', clip1 := x.clip0, clip0 := g.clip }))

/-- FAULT of an input follows the causes of R347. -/
def chanRefresh (sdi : Bool) (k : Nat) (s : State) : State :=
  if sdi then s.setB (inFault true k) (s.getB (F.adcSdiStatus_STUCK k) || s.getB (F.adcSdiStatus_CAL_FAULT k))
  else
    let j := k / 6
    let bad (c : Nat) : Bool := s.getB (F.adcConvStatus_DIAG_FAULT c) && (s.convInputs c).contains k
    s.setB (inFault false k) (s.getB (F.adcPairStatus_CAL_FAULT j) || bad (2 * j) || bad (2 * j + 1))

/-- A write of 1 to DIAG_FAULT (R347). -/
def diagClear (c : Nat) (s : State) : State :=
  if !s.getB (F.adcConvStatus_DIAG_FAULT c) then s
  else
    let s1 := convRefresh (c / 2) (s.set (F.adcConvStatus_DIAG_FAULT c) 0)
    forEach (s.convInputs c) (fun k t => openRecovery false k (chanRefresh false k t)) s1

/-- A write of 1 to STUCK (R335). -/
def stuckClear (i : Nat) (s : State) : State :=
  if s.getB (F.adcSdiStatus_STUCK i) ∧ (s.ain true i).toggled then
    openRecovery true i (chanRefresh true i (s.set (F.adcSdiStatus_STUCK i) 0))
  else s

/-! ## Diagnosis (R344) -/

/-- The pair injects its next test conversion, when DIAG_PERIOD ticks have passed. -/
def diagInject (j : Nat) (s : State) : State :=
  let x := Table.look {} s.adc.diags j
  let per := s.get (F.adcPairCfg_DIAG_PERIOD j)
  if s.getB (F.adcPairStatus_DIAG_OFF j) ∨ per = 0 ∨ x.ticks < per then s
  else
    let c0 := 2 * j + (if x.odd then 1 else 0)
    let c := if s.convOk c0 then c0 else 2 * j + (if x.odd then 0 else 1)
    let e := (if c % 2 = 0 then x.entry0 else x.entry1) % (s.lenOf c + 1)
    let s1 := { s with adc := { s.adc with diags := Table.put {} j { x with
      ticks := 0, odd := c % 2 == 0, level := (x.level + 1) % 4
      entry0 := if c % 2 = 0 then e + 1 else x.entry0, entry1 := if c % 2 = 1 then e + 1 else x.entry1 } s.adc.diags } }
    s1.updConv c (fun y => { y with inject := some (e, x.level) })

/-! ## Binding (R325, R326) -/

/-- Whether an engine of the variant may hold inputs (R16, R325). -/
def State.mayHold (s : State) (e : Nat) (sdi : Bool) : Bool :=
  (decide (e < 24) && decide (e < s.slots)) || e == eCE || (!sdi && decide (24 ≤ e ∧ e ≤ 33))

/-- Whether an input is in use: named in an enabled gate of a running slot, or read by a running tension loop (R326). -/
def State.inInUse (s : State) (sdi : Bool) (k : Nat) : Bool :=
  (upto s.slots).any (fun n => (s.gateInputs n).contains (sdi, k) && s.getB (F.pwmSlotCtrl_RUN n)) || (!sdi && s.spanReads false k)

end Sys2Proof.Machine
end

