-- ==== Sys2Proof/Machine/Loops.lean ====
section
/-!
DEFINITION. The loop stages of the Ephagon images (spec/05_servo_loops.md): the current-stage update, the velocity and position
stages of a tick, notches, flags, steppers. Fractions are rounded to nearest, ties away from zero (R127).
-/
namespace Sys2Proof.Machine

/-! ## Flags (R194, R195) -/

/-- Sets a sticky flag of a stage: 0 current, 1 velocity, 2 position; STICKY_SET follows a first setting. -/
def loopFlag (a stage bitNo : Nat) (s : State) : State :=
  let x := s.axisL a
  let w := match stage with | 0 => x.flagsI | 1 => x.flagsV | _ => x.flagsP
  if w.testBit bitNo then s
  else
    let s1 := s.updAxisL a (fun y => match stage with
      | 0 => { y with flagsI := y.flagsI ||| 2 ^ bitNo }
      | 1 => { y with flagsV := y.flagsV ||| 2 ^ bitNo }
      | _ => { y with flagsP := y.flagsP ||| 2 ^ bitNo })
    s1.note 0x0202 (0x5000 + stage * 256 + a) (s.loopPlace a stage) [] 16 (2 ^ bitNo) 0
def loopFlagIf (a stage bitNo : Nat) (c : Bool) (s : State) : State := whenB c (loopFlag a stage bitNo) s

/-- The clears that LOOP_FLAGS_CLR left for the strobe. -/
def loopClears (a : Nat) (s : State) : State :=
  s.updAxisL a (fun x => { x with
    flagsI := x.flagsI &&& (0xFFFF ^^^ x.clrI), flagsV := x.flagsV &&& (0xFFFF ^^^ x.clrV), flagsP := x.flagsP &&& (0xFFFF ^^^ x.clrP)
    clrI := 0, clrV := 0, clrP := 0 })

/-! ## Arithmetic -/

/-- `x` times a gain word (Table 5.3). -/
def gainMul (w : W64) (x : Int) : Int :=
  let m : Int := bits w 31 0
  let e := clampI (-64) 63 (sbits w 39 32)
  if 31 ≤ e then x * m * 2 ^ (e - 31).toNat else rdiv (x * m) (2 ^ (31 - e).toNat)

/-- The nearest integer to the square root of `num / den`, with the sign of `neg`. -/
def rootOf (num den : Nat) (neg : Bool) : Int :=
  let r : Int := (isqrt (4 * num / den) + 1) / 2
  if neg then -r else r
/-- `x` over the square root of 3. -/
def overRoot3 (x : Int) : Int := rootOf (x.natAbs * x.natAbs) 3 (decide (x < 0))

/-- A rotation by an angle: (x cos + y sin, y cos - x sin). -/
def park (x y : Int) (theta : Nat) : Int × Int :=
  (rdiv (x * cosOf theta + y * sinOf theta) (2 ^ 30), rdiv (y * cosOf theta - x * sinOf theta) (2 ^ 30))

/-! ## Notches (R189 to R193) -/

/-- 0.4 times the tick rate in Q16.16 Hz. -/
def State.fTop (s : State) : Nat := (qdiv (4 * 1000000000 * 65536 : Nat) (10 * s.ftNs)).toNat

/-- Coefficients of a parametric notch at a centre frequency (R190), Q4.60; F0 is held within 10 Hz and 0.4 fs, and WIDTH within F0. -/
def notchCoef (s : State) (x : Notch) (want : Nat) : Notch :=
  let f0 := clampN (10 * 65536) s.fTop want
  -- t = tan(pi F0 / fs) in 2^-64; F0 in 2^-16 Hz, fs = 10^9 / FT
  let t : Int := tanPi (f0 * s.ftNs) (65536 * 1000000000)
  let one : Int := 2 ^ 64
  -- zeta_p = WIDTH * 2^16 / (2 F0); terms over the denominator 2 F0 * 2^128 * 2^128
  let d : Int := 2 * (f0 : Int)
  let zp : Int := clampN 1 (f0 / 65536) x.width * 65536
  let sq := (one * one + t * t) * d * 2 ^ 128
  let lp := 2 * zp * t * one * 2 ^ 128
  let lz := 2 * zp * t * one * attenuation x.depth
  let mid := (2 * t * t - 2 * one * one) * d * 2 ^ 128
  let q (v : Int) : Int := satI 64 (rdiv (v * 2 ^ 60) (sq + lp))
  { x with b0 := q (sq + lz), b1 := q mid, b2 := q (sq - lz), a1 := q mid, a2 := q (sq - lp), f0 := f0 }

/-- One tick of a biquad (R189): states at 64 bits, accumulation at 128; the new state, its output, and whether it saturated. -/
def notchRun (x : Notch) (i : Int) : Notch × Int × Bool :=
  if x.mode = 0 ∧ !x.raw then (x, i, false)
  else
    let x0 := satI 64 i
    let sum := x.b0 * x0 + x.b1 * x.x1 + x.b2 * x.x2 - x.a1 * x.y1 - x.a2 * x.y2
    let y := rdiv (satI 128 sum) (2 ^ 60)
    let y' := satI 64 y
    ({ x with x2 := x.x1, x1 := x0, y2 := x.y1, y1 := y' }, y', y != y' || x0 != i || satI 128 sum != sum)

/-- A pole pair held inside the unit circle (R191). -/
def clampPoles (a1 a2 : Int) : Int × Int :=
  let lim : Int := 2 ^ 60 - 2 ^ 40
  let a2' := clampI (-lim) lim a2
  let b := lim + a2'
  (clampI (-b) b a1, a2')

def State.notch (s : State) (a i : Nat) : Notch := Table.look {} (s.axisL a).notches i
def State.updNotch (s : State) (a i : Nat) (f : Notch → Notch) : State :=
  s.updAxisL a (fun x => { x with notches := Table.upd {} i f x.notches })

/-- A notch that is given a definition: its states are kept (R191). -/
def Notch.define (x d : Notch) : Notch := { d with x1 := x.x1, x2 := x.x2, y1 := x.y1, y2 := x.y2 }
/-- The engine takes the notch definitions that wait; one that tracks turns every other tracking notch parametric (R192). -/
def takeNotches (a : Nat) (s : State) : State :=
  let pend := (s.axisL a).notchPend
  let tracks := pend.any (fun e => e.2.mode == 2)
  let s1 := forEach pend (fun e t => t.updNotch a e.1 (fun x =>
    let y := x.define e.2
    if y.mode = 0 then y else notchCoef t y y.f0)) s
  let s2 := whenB tracks (forEach ((upto 4).filter (fun i => !pend.any (fun e => e.1 == i))) (fun i t => t.updNotch a i (fun x =>
    if x.mode = 2 then { x with mode := 1 } else x))) s1
  s2.updAxisL a (fun x => { x with notchPend := [] })

/-- Whether tracking runs for an axis (R193). -/
def State.tracks (s : State) (a : Nat) : Bool :=
  (match s.groupOf a with | some g => s.gst g == gMoving | none => false) && s.motionOk

/-- A tracking notch moves towards the resonance it measures in its band, else towards the prediction, else to the edge of the band at
which a resonance outside lies (R192). The resonance it measures, or that it measures none, is a free value. -/
def trackTick (a i : Nat) (s : State) : State :=
  let x := s.notch a i
  if x.mode ≠ 2 ∨ !s.tracks a then s
  else
    let (v, s1) := s.draw
    let pred := (s.web.windersPub.find? (fun e => e.2.on && e.2.axis == a && e.2.pred != 0)).map (fun e => e.2.pred)
    let heard : Option Nat := if v.getLsbD 63 then some (v.toNat % 2 ^ 32) else none
    let away : Bool := match heard with | some f => decide (f < x.fMin ∨ x.fMax < f) | none => false
    let goal : Option Nat := if away ∨ heard.isNone then (match pred with | some p => some p | none => heard) else heard
    match goal with
    | none => s1
    | some g =>
      let g' := clampN x.fMin x.fMax g
      let step := (qdiv (x.rate * s.ftNs : Nat) 1000000000).toNat
      let f := if x.f0 < g' then min g' (x.f0 + step) else max g' (x.f0 - step)
      let out := away && decide (f = x.fMin ∨ f = x.fMax)
      let s2 := s1.updNotch a i (fun y => { notchCoef s y f with edge := out })
      let s3 := loopFlagIf a 1 6 out s2
      whenB (out && !x.edge) (fun t => t.raise 0x0205 sevWarn (0x5100 + a)
        (if a < 24 then place a 6 i else s.loopPlace a 1) [(16, 1, i), (20, 4, f)]) s3

/-! ## Actual values -/

/-- The channel an axis reads for a stage (R354); none where it has none. -/
def LoopCfg.chan (c : LoopCfg) (stage : Nat) : Option Nat :=
  match c.channels.find? (fun e => e.1 == stage) with
  | some (_, n) => if n < 32 then some n else none
  | none => none
/-- Whether a stepper runs without its load angle: OPEN, or no commutation channel (R202). -/
def LoopCfg.blind (c : LoopCfg) : Bool := c.openLoop || (c.chan 0).isNone

/-- A local axis's actual position follows the strobe's snapshot of its position channel (R166, R187), and the difference of its speed
channel over the tick is formed (R183). -/
def actualTick (a : Nat) (s : State) : State :=
  let c := (s.axisL a).use
  let snap (stage : Nat) : Option W32 := (c.chan stage).map (fun n => s.reg (A.fbkFbSnapPos n))
  s.updAxisL a (fun x => { x with
    actual := match snap 2 with | some p => satI 64 (x.actual + cdiff p x.lastCnt * 65536) | none => x.actual
    lastCnt := (snap 2).getD x.lastCnt
    velDiff := match snap 1 with | some p => cdiff p x.velCnt | none => 0
    velCnt := (snap 1).getD x.velCnt })

/-- The engine takes up the configuration that VE holds (R38). Where the position or the speed channel is another one, its extension
starts from the count of the ending tick (notes/assumptions/117.md). -/
def takeCfg (a : Nat) (s : State) : State :=
  let x := s.axisL a
  let moved (stage : Nat) : Option W32 :=
    if x.use.chan stage = x.cfg.chan stage then none else (x.cfg.chan stage).map (fun n => s.reg (A.fbkFbSnapPos n))
  takeNotches a (s.updAxisL a (fun y => { y with
    use := y.cfg
    actual := match moved 2 with | some p => p.toInt * 65536 | none => y.actual
    lastCnt := (moved 2).getD y.lastCnt, velCnt := (moved 1).getD y.velCnt }))

/-- The speed a velocity stage uses, before its filter, and whether the position difference stood in (R183); `before` is the position that
a remote drive reported before. -/
def speedOf (s : State) (a : Nat) (before : Int) : Int × Bool :=
  let x := s.axisL a
  let rate (d : Int) : Int := qdiv (d * 2 ^ 24 * 1000000000) s.ftNs
  if a < 24 then
    match x.use.chan 1 with
    | none => (0, false)
    | some n =>
      let v := sx 64 (s.get64 (A.fbkFbSnapSpeedLo n))
      let sub := x.use.vsrc == 1 || s.getB (F.fbkFbStatus_DIRCHG n) || s.getB (F.fbkFbStatus_FIRST n) ||
        (v == 0 && x.velDiff != 0)
      if sub then (rate x.velDiff, x.use.vsrc != 1) else (v, false)
  else
    let diff := qdiv ((x.actual - before) * 256 * 1000000000) s.ftNs
    if x.use.vsrc = 1 ∨ (x.vAct = 0 ∧ x.actual ≠ before) then (diff, decide (x.use.vsrc ≠ 1)) else (x.vAct, false)

/-! ## Identification in the loops (R203 to R207)

A step of identification is a row of runs. Each is planned before it begins: its speed is lowered until it fits the travel, the soft
limits and the ceiling, and where no speed fits, identification aborts (R204). -/

/-- The speed that a run may have (Q40.24): the one asked for, VMAX and the ceiling (R145, R204). -/
def idSpeed (s : State) (a : Nat) (want : Nat) : Nat :=
  let top := min want (s.axis a).vmax
  match s.ceiling a with | some c => min top (c * 2 ^ 24) | none => top
/-- What is left for a run in a direction from a position (Q48.16). -/
def idRoom (s : State) (a : Nat) (fwd : Bool) (from' : Int) : Int :=
  let ax := s.axis a
  let x := (s.axisL a).ident
  let far : Int := (x.travel : Int) * 65536
  if fwd then min ax.softMax (x.start + far) - from' else from' - max ax.softMin (x.start - far)
/-- Durations and jerks of a run from rest to rest that holds a speed (Q40.24) for `hold` time units. -/
def idRamp (ax : AxisP) (v hold : Nat) : List (Nat × Int) :=
  let top := vOf24 v
  ramp 0 top (ax.amax * 2 ^ 16) ax.jmax ++ [(hold, 0)] ++ ramp top 0 (ax.amax * 2 ^ 16) ax.jmax
/-- The largest speed of such a run, at most `top`, that fits a room. -/
def idFit (ax : AxisP) (hold top : Nat) (room : Int) : Nat :=
  let fits (v : Int) : Bool := decide (travel 0 0 (idRamp ax v.toNat hold) ≤ sOf16 room)
  if fits top then top else (bisect fits 64 0 top).toNat
/-- Distance (Q48.16), speed (Q40.24) and acceleration (Q48.16) of planned phases at a time. -/
def runPoint (ps : List Phase) (x : Nat) : Int × Int × Int :=
  let p := (evalPhases ps x).getD (endState ps)
  (rdiv p.s (3 * 2 ^ 81 * 1953125), rdiv p.v (2 ^ 41 * 15625), rdiv p.a (2 ^ 16 * 125))

/-- The runs of a step of Table 5.8. -/
def idRuns (s : State) (a : Nat) : Nat :=
  match (s.axisL a).ident.state with
  | 2 => 1
  | 3 => if (s.axis a).noReverse then 4 else 8
  | 4 => 8
  | 5 => 1
  | 6 => if (s.axis a).noReverse then 0 else 1
  | _ => 0
def idSet (a : Nat) (run : IdRun) (v : Nat) (s : State) : State :=
  s.updAxisL a (fun x => { x with ident := { x.ident with run := run, vRun := v, el := 0, begun := x.ident.begun + 1 } })
/-- The next run of the step begins: constant speeds at 0.1, 0.25, 0.5 and 1.0 x ID_VMAX; current steps; the excitation of a step; the
way back to the start position. Where the axis may reverse, forward and backward runs alternate (R203 to R205). -/
def idBegin (a : Nat) (s : State) : State :=
  let ax := s.axis a
  let x := (s.axisL a).ident
  let fwd := ax.noReverse || x.begun % 2 == 0
  let go (v : Nat) (run : IdRun) : State := if v = 0 then abortIdent a 2 s else idSet a run v s
  if idRuns s a ≤ x.begun then s
  else match x.state with
    | 3 =>
      let share := [(1, 10), (1, 4), (1, 2), (1, 1)].getD (if ax.noReverse then x.begun else x.begun / 2) (1, 1)
      let hold := Config.idTime 3 * s.ftUnits / 125
      let v := idFit ax hold (idSpeed s a (qdiv (x.vmax * share.1 : Nat) share.2).toNat) (idRoom s a fwd ax.visPos)
      go v (.path (lay ⟨0, 0, 0⟩ (idRamp ax v hold)).1 ax.visPos fwd)
    | 4 =>
      let p := (s.axisL a).actual
      go (idFit ax 0 (idSpeed s a x.vmax) (idRoom s a fwd p)) (.push fwd p)
    | 6 =>
      let d := x.start - ax.visPos
      idSet a (.path (planPath ⟨0, 0, 0⟩ (sOf16 d.natAbs) 0 ⟨(vOf24 (idSpeed s a x.vmax)).toNat, ax.amax * 2 ^ 16, ax.amax * 2 ^ 16, ax.jmax⟩).1
        ax.visPos (decide (0 ≤ d))) 0 s
    | 5 =>
      if ax.noReverse then
        -- the chirp rides on a bias speed of half ID_VMAX
        let top := idSpeed s a (x.vmax / 2)
        let hold := Config.idTime 5 * s.ftUnits / 125
        let v := idFit ax hold top (idRoom s a true ax.visPos)
        go v (.path (lay ⟨0, 0, 0⟩ (idRamp ax v hold)).1 ax.visPos true)
      else idSet a .excite 0 s
    | _ => idSet a .excite 0 s

/-- The setpoint of an axis that identification moves. -/
def idPoint (a : Nat) (p v acc : Int) (s : State) : State :=
  s.updAxis a (fun x => { x with pos := p, vel := v, acc := acc, visPos := p, visVel := v, visAcc := acc, target := p })
def idRest (a : Nat) (s : State) : State := s.updAxisL a (fun x => { x with ident := { x.ident with run := .rest } })
/-- One tick of the present run. -/
def idRunTick (a : Nat) (s : State) : State :=
  let x := s.axisL a
  let id := x.ident
  let s1 := s.updAxisL a (fun y => { y with ident := { y.ident with el := y.ident.el + 1 } })
  match id.run with
  | .rest => idBegin a s
  | .path ps o fwd =>
    let t := (id.el + 1) * s.ftUnits
    let (d, v, acc) := runPoint ps t
    let s2 := if fwd then idPoint a (o + d) v acc s1 else idPoint a (o - d) (-v) (-acc) s1
    if totalN ps * 125 ≤ t then idRest a s2 else s2
  | .push _ o =>
    let ended := decide (id.vRun ≤ x.vAct.natAbs)
    if !ended ∧ id.el < Config.idTime 4 then idPoint a x.actual 0 0 s1
    else if !ended ∧ x.actual = o then abortIdent a 4 s
    else
      -- the axis comes to rest at AMAX before the next step
      let ax := s.axis a
      let ps := (lay ⟨0, vOf24 x.vAct.natAbs, 0⟩ (ramp (vOf24 x.vAct.natAbs) 0 (ax.amax * 2 ^ 16) ax.jmax)).1
      s1.updAxisL a (fun y => { y with ident := { y.ident with run := .path ps x.actual (decide (0 ≤ x.vAct)), el := 0 } })
  | .excite => idPoint a x.actual 0 0 s1
/-- The excitation of a tick: the travel is watched, the present run goes on, and the current that it puts in place of the velocity
stage's is answered (R203). The chirp's phase and the low-gain loop about it are free values. -/
def idCurrent (a : Nat) (s : State) : Option Int × State :=
  let x := s.axisL a
  if !idRunning x.ident ∨ x.ident.state = 1 then (none, s)
  else if (x.ident.travel : Int) * 65536 < (x.actual - x.ident.start).natAbs then (none, abortIdent a 2 s)
  else
    let t := idRunTick a s
    let id := (t.axisL a).ident
    if !idRunning id then (none, t)
    else match id.run, id.state with
      | .push fwd _, _ => (some (if fwd then id.imax else -(id.imax : Int)), t)
      | .excite, 5 | .path _ _ _, 5 =>
        let (ph, t1) := t.draw
        let (lo, t2) := t1.draw
        (some (clampI (-(id.imax : Int)) id.imax (rdiv (id.amplUsed * sinOf (ph.toNat % 2 ^ 32)) (2 ^ 30) + lo.toInt)), t2)
      | _, _ => (none, t)
/-- What ELECTRICAL puts in place of the frame and commands of the current stage: angle, d-axis current, d-axis voltage. A NO_REVERSE
axis is first pulled forward through one electrical turn at ID_IMAX (R205); the voltage steps and, elsewhere, their angle are free values. -/
def idDrive (n : Nat) (s : State) : Option (Nat × Int × Option Int) × State :=
  let x := (s.axisL n).ident
  if x.state ≠ 2 ∨ x.run ≠ .excite then (none, s)
  else
    let turn := Config.idTime 2
    if (s.axis n).noReverse ∧ x.el < turn then (some (x.el * 2 ^ 32 / turn, x.imax, none), s)
    else
      let (v, s1) := s.draw
      (some (if (s.axis n).noReverse then 0 else v.toNat % 2 ^ 32, x.imax, some (sx 32 (v.toNat / 2 ^ 32))), s1)

/-! ## Position and velocity stages (R165, R183 to R188) -/

/-- The inertia scale published for an axis (R185, R237). -/
def State.inertia (s : State) (a : Nat) : Nat :=
  match s.web.windersPub.find? (fun e => e.2.on && e.2.axis == a) with
  | some e => e.2.scale
  | none => 0x01000000

/-- The position stage: the position error, the speed command summed and limited, whether a limit acted (R186) and whether a value
saturated (R194). -/
def posStage (s : State) (a : Nat) : Int × Int × Bool × Bool :=
  let x := s.axisL a
  let ax := s.axis a
  let r := s.roll a
  let err := satI 64 (ax.visPos - x.actual)
  let dv := if r.on then rdiv (r.dvVis * ax.visVel) (2 ^ 30) else 0
  let sum := rdiv (x.use.vff * ax.visVel) (2 ^ 30) + gainMul x.use.kp (err * 256) + dv
  let v := satI 64 sum
  let top : Int := match s.ceiling a with
    | some c => min ax.vmax (c * 2 ^ 24)
    | none => ax.vmax
  let lim := clampI (if ax.noReverse then 0 else -top) top v
  (err, lim, lim != v, err != ax.visPos - x.actual || v != sum)

/-- A speed after the filter of time constant TF, from its value of the tick before (R184). -/
def speedFilter (s : State) (tf : Nat) (last v : Int) : Int :=
  if tf = 0 then v else v + rdiv ((last - v) * expNeg s.ftNs tf) (2 ^ 128)

/-- The current command of the velocity stage from the speed error (R165): the raw sum before the notches, the increment and the next
value of the integral term, and whether a value saturated. -/
def velStage (s : State) (a : Nat) (ev : Int) (sc : Nat) : Int × Int × Int × Bool :=
  let x := s.axisL a
  let c := x.use
  let e := satI 64 ev
  let scaled (i : Int) : Int := rdiv (i * sc) (2 ^ 24)
  let inc := if c.tn = 0 then 0 else scaled (rdiv (gainMul c.kv (e * 2 ^ 30) * s.ftNs) c.tn)
  let int := satI 64 (x.velInt + inc)
  let dI := if (s.roll a).on then (s.roll a).diVis else 0
  let sum := scaled (gainMul c.kv (e * 64)) + rdiv int (2 ^ 24) + scaled (gainMul c.kaff ((s.axis a).visAcc * 16384)) + dI
  (satI 64 sum, inc, int, e != ev || int != x.velInt + inc || satI 64 sum != sum)

/-- The largest current command of an axis: I_LIMIT, and ID_IMAX while identification runs (R186, R204). -/
def iTop (s : State) (a : Nat) : Int :=
  let x := s.axisL a
  let top : Int := if a < 24 then x.use.iLimit else 2 ^ 30
  if idRunning x.ident then min top x.ident.imax else top

/-- One tick of the position and velocity stages of a servo or remote axis; `before` is the actual position of the tick before.
Identification may put a current of its own in place of the command (R203). -/
def servoTick (a : Nat) (before : Int) (s0 : State) : State :=
  let (forced, s) := idCurrent a s0
  let x := s.axisL a
  let (err, vc, lim, satP) := posStage s a
  let (v0, sub) := speedOf s a before
  let vf := speedFilter s x.use.tf x.vFilt v0
  let pub := s.inertia a
  let sc := clampN x.use.scaleMin x.use.scaleMax pub
  let (raw, inc, int, satV) := velStage s a (vc - vf) sc
  let n0 := notchRun (s.notch a 0) raw
  let n1 := notchRun (s.notch a 1) n0.2.1
  let n2 := notchRun (s.notch a 2) n1.2.1
  let n3 := notchRun (s.notch a 3) n2.2.1
  let i := clampI (-(iTop s a)) (iTop s a) (forced.getD n3.2.1)
  let sat := forced.isNone && decide (i ≠ n3.2.1)
  let deep := sat && decide (0 < inc * n3.2.1)
  let s1 := s.updAxisL a (fun y => { y with
    pErr := err, vCmd := vc, vAct := v0, vFilt := vf, velInt := if deep then y.velInt else int, iNext := i, scale := sc, valNs := s.nowNs
    notches := Table.put {} 3 n3.1 (Table.put {} 2 n2.1 (Table.put {} 1 n1.1 (Table.put {} 0 n0.1 y.notches))) })
  let s2 := loopFlagIf a 2 0 lim (loopFlagIf a 1 4 sub (loopFlagIf a 1 5 (sc != pub) (loopFlagIf a 1 0 sat (loopFlagIf a 1 1 deep s1))))
  let s3 := loopFlagIf a 1 3 (n0.2.2 || n1.2.2 || n2.2.2 || n3.2.2) (loopFlagIf a 1 2 satV s2)
  loopFlagIf a 2 1 satP s3

/-- Following-error supervision (R187, R202). -/
def followTick (a : Nat) (s : State) : State :=
  let x := s.axisL a
  let err := satI 64 ((s.axis a).visPos - x.actual)
  let fe := x.use.feMax * 65536
  let blind := x.use.kind == 1 && x.use.blind
  if fe = 0 ∨ blind then s
  else
    let s1 := loopFlagIf a 2 2 (decide (fe < 2 * err.natAbs)) s
    if fe < err.natAbs then loopFault a 2 2 (wrapN 64 err) s1 else s1

/-- The target current of a stepper (R200, R202); with LF clear it is that of R202 (notes/assumptions/115.md). -/
def stepTarget (c : LoopCfg) (delta : Int) (rest : Bool) : Int :=
  let low := if rest then c.iHold else c.iMin
  if c.blind ∨ !c.lf then (if rest then c.iHold else c.iMax)
  else
    let d := delta.natAbs
    if d ≤ c.deltaLo then low
    else if c.deltaHi ≤ d then c.iMax
    else low + rdiv (((c.iMax : Int) - low) * (d - c.deltaLo : Nat)) (c.deltaHi - c.deltaLo : Nat)

/-- One tick of a stepper: the commanded current falls along its decay (R200), or is its target at once (R202). -/
def stepperTick (a : Nat) (s : State) : State :=
  let x := s.axisL a
  let t := stepTarget x.use x.loadAngle (decide ((s.axis a).visVel = 0))
  let i := if x.use.blind ∨ x.iStep ≤ t then t
    else t + rdiv ((x.iStep - t) * expNeg 1 (max 1 x.use.fallTicks)) (2 ^ 128)
  s.updAxisL a (fun y => { y with iStep := i, pErr := satI 64 ((s.axis a).visPos - x.actual), valNs := s.nowNs })

/-- One tick of an axis's position and velocity stages. -/
def loopTick (a : Nat) (s : State) : State :=
  let before := (s.axisL a).actual
  let s1 := if a < 24 then actualTick a s else s
  if !s1.loopsClosed a then s1
  else
    let s2 := forEach (upto 4) (fun i t => trackTick a i t) s1
    let s3 := if a < 24 ∧ (s.axisL a).use.kind = 1 then stepperTick a s2 else servoTick a before s2
    followTick a s3

/-! ## Current stage (R170 to R182, R198 to R202) -/

/-- The interval between two updates of a slot, ns times 2^32. -/
def State.updInterval (s : State) (n : Nat) : Nat := s.lockedPer n * euFx / (if s.getB (F.pwmSlotCfg_DBL n) then 2 else 1)

/-- The rotor or commanded angle of a position in Q48.16 counts (R171). -/
def angleOf (c : LoopCfg) (p : Int) : Nat :=
  wrapN 32 (qdiv ((if c.dirInv then -p else p) * c.polePairs * 2 ^ 16) c.countsRev + c.angleOfs)
/-- Electrical speed of a Q40.24 speed, Q32.32 per ns; DIR_INV does not enter it (R171). -/
def omegaOf (c : LoopCfg) (v : Int) : Int :=
  satI 64 (qdiv (v * c.polePairs * 2 ^ 40) ((c.countsRev : Int) * 1000000000))
/-- An angle `t` (2^-32 ns) later. -/
def angleAt (theta : Nat) (omega : Int) (t : Int) : Nat := wrapN 32 ((theta : Int) + rdiv (omega * t) (2 ^ 64))
/-- The local time in 2^-32 ns of the latest moment whose low 32 bits of ns are given. -/
def State.instantOf (s : State) (low : Nat) : Nat := (s.nowNs - (s.nowNs + 2 ^ 32 - low) % 2 ^ 32) * 2 ^ 32

/-- Steps 1 and 2 of an update (Table 5.4), at the sub-tick interrupt; the measured delay of the update before is judged (R174). -/
def updateBegin (n : Nat) (s : State) : State :=
  let x := s.axisL n
  let dly := s.get (F.pwmSlotDlyLast_DLY_LAST n)
  let upd := s.get (F.pwmSlotCounts_UPD n)
  let fresh := decide (upd ≠ x.updSeen)
  let dev := fresh && decide (4 * s.clk.incr < (dly * 2 ^ 24 - x.dPred) + (x.dPred - dly * 2 ^ 24))
  let long := fresh && decide (3800 * 256 < dly)
  let s1 := loopFlagIf n 0 6 dev (loopFlagIf n 0 7 long s)
  let s2 := whenB (long && !x.dlyLong) (fun t => t.raise 0x0206 sevWarn (0x5000 + n) (s.loopPlace n 0) [(16, 4, dly)]) s1
  let ch := x.use.chan 0
  let cnt := match ch with | some c => s.reg (A.fbkFbPos c) | none => 0
  let v := match ch with | some c => fbSpeed s c | none => 0
  let at' := match ch with | some c => s.instantOf (s.get (F.fbkFbPosTime_POS_TIME c)) | none => s.nowFx
  let com := x.comPos + cdiff cnt x.comCnt
  s2.updAxisL n (fun y => { y with
    updSeen := upd, dlyLong := if fresh then long else y.dlyLong
    dlyMin := if fresh then (if y.dlySeen then min y.dlyMin dly else dly) else y.dlyMin
    dlyMax := if fresh then (if y.dlySeen then max y.dlyMax dly else dly) else y.dlyMax
    dlySeen := y.dlySeen || fresh
    comPos := com, comCnt := cnt, thetaM := angleOf y.use (com * 65536), omegaE := omegaOf y.use v
    tRead := at', updating := true })

/-- A phase: its value in Q2.30, the reference instant, usable results, and whether a clipped or over-range one is among them; none when
it has no usable result (R178, R181). Period averages come from the segment that ends at t_end and, for a whole period of two updates,
the one before. -/
def phaseOf (s : State) (n : Nat) (avg : Bool) (sdi : Bool) (k : Nat) : Option (Int × Nat × Nat × Bool) :=
  if !s.inPresent sdi k then none
  else
    let x := s.ain sdi k
    let a := inSeg0 sdi k
    if avg then
      let two := s.getB (F.pwmSlotCfg_DBL n) && !(s.axisL n).use.window
      let c0 := bits (s.reg (a + 8)) 15 0
      let c1 := if two then bits (s.reg (a + 8)) 31 16 else 0
      let sum := (s.reg a).toInt + (if two then (s.reg (a + 4)).toInt else 0)
      let w := s.updInterval n * (if two then 2 else 1)
      if c0 + c1 = 0 ∨ x.published ≠ (s.slot n).tEnd then none
      else some (rdiv (sum * 32768) (c0 + c1 : Nat), (s.slot n).tEnd - w / 2, c0 + c1, x.clip0 || (two && x.clip1))
    else
      let tag := s.get (inTag sdi k)
      let v : Int := if sdi then sx 24 (s.get (F.adcSdiRes_VALUE k)) * 128 else sx 16 (s.get (F.adcAinRes_CODE k)) * 32768
      if (tag = 0 ∨ tag = 2) ∧ (s.slot n).tPrev < x.last then some (v, x.last, 1, x.lastClip) else none

/-- The bus voltage, Q2.30 of VBUS_FS (R176). -/
def vbusOf (s : State) (c : LoopCfg) : Int :=
  if c.vbusIn = 0xFF then c.vbusNom else sx 16 (s.get (F.adcAinRes_CODE c.vbusIn)) * 32768

/-- PI on one axis (R170 step 6): error in Q2.30, integral term in 2^-54; the output and the next integral term, held at 64 bits, and
whether it saturated. -/
def piStep (c : LoopCfg) (dt e int : Int) : Int × Int × Bool :=
  let inc := if c.ti = 0 then 0 else rdiv (c.kpI * e * dt) ((c.ti : Int) * 2 ^ 32)
  let int1 := satI 64 (int + inc)
  (rdiv (c.kpI * e) (2 ^ 24) + rdiv int1 (2 ^ 24), int1, int1 != int + inc)

/-- The voltage limit of R176: d first, q takes what remains. -/
def limitCircle (vd vq vmax : Int) : Int × Int :=
  let d := clampI (-vmax) vmax vd
  let q := rootOf (vmax * vmax - d * d).toNat 1 false
  (d, clampI (-q) q vq)

/-- A duty in Q2.30 of the period as the compares of a pair: written into the staging set. -/
def writeDuty (n p : Nat) (duty : Int) (s : State) : State :=
  let per := s.lockedPer n
  let w := (clampI 0 per (rdiv (duty * per) (2 ^ 30))).toNat
  let s1 := if s.getB (F.pwmSlotCfg_CARRIER n) then s.set (F.pwmSlotCmpa_CMPA n p) w
    else (s.set (F.pwmSlotCmpa_CMPA n p) ((per - w) / 2)).set (F.pwmSlotCmpb_CMPB n p) ((per - w) / 2 + w)
  s1.updSlot n (fun x => { x with staged := x.staged ||| 2 ^ (2 * p) ||| 2 ^ (2 * p + 1) })

/-- Steps 9 and 10 for a servo: space vectors with min-max injection (R170). -/
def writeServo (n : Nat) (va vb vbus : Int) (s : State) : State :=
  let half := rdiv va 2
  let h := rootOf (3 * vb.natAbs * vb.natAbs) 4 (decide (vb < 0))
  let a := va
  let b := h - half
  let c := -half - h
  let z := rdiv (max a (max b c) + min a (min b c)) 2
  let duty (v : Int) : Int := 2 ^ 29 + (if vbus = 0 then 0 else rdiv ((v - z) * 2 ^ 30) vbus)
  writeDuty n 2 (duty c) (writeDuty n 1 (duty b) (writeDuty n 0 (duty a) s))
/-- The same for a stepper: pairs 0 and 1 bridge coil A, pairs 2 and 3 coil B (R198). -/
def writeStepper (n : Nat) (va vb vbus : Int) (s : State) : State :=
  let duty (v : Int) : Int := 2 ^ 29 + (if vbus = 0 then 0 else rdiv (v * 2 ^ 29) vbus)
  writeDuty n 3 (duty (-vb)) (writeDuty n 2 (duty vb) (writeDuty n 1 (duty (-va)) (writeDuty n 0 (duty va) s)))

/-- A load angle: lost steps are counted and may fault the axis (R199, R201). -/
def lostStep (n : Nat) (delta : Int) (s : State) : State :=
  let x := s.axisL n
  let lost := x.lostArmed && decide (2 ^ 30 < delta.natAbs)
  let s1 := s.updAxisL n (fun y => { y with
    loadAngle := delta, lostArmed := if lost then false else y.lostArmed || decide (delta.natAbs < 2 ^ 29)
    lostSteps := if lost then satN 32 (y.lostSteps + 1) else y.lostSteps })
  if lost then
    let s2 := loopFlag n 0 8 (s1.raise 0x0203 sevWarn (0x5000 + n) (s.loopPlace n 0)
      [(16, 4, (s1.axisL n).lostSteps), (20, 4, wrapN 32 delta)])
    if x.use.stallFault then loopFault n 3 0 0 s2 else s2
  else s1

/-- The measured phase currents of an update (R170 step 3): held where a phase has no usable result; the reference instant, results per
phase, whether one was clipped and whether one is held (R181). -/
structure Phases where
  ia : Int
  ib : Int
  ic : Int
  tref : Nat
  numA : Nat
  numB : Nat
  clip : Bool
  miss : Bool
deriving DecidableEq, Repr

def measurePhases (n : Nat) (s : State) : Phases :=
  let x := s.axisL n
  let c := x.use
  let one (k : Nat) : Option (Int × Nat × Nat × Bool) := phaseOf s n (x.isenseAct == 1) c.sdi k
  let third := c.inC != 0xFF && c.kind != 1
  let pa := one c.inA
  let pb := one c.inB
  let pc := if third then one c.inC else none
  let val (p : Option (Int × Nat × Nat × Bool)) (d : Int) : Int := match p with | some v => v.1 | none => d
  let num (p : Option (Int × Nat × Nat × Bool)) : Nat := match p with | some v => v.2.2.1 | none => 0
  let clip (p : Option (Int × Nat × Nat × Bool)) : Bool := match p with | some v => v.2.2.2 | none => false
  let ia := val pa x.ia
  let ib := val pb x.ib
  { ia := ia, ib := ib, ic := if third then val pc x.ic else -ia - ib
    tref := match pa, pb with | some v, _ => v.2.1 | none, some v => v.2.1 | none, none => (s.slot n).tEnd
    numA := num pa, numB := num pb, clip := clip pa || clip pb || clip pc, miss := pa.isNone || pb.isNone || (third && pc.isNone) }

/-- The feed-forward terms of step 6 for d and q (R177). -/
def feedForward (x : AxisL) (id iq : Int) : Int × Int :=
  let f := x.omegaE * 1000000
  (if x.use.decouple then -rdiv (f * x.use.xq * iq) (2 ^ 88) else 0,
   (if x.use.decouple then rdiv (f * x.use.xd * id) (2 ^ 88) else 0) + (if x.use.bemf then rdiv (f * x.use.ke) (2 ^ 58) else 0))

/-- A stepper's load angle at the output instant, counted and answered by a rise of its current (R199 to R201). -/
def stepAngle (n : Nat) (delta : Int) (s : State) : State :=
  let c := (s.axisL n).use
  let s1 := if c.blind then s.updAxisL n (fun y => { y with loadAngle := delta }) else lostStep n delta s
  let t := stepTarget c delta (decide ((s.axis n).visVel = 0))
  s1.updAxisL n (fun y => { y with iStep := if c.blind then t else max y.iStep t })

/-- Steps 3 to 10 of an update (R170), at the input-ready interrupt. A COMMIT is made K_OUT less the two cycles of R307 later, so that
compares taken as computed take effect K_OUT after the timer was read. -/
def updateEnd (n : Nat) (s0 : State) : State :=
  let ax := s0.axis n
  let c := (s0.axisL n).use
  let step := c.kind == 1
  let made := s0.nowFx + 38 * s0.clk.incr
  let tOut := takesAt s0 n made
  -- the commanded angle of a stepper at the output instant
  let thc := angleOf c (ax.visPos + rdiv (ax.visVel * ((tOut : Int) - s0.clk.clk)) (256 * 1000000000 * 2 ^ 32))
  let thm (t : Int) : Nat := angleAt (s0.axisL n).thetaM (s0.axisL n).omegaE (t - (s0.axisL n).tRead)
  let sa := if step then stepAngle n (sx 32 (wrapN 32 ((thc : Int) - thm tOut))) s0 else s0
  let (drive, s) := idDrive n sa
  let x := s.axisL n
  let m := measurePhases n s
  let al0 := if step then m.ia else rdiv (2 * m.ia - m.ib - m.ic) 3
  let be0 := if step then m.ib else overRoot3 (m.ib - m.ic)
  let al := satI 32 al0
  let be := satI 32 be0
  let thRef := match drive with | some v => v.1 | none => if step then thc else thm m.tref
  let thOut := match drive with | some v => v.1 | none => if step then thc else thm tOut
  let (id0, iq0) := park al be thRef
  let id := satI 32 id0
  let iq := satI 32 iq0
  let dt : Int := s.updInterval n
  let dSet : Int := match drive with | some v => v.2.1 | none => if step then x.iStep else 0
  let qSet : Int := if step ∨ drive.isSome then 0 else x.iSet
  let (vd1, nd, fd) := piStep c dt (dSet - id) x.intD
  let (vq1, nq, fq) := piStep c dt (qSet - iq) x.intQ
  let (ffd, ffq) := if step then (0, 0) else feedForward x id iq
  let vbus := vbusOf s c
  let vmax := max 0 (overRoot3 (rdiv (c.modMax * vbus) (2 ^ 30)))
  -- a voltage step of identification takes the place of the PI
  let vd2 := match drive with | some (_, _, some v) => v | _ => satI 32 (vd1 + ffd)
  let vq2 := match drive with | some (_, _, some _) => 0 | _ => satI 32 (vq1 + ffq)
  let (vd, vq) := limitCircle vd2 vq2 vmax
  let holdD := decide (vd ≠ vd2) && decide (0 < (nd - x.intD) * vd2)
  let holdQ := decide (vq ≠ vq2) && decide (0 < (nq - x.intQ) * vq2)
  let va := rdiv (vd * cosOf thOut - vq * sinOf thOut) (2 ^ 30)
  let vb := rdiv (vd * sinOf thOut + vq * cosOf thOut) (2 ^ 30)
  let ovr := decide ((c.iTrip * c.iTrip : Nat) < id * id + iq * iq)
  let sat := decide (al ≠ al0 ∨ be ≠ be0 ∨ id ≠ id0 ∨ iq ≠ iq0 ∨ satI 32 (vd1 + ffd) ≠ vd1 + ffd ∨ satI 32 (vq1 + ffq) ≠ vq1 + ffq) || fd || fq
  let s1 := s.updAxisL n (fun y => { y with
    ia := m.ia, ib := m.ib, ic := m.ic, id := id, iq := iq, vd := vd, vq := vq, theta := thOut
    intD := if holdD then y.intD else nd, intQ := if holdQ then y.intQ else nq
    samplesA := m.numA, samplesB := m.numB, dPred := tOut - (s.slot n).tEnd, updating := false
    held := if m.miss then satN 32 (y.held + 1) else y.held, heldRun := if m.miss then y.heldRun + 1 else 0
    ocRun := if ovr then y.ocRun + 1 else 0, valNs := s.nowNs })
  let s2 := loopFlagIf n 0 0 (decide (vd ≠ vd2 ∨ vq ≠ vq2)) (loopFlagIf n 0 1 (holdD || holdQ) (loopFlagIf n 0 4 m.miss
    (loopFlagIf n 0 3 m.clip (loopFlagIf n 0 2 sat s1))))
  let s3 := if step then loopFlagIf n 0 9 (decide (0 < c.iMax ∧ (c.iMax : Int) ≤ x.iStep)) (writeStepper n va vb vbus s2)
    else writeServo n va vb vbus s2
  let s4 := pwmCommitAt n made s3
  if 2 ≤ (s4.axisL n).ocRun then loopFault n 0 0 (rootOf (id * id + iq * iq).toNat 1 false).toNat s4
  else if 4 ≤ (s4.axisL n).heldRun then loopFault n 1 0 (wrapN 32 iq) s4
  else s4

/-! ## Current sensing mode (R178 to R180) -/

/-- Cycles between the starts of a converter's sequences, as its configuration sets them (R328 to R330): back to back under MODE 2; at
every trigger of the timer or of a PWM event that finds the one before done; none where software starts them. -/
def seqEvery (s : State) (c : Nat) : Option Nat :=
  let l := s.lead c
  let len := (s.acq c + 25) * (s.lenOf c + 1)
  let spaced (every delay : Nat) : Option Nat := if every = 0 then none else some ((delay + len + every - 1) / every * every)
  if s.convMode c = 2 then some len
  else if s.convMode c ≠ 1 then none
  else match s.get (F.adcConvTrig_SRC l) with
    | 1 => spaced (s.get (F.adcConvTimer_PERIOD l)) 0
    | 2 => spaced (s.periodOf (s.get (F.adcConvTrig_EVENT l) / 8) / 32) (s.get (F.adcConvTrig_DELAY l))
    | _ => none
/-- Results per phase in one window that the configuration of an input gives (R179). -/
def resultsPer (s : State) (n : Nat) (sdi : Bool) (k : Nat) : Nat :=
  let two := s.getB (F.pwmSlotCfg_DBL n) && !(s.axisL n).use.window
  let w := s.updInterval n * (if two then 2 else 1) / (5 * 2 ^ 31)
  if sdi then
    if s.getB (F.adcSdiCfg_EN k) then w / (16 * 2 ^ s.get (F.adcSdiCfg_OSR k) * s.sdiBit k) else 0
  else
    let per (c : Nat) : Nat :=
      match seqEvery s c with
      | some every => w * countIf (fun e => s.entryIn c e == k) (s.entries c) / every
      | none => 0
    per (k / 6 * 2) + per (k / 6 * 2 + 1)

/-- The gate that the Ephagon image keeps for the current inputs of a slot (R170, R343): enabled where it has one, in the mode in use. -/
def gateWord (c : LoopCfg) (avg : Bool) : Nat :=
  let ks := [c.inA, c.inB, if c.kind = 1 then 0xFF else c.inC]
  if !c.isenseDone ∨ ks.all (· == 0xFF) then 0x00FFFFFF
  else 2 ^ 31 + (if c.sdi then 2 ^ 30 else 0) + (if avg then 2 ^ 29 else 0) + ks.getD 2 0xFF * 65536 + ks.getD 1 0xFF * 256 + ks.getD 0 0xFF
/-- The image writes ADC.GATEn where the word it keeps there has changed. -/
def gateWrite (n : Nat) (s : State) : State :=
  let x := s.axisL n
  let w := gateWord x.use (x.isenseAct == 1)
  if w = x.gate then s else (s.setReg (A.adcGate n) (BitVec.ofNat 32 w)).updAxisL n (fun y => { y with gate := w })
/-- Period-average sensing falls back below 4 results per phase and returns (R180). -/
def isenseCheck (n : Nat) (s : State) : State :=
  let x := s.axisL n
  let c := x.use
  if !c.isenseDone ∨ !c.avg then s.updAxisL n (fun y => { y with isenseAct := 0, fallback := false })
  else
    let ks := c.curInputs.filter (· != 0xFF)
    let r := ks.foldl (fun m k => min m (resultsPer s n c.sdi k)) 0xFFFFFF
    let fall := decide (r < 4)
    let s1 := s.updAxisL n (fun y => { y with isenseAct := if fall then 0 else 1, fallback := fall })
    let s2 := loopFlagIf n 0 5 fall s1
    whenB (fall != x.fallback) (fun t => t.raise 0x0204 sevWarn (0x5000 + n) (s.loopPlace n 0)
      [(16, 1, if fall then 0 else 1), (17, 1, min 255 r)]) s2
/-- The sensing mode of every local axis follows its configuration and that of its inputs, and its gate with it; `runs` says which
engines do so. -/
def isenseCheckAll (runs : Nat → Bool) (s : State) : State :=
  forEach ((s.loop.axes.filter (fun e => decide (e.1 < 24) && runs e.1)).map (·.1)) (fun n t => gateWrite n (isenseCheck n t)) s

/-! ## Closing the loops (R168) -/

/-- The loops of an axis close: integrators and states 0, the actual position becomes the setpoint. -/
def closeLoops (a : Nat) (s : State) : State :=
  let s1 := s.updAxisL a (fun x => { x with
    closed := true, curRun := false, velInt := 0, intD := 0, intQ := 0, vFilt := 0, vd := 0, vq := 0, iSet := 0, iNext := 0, ocRun := 0, heldRun := 0
    notches := x.notches.map (fun e => (e.1, { e.2 with x1 := 0, x2 := 0, y1 := 0, y2 := 0 })) })
  let p := s.actual a
  s1.updAxis a (fun x => { x with pos := p, vel := 0, acc := 0, visPos := p, visVel := 0, visAcc := 0, target := p })

end Sys2Proof.Machine
end

