-- ==== Sys2Proof/Machine/LoopDesc.lean ====
section
/-!
DEFINITION. The loop descriptors and identification (spec/05_servo_loops.md R203 to R212).
-/
namespace Sys2Proof.Machine

/-- Bytes of (width, value) fields laid end to end. -/
def rep : List (Nat × Nat) → List Byte
  | [] => []
  | (n, v) :: r => leBytes n v ++ rep r
/-- A signed field. -/
def repI (n : Nat) (v : Int) : Nat × Nat := (n, wrapN (8 * n) v)

/-- A gain word with EXP held within -64 to +63 and its reserved bits 0 (Table 5.3). -/
def cGain (w : W64) : Clamped W64 :=
  let e := sbits w 39 32
  let e' := clampI (-64) 63 e
  ⟨BitVec.ofNat 64 (wrapN 8 e' * 2 ^ 32 + bits w 31 0), decide (e ≠ e' ∨ bits w 63 40 ≠ 0)⟩
/-- A signed field of a number of bits held within bounds that are not negative: the nearer bound (R5, R6, R77). -/
def cS (w lo hi v : Nat) : Clamped Nat :=
  let c := cI lo hi (sx w v)
  ⟨c.val.toNat, c.hit⟩

/-- The gain word of a positive rational, MANT normalised (Table 5.3). -/
def gainWord (num den : Nat) : W64 :=
  if num = 0 ∨ den = 0 then 0
  else
    -- e = floor(log2(num/den)), found by size and one correction
    let e0 : Int := (Nat.log2 num : Int) - Nat.log2 den
    let ge (e : Int) : Bool := if 0 ≤ e then decide (den * 2 ^ e.toNat ≤ num) else decide (den ≤ num * 2 ^ (-e).toNat)
    let e := if ge e0 then e0 else e0 - 1
    let sh := 31 - e
    let m := if 0 ≤ sh then (rdiv (num * 2 ^ sh.toNat : Nat) den).toNat else (rdiv num (den * 2 ^ (-sh).toNat : Nat)).toNat
    let (m, e) := if 2 ^ 32 ≤ m then (2 ^ 31, e + 1) else (m, e)
    let e' := clampI (-64) 63 e
    BitVec.ofNat 64 (wrapN 8 e' * 2 ^ 32 + m)
/-- A gain word as a rational over 2^95. -/
def gainNum (w : W64) : Nat := bits w 31 0 * 2 ^ (clampI (-64) 63 (sbits w 39 32) + 64).toNat

/-! ## Preconditions (Table 5.19) -/

def State.axisPresent (s : State) (a : Nat) : Bool :=
  if a < 24 then decide (a < s.slots)
  else s.net.nodes.any (fun e => match e.2.cfg with | some c => decide (c.base ≤ a ∧ a < c.base + c.count) | none => false)
/-- Whether an axis is unbound or in a group that is IDLE (R210, R217). -/
def State.axisIdle (s : State) (a : Nat) : Bool :=
  match s.groupOf a with | some g => s.gst g == gIdle | none => true
/-- Whether a named feedback channel or input is absent, and whether it is not bound to the axis's engine. -/
def chanAbsent (n : Nat) : Bool := decide (32 ≤ n ∧ n ≠ 0xFF)
def State.chanForeign (s : State) (a n : Nat) : Bool := decide (n < 32 ∧ s.heldBy 2 n ≠ a)
def State.inAbsent (s : State) (sdi : Bool) (k : Nat) : Bool := k != 0xFF && !s.inPresent sdi k
def State.inForeign (s : State) (a : Nat) (sdi : Bool) (k : Nat) : Bool :=
  k != 0xFF && s.inPresent sdi k && s.heldBy (if sdi then 1 else 0) k != a

/-- The first reason of a list that applies. -/
def firstReason : List (Bool × Nat) → Nat
  | [] => 0
  | (c, r) :: t => if c then r else firstReason t

/-- Applies a change unless a reason stands against it; the completion reports the clamps either way, since a descriptor without effect is
applied too (Table 2.7; notes/assumptions/15.md). -/
def applyIf (reasons : List (Bool × Nat)) (s : State) (clamps : Nat) (f : State → State) : State × Reply :=
  match firstReason reasons with
  | 0 => (f s, { clamps := clamps })
  | r => (s, why r 0 clamps)

/-- VE's copy of an axis's configuration; the engine takes it at the strobe (R38). -/
def updCfg (a : Nat) (f : LoopCfg → LoopCfg) (s : State) : State := s.updAxisL a (fun x => { x with cfg := f x.cfg })

/-! ## Descriptors (Tables 5.10 to 5.17) -/

def opMotor (d : Desc) (s : State) : State × Reply :=
  let a := d.f 1 7 0
  let ifs := cN 1 65535 (d.f 1 63 48)
  let pp := cN 1 255 (d.f 1 23 16)
  let kind := cE 1 0 (d.f 1 9 8)
  let ch := d.f 1 39 32
  let rev := cN 1 (2 ^ 31) (d.f 2 31 0)
  let lim := cS 32 0 (2 ^ 30) (d.f 3 31 0)
  let trip := cS 32 lim.val (2 ^ 30) (d.f 3 63 32)
  let fs := cN 1 65535 (d.f 4 55 40)
  let vin := d.f 4 39 32
  let mm := cS 32 (2 ^ 29) (2 ^ 30) (d.f 4 31 0)
  let nom := cS 32 0x04000000 (2 ^ 30) (d.f 5 31 0)
  applyIf [(!s.axisPresent a, 1), (decide (24 ≤ a), 3), (chanAbsent ch || s.inAbsent false vin, 1), (!s.axisIdle a, 2),
      (s.chanForeign a ch || s.inForeign a false vin, 4), (ch == 0xFF && kind.val == 0, 8)] s
    (clampMask [(1, ifs.hit), (1, pp.hit), (1, kind.hit), (2, rev.hit), (3, lim.hit), (3, trip.hit), (4, fs.hit), (4, mm.hit), (5, nom.hit)])
    (updCfg a (fun c => { c with
      ifs := ifs.val, dirInv := d.fb 1 40, fbCh := ch, polePairs := pp.val, kind := kind.val, angleOfs := d.f 2 63 32
      countsRev := rev.val, iLimit := lim.val, iTrip := trip.val, vbusFs := fs.val, vbusIn := vin, modMax := mm.val
      vbusNom := nom.val, motorDone := true }))

/-- ISENSE: IN_A and IN_B name an input, IN_C may be 0xFF, and a stepper ignores it (R198, Table 5.11). -/
def opIsense (d : Desc) (s : State) : State × Reply :=
  let a := d.f 1 7 0
  let sdi := d.fb 1 17
  let ks := [d.f 1 31 24, d.f 1 39 32] ++ (if (s.axisL a).cfg.kind = 1 ∨ d.f 1 47 40 = 0xFF then [] else [d.f 1 47 40])
  applyIf [(!s.axisPresent a, 1), (decide (24 ≤ a), 3), (ks.any (fun k => !s.inPresent sdi k), 1), (!s.axisIdle a, 2),
      (ks.any (s.inForeign a sdi), 4)] s 0
    (updCfg a (fun c => { c with
      inA := d.f 1 31 24, inB := d.f 1 39 32, inC := d.f 1 47 40, window := d.fb 1 18, sdi := sdi, avg := d.fb 1 16, isenseDone := true }))

def opCurrentLoop (d : Desc) (s : State) : State × Reply :=
  let a := d.f 1 7 0
  let ti := cN0 1000 (2 ^ 32 - 1) (d.f 2 63 32)
  applyIf [(!s.axisPresent a, 1), (decide (24 ≤ a), 3)] s (clampMask [(2, ti.hit)])
    (updCfg a (fun c => { c with
      bemf := d.fb 1 9, decouple := d.fb 1 8, ti := ti.val, kpI := d.f 2 31 0, xq := d.f 3 63 32, xd := d.f 3 31 0, ke := d.f 4 31 0 }))

def opVelocityLoop (d : Desc) (s : State) : State × Reply :=
  let a := d.f 1 7 0
  let vs := cE 1 0 (d.f 1 9 8)
  let ch := d.f 1 23 16
  let kv := cGain (d.w 2)
  let ka := cGain (d.w 4)
  let lo := cN (2 ^ 18) (2 ^ 24) (d.f 5 31 0)
  let hi := cN lo.val (2 ^ 30) (d.f 5 63 32)
  applyIf [(!s.axisPresent a, 1), (decide (a < 24) && chanAbsent ch, 1), (decide (a < 24) && s.chanForeign a ch, 4)] s
    (clampMask [(1, vs.hit), (2, kv.hit), (4, ka.hit), (5, lo.hit), (5, hi.hit)])
    (updCfg a (fun c => { c with
      velFb := ch, vsrc := vs.val, kv := kv.val, tf := d.f 3 63 32, tn := d.f 3 31 0, kaff := ka.val, scaleMax := hi.val, scaleMin := lo.val }))

def opPositionLoop (d : Desc) (s : State) : State × Reply :=
  let a := d.f 1 7 0
  let ch := d.f 1 15 8
  let kp := cGain (d.w 2)
  let vff := cS 32 0 (2 ^ 30) (d.f 3 63 32)
  applyIf [(!s.axisPresent a, 1), (decide (a < 24) && chanAbsent ch, 1), (decide (a < 24) && s.chanForeign a ch, 4)] s
    (clampMask [(2, kp.hit), (3, vff.hit)])
    (updCfg a (fun c => { c with posFb := ch, kp := kp.val, vff := vff.val, feMax := d.f 3 31 0 }))

/-- A definition of a notch waits for the engine's strobe (R38); of two that wait and track, the earlier becomes parametric (R192). -/
def defineNotch (a i : Nat) (n : Notch) (s : State) : State :=
  s.updAxisL a (fun x => { x with notchPend :=
    (x.notchPend.filter (fun e => e.1 != i)).map (fun e => if n.mode = 2 ∧ e.2.mode = 2 then (e.1, { e.2 with mode := 1 }) else e) ++ [(i, n)] })

/-- NOTCH: the fields clamp in payload order; F0 of a tracking notch once more into its band (Table 5.15). -/
def opNotch (d : Desc) (s : State) : State × Reply :=
  let a := d.f 1 7 0
  let mode := cE 2 0 (d.f 1 13 12)
  let depth := cS 16 0 (60 * 256) (d.f 2 63 48)
  let f0 := cS 32 (10 * 65536) s.fTop (d.f 2 31 0)
  let width := cN 1 (f0.val / 65536) (d.f 2 47 32)
  let lo := cS 32 (10 * 65536) s.fTop (d.f 3 31 0)
  let hi := cS 32 lo.val s.fTop (d.f 3 63 32)
  let f0' := if mode.val = 2 then cN lo.val hi.val f0.val else ⟨f0.val, false⟩
  let rate := cS 32 1 (2 ^ 31 - 1) (d.f 4 31 0)
  applyIf [(!s.axisPresent a, 1)] s
    (clampMask [(1, mode.hit), (2, depth.hit || f0.hit || f0'.hit || width.hit), (3, lo.hit || hi.hit), (4, rate.hit)])
    (defineNotch a (d.f 1 9 8)
      (if mode.val = 0 then { lock := d.fb 1 11 }
       else { mode := mode.val, lock := d.fb 1 11, depth := depth.val, width := width.val, f0 := f0'.val, fMin := lo.val, fMax := hi.val, rate := rate.val }))

def opNotchRaw (d : Desc) (s : State) : State × Reply :=
  let a := d.f 1 7 0
  let (a1, a2) := clampPoles (d.i 5) (d.i 6)
  applyIf [(!s.axisPresent a, 1)] s (clampMask [(5, a1 != d.i 5), (6, a2 != d.i 6)])
    (defineNotch a (d.f 1 9 8) { raw := true, lock := d.fb 1 11, b0 := d.i 2, b1 := d.i 3, b2 := d.i 4, a1 := a1, a2 := a2 })

def opStepper (d : Desc) (s : State) : State × Reply :=
  let a := d.f 1 7 0
  let c := (s.axisL a).cfg
  let lo := cS 32 0 c.iLimit (d.f 2 31 0)
  let hi := cS 32 lo.val c.iLimit (d.f 2 63 32)
  let dl := cN 0 (2 ^ 30 - 1) (d.f 3 31 0)
  let dh := cN (dl.val + 1) (2 ^ 30) (d.f 3 63 32)
  let fall := cN 1 65535 (d.f 4 47 32)
  let hold := cS 32 0 hi.val (d.f 4 31 0)
  applyIf [(!s.axisPresent a, 1), (decide (24 ≤ a), 3), (!s.axisIdle a, 2), (c.kind != 1, 8)] s
    (clampMask [(2, lo.hit), (2, hi.hit), (3, dl.hit), (3, dh.hit), (4, fall.hit), (4, hold.hit)])
    (updCfg a (fun c => { c with
      openLoop := d.fb 1 10, stallFault := d.fb 1 9, lf := d.fb 1 8, iMax := hi.val, iMin := lo.val, deltaHi := dh.val, deltaLo := dl.val
      fallTicks := fall.val, iHold := hold.val }))

def opLoopFlagsClr (d : Desc) (s : State) : State × Reply :=
  let a := d.f 1 7 0
  applyIf [(!s.axisPresent a, 1)] s 0 (fun t => t.updAxisL a (fun x => { x with
    clrI := x.clrI ||| d.f 2 15 0, clrV := x.clrV ||| d.f 2 31 16, clrP := x.clrP ||| d.f 2 47 32 }))

/-! ## Identification (R203 to R209) -/

/-- Whether the tension loops of the line are active (R230). -/
def State.tensionActive (s : State) : Bool := s.web.tensionOn && s.web.spans.any (fun e => e.2.on && e.2.source != 0)
/-- Whether an axis carries a span. -/
def State.carriesSpan (s : State) (a : Nat) : Bool := s.web.spans.any (fun e => e.2.on && (e.2.up == a || e.2.dn == a))
/-- Whether identification runs on a group. -/
def State.idOn (s : State) (g : Nat) : Bool := (s.members g).any (fun e => idRunning (s.axisL e.2).ident)

/-- Identification goes to a state of Table 5.8. -/
def idGo (a st : Nat) (s : State) : State :=
  let was := (s.axisL a).ident.state
  let s1 := s.updAxisL a (fun x => { x with ident := { x.ident with state := st, begun := 0, run := .rest, el := 0, time := if 7 ≤ st then s.nowNs else x.ident.time } })
  let s2 := s1.raise 0x0207 sevInfo (0x5200 + a) (s.loopPlace a 2) [(16, 1, st), (17, 1, was)]
  let y := (s1.axisL a).ident
  if st = 7 then s2.raise 0x0208 sevInfo (0x5200 + a) (s.loopPlace a 2) [(16, 1, 7), (17, 1, 0xFF), (18, 1, y.valid)] else s2

def opIdentify (d : Desc) (s : State) : State × Reply :=
  let a := d.f 1 7 0
  let ax := s.axis a
  let g := s.groupOf a
  let steps := d.f 1 11 8
  let travel := cN 1 (2 ^ 64 - 1) (d.n 2)
  let vm := cS 64 0 ax.vmax (d.n 3)
  let top := if a < 24 then (s.axisL a).cfg.iLimit else 2 ^ 30
  let im := cS 32 0 top (d.f 4 31 0)
  let am := cS 32 0 im.val (d.f 4 63 32)
  applyIf [(!s.axisPresent a, 1), (s.mode != mCommission, 5), (match g with | some g => s.gst g != gEnabled | none => true, 2),
      (steps == 0, 9), (decide (24 ≤ a) && steps.testBit 0, 3), (decide (a < 24) && (s.axisL a).cfg.kind == 1, 8), (match g with | some g => s.idOn g | none => false, 6),
      (s.carriesSpan a && s.tensionActive, 7)] s
    (clampMask [(2, travel.hit), (3, vm.hit), (4, im.hit), (4, am.hit)])
    (fun t => idGo a 1 (t.updAxisL a (fun x => { x with ident :=
      { state := x.ident.state, start := ax.visPos, steps := steps, place := d.fb 1 12, travel := travel.val, vmax := vm.val, ampl := am.val, imax := im.val, amplUsed := am.val } })))

def opIdentifyAbort (d : Desc) (s : State) : State × Reply :=
  let a := d.f 1 7 0
  applyIf [(!s.axisPresent a, 1), (!idRunning (s.axisL a).ident, 6)] s 0 (abortIdent a 0)

/-- The state after one of Table 5.8, by the steps chosen. -/
def idNext (steps st : Nat) : Nat :=
  if st < 2 ∧ steps.testBit 0 then 2
  else if st < 3 ∧ steps.testBit 1 then 3
  else if st < 4 ∧ steps.testBit 2 then 4
  else if st < 5 ∧ steps.testBit 3 then 5
  else if st < 6 then 6 else 7

/-- pi in 2^-64. -/
def piQ64 : Nat := 0x3243F6A8885A308D3

/-- The placements of R209: resonances with the notch each takes. A LOCK-ed tracking notch stays as it is (Table 5.15). -/
def idPlace (s : State) (a : Nat) (rs : List Resonance) : List Resonance :=
  let tr := (upto 4).find? (fun i => (s.notch a i).mode == 2 && !(s.notch a i).lock)
  let dist (i : Nat) (r : Resonance) : Nat := (r.f - (s.notch a i).f0) + ((s.notch a i).f0 - r.f)
  let best : Option Resonance := match tr with
    | none => none
    | some i => (rs.filter (fun r => decide ((s.notch a i).fMin ≤ r.f ∧ r.f ≤ (s.notch a i).fMax))).foldl
        (fun acc r => match acc with | none => some r | some b => if dist i r < dist i b then some r else some b) none
  let free := (upto 4).filter (fun i => !(s.notch a i).lock && (s.notch a i).mode != 2)
  let rest := sortBy (fun x y => decide (x.f ≤ y.f)) (rs.filter (fun r => some r != best))
  let put := (rest.zip (free.map some ++ List.replicate 4 none)).map (fun e => { e.1 with placed := e.2.getD 0xFF })
  match best, tr with
  | some b, some i => { b with placed := i } :: put
  | _, _ => put

/-- PROPOSE: the values of R208 and, with PLACE, the notches of R209. -/
def idPropose (a : Nat) (s : State) : State :=
  let x := (s.axisL a).ident
  let rs := if x.place then idPlace s a x.res else x.res.map (fun r => { r with placed := 0xFF })
  let fs : Nat := (qdiv (1000000000 * 65536 : Nat) s.ftNs).toNat
  let bare := (rs.filter (fun r => r.placed == 0xFF)).map (·.f)
  let low := bare.foldl min (fs / 4)
  let low' := if bare.isEmpty then fs / 4 else low
  let fV := min (fs / 16) (low' / 4)
  let upd := if a < 24 then s.updInterval a else s.ftNs * 2 ^ 32
  let kpI := (rdiv (x.xq * 1000000 * 2 ^ 32 : Nat) (12 * upd)).toNat
  let ti := if x.rs = 0 then 0 else (rdiv (x.xq * 1000000 * 2 ^ 64 : Nat) (2 * piQ64 * x.rs)).toNat
  let tn := if fV = 0 then 0 else (rdiv (4 * 1000000000 * 65536 * 2 ^ 64 : Nat) (2 * piQ64 * fV)).toNat
  let s1 := s.updAxisL a (fun y => { y with ident := { y.ident with
    res := sortBy (fun p q => decide (q.peak ≤ p.peak)) rs, kpI := satN 32 kpI, ti := satN 32 ti, tn := satN 32 tn
    kv := gainWord (2 * piQ64 * fV * gainNum x.ji) (2 ^ 175), kp := gainWord (2 * piQ64 * fV) (2 ^ 82) } })
  if x.place then forEach rs (fun r t => if r.placed = 0xFF then t
    else t.updNotch a r.placed (fun n => if n.mode = 2 then notchCoef t n r.f
      else notchCoef t { n with mode := 1, raw := false, depth := min (60 * 256) r.peak
                                width := max 1 (rdiv (2 * r.damp * r.f : Nat) (2 ^ 46)).toNat } r.f)) s1
  else s1

/-- The least-squares fit of i = COULOMB x sign(v) + B x v to runs of (speed Q40.24, current Q2.30): COULOMB in Q2.30 and B as a ratio of
IFS per count/s (R203). -/
def fitFriction (runs : List (Int × Int)) : Int × (Int × Int) :=
  let sum (f : Int → Int → Int) : Int := (runs.map (fun e => f e.1 e.2)).sum
  let n : Int := runs.length
  let v1 := sum (fun v _ => v.natAbs)
  let v2 := sum (fun v _ => v * v)
  let i1 := sum (fun v i => (if v < 0 then -1 else 1) * i)
  let iv := sum (fun v i => v * i)
  let det := n * v2 - v1 * v1
  (rdiv (i1 * v2 - iv * v1) det, ((n * iv - v1 * i1), det * 64))
/-- The least-squares fit of i = JI x a to steps of (acceleration Q48.16, current Q2.30), as a ratio of IFS per count/s^2. -/
def fitInertia (steps : List (Int × Int)) : Int × Int :=
  ((steps.map (fun e => e.1 * e.2)).sum, (steps.map (fun e => e.1 * e.1)).sum * 2 ^ 14)
/-- The gain word of a ratio; one that is not positive is 0. -/
def gainOf (r : Int × Int) : W64 := if r.1 * r.2 ≤ 0 then 0 else gainWord r.1.natAbs r.2.natAbs
/-- The height in Q8.8 dB of a response over the rigid-body line 1/(2 pi f JI): response in Q40.24 counts/s per IFS, frequency in Q16.16 Hz
(R209). -/
def peakHeight (ji : W64) (f mag : Nat) : Nat :=
  -- the ratio is num / den; h holds while 10^(h/20) <= num / den
  let num := mag * 2 * piQ64 * f * gainNum ji
  let den := 2 ^ 24 * 2 ^ 64 * 2 ^ 16 * 2 ^ 95
  (bisect (fun h => decide (den * 2 ^ 128 ≤ num * attenuation h.toNat)) 16 0 65536).toNat

/-- Whether the runs of the present step are done, or the step has none that end. -/
def idReady (s : State) (a : Nat) : Bool :=
  let x := (s.axisL a).ident
  x.run == .excite || (x.run == .rest && decide (idRuns s a ≤ x.begun))
/-- The peaks of the response that count as resonances, the highest four first (R209). -/
def idPeaks (ji : W64) (l : List (W32 × W32 × W64)) : List Resonance :=
  let rs := l.map (fun p => ({ f := p.1.toNat, damp := p.2.1.toNat, peak := satN 15 (peakHeight ji p.1.toNat p.2.2.toNat) } : Resonance))
  (sortBy (fun p q => decide (q.peak ≤ p.peak)) (rs.filter (fun p => decide (6 * 256 ≤ p.peak)))).take 4
/-- What a step of identification leaves from what it measured (R203, R209). -/
def idMeasured (x : Ident) (r : IdResult) : Ident :=
  match x.state with
  | 2 => { x with rs := r.rs.toNat, xd := r.xd.toNat, xq := r.xq.toNat, angleOfs := r.angleOfs.toNat, valid := x.valid ||| 1 }
  | 3 =>
    let (c, b) := fitFriction (r.runs.map (fun e => (e.1.toInt, e.2.toInt)))
    { x with coulomb := satI 32 c, b := gainOf b, valid := x.valid ||| 2 }
  | 4 =>
    -- the current of a step net of friction at its mean speed
    let net (i : Int) (v : Int) : Int := i - (if v < 0 then -1 else 1) * x.coulomb - (if v < 0 then -1 else 1) * gainMul x.b ((v.natAbs : Int) * 64)
    { x with ji := gainOf (fitInertia (r.steps.map (fun e => (e.2.2.toInt, net e.1.toInt e.2.1.toInt)))), valid := x.valid ||| 4 }
  | 5 => { x with res := idPeaks x.ji r.peaks, amplUsed := min x.ampl r.ampl.toNat, valid := x.valid ||| 8 }
  | _ => x
/-- An identification step completes with what it measured, or ends the run with a cause (R203, R207); CHECK finds whether the start
position lies within the soft limits. -/
def idStep (a : Nat) (r : IdResult) (cause : Option Nat) (s : State) : State :=
  let x := (s.axisL a).ident
  let ax := s.axis a
  if !idRunning x then s
  else
    match cause with
    | some c => abortIdent a c s
    | none =>
      if x.state = 1 ∧ (x.start < ax.softMin ∨ ax.softMax < x.start) then abortIdent a 2 s
      else if !idReady s a then s
      else
        let s1 := s.updAxisL a (fun y => { y with ident := idMeasured y.ident r })
        idGo a (idNext x.steps x.state) (if x.state = 6 then idPropose a s1 else s1)

/-! ## Reports (Tables 5.20 and 5.21) -/

/-- Writes a report for a descriptor whose word 2 is the host address. -/
def writeReport (d : Desc) (bytes : List Byte) (s : State) : State × Reply :=
  (ringPut d.ring.val (reportAddr d 2) bytes s, {})

def loopReport (s : State) (a : Nat) : List Byte :=
  let x := s.axisL a
  let dly := if a < 24 then s.get (F.pwmSlotDlyLast_DLY_LAST a) else 0
  let f0 (i : Nat) : Nat := let n := s.notch a i; if n.mode = 0 then 0 else n.f0
  rep [(2, x.flagsI), (2, x.flagsV), (2, x.flagsP), (1, x.isenseAct), (1, 0), repI 4 x.id, repI 4 x.iq, repI 4 x.vd, repI 4 x.vq,
    repI 4 x.iSet, (4, x.theta), repI 8 x.omegaE, (4, dly), (4, x.dlyMin), (4, x.dlyMax), (2, x.samplesA), (2, x.samplesB),
    repI 8 x.vAct, repI 8 x.vCmd, repI 8 x.pErr, (4, x.scale), (4, 0), (4, f0 0), (4, f0 1), (4, f0 2), (4, f0 3),
    repI 4 x.iStep, repI 4 x.loadAngle, (4, x.lostSteps), (4, x.held), (8, x.valNs)]

def opLoopReport (d : Desc) (s : State) : State × Reply :=
  let a := d.f 1 7 0
  if !s.axisPresent a then (s, why 1)
  else
    let r := writeReport d (loopReport s a) s
    (r.1.updAxisL a (fun x => { x with dlyMin := 0, dlyMax := 0, dlySeen := false }), r.2)

def idReport (s : State) (a : Nat) : List Byte :=
  let x := (s.axisL a).ident
  let res (i : Nat) : List (Nat × Nat) := match x.res[i]? with
    | some r => [(4, r.f), (4, r.damp), (2, r.peak), (1, r.placed), (1, 0)]
    | none => [(12, 0)]
  rep ([(1, x.state), (1, x.valid), (1, x.res.length), (1, x.cause), (4, x.rs), (4, x.xd), (4, x.xq), (4, x.angleOfs), repI 4 x.coulomb,
    (8, x.b.toNat), (8, x.ji.toNat)] ++ res 0 ++ res 1 ++ res 2 ++ res 3 ++
    [(4, x.kpI), (4, x.ti), (8, x.kv.toNat), (4, x.tn), (4, x.amplUsed), (8, x.kp.toNat), (8, x.time)])

def opIdReport (d : Desc) (s : State) : State × Reply :=
  let a := d.f 1 7 0
  if !s.axisPresent a then (s, why 1) else writeReport d (idReport s a) s

end Sys2Proof.Machine
end

