-- ==== Sys2Proof/Machine/Bind.lean ====
section
/-!
DEFINITION. Binding inputs, feedback channels and latch inputs to engines: INPUT_BIND (R325, R326) and FEEDBACK_BIND (R353, R354).
-/
namespace Sys2Proof.Machine

/-- The ENGINE field: codes other than 0 to 33 and 35 fall back to 35, the unbound state. -/
def bindEngine (d : Desc) : Clamped Nat :=
  let e := d.f 1 29 24
  if e < 34 ∨ e = eCE then ⟨e, false⟩ else ⟨eCE, true⟩

/-- INPUT_BIND. -/
def opInputBind (d : Desc) (s : State) : State × Reply :=
  let e := bindEngine d
  let sdi := d.fb 1 16
  let k := d.f 1 15 8
  let cl := clampMask [(1, e.hit)]
  if !s.inPresent sdi k then (s, why 1 0 cl)
  else if s.inInUse sdi k then (s, why 2 0 cl)
  else if !s.mayHold e.val sdi then (s, why 3 0 cl)
  else (bindLater { kind := if sdi then 1 else 0, number := k, engine := e.val } s, why 0 0 cl)

/-- FEEDBACK_BIND. -/
def opFeedbackBind (d : Desc) (s : State) : State × Reply :=
  let e := bindEngine d
  let lat := d.fb 1 16
  let n := d.f 1 15 8
  let cl := clampMask [(1, e.hit)]
  if (if lat then 16 else 32) ≤ n then (s, why 1 0 cl)
  else if !lat ∧ s.fbInUse n then (s, why 2 0 cl)
  else if !s.mayHold e.val false then (s, why 3 0 cl)
  else (bindLater { kind := if lat then 3 else 2, number := n, engine := e.val } s, why 0 0 cl)

end Sys2Proof.Machine
end

