-- ==== Sys2Proof/Machine/Cap.lean ====
section
/-!
DEFINITION. Trigger and capture (spec/11_capture.md): sources, comparators and the sequencer, the length of a capture, overflow,
capture rings, CAPTURE_CTRL.
-/
namespace Sys2Proof.Machine

def State.cu (s : State) (u : Nat) : CapUnit := Table.look {} s.cap.units u
def State.updCu (s : State) (u : Nat) (f : CapUnit → CapUnit) : State :=
  { s with cap := { s.cap with units := Table.upd {} u f s.cap.units } }

/-- Codes of CAP.CUu_STATUS.STATE. -/
abbrev cIdle : Nat := 0
abbrev cArming : Nat := 1
abbrev cPre : Nat := 2
abbrev cPost : Nat := 3
abbrev cDead : Nat := 4
def State.cuState (s : State) (u : Nat) : Nat := s.get (F.capCuStatus_STATE u)
def capPlace (u : Nat) : Nat := 0x8C00 + u
def State.cuMode (s : State) (u : Nat) : Nat := s.get (F.capCuCfg_MODE u)
/-- NSRC, the record size RS and the records B of a block (R399). -/
def State.nsrc (s : State) (u : Nat) : Nat := s.get (F.capCuCfg_NSRC_M1 u) + 1
def State.recSize (s : State) (u : Nat) : Nat := 8 * s.get (F.capCuCfg_TSTAMP u) + 4 * s.nsrc u
def State.perBlock (s : State) (u : Nat) : Nat := 65536 / s.recSize u
def State.cuAlloc (s : State) (u : Nat) : Nat := s.get (F.capCuAlloc_ALLOC u)

/-! ## Sources (R396 to R398) -/

/-- The pad levels of a slot as KIND 0x5 shows them; a high-impedance pad has no level the manual states, and takes the bit `z`. -/
def slotPads (s : State) (n : Nat) (z : Bool) : Nat :=
  let safe := s.getB (F.pwmSlotStatus_SAFE n)
  let side (p : Nat) (low : Bool) : Bool :=
    let c := nbits (s.reg (A.pwmSlotPairCfg n)).toNat (8 * p + 7) (8 * p)
    if safe then
      match (if low then c / 64 else c / 16 % 4) with
      | 0 => false
      | 1 => true
      | _ => z
    else
      let q := (s.slot n).pair p
      let act : Bool :=
        if low then c % 4 == 0 && (match q.low with | some f => decide (f ≤ s.nowFx) | none => decide (s.nowFx < q.lowEnd))
        else decide (c % 4 ≤ 1) && (match q.high with | some f => decide (f ≤ s.nowFx) | none => decide (s.nowFx < q.highEnd))
      act != c.testBit (if low then 3 else 2)
  (if safe then 256 else 0) + ((upto 4).map (fun p =>
    (if side p true then 2 ^ (2 * p + 1) else 0) + (if side p false then 2 ^ (2 * p) else 0))).sum

/-- Whether a source word names a defined kind and a present object (R398). -/
def srcOk (s : State) (w : W32) : Bool :=
  let i := bits w 23 16
  match bits w 31 28 with
  | 0x0 => true
  | 0x1 => s.inPresent false i
  | 0x2 => s.inPresent true i
  | 0x3 => decide (i < 32)
  | 0x4 => decide (i < 32)
  | 0x5 => decide (i < s.slots)
  | 0x6 => decide (i < 38)
  | 0x7 => i == 0
  | 0x8 => i == 0
  | 0x9 => decide (i < 32)
  | _ => false

/-- The word a source reads now (Table 11.1). -/
def srcWord (s : State) (w : W32) (z : Bool) : W32 :=
  let i := bits w 23 16
  if !srcOk s w then 0
  else match bits w 31 28 with
    | 0x1 => s.reg (A.adcAinRes i)
    | 0x2 => s.reg (A.adcSdiRes i)
    | 0x3 => s.reg (A.fbkFbPos i)
    | 0x4 => BitVec.ofInt 32 (satI 32 (Int.tdiv (fbSpeed s i) (2 ^ 24)))
    | 0x5 => BitVec.ofNat 32 (slotPads s i z)
    | 0x6 => BitVec.ofNat 32 (ofLe ((upto 4).map (fun b => Table.look 0 (s.eng i).pub (8 * bits w 8 0 + 4 * bits w 24 24 + b))))
    | 0x7 => s.reg A.dioInLevel
    | 0x8 => BitVec.ofNat 32 s.nowNs
    | 0x9 => BitVec.ofNat 32 (16 * s.gst i + s.mode)
    | _ => 0

/-- The signed value a comparison uses. -/
def srcValue (src w : W32) : Int :=
  match bits src 31 28 with
  | 0x1 => sbits w 31 16
  | 0x2 => sbits w 31 8
  | _ => w.toInt

/-! ## Comparators (R400, R405) -/

/-- Whether comparator `c` is true in the sample of instant `t` with words `ws`, and its trigger instant. -/
def capCond (s : State) (u c t : Nat) (ws : List W32) : Option Nat :=
  let x := s.cu u
  let slot := s.get (F.capCuCmpCfg_SLOT u c)
  let there := decide (slot < s.nsrc u)
  let src := s.reg (A.capCuSrc u slot)
  let w : W32 := if there then ws.getD slot 0 else 0
  let w' : W32 := if there then x.prev.getD slot 0 else 0
  let v := srcValue src w
  let v' := srcValue src w'
  let a := (s.reg (A.capCuCmpA u c)).toInt
  let b := (s.reg (A.capCuCmpB u c)).toInt
  let yes (p : Bool) (at' : Nat) : Option Nat := if p then some at' else none
  let cross (tp : Nat) : Nat := (tp + qdiv ((a - v') * (t - tp : Nat)) (v - v')).toNat
  let seen (lat : Bool) (guard : Nat) : Option Nat :=
    let l := (x.seen.filter (fun e => e.1 == lat && e.2.1 == wrapN 32 a && decide (e.2.2 + guard ≤ t))).map (fun e => e.2.2)
    match l with
    | [] => none
    | h :: r => some (r.foldl min h)
  match s.get (F.capCuCmpCfg_OP u c), x.prevT with
  | 0x1, _ => yes (decide (a < v)) t
  | 0x2, _ => yes (decide (v < a)) t
  | 0x3, _ => yes (decide (a ≤ v ∧ v ≤ b)) t
  | 0x4, _ => yes (decide (v < a ∨ b < v)) t
  | 0x5, some tp => yes (decide (v' ≤ a ∧ a < v)) (cross tp)
  | 0x6, some tp => yes (decide (a ≤ v' ∧ v < a)) (cross tp)
  | 0x7, _ => yes ((w &&& s.reg (A.capCuCmpB u c)) == s.reg (A.capCuCmpA u c)) t
  | 0x8, some _ => yes (w != w') t
  | 0x9, _ => seen true (10 * 2 ^ 32)
  | 0xA, _ => seen false 0
  | 0xB, some tp =>
    let ns := t / 2 ^ 32
    let d := cdiff (BitVec.ofNat 32 ns) (s.reg (A.capCuCmpA u c))
    let d' := cdiff (BitVec.ofNat 32 (tp / 2 ^ 32)) (s.reg (A.capCuCmpA u c))
    yes (decide (d' < 0 ∧ 0 ≤ d)) ((ns - d.toNat) * 2 ^ 32)
  | _, _ => none

/-- After a sample: edges and events it has passed are dropped; its words become the previous ones. -/
def capPass (u t : Nat) (ws : List W32) (s : State) : State :=
  s.updCu u (fun x => { x with
    prevT := some t, prev := ws
    seen := x.seen.filter (fun e => decide (t < e.2.2 + (if e.1 then 10 * 2 ^ 32 else 0))) })

/-! ## Blocks (R392, R393, R409) -/

/-- Entries of blocks that wait for their ring, of a unit. -/
def State.queuedOf (s : State) (u : Nat) : Nat :=
  (s.cap.queues.map (fun e => countIf (fun x => x.unit == u && !x.header) e.2)).sum
def State.capRefresh (s : State) (u : Nat) : State := s.set (F.capCuHeld_HELD u) ((s.cu u).own + s.queuedOf u)
/-- Takes blocks for a unit from the free pool. -/
def capTake (u n : Nat) (s : State) : State :=
  ((s.set F.capFree_FREE (s.get F.capFree_FREE - n)).updCu u (fun x => { x with own := x.own + n })).capRefresh u
/-- Returns blocks the running capture of a unit holds to the free pool. -/
def capReturn (u n : Nat) (s : State) : State :=
  ((s.set F.capFree_FREE (s.get F.capFree_FREE + n)).updCu u (fun x => { x with own := x.own - n })).capRefresh u

/-! ## Handing a capture over (R409, R413; Tables 11.4 and 11.5) -/

def recBytes (s : State) (u : Nat) (r : CapRec) : List Byte :=
  (if s.getB (F.capCuCfg_TSTAMP u) then leBytes 8 (r.time / 2 ^ 32) else []) ++ r.words.flatMap (fun w => leBytes 4 w.toNat)

/-- Queues an entry for the unit's ring. -/
def capQueue (u : Nat) (e : CapEntry) (s : State) : State :=
  let m := s.get (F.capCuCfg_RING u)
  { s with cap := { s.cap with queues := Table.upd [] m (fun l => l ++ [e]) s.cap.queues } }

/-- Queues one block of records. -/
def capBlock (u : Nat) (rs : List CapRec) (s : State) : State :=
  let x := s.cu u
  let no := s.get (F.capCuCapno_CAPNO u)
  let e : CapEntry :=
    { unit := u
      body := rep [(1, u), (1, 0), (4, no), (4, x.blocks), (4, 0), (8, x.handed), (4, rs.length), (100, 0)]
      data := rs.flatMap (recBytes s u), header := false, no := no, done := 0 }
  ((capQueue u e s).updCu u (fun y => { y with
    blocks := y.blocks + 1, handed := y.handed + rs.length, own := y.own - 1, posts := y.posts.drop rs.length
    firstTime := some (y.firstTime.getD ((rs.head?.map (·.time)).getD 0)) })).capRefresh u

/-- Queues the records of a capture block by block. -/
def capBlocks (u : Nat) : Nat → State → State
  | 0, s => s
  | n + 1, s =>
    let l := (s.cu u).posts
    if l.isEmpty then s else capBlocks u n (capBlock u (l.take (s.perBlock u)) s)

/-- The header entry: stopped, and the overflow cause with the instant of the first record lost. -/
def capHeader (u : Nat) (stopped : Bool) (ovf : Option (Nat × Nat)) (s : State) : CapEntry :=
  let x := s.cu u
  let no := s.get (F.capCuCapno_CAPNO u)
  let b (c : Bool) (n : Nat) : Nat := if c then 2 ^ n else 0
  let locked := match x.trig with | some t => t.locked | none => false
  let flags := b x.trig.isSome 0 + b x.forced 1 + b stopped 2 + b x.clamped 3 + b ovf.isSome 4 + b (s.getB (F.capCuCfg_TSTAMP u)) 5 +
    b locked 6 + b x.srcErr 7
  let tt := (x.trig.map (·.time)).getD 0
  let ovT := (ovf.map (·.2)).getD 0 / 2 ^ 32
  let sper := if s.get (F.capCuCfg_CLK u) = 0 then s.get (F.capCuClk_SPER u) else 0
  { unit := u, header := true, no := no, data := []
    body := rep [(1, u), (1, 0), (4, no), (4, x.blocks), (4, 0), (4, x.pre), (4, x.post), (4, x.preEff), (4, x.postEff),
      (8, (x.firstTime.getD 0) / 2 ^ 32), (8, tt / 2 ^ 32), (4, tt % 2 ^ 32), (4, sper), (8, x.dead), (8, ovT), (4, x.blocks),
      (2, s.recSize u), (1, s.nsrc u), (1, s.get (F.capCuCfg_CLK u)), (1, (x.trig.map (·.conds)).getD 0), (1, (x.trig.map (·.exits)).getD 0),
      (1, (ovf.map (·.1)).getD 0xFF), (1, 0), (4, flags), (40, 0)]
    done := pl [(16, 4, no), (20, 4, x.preEff + x.postEff), (24, 1, flags), (25, 1, s.get (F.capCuCfg_RING u))] }

/-- FULL of a ring: entries wait for ring space (R414). -/
def capRingFull (m : Nat) (s : State) : State :=
  let n := 2 ^ s.get (F.hriCrCfg_SIZE m)
  let used := (cdiff (s.reg (A.hriCrTail m)) (s.reg (A.hriCrHead m))).toNat
  s.setB (F.capCrStatus_FULL m) (!(Table.look [] s.cap.queues m).isEmpty && decide (n ≤ used))

/-- A unit goes to IDLE: it samples no more and holds no unused block. -/
def capIdle (u : Nat) (s : State) : State :=
  let s1 := capReturn u (s.cu u).own s
  ((s1.updCu u (fun _ => {})).set (F.capCuStatus_STATE u) cIdle).capRefresh u

/-- How a capture ends: at its last record, by a STOP action, or by the command STOP, which ends the arming too (R409, R410). -/
inductive CapHow where
  | done
  | action
  | command
deriving DecidableEq, Repr
/-- The running capture of a unit ends and is handed; a repeat arming goes on (R407, R409 to R412). -/
def capEnd (u t : Nat) (how : CapHow) (ovf : Option (Nat × Nat)) (s : State) : State :=
  let x := s.cu u
  let x1 : CapUnit := if x.trig.isSome then x else { x with posts := x.recs, preEff := x.recs.length, postEff := 0 }
  let lastT := (x1.posts.getLast?.map (·.time)).getD t
  let s1 := s.updCu u (fun _ => x1)
  let s2 := capBlocks u (x1.posts.length + 1) s1
  let s3 := (capQueue u (capHeader u (how != .done) ovf s2) s2).bump (F.capCuCapno_CAPNO u)
  let s4 := capReturn u (s3.cu u).own s3
  let s4 := whenB ovf.isSome (fun v => (v.flag (F.capCuStatus_OVF u)).raise 0x0802 sevWarn 0 (capPlace u)
    [(16, 4, s.get (F.capCuCapno_CAPNO u)), (20, 1, (ovf.map (·.1)).getD 0), (24, 8, (ovf.map (·.2)).getD 0 / 2 ^ 32)]) s4
  let left := x.left.map (· - 1)
  let s5 := capRingFull (s.get (F.capCuCfg_RING u)) s4
  if s.cuMode u = 1 ∧ how ≠ .command ∧ ovf.isNone ∧ left ≠ some 0 then
    let s6 := (s5.updCu u (fun y =>
      { on := true, t0 := y.t0, k := y.k, last := y.last, prevT := y.prevT, prev := y.prev, seen := y.seen, pre := y.pre, post := y.post
        left := left, clamped := y.clamped, srcErr := y.srcErr, endT := lastT })).set (F.capCuStatus_STATE u) cDead
    if s6.cuAlloc u ≤ s6.get F.capFree_FREE then (capTake u (s6.cuAlloc u) s6).updCu u (fun y => { y with reserved := true })
    else s6.flag (F.capCuStatus_NO_BLOCKS u)
  else capIdle u s5

/-! ## A sample (R395, R399 to R405, R409 to R412) -/

/-- The instant of the sample that falls in the present cycle, with the grid index and the result or event it belongs to. -/
def capDue (s : State) (u : Nat) : Option (Nat × Nat × Nat) :=
  let x := s.cu u
  match s.get (F.capCuCfg_CLK u) with
  | 0 =>
    let per := s.get (F.capCuClk_SPER u) * 5 * 2 ^ 31
    let k := (s.nowFx - x.t0) / per
    let t := x.t0 + k * per
    if x.t0 ≤ s.nowFx ∧ x.k ≤ k ∧ s.nowFx < t + s.clk.incr then some (t, k + 1, 0) else none
  | 1 =>
    let e := s.get (F.capCuClkSrc_EVENT u)
    match Table.look none (s.slot (e / 8)).events (e % 8) with
    | some t =>
      if x.last < t ∧ s.nowFx = cycleCeil s t + s.get (F.capCuClkSrc_DELAY u) * s.clk.incr ∧ x.t0 ≤ s.nowFx then some (s.nowFx, 0, t) else none
    | none => none
  | 2 =>
    let t := (s.ain (s.getB (F.capCuClkSrc_IN_KIND u)) (s.get (F.capCuClkSrc_EVENT u))).last
    if x.last < t then some (t, 0, t) else none
  | _ => if s.clk.cyc = 0 ∧ x.prevT ≠ some s.clk.clk then some (s.clk.clk, 0, 0) else none

/-- Whether the unit's rate lies above the guarantee of 400 MB/s (R412): RS bytes in the interval to the sample before. -/
def capFast (s : State) (u t : Nat) : Bool :=
  match (s.cu u).prevT with
  | none => false
  | some tp => decide (2 * (t - tp) < 5 * s.recSize u * 2 ^ 32)

/-- The record of a sample is stored, after what the sequencer did in it; a full capture ends. -/
def capStore (u : Nat) (r : CapRec) (stop : Bool) (s : State) : State :=
  let x := s.cu u
  let m := s.cuMode u
  match x.trig with
  | none =>
    let s1 := s.updCu u (fun y => { y with recs := (y.recs ++ [r]).drop (y.recs.length + 1 - y.pre) })
    if stop then capEnd u r.time .action none s1 else s1
  | some _ =>
    if m ≠ 2 ∧ x.post = 0 then capEnd u r.time .done none s
    else
      let need := m == 2 && decide (x.own < x.posts.length / s.perBlock u + 1)
      let mine := (s.cap.queues.map (fun e => countIf (fun q => q.unit == u && !q.header && q.no == s.get (F.capCuCapno_CAPNO u)) e.2)).sum
      let room := decide (x.own + mine < s.cuAlloc u) && decide (0 < s.get F.capFree_FREE)
      if need && !room then capEnd u r.time .done (some (1, r.time)) s
      else
        let s0 := if need then capTake u 1 s else s
        let s1 := s0.updCu u (fun y => { y with posts := y.posts ++ [r], postEff := y.postEff + 1 })
        let s2 := if m = 2 ∧ s1.perBlock u ≤ (s1.cu u).posts.length then capBlock u ((s1.cu u).posts.take (s1.perBlock u)) s1 else s1
        if stop then capEnd u r.time .action none s2
        else if x.post ≠ 0 ∧ (s2.cu u).postEff = x.post then capEnd u r.time .done none s2 else s2

/-- The first TRIGGER of a capture sets its trigger point. -/
def capTrigger (u : Nat) (tr : CapTrig) (forced : Bool) (s : State) : State :=
  if (s.cu u).trig.isSome then s
  else
    let s1 := s.updCu u (fun y => { y with
      trig := some tr, forced := forced, preEff := y.recs.length, posts := y.recs, recs := []
      firstTime := y.recs.head?.map (·.time) })
    s1.set (F.capCuStatus_STATE u) cPost

/-- What the sequencer finds in a sample: the exit taken with its instant, or an expired timeout; exit counts and masks. -/
structure SeqFind where
  exit : Option (Nat × Nat)
  timeout : Bool
  counts : List Nat
  conds : Nat
  exits : Nat
deriving DecidableEq, Repr

def capFind (s : State) (u t : Nat) (ws : List W32) : SeqFind :=
  let x := s.cu u
  let q := s.get (F.capCuStatus_SEQ u)
  let cond (c : Nat) : Option Nat := capCond s u c t ws
  let en (e : Nat) : Bool := s.getB (F.capCuStExit_EN u q e)
  let neg (e : Nat) : Bool := s.getB (F.capCuStExit_NEG u q e)
  let cmp (e : Nat) : Nat := s.get (F.capCuStExit_CMP u q e)
  let holds (e : Nat) : Bool := en e && ((cond (cmp e)).isSome != neg e)
  let counts := (upto 4).map (fun e => x.counts.getD e 0 + (if holds e then 1 else 0))
  let done (e : Nat) : Bool := holds e && decide (s.get (F.capCuStExit_NEED u q e) ≤ counts.getD e 0)
  let negated (c : Nat) : Bool := match (upto 4).find? (fun e => en e && cmp e == c) with | some e => neg e | none => false
  let tmo := s.get (F.capCuStTmo_TMO u q)
  let taken := (upto 4).find? done
  { exit := taken.map (fun e => (e, if neg e then t else (cond (cmp e)).getD t))
    timeout := taken.isNone && tmo != 0 && decide (tmo ≤ x.timer)
    counts := counts
    conds := ((upto 8).map (fun c => if (cond c).isSome != negated c then 2 ^ c else 0)).sum
    exits := ((upto 4).map (fun e => if done e then 2 ^ e else 0)).sum }

/-- Does a transition: its action, then the next state; answers whether the capture ends with this sample. -/
def capGo (u t : Nat) (f : SeqFind) (s : State) : State × Bool :=
  let q := s.get (F.capCuStatus_SEQ u)
  let locked := s.getB F.ptpStatus_LOCKED
  let go (next act : Nat) (at' : Nat) (exitNo : State → Nat × State) : State × Bool :=
    let s1 := (s.set (F.capCuStatus_SEQ u) next).updCu u (fun y => { y with counts := [0, 0, 0, 0], timer := 1 })
    match act with
    | 1 => (capTrigger u { time := at', conds := f.conds, exits := 16 * q + f.exits, locked := locked } false s1, false)
    | 2 => (s1, true)
    | 3 =>
      let (n, s2) := exitNo s1
      (s2.raiseAt (t / 2 ^ 32) 0x0803 sevInfo 0 (capPlace u)
        [(16, 4, s.get (F.capCuCapno_CAPNO u)), (20, 1, 16 * q + n % 16), (21, 1, f.conds)], false)
    | _ => (s1, false)
  match f.exit with
  | some (e, at') => go (s.get (F.capCuStExit_NEXT u q e)) (s.get (F.capCuStExit_ACT u q e)) at' (fun v => (e, v))
  | none =>
    if f.timeout then
      go (s.get (F.capCuStTmoExit_TMO_NEXT u q)) (s.get (F.capCuStTmoExit_TMO_ACT u q)) t
        (fun v => let (w, v') := v.draw; (w.toNat % 16, v'))
    else (s.updCu u (fun y => { y with counts := f.counts, timer := y.timer + 1 }), false)

/-- The words of a sample taken now. -/
def capWords (s : State) (u : Nat) : List W32 × State :=
  let (z, s1) := s.draw
  ((upto (s.nsrc u)).map (fun i => srcWord s (s.reg (A.capCuSrc u i)) (bit z 0)), s1)

/-- Whether the unit evaluates this sample: it captures, or its next capture begins with it (R411). -/
def capEvaluates (s : State) (u t : Nat) : Bool :=
  let st := s.cuState u
  st == cPre || st == cPost || (st == cDead && (s.cu u).reserved && decide ((s.cu u).endT + 1000 * 2 ^ 32 ≤ t))

/-- The next capture of a repeat arming begins with the sample of instant `t`. -/
def capBegin (u t : Nat) (s : State) : State :=
  let d := satN 32 ((t - (s.cu u).endT) / 2 ^ 32)
  let s1 := s.updCu u (fun y => { y with dead := (t - y.endT) / 2 ^ 32, reserved := false, counts := [0, 0, 0, 0], timer := 0 })
  ((s1.set (F.capCuStatus_STATE u) cPre).set (F.capCuStatus_SEQ u) 0).set (F.capCuDeadLast_DEAD_LAST u) d

/-- A unit takes the sample that falls in the present cycle; `full` says that it finds its write buffer full. -/
def capSample (u : Nat) (full : Bool) (s : State) : State :=
  if !(s.cu u).on then s
  else match capDue s u with
    | none => s
    | some (t, k, last) =>
      let (ws, s0) := capWords s u
      let fast := capFast s u t
      let s1 := s0.updCu u (fun y => { y with k := k, last := if last = 0 then y.last else last })
      if !capEvaluates s u t then capPass u t ws s1
      else
        let s2 := if s.cuState u = cDead then capBegin u t s1 else s1
        if full ∧ fast then capEnd u t .done (some (0, t)) s2
        else
          let f := capFind s2 u t ws
          let s3 := if (s2.cu u).force then
              capTrigger u { time := t, conds := 0, exits := 16 * s2.get (F.capCuStatus_SEQ u), locked := s.getB F.ptpStatus_LOCKED } true
                (s2.updCu u (fun y => { y with force := false }))
            else s2
          let (s4, stop) := capGo u t f s3
          capStore u { time := t, words := ws } stop (capPass u t ws s4)

/-- Whether the sample of the present cycle is one in which the state's timeout expires and no exit completes (R402). -/
def capExpires (s : State) (u : Nat) : Bool :=
  (s.cu u).on && match capDue s u with
    | none => false
    | some (t, _, _) =>
      let (ws, _) := capWords s u
      let st := s.cuState u
      (st == cPre || st == cPost) && (capFind s u t ws).timeout
/-- Whether the sample of the present cycle begins the next capture of a repeat arming (R411). -/
def capRestarts (s : State) (u : Nat) : Bool :=
  (s.cu u).on && s.cuState u == cDead && match capDue s u with
    | none => false
    | some (t, _, _) => capEvaluates s u t

/-! ## Running control (R406 to R411) -/

/-- PRE and POST against the capacity (R408). -/
def capClamp (s : State) (u pre post : Nat) : Nat × Nat :=
  let c := s.cuAlloc u * s.perBlock u
  if s.cuMode u = 2 then (min pre c, post)
  else if c < post then (0, c)
  else if c < pre + post then (c - post, post)
  else (pre, post)

/-- A unit has its blocks: it samples from the strobe of this tick on. -/
def capStart (u : Nat) (s : State) : State :=
  let inp := (s.ain (s.getB (F.capCuClkSrc_IN_KIND u)) (s.get (F.capCuClkSrc_EVENT u))).last
  let clk := s.get (F.capCuCfg_CLK u)
  let s1 := (capTake u (s.cuAlloc u) s).updCu u (fun y => { y with
    on := true, t0 := s.clk.clk, last := if clk = 2 then inp else s.clk.clk - 1 })
  ((s1.set (F.capCuStatus_STATE u) cPre).set (F.capCuStatus_SEQ u) 0).set (F.capCuDeadLast_DEAD_LAST u) 0

/-- A unit that waits for blocks gets them (R409, R411). -/
def capReserve (u : Nat) (s : State) : State :=
  if s.get F.capFree_FREE < s.cuAlloc u then s
  else if s.cuState u = cArming then (if s.clk.cyc = 0 then capStart u s else s)
  else if s.cuState u = cDead ∧ !(s.cu u).reserved then
    (capTake u (s.cuAlloc u) s).updCu u (fun y => { y with reserved := true })
  else s

/-- A command of CAPTURE_CTRL takes effect at the strobe (R406 to R410). -/
def capCmd (c : CapCmd) (s : State) : State :=
  let u := c.unit
  let st := s.cuState u
  match c.cmd with
  | 1 =>
    if st ≠ cIdle then s
    else
      let (pre, post) := capClamp s u c.pre c.post
      let bad := (upto (s.nsrc u)).any (fun i => !srcOk s (s.reg (A.capCuSrc u i)))
      let s1 := s.updCu u (fun _ =>
        { pre := pre, post := post, left := if c.count = 0 ∨ s.cuMode u ≠ 1 then none else some c.count
          clamped := c.clamped, srcErr := bad })
      let s2 := whenB bad (fun v => v.flag (F.capCuStatus_SRC_ERR u)) (whenB c.clamped (fun v => v.flag (F.capCuStatus_CLAMPED u)) s1)
      if s.cuAlloc u ≤ s.get F.capFree_FREE then capStart u s2
      else ((s2.set (F.capCuStatus_STATE u) cArming).flag (F.capCuStatus_NO_BLOCKS u)).raise 0x0804 sevWarn 0 (capPlace u)
        [(16, 2, s.get F.capFree_FREE), (18, 2, s.cuAlloc u)]
  | 2 =>
    if st = cPre ∨ st = cPost then capEnd u s.clk.clk .command none s
    else if st = cIdle then s else capIdle u s
  | 3 => if st = cPre ∨ st = cPost then s.updCu u (fun y => { y with force := true }) else s
  | 4 => if st = cIdle then s
    else
      -- a stream's blocks that still wait for the ring are discarded with it
      let no := s.get (F.capCuCapno_CAPNO u)
      let mine (e : CapEntry) : Bool := e.unit == u && e.no == no
      let n := (s.cap.queues.map (fun e => countIf mine e.2)).sum
      let s1 : State := { s with cap := { s.cap with
        queues := Table.mapVals [] (fun l => l.filter (fun x => !mine x)) s.cap.queues } }
      capIdle u (s1.set F.capFree_FREE (s1.get F.capFree_FREE + n))
  | _ => s

/-- CAPTURE_CTRL (R406, Table 11.3). -/
def opCapture (d : Desc) (s : State) : State × Reply :=
  let u := d.f 1 1 0
  let cmd := cE 4 0 (d.f 1 11 8)
  let post := d.f 2 63 32
  let pre := d.f 2 31 0
  let st := s.cuState u
  let (pre', post') := capClamp s u pre post
  let cl := cmd.val == 1 && (pre' != pre || post' != post)
  let mask := clampMask [(1, cmd.hit), (2, cl)]
  let ok := match cmd.val with | 0 => true | 1 => st == cIdle | _ => st != cIdle
  if !ok then (s, why 2 0 mask)
  else if cmd.val = 1 ∧ s.cuAlloc u = 0 then (s, why 3 0 mask)
  else if cmd.val = 0 then (s, why 0 0 mask)
  else
    let c : CapCmd := { unit := u, cmd := cmd.val, count := d.f 1 47 32, pre := pre, post := post, clamped := cl }
    ({ s with cap := { s.cap with cmds := s.cap.cmds ++ [c] } }, why 0 0 mask)

/-- The strobe: the commands of the tick before take effect, one after another. -/
def capStrobe (s : State) : State :=
  s.cap.cmds.foldl (fun t c => capCmd c t) { s with cap := { s.cap with cmds := [] } }

/-! ## Capture rings (R413 to R415) -/

/-- One write of CE for an entry of a ring. -/
def capPut (m a : Nat) (b : List Byte) (e : CapEntry) (final : Bool) (s : State) : State :=
  let w : CapWrote :=
    { write := { addr := a, old := s.hostBytes a b.length, count := s.reg (A.hriCrTail m) }, entry := e, final := final }
  let t := s.hostWrite a b
  { t with cap := { t.cap with wrote := Table.upd [] m (fun l => l ++ [w]) t.cap.wrote } }
/-- CE writes the next entry of a ring; a block passes from held to handed. -/
def capRingWrite (m : Nat) (s : State) : State :=
  let n : Nat := 2 ^ s.get (F.hriCrCfg_SIZE m)
  let c := s.reg (A.hriCrTail m)
  match Table.look [] s.cap.queues m with
  | [] => s
  | e :: r =>
    if !s.getB (F.hriCrCfg_EN m) then s
    else if (n : Int) ≤ cdiff c (s.reg (A.hriCrHead m)) then s.set (F.capCrStatus_FULL m) 1
    else
      let i := c.toNat % n
      let phase := if c.toNat / n % 2 = 0 then 0x8000 else 0
      let s1 := if e.header then s else capPut m (s.get64 (A.capCrDataLo m) + 65536 * i) e.data e false s
      let s2 := capPut m (s.get64 (A.hriCrBaseLo m) + 128 * i) (leBytes 2 (phase + (if e.header then 1 else 0)) ++ e.body) e true s1
      let s3 : State := { s2 with cap := { s2.cap with
        queues := Table.put [] m r s2.cap.queues
        handed := if e.header then s2.cap.handed else Table.upd [] m (fun l => l ++ [c.toNat]) s2.cap.handed } }
      let s4 := (s3.setReg (A.hriCrTail m) (c + 1)).capRefresh e.unit
      let s5 := if s4.host.irqs.contains 2 then s4 else s4.irq 2
      let s6 := whenB e.header (fun t => t.raise 0x0801 sevInfo 0 (capPlace e.unit)
        [(16, 16, e.done.toNat)]) s5
      capRingFull m s6

/-- The host's released count passes entries: their blocks become free (R414, R415). -/
def capRelease (m : Nat) (v : W32) (s : State) : State :=
  let head := s.reg (A.hriCrHead m)
  let tail := s.reg (A.hriCrTail m)
  if cdiff v head < 0 then s.flag (F.capCrStatus_DB_ERR m)
  else
    let ovr := decide (0 < cdiff v tail)
    let h := if ovr then tail else v
    let l := Table.look [] s.cap.handed m
    let free (c : Nat) : Bool := decide (0 < cdiff h (BitVec.ofNat 32 c))
    let s1 : State := { s with cap := { s.cap with handed := Table.put [] m (l.filter (fun c => !free c)) s.cap.handed } }
    let s2 := (s1.set F.capFree_FREE (s.get F.capFree_FREE + countIf free l)).setReg (A.hriCrHead m) h
    capRingFull m (whenB ovr (fun t => t.flag (F.capCrStatus_DB_ERR m)) s2)

/-- A disable of a ring, or a DMA error on it, frees every block handed and not released (R415). -/
def capRingDrop (m : Nat) (s : State) : State :=
  let l := Table.look [] s.cap.handed m
  capRingFull m ({ s with cap := { s.cap with handed := Table.put [] m [] s.cap.handed } }.set F.capFree_FREE (s.get F.capFree_FREE + l.length))

/-- CE has faulted: every running capture overflows (R412); the instant of the first record lost is the next grid time, else now. -/
def capFault (s : State) : State :=
  forEach (upto 4) (fun u t =>
    if t.cuState u = cPre ∨ t.cuState u = cPost then
      let x := t.cu u
      let lost := if t.get (F.capCuCfg_CLK u) = 0 then x.t0 + x.k * (t.get (F.capCuClk_SPER u) * 5 * 2 ^ 31) else t.nowFx
      capEnd u t.nowFx .done (some (2, lost)) t
    else t) s

end Sys2Proof.Machine
end

