-- ==== Sys2Proof/Machine/Ptp.lean ====
section
/-!
DEFINITION. PTP, the clock servo, compare and timed launch, transmit timestamps (spec/12_network_and_time.md R426 to R443).
PTP quantities are in 2^-16 ns, rates in 2^-32 ppb.
-/
namespace Sys2Proof.Machine

def State.port (s : State) (p : Nat) : PortSt := Table.look {} s.net.ports p
def State.updPort (s : State) (p : Nat) (f : PortSt → PortSt) : State :=
  { s with net := { s.net with ports := Table.upd {} p f s.net.ports } }
def State.updPtp (s : State) (f : PtpSt → PtpSt) : State := { s with net := { s.net with ptp := f s.net.ptp } }
def State.pp (s : State) (p : Nat) : PtpPort := Table.look {} s.net.ptp.ports p
def State.updPp (s : State) (p : Nat) (f : PtpPort → PtpPort) : State :=
  s.updPtp (fun x => { x with ports := Table.upd {} p f x.ports })

def State.portMode (s : State) (p : Nat) : Nat := s.get (F.netPortCfg_MODE p)
def State.linkUp (s : State) (p : Nat) : Bool := s.getB (F.netPortStatus_LINK p)
/-- Places of PTP events (R460). -/
def ptpPlace (p : Nat) : Nat := 0x8980 + p
def ptpNoPort : Nat := 0x89FF
def portPlace (p : Nat) : Nat := place eNE p 127

/-- `n` intervals of 2^`log` seconds in ticks (R430). -/
def State.ivTicks (s : State) (n : Nat) (log : Int) : Nat :=
  (n * 1000000000 * 2 ^ (log + 7).toNat + (128 * s.ftNs - 1)) / (128 * s.ftNs)
def State.logOf (s : State) (f : Fld) : Int := sx 4 (s.get f)
/-- When the Announce receipt timer of a port that starts now expires (R430). -/
def State.annEnd (s : State) (p : Nat) : Nat :=
  s.clk.ticks + s.ivTicks (s.get (F.ptpPortCfg_ANN_TMO p)) (s.logOf (F.ptpPortCfg_LOG_ANN p))

/-- Timestamps at the MDI from those taken by hardware (R429, Table 12.3), in 2^-16 ns. -/
def State.rxTime (s : State) (p : Nat) (stamp : W64) : Int :=
  let lat := match s.get (F.netPortStatus_SPEED p) with | 0 => 418 | 1 => 352 | _ => 402
  ((stamp.toNat : Int) - lat * 4 - sx 16 (s.get (F.netPortLatTrim_INGRESS p))) * 2 ^ 14
def State.txTime (s : State) (p : Nat) (stamp : W64) : Int :=
  let lat := match s.get (F.netPortStatus_SPEED p) with | 0 => 312 | 1 => 224 | _ => 296
  ((stamp.toNat : Int) + lat * 4 + sx 16 (s.get (F.netPortLatTrim_EGRESS p))) * 2 ^ 14

/-! ## Roles (R426, R427, Table 12.2) -/

def State.bothPlant (s : State) : Bool := s.portMode 0 == 1 && s.portMode 1 == 1
/-- The clock kind the module acts as: 2 and 3 need both ports in plant mode, and act as 1 otherwise (R426). -/
def State.clockKind (s : State) : Nat := if 2 ≤ s.get F.ptpCfg_CLOCK ∧ !s.bothPlant then 1 else s.get F.ptpCfg_CLOCK
/-- Whether the module is a transparent clock. -/
def State.isTc (s : State) : Bool := decide (2 ≤ s.clockKind)
/-- Whether PTP runs on a port. -/
def State.ptpOn (s : State) (p : Nat) : Bool :=
  s.getB (F.ptpPortCfg_EN p) && (s.portMode p == 2 || (s.portMode p == 1 && s.clockKind != 0))
/-- Whether a port takes part in the BMCA. -/
def State.inBmca (s : State) (p : Nat) : Bool := s.ptpOn p && s.portMode p == 1 && !s.isTc

/-- The clockIdentity: the MAC address of port 0 with 0xFFFE inserted after its third byte. -/
def State.clockId (s : State) : W64 :=
  let mac := (s.reg (A.netPortMacLo 0)).toNat + s.get (F.netPortMacHi_MAC 0) * 2 ^ 32
  BitVec.ofNat 64 (mac / 2 ^ 24 * 2 ^ 40 + 0xFFFE * 2 ^ 24 + mac % 2 ^ 24)

/-- The module's own default data set. -/
def State.ownSet (s : State) : PtpAnn :=
  { domain := BitVec.ofNat 8 (s.get F.ptpCfg_DOMAIN), src := s.clockId, srcPort := 0, gm := s.clockId
    prio1 := BitVec.ofNat 8 (s.get F.ptpCfg_PRIORITY1), cls := BitVec.ofNat 8 (s.get F.ptpCfg2_CLOCK_CLASS)
    acc := BitVec.ofNat 8 (s.get F.ptpCfg2_ACCURACY), var := BitVec.ofNat 16 (s.get F.ptpCfg2_VARIANCE)
    prio2 := BitVec.ofNat 8 (s.get F.ptpCfg_PRIORITY2), steps := 0 }

/-- Order of two lists of numbers, first difference first. -/
def lexLt : List Nat → List Nat → Bool
  | a :: r, b :: t => decide (a < b) || (a == b && lexLt r t)
  | [], _ :: _ => true
  | _, [] => false

/-- Whether one data set, received on a port, compares better than another (IEEE 1588-2019, data set comparison). -/
def annBetter (a : PtpAnn) (pa : Nat) (b : PtpAnn) (pb : Nat) : Bool :=
  let key (x : PtpAnn) : List Nat := [x.prio1.toNat, x.cls.toNat, x.acc.toNat, x.var.toNat, x.prio2.toNat, x.gm.toNat]
  let topo (x : PtpAnn) (p : Nat) : List Nat := [x.steps.toNat, x.src.toNat, x.srcPort.toNat, p]
  if a.gm = b.gm then lexLt (topo a pa) (topo b pb) else lexLt (key a) (key b)

/-- The best qualified foreign master of a port: two Announces within four Announce intervals. -/
def State.bestOf (s : State) (p : Nat) : Option PtpAnn :=
  let win := s.ivTicks 4 (s.logOf (F.ptpPortCfg_LOG_ANN p))
  let l := ((s.pp p).foreign.filter (fun f => decide (2 ≤ f.n ∧ s.clk.ticks < f.step + win))).map (·.ann)
  match l with
  | [] => none
  | h :: r => some (r.foldl (fun b a => if annBetter a p b p then a else b) h)
/-- The best over the ports, with its port. -/
def State.bestAll (s : State) : Option (PtpAnn × Nat) :=
  let l := [0, 1].filterMap (fun p => if s.inBmca p then (s.bestOf p).map (fun a => (a, p)) else none)
  match l with
  | [] => none
  | h :: r => some (r.foldl (fun b a => if annBetter a.1 a.2 b.1 b.2 then a else b) h)

/-- Port states of IEEE 1588-2019. -/
abbrev psDisabled : Nat := 3
abbrev psListening : Nat := 4
abbrev psMaster : Nat := 6
abbrev psPassive : Nat := 7
abbrev psSlave : Nat := 9

/-- The state decision of the BMCA for a port. -/
def decidePort (s : State) (p : Nat) : Nat :=
  let own := s.ownSet
  let now := s.get (F.ptpPortState_PORT_STATE p)
  let master := if own.cls = 255 then psListening else psMaster
  match s.bestAll with
  | none => if now = psDisabled ∨ now = psListening then (if s.clk.ticks < (s.pp p).annDue then psListening else master) else master
  | some (b, q) =>
    if own.cls.toNat < 128 then
      match s.bestOf p with
      | some e => if annBetter own 0 e p then psMaster else psPassive
      | none => psMaster
    else if annBetter own 0 b q then master
    else if p = q then psSlave
    else match s.bestOf p with
      | some e => if e.gm = b.gm then psPassive else master
      | none => master

/-! ## Clock state (R431, R433) -/

/-- The clock enters a state (Table 12.4); PTP_STATE is raised. -/
def setClock (st : Nat) (s : State) : State :=
  let old := s.get F.ptpStatus_STATE
  if old = st then s
  else
    let s1 := s.set F.ptpStatus_STATE st
    let s2 := if st = 2 then s1 else (s1.set F.ptpStatus_LOCKED 0).updPtp (fun x => { x with good := 0, bad := 0 })
    let sp := if s2.getB F.ptpStatus_SLAVE then s2.get F.ptpStatus_SLAVE_PORT else 0xFF
    s2.raise 0x0906 (if st = 3 then sevWarn else sevInfo) 0 ptpNoPort [(16, 1, st), (17, 1, old), (18, 1, sp)]

/-- The port whose master the clock follows changes: SLAVE, SLAVE_PORT, MASTER_ID and the clock state follow. -/
def followPort (p : Option Nat) (s : State) : State :=
  let stepped := s.getB F.ptpStatus_STEPPED
  let st := s.get F.ptpStatus_STATE
  match p with
  | some q =>
    let id := match (s.pp q).parent with | some (i, _) => i.toNat | none => 0
    let s1 := ((s.set F.ptpStatus_SLAVE 1).set F.ptpStatus_SLAVE_PORT q).set64 A.ptpMasterIdLo id
    if st = 0 then setClock (if stepped then 3 else 1) s1 else s1
  | none =>
    let s1 := s.set F.ptpStatus_SLAVE 0
    if s.clockKind = 0 then setClock 0 s1
    else if st = 1 then setClock 0 (s1.updPtp (fun x => { x with step := match x.step with | some (_, true) => none | y => y }))
    else if st = 2 then setClock 3 s1 else s1

/-- The roles of both ports are formed afresh (R426, R427): after a change of configuration, of a master or a receipt time-out. -/
def ptpRoles (s : State) : State :=
  let s0 := s.setB F.ptpStatus_CLOCK_ERR (s.clockKind != s.get F.ptpCfg_CLOCK)
  let s1 := forEach [0, 1] (fun p t =>
    let st := if !t.ptpOn p then psDisabled else if t.portMode p = 2 then psMaster else if t.isTc then t.get (F.ptpPortState_PORT_STATE p)
      else decidePort t p
    let t1 := if t.get (F.ptpPortState_PORT_STATE p) = psDisabled ∧ t.inBmca p then
        t.updPp p (fun x => { x with annDue := t.annEnd p })
      else t
    let st := if t.get (F.ptpPortState_PORT_STATE p) = psDisabled ∧ t.inBmca p then psListening else st
    let parent := if st = psSlave then (t.bestOf p).map (fun a => (a.src, a.srcPort)) else if t.isTc then (t.pp p).parent else none
    let t2 := t1.updPp p (fun x =>
      if x.parent = parent then x
      else { x with parent := parent, sync := none, last := none
                    syncDue := t.clk.ticks + t.ivTicks (t.get (F.ptpPortCfg_SYNC_TMO p)) (t.logOf (F.ptpPortCfg_LOG_SYNC p))
                    annDue := if parent.isSome then t.annEnd p else x.annDue })
    t2.set (F.ptpPortState_PORT_STATE p) st) s0
  followPort ([0, 1].find? (fun p => (s1.pp p).parent.isSome)) s1

/-! ## The servo (R432 to R437) -/

/-- RATE_MAX in 2^-32 ppb. -/
def State.rateMax (s : State) : Int := (s.reg A.ptpRateMax).toNat * 2 ^ 32
/-- A step of the clock is held while a group is MOVING, or in HAULDOWN or BACKSTAY (R424). -/
def State.stepHeld (s : State) : Bool :=
  (upto 32).any (fun g => s.gst g == gMoving) || s.mode == mHauldown || s.mode == mBackstay
/-- Asks for a step of the clock by an amount in 2^-16 ns; `first` marks the first-lock step. -/
def askStep (amount : Int) (first : Bool) (s : State) : State :=
  (s.updPtp (fun x => { x with step := some (amount, first) })).setB F.ptpStatus_STEP_PENDING s.stepHeld

/-- An offset is fed to the servo (R432, R433). -/
def servo (p : Nat) (o : Int) (s : State) : State :=
  let x := s.net.ptp
  let perS := o * 2 ^ (-(s.logOf (F.ptpPortCfg_LOG_SYNC p))).toNat
  let mx := s.rateMax
  let i := clampI (-mx) mx (x.integ + s.get F.ptpServo_KI * perS)
  let r := clampI (-mx) mx (-(s.get F.ptpServo_KP * perS + i))
  let incr := (rdiv (5 * 2 ^ 31 * (1000000000 * 2 ^ 32 + r)) (1000000000 * 2 ^ 32)).toNat
  let thr := (s.reg A.ptpLockThresh).toNat * 2 ^ 16
  let within := decide (o.natAbs ≤ thr)
  let good := if within then x.good + 1 else 0
  let bad := if within then 0 else x.bad + 1
  let lock := if 8 ≤ good then true else if 4 ≤ bad then false else s.getB F.ptpStatus_LOCKED
  let s1 := s.updPtp (fun y => { y with integ := i, rate := r, good := good, bad := bad })
  let s2 := { s1 with clk := { s1.clk with incrNext := some incr } }
  (s2.setI ⟨A.ptpRate, 31, 0⟩ (qdiv r (2 ^ 32))).setB F.ptpStatus_LOCKED lock

/-- An offset is measured on a port (R431, R434, R436, R437). -/
def ptpOffset (p : Nat) (o : Int) (s : State) : State :=
  let s0 := s.setReg A.ptpOffset (BitVec.ofInt 32 (satI 32 (qdiv o 65536)))
  let st := s.get F.ptpStatus_STATE
  let x := s.net.ptp
  let limit := (s.reg A.ptpStepLimit).toNat * 65536
  if st = 0 then s0
  else
    let s1 := if st = 3 then setClock 2 s0 else s0
    if x.step.isSome then s1
    else if st = 1 ∨ x.authDue.isSome then
      askStep (-o) (st == 1) ((s1.set F.ptpStatus_AUTH 0).updPtp (fun y => { y with authDue := none }))
    else if x.hold.isSome then s1
    else if limit < o.natAbs ∧ !x.byRate then
      let s2 := (s1.flag F.ptpStatus_STEP_REFUSED).updPtp (fun y => { y with refused := true })
      whenB (!x.refused) (fun t => t.raise 0x0907 sevWarn 0 (ptpPlace p) [(24, 8, wrapN 64 (qdiv o 65536))]) s2
    else
      servo p o (s1.updPtp (fun y => { y with refused := false, byRate := y.byRate && decide (limit < o.natAbs) }))

/-- A Sync, complete with its origin time, is used: o := t2 - t1 - c - D. -/
def syncUse (p : Nat) (t1 t2 c : Int) (s : State) : State :=
  let s1 := s.updPp p (fun x => { x with last := some (t1, t2, c) })
  match s1.net.ptp.d with
  | some d => ptpOffset p (t2 - t1 - c - d) s1
  | none => s1

/-- A message counts in RX_PTP; it is used when its domain is the module's and PTP runs on the port. -/
def State.ptpRx (s : State) (p : Nat) : State := if s.portMode p = 0 then s else s.bump (F.netPortRxPtp_COUNT p)
def State.ptpTakes (s : State) (p : Nat) (domain : BitVec 8) : Bool :=
  s.ptpOn p && domain.toNat == s.get F.ptpCfg_DOMAIN

/-- A transparent clock forwards a message on the other port with its correction (R428). -/
def ptpForward (p kind : Nat) (seq : BitVec 16) (corr : Int) (s : State) : State :=
  (s.updPp (1 - p) (fun x => { x with sent := some (kind, seq.toNat, corr) })).bump (F.netPortTxFrames_COUNT (1 - p))

/-- A port sends `n` frames of a message. -/
def ptpSend (p kind : Nat) (seq : Nat) (corr : Int) (n : Nat) (s : State) : State :=
  (s.updPp p (fun x => { x with sent := some (kind, seq, corr) })).set (F.netPortTxFrames_COUNT p)
    (s.get (F.netPortTxFrames_COUNT p) + n)

/-- Message kinds. -/
abbrev kSync : Nat := 0
abbrev kDelayReq : Nat := 1
abbrev kPdelayReq : Nat := 2
abbrev kPdelayResp : Nat := 3
abbrev kFollowUp : Nat := 8
abbrev kDelayResp : Nat := 9
abbrev kAnnounce : Nat := 11

/-- A receipt time-out: the master on the port expires, and the Announce receipt timer starts anew (R430). -/
def masterExpire (p : Nat) (s : State) : State :=
  let gone := (s.pp p).parent
  let s1 := s.updPp p (fun x => { x with
    foreign := x.foreign.filter (fun f => gone.isSome && gone != some (f.ann.src, f.ann.srcPort)), parent := if s.isTc then none else x.parent })
  (ptpRoles s1).updPp p (fun x => { x with annDue := s.annEnd p })
def announceTimeout (p : Nat) (s : State) : State :=
  if !s.inBmca p ∨ s.clk.ticks < (s.pp p).annDue ∨ s.get (F.ptpPortState_PORT_STATE p) = psMaster then s else masterExpire p s
def syncTimeout (p : Nat) (s : State) : State :=
  if (s.pp p).parent.isNone ∨ s.clk.ticks < (s.pp p).syncDue then s else masterExpire p s

def meanOf (l : List Int) : Int := qdiv l.sum l.length
/-- D in Q24.8 ns. -/
def q8 (d : Int) : Nat := wrapN 32 (qdiv d 256)
def setD (d : Int) (s : State) : State :=
  (s.updPtp (fun x => { x with d := some d })).set F.ptpPathDelay_PATH_DELAY (q8 d)

/-- The path hold expires (R436). -/
def pathHoldExpire (s : State) : State :=
  match s.net.ptp.hold with
  | none => s
  | some h =>
    if s.clk.ticks < h.due then s
    else if h.aside.length < 4 then
      s.updPtp (fun y => { y with hold := some { h with due := s.clk.ticks + s.ivTicks (s.get F.ptpPath_PATH_HOLD) 0 } })
    else
      let old := s.net.ptp.d.getD 0
      let d := meanOf h.aside
      let s1 := setD d (s.updPtp (fun y => { y with hold := none, meas := h.aside.drop (h.aside.length - 8), byRate := true }))
      (s1.set F.ptpStatus_PATH_HOLD 0).raise 0x0909 sevInfo 0 ptpNoPort [(16, 4, q8 d), (20, 4, q8 old)]

/-- A request has gone 1 s without a response (R430). -/
def delayTimeout (p : Nat) (s : State) : State :=
  match (s.pp p).req with
  | some (_, _, due) =>
    if s.clk.ticks < due then s
    else (s.updPp p (fun x => { x with req := none })).bumpSat (F.ptpPortState_DELAY_MISSED p)
  | none => s

/-- The step in which a message received now arrives: it was not there at the start of the present one (R48). -/
def State.ptpStep (s : State) : Nat := s.clk.ticks + 1
/-- What has expired in the present step has expired before a message of the next one (R47). -/
def ptpExpire (p : Nat) (s : State) : State := pathHoldExpire (delayTimeout p (announceTimeout p (syncTimeout p s)))

/-- SYNC: received on a port; `egress` is the egress timestamp a transparent clock takes (R428, R430, R432). -/
def ptpSync (p : Nat) (m : PtpMsg) (egress : W64) (was : State) : State :=
  let s := ptpExpire p was
  let s0 := s.ptpRx p
  if !s.ptpTakes p m.domain then s0
  else
    let t2 := s.rxTime p m.stamp
    let s1 := if s.isTc then
        let s1 := s0.updPp p (fun x => { x with parent := some (m.src, m.srcPort) })
        let s1 := followPort (some p) s1
        let res := s.txTime (1 - p) egress - t2
        let link := if s.clockKind = 3 then (s.net.ptp.d).getD 0 else 0
        ptpForward p kSync m.seq (m.corr.toInt + link + (if m.twoStep then 0 else res)) s1
      else s0
    if (s1.pp p).parent ≠ some (m.src, m.srcPort) then s1
    else
      let s2 := s1.updPp p (fun x => { x with
        sync := if m.twoStep then some m else none
        syncDue := s.ptpStep + s.ivTicks (s.get (F.ptpPortCfg_SYNC_TMO p)) (s.logOf (F.ptpPortCfg_LOG_SYNC p)) })
      if m.twoStep then s2 else syncUse p (m.time.toNat * 65536) t2 m.corr.toInt s2

/-- FOLLOW_UP: it completes the Sync of its sequence number; a transparent clock adds the Sync's residence time to it. -/
def ptpFollowUp (p : Nat) (m : PtpMsg) (residence : W64) (was : State) : State :=
  let s := ptpExpire p was
  let s0 := s.ptpRx p
  if !s.ptpTakes p m.domain then s0
  else
    let s1 := if s.isTc then ptpForward p kFollowUp m.seq (m.corr.toInt + residence.toNat) s0 else s0
    match (s.pp p).sync with
    | some y =>
      if y.seq = m.seq ∧ y.src = m.src ∧ y.srcPort = m.srcPort then
        syncUse p (m.time.toNat * 65536) (s.rxTime p y.stamp) (y.corr.toInt + m.corr.toInt) (s1.updPp p (fun x => { x with sync := none }))
      else s1
    | none => s1

/-- PTP_ANNOUNCE: the foreign masters follow, at most 8 of them (R427). -/
def ptpAnnounce (p : Nat) (a : PtpAnn) (was : State) : State :=
  let s := ptpExpire p was
  let s0 := s.ptpRx p
  if !s.ptpTakes p a.domain then s0
  else if s.isTc then ptpForward p kAnnounce 0 0 s0
  else if !s.inBmca p ∨ a.src = s.clockId then s0
  else
    let win := s.ivTicks 4 (s.logOf (F.ptpPortCfg_LOG_ANN p))
    let l := (s.pp p).foreign
    let now := s.ptpStep
    let same (f : Foreign) : Bool := f.ann.src == a.src && f.ann.srcPort == a.srcPort
    let fresh : Foreign := { ann := a, n := 1, step := now }
    let l' := if l.any same then l.map (fun f => if same f then { ann := a, n := if now < f.step + win then f.n + 1 else 1, step := now } else f)
      else if l.length < 8 then l ++ [fresh]
      else
        match l with
        | [] => [fresh]
        | h :: r =>
          let worst := r.foldl (fun w f => if annBetter w.ann p f.ann p then f else w) h
          if annBetter a p worst.ann p then (l.filter (fun f => f != worst)) ++ [fresh] else l
    let mine := (s.pp p).parent == some (a.src, a.srcPort) || (s.pp p).parent.isNone
    let s1 := s0.updPp p (fun x => { x with
      foreign := l'
      annDue := if mine then now + s.ivTicks (s.get (F.ptpPortCfg_ANN_TMO p)) (s.logOf (F.ptpPortCfg_LOG_ANN p)) else x.annDue })
    ptpRoles s1

/-! ## Path delay (R435, R436) -/

/-- A path-delay measurement. -/
def pathMeasure (p : Nat) (m : Int) (s : State) : State :=
  let x := s.net.ptp
  let accept (t : State) : State :=
    let l := (x.meas ++ [m]).drop (x.meas.length + 1 - 8)
    setD (meanOf l) (t.updPtp (fun y => { y with meas := l }))
  match x.d with
  | none => accept s
  | some d =>
    let dev := (m - d).natAbs
    let limit := s.get F.ptpPath_PATH_STEP_LIMIT * 65536
    match x.hold with
    | some h =>
      if dev ≤ limit then
        ((s.updPtp (fun y => { y with hold := none })).set F.ptpStatus_PATH_HOLD 0).raise 0x090A sevInfo 0 (ptpPlace p) [(16, 4, q8 d)]
      else s.updPtp (fun y => { y with hold := some { h with aside := h.aside ++ [m] } })
    | none =>
      if dev ≤ limit then accept s
      else
        let bound := satN 32 (qdiv dev 65536).toNat
        let s1 := s.updPtp (fun y => { y with
          hold := some { due := s.ptpStep + s.ivTicks (s.get F.ptpPath_PATH_HOLD) 0, aside := [m] } })
        (((s1.set F.ptpStatus_PATH_HOLD 1).flag F.ptpStatus_ASYM).set F.ptpAsymBound_ASYM_BOUND bound).raise 0x0908 sevWarn 0 (ptpPlace p)
          [(16, 4, bound), (20, 4, q8 m)]

/-- DELAY_REQ: a master answers it, a transparent clock forwards it with its residence time (R428). -/
def delayReq (p : Nat) (m : PtpMsg) (egress : W64) (s : State) : State :=
  let s0 := s.ptpRx p
  if !s.ptpTakes p m.domain then s0
  else if s.isTc then ptpForward p kDelayReq m.seq (m.corr.toInt + (s.txTime (1 - p) egress - s.rxTime p m.stamp)) s0
  else if s.get (F.ptpPortState_PORT_STATE p) = psMaster ∧ !s.getB (F.ptpPortCfg_P2P p) then ptpSend p kDelayResp m.seq.toNat m.corr.toInt 1 s0
  else s0

/-- DELAY_RESP: `m.time` is the time at which the master received the request. -/
def delayResp (p : Nat) (m : PtpMsg) (was : State) : State :=
  let s := ptpExpire p was
  let s0 := s.ptpRx p
  if !s.ptpTakes p m.domain then s0
  else
    let s1 := if s.isTc then ptpForward p kDelayResp m.seq m.corr.toInt s0 else s0
    match (s.pp p).req, (s.pp p).last with
    | some (q, t3, _), some (t1, t2, c) =>
      if q ≠ m.seq ∨ s.getB (F.ptpPortCfg_P2P p) then s1
      else
        let meas := qdiv ((t2 - t1 - c) + ((m.time.toNat : Int) * 65536 - t3 - m.corr.toInt)) 2
        pathMeasure p meas (s1.updPp p (fun x => { x with req := none }))
    | _, _ => s1

/-- PDELAY_REQ: answered on every peer-delay port; an end-to-end transparent clock forwards it. -/
def pdelayReq (p : Nat) (m : PtpMsg) (egress : W64) (s : State) : State :=
  let s0 := s.ptpRx p
  if !s.ptpTakes p m.domain then s0
  else if s.isTc ∧ s.clockKind = 2 then ptpForward p kPdelayReq m.seq (m.corr.toInt + (s.txTime (1 - p) egress - s.rxTime p m.stamp)) s0
  else if s.clockKind = 3 ∨ s.getB (F.ptpPortCfg_P2P p) then ptpSend p kPdelayResp m.seq.toNat m.corr.toInt 2 s0
  else s0

/-- PDELAY_RESP: `m.time` is the time at which the peer received the request, `t3` the time at which it answered, in ns; an end-to-end
transparent clock forwards it with its residence time. -/
def pdelayResp (p : Nat) (m : PtpMsg) (t3 egress : W64) (was : State) : State :=
  let s := ptpExpire p was
  let s0 := s.ptpRx p
  if !s.ptpTakes p m.domain then s0
  else
    let s1 := if s.isTc ∧ s.clockKind = 2 then ptpForward p kPdelayResp m.seq (m.corr.toInt + (s.txTime (1 - p) egress - s.rxTime p m.stamp)) s0 else s0
    match (s.pp p).req with
    | some (q, t1, _) =>
      if q ≠ m.seq ∨ !(s.clockKind == 3 || s.getB (F.ptpPortCfg_P2P p)) then s1
      else
        let turn := ((t3.toNat : Int) - m.time.toNat) * 65536
        let meas := qdiv (s.rxTime p m.stamp - t1 - turn - m.corr.toInt) 2
        pathMeasure p meas (s1.updPp p (fun x => { x with req := none }))
    | none => s1

/-- PTP_TRANSMIT: an interval of a port has expired; kind 0 Sync, 1 Announce, 2 a delay request (R426). -/
def ptpTransmit (p kind : Nat) (stamp : W64) (s : State) : State :=
  let x := s.pp p
  let st := s.get (F.ptpPortState_PORT_STATE p)
  let peer := s.getB (F.ptpPortCfg_P2P p) || s.clockKind == 3
  let log := s.logOf (if kind = 0 then F.ptpPortCfg_LOG_SYNC p else if kind = 1 then F.ptpPortCfg_LOG_ANN p else F.ptpPortCfg_LOG_DELAY p)
  let may := s.ptpOn p && s.linkUp p && (if kind = 2 then (peer && s.portMode p == 1) || x.parent.isSome else st == psMaster)
  if !may ∨ s.clk.ticks < x.txDue.getD kind 0 then s
  else
    let seq := x.seqs.getD kind 0 % 65536
    let s1 := s.updPp p (fun y => { y with
      txDue := y.txDue.set kind (s.clk.ticks + s.ivTicks 1 log), seqs := y.seqs.set kind (seq + 1)
      req := if kind = 2 then some (BitVec.ofNat 16 seq, s.txTime p stamp, s.clk.ticks + s.ivTicks 1 0) else y.req })
    let code := if kind = 0 then kSync else if kind = 1 then kAnnounce else if peer then kPdelayReq else kDelayReq
    ptpSend p code seq 0 (if kind = 0 ∧ !s.getB (F.ptpPortCfg_ONE_STEP p) then 2 else 1) s1

/-- The authorisation of a step lapses 2 s after it was given (R434). -/
def authLapse (s : State) : State :=
  match s.net.ptp.authDue with
  | some due => if s.clk.ticks < due then s else (s.set F.ptpStatus_AUTH 0).updPtp (fun x => { x with authDue := none })
  | none => s

/-- Reasons of R457; RESULT [23:0] are 0. -/
def netReply (r clamps : Nat) : Reply := why r 0 clamps

def opPtpStep (d : Desc) (s : State) : State × Reply :=
  let st := s.get F.ptpStatus_STATE
  if d.fb 1 0 then
    if (st = 0 ∨ st = 3) ∧ !s.getB F.ptpStatus_SLAVE then (askStep (d.i 2 * 65536) false s, netReply 0 0) else (s, netReply 2 0)
  else if st = 0 then (s, netReply 2 0)
  else ((s.set F.ptpStatus_AUTH 1).updPtp (fun x => { x with authDue := some (s.clk.ticks + s.ivTicks 2 0) }), netReply 0 0)

/-! ## Compare and timed launch (R438 to R441) -/

def State.updNet (s : State) (f : NetSt → NetSt) : State := { s with net := f s.net }
def Timed.time : Timed → Nat
  | .compare c => c.target
  | .frame f => f.launch.getD 0

/-- CMP_STATUS shows the pending entries and the armed units. -/
def cmpRefresh (s : State) : State :=
  let armed := ((upto 8).map (fun c => if (Table.look none s.net.units c).isSome then 2 ^ c else 0)).sum
  (s.set F.ptpCmpStatus_PENDING s.net.pendList.length).set F.ptpCmpStatus_ARMED armed

/-- Whether the low 32 bits of local time have reached those of a target (R439). -/
def reached (s : State) (target : Nat) : Bool := decide (0 ≤ cdiff (BitVec.ofNat 32 s.nowNs) (BitVec.ofNat 32 target))

/-- Arms one entry of the pending list, in the lowest free unit or launch slot. -/
def armOne (e : Timed) (s : State) : State :=
  let s1 := s.updNet (fun y => { y with pendList := y.pendList.erase e })
  match e with
  | .compare c =>
    match (upto 8).find? (fun k => (Table.look none s.net.units k).isNone) with
    | some k => s1.updNet (fun y => { y with units := Table.put none k (some (c, reached s c.target)) y.units })
    | none => s
  | .frame f =>
    match (upto 4).find? (fun k => (Table.look none s.net.launch (4 * f.port + k)).isNone) with
    | some k => s1.updNet (fun y => { y with launch := Table.put none (4 * f.port + k) (some f) y.launch })
    | none => s
/-- Arms the entries due within 1 s, earliest first (R438). -/
def armAll : Nat → State → State
  | 0, s => s
  | n + 1, s =>
    let due := s.net.pendList.filter (fun e => decide (e.time ≤ s.nowNs + 1000000000) &&
      (match e with
        | .compare _ => (upto 8).any (fun c => (Table.look none s.net.units c).isNone)
        | .frame f => (upto 4).any (fun k => (Table.look none s.net.launch (4 * f.port + k)).isNone)))
    match due with
    | [] => s
    | h :: r => armAll n (armOne (r.foldl (fun b x => if x.time < b.time then x else b) h) s)
def compareArm (s : State) : State := cmpRefresh (armAll 64 s)

/-- A step of the clock returns every armed target and slot to the pending list (R439). -/
def disarmAll (s : State) : State :=
  let cs := s.net.units.filterMap (fun e => e.2.map (fun c => Timed.compare c.1))
  let fs := s.net.launch.filterMap (fun e => e.2.map Timed.frame)
  cmpRefresh (s.updNet (fun y => { y with pendList := y.pendList ++ cs ++ fs, units := [], launch := [] }))

/-- TIME_COMPARE_FIRE: an armed unit whose target local time has reached (R439, R440). -/
def compareFire (c : Nat) (s : State) : State :=
  match Table.look none s.net.units c with
  | none => s
  | some (t, late) =>
    if !reached s t.target then s
    else
      let s1 := s.updNet (fun y => { y with units := Table.put none c none y.units
                                            pendList := if t.period = 0 then y.pendList else y.pendList ++ [.compare { t with target := t.target + t.period }] })
      (cmpRefresh s1).raise 0x090C sevInfo 0 ptpNoPort [(16, 2, t.id), (18, 1, if late then 1 else 0), (24, 8, t.target)]

def opTimeCompare (d : Desc) (s : State) : State × Reply :=
  let per := cN0 1000000 (2 ^ 40) (d.n 3)
  let cl := clampMask [(3, per.hit)]
  if 64 ≤ s.net.pendList.length then (s, netReply 3 cl)
  else
    let c : Compare := { id := d.f 1 31 16, target := d.n 2, period := per.val }
    (cmpRefresh (s.updNet (fun y => { y with pendList := y.pendList ++ [.compare c] })), netReply 0 cl)
def opTimeCompareCancel (d : Desc) (s : State) : State × Reply :=
  let id := d.f 1 31 16
  let per := cN0 1000000 (2 ^ 40) (d.n 3)
  let keep (e : Timed) : Bool := match e with | .compare c => c.id != id | .frame _ => true
  let unit (k : Nat) (y : NetSt) : NetSt :=
    match Table.look none y.units k with
    | some (c, _) => if c.id = id then { y with units := Table.put none k none y.units } else y
    | none => y
  let s1 := forEach (upto 8) (fun k t => t.updNet (unit k)) (s.updNet (fun y => { y with pendList := y.pendList.filter keep }))
  (cmpRefresh s1, netReply 0 (clampMask [(3, per.hit)]))

/-! ## Transmission and transmit timestamps (R441 to R443) -/

/-- The timestamp registers show the oldest ready entry. -/
def txtsRefresh (p : Nat) (s : State) : State :=
  let x := s.port p
  let s1 := (s.set (F.ptpPortTxtsStatus_AWAITING p) x.awaiting).set (F.ptpPortTxtsStatus_READY p) x.ready.length
  match x.ready with
  | [] => (s1.set (F.ptpPortTxtsId_STATUS p) 0).set (F.ptpPortTxtsId_ID p) 0
  | e :: _ => (s1.set (F.ptpPortTxtsId_STATUS p) e.status).set (F.ptpPortTxtsId_ID p) e.id

/-- A frame is accepted for transmission: with TS it takes a timestamp entry, or loses it (R442). -/
def takeEntry (f : TxFrame) (ts : Bool) (s : State) : TxFrame × State :=
  let p := f.port
  let x := s.port p
  if !ts then (f, s)
  else if x.awaiting + x.ready.length < 16 then
    ({ f with entry := true }, txtsRefresh p (s.updPort p (fun y => { y with awaiting := y.awaiting + 1 })))
  else
    let s1 := (s.flag (F.ptpPortTxtsStatus_DROP p)).bumpSat (F.ptpPortTxtsStatus_DROPS p)
    let s2 := if x.dropped then s1
      else (s1.updPort p (fun y => { y with dropped := true })).raise 0x090D sevWarn 0 (portPlace p)
        [(16, 1, p), (18, 2, s1.get (F.ptpPortTxtsStatus_DROPS p))]
    (f, s2)

/-- The timestamp entry of a frame on a port becomes ready. -/
def entryReady (p : Nat) (f : TxFrame) (status time : Nat) (s : State) : State :=
  if !f.entry then s
  else txtsRefresh p (s.updPort p (fun y => { y with
    awaiting := y.awaiting - 1, ready := y.ready ++ [{ id := f.tsId, status := status, time := time }] }))

/-- The frames of a port that hold a timestamp entry and have not been sent. -/
def State.entriesOut (s : State) (p : Nat) : Nat :=
  let pend := s.net.pendList.filterMap (fun e => match e with | .frame f => some f | .compare _ => none)
  let armed := s.net.launch.filterMap (·.2)
  countIf (fun (f : TxFrame) => f.port == p && f.entry) ((s.port p).sending ++ armed ++ pend)
/-- The transmit timestamp book of a port: every entry that awaits a timestamp has its frame, and no more than 16 are in use (R88, R442). -/
def State.stampBook (s : State) (p : Nat) : Bool :=
  (s.port p).awaiting == s.entriesOut p && decide ((s.port p).awaiting + (s.port p).ready.length ≤ 16)

/-- Bytes of a number in network order, the most significant first. -/
def beBytes (n v : Nat) : List Byte := (leBytes n v).reverse
/-- The 802.1Q tag of a frame that NE transmits on a port: none unless VLAN is set (R421). -/
def State.vlanTag (s : State) (p : Nat) : List Byte :=
  if s.getB (F.netPortCfg_VLAN p) then [0x81, 0x00] ++ beBytes 2 (s.get (F.netPortCfg_PCP p) * 2 ^ 13 + s.get (F.netPortCfg_VID p)) else []
/-- The frame that NE sent last on a port, as it leaves. -/
def sentFrame (p : Nat) (b : List Byte) (s : State) : State := s.updNet (fun y => { y with lastTx := Table.put [] p b y.lastTx })

/-- Whether a frame that crosses the MDI at a time, in 2^-16 ns, is late for its launch time: by more than 5 ns (R441). -/
def TxFrame.lateAt (f : TxFrame) (t : Int) : Bool :=
  match f.launch with | some l => decide (((l : Int) + 5) * 65536 < t) | none => false
/-- TX_TIMESTAMP: the port's next frame crosses the MDI, with a timestamp; a timed one may be late (R441, R443). -/
def txStamp (p : Nat) (stamp : W64) (s : State) : State :=
  match (s.port p).sending with
  | [] => s
  | f :: r =>
    let t := s.txTime p stamp
    let late := f.lateAt t
    let s1 := (s.updPort p (fun y => { y with sending := r })).bump (F.netPortTxFrames_COUNT p)
    let s2 := sentFrame p (f.data.take 12 ++ s.vlanTag p ++ f.data.drop 12) s1
    let s3 := whenB late (fun u => (u.bumpSat (F.netPortLate_LAUNCH_LATE p)).raiseAt (t / 65536).toNat 0x090E sevWarn 0 (portPlace p)
      [(16, 1, p), (24, 8, f.launch.getD 0)]) s2
    entryReady p f (if late then 1 else 0) (t.toNat * 2 ^ 16) s3

/-- TIMED_LAUNCH: the frame of a launch slot is started at its time, or, armed late, at once; it goes before other frames, after timed
ones that wait already (R441). -/
def timedLaunch (k : Nat) (s : State) : State :=
  match Table.look none s.net.launch k with
  | none => s
  | some f =>
    if s.nowNs + 5 < f.launch.getD 0 then s
    else
      let timed (x : TxFrame) : Bool := x.launch.isSome
      (s.updNet (fun y => { y with launch := Table.put none k none y.launch })).updPort f.port (fun y =>
        { y with sending := y.sending.takeWhile timed ++ f :: y.sending.dropWhile timed })

def opNetSend (d : Desc) (s : State) : State × Reply :=
  let p := d.f 1 0 0
  let len := cN 60 1514 (d.f 1 47 32)
  let timed := d.fb 1 2
  let cl := clampMask [(1, len.hit)]
  let data := (d.data ++ List.replicate len.val 0).take len.val
  let et := (data.getD 12 0).toNat * 256 + (data.getD 13 0).toNat
  let off := s.portMode p == 0 || !s.linkUp p || (s.portMode p == 2 && et == s.get F.netHalCfg_ETHERTYPE)
  if off then (s, netReply 4 cl)
  else if (if timed then 64 ≤ s.net.pendList.length else 16 ≤ (s.port p).sending.length) then (s, netReply 3 cl)
  else
    let (f, s1) := takeEntry { port := p, data := data, tsId := d.f 1 31 16, entry := false, launch := if timed then some (d.n 3) else none }
      (d.fb 1 1) s
    let s2 := if timed then cmpRefresh (s1.updNet (fun y => { y with pendList := y.pendList ++ [.frame f] }))
      else s1.updPort p (fun y => { y with sending := y.sending ++ [f] })
    (s2, netReply 0 cl)

/-- A link loss aborts every frame that awaits transmission on the port (R441, R443). -/
def abortFrames (p : Nat) (s : State) : State :=
  let pend := s.net.pendList.filterMap (fun e => match e with | .frame f => if f.port = p then some f else none | .compare _ => none)
  let armed := s.net.launch.filterMap (fun e => match e.2 with | some f => if f.port = p then some f else none | none => none)
  let all := (s.port p).sending ++ armed ++ pend
  let s1 := s.updNet (fun y => { y with
    pendList := y.pendList.filter (fun e => match e with | .frame f => f.port != p | .compare _ => true)
    launch := y.launch.filter (fun e => match e.2 with | some f => f.port != p | none => false) })
  cmpRefresh (all.foldl (fun t f => entryReady p f 2 0 t) (s1.updPort p (fun y => { y with sending := [] })))

/-- TXTS_ID_READ: answers the register and latches the entry's time (R443). -/
def txtsRead (p : Nat) (s : State) : State :=
  let t := match (s.port p).ready with | [] => 0 | e :: _ => e.time
  let s1 := (s.set64 (A.ptpPortTxtsTimeLo p) (t / 2 ^ 32)).setReg (A.ptpPortTxtsFrac p) (BitVec.ofNat 32 t)
  { s1 with host := { s1.host with readData := s.reg (A.ptpPortTxtsId p) } }
def txtsPop (p : Nat) (s : State) : State := txtsRefresh p (s.updPort p (fun y => { y with ready := y.ready.drop 1 }))

/-- NE's strobe: the rate of the servo takes effect, port roles follow the configuration (R423, R458, R459). -/
def netRate (s : State) : State :=
  match s.clk.incrNext with
  | none => s
  | some n =>
    let s1 : State := { s with clk := { s.clk with incr := n, incrNext := none } }
    (s1.setReg A.ptpIncrFrac (BitVec.ofNat 32 n)).set F.ptpIncrInt_INCR_INT (n / 2 ^ 32)

end Sys2Proof.Machine
end

