-- ==== Sys2Proof/Machine/Halyard.lean ====
section
/-!
DEFINITION. Ports and the Halyard link (spec/12_network_and_time.md R420 to R422, R444 to R457): node slots, joining and leaving,
the cyclic exchange, the planner engines' input buffers, the network report.
-/
namespace Sys2Proof.Machine

def State.node (s : State) (n : Nat) : Node := Table.look {} s.net.nodes n
def State.updNode (s : State) (n : Nat) (f : Node → Node) : State := s.updNet (fun x => { x with nodes := Table.upd {} n f x.nodes })

/-- Node slot states (Table 12.7). -/
abbrev nEmpty : Nat := 0
abbrev nSeeking : Nat := 1
abbrev nInvited : Nat := 2
abbrev nJoining : Nat := 3
abbrev nJoined : Nat := 4
abbrev nRefused : Nat := 5
def nodeFld (n : Nat) : Fld := ⟨A.netNodeState (n / 8), 4 * (n % 8) + 3, 4 * (n % 8)⟩
def State.nodeSt (s : State) (n : Nat) : Nat := s.get (nodeFld n)
/-- A node that exchanges cyclic data: JOINING or JOINED. -/
def State.onLink (s : State) (n : Nat) : Bool := s.nodeSt n == nJoining || s.nodeSt n == nJoined
/-- The configured slots, in number order. -/
def State.nodes (s : State) : List (Nat × NodeCfg) := s.net.nodes.filterMap (fun e => e.2.cfg.map (fun c => (e.1, c)))
/-- Places of node events (R460); one that concerns no slot carries NE block 2 itself. -/
def nodeBlock : Nat := 0x897F
def nodePlace (n : Nat) : Nat := if n < 64 then 0x8900 + n else 0x8A00 + (n - 64)

/-- The axes a node slot names. -/
def NodeCfg.axes (c : NodeCfg) : List Nat := (upto c.count).map (· + c.base)
/-- Whether every group that holds one of a slot's axes is IDLE. -/
def State.nodeIdle (s : State) (c : NodeCfg) : Bool := c.axes.all (fun a => s.axisIdle a)

/-! ## Load (R449) -/

def pad4 (n : Nat) : Nat := (n + 3) / 4 * 4
/-- The bytes of a node's OUTPUT section (Table 12.6). -/
def sectionLen (c : NodeCfg) : Nat := pad4 (4 + 8 * c.count + c.ioOut + (if c.tse then 32 else 0))
/-- Sections packed in order into frames of at most 1,500 bytes after the Ethernet header; the bytes of sections in each frame. -/
def packLens : List Nat → List Nat → List Nat
  | acc, [] => acc
  | [], x :: r => packLens [x] r
  | a :: acc, x :: r => if 16 + a + x ≤ 1500 then packLens ((a + x) :: acc) r else packLens (x :: a :: acc) r
def State.frameLens (s : State) (p : Nat) (secs : List Nat) : List Nat :=
  (packLens [0] secs).map (fun n => max 64 (18 + 16 + n + (if s.getB (F.netPortCfg_VLAN p) then 4 else 0)))
/-- The wire time of a frame of `b` bytes in tenths of a ns. -/
def State.wire (s : State) (p b : Nat) : Nat := (max 64 b + 20) * (if s.get (F.netPortStatus_SPEED p) = 0 then 32 else 80)
def replyLen (c : NodeCfg) : Nat := 50 + 24 * c.count + c.ioIn + (if c.tse then 32 else 0)
/-- The load of a port with the given slots, in tenths of a ns. -/
def State.loadOf (s : State) (p : Nat) (cs : List NodeCfg) : Nat :=
  ((s.frameLens p (cs.map sectionLen)).map (s.wire p)).sum + (cs.map (fun c => s.wire p (replyLen c))).sum
/-- The slots on the link of a port. -/
def State.linkNodes (s : State) (p : Nat) : List (Nat × NodeCfg) :=
  s.nodes.filter (fun e => s.onLink e.1 && (s.node e.1).port == p)
/-- The slots on the link of a port and one more node, in node-number order. -/
def State.linkWith (s : State) (p n : Nat) : List NodeCfg :=
  (s.nodes.filter (fun e => (s.onLink e.1 && (s.node e.1).port == p) || e.1 == n)).map (·.2)
def loadRefresh (s : State) : State :=
  let l (p : Nat) : Nat := if s.portMode p = 2 then satN 16 (s.loadOf p ((s.linkNodes p).map (·.2)) / 100) else 0
  (s.set F.netHalLoad_LOAD0 (l 0)).set F.netHalLoad_LOAD1 (l 1)

/-! ## I/O areas (R455) -/

def ceil8 (n : Nat) : Nat := (n + 7) / 8 * 8
/-- The offsets of a node in its owner's areas: those of the owner's nodes of lower number come before it, each rounded up to 8 bytes. -/
def State.ioOffsets (s : State) (n : Nat) (c : NodeCfg) : Nat × Nat :=
  let mine := s.nodes.filter (fun e => e.2.owner == c.owner && decide (e.1 < n))
  ((mine.map (fun e => ceil8 e.2.ioIn)).sum, (mine.map (fun e => ceil8 e.2.ioOut)).sum)
def State.ioFits (s : State) (n : Nat) (c : NodeCfg) : Bool :=
  c.owner == 0xFF || (let (i, o) := s.ioOffsets n c; decide (i + c.ioIn ≤ 0xC00 ∧ o + c.ioOut ≤ 0x400))

/-! ## Leaving (R452) -/

/-- A JOINED or JOINING node leaves with a cause of Table 12.8. -/
def nodeLeave (n cause : Nat) (s : State) : State :=
  match (s.node n).cfg with
  | none => s
  | some c =>
    if !s.onLink n then s
    else
      let s1 := s.set (nodeFld n) (if c.rejoin then nSeeking else nRefused)
      let s2 := s1.updNode n (fun x => { x with leftBy := cause, fresh := none, old := none, invite := false, seenIn := none, tseNew := false })
      let s3 := s2.raise 0x0903 (if s.nodeIdle c then sevWarn else sevFault) 0 (nodePlace n) [(16, 1, cause), (24, 8, (s.node n).lastTick)]
      let s4 := forEach c.axes (fun a t => (loopFault a 4 2 0 t).updAxis a (fun x => { x with left := true })) s3
      loadRefresh s4

/-- Every node on a port leaves. -/
def portLeave (p cause : Nat) (s : State) : State := forEach ((s.linkNodes p).map (·.1)) (fun n t => nodeLeave n cause t) s

/-- LINK_CHANGE: a port's link goes up, down or changes speed (R422, R441, R449). -/
def linkChange (p : Nat) (up : Bool) (speed : Nat) (s : State) : State :=
  let was := s.linkUp p
  if s.portMode p = 0 ∨ (was = up ∧ (!up ∨ s.get (F.netPortStatus_SPEED p) = speed)) then s
  else
    let slow := up && s.portMode p == 2 && speed == 2
    let s1 := ((s.setB (F.netPortStatus_LINK p) up).set (F.netPortStatus_SPEED p) speed).setB (F.netPortStatus_LINK_SLOW p) slow
    let s2 := if was ∧ !up then abortFrames p (s1.flag (F.netPortStatus_LINK_LOSS p)) else s1
    let s3 := if s.portMode p = 2 ∧ was ∧ !up then portLeave p 2 s2 else if slow then portLeave p 6 s2 else s2
    (loadRefresh s3).raise 0x0905 sevWarn 0 (portPlace p) [(16, 1, p), (17, 1, if up then 1 else 0), (18, 1, speed)]

/-- A new role of a port takes effect (R421, R422): every node on it leaves with cause 3; an off port has no link. -/
def portRole (p mode : Nat) (s : State) : State :=
  if s.portMode p = mode then s
  else
    let s1 := (portLeave p 3 s).set (F.netPortCfg_MODE p) mode
    let s2 := if mode = 0 then abortFrames p ((s1.set (F.netPortStatus_LINK p) 0).set (F.netPortStatus_LINK_SLOW p) 0) else s1
    let slow := mode == 2 && s2.linkUp p && s2.get (F.netPortStatus_SPEED p) == 2
    loadRefresh (s2.setB (F.netPortStatus_LINK_SLOW p) slow)

/-- RX_FRAME: a frame that the classification drops (Table 12.1). -/
def rxFrame (p : Nat) (err : Bool) (s : State) : State :=
  if s.portMode p = 0 then s
  else if err then s.bump (F.netPortRxErr_COUNT p) else s.bump (F.netPortRxOther_COUNT p)

/-! ## Joining (R450, R451) -/

/-- A received frame with the Halyard EtherType is counted (Table 12.1). -/
def State.halRx (s : State) (p : Nat) : State :=
  match s.portMode p with
  | 0 => s
  | 1 => s.bump (F.netPortRxOther_COUNT p)
  | _ => s.bump (F.netPortRxHal_COUNT p)
/-- How many Halyard steps after the present tick's an arrival counts in: one after the cutoff, else none (R37, R48). -/
def State.halLate (s : State) : Nat := if (s.eng 24).cutPassed then 1 else 0
/-- The Halyard step in which an arrival of the present cycle counts. -/
def State.halStep (s : State) : Nat := s.clk.ticks + s.halLate
/-- Whether a timer that expires in a step has expired: the step of a tick is taken at its cutoff (R47, R49). -/
def State.halDue (s : State) (due : Nat) : Bool := decide (due < s.halStep)

/-- The group address of OUTPUT and DISCOVER frames (R445). -/
abbrev halGroup : Nat := 0x03E9A0484C00
/-- The Ethernet header of a Halyard frame that NE sends on a port: destination, the port's MAC address, the tag, the EtherType. -/
def State.halEther (s : State) (p dst : Nat) : List Byte :=
  beBytes 6 dst ++ beBytes 6 ((s.reg (A.netPortMacLo p)).toNat + s.get (F.netPortMacHi_MAC p) * 2 ^ 32) ++ s.vlanTag p ++
    beBytes 2 (s.get F.netHalCfg_ETHERTYPE)

/-- NODE_REFUSED: a slot has refused its node, with the load that the node gives. -/
def refuseEvent (n cause load : Nat) (s : State) : State := s.raise 0x0904 sevWarn 0 (nodePlace n) [(16, 1, cause), (20, 4, load)]
/-- A slot is refused; NODE_REFUSED follows a new cause. -/
def nodeRefuse (n cause load : Nat) (s : State) : State :=
  let s1 := (s.set (nodeFld n) nRefused).updNode n (fun x => { x with refused := cause, invite := false })
  whenB ((s.node n).refused != cause) (refuseEvent n cause load) s1

/-- A node matched to a slot is checked. -/
def nodeCheck (n p : Nat) (a : HalAnnounce) (s : State) : State :=
  match (s.node n).cfg with
  | none => s
  | some c =>
    let s1 := s.updNode n (fun x => { x with
      mac := a.mac.toNat, port := p, axes := a.axes.toNat, caps := a.caps.toNat, serial := a.serial.toNat
      seenIn := some s.halStep, invite := false })
    let cs := s.linkWith p n
    let load := s.loadOf p cs
    let lens := s.frameLens p (cs.map sectionLen)
    if a.axes.toNat < c.count ∨ a.ioIn.toNat < c.ioIn ∨ a.ioOut.toNat < c.ioOut ∨ (c.tse ∧ !bit a.caps 0) then
      nodeRefuse n 0 (load / 10) s1
    else if 20 * s.get F.clkHalCutAct_CUT_ACT < load ∨ 4 < lens.length then nodeRefuse n 1 (load / 10) s1
    else if !s.ioFits n c then nodeRefuse n 2 (load / 10) s1
    else s1.updNode n (fun x => { x with invite := true })

/-- ANNOUNCE: a Halyard ANNOUNCE received on a port. -/
def halAnnounce (p : Nat) (a : HalAnnounce) (s : State) : State :=
  let s0 := s.halRx p
  let mac := a.mac.toNat
  -- a LEAVE of the node in this step takes effect over its other arrivals
  if s.portMode p ≠ 2 ∨ s.nodes.any (fun e => (s.node e.1).mac == mac && (s.node e.1).leftIn == some s.halStep) then s0
  else
    -- a node that is on the link and announces itself leaves first
    let s1 := forEach (((s0.linkNodes p).filter (fun e => (s0.node e.1).mac == mac)).map (·.1)) (fun n t => nodeLeave n 5 t) s0
    let open' (n : Nat) (c : NodeCfg) : Bool :=
      (s1.nodeSt n == nSeeking || s1.nodeSt n == nRefused) && (c.port == p || c.port == 2) && c.vendor == a.vendor.toNat &&
        c.product == a.product.toNat && (c.serial == 0 || c.serial == a.serial.toNat)
    let cand := s1.nodes.filter (fun e => open' e.1 e.2)
    match cand with
    | [] =>
      let old := s1.net.seenMacs.find? (fun e => e.1 == mac)
      let again := match old with | some (_, t) => decide (s.nowNs < t + 60000000000) | none => false
      if again then s1
      else
        (s1.updNet (fun x => { x with seenMacs := (x.seenMacs.filter (fun e => e.1 != mac)) ++ [(mac, s.nowNs)] })).raise 0x0901 sevInfo 0
          nodeBlock [(16, 6, mac), (22, 1, p), (24, 4, a.vendor.toNat), (28, 4, a.product.toNat)]
    | (n, _) :: _ =>
      let x := s1.node n
      if x.seenIn = some s.halStep ∧ x.mac < mac then s1 else nodeCheck n p a s1

/-- JOIN_REQ: at the strobe after a passed match. -/
def joinReq (n : Nat) (s : State) : State :=
  match (s.node n).cfg with
  | none => s
  | some c =>
    let x := s.node n
    if !x.invite ∨ !(s.nodeSt n == nSeeking || s.nodeSt n == nRefused) ∨ s.clk.ticks ≤ x.seenIn.getD 0 ∨ s.clk.cyc ≠ 0 then s
    else
      let msg := rep [(1, n), (1, s.ftSel), (1, c.wd), (1, c.count), (1, c.ioIn), (1, c.ioOut), (1, if c.tse then 1 else 0), (1, 0),
        (4, (s.reg A.netHalSample).toNat), (4, (s.reg A.netHalApply).toNat)]
      let hdr := rep [(1, 0x15), (1, 0), (2, msg.length), (8, s.tickNo), (1, n), (1, 0), (2, 0)]
      let s1 := (s.set (nodeFld n) nInvited).updNode n (fun y => { y with
        invite := false, joinDue := s.clk.ticks + s.get F.netHalCfg_JOIN_TICKS })
      (sentFrame x.port (s.halEther x.port x.mac ++ hdr ++ msg) s1).bump (F.netPortTxFrames_COUNT x.port)

/-- JOIN_ACK: the slot goes to JOINING and its partner watchdog starts; one that comes after the join timer has expired is not awaited any
more. -/
def joinAck (p : Nat) (mac : BitVec 48) (n : Nat) (s : State) : State :=
  let s0 := s.halRx p
  let x := s.node n
  match x.cfg with
  | none => s0
  | some c =>
    if s.portMode p ≠ 2 ∨ s.nodeSt n ≠ nInvited ∨ x.mac ≠ mac.toNat ∨ x.port ≠ p ∨ s.halDue x.joinDue then s0
    else
      let (i, o) := s.ioOffsets n c
      loadRefresh ((s0.set (nodeFld n) nJoining).updNode n (fun y => { y with
        wdDue := s.halStep + c.wd, inOfs := i, outOfs := o, tseNew := false }))

/-- The join timer, or the watchdog of a JOINING node, expires: back to SEEKING with refusal cause 3. -/
def joinFail (n : Nat) (s : State) : State :=
  let p := (s.node n).port
  let s1 := (s.set (nodeFld n) nSeeking).updNode n (fun x => { x with refused := 3, invite := false })
  loadRefresh (refuseEvent n 3 (s.loadOf p (s.linkWith p n) / 10) s1)
def joinTimeout (n : Nat) (s : State) : State :=
  let x := s.node n
  if (s.nodeSt n = nInvited ∧ s.halDue x.joinDue) ∨ (s.nodeSt n = nJoining ∧ s.halDue x.wdDue) then joinFail n s else s
/-- PARTNER_WATCHDOG: WD_FRAMES steps without a valid reply. -/
def partnerWatchdog (n : Nat) (s : State) : State :=
  let x := s.node n
  if s.halDue x.wdDue then (if s.nodeSt n = nJoined then nodeLeave n 0 s else if s.nodeSt n = nJoining then joinFail n s else s) else s

/-- LEAVE received from a node (R453: its reply of the step is discarded with it). -/
def halLeave (p : Nat) (mac : BitVec 48) (s : State) : State :=
  forEach (((s.linkNodes p).filter (fun e => (s.node e.1).mac == mac.toNat)).map (·.1))
    (fun n t => (nodeLeave n 1 t).updNode n (fun x => { x with leftIn := some s.halStep })) (s.halRx p)

/-- DISCOVER: at the strobe of the first tick that begins at or after a whole second. -/
def halDiscover (s : State) : State :=
  let sec := s.clk.clk / (2 ^ 32 * 1000000000)
  if sec ≤ s.net.second ∨ s.clk.cyc ≠ 0 then s
  else
    let hdr := rep [(1, 0x13), (1, 0), (2, 0), (8, s.tickNo), (1, 0xFF), (1, 0), (2, 0)]
    forEach [0, 1] (fun p t =>
      if t.portMode p = 2 ∧ t.linkUp p then
        (sentFrame p (t.halEther p halGroup ++ hdr) t).bump (F.netPortTxFrames_COUNT p)
      else t) (s.updNet (fun y => { y with second := sec }))

/-! ## The cyclic exchange (R446 to R448, R454 to R456) -/

/-- The output data of a node: from NODE_IO, or from its owner's published image. -/
def State.outBytes (s : State) (x : Node) (c : NodeCfg) : List Byte :=
  if c.owner = 0xFF then (upto c.ioOut).map (fun i => x.output.getD i 0)
  else (upto c.ioOut).map (fun i => Table.look 0 (s.eng c.owner).pub (0xC00 + x.outOfs + i))

/-- A node's section of the OUTPUT frames. FAULT_ACK is a bit the manual gives no rule for. -/
def nodeSection (s : State) (n : Nat) (c : NodeCfg) (ack : Bool) : List Byte :=
  let x := s.node n
  let axes := c.axes.flatMap (fun a =>
    let on := s.loopsClosed a
    rep [repI 4 (if on then (s.axisL a).iSet else 0), (2, (if on then 1 else 0) + (if ack then 2 else 0)), (2, 0)])
  let tse := if c.tse then (upto 32).map (fun i => x.tseOut.getD i 0) else []
  let body := rep [(1, n), (1, c.count), (1, c.ioOut), (1, (if c.tse then 1 else 0) + (if c.tse && x.tseNew then 2 else 0))] ++
    axes ++ s.outBytes x c ++ tse
  body ++ List.replicate (sectionLen c - body.length) 0

/-- Packs sections into frames. -/
def packSecs : List (List Byte) → List (List Byte) → List (List Byte)
  | acc, [] => acc.reverse
  | [], x :: r => packSecs [x] r
  | a :: acc, x :: r => if 16 + a.length + x.length ≤ 1500 then packSecs ((a ++ x) :: acc) r else packSecs (x :: a :: acc) r

/-- The frames of a burst: Ethernet header, Halyard header with TICK = k, sections. -/
def halFrames (s : State) (p : Nat) (bodies : List (List Byte)) : List (List Byte) :=
  bodies.zipIdx.map (fun e => s.halEther p halGroup ++
    rep [(1, 0x11), (1, 16 * bodies.length + e.2), (2, e.1.length), (8, s.tickNo), (1, 0xFF), (1, 0), (2, 0)] ++ e.1)
/-- Whether a port carries cyclic frames (R422, R446). -/
def State.halCyclic (s : State) (p : Nat) : Bool := s.portMode p == 2 && s.linkUp p && !s.getB (F.netPortStatus_LINK_SLOW p)
/-- A late NE repeats the previous setpoints (Table 1.8): the sections of the burst before go out again. -/
def halRepeat (s : State) : State :=
  forEach [0, 1] (fun p t =>
    if !t.halCyclic p then t
    else
      let bodies := (t.port p).sections
      (t.updPort p (fun y => { y with burst := halFrames t p bodies })).set (F.netPortTxFrames_COUNT p)
        (t.get (F.netPortTxFrames_COUNT p) + bodies.length)) s
/-- HALYARD_OUTPUT: NE launches the OUTPUT frames of every Halyard port at the strobe (R446). -/
def halOutput (s : State) : State :=
  forEach [0, 1] (fun p t =>
    if !t.halCyclic p then t.updPort p (fun y => { y with burst := [], sections := [] })
    else
      let (w, t1) := t.draw
      let ns := t.linkNodes p
      let bodies := packSecs [[]] (ns.map (fun e => nodeSection t e.1 e.2 (bit w 0)))
      let k := bodies.length
      let t2 := t1.updPort p (fun y => { y with burst := halFrames t p bodies, sections := bodies })
      let t3 := forEach (ns.map (·.1)) (fun n u => u.updNode n (fun x => { x with tseNew := false })) t2
      t3.set (F.netPortTxFrames_COUNT p) (t3.get (F.netPortTxFrames_COUNT p) + k)) s

/-- REPLY: a reply received on a port, in the Halyard step of tick k: the present tick, or after its cutoff the next one (R48, R448). From a
node whose watchdog has expired it comes too late, as from one that is not joined (R47). -/
def halReply (p : Nat) (r : HalReply) (s : State) : State :=
  let s0 := s.halRx p
  match s.nodes.find? (fun e => s.onLink e.1 && (s.node e.1).mac == r.mac.toNat && (s.node e.1).port == p) with
  | none => s0
  | some (n, c) =>
    let k := s.tickNo + s.halLate
    let lenOk := r.axes.length == c.count && r.input.length == c.ioIn && r.tse.length == (if c.tse then 32 else 0)
    if s.halDue (s.node n).wdDue then s0
    else if r.node.toNat ≠ n ∨ !lenOk ∨ !(r.tick.toNat == k || r.tick.toNat + 1 == k) then s0.bumpSat (F.netPortLate_REPLY_LATE p)
    else
      let first := s.nodeSt n == nJoining
      let s1 := s0.updNode n (fun x => { x with
        wdDue := s.halStep + c.wd, lastTick := r.tick.toNat
        fresh := if r.tick.toNat = k then some r else x.fresh
        old := if r.tick.toNat = k then x.old else some r
        joins := if first then satN 16 (x.joins + 1) else x.joins
        refused := if first then 0xFF else x.refused
        input := if c.owner = 0xFF then r.input else x.input })
      if first then
        let s2 := forEach c.axes (fun a t => t.updAxis a (fun x => { x with left := false })) (s1.set (nodeFld n) nJoined)
        s2.raise 0x0902 sevInfo 0 (nodePlace n) [(16, 6, r.mac.toNat), (22, 1, p), (23, 1, c.count)]
      else s1

/-- Writes bytes into a planner engine's Halyard input buffer, at an offset from 0x0009_0000. -/
def putHal (e o : Nat) (b : List Byte) (s : State) : State := s.updEng e (fun x => { x with hal := hostWriteAux o b x.hal })

/-- ASTAT [15:0] of a place of a planner engine's input buffer. -/
def State.heldAstat (s : State) (e q : Nat) : Nat := ofLe ((upto 2).map (fun i => Table.look 0 (s.eng e).hal (0x40 + 32 * q + 0x14 + i)))
/-- The actuals of one axis reach its planner engine (Table 12.9), and its loops run (R148, R188); invalid actuals fault it (R456). -/
def axisDeliver (a : Nat) (h : Option HalAxis) (mark : Nat) (t : Nat) (runs : Nat → Bool) (s : State) : State :=
  match (s.axis a).pe with
  | none => s
  | some e =>
    let q := s.listPos a
    let s1 := match h with
      | some v => putHal e (0x40 + 32 * q) (rep [(8, v.pos.toNat), (8, v.vel.toNat), (4, v.iAct.toNat), (4, v.astat.toNat % 65536 + mark), (8, t)]) s
      | none =>
        let old := s.heldAstat e q
        putHal e (0x40 + 32 * q + 0x14) (leBytes 4 (old + mark)) s
    let before := (s.axisL a).actual
    let s2 := match h with
      | some v => s1.updAxisL a (fun x => { x with actual := satI 64 (v.pos.toInt * 65536), vAct := v.vel.toInt })
      | none => s1
    let stat := match h with | some v => v.astat.toNat | none => s.heldAstat e q
    let bad := !stat.testBit 0 || stat.testBit 3
    let busy : Bool := match s.groupOf a with | some g => s.gst g != gIdle | none => false
    let s3 := if bad ∧ busy then loopFault a 4 2 0 s2 else s2
    if runs e then
      if !s3.loopsClosed a then s3
      else followTick a (servoTick a before (forEach (upto 4) (fun i u => trackTick a i u) s3))
    else s3

/-- HAL_CUTOFF: NE delivers the actuals of every node to the planner engines and their CUT interrupt is raised (R37, R448, R455,
R456); counts of missed and aged replies follow. -/
def halCutoff (runs : Nat → Bool) (s : State) : State :=
  let s1 := forEach (upto 8) (fun k t => (putHal (24 + k) 0 (rep [(8, t.tickNo), (8, t.nowNs)]) t).engIrq (24 + k) 3) s
  forEach s1.nodes (fun e t =>
    let (n, c) := e
    let x := t.node n
    let r := match x.fresh with | some r => some r | none => x.old
    let mark := (if x.fresh.isSome then 0x10000 else if x.old.isSome then 0x20000 else 0x40000) + (if t.nodeSt n = nJoined then 0x80000 else 0)
    let t1 := forEach (upto c.count) (fun i u =>
      axisDeliver (c.base + i) (r.bind (fun y => y.axes[i]?)) mark ((r.map (·.tSample.toNat)).getD 0) runs u) t
    let t2 := match r with
      | some y => if c.owner = 0xFF then t1 else putHal c.owner (0x400 + x.inOfs) y.input t1
      | none => t1
    t2.updNode n (fun y => { y with
      missed := if t.nodeSt n = nJoined ∧ r.isNone then satN 16 (y.missed + 1) else y.missed
      aged := if x.fresh.isNone ∧ x.old.isSome then satN 16 (y.aged + 1) else y.aged
      fresh := none, old := none })) s1

/-! ## Descriptors (R457, Tables 12.10 and 12.11) -/

def opNodeCfg (d : Desc) (s : State) : State × Reply :=
  let n := d.f 1 6 0
  let x := s.node n
  let st := s.nodeSt n
  let busy := st == nInvited || st == nJoining || st == nJoined
  if d.fb 1 10 then
    match x.cfg with
    | none => (s, netReply 0 0)
    | some c =>
      if busy && !s.nodeIdle c then (s, netReply 2 0)
      else
        let s1 := nodeLeave n 3 s
        (loadRefresh ((s1.set (nodeFld n) nEmpty).updNet (fun y => { y with nodes := Table.put {} n {} y.nodes })), netReply 0 0)
  else
    let own := d.f 1 31 24
    let owner := if 24 ≤ own ∧ own ≤ 31 then own else 0xFF
    let wd := cN 2 15 (d.f 1 19 16)
    let port := if d.f 1 9 8 = 3 then (⟨2, true⟩ : Clamped Nat) else ⟨d.f 1 9 8, false⟩
    let cnt := cN 0 8 (d.f 3 23 16)
    let base := d.f 3 7 0
    let out := cN 0 40 (d.f 4 15 8)
    let inp := cN 0 40 (d.f 4 7 0)
    let cl := clampMask [(1, owner != own && own != 0xFF), (1, wd.hit), (1, port.hit), (3, cnt.hit), (4, out.hit), (4, inp.hit)]
    let overlap := s.nodes.any (fun e => e.1 != n && decide (0 < cnt.val ∧ base < e.2.base + e.2.count ∧ e.2.base < base + cnt.val))
    if busy then (s, netReply 2 cl)
    else if cnt.val ≠ 0 ∧ (base < 24 ∨ 256 < base + cnt.val ∨ overlap) then (s, netReply 5 cl)
    else
      let c : NodeCfg :=
        { owner := owner, wd := wd.val, rejoin := d.fb 1 12, tse := d.fb 1 11, port := port.val, product := d.f 2 63 32, vendor := d.f 2 31 0
          serial := d.f 3 63 32, count := cnt.val, base := base, ioOut := out.val, ioIn := inp.val }
      ((s.set (nodeFld n) nSeeking).updNode n (fun y => { missed := y.missed, aged := y.aged, joins := y.joins, cfg := some c }), netReply 0 cl)

def opNodeIo (d : Desc) (s : State) : State × Reply :=
  let n := d.f 1 6 0
  match (s.node n).cfg with
  | none => (s, netReply 1 0)
  | some c =>
    if c.owner ≠ 0xFF then (s, netReply 6 0)
    else
      let bytes := (upto (d.len.val - 1)).flatMap (fun i => leBytes 8 (d.n (2 + i)))
      let ovr (i : Nat) : Bool := decide (2 + i ≤ d.len.val) && (((bytes.drop (8 * i)).take 8).drop (c.ioOut - 8 * i)).any (fun b => b != 0)
      let cl := clampMask ((upto 5).map (fun i => (2 + i, ovr i)))
      (s.updNode n (fun y => { y with output := (upto c.ioOut).map (fun i => bytes.getD i (y.output.getD i 0)) }), netReply 0 cl)

def nodeRecord (s : State) (n : Nat) : List Byte :=
  let x := s.node n
  match x.cfg with
  | none => rep [(1, nEmpty), (1, 0), (1, 0xFF), (1, 0xFF), (60, 0)]
  | some c =>
    rep [(1, s.nodeSt n), (1, x.port), (1, x.leftBy), (1, x.refused), (6, x.mac), (1, x.axes), (1, x.caps), (4, x.serial), (2, x.missed),
      (2, x.aged), (2, x.joins), (2, if c.owner = 0xFF then 0xFFFF else x.inOfs)] ++
      (upto 40).map (fun i => if c.owner = 0xFF then x.input.getD i 0 else 0)

/-- The network report (Table 12.12). -/
def netReport (s : State) : List Byte :=
  let b (f : Fld) (n : Nat) : Nat := if s.getB f then 2 ^ n else 0
  rep [(8, s.nowNs), (1, s.get F.ptpStatus_STATE),
    (1, b F.ptpStatus_LOCKED 0 + b F.ptpStatus_PATH_HOLD 1 + b F.ptpStatus_STEP_PENDING 2 + b F.ptpStatus_STEP_REFUSED 3),
    (1, if s.getB F.ptpStatus_SLAVE then s.get F.ptpStatus_SLAVE_PORT else 0xFF), (1, 0), (4, (s.reg A.ptpOffset).toNat),
    (4, (s.reg A.ptpPathDelay).toNat), (4, (s.reg A.ptpRate).toNat), (4, (s.reg A.ptpAsymBound).toNat), (8, s.get64 A.ptpMasterIdLo),
    (2, s.get F.netHalLoad_LOAD0), (2, s.get F.netHalLoad_LOAD1), (24, 0)] ++ (upto 128).flatMap (nodeRecord s)
def opNetReport (d : Desc) (s : State) : State × Reply := writeReport d (netReport s) s

end Sys2Proof.Machine
end

