-- ==== Sys2Proof/Machine/Shroud.lean ====
section
/-!
DEFINITION. The Shroud (spec/13_shroud_safety.md): safety configuration, inputs, resets, functions, outputs, TSE connections,
sessions and the change log. Times are Shroud ticks; what arrives after the latest Shroud tick belongs to the next step.
-/
namespace Sys2Proof
def SafetyCfg.pair (c : SafetyCfg) (p : Nat) : PairCfg := c.pairs.getD p {}
def SafetyCfg.out (c : SafetyCfg) (q : Nat) : OutCfg := c.outs.getD q {}
end Sys2Proof

namespace Sys2Proof.Machine

def State.updShr (s : State) (f : ShrSt → ShrSt) : State := { s with shr := f s.shr }
def State.pairIn (s : State) (p : Nat) : PairIn := Table.look {} s.shr.pairs p
def State.updPairIn (s : State) (p : Nat) (f : PairIn → PairIn) : State := s.updShr (fun x => { x with pairs := Table.upd {} p f x.pairs })
def State.fn (s : State) (k : Nat) : FnSt := Table.look {} s.shr.fns k
def State.updFn (s : State) (k : Nat) (f : FnSt → FnSt) : State := s.updShr (fun x => { x with fns := Table.upd {} k f x.fns })
def State.sa (s : State) (a : Nat) : SafeAxis := Table.look {} s.shr.axes a
def State.updSa (s : State) (a : Nat) (f : SafeAxis → SafeAxis) : State := s.updShr (fun x => { x with axes := Table.upd {} a f x.axes })
def State.tseC (s : State) (c : Nat) : TseSt := Table.look {} s.shr.conns c
def State.updTse (s : State) (c : Nat) (f : TseSt → TseSt) : State := s.updShr (fun x => { x with conns := Table.upd {} c f x.conns })
def State.zone (s : State) (z : Nat) : ZoneSt := Table.look {} s.shr.zones z
def State.updZone (s : State) (z : Nat) (f : ZoneSt → ZoneSt) : State := s.updShr (fun x => { x with zones := Table.upd {} z f x.zones })
def State.outP (s : State) (q : Nat) : OutPair := Table.look {} s.shr.outs q
def State.updOut (s : State) (q : Nat) (f : OutPair → OutPair) : State := s.updShr (fun x => { x with outs := Table.upd {} q f x.outs })

/-- The configuration in force, or one without elements. -/
def State.scfg (s : State) : SafetyCfg := match s.shr.cfg with
  | some (c, _) => c
  | none => { pairs := [], tpIn := [], outs := [], zones := [], axes := [], conns := [], fns := [] }
/-- Shroud states of SHR.STATUS. -/
def State.shrState (s : State) : Nat := s.get F.shrStatus_STATE

/-! ## The configuration (R466, R467, R478, R479) -/

def maskBits (n m : Nat) : List Nat := (upto n).filter (fun i => m.testBit i)
/-- Pairwise different. -/
def noDup (l : List Nat) : Bool := l.eraseDups.length == l.length

/-- Whether every value lies in its range and no elements contradict each other. -/
def cfgOk (slots : Nat) (c : SafetyCfg) : Bool :=
  let rng (lo hi x : Nat) : Bool := decide (lo ≤ x ∧ x ≤ hi)
  let hasAxis (z : Nat) : Bool :=
    match c.zones.find? (fun e => e.1 == z) with
    | none => false
    | some (_, y) => c.axes.any (fun a => (decide (a.2.axis < 24) && y.slots.testBit a.2.axis) ||
        c.conns.any (fun t => t.2.zone == z && t.2.axmap.any (fun m => m == some a.1)))
  let line (z : Nat) : Bool := c.zones.any (fun e => e.1 == z && e.2.line)
  c.pairs.length == 8 && c.outs.length == 4 && c.tpIn.length == 2 &&
  c.pairs.all (fun p => rng 0 3 p.kind && rng 1 1000 p.dt && rng 1 20 p.filt) && c.tpIn.all (rng 5 1000) &&
  c.outs.all (fun o => rng 0 2 o.use && rng 0 15 o.zone && rng 20 5000 o.tp) &&
  c.zones.all (fun e => rng 0 15 e.1 && decide (e.2.slots < 2 ^ slots) && (match e.2.rst with
    | .pair p => (c.pair p).kind == 3 && decide (p < 8)
    | .tse t => c.conns.any (fun x => x.1 == t))) &&
  noDup (c.zones.map (·.1)) && noDup (c.zones.flatMap (fun e => maskBits 24 e.2.slots)) &&
  c.axes.all (fun e => rng 0 63 e.1 && rng 0 255 e.2.axis && rng 0 2 e.2.src && rng 0 31 e.2.fb1 && rng 0 31 e.2.fb2 &&
    rng 1 (2 ^ 31 - 1) e.2.num && rng 1 (2 ^ 31 - 1) e.2.den && rng 1 (2 ^ 31 - 1) e.2.axNum && rng 1 (2 ^ 31 - 1) e.2.axDen) &&
  noDup (c.axes.map (·.1)) &&
  c.conns.all (fun e => rng 0 126 e.1 && rng 0 127 e.2.node && rng 1 (2 ^ 32 - 1) e.2.connId && rng 2 1000 e.2.wd && rng 0 15 e.2.zone &&
    e.2.axmap.all (fun m => match m with | some a => c.axes.any (fun x => x.1 == a) | none => true)) &&
  noDup (c.conns.map (·.1)) &&
  c.fns.all (fun e =>
    let f := e.2
    rng 0 31 e.1 && rng 1 7 f.func && c.zones.any (fun z => z.1 == f.zone) && decide (f.pairs < 256) &&
    (match f.tse with | some (t, b) => c.conns.any (fun x => x.1 == t) && decide (b < 16) | none => true) &&
    rng 0 60000 f.tDelay && rng 0 600000 f.tRamp && rng 0 60000 f.tReact && rng 0 3 f.out && rng 0 1000 f.tBrake &&
    (f.func != 5 || (rng 1 65535 f.share && rng 0 32768 f.margin && (!f.reef || line f.zone))) &&
    (!(f.func == 2 || f.func == 3) || !line f.zone || f.hd) &&
    (!(f.func == 3 || f.func == 4 || f.func == 5 || f.func == 6) || hasAxis f.zone) &&
    (f.func != 7 || (c.out f.out).use == 2)) && noDup (c.fns.map (·.1))

/-! ## Zones and their members (R467) -/

/-- The remote axes of a connection's node. -/
def State.connAxes (s : State) (t : TseCfg) : List Nat := match (s.node t.node).cfg with | some c => c.axes | none => []
/-- The motion axes of a zone. -/
def State.zoneAxes (s : State) (z : Nat) : List Nat :=
  (match s.scfg.zones.find? (fun e => e.1 == z) with | some (_, y) => maskBits 24 y.slots | none => []) ++
    (s.scfg.conns.filter (fun e => e.2.zone == z)).flatMap (fun e => s.connAxes e.2)
/-- The safe axes of a zone: those of its slots and remote axes, and those that its connections map (notes/assumptions/128.md). -/
def State.zoneSafe (s : State) (z : Nat) : List (Nat × SafeAxisCfg) :=
  s.scfg.axes.filter (fun e => (s.zoneAxes z).contains e.2.axis ||
    s.scfg.conns.any (fun t => t.2.zone == z && t.2.axmap.any (fun m => m == some e.1)))
/-- The zone of a slot. -/
def State.slotZone (s : State) (n : Nat) : Option Nat := (s.scfg.zones.find? (fun e => e.2.slots.testBit n)).map (·.1)
def State.zoneLine (s : State) (z : Nat) : Bool := s.scfg.zones.any (fun e => e.1 == z && e.2.line)
/-- The zone of a safe axis. -/
def State.safeZone (s : State) (a : Nat) : Option Nat := (s.scfg.zones.find? (fun e => (s.zoneSafe e.1).any (fun x => x.1 == a))).map (·.1)
def State.zoneData (s : State) (z : Nat) : Nat := if s.zoneLine z then 0x1000 else 0

/-- Places of R497. -/
def pairPlace (p : Nat) : Nat := 0x9800 + p
def fnPlace (k : Nat) : Nat := 0x9900 + k
def connPlace (c : Nat) : Nat := 0x9980 + c
def shrPlace : Nat := 0xEFFF
def State.rstPlace (s : State) (z : Nat) : Nat := match s.scfg.zones.find? (fun e => e.1 == z) with
  | some (_, y) => (match y.rst with | .pair p => pairPlace p | .tse c => connPlace c)
  | none => shrPlace

/-! ## Change log and sessions (R490 to R493) -/

/-- Enters a change-log entry; the oldest gives way when 256 are held. -/
def logAdd (kind ring old new detail : Nat) (s : State) : State :=
  let no := s.get F.shrLogCount_ENTRY + 1
  let e : LogEntry := { no := no, time := s.nowNs, kind := kind, ring := ring, lc := s.lc, oldCrc := old, newCrc := new, detail := detail }
  (s.updShr (fun x => { x with log := (e :: x.log).take 256 })).set F.shrLogCount_ENTRY no
/-- An entry with its SESSION event. -/
def logSession (kind ring detail : Nat) (s : State) : State :=
  let t := logAdd kind ring 0 0 detail s
  t.raise 0x0A09 (if kind = 2 then sevWarn else sevInfo) 0 shrPlace [(16, 1, kind), (20, 4, t.get F.shrLogCount_ENTRY)]

/-- A pending configuration is discarded. -/
def dropPend (s : State) : State :=
  ((s.updShr (fun x => { x with pend := none })).set F.shrStatus_PENDING 0).set F.shrPendCrc_PEND_CRC 0
/-- The session ends (R490). -/
def sessionEnd (cause : Nat) (s : State) : State :=
  match s.shr.session with
  | none => s
  | some (ring, _) =>
    let s1 := ((s.updShr (fun x => { x with session := none })).set F.shrStatus_SESSION 0).set F.glbStatus_SAFE_SESS 0
    logSession 3 ring cause (dropPend s1)

/-! ## Input pairs (R470 to R473) -/

/-- Whether a channel shows the demand (or pressed) state (Table 13.2). -/
def chanDemand (kind : Nat) (b level : Bool) : Bool := match kind with
  | 1 => !level
  | 2 => if b then level else !level
  | _ => level
/-- Whether a pair shows demand: one channel, or a fault, is enough. -/
def State.pairDemand (s : State) (p : Nat) : Bool :=
  let k := (s.scfg.pair p).kind
  let x := s.pairIn p
  (k == 1 || k == 2) && (x.fault || chanDemand k false x.a || chanDemand k true x.b)
/-- A pair faults; PAIR_FAULT is raised. Channels that stand in the demand (or released) state together already count (R471). -/
def pairFault (p why' : Nat) (s : State) : State :=
  let k := (s.scfg.pair p).kind
  let rest (b l : Bool) : Bool := chanDemand k b l != (k == 3)
  if (s.pairIn p).fault then s
  else (s.updPairIn p (fun x => { x with fault := true, seen := rest false x.a && rest true x.b, left := none, press := none })).raise 0x0A02 sevFault 0 (pairPlace p)
    [(16, 1, p), (17, 1, why')]

/-- A reset edge has come: it acts on every zone of its source in the coming step. -/
def edgeTo (src : RstSrc) (s : State) : State :=
  forEach ((s.scfg.zones.filter (fun e => e.2.rst == src)).map (·.1)) (fun z t => t.updZone z (fun y => { y with edge := true })) s
/-- A release in step `f` of a press accepted in step `r` (R473). -/
def isEdge (r f : Nat) : Bool := decide (r + 50 ≤ f ∧ f ≤ r + 500)

/-- SAFETY_INPUT_CHANGE: a channel of a pair takes a new filtered level (R470, R471, R473). -/
def inputChange (p : Nat) (b level : Bool) (s : State) : State :=
  let c := s.scfg.pair p
  let x := s.pairIn p
  let step := s.shr.tick + 1
  let y : PairIn := if b then { x with b := level } else { x with a := level }
  let da := chanDemand c.kind false y.a
  let db := chanDemand c.kind true y.b
  let s1 := s.updPairIn p (fun _ => y)
  if c.kind = 0 then s1
  else if da ≠ db then s1.updPairIn p (fun z => if z.fault then z else { z with left := some (z.left.getD step) })
  else
    let late : Bool := match x.left with | some i => decide (i + c.dt < step) | none => false
    let s2 := if late ∧ !x.fault then pairFault p 0 s1 else s1
    let rest := if c.kind = 3 then !da else da
    let fault := (s2.pairIn p).fault
    let seen := fault && ((s2.pairIn p).seen || rest)
    let s3 := s2.updPairIn p (fun z => { z with state := da, left := none, seen := seen })
    if c.kind ≠ 3 then s3
    else if da then
      if x.state = da ∨ (fault ∧ !(s2.pairIn p).seen) then s3
      else s3.updPairIn p (fun z => { z with press := some step, jammed := false })
    else
      let s4 := s3.updPairIn p (fun z => { z with press := none, jammed := false })
      match (s2.pairIn p).press with
      | some r =>
        if x.jammed ∨ !isEdge r step then s4
        else edgeTo (.pair p) (s4.updPairIn p (fun z => { z with fault := false, seen := false }))
      | none => s4

/-- INPUT_TEST_PULSE: the dark pulse of a source, `dark` the channels that went dark in it (bit 2p + channel) (R472). -/
def inputPulse (srcB : Bool) (dark : Nat) (s : State) : State :=
  forEach (upto 8) (fun p t =>
    let c := t.scfg.pair p
    let x := t.pairIn p
    if !c.test ∨ c.kind = 0 then t
    else
      let went (b : Bool) : Bool := dark.testBit (2 * p + (if b then 1 else 0))
      let own := if srcB then x.b else x.a
      let other := if srcB then x.a else x.b
      if own ∧ !went srcB then pairFault p 1 t
      else if other ∧ went (!srcB) then pairFault p 2 t
      else t) s

/-- RESET_WINDOW_EXPIRY: a press of the zone's source has lasted past 500 steps (R473). -/
def resetExpiry (z : Nat) (s : State) : State :=
  let rej (src : RstSrc) (t : State) : State :=
    forEach ((t.scfg.zones.filter (fun e => e.2.rst == src)).map (·.1)) (fun w u =>
      u.raise 0x0A03 sevWarn (u.zoneData w) (u.rstPlace w) [(16, 1, w), (17, 1, 1)]) t
  match s.scfg.zones.find? (fun e => e.1 == z) with
  | none => s
  | some (_, y) =>
    match y.rst with
    | .pair p =>
      (match (s.pairIn p).press with
        | some r => if s.shr.tick < r + 500 ∨ (s.pairIn p).jammed then s else rej y.rst (s.updPairIn p (fun x => { x with jammed := true }))
        | none => s)
    | .tse c =>
      (match (s.tseC c).press with
        | some r => if s.shr.tick < r + 500 ∨ (s.tseC c).jammed then s else rej y.rst (s.updTse c (fun x => { x with jammed := true }))
        | none => s)

/-! ## Demands (R475) -/

def State.fnDemand (s : State) (f : FnCfg) (x : FnSt) : Bool :=
  (maskBits 8 f.pairs).any s.pairDemand || (f.host && x.host) ||
    (match f.tse with | some (c, b) => (s.tseC c).state != 2 || !(s.tseC c).input.testBit b | none => false)
def State.srcDem (s : State) (f : FnCfg) (x : FnSt) : Nat :=
  ((maskBits 8 f.pairs).map (fun p => if s.pairDemand p then 2 ^ p else 0)).sum + (if f.host && x.host then 256 else 0)

/-! ## Safe axes (R468, R469) -/

/-- The condition of a safe-axis fault has gone. -/
def State.safeClear (s : State) (a : Nat) (c : SafeAxisCfg) : Bool :=
  if c.src = 2 then s.scfg.conns.any (fun e => e.2.axmap.any (fun m => m == some a) && (s.tseC e.1).state == 2) else true
def State.standstill (s : State) (e : Nat × SafeAxisCfg) : Bool := decide ((s.sa e.1).speed.natAbs ≤ e.2.vZero)

/-- One step of a safe axis from the decoders of both cores. -/
def safeStep (m : ShroudSample) (e : Nat × SafeAxisCfg) (s : State) : State :=
  let (a, c) := e
  let x := s.sa a
  if c.src = 2 then s.updSa a (fun y => { y with d1 := y.pos, speed := (y.pos - y.d1) * 1000 })
  else
    let n1 := Table.look 0 m.counts0 c.fb1
    let n2 := Table.look 0 m.counts1 (if c.src = 1 then c.fb1 else c.fb2)
    match x.c1 with
    | none => s.updSa a (fun y => { y with c1 := some n1, c2 := n2 })
    | some o1 =>
      let dp := cdiff n1 o1
      let d1 := x.d1 + dp
      let d2 := x.d2 + cdiff n2 x.c2
      let bad := c.src == 0 && decide ((c.posTol : Int) * c.den < (d1 * c.den - d2 * c.num).natAbs)
      let run := if bad then x.run + 1 else 0
      let f := decide (2 ≤ run)
      s.updSa a (fun y => { y with
        c1 := some n1, c2 := n2, d1 := d1, d2 := d2, pos := y.pos + dp, speed := dp * 1000, run := run
        disc := y.disc || f, fault := y.fault || f })

/-! ## TSE (R486 to R489) -/

def nextSeq (n : Nat) : Nat := if n = 65535 then 1 else n + 1

/-- A container of the Shroud (Table 13.5). -/
def tseBuild (s : State) (c : Nat) (t : TseCfg) (start : Bool) : List Byte :=
  let x := s.tseC c
  let rel := !(s.zone t.zone).sto && !x.hold && x.state == 2 && s.shrState == 2
  let bits := if rel then (2 ^ (s.connAxes t).length - 1) % 256 else 0
  let body := rep [(2, x.tx), (2, x.rx), (2, t.wd), (1, (if start then 1 else 0) + (if rel then 0 else 4)), (1, 0), (4, t.connId), (2, bits), (14, 0)]
  body ++ leBytes 4 (crc32c (BitVec.ofNat 32 t.connId) body).toNat

/-- Sends the connection's next message in a step: its watchdog starts. -/
def tseSend (c : Nat) (start : Bool) (step : Nat) (s : State) : State :=
  match s.scfg.conns.find? (fun e => e.1 == c) with
  | none => s
  | some (_, t) =>
    let s1 := s.updTse c (fun x => { x with
      prev := if start then 0 else x.tx, tx := if start then 1 else nextSeq x.tx, flying := true, sent := step, wdDue := step + t.wd })
    s1.updNode t.node (fun n => { n with tseOut := tseBuild s1 c t start, tseNew := true })

/-- A connection fault (R489). -/
def tseFault (c cause : Nat) (s : State) : State :=
  match s.scfg.conns.find? (fun e => e.1 == c) with
  | none => s
  | some (_, t) =>
    let s1 := s.updTse c (fun x => { x with state := 3, cause := cause, flying := false, hold := true, press := none, faults := satN 16 (x.faults + 1) })
    let s2 := forEach (t.axmap.filterMap id) (fun a u => u.updSa a (fun y => { y with fault := true, tsePos := none })) s1
    s2.raise 0x0A05 sevFault (s.zoneData t.zone) (connPlace c) [(16, 1, c), (17, 1, cause)]

/-- TSE_CONNECTION_START: the node is JOINED. -/
def tseStart (c : Nat) (s : State) : State :=
  match s.scfg.conns.find? (fun e => e.1 == c) with
  | none => s
  | some (_, t) =>
    let st := (s.tseC c).state
    if s.nodeSt t.node ≠ nJoined ∨ !(st == 0 || st == 3) then s
    else tseSend c true (s.shr.tick + 1) (s.updTse c (fun x => { x with state := 1, rx := 0, tx := 0, acked := 0 }))

/-- A container handed over at the cutoff waits for the step. -/
def tseHand (n : Nat) (box : List Byte) (s : State) : State :=
  match s.scfg.conns.find? (fun e => e.2.node == n) with
  | some (c, _) => s.updTse c (fun x => { x with box := some box })
  | none => s

/-- The RESET bit of a connection's messages presses and releases (R473). -/
def tseReset (c : Nat) (on : Bool) (s : State) : State :=
  let x := s.tseC c
  let step := s.shr.tick + 1
  if on = x.reset then s
  else if on then s.updTse c (fun y => { y with reset := true, press := some step, jammed := false })
  else
    let s1 := s.updTse c (fun y => { y with reset := false, press := none, jammed := false })
    match x.press with
    | some r => if x.jammed ∨ !isEdge r step then s1 else edgeTo (.tse c) s1
    | none => s1

/-- A safe position of 24 bits is extended by signed difference (R468). -/
def tsePosition (a v : Nat) (s : State) : State :=
  s.updSa a (fun y => { y with tsePos := some v, pos := match y.tsePos with | some o => y.pos + sx 24 (wrapN 24 ((v : Int) - o)) | none => y.pos })

/-- TSE_MESSAGE: the container handed to the Shroud is checked (R487). -/
def tseMessage (c : Nat) (s : State) : State :=
  match s.scfg.conns.find? (fun e => e.1 == c), (s.tseC c).box with
  | some (_, t), some b =>
    let s0 := s.updTse c (fun x => { x with box := none })
    let x := s.tseC c
    let seq := leAt b 0 2
    let ack := leAt b 2 2
    let flags := leAt b 6 1
    if x.state = 0 ∨ x.state = 3 then s0
    else if leAt b 28 4 ≠ (crc32c (BitVec.ofNat 32 t.connId) (b.take 28)).toNat then tseFault c 0 s0
    else if leAt b 8 4 ≠ t.connId then tseFault c 1 s0
    else if !flags.testBit 1 then tseFault c 2 s0
    else if leAt b 4 2 ≠ t.wd then tseFault c 3 s0
    else if seq = x.rx ∧ x.rx ≠ 0 then s0.updTse c (fun y => { y with repeats := satN 16 (y.repeats + 1) })
    else if seq ≠ nextSeq x.rx then tseFault c 4 s0
    else if !(ack == x.tx || ack == x.prev) then tseFault c 5 s0
    else
      let act : Bool := x.state == 2 || (flags.testBit 0 && ack == 1)
      let s1 := s0.updTse c (fun y => { y with
        rx := seq, acked := ack, flying := y.flying && !(act && ack == y.tx), state := if act then 2 else y.state, cause := if act then 0xFF else y.cause
        input := leAt b 12 2 })
      let s2 := forEach t.axmap.zipIdx (fun e u => match e.1 with
        | some a => tsePosition a (leAt b (16 + 3 * e.2) 3) u
        | none => u) s1
      tseReset c (bit (BitVec.ofNat 8 (leAt b 14 1)) 0) s2
  | _, _ => s

/-- The sequence-number book of what the Shroud sends, which balances while no message is in transit (R88, R488). -/
def TseSt.book (x : TseSt) : Bool := !(x.state == 1 || x.state == 2) || x.flying || x.tx == x.acked
/-! ## Functions (R475 to R482) -/

def State.violation (s : State) (k : Nat) (a : Nat) (dev limit : Int) : State :=
  let ax := match s.scfg.axes.find? (fun e => e.1 == a) with | some (_, c) => c.axis | none => 0
  s.raise 0x0A04 sevFault (0x4000 + ax) (fnPlace k) [(16, 1, k), (17, 1, a), (20, 4, wrapN 32 dev), (24, 4, wrapN 32 limit)]

/-- Removes torque on a breach. -/
def fnBreach (k : Nat) (s : State) : State := s.updFn k (fun x => { x with state := 4, sto := true, sos := false })
/-- The envelope of an axis at step `t` after onset, times T_RAMP (R479); `td`, `tr` are the T_DELAY and T_RAMP in force. -/
def envOk (td tr : Nat) (c : SafeAxisCfg) (v0 v : Int) (t : Nat) : Bool :=
  if t ≤ td then decide (v.natAbs ≤ v0.natAbs + c.vTol)
  else if t < td + tr then decide (v.natAbs * tr ≤ v0.natAbs * (tr - (t - td)) + c.vTol * tr)
  else true
def envAt (td tr : Nat) (c : SafeAxisCfg) (v0 : Int) (t : Nat) : Int :=
  if t ≤ td ∨ tr = 0 then v0.natAbs + c.vTol
  else qdiv (v0.natAbs * (tr - (t - td)) : Nat) tr + c.vTol

/-- The positions of a zone's safe axes. -/
def State.zonePos (s : State) (z : Nat) : Table Int := (s.zoneSafe z).map (fun e => (e.1, (s.sa e.1).pos))
/-- The stop of an SS1 or SS2 is complete (R479). -/
def stopDone (k : Nat) (f : FnCfg) (s : State) : State :=
  if f.func = 2 then s.updFn k (fun x => { x with state := 3, sto := true })
  else s.updFn k (fun x => { x with state := 3, sos := true, pos := s.zonePos f.zone })

/-- An SS1 or SS2 begins: it requests its stop (R478). An SS1 during SS2 takes over the running envelope and its origin (R482). -/
def stopBegin (k : Nat) (f : FnCfg) (s : State) : State :=
  let ovr := if f.func = 2 then s.scfg.fns.find? (fun e => e.2.func == 3 && e.2.zone == f.zone && (s.fn e.1).state == 2) else none
  let s1 := match ovr with
    | some (j, _) => s.updFn k (fun x => { x with state := 2, onset := (s.fn j).onset, v0 := (s.fn j).v0, env := (s.fn j).env })
    | none => s.updFn k (fun x => { x with
        state := 2, onset := s.shr.tick, v0 := (s.zoneSafe f.zone).map (fun e => (e.1, (s.sa e.1).speed)), env := (f.tDelay, f.tRamp) })
  if f.hd then s1.request mHauldown 1 4
  else forEach (((s.zoneAxes f.zone).filterMap s.groupOf).eraseDups) stopGroup s1

/-- A breach of SLS or SDI acts as REACT selects: STO, or the zone's SS1 instance where it has one (R481). -/
def fnReact (k : Nat) (f : FnCfg) (s : State) : State :=
  match f.react, s.scfg.fns.find? (fun e => e.2.func == 2 && e.2.zone == f.zone) with
  | true, some (j, g) =>
    let s1 := s.updFn k (fun x => { x with state := 4 })
    if (s1.fn j).state = 0 then stopBegin j g s1 else s1
  | _, _ => fnBreach k s

/-- SOS: standstill within POS_WIN of the positions at onset. -/
def sosBreach (s : State) (f : FnCfg) (x : FnSt) : Option (Nat × Int × Int) :=
  ((s.zoneSafe f.zone).map (fun e => (e, (s.sa e.1).pos - Table.look 0 x.pos e.1))).find? (fun e => decide (e.1.2.posWin < e.2.natAbs))
    |>.map (fun e => (e.1.1, e.2, (e.1.2.posWin : Int)))
def sosWatch (k : Nat) (f : FnCfg) (s : State) : State := match sosBreach s f (s.fn k) with
  | some (a, dev, lim) => fnBreach k (s.violation k a dev lim)
  | none => s

/-- The envelope of a running stop, and its end at standstill; with T_RAMP 0 only time ends it (R479, Table 13.4). -/
def stopWatch (k : Nat) (f : FnCfg) (s : State) : State :=
  let x := s.fn k
  let axes := s.zoneSafe f.zone
  let t := s.shr.tick - x.onset
  let (td, tr) := x.env
  if tr = 0 then s
  else match axes.find? (fun e => !envOk td tr e.2 (Table.look 0 x.v0 e.1) (s.sa e.1).speed t) with
    | some (a, c) => fnBreach k (s.violation k a (s.sa a).speed (envAt td tr c (Table.look 0 x.v0 a) t))
    | none => if axes ≠ [] ∧ axes.all s.standstill then stopDone k f s else s
/-- The limit of SLS, from T_REACT onwards (R480, R481). -/
def slsWatch (k : Nat) (f : FnCfg) (s : State) : State :=
  if !(s.fn k).live then s
  else match (s.zoneSafe f.zone).find? (fun e => decide (f.share * e.2.vRef + e.2.vTol * 65536 < (s.sa e.1).speed.natAbs * 65536)) with
    | some (a, c) => fnReact k f (s.violation k a (s.sa a).speed (qdiv (f.share * c.vRef : Nat) 65536 + c.vTol))
    | none => s
/-- Motion in the forbidden direction from the furthest point reached against it (R481). -/
def sdiWatch (k : Nat) (f : FnCfg) (s : State) : State :=
  let axes := s.zoneSafe f.zone
  let x := s.fn k
  let sg : Int := if f.dir then 1 else -1
  let far := axes.map (fun e => (e.1, let p := (s.sa e.1).pos; let o := Table.look 0 x.pos e.1; if sg * p < sg * o then p else o))
  let s1 := s.updFn k (fun y => { y with pos := far })
  match axes.find? (fun e => decide ((e.2.sdiTol : Int) < sg * ((s.sa e.1).pos - Table.look 0 far e.1))) with
  | some (a, c) => fnReact k f (s1.violation k a ((s.sa a).pos - Table.look 0 far a) c.sdiTol)
  | none => s1

/-- What an instance in force watches in a step: a running stop (state 2), or a monitor (state 1). -/
def fnWatch (k : Nat) (f : FnCfg) (s : State) : State := match (s.fn k).state, f.func with
  | 2, _ => stopWatch k f s
  | 1, 4 => sosWatch k f s
  | 1, 5 => slsWatch k f s
  | 1, 6 => sdiWatch k f s
  | _, _ => s
/-- The onset of a demanded instance (Table 13.3). -/
def fnOnset (k : Nat) (f : FnCfg) (s : State) : State := match f.func with
  | 1 => s.updFn k (fun y => { y with state := 3, sto := true })
  | 2 | 3 => stopBegin k f s
  | 5 => s.updFn k (fun y => { y with state := 1, onset := s.shr.tick, live := f.tReact == 0, limits := true })
  | _ => s.updFn k (fun y => { y with state := 1, pos := s.zonePos f.zone })
/-- An instance releases; the host demand bit stays. -/
def FnSt.clear (x : FnSt) : FnSt := { host := x.host }

/-- An STO demand on a whole zone: DEVICE_STO, a faulted safe axis (R469) or an STO fault of one of its slots (R462). -/
def State.zoneDemand (s : State) (z : Nat) : Bool :=
  s.shr.deviceSto || (s.zoneSafe z).any (fun e => (s.sa e.1).fault) ||
    (match s.scfg.zones.find? (fun e => e.1 == z) with
      | some (_, y) => (maskBits 24 y.slots).any (fun n => (s.get F.shrStoFault_FAULT).testBit n)
      | none => false)
/-- One step of a function instance (R475, R481, R482). -/
def fnStep (k : Nat) (f : FnCfg) (s : State) : State :=
  let x := s.fn k
  let dem := s.fnDemand f x
  if f.func = 7 then s
  else if s.zoneDemand f.zone then s.updFn k (fun y => { y with state := if y.state = 4 then 4 else 3, sto := true, sos := false })
  else if x.state = 0 then (if dem then fnWatch k f (fnOnset k f s) else s)
  else if x.state = 1 then (if dem then fnWatch k f s else s.updFn k FnSt.clear)
  else if x.state = 2 then fnWatch k f s
  else
    let s1 := if x.sos then sosWatch k f s else s
    if !dem ∧ f.restart ∧ (s.zone f.zone).acked ∧ (s1.fn k).state = x.state then s1.updFn k FnSt.clear else s1
/-- Every instance takes its step. -/
def fnsStep (s : State) : State := forEach s.scfg.fns (fun e t => fnStep e.1 e.2 t) s

/-- A Shroud SLS demand for the line is in force (R480). -/
def State.slsDemand (s : State) : Bool := s.scfg.fns.any (fun e => e.2.func == 5 && e.2.reef && (s.fn e.1).limits)
/-- A Shroud STO demand for the whole device (R464, R477). -/
def State.stoDemand (s : State) : Bool :=
  s.shrState == 3 || (s.shrState == 2 && s.scfg.zones.all (fun e => (s.zone e.1).sto))

/-! ## Zones and outputs (R462, R474, R477, R483) -/

/-- Whether a stop function of a zone runs, and whether one of its SS2 holds in SOS. -/
def State.stopping (s : State) (z : Nat) : Bool :=
  s.scfg.fns.any (fun e => e.2.zone == z && (e.2.func == 2 || e.2.func == 3) && (s.fn e.1).state == 2)
def State.inSos (s : State) (z : Nat) : Bool := s.scfg.fns.any (fun e => e.2.zone == z && (s.fn e.1).sos)

/-- Whether STO is to be in force in a zone. -/
def State.zoneHold (s : State) (z : Nat) : Bool :=
  s.shrState != 2 || s.lc == 4 || !(s.zone z).acked || (s.zone z).held || s.scfg.fns.any (fun e => e.2.zone == z && (s.fn e.1).sto) ||
    s.zoneDemand z

/-- The zones that an output pair follows (R481, R483): its ZONE, or for a brake those of the SBC instances that drive it. -/
def State.outZones (s : State) (q : Nat) : List Nat := match (s.scfg.out q).use with
  | 1 => [(s.scfg.out q).zone]
  | 2 => (s.scfg.fns.filter (fun e => e.2.func == 7 && e.2.out == q)).map (·.2.zone)
  | _ => []

/-- A reset edge clears the faults of its zone whose conditions have gone (R462, R469, R471, R474, R483, R489). -/
def edgeClear (z : Nat) (s : State) : State :=
  let s1 := forEach ((s.scfg.fns.filter (fun e => e.2.zone == z)).flatMap (fun e => maskBits 8 e.2.pairs)).eraseDups (fun p t =>
    if (t.pairIn p).fault ∧ (t.pairIn p).seen then t.updPairIn p (fun x => { x with fault := false, seen := false }) else t) s
  let s2 := forEach (s.zoneSafe z) (fun e t =>
    if (t.sa e.1).fault ∧ t.safeClear e.1 e.2 then
      t.updSa e.1 (fun x => { x with fault := false, disc := false, run := 0, d1 := if e.2.src = 2 then x.d1 else 0, d2 := 0 })
    else t) s1
  let slots := match s.scfg.zones.find? (fun e => e.1 == z) with | some (_, y) => maskBits 24 y.slots | none => []
  let s3 := forEach slots (fun n t =>
    if Table.look (0, 0) t.shr.stoRun n = (0, 0) then t.set ⟨A.shrStoFault, n, n⟩ 0 else t) s2
  let s4 := forEach ((s.scfg.conns.filter (fun e => e.2.zone == z)).map (·.1)) (fun c t =>
    if (t.tseC c).state = 2 then t.updTse c (fun x => { x with hold := false }) else t) s3
  forEach (upto 4) (fun q t =>
    if (t.outZones q).contains z ∧ (t.outP q).fault ∧ (t.outP q).high = (0, 0) then t.updOut q (fun x => { x with fault := false }) else t) s4

/-- A reset edge acts on its zone (R474): faults whose conditions have gone clear, stopped instances without demand release, and the mask of
RESET_EDGE names those that are still demanded. -/
def resetEdge (z : Nat) (s : State) : State :=
  let s1 := edgeClear z s
  let fns := s.scfg.fns.filter (fun e => e.2.zone == z && e.2.func != 7)
  let still := fns.filter (fun e => s1.zoneDemand z || s1.fnDemand e.2 (s1.fn e.1))
  let s2 := s1.raise 0x0A03 sevInfo (s.zoneData z) (s.rstPlace z) [(16, 1, z), (17, 1, 0), (20, 4, (still.map (fun e => 2 ^ e.1)).sum)]
  let s3 := forEach ((s.scfg.fns.filter (fun e => e.2.zone == z && !still.any (fun y => y.1 == e.1))).map (·.1)) (fun k t =>
    if (t.fn k).state = 3 ∨ (t.fn k).state = 4 then t.updFn k FnSt.clear else t) s2
  s3.updZone z (fun y => { y with acked := true, edge := false, held := s.shr.deviceSto })

/-- Torque is lost in a zone (R477): where the whole device does not go to STO, the groups with an axis in it go to FAULTED. -/
def zoneLost (z : Nat) (s : State) : State :=
  forEach (s.zoneAxes z) (fun a t => match t.groupOf a with
    | some g => if t.gst g = gIdle then t else axisFault a t
    | none => t) s

/-- The length of a dark pulse, in ns (R483). -/
def darkNs : Nat := 300000
/-- Whether a dark pulse that began at a local time runs now. -/
def State.dark (s : State) (at' : Option Nat) : Bool := match at' with | some t => decide (s.nowNs < t + darkNs) | none => false
/-- What an output channel carries (R483 to R485): on when commanded and refreshed, outside its own dark pulse, and after a command on that met
a pulse of either channel only from the end of that pulse. -/
def State.outLevel (s : State) (q : Nat) (b : Bool) : Bool :=
  let x := s.outP q
  x.on && decide (x.rise ≤ s.nowNs) && !(if b then x.offB else x.offA) && !s.dark (if b then x.darkB else x.darkA)
/-- Commands a pair on or off: off acts at once, and a pair turns on only when both channels can do so together (R484). -/
def outCommand (q : Nat) (on : Bool) (s : State) : State :=
  s.updOut q (fun x =>
    let ends (d : Option Nat) : Nat := if s.dark d then d.getD 0 + darkNs else 0
    { x with on := on, rise := if x.on then x.rise else max (ends x.darkA) (ends x.darkB) })

/-- An output pair's command, readback, pulse and fault as SHR.SO_STATE shows them. -/
def soByte (s : State) (q : Nat) : Nat :=
  let x := s.outP q
  let b (c : Bool) (n : Nat) : Nat := if c then 2 ^ n else 0
  b x.fault 7 + b (s.dark x.darkA || s.dark x.darkB) 6 + b x.rbB 5 + b x.rbA 4 + b x.on 3 + b x.on 2 + (s.scfg.out q).use

/-- SHR's registers show the state (Tables 13.10 and 13.11). -/
def shrPublish (s : State) : State :=
  let c := s.scfg
  let b (x : Bool) (n : Nat) : Nat := if x then 2 ^ n else 0
  let si := ((upto 8).map (fun p =>
    let x := s.pairIn p
    let dem := if (c.pair p).kind = 3 then x.state else if (c.pair p).kind = 0 then true else s.pairDemand p
    16 ^ p * (b x.fault 3 + b dem 2 + b x.b 1 + b x.a 0))).sum
  let so := ((upto 4).map (fun q => 256 ^ q * soByte s q)).sum
  let zs := ((upto 16).map (fun z =>
    4 ^ z * (if !(c.zones.any (fun e => e.1 == z)) ∨ (s.zone z).sto then 2 else if s.stopping z then 1 else if s.inSos z then 3 else 0))).sum
  let torque := if s.getB F.pwtThermStatus_TRIP then 0 else ((upto s.slots).map (fun n =>
    match s.slotZone n with
    | some z => if (s.zone z).sto then 0 else 2 ^ n
    | none => 0)).sum
  let s1 := (((s.set F.shrSiState_PAIRS si).set F.shrSoState_OUTS so).set F.shrZoneState_ZONES zs).set F.shrStoCmd_TORQUE torque
  let s2 := s1.setB F.shrStatus_STO_ALL (s.shrState != 2 || c.zones.all (fun e => (s.zone e.1).sto))
  let s3 := forEach c.fns (fun e t =>
    let x := t.fn e.1
    let v := e.2.func * 2 ^ 28 + e.2.zone * 2 ^ 24 + t.srcDem e.2 x * 256 + x.state
    let old := t.get (F.shrFn_STATE e.1)
    let t1 := t.setReg (A.shrFn e.1) (BitVec.ofNat 32 v)
    whenB (old != x.state) (fun u => u.raise 0x0A01 (if x.state = 2 ∨ x.state = 3 then sevWarn else sevInfo) (u.zoneData e.2.zone) (fnPlace e.1)
      [(16, 1, e.1), (17, 1, x.state), (18, 1, old), (20, 2, t.srcDem e.2 x)]) t1) s2
  let s4 := forEach c.axes (fun e t =>
    let x := t.sa e.1
    let ceils := c.fns.filterMap (fun f =>
      if f.2.func = 5 ∧ f.2.reef ∧ (t.fn f.1).limits ∧ (t.zoneSafe f.2.zone).any (fun y => y.1 == e.1) then
        some (qdiv ((65536 - f.2.margin) * f.2.share * e.2.vRef * e.2.axNum : Nat) (2 ^ 32 * e.2.axDen : Nat)).toNat
      else none)
    let ceil := match ceils with | [] => 0 | h :: r => r.foldl min h
    let v := e.2.axis * 2 ^ 24 + ((t.safeZone e.1).getD 0) * 2 ^ 20 + e.2.src * 2 ^ 16 + b x.disc 2 + b (t.standstill e) 1 + b x.fault 0
    (((t.setReg (A.shrSa e.1) (BitVec.ofNat 32 v)).setReg (A.shrSaSpeed e.1) (BitVec.ofInt 32 (satI 32 x.speed))).setReg (A.shrSaCeil e.1)
      (BitVec.ofNat 32 (satN 32 ceil))).setReg (A.shrSaPos e.1) (BitVec.ofInt 32 x.pos)) s3
  forEach c.conns (fun e t =>
    let x := t.tseC e.1
    (((t.setReg (A.shrTse e.1) (BitVec.ofNat 32 (x.state * 2 ^ 24 + e.2.node * 2 ^ 16 + e.2.zone * 256 + x.cause))).setReg (A.shrTseSeq e.1)
      (BitVec.ofNat 32 (x.tx * 2 ^ 16 + x.rx))).setReg (A.shrTseCnt e.1) (BitVec.ofNat 32 (x.repeats * 2 ^ 16 + x.faults))).setReg (A.shrTseId e.1)
      (BitVec.ofNat 32 e.2.connId)) s4

/-- The zones, slots and outputs follow what holds them; a zone that loses torque acts on its groups. -/
def shrApply (s : State) : State :=
  let zs := s.scfg.zones.map (·.1)
  let s1 := forEach zs (fun z t => t.updZone z (fun y => { y with sto := t.zoneHold z })) s
  let lost := zs.filter (fun z => !(s.zone z).sto && (s1.zone z).sto)
  let s2 := if s1.stoDemand then s1 else forEach lost zoneLost s1
  let s3 := forEach lost (fun z t => forEach (t.scfg.fns.filter (fun e => e.2.func == 7 && e.2.zone == z)) (fun e u =>
    if e.2.tBrake = 0 then u.updOut e.2.out (fun x => { x with on := false, brakeDue := none })
    else u.updOut e.2.out (fun x => { x with brakeDue := some (u.shr.tick + e.2.tBrake) })) t) s2
  let s4 := forEach (upto 4) (fun q t =>
    let x := t.outP q
    let ofs := t.outZones q
    let free := ofs ≠ [] ∧ ofs.all (fun z => !(t.zone z).sto && t.scfg.zones.any (fun e => e.1 == z))
    let on := match (t.scfg.out q).use with
      | 1 => decide free && !ofs.any t.stopping
      | 2 => decide free || (x.on && x.brakeDue.isSome)
      | _ => false
    outCommand q (on && !x.fault && t.shrState == 2) (t.updOut q (fun y => { y with brakeDue := if free then none else y.brakeDue }))) s3
  shrPublish s4
/-- A timer of the present Shroud step has acted: the instances and what follows from them take the same step again (R463). -/
def shrAgain (s : State) : State := if s.shrState = 2 then shrApply (fnsStep s) else s

/-- DISCREPANCY_TIMEOUT (R471). -/
def discrepancy (p : Nat) (s : State) : State :=
  match (s.pairIn p).left with
  | some i => if s.shr.tick < i + (s.scfg.pair p).dt + 1 then s else shrAgain (pairFault p 0 s)
  | none => s
/-- TSE_WATCHDOG (R488). -/
def tseWatch (c : Nat) (s : State) : State :=
  let x := s.tseC c
  if !x.flying ∨ s.shr.tick < x.wdDue ∨ x.state = 3 then s else shrAgain (tseFault c 6 s)
/-- STOP_COMPLETE: T_DELAY + T_RAMP have passed (R479). -/
def stopComplete (k : Nat) (s : State) : State :=
  match s.scfg.fns.find? (fun e => e.1 == k) with
  | some (_, f) =>
    let x := s.fn k
    if (f.func = 2 ∨ f.func = 3) ∧ x.state = 2 ∧ x.onset + x.env.1 + x.env.2 ≤ s.shr.tick then shrAgain (stopDone k f s) else s
  | none => s
/-- SLS_REACT: T_REACT has passed since the onset (R480, R481). -/
def slsReact (k : Nat) (s : State) : State :=
  match s.scfg.fns.find? (fun e => e.1 == k) with
  | some (_, f) =>
    let x := s.fn k
    if f.func = 5 ∧ x.state = 1 ∧ x.onset + f.tReact ≤ s.shr.tick then shrAgain (s.updFn k (fun y => { y with live := true })) else s
  | none => s

/-- BRAKE_DELAY: T_BRAKE after the zone's STO (R481). -/
def brakeDelay (k : Nat) (s : State) : State :=
  match s.scfg.fns.find? (fun e => e.1 == k) with
  | some (_, f) =>
    (match (s.outP f.out).brakeDue with
      | some due => if f.func = 7 ∧ due ≤ s.shr.tick then shrPublish (s.updOut f.out (fun x => { x with on := false, brakeDue := none })) else s
      | none => s)
  | none => s

/-- A safety output pair faults: both channels off (R483). -/
def soFault (q why' : Nat) (s : State) : State :=
  if (s.outP q).fault then s
  else (s.updOut q (fun x => { x with fault := true, on := false })).raise 0x0A06 sevFault (s.zoneData ((s.outZones q).headD 16)) (0x9880 + q)
    [(16, 1, q), (17, 1, why')]
/-- OUTPUT_TEST_PULSE: the dark pulse of a channel that is on; `fell` says that its readback fell within 250 us (R483). -/
def outputPulse (q : Nat) (b fell : Bool) (s : State) : State :=
  if !(s.outP q).on then s
  else
    let s1 := s.updOut q (fun x => if b then { x with darkB := some s.nowNs } else { x with darkA := some s.nowNs })
    shrPublish (if fell then s1 else soFault q 0 s1)
/-- FIELD_DRIVER_TIMEOUT: a channel without refresh from its core turns off (R485). -/
def fieldTimeout (q : Nat) (b : Bool) (s : State) : State :=
  shrPublish (s.updOut q (fun x => if b then { x with offB := true, rbB := false } else { x with offA := true, rbA := false }))

/-- An STO fault of a slot (R462): channel 0 A, 1 B. -/
def stoFault (n ch : Nat) (s : State) : State :=
  if s.get F.shrStoFault_FAULT |>.testBit n then s
  else (s.set ⟨A.shrStoFault, n, n⟩ 1).raise 0x0A07 sevFault (match s.slotZone n with | some z => s.zoneData z | none => 0) (0x9A00 + n) [(16, 1, n), (17, 1, ch)]

/-- STO_CHECK in its Shroud tick: the enables of slots in STO zones pulse high one channel at a time; `a`, `b` the slots whose readback follows
(R496). -/
def stoCheck (a b : Nat) (s : State) : State :=
  forEach (upto s.slots) (fun n t => match t.slotZone n with
    | some z => if !(t.zone z).sto then t else if !a.testBit n then stoFault n 0 t else if !b.testBit n then stoFault n 1 t else t
    | none => t) s
/-- PULSE_NOW in its Shroud tick: a dark pulse on every on channel; `fell` the channels whose readback falls (bit 2q + channel). -/
def pulseNow (fell : Nat) (s : State) : State :=
  forEach (upto 4) (fun q t =>
    if !(t.outP q).on then t
    else
      let t1 := t.updOut q (fun x => { x with darkA := some t.nowNs, darkB := some t.nowNs })
      if fell.testBit (2 * q) ∧ fell.testBit (2 * q + 1) then t1 else soFault q 0 t1) s
/-- What SHR.TEST asks for runs in the Shroud tick, and its bits clear themselves. -/
def shrTests (m : ShroudSample) (s : State) : State :=
  let s1 := whenB (s.getB F.shrTest_STO_CHECK && s.shrState == 2) (stoCheck m.checkA.toNat m.checkB.toNat) s
  (whenB (s.getB F.shrTest_PULSE_NOW && s.shrState == 2) (pulseNow m.fell.toNat) s1).setReg A.shrTest 0

/-- A Shroud fault (R464). -/
def shrFault (cause : Nat) (s : State) : State :=
  if s.shrState = 3 then s
  else
    let s1 := (s.set F.shrStatus_STATE 3).set F.shrFault_CAUSE cause
    (logAdd 0x0A 0xFF 0 0 cause s1).raise 0x0A08 sevFault 0 shrPlace [(16, 1, cause)]

/-! ## The Shroud tick (R463) -/

/-- The registers of instances, safe axes and connections that a configuration held read as at reset. -/
def cfgClear (s : State) : State :=
  let z (as : List Nat) (t : State) : State := forEach as (fun a u => u.setReg a (regReset a)) t
  let c := s.scfg
  z (c.conns.flatMap (fun e => [A.shrTse e.1, A.shrTseSeq e.1, A.shrTseCnt e.1, A.shrTseId e.1]))
    (z (c.axes.flatMap (fun e => [A.shrSa e.1, A.shrSaSpeed e.1, A.shrSaCeil e.1, A.shrSaPos e.1])) (z (c.fns.map (fun e => A.shrFn e.1)) s))
/-- A configuration takes effect: every instance starts latched and every zone waits for a reset edge (R492). Faults that only a reset edge
clears stay, and a pair whose channels differ begins its discrepancy timer (notes/assumptions/129.md). -/
def cfgInForce (c : SafetyCfg) (crc : Nat) (s : State) : State :=
  let s1 := (cfgClear s).updShr (fun x => { x with
    cfg := some (c, crc), apply := none, axes := [], conns := [], zones := []
    outs := Table.mapVals {} (fun y => { y with on := false, brakeDue := none }) x.outs
    fns := c.fns.map (fun e => (e.1, { state := 3, sto := true, host := (Table.look {} x.fns e.1).host }))
    pairs := ((upto 8).map (fun p : Nat =>
      let y : PairIn := Table.look {} x.pairs p
      let k := (c.pair p).kind
      let da := chanDemand k false y.a
      let db := chanDemand k true y.b
      (p, { y with left := if k ≠ 0 ∧ da ≠ db then some x.tick else none, press := none, jammed := false, state := da || db }))).filter
        (fun e => decide (e.2 ≠ {})) })
  (((s1.set F.shrCfgCrc_CFG_CRC crc).set F.shrStatus_CFG_VALID 1)).set F.shrStatus_STATE (if s.shrState = 3 then 3 else 2)

/-- SHROUD_START_UP: the start-up of the Shroud is complete (R113). -/
def shrStartUp (s : State) : State :=
  if s.shr.started then s
  else
    let s1 := s.updShr (fun x => { x with started := true })
    shrApply (match s.shr.store with
      | some (c, crc) => cfgInForce c crc s1
      | none => if s.shrState = 3 then s1 else s1.set F.shrStatus_STATE 1)

/-- Readbacks of the enables: two steps that differ from the command fault the slot (R462). -/
def stoReadback (m : ShroudSample) (s : State) : State :=
  let cmd := s.get F.shrStoCmd_TORQUE
  forEach (upto s.slots) (fun n t =>
    let (ra, rb) := Table.look (0, 0) t.shr.stoRun n
    let na := if bit m.stoA n = cmd.testBit n then 0 else ra + 1
    let nb := if bit m.stoB n = cmd.testBit n then 0 else rb + 1
    let t1 := t.updShr (fun x => { x with stoRun := Table.put (0, 0) n (na, nb) x.stoRun })
    if 2 ≤ na then stoFault n 0 t1 else if 2 ≤ nb then stoFault n 1 t1 else t1) s
/-- Readbacks of the safety outputs: a channel that reads high while commanded off for two steps faults the pair (R483). -/
def soReadback (m : ShroudSample) (s : State) : State :=
  forEach (upto 4) (fun q t =>
    let x := t.outP q
    let run (hi : Bool) (n : Nat) : Nat := if hi && !x.on then n + 1 else 0
    let h := (run (bit m.outA q) x.high.1, run (bit m.outB q) x.high.2)
    let t1 := t.updOut q (fun y => { y with high := h, rbA := bit m.outA q, rbB := bit m.outB q, offA := false, offB := false })
    if 2 ≤ h.1 ∨ 2 ≤ h.2 then soFault q 1 t1 else t1) s

/-- A node that is no longer JOINED has left its connection (R489). -/
def tseLeft (s : State) : State :=
  forEach s.scfg.conns (fun e t =>
    if ((t.tseC e.1).state = 1 ∨ (t.tseC e.1).state = 2) ∧ t.nodeSt e.2.node ≠ nJoined then tseFault e.1 7 t else t) s
/-- Each connection sends once its previous message has been acknowledged, one message in a step (R488). -/
def tseTick (s : State) : State :=
  forEach s.scfg.conns (fun e t =>
    let x := t.tseC e.1
    if x.state = 2 ∧ !x.flying ∧ x.sent < t.shr.tick then tseSend e.1 false t.shr.tick t else t) s

/-- The functions' part of a Shroud tick in RUN: samples, readbacks, tests, reset edges, instances, outputs. -/
def shrRun (m : ShroudSample) (s : State) : State :=
  let s1 := soReadback m (stoReadback m (forEach s.scfg.axes (safeStep m) s))
  let s2 := shrTests m (tseLeft s1)
  let s3 := whenB s2.shr.deviceSto (forEach (s2.scfg.zones.map (·.1)) (fun z t => t.updZone z (fun y => { y with held := true }))) s2
  let s4 := forEach ((s3.scfg.zones.filter (fun e => (s3.zone e.1).edge)).map (·.1)) resetEdge s3
  tseTick (shrApply (fnsStep s4))

/-- SHROUD_TICK: arrivals have been applied; functions, monitors and outputs follow, then the cross-check (R463, R464). In FAULT the
connections run on with every STO_REL bit 0. -/
def shroudTick (m : ShroudSample) (s0 : State) : State :=
  let s := s0.atCyc m.cyc
  let s1 := (s.updShr (fun x => { x with tick := x.tick + 1, disagree := if m.agree then 0 else x.disagree + 1 })).bump F.shrTick_STICK
  let s2 := match s1.shr.started, s1.shr.apply with
    | true, some (c, crc, ring) =>
      let old := s1.get F.shrCfgCrc_CFG_CRC
      (logAdd 5 ring old crc 0 (cfgInForce c crc s1)).raise 0x0A0A sevInfo 0 shrPlace [(16, 4, crc), (20, 4, old)]
    | _, _ => s1
  let s3 := if !m.selfTest then shrFault 2 s2 else if 2 ≤ s2.shr.disagree then shrFault 1 s2 else s2
  if !s.shr.started then s3
  else if s3.shrState = 2 then shrRun m s3
  else tseTick (shrApply (shrTests m (tseLeft s3)))

/-! ## Safety descriptors (R490 to R495) -/

/-- A safety descriptor from the session's ring keeps it alive. -/
def sessionTouch (d : Desc) (s : State) : State := match s.shr.session with
  | some (r, _) => if r = d.ring.val then s.updShr (fun x => { x with session := some (r, x.tick + 600000) }) else s
  | none => s
/-- Whether the session is this descriptor's. -/
def State.inSession (s : State) (d : Desc) : Bool := match s.shr.session with | some (r, _) => r == d.ring.val | none => false

def pwLen (d : Desc) : Clamped Nat := cN 0 32 (d.f 1 15 8)
def pwBytes (d : Desc) : List Byte := ([2, 3, 4, 5].flatMap (fun w => leBytes 8 (d.n w))).take (pwLen d).val
def saltBytes (b : BitVec 128) : List Byte := leBytes 16 b.toNat
def pwMatches (s : State) (pw : List Byte) : Bool := match s.shr.password with
  | none => pw.isEmpty
  | some (salt, dig) => Config.sha256 (saltBytes salt ++ pw) == dig

def opSessionOpen (d : Desc) (s : State) : State × Reply :=
  let cl := clampMask [(1, (pwLen d).hit)]
  let ring := d.ring.val
  if s.shr.lockDue.isSome then (sessionTouch d s, why 4 0 cl)
  else if s.shr.session.isSome ∧ !s.inSession d then (s, why 2 0 cl)
  else if pwMatches s (pwBytes d) then
    let s1 := s.updShr (fun x => { x with session := some (ring, x.tick + 600000), wrong := 0 })
    let s2 := (s1.set F.shrStatus_SESSION 1).set F.glbStatus_SAFE_SESS 1
    ((if s.shr.session.isSome then s2 else logSession 1 ring 0 s2), why 0 0 cl)
  else
    let n := s.shr.wrong + 1
    let s1 := (sessionTouch d s).updShr (fun x => { x with wrong := n, lockDue := if 3 ≤ n then some (x.tick + 60000) else none })
    (logSession 2 ring n (s1.setB F.shrStatus_LOCKOUT (decide (3 ≤ n))), why 3 0 cl)
def opSessionClose (d : Desc) (s : State) : State × Reply :=
  let cl := clampMask [(1, (pwLen d).hit)]
  if s.shr.lockDue.isSome then (sessionTouch d s, why 4 0 cl)
  else if s.inSession d then (sessionEnd 0 s, why 0 0 cl) else (s, why 2 0 cl)

/-- SESSION_TIMEOUT, LOCKOUT_END, CONFIRM_TIMEOUT. Only a correct password resets the count of wrong ones (R491). -/
def sessionTimeout (s : State) : State := match s.shr.session with
  | some (_, due) => if due ≤ s.shr.tick then sessionEnd 1 s else s
  | none => s
def lockoutEnd (s : State) : State := match s.shr.lockDue with
  | some due => if due ≤ s.shr.tick then (s.updShr (fun x => { x with lockDue := none })).set F.shrStatus_LOCKOUT 0 else s
  | none => s
def confirmTimeout (s : State) : State := match s.shr.pend with
  | some (_, _, due) => if due ≤ s.shr.tick then dropPend s else s
  | none => s

def opPassword (d : Desc) (s0 : State) : State × Reply :=
  let s := sessionTouch d s0
  let cl := clampMask [(1, (pwLen d).hit)]
  if !s.inSession d then (s, why 2 0 cl)
  else if (pwLen d).val = 0 then (s, why 6 0 cl)
  else
    let salt := Config.salt s.free
    let s1 := { s with free := s.free + 1 }.updShr (fun x => { x with password := some (salt, Config.sha256 (saltBytes salt ++ pwBytes d)) })
    (logSession 4 d.ring.val 0 (s1.set F.shrStatus_PW_EMPTY 0), why 0 0 cl)

/-- Whether a SAFETY image's signature and header pass: the check the chapter on images describes. -/
def safetyImageOk (ok : List Byte → Bool) (d : Desc) : Bool := ok d.data

/-- SAFETY_CONFIG; `ok` is the signature and container check of R538 on the fetched image. -/
def opSafetyConfig (ok : List Byte → Bool) (d : Desc) (s0 : State) : State × Reply :=
  let s := sessionTouch d s0
  let len := cN 0 65536 (d.f 1 31 0)
  let cl := clampMask [(1, len.hit)]
  let refuse (r : Nat) : State × Reply := (logAdd 6 d.ring.val (s.get F.shrCfgCrc_CFG_CRC) 0 r s, why r 0 cl)
  if !s.inSession d then (s, why 2 0 cl)
  else if s.getB F.shrStatus_PW_EMPTY then (s, why 10 0 cl)
  else if !safetyImageOk ok d then refuse 5
  else match d.safety with
    | none => refuse 6
    | some c =>
      if !cfgOk s.slots c then refuse 6
      else
        let crc := (crc32c 0xFFFFFFFF d.data).toNat
        let s1 := s.updShr (fun x => { x with pend := some (c, crc, x.tick + 60000) })
        ((s1.set F.shrStatus_PENDING 1).set F.shrPendCrc_PEND_CRC crc, why 0 0 cl)

/-- STO in force in every zone of the configuration in force; a pending configuration's zones that are not in it hold STO. -/
def State.stoEverywhere (s : State) : Bool := s.shrState != 2 || s.scfg.zones.all (fun e => (s.zone e.1).sto)

def opSafetyConfirm (d : Desc) (s0 : State) : State × Reply :=
  let s := sessionTouch d s0
  let refuse (r crc : Nat) : State × Reply := (logAdd 6 d.ring.val (s.get F.shrCfgCrc_CFG_CRC) crc r s, why r)
  if !s.inSession d then (s, why 2)
  else if s.getB F.shrStatus_PW_EMPTY then (s, why 10)
  else match s.shr.pend with
    | none => refuse 8 0
    | some (c, crc, _) =>
      if d.f 1 31 0 ≠ crc then refuse 8 crc
      else if !s.stoEverywhere then refuse 7 crc
      else if !s.getB F.pwtThermStatus_FLASH_OK then refuse 9 crc
      else ((dropPend s).updShr (fun x => { x with store := some (c, crc), apply := some (c, crc, d.ring.val) }), why 0)

/-- SAFETY_DEMAND and DEVICE_STO: the host demand bits are replaced as a whole (R495). -/
def opDemand (dev : Bool) (d : Desc) (s0 : State) : State × Reply :=
  let s := sessionTouch d s0
  let m := d.f 1 31 0
  let stray := (upto 32).any (fun k => m.testBit k && !s.scfg.fns.any (fun e => e.1 == k))
  let s1 := forEach s.scfg.fns (fun e t => t.updFn e.1 (fun x => { x with host := m.testBit e.1 })) s
  (s1.updShr (fun x => { x with deviceSto := dev }), why 0 0 (clampMask [(1, stray)]))

def logBytes (e : LogEntry) : List Byte :=
  rep [(4, e.no), (8, e.time), (1, e.kind), (1, e.ring), (1, e.lc), (1, 0), (4, e.oldCrc), (4, e.newCrc), (8, e.detail)]
def opReportStatus (d : Desc) (s0 : State) : State × Reply :=
  let s := sessionTouch d s0
  writeReport d ((upto 1024).flatMap (fun i => leBytes 4 (s.reg (0x18000 + 4 * i)).toNat)) s
def opReportLog (d : Desc) (s0 : State) : State × Reply :=
  let s := sessionTouch d s0
  let b := s.shr.log.flatMap logBytes
  writeReport d (b ++ List.replicate (8192 - b.length) 0) s

end Sys2Proof.Machine
end

