-- ==== Sys2Proof/Machine/FieldIo.lean ====
section
/-!
DEFINITION. Isolated 24 V field inputs and outputs (spec/14_field_io.md).
-/
namespace Sys2Proof.Machine

def State.updFld (s : State) (f : FldSt → FldSt) : State := { s with fld := f s.fld }
/-- Sets or clears bit `i` of a register. -/
def State.setBit (s : State) (a i : Nat) (b : Bool) : State :=
  s.setReg a (if b then s.reg a ||| BitVec.ofNat 32 (2 ^ i) else s.reg a &&& ~~~ BitVec.ofNat 32 (2 ^ i))
def State.bitAt (s : State) (a i : Nat) : Bool := (s.reg a).getLsbD i

/-- Control place of supply events (R514). -/
abbrev fldPlace : Nat := 0x9402
def State.fldSupply (s : State) (kind sev mv : Nat) : State :=
  s.raise 0x0B03 sev 0 fldPlace [(16, 1, kind), (20, 4, mv)]

/-! ## Supply (R498 to R500) -/

/-- A measurement of VFLD. -/
def vfld (mv : Nat) (s : State) : State := (s.updFld (fun x => { x with mv := mv % 65536 })).set F.dioFldStatus_VFLD mv
/-- VFLD falls below 18.0 V. -/
def fldUvSet (mv : Nat) (s : State) : State :=
  let s0 := vfld mv s
  if 18000 ≤ mv ∨ s.getB F.dioFldStatus_FLD_UV then s0
  else ((s0.set F.dioFldStatus_FLD_UV 1).flag F.dioFldStatus_FLD_UV_SEEN).fldSupply 0 sevWarn mv
/-- VFLD rises above 18.0 V. -/
def fldUvClear (mv : Nat) (s : State) : State :=
  let s0 := vfld mv s
  if mv ≤ 18000 then s0 else s0.set F.dioFldStatus_FLD_UV 0
/-- VFLD falls below 11.0 V: every output is off and latches off, inputs hold. -/
def fldOff (mv : Nat) (s : State) : State :=
  let s0 := vfld mv s
  if 11000 ≤ mv then s0
  else
    let s1 := (s0.set F.dioFldStatus_IN_VALID 0).updFld (fun x => { x with on := 0, up := false })
    let s2 := s1.set F.dioOutLimit_ILIM 0
    if s.fld.up then (s2.set F.dioFldStatus_FLD_OFF 1).fldSupply 1 sevFault mv else s2.set F.dioFldStatus_FLD_OFF 1
/-- VFLD passes 11.0 V from below: the latch is set (R500), inputs filter again from a counter of 0. -/
def fldInValid (mv : Nat) (s : State) : State :=
  let s0 := vfld mv s
  if mv ≤ 11000 ∨ s.fld.up then s0
  else ((s0.set F.dioFldStatus_FLD_OFF 1).set F.dioFldStatus_IN_VALID 1).updFld (fun x => { x with ctr := [], on := 0, up := true })
/-- FIELD_REENABLE (R499). -/
def opFieldReenable (_d : Desc) (s : State) : State × Reply :=
  if s.get F.dioFldStatus_VFLD ≤ 18000 then (s, why 0x02)
  else if !s.getB F.dioFldStatus_FLD_OFF then (s, why 0)
  else ((s.set F.dioFldStatus_FLD_OFF 0).fldSupply 2 sevInfo (s.get F.dioFldStatus_VFLD), why 0)

/-! ## Inputs (R502, R503) -/

/-- FILT of an input. -/
def State.filt (s : State) (j : Nat) : Nat := bits (s.reg (A.dioInFilt (j / 4))) (8 * (j % 4) + 7) (8 * (j % 4))
/-- One sample: the counter and the level after it. -/
def filtStep (filt : Nat) (raw : Bool) (c : Nat) (level : Bool) : Nat × Bool :=
  let c1 := if raw then (if c < filt then c + 1 else c) else (if 0 < c then c - 1 else c)
  let l1 := if c1 = filt then true else level
  (c1, if c1 = 0 then false else l1)
/-- A sample of an input, taken `ago` samples of 25 us before now. -/
def inputSample (j : Nat) (raw : Bool) (ago : Nat) (s : State) : State :=
  let old := s.bitAt A.dioInLevel j
  let (c, level) := filtStep (s.filt j) raw (Table.look 0 s.fld.ctr j) old
  let s1 := (s.updFld (fun x => { x with ctr := Table.put 0 j c x.ctr })).setBit A.dioInRaw j raw
  if level = old then s1
  else
    let b := BitVec.ofNat 32 (2 ^ j)
    let s2 := s1.setBit A.dioInLevel j level
    let s3 := (s2.flag ⟨if level then A.dioInRise else A.dioInFall, j, j⟩).updFld (fun x =>
      if level then { x with rise := x.rise ||| b } else { x with fall := x.fall ||| b })
    if s.bitAt A.dioInEvt j then
      s3.raiseAt (s.nowNs - 25000 * ago) 0x0B01 sevInfo 0 (0x9500 + j) [(16, 1, j), (17, 1, if level then 1 else 0)]
    else s3
/-- Samples of an input in their order; one without a valid supply or coupler holds its level (R498, R511). -/
def inputSamples (j : Nat) : List Bool → State → State
  | [], s => s
  | r :: rest, s =>
    inputSamples j rest (if s.getB F.dioFldStatus_IN_VALID && !s.bitAt A.dioCplFaultIn j then inputSample j r rest.length s else s)
/-- A write of DIO.IN_FILTm: 0 is stored as 1, and a changed FILT clamps the counter (R503). -/
def inFiltWrite (m : Nat) (v : W32) (s : State) : State :=
  let byte (i : Nat) : Nat := max 1 (bits v (8 * i + 7) (8 * i))
  let word := (upto 4).foldl (fun a i => a + byte i * 256 ^ i) 0
  let s1 := s.setReg (A.dioInFilt m) (BitVec.ofNat 32 word)
  forEach (upto 4) (fun i t =>
    if s.filt (4 * m + i) = byte i then t
    else t.updFld (fun x => { x with ctr := Table.put 0 (4 * m + i) (min (Table.look 0 x.ctr (4 * m + i)) (byte i)) x.ctr })) s1

/-! ## Outputs (R505 to R511) -/

/-- FIELD_OUT (R508). -/
def opFieldOut (d : Desc) (s : State) : State × Reply :=
  let m := d.f 1 15 0
  let v := d.f 1 31 16
  (s.set F.dioOutCmd_CMD ((v &&& m) ||| (s.get F.dioOutCmd_CMD &&& (0xFFFF - m))), why 0)
/-- HE serves the couplers: no restart, no fault, no debug halt (R509). -/
def State.heServes (s : State) : Bool :=
  s.ready && !s.engFaulted eHE && !s.getB (F.clkEngStat_HALT eHE)
/-- The field side switches the outputs to the commands of the latest strobe; an output without refresh holds. `read` is what
the pads then read back. -/
def outputUpdate (read : BitVec 16) (s : State) : State :=
  let hold : BitVec 16 := if s.heServes then BitVec.ofNat 16 (s.get F.dioCplFaultOut_CPL_OUT) else BitVec.allOnes 16
  let held := (s.fld.lat &&& ~~~ hold) ||| (s.fld.held &&& hold)
  let on : BitVec 16 :=
    if s.getB F.dioFldStatus_FLD_OFF ∨ !s.fld.enab then 0 else (s.fld.lat &&& ~~~ hold) ||| (s.fld.on &&& hold)
  let s1 := s.updFld (fun x => { x with held := held, on := on })
  (s1.set F.dioOutRead_READ read.toNat).set F.dioOutLimit_ILIM (s.get F.dioOutLimit_ILIM &&& on.toNat)
/-- A flag of an output sets (R514). -/
def outFlag (q flag : Nat) (fld : Fld) (s : State) : State :=
  let bitF : Fld := ⟨fld.a, fld.lo + q, fld.lo + q⟩
  if s.getB bitF then s.flag bitF
  else (s.flag bitF).note 0x0B02 0 (0x9580 + q) [(16, 1, q)] 17 flag 3
/-- An output that is on enters current limit (R505). -/
def overload (q : Nat) (s : State) : State :=
  if !s.fld.on.getLsbD q ∨ s.bitAt A.dioOutLimit (16 + q) then s
  else outFlag q 1 F.dioOutStatus_OVERLOAD (s.setBit A.dioOutLimit q true)
/-- A switch in current limit reaches its thermal limit and turns off; its pad falls (R505, R507). -/
def thermalOff (q : Nat) (s : State) : State :=
  if !s.bitAt A.dioOutLimit q then s
  else (((s.setBit A.dioOutLimit q false).setBit A.dioOutLimit (16 + q) true).setBit A.dioOutRead q false)
/-- It has cooled and follows its command again (R505, R508). -/
def thermalOffEnd (q : Nat) (s : State) : State := s.setBit A.dioOutLimit (16 + q) false
/-- An output commanded off reads above 11 V for 1 ms (R506). -/
def extHigh (q : Nat) (s : State) : State :=
  if s.bitAt A.dioOutCmd q then s else outFlag q 2 F.dioOutStatus_EXT_HIGH (s.setBit A.dioOutRead q true)
/-- An output without refresh for 2 ms holds (R509). -/
def holdSeen (s : State) : State := s.flag F.dioFldStatus_HOLD_SEEN
/-- A coupler carries no toggle for 1 ms (R511). -/
def cplFault (out : Bool) (ch : Nat) (s : State) : State :=
  if (out ∧ 16 ≤ ch) ∨ s.bitAt (if out then A.dioCplFaultOut else A.dioCplFaultIn) ch then s
  else
    let s1 := s.setBit (if out then A.dioCplFaultOut else A.dioCplFaultIn) ch true
    s1.raise 0x0B04 sevFault 0 (if out then 0x9580 + ch else 0x9500 + ch) [(16, 1, if out then 1 else 0), (17, 1, ch)]
/-- The toggle returns and the channel resumes (R509, R511). -/
def cplRestored (out : Bool) (ch : Nat) (s : State) : State :=
  if out ∧ 16 ≤ ch then s else s.setBit (if out then A.dioCplFaultOut else A.dioCplFaultIn) ch false

/-! ## Ticks and resets -/

/-- The three words of HE's exchange image (Table 14.3), 24 bytes. -/
def fldWords (s : State) : List Byte :=
  leBytes 4 (s.reg A.dioInLevel).toNat ++
  leBytes 4 (s.get F.dioFldStatus_IN_VALID + 2 * s.get F.dioFldStatus_FLD_UV) ++
  leBytes 4 s.fld.rise.toNat ++ leBytes 4 s.fld.fall.toNat ++
  leBytes 2 (s.get F.dioOutCmd_CMD) ++ leBytes 2 (s.get F.dioOutRead_READ) ++ leBytes 4 (s.get F.dioFldStatus_FLD_OFF)
/-- At a strobe HE samples its words into its exchange image and the commands go to the field side (R504, R508). -/
def fldStrobe (s : State) : State :=
  let w := fldWords s
  let s1 := s.updEng eHE (fun x => { x with xw := hostWriteAux 0 w x.xw })
  s1.updFld (fun x => { x with lat := BitVec.ofNat 16 (s.get F.dioOutCmd_CMD), enab := !s.getB F.dioFldStatus_FLD_OFF })
/-- Before READY sets, HE reads the state that the field side holds into DIO.OUT_CMD (R510), and the supply's state with it
(notes/assumptions/30.md). -/
def fldStartUp (s : State) : State :=
  let s1 := (s.set F.dioOutCmd_CMD s.fld.held.toNat).updFld (fun x => { x with lat := x.held, enab := !s.getB F.dioFldStatus_FLD_OFF })
  ((s1.set F.dioFldStatus_VFLD s.fld.mv).setB F.dioFldStatus_IN_VALID s.fld.up).setB F.dioFldStatus_FLD_UV
    (s.fld.up && decide (s.fld.mv < 18000))

end Sys2Proof.Machine
end

