-- ==== Sys2Proof/Machine/Power.lean ====
section
/-!
DEFINITION. Supplies, the bank on VBACK, the sensors and the thermal trip (spec/15_power_and_thermal.md).
-/
namespace Sys2Proof.Machine

def State.updPwr (s : State) (f : PwrSt → PwrSt) : State := { s with pwr := f s.pwr }
def State.sensor (s : State) (k : Nat) : Sensor := Table.look {} s.pwr.sensors k
def State.updSensor (s : State) (k : Nat) (f : Sensor → Sensor) : State :=
  s.updPwr (fun x => { x with sensors := Table.upd {} k f x.sensors })
/-- The up-time of the present command, in ns. -/
def State.upNow (s : State) : Nat := s.pwr.upNs + s.clk.cyc * 5 / 2

/-! ## Storage ranges (Tables 15.5 to 15.7) -/

/-- The word that a write of a PWT register stores. -/
def pwtStore (a : Nat) (v : W32) : W32 :=
  let hi := bits v 31 16
  let lo := bits v 15 0
  let both (h l : Nat) : W32 := BitVec.ofNat 32 (h * 65536 + l)
  if a = A.pwtVmainTh then
    let l := clampN 600 3800 lo
    both (clampN (l + 50) 4000 hi) l
  else if a = A.pwtVmainRet then BitVec.ofNat 32 (clampN 100 20000 (bits v 14 0))
  else if a = A.pwtBankCfg then both (clampN 100 2000 hi) (lo &&& 0x33)
  else if a = A.pwtBankV then
    let m := clampN 600 3000 lo
    both (clampN (m + 100) 3200 hi) m
  else if a = A.pwtBankP then both hi (max 1000 lo)
  else if (upto 10).any (fun k => a == A.pwtTsLim k) then
    both (wrapN 16 (clampI (-5120) 19200 (sbits v 31 16))) lo
  else if (upto 10).any (fun k => a == A.pwtTsMeas k) then
    let per := clampN 10 10000 (bits v 13 0)
    let mode := if bits v 31 30 = 3 then 2 else bits v 31 30
    BitVec.ofNat 32 (mode * 2 ^ 30 + bits v 29 24 * 2 ^ 24 + clampN 1 per (bits v 23 14) * 2 ^ 14 + per)
  else v

/-! ## Charger (R519 to R522) -/

abbrev chOff : Nat := 0
abbrev chCC : Nat := 1
abbrev chCV : Nat := 2
abbrev chTemp : Nat := 3
abbrev chSupply : Nat := 4
abbrev chFault : Nat := 5
def State.chState (s : State) : Nat := s.get F.pwtBankStatus_CHG_STATE
/-- The NTC sensor of the bank. -/
def State.bankSensor (s : State) : Nat := 6 + s.get F.pwtBankCfg_BANK_NTC

/-- The time in ns that the charger has spent in CC since it entered it from OFF or FAULT (R522). -/
def State.ccTotal (s : State) : Nat := s.pwr.ccNs + (if s.chState = chCC then s.upNow - s.pwr.ccFrom else 0)
/-- The charger goes to a state; CHARGE_STATE is raised when it changes. -/
def setCharger (st : Nat) (s : State) : State :=
  let old := s.chState
  if st = old then s
  else
    let s1 := (s.set F.pwtBankStatus_CHG_STATE st).setB F.pwtBankStatus_CHG_FAULT (st == chFault)
    let s2 := s1.set F.pwtPower_I_CHG_ACT (if st = chCC then s.get F.pwtBankCfg_I_CHG else if st = chCV then s.get F.pwtPower_I_CHG_ACT else 0)
    let s3 := s2.updPwr (fun x =>
      { x with ccFrom := s.upNow, ccNs := if st = chCC then (if old = chOff ∨ old = chFault then 0 else x.ccNs) else s.ccTotal })
    s3.raise 0x0C02 (if st = chFault ∨ st = chTemp then sevWarn else sevInfo) 0 0x9403
      [(16, 1, st), (17, 1, old), (20, 2, s.get F.pwtVolts_VBACK)]
/-- The state that the conditions of R519 give. -/
def chargerEval (s : State) : State :=
  let st :=
    if s.chState = chFault then chFault
    else if !s.getB F.pwtBankCfg_KIND ∨ !s.getB F.pwtBankCfg_CHG_EN then chOff
    else if s.getB F.pwtSupStatus_VMAIN_LOST then chSupply
    else if s.getB F.pwtBankStatus_TEMP_HELD ∨ s.getB (F.pwtTsStatus_BROKEN s.bankSensor) then chTemp
    else if s.chState = chCC ∨ s.chState = chCV then
      (if s.chState = chCC ∧ s.get F.pwtBankV_V_CHG ≤ s.get F.pwtVolts_VBACK then chCV else s.chState)
    else chCC
  setCharger st s
/-- CHARGE_STATE: VBACK and the charger's current, as the charger sees them. -/
def chargeState (vback mA : Nat) (s : State) : State :=
  chargerEval ((s.set F.pwtVolts_VBACK vback).set F.pwtPower_I_CHG_ACT
    (if s.chState = chCC ∨ s.chState = chCV then mA else 0))
/-- CHARGE_TIMEOUT (R522). -/
def chargeTimeout (s : State) : State :=
  let tmo := s.get F.pwtBankP_CHG_TMO
  if s.chState = chCC ∧ tmo ≠ 0 ∧ tmo * 1000000000 ≤ s.ccTotal then setCharger chFault s else s
/-- CHARGE_CTRL (R522, R532). -/
def opChargeCtrl (d : Desc) (s : State) : State × Reply :=
  if !d.fb 1 0 then (s, why 0)
  else if s.chState ≠ chFault then (s, why 0x02)
  else (setCharger chOff s, why 0)

/-! ## Supplies (R515 to R517) -/

def State.supplyEvent (s : State) (kind : Nat) : State :=
  s.raise 0x0C01 (if kind = 0 ∨ kind = 2 then sevWarn else sevInfo) 0 (if kind < 2 then 0x9400 else 0x9401)
    [(16, 1, kind), (20, 2, s.get F.pwtVolts_VMAIN), (22, 2, s.get F.pwtVolts_VBACK)]
def setVolts (vmain vback : Nat) (s : State) : State := (s.set F.pwtVolts_VMAIN vmain).set F.pwtVolts_VBACK vback
def setOnVback (b : Bool) (s : State) : State := (s.setB F.glbStatus_ON_VBACK b).setB F.pwtSupStatus_ON_VBACK b
/-- VBACK falls below or rises above 6.0 V; while VMAIN is lost its return takes over (R515; notes/assumptions/130.md). -/
def vbackAbsent (vback : Nat) (s : State) : State :=
  let s0 := s.set F.pwtVolts_VBACK vback
  let absent := decide (vback < 600)
  if absent = s.getB F.pwtSupStatus_VBACK_ABSENT then s0
  else
    let s1 := s0.setB F.pwtSupStatus_VBACK_ABSENT absent
    (if !absent ∧ s.getB F.pwtSupStatus_VMAIN_LOST then setOnVback true s1 else s1).supplyEvent (if absent then 2 else 3)
/-- VMAIN has stayed below LOSS for 1 us: the charger disconnects first, then VBACK takes over (R516, R521). -/
def vmainLost (vmain vback : Nat) (s : State) : State :=
  let s0 := setVolts vmain vback s
  if s.get F.pwtVmainTh_LOSS ≤ vmain ∨ s.getB F.pwtSupStatus_VMAIN_LOST then s0
  else
    let s1 := ((s0.set F.pwtSupStatus_VMAIN_LOST 1).flag F.pwtSupStatus_LOSS_SEEN).set F.pwtSupStatus_RET_QUAL 0
    let s2 := chargerEval s1
    let s3 := if 600 ≤ vback then setOnVback true s2 else vbackAbsent vback s2
    (s3.supplyEvent 0).updPwr (fun x => { x with arr := x.arr ++ [true] })
/-- VMAIN rises above RETURN, or falls below it again (R516). -/
def returnQual (vmain : Nat) (s : State) : State :=
  let s0 := s.set F.pwtVolts_VMAIN vmain
  if !s.getB F.pwtSupStatus_VMAIN_LOST then s0
  else
    let above := decide (s.get F.pwtVmainTh_RETURN < vmain)
    (s0.setB F.pwtSupStatus_RET_QUAL above).updPwr (fun x => { x with qual := if above && s.getB F.pwtSupStatus_RET_QUAL then x.qual else s.upNow })
/-- VMAIN has stayed above RETURN for RET_US (R516, R521). -/
def vmainBack (vmain vback : Nat) (s : State) : State :=
  let s0 := setVolts vmain vback s
  if vmain ≤ s.get F.pwtVmainTh_RETURN ∨ !s.getB F.pwtSupStatus_RET_QUAL ∨ s.upNow < s.pwr.qual + s.get F.pwtVmainRet_RET_US * 1000 then s0
  else
    let s1 := (s0.set F.pwtSupStatus_VMAIN_LOST 0).set F.pwtSupStatus_RET_QUAL 0
    chargerEval (((setOnVback false s1).supplyEvent 1).updPwr (fun x => { x with arr := x.arr ++ [false] }))

/-! ## Flash-write window (R530) -/

def State.measMode (s : State) (k : Nat) : Nat := s.get (F.pwtTsMeas_MODE k)
def State.temp (s : State) (k : Nat) : Int := sx 16 (s.get (F.pwtTsRead_TEMP k))
def State.broken (s : State) (k : Nat) : Bool := s.getB (F.pwtTsStatus_BROKEN k)
/-- Every die sensor in use that is not broken reads from 0 to +85 degrees, none older than 100 ms. -/
def State.flashOk (s : State) : Bool :=
  let used := (upto 6).filter (fun k => s.measMode k != 2 && !s.broken k)
  !used.isEmpty && used.all (fun k => match (s.sensor k).hist with
    | (t, x) :: _ => decide (s.upNow ≤ t + 100000000 ∧ 0 ≤ x ∧ x ≤ 10880)
    | [] => false)
def flashRefresh (s : State) : State := s.setB F.pwtThermStatus_FLASH_OK s.flashOk

/-! ## Sensors (R525 to R527) -/

/-- Insertion of a number into a rising list. -/
def insertI (x : Int) : List Int → List Int
  | [] => [x]
  | y :: r => if x ≤ y then x :: y :: r else y :: insertI x r
/-- Twice the median. -/
def median2 (l : List Int) : Int :=
  let r := l.foldl (fun a x => insertI x a) []
  let n := r.length
  if n = 0 then 0 else r.getD ((n - 1) / 2) 0 + r.getD (n / 2) 0
/-- Whether a measurement is plausible (R527). -/
def plausible (k : Nat) (t : Int) (s : State) : Bool :=
  if k < 6 then
    let others := ((upto 6).filter (fun j => j != k && !s.broken j && s.measMode j != 2 && !(s.sensor j).hist.isEmpty)).map s.temp
    decide (-7680 ≤ t ∧ t ≤ 22400) && (others.isEmpty || decide ((2 * t - median2 others).natAbs ≤ 5120))
  else decide (-7040 ≤ t ∧ t ≤ 19200)
/-- DIE_MAX: the highest reading of the die sensors that are not broken. -/
def dieMax (s : State) : State :=
  match ((upto 6).filter (fun k => !s.broken k)).map s.temp with
  | [] => s
  | x :: r => s.setI F.pwtThermStatus_DIE_MAX (r.foldl max x)
/-- The absolute limit (R526). -/
def tempLimit (k : Nat) (t : Int) (s : State) : State :=
  let lim : Int := sx 16 (s.get (F.pwtTsLim_LIM k))
  if lim ≤ t then
    if s.getB (F.pwtTsStatus_OVER k) then s
    else ((s.set (F.pwtTsStatus_OVER k) 1).flag (F.pwtTsStatus_OVER_SEEN k)).raise 0x0C04 sevWarn 0 (0x9480 + k)
      [(16, 1, k), (20, 2, wrapN 16 t), (22, 2, wrapN 16 lim)]
  else if t < lim - 256 then s.set (F.pwtTsStatus_OVER k) 0
  else s
/-- The rate of rise against the newest reading that is 1 s to 10 s older (R526); `hist` the readings before this one. -/
def tempRate (k : Nat) (t : Int) (hist : List (Nat × Int)) (s : State) : State :=
  let now := s.upNow
  match hist.find? (fun e => decide (e.1 + 1000000000 ≤ now)) with
  | none => s
  | some (t0, x0) =>
    if t0 + 10000000000 < now then s
    else
      let dt : Int := (now - t0 : Nat)
      let num : Int := (t - x0) * 2000000000
      let rate := satI 16 (qdiv num dt)
      let lim : Int := sx 16 (s.get (F.pwtTsLim_RATE_LIM k))
      let s1 := s.setI (F.pwtTsRead_RATE k) rate
      if lim = 0 then s1
      else if lim * dt < num then
        if (s.sensor k).rising then s1
        else ((s1.flag (F.pwtTsStatus_RISE k)).updSensor k (fun x => { x with rising := true })).raise 0x0C05 sevWarn 0 (0x9480 + k)
          [(16, 1, k), (20, 2, wrapN 16 rate), (22, 2, wrapN 16 lim)]
      else s1.updSensor k (fun x => { x with rising := false })
/-- Whether a sensor is measured at FAST_MS (R525). -/
def tempFast (k : Nat) (t : Int) (s : State) : State :=
  let lim : Int := sx 16 (s.get (F.pwtTsLim_LIM k))
  let near : Int := s.get (F.pwtTsMeas_NEAR k) * 128
  if s.measMode k ≠ 0 then s.set (F.pwtTsStatus_FAST k) 0
  else if lim - near ≤ t then s.set (F.pwtTsStatus_FAST k) 1
  else if t < lim - near - 256 then s.set (F.pwtTsStatus_FAST k) 0
  else s
/-- A measurement of a sensor and its checks. -/
def measure (k : Nat) (t : Int) (s : State) : State :=
  let x := s.sensor k
  let now := s.upNow
  let ok := plausible k t s
  let good := if ok then x.good + 1 else 0
  let bad := if ok then 0 else x.bad + 1
  let s0 := s.updSensor k (fun y => { y with asked := false, good := min good 3, bad := min bad 3 })
  if s.broken k ∧ good < 3 then flashRefresh s0
  else
    let hist := x.hist.filter (fun e => decide (now ≤ e.1 + 10000000000))
    let s1 := (s0.setI (F.pwtTsRead_TEMP k) t).updSensor k (fun y => { y with hist := (now, t) :: hist })
    let s2 :=
      if s.broken k then
        (s1.set (F.pwtTsStatus_BROKEN k) 0).raise 0x0C06 sevInfo 0 (0x9480 + k) [(16, 1, k), (17, 1, 1), (20, 2, wrapN 16 t)]
      else if 3 ≤ bad then
        (s1.set (F.pwtTsStatus_BROKEN k) 1).raise 0x0C06 sevWarn 0 (0x9480 + k) [(16, 1, k), (20, 2, wrapN 16 t)]
      else s1
    flashRefresh (dieMax (if s2.broken k then s2 else tempFast k t (tempRate k t hist (tempLimit k t s2))))
/-- TEMP_MEASURE: HE measures a sensor; one of MODE 2 never, an NTC of MODE 1 only on request, none periodically while HE overruns. -/
def tempMeasure (k : Nat) (t : Int) (s : State) : State :=
  let asked := (s.sensor k).asked
  if s.measMode k = 2 ∨ (s.measMode k = 1 ∧ 6 ≤ k ∧ !asked) ∨
     (Table.look false s.clk.late eHE ∧ s.measMode k = 0 ∧ !asked) then s
  else measure k t s
/-- BANK_TEMP_MEASURE: the bank thermistor, whatever its MODE, and the charging window (R520). -/
def bankTemp (t : Int) (s : State) : State :=
  if s.chState ≠ chCC ∧ s.chState ≠ chCV ∧ s.chState ≠ chTemp then s
  else
    let s1 := measure s.bankSensor t s
    let held := if t < -2560 ∨ 7680 < t then true
      else if -2304 ≤ t ∧ t ≤ 7424 then false
      else s.getB F.pwtBankStatus_TEMP_HELD
    chargerEval (s1.setB F.pwtBankStatus_TEMP_HELD (held || s1.broken s.bankSensor))
/-- THERMAL_MEASURE (R532). -/
def opThermalMeasure (d : Desc) (s : State) : State × Reply :=
  let mask := d.f 1 9 0
  let want := (upto 10).filter (fun k => mask.testBit k)
  let used := want.filter (fun k => s.measMode k != 2)
  let c := if used.length < want.length then 2 else 0
  if used.isEmpty then (s, why 0x01 0 c)
  else (forEach used (fun k t => t.updSensor k (fun x => { x with asked := true })) s, why 0 0 c)

/-! ## Thermal trip (R528, R529) -/

/-- Die comparators reach 135 degrees. -/
def thermalTrip (src : BitVec 6) (s : State) : State :=
  let old := s.get F.pwtThermStatus_TRIP_SRC
  let now := old ||| src.toNat
  if now = old then s
  else
    let s1 := forEach (upto s.slots) slotSafe s
    let s2 := (((s1.set F.glbStatus_THERM_LATCH 1).set F.pwtThermStatus_TRIP 1).flag F.pwtThermStatus_TRIP_SEEN).set F.pwtThermStatus_TRIP_SRC now
    let low := ((upto 6).find? (fun k => src.getLsbD k && !old.testBit k)).getD 0
    let s3 := s2.raise 0x0C07 sevFault 0 (0x9480 + low) [(16, 1, now), (20, 2, s.get F.pwtThermStatus_DIE_MAX)]
    shrPublish s3
/-- Die comparators release at 110 degrees; once all have, the trip ends and the gate releases the enables. THERM_LATCH stands until
the device leaves THERMAL_HOLD (Table 3.11). -/
def thermalRelease (src : BitVec 6) (s : State) : State :=
  let left := s.get F.pwtThermStatus_TRIP_SRC &&& (63 - src.toNat)
  let s1 := s.set F.pwtThermStatus_TRIP_SRC left
  if left = 0 ∧ s.getB F.pwtThermStatus_TRIP then shrPublish (s1.set F.pwtThermStatus_TRIP 0) else s1

/-! ## Ticks -/

/-- HOLD_AVAIL in ms (R523). -/
def holdAvail (s : State) : Nat :=
  let vb := s.get F.pwtVolts_VBACK
  let vm := s.get F.pwtBankV_V_MIN
  if !s.getB F.pwtBankCfg_KIND then 0xFFFFFFFF
  else if vb ≤ vm then 0
  else min 0xFFFFFFFE (qdiv (s.get F.pwtBankC_ETA * s.get F.pwtBankC_C * (vb * vb - vm * vm) : Nat) (131072 * s.get F.pwtBankP_P_HOLD : Nat)).toNat
/-- The reserve against the haul-down (R523). -/
def reserve (s : State) : State :=
  let avail := holdAvail s
  let s1 := s.set F.pwtHoldAvail_HOLD_AVAIL avail
  if !s.getB F.pwtBankCfg_KIND then s1.set F.pwtBankStatus_RESERVE_LOW 0
  else
    let s2 := if s.get F.pwtVolts_VBACK < s.get F.pwtBankV_V_MIN then s1.flag F.pwtSupStatus_VBACK_LOW else s1
    if s.web.figVis.state = 3 then s2.set F.pwtHoldNeed_HOLD_NEED 0
    else
      let need := min s.web.figVis.need 0xFFFFFFFF
      let s3 := s2.set F.pwtHoldNeed_HOLD_NEED need
      if avail < need then
        if s.getB F.pwtBankStatus_RESERVE_LOW then s3
        else (s3.set F.pwtBankStatus_RESERVE_LOW 1).raise 0x0C03 sevWarn 0 0x9403 [(16, 4, avail), (20, 4, need)]
      else s3.set F.pwtBankStatus_RESERVE_LOW 0
/-- A sensor that is no longer used has no reading and is not broken (R525). -/
def sensorUnused (k : Nat) (s : State) : State :=
  if s.measMode k = 2 ∧ !(k == s.bankSensor && (s.chState == chCC || s.chState == chCV || s.chState == chTemp)) then
    ((s.setReg (A.pwtTsRead k) 0).setReg (A.pwtTsStatus k) (s.reg (A.pwtTsStatus k) &&& 0x6)).updSensor k (fun _ => {})
  else s
/-- HE's step: `ns` the length of the ended tick, then the supplies as measured at the strobe; `he` says that HE does its work. -/
def pwrStrobe (he : Bool) (ns vmain vback pIn : Nat) (s : State) : State :=
  let s1 := s.updPwr (fun x => { x with upNs := x.upNs + ns })
  let s2 := (setVolts vmain vback s1).set F.pwtPower_P_IN pIn
  let s3 := forEach (upto 10) sensorUnused s2
  flashRefresh (whenB he reserve (chargerEval s3))

end Sys2Proof.Machine
end

