-- ==== Sys2Proof/Machine/Images.lean ====
section
/-!
DEFINITION. Images: the container, the store, the compatibility check, loading, swapping, the override and the parameter window
(spec/16_images_and_update.md).
-/
namespace Sys2Proof.Machine

def State.updImg (s : State) (f : ImgSt → ImgSt) : State := { s with img := f s.img }
def State.eimg (s : State) (e : Nat) : EngImg := Table.look {} s.img.engs e
def State.updEimg (s : State) (e : Nat) (f : EngImg → EngImg) : State :=
  s.updImg (fun x => { x with engs := Table.upd {} e f x.engs })
def State.imgSlot (s : State) (k : Nat) : Option Image := Table.look none s.img.slots k

/-! ## Container (R535 to R537) -/

def take256 (b : List Byte) (o : Nat) : BitVec 256 := BitVec.ofNat 256 (leAt b o 32)
/-- The header and body that a container's bytes spell. -/
def parseImage (b : List Byte) : Image :=
  let code := leAt b 24 4
  { h := { kind := leAt b 5 1, signer := leAt b 6 1, version := leAt b 12 4, epoch := leAt b 16 4, revMin := leAt b 20 1,
           revMax := leAt b 21 1, xhash := take256 b 40, shash := take256 b 72, phash := take256 b 104 }
    code := (b.drop 256).take code
    data := (b.drop (256 + code)).take (leAt b 28 4) }
/-- MAGIC, FORMAT, LENGTH, PAYLOAD_HASH and SIGNATURE of a container of `len` bytes (R539). -/
def containerOk (key : Option (List Byte)) (len : Nat) (b : List Byte) : Bool :=
  leAt b 0 4 == 0x4E435947 && leAt b 4 1 == 1 && leAt b 8 4 == len && b.length == len && decide (320 ≤ len ∧ len ≤ 524288) &&
  decide (leAt b 24 4 ≤ 49152 ∧ leAt b 28 4 ≤ 262144) &&
  Config.sha256 ((b.drop 256).take (len - 64 - 256)) == take256 b 104 &&
  (match (if leAt b 6 1 = 0 then some Config.romKey else key) with
   | some k => Config.verifies k (Config.sha256 (b.take (len - 64))) (b.drop (len - 64))
   | none => false)
/-- Whether a kind may carry a signer (Table 16.2) and lie in a slot (R538, R114). -/
def fitsSlot (h : Hdr) (slot : Nat) : Bool :=
  let signerOk := (match h.kind with
    | 1 | 2 | 3 | 4 | 0xA | 0xB => h.signer == 0
    | 5 | 6 | 7 => decide (h.signer ≤ 1)
    | _ => false)
  signerOk && (if slot < 16 then h.signer == 0 else h.signer == 1) && (h.kind != 0xB || slot == 15)
/-- A SAFETY image: SIGNER 1, KIND 0x09, container and signature right (R492, R537). -/
def safetyContainer (s : State) (len : Nat) (b : List Byte) : Bool :=
  containerOk s.img.key len b && leAt b 5 1 == 9 && leAt b 6 1 == 1

/-! ## Engines and what they serve (R16, R541, R542) -/

/-- The kind that runs on an engine (Table 16.2). -/
def kindOf (e : Nat) : Nat :=
  if e < 24 then 5 else if e < 32 then 6 else if e < 34 then 7 else if e = 34 then 2 else if e = 35 then 3 else if e = 36 then 1 else 4
/-- Whether an AE, PE or SE engine takes images: on a 12-slot module AE12 to AE23 do not. -/
def State.engPresent (s : State) (e : Nat) : Bool := decide (e < 34) && (decide (24 ≤ e) || decide (e < s.slots))
/-- The first failed test of Table 16.3. -/
def State.check (s : State) (e : Nat) (h : Hdr) : Option Nat :=
  let rev := s.get F.glbId_REV
  if h.kind ≠ kindOf e then some 1
  else if rev < h.revMin ∨ h.revMax < rev then some 2
  else if e = eVE then none
  else match s.img.pairs.find? (fun p => p.1 == h.kind && p.2.1 == h.epoch) with
    | none => some 3
    | some p => if p.2.2 = h.xhash then none else some 4
/-- The groups that an engine serves (R542). -/
def State.served (s : State) (e : Nat) : List Nat :=
  if e < 24 then (s.groupOf e).toList
  else if e < 32 then
    (upto 32).filter (fun g => g / 4 == e - 24 || (s.members g).any (fun m => (s.axis m.2).pe == some e))
  else if e < 34 then
    ((s.web.spans.filter (fun k => k.2.on && k.1 / 12 == e - 32)).flatMap (fun k => [k.2.up, k.2.dn])).filterMap s.groupOf |>.eraseDups
  else []
def State.servedAll (s : State) (mask : List Nat) : List Nat := (mask.flatMap s.served).eraseDups
/-- The engines that serve a group. -/
def State.servers (s : State) (g : Nat) : List Nat := (upto 34).filter (fun e => (s.served e).contains g)
/-- The engines of a mask word. -/
def engMask (m : Nat) : List Nat := (upto 34).filter (fun e => m.testBit e)
def maskNat (l : List Nat) : Nat := (l.map (fun e => 2 ^ e)).sum

/-- Whether an engine runs Ephagon code, not the IDLE image. -/
def State.ephagon (s : State) (e : Nat) : Bool := match (s.eimg e).act with | some h => h.signer == 0 | none => false

/-! ## Loading an engine (R286, R291, R547) -/

/-- Bytes as a sparse table. -/
def byteTable (b : List Byte) : Table Byte := b.zipIdx.filterMap (fun e => if e.1 = 0 then none else some (e.2, e.1))
/-- The engine as it restarts: registers 0, control registers reset; banks, published image and parameter window stay. -/
def engCold (x : Eng) : Eng :=
  { active := x.active, otherValid := x.otherValid, code0 := x.code0, code1 := x.code1, pub := x.pub, prm := x.prm, prmNext := x.prmNext,
    hal := x.hal }
/-- Loads an image into the active bank and its data into the data SRAM; the engine starts at the next strobe. -/
def loadEngine (e : Nat) (i : Option Image) (s : State) : State :=
  let code := match i with | some x => byteTable x.code | none => []
  let data := match i with | some x => byteTable x.data | none => []
  s.updEng e (fun x =>
    let y := engCold x
    { y with starts := true, sram := data, code0 := if x.active then x.code0 else code, code1 := if x.active then code else x.code1 })
/-- Puts the running image of an engine. -/
def setActive (e slot : Nat) (h : Option Hdr) (s : State) : State :=
  (s.updEimg e (fun x => { x with act := h })).set (F.imgEng_ACTIVE_SLOT e) slot

/-! ## Quarantine (R543, R544) -/

/-- Every serving engine runs an image that passes: the group goes to IDLE. -/
def groupUnquar (g : Nat) (s : State) : State :=
  if s.gst g = gQuarantined ∧ (s.servers g).all (fun e => !s.getB (F.imgEng_QUAR e) && (s.eimg e).failed.isNone) then s.setGst g gIdle else s
/-- A group goes to QUARANTINED; FAULTED stands (R95), and a group without axes stays IDLE only where no image failed. -/
def groupQuar (g : Nat) (s : State) : State :=
  if s.gst g = gFaulted ∨ s.gst g = gQuarantined then s
  else (forEach (s.members g) (fun m t => stopStage m.2 t) (discardPlan g s)).setGst g gQuarantined
def checkEvent (e test slot : Nat) (fault : Bool) (s : State) : State :=
  s.raise 0x0402 (if fault then sevFault else sevWarn) 0 0x90FF [(16, 1, e), (17, 1, test), (18, 1, slot)]

/-! ## The store (R538, R539) -/

/-- Writes the registers that show a slot. -/
def slotRegs (k : Nat) (i : Option Image) (s : State) : State :=
  match i with
  | none => (((s.setReg (A.imgSlot k) 0).setReg (A.imgSlotVersion k) 0).setReg (A.imgSlotEpoch k) 0).setReg (A.imgSlotShash k) 0
  | some x =>
    let w := x.h.kind * 2 ^ 24 + x.h.revMax * 2 ^ 16 + x.h.revMin * 2 ^ 8 + 2 ^ 7 + x.h.signer * 2 ^ 6
    (((s.setReg (A.imgSlot k) (BitVec.ofNat 32 w)).setReg (A.imgSlotVersion k) (BitVec.ofNat 32 x.h.version)).setReg
      (A.imgSlotEpoch k) (BitVec.ofNat 32 x.h.epoch)).setReg (A.imgSlotShash k) (x.h.shash.setWidth 32)
def putSlot (k : Nat) (i : Option Image) (s : State) : State :=
  slotRegs k i (s.updImg (fun x => { x with slots := Table.put none k i x.slots }))
/-- A slot that is the active, staged or boot image of an engine (R538). -/
def State.slotUsed (s : State) (k : Nat) : Bool :=
  (upto 38).any (fun e => s.get (F.imgEng_BOOT_SLOT e) == k || ((s.eimg e).act.isSome && s.get (F.imgEng_ACTIVE_SLOT e) == k) ||
    (match (s.eimg e).staged with | some (q, _) => q == k | none => false) ||
    (match (s.eimg e).reload with | some (q, _) => q == k | none => false)) || s.img.staging.any (fun x => x.slot == k)
/-- IMAGE_STORE (R539): `d.data` is what the fetch returned. -/
def opImageStore (d : Desc) (s : State) : State × Reply :=
  let slot := d.f 1 5 0
  let i := parseImage d.data
  if s.img.write.isSome then (s, why 0x03)
  else if s.slotUsed slot then (s, why 0x02)
  else if !s.flashOk then (s, why 0x07)
  else if !containerOk s.img.key (d.f 1 63 32) d.data ∨ !fitsSlot i.h slot then (s, why 0x04)
  else (((putSlot slot none s).updImg (fun x => { x with write := some (slot, i) })).set F.imgStatus_STORE_BUSY 1, why 0)
/-- IMAGE_STORED: the store write ends with its read-back. -/
def imageStored (ok : Bool) (s : State) : State :=
  match s.img.write with
  | none => s
  | some (slot, i) =>
    let s1 := (s.updImg (fun x => { x with write := none })).set F.imgStatus_STORE_BUSY 0
    let s2 := if ok then putSlot slot (some i) s1 else s1.flag F.imgStatus_STORE_ERR
    s2.raise 0x0401 (if ok then sevInfo else sevWarn) 0 0x90FF [(16, 1, slot), (17, 1, if ok then 0 else 1)]
/-- IMAGE_KEY (R555). -/
def opImageKey (d : Desc) (s : State) : State × Reply :=
  if !(s.lc == 2 || (s.lc == 3 && s.img.key.isNone)) then (s, why 0x02)
  else if !s.flashOk then (s, why 0x07)
  else ((s.updImg (fun x => { x with key := some (d.data.take 64) })).set F.imgStatus_KEY_SET 1, why 0)

/-! ## Loading (R546 to R548) -/

/-- The modes in which a reload, and in which staging, is applied. -/
def reloadMode (m : Nat) : Bool := m != mReset && m != mCalibrate && m != mHauldown && m != mBackstay
def swapMode (m : Nat) : Bool := m == mStandby || m == mCommission || m == mRun || m == mReef
def State.engBusy (s : State) (e : Nat) : Bool :=
  (s.eimg e).staged.isSome || (s.eimg e).reload.isSome || s.img.staging.any (fun x => x.mask.contains e) ||
  s.img.jobs.any (fun x => x.mask.contains e)
/-- Begins a reload of an engine: it stops at the next strobe (R547); a staged image is dropped. -/
def beginReload (slot : Nat) (boot : Bool) (e : Nat) (s : State) : State :=
  (s.updEimg e (fun x => { x with reload := some (slot, boot) })).set (F.imgEng_STEP e) 4
/-- An override ends when another image is loaded onto an engine that serves its group (R545). -/
def endOverrides (e : Nat) (ph : BitVec 256) (s : State) : State :=
  let t := forEach (s.served e) (fun g t =>
    if (Table.look [] t.img.overrides g).any (fun o => o.2 == ph) then t
    else t.updImg (fun x => { x with overrides := Table.put [] g [] x.overrides })) s
  t.setB F.imgStatus_OVERRIDE (!t.img.overrides.isEmpty)
/-- The conditions on the SHASH and the groups under which a hot swap is allowed. -/
def State.swapGroups (s : State) (mask : List Nat) : Bool :=
  (s.servedAll mask).all (fun g => s.gst g == gIdle || s.gst g == gEnabled)
def State.sameLayout (s : State) (mask : List Nat) (h : Hdr) : Bool :=
  mask.all (fun e => match (s.eimg e).act with | some a => a.shash == h.shash | none => false)
/-- IMAGE_LOAD. -/
def opImageLoad (d : Desc) (s : State) : State × Reply :=
  let slot := d.f 1 5 0
  let boot := d.fb 1 9
  let mask := engMask (d.f 2 33 0)
  match s.imgSlot slot with
  | none => (s, why 0x01)
  | some i =>
    match mask.find? (fun e => !s.engPresent e), mask.find? (fun e => kindOf e != i.h.kind), mask.find? s.engBusy with
    | some e, _, _ => (s, why 0x01 e)
    | none, some e, _ => (s, why 0x09 e)
    | none, none, some e => (s, why 0x03 e)
    | none, none, none =>
      if mask.isEmpty then (s, why 0x01)
      else match mask.find? (fun e => (s.check e i.h).isSome) with
        | some e =>
          let bad := mask.filter (fun e => (s.check e i.h).isSome)
          let s1 := forEach bad (fun e t =>
            let test := (s.check e i.h).getD 0
            let gs := (t.served e).filter (fun g => t.gst g == gIdle)
            let t1 := t.updEimg e (fun x => { x with failed := some (slot, test) })
            checkEvent e test slot (!gs.isEmpty) (forEach gs groupQuar t1)) s
          (s1, why 0x05 e)
        | none =>
          let gs := s.servedAll mask
          let first := mask.headD 0
          if gs.all (fun g => s.gst g == gIdle || s.gst g == gQuarantined) then
            if !reloadMode s.mode then (s, why 0x02 first)
            else (forEach mask (fun e t => endOverrides e i.h.phash (beginReload slot boot e (t.updEimg e (fun x => { x with failed := none })))) s, why 0)
          else if s.sameLayout mask i.h ∧ s.swapGroups mask then
            if !swapMode s.mode then (s, why 0x02 first)
            else
              let s1 := s.updImg (fun x => { x with staging := x.staging ++ [{ mask := mask, slot := slot, swap := d.fb 1 8, boot := boot }] })
              (forEach mask (fun e t => endOverrides e i.h.phash (t.updEimg e (fun x => { x with failed := none }))) s1, why 0)
          else (s, why 0x06 first)
/-- Boot slots are written now, or wait for the flash window (R551). -/
def writeBoot (l : List (Nat × Nat)) (s : State) : State :=
  if l.isEmpty then s
  else if s.flashOk then forEach l (fun p t => t.set (F.imgEng_BOOT_SLOT p.1) p.2) s
  else (s.updImg (fun x => { x with bootPend := x.bootPend ++ l })).set F.imgStatus_BOOT_PENDING 1
/-- BOOT_SLOT_WRITE. -/
def bootSlotWrite (s : State) : State :=
  if !s.flashOk then s
  else ((forEach s.img.bootPend (fun p t => t.set (F.imgEng_BOOT_SLOT p.1) p.2) s).updImg (fun x => { x with bootPend := [] })).set
    F.imgStatus_BOOT_PENDING 0
/-- The engine continues where it stopped. -/
def resumeEngine (e : Nat) (s : State) : State :=
  let s1 := ((s.set (F.clkEngStat_HALT e) 0).set (F.dbgEngStatus_HALTED e) 0).set (F.dbgEngStatus_BRK e) 0
  let s2 := s1.updEng e (fun y => { y with stepOne := false })
  if s.slotPresent e then s2.set (F.pwmSlotStatus_HALTED e) 0 else s2

/-- ENGINE_RELOAD: the load of an engine ends and it starts at the next strobe (R547). An engine that runs is not yet stopped. -/
def engineReload (e : Nat) (s : State) : State :=
  match (s.eimg e).reload with
  | none => s
  | some (slot, boot) =>
    if (s.eng e).run then s
    else
      let i := s.imgSlot slot
      let s0 := if (s.eimg e).staged.isSome then
        ((s.updEimg e (fun x => { x with staged := none, other := none })).updEng e (fun x => { x with otherValid := false })).set (F.imgEng_OTHER_SLOT e) 0x3F
        else s
      let s1 := setActive e slot (i.map (·.h)) (loadEngine e i s0)
      let s2 := (s1.updEimg e (fun x => { x with reload := none })).set (F.imgEng_STEP e) 0
      let s4 := resumeEngine e (s2.set (F.imgEng_QUAR e) 0)
      writeBoot (if boot then [(e, slot)] else []) (forEach (s4.served e) groupUnquar s4)

/-! ## Swaps (R549 to R553) -/

def State.swapBusy (s : State) : State := s.setB F.imgStatus_SWAP_BUSY (!s.img.jobs.isEmpty)
def State.jobOf (s : State) (e : Nat) : Option SwapJob := s.img.jobs.find? (fun x => x.mask.contains e)
def State.updJob (s : State) (j : SwapJob) (f : SwapJob → Option SwapJob) : State :=
  (s.updImg (fun x => { x with jobs := x.jobs.filterMap (fun y => if y.mask = j.mask then f y else some y) })).swapBusy
/-- Whether VE may arm a swap in this step (R549). -/
def State.mayArm (s : State) (mask : List Nat) (h : Nat → Option Hdr) : Bool :=
  swapMode s.mode && s.swapGroups mask &&
  mask.all (fun e => !s.engFaulted e && !Table.look false s.clk.late e &&
    (match h e, (s.eimg e).act with | some a, some b => a.shash == b.shash | _, _ => false)) &&
  (match s.md.decided with | some d => swapMode d.target | none => true)
/-- Arms a swap: the groups go to SWAPPING at the next strobe. -/
def armSwap (mask : List Nat) (back : Bool) (s : State) : State :=
  let gs := s.servedAll mask
  let s1 := s.updImg (fun x => { x with
    jobs := x.jobs ++ [{ mask := mask, prev := gs.map (fun g => (g, s.gst g)), back := back }]
    grpNext := x.grpNext ++ gs.map (fun g => (g, gSwapping)) })
  (forEach mask (fun e t => t.set (F.imgEng_STEP e) 2) s1).swapBusy
def swapEnd (outcome cause : Nat) (mask : List Nat) (s : State) : State :=
  s.raise 0x0404 (if outcome = 0 then sevInfo else sevWarn) 0 0x90FF [(16, 1, outcome), (17, 1, cause), (24, 8, maskNat mask)]
/-- The header of an engine's staged image. -/
def State.stagedHdr (s : State) (e : Nat) : Option Hdr := match (s.eimg e).staged with
  | some (k, _) => (s.imgSlot k).map (·.h)
  | none => none
/-- IMAGE_STAGED: the whole mask that holds engine `e` is staged (R548); with SWAP the swap is armed in the same step. -/
def imageStaged (e : Nat) (s : State) : State :=
  match s.img.staging.find? (fun x => x.mask.contains e) with
  | none => s
  | some g =>
    match s.imgSlot g.slot with
    | none => s
    | some i =>
      let code := byteTable i.code
      let s1 := s.updImg (fun x => { x with staging := x.staging.filter (fun y => y.mask != g.mask) })
      let s2 := forEach g.mask (fun e t =>
        let t1 := t.updEng e (fun x => { x with otherValid := true, code0 := if x.active then code else x.code0, code1 := if x.active then x.code1 else code })
        ((t1.updEimg e (fun x => { x with staged := some (g.slot, g.boot), other := some i.h })).set (F.imgEng_OTHER_SLOT e) g.slot).set (F.imgEng_STEP e) 1) s1
      let s3 := s2.raise 0x0403 sevInfo 0 0x90FF [(24, 8, maskNat g.mask)]
      if g.swap ∧ s3.mayArm g.mask s3.stagedHdr then armSwap g.mask false s3 else s3
/-- IMAGE_SWAP without ROLLBACK. -/
def opImageSwap (d : Desc) (s : State) : State × Reply :=
  let mask := engMask (d.f 1 33 0)
  match mask.find? (fun e => !s.engPresent e), mask.find? (fun e => (s.jobOf e).isSome || (s.eimg e).reload.isSome),
        mask.find? (fun e => (s.eimg e).staged.isNone) with
  | some e, _, _ => (s, why 0x01 e)
  | none, some e, _ => (s, why 0x03 e)
  | none, none, some e => (s, why 0x0A e)
  | none, none, none =>
    if mask.isEmpty then (s, why 0x0A)
    else if s.mayArm mask s.stagedHdr then (armSwap mask false s, why 0)
    else (s, why 0x02 (mask.headD 0))
/-- A swap whose probation has not ended is to roll back (R551). -/
def callRollback (e cause : Nat) (s : State) : State :=
  match s.jobOf e with
  | some j => if j.done ∧ j.roll.isNone then s.updJob j (fun y => some { y with roll := some (cause, s.clk.ticks) }) else s
  | none => s
/-- IMAGE_SWAP with ROLLBACK: during probation a rollback, after it a swap back (R551, R552). -/
def opImageRollback (d : Desc) (s : State) : State × Reply :=
  let mask := engMask (d.f 1 33 0)
  match mask.find? (fun e => !s.engPresent e) with
  | some e => (s, why 0x01 e)
  | none =>
    match s.img.jobs.find? (fun x => x.mask == mask) with
    | some j => if j.done then (callRollback (mask.headD 0) 4 s, why 0) else (s, why 0x03 (mask.headD 0))
    | none =>
      match mask.find? s.engBusy, mask.find? (fun e => (s.eimg e).other.isNone || !(s.eng e).otherValid) with
      | some e, _ => (s, why 0x03 e)
      | none, some e => (s, why 0x0A e)
      | none, none =>
        if mask.isEmpty then (s, why 0x0A)
        else if s.mayArm mask (fun e => (s.eimg e).other) then (armSwap mask true s, why 0)
        else (s, why 0x02 (mask.headD 0))
/-- An engine changes banks at a strobe (R291, R550): both register sets 0, IEN cleared, IPEND kept; it begins at 0x0000. -/
def bankSwap (swapped : Bool) (e : Nat) (s : State) : State :=
  let x := s.eimg e
  let a := s.get (F.imgEng_ACTIVE_SLOT e)
  let o := s.get (F.imgEng_OTHER_SLOT e)
  let s1 := s.updEng e (fun y => { engCold y with
    active := !y.active, swapped := swapped, otherValid := true, ipend := y.ipend, sram := y.sram, region := y.region, xw := y.xw,
    xwMask := y.xwMask, run := true, tickPend := true })
  ((s1.updEimg e (fun y => { y with act := x.other, other := x.act, staged := none })).set (F.imgEng_ACTIVE_SLOT e) o).set (F.imgEng_OTHER_SLOT e) a
/-- Whether every engine of a mask signalled done in the tick that ended last. -/
def State.allDone (s : State) (mask : List Nat) : Bool := mask.all (fun e => s.getB (F.clkEngStat_DONE e))
/-- SWAP_TAKE_EFFECT: at the first strobe that ends a tick of SWAPPING in which every engine signalled done (R549). -/
def swapTake (e : Nat) (s : State) : State :=
  match s.jobOf e with
  | none => s
  | some j =>
    if j.done ∨ s.clk.cyc ≠ 0 ∨ j.count < 2 ∨ s.get F.imgSwapCfg_TRIES + 1 < j.count ∨ !s.allDone j.mask ∨ (s.servedAll j.mask).any (fun g => s.gst g != gSwapping) then s
    else
      let boots := j.mask.filterMap (fun e => match (s.eimg e).staged with | some (k, true) => some (e, k) | _ => none)
      let s1 := forEach j.mask (fun e t => (bankSwap true e t).set (F.imgEng_STEP e) 3) s
      s1.updJob j (fun y => some { y with done := true, count := 0, boots := boots })
/-- The groups of a swap go back to the states they had, unless they have left SWAPPING. -/
def groupsBack (prev : List (Nat × Nat)) (s : State) : State :=
  forEach prev (fun p t => if t.gst p.1 = gSwapping then t.setGst p.1 p.2 else t)
    (s.updImg (fun x => { x with grpNext := x.grpNext.filter (fun q => !(q.2 == gSwapping && prev.any (fun p => p.1 == q.1))) }))
/-- The swap is given up; the staged images stay. -/
def abandon (j : SwapJob) (s : State) : State :=
  let s1 := forEach j.mask (fun e t => t.set (F.imgEng_STEP e) (if (t.eimg e).staged.isSome then 1 else 0)) (groupsBack j.prev s)
  swapEnd 2 0 j.mask (s1.updJob j (fun _ => none))
/-- SWAP_ABANDON: no strobe took the swap within TRIES strobes, or a group of it has faulted or is quarantined (R549, R553). -/
def swapAbandon (e : Nat) (s : State) : State :=
  match s.jobOf e with
  | none => s
  | some j =>
    if !j.done ∧ (s.get F.imgSwapCfg_TRIES < j.count - 1 ∨ (j.count = s.get F.imgSwapCfg_TRIES + 1 ∧ !s.allDone j.mask) ∨
        (s.servedAll j.mask).any (fun g => s.gst g == gFaulted || s.gst g == gQuarantined)) then abandon j s
    else s
/-- The banks go back and the groups return (R551). -/
def rollBack (j : SwapJob) (cause : Nat) (s : State) : State :=
  let s1 := forEach j.mask (fun e t => (bankSwap true e t).set (F.imgEng_STEP e) 0) s
  swapEnd 1 cause j.mask ((groupsBack j.prev s1).updJob j (fun _ => none))
/-- SWAP_ROLLBACK: at the strobe after the trigger. -/
def swapRollback (e : Nat) (s : State) : State :=
  match s.jobOf e with
  | none => s
  | some j => match j.roll with
    | some (cause, t) => if t < s.clk.ticks ∧ s.clk.cyc = 0 then rollBack j cause s else s
    | none => s
/-- PROBATION_END: the groups return at the next strobe, and the boot slots are written. -/
def probationEnd (e : Nat) (s : State) : State :=
  match s.jobOf e with
  | none => s
  | some j =>
    if !j.done ∨ j.roll.isSome ∨ j.count < s.get F.imgSwapCfg_PROBATION then s
    else
      let s1 := s.updImg (fun x => { x with grpNext := x.grpNext ++ j.prev })
      let s2 := forEach j.mask (fun e t => t.set (F.imgEng_STEP e) 0) (swapEnd 0 0 j.mask s1)
      writeBoot j.boots (s2.updJob j (fun _ => none))
/-- At a strobe: group states that were decided come into force, swaps count their ticks, and overruns and faults call a rollback. -/
def imgStrobe (overran : Nat → Bool) (s : State) : State :=
  let s1 := forEach s.img.grpNext (fun p t =>
    if t.gst p.1 = gFaulted ∨ t.gst p.1 = gQuarantined then t
    else if p.2 = gSwapping ∨ t.gst p.1 = gSwapping then t.setGst p.1 p.2 else t) (s.updImg (fun x => { x with grpNext := [] }))
  let jobs := s1.img.jobs.map (fun j =>
    let roll := if !j.done ∨ j.roll.isSome then j.roll
      else if j.mask.any overran then some (0, s1.clk.ticks - 1)
      else if (s1.servedAll j.mask).any (fun g => s1.gst g == gFaulted || s1.gst g == gQuarantined) then some (2, s1.clk.ticks - 1)
      else none
    { j with count := j.count + 1, roll := roll })
  s1.updImg (fun x => { x with jobs := jobs })
/-- VE has decided a mode: an armed swap is withdrawn, one in probation rolls back (R551, R553). -/
def imgMode (target : Nat) (s : State) : State :=
  if swapMode target then s
  else
    let s1 := forEach (s.img.jobs.filter (fun j => !j.done)) abandon s
    forEach (s1.img.jobs) (fun j t => callRollback (j.mask.headD 99) 3 t) s1

/-- A mode that permits no swap comes into force: what is armed or in probation has gone back before its group transitions apply (R553). -/
def imgEnter (target : Nat) (s : State) : State :=
  if swapMode target then s
  else
    let s1 := forEach (s.img.jobs.filter (fun j => !j.done)) abandon s
    forEach s1.img.jobs (fun j t => rollBack j (match j.roll with | some (c, _) => c | none => 3) t) s1

/-! ## Override, parameters (R545, R554) -/

/-- IMAGE_OVERRIDE. -/
def opImageOverride (d : Desc) (s : State) : State × Reply :=
  let g := d.f 1 4 0
  let engs := (s.servers g).filter (fun e => (s.eimg e).failed.isSome)
  let hard := engs.any (fun e => match (s.eimg e).failed with | some (_, t) => decide (t ≤ 2) | none => false)
  let zoned := (s.members g).any (fun m => s.scfg.fns.any (fun f => (s.zoneAxes f.2.zone).contains m.2))
  if !s.inSession d ∨ s.gst g ≠ gQuarantined ∨ hard ∨ zoned ∨ s.mode = mQuarantine then (s, why 0x08)
  else if engs.any s.engBusy then (s, why 0x03 (engs.headD 0))
  else if !reloadMode s.mode then (s, why 0x02)
  else if !s.flashOk then (s, why 0x07)
  else
    let phs := engs.filterMap (fun e => match (s.eimg e).failed with | some (k, _) => (s.imgSlot k).map (fun i => (e, i.h.phash)) | none => none)
    let s1 := forEach engs (fun e t => match (t.eimg e).failed with
      | some (k, _) => beginReload k false e (t.updEimg e (fun x => { x with failed := none }))
      | none => t) s
    let s2 := (s1.updImg (fun x => { x with overrides := Table.put [] g phs x.overrides })).set F.imgStatus_OVERRIDE 1
    let s3 := logAdd 7 d.ring.val 0 0 g (s2.setGst g gIdle)
    (s3.raise 0x0405 sevWarn (0x3000 + g) (0x9080 + g) [(16, 1, g), (20, 4, s3.get F.shrLogCount_ENTRY)], why 0)
/-- ENGINE_PARAM. -/
def opEngineParam (d : Desc) (s : State) : State × Reply :=
  let e := d.f 1 5 0
  let ofs := d.f 1 27 16 / 8 * 8
  let own := match (s.eimg e).act with | some h => h.signer == 1 | none => false
  let words := (upto (d.len.val - 1)).map (fun i => (ofs + 8 * i, d.n (i + 2)))
  let cl := clampMask ((1, d.f 1 27 16 % 8 != 0) :: (upto (d.len.val - 1)).map (fun i => (i + 2, decide (0x1000 ≤ ofs + 8 * i))))
  if 38 ≤ e ∨ (e < 34 ∧ !s.engPresent e) then (s, why 0x01 e cl)
  else if 34 ≤ e ∨ !own then (s, why 0x09 e cl)
  else
    let l := (words.filter (fun w => decide (w.1 < 0x1000))).flatMap (fun w => (leBytes 8 w.2).zipIdx.map (fun b => (w.1 + b.2, b.1)))
    (s.updEng e (fun x => { x with prmNext := x.prmNext ++ l }), why 0 0 cl)

/-! ## Start-up (R540, R543) -/

/-- The valid image of a kind with the highest VERSION among slots 0 to 15. -/
def State.bestImage (s : State) (kind : Nat) : Option (Nat × Image) :=
  (upto 16).foldl (fun best k => match s.imgSlot k with
    | some i => if i.h.kind != kind then best
      else (match best with | some b => if b.2.h.version < i.h.version then some (k, i) else best | none => some (k, i))
    | none => best) none
/-- The image an engine starts with: its boot slot's, or the Ephagon image of its kind. -/
def State.bootImage (s : State) (e : Nat) : Option (Nat × Image) :=
  let b := s.get (F.imgEng_BOOT_SLOT e)
  match (if e < 34 ∧ b ≠ 0x3F then s.imgSlot b else none) with
  | some i => some (b, i)
  | none => s.bestImage (kindOf e)
/-- Whether an override covers an image on an engine (R545). -/
def State.overridden (s : State) (e : Nat) (h : Hdr) : Bool := s.img.overrides.any (fun o => o.2.contains (e, h.phash))
/-- An engine whose image failed its check runs the IDLE image and is marked QUAR, and every group it serves goes to QUARANTINED (R543). -/
def bootQuar (e slot test : Nat) (s : State) : State :=
  let s1 := (loadEngine e none (setActive e (if slot = 0x3F then 0 else slot) none s)).set (F.imgEng_QUAR e) 1
  checkEvent e test slot (!(s.served e).isEmpty)
    (forEach (s.served e) groupQuar (s1.updEimg e (fun x => { x with failed := some (slot, test) })))
/-- Loads the images of an AE, PE or SE engine at start-up; without an image at all its check counts as failed (notes/assumptions/131.md). -/
def bootEngine (idle : Bool) (e : Nat) (s : State) : State :=
  if idle ∨ !s.engPresent e then loadEngine e none (setActive e 0 none s)
  else match s.bootImage e with
    | none => bootQuar e 0x3F 1 s
    | some (k, i) =>
      match s.check e i.h with
      | none => loadEngine e (some i) (setActive e k (some i.h) s)
      | some t =>
        if s.overridden e i.h then loadEngine e (some i) (setActive e k (some i.h) s) else bootQuar e k t s
/-- The checks and loads of start-up step 4; answers whether the device is quarantined. `pairs` is the pairing table that the
supervisor image carries (notes/assumptions/31.md). -/
def bootImages (pairs : List (Nat × Nat × BitVec 256)) (s : State) : State × Bool :=
  let s0 := s.updImg (fun x => { x with pairs := pairs, engs := [], staging := [], jobs := [], grpNext := [] })
  let s1 := forEach (pairs.zipIdx.take 256) (fun p t =>
    (t.set (F.imgPair_KIND p.2) p.1.1).set (F.imgPairEpoch_EPOCH p.2) p.1.2.1) (s0.set F.imgInfo_PAIRS pairs.length)
  let bad := [36, 34, 35, 37].filter (fun e => match s1.bootImage e with | some (_, i) => (s1.check e i.h).isSome | none => true)
  let s2 := forEach [34, 35, 36, 37] (fun e t => match t.bootImage e with
    | some (k, i) => loadEngine e (some i) (setActive e k (some i.h) t)
    | none => loadEngine e none t) s1
  let s3 := forEach bad (fun e t => match t.bootImage e with
    | some (k, i) => checkEvent e ((t.check e i.h).getD 0) k true t
    | none => checkEvent e 1 0x3F true t) s2
  (forEach (upto 34) (bootEngine (!bad.isEmpty)) s3, !bad.isEmpty)

end Sys2Proof.Machine
end

