-- ==== Sys2Proof/Machine/IoRegs.lean ====
section
/-!
DEFINITION. Register access: the stored form of a written word, the hardware blocks PWM, ADC, FBK and LAT as the host and the
engines write them (R264, R306, R313, R320, R327, R350, R355, R389, R390), and every read with its holding copies (R8).
-/
namespace Sys2Proof.Machine

/-- The word a register holds after a write under its access types (Table 0.3): RW fields take the written bits, W1C bits written 1
clear, and RWL fields take theirs where `rwl` says so. A W1S register has an operation of its own. -/
def accWord (g : RegGroup) (rwl : Bool) (old v : W32) : W32 :=
  let m := BitVec.ofNat 32 (g.rw ||| (if rwl then g.rwl else 0))
  ((old &&& ~~~m) ||| (v &&& m)) &&& ~~~(v &&& BitVec.ofNat 32 g.w1c)

/-- The word of a register after a write, before any rule of its own; RWL fields unchanged. -/
def State.written (s : State) (a : Nat) (v : W32) : W32 :=
  match regGroup? a with
  | some g => accWord g false (s.reg a) v
  | none => 0
/-- A write that acts by the access types alone. -/
def plainWrite (a : Nat) (v : W32) (s : State) : State :=
  match regGroup? a with
  | some _ => s.setReg a (s.written a v)
  | none => s

/-- A field of a word replaced by its stored form. -/
def normF (hi lo : Nat) (f : Nat → Nat) (v : W32) : W32 := setBits v hi lo (f (bits v hi lo))

/-! ## Stored forms -/

/-- Stored form of a PWM slot register (Tables 8.6 to 8.8). -/
def pwmNorm (o : Nat) (v : W32) : W32 :=
  let top (x : Nat) : Nat := if x = 3 then 2 else x
  match o with
  | 0x08 => (upto 4).foldl (fun w p =>
      normF (8 * p + 7) (8 * p + 6) top (normF (8 * p + 5) (8 * p + 4) top (normF (8 * p + 1) (8 * p) top w))) v
  | 0x0C => normF 31 16 (max 128) v
  | 0x10 => normF 27 0 (max 12800) v
  | _ => v

/-- Stored form of a converter register (Table 9.4, Table 9.5). -/
def convNorm (o : Nat) (v : W32) : W32 :=
  match o with
  | 0x00 => normF 25 16 (max 15) (normF 1 0 (min 2) v)
  | 0x04 | 0x08 => (upto 4).foldl (fun w e => normF (8 * e + 2) (8 * e) (min 5) w) v
  | 0x0C => normF 31 30 (fun x => if x = 3 then 0 else x) (normF 23 16 (min 191) v)
  | 0x10 => normF 31 16 (max 40) v
  | _ => v

/-- Stored form of PAIRj_CFG and PAIRj_DAC (Table 9.7); LEVEL is bounded in DAC_MODE 1. -/
def pairNorm (o dacMode : Nat) (v : W32) : W32 :=
  if o = 0 then normF 15 8 (max 1) (normF 1 0 (fun x => if x = 3 then 0 else x) v)
  else normF 31 16 (clampN 1000 20000) (normF 11 0 (fun x => if dacMode = 1 then min 2047 x else x) v)

/-- Stored form of SDIi_CFG (Table 9.9). -/
def sdiNorm (v : W32) : W32 := normF 15 8 (max 8) (normF 3 1 (min 4) v)

/-- Stored form of a feedback channel register (Tables 10.5 and 10.6). -/
def fbNorm (o : Nat) (v : W32) : W32 :=
  match o with
  | 0x00 => normF 2 0 (fun x => if x = 7 then 0 else x) v
  | 0x04 => normF 31 16 (max 1) (normF 6 0 (clampN 1 64) v)
  | 0x08 =>
    let w := normF 31 16 (max 2) v
    normF 15 0 (min (bits w 31 16 - 1)) w
  | 0x0C => normF 25 16 (max 19) (normF 5 0 (clampN 8 40) v)
  | 0x10 => normF 31 24 (max 1) (normF 23 16 (max 1) v)
  | 0x14 => normF 28 24 (min 15) (normF 20 16 (clampN 4 16) v)
  | 0x18 => normF 23 16 (max (bits v 31 24)) v
  | _ => v

/-! ## Ownership (R264, R327, R355) -/

/-- Whether a register of the I/O window belongs to a resource of an engine. -/
def State.ioMay (s : State) (e a : Nat) : Bool :=
  let conv (c : Nat) : Bool := (s.convInputs c).all (fun k => s.ownerOf 0 k == e)
  if a < 0xA000 then decide (a < 0x9800) && (a - 0x8000) / 0x100 == e
  else if a < 0xA400 then conv ((a - 0xA000) / 0x20)
  else if a < 0xA600 then conv ((a - 0xA400) / 0x20 * 2) && conv ((a - 0xA400) / 0x20 * 2 + 1)
  else if a < 0xB200 then s.ownerOf 0 ((a - 0xA600) / 0x20) == e
  else if a < 0xB800 then s.ownerOf 1 ((a - 0xB200) / 0x20) == e
  else if a < 0xC000 then decide (0xBF40 ≤ a) && (a - 0xBF40) / 4 == e
  else if a < 0xE000 then decide (a < 0xD000) && s.fbOwner ((a - 0xC000) / 0x80) == e
  else decide (a < 0xE400) && s.latOwner ((a - 0xE000) / 0x40) == e

/-! ## Writes; `e` is the engine, none the host -/

/-- A write to the PWM block (R298, R306, R313, R316). -/
def pwmWrite (e : Option Nat) (a : Nat) (v : W32) (s : State) : State :=
  if 0x9800 ≤ a then (if e.isNone then plainWrite a v s else s)
  else
    let n := (a - 0x8000) / 0x100
    let o := (a - 0x8000) % 0x100
    let run := s.getB (F.pwmSlotCtrl_RUN n)
    let drives := e.isSome || s.mode == mService
    let store (t : State) : State := t.setReg a (pwmNorm o (t.written a v))
    if !s.slotPresent n ∨ (regGroup? a).isNone then s
    else if o = 0x00 then (if run then s else fltScan n (store s))
    else if o = 0x08 ∨ o = 0x0C then (if run then s else store s)
    else if o = 0x04 then (if !drives then s else if bit v 0 then pwmRunSet n s else if run then slotSafe n s else s)
    else if o = 0x10 then (if drives then store s else s)
    else if o = 0x40 then (if drives ∧ bit v 0 then pwmCommit n s else s)
    else if o = 0x44 then
      let s1 := s.setReg a (s.reg a &&& ~~~(v &&& 0x7C))
      if bit v 1 ∧ e.isNone then fltClear n s1 else s1
    else if 0x20 ≤ o ∧ o < 0x40 then
      (if drives then (store s).updSlot n (fun x => { x with staged := x.staged ||| 2 ^ ((o - 0x20) / 4) }) else s)
    else s

/-- A write to the ADC block (R322, R327, R329, R331, R335, R347). -/
def adcWrite (e : Option Nat) (a : Nat) (v : W32) (s : State) : State :=
  if (regGroup? a).isNone then s
  else if a < 0xA400 then
    let c := (a - 0xA000) / 0x20
    let o := (a - 0xA000) % 0x20
    if !s.convPresent c then s
    else if o < 0x14 then
      match regGroup? a with
      | some g => convConfig c a (convNorm o (accWord g false (s.convWord c a) v)) s
      | none => s
    else if o = 0x14 then (if bit v 0 then adcTrigger c s.nowFx s else s)
    else if o = 0x18 then
      let s1 := s.setReg a (s.reg a &&& ~~~(v &&& 0xC))
      if bit v 8 then diagClear c s1 else s1
    else s
  else if a < 0xA600 then
    let j := (a - 0xA400) / 0x20
    let o := (a - 0xA400) % 0x20
    if !s.convPresent (2 * j) then s
    else if o = 0 then pairConfig j (pairNorm 0 0 (s.written a v)) s
    else if o = 4 then s.setReg a (pairNorm 4 (s.get (F.adcPairCfg_DAC_MODE j)) (s.written a v))
    else plainWrite a v s
  else if a < 0xB200 then (if s.inPresent false ((a - 0xA600) / 0x20) then plainWrite a v s else s)
  else if a < 0xB800 then
    let i := (a - 0xB200) / 0x20
    let o := (a - 0xB200) % 0x20
    if o = 0x1C then sdiConfig i (sdiNorm (s.written a v)) s
    else if o = 0x18 then
      let s1 := s.setReg a (s.reg a &&& ~~~(v &&& 0x9))
      if bit v 2 then stuckClear i s1 else s1
    else s
  else if a = A.adcInrdyMax then s.setReg a (normF 15 0 (max 100) (s.written a v))
  else if 0xBF40 ≤ a then
    let n := (a - 0xBF40) / 4
    if !s.slotPresent n ∨ (e ≠ some n ∧ s.mode ≠ mService) then s else plainWrite a v s
  else plainWrite a v s

/-- A write to the FBK block (R355, R362, R380). -/
def fbkWrite (a : Nat) (v : W32) (s : State) : State :=
  let n := (a - 0xC000) / 0x80
  let o := (a - 0xC000) % 0x80
  if (regGroup? a).isNone then s
  else if o < 0x1C then (if s.getB (F.fbkFbCtrl_EN n) then s else s.setReg a (fbNorm o (s.written a v)))
  else if o = 0x1C then (if bit v 0 then fbEnable n s else fbDisable n s)
  else if o = 0x50 then
    let s1 := s.setReg a (s.reg a &&& ~~~(v &&& 0xF8))
    if bit v 8 then fbFaultClear n s1 else s1
  else s

/-- A write to the LAT block (R355, R382, R386): POP and FLUSH of the host act in SERVICE or on an unbound input. -/
def latWrite (e : Option Nat) (a : Nat) (v : W32) (s : State) : State :=
  let i := (a - 0xE000) / 0x40
  let o := (a - 0xE000) % 0x40
  let may := e.isSome || s.mode == mService || s.latOwner i == 35
  if (regGroup? a).isNone then s
  else if o = 0 then latRefresh i (s.setReg a (normF 31 16 (max 5) (s.written a v)))
  else if o = 0xC then
    whenB (bit v 0) (latchArm i) (whenB (bit v 2 && may) (latchFlush i) (whenB (bit v 1 && may) (latchPop i) s))
  else plainWrite a v s

/-- A write as one of the four hardware blocks takes it. -/
def blockWrite (e : Option Nat) (a : Nat) (v : W32) (s : State) : State :=
  if a < 0xA000 then pwmWrite e a v s
  else if a < 0xC000 then adcWrite e a v s
  else if a < 0xE000 then fbkWrite a v s
  else latWrite e a v s
/-- A write to one of the four hardware blocks: where the host and an engine write the same register in the same cycle, the engine's
takes effect (R264). -/
def ioWrite (e : Option Nat) (a : Nat) (w : W32) (s : State) : State :=
  let v := s.spared a w
  match e with
  | none => if s.clk.engWrote.contains a then s else blockWrite none a v s
  | some n =>
    let t := blockWrite (some n) a v s
    { t with clk := { t.clk with engWrote := a :: t.clk.engWrote } }

/-! ## Reads (R8, R424) -/

/-- What a register shows at this instant: the running values of the delay timers, the speeds and the local time; 0 for a unit that
the variant does not have (R298, R322). -/
def State.live (s : State) (a : Nat) : W32 :=
  if a = A.ptpTimeLo then BitVec.ofNat 32 s.nowNs
  else if a = A.ptpTimeHi then BitVec.ofNat 32 (s.nowNs / 2 ^ 32)
  else if a = A.ptpTimeFrac then BitVec.ofNat 32 s.nowFx
  else if 0x8000 ≤ a ∧ a < 0x9800 then
    let n := (a - 0x8000) / 0x100
    if !s.slotPresent n then 0
    else if a = A.pwmSlotDlyTimer n then BitVec.ofNat 32 (dlyTimer s n)
    else s.reg a
  else if 0xA000 ≤ a ∧ a < 0xA400 ∧ !s.convPresent ((a - 0xA000) / 0x20) then 0
  else if 0xA400 ≤ a ∧ a < 0xA600 ∧ !s.convPresent ((a - 0xA400) / 0x20 * 2) then 0
  else if 0xA600 ≤ a ∧ a < 0xB200 ∧ !s.inPresent false ((a - 0xA600) / 0x20) then 0
  else if 0xC000 ≤ a ∧ a < 0xD000 then
    let n := (a - 0xC000) / 0x80
    let v := wrapN 64 (fbSpeed s n)
    if a = A.fbkFbSpeedLo n then BitVec.ofNat 32 v
    else if a = A.fbkFbSpeedHi n then BitVec.ofNat 32 (v / 2 ^ 32)
    else s.reg a
  else s.reg a

/-- Whether an address is the low word of a 64-bit register. -/
def wideLow (a : Nat) : Bool :=
  [A.glbSerialLo, A.glbModeTickLo, A.hriAttnLo, A.hriEvtBaseLo, A.clkTickLo, A.ptpMasterIdLo, A.dbgMemDataLo].contains a ||
  (decide (0x1200 ≤ a ∧ a < 0x1280) && (a - 0x1200) % 0x20 == 0) ||
  (decide (0x1400 ≤ a ∧ a < 0x2000) && ((a - 0x1400) % 0x30 == 0 || (a - 0x1400) % 0x30 == 8)) ||
  (decide (0xC000 ≤ a ∧ a < 0xD000) && [0x28, 0x38, 0x48].contains ((a - 0xC000) % 0x80)) ||
  (decide (0xE000 ≤ a ∧ a < 0xE400) && (a - 0xE000) % 0x40 == 0x10) ||
  (decide (0x11010 ≤ a ∧ a < 0x11050) && (a - 0x11010) % 0x10 == 0) ||
  (decide (0x12100 ≤ a ∧ a < 0x12200) && (a - 0x12100) % 0x80 == 8) || a == A.ptpPortTxtsTimeLo 0 || a == A.ptpPortTxtsTimeLo 1

/-- A half of a 64-bit register: the low word waits, both take effect with the high word (R8). `lo` is the low word's address. -/
def wideWrite (a : Nat) (v : W32) (s : State) : State :=
  if wideLow a then { s with host := { s.host with wideLo := Table.put none a (some v) s.host.wideLo } }
  else
    let lo := a - 4
    let s1 := match Table.look none s.host.wideLo lo with
      | some w => plainWrite lo w { s with host := { s.host with wideLo := Table.put none lo none s.host.wideLo } }
      | none => s
    plainWrite a v s1

/-- The registers whose values a read latches with its own. -/
def latchesOf (a : Nat) : List Nat :=
  if a = A.ptpTimeLo then [A.ptpTimeHi, A.ptpTimeFrac]
  else if 0xA600 ≤ a ∧ a < 0xB200 then
    (match (a - 0xA600) % 0x20 with | 0 => [a + 4] | 8 => [a + 4, a + 8, a + 12] | _ => [])
  else if 0xB200 ≤ a ∧ a < 0xB800 then
    (match (a - 0xB200) % 0x20 with | 0 => [a + 4] | 8 => [a + 4, a + 8, a + 12] | _ => [])
  else if 0xC000 ≤ a ∧ a < 0xD000 ∧ (a - 0xC000) % 0x80 = 0x20 then [a + 4, a + 8, a + 12]
  else if wideLow a then [a + 4]
  else []

def State.held (s : State) (a : Nat) : Option W32 := Table.look none s.host.holds a
def State.setHold (s : State) (a : Nat) (v : Option W32) : State :=
  { s with host := { s.host with holds := Table.put none a v s.host.holds } }

/-- A read of a register: a holding copy is returned once; any other read returns the present value and latches what belongs to
it, leaving a copy that the host has still to read. -/
def regRead (a : Nat) (s : State) : W32 × State :=
  match s.held a with
  | some v => (v, s.setHold a none)
  | none => (s.live a, forEach (latchesOf a) (fun b t => t.setHold b (some (s.live b))) s)

/-- A read by the host (R54): outside the GLB block 0 until READY, and a read of a TXTS_ID register takes its entry (R443). -/
def hostRead (a : Nat) (s : State) : State :=
  let put (v : W32) (t : State) : State := { t with host := { t.host with readData := v } }
  if (0x1000 ≤ a ∧ !s.ready) ∨ 0x20000 ≤ a then put 0 s
  else if a = A.ptpPortTxtsId 0 ∨ a = A.ptpPortTxtsId 1 then txtsRead (if a = A.ptpPortTxtsId 0 then 0 else 1) s
  else
    let (v, t) := regRead a s
    put v t

end Sys2Proof.Machine
end

