-- ==== Sys2Proof/Machine/Spar.lean ====
section
/-!
DEFINITION. The Spar engine (spec/07_spar_engines.md): register sets, sticky flags, exceptions, interrupts, the data address
space, address generators, the tick handshake, control registers and DMA.
-/
namespace Sys2Proof.Machine

/-! ## Register sets (R257 to R260) -/

/-- The register set in use. -/
def Eng.set' (x : Eng) : RegSet := if x.inH then x.intr else x.base
/-- Changes the register set in use, or the other one. -/
def Eng.updSet (x : Eng) (f : RegSet → RegSet) : Eng := if x.inH then { x with intr := f x.intr } else { x with base := f x.base }
def Eng.updOther (x : Eng) (f : RegSet → RegSet) : Eng := if x.inH then { x with base := f x.base } else { x with intr := f x.intr }
/-- The physical number that a register name resolves to in a set (R260). -/
def RegSet.phys (r : RegSet) (n : Nat) : Nat := if n < 32 then n else 32 + (n - 32 + r.rrb) % 32
def RegSet.rd (r : RegSet) (n : Nat) : W64 := Table.look 0 r.g (r.phys n)
def RegSet.wr (r : RegSet) (n : Nat) (v : W64) : RegSet := { r with g := Table.put 0 (r.phys n) v r.g }

def State.g (s : State) (e n : Nat) : W64 := (s.eng e).set'.rd n
def State.setG (s : State) (e n : Nat) (v : W64) : State := s.updEng e (fun x => x.updSet (fun r => r.wr n v))
/-- The accumulator `k` of the set in use. -/
def State.acc (s : State) (e : Nat) (k : Bool) : BitVec 160 := if k then (s.eng e).set'.acc1 else (s.eng e).set'.acc0
def State.setAcc (s : State) (e : Nat) (k : Bool) (v : Int) : State :=
  s.updEng e (fun x => x.updSet (fun r => if k then { r with acc1 := BitVec.ofInt 160 v } else { r with acc0 := BitVec.ofInt 160 v }))
/-- Sets a bit of STICKY of the set in use (Table 7.4). -/
def State.stick (s : State) (e b : Nat) : State := s.updEng e (fun x => x.updSet (fun r => { r with sticky := r.sticky ||| 2 ^ b }))
def stickIf (c : Bool) (e b : Nat) (s : State) : State := if c then s.stick e b else s

/-! ## Exceptions (R292) -/

/-- The instruction's own address: the engine's pc already names the next one. -/
def State.here (s : State) (e : Nat) : Nat := (s.eng e).pc - 4
/-- An exception stops the engine at once; slot n of AEn goes to its safe levels. `info` is bytes 24 to 31 of the event. -/
def sparExc (e cause info : Nat) (s : State) : State :=
  let x := s.eng e
  let s1 := s.updEng e (fun y => { y with exc := some cause, stepOne := false })
  let s2 := s1.raise 0x0030 sevFault 0 (e * 1024 + 0x3FF) [(16, 1, cause), (17, 1, if x.inH then 1 else 0), (20, 4, s.here e), (24, 8, info)]
  let s3 := if e < 24 then (slotSafe e s2).updSlot e (fun y => { y with excepted := true }) else s2
  callRollback e 1 s3

/-- A halt of an engine (R46, R295, R317): CLK.ENG_STATe.HALT, DBG.ENGe_STATUS, and the slot of an axis engine freezes. -/
def haltEngine (e : Nat) (brk : Bool) (s : State) : State :=
  let x := s.eng e
  let s1 := (s.set (F.clkEngStat_HALT e) 1).setReg (A.dbgEngStatus e) (BitVec.ofNat 32
    (x.pc % 65536 * 65536 + (if brk then 8 else 0) + bits (s.reg (A.dbgEngStatus e)) 2 2 * 4 + (if x.inH then 2 else 0) + 1))
  let s2 := s1.updEng e (fun y => { y with stepOne := false })
  if s.slotPresent e then s2.set (F.pwmSlotStatus_HALTED e) 1 else s2
/-! ## Interrupts (R283 to R285) -/

/-- The lowest-numbered source that is pending and enabled. -/
def Eng.irqNext (x : Eng) : Option Nat := (upto 5).find? (fun i => x.ipend.testBit i && x.ien.testBit i)
/-- Entry into a source's handler. -/
def Eng.enter (x : Eng) (i : Nat) : Eng :=
  { x with inH := true, src := i, pc := 0x10 * (i + 1), ipend := x.ipend &&& ((2 ^ 5 - 1) - 2 ^ i),
           update := x.update || i == 0 }
/-- At the base level a pending and enabled source is taken before the next instruction; a debug step takes none. -/
def takeIrq (e : Nat) (s : State) : State :=
  let x := s.eng e
  if x.inH ∨ x.stepOne then s
  else match x.irqNext with
    | some i => s.updEng e (fun y => { (y.enter i) with ret := y.pc })
    | none => s

/-- Whether an engine executes: released, without exception or fault, and not halted but for a step. -/
def State.sparRuns (s : State) (e : Nat) : Bool :=
  let x := s.eng e
  x.run && x.exc.isNone && (!s.getB (F.clkEngStat_HALT e) || x.stepOne)

/-- Engine `i.e` executes one instruction, whose effect is `f`, in the cycle `i.cyc`: a pending source is taken first; a base level
that waits issues nothing; a code address beyond 0xBFFC is an exception. -/
def sparStep (i : SparAt) (f : State → State) (s : State) : State :=
  let e := i.e.val
  let s0 := s.atCyc i.cyc
  if !s.sparRuns e then s0
  else
    let s1 := takeIrq e s0
    let x := s1.eng e
    if !x.inH ∧ x.wait ≠ .none then s1
    else
      let s2 := s1.updEng e (fun y => { y with pc := y.pc + 4 })
      if 0xBFFC < x.pc then
        let (v, s3) := s2.draw
        sparExc e 5 (v.toNat % 2 ^ 32) s3
      else
        let t := f s2
        if x.stepOne ∧ (t.eng e).exc.isNone then haltEngine e false t else t

/-! ## Instruction words of the encodings that an exception reports (Table 7.5) -/

def wordC (op reg num : Nat) : Nat := op * 2 ^ 26 + reg * 2 ^ 20 + num * 2 ^ 12
def wordX (op reg shift : Nat) (acc rnd : Bool) : Nat :=
  op * 2 ^ 26 + reg * 2 ^ 20 + (if acc then 2 ^ 19 else 0) + (if rnd then 2 ^ 18 else 0) + shift * 2 ^ 11
def sgCode : MacSign → Nat
  | .ss => 0 | .uu => 1 | .su => 2
def wordA (ra rb mf agx agy : Nat) (acc : Bool) (sg : MacSign) : Nat :=
  0x0C * 2 ^ 26 + ra * 2 ^ 20 + rb * 2 ^ 14 + (if acc then 2 ^ 13 else 0) + mf * 2 ^ 10 + sgCode sg * 2 ^ 8 + agx * 2 ^ 6 + agy * 2 ^ 4

/-- Whether a word is a defined encoding (R279, R280, Tables 7.5 to 7.11), with no reserved field value. -/
def sparLegal (w : W32) : Bool :=
  let rd := bits w 25 20
  let ra := bits w 19 14
  let rb := bits w 13 8
  let fn := bits w 7 0
  match bits w 31 26 with
  | 0x00 =>
    if fn = 8 then rd == 0 && rb == 0 else decide (fn ≤ 6) && rd == 0 && ra == 0 && rb == 0
  | 0x01 =>
    decide (fn ≤ 0x21) && fn != 7 && (!([0x14, 0x15, 0x19, 0x1A, 0x1B, 0x1C].contains fn) || rb == 0)
  | 0x02 | 0x03 => true
  | 0x04 => bits w 19 16 == 0
  | 0x05 => bits w 17 16 == 0
  | 0x06 => bits w 1 0 == 0
  | 0x08 | 0x09 => bits w 19 17 != 7 && (bits w 16 16 == 0 || bits w 12 12 == 0)
  | 0x0C =>
    let mf := bits w 12 10
    mf != 3 && mf != 7 && bits w 9 8 != 3 && bits w 3 0 == 0 && (decide (mf < 4) || (bits w 7 6 != bits w 5 4 && rd != ra))
  | 0x0D => decide (bits w 17 11 ≤ 96) && bits w 10 0 == 0
  | 0x0E => decide (bits w 17 11 ≤ 96) && bits w 18 18 == 0 && bits w 10 0 == 0
  | 0x0F => bits w 18 0 == 0
  | 0x10 => decide (fn ≤ 4) && (fn != 4 || rb == 0)
  | 0x11 => decide (fn ≤ 1)
  | 0x14 => decide (bits w 19 16 ≤ 8)
  | 0x15 => bits w 19 16 == 0
  | 0x18 | 0x19 => bits w 11 0 == 0
  | 0x1A => decide (fn ≤ 1) && rb == 0
  | _ => false

/-! ## Data address space (R261 to R268) -/

/-- The bytes of an access size code: 1, 2, 4 or 8 (R280). -/
def szBytes (sz : Nat) : Nat := match sz with | 0 | 4 => 1 | 1 | 5 => 2 | 2 | 6 => 4 | _ => 8

/-- `n` bytes of a sparse memory as a number. -/
def memLe (t : Table Byte) (a : Nat) : Nat → Nat
  | 0 => 0
  | n + 1 => (Table.look 0 t a).toNat + 256 * memLe t (a + 1) n
/-- Stores `n` bytes of a number. -/
def memPut (v a : Nat) : Nat → Table Byte → Table Byte
  | 0, t => t
  | n + 1, t => memPut (v / 256) (a + 1) n (Table.put 0 a (BitVec.ofNat 8 v) t)

/-- Whether an address lies in a window. -/
def inWin (a base size : Nat) : Bool := decide (base ≤ a ∧ a < base + size)
/-- An engine's code for the planner engines. -/
def isPe (e : Nat) : Bool := decide (24 ≤ e ∧ e < 32)

/-- A read of registers of the I/O window: `n` bytes at an offset. A register of a resource that is not the engine's reads 0 (R264). -/
def ioLoad (e o n : Nat) (s : State) : Nat × State :=
  let one (a : Nat) (t : State) : Nat × State :=
    if t.ioMay e a then let (v, u) := regRead a t; (v.toNat, u) else (0, t.stick e 5)
  let (lo, s1) := one (o / 4 * 4) s
  if n = 8 then
    let (hi, s2) := one (o / 4 * 4 + 4) s1
    (lo + hi * 2 ^ 32, s2)
  else (lo / 256 ^ (o % 4) % 256 ^ n, s1)
/-- A store into the I/O window: bytes of a register that the store does not cover keep their value in RW fields (W1C and W1S bits there
are written 0). -/
def ioStore (e o n v : Nat) (s : State) : State :=
  let one (a : Nat) (w : W32) (t : State) : State := if t.ioMay e a then ioWrite (some e) a w t else t.stick e 5
  if n = 8 then one (o + 4) (BitVec.ofNat 32 (v / 2 ^ 32)) (one o (BitVec.ofNat 32 v) s)
  else
    let a := o / 4 * 4
    let sh := 8 * (o % 4)
    let m := BitVec.ofNat 32 ((256 ^ n - 1) * 2 ^ sh)
    let was := if 0xA000 ≤ a ∧ a < 0xA400 then s.convWord ((a - 0xA000) / 0x20) a else s.reg a
    let keep := match regGroup? a with | some g => was &&& BitVec.ofNat 32 g.rw | none => 0
    one a ((keep &&& ~~~m) ||| (BitVec.ofNat 32 (v * 2 ^ sh) &&& m)) s

/-- The outcome of an access: a value with the state after it, or the exception cause. -/
abbrev Access := Except Nat (Nat × State)

/-- A load of `n` bytes (Table 7.2). What an Ephagon image publishes, and in which layout, its manifest says and the spec does not:
a read of another engine's window then gives a free value. -/
def sparLoad (e a n : Nat) (s : State) : Access :=
  let x := s.eng e
  if a % n ≠ 0 then .error 2
  else if a < 0x40000 then .ok (memLe x.sram a n, s)
  else if inWin a 0x80000 0x1000 then
    .ok (memLe (if x.xwMask.contains ((a - 0x80000) / 8) then x.xw else x.pub) (a - 0x80000) n, s)
  else if inWin a 0x90000 0x1000 ∧ isPe e then .ok (memLe x.hal (a - 0x90000) n, s)
  else if inWin a 0xA0000 0x1000 then .ok (memLe x.prm (a - 0xA0000) n, s)
  else if inWin a 0x100000 0x26000 then
    let o := (a - 0x100000) / 0x1000
    if o ≠ e ∧ s.ephagon o then
      let (v, t) := s.draw
      .ok (v.toNat % 256 ^ n, t)
    else .ok (memLe (s.eng o).pub (a % 0x1000) n, s)
  else if inWin a 0x408000 0x8000 then .ok (ioLoad e (a - 0x400000) n s)
  else .error 3

/-- A store of `n` bytes. The exchange write image takes none after done in the tick (R265). -/
def sparStore (e a n v : Nat) (s : State) : Except Nat State :=
  let x := s.eng e
  if a % n ≠ 0 then .error 2
  else if a < 0x40000 then .ok (s.updEng e (fun y => { y with sram := memPut v a n y.sram }))
  else if inWin a 0x80000 0x1000 then
    if x.xDone then .ok (s.stick e 4)
    else
      let o := a - 0x80000
      let w := o / 8
      .ok (s.updEng e (fun y =>
        let base := if y.xwMask.contains w then y.xw else memPut (memLe y.pub (8 * w) 8) (8 * w) 8 y.xw
        { y with xw := memPut v o n base, xwMask := if y.xwMask.contains w then y.xwMask else y.xwMask ++ [w] }))
  else if (inWin a 0x90000 0x1000 ∧ isPe e) ∨ inWin a 0xA0000 0x1000 ∨ inWin a 0x100000 0x26000 then .error 4
  else if inWin a 0x408000 0x8000 then .ok (ioStore e (a - 0x400000) n v s)
  else .error 3

/-! ## Address generators (R269, R270) -/

def RegSet.ag (r : RegSet) (k : Nat) : Ag := Table.look {} r.ags k
def RegSet.updAg (r : RegSet) (k : Nat) (f : Ag → Ag) : RegSet := { r with ags := Table.upd {} k f r.ags }
/-- The effective offset. -/
def Ag.eff (x : Ag) : Nat := if x.len = 0 then x.ofs.toNat else x.ofs.toNat % x.len
/-- The address of an access; `step` is k times the size in index mode, 0 in post-modify mode. -/
def Ag.addr (x : Ag) (step : Int) : Nat :=
  let o : Int := if x.len = 0 then x.eff + step else (x.eff + step) % (x.len : Int)
  wrapN 32 (x.base.toNat + o)
/-- The post-modify by `step` bytes: the generator, and whether the offset was folded. -/
def Ag.post (x : Ag) (step : Int) : Ag × Bool :=
  if x.len = 0 then ({ x with ofs := BitVec.ofInt 32 (x.ofs.toNat + step) }, false)
  else ({ x with ofs := BitVec.ofInt 32 ((x.eff + step) % (x.len : Int)) }, decide (x.len ≤ x.ofs.toNat))
def postAg (e k : Nat) (step : Int) (s : State) : State :=
  let (y, c) := ((s.eng e).set'.ag k).post step
  stickIf c e 2 (s.updEng e (fun x => x.updSet (fun r => r.updAg k (fun _ => y))))

/-- The address of an M-format access of `n` bytes, and the generator step to take after it. -/
def memAddr (e n : Nat) (m : MemAddr) (s : State) : Nat × Option (Nat × Int) :=
  match m with
  | .base ra k => (wrapN 32 ((s.g e ra.val).toNat + k.toInt * n), none)
  | .gen a post k =>
    let x := (s.eng e).set'.ag a.val
    if post then (x.addr 0, some (a.val, k.toInt * n)) else (x.addr (k.toInt * n), none)
def afterMem (e : Nat) (p : Option (Nat × Int)) (s : State) : State := match p with | some (k, st) => postAg e k st s | none => s

/-- Sign extension of a loaded value by its size code (R280). -/
def extend (sz v : Nat) : W64 := if sz < 4 then BitVec.ofNat 64 v else BitVec.ofInt 64 (sx (8 * szBytes sz) v)

/-- LD of any size and mode. -/
def opLoad (e rd sz : Nat) (m : MemAddr) (s : State) : State :=
  let n := szBytes sz
  let (a, p) := memAddr e n m s
  match sparLoad e a n s with
  | .error c => sparExc e c a s
  | .ok (v, t) => (afterMem e p t).setG e rd (extend sz v)
/-- ST of any size and mode. -/
def opStore (e rs sz : Nat) (m : MemAddr) (s : State) : State :=
  let n := szBytes sz
  let (a, p) := memAddr e n m s
  match sparStore e a n ((s.g e rs).toNat % 256 ^ n) s with
  | .error c => sparExc e c a s
  | .ok t => afterMem e p t

/-! ## Arithmetic (R272 to R277) -/

/-- Saturation to a signed 64-bit value: the value and whether it was clamped. -/
def sat64 (x : Int) : W64 × Bool := (BitVec.ofInt 64 (satI 64 x), decide (satI 64 x ≠ x))
def noSat (v : W64) : W64 × Bool := (v, false)

/-- An instruction that writes a function of two registers; the function says whether SAT sets. -/
def op2 (e rd ra rb : Nat) (f : W64 → W64 → W64 × Bool) (s : State) : State :=
  let (v, c) := f (s.g e ra) (s.g e rb)
  stickIf c e 0 (s.setG e rd v)
/-- The same of one register. -/
def op1 (e rd ra : Nat) (f : W64 → W64 × Bool) (s : State) : State := op2 e rd ra ra (fun a _ => f a) s

def b2w (b : Bool) : W64 := if b then 1 else 0
/-- Shifts by an amount (R277). -/
def shl (a : W64) (n : Nat) : W64 := if 64 ≤ n then 0 else a <<< n
def shr (a : W64) (n : Nat) : W64 := if 64 ≤ n then 0 else a >>> n
def sra (a : W64) (n : Nat) : W64 := a.sshiftRight (min n 63)
def shls (a : W64) (n : Nat) : W64 × Bool := sat64 (a.toInt * (2 ^ min n 64 : Nat))

/-- The number of bits of a nonnegative number. -/
def bitLen (x : Nat) : Nat := if x = 0 then 0 else Nat.log2 x + 1
/-- Leading bits below bit `top` that equal the sign (R274, R275). -/
def normOf (top : Nat) (x : Int) : Nat := top - bitLen (if x < 0 then (-x - 1).toNat else x.toNat)

/-- EXPX (R275). -/
def expx (a q : Nat) : W64 × Bool :=
  if a = 0 then (0, false)
  else
    let p0 := bitLen a - 1
    let m0 := if p0 ≤ 31 then a * 2 ^ (31 - p0) else (a + 2 ^ (p0 - 32)) / 2 ^ (p0 - 31)
    let m := if m0 = 2 ^ 32 then 2 ^ 31 else m0
    let p := if m0 = 2 ^ 32 then p0 + 1 else p0
    let x : Int := (p : Int) - q
    if 63 < x then (BitVec.ofNat 64 (63 * 2 ^ 32 + (2 ^ 32 - 1)), true)
    else if x < -64 then
      let sh := (-64 - x).toNat
      (BitVec.ofNat 64 (192 * 2 ^ 32 + (m + 2 ^ (sh - 1)) / 2 ^ sh), false)
    else (BitVec.ofNat 64 (wrapN 8 x * 2 ^ 32 + m), false)
/-- GMUL (R275, Table 5.3). -/
def gmul (a b : W64) : W64 × Bool :=
  let x := clampI (-64) 63 (sbits b 39 32)
  let prod := a.toInt * (bits b 31 0 : Nat)
  sat64 (if 31 ≤ x then prod * (2 ^ (x - 31).toNat : Nat) else rdiv prod (2 ^ (31 - x).toNat : Nat))
/-- CLIPS (Table 7.8). -/
def clips (a b : W64) : W64 × Bool :=
  let r := clampI (-(b.toInt.natAbs : Int)) b.toInt.natAbs a.toInt
  let v := satI 64 r
  (BitVec.ofInt 64 v, decide (v ≠ a.toInt))

/-- The exact product of the MAC class (R273). -/
def macProd (sg : MacSign) (a b : W64) : Int :=
  match sg with
  | .ss => a.toInt * b.toInt
  | .uu => (a.toNat : Int) * b.toNat
  | .su => a.toInt * b.toNat
/-- The accumulation, saturated at 160 bits: `f` combines the accumulator and the product. -/
def macTo (e ra rb : Nat) (acc : Bool) (sg : MacSign) (f : Int → Int → Int) (s : State) : State :=
  let r := f (s.acc e acc).toInt (macProd sg (s.g e ra) (s.g e rb))
  stickIf (satI 160 r != r) e 1 (s.setAcc e acc (satI 160 r))
/-- A reload form: the product of the old operands, then both are loaded through AGX and AGY, which post-modify (R273). -/
def macLoad (e ra rb mf agx agy : Nat) (acc : Bool) (sg : MacSign) (f : Int → Int → Int) (s : State) : State :=
  if ra = rb ∨ agx = agy then sparExc e 1 (wordA ra rb mf agx agy acc sg) s
  else
    let ax := ((s.eng e).set'.ag agx).addr 0
    let ay := ((s.eng e).set'.ag agy).addr 0
    match sparLoad e ax 8 (macTo e ra rb acc sg f s) with
    | .error c => sparExc e c ax s
    | .ok (vx, s1) =>
      match sparLoad e ay 8 s1 with
      | .error c => sparExc e c ay s
      | .ok (vy, s2) => postAg e agy 8 (postAg e agx 8 ((s2.setG e ra (BitVec.ofNat 64 vx)).setG e rb (BitVec.ofNat 64 vy)))

/-- EXTR, ACLD (R274). -/
def opExtr (e rd shift : Nat) (acc rnd : Bool) (s : State) : State :=
  if 96 < shift then sparExc e 1 (wordX 0x0D rd shift acc rnd) s
  else
    let a := (s.acc e acc).toInt
    let q := if rnd then rdiv a (2 ^ shift : Nat) else fdiv a (2 ^ shift : Nat)
    let (v, c) := sat64 q
    stickIf c e 1 (s.setG e rd v)
def opAcld (e ra shift : Nat) (acc : Bool) (s : State) : State :=
  if 96 < shift then sparExc e 1 (wordX 0x0E ra shift acc false) s
  else s.setAcc e acc ((s.g e ra).toInt * (2 ^ shift : Nat))

/-- A division of an integer by another with a signed or an unsigned 64-bit result (R276). -/
def opDivide (e rd : Nat) (signed : Bool) (a b : Int) (s : State) : State :=
  let lo : Int := if signed then -(2 ^ 63) else 0
  let hi : Int := if signed then 2 ^ 63 - 1 else 2 ^ 64 - 1
  if b = 0 then (s.setG e rd (BitVec.ofInt 64 (if a = 0 then 0 else if a < 0 then lo else hi))).stick e 3
  else
    let q := Int.tdiv a b
    let v := clampI lo hi q
    stickIf (v != q) e 0 (s.setG e rd (BitVec.ofInt 64 v))

/-- SINCOS (R276). One register named for both results holds a free value. -/
def opSincos (e rd rb : Nat) (theta : W32) (s : State) : State :=
  if rd = rb then
    let (v, t) := s.draw
    t.setG e rd v
  else (s.setG e rd (BitVec.ofInt 64 (sinOf theta.toNat))).setG e rb (BitVec.ofInt 64 (cosOf theta.toNat))

/-! ## Control flow (R282, Table 7.11) -/

/-- A jump by a signed count of instructions from this instruction. -/
def jumpBy (e : Nat) (off : BitVec 16) (s : State) : State :=
  s.updEng e (fun x => { x with pc := wrapN 32 ((x.pc : Int) - 4 + 4 * off.toInt) })
def branchIf (e : Nat) (c : Bool) (off : BitVec 16) (s : State) : State := if c then jumpBy e off s else s
/-- BLOOP: LC counts down and stops at 0. -/
def opBloop (e : Nat) (off : BitVec 16) (s : State) : State :=
  let lc := (s.eng e).set'.lc
  let n := if lc = 0 then 0 else lc - 1
  branchIf e (n != 0) off (s.updEng e (fun x => x.updSet (fun r => { r with lc := n })))
def opBloopr (e : Nat) (off : BitVec 16) (s : State) : State :=
  (opBloop e off s).updEng e (fun x => x.updSet (fun r => { r with rrb := (r.rrb + 31) % 32 }))

/-! ## Tick handshake (R288 to R290) -/

/-- Done for the present tick; the first one of a late tick ends it and discards what it wrote. -/
def engDone (e : Nat) (s : State) : State :=
  let x := s.eng e
  if x.xLate then
    s.updEng e (fun y => { y with xLate := false, xw := [], xwMask := [] })
  else s.updEng e (fun y => { y with xDone := true })
def opDone (e : Nat) (s : State) : State := if (s.eng e).xDone ∧ !(s.eng e).xLate then s else engDone e s
def opWaitt (e : Nat) (s : State) : State :=
  if (s.eng e).inH then sparExc e 6 2 s
  else
    let s1 := opDone e s
    s1.updEng e (fun x => if x.tickPend then { x with tickPend := false } else { x with wait := .tick })
def opWaitc (e : Nat) (s : State) : State :=
  if (s.eng e).inH then sparExc e 6 3 s
  else if !isPe e ∨ (s.eng e).cutPassed then s
  else s.updEng e (fun x => { x with wait := .cut })

/-- RETI (R284, R285): INRDY follows SUB at once for a slot without current inputs; a further pending source is entered directly. -/
def opReti (e : Nat) (s : State) : State :=
  let x := s.eng e
  if !x.inH then s
  else
    let s1 := if x.src = 1 then s.updEng e (fun y => { y with update := false })
      else if x.src = 0 ∧ s.slotPresent e ∧ !s.getB (F.adcGate_EN e) then s.engIrq e 1
      else s
    s1.updEng e (fun y => match y.irqNext with
      | some i => y.enter i
      | none => { y with inH := false, pc := y.ret })

/-- BRK (R296). -/
def opBrk (e : Nat) (s : State) : State :=
  if s.mode = mService ∧ s.get F.dbgCtrl_OWNER ≠ 0 then haltEngine e true s else s

/-! ## Control registers (Tables 7.14 and 7.16) -/

/-- MFC: the value of a control register; none where it is not listed. -/
def mfc (e n : Nat) (s : State) : Option W64 :=
  let x := s.eng e
  let r := x.set'
  let flag (b : Bool) (k : Nat) : Nat := if b then 2 ^ k else 0
  let v : Option Nat := match n with
    | 0x00 => some e
    | 0x01 => some s.tickNo
    | 0x02 => some s.clk.cyc
    | 0x03 => some s.nowNs
    | 0x04 => some r.sticky
    | 0x05 => some r.rrb
    | 0x06 => some r.lc.toNat
    | 0x08 => some x.ien
    | 0x09 => some x.ipend
    | 0x0A => some x.tmrCmp
    | 0x0B => some (flag x.update 4 + (if x.inH then x.src * 2 + 1 else 0))
    | 0x0C => some (flag x.otherValid 2 + flag x.swapped 1 + flag x.active 0)
    | 0x0D => some (flag (x.cutPassed && isPe e) 3 + flag x.xLate 2 + flag x.tickPend 1 + flag x.xDone 0)
    | 0x10 | 0x11 | 0x12 | 0x13 => some (r.ag (n - 0x10)).base.toNat
    | 0x14 | 0x15 | 0x16 | 0x17 => some (r.ag (n - 0x14)).len
    | 0x18 | 0x19 | 0x1A | 0x1B => some (r.ag (n - 0x18)).ofs.toNat
    | 0x20 => some x.dmaLoc
    | 0x21 => some x.dmaExt
    | 0x22 => some x.dmaCtl
    | 0x23 => some (flag x.dmaDone 1 + flag x.dma.isSome 0)
    | _ => none
  v.map (BitVec.ofNat 64)

/-- The bytes of a cam table as the DMA reads them: master and slave position of each point (R158). -/
def Cam.bytes (c : Cam) : List Byte := c.pts.flatMap (fun p => leBytes 8 (wrapN 64 p.1) ++ leBytes 8 (wrapN 64 p.2))

/-- A write of DMA_CTL with START (R293). -/
def dmaStart (e : Nat) (s : State) : State :=
  let x := s.eng e
  if x.dma.isSome then s.stick e 6
  else
    let len := nbits x.dmaCtl 16 0
    let dir := x.dmaCtl.testBit 30
    let cam := x.dmaCtl.testBit 29
    let ct := nbits x.dmaCtl 28 24
    let size := if cam then 16 * (Table.look ({} : Cam) s.plan.cams ct).pts.length else 2 ^ 23
    if len = 0 ∨ len % 8 ≠ 0 ∨ 65536 < len ∨ 0x40000 < x.dmaLoc + len then sparExc e 7 x.dmaLoc s
    else if (cam ∧ (dir ∨ !isPe e)) ∨ size < x.dmaExt + len then sparExc e 7 x.dmaExt s
    else s.updEng e (fun y => { y with
      dma := some { toRegion := dir, cam := if cam then some ct else none, len := len, loc := x.dmaLoc, ext := x.dmaExt } })
/-- A transfer completes: its bytes move, DONE sets, BUSY clears and the DMA source is raised. -/
def dmaComplete (e : Nat) (s : State) : State :=
  match (s.eng e).dma with
  | none => s
  | some d =>
    let copy (src : Nat → Byte) (a : Nat) (t : Table Byte) : Table Byte :=
      (upto d.len).foldl (fun t i => Table.put 0 (a + i) (src i) t) t
    let s1 := s.updEng e (fun x =>
      let y : Eng := match d.toRegion, d.cam with
        | true, _ => { x with region := copy (fun i => Table.look 0 x.sram (d.loc + i)) d.ext x.region }
        | false, none => { x with sram := copy (fun i => Table.look 0 x.region (d.ext + i)) d.loc x.sram }
        | false, some c =>
          let b := (Table.look ({} : Cam) s.plan.cams c).bytes
          { x with sram := copy (fun i => b.getD (d.ext + i) 0) d.loc x.sram }
      { y with dma := none, dmaDone := true })
    s1.engIrq e 4

/-- MTC: none where the register is not listed; read-only registers ignore it. -/
def mtc (e n : Nat) (v : W64) (s : State) : Option State :=
  let w := v.toNat
  let ag (k : Nat) (f : Ag → Ag) : State := s.updEng e (fun x => x.updSet (fun r => r.updAg k f))
  match n with
  | 0x00 | 0x01 | 0x02 | 0x03 | 0x0B | 0x0C | 0x0D => some s
  | 0x04 => some (s.updEng e (fun x => x.updSet (fun r => { r with sticky := r.sticky &&& (127 - w % 128) })))
  | 0x05 => some (s.updEng e (fun x => x.updSet (fun r => { r with rrb := w % 32 })))
  | 0x06 => some (s.updEng e (fun x => x.updSet (fun r => { r with lc := v })))
  | 0x08 => some (s.updEng e (fun x => { x with ien := w % 32 }))
  | 0x09 => some (s.updEng e (fun x => { x with ipend := x.ipend &&& (31 - w % 32) }))
  | 0x0A => some (s.updEng e (fun x => { x with tmrCmp := w % 2 ^ 32 }))
  | 0x10 | 0x11 | 0x12 | 0x13 => some (ag (n - 0x10) (fun x => { x with base := v.setWidth 32 }))
  | 0x14 | 0x15 | 0x16 | 0x17 => some (ag (n - 0x14) (fun x => { x with len := min (w / 8 * 8) 0x40000 }))
  | 0x18 | 0x19 | 0x1A | 0x1B => some (ag (n - 0x18) (fun x => { x with ofs := v.setWidth 32 }))
  | 0x20 => some (s.updEng e (fun x => { x with dmaLoc := w % 2 ^ 18 / 8 * 8 }))
  | 0x21 => some (s.updEng e (fun x => { x with dmaExt := w % 2 ^ 23 / 8 * 8 }))
  | 0x22 =>
    let s1 := s.updEng e (fun x => { x with dmaCtl := w &&& 0x7F01FFFF })
    some (if v.getLsbD 31 then dmaStart e s1 else s1)
  | 0x23 => some (s.updEng e (fun x => { x with dmaDone := x.dmaDone && !v.getLsbD 1 }))
  | _ => none

/-- MFC and MTC as instructions: an unlisted register is an exception (Table 7.15). -/
def opMfc (e rd n : Nat) (s : State) : State := match mfc e n s with | some v => s.setG e rd v | none => sparExc e 8 (wordC 0x18 rd n) s
def opMtc (e ra n : Nat) (s : State) : State :=
  match mtc e n (s.g e ra) s with | some t => t | none => sparExc e 8 (wordC 0x19 ra n) s

end Sys2Proof.Machine
end

