-- ==== Sys2Proof/Machine/Debug.lean ====
section
/-!
DEFINITION. Debug access and the JTAG port (spec/17_electrical_and_package.md, R579 to R582).
-/
namespace Sys2Proof.Machine

def State.updDbg (s : State) (f : DbgSt → DbgSt) : State := { s with dbg := f s.dbg }

/-- The two paths to the block, as DBG.CTRL.OWNER encodes them. -/
def pathOf (jtag : Bool) : Nat := if jtag then 2 else 1
/-- Whether a path reaches the DBG block in the life-cycle state (Table 17.12). -/
def State.dbgPath (s : State) (path : Nat) : Bool := path == 1 || s.lc == 1 || s.lc == 2
/-- Whether the block reaches an engine (Table 17.12). -/
def State.dbgReach (s : State) (e : Nat) : Bool := decide (e < 34) || (s.lc == 1 && decide (e < 40))
/-- Whether the memory window may be used in the mode in force (Table 17.12). -/
def State.dbgMemMay (s : State) (write : Bool) : Bool := s.mode == mService || s.lc == 1 || (s.lc == 2 && !write)

/-- DBG.INFO.ACCESS and ENGe_STATUS.ACCESS follow the life-cycle state. -/
def dbgRefresh (s : State) : State :=
  forEach (upto 40) (fun e t => t.setB (F.dbgEngStatus_ACCESS e) (s.dbgReach e))
    (s.set F.dbgInfo_ACCESS (if s.lc = 1 then 3 else if s.lc = 2 then 2 else 1))

/-- The owner detaches: every engine that the block has halted goes on (R580). -/
def dbgDetach (s : State) : State :=
  forEach (upto 38) (fun e t => if t.getB (F.dbgEngStatus_HALTED e) then resumeEngine e t else t)
    ((s.set F.dbgCtrl_OWNER 0).set F.dbgCtrl_ATTACH 0)

/-- A write to ENGe_CTRL by the owner (R581). Halting and stepping work only in SERVICE (R579). -/
def dbgEngWrite (e : Nat) (v : W32) (s : State) : State :=
  if !s.dbgReach e ∨ 38 ≤ e ∨ s.mode ≠ mService then s
  else
    let halted := s.getB (F.dbgEngStatus_HALTED e)
    if bit v 0 then (if halted ∨ !s.sparRuns e then s else haltEngine e false s)
    else if !halted then s
    else if bit v 1 then resumeEngine e s
    else if bit v 2 then s.updEng e (fun x => { x with stepOne := true })
    else s

/-- A path becomes the owner of the block. -/
def dbgAttach (path : Nat) (s : State) : State :=
  ((s.set F.dbgCtrl_OWNER path).set F.dbgCtrl_ATTACH 1).updDbg (fun x => { x with since := (s.clk.ticks, s.clk.cyc) })
/-- A write by a path to the DBG block (R580). A write by a path that does not own it changes nothing but the attachment; of two paths that
attach in one cycle PCIe becomes the owner. A transfer runs with what it was started with, and GO finds no effect while one runs
(notes/assumptions/107.md). -/
def dbgWrite (path a : Nat) (v : W32) (s : State) : State :=
  let owner := s.get F.dbgCtrl_OWNER
  let attaches := a == A.dbgCtrl && bits v 31 16 == 0xD5B6 && bit v 0
  if !s.dbgPath path then s
  else if owner = 2 ∧ path = 1 ∧ attaches ∧ s.dbg.since = (s.clk.ticks, s.clk.cyc) then dbgAttach 1 s
  else if owner ≠ 0 ∧ owner ≠ path then s.flag F.dbgCtrl_CONTEND
  else if a = A.dbgCtrl then
    let s1 := if bit v 3 then s.set F.dbgCtrl_CONTEND 0 else s
    if owner = path then (if bit v 0 then s1 else dbgDetach s1)
    else if attaches then dbgAttach path s1
    else s1
  else if owner = 0 then s
  else if a = A.dbgMemCtrl then
    let s1 := s.setReg a (normF 29 27 (fun x => if 5 ≤ x then 0 else x) (s.written a v))
    if bit v 31 ∧ !s.getB F.dbgMemCtrl_BUSY then
      (s1.set F.dbgMemCtrl_BUSY 1).updDbg (fun x => { x with xfer := some (s1.reg a, s.get F.dbgMemAddr_ADDR, s.get64 A.dbgMemDataLo) })
    else s1
  else if A.dbgEngCtrl 0 ≤ a then (if (a - A.dbgEngCtrl 0) % 8 = 0 then dbgEngWrite ((a - A.dbgEngCtrl 0) / 8) v s else s)
  else if a = A.dbgMemDataLo ∨ a = A.dbgMemDataHi then wideWrite a v s
  else plainWrite a v s

/-! ## The memory window (R581) -/

/-- A read of one word of a space; none outside it. -/
def dbgPeek (e sp a : Nat) (s : State) : Option (Nat × State) :=
  let x := s.eng e
  let setWord (r : RegSet) : Option Nat :=
    if a < 64 then some (Table.look 0 r.g a).toNat
    else if a < 67 then some (nbits r.acc0.toNat (min 159 (64 * (a - 64) + 63)) (64 * (a - 64)))
    else if a < 70 then some (nbits r.acc1.toNat (min 159 (64 * (a - 67) + 63)) (64 * (a - 67)))
    else none
  match sp with
  | 0 => (match sparLoad e (a / 8 * 8) 8 s with | .ok p => some p | .error _ => none)
  | 1 => if a < 0xC000 then some (memLe (if x.active then x.code1 else x.code0) (a / 8 * 8) 8, s) else none
  | 2 => (setWord x.base).map (fun v => (v, s))
  | 3 => (setWord x.intr).map (fun v => (v, s))
  | _ => (mfc e a s).map (fun v => (v.toNat, s))

/-- A write of one word of a space; none outside it. -/
def dbgPoke (e sp a : Nat) (v : W64) (s : State) : Option State :=
  let w := v.toNat
  let setWord (r : RegSet) : Option RegSet :=
    let accPut (old : BitVec 160) (k : Nat) : BitVec 160 :=
      let lo := 64 * k
      let n := if k = 2 then 32 else 64
      BitVec.ofNat 160 (old.toNat - nbits old.toNat (lo + n - 1) lo * 2 ^ lo + w % 2 ^ n * 2 ^ lo)
    if a < 64 then some { r with g := Table.put 0 a v r.g }
    else if a < 67 then some { r with acc0 := accPut r.acc0 (a - 64) }
    else if a < 70 then some { r with acc1 := accPut r.acc1 (a - 67) }
    else none
  match sp with
  | 0 => (match sparStore e (a / 8 * 8) 8 w s with | .ok t => some t | .error _ => none)
  | 1 =>
    if a < 0xC000 then
      let put := memPut w (a / 8 * 8) 8
      some (s.updEng e (fun x => if x.active then { x with code1 := put x.code1 } else { x with code0 := put x.code0 }))
    else none
  | 2 => (setWord (s.eng e).base).map (fun r => s.updEng e (fun x => { x with base := r }))
  | 3 => (setWord (s.eng e).intr).map (fun r => s.updEng e (fun x => { x with intr := r }))
  | _ => mtc e a v s

/-- A running transfer completes, or sets ERR and moves nothing (R581). -/
def dbgTransfer (s : State) : State :=
  match s.dbg.xfer with
  | none => s
  | some (ctrl, a, data) =>
    let e := bits ctrl 5 0
    let w := bit ctrl 30
    let sp := bits ctrl 29 27
    let s1 := (s.set F.dbgMemCtrl_BUSY 0).updDbg (fun x => { x with xfer := none })
    if !s.dbgReach e ∨ 38 ≤ e ∨ !s.dbgMemMay w ∨ (w ∧ !s.getB (F.dbgEngStatus_HALTED e)) then s1.flag F.dbgMemCtrl_ERR
    else if w then
      match dbgPoke e sp a (BitVec.ofNat 64 data) s1 with
      | some t => t
      | none => s1.flag F.dbgMemCtrl_ERR
    else
      match dbgPeek e sp a s1 with
      | some (v, t) => t.set64 A.dbgMemDataLo v
      | none => s1.flag F.dbgMemCtrl_ERR

/-! ## JTAG (R582) -/

/-- IDCODE of the revision. -/
def State.idcode (s : State) : W32 := if s.get F.glbId_REV = 0xB1 then 0x16480D5D else 0x26480D5D
/-- The instruction in force: EXTEST, HIGHZ and CLAMP act as BYPASS unless SHR.STATUS.STO_ALL reads 1. -/
def State.jtagIr (s : State) : JtagIr :=
  if s.getB F.shrStatus_STO_ALL then s.dbg.ir
  else match s.dbg.ir with
    | .extest | .highz | .clamp => .bypass
    | x => x
/-- Loads an instruction; the data register it selects captures its value, 0 for BYPASS. -/
def jtagLoad (i : JtagIr) (s : State) : State :=
  let s1 := s.updDbg (fun x => { x with ir := i })
  s1.updDbg (fun x => { x with tdr := match s1.jtagIr with | .idcode => s.idcode | _ => 0 })
/-- SAMPLE/PRELOAD: the cells sample the pads, and the values to drive are loaded. -/
def jtagSample (pads drive : List Bool) (s : State) : State :=
  s.updDbg (fun x => { x with ir := .sample, tdr := 0, cells := pads, drive := drive })
/-- Whether an instruction that takes the pads is in force. -/
def State.padsTaken (s : State) : Bool := match s.jtagIr with | .extest | .highz | .clamp => true | _ => false
/-- STO_ALL falls while such an instruction is in force: the PWM pads return to their safe levels. -/
def jtagWatch (before s : State) : State :=
  if before.padsTaken ∧ !s.padsTaken ∧ !s.getB F.shrStatus_STO_ALL then forEach (upto 24) slotSafe s else s

end Sys2Proof.Machine
end

