-- ==== Sys2Proof/Machine/Hri.lean ====
section
/-!
DEFINITION. The host interface (spec/02_host_rings.md): completions, fetch and application of descriptors, FENCE, doorbells and credits,
enabling and disabling rings, the watchdog, DMA errors, loss of the host, the event ring, HRI register writes.
-/
namespace Sys2Proof.Machine

/-- What a descriptor does: the state after it and what its completion reports. -/
abbrev Op := Desc → State → State × Reply

/-! ## Rings -/

/-- Whether VE works on the host interface: READY, and VE neither faulted nor running a late tick (R54, Table 1.8). -/
def State.veWorks (s : State) : Bool :=
  s.ready && !s.engFaulted eVE && !Table.look false s.clk.late eVE && !s.getB (F.clkEngStat_HALT eVE)
def State.ringState (s : State) (n : Nat) : Nat := s.get (F.hriRingStatus_STATE n)
/-- The credit limit L = K + G (R72). -/
def Ring.limit (r : Ring) : W32 := r.k + BitVec.ofNat 32 r.g
/-- Whether a descriptor waits within the credit limit: H < min(T, L). -/
def State.ringTakes (s : State) (n : Nat) : Bool :=
  let r := s.ring n
  s.veWorks && s.ringState n == 1 && decide (0 < cdiff r.t r.h) && decide (0 < cdiff r.limit r.h)

/-- HRI.ATTN follows the W1C bits of a ring's STATUS. -/
def attnRefresh (n : Nat) (s : State) : State :=
  let v := s.reg (A.hriRingStatus n) &&& 0x78
  s.setB ⟨if n < 32 then A.hriAttnLo else A.hriAttnHi, n % 32, n % 32⟩ (v != 0)
def ringFlag (n : Nat) (f : Fld) (s : State) : State := attnRefresh n (s.flag f)
def grantSum (s : State) : State :=
  s.set F.hriGrantSum_GRANT_SUM ((upto 64).map (fun n => s.get (F.hriRingStatus_GRANT_ACT n))).sum

/-! ## Completions (R66 to R69) -/

/-- PHASE of a record written at count c in a ring of 2^size entries (R58). -/
def ringPhase (c : W32) (size : Nat) : Bool := c.toNat / 2 ^ size % 2 == 0

/-- Raises the vector of a ring, at most once in a tick (R69). -/
def ringIrq (n : Nat) (s : State) : State :=
  if (s.ring n).irqSent then s
  else (s.irq (s.get (F.hriRingCfg_VEC n))).updRing n (fun r => { r with irqSent := true })

/-- Writes the completion record of a descriptor (Tables 2.6 to 2.8). -/
def complete (n : Nat) (d : Desc) (status : Nat) (r : Reply) (held : Bool) (s : State) : State :=
  let x := s.ring n
  let size := s.get (F.hriRingCfg_SIZE n)
  let applied := (if ringPhase x.c size then 2 ^ 15 else 0) + r.clamps / 2 % 128 * 2 ^ 8 + (if held then 4 else 0) +
    (if r.noEffect then 2 else 0) + (if r.clamps ≠ 0 then 1 else 0)
  let rec' := leBytes 2 d.tag.toNat ++ leBytes 2 d.seq.toNat ++ leBytes 2 status ++ leBytes 2 applied ++
    leBytes 4 x.limit.toNat ++ leBytes 4 r.result
  let s1 := ringPut n (s.get64 (A.hriRingCqBaseLo n) + x.c.toNat % 2 ^ size * 16) rec' s
  let s2 := s1.updRing n (fun y => { y with c := y.c + 1, done := y.done + 1 })
  let s3 := s2.setReg (A.hriRingCqTail n) (x.c + 1)
  let s4 := if r.clamps ≠ 0 then s3.bumpSat (F.hriRingClampCount_CLAMP_COUNT n) else s3
  if d.irq ∨ s.getB (F.hriRingCfg_IRQ_TICK n) then ringIrq n s4 else s4

/-! ## Event ring (R82, R83) -/

/-- The 32 bytes of an event record. -/
def Event.bytes (e : Event) (phase : Bool) : List Byte :=
  leBytes 2 e.code.toNat ++ leBytes 2 e.data.toNat ++ leBytes 2 e.ctrl.toNat ++
    leBytes 1 ((if phase then 0x80 else 0) + e.sev) ++ [0] ++ leBytes 8 e.time.toNat ++ leBytes 16 e.payload.toNat
/-- Writes a record at the ring's tail. -/
def evPut (e : Event) (s : State) : State :=
  let size := s.get F.hriEvtCfg_SIZE
  let c := s.reg A.hriEvtTail
  let a := s.get64 A.hriEvtBaseLo + c.toNat % 2 ^ size * 32
  let w : RingWrite := { addr := a, old := s.hostBytes a 32, count := c, event := some e }
  let t := (s.hostWrite a (e.bytes (ringPhase c size))).setReg A.hriEvtTail (c + 1)
  { t with host := { t.host with evWrote := t.host.evWrote ++ [w] } }
def State.evRoom (s : State) : Bool := decide (cdiff (s.reg A.hriEvtTail) s.host.evHost < (2 ^ s.get F.hriEvtCfg_SIZE : Nat))
def evDrop (s : State) : State :=
  { s with host := { s.host with evDropped := s.host.evDropped + 1 } }.bumpSat F.hriEvtLost_LOST
/-- Writes an event; after a drop EVENTS_LOST goes first. Its TIME is the model's choice: the time of writing it
(notes/assumptions/103.md). -/
def evWrite (e : Event) (s : State) : State :=
  let s1 := if s.host.evDropped ≠ 0 ∧ s.evRoom then
      let l : Event := { code := 0x0010, sev := sevWarn, data := 0, ctrl := 0x91FF, time := BitVec.ofNat 64 s.nowNs,
                         payload := pl [(16, 4, s.host.evDropped)] }
      let t := evPut l s
      { t with host := { t.host with evDropped := 0 } }
    else s
  if s1.evRoom ∧ s1.host.evDropped = 0 then evPut e s1 else evDrop s1
/-- VE writes the events of the buffer and raises vector 0, at most once in a tick, when it wrote any. -/
def evFlush (s : State) : State :=
  if !s.getB F.hriEvtCfg_EN ∨ s.host.evBuf.isEmpty then s
  else
    let s0 : State := { s with host := { s.host with evBuf := [] } }
    let s1 := s.host.evBuf.foldl (fun t e => evWrite e t) s0
    if s1.reg A.hriEvtTail = s.reg A.hriEvtTail ∨ s1.host.irqs.contains 0 then s1 else s1.irq 0
/-- The events that VE's step itself raises go out in the step (R65, step 4), where none waits before them. -/
def stepEvents (before s : State) : State := if before.host.evBuf.isEmpty then evFlush s else s


/-! ## Applying a descriptor -/

/-- Closes the open MOVE of a ring unless a MOVE_CONT for its group follows (R133). -/
def closeOpen (n opcode : Nat) (d : Desc) (s : State) : State :=
  match Table.look none s.plan.opens n with
  | none => s
  | some o =>
    if opcode = 0x0104 ∧ d.f 1 4 0 = o.group ∧ 2 ≤ d.len.val then s
    else endOpen n s

/-- Applies or rejects a descriptor and writes its completion (R62, R77, R91). -/
def applyDesc (opcode : Nat) (op : Op) (held : Bool) (d : Desc) (s : State) : State :=
  let n := d.ring.val
  let s1 := closeOpen n opcode d s
  match opInfo opcode with
  | none => complete n d 1 {} held s1
  | some (lo, hi, masks) =>
    if d.len.val < lo ∨ hi < d.len.val then complete n d 2 {} held s1
    else
      let (s2, r) : State × Reply :=
        if s.mode = mQuarantine ∧ opcode / 256 ≠ 0 ∧ opcode / 256 ≠ 4 then (s1, why 0xFE 0 (op d s1).2.clamps) else op d s1
      complete n d 0 { r with clamps := r.clamps ||| rsvMask d masks ||| (if d.rsv then 1 else 0) } held s2

/-- VE fetches the next descriptor of a ring: it is applied, or held behind a FENCE (R64, R72). Without credit, nothing is fetched.
Its events go out in the same step (R65). -/
def runDesc (opcode : Nat) (op : Op) (d : Desc) (s : State) : State :=
  let n := d.ring.val
  if !s.ringTakes n then s
  else
    let r := s.ring n
    let s1 := (s.updRing n (fun x => { x with h := x.h + 1 })).setReg (A.hriRingHead n) (r.h + 1)
    if r.fence.isSome then s1.updRing n (fun x => { x with held := x.held ++ [(opcode, d)] })
    else stepEvents s (applyDesc opcode op false d s1)

/-- NOP (Table 2.5). -/
def opNop : Op := fun _ s => (s, {})
/-- FENCE (R64): the masked rings' submission counts as recorded in this step; its own ring's earlier descriptors are done. -/
def opFence : Op := fun d s =>
  let cover := (upto 64).filterMap (fun m =>
    if (d.w 1).getLsbD m ∧ m ≠ d.ring.val ∧ s.ringState m = 1 then some (m, (s.ring m).t, (s.ring m).gen) else none)
  (s.updRing d.ring.val (fun x => { x with fence := some { covered := cover, step := s.clk.ticks } }), {})
/-- Whether every descriptor that a FENCE of ring `n` covers is done, applied, rejected or discarded, before the ring's turn in this
step: rings of higher numbers have had theirs in the step before (R64). -/
def State.fenceMet (s : State) (n : Nat) (f : FenceHold) : Bool :=
  f.covered.all (fun e =>
    let r := s.ring e.1
    if e.1 < n then r.gen != e.2.2 || decide (0 ≤ cdiff r.done e.2.1)
    else r.gen0 != e.2.2 || decide (0 ≤ cdiff r.done0 e.2.1))
/-- Applies the descriptors held behind a ring's FENCE, up to a further FENCE among them; `app` applies one by its opcode. -/
def fenceRelease (app : Nat → Op) (n : Nat) (s : State) : State :=
  let r := s.ring n
  match r.fence with
  | none => s
  | some f =>
    if !s.veWorks ∨ s.clk.ticks ≤ f.step ∨ !s.fenceMet n f then s
    else
      let s1 := s.updRing n (fun x => { x with fence := none, held := [] })
      stepEvents s (r.held.foldl (fun t e =>
        if (t.ring n).fence.isSome then t.updRing n (fun x => { x with held := x.held ++ [e] })
        else applyDesc e.1 (app e.1) true e.2 t) s1)

/-! ## Enabling and disabling (R73, R75) -/

/-- The open MOVE of a ring that is discarded with its ring enters with the targets it has (R133: no descriptor follows). -/
def ringOff (n : Nat) (s : State) : State :=
  if s.ringState n = 0 then s.set (F.hriRingCfg_EN n) 0
  else
    let x := s.ring n
    let s1 := s.updRing n (fun _ => {
      gen := x.gen + 1, gen0 := x.gen0, done0 := x.done0, wrote := x.wrote, irqSent := x.irqSent
      dbT := x.dbT, dbK := x.dbK, arrival := x.arrival })
    let s2 := (((s1.set (F.hriRingCfg_EN n) 0).set (F.hriRingStatus_STATE n) 0).set (F.hriRingStatus_GRANT_ACT n) 0).setReg (A.hriRingCredit n) 0
    let s3 := match s2.shr.session with
      | some (r, _) => if r = n then sessionEnd 0 s2 else s2
      | none => s2
    grantSum s3
/-- A ring is enabled with its effective grant, or left disabled with NO_GRANT. -/
def ringOn (n : Nat) (s : State) : State :=
  if s.ringState n ≠ 0 then s
  else
    let s0 := grantSum s
    let g := min (s.get (F.hriRingCfg_GRANT n)) (min (2 ^ s.get (F.hriRingCfg_SIZE n)) (256 - s0.get F.hriGrantSum_GRANT_SUM))
    if g = 0 then (s0.set (F.hriRingCfg_EN n) 0).set (F.hriRingStatus_NO_GRANT n) 1
    else
      let x := s.ring n
      let s1 := s0.updRing n (fun _ => {
        g := g, gen := x.gen + 1, gen0 := x.gen0, done0 := x.done0, armed := some s.clk.ticks, wrote := x.wrote, irqSent := x.irqSent
        dbT := x.dbT, dbK := x.dbK, arrival := x.arrival })
      let s2 := (((s1.set (F.hriRingCfg_EN n) 1).set (F.hriRingStatus_STATE n) 1).set (F.hriRingStatus_GRANT_ACT n) g).set (F.hriRingStatus_NO_GRANT n) 0
      let s3 := ((s2.setReg (A.hriRingHead n) 0).setReg (A.hriRingCqTail n) 0).setReg (A.hriRingClampCount n) 0
      grantSum (s3.setReg (A.hriRingCredit n) (BitVec.ofNat 32 g))

/-- The event ring: EN, and the counts of Table 2.17. -/
def evOn (s : State) : State :=
  if s.getB F.hriEvtCfg_EN then s
  else
    let t := ((s.set F.hriEvtCfg_EN 1).setReg A.hriEvtTail 0).setReg A.hriEvtLost 0
    { t with host := { t.host with evHost := 0 } }
def evOff (s : State) : State := s.set F.hriEvtCfg_EN 0
/-- A capture ring (R85, R415). -/
def crOn (m : Nat) (s : State) : State :=
  if s.getB (F.hriCrCfg_EN m) then s
  else
    ((s.set (F.hriCrCfg_EN m) 1).setReg (A.hriCrTail m) 0).setReg (A.hriCrHead m) 0
def crOff (m : Nat) (s : State) : State :=
  if s.getB (F.hriCrCfg_EN m) then capRingDrop m (s.set (F.hriCrCfg_EN m) 0) else s

/-! ## HRI register writes (R65, R87) -/

/-- Stored forms (Tables 2.17 to 2.22). -/
def ringCfgNorm (v : W32) : W32 :=
  normF 24 16 (clampN 1 256) (normF 12 8 (max 3) (normF 3 0 (clampN 3 12) v))
def wdNorm (v : W32) : W32 := normF 17 16 (fun x => if x = 3 then 2 else x) v

/-- One pending HRI write, but for its enable bit. -/
def hriApply (a : Nat) (v : W32) (s : State) : State :=
  if (regGroup? a).isNone then s
  else if 0x1400 ≤ a then
    let n := (a - 0x1400) / 0x30
    let o := (a - 0x1400) % 0x30
    let on := s.ringState n != 0
    if o < 0x10 then (if on then s else wideWrite a v s)
    else if o = 0x10 then
      let w := ringCfgNorm (s.written a v)
      let old := s.reg a
      let keep : W32 := if on then 0x81FF000F else 0x80000000
      s.setReg a ((w &&& ~~~keep) ||| (old &&& keep))
    else if o = 0x14 then s.setReg a (wdNorm (s.written a v))
    else attnRefresh n (plainWrite a v s)
  else if 0x1200 ≤ a then
    let m := (a - 0x1200) / 0x20
    let o := (a - 0x1200) % 0x20
    let on := s.getB (F.hriCrCfg_EN m)
    if o < 8 then (if on then s else wideWrite a v s)
    else if o = 8 then
      let w := normF 3 0 (clampN 4 12) (s.written a v)
      let keep : W32 := if on then 0x8000000F else 0x80000000
      s.setReg a ((w &&& ~~~keep) ||| (s.reg a &&& keep))
    else s
  else if 0x1100 ≤ a then
    let on := s.getB F.hriEvtCfg_EN
    if a < 0x1108 then (if on then s else wideWrite a v s)
    else if a = 0x1108 then
      let w := normF 4 0 (clampN 6 16) (s.written a v)
      let keep : W32 := if on then 0x8000001F else 0x80000000
      s.setReg a ((w &&& ~~~keep) ||| (s.reg a &&& keep))
    else s
  else plainWrite a v s

/-- A write to the HRI block waits for VE's next step (R65). -/
def hriWrite (a : Nat) (v : W32) (s : State) : State :=
  { s with host := { s.host with hriPend := s.host.hriPend ++ [(a, v)] } }

/-- VE's step 1: register changes in their order, so that the latest value stands and no 1 written to a W1C bit is lost; then every
disable, then the enables in ascending ring number (R65). -/
def hriStep1 (s : State) : State :=
  let l := s.host.hriPend
  let s0 : State := { s with host := { s.host with hriPend := [] } }
  let s1 := l.foldl (fun t e => hriApply e.1 e.2 t) s0
  let en (a : Nat) : Option Bool := (l.reverse.find? (fun e => e.1 == a)).map (fun e => e.2.getLsbD 31)
  let off (t : State) : State :=
    let t1 := forEach (upto 64) (fun n u => if en (A.hriRingCfg n) = some false then ringOff n u else u) t
    let t2 := if en A.hriEvtCfg = some false then evOff t1 else t1
    forEach (upto 4) (fun m u => if en (A.hriCrCfg m) = some false then crOff m u else u) t2
  let s2 := off s1
  let s3 := forEach (upto 64) (fun n u => if en (A.hriRingCfg n) = some true then ringOn n u else u) s2
  let s4 := if en A.hriEvtCfg = some true then evOn s3 else s3
  forEach (upto 4) (fun m u => if en (A.hriCrCfg m) = some true then crOn m u else u) s4

/-! ## Doorbells (R71, R74) -/

/-- A write to a submission-ring doorbell: T, K or both. -/
def doorbell (n : Nat) (t k : Option W32) (s : State) : State :=
  if !s.ready then s
  else s.updRing n (fun r => { r with dbT := t.orElse (fun _ => r.dbT), dbK := k.orElse (fun _ => r.dbK), arrival := true })

/-- VE records the doorbell of a ring (Table 2.10); one for a disabled ring is discarded. A ring in its error state records it too and
restarts its watchdog: the model's choice (notes/assumptions/104.md). -/
def recordDb (n : Nat) (s : State) : State :=
  let r := s.ring n
  if !r.arrival then s
  else
    let s0 := s.updRing n (fun x => { x with dbT := none, dbK := none, arrival := false })
    if s.ringState n = 0 then s0
    else
      let (k, badK) : W32 × Bool := match r.dbK with
        | none => (r.k, false)
        | some v => if cdiff v r.k < 0 then (r.k, true) else if 0 < cdiff v r.c then (r.c, true) else (v, false)
      let (t, badT) : W32 × Bool := match r.dbT with
        | none => (r.t, false)
        | some v => if cdiff v r.t < 0 then (r.t, true) else (v, false)
      let s1 := s0.updRing n (fun x => { x with k := k, t := t, armed := some s.clk.ticks })
      let s2 := s1.setReg (A.hriRingCredit n) (k + BitVec.ofNat 32 r.g)
      let s3 := whenB (badK || badT) (ringFlag n (F.hriRingStatus_DB_ERR n)) s2
      whenB (r.dbT.isSome && decide ((r.g : Int) < cdiff t k)) (ringFlag n (F.hriRingStatus_OVERSUB n)) s3

/-- VE's step 2: every doorbell written since its previous step, with those of the event ring and the capture rings. -/
def hriStep2 (s : State) : State :=
  let s1 := forEach (s.host.rings.map (·.1)) recordDb s
  let s2 : State := match s1.host.evDb with
    | some v => { s1 with host := { s1.host with evDb := none, evHost := if s1.getB F.hriEvtCfg_EN then v else s1.host.evHost } }
    | none => s1
  forEach (upto 4) (fun m t =>
    match Table.look none t.host.crDb m with
    | some v =>
      let t1 : State := { t with host := { t.host with crDb := Table.put none m none t.host.crDb } }
      if t1.getB (F.hriCrCfg_EN m) then capRelease m v t1 else t1
    | none => t) s2

/-- VE begins to fetch: what the rings have done so far is what a FENCE of a lower ring sees in this step (R64). -/
def stepMark (s : State) : State :=
  { s with host := { s.host with rings := Table.mapVals {} (fun r => { r with done0 := r.done, gen0 := r.gen }) s.host.rings } }

/-! ## A mode change decided in VE's step (R100) -/

def State.modeAfter (s : State) : Nat := match s.md.decided with | some d => d.target | none => s.mode
/-- The completions of this step's earlier MODE descriptors after a change of the decision: MODE_AFTER, and reason 0x04 where a request
for another mode has lost (R100); each record is written again as a whole. -/
def patchHost (s : State) : State :=
  let after := s.modeAfter
  let lost (h : HostMode) : Bool := h.stands && h.target != after
  let s1 := s.md.host.foldl (fun t h => patchRecord h.record (fun b =>
    let b1 := b.set 12 (BitVec.ofNat 8 after)
    if !lost h then b1
    else if h.cleared then b1.set 13 4
    else (b1.set 13 4).set 6 (b.getD 6 0 ||| 2)) t) s
  { s1 with md := { s1.md with host := s1.md.host.map (fun h => { h with stands := h.stands && !lost h }) } }
/-- VE has decided: what the decision does to the completions of the step and to swaps under way (R551, R553). -/
def decided (s : State) : State :=
  match s.md.decided with
  | some d => imgMode d.target (patchHost s)
  | none => s
/-- VE decides a mode change in the present step. -/
def decideNow (target cause rank : Nat) (s : State) : State := decided (s.decideMode target cause rank)
/-- A watchdog or a fault of a ring brings HAULDOWN, from the modes that lead to it (R81, R97). -/
def haulDecide (cause : Nat) (s : State) : State := if haulFrom s.mode then decideNow mHauldown cause 4 s else s

/-! ## Watchdog (R80, R81) -/

/-- An armed watchdog acts. -/
def wdAct (n : Nat) (s : State) : State :=
  let r := s.ring n
  if r.armed.isNone ∨ s.get (F.hriRingWd_WD_TICKS n) = 0 then s
  else
    let act := s.get (F.hriRingWd_WD_ACT n)
    let s1 := ringFlag n (F.hriRingStatus_WD_EXP n) (s.updRing n (fun x => { x with armed := none }))
    let s2 := s1.raise 0x0011 (if act = 0 then sevWarn else sevFault) 0 (0x9100 + n) [(16, 1, n), (17, 1, act), (20, 4, r.t.toNat)]
    if act = 2 then haulDecide 4 s2
    else if act = 1 then
      let gs := (upto 32).filter (fun g => (s.reg (A.hriRingWdgrp n)).getLsbD g)
      if gs.any (fun g => (s.members g).any (fun m => s.isWeb m.2)) then haulDecide 4 s2
      else forEach gs (fun g t => stopGroup g t) s2
    else s2
/-- The watchdog of a ring, in the step in which it expires or later. -/
def ringWatchdog (n : Nat) (s : State) : State :=
  match (s.ring n).armed with
  | some t => if s.ringState n ≠ 0 ∧ s.veWorks ∧ t + s.get (F.hriRingWd_WD_TICKS n) ≤ s.clk.ticks then wdAct n s else s
  | none => s

/-! ## DMA errors and loss of the host (R55, R76) -/

/-- `n` bytes of undefined content (R76). -/
def freeBytes : Nat → State → List Byte × State
  | 0, s => ([], s)
  | n + 1, s =>
    let (v, t) := s.draw
    let (r, u) := freeBytes n t
    (v.setWidth 8 :: r, u)

/-- The writes of this tick from the one whose range holds an address on, in their order. -/
def failedFrom (addr : Nat) (l : List RingWrite) : List RingWrite :=
  l.dropWhile (fun w => !decide (w.addr ≤ addr ∧ addr < w.addr + w.old.length))
/-- A write fails (R76): what it covers in host memory is undefined, and the writes after it have not been made. -/
def undoWrites (l : List RingWrite) (s : State) : State :=
  match l with
  | [] => s
  | w :: later =>
    let s1 := later.reverse.foldl (fun t x => t.hostWrite x.addr x.old) s
    let (b, t) := freeBytes w.old.length s1
    t.hostWrite w.addr b
/-- A record write of a submission ring fails: C does not count the failed record, nor the one that a failed report precedes. -/
def ringUndo (n addr : Nat) (s : State) : State :=
  match failedFrom addr (s.ring n).wrote with
  | [] => s
  | w :: r => ((undoWrites (w :: r) s).updRing n (fun x => { x with c := w.count, wrote := [] })).setReg (A.hriRingCqTail n) w.count
/-- A record write of the event ring fails: TAIL does not count it, and the events after it stay in the buffer. -/
def evUndo (addr : Nat) (s : State) : State :=
  match failedFrom addr s.host.evWrote with
  | [] => s
  | w :: r =>
    let t := (undoWrites (w :: r) s).setReg A.hriEvtTail w.count
    { t with host := { t.host with evWrote := [], evBuf := r.filterMap (·.event) ++ t.host.evBuf } }

/-- A write of a capture ring fails: TAIL does not count its entry, whose block is lost with those handed before, and the entries after it
wait for the ring again (R415). -/
def crUndo (m addr : Nat) (s : State) : State :=
  let l := (Table.look [] s.cap.wrote m).dropWhile (fun w => !decide (w.write.addr ≤ addr ∧ addr < w.write.addr + w.write.old.length))
  match l with
  | [] => s
  | w :: r =>
    let late := r.filter (fun x => x.final && x.write.count != w.write.count)
    let t := (undoWrites ((w :: r).map (·.write)) s).setReg (A.hriCrTail m) w.write.count
    let t1 : State := { t with cap := { t.cap with
      wrote := Table.put [] m [] t.cap.wrote
      queues := Table.upd [] m (fun q => late.map (·.entry) ++ q) t.cap.queues
      handed := Table.upd [] m (fun q => q.filter (fun c => !late.any (fun x => x.write.count.toNat == c))) t.cap.handed } }
    forEach (upto 4) (fun u v => v.capRefresh u) t1

/-- A fetch or a record write ends in an error. Ring codes are those of RING_DMA_ERROR; the address says which write of this tick
failed. -/
def dmaError (ring : Nat) (wr : Bool) (addr : W64) (s : State) : State :=
  let ev (place' count : Nat) (t : State) : State :=
    t.raise 0x0012 sevFault 0 place' [(16, 1, ring), (17, 1, if wr then 1 else 0), (20, 4, count), (24, 8, addr.toNat)]
  if ring < 64 then
    if s.ringState ring ≠ 1 then s
    else
      let s0 := if wr then ringUndo ring addr.toNat s else s
      let s1 := (s0.set (F.hriRingStatus_STATE ring) 2).updRing ring (fun x => { x with fence := none, held := [], gen := x.gen + 1 })
      let s2 := ringFlag ring (F.hriRingStatus_DMA_ERR ring) s1
      let s3 := ev (0x9100 + ring) (s.ring ring).done.toNat (wdAct ring s2)
      match s3.shr.session with
      | some (q, _) => if q = ring then sessionEnd 3 s3 else s3
      | none => s3
  else if ring = 64 then
    if s.getB F.hriEvtCfg_EN then ev 0x91FF 0 ((evOff (if wr then evUndo addr.toNat s else s)).flag F.hriEvtCfg_DMA_ERR) else s
  else
    let m := ring - 65
    if 4 ≤ m ∨ !s.getB (F.hriCrCfg_EN m) then s
    else ev (0x8C80 + m) 0 ((crOff m (if wr then crUndo m addr.toNat s else s)).flag (F.hriCrCfg_DMA_ERR m))

/-- The module sees the loss of its host (R55): 0 function level reset, 1 link down, 2 D3hot, 3 Bus Master Enable cleared. -/
def hostLoss (kind : Nat) (s : State) : State :=
  let s1 := forEach (upto 64) (fun n t => if t.ringState n = 1 then wdAct n t else t) s
  let s2 := match s1.shr.session with | some _ => sessionEnd 3 s1 | none => s1
  let s3 := forEach (upto 64) ringOff s2
  let s4 := forEach (upto 4) crOff (evOff s3)
  let s5 := s4.raise 0x0014 sevFault 0 0x93FF [(16, 1, kind)]
  let s6 := if s5.get F.dbgCtrl_OWNER = 1 then dbgDetach s5 else s5
  if kind = 0 then
    { s6 with regs := s6.regs.filter (fun e => !decide (0x1000 ≤ e.1 ∧ e.1 < 0x2000)), host := { s6.host with hriPend := [], msix := [], msixPend := [] } }
  else s6

/-! ## Books (R88, R89) -/

/-- The credit book of a ring balances. -/
def State.creditBook (s : State) (n : Nat) : Bool :=
  let r := s.ring n
  decide (cdiff r.limit r.t + cdiff r.t r.h + cdiff r.h r.c + cdiff r.c r.k = r.g)
def bookFault (what which place' : Nat) (s : State) : State := s.raise 0x0013 sevFault 0 place' [(16, 1, what), (18, 2, which)]

end Sys2Proof.Machine
end

