-- ==== Sys2Proof/Machine/PlanDesc.lean ====
section
/-!
DEFINITION. The planner descriptors (spec/04_motion_planner.md, Tables 4.1 to 4.10): binding, limits, profiles, moves, group
control, gears and cams, and the group report.
-/
namespace Sys2Proof.Machine

/-- What every planner operation leaves to the haul-down ramp (R167). -/
def skipOf (s : State) : Nat → Bool := fun a => s.onRamp a

/-! ## Axes (R119 to R122, R20, R21) -/

/-- The remote axes that a planner engine holds, and how many it may hold. -/
def State.peLoad (s : State) (k : Nat) : Nat := countIf (fun (e : Nat × AxisP) => e.2.pe == some (24 + k)) s.plan.axes
def State.peCap (s : State) : Nat := if s.ftSel = 0 then 12 else 29
/-- The planner engine with the fewest remote axes, the lowest-numbered among equals (R20). -/
def State.peFor (s : State) : Nat := (upto 8).foldl (fun best k => if s.peLoad k < s.peLoad best then k else best) 0

/-- AXIS_BIND (Table 4.1). -/
def opAxisBind (d : Desc) (s : State) : State × Reply :=
  let a := d.f 1 7 0
  let g := d.f 1 12 8
  let m := d.f 1 19 16
  if !s.axisPresent a then (s, why 0x01)
  else if d.fb 1 23 then
    match s.groupOf a with
    | none => (s, why 0)
    | some h =>
      if s.gst h ≠ gIdle then (s, why 0x02)
      else (s.updAxis a (fun x => { x with bound := none, pe := none }), why 0)
  else if s.gst g ≠ gIdle ∨ !s.axisIdle a then (s, why 0x02)
  else if ((s.memberAxis g m).isSome && s.memberAxis g m != some a) || ((s.axis a).bound.isSome && (s.axis a).bound != some (g, m)) then
    (s, why 0x05)
  else
    let put (pe : Option Nat) : State :=
      let s1 := s.updAxis a (fun x => { x with
        bound := some (g, m), noReverse := d.fb 1 22, lead := d.f 1 21 20, pe := pe
        peOrder := if x.bound.isNone then s.plan.binds else x.peOrder })
      let s2 : State := { s1 with plan := { s1.plan with binds := s1.plan.binds + 1 } }
      match s2.axisEngine a with
      | some e => if s2.getB (F.imgEng_QUAR e) ∧ e < 34 then groupQuar g s2 else s2
      | none => s2
    if a < 24 then (put none, why 0)
    else if (s.axis a).pe.isSome then (put (s.axis a).pe, why 0)
    else
      let k := s.peFor
      if s.peCap ≤ s.peLoad k then
        (s.raise 0x0101 sevWarn (0x4000 + a) (planPlace g) [(16, 1, g), (17, 1, 0)], why 0x08)
      else (put (some (24 + k)), why 0)

/-- AXIS_LIMITS (Table 4.2). -/
def opAxisLimits (d : Desc) (s : State) : State × Reply :=
  let a := d.f 1 7 0
  let lo := d.i 2
  let hi := cI lo (2 ^ 63 - 1) (d.i 3)
  let v := cI 0 (2 ^ 63 - 1) (d.i 4)
  let x := cI 65536 (2 ^ 63 - 1) (d.i 5)
  let j := cN 1 (2 ^ 64 - 1) (d.n 6)
  let cl := clampMask [(3, hi.hit), (4, v.hit), (5, x.hit), (6, j.hit)]
  if !s.axisPresent a then (s, why 0x01 0 cl)
  else
    (s.updAxis a (fun y => { y with softMin := lo, softMax := hi.val, vmax := v.val.toNat, amax := x.val.toNat, jmax := j.val }), why 0 0 cl)

/-- PROFILE (Table 4.3). -/
def opProfile (d : Desc) (s : State) : State × Reply :=
  let g := d.f 1 4 0
  let ix := d.f 1 7 5
  let floor (lo x : Int) : Clamped Nat := if x = 0 then ⟨0, false⟩ else let c := cI lo (2 ^ 63 - 1) x; ⟨c.val.toNat, c.hit⟩
  let v := floor (2 ^ 24) (d.i 2)
  let a := floor (2 ^ 16) (d.i 3)
  let x := floor (2 ^ 16) (d.i 4)
  let pr : Profile := { v := v.val, a := a.val, d := x.val, j := d.n 5 }
  let s1 := s.updGrp g (fun p => { p with profiles := Table.put {} ix pr p.profiles })
  let s2 := if d.fb 1 8 then liveProfile g ix pr s1 else s1
  (s2, planReply s2 g 0 (clampMask [(2, v.hit), (3, a.hit), (4, x.hit)]))

/-! ## Moves (R129 to R133, R151) -/

/-- A MOVE, IMMEDIATE or not. -/
def moveWith (imm : Bool) (d : Desc) (s : State) : State × Reply :=
  let g := d.f 1 4 0
  let fd := d.f 1 42 32
  let feed : Clamped Nat := if fd = 0 then ⟨1024, false⟩ else cN 1 1024 fd
  let (ts, cl) := matchTargets s d g (d.fb 1 8)
  let mask := cl ||| clampMask [(1, feed.hit)]
  if !takesEntries (s.gst g) then (s, planReply s g 0x02 mask)
  else
    let o : OpenMove := {
      group := g, tag := d.tag.toNat, ctol := d.f 1 63 48, feed := feed.val, prof := d.f 1 7 5, rel := d.fb 1 8, imm := imm
      targets := ts, parts := 0, step := s.clk.ticks, reserved := false }
    if !d.fb 1 10 then
      let (t, r) := closeMove d.ring.val o s
      (t, { r with clamps := r.clamps ||| mask })
    else
      let room := decide (0 < s.free? g)
      if !room ∧ !imm then (s, planReply s g 0x03 mask)
      else
        let t : State := { s with plan := { s.plan with
          opens := Table.put none d.ring.val (some { o with reserved := room }) s.plan.opens } }
        (t, planReply t g 0 mask)
/-- MOVE (Table 4.4). -/
def opMove (d : Desc) (s : State) : State × Reply := moveWith (d.fb 1 9) d s
/-- MOVE_CONT (Table 4.5); the open MOVE of its ring is for the same group. -/
def opMoveCont (d : Desc) (s : State) : State × Reply :=
  match Table.look none s.plan.opens d.ring.val with
  | none => (s, planReply s (d.f 1 4 0) 0x06)
  | some o =>
    let (ts, cl) := matchTargets s d o.group o.rel
    let o1 : OpenMove := { o with
      targets := o.targets.filter (fun e => !ts.any (fun x => x.1 == e.1)) ++ ts, parts := o.parts + 1, step := s.clk.ticks }
    if d.fb 1 10 ∧ o1.parts < 2 then
      let t : State := { s with plan := { s.plan with opens := Table.put none d.ring.val (some o1) s.plan.opens } }
      (t, planReply t o.group 0 cl)
    else
      let (t, r) := closeMove d.ring.val o1 s
      (t, { r with clamps := r.clamps ||| cl ||| clampMask [(1, d.fb 1 10)] })
/-- MOVE_INCOMPLETE: no descriptor has followed within 16 ticks (R133). -/
def moveIncomplete (ring : Nat) (s : State) : State :=
  match Table.look none s.plan.opens ring with
  | some o => if o.step + 16 ≤ s.clk.ticks then endOpen ring s else s
  | none => s

/-! ## Group control (R142, R95) -/

/-- Whether an axis's part of the enable condition holds (R111, R210, R444, Table 3.3). -/
def State.axisReady (s : State) (a : Nat) : Bool :=
  if 24 ≤ a then !(s.axis a).left && s.net.nodes.any (fun e => match e.2.cfg with
    | some c => decide (c.base ≤ a ∧ a < c.base + c.count) && s.nodeSt e.1 == nJoined
    | none => false)
  else
    let c := (s.axisL a).cfg
    let ainBad (k : Nat) : Bool := decide (k < 96) && s.getB (F.adcPairStatus_CAL_FAULT (k / 6))
    let inBad (k : Nat) : Bool := if c.sdi then decide (k < 48) && s.getB (F.adcSdiStatus_CAL_FAULT k) else ainBad k
    let fbBad (n : Nat) : Bool := decide (n < 32) &&
      (s.get (F.fbkFbCfg_MODE n) == 5 || s.get (F.fbkFbCfg_MODE n) == 6) &&
      (ainBad (s.get (F.fbkFbAna_SIN_IN n)) || ainBad (s.get (F.fbkFbAna_COS_IN n)))
    c.motorDone && c.isenseDone && (s.get F.shrStoCmd_TORQUE).testBit a && !s.getB (F.pwmSlotStatus_CAL_FAULT a) &&
      !ainBad c.vbusIn && !(c.curInputs.any inBad) && !([c.fbCh, c.velFb, c.posFb].any fbBad) &&
      !(upto 16).any (fun i => s.heldBy 3 i == a && s.getB (F.latLatStatus_CAL_FAULT i))
/-- Whether a group may be enabled. -/
def State.mayEnable (s : State) (g : Nat) : Bool :=
  !(s.members g).isEmpty && (s.members g).all (fun e => s.axisReady e.2) &&
    (s.mode == mService || s.motionOk || s.motionMode == mStandby)

/-- Where the completion record of the descriptor being applied will stand. -/
def State.recordAt (s : State) (n : Nat) : Nat :=
  s.get64 (A.hriRingCqBaseLo n) + (s.ring n).c.toNat % 2 ^ s.get (F.hriRingCfg_SIZE n) * 16
/-- The command whose trigger loses to a later one of the same step: its completion carries NO_EFFECT and reason 0x04 (R95). -/
def loseRecord (at' : Nat) (s : State) : State :=
  patchRecord at' (fun b => (b.set 6 (b.getD 6 0 ||| 2)).set 15 4) s
/-- A trigger of this step that loses is discarded: the group is in the state that it met, and what would have told of it is withdrawn
(R95). Only ENABLE and RESUME ever lose to a later command; neither has touched the plan. -/
def dropTrigger (g met : Nat) (s : State) : State :=
  let t := if met = gIdle then forEach (s.members g) (fun e u => stopStage e.2 u) s else s
  let tells (e : Event) : Bool := e.code == 0x0021 && e.data == BitVec.ofNat 16 (0x3000 + g)
  let u := t.set (grpFld g) met
  { u with host := { u.host with evBuf := (u.host.evBuf.reverse.eraseP tells).reverse } }

/-- A command that moves a group between states under R95: `from'` lists the states that permit it, `rank` its standing. `act` is
its effect. It is weighed against the trigger that stands in this step: one of higher standing replaces it, and takes its effect where the
state met permits it; an equal or lower one loses. A trigger of the device that has taken the group on is not undone by a command. -/
def groupCmd (d : Desc) (g : Nat) (from' : List Nat) (rank : Nat) (ok : Bool) (act : State → State) (s : State) : State × Reply :=
  let mark (met : Nat) (t : State) : State := t.updGrp g (fun p => { p with
    trig := some { step := s.clk.ticks, rank := rank, met := met, record := some (s.recordAt d.ring.val) } })
  let done (met : Nat) (t : State) : State × Reply := let u := mark met t; (u, planReply u g 0)
  let permits (st : Nat) : Bool := from'.contains st
  match (s.grp g).trig.filter (fun x => x.step == s.clk.ticks) with
  | none => if !permits (s.gst g) ∨ !ok then (s, planReply s g 0x02) else done (s.gst g) (act s)
  | some x =>
    if !ok ∨ (!permits x.met ∧ !permits (s.gst g)) then (s, planReply s g 0x02)
    else if rank ≤ x.rank then (s, planReply s g 0x04)
    else match x.record with
      | none => done x.met (act s)
      | some r =>
        let t := dropTrigger g x.met (loseRecord r s)
        done x.met (if permits x.met then act t else t)

def opGroupEnable (d : Desc) (s : State) : State × Reply :=
  let g := d.f 1 4 0
  groupCmd d g [gIdle] 0 (s.mayEnable g) (fun t => (forEach (t.members g) (fun e u => closeLoops e.2 u) t).setGst g gEnabled) s
def opGroupDisable (d : Desc) (s : State) : State × Reply :=
  groupCmd d (d.f 1 4 0) [gEnabled, gHolding] 1 true (groupToIdle (d.f 1 4 0)) s
def opGroupStop (d : Desc) (s : State) : State × Reply :=
  groupCmd d (d.f 1 4 0) [gMoving] 1 true (stopGroup (d.f 1 4 0)) s
def opGroupResume (d : Desc) (s : State) : State × Reply :=
  groupCmd d (d.f 1 4 0) [gHolding] 0 s.motionOk (resumeGroup (d.f 1 4 0)) s
/-- FLUSH: queued entries but for the segment that a committed blend runs into (R142). -/
def flushGroup (g : Nat) (s : State) : State :=
  let p := s.grp g
  let keep : Nat := match p.cur with
    | some e => if e.tb ≠ 0 ∧ e.committed ∧ p.nxt.isNone then 1 else 0
    | none => 0
  let out := (p.queue.drop keep).filterMap (fun x => match x with | .move b => some b | .couple _ => none)
  let s1 := s.updGrp g (fun q => freeSlots (q.queue.length - keep) { q with queue := q.queue.take keep })
  -- the members' previous targets are those of the last entry kept
  let s2 := match out.head? with
    | some b => s1.setTargets g b.start
    | none => s1
  if p.queue.length = keep then s else planNext g .window s2
def opGroupFlush (d : Desc) (s : State) : State × Reply :=
  let g := d.f 1 4 0
  let t := flushGroup g s
  (t, planReply t g 0)
/-- CMD 0x0, or a code that falls back to it. -/
def opGroupNone (d : Desc) (s : State) : State × Reply :=
  planReply s (d.f 1 4 0) 0x0B (clampMask [(1, decide (6 ≤ d.f 1 11 8))]) |> (s, ·)
/-- GROUP_CTRL (Table 4.6). -/
def opGroupCtrl (d : Desc) (s : State) : State × Reply :=
  match d.f 1 11 8 with
  | 1 => opGroupEnable d s
  | 2 => opGroupDisable d s
  | 3 => opGroupStop d s
  | 4 => opGroupResume d s
  | 5 => opGroupFlush d s
  | _ => opGroupNone d s

/-! ## Gears and cams (R155 to R159) -/

/-- A coupling entry joins the queue. -/
def queueCouple (g member : Nat) (absent : Bool) (c : Couple) (cl : Nat) (s : State) : State × Reply :=
  if absent ∨ (s.memberAxis g member).isNone then (s, planReply s g 0x01 cl)
  else if !takesEntries (s.gst g) then (s, planReply s g 0x02 cl)
  else if s.free? g = 0 then (s, planReply s g 0x03 cl)
  else
    let t := planNext g .window (s.updGrp g (fun p => { p with queue := p.queue ++ [.couple { c with step := s.clk.ticks }] }))
    (t, planReply t g 0 cl)
/-- Whether a coupling names a master that is absent. -/
def State.masterAbsent (s : State) (source master : Nat) : Bool :=
  if source = 2 then s.web.refAxis == 0xFF else !s.axisPresent master
/-- GEAR (Table 4.7). -/
def gearWith (off : Bool) (d : Desc) (s : State) : State × Reply :=
  let src := cE 2 0 (d.f 1 25 24)
  let den := cN 1 (2 ^ 32 - 1) (d.f 2 63 32)
  let g := d.f 1 4 0
  let m := d.f 1 11 8
  queueCouple g m (!off && s.masterAbsent src.val (d.f 1 23 16))
    { tag := d.tag.toNat, off := off, cam := none, source := src.val, master := d.f 1 23 16, member := m, catchUp := d.fb 1 26
      num := d.fi 2 31 0, den := den.val, clutch := d.n 3, mOff := 0, sOff := 0 }
    (clampMask [(1, src.hit), (2, den.hit)]) s
def opGear (d : Desc) (s : State) : State × Reply := gearWith (d.fb 1 27) d s
/-- CAM_ENGAGE (Table 4.8). A table that holds no points is absent. -/
def camWith (off : Bool) (d : Desc) (s : State) : State × Reply :=
  let src := cE 2 0 (d.f 1 25 24)
  let g := d.f 1 4 0
  let m := d.f 1 11 8
  let t := d.f 1 30 26
  queueCouple g m (!off && (s.masterAbsent src.val (d.f 1 23 16) || !(Table.look {} s.plan.cams t).ready))
    { tag := d.tag.toNat, off := off, cam := some t, source := src.val, master := d.f 1 23 16, member := m, catchUp := d.fb 1 12
      num := 0, den := 1, clutch := 0, mOff := d.i 2, sOff := d.i 3 }
    (clampMask [(1, src.hit)]) s
def opCamEngage (d : Desc) (s : State) : State × Reply := camWith (d.fb 1 31) d s

/-- Whether a cam table is engaged in any group. -/
def State.camEngaged (s : State) (t : Nat) : Bool := s.plan.groups.any (fun e => e.2.rels.any (fun r => r.c.cam == some t))
/-- The points of a CAM_LOAD's buffer. -/
def camPoints : Nat → List Byte → List (Int × Int)
  | 0, _ => []
  | n + 1, b => (sx 64 (leAt b 0 8), sx 64 (leAt b 8 8)) :: camPoints n (b.drop 16)
/-- CAM_LOAD (Table 4.8): the points are fetched, the spline is computed afterwards. -/
def opCamLoad (d : Desc) (s : State) : State × Reply :=
  let t := d.f 1 4 0
  let n := d.f 1 28 16
  let cl := clampMask [(1, decide (4096 < n)), (2, d.n 2 % 16 != 0)]
  if s.camEngaged t then (s, why 0x07 0 cl)
  else if n < 2 then (s, why 0x0A 0 cl)
  else
    let pts := camPoints (min n 4096) d.data
    ({ s with plan := { s.plan with cams := Table.upd {} t (fun c => { c with next := some (pts, d.fb 1 5) }) s.plan.cams } }, why 0 0 cl)
/-- The index of the first point whose master position does not rise. -/
def firstFall : Nat → List (Int × Int) → Option Nat
  | i, a :: b :: r => if b.1 ≤ a.1 then some (i + 1) else firstFall (i + 1) (b :: r)
  | _, _ => none
/-- CAM_READY: the spline of a loaded table has been computed, or its masters do not rise (R158). A table engaged since its CAM_LOAD is
replaced while engaged, the model's choice (notes/assumptions/113.md). -/
def camReady (t : Nat) (s : State) : State :=
  match (Table.look {} s.plan.cams t).next with
  | none => s
  | some (pts, per) =>
    match firstFall 0 pts with
    | some i =>
      let s1 : State := { s with plan := { s.plan with cams := Table.upd {} t (fun c => { c with next := none }) s.plan.cams } }
      s1.raise 0x0108 sevWarn 0 0x607F [(16, 1, t), (18, 2, i)]
    | none =>
      let s1 : State := { s with plan := { s.plan with
        cams := Table.put {} t { pts := pts, periodic := per, ready := true, next := none } s.plan.cams } }
      s1.raise 0x0107 sevInfo 0 0x607F [(16, 1, t), (18, 2, pts.length)]

/-! ## Group report (Table 4.10) -/

def groupReport (s : State) (g : Nat) : List Byte :=
  let p := s.grp g
  rep [(1, p.visState), (1, p.visFlags), (2, p.visFree), (2, p.visQueued), (2, p.visTag), (8, p.visNs), repI 8 p.visLeft, repI 8 p.visV] ++
    leBytes 32 0 ++
    (upto 16).flatMap (fun m => match s.memberAxis g m with
      | some a => rep [repI 8 (s.axis a).visPos, repI 8 (s.axis a).visVel]
      | none => leBytes 16 0)
def opGroupReport (d : Desc) (s : State) : State × Reply :=
  let g := d.f 1 4 0
  let (t, r) := writeReport d (groupReport s g) s
  (t, { r with result := r.result + s.free? g })

end Sys2Proof.Machine
end

