-- ==== Sys2Proof/Machine/Web.lean ====
section
/-!
DEFINITION. The web line (spec/06_web_spans_and_hauldown.md): its structure, the Sheet engines' tick, the haul-down.
-/
namespace Sys2Proof.Machine

def State.span (s : State) (k : Nat) : SpanSt := Table.look {} s.web.spans k
def State.updSpan (s : State) (k : Nat) (f : SpanSt → SpanSt) : State :=
  { s with web := { s.web with spans := Table.upd {} k f s.web.spans } }
def State.winder (s : State) (w : Nat) : WinderSt := Table.look {} s.web.winders w
def State.updWinder (s : State) (w : Nat) (f : WinderSt → WinderSt) : State :=
  { s with web := { s.web with winders := Table.upd {} w f s.web.winders } }

/-- The Sheet engine of a span (Table 1.2), and the places of R254. -/
def seOf (k : Nat) : Nat := if k < 12 then 32 else 33
def spanPlace (k : Nat) : Nat := place (seOf k) 1 k
def State.winderPlace (s : State) (w : Nat) : Nat := place (seOf (s.winder w).span) 2 w
def linePlace : Nat := 0x81FF

/-- The winder of a roll. -/
def State.winderOf (s : State) (a : Nat) : Option Nat :=
  (s.web.winders.find? (fun e => e.2.on && e.2.axis == a)).map (·.1)
/-- A winder as an engine sees it: the Sheet engine that keeps it has its present values, every other engine the ones published last (R35,
R240). One that has not been published yet stands as VE configured it. -/
def State.winderAt (s : State) (e w : Nat) : WinderSt :=
  let pub := Table.look {} s.web.windersPub w
  if seOf (s.winder w).span = e ∨ !pub.on then s.winder w else pub
/-- A roll's diameter in 2^-64 m (R214), as engine `e` sees it. -/
def State.rollD (s : State) (e a : Nat) : Nat :=
  match s.winderOf a with | some w => (s.winderAt e w).d | none => (s.roll a).dFix * 2 ^ 32

/-- Surface speed of a Q40.24 speed, surface acceleration of a Q48.16 acceleration, length of a Q48.16 distance (R214), as engine `e` sees
them. -/
def State.surfV (s : State) (e a : Nat) (v : Int) : Int := rdiv (v * s.rollD e a * piQ64) ((s.roll a).cpr * 2 ^ 120)
def State.surfA (s : State) (e a : Nat) (v : Int) : Int := rdiv (v * s.rollD e a * piQ64) ((s.roll a).cpr * 2 ^ 112)
def State.surfL (s : State) (e a : Nat) (p : Int) : Int := rdiv (p * s.rollD e a * piQ64) ((s.roll a).cpr * 2 ^ 112)
/-- Counts of a surface quantity: Q40.24 of a speed, Q48.16 of an acceleration or a length. -/
def State.countsV (s : State) (e a : Nat) (v : Int) : Int := if s.rollD e a = 0 then 0 else rdiv (v * (s.roll a).cpr * 2 ^ 120) (s.rollD e a * piQ64)
def State.countsA (s : State) (e a : Nat) (v : Int) : Int := if s.rollD e a = 0 then 0 else rdiv (v * (s.roll a).cpr * 2 ^ 112) (s.rollD e a * piQ64)

/-- The rolls of the line. -/
def State.rolls (s : State) : List Nat := (s.web.rolls.filter (fun e => e.2.on)).map (·.1)
/-- V_L and a_L as engine `e` forms them (R216); without a reference axis those of the roll with the largest planned surface speed. -/
def State.line (s : State) (e : Nat) : Int × Int :=
  let at' (a : Nat) : Int × Int := (s.surfV e a (s.axis a).visVel, s.surfA e a (s.axis a).visAcc)
  if s.web.refAxis ≠ 0xFF then at' s.web.refAxis
  else match s.rolls with
    | [] => (0, 0)
    | a :: r => r.foldl (fun acc b => if acc.1 < (at' b).1 then at' b else acc) (at' a)

/-! ## Structure (R215 to R218, R233) -/

/-- The spans downstream of one, itself included, by UPSTREAM links. -/
def downSpans (s : State) (k : Nat) : List Nat :=
  let rec walk : Nat → List Nat → List Nat
    | 0, l => l
    | n + 1, l => walk n (l ++ ((s.web.spans.filter (fun e => e.2.on && l.contains e.2.upstream && !l.contains e.1)).map (·.1)))
  walk 24 [k]
/-- Whether a change has taken effect in every span and winder downstream of its entry that is left. -/
def matDone (s : State) (m : Mat) : Bool :=
  let all := downSpans s m.span
  all.all (fun k => m.spans.contains k || !(s.span k).on) &&
    s.web.winders.all (fun e => !e.2.on || e.2.unwind || !all.contains e.2.span || m.winders.contains e.1)

/-- Removes spans and, along the chain, every span downstream of them with their winders (R215). -/
def dropChain : Nat → List Nat → State → State
  | 0, _, s => s
  | _, [], s => s
  | n + 1, k :: r, s =>
    let down := (s.web.spans.filter (fun e => e.2.on && e.2.upstream == k)).map (·.1)
    let s1 := { s with web := { s.web with
      spans := Table.put {} k {} s.web.spans
      winders := s.web.winders.filter (fun e => e.2.span != k) } }
    dropChain n (r ++ down) s1
/-- The material changes that have nowhere left to go are at their end (R225). -/
def matsClean (s : State) : State := { s with web := { s.web with mats := s.web.mats.filter (fun m => !matDone s m) } }
def dropSpans (ks : List Nat) (s : State) : State := matsClean (dropChain 64 ks s)

/-- A span takes a material change; a rewinder takes its thickness. -/
def spanTakes (k ea : Nat) (s : State) : State := s.updSpan k (fun x => { x with ea := ea })
def winderTakes (w h : Nat) (s : State) : State := s.updWinder w (fun x => if x.unwind then x else { x with hNow := h })
/-- A material change enters the line (R225): with ALL it takes effect at once downstream of its entry, else it begins to travel. -/
def matIn (m : Mat) (s : State) : State :=
  if m.all then
    let all := downSpans s m.span
    let ws := (s.web.winders.filter (fun e => e.2.on && all.contains e.2.span)).map (·.1)
    forEach ws (winderTakes · m.h) (forEach all (spanTakes · m.ea) s)
  else { s with web := { s.web with mats := s.web.mats ++ [{ m with wait := none, entered := s.web.sL }] } }

/-- Every waiting material change enters when the line loses its reference axis (R225). -/
def matsEnter (s : State) : State :=
  forEach (s.web.mats.filter (fun m => m.wait.isSome)) matIn
    { s with web := { s.web with mats := s.web.mats.filter (fun m => m.wait.isNone) } }

/-- An axis ceases to be a roll (Table 6.3, R216). -/
def rollRemove (a : Nat) (s : State) : State :=
  let ks := (s.web.spans.filter (fun e => e.2.on && (e.2.up == a || e.2.dn == a))).map (·.1)
  let s1 := dropSpans ks s
  let s2 := matsClean { s1 with web := { s1.web with
    rolls := Table.put {} a {} s1.web.rolls
    winders := s1.web.winders.filter (fun e => e.2.axis != a) } }
  if s.web.refAxis = a then matsEnter { s2 with web := { s2.web with refAxis := 0xFF } } else s2

/-- Whether UPSTREAM of a span satisfies R215: the line end, or a span that ends where this one begins, without a cycle. -/
def upstreamOk (s : State) (k up ups : Nat) : Bool :=
  let rec walk : Nat → Nat → Bool
    | 0, _ => false
    | n + 1, j => if j = 0xFF then true else if j = k then false else if !(s.span j).on then false else walk n (s.span j).upstream
  ups == 0xFF || (ups != k && (s.span ups).on && (s.span ups).dn == up && walk 26 ups)

/-- Whether a structural change naming an axis is permitted (R217). -/
def State.structOk (s : State) (a : Nat) : Bool := s.axisIdle a && s.mode != mHauldown && s.mode != mBackstay

/-! ## Descriptors (Tables 6.2 to 6.7) -/

def opLine (d : Desc) (s : State) : State × Reply :=
  let w := s.web
  let ref := d.f 1 7 0
  let dmax := cI (rdiv (2 ^ 32) 100) (100 * 2 ^ 32) (d.i 3)
  let jerk := cI (rdiv (2 ^ 32) 10) (10000 * 2 ^ 32) (d.i 4)
  let dmin := cI 0 dmax.val (d.i 5)
  let zero := cI (rdiv (2 ^ 32) 10000) (2 ^ 32) (d.i 6)
  let marg := cN 0 (2 ^ 29) (d.f 7 31 0)
  let same := ref == w.refAxis
  let r := applyIf [(ref != 0xFF && !s.axisPresent ref, 1),
      (!same && ref != 0xFF && (!s.isWeb ref || (s.winderOf ref).isSome), 5),
      (!same && !(s.mode != mHauldown && s.mode != mBackstay && (ref == 0xFF || s.axisIdle ref) && (w.refAxis == 0xFF || s.axisIdle w.refAxis)), 2)]
    s (clampMask [(2, decide (d.n 2 % 64 ≠ 0)), (3, dmax.hit), (4, jerk.hit), (5, dmin.hit), (6, zero.hit), (7, marg.hit)])
    (fun t =>
      let on := d.fb 1 8
      let t1 : State := { t with web := { t.web with
        pubDiv := d.f 1 31 16, tensionOn := on, refAxis := ref, pubAddr := d.n 2 / 64 * 64, hdMax := dmax.val.toNat, hdJerk := jerk.val.toNat
        hdMin := dmin.val.toNat, zeroSpeed := zero.val.toNat, margin := marg.val
        spans := if w.tensionOn ∧ !on then w.spans.map (fun e => (e.1, { e.2 with ramp := 64, rampFrom := e.2.corr })) else w.spans } }
      if ref = 0xFF ∧ w.refAxis ≠ 0xFF then matsEnter t1 else t1)
  r

def opRoll (d : Desc) (s : State) : State × Reply :=
  let a := d.f 1 7 0
  let cpr := cN 1 (2 ^ 31) (d.f 1 47 16)
  let dia := cI (rdiv (2 ^ 32) 1000) (10 * 2 ^ 32) (d.i 2)
  let cap : Clamped Int := if d.i 3 = 0 then ⟨0, false⟩ else cI (rdiv (2 ^ 32) 100) (1000 * 2 ^ 32) (d.i 3)
  let kt : Clamped Int := if d.i 4 = 0 then ⟨0, false⟩ else if d.i 4 < 0 then ⟨0, true⟩ else cI (rdiv (2 ^ 32) 1000) (2 ^ 63) (d.i 4)
  applyIf [(!s.axisPresent a, 1), (!s.structOk a, 2)] s
    (clampMask [(1, cpr.hit), (2, (s.winderOf a).isNone && dia.hit), (3, cap.hit), (4, kt.hit)])
    (fun t => t.updRoll a (fun r => { r with
      on := true, cpr := cpr.val, dFix := dia.val.toNat, cap := cap.val.toNat, kt := kt.val.toNat, lastPos := t.actual a }))

def opRollRemove (d : Desc) (s : State) : State × Reply :=
  let a := d.f 1 7 0
  applyIf [(!s.axisPresent a, 1), (!s.isWeb a, 5), (!s.structOk a, 2)] s 0 (rollRemove a)

def opSpan (d : Desc) (s : State) : State × Reply :=
  let k := d.f 1 4 0
  let up := d.f 1 15 8
  let dn := d.f 1 23 16
  let ups := d.f 1 31 24
  let len := cI (rdiv (2 ^ 32) 100) (1000 * 2 ^ 32) (d.i 2)
  let lane := cN (2 ^ 10) (2 ^ 30) (d.f 3 63 32)
  let band := cN 0 (2 ^ 29) (d.f 3 31 0)
  let tm := cI 0 (2 ^ 63 - 1) (d.i 4)
  let ti := cI 0 (if tm.val = 0 then 2 ^ 63 - 1 else tm.val) (d.i 5)
  applyIf [(decide (24 ≤ k) || !s.axisPresent up || !s.axisPresent dn, 1),
      (!s.structOk up || !s.structOk dn, 2),
      (!s.isWeb up || !s.isWeb dn, 8), (!upstreamOk s k up ups, 6)] s
    (clampMask [(2, len.hit), (3, lane.hit), (3, band.hit), (4, tm.hit), (5, ti.hit)])
    (fun t =>
      let t1 := t.updSpan k (fun x => { x with
        on := true, up := up, dn := dn, upstream := ups, len := len.val.toNat, lane := lane.val, band := band.val
        tMax := tm.val.toNat, tIn := ti.val.toNat })
      -- spans whose UPSTREAM no longer ends where they begin, and winders whose axis has left their end, become absent
      let bad := (t1.web.spans.filter (fun e => e.2.on && e.2.upstream == k && e.2.up != dn)).map (·.1)
      let t2 := dropSpans bad t1
      { t2 with web := { t2.web with winders := t2.web.winders.filter (fun e =>
        e.2.span != k || e.2.axis == (if e.2.unwind then up else dn)) } })

def opSpanRemove (d : Desc) (s : State) : State × Reply :=
  let k := d.f 1 4 0
  let x := s.span k
  applyIf [(decide (24 ≤ k) || !x.on, 1), (!s.structOk x.up || !s.structOk x.dn, 2)] s 0 (dropSpans [k])

def opTensionLoop (d : Desc) (s : State) : State × Reply :=
  let k := d.f 1 4 0
  let x := s.span k
  let src := d.f 1 9 8
  let fb := d.fb 1 13
  let ctrl := d.fb 1 11
  let inp := d.f 1 23 16
  let top : Int := if x.tMax = 0 then 2 ^ 63 - 1 else x.tMax
  let ts := cI 0 top (d.i 2)
  let rate := cI 0 (2 ^ 63 - 1) (d.i 3)
  let kp := cGain (d.w 4)
  let lim := cN 0 (2 ^ 30) (d.f 5 31 0)
  let sens := src == 1 || src == 2
  let absent := sens && (if fb then decide (32 ≤ inp) else !s.inPresent false inp)
  let owner := s.heldBy (if fb then 2 else 0) inp
  let target := if ctrl then x.dn else x.up
  let taken := src != 0 && s.web.spans.any (fun e => e.2.on && e.1 != k && e.2.source != 0 && e.2.controlled == target)
  applyIf [(decide (24 ≤ k) || !x.on || absent, 1), (sens && owner != seOf k, 4), (taken, 3)] s
    (clampMask [(2, ts.hit), (3, rate.hit), (4, kp.hit), (5, lim.hit)])
    (fun t => t.updSpan k (fun y => { y with
      source := src, act := d.fb 1 10, ctrl := ctrl, cascade := d.fb 1 12, fb := fb, input := inp, tSet := ts.val.toNat
      tRate := rate.val.toNat, kp := kp.val, tn := d.f 5 63 32, lim := lim.val, gain := d.i 6, zero := d.f 7 63 32
      corrM := d.f 7 31 16, tBreak := d.f 7 15 0 }))

/-- pi/32 times RHO_W times (D^4 - D_CORE^4), plus J_FIX (R237), in 2^-32 kg m^2. -/
def winderJ (x : WinderSt) : Nat :=
  let dc := x.dCore * 2 ^ 40
  x.jFix + (rdiv ((piQ64 * x.rho * (x.d ^ 4 - dc ^ 4) : Nat) : Int) (2 ^ (5 + 64 + 256))).toNat

/-- The published values of a winder follow its diameter (R237, R238). -/
def winderPublish (x : WinderSt) : WinderSt :=
  let j := winderJ x
  { x with
    j := j, scale := if x.jRef = 0 then 0x01000000 else satN 32 (rdiv (j * 2 ^ 24 : Nat) x.jRef).toNat
    pred := if x.fRef = 0 ∨ x.jRef = 0 ∨ j = 0 then 0 else (rootOf (x.fRef * x.fRef * x.jRef) j false).toNat }

def opWinder (d : Desc) (s : State) : State × Reply :=
  let w := d.f 1 2 0
  let a := d.f 1 15 8
  let k := d.f 1 20 16
  let unwind := d.fb 1 24
  let core := cN (rdiv (2 ^ 24) 100).toNat (4 * 2 ^ 24) (d.f 2 31 0)
  let dmax := cN core.val (4 * 2 ^ 24) (d.f 2 63 32)
  let x := s.span k
  applyIf [(!s.axisPresent a || decide (24 ≤ k) || !x.on, 1), (!s.structOk a, 2), (!s.isWeb a || a == s.web.refAxis, 5),
      ((if unwind then x.up else x.dn) != a, 8), (match s.winderOf a with | some j => j != w | none => false, 9)] s
    (clampMask [(2, core.hit), (2, dmax.hit), (4, decide (d.i 4 < 0)), (5, decide (d.i 5 < 0)), (6, decide (d.i 6 < 0))])
    (fun t => t.updWinder w (fun _ => winderPublish
      { on := true, unwind := unwind, span := k, axis := a, dMax := dmax.val, dCore := core.val, dGear := d.f 3 63 32, h := d.f 3 31 0
        jFix := (max 0 (d.i 4)).toNat, rho := (max 0 (d.i 5)).toNat, jRef := (max 0 (d.i 6)).toNat, fRef := d.f 7 63 32, devMax := d.f 7 31 0
        taper := d.f 1 63 48, trust := d.f 1 47 32, d := (if unwind then dmax.val else core.val) * 2 ^ 40, hNow := d.f 3 31 0
        revPos := t.actual a }))

def opWinderRemove (d : Desc) (s : State) : State × Reply :=
  let w := d.f 1 2 0
  let x := s.winder w
  applyIf [(!x.on, 1), (!s.structOk x.axis, 2)] s 0
    (fun t => matsClean { t with web := { t.web with winders := Table.put {} w {} t.web.winders } })

def opDiameterSet (d : Desc) (s : State) : State × Reply :=
  let w := d.f 1 2 0
  let x := s.winder w
  let v := cN x.dCore x.dMax (d.f 2 31 0)
  applyIf [(!x.on, 1)] s (clampMask [(2, v.hit)])
    (fun t => t.updWinder w (fun y => winderPublish { y with
      d := v.val * 2 ^ 40, revPos := t.actual y.axis, revLen := 0, slow := false, atCore := false, atMax := false }))

def opMaterial (d : Desc) (s : State) : State × Reply :=
  let k := d.f 1 4 0
  let ea := cI 0 (2 ^ 63 - 1) (d.i 2)
  let noRef := d.fb 1 8 && s.web.refAxis == 0xFF
  let wait := d.fb 1 8 && !noRef && decide ((s.axis s.web.refAxis).visPos < d.i 3)
  let m : Mat := { ea := ea.val.toNat, h := d.f 1 63 32, span := k, all := d.fb 1 9, wait := none, entered := 0, spans := [], winders := [] }
  applyIf [(decide (24 ≤ k) || !(s.span k).on, 1), ((wait || !m.all) && decide (16 ≤ s.web.mats.length), 7)] s
    (clampMask [(1, noRef), (2, ea.hit)])
    (fun t => if wait then { t with web := { t.web with mats := t.web.mats ++ [{ m with wait := some (d.i 3) }] } } else matIn m t)

/-! ## Material in transit (R225) -/

/-- Web length from the upstream end of span `k0` to the upstream end of span `k`; none where `k` is not downstream of it. -/
def webTo (s : State) (k0 : Nat) : Nat → Nat → Option Nat
  | 0, _ => none
  | n + 1, k =>
    if k = k0 then some 0
    else if !(s.span k).on ∨ (s.span k).upstream = 0xFF then none
    else (webTo s k0 n (s.span k).upstream).map (· + (s.span (s.span k).upstream).len)

/-- A waiting change enters when the line reference setpoint has passed LINE_POS. -/
def matEnter (i : Nat) (s : State) : State :=
  match s.web.mats[i]? with
  | some m => match m.wait with
    | some p => if s.web.refAxis = 0xFF ∨ p ≤ (s.axis s.web.refAxis).visPos then
        matIn m { s with web := { s.web with mats := s.web.mats.eraseIdx i } } else s
    | none => s
  | none => s

/-- A change in transit reaches the midpoint of a span, or the rewinder at the end of one (R225). -/
def matReach (i : Nat) (winder : Bool) (k : Nat) (s : State) : State :=
  match s.web.mats[i]? with
  | none => s
  | some m =>
    let sp := if winder then (s.winder k).span else k
    match webTo s m.span 26 sp with
    | none => s
    | some l =>
      let need := if winder then l + (s.span sp).len else l + (s.span sp).len / 2
      let seen := if winder then m.winders.contains k || !(s.winder k).on else m.spans.contains k || !(s.span k).on
      if m.wait.isSome ∨ seen ∨ s.web.sL - m.entered < need then s
      else
        let s1 := if winder then winderTakes k m.h s else spanTakes k m.ea s
        let m' : Mat := if winder then { m with winders := m.winders ++ [k] } else { m with spans := m.spans ++ [k] }
        let mats := if matDone s1 m' then s.web.mats.eraseIdx i else s.web.mats.set i m'
        { s1 with web := { s1.web with mats := mats } }

/-! ## Winders (R234 to R238) -/

/-- Holds a winder's diameter within its bounds; DIAM_LIMIT is raised once at a bound (R236). -/
def winderHold (w : Nat) (d : Int) (s : State) : State :=
  let x := s.winder w
  let lo : Int := x.dCore * 2 ^ 40
  let hi : Int := x.dMax * 2 ^ 40
  let core := decide (d ≤ lo)
  let top := decide (hi ≤ d)
  let s1 := s.updWinder w (fun y => winderPublish { y with d := (clampI lo hi d).toNat, atCore := core, atMax := top })
  let ev (b : Nat) (t : State) : State := t.raise 0x0306 sevInfo (0x4000 + x.axis) (s.winderPlace w) [(16, 1, b)]
  whenB (top && !x.atMax) (ev 1) (whenB (core && !x.atCore) (ev 0) s1)

/-- The thickness integral of a tick (R234) and the bookkeeping of the revolution window (R235). -/
def winderTick (w : Nat) (s : State) : State :=
  let x := s.winder w
  let a := x.axis
  let moved := s.actual a - (s.roll a).lastPos
  -- 2 h dtheta: h in 2^-32 m, dtheta = |moved| / (2^16 CPR)
  let dd := qdiv (2 * (if x.unwind then x.h else x.hNow) * moved * 2 ^ 16) (s.roll a).cpr
  let other := if x.unwind then (s.span x.span).dn else (s.span x.span).up
  let e := seOf x.span
  let len := s.surfL e other (s.actual other - (s.roll other).lastPos)
  let slow := decide ((s.surfV e a (s.axisL a).vAct).natAbs < s.web.zeroSpeed)
  let s1 := s.updWinder w (fun y => { y with revLen := y.revLen + len, slow := y.slow || slow })
  winderHold w ((x.d : Int) + (if x.unwind then -dd else dd)) s1

/-- A winder has completed a revolution (R235). -/
def winderRev (w : Nat) (s : State) : State :=
  let x := s.winder w
  let a := x.axis
  let turned := (s.actual a - x.revPos).natAbs
  if !x.on ∨ turned < (s.roll a).cpr * 65536 then s
  else
    let s0 := s.updWinder w (fun y => { y with revPos := s.actual a, revLen := 0, slow := false })
    if x.slow then s0
    else
      -- D_ratio = length / pi, in 2^-64 m
      let r := rdiv (x.revLen.natAbs * 2 ^ 96 : Nat) piQ64
      let dev := (r - x.d).natAbs
      let s1 := s0.updWinder w (fun y => { y with ratio := satN 32 (rdiv r (2 ^ 40)).toNat })
      if x.devMax = 0 ∨ dev * 1000000 ≤ x.devMax * 2 ^ 64 then
        winderHold w ((x.d : Int) + rdiv (x.trust * (r - x.d)) 65536) (s1.updWinder w (fun y => { y with dev := false }))
      else
        let s2 := s1.updWinder w (fun y => { y with dev := true })
        whenB (!x.dev) (fun t => t.raise 0x0305 sevWarn (0x4000 + a) (s.winderPlace w)
          [(16, 4, (s1.winder w).ratio), (20, 4, x.d / 2 ^ 40)]) s2

/-! ## Spans and tension loops (R219 to R232) -/

/-- Whether a roll's loops count as closed for the web (R224). -/
def State.rollClosed (s : State) (a : Nat) : Bool :=
  s.loopsClosed a && (match s.groupOf a with | some g => s.gst g != gIdle && s.gst g != gFaulted | none => false)
def State.spanOk (s : State) (x : SpanSt) (k : Nat) : Bool :=
  let engOk (a : Nat) : Bool := match s.axisEngine a with | some e => !s.engFaulted e | none => false
  s.rollClosed x.up && s.rollClosed x.dn && engOk x.up && engOk x.dn && !s.engFaulted (seOf k)

/-- The sensor input of a loop less its zero: a Q2.30 fraction, or counts (R226). -/
def sensor (s : State) (x : SpanSt) : Int :=
  if x.fb then sx 32 (wrapN 32 ((s.get (F.fbkFbPos_POS x.input) : Int) - x.zero))
  else sx 16 (s.get (F.adcAinRes_CODE x.input)) * 32768 - sx 32 x.zero
/-- SENS_GAIN times the sensor input, in 2^-32 N. -/
def sensed (s : State) (x : SpanSt) : Int := if x.fb then x.gain * sensor s x else rdiv (x.gain * sensor s x) (2 ^ 30)

/-- e^-(num/den) in 2^-64 within the error that R220 permits, 2^-40, and within 0 and 1: the free value of Config. -/
def expHeld (num den : Nat) : Nat :=
  min (2 ^ 64) (expNeg num den / 2 ^ 64 + Config.expSlack num den % (2 ^ 25 + 1) - 2 ^ 24)
/-- One tick of the estimate: the driving tension u of R220 and the new estimate. Speeds and the tension of the upstream span are those
published in the tick before (R221). -/
def spanModel (s : State) (k : Nat) (x : SpanSt) : Int × Int :=
  let e := seOf k
  let vu := s.surfV e x.up (s.axisL x.up).vAct
  let vd := s.surfV e x.dn (s.axisL x.dn).vAct
  let ea := rdiv (x.ea * x.lane : Nat) (2 ^ 30)
  let tUp := if x.upstream = 0xFF then (x.tIn : Int) else (Table.look {} s.web.spansPub x.upstream).t
  let u := ea * (vd - vu) + tUp * vu
  if 0 < vd then
    let h : Int := expHeld (vd.toNat * s.ftNs) (x.len * 1000000000)
    (u, rdiv (x.t * h * vd + (2 ^ 64 - h) * u) (2 ^ 64 * vd))
  else (u, x.t + rdiv (u * s.ftNs) ((x.len : Int) * 1000000000))

/-- The target of the effective setpoint, tapered at a winder (R227). -/
def tTarget (s : State) (k : Nat) (x : SpanSt) : Int :=
  match s.web.winders.find? (fun e => e.2.on && e.2.span == k && e.2.taper != 0) with
  | none => x.tSet
  | some (_, w) =>
    let dc := w.dCore * 2 ^ 40
    if w.d = 0 then x.tSet else (x.tSet : Int) - rdiv ((x.tSet * w.taper * (w.d - dc) : Nat) : Int) (65536 * w.d : Nat)

/-- The estimate of a span after a tick, whether it fell below 0 and was set to 0 (R222 to R224), and the tension's rate term. -/
def spanEstimate (s : State) (k : Nat) (x : SpanSt) (ok : Bool) (meas : Int) : Int × Bool × Int :=
  let (u, t1) := spanModel s k x
  let restart := if x.source = 1 then meas else if x.running then x.tEff else 0
  let t2 := max 0 t1
  let t3 := if !x.valid then restart else if x.source = 1 then t2 + rdiv (x.corrM * (meas - t2)) 65536 else t2
  if ok then (max 0 t3, decide ((x.valid && decide (t1 < 0)) ∨ t3 < 0), u) else (x.t, false, u)

/-- The loop output (R228) before its limit, and the increment and next value of its integral: u = KP e + (1/TN) times the integral of e. -/
def tensionPi (s : State) (x : SpanSt) (e int : Int) : Int × Int × Int :=
  let inc := if x.tn = 0 then 0 else rdiv (e * 2 ^ 22 * s.ftNs) x.tn
  (rdiv (gainMul x.kp e) 4 + rdiv (int + inc) (2 ^ 24), inc, int + inc)

/-- The next state of a span's tension, loop and supervision, with the tension's rate term and the tension that the events report: the
measured one of a load cell, T_eff for a dancer, else the estimate (R226, R232). -/
def spanNext (s : State) (k : Nat) (x : SpanSt) : SpanSt × Int × Int :=
  let ok := s.spanOk x k
  let meas := if x.source = 1 then sensed s x else 0
  let (est, slack, u) := spanEstimate s k x ok meas
  -- the loop
  let run := s.tensionActive && x.source != 0 && s.rollClosed x.up && s.rollClosed x.dn
  let tgt := tTarget s k x
  let stepMax := rdiv (x.tRate * s.ftNs : Nat) 1000000000
  let eff0 := if x.running then x.tEff else if x.source = 1 then meas else est
  let eff := if !run then x.tEff else if x.tRate = 0 then tgt else clampI (eff0 - stepMax) (eff0 + stepMax) tgt
  let e := if x.source = 1 then eff - meas else if x.source = 2 then sensed s x else eff - est
  let int0 := if x.running then x.integ else 0
  let (raw, inc, int) := tensionPi s x e int0
  let out := clampI (-(x.lim : Int)) x.lim raw
  let hit := run && decide (out ≠ raw)
  let int1 := if out ≠ raw ∧ 0 < inc * raw then int0 else int
  let ramp := if run then 0 else x.ramp - 1
  let corr := if run then out else if x.ramp = 0 then 0 else rdiv (x.rampFrom * ramp) 64
  -- supervision
  let ten := if x.source = 1 then meas else est
  let tol := rdiv (eff.natAbs * x.band : Nat) (2 ^ 30)
  let band := ok && decide (ten < eff - tol ∨ eff + tol < ten)
  let ovr := ok && x.tMax != 0 && decide ((x.tMax : Int) < ten)
  let low := x.source == 1 && x.tBreak != 0 && decide (meas * 65536 < x.tBreak * eff) && decide ((s.web.zeroSpeed : Int) ≤ (s.line (seOf k)).1)
  ({ x with
    t := est, valid := ok, meas := meas, slack := slack, running := run, tEff := eff, integ := if run then int1 else 0, corr := corr
    limHit := hit, ramp := ramp, bandOut := band, overMax := ovr
    breakRun := if low then x.breakRun + 1 else 0, broke := x.broke && low }, u, if x.source = 2 then eff else ten)
/-- One tick of a span (R220 to R232). -/
def spanTick (k : Nat) (s : State) : State :=
  let x := s.span k
  if !x.on then s
  else
    let r := spanNext s k x
    let vd := s.surfV (seOf k) x.dn (s.axisL x.dn).vAct
    let s1 := s.updSpan k (fun _ => r.1)
    let s2 := whenB (r.1.slack && !x.slack) (fun t => t.raise 0x0304 sevWarn (0x2000 + k) (spanPlace k)
      [(16, 8, wrapN 64 (if 0 < vd then rdiv r.2.1 vd else 0))]) s1
    let s3 := whenB (r.1.bandOut && !x.bandOut) (fun t => t.raise 0x0301 sevWarn (0x2000 + k) (spanPlace k)
      [(16, 8, wrapN 64 r.2.2), (24, 8, wrapN 64 r.1.tEff)]) s2
    whenB (r.1.overMax && !x.overMax) (fun t => t.raise 0x0302 sevWarn (0x2000 + k) (spanPlace k) [(16, 8, wrapN 64 r.2.2)]) s3

/-- Measured tension has been below T_BREAK for 16 ticks (R232). -/
def webBreak (k : Nat) (s : State) : State :=
  let x := s.span k
  if !x.on ∨ x.broke ∨ x.breakRun < 16 then s
  else (s.updSpan k (fun y => { y with broke := true })).raise 0x0303 sevFault (0x2000 + k) (spanPlace k) [(16, 8, wrapN 64 x.meas)]

/-! ## Corrections (R228 to R231) -/

/-- The rolls a draw correction of a span reaches: the controlled one and, with CASCADE, those beyond it (R229). -/
def cascadeRolls (s : State) (k : Nat) : List Nat :=
  let x := s.span k
  let rec up : Nat → Nat → List Nat
    | 0, _ => []
    | n + 1, j => if j = 0xFF then [] else (s.span j).up :: up n (s.span j).upstream
  let rec down : Nat → List Nat → List Nat
    | 0, _ => []
    | n + 1, js =>
      let nx := (s.web.spans.filter (fun e => e.2.on && js.contains e.2.upstream)).map (·.1)
      nx.map (fun j => (s.span j).dn) ++ down n nx
  if !x.cascade ∨ x.act then [x.controlled]
  else if x.ctrl then x.dn :: (down 24 [k]).eraseDups else x.up :: up 24 x.upstream

/-- The corrections of every roll from the outputs of the loops (R231). -/
def corrections (s : State) : State :=
  let on := s.web.spans.filter (fun e => e.2.on)
  let draw (a : Nat) : Int := (on.map (fun e =>
    if !e.2.act ∧ (cascadeRolls s e.1).contains a then (if e.2.ctrl then e.2.corr else -e.2.corr) else 0)).sum
  let cur (a : Nat) : Int := (on.map (fun e =>
    if e.2.act ∧ e.2.controlled = a then (if e.2.ctrl then e.2.corr else -e.2.corr) else 0)).sum
  let tIn (a : Nat) : Int := (on.map (fun e => if e.2.dn = a ∧ e.2.running then e.2.tEff else 0)).sum
  let tOut (a : Nat) : Int := (on.map (fun e => if e.2.up = a ∧ e.2.running then e.2.tEff else 0)).sum
  forEach s.rolls (fun a t =>
    let r := t.roll a
    let gear : Int := match t.winderOf a with
      | some w => let x := t.winder w
        if x.dGear = 0 ∨ x.d = 0 ∨ t.mode = mHauldown then 0 else rdiv (x.dGear * 2 ^ 70 : Nat) x.d - 2 ^ 30
      | none => 0
    let ff := if r.kt = 0 ∨ !t.tensionActive then 0
      else rdiv ((tIn a - tOut a) * t.rollD (match t.winderOf a with | some w => seOf (t.winder w).span | none => 32) a * 2 ^ 30) ((r.kt : Int) * 2 ^ 65)
    t.updRoll a (fun y => { y with dvNew := draw a + gear, diNew := cur a + ff })) s

/-! ## Haul-down (R241 to R250) -/

/-- Phases of a stop from speed `v` and acceleration `a` in path units over lengths of 2^-32 m (R243). -/
def haulPhases (v a : Int) (x j : Nat) : List Phase :=
  let mk (l : List (Nat × Int)) : List Phase := (lay ⟨0, v, a⟩ l).1
  if v ≤ 0 ∨ j = 0 ∨ x = 0 then []
  else if 0 ≤ a then
    let n0 := (qdiv a j).toNat
    let v1 := v + qdiv (a * a) j
    mk ((if n0 = 0 then [] else [(n0, -(j : Int))]) ++ ramp v1 0 x j)
  else
    let d := a.natAbs
    if v * j < (d * d : Nat) then
      -- even a release straight to 0 cannot end at zero speed: the speed reaches 0 while deceleration remains
      mk [((qdiv ((d : Int) - isqrt (d * d - (v * j).toNat)) j).toNat, j)]
    else if x < d then
      let n1 := (qdiv ((d : Int) - x) j).toNat
      let v1 := v - qdiv ((d * d : Nat) - (x * x : Nat)) j
      mk [(n1, j), ((qdiv (v1 * j - (x * x : Nat)) (2 * x * j)).toNat, 0), ((qdiv x j).toNat, j)]
    else mk (rampFrom v a 0 x j)

/-- The same from Q32.32 quantities: the path's length unit is 2^-32 m. -/
def haulRamp (v a : Int) (x j : Nat) : List Phase := haulPhases (v * 2 ^ 65) (a * 2 ^ 32) (x * 2 ^ 32) j

/-- The capacity of a roll (R241), in 2^-32 m/s^2. -/
def rollCap (s : State) (a : Nat) : Nat :=
  let r := s.roll a
  let c1 := s.surfA 32 a (s.axis a).amax
  let sc := match s.winderOf a with | some w => (s.winderAt 32 w).scale | none => 0x01000000
  let c := if r.cap = 0 then c1 else min c1 (rdiv (r.cap * 2 ^ 24 : Nat) sc)
  (rdiv (c * (2 ^ 30 - s.web.margin : Nat)) (2 ^ 30)).toNat

/-- The deceleration of a stop and the axis that sets it (R242). -/
def hdDecel (s : State) : Nat × Nat :=
  let rs := s.rolls.filter (fun a => s.rollClosed a && !s.excluded a)
  let m := rs.foldl (fun acc a => min acc (rollCap s a)) s.web.hdMax
  (m, (rs.find? (fun a => rollCap s a == m)).getD 0xFF)

/-- Duration in ns and distance in 2^-32 m of phases. -/
def phasesNs (ps : List Phase) : Nat := (qdiv (totalN ps * 1000000000 : Nat) (2 ^ 32)).toNat
def phasesLen (ps : List Phase) : Int := rdiv (endState ps).s (3 * 2 ^ 97 * 1953125)

/-- SE0's figures of a tick (R244, R247). -/
def figures (s : State) : State :=
  let (vL, aL) := s.line 32
  let w := s.web
  let (m, weak) := hdDecel s
  let any := s.rolls.any (fun a => s.rollClosed a)
  let old := w.fig
  let running := w.haul.isSome
  let (v, a, ps) := match w.haul with
    | some h => (h.speed, h.accel, haulRamp h.speed h.accel h.aHd w.hdJerk)
    | none => (vL, aL, haulRamp vL aL m w.hdJerk)
  let aHd := match w.haul with | some h => h.aHd | none => m
  let dist := phasesLen ps
  let st := if w.haul.isSome then (if v ≤ 0 then 2 else 1) else if !any ∨ s.engFaulted 32 then 3 else 0
  let isWeak := decide (aHd < w.hdMin)
  let need := (qdiv (phasesNs ps) 1000000).toNat + 20
  let f : Figures :=
    { tick := s.tickNo + 1, vL := v, aL := a, dist := dist
      cnt := if w.refAxis = 0xFF then 0 else s.countsA 32 w.refAxis dist
      time := phasesNs ps, aHd := aHd, weak := weak, state := st, hdWeak := isWeak, need := need }
  let s1 : State := { s with web := { w with fig := f } }
  let s2 := forEach s.rolls (fun r t => if running ∨ vL < w.zeroSpeed then t
    else t.updRoll r (fun y => { y with rho := satN 32 (rdiv (s.surfV 32 r (s.axis r).visVel * 2 ^ 30) vL).toNat })) s1
  whenB (isWeak && !old.hdWeak) (fun t => t.raise 0x0307 sevWarn 0x1000 linePlace [(16, 1, weak), (24, 8, aHd)]) s2

/-- HAULDOWN comes into force at this strobe: the ramp last published is taken (R245). -/
def haulBegin (s : State) : State :=
  let f := s.web.figVis
  let ps := haulRamp f.vL f.aL f.aHd s.web.hdJerk
  let h : Haul := { phases := ps, t0 := s.tickNo - 1, v0 := f.vL, aHd := f.aHd, speed := f.vL, accel := f.aL }
  { s with web := { s.web with haul := some h } }

/-- V, a (2^-32 m/s, m/s^2) and the distance of the profile at a number of ticks after its origin. -/
def haulAt (s : State) (h : Haul) (ticks : Nat) : Int × Int × Int :=
  match evalPhases h.phases (ticks * s.ftUnits) with
  | some p => (max 0 (rdiv p.v (2 ^ 65 * 15625)), rdiv p.a (2 ^ 32 * 125), rdiv p.s (3 * 2 ^ 97 * 1953125))
  | none => (0, 0, phasesLen h.phases)

/-- One tick of the ramp: every roll that is not excluded takes the profile as its setpoint (R167, R245). -/
def haulTick (s : State) : State :=
  match s.web.haul with
  | none => s
  | some h =>
    let el := s.tickNo - h.t0
    let (v, a, _) := haulAt s h el
    let slow := s.rolls.all (fun r => s.excluded r || decide ((s.surfV eVE r (s.axisL r).vAct).natAbs ≤ s.web.zeroSpeed))
    let still := if v ≤ 0 ∧ slow then h.still + 1 else 0
    let s1 : State := { s with web := { s.web with haul := some { h with speed := v, accel := a, still := still } } }
    forEach s.rolls (fun r t =>
      if !t.onRamp r then t
      else
        let (vr, ar, _) := haulAt t h (el + (t.axis r).lead)
        let rho := (t.roll r).rho
        let vc := t.countsV eVE r (rdiv (rho * vr) (2 ^ 30))
        let ac := t.countsA eVE r (rdiv (rho * ar) (2 ^ 30))
        t.updAxis r (fun x =>
          let p := satI 64 (x.visPos + rdiv (vc * t.ftNs) (256 * 1000000000))
          { x with pos := p, vel := vc, acc := ac, visPos := p, visVel := vc, visAcc := ac, target := p })) s1

/-- A lower A_HD during a haul-down starts a new profile from the present state (R247). -/
def haulRevise (s : State) : State :=
  match s.web.haul with
  | none => s
  | some h =>
    let (m, weak) := hdDecel s
    if h.aHd ≤ m ∨ h.speed ≤ 0 ∨ s.engFaulted 32 then s
    else
      let (_, _, d) := haulAt s h (s.tickNo - h.t0)
      let ps := haulRamp h.speed h.accel m s.web.hdJerk
      let h1 : Haul := { h with phases := ps, t0 := s.tickNo, before := h.before + d, aHd := m }
      let s1 : State := { s with web := { s.web with haul := some h1 } }
      s1.raise 0x0308 sevInfo 0x1000 linePlace [(16, 1, weak), (24, 8, m)]

/-- The distance a haul-down has covered in all, 2^-32 m. -/
def haulDist (h : Haul) : Int := h.before + phasesLen h.phases

/-! ## The Sheet engines' tick (R240) -/

/-- One tick of both Sheet engines; one that does not run computes nothing. -/
def webTick (runs : Nat → Bool) (s : State) : State :=
  let (vL, _) := s.line 32
  let s0 : State := { s with web := { s.web with sL := s.web.sL + rdiv (vL * s.ftNs) 1000000000 } }
  let ks := (s0.web.spans.filter (fun e => e.2.on)).map (·.1)
  let ws := (s0.web.winders.filter (fun e => e.2.on)).map (·.1)
  let s1 := forEach ws (fun w t => if runs (seOf (t.winder w).span) then winderTick w t else t) s0
  let s2 := forEach ks (fun k t => if runs (seOf k) then spanTick k t else t) s1
  let s3 := corrections s2
  let s4 := if runs 32 then figures (haulRevise s3) else s3
  forEach s4.rolls (fun a t => t.updRoll a (fun r => { r with lastPos := t.actual a })) s4

/-- The corrections of a faulted Sheet engine fall to zero and its spans are marked invalid (Table 1.8). -/
def webFaults (s : State) : State :=
  if !s.engFaulted 32 ∧ !s.engFaulted 33 then s
  else corrections (forEach ((s.web.spans.filter (fun e => e.2.on && s.engFaulted (seOf e.1))).map (·.1)) (fun k t =>
    t.updSpan k (fun x => { x with valid := false, corr := 0, running := false, integ := 0, ramp := 0 })) s)
/-- What a Sheet engine published becomes visible (R35), where `ok` says that it was done with the ended tick: SE0 the figures, and each
engine its spans and winders and the corrections of the rolls that its spans meet. A late engine's are held (R42). -/
def webSwap (ok : Nat → Bool) (s : State) : State :=
  let s0 := webFaults s
  let new (e : Nat) : Bool := ok e || s.engFaulted e
  let s1 : State := { s0 with web := { s0.web with
    figVis := if ok 32 then s0.web.fig else s0.web.figVis
    spansPub := (upto 24).foldl (fun t k => if new (seOf k) then Table.put {} k (s0.span k) t else t) s0.web.spansPub
    windersPub := (upto 8).foldl (fun t w => if new (seOf (s0.winder w).span) then Table.put {} w (s0.winder w) t else t) s0.web.windersPub } }
  let held (a : Nat) : Bool := s1.web.spans.any (fun e => e.2.on && (e.2.up == a || e.2.dn == a) && !new (seOf e.1))
  forEach s1.rolls (fun a t => if held a then t else t.updRoll a (fun r => { r with dvVis := r.dvNew, diVis := r.diNew })) s1

/-! ## Publication (Tables 6.9 and 6.11) -/

def lineFlags (s : State) : Nat :=
  let on := s.web.spansPub.filter (fun e => e.2.on)
  (if s.web.figVis.hdWeak then 1 else 0) + (if on.any (fun e => !e.2.valid) then 2 else 0) +
    (if on.any (fun e => e.2.bandOut) then 4 else 0) + (if s.web.refAxis = 0xFF then 8 else 0)
/-- The line status record, from what SE0 and SE1 published in the tick before (R35, R251). -/
def lineRecord (s : State) : List Byte :=
  let f := s.web.figVis
  rep [(8, f.tick), repI 8 f.vL, repI 8 f.aL, repI 8 f.dist, repI 8 f.cnt, (8, f.time), (8, f.aHd), (1, f.weak), (1, f.state),
    (1, lineFlags s), (1, 0), (4, f.need)]

def spanRecord (x : SpanSt) : List Byte :=
  let b (c : Bool) (n : Nat) : Nat := if c then 2 ^ n else 0
  if !x.on then rep [(32, 0)]
  else rep [repI 8 x.t, repI 8 x.meas, repI 8 x.tEff, repI 4 x.corr,
    (2, b x.valid 0 + b x.slack 1 + b x.limHit 2 + b x.bandOut 3 + b x.overMax 4 + b x.broke 5 + b (x.ramp != 0) 6), (1, x.source), (1, 0)]
def winderRecord (x : WinderSt) : List Byte :=
  if !x.on then rep [(32, 0)]
  else rep [(4, x.d / 2 ^ 40), (4, x.ratio), (8, x.j), (4, x.scale), (4, x.pred),
    (4, (if x.dev then 1 else 0) + (if x.atCore then 2 else 0) + (if x.atMax then 4 else 0)), (4, 0)]

def lineReport (s : State) : List Byte :=
  lineRecord s ++ (upto 24).flatMap (fun k => spanRecord (Table.look {} s.web.spansPub k)) ++
    (upto 8).flatMap (fun w => winderRecord (Table.look {} s.web.windersPub w))
def opLineReport (d : Desc) (s : State) : State × Reply := writeReport d (lineReport s) s

/-- VE writes the line status record (R251); a write error switches it off. -/
def linePublish (ok : Bool) (s : State) : State :=
  let n := s.web.pubDiv
  if n = 0 ∨ s.tickNo % n ≠ 0 then s
  else if ok then s.hostWrite s.web.pubAddr (lineRecord s)
  else
    let s1 : State := { s with web := { s.web with pubDiv := 0 } }
    s1.raise 0x0309 sevFault 0x1000 linePlace [(24, 8, s.web.pubAddr)]

end Sys2Proof.Machine
end

