-- ==== Sys2Proof/Machine/Modes.lean ====
section
/-!
DEFINITION. Device modes, engine faults and their recovery, resets, start-up and the life cycle (spec/03_modes_and_startup.md,
R44, R45).
-/
namespace Sys2Proof.Machine

def State.updMd (s : State) (f : ModeSt → ModeSt) : State := { s with md := f s.md }

/-! ## Engines and the groups they carry (R44, R45) -/

/-- The groups that an AE or PE engine carries, empty ones among them; SE0 and SE1 carry none (R44). -/
def State.carried (s : State) (e : Nat) : List Nat := if 32 ≤ e then [] else s.served e
/-- The AE and PE engines that carry a group. -/
def State.carriers (s : State) (g : Nat) : List Nat := (upto 32).filter (fun e => (s.carried e).contains g)
/-- Whether a fault of an engine takes web axes out of control (R45). -/
def State.carriesWeb (s : State) (e : Nat) : Bool :=
  if e < 24 then s.isWeb e
  else if e < 32 then s.rolls.any (fun a => (s.axis a).pe == some e || (match s.groupOf a with | some g => peOf g == e | none => false))
  else if e < 34 then !s.rolls.isEmpty
  else e == eNE && s.rolls.any (fun a => decide (24 ≤ a))

/-- An engine is faulted, with the consequences of Table 1.8; HAULDOWN comes into force at this strobe where web axes are out of
control (R45). -/
def engineFault (e : Nat) (s : State) : State :=
  if s.engFaulted e then s
  else
    let s1 := (s.set (F.clkEngStat_FAULT e) 1).updEng e (fun x => { x with run := false, starts := false, stepOne := false })
    let s2 := whenB (s.carriesWeb e) (haulNow 5) s1
    if e < 24 then axisFault e s2
    else if e < 32 then
      let s3 := forEach ((upto 4).map (fun j => 4 * (e - 24) + j)) (fun g t => if (t.members g).isEmpty then t else groupFault g true t) s2
      forEach ((s3.plan.axes.filter (fun x => x.2.pe == some e)).map (·.1)) axisFault s3
    else if e = eNE then portLeave 1 4 (portLeave 0 4 s2)
    else if e = eCE then capFault s2
    else s2
/-- NE restarts: what it kept of PTP is lost, and the clock state is HOLDOVER, or FREE before the first step (R431). -/
def neRestart (s : State) : State :=
  setClock (if s.getB F.ptpStatus_STEPPED then 3 else 0) { s with net := { s.net with ptp := { rate := s.net.ptp.rate, integ := s.net.ptp.integ } } }
/-- The restart of NE, CE, VE or HE from its image (Table 1.8): it starts at the next strobe. The event that follows a restart of VE has
no code in the manual. -/
def engineRestart (e : Nat) (s : State) : State :=
  if e < 34 ∨ 38 ≤ e ∨ !s.engFaulted e then s
  else
    let s1 := loadEngine e (s.imgSlot (s.get (F.imgEng_ACTIVE_SLOT e))) s
    let s2 := (s1.set (F.clkEngStat_FAULT e) 0).set (F.clkEngStat_OVR_RUN e) 0
    if e = eVE then
      let (v, t) := (s2.updMd (fun m => { m with veWatch := some 0 })).draw
      t.raise (v.toNat % 65536) sevFault 0 0x907F [(16, 1, e)]
    else if e = eNE then neRestart s2
    else s2

/-! ## A mode comes into force (R90, R96, R97) -/

/-- The sub-tick divider that CLK.SUB_SEL selects for a slot, as log2 n (Table 1.16). -/
def State.subSel (s : State) (n : Nat) : Nat := bits (s.reg (if n < 16 then A.clkSubSel0 else A.clkSubSel1)) (2 * (n % 16) + 1) (2 * (n % 16))
/-- A request for a new FT or divider is pending (R29, R32). -/
def State.ftPending (s : State) : Bool :=
  s.get F.clkFtCtrl_FT_SEL != s.ftSel || (upto s.slots).any (fun n => s.subSel n != Table.look 0 s.clk.subAct n)

/-- The path of a group that stops in a haul-down with V_L0 below ZERO_SPEED (R246). -/
def stopOthers (g : Nat) (s : State) : State := planNext g .stop s
/-- The haul-down begins: groups without web axes stop (R143), web groups keep to the ramp (R245, R246). -/
def enterHauldown (s : State) : State :=
  let s1 := haulBegin s
  let slow := match s1.web.haul with | some h => decide (h.v0 < s1.web.zeroSpeed) | none => false
  forEach (upto 32) (fun g t =>
    if t.gst g ≠ gMoving then t
    else if (t.members g).any (fun e => t.isWeb e.2) then (if slow then stopOthers g t else t)
    else stopGroup g t) s1
/-- A web group's plan at the end of a haul-down: what is left of it is kept, to be formed afresh from rest (R143). -/
def keepPath (g : Nat) (s : State) : State :=
  s.updGrp g (fun p =>
    let left (e : Option Exec) : List Entry := match e with
      | some x => if x.seg.noSlot then [] else [.move { x.seg with reform := true }]
      | none => []
    { p with
      cur := none, nxt := none, todo := [], queue := left p.cur ++ left p.nxt ++ p.queue
      stops := p.rels.filterMap (fun r => (s.memberAxis g r.c.member).map (fun a => ownStop s g r.c.member a)) })
/-- The haul-down ends (R249): web groups are HOLDING, HAULDOWN_DONE tells the distance run. -/
def endHauldown (s : State) : State :=
  let dist := match s.web.haul with
    | some h => if s.web.refAxis = 0xFF then 0 else s.countsA eVE s.web.refAxis (haulDist h)
    | none => 0
  let s1 := forEach (upto 32) (fun g t =>
    if !(t.members g).any (fun e => t.isWeb e.2) then t
    else if t.gst g = gMoving then (keepPath g t).setGst g gHolding
    else if t.gst g = gFaulted then discardPlan g t
    else t) s
  { s1 with web := { s1.web with haul := none } }.raise 0x0024 sevInfo 0x1000 0x907F [(16, 8, wrapN 64 dist)]
/-- A haul-down that STO or THERMAL_HOLD cuts short: the plans that ran on to its standstill end (R97, R150). -/
def dropHauldown (s : State) : State :=
  let s1 := forEach (upto 32) (fun g t => if t.gst g = gFaulted ∧ (t.members g).any (fun e => t.isWeb e.2) then discardPlan g t else t) s
  { s1 with web := { s1.web with haul := none } }
/-- An engine still halted by the debugger is restarted from its image (Table 3.4). -/
def restartHalted (e : Nat) (s : State) : State :=
  if !s.getB (F.clkEngStat_HALT e) then s
  else
    let slot := s.get (F.imgEng_ACTIVE_SLOT e)
    if e < 34 ∧ (s.eimg e).act.isSome then beginReload slot false e s
    else resumeEngine e (loadEngine e (if e < 34 then none else s.imgSlot slot) s)

/-- A mode comes into force at a strobe, with the action of Tables 3.1 and 3.4. -/
def enterMode (target cause : Nat) (s : State) : State :=
  let old := s.mode
  let s1 := (((imgEnter target s).set F.glbMode_MODE_ACT target).set F.glbMode_MODE_PREV old).set F.glbMode_CAUSE cause
  let s1 : State := { s1 with clk := { s1.clk with ftDue := target == mStandby && s.ftPending } }
  let s2 := s1.set64 A.glbModeTickLo s1.tickNo
  let s3 := s2.raise 0x0020 (if target = mSto ∨ target = mThermal then sevFault else sevInfo) 0 0x907F
    [(16, 1, target), (17, 1, old), (18, 1, cause)]
  let s4 := forEach (upto s.slots) dropResidues s3
  let s5 := whenB s4.safeForced (forEach (upto s.slots) slotSafe) s4
  let s6 := s5.updMd (fun m => { m with
    backFrom := if target = mBackstay then old else m.backFrom
    windowDue := if target = mBackstay then m.windowDue else none })
  let s7 := if old = mHauldown then (if target = mStandby then endHauldown s6 else dropHauldown s6) else s6
  let s8 := if old = mThermal then s7.set F.glbStatus_THERM_LATCH 0 else s7
  let s9 := if old = mService then forEach (upto 38) restartHalted s8 else s8
  let s10 :=
    if target = mSto ∨ target = mThermal ∨ target = mCalibrate then
      forEach (upto 32) (fun g t => if t.gst g = gEnabled ∨ t.gst g = gMoving ∨ t.gst g = gHolding then groupToIdle g t else t) s9
    else if target = mStandby then
      let t := forEach (s9.loop.axes.map (·.1)) (fun a t => abortIdent a 1 t) s9
      forEach (upto 32) (fun g t => stopGroup g t) t
    else if target = mHauldown then enterHauldown s9
    else s9
  dbgRefresh (forEach (upto (s10.get F.adcInfo_PAIRS)) convRefresh s10)

/-! ## VE decides (R96 to R100) -/

/-- What the losses and returns of VMAIN of a step, in their order, ask for (R98): a loss starts the window, a return that is in time
ends it. -/
def supplyStep (m : Nat) (arr : List Bool) (backFrom : Nat) (t : State) : State :=
  let window := t.msTicks 20
  let due (d : Option Nat) (u : State) : State := u.updMd (fun x => { x with windowDue := d })
  if (m = mCommission ∨ m = mRun ∨ m = mReef) ∧ arr.getLast? = some true then
    let u := t.decideMode mBackstay 3 5
    if u.md.decided = some { target := mBackstay, cause := 3, rank := 5 } then due (some (u.clk.ticks + window)) u
    else u.updPwr (fun x => { x with lossPend := true })
  else if m = mBackstay then
    match arr.getLast? with
    | some false => due none (t.decideMode backFrom 3 5)
    | some true => if arr.contains false then due (some (t.clk.ticks + window)) t else t
    | none => t
  else t
/-- VE's decision of a step: the triggers that have come, and the conditions of Table 3.4, by the ranks of Table 3.5. The triggers that
Table 3.5 does not name (standstill, a release of STO or of THERMAL_HOLD, the end of a recalibration) stand at rank 6: the model's choice
(notes/assumptions/105.md). -/
def decideStep (s : State) : State :=
  let m := s.mode
  let s0 := s.updMd (fun x => { x with reqs := [] })
  let trip := s.getB F.pwtThermStatus_TRIP
  let thermal := s.getB F.glbStatus_THERM_LATCH && m != mReset
  let sto := s.stoDemand && m != mReset && m != mCalibrate && s.lcPermits mSto
  let arr := (if s.pwr.lossPend then [true] else []) ++ s.pwr.arr
  let s1 := s0.updPwr (fun x => { x with arr := [], lossPend := false })
  let ask (c : Bool) (target cause rank : Nat) (t : State) : State := if c then t.decideMode target cause rank else t
  let s2 := ask (thermal && m != mThermal) mThermal 2 2 s1
  let held := (m == mThermal && trip) || (m == mSto && sto)
  let s3 := ask (sto && m != mSto && !(m == mThermal && trip)) mSto 1 3 s2
  let s4 := s.md.reqs.foldl (fun t r =>
    if held ∨ r.target = m then t
    else if r.target = mHauldown ∧ !haulFrom m then t
    else t.decideMode r.target r.cause r.rank) s3
  let s5 := if held then s4 else supplyStep m arr s.md.backFrom s4
  let s6 := ask (s.slsDemand && m == mRun) mReef 1 6 s5
  let s7 := ask (m == mThermal && !trip) mStandby 2 6 s6
  decided (ask (m == mSto && !sto) mStandby 1 6 s7)

/-- BACKSTAY_WINDOW_EXPIRY: the window has run out and VMAIN has not come back (R98). -/
def windowExpiry (s : State) : State :=
  match s.md.windowDue with
  | some t => if s.mode = mBackstay ∧ s.veWorks ∧ t ≤ s.clk.ticks then decideNow mHauldown 9 4 s else s
  | none => s

/-! ## The MODE descriptor (R101, R102) -/

/-- Where a mode leads at a host request: the mode is reachable by Table 3.4. -/
def hostReach (m target : Nat) : Bool :=
  if m = mStandby then [mCalibrate, mCommission, mRun, mReef, mService].contains target
  else if m = mService ∨ m = mCommission then target == mStandby || (m == mCommission && target == mHauldown)
  else if m = mRun then [mStandby, mReef, mHauldown].contains target
  else if m = mReef then [mStandby, mRun, mHauldown].contains target
  else m == mBackstay && target == mHauldown
/-- Whether a web axis moves: its planned velocity is not 0. -/
def State.webMoves (s : State) : Bool := s.rolls.any (fun a => (s.axis a).vel != 0)
/-- The condition that Table 3.4 puts on a host request; in RETURN only STANDBY, SERVICE and QUARANTINE are permitted (R114). -/
def State.hostCondition (s : State) (target : Nat) : Bool :=
  let m := s.mode
  let every (p : Nat → Bool) : Bool := (upto 32).all (fun g => p (s.gst g))
  (if m = mStandby ∧ target = mCalibrate then every (fun x => x == gIdle)
   else if m = mStandby ∧ target = mService then every (fun x => x == gIdle || x == gFaulted)
   else if (m = mRun ∨ m = mReef) ∧ target = mStandby then !s.webMoves
   else true) && (s.lc != 4 || target == mStandby || target == mService)
/-- The REASON of a host request for a target, before ranks are weighed. -/
def hostReason (s : State) (target : Nat) : Nat :=
  let m := s.mode
  if [mReset, mSto, mBackstay, mThermal, mQuarantine].contains target then 5
  else if target = m then 1
  else if (m = mSto ∧ s.stoDemand) ∨ (m = mReef ∧ target = mRun ∧ s.slsDemand) then 6
  else if !hostReach m target then 2
  else if !s.hostCondition target then 3
  else
    let rank := if target = mHauldown then 4 else 7
    match s.md.decided with
    | some d => if d.rank < rank ∨ (d.rank = rank ∧ rank = 4 ∧ d.target ≠ target) then 4 else 0
    | none => 0
/-! ## Fault clear (R103, R104) -/

/-- The engines that must recover for a group: those that carry it and, where it is served by a faulted Sheet engine, that one. -/
def State.blockers (s : State) (g : Nat) : List Nat :=
  (s.carriers g ++ [32, 33].filter (fun e => (s.served e).contains g)).filter s.engFaulted
/-- What a faulted engine's recovery asks for: every group that it carries or serves. -/
def State.clearsWith (s : State) (e : Nat) : List Nat := if e < 32 then s.carried e else s.served e
/-- Whether the fault cause of an axis is still present: its slot's latch, a faulted channel or input that it reads, a node that has
left (R104, R196, R347). -/
def State.causePresent (s : State) (a : Nat) : Bool :=
  let c := (s.axisL a).cfg
  let vel := if c.velFb = 0xFF then c.fbCh else c.velFb
  let pos := if c.posFb = 0xFF then vel else c.posFb
  let bad (f : Nat) : Bool := decide (f < 32) && s.getB (F.fbkFbStatus_FAULT f)
  let badIn (sdi : Bool) (k : Nat) : Bool := decide (k < if sdi then 48 else 96) && s.getB (inFault sdi k)
  let bad (f : Nat) : Bool := bad f || (decide (f < 32) && decide (5 ≤ s.get (F.fbkFbCfg_MODE f)) && s.getB (F.fbkFbCtrl_EN f) &&
    (badIn false (s.get (F.fbkFbAna_SIN_IN f)) || badIn false (s.get (F.fbkFbAna_COS_IN f))))
  (decide (a < 24) && (s.getB (F.pwmSlotStatus_FLT_LATCH a) || bad c.fbCh || bad vel || bad pos || badIn false c.vbusIn ||
    c.curInputs.any (badIn c.sdi))) || (s.axis a).left
/-- Whether no fault cause is still present on an axis of a group: a cause of its own, or an STO of its zone on a faulted axis. -/
def State.mayClear (s : State) (g : Nat) : Bool :=
  (s.members g).all (fun m => !s.causePresent m.2 &&
    !((s.axis m.2).faulted && s.scfg.zones.any (fun z => (s.zone z.1).sto && (s.zoneAxes z.1).contains m.2)))
/-- The cases of R104 in which VE ignores GROUP_CLR, beside the mode: a fault cause still present, a group carried by an engine that is
not named in full, a faulted engine that carries a group not named, a faulted Sheet engine that serves one or serves a named group that is
neither IDLE nor FAULTED (notes/assumptions/27.md). -/
def State.clearIgnored (s : State) (named : List Nat) : Bool :=
  let full (e : Nat) : Bool := (s.clearsWith e).all named.contains
  !named.all s.mayClear || !named.all (fun g => (s.carriers g).all full) ||
    (upto 34).any (fun e => s.engFaulted e && !full e) ||
    [32, 33].any (fun e => s.engFaulted e && (s.served e).any (fun g => named.contains g && s.gst g != gIdle && s.gst g != gFaulted))
/-- The inputs that an axis reads open their recovery windows (R339). -/
def openInputs (a : Nat) (s : State) : State :=
  if 24 ≤ a then s
  else
    let c := (s.axisL a).cfg
    let fbIn := ([c.fbCh, c.velFb, c.posFb].filter (fun n => decide (n < 32) && decide (5 ≤ s.get (F.fbkFbCfg_MODE n)))).eraseDups.flatMap
      (fun n => [s.get (F.fbkFbAna_SIN_IN n), s.get (F.fbkFbAna_COS_IN n)])
    let s1 := forEach ((c.vbusIn :: fbIn).filter (fun k => decide (k < 96))) (openRecovery false) s
    forEach (c.curInputs.filter (fun k => decide (k < if c.sdi then 48 else 96))) (openRecovery c.sdi) s1
/-- A group goes from FAULTED to IDLE: its axes are clear of their faults, its loops open (R150, R168). -/
def groupClear (g : Nat) (s : State) : State :=
  let s1 := forEach (s.members g) (fun m t =>
    let u := t.updAxis m.2 (fun x => { x with faulted := false })
    if (s.axis m.2).faulted then openInputs m.2 u else u) s
  groupToIdle g s1
/-- GROUP_CLR of a MODE descriptor: the state, and how many groups it clears or begins to clear. -/
def clearGroups (mask : Nat) (s : State) : State × Nat :=
  let named := (upto 32).filter (fun g => mask.testBit g)
  if mask = 0 ∨ !([mStandby, mCommission, mRun, mReef, mService].contains s.mode) ∨ s.clearIgnored named then (s, 0)
  else
    let engs := (upto 34).filter (fun e => s.engFaulted e && (s.eimg e).recover.isNone)
    let s1 := forEach engs (fun e t =>
      let u := if (t.eimg e).act.isSome then beginReload (t.get (F.imgEng_ACTIVE_SLOT e)) false e t else loadEngine e none t
      u.updEimg e (fun x => { x with recover := some (maskNat (t.clearsWith e)) })) s
    let hit := named.filter (fun g => s.gst g == gFaulted)
    (forEach (hit.filter (fun g => (s.blockers g).isEmpty)) groupClear s1, hit.length)
/-- ENGINE_RECOVERED: a reloaded engine signals its first done (R103). The groups that it was to clear go to IDLE with the last of their
engines. -/
def engineRecovered (e : Nat) (s : State) : State :=
  match (s.eimg e).recover with
  | none => s
  | some gs =>
    let x := s.eng e
    if !x.run ∨ (!s.ephagon e ∧ (s.eimg e).act.isSome ∧ !x.xDone) then s
    else
      let s1 := ((s.set (F.clkEngStat_FAULT e) 0).set (F.clkEngStat_OVR_RUN e) 0).updEimg e (fun y => { y with recover := none })
      let s2 := forEach ((upto 32).filter (fun g => gs.testBit g)) (fun g t =>
        if t.gst g = gFaulted ∧ (t.blockers g).isEmpty ∧ t.mayClear g then groupClear g t else t) s1
      s2.raise 0x0022 sevInfo 0 0x907F [(16, 1, e)]

/-- GROUP_CLR before TARGET; `target` none asks for no change of mode. -/
def modeWith (target : Option Nat) (clamped : Bool) (d : Desc) (s : State) : State × Reply :=
  let (s1, n) := clearGroups (d.f 2 31 0) s
  let reason := match target with | some t => hostReason s1 t | none => 0
  let s3 := match target with
    | some t => if reason = 0 then decideNow t 0 (if t = mHauldown then 4 else 7) s1 else s1
    | none => s1
  let s4 := s3.updMd (fun m => { m with host := m.host ++
    [{ record := s.recordAt d.ring.val, target := target.getD 0, stands := target.isSome && reason == 0, cleared := n != 0 }] })
  (s4, { clamps := clampMask [(1, clamped)], noEffect := reason != 0 && n == 0, result := reason * 256 + s4.modeAfter })
/-- MODE (Table 3.6). -/
def opMode (d : Desc) (s : State) : State × Reply :=
  let t := d.f 1 3 0
  modeWith (if 0xC ≤ t then none else some t) (decide (0xC ≤ t ∧ t ≠ 0xF)) d s

/-! ## Resets (R105 to R107) -/

/-- The registers that a reset keeps: identity with the variant's counts of units, the slots of the image store, and what the field side
holds; the Shroud's own where it keeps running. -/
def keptReg (shrReset : Bool) (a : Nat) : Bool :=
  decide (a < 0x10) || a == A.adcInfo || a == A.pwmInfo || decide (0x4400 ≤ a ∧ a < 0x4800) || a == A.dioOutCmd || (decide (0x18000 ≤ a ∧ a < 0x1C000) && !shrReset)
/-- The fields that a reset keeps beside them: address and mask. -/
def keptBits (s : State) : List (Nat × W32) :=
  [(A.glbLc, 0xF), (A.glbStatus, 0x10), (A.pwtSupStatus, 0x6E), (A.imgStatus, 0x18), (A.dioFldStatus, 0x4)] ++
    (if s.getB F.pwtThermStatus_TRIP then [(A.glbStatus, 0x30), (A.pwtThermStatus, 0x3F01)] else []) ++
    (upto 38).map (fun e => (A.imgEng e, 0x3F00))
/-- Every reset: what is kept, the causes, and the rest as State.reset has it. A reset that spares the Shroud makes it hold STO until a reset
edge. An accepted life-cycle change that a reset interrupts is completed by the next start-up (R116). -/
def resetModule (causes : Nat) (shrReset : Bool) (s : State) : State :=
  let s0 := sessionEnd 2 s
  let kept := s0.regs.filter (fun e => keptReg shrReset e.1)
  let r : State := {
    regs := kept
    fld := s0.fld
    img := { slots := s0.img.slots, key := s0.img.key, overrides := s0.img.overrides }
    shr := if shrReset then { store := s0.shr.store, password := s0.shr.password, log := s0.shr.log } else s0.shr
    md := { wipeMark := s0.md.wipeMark || s0.md.lcTarget.isSome }
    dbg := { s0.dbg with xfer := none }, hostMem := s0.hostMem, free := s0.free, pending := s0.pending }
  let s1 := (keptBits s0).foldl (fun t e => t.setReg e.1 ((t.reg e.1 &&& ~~~e.2) ||| (s0.reg e.1 &&& e.2))) r
  let s2 := match s0.md.lcTarget with | some t => s1.set F.glbLc_LC_STATE t | none => s1
  let s3 := s2.set F.glbResetCause_CAUSE causes
  let s4 := if shrReset then
      (s3.set F.shrLogCount_ENTRY (s0.get F.shrLogCount_ENTRY)).set F.shrStatus_PW_EMPTY (if s0.shr.password.isNone then 1 else 0)
    else shrApply (s3.updShr (fun x => { x with zones := Table.mapVals {} (fun z => { z with acked := false }) x.zones }))
  dbgRefresh s4
/-- A power-on reset resets the JTAG port too. -/
def powerOnReset (also : Nat) (s : State) : State :=
  resetModule (1 ||| also) true { s with dbg := {} }
def padReset (also : Nat) (s : State) : State := resetModule (2 ||| also) true s
/-- PERST_n: a reset where PERST_ACT is 1, else the loss of the host (R55). -/
def perstReset (also : Nat) (s : State) : State :=
  if s.getB F.glbResetCfg_PERST_ACT then resetModule (4 ||| also) (also % 4 != 0) s else hostLoss 1 s
/-- A write of GLB.RESET_CTRL (R106). -/
def resetCtrlWrite (v : W32) (s : State) : State :=
  let s1 := if v.getLsbD 2 then s.set F.glbResetCtrl_REFUSED 0 else s
  if bits v 31 16 ≠ 0xA5C3 then s1
  else
    let s2 := s1.set F.glbResetCtrl_FORCE (bits v 1 1)
    if !v.getLsbD 0 then s2
    else if s2.mode = mHauldown ∨ s2.mode = mBackstay ∨ ((upto 32).any (fun g => s2.gst g == gMoving) ∧ !v.getLsbD 1) then
      s2.flag F.glbResetCtrl_REFUSED
    else resetModule 8 false s2
/-- The PLL loses lock or its reference (R51, Table 3.7): CCLK stops, and every slot freezes (R317; notes/assumptions/120.md). -/
def pllLoss (refLoss : Bool) (s : State) : State :=
  let s1 := s.set F.clkPllStatus_LOCK 0
  let s2 := if s.getB F.clkPllStatus_LOCK then
      forEach (upto s.slots) (fun n t => t.set (F.pwmSlotStatus_HALTED n) 1)
        ((s1.flag F.clkPllStatus_LOCK_LOSS).updMd (fun m => { m with pllLost := true }))
    else s1
  if refLoss then s2.flag F.clkPllStatus_REF_LOSS else s2
/-- The PLL regains lock: the slots whose engine is not halted run on. -/
def pllRegained (s : State) : State :=
  if s.md.pllLost then
    forEach (upto s.slots) (fun n t => t.set (F.pwmSlotStatus_HALTED n) (t.get (F.clkEngStat_HALT n)))
      ((s.set F.clkPllStatus_LOCK 1).updMd (fun m => { m with pllLost := false }))
  else s
def pllReset (also : Nat) (s : State) : State :=
  if s.md.pllLost then resetModule (16 ||| also) (also % 4 != 0) s else s
/-- VE has signalled no done in the 100 ticks after a restart. -/
def supervisorReset (also : Nat) (s : State) : State :=
  match s.md.veWatch with
  | some n => if 100 ≤ n then resetModule (32 ||| also) (also % 4 != 0) s else s
  | none => s

/-! ## Start-up (R108 to R113, R116) -/

def bootStop (err : Nat) (s : State) : State := (s.set F.glbStatus_BOOT_ERR err).updMd (fun m => { m with bootStop := true })
def State.bootAt (s : State) (n : Nat) : Bool := s.md.bootStep == n && !s.md.bootStop
def bootTo (n : Nat) (s : State) : State := s.updMd (fun m => { m with bootStep := n })
/-- What a life-cycle change wipes: the configuration store with the safety configuration, the boot and override choices, the integrator's key,
password and images (Table 3.9). -/
def lcWipe (s : State) : State :=
  let old := match s.shr.store with | some (_, crc) => crc | none => 0
  let s1 := logAdd 9 0xFF old 0 0 s
  let s2 := forEach ((upto 48).map (· + 16)) (fun k t => putSlot k none t) s1
  let s3 := (s2.updImg (fun x => { x with
    key := none, overrides := [], bootPend := [], write := match x.write with | some (k, i) => if k < 16 then some (k, i) else none | none => none }))
  let s3 := (((s3.set F.imgStatus_KEY_SET 0).set F.imgStatus_OVERRIDE 0).set F.imgStatus_BOOT_PENDING 0).setB F.imgStatus_STORE_BUSY s3.img.write.isSome
  let s4 := forEach (upto 38) (fun e t => t.set (F.imgEng_BOOT_SLOT e) 0x3F) s3
  let s5 := ((cfgClear s4).updShr (fun x => { x with store := none, cfg := none, fns := [], axes := [], conns := [], password := none, apply := none })).set F.shrStatus_PW_EMPTY 1
  let s6 := ((if s.shr.started ∧ s.shrState ≠ 3 then s5.set F.shrStatus_STATE 1 else s5).set F.shrStatus_CFG_VALID 0).set F.shrCfgCrc_CFG_CRC 0
  s6.updMd (fun m => { m with wipeMark := false, lcTarget := none })
/-- Step 0 of a start-up that finds the pending-wipe mark: the wipe is completed. -/
def pendingWipe (s : State) : State := if s.md.wipeMark ∧ s.bootAt 0 then lcWipe s else s
def pendingWipeTimeout (s : State) : State := if s.md.wipeMark ∧ s.bootAt 0 then bootStop 2 s else s
/-- Step 1: the local clock and the tick count start at 0; without lock in 10 ms the step repeats. -/
def pllLock (ok : Bool) (s : State) : State :=
  if s.md.wipeMark ∨ !s.bootAt 0 ∨ !ok then s
  else bootTo 1 ((s.set F.clkPllStatus_LOCK 1).set64 A.clkTickLo 0)
/-- Step 2. -/
def wipeComplete (ok : Bool) (ms : Nat) (s : State) : State :=
  if !s.bootAt 1 then s
  else if !ok then bootStop 1 s
  else bootTo 2 ((((s.set F.glbBootTime_WIPE_MS ms).set F.glbMode_MODE_ACT mCalibrate).set F.glbMode_MODE_PREV mReset).set64 A.glbModeTickLo s.tickNo)

/-- What self-calibration leaves (R111, R318, R348, R349, R388). -/
def calibrate (c : CalResult) (s : State) : State :=
  let s1 := forEach (upto s.slots) (fun n t => t.setB (F.pwmSlotStatus_CAL_FAULT n) (c.pwm.getLsbD n)) s
  let s2 := forEach (upto (s.get F.adcInfo_PAIRS)) (fun j t =>
    convRefresh j (whenB (c.adc.getLsbD j) (fun u => convHalt (2 * j) (convHalt (2 * j + 1) u)) (((t.setB (F.adcPairStatus_CAL_FAULT j) (c.adc.getLsbD j)).setReg (A.adcPairCal0 j) (c.cal0.getD j 0)).setReg
      (A.adcPairCal1 j) (c.cal1.getD j 0)))) s1
  let s3 := forEach ((upto 48).filter (fun i => s.inPresent true i)) (fun i t =>
    let u := (t.setB (F.adcSdiStatus_CAL_FAULT i) (c.sdi.getLsbD i && !c.sdiIdle.getLsbD i)).setB (F.adcSdiStatus_IDLE i) (c.sdiIdle.getLsbD i)
    if c.sdiIdle.getLsbD i then u else u.set (F.adcSdiCfg_DELAY i) (c.delay.getD i 4).toNat) s2
  let s4 := forEach (upto 16) (fun i t => t.setB (F.latLatStatus_CAL_FAULT i) (c.tdc.getLsbD i)) s3
  let mark (sdi : Bool) (k : Nat) (t : State) : State :=
    let u := chanRefresh sdi k t
    if u.getB (inFault sdi k) ∧ !t.getB (inFault sdi k) then
      u.raise 0x0603 sevFault (inData sdi k) (u.inPlace sdi k) [(16, 1, 1), (17, 1, if sdi then 0xFF else k / 6 * 2)]
    else u
  let s5 := forEach ((upto 96).filter (fun k => s.inPresent false k)) (mark false) s4
  let s6 := forEach ((upto 48).filter (fun i => s.inPresent true i)) (mark true) s5
  let any (n : Nat) (f : Nat → Bool) : Bool := (upto n).any f
  let s7 := ((((s6.setB F.glbCalStatus_ADC (any 16 (fun j => s6.getB (F.adcPairStatus_CAL_FAULT j)))).setB F.glbCalStatus_TDC (c.tdc != 0)).setB
    F.glbCalStatus_PWM (any s.slots (fun n => s6.getB (F.pwmSlotStatus_CAL_FAULT n)))).setB
    F.glbCalStatus_SDI (any 48 (fun i => s6.getB (F.adcSdiStatus_CAL_FAULT i))))
  s7.setB F.glbStatus_CAL_FAIL (bits (s7.reg A.glbCalStatus) 3 0 != 0)
/-- CALIBRATION_DONE: step 3 of start-up, or the end of a recalibration that began in STANDBY. -/
def calibrationDone (c : CalResult) (s : State) : State :=
  if s.mode ≠ mCalibrate then s
  else if s.bootAt 2 then bootTo 3 (calibrate c s)
  else if s.ready then (calibrate c s).request mStandby 0 6
  else s
/-- START_UP goes before the events that self-calibration has raised: it is the first of the buffer (R113). -/
def raiseFirst (code sev ctrl : Nat) (p : List (Nat × Nat × Nat)) (s : State) : State :=
  let t : State := { s with host := { s.host with evBuf := [] } }
  let u := t.raise code sev 0 ctrl p
  { u with host := { u.host with evBuf := u.host.evBuf ++ s.host.evBuf } }
/-- START_UP: steps 4 and 5. READY sets and the mode that Table 3.4 gives comes into force. -/
def startUp (pairs : List (Nat × Nat × BitVec 256)) (readyMs : Nat) (s : State) : State :=
  if !s.bootAt 3 then s
  else
    let s1 := raiseFirst 0x0023 (if s.getB F.glbStatus_CAL_FAIL then sevWarn else sevInfo) 0x907F
      [(16, 2, readyMs), (18, 1, bits (s.reg A.glbCalStatus) 7 0), (19, 1, s.get F.glbResetCause_CAUSE)] (s.set F.glbBootTime_READY_MS readyMs)
    let (s2, quar) := bootImages pairs (bootTo 4 s1)
    let s3 := fldStartUp s2
    let s4 := if s.getB F.glbStatus_THERM_LATCH ∧ s.lcPermits mThermal then enterMode mThermal 2 s3
      else if quar then enterMode mQuarantine 7 s3 else enterMode mStandby 6 s3
    dbgRefresh (s4.set F.glbStatus_READY 1)

/-! ## Life cycle (R114 to R116) -/

/-- The permitted steps: one forward, and RETURN to PROVISIONED with the signed authorisation in slot 15. -/
def State.lcStep (s : State) (target : Nat) : Bool :=
  (target == s.lc + 1 && decide (target ≤ 4)) ||
  (s.lc == 4 && target == 2 && (match s.imgSlot 15 with | some i => i.h.kind == 0xB | none => false))
/-- LC_CHANGE_REQUEST: a write of GLB.LC_CTRL in a safety session stores its fields, and with CONFIRM requests a change (R115). A request
while an accepted change is under way has no effect: the model's choice (notes/assumptions/106.md). -/
def lcRequest (v : W32) (s : State) : State :=
  let s0 := s.setReg A.glbLcCtrl (v &&& 0xFFFF000F)
  let target := bits v 3 0
  if s.shr.session.isNone then s
  else if bits v 31 16 ≠ 0x4C43 ∨ s.md.lcTarget.isSome then s0
  else
    let reason := if !s.lcStep target then 1
      else if s.mode ≠ mStandby ∧ s.mode ≠ mService then 2
      else if (upto 32).any (fun g => s.gst g != gIdle) then 3
      else if !s.flashOk then 4 else 0
    let s1 := s0.set F.glbLc_REASON reason
    if reason = 0 then s1.updMd (fun m => { m with lcTarget := some target }) else s1.flag F.glbLc_REFUSED
/-- LC_CHANGE_COMPLETE: state and mark written, the wipe done, the mark cleared; the module resets with cause LC. -/
def lcComplete (s : State) : State :=
  match s.md.lcTarget with
  | none => s
  | some t =>
    let ring := match s.shr.session with | some (r, _) => r | none => 0xFF
    let s1 := logAdd 8 ring 0 0 (s.lc * 256 + t) s
    let s2 := lcWipe (sessionEnd 4 (s1.set F.glbLc_LC_STATE t))
    resetModule 64 false s2

end Sys2Proof.Machine
end

