-- ==== Sys2Proof/Machine/Regs.lean ====
section
/-!
DEFINITION. A register write by the host or over JTAG: each block's own rules over the access types (R8 to R10, R51, R54, R106, R394, R418,
R458, R459, R496, R513, R533, R557, R580).
-/
namespace Sys2Proof.Machine

/-! ## Writes that take effect at the next tick (R458, R459, R533) -/

/-- The W1C bits act at once, the rest of the word waits for the next tick. -/
def delayWrite (a : Nat) (v : W32) (s : State) : State :=
  match regGroup? a with
  | none => s
  | some g =>
    let s1 := s.setReg a (s.reg a &&& ~~~(v &&& BitVec.ofNat 32 g.w1c))
    if g.rw = 0 then s1 else { s1 with clk := { s1.clk with tickWrites := s1.clk.tickWrites ++ [(a, v)] } }

/-- A signed 4-bit field held within bounds. -/
def normLog (lo hi : Int) (x : Nat) : Nat := wrapN 4 (clampI lo hi (sx 4 x))
/-- Whether any node slot is INVITED, JOINING or JOINED. -/
def State.anyNode (s : State) : Bool :=
  (upto 128).any (fun n => s.nodeSt n == nInvited || s.nodeSt n == nJoining || s.nodeSt n == nJoined)
/-- A write of NET (Tables 12.13 and 12.14) as it takes effect. -/
def netApply (a : Nat) (v : W32) (s : State) : State :=
  let w := s.written a v
  if a = A.netHalCfg then
    let w1 := normF 31 16 (max 16) (normF 15 0 (max 0x0600) w)
    s.setReg a (if s.anyNode then normF 15 0 (fun _ => bits (s.reg a) 15 0) w1 else w1)
  else if a = A.netHalApply then s.setReg a (BitVec.ofNat 32 (clampN 1000 (s.ftNs - 1000) w.toNat))
  else if a = A.netHalSample then s.setReg a (BitVec.ofInt 32 (clampI (-(s.ftNs / 2 : Nat)) (s.ftNs / 2 : Nat) w.toInt))
  else
    let p := (a - A.netPortCfg 0) / 0x80
    let o := (a - A.netPortCfg 0) % 0x80
    if a < A.netPortCfg 0 ∨ 2 ≤ p then s.setReg a w
    else if o = 0 then
      let mode := bits w 1 0
      let old := s.get (F.netPortCfg_MODE p)
      portRole p (if mode = 3 then 0 else mode) (s.setReg a (normF 9 8 (min 2) (normF 1 0 (fun _ => old) w)))
    else if o = 8 ∨ o = 0xC then (if s.portMode p = 0 then wideWrite a v s else s)
    else if o = 0x10 then (if s.portMode p = 0 then s.setReg a w else s)
    else s.setReg a w
/-- A write of PTP (Tables 12.15 and 12.16) as it takes effect. -/
def ptpApply (a : Nat) (v : W32) (s : State) : State :=
  let w := s.written a v
  let norm : W32 :=
    if a = A.ptpRateMax then BitVec.ofNat 32 (clampN 1000 100000 w.toNat)
    else if a = A.ptpStepLimit then BitVec.ofNat 32 (max 10 w.toNat)
    else if a = A.ptpPath then normF 31 16 (clampN 1 3600) (normF 15 0 (max 1) w)
    else if a = A.ptpPortCfg 0 ∨ a = A.ptpPortCfg 1 then
      normF 27 24 (clampN 2 10) (normF 23 20 (clampN 2 10) (normF 15 12 (normLog (-7) 0) (normF 11 8 (normLog (-3) 3) (normF 7 4 (normLog (-7) 3) w))))
    else w
  s.setReg a norm
/-- The writes of the last tick take effect. -/
def tickWrites (s : State) : State :=
  s.clk.tickWrites.foldl (fun t e =>
    if e.1 < 0x4000 then t.setReg e.1 (pwtStore e.1 (t.written e.1 e.2))
    else if e.1 < 0x14000 then netApply e.1 e.2 t
    else ptpApply e.1 e.2 t) { s with clk := { s.clk with tickWrites := [] } }

/-! ## The blocks -/

/-- CLK (Tables 1.11 to 1.17). -/
def halCutRefresh (s : State) : State :=
  s.set F.clkHalCutAct_CUT_ACT (min (s.get F.clkHalCut_CUT) (s.ftCyc - 2000))
def clkWrite (a : Nat) (v : W32) (s : State) : State := if a = A.clkHalCut then halCutRefresh (plainWrite a v s) else plainWrite a v s
/-- GLB (Tables 3.10 to 3.13). -/
def glbWrite (a : Nat) (v : W32) (s : State) : State :=
  if a = A.glbResetCtrl then resetCtrlWrite v s
  else if a = A.glbLcCtrl then lcRequest v s
  else plainWrite a v s
/-- IMG (Tables 16.8 and 16.9). -/
def imgWrite (a : Nat) (v : W32) (s : State) : State :=
  if a = A.imgSwapCfg then s.setReg a (normF 31 16 (max 1) (normF 7 0 (max 1) (s.written a v))) else plainWrite a v s
/-- CAP (R394, Tables 11.6 to 11.9). -/
def capWrite (a : Nat) (v : W32) (s : State) : State :=
  let w := s.written a v
  if a < 0x11000 then
    let u := (a - 0x10000) / 0x400
    let o := (a - 0x10000) % 0x400
    if o = 0x10 then plainWrite a v s
    else if s.cuState u ≠ cIdle ∨ (regGroup? a).isNone then s
    else if o = 0 then s.setReg a (normF 31 30 (fun x => if x = 3 then 0 else x) w)
    else if o = 4 then s.setReg a (normF 23 0 (max 20) w)
    else if o = 0xC then s.setReg a (normF 14 0 (min 24576) w)
    else if 0x80 ≤ o ∧ o < 0x100 ∧ o % 0x10 = 0 then s.setReg a (normF 31 28 (fun x => if 0xC ≤ x then 0 else x) w)
    else if 0x100 ≤ o ∧ 8 ≤ (o - 0x100) % 0x20 then s.setReg a (normF 15 0 (max 1) w)
    else s.setReg a w
  else
    let m := (a - A.capCrDataLo 0) / 0x10
    if a < A.capCrDataLo 0 then s
    else if (a - A.capCrDataLo 0) % 0x10 < 8 then
      (if s.getB (F.hriCrCfg_EN m) then s else wideWrite a (if (a - A.capCrDataLo 0) % 0x10 = 0 then v &&& 0xFFFF0000 else v) s)
    else plainWrite a v s
/-- NET and PTP. -/
def netWrite (a : Nat) (v : W32) (s : State) : State :=
  if a = A.ptpPortTxtsPop 0 ∨ a = A.ptpPortTxtsPop 1 then (if bit v 0 then txtsPop (if a = A.ptpPortTxtsPop 0 then 0 else 1) s else s)
  else delayWrite a v s
/-- DIO (Table 14.5). -/
def dioWrite (a : Nat) (v : W32) (s : State) : State :=
  if 0x16040 ≤ a ∧ a < 0x16060 ∧ (a - 0x16040) % 4 = 0 then inFiltWrite ((a - 0x16040) / 4) v s else plainWrite a v s
/-- SHR: SHR.TEST, in a safety session only (R496). -/
def shrWrite (a : Nat) (v : W32) (s : State) : State :=
  if a = A.shrTest ∧ s.shr.session.isSome ∧ s.shr.started then s.setReg a (v &&& 3) else s

/-- A write of a 32-bit word to BAR0 (R9, R10, R11, R54). -/
def barWrite (a : Nat) (w : W32) (s : State) : State :=
  let v := s.spared a w
  if (0x1000 ≤ a ∧ !s.ready) ∨ (regGroup? a).isNone then s
  else if a < 0x1000 then glbWrite a v s
  else if a < 0x2000 then hriWrite a v s
  else if a < 0x3000 then clkWrite a v s
  else if a < 0x4000 then delayWrite a v s
  else if a < 0x8000 then imgWrite a v s
  else if a < 0x10000 then ioWrite none a v s
  else if a < 0x12000 then capWrite a v s
  else if a < 0x16000 then netWrite a v s
  else if a < 0x18000 then dioWrite a v s
  else if a < 0x1C000 then shrWrite a v s
  else dbgWrite 1 a v s

/-- A write to the MSI-X table (R70); a vector whose mask bit it clears is no longer pending (notes/assumptions/102.md). -/
def msixWrite (i : Nat) (v : W32) (s : State) : State :=
  { s with host := { s.host with
    msix := Table.put (msixReset i) i v s.host.msix
    msixPend := if i % 4 = 3 ∧ !v.getLsbD 0 then s.host.msixPend.filter (· != i / 4) else s.host.msixPend } }
/-- A write by a path. In BAR2 the MSI-X table is the one structure beside the doorbells that takes a write (R70). -/
def pathWrite (p : RegPath) (a : Nat) (v : W32) (s : State) : State :=
  match p with
  | .bar0 => barWrite a v s
  | .bar2 =>
    if 0x60000 ≤ a ∧ a < 0x60200 ∧ a % 4 = 0 then msixWrite ((a - 0x60000) / 4) v s else s
  | .jtag => if 0x1C000 ≤ a ∧ a < 0x20000 ∧ (regGroup? a).isSome then dbgWrite 2 a (s.spared a v) s else s
  | .config => s

/-- A read of BAR2 (R70, R71, R83, R415): the counts recorded from the doorbells, the MSI-X table and its pending bits; any other address
reads 0. -/
def State.bar2Word (s : State) (a : Nat) : W32 :=
  if a < 0x40000 then (match a % 0x1000 with | 0 => (s.ring (a / 0x1000)).t | 4 => (s.ring (a / 0x1000)).k | _ => 0)
  else if a = 0x40000 then s.host.evHost
  else if 0x41000 ≤ a ∧ a < 0x45000 ∧ a % 0x1000 = 0 then s.reg (A.hriCrHead ((a - 0x41000) / 0x1000))
  else if 0x60000 ≤ a ∧ a < 0x60200 ∧ a % 4 = 0 then s.msixWord ((a - 0x60000) / 4)
  else if a = 0x61000 then BitVec.ofNat 32 ((upto 32).filter s.host.msixPend.contains |>.map (2 ^ ·)).sum
  else 0
/-- A word of the configuration header that Table 2.1 gives (notes/assumptions/101.md); none where the manual gives no value. -/
def State.configWord (s : State) (a : Nat) : Option W32 :=
  match a with
  | 0x00 => some 0x6480E9A0
  | 0x08 => some (BitVec.ofNat 32 (0x118000 * 256 + s.get F.glbId_REV))
  | 0x2C => some (if s.slots = 24 then 0x0024E9A0 else 0x0012E9A0)
  | _ => none
/-- A read by a path. Configuration requests are answered once the PLL has locked (R54); a word that the manual does not give is free. -/
def pathRead (p : RegPath) (a : Nat) (s : State) : State :=
  let put (v : W32) (t : State) : State := { t with host := { t.host with readData := v } }
  match p with
  | .bar0 => hostRead a s
  | .bar2 => put (s.bar2Word a) s
  | .jtag => if 0x1C000 ≤ a ∧ a < 0x20000 ∧ s.dbgPath 2 then (let (v, t) := regRead a s; put v t) else s
  | .config =>
    if !s.getB F.clkPllStatus_LOCK then s
    else match s.configWord a with
      | some v => put v s
      | none => let (v, t) := s.draw; put (v.setWidth 32) t

/-- A write to a register of a hardware block by an engine, through its I/O window, or by the host. An engine's write to a resource that
is not its own is dropped and sets IO_UNBOUND in STICKY (R264). -/
def regAs (who : Option (Fin 38)) (a : Nat) (v : W32) (s : State) : State :=
  match who with
  | none => barWrite a v s
  | some e => if s.ioMay e.val a then ioWrite (some e.val) a v s else s.stick e.val 5

/-- Whether a 64-bit register's two words are writable: the bases, DATA, MAC and MEM_DATA. -/
def wideWritable (a : Nat) : Bool := wideLow a && (match regGroup? a with | some g => g.rw != 0 | none => false)

end Sys2Proof.Machine
end

