-- ==== Sys2Proof/Machine/Tick.lean ====
section
/-!
DEFINITION. The frame tick: the strobe and what comes about in it, engine faults at the strobe, sub-tick, input-ready, timer and cutoff
interrupts, the adoption of a new FT and a step of the clock (spec/01_architecture_and_tick.md).
-/
namespace Sys2Proof.Machine

/-! ## Engines at a strobe (R40 to R46) -/

/-- Whether the part has started to count ticks: the PLL has locked (R109). -/
def State.ticking (s : State) : Bool := s.md.bootStep != 0
/-- Whether an engine works: released, without exception, neither faulted nor halted. -/
def State.engWorks (s : State) (e : Nat) : Bool :=
  (s.eng e).run && (s.eng e).exc.isNone && !s.engFaulted e && !s.getB (F.clkEngStat_HALT e)
/-- Whether an engine does the work that the chapters describe of its Ephagon image; an integrator image takes that work over (R163). -/
def State.doesWork (s : State) (e : Nat) : Bool := s.engWorks e && s.ephagon e
/-- Whether an engine has signalled done for the ending tick: one without an image idles and is always done (R16); of an Ephagon image the
command tells it; an integrator image issues DONE. -/
def State.doneAt (s : State) (late : BitVec 38) (e : Nat) : Bool :=
  match (s.eimg e).act with
  | none => true
  | some h => if h.signer = 0 then !late.getLsbD e && s.engWorks e else (s.eng e).xDone
/-- Whether an engine's overruns count: it runs, is not faulted, not halted (R46) and not being reloaded. -/
def State.counted (s : State) (e : Nat) : Bool :=
  (s.eng e).run && !s.engFaulted e && !s.getB (F.clkEngStat_HALT e) && s.get (F.imgEng_STEP e) != 4

/-- An overrun (R42): the counts, LATE, and the late tick that the engine now runs. -/
def overrun (e : Nat) (s : State) : State :=
  let s1 := (s.bumpSat (F.clkEngStat_OVR_TOTAL e)).bumpSat (F.clkEngStat_OVR_RUN e)
  let s2 := (s1.flag (F.clkEngStat_LATE e)).updEng e (fun x => { x with xLate := true })
  { s2 with clk := { s2.clk with late := Table.put false e true s2.clk.late } }
/-- A tick completed in time (R42). -/
def tickKept (e : Nat) (s : State) : State :=
  let s1 := (s.set (F.clkEngStat_OVR_RUN e) 0).updEng e (fun x => { x with xLate := false })
  { s1 with clk := { s1.clk with late := Table.put false e false s1.clk.late } }
/-- Whether an engine is faulted at this strobe: a third overrun in succession, three sub-tick overruns in succession (R43, R44), or an
exception since the strobe before (R292). -/
def State.faultDue (s : State) (e : Nat) : Bool :=
  !s.engFaulted e && (s.eng e).run &&
    ((s.eng e).exc.isSome || (!s.getB (F.clkEngStat_HALT e) &&
      (s.get (F.clkEngStat_OVR_RUN e) == 3 || decide (3 ≤ Table.look 0 s.clk.subOvrRun e))))
def subClear (e : Nat) (s : State) : State := { s with clk := { s.clk with subOvrRun := Table.put 0 e 0 s.clk.subOvrRun } }
/-- The ending tick of one engine is checked. -/
def checkEngine (late : BitVec 38) (e : Nat) (s : State) : State :=
  let d := s.doneAt late e
  let s1 := s.setB (F.clkEngStat_DONE e) ((s.eng e).run && d)
  let s2 := if !s.counted e then s1 else if d then tickKept e s1 else overrun e s1
  if s2.faultDue e then subClear e (engineFault e s2) else s2
/-- ENGINE_FAULT: the third consecutive overrun of an engine at the strobe that now comes (R44). -/
def thirdOverrun (e : Nat) (s : State) : State :=
  let sub := decide (3 ≤ Table.look 0 s.clk.subOvrRun e)
  if !s.counted e ∨ !s.ticking then s
  else if sub then subClear e (engineFault e s)
  else if s.get (F.clkEngStat_OVR_RUN e) = 2 ∧ (s.eimg e).act.isSome ∧ (s.ephagon e ∨ !(s.eng e).xDone) then engineFault e (overrun e s)
  else s

/-- The words that an engine has written are published once it has signalled done (R265); a late engine's and a halted one's are not
(R42, R46). -/
def publishEngine (done : Bool) (e : Nat) (x : Eng) : Eng :=
  if x.xLate ∨ !done then x
  else
    let pub := if e = eHE then x.xw else x.xwMask.foldl (fun t w => memPut (memLe x.xw (8 * w) 8) (8 * w) 8 t) x.pub
    { x with pub := pub, xw := [], xwMask := [], xDone := false }
/-- The strobe at an engine: the exchange images swap (R35), the parameter window follows (R268), TICK_PEND sets (R287), a released engine
starts (R286) and one that is being reloaded stops. -/
def strobeEngine (e : Nat) (s : State) : State :=
  let stop := s.get (F.imgEng_STEP e) == 4
  s.updEng e (fun x =>
    let y := publishEngine (s.getB (F.clkEngStat_DONE e)) e x
    { y with
      prm := x.prmNext.foldl (fun t p => Table.put 0 p.1 p.2 t) x.prm, prmNext := []
      run := (x.run || x.starts) && !stop, starts := if stop then x.starts else false
      tickPend := x.wait != .tick && (x.run || x.starts), wait := if x.wait = .tick then .none else x.wait
      tmrDone := false, cutPassed := false })

/-! ## Setpoints become visible (R35) -/

/-- The setpoints of a group; a web axis on the haul-down ramp keeps the one of the tick before, from which the ramp goes on (R167). -/
def swapGroup (g : Nat) (s : State) : State :=
  forEach (s.members g) (fun m t => if t.onRamp m.2 then t
    else t.updAxis m.2 (fun x => { x with visPos := x.pos, visVel := x.vel, visAcc := x.acc })) s

/-- One tick of a group in its planner engine. -/
def groupTick (g : Nat) (s : State) : State :=
  planTick g (skipOf s) s

/-- One tick of a local axis's base level. -/
def axisTick (a : Nat) (s : State) : State := if s.doesWork a then loopTick a s else s

/-- What the engine of an axis computed in the ended tick takes its place at the strobe: the configuration that VE holds is taken up (R38),
its actual values become visible (R35), and its current command, where no sub-tick boundary has taken it yet, becomes the one in use
(R166, R188). Where the engine is late all of it is held (R42). -/
def swapAxis (a : Nat) (s : State) : State :=
  takeCfg a (s.updAxisL a (fun x => { x with actVis := x.actual, vActVis := x.vAct, iSet := x.iNext }))

/-- A running identification whose group is no longer ENABLED, or outside COMMISSION, aborts (R207). -/
def idWatch (a : Nat) (s : State) : State :=
  let ok := s.mode == mCommission && (match s.groupOf a with | some g => s.gst g == gEnabled | none => false)
  if ok then s else abortIdent a 1 s

/-! ## VE at a strobe (R65, R96) -/

/-- The mode that VE decided in the tick before comes into force; HAULDOWN also where VE runs late (R45). -/
def modeStrobe (s : State) : State :=
  match s.md.decided with
  | none => s
  | some d =>
    if Table.look false s.clk.late eVE ∧ d.target ≠ mHauldown then s
    else
      let s1 := s.updMd (fun m => { m with decided := none })
      if d.target = s.mode then s1 else enterMode d.target d.cause s1
/-- VE's step: register changes, doorbells, the mode decision. -/
def veStep (s : State) : State :=
  if !s.veWorks then s else decideStep (stepMark (hriStep2 (hriStep1 s)))
/-- The books of the ending tick (R88, R89). -/
def bookCheck (s : State) : State :=
  let s1 := forEach ((upto 64).filter (fun n => s.ringState n == 1 && !s.creditBook n)) (fun n t => bookFault 0 n (0x9100 + n) t) s
  let s2 := forEach ((upto 32).filter (fun g => decide (256 < s.slotsUsed g + (s.grp g).freed))) (fun g t => bookFault 1 g (planPlace g) t) s1
  let held := ((upto 4).map (fun u => (s.cu u).own + s.queuedOf u)).sum
  let handed := (s.cap.handed.map (fun e => e.2.length)).sum
  let s3 := if s.get F.capFree_FREE + held + handed = 24576 then s2 else bookFault 2 0 0x8FFF s2
  let s4 := forEach ((upto 2).filter (fun p => !s.stampBook p)) (fun p t => bookFault 3 p (portPlace p) t) s3
  forEach ((s.shr.conns.filter (fun e => !e.2.book)).map (·.1)) (fun c t => bookFault 4 c (connPlace c) t) s4

/-- What holds for one tick at most is cleared: vectors raised, completions written, MODE descriptors of the step, dropped timestamps. -/
def tickClear (s : State) : State :=
  let s1 : State := { s with host := { s.host with
    irqs := [], evWrote := [], rings := Table.mapVals {} (fun r => { r with wrote := [], irqSent := false }) s.host.rings } }
  let s2 : State := { s1.updMd (fun m => { m with host := [] }) with cap := { s1.cap with wrote := [] } }
  s2.updNet (fun x => { x with ports := Table.mapVals {} (fun p => { p with dropped := false }) x.ports })

/-! ## The strobe (R27, R28, R35, R39) -/

/-- The local time of the next strobe, in 2^-32 ns: the next multiple of FT, or in a long tick the first at least one FT on (R31). -/
def State.nextMultiple (s : State) : Nat :=
  let ft : Nat := s.ftNs * 2 ^ 32
  if s.clk.longTick then (s.clk.clk + 2 * ft - 1) / ft * ft else (s.clk.clk / ft + 1) * ft
/-- The cycles of the ending tick. -/
def State.tickCycles (s : State) : Nat := (s.nextMultiple - s.clk.clk + s.clk.incr - 1) / s.clk.incr
/-- The clock moves to the strobe, and the tick number follows (R28). -/
def clockStrobe (s : State) : State :=
  let t : State := { s with clk := { s.clk with
    clk := s.clk.clk + s.tickCycles * s.clk.incr, cyc := 0, fresh := [], engWrote := [], longTick := false, ticks := s.clk.ticks + 1 } }
  t.set64 A.clkTickLo (t.clk.clk / (t.ftNs * 2 ^ 32))
/-- VE's restart is watched: 100 ticks without a done (Table 3.7). -/
def watchVe (s : State) : State :=
  match s.md.veWatch with
  | none => s
  | some n =>
    if (s.eng eVE).run ∧ s.getB (F.clkEngStat_DONE eVE) then s.updMd (fun m => { m with veWatch := none })
    else s.updMd (fun m => { m with veWatch := some (n + 1) })
/-- Interrupt 1 of HRI.TICK_IRQ. -/
def tickIrq (s : State) : State :=
  let d := s.get F.hriTickIrq_DIV
  if d ≠ 0 ∧ s.tickNo % d = 0 then s.irq 1 else s

/-- Checks of the ending tick, at the new tick number. -/
def strobeChecks (late : BitVec 38) (s : State) : State :=
  watchVe (forEach (upto 38) (checkEngine late) (clockStrobe s))
/-- Writes held for the tick, the swap of every exchange image, and the mode that comes into force. -/
def strobeSwap (s : State) : State :=
  let ok (e : Nat) : Bool := s.getB (F.clkEngStat_DONE e) && !Table.look false s.clk.late e && s.doesWork e
  let s0 := tickWrites (whenB (s.engWorks eNE && !Table.look false s.clk.late eNE) netRate (tickClear s))
  let s1 := if Table.look false s.clk.late eVE then s0 else takeBinds s0
  let s2 := forEach (upto 38) strobeEngine (webSwap ok s1)
  let s3 := modeStrobe ((if ok eHE ∧ s.heServes then fldStrobe s2 else s2).updFld (fun x => { x with rise := 0, fall := 0 }))
  let s4 := forEach (upto 32) (fun g t => if ok (peOf g) then swapGroup g t else t) s3
  forEach (s4.loop.axes.map (·.1)) (fun a t => match s.axisEngine a with
    | some e => if ok e then swapAxis a t else t
    | none => t) s4
/-- The new tick's work: position snapshots, web line, loops, planner. -/
def strobeWork (s : State) : State :=
  let s1 := forEach (upto 32) (fun n t => fbCheck n (fbSnap n t)) s
  let s2 := forEach (s1.loop.axes.map (·.1)) (fun a t => idWatch a (loopClears a t)) s1
  let s3 := webTick s2.doesWork (haulTick s2)
  let s4 := isenseCheckAll s3.doesWork (forEach (upto 24) axisTick s3)
  forEach (upto 32) (fun g t => if t.doesWork (peOf g) then groupTick g t else t) s4
/-- NE, CE and HE at the strobe: compares and frames armed, Halyard output, capture commands, segments of inputs without a gate, supplies. -/
def strobeUnits (ns vmain vback pIn : Nat) (s : State) : State :=
  let live (e : Nat) : Bool := s.doesWork e && !Table.look false s.clk.late e
  let s1 := if live eNE then halOutput (compareArm (ptpRoles s)) else whenB (s.doesWork eNE) halRepeat s
  let s2 := whenB (live eCE) capStrobe s1
  let s3 := forEach ((upto 96).filter (fun k => s.inPresent false k && (s.gateSlot false k).isNone)) (closeSegment false) s2
  let s4 := forEach ((upto 48).filter (fun k => s.inPresent true k && (s.gateSlot true k).isNone)) (closeSegment true) s3
  let s5 : State := { s4 with adc := { s4.adc with diags := (upto (s.get F.adcInfo_PAIRS)).foldl (fun t j =>
    Table.upd {} j (fun x => { x with ticks := x.ticks + 1 }) t) s4.adc.diags } }
  pwrStrobe (live eHE) ns vmain vback pIn s5
/-- VE's part: swaps, books, ring processing and mode decision, the events of the tick, the tick vector. -/
def strobeVe (s : State) : State :=
  let ovr (e : Nat) : Bool := Table.look false s.clk.late e
  let s1 := veStep (imgStrobe ovr (bookCheck s)).flushNotes
  tickIrq (whenB s1.veWorks evFlush s1)

/-- TICK_STROBE. -/
def tickStrobe (late : BitVec 38) (vmain vback pIn : Nat) (s : State) : State :=
  if !s.ticking then s
  else
    let ns := s.tickCycles * 5 / 2
    strobeVe (strobeUnits ns vmain vback pIn (strobeWork (strobeSwap (strobeChecks late s))))

/-! ## Sub-tick and input-ready interrupts (R32, R43, R170, R285) -/

/-- A sub-tick interrupt that finds an update in progress is dropped (R43). -/
def subDropped (n : Nat) (s : State) : State :=
  let s1 := callRollback n 0 (s.bumpSat (F.clkEngStat_SUB_OVR_TOTAL n))
  { s1 with clk := { s1.clk with subOvrRun := Table.upd 0 n (· + 1) s1.clk.subOvrRun } }
/-- The current stage of a slot begins once the Shroud has released its STO, with a voltage command of 0 (R168); the image sets no RUN on
a slot with TB 1 (R300). -/
def stageBegin (n : Nat) (s : State) : State :=
  if s.loopsClosed n ∧ !(s.axisL n).curRun ∧ (s.get F.shrStoCmd_TORQUE).testBit n then
    let t := s.updAxisL n (fun x => { x with curRun := true, vd := 0, vq := 0, intD := 0, intQ := 0 })
    if s.getB (F.pwmSlotCfg_TB n) then t
    else pwmRunSet n (pwmCommit n (if (s.axisL n).use.kind = 1 then writeStepper n 0 0 0 t else writeServo n 0 0 0 t))
  else s
/-- The current command of the tick is taken up at the first boundary after its store (R166); the boundary at the strobe has the one of the
tick before. -/
def takeCurrent (n : Nat) (s : State) : State := s.updAxisL n (fun x => { x with iSet := x.iNext })
/-- SUB_INTERRUPT: the update point of a slot locked to the tick, and the SUB interrupt of its engine; `stored` says that the base level has
stored the current command of the tick before this boundary. -/
def subInterrupt (n i : Nat) (stored : Bool) (s : State) : State :=
  if !s.ticking ∨ !s.slotPresent n ∨ s.subN n ≤ i then s
  else
    let s0 := s.atCyc (s.subCycle n i)
    let s1 := if s.getB (F.pwmSlotCfg_TB n) then s0 else updatePoint n s0
    if !(s.eng n).run ∨ (s.eng n).exc.isSome ∨ s.engFaulted n then s1
    else if s.ephagon n then
      if s.getB (F.clkEngStat_HALT n) then s1
      else if (s.axisL n).updating then subDropped n s1
      else
        let s2 := whenB (stored && i != 0) (takeCurrent n) (stageBegin n (subClear n s1))
        if (s2.axisL n).curRun ∧ s2.loopsClosed n then updateBegin n (s2.updEng n (fun x => { x with update := true })) else s2
    else if (s.eng n).update then (if s.getB (F.clkEngStat_HALT n) then s1 else subDropped n s1)
    else subClear n (s1.engIrq n 0)

/-- INRDY_INTERRUPT: the gated inputs are in, or the slot gates none; the Ephagon image takes the rest of the update, an integrator image
its handler. -/
def inrdyInterrupt (n : Nat) (s : State) : State :=
  if !s.slotPresent n then s
  else
    let s1 := inrdyCheck n s
    let ready := (s1.eng n).ipend.testBit 1 || !s1.getB (F.adcGate_EN n)
    if s1.doesWork n ∧ (s1.axisL n).updating ∧ ready then
      (updateEnd n s1).updEng n (fun x => { x with update := false, ipend := x.ipend / 4 * 4 })
    else s1

/-- TMR_INTERRUPT: the cycle TMR_CMP of the tick has come (Table 7.14a); one that has passed, or that the tick does not reach, is no match. -/
def tmrInterrupt (e : Nat) (s : State) : State :=
  let x := s.eng e
  if !s.ticking ∨ x.tmrCmp = 0 ∨ x.tmrCmp < s.clk.cyc ∨ s.tickCycles ≤ x.tmrCmp ∨ x.tmrDone ∨ !x.run then s
  else ((s.atCyc x.tmrCmp).engIrq e 2).updEng e (fun y => { y with tmrDone := true })

/-- What NE does on an arrival or a timer; nothing while it is faulted or halted (Table 1.8). -/
def byNe (f : State → State) (s : State) : State := if s.engWorks eNE then f s else s
/-- Containers with TSE_NEW set in the replies that count at the cutoff are handed to the Shroud (R454). -/
def handBoxes (s : State) : State :=
  forEach s.nodes (fun e t =>
    let x := t.node e.1
    forEach ((x.old.toList ++ x.fresh.toList).filter (fun r => e.2.tse && bit r.nstat 16)) (fun r u => tseHand e.1 r.tse u) t) s
/-- HAL_CUTOFF: the cycle HAL_CUT_ACT of the tick has come (R37, R283). -/
def cutoff (s : State) : State :=
  if !s.ticking ∨ (s.eng 24).cutPassed then s
  else
    let s0 := s.atCyc (s.get F.clkHalCutAct_CUT_ACT)
    let s1 := if s.doesWork eNE ∧ !Table.look false s.clk.late eNE then halCutoff s.doesWork (handBoxes s0)
      else forEach (upto 8) (fun k t => t.engIrq (24 + k) 3) s0
    forEach (upto 8) (fun k t => t.updEng (24 + k) (fun x => { x with cutPassed := true, wait := if x.wait = .cut then .none else x.wait })) s1

/-! ## A new FT (R29, R30, R32) -/

/-- Frame ticks per Shroud tick (R34). -/
def shrPer (sel : Nat) : Nat := 32 / 2 ^ sel
/-- The FT to take: 62.5 us in place of 31.25 us while a planner engine holds more than 12 remote axes (R30). -/
def State.ftTake (s : State) : Nat × Bool :=
  let f := s.get F.clkFtCtrl_FT_SEL
  if f = 0 ∧ (upto 8).any (fun k => decide (12 < s.peLoad k)) then (1, true) else (f, false)
/-- Whether the present strobe lies on a boundary of the old and the new FT, and a way of R29 is open. -/
def State.ftOpen (s : State) (f : Nat) : Bool :=
  let now := (s.mode == mReset || s.mode == mCalibrate || s.mode == mStandby) && (upto 32).all (fun g => s.gst g == gIdle)
  decide (s.clk.cyc = 0) && decide (s.tickNo * s.ftNs % ftNsOf f = 0) && (now || (s.mode == mStandby && s.clk.ftDue))
/-- FT_ADOPT: a pending FT and pending dividers come into use at the strobe. -/
def ftAdopt (s : State) : State :=
  let (f, raised) := s.ftTake
  if !s.ticking ∨ !s.ftPending ∨ !s.ftOpen f then s
  else
    let s1 := (s.set F.clkFtStatus_FT_ACT f).set F.clkFtStatus_SHR_PER (shrPer f)
    let s2 := if raised then s1.flag F.clkFtStatus_FT_RAISED else s1
    let s3 := s2.set64 A.clkTickLo (s2.clk.clk / (s2.ftNs * 2 ^ 32))
    let s4 : State := { s3 with clk := { s3.clk with
      ftDue := false, subAct := (upto s3.slots).foldl (fun t n => Table.put 0 n (s3.subSel n) t) s3.clk.subAct } }
    let s5 := forEach (s4.loop.axes.map (·.1)) (fun a t => t.updAxisL a (fun x => { x with
      notches := x.notches.map (fun e => if e.2.mode = 0 ∨ e.2.raw then e else (e.1, notchCoef t e.2 e.2.f0)) })) s4
    halCutRefresh s5

/-! ## A step of the clock (R31, R424, R439) -/

/-- CLOCK_STEP: the step that waits is applied at the strobe. -/
def clockStep (s : State) : State :=
  match s.net.ptp.step with
  | none => s
  | some (amount, first) =>
    if !s.ticking ∨ s.clk.cyc ≠ 0 then s
    else if s.stepHeld then s.set F.ptpStatus_STEP_PENDING 1
    else
      let clk' := ((s.clk.clk : Int) + amount * 65536).toNat
      let s1 : State := { s with
        clk := { s.clk with clk := clk', longTick := true }
        net := { s.net with second := min s.net.second (clk' / (2 ^ 32 * 1000000000)) } }
      let s2 := ((s1.set64 A.clkTickLo (s1.clk.clk / (s1.ftNs * 2 ^ 32))).flag F.clkFtStatus_STEP_TICK).set F.ptpStatus_STEP_PENDING 0
      let s3 := whenB first (fun t => t.set F.ptpStatus_STEPPED 1) (s2.updPtp (fun x => { x with step := none }))
      let s4 := s3.raise 0x090B sevInfo 0 ptpNoPort [(24, 8, wrapN 64 (qdiv amount 65536))]
      let s5 := disarmAll s4
      if first then setClock 2 s5 else s5

/-! ## Descriptors by opcode (Table 2.4): what a FENCE releases goes through here -/

def opOfHost : Nat → Op
  | 0x0001 => opFence
  | 0x0002 => opMode
  | _ => opNop
def opOfPlan : Nat → Op
  | 0x0100 => opAxisBind
  | 0x0101 => opAxisLimits
  | 0x0102 => opProfile
  | 0x0103 => opMove
  | 0x0104 => opMoveCont
  | 0x0105 => opGroupCtrl
  | 0x0106 => opGear
  | 0x0107 => opCamLoad
  | 0x0108 => opCamEngage
  | _ => opGroupReport
/-- IDENTIFY with its ABORT bit, ROLL, SPAN and WINDER with their REMOVE bits, IMAGE_SWAP with ROLLBACK, TIME_COMPARE with CANCEL,
SAFETY_SESSION with OPEN, SAFETY_DEMAND with DEVICE_STO, SAFETY_REPORT with its selector. -/
def opIdentifyAny : Op := fun d s => if d.fb 1 13 then opIdentifyAbort d s else opIdentify d s
def opRollAny : Op := fun d s => if d.fb 1 15 then opRollRemove d s else opRoll d s
def opSpanAny : Op := fun d s => if d.fb 1 32 then opSpanRemove d s else opSpan d s
def opWinderAny : Op := fun d s => if d.fb 1 25 then opWinderRemove d s else opWinder d s
def opSwapAny : Op := fun d s => if d.fb 1 63 then opImageRollback d s else opImageSwap d s
def opCompareAny : Op := fun d s => if d.fb 1 1 then opTimeCompareCancel d s else opTimeCompare d s
def opSessionAny : Op := fun d s => if d.fb 1 0 then opSessionOpen d s else opSessionClose d s
def opDemandAny : Op := fun d s => opDemand (d.fb 1 63) d s
def opReportAny : Op := fun d s => if d.fb 1 0 then opReportLog d s else opReportStatus d s
/-- SAFETY_CONFIG with the check of R538 on the container that was fetched. -/
def opSafetyCfg : Op := fun d s => opSafetyConfig (safetyContainer s (min 65536 (d.f 1 31 0))) d s
def opOfLoop : Nat → Op
  | 0x0200 => opMotor
  | 0x0201 => opIsense
  | 0x0202 => opCurrentLoop
  | 0x0203 => opVelocityLoop
  | 0x0204 => opPositionLoop
  | 0x0205 => opNotch
  | 0x0206 => opNotchRaw
  | 0x0207 => opStepper
  | 0x0208 => opIdentifyAny
  | 0x0209 => opLoopReport
  | 0x020A => opIdReport
  | _ => opLoopFlagsClr
def opOfWeb : Nat → Op
  | 0x0300 => opLine
  | 0x0301 => opRollAny
  | 0x0302 => opSpanAny
  | 0x0303 => opTensionLoop
  | 0x0304 => opWinderAny
  | 0x0305 => opMaterial
  | 0x0306 => opDiameterSet
  | _ => opLineReport
def opOfImage : Nat → Op
  | 0x0400 => opImageStore
  | 0x0401 => opImageLoad
  | 0x0402 => opSwapAny
  | 0x0403 => opImageOverride
  | 0x0404 => opEngineParam
  | _ => opImageKey
def opOfNet : Nat → Op
  | 0x0900 => opNodeCfg
  | 0x0901 => opNodeIo
  | 0x0902 => opPtpStep
  | 0x0903 => opCompareAny
  | 0x0904 => opNetSend
  | _ => opNetReport
def opOfSafety : Nat → Op
  | 0x0A00 => opSessionAny
  | 0x0A01 => opPassword
  | 0x0A02 => opSafetyCfg
  | 0x0A03 => opSafetyConfirm
  | 0x0A04 => opDemandAny
  | _ => opReportAny
def opOfField : Nat → Op
  | 0x0B00 => opFieldOut
  | _ => opFieldReenable
def opOfPower : Nat → Op
  | 0x0C00 => opThermalMeasure
  | _ => opChargeCtrl
/-- The operation of a defined opcode. -/
def opOf (n : Nat) : Op :=
  fun d s => match n / 256 with
  | 0 => opOfHost n d s
  | 1 => opOfPlan n d s
  | 2 => opOfLoop n d s
  | 3 => opOfWeb n d s
  | 4 => opOfImage n d s
  | 6 => opInputBind d s
  | 7 => opFeedbackBind d s
  | 8 => opCapture d s
  | 9 => opOfNet n d s
  | 10 => opOfSafety n d s
  | 11 => opOfField n d s
  | 12 => opOfPower n d s
  | _ => opNop d s

/-- FENCE_RELEASE. -/
def fenceGo (n : Nat) (s : State) : State := fenceRelease opOf n s
/-- REJECTED_OPCODE: an opcode that is not defined (R62). -/
def rejectDesc (opcode : Nat) (d : Desc) (s : State) : State :=
  if (opInfo opcode).isSome then s else runDesc opcode opNop d s

end Sys2Proof.Machine
end

