-- ==== Sys2Proof/Machine/ExecAdc.lean ====
section
/-!
DEFINITION. The meanings of the commands of one family: Converters and sigma-delta inputs (spec/09_converters.md).
Each is one call of the operation that the other files of this folder give; what is not due has no effect.
-/
namespace Sys2Proof.Machine

/-- The timer fires at the strobe + PHASE + k PERIOD cycles within the tick (R329). -/
def adcTimerTrigger (c : Nat) (s : State) : State :=
  let ph := s.get (F.adcConvTimer_PHASE c)
  if s.get (F.adcConvTrig_SRC c) = 1 ∧ ph ≤ s.clk.cyc ∧ (s.clk.cyc - ph) % s.get (F.adcConvTimer_PERIOD c) = 0 then adcTrigger c s.nowFx s
  else s
/-- The selected PWM event has happened: acquisition begins DELAY cycles after the first edge at or after its instant (R329). -/
def adcEventTrigger (c : Nat) (s : State) : State :=
  let ev := s.get (F.adcConvTrig_EVENT c)
  match Table.look none (s.slot (ev / 8)).events (ev % 8) with
  | some t =>
    let start := cycleCeil s t + s.get (F.adcConvTrig_DELAY c) * s.clk.incr
    if s.get (F.adcConvTrig_SRC c) = 2 ∧ cycleCeil s t = s.nowFx then adcTrigger c start s else s
  | none => s

/-- R325: The INPUT_BIND descriptor binds an analogue or sigma-delta input to an engine. -/
def execInputBind (d : Desc) (s : State) : Host.Outcome State Fault Refusal := .next (runDesc 0x0600 opInputBind d s)

/-- R329: A write of GO triggers the converter's sequence. -/
def execAdcSoftwareTrigger (who : Option (Fin 38)) (c : Fin 32) (cyc : Nat) (s : State) : Host.Outcome State Fault Refusal :=
  .next (regAs who (A.adcConvSwtrig c.val) 1 (s.atCyc cyc))

/-- R329: The converter's timer fires at its phase and period after the strobe and triggers the sequence. -/
def execAdcTimerTrigger (c : Fin 32) (cyc : Nat) (s : State) : Host.Outcome State Fault Refusal :=
  .next (adcTimerTrigger c.val (s.atCyc cyc))

/-- R329: A PWM event, delayed by DELAY cycles, triggers the converter's sequence. -/
def execAdcEventTrigger (c : Fin 32) (cyc : Nat) (s : State) : Host.Outcome State Fault Refusal :=
  .next (adcEventTrigger c.val (s.atCyc cyc))

/-- R324: A conversion completes and its result and tag are written to the input's registers and sum. -/
def execAdcResult (c : Fin 32) (code : Int) (cyc : Nat) (s : State) : Host.Outcome State Fault Refusal :=
  .next (adcResult c.val code (s.atCyc cyc))

/-- R331: A converter configuration write held under CFG_PEND takes effect when the running sequence ends. -/
def execAdcCfgApply (c : Fin 32) (cyc : Nat) (s : State) : Host.Outcome State Fault Refusal := .next (convApply c.val (s.atCyc cyc))

/-- R344: Every DIAG_PERIOD ticks the pair injects a check-DAC test conversion. -/
def execDiagInjection (j : Fin 16) (cyc : Nat) (s : State) : Host.Outcome State Fault Refusal :=
  .next (whenB (s.convPresent (2 * j.val)) (diagInject j.val) (s.atCyc cyc))

/-- R334: A sigma-delta filter word becomes available with its value and tag. -/
def execSdiWord (i : Fin 48) (value : Int) (run : Nat) (cyc : Nat) (s : State) : Host.Outcome State Fault Refusal :=
  .next (sdiWord i.val value run (s.atCyc cyc))

/-- R335: A run of 1,024 identical bits sets STUCK and faults the sigma-delta channel. -/
def execSdiStuck (i : Fin 48) (cyc : Nat) (s : State) : Host.Outcome State Fault Refusal := .next (sdiStuck i.val (s.atCyc cyc))

/-- R342: A segment sum is published once its results are in, and INRDY may be raised. -/
def execSegmentPublish (sdi : Bool) (k : Fin 96) (cyc : Nat) (s : State) : Host.Outcome State Fault Refusal :=
  .next (whenB (s.inPresent sdi k.val) (segPublish sdi k.val) (s.atCyc cyc))

/-- R347: A write of 1 to DIAG_FAULT resumes the converter and opens the recovery windows of its inputs. -/
def execDiagFaultClear (who : Option (Fin 38)) (c : Fin 32) (cyc : Nat) (s : State) : Host.Outcome State Fault Refusal :=
  .next (regAs who (A.adcConvStatus c.val) 0x100 (s.atCyc cyc))

/-- R335: A write of 1 to STUCK clears it once the data line has toggled. -/
def execStuckClear (who : Option (Fin 38)) (i : Fin 48) (cyc : Nat) (s : State) : Host.Outcome State Fault Refusal :=
  .next (regAs who (A.adcSdiStatus i.val) 4 (s.atCyc cyc))

/-- R339: An input's 100 ms recovery window ends and RECOVERY clears. -/
def execRecoveryWindowEnd (sdi : Bool) (k : Fin 96) (cyc : Nat) (s : State) : Host.Outcome State Fault Refusal :=
  .next (whenB (s.inPresent sdi k.val) (recoveryEnd sdi k.val) (s.atCyc cyc))

end Sys2Proof.Machine
end

