-- ==== Sys2Proof/Machine/ExecAlu.lean ====
section
/-!
DEFINITION. The meanings of the commands of one family: Arithmetic, logic and data instructions of the Spar engines (spec/07_spar_engines.md).
Each is one call of the operation that the other files of this folder give; what is not due has no effect.
-/
namespace Sys2Proof.Machine

/-- LDK: one 16-bit lane of a register is replaced (Table 7.6). -/
def putLane (a : W64) (lane : Nat) (imm : BitVec 16) : W64 :=
  (a &&& ~~~((0xFFFF : W64) <<< (16 * lane))) ||| (imm.setWidth 64 <<< (16 * lane))

/-- R272: The ADDI instruction adds a signed immediate, wrapping. -/
def execAddi (i : SparAt) (rd : Fin 64) (ra : Fin 64) (imm : BitVec 14) (s : State) : Host.Outcome State Fault Refusal :=
  .next (sparStep i (fun s => op1 i.e.val rd.val ra.val (fun a => noSat (a + imm.signExtend 64)) s) s)

/-- R272: The ANDI instruction ands a zero-extended immediate. -/
def execAndi (i : SparAt) (rd : Fin 64) (ra : Fin 64) (imm : BitVec 14) (s : State) : Host.Outcome State Fault Refusal :=
  .next (sparStep i (fun s => op1 i.e.val rd.val ra.val (fun a => noSat (a &&& imm.setWidth 64)) s) s)

/-- R279: The LDI instruction loads a sign-extended 16-bit immediate. -/
def execLdi (i : SparAt) (rd : Fin 64) (imm : BitVec 16) (s : State) : Host.Outcome State Fault Refusal :=
  .next (sparStep i (fun s => s.setG i.e.val rd.val (imm.signExtend 64)) s)

/-- R279: The LDK instruction writes a 16-bit immediate into one lane of a register. -/
def execLdk (i : SparAt) (rd : Fin 64) (lane : Fin 4) (imm : BitVec 16) (s : State) : Host.Outcome State Fault Refusal :=
  .next (sparStep i (fun s => op1 i.e.val rd.val rd.val (fun a => noSat (putLane a lane.val imm)) s) s)

/-- R279: The SEL instruction selects one of two registers by a condition register. -/
def execSel (i : SparAt) (rd : Fin 64) (ra : Fin 64) (rb : Fin 64) (rc : Fin 64) (s : State) : Host.Outcome State Fault Refusal :=
  .next (sparStep i (fun s => op2 i.e.val rd.val rb.val rc.val (fun b c => noSat (if s.g i.e.val ra.val ≠ 0 then b else c)) s) s)

/-- R280: The LD instruction loads a value of the given size from the data space. -/
def execLd (i : SparAt) (rd : Fin 64) (sz : Fin 7) (m : MemAddr) (s : State) : Host.Outcome State Fault Refusal :=
  .next (sparStep i (fun s => opLoad i.e.val rd.val sz.val m s) s)

/-- R280: The ST instruction stores the low bytes of a register into the data space. -/
def execSt (i : SparAt) (rs : Fin 64) (sz : Fin 7) (m : MemAddr) (s : State) : Host.Outcome State Fault Refusal :=
  .next (sparStep i (fun s => opStore i.e.val rs.val sz.val m s) s)

/-- R272: The ADD instruction adds two registers, wrapping. -/
def execAdd (i : SparAt) (rd : Fin 64) (ra : Fin 64) (rb : Fin 64) (s : State) : Host.Outcome State Fault Refusal :=
  .next (sparStep i (fun s => op2 i.e.val rd.val ra.val rb.val (fun a b => noSat (a + b)) s) s)

/-- R272: The ADDS instruction adds two registers with saturation. -/
def execAdds (i : SparAt) (rd : Fin 64) (ra : Fin 64) (rb : Fin 64) (s : State) : Host.Outcome State Fault Refusal :=
  .next (sparStep i (fun s => op2 i.e.val rd.val ra.val rb.val (fun a b => sat64 (a.toInt + b.toInt)) s) s)

/-- R272: The SUB instruction subtracts two registers, wrapping. -/
def execSub (i : SparAt) (rd : Fin 64) (ra : Fin 64) (rb : Fin 64) (s : State) : Host.Outcome State Fault Refusal :=
  .next (sparStep i (fun s => op2 i.e.val rd.val ra.val rb.val (fun a b => noSat (a - b)) s) s)

/-- R272: The SUBS instruction subtracts two registers with saturation. -/
def execSubs (i : SparAt) (rd : Fin 64) (ra : Fin 64) (rb : Fin 64) (s : State) : Host.Outcome State Fault Refusal :=
  .next (sparStep i (fun s => op2 i.e.val rd.val ra.val rb.val (fun a b => sat64 (a.toInt - b.toInt)) s) s)

/-- R272: The AND instruction forms the bitwise and. -/
def execAnd (i : SparAt) (rd : Fin 64) (ra : Fin 64) (rb : Fin 64) (s : State) : Host.Outcome State Fault Refusal :=
  .next (sparStep i (fun s => op2 i.e.val rd.val ra.val rb.val (fun a b => noSat (a &&& b)) s) s)

/-- R272: The OR instruction forms the bitwise or. -/
def execOr (i : SparAt) (rd : Fin 64) (ra : Fin 64) (rb : Fin 64) (s : State) : Host.Outcome State Fault Refusal :=
  .next (sparStep i (fun s => op2 i.e.val rd.val ra.val rb.val (fun a b => noSat (a ||| b)) s) s)

/-- R272: The XOR instruction forms the bitwise exclusive or. -/
def execXor (i : SparAt) (rd : Fin 64) (ra : Fin 64) (rb : Fin 64) (s : State) : Host.Outcome State Fault Refusal :=
  .next (sparStep i (fun s => op2 i.e.val rd.val ra.val rb.val (fun a b => noSat (a ^^^ b)) s) s)

/-- R277: The SHL instruction shifts left by a register amount. -/
def execShl (i : SparAt) (rd : Fin 64) (ra : Fin 64) (rb : Fin 64) (s : State) : Host.Outcome State Fault Refusal :=
  .next (sparStep i (fun s => op2 i.e.val rd.val ra.val rb.val (fun a b => noSat (shl a b.toNat)) s) s)

/-- R277: The SHR instruction shifts right logically by a register amount. -/
def execShr (i : SparAt) (rd : Fin 64) (ra : Fin 64) (rb : Fin 64) (s : State) : Host.Outcome State Fault Refusal :=
  .next (sparStep i (fun s => op2 i.e.val rd.val ra.val rb.val (fun a b => noSat (shr a b.toNat)) s) s)

/-- R277: The SRA instruction shifts right arithmetically by a register amount. -/
def execSra (i : SparAt) (rd : Fin 64) (ra : Fin 64) (rb : Fin 64) (s : State) : Host.Outcome State Fault Refusal :=
  .next (sparStep i (fun s => op2 i.e.val rd.val ra.val rb.val (fun a b => noSat (sra a b.toNat)) s) s)

/-- R277: The SHLS instruction shifts left by a register amount with saturation. -/
def execShls (i : SparAt) (rd : Fin 64) (ra : Fin 64) (rb : Fin 64) (s : State) : Host.Outcome State Fault Refusal :=
  .next (sparStep i (fun s => op2 i.e.val rd.val ra.val rb.val (fun a b => shls a b.toNat) s) s)

/-- R277: The SHLI instruction shifts left by an immediate amount. -/
def execShli (i : SparAt) (rd : Fin 64) (ra : Fin 64) (n : Fin 64) (s : State) : Host.Outcome State Fault Refusal :=
  .next (sparStep i (fun s => op1 i.e.val rd.val ra.val (fun a => noSat (shl a n.val)) s) s)

/-- R277: The SHRI instruction shifts right logically by an immediate amount. -/
def execShri (i : SparAt) (rd : Fin 64) (ra : Fin 64) (n : Fin 64) (s : State) : Host.Outcome State Fault Refusal :=
  .next (sparStep i (fun s => op1 i.e.val rd.val ra.val (fun a => noSat (shr a n.val)) s) s)

/-- R277: The SRAI instruction shifts right arithmetically by an immediate amount. -/
def execSrai (i : SparAt) (rd : Fin 64) (ra : Fin 64) (n : Fin 64) (s : State) : Host.Outcome State Fault Refusal :=
  .next (sparStep i (fun s => op1 i.e.val rd.val ra.val (fun a => noSat (sra a n.val)) s) s)

/-- R277: The SHLSI instruction shifts left by an immediate amount with saturation. -/
def execShlsi (i : SparAt) (rd : Fin 64) (ra : Fin 64) (n : Fin 64) (s : State) : Host.Outcome State Fault Refusal :=
  .next (sparStep i (fun s => op1 i.e.val rd.val ra.val (fun a => shls a n.val) s) s)

/-- R279: The MIN instruction gives the signed minimum. -/
def execMin (i : SparAt) (rd : Fin 64) (ra : Fin 64) (rb : Fin 64) (s : State) : Host.Outcome State Fault Refusal :=
  .next (sparStep i (fun s => op2 i.e.val rd.val ra.val rb.val (fun a b => noSat (if a.toInt ≤ b.toInt then a else b)) s) s)

/-- R279: The MAX instruction gives the signed maximum. -/
def execMax (i : SparAt) (rd : Fin 64) (ra : Fin 64) (rb : Fin 64) (s : State) : Host.Outcome State Fault Refusal :=
  .next (sparStep i (fun s => op2 i.e.val rd.val ra.val rb.val (fun a b => noSat (if a.toInt ≤ b.toInt then b else a)) s) s)

/-- R279: The MINU instruction gives the unsigned minimum. -/
def execMinu (i : SparAt) (rd : Fin 64) (ra : Fin 64) (rb : Fin 64) (s : State) : Host.Outcome State Fault Refusal :=
  .next (sparStep i (fun s => op2 i.e.val rd.val ra.val rb.val (fun a b => noSat (if a.toNat ≤ b.toNat then a else b)) s) s)

/-- R279: The MAXU instruction gives the unsigned maximum. -/
def execMaxu (i : SparAt) (rd : Fin 64) (ra : Fin 64) (rb : Fin 64) (s : State) : Host.Outcome State Fault Refusal :=
  .next (sparStep i (fun s => op2 i.e.val rd.val ra.val rb.val (fun a b => noSat (if a.toNat ≤ b.toNat then b else a)) s) s)

/-- R272: The ABSS instruction gives the saturated absolute value. -/
def execAbss (i : SparAt) (rd : Fin 64) (ra : Fin 64) (s : State) : Host.Outcome State Fault Refusal :=
  .next (sparStep i (fun s => op1 i.e.val rd.val ra.val (fun a => sat64 a.toInt.natAbs) s) s)

/-- R272: The NEGS instruction gives the saturated negation. -/
def execNegs (i : SparAt) (rd : Fin 64) (ra : Fin 64) (s : State) : Host.Outcome State Fault Refusal :=
  .next (sparStep i (fun s => op1 i.e.val rd.val ra.val (fun a => sat64 (-a.toInt)) s) s)

/-- R279: The SLT instruction gives 1 if ga is less than gb, signed. -/
def execSlt (i : SparAt) (rd : Fin 64) (ra : Fin 64) (rb : Fin 64) (s : State) : Host.Outcome State Fault Refusal :=
  .next (sparStep i (fun s => op2 i.e.val rd.val ra.val rb.val (fun a b => noSat (b2w (decide (a.toInt < b.toInt)))) s) s)

/-- R279: The SLTU instruction gives 1 if ga is less than gb, unsigned. -/
def execSltu (i : SparAt) (rd : Fin 64) (ra : Fin 64) (rb : Fin 64) (s : State) : Host.Outcome State Fault Refusal :=
  .next (sparStep i (fun s => op2 i.e.val rd.val ra.val rb.val (fun a b => noSat (b2w (decide (a.toNat < b.toNat)))) s) s)

/-- R279: The SEQ instruction gives 1 if the registers are equal. -/
def execSeq (i : SparAt) (rd : Fin 64) (ra : Fin 64) (rb : Fin 64) (s : State) : Host.Outcome State Fault Refusal :=
  .next (sparStep i (fun s => op2 i.e.val rd.val ra.val rb.val (fun a b => noSat (b2w (a == b))) s) s)

/-- R279: The SEXT32 instruction sign-extends the low 32 bits. -/
def execSext32 (i : SparAt) (rd : Fin 64) (ra : Fin 64) (s : State) : Host.Outcome State Fault Refusal :=
  .next (sparStep i (fun s => op1 i.e.val rd.val ra.val (fun a => noSat ((a.setWidth 32).signExtend 64)) s) s)

/-- R279: The SEXT16 instruction sign-extends the low 16 bits. -/
def execSext16 (i : SparAt) (rd : Fin 64) (ra : Fin 64) (s : State) : Host.Outcome State Fault Refusal :=
  .next (sparStep i (fun s => op1 i.e.val rd.val ra.val (fun a => noSat ((a.setWidth 16).signExtend 64)) s) s)

/-- R279: The SEXT8 instruction sign-extends the low 8 bits. -/
def execSext8 (i : SparAt) (rd : Fin 64) (ra : Fin 64) (s : State) : Host.Outcome State Fault Refusal :=
  .next (sparStep i (fun s => op1 i.e.val rd.val ra.val (fun a => noSat ((a.setWidth 8).signExtend 64)) s) s)

/-- R275: The NORM instruction counts the bits below bit 63 equal to the sign bit. -/
def execNorm (i : SparAt) (rd : Fin 64) (ra : Fin 64) (s : State) : Host.Outcome State Fault Refusal :=
  .next (sparStep i (fun s => op1 i.e.val rd.val ra.val (fun a => noSat (BitVec.ofNat 64 (normOf 63 a.toInt))) s) s)

/-- R275: The EXPX instruction converts an unsigned fixed-point value to a gain word. -/
def execExpx (i : SparAt) (rd : Fin 64) (ra : Fin 64) (q : Fin 64) (s : State) : Host.Outcome State Fault Refusal :=
  .next (sparStep i (fun s => op1 i.e.val rd.val ra.val (fun a => expx a.toNat q.val) s) s)

/-- R275: The GMUL instruction multiplies a signed value by a gain word with saturation. -/
def execGmul (i : SparAt) (rd : Fin 64) (ra : Fin 64) (rb : Fin 64) (s : State) : Host.Outcome State Fault Refusal :=
  .next (sparStep i (fun s => op2 i.e.val rd.val ra.val rb.val (fun a b => gmul a b) s) s)

/-- R279: The MULH instruction gives the high 64 bits of the signed product. -/
def execMulh (i : SparAt) (rd : Fin 64) (ra : Fin 64) (rb : Fin 64) (s : State) : Host.Outcome State Fault Refusal :=
  .next (sparStep i (fun s => op2 i.e.val rd.val ra.val rb.val (fun a b => noSat (BitVec.ofInt 64 (fdiv (a.toInt * b.toInt) (2 ^ 64)))) s) s)

/-- R279: The MULL instruction gives the low 64 bits of the signed product. -/
def execMull (i : SparAt) (rd : Fin 64) (ra : Fin 64) (rb : Fin 64) (s : State) : Host.Outcome State Fault Refusal :=
  .next (sparStep i (fun s => op2 i.e.val rd.val ra.val rb.val (fun a b => noSat (a * b)) s) s)

/-- R272: The CLIPS instruction clamps ga to plus or minus the magnitude of gb. -/
def execClips (i : SparAt) (rd : Fin 64) (ra : Fin 64) (rb : Fin 64) (s : State) : Host.Outcome State Fault Refusal :=
  .next (sparStep i (fun s => op2 i.e.val rd.val ra.val rb.val (fun a b => clips a b) s) s)

end Sys2Proof.Machine
end

