-- ==== Sys2Proof/Machine/ExecCap.lean ====
section
/-!
DEFINITION. The meanings of the commands of one family: Waveform capture (spec/11_capture.md).
Each is one call of the operation that the other files of this folder give; what is not due has no effect.
-/
namespace Sys2Proof.Machine

/-- R409: CAPTURE_CTRL ARM clamps PRE and POST, reserves blocks and starts sampling. -/
def execCaptureArm (d : Desc) (s : State) : Host.Outcome State Fault Refusal := .next (runDesc 0x0800 opCapture (d.force 1 11 8 1) s)

/-- R410: CAPTURE_CTRL STOP ends the running capture and hands it. -/
def execCaptureStop (d : Desc) (s : State) : Host.Outcome State Fault Refusal := .next (runDesc 0x0800 opCapture (d.force 1 11 8 2) s)

/-- R410: CAPTURE_CTRL FORCE takes the present state's trigger at the first sample of the strobe. -/
def execCaptureForce (d : Desc) (s : State) : Host.Outcome State Fault Refusal := .next (runDesc 0x0800 opCapture (d.force 1 11 8 3) s)

/-- R410: CAPTURE_CTRL DISARM discards the capture and returns the unit to IDLE. -/
def execCaptureDisarm (d : Desc) (s : State) : Host.Outcome State Fault Refusal := .next (runDesc 0x0800 opCapture (d.force 1 11 8 4) s)

/-- R406: CAPTURE_CTRL with a CMD that falls back to 0x0 is applied with no action. -/
def execCaptureCtrlNoAction (d : Desc) (s : State) : Host.Outcome State Fault Refusal := .next (runDesc 0x0800 opCapture (d.noCmd 4) s)

/-- R409: A unit waiting for blocks reserves ALLOC blocks at a strobe and starts sampling. -/
def execCaptureBlocksReserved (u : Fin 4) (s : State) : Host.Outcome State Fault Refusal := .next (capReserve u.val s)

/-- R396: A unit takes a sample, evaluates its comparators and exits and stores or buffers the record. -/
def execCaptureSample (u : Fin 4) (full : Bool) (cyc : Nat) (s : State) : Host.Outcome State Fault Refusal :=
  .next (capSample u.val full (s.atCyc cyc))

/-- R402: A sequencer state's timeout expires and the unit goes to TMO_NEXT with TMO_ACT. -/
def execSequencerTimeout (u : Fin 4) (full : Bool) (cyc : Nat) (s : State) : Host.Outcome State Fault Refusal :=
  .next (whenB (capExpires (s.atCyc cyc) u.val) (capSample u.val full) (s.atCyc cyc))

/-- R411: In MODE 1 the next capture begins after the dead time once blocks are reserved again. -/
def execCaptureRestart (u : Fin 4) (full : Bool) (cyc : Nat) (s : State) : Host.Outcome State Fault Refusal :=
  .next (whenB (capRestarts (s.atCyc cyc) u.val) (capSample u.val full) (s.atCyc cyc))

/-- R414: CE copies a finished block or header into a capture ring once it has room. -/
def execCaptureRingWrite (m : Fin 4) (s : State) : Host.Outcome State Fault Refusal :=
  .next (whenB (s.engWorks eCE && !Table.look false s.clk.late eCE) (capRingWrite m.val) s)

end Sys2Proof.Machine
end

