-- ==== Sys2Proof/Machine/ExecDebug.lean ====
section
/-!
DEFINITION. The meanings of the commands of one family: Debug access and the JTAG port (spec/17_electrical_and_package.md).
Each is one call of the operation that the other files of this folder give; what is not due has no effect.
-/
namespace Sys2Proof.Machine

/-- A write by a path to the DBG block: PCIe through BAR0, or the JTAG port (R580). -/
def dbgAs (jtag : Bool) (a : Nat) (v : W32) (s : State) : State := if jtag then pathWrite .jtag a v s else barWrite a v s
/-- A TAP reset: a JTAG owner detaches (R580); IEEE 1149.1 puts IDCODE in force. -/
def tapReset (s : State) : State := jtagLoad .idcode (if s.get F.dbgCtrl_OWNER = 2 then dbgDetach s else s)

/-- R580: A write of KEY with ATTACH 1 attaches a debug path to the DBG block. -/
def execDebugAttach (x : AttachBy) (s : State) : Host.Outcome State Fault Refusal :=
  .next (dbgAs x.jtag A.dbgCtrl 0xD5B60001 (s.atCyc x.cyc))

/-- R580: A write of ATTACH 0 detaches the path and resumes the halted engines. -/
def execDebugDetach (jtag : Bool) (s : State) : Host.Outcome State Fault Refusal := .next (dbgAs jtag A.dbgCtrl 0 s)

/-- R580: A TAP reset detaches a JTAG owner of the debug block. -/
def execTapReset (s : State) : Host.Outcome State Fault Refusal := .next (tapReset s)

/-- R581: Writing HALT in DBG.ENGe_CTRL stops the engine at the next instruction boundary and sets HALT. -/
def execHalt (jtag : Bool) (e : Fin 40) (s : State) : Host.Outcome State Fault Refusal := .next (dbgAs jtag (A.dbgEngCtrl e.val) 1 s)

/-- R581: Writing RESUME continues a halted engine. -/
def execResume (jtag : Bool) (e : Fin 40) (s : State) : Host.Outcome State Fault Refusal := .next (dbgAs jtag (A.dbgEngCtrl e.val) 2 s)

/-- R581: Writing STEP executes one instruction of a halted engine. -/
def execStep (jtag : Bool) (e : Fin 40) (s : State) : Host.Outcome State Fault Refusal := .next (dbgAs jtag (A.dbgEngCtrl e.val) 4 s)

/-- R581: Writing GO starts a 64-bit debug memory transfer. -/
def execMemoryTransfer (jtag : Bool) (v : W32) (s : State) : Host.Outcome State Fault Refusal :=
  .next (dbgAs jtag A.dbgMemCtrl (v ||| 0x80000000) s)

/-- R581: A debug memory transfer completes within 1 us or sets ERR. -/
def execMemoryTransferDone (s : State) : Host.Outcome State Fault Refusal := .next (dbgTransfer s)

/-- R582: The JTAG BYPASS instruction selects the bypass register. -/
def execBypass (s : State) : Host.Outcome State Fault Refusal := .next (jtagLoad .bypass s)

/-- R582: The JTAG IDCODE instruction returns the revision's IDCODE. -/
def execIdcode (s : State) : Host.Outcome State Fault Refusal := .next (jtagLoad .idcode s)

/-- R582: The JTAG SAMPLE/PRELOAD instruction samples the boundary register. -/
def execSamplePreload (pads : List Bool) (drive : List Bool) (s : State) : Host.Outcome State Fault Refusal :=
  .next (jtagSample pads drive s)

/-- R582: The JTAG EXTEST instruction drives pads from the boundary register while STO_ALL reads 1. -/
def execExtest (s : State) : Host.Outcome State Fault Refusal := .next (jtagLoad .extest s)

/-- R582: The JTAG HIGHZ instruction floats the boundary pads while STO_ALL reads 1. -/
def execHighz (s : State) : Host.Outcome State Fault Refusal := .next (jtagLoad .highz s)

/-- R582: The JTAG CLAMP instruction holds the boundary pads while STO_ALL reads 1. -/
def execClamp (s : State) : Host.Outcome State Fault Refusal := .next (jtagLoad .clamp s)

end Sys2Proof.Machine
end

