-- ==== Sys2Proof/Machine/ExecFbk.lean ====
section
/-!
DEFINITION. The meanings of the commands of one family: Feedback channels and latch inputs (spec/10_feedback_and_latches.md).
Each is one call of the operation that the other files of this folder give; what is not due has no effect.
-/
namespace Sys2Proof.Machine

/-- Whether a sample that begins its acquisition now falls RES_PHASE ns after a positive peak of the excitation, to the cycle (R378). -/
def State.afterPeak (s : State) (n c : Nat) : Bool :=
  let freq := s.get (F.adcPairDac_EXC_FREQ (s.get (F.fbkFbAna_EXC_PAIR n)))
  let per := (rdiv 1000000000 freq).toNat * 2 ^ 32
  let x := s.nowFx + s.acq c * s.clk.incr - s.get (F.fbkFbAna2_RES_PHASE n) * 2 ^ 32
  decide ((x + 3 * per / 4) % per < s.clk.incr)
/-- The converters that serve an enabled resolver channel are triggered (R378). -/
def resolverTrigger (n : Nat) (s : State) : State :=
  if !s.fbRuns n ∨ s.get (F.fbkFbCfg_MODE n) ≠ 6 then s
  else
    let a := s.get (F.fbkFbAna_SIN_IN n)
    let b := s.get (F.fbkFbAna_COS_IN n)
    forEach [a / 6 * 2, a / 6 * 2 + 1] (fun c t =>
      if ((t.convInputs c).contains a || (t.convInputs c).contains b) ∧ t.afterPeak n c then adcTrigger c t.nowFx t else t) s

/-- R353: The FEEDBACK_BIND descriptor binds a feedback channel or latch input to an engine. -/
def execFeedbackBind (d : Desc) (s : State) : Host.Outcome State Fault Refusal := .next (runDesc 0x0700 opFeedbackBind d s)

/-- R362: Setting FBn_CTRL.EN starts the channel's speed measurement afresh. -/
def execFbEnable (who : Option (Fin 38)) (n : Fin 32) (cyc : Nat) (s : State) : Host.Outcome State Fault Refusal :=
  .next (regAs who (A.fbkFbCtrl n.val) 1 (s.atCyc cyc))

/-- R380: Clearing FBn_CTRL.EN stops the channel, and is a channel fault while the channel is in use. -/
def execFbDisable (who : Option (Fin 38)) (n : Fin 32) (cyc : Nat) (s : State) : Host.Outcome State Fault Refusal :=
  .next (regAs who (A.fbkFbCtrl n.val) 0 (s.atCyc cyc))

/-- R357: An accepted quadrature or Hall transition counts, updates the speed or records an illegal transition. -/
def execFbCount (n : Fin 32) (lines : Fin 8) (cyc : Nat) (s : State) : Host.Outcome State Fault Refusal :=
  .next (fbLines n.val lines.val (s.atCyc cyc))

/-- R361: An accepted rising Z edge records ZPOS and ZTIME and increments ZCNT. -/
def execFbIndex (n : Fin 32) (cyc : Nat) (s : State) : Host.Outcome State Fault Refusal := .next (fbIndex n.val (s.atCyc cyc))

/-- R365: No count for STILL_T sets STILL and the speed reads 0. -/
def execFbStill (n : Fin 32) (cyc : Nat) (s : State) : Host.Outcome State Fault Refusal := .next (fbStill n.val (s.atCyc cyc))

/-- R367: A count gate boundary gives the count speed and may change the measurement method. -/
def execFbGate (n : Fin 32) (cyc : Nat) (s : State) : Host.Outcome State Fault Refusal := .next (fbGate n.val (s.atCyc cyc))

/-- R372: A serial encoder read starts at the strobe or sub-tick, or the trigger is skipped. -/
def execSerialReadStart (n : Fin 32) (cyc : Nat) (s : State) : Host.Outcome State Fault Refusal := .next (serialStart n.val (s.atCyc cyc))

/-- R373: A serial read ends and updates POS, or fails and counts towards ERR_LIM. -/
def execSerialReadDone (n : Fin 32) (started : Bool) (raw : W64) (nE : Bool) (nW : Bool) (crc : Fin 64) (cyc : Nat) (s : State) : Host.Outcome State Fault Refusal :=
  .next (serialDone n.val started raw.toNat nE nW crc.val (s.atCyc cyc))

/-- R378: The resolver channel triggers its converters RES_PHASE after each excitation peak. -/
def execResolverTrigger (n : Fin 32) (cyc : Nat) (s : State) : Host.Outcome State Fault Refusal :=
  .next (resolverTrigger n.val (s.atCyc cyc))

/-- R380: A write of 1 to FAULT clears the channel fault and sets REF_LOST. -/
def execFbFaultClear (who : Option (Fin 38)) (n : Fin 32) (cyc : Nat) (s : State) : Host.Outcome State Fault Refusal :=
  .next (regAs who (A.fbkFbStatus n.val) 0x100 (s.atCyc cyc))

/-- R382: A selected edge on an armed latch input is time-stamped and opens a waiting record. -/
def execLatchEdge (i : Fin 16) (rise : Bool) (taps : Fin 128) (cyc : Nat) (s : State) : Host.Outcome State Fault Refusal :=
  .next (latchEdge i.val rise taps.val (s.atCyc cyc))

/-- R386: A waiting latch record completes with its interpolated position and enters the FIFO. -/
def execLatchRecord (i : Fin 16) (s : State) : Host.Outcome State Fault Refusal := .next (latchRecord i.val s)

/-- R384: No completing count within STILL_T completes the record with FRAC_VALID 0. -/
def execLatchRecordTimeout (i : Fin 16) (cyc : Nat) (s : State) : Host.Outcome State Fault Refusal :=
  .next (latchTimeout i.val (s.atCyc cyc))

/-- R382: A write of ARM arms a single-shot latch input. -/
def execLatchArm (who : Option (Fin 38)) (i : Fin 16) (cyc : Nat) (s : State) : Host.Outcome State Fault Refusal :=
  .next (regAs who (A.latLatCtrl i.val) 1 (s.atCyc cyc))

/-- R386: A write of POP removes the oldest latch record. -/
def execLatchPop (who : Option (Fin 38)) (i : Fin 16) (cyc : Nat) (s : State) : Host.Outcome State Fault Refusal :=
  .next (regAs who (A.latLatCtrl i.val) 2 (s.atCyc cyc))

/-- R386: A write of FLUSH removes every latch record, including a waiting one. -/
def execLatchFlush (who : Option (Fin 38)) (i : Fin 16) (cyc : Nat) (s : State) : Host.Outcome State Fault Refusal :=
  .next (regAs who (A.latLatCtrl i.val) 4 (s.atCyc cyc))

/-- R388: Every 1 ms in RUN each delay line is re-measured, and a failure raises LATCH_FAULT. -/
def execTdcRecalibration (i : Fin 16) (ok : Bool) (s : State) : Host.Outcome State Fault Refusal := .next (tdcCheck i.val ok s)

end Sys2Proof.Machine
end

