-- ==== Sys2Proof/Machine/ExecField.lean ====
section
/-!
DEFINITION. The meanings of the commands of one family: Field I/O (spec/14_field_io.md).
Each is one call of the operation that the other files of this folder give; what is not due has no effect.
-/
namespace Sys2Proof.Machine

/-- R498: VFLD below 18.0 V sets FLD_UV and raises FLD_SUPPLY. -/
def execFldUvSet (mv : BitVec 16) (cyc : Nat) (s : State) : Host.Outcome State Fault Refusal := .next (fldUvSet mv.toNat (s.atCyc cyc))

/-- R498: VFLD above 18.0 V clears FLD_UV. -/
def execFldUvClear (mv : BitVec 16) (cyc : Nat) (s : State) : Host.Outcome State Fault Refusal := .next (fldUvClear mv.toNat (s.atCyc cyc))

/-- R498: VFLD below 11.0 V switches every output off and latches FLD_OFF. -/
def execFldOff (mv : BitVec 16) (cyc : Nat) (s : State) : Host.Outcome State Fault Refusal := .next (fldOff mv.toNat (s.atCyc cyc))

/-- R498: VFLD above 11.0 V with FLD_OFF set resumes input filtering. -/
def execInValid (mv : BitVec 16) (cyc : Nat) (s : State) : Host.Outcome State Fault Refusal := .next (fldInValid mv.toNat (s.atCyc cyc))

/-- R499: The FIELD_REENABLE descriptor clears FLD_OFF while VFLD lies above 18.0 V. -/
def execFieldReenable (d : Desc) (s : State) : Host.Outcome State Fault Refusal := .next (runDesc 0x0B01 opFieldReenable d s)

/-- R508: The FIELD_OUT descriptor stores new commands of the masked outputs. -/
def execFieldOut (d : Desc) (s : State) : Host.Outcome State Fault Refusal := .next (runDesc 0x0B00 opFieldOut d s)

/-- R508: At the next strobe the field side switches the outputs to their commands. -/
def execFieldOutputUpdate (read : BitVec 16) (s : State) : Host.Outcome State Fault Refusal := .next (outputUpdate read s)

/-- R503: A field input's counter reaches a bound and the input takes a new level. -/
def execFieldInput (j : Fin 32) (samples : List Bool) (cyc : Nat) (s : State) : Host.Outcome State Fault Refusal :=
  .next (inputSamples j.val samples (s.atCyc cyc))

/-- R503: A write changing FILT clamps the input counter to the new FILT. -/
def execInFiltWrite (m : Fin 8) (v : W32) (s : State) : Host.Outcome State Fault Refusal := .next (barWrite (A.dioInFilt m.val) v s)

/-- R505: An output enters current limit and OVERLOAD sets. -/
def execOverload (q : Fin 16) (s : State) : Host.Outcome State Fault Refusal := .next (overload q.val s)

/-- R505: An output in current limit reaches its thermal limit and turns off. -/
def execThermalOffPhase (q : Fin 16) (s : State) : Host.Outcome State Fault Refusal := .next (thermalOff q.val s)

/-- R505: An output in a thermal off phase cools and turns on again. -/
def execThermalOffEnd (q : Fin 16) (s : State) : Host.Outcome State Fault Refusal := .next (thermalOffEnd q.val s)

/-- R506: An output commanded off reads above 11 V for 1 ms and EXT_HIGH sets. -/
def execExtHigh (q : Fin 16) (s : State) : Host.Outcome State Fault Refusal := .next (extHigh q.val s)

/-- R509: An output without refresh for 2 ms holds its last command and HOLD_SEEN sets. -/
def execHoldSeen (s : State) : Host.Outcome State Fault Refusal := .next (holdSeen s)

/-- R511: A coupler without a toggle for 1 ms is faulted and its channel holds. -/
def execFieldCpl (out : Bool) (ch : Fin 32) (cyc : Nat) (s : State) : Host.Outcome State Fault Refusal :=
  .next (cplFault out ch.val (s.atCyc cyc))

/-- R511: The coupler toggle returns, the fault bit clears and the channel resumes. -/
def execCouplerRestored (out : Bool) (ch : Fin 32) (s : State) : Host.Outcome State Fault Refusal := .next (cplRestored out ch.val s)

end Sys2Proof.Machine
end

