-- ==== Sys2Proof/Machine/ExecFlow.lean ====
section
/-!
DEFINITION. The meanings of the commands of one family: Branches, the tick handshake, control registers and DMA of the Spar engines (R282 to R296).
Each is one call of the operation that the other files of this folder give; what is not due has no effect.
-/
namespace Sys2Proof.Machine

/-- The register set that is not in use (R259). -/
def Eng.other (x : Eng) : RegSet := if x.inH then x.base else x.intr

/-- R282: The BEQZ branch is taken when the register is zero. -/
def execBeqz (i : SparAt) (ra : Fin 64) (off : BitVec 16) (s : State) : Host.Outcome State Fault Refusal :=
  .next (sparStep i (fun s => branchIf i.e.val ((s.g i.e.val ra.val) == 0) off s) s)

/-- R282: The BNEZ branch is taken when the register is not zero. -/
def execBnez (i : SparAt) (ra : Fin 64) (off : BitVec 16) (s : State) : Host.Outcome State Fault Refusal :=
  .next (sparStep i (fun s => branchIf i.e.val ((s.g i.e.val ra.val) != 0) off s) s)

/-- R282: The BLTZ branch is taken when the register is negative. -/
def execBltz (i : SparAt) (ra : Fin 64) (off : BitVec 16) (s : State) : Host.Outcome State Fault Refusal :=
  .next (sparStep i (fun s => branchIf i.e.val (decide ((s.g i.e.val ra.val).toInt < 0)) off s) s)

/-- R282: The BGEZ branch is taken when the register is zero or positive. -/
def execBgez (i : SparAt) (ra : Fin 64) (off : BitVec 16) (s : State) : Host.Outcome State Fault Refusal :=
  .next (sparStep i (fun s => branchIf i.e.val (decide (0 ≤ (s.g i.e.val ra.val).toInt)) off s) s)

/-- R282: The BGTZ branch is taken when the register is positive. -/
def execBgtz (i : SparAt) (ra : Fin 64) (off : BitVec 16) (s : State) : Host.Outcome State Fault Refusal :=
  .next (sparStep i (fun s => branchIf i.e.val (decide (0 < (s.g i.e.val ra.val).toInt)) off s) s)

/-- R282: The BLEZ branch is taken when the register is zero or negative. -/
def execBlez (i : SparAt) (ra : Fin 64) (off : BitVec 16) (s : State) : Host.Outcome State Fault Refusal :=
  .next (sparStep i (fun s => branchIf i.e.val (decide ((s.g i.e.val ra.val).toInt ≤ 0)) off s) s)

/-- R282: The B branch is always taken. -/
def execB (i : SparAt) (off : BitVec 16) (s : State) : Host.Outcome State Fault Refusal :=
  .next (sparStep i (fun s => jumpBy i.e.val off s) s)

/-- R282: The BLOOP branch decrements LC and is taken while it is not zero. -/
def execBloop (i : SparAt) (off : BitVec 16) (s : State) : Host.Outcome State Fault Refusal :=
  .next (sparStep i (fun s => opBloop i.e.val off s) s)

/-- R260: The BLOOPR branch acts as BLOOP and decrements RRB. -/
def execBloopr (i : SparAt) (off : BitVec 16) (s : State) : Host.Outcome State Fault Refusal :=
  .next (sparStep i (fun s => opBloopr i.e.val off s) s)

/-- R282: The JAL instruction saves the return address and jumps. -/
def execJal (i : SparAt) (rd : Fin 64) (off : BitVec 16) (s : State) : Host.Outcome State Fault Refusal :=
  .next (sparStep i (fun s => jumpBy i.e.val off (s.setG i.e.val rd.val (BitVec.ofNat 64 (s.eng i.e.val).pc))) s)

/-- R282: The JR instruction jumps to the address in a register. -/
def execJr (i : SparAt) (ra : Fin 64) (s : State) : Host.Outcome State Fault Refusal :=
  .next (sparStep i (fun s => s.updEng i.e.val (fun x => { x with pc := (s.g i.e.val ra.val).toNat % 2 ^ 32 / 4 * 4 })) s)

/-- R294: The MFC instruction reads a control register. -/
def execMfc (i : SparAt) (rd : Fin 64) (num : BitVec 8) (s : State) : Host.Outcome State Fault Refusal :=
  .next (sparStep i (fun s => opMfc i.e.val rd.val num.toNat s) s)

/-- R294: The MTC instruction writes a control register, including DMA starts and W1C clears. -/
def execMtc (i : SparAt) (ra : Fin 64) (num : BitVec 8) (s : State) : Host.Outcome State Fault Refusal :=
  .next (sparStep i (fun s => opMtc i.e.val ra.val num.toNat s) s)

/-- R259: The MFS instruction copies a register of the other set. -/
def execMfs (i : SparAt) (rd : Fin 64) (ra : Fin 64) (s : State) : Host.Outcome State Fault Refusal :=
  .next (sparStep i (fun s => s.setG i.e.val rd.val ((s.eng i.e.val).other.rd ra.val)) s)

/-- R259: The MTS instruction copies a register into the other set. -/
def execMts (i : SparAt) (rd : Fin 64) (ra : Fin 64) (s : State) : Host.Outcome State Fault Refusal :=
  .next (sparStep i (fun s => s.updEng i.e.val (fun x => x.updOther (fun y => y.wr rd.val (s.g i.e.val ra.val)))) s)

/-- R279: The NOP instruction does nothing. -/
def execSparNop (i : SparAt) (s : State) : Host.Outcome State Fault Refusal := .next (sparStep i (fun s => s) s)

/-- R288: The DONE instruction signals done for the present tick, or ends a late tick. -/
def execDone (i : SparAt) (s : State) : Host.Outcome State Fault Refusal := .next (sparStep i (fun s => opDone i.e.val s) s)

/-- R289: The WAITT instruction signals done if needed and waits for the next strobe. -/
def execWaitt (i : SparAt) (s : State) : Host.Outcome State Fault Refusal := .next (sparStep i (fun s => opWaitt i.e.val s) s)

/-- R279: The WAITC instruction waits for the Halyard input cutoff of the present tick. -/
def execWaitc (i : SparAt) (s : State) : Host.Outcome State Fault Refusal := .next (sparStep i (fun s => opWaitc i.e.val s) s)

/-- R284: The RETI instruction leaves the handler or enters the next pending vector. -/
def execReti (i : SparAt) (s : State) : Host.Outcome State Fault Refusal := .next (sparStep i (fun s => opReti i.e.val s) s)

/-- R296: The BRK instruction halts the engine in SERVICE with a debugger attached, otherwise acts as NOP. -/
def execBrk (i : SparAt) (s : State) : Host.Outcome State Fault Refusal := .next (sparStep i (fun s => opBrk i.e.val s) s)

/-- R264: The FENCE.IO instruction waits until every posted I/O write has arrived. -/
def execFenceIo (i : SparAt) (s : State) : Host.Outcome State Fault Refusal := .next (sparStep i (fun s => s) s)

/-- R279: An instruction word whose encoding is undefined, or that uses a reserved field value, raises an illegal-instruction exception. -/
def execIllegalInstruction (i : SparAt) (w : W32) (s : State) : Host.Outcome State Fault Refusal :=
  .next (sparStep i (fun s => if sparLegal w then s else sparExc i.e.val 1 w.toNat s) s)

/-- R293: An engine DMA transfer completes, sets DONE, clears BUSY and raises the DMA interrupt. -/
def execDmaComplete (e : Fin 38) (cyc : Nat) (s : State) : Host.Outcome State Fault Refusal := .next (dmaComplete e.val (s.atCyc cyc))

end Sys2Proof.Machine
end

