-- ==== Sys2Proof/Machine/ExecHost.lean ====
section
/-!
DEFINITION. The meanings of the commands of one family: The host interface (spec/02_host_rings.md).
Each is one call of the operation that the other files of this folder give; what is not due has no effect.
-/
namespace Sys2Proof.Machine

/-- The event ring's doorbell waits for VE's next step (R65, R83). -/
def evDoorbell (v : W32) (s : State) : State := if !s.ready then s else { s with host := { s.host with evDb := some v } }
/-- A capture ring's doorbell waits likewise (R65, R415). -/
def crDoorbell (m : Nat) (v : W32) (s : State) : State :=
  if !s.ready then s else { s with host := { s.host with crDb := Table.put none m (some v) s.host.crDb } }
/-- Both words of a 64-bit register are written, low word first; they take effect together with the high word (R8). -/
def hostWrite64 (a : Nat) (v : W64) (s : State) : State :=
  if wideWritable a then barWrite (a + 4) (v.extractLsb' 32 32) (barWrite a (v.extractLsb' 0 32) s) else s

/-- R55: A function level reset, D3hot entry, link down or Bus Master Enable clear makes VE expire armed watchdogs, disable every ring and
raise HOST_LOSS. -/
def execHostLoss (kind : Fin 4) (s : State) : Host.Outcome State Fault Refusal := .next (hostLoss kind.val s)

/-- R71: A write to a submission-ring doorbell records SQ_TAIL and CQ_HEAD and counts as a watchdog arrival. -/
def execSubmissionDoorbell (n : Fin 64) (t : Option W32) (k : Option W32) (s : State) : Host.Outcome State Fault Refusal :=
  .next (doorbell n.val t k s)

/-- R83: A write to the event ring doorbell records the host's event count. -/
def execEventRingDoorbell (v : W32) (s : State) : Host.Outcome State Fault Refusal := .next (evDoorbell v s)

/-- R415: A write to a CR doorbell records the released count and frees the released blocks. -/
def execCaptureRingDoorbell (m : Fin 4) (v : W32) (s : State) : Host.Outcome State Fault Refusal := .next (crDoorbell m.val v s)

/-- R73: Setting RINGn_CFG.EN enables a submission ring with its effective grant or leaves it disabled with NO_GRANT. -/
def execRingEnable (n : Fin 64) (v : W32) (s : State) : Host.Outcome State Fault Refusal :=
  .next (barWrite (A.hriRingCfg n.val) (v ||| 0x80000000) s)

/-- R75: Clearing RINGn_CFG.EN disables a submission ring, zeroes its counts and discards fetched descriptors. -/
def execRingDisable (n : Fin 64) (v : W32) (s : State) : Host.Outcome State Fault Refusal :=
  .next (barWrite (A.hriRingCfg n.val) (v &&& 0x7FFFFFFF) s)

/-- R83: Setting EVT_CFG.EN enables the event ring with its written count at 0. -/
def execEventRingEnable (v : W32) (s : State) : Host.Outcome State Fault Refusal := .next (barWrite A.hriEvtCfg (v ||| 0x80000000) s)

/-- R83: Clearing EVT_CFG.EN disables the event ring; events then stay in the internal buffer. -/
def execEventRingDisable (v : W32) (s : State) : Host.Outcome State Fault Refusal := .next (barWrite A.hriEvtCfg (v &&& 0x7FFFFFFF) s)

/-- R85: Setting CRm_CFG.EN enables a capture ring. -/
def execCaptureRingEnable (m : Fin 4) (v : W32) (s : State) : Host.Outcome State Fault Refusal :=
  .next (barWrite (A.hriCrCfg m.val) (v ||| 0x80000000) s)

/-- R415: Clearing CRm_CFG.EN disables a capture ring and frees every block handed to it and not released. -/
def execCaptureRingDisable (m : Fin 4) (v : W32) (s : State) : Host.Outcome State Fault Refusal :=
  .next (barWrite (A.hriCrCfg m.val) (v &&& 0x7FFFFFFF) s)

/-- R76: A fetch or record write that ends in an error puts the ring into its error state and raises RING_DMA_ERROR. -/
def execRingDmaError (ring : Fin 69) (wr : Bool) (addr : W64) (s : State) : Host.Outcome State Fault Refusal :=
  .next (dmaError ring.val wr addr s)

/-- R81: An expired ring watchdog sets WD_EXP, raises RING_WATCHDOG and acts as WD_ACT selects. -/
def execRingWatchdog (n : Fin 64) (s : State) : Host.Outcome State Fault Refusal := .next (ringWatchdog n.val s)

/-- R63: The NOP descriptor has no effect and receives a completion. -/
def execNop (d : Desc) (s : State) : Host.Outcome State Fault Refusal := .next (runDesc 0x0000 opNop d s)

/-- R64: The FENCE descriptor holds back the later descriptors of its ring until the covered descriptors are done. -/
def execFence (d : Desc) (s : State) : Host.Outcome State Fault Refusal := .next (runDesc 0x0001 opFence d s)

/-- R64: The descriptors held behind a FENCE are applied once every covered descriptor is done, with HELD set. -/
def execFenceRelease (n : Fin 64) (s : State) : Host.Outcome State Fault Refusal := .next (fenceGo n.val s)

/-- R62: A descriptor whose OPCODE is not defined has no effect, uses its credit and receives a completion with REJECTED_OPCODE. -/
def execRejectedOpcode (opcode : BitVec 16) (d : Desc) (s : State) : Host.Outcome State Fault Refusal := .next (rejectDesc opcode.toNat d s)

/-- R8: Reading the low word of a 64-bit register latches its high word. -/
def execWideRegisterRead (r : RegAt) (s : State) : Host.Outcome State Fault Refusal := .next (pathRead r.path r.a.toNat s)

/-- R8: Writing the high word of a 64-bit register makes both words take effect. -/
def execWideRegisterWrite (a : BitVec 18) (v : W64) (s : State) : Host.Outcome State Fault Refusal := .next (hostWrite64 a.toNat v s)

/-- R425: Reading PTP.TIME_LO latches TIME_HI and TIME_FRAC. -/
def execTimeRead (word : Fin 3) (cyc : Nat) (s : State) : Host.Outcome State Fault Refusal :=
  .next (hostRead (A.ptpTimeLo + 4 * word.val) (s.atCyc cyc))

/-- R324: Reading an input's RES latches the TIME of the same result. -/
def execResRead (sdi : Bool) (k : Fin 96) (word : Fin 2) (s : State) : Host.Outcome State Fault Refusal :=
  .next (whenB (s.inPresent sdi k.val) (hostRead ((if sdi then A.adcSdiRes k.val else A.adcAinRes k.val) + 4 * word.val)) s)

/-- R342: Reading SEG0_SUM latches SEG1_SUM, SEG_CNT and SEG_TIME of the same publication. -/
def execSeg0SumRead (sdi : Bool) (k : Fin 96) (word : Fin 4) (s : State) : Host.Outcome State Fault Refusal :=
  .next (whenB (s.inPresent sdi k.val) (hostRead (inSeg0 sdi k.val + 4 * word.val)) s)

/-- R362: Reading FBn_POS latches POS_TIME and the speed of the same moment. -/
def execPosRead (n : Fin 32) (word : Fin 4) (cyc : Nat) (s : State) : Host.Outcome State Fault Refusal :=
  .next (hostRead (A.fbkFbPos n.val + 4 * word.val) (s.atCyc cyc))

/-- R10: A write to a register without a row of its own acts by its access type. -/
def execRegisterWrite (p : RegPath) (a : BitVec 20) (v : W32) (cyc : Nat) (s : State) : Host.Outcome State Fault Refusal :=
  .next (pathWrite p a.toNat v (s.atCyc cyc))

end Sys2Proof.Machine
end

