-- ==== Sys2Proof/Machine/ExecImage.lean ====
section
/-!
DEFINITION. The meanings of the commands of one family: Images and update (spec/16_images_and_update.md).
Each is one call of the operation that the other files of this folder give; what is not due has no effect.
-/
namespace Sys2Proof.Machine

/-- R539: The IMAGE_STORE descriptor fetches and checks an image and starts its store write. -/
def execImageStore (d : Desc) (s : State) : Host.Outcome State Fault Refusal := .next (runDesc 0x0400 opImageStore d s)

/-- R539: A store write ends with its read-back and IMAGE_STORED is raised. -/
def execImageStored (ok : Bool) (s : State) : Host.Outcome State Fault Refusal := .next (imageStored ok s)

/-- R546: The IMAGE_LOAD descriptor checks an image for the masked engines and reloads or stages it. -/
def execImageLoad (d : Desc) (s : State) : Host.Outcome State Fault Refusal := .next (runDesc 0x0401 opImageLoad d s)

/-- R547: A reload finishes loading code and data and the engine restarts at the next strobe. -/
def execEngineReload (e : Fin 34) (s : State) : Host.Outcome State Fault Refusal := .next (engineReload e.val s)

/-- R548: Staging of the whole mask completes and the swap may be armed. -/
def execImageStaged (e : Fin 34) (s : State) : Host.Outcome State Fault Refusal := .next (imageStaged e.val s)

/-- R549: The IMAGE_SWAP descriptor arms the swap of a staged image. -/
def execImageSwap (d : Desc) (s : State) : Host.Outcome State Fault Refusal := .next (runDesc 0x0402 opSwapAny (d.force 1 63 63 0) s)

/-- R552: IMAGE_SWAP with ROLLBACK swaps back to the previous image or ends probation in a rollback. -/
def execImageRollback (d : Desc) (s : State) : Host.Outcome State Fault Refusal := .next (runDesc 0x0402 opSwapAny (d.force 1 63 63 1) s)

/-- R550: At the first strobe after a tick in which every masked engine signalled done all engines swap banks. -/
def execSwapTakeEffect (e : Fin 34) (s : State) : Host.Outcome State Fault Refusal := .next (swapTake e.val s)

/-- R549: No swap strobe within TRIES strobes abandons the swap. -/
def execSwapAbandon (e : Fin 34) (s : State) : Host.Outcome State Fault Refusal := .next (swapAbandon e.val s)

/-- R551: An overrun, exception, fault or mode decision during probation rolls the swap back at the next strobe. -/
def execSwapRollback (e : Fin 34) (s : State) : Host.Outcome State Fault Refusal := .next (swapRollback e.val s)

/-- R551: Probation ends without rollback, SWAP_END is raised and the boot slots may be written. -/
def execProbationEnd (e : Fin 34) (s : State) : Host.Outcome State Fault Refusal := .next (probationEnd e.val s)

/-- R551: A boot-slot write waiting for the flash-write window is made. -/
def execBootSlotWrite (s : State) : Host.Outcome State Fault Refusal := .next (bootSlotWrite s)

/-- R545: The IMAGE_OVERRIDE descriptor loads the failed images of a quarantined group and takes it to IDLE. -/
def execImageOverride (d : Desc) (s : State) : Host.Outcome State Fault Refusal := .next (runDesc 0x0403 opImageOverride d s)

/-- R554: The ENGINE_PARAM descriptor writes words into an engine's parameter window. -/
def execEngineParam (d : Desc) (s : State) : Host.Outcome State Fault Refusal := .next (runDesc 0x0404 opEngineParam d s)

/-- R555: The IMAGE_KEY descriptor stores the integrator's public key. -/
def execImageKey (d : Desc) (s : State) : Host.Outcome State Fault Refusal := .next (runDesc 0x0405 opImageKey d s)

end Sys2Proof.Machine
end

