-- ==== Sys2Proof/Machine/ExecLoop.lean ====
section
/-!
DEFINITION. The meanings of the commands of one family: Servo loops and self-commissioning (spec/05_servo_loops.md).
Each is one call of the operation that the other files of this folder give; what is not due has no effect.
-/
namespace Sys2Proof.Machine

/-- R210: The MOTOR descriptor sets a local axis's motor, feedback, current limits and bus configuration. -/
def execMotor (d : Desc) (s : State) : Host.Outcome State Fault Refusal := .next (runDesc 0x0200 opMotor d s)

/-- R178: The ISENSE descriptor sets the current-sensing inputs and mode of a local axis. -/
def execIsense (d : Desc) (s : State) : Host.Outcome State Fault Refusal := .next (runDesc 0x0201 opIsense d s)

/-- R210: The CURRENT_LOOP descriptor sets the current-loop gains and feed-forward. -/
def execCurrentLoop (d : Desc) (s : State) : Host.Outcome State Fault Refusal := .next (runDesc 0x0202 opCurrentLoop d s)

/-- R183: The VELOCITY_LOOP descriptor sets the speed source, gains, filter and scale bounds. -/
def execVelocityLoop (d : Desc) (s : State) : Host.Outcome State Fault Refusal := .next (runDesc 0x0203 opVelocityLoop d s)

/-- R187: The POSITION_LOOP descriptor sets the position channel, gain, feed-forward and following-error limit. -/
def execPositionLoop (d : Desc) (s : State) : Host.Outcome State Fault Refusal := .next (runDesc 0x0204 opPositionLoop d s)

/-- R190: The NOTCH descriptor sets a parametric or tracking notch of an axis. -/
def execNotch (d : Desc) (s : State) : Host.Outcome State Fault Refusal := .next (runDesc 0x0205 opNotch d s)

/-- R191: The NOTCH_RAW descriptor loads biquad coefficients directly with the pole pair clamped. -/
def execNotchRaw (d : Desc) (s : State) : Host.Outcome State Fault Refusal := .next (runDesc 0x0206 opNotchRaw d s)

/-- R200: The STEPPER descriptor sets load-following, open-loop and stall settings of a stepper slot. -/
def execStepper (d : Desc) (s : State) : Host.Outcome State Fault Refusal := .next (runDesc 0x0207 opStepper d s)

/-- R203: The IDENTIFY descriptor starts self-commissioning of one axis of a group. -/
def execIdentify (d : Desc) (s : State) : Host.Outcome State Fault Refusal := .next (runDesc 0x0208 opIdentifyAny (d.force 1 13 13 0) s)

/-- R207: IDENTIFY with ABORT stops the running identification and holds its results. -/
def execIdentifyAbort (d : Desc) (s : State) : Host.Outcome State Fault Refusal :=
  .next (runDesc 0x0208 opIdentifyAny (d.force 1 13 13 1) s)

/-- R203: An identification step completes and the next step of Table 5.8 begins, ending in DONE or ABORTED. -/
def execIdState (a : Fin 256) (r : IdResult) (cause : Option (Fin 256)) (s : State) : Host.Outcome State Fault Refusal :=
  .next (idStep a.val r (cause.map (·.val)) s)

/-- R210: The LOOP_REPORT descriptor writes the 128-byte loop report to host memory. -/
def execLoopReport (d : Desc) (s : State) : Host.Outcome State Fault Refusal := .next (runDesc 0x0209 opLoopReport d s)

/-- R210: The ID_REPORT descriptor writes the 128-byte identification report to host memory. -/
def execIdReport (d : Desc) (s : State) : Host.Outcome State Fault Refusal := .next (runDesc 0x020A opIdReport d s)

/-- R195: The LOOP_FLAGS_CLR descriptor clears sticky flags of the loop stages at the next strobe. -/
def execLoopFlagsClr (d : Desc) (s : State) : Host.Outcome State Fault Refusal := .next (runDesc 0x020B opLoopFlagsClr d s)

end Sys2Proof.Machine
end

