-- ==== Sys2Proof/Machine/ExecMac.lean ====
section
/-!
DEFINITION. The meanings of the commands of one family: Multiply-accumulate, extraction, division and functions of the Spar engines (R273 to R276).
Each is one call of the operation that the other files of this folder give; what is not due has no effect.
-/
namespace Sys2Proof.Machine

/-- R273: The MUL instruction replaces an accumulator with the product. -/
def execMul (i : SparAt) (ra : Fin 64) (rb : Fin 64) (acc : Bool) (sg : MacSign) (s : State) : Host.Outcome State Fault Refusal :=
  .next (sparStep i (fun s => macTo i.e.val ra.val rb.val acc sg (fun _ p => p) s) s)

/-- R273: The MAC instruction adds the product to an accumulator. -/
def execMac (i : SparAt) (ra : Fin 64) (rb : Fin 64) (acc : Bool) (sg : MacSign) (s : State) : Host.Outcome State Fault Refusal :=
  .next (sparStep i (fun s => macTo i.e.val ra.val rb.val acc sg (fun a p => a + p) s) s)

/-- R273: The MSU instruction subtracts the product from an accumulator. -/
def execMsu (i : SparAt) (ra : Fin 64) (rb : Fin 64) (acc : Bool) (sg : MacSign) (s : State) : Host.Outcome State Fault Refusal :=
  .next (sparStep i (fun s => macTo i.e.val ra.val rb.val acc sg (fun a p => a - p) s) s)

/-- R273: The MULLD instruction replaces the accumulator with the product and reloads both operands through AGX and AGY. -/
def execMulld (i : SparAt) (ra : Fin 64) (rb : Fin 64) (agx : Fin 4) (agy : Fin 4) (acc : Bool) (sg : MacSign) (s : State) : Host.Outcome State Fault Refusal :=
  .next (sparStep i (fun s => macLoad i.e.val ra.val rb.val 4 agx.val agy.val acc sg (fun _ p => p) s) s)

/-- R273: The MACLD instruction adds the product and reloads both operands. -/
def execMacld (i : SparAt) (ra : Fin 64) (rb : Fin 64) (agx : Fin 4) (agy : Fin 4) (acc : Bool) (sg : MacSign) (s : State) : Host.Outcome State Fault Refusal :=
  .next (sparStep i (fun s => macLoad i.e.val ra.val rb.val 5 agx.val agy.val acc sg (fun a p => a + p) s) s)

/-- R273: The MSULD instruction subtracts the product and reloads both operands. -/
def execMsuld (i : SparAt) (ra : Fin 64) (rb : Fin 64) (agx : Fin 4) (agy : Fin 4) (acc : Bool) (sg : MacSign) (s : State) : Host.Outcome State Fault Refusal :=
  .next (sparStep i (fun s => macLoad i.e.val ra.val rb.val 6 agx.val agy.val acc sg (fun a p => a - p) s) s)

/-- R274: The EXTR instruction extracts a shifted, rounded and saturated value from an accumulator. -/
def execExtr (i : SparAt) (rd : Fin 64) (shift : Fin 128) (acc : Bool) (rnd : Bool) (s : State) : Host.Outcome State Fault Refusal :=
  .next (sparStep i (fun s => opExtr i.e.val rd.val shift.val acc rnd s) s)

/-- R274: The ACLD instruction loads an accumulator with a shifted register. -/
def execAcld (i : SparAt) (ra : Fin 64) (shift : Fin 128) (acc : Bool) (s : State) : Host.Outcome State Fault Refusal :=
  .next (sparStep i (fun s => opAcld i.e.val ra.val shift.val acc s) s)

/-- R274: The NORMA instruction counts the bits below bit 159 of an accumulator equal to its sign. -/
def execNorma (i : SparAt) (rd : Fin 64) (acc : Bool) (s : State) : Host.Outcome State Fault Refusal :=
  .next (sparStep i (fun s => s.setG i.e.val rd.val (BitVec.ofNat 64 (normOf 159 (s.acc i.e.val acc).toInt))) s)

/-- R276: The DIV instruction divides signed registers over 18 cycles. -/
def execDiv (i : SparAt) (rd : Fin 64) (ra : Fin 64) (rb : Fin 64) (s : State) : Host.Outcome State Fault Refusal :=
  .next (sparStep i (fun s => opDivide i.e.val rd.val true (s.g i.e.val ra.val).toInt (s.g i.e.val rb.val).toInt s) s)

/-- R276: The DIVU instruction divides unsigned registers over 18 cycles. -/
def execDivu (i : SparAt) (rd : Fin 64) (ra : Fin 64) (rb : Fin 64) (s : State) : Host.Outcome State Fault Refusal :=
  .next (sparStep i (fun s => opDivide i.e.val rd.val false (s.g i.e.val ra.val).toNat (s.g i.e.val rb.val).toNat s) s)

/-- R276: The DIVA0 instruction divides acc0 by a register over 34 cycles. -/
def execDiva0 (i : SparAt) (rd : Fin 64) (ra : Fin 64) (s : State) : Host.Outcome State Fault Refusal :=
  .next (sparStep i (fun s => opDivide i.e.val rd.val true (s.acc i.e.val false).toInt (s.g i.e.val ra.val).toInt s) s)

/-- R276: The DIVA1 instruction divides acc1 by a register over 34 cycles. -/
def execDiva1 (i : SparAt) (rd : Fin 64) (ra : Fin 64) (s : State) : Host.Outcome State Fault Refusal :=
  .next (sparStep i (fun s => opDivide i.e.val rd.val true (s.acc i.e.val true).toInt (s.g i.e.val ra.val).toInt s) s)

/-- R276: The SQRTU instruction gives the floor of the unsigned square root. -/
def execSqrtu (i : SparAt) (rd : Fin 64) (ra : Fin 64) (s : State) : Host.Outcome State Fault Refusal :=
  .next (sparStep i (fun s => op1 i.e.val rd.val ra.val (fun a => noSat (BitVec.ofNat 64 (isqrt a.toNat))) s) s)

/-- R276: The SINCOS instruction writes sine and cosine of an angle in Q2.30. -/
def execSincos (i : SparAt) (rd : Fin 64) (ra : Fin 64) (rb : Fin 64) (s : State) : Host.Outcome State Fault Refusal :=
  .next (sparStep i (fun s => opSincos i.e.val rd.val rb.val ((s.g i.e.val ra.val).setWidth 32) s) s)

/-- R276: The ATAN2 instruction gives the angle of a vector. -/
def execAtan2 (i : SparAt) (rd : Fin 64) (ra : Fin 64) (rb : Fin 64) (s : State) : Host.Outcome State Fault Refusal :=
  .next (sparStep i (fun s => op2 i.e.val rd.val ra.val rb.val (fun a b => noSat (BitVec.ofNat 64 (angleOfVec a.toInt b.toInt))) s) s)

end Sys2Proof.Machine
end

