-- ==== Sys2Proof/Machine/ExecMode.lean ====
section
/-!
DEFINITION. The meanings of the commands of one family: Modes, resets, start-up and the life cycle (spec/03_modes_and_startup.md).
Each is one call of the operation that the other files of this folder give; what is not due has no effect.
-/
namespace Sys2Proof.Machine

/-- R101: The MODE descriptor requests a device mode change, reporting REASON and MODE_AFTER. -/
def execMode (d : Desc) (s : State) : Host.Outcome State Fault Refusal := .next (runDesc 0x0002 opMode d s)

/-- R103: The GROUP_CLR field of MODE clears the fault of the named groups and begins the reload of their faulted engines. -/
def execGroupClr (d : Desc) (s : State) : Host.Outcome State Fault Refusal := .next (runDesc 0x0002 opMode (d.force 1 3 0 0xF) s)

/-- R103: A recovered engine signals its first done, FAULT clears and the named groups go from FAULTED to IDLE. -/
def execEngineRecovered (e : Fin 38) (s : State) : Host.Outcome State Fault Refusal := .next (engineRecovered e.val s)

/-- R98: The 20 ms Backstay window expires without VMAIN returning and HAULDOWN is decided. -/
def execBackstayWindowExpiry (cyc : Nat) (s : State) : Host.Outcome State Fault Refusal := .next (windowExpiry (s.atCyc cyc))

/-- R105: Both supplies below 5.5 V then one above 6 V reset the module and the Shroud. -/
def execPowerOnReset (also : BitVec 7) (s : State) : Host.Outcome State Fault Refusal := .next (powerOnReset also.toNat s)

/-- R105: RST_n low for at least 1 us resets the module and the Shroud. -/
def execPadReset (also : BitVec 7) (s : State) : Host.Outcome State Fault Refusal := .next (padReset also.toNat s)

/-- R105: PERST_n asserted while PERST_ACT is 1 resets the module while the Shroud holds STO. -/
def execPerstReset (also : BitVec 7) (s : State) : Host.Outcome State Fault Refusal := .next (perstReset also.toNat s)

/-- R106: A write of the key with SOFT to GLB.RESET_CTRL resets the module or is refused with REFUSED set. -/
def execSoftReset (v : W32) (s : State) : Host.Outcome State Fault Refusal := .next (barWrite A.glbResetCtrl v s)

/-- R51: The PLL loses lock or the reference stops, setting LOCK_LOSS or REF_LOSS. -/
def execPllLockLoss (refLoss : Bool) (s : State) : Host.Outcome State Fault Refusal := .next (pllLoss refLoss s)

/-- R105: Lock not regained within 1 ms of a loss resets the module. -/
def execPllReset (also : BitVec 7) (s : State) : Host.Outcome State Fault Refusal := .next (pllReset also.toNat s)

/-- R105: VE signalling no done in the 100 ticks after a restart resets the module. -/
def execSupervisorReset (also : BitVec 7) (s : State) : Host.Outcome State Fault Refusal := .next (supervisorReset also.toNat s)

/-- R109: The PLL locks in start-up step 1, or step 1 repeats after 10 ms without lock. -/
def execPllLock (ok : Bool) (s : State) : Host.Outcome State Fault Refusal := .next (pllLock ok s)

/-- R110: The start-up memory wipe ends and the device enters CALIBRATE, or stops with BOOT_ERR on a read-back mismatch. -/
def execMemoryWipeComplete (ok : Bool) (ms : Nat) (s : State) : Host.Outcome State Fault Refusal := .next (wipeComplete ok ms s)

/-- R111: Self-calibration ends, marking failed units, and from STANDBY the device returns to STANDBY. -/
def execCalibrationDone (c : CalResult) (s : State) : Host.Outcome State Fault Refusal := .next (calibrationDone c s)

/-- R112: The image checks of step 4 end, READY sets and the device enters STANDBY, QUARANTINE or THERMAL_HOLD. -/
def execStartUp (pairs : List (Nat × Nat × BitVec 256)) (readyMs : Nat) (s : State) : Host.Outcome State Fault Refusal :=
  .next (startUp pairs readyMs s)

/-- R115: A write of GLB.LC_CTRL with CONFIRM in a safety session requests a life-cycle change or sets REFUSED with a reason. -/
def execLcChangeRequest (v : W32) (s : State) : Host.Outcome State Fault Refusal := .next (barWrite A.glbLcCtrl v s)

/-- R116: An accepted life-cycle change finishes writing state and wipe, clears the mark and resets with cause LC. -/
def execLcChangeComplete (s : State) : Host.Outcome State Fault Refusal := .next (lcComplete s)

/-- R116: At start-up a pending life-cycle wipe starts once the flash-write window opens. -/
def execPendingWipeStart (s : State) : Host.Outcome State Fault Refusal := .next (pendingWipe s)

/-- R531: The flash-write window does not open within 10 s and start-up stops with BOOT_ERR 0x2. -/
def execPendingWipeTimeout (s : State) : Host.Outcome State Fault Refusal := .next (pendingWipeTimeout s)

/-- R105: The PLL regains lock within 1 ms after a loss, LOCK reads 1 again and no PLL reset follows. -/
def execPllLockRegained (s : State) : Host.Outcome State Fault Refusal := .next (pllRegained s)

end Sys2Proof.Machine
end

