-- ==== Sys2Proof/Machine/ExecNet.lean ====
section
/-!
DEFINITION. The meanings of the commands of one family: The network, Halyard and time (spec/12_network_and_time.md).
Each is one call of the operation that the other files of this folder give; what is not due has no effect.
-/
namespace Sys2Proof.Machine

/-- R422: A port's link goes up, down or changes speed, and nodes on a Halyard port may leave. -/
def execLinkChange (p : Fin 2) (up : Bool) (speed : Fin 3) (s : State) : Host.Outcome State Fault Refusal :=
  .next (linkChange p.val up speed.val s)

/-- R421: A received frame is classified and dropped frames are counted in RX_OTHER or RX_ERR. -/
def execRxFrame (p : Fin 2) (err : Bool) (s : State) : Host.Outcome State Fault Refusal := .next (rxFrame p.val err s)

/-- R432: A received Sync gives an offset that steps the clock, feeds the servo or is refused. -/
def execSync (p : Fin 2) (m : PtpMsg) (egress : W64) (s : State) : Host.Outcome State Fault Refusal :=
  .next (byNe (ptpSync p.val m egress) s)

/-- R430: A received Follow_Up completes its two-step Sync. -/
def execFollowUp (p : Fin 2) (m : PtpMsg) (residence : W64) (s : State) : Host.Outcome State Fault Refusal :=
  .next (byNe (ptpFollowUp p.val m residence) s)

/-- R427: A received PTP Announce updates the foreign masters for the BMCA. -/
def execPtpAnnounce (p : Fin 2) (a : PtpAnn) (s : State) : Host.Outcome State Fault Refusal := .next (byNe (ptpAnnounce p.val a) s)

/-- R428: A received Delay_Req is answered as master or corrected as transparent clock. -/
def execDelayReq (p : Fin 2) (m : PtpMsg) (egress : W64) (s : State) : Host.Outcome State Fault Refusal :=
  .next (byNe (delayReq p.val m egress) s)

/-- R435: A received Delay_Resp gives a path-delay measurement or starts a path hold. -/
def execDelayResp (p : Fin 2) (m : PtpMsg) (s : State) : Host.Outcome State Fault Refusal := .next (byNe (delayResp p.val m) s)

/-- R428: A received Pdelay_Req is answered with peer-delay responses. -/
def execPdelayReq (p : Fin 2) (m : PtpMsg) (egress : W64) (s : State) : Host.Outcome State Fault Refusal :=
  .next (byNe (pdelayReq p.val m egress) s)

/-- R435: A received Pdelay_Resp gives a peer path-delay measurement. -/
def execPdelayResp (p : Fin 2) (m : PtpMsg) (t : PeerTimes) (s : State) : Host.Outcome State Fault Refusal :=
  .next (byNe (pdelayResp p.val m t.t3 t.egress) s)

/-- R426: A PTP message interval expires and the port sends Sync, Announce or a delay request. -/
def execPtpTransmit (p : Fin 2) (kind : Fin 3) (stamp : W64) (s : State) : Host.Outcome State Fault Refusal :=
  .next (byNe (ptpTransmit p.val kind.val stamp) s)

/-- R430: No Announce within ANN_TMO intervals expires the master on the port. -/
def execAnnounceReceiptTimeout (p : Fin 2) (s : State) : Host.Outcome State Fault Refusal := .next (byNe (announceTimeout p.val) s)

/-- R430: No Sync within SYNC_TMO intervals expires the master and may enter HOLDOVER. -/
def execSyncReceiptTimeout (p : Fin 2) (s : State) : Host.Outcome State Fault Refusal := .next (byNe (syncTimeout p.val) s)

/-- R430: A delay request left 1 s without response counts in DELAY_MISSED. -/
def execDelayRespTimeout (p : Fin 2) (s : State) : Host.Outcome State Fault Refusal := .next (byNe (delayTimeout p.val) s)

/-- R436: The path hold expires and the delay is adopted or the hold restarts. -/
def execPathHoldExpiry (s : State) : Host.Outcome State Fault Refusal := .next (byNe (pathHoldExpire) s)

/-- R434: A step authorisation lapses after 2 s without a measured offset. -/
def execStepAuthLapse (s : State) : Host.Outcome State Fault Refusal := .next (byNe (authLapse) s)

/-- R434: PTP_STEP with MODE 0 authorises the next offset to be applied as a step. -/
def execPtpStepAuthorise (d : Desc) (s : State) : Host.Outcome State Fault Refusal := .next (runDesc 0x0902 opPtpStep (d.force 1 0 0 0) s)

/-- R457: PTP_STEP with MODE 1 steps the clock by AMOUNT in FREE or HOLDOVER. -/
def execPtpStep (d : Desc) (s : State) : Host.Outcome State Fault Refusal := .next (runDesc 0x0902 opPtpStep (d.force 1 0 0 1) s)

/-- R438: The TIME_COMPARE descriptor adds a compare target to the pending list. -/
def execTimeCompare (d : Desc) (s : State) : Host.Outcome State Fault Refusal := .next (runDesc 0x0903 opCompareAny (d.force 1 1 1 0) s)

/-- R440: TIME_COMPARE with CANCEL removes every entry with its ID. -/
def execTimeCompareCancel (d : Desc) (s : State) : Host.Outcome State Fault Refusal :=
  .next (runDesc 0x0903 opCompareAny (d.force 1 1 1 1) s)

/-- R439: An armed compare fires, raises TIME_COMPARE and returns with its period if set. -/
def execTimeCompareFire (c : Fin 8) (cyc : Nat) (s : State) : Host.Outcome State Fault Refusal := .next (compareFire c.val (s.atCyc cyc))

/-- R441: The NET_SEND descriptor fetches a frame and queues it, timed or not. -/
def execNetSend (d : Desc) (s : State) : Host.Outcome State Fault Refusal := .next (runDesc 0x0904 opNetSend d s)

/-- R441: A timed frame is launched at its time or late when the port is busy. -/
def execTimedLaunch (k : Fin 8) (cyc : Nat) (s : State) : Host.Outcome State Fault Refusal := .next (timedLaunch k.val (s.atCyc cyc))

/-- R442: A transmitted frame's timestamp is written into its entry, which becomes ready. -/
def execTxTimestamp (p : Fin 2) (stamp : W64) (s : State) : Host.Outcome State Fault Refusal := .next (txStamp p.val stamp s)

/-- R443: Reading PORTp_TXTS_ID returns the oldest ready entry and latches its time. -/
def execTxtsIdRead (p : Fin 2) (s : State) : Host.Outcome State Fault Refusal := .next (hostRead (A.ptpPortTxtsId p.val) s)

/-- R443: A write of POP frees the oldest ready timestamp entry. -/
def execTxtsPop (p : Fin 2) (s : State) : Host.Outcome State Fault Refusal := .next (barWrite (A.ptpPortTxtsPop p.val) 1 s)

/-- R457: The NET_REPORT descriptor writes the network report to host memory. -/
def execNetReport (d : Desc) (s : State) : Host.Outcome State Fault Refusal := .next (runDesc 0x0905 opNetReport d s)

/-- R444: The NODE_CFG descriptor configures a node slot or removes it. -/
def execNodeCfg (d : Desc) (s : State) : Host.Outcome State Fault Refusal := .next (runDesc 0x0900 opNodeCfg d s)

/-- R455: The NODE_IO descriptor sets the output data of a host-owned node. -/
def execNodeIo (d : Desc) (s : State) : Host.Outcome State Fault Refusal := .next (runDesc 0x0901 opNodeIo d s)

/-- R450: At the first strobe after each whole second NE sends DISCOVER on each Halyard port. -/
def execDiscover (s : State) : Host.Outcome State Fault Refusal := .next (byNe (halDiscover) s)

/-- R450: A received Halyard ANNOUNCE is matched to a node slot and checked for joining. -/
def execAnnounce (p : Fin 2) (a : HalAnnounce) (s : State) : Host.Outcome State Fault Refusal := .next (byNe (halAnnounce p.val a) s)

/-- R451: At the strobe after a passed match NE sends JOIN_REQ and the slot goes to INVITED. -/
def execJoinReq (n : Fin 128) (s : State) : Host.Outcome State Fault Refusal := .next (byNe (joinReq n.val) s)

/-- R451: A received JOIN_ACK makes the slot JOINING and starts its partner watchdog. -/
def execJoinAck (p : Fin 2) (mac : BitVec 48) (n : Fin 128) (s : State) : Host.Outcome State Fault Refusal :=
  .next (byNe (joinAck p.val mac n.val) s)

/-- R451: The join timer expires and the slot returns to SEEKING. -/
def execJoinTimeout (n : Fin 128) (s : State) : Host.Outcome State Fault Refusal := .next (byNe (joinTimeout n.val) s)

/-- R448: A valid REPLY restarts the partner watchdog and supplies the node's actuals. -/
def execReply (p : Fin 2) (r : HalReply) (s : State) : Host.Outcome State Fault Refusal := .next (byNe (halReply p.val r) s)

/-- R452: A received LEAVE makes the node leave and its remote axes fault. -/
def execLeave (p : Fin 2) (mac : BitVec 48) (s : State) : Host.Outcome State Fault Refusal := .next (byNe (halLeave p.val mac) s)

/-- R452: WD_FRAMES steps without a valid reply make the node leave with cause 0. -/
def execPartnerWatchdog (n : Fin 128) (s : State) : Host.Outcome State Fault Refusal := .next (byNe (partnerWatchdog n.val) s)

end Sys2Proof.Machine
end

