-- ==== Sys2Proof/Machine/ExecPlan.lean ====
section
/-!
DEFINITION. The meanings of the commands of one family: The motion planner (spec/04_motion_planner.md).
Each is one call of the operation that the other files of this folder give; what is not due has no effect.
-/
namespace Sys2Proof.Machine

/-- R120: The AXIS_BIND descriptor binds or unbinds an axis to a group member slot. -/
def execAxisBind (d : Desc) (s : State) : Host.Outcome State Fault Refusal := .next (runDesc 0x0100 opAxisBind d s)

/-- R122: The AXIS_LIMITS descriptor sets the soft limits, VMAX, AMAX and JMAX of an axis. -/
def execAxisLimits (d : Desc) (s : State) : Host.Outcome State Fault Refusal := .next (runDesc 0x0101 opAxisLimits d s)

/-- R123: The PROFILE descriptor sets one of a group's eight motion profiles, optionally live. -/
def execProfile (d : Desc) (s : State) : Host.Outcome State Fault Refusal := .next (runDesc 0x0102 opProfile d s)

/-- R130: The MOVE descriptor queues a linear segment of the named members, or opens it when MORE is set. -/
def execMove (d : Desc) (s : State) : Host.Outcome State Fault Refusal := .next (runDesc 0x0103 opMove (d.force 1 9 9 0) s)

/-- R151: A MOVE with IMMEDIATE replaces the executing segment and the queue when its segment enters the queue. -/
def execMoveImmediate (d : Desc) (s : State) : Host.Outcome State Fault Refusal := .next (runDesc 0x0103 opMove (d.force 1 9 9 1) s)

/-- R133: The MOVE_CONT descriptor adds member targets to the open MOVE and closes it when MORE is clear. -/
def execMoveCont (d : Desc) (s : State) : Host.Outcome State Fault Refusal := .next (runDesc 0x0104 opMoveCont d s)

/-- R133: An open MOVE followed by no MOVE_CONT within 16 ticks enters the queue with the targets received. -/
def execMoveIncomplete (ring : Fin 64) (s : State) : Host.Outcome State Fault Refusal := .next (moveIncomplete ring.val s)

/-- R142: GROUP_CTRL ENABLE takes an IDLE group to ENABLED. -/
def execGroupEnable (d : Desc) (s : State) : Host.Outcome State Fault Refusal := .next (runDesc 0x0105 opGroupCtrl (d.force 1 11 8 1) s)

/-- R142: GROUP_CTRL DISABLE takes an ENABLED or HOLDING group to IDLE. -/
def execGroupDisable (d : Desc) (s : State) : Host.Outcome State Fault Refusal := .next (runDesc 0x0105 opGroupCtrl (d.force 1 11 8 2) s)

/-- R142: GROUP_CTRL STOP decelerates a MOVING group to HOLDING, keeping the rest of its path. -/
def execGroupStop (d : Desc) (s : State) : Host.Outcome State Fault Refusal := .next (runDesc 0x0105 opGroupCtrl (d.force 1 11 8 3) s)

/-- R142: GROUP_CTRL RESUME takes a HOLDING group back to MOVING along the remaining path. -/
def execGroupResume (d : Desc) (s : State) : Host.Outcome State Fault Refusal := .next (runDesc 0x0105 opGroupCtrl (d.force 1 11 8 4) s)

/-- R142: GROUP_CTRL FLUSH discards every queued entry that is neither executing nor committed. -/
def execGroupFlush (d : Desc) (s : State) : Host.Outcome State Fault Refusal := .next (runDesc 0x0105 opGroupCtrl (d.force 1 11 8 5) s)

/-- R142: GROUP_CTRL with CMD 0x0, or a code that falls back to it, is applied with NO_EFFECT and reason 0x0B, setting CLAMPED for a
fallback. -/
def execGroupCtrlNoAction (d : Desc) (s : State) : Host.Outcome State Fault Refusal := .next (runDesc 0x0105 opGroupCtrl (d.noCmd 5) s)

/-- R138: An ENABLED group starts its queue in the first tick in which the device mode permits motion. -/
def execQueueStart (g : Fin 32) (s : State) : Host.Outcome State Fault Refusal := .next (startQueue g.val (skipOf s) s)

/-- R134: A queue entry ends, its slot is freed and the group moves on or goes to ENABLED. -/
def execSegmentEnd (g : Fin 32) (s : State) : Host.Outcome State Fault Refusal := .next (endSegment g.val (skipOf s) s)

/-- R156: The GEAR descriptor queues the engagement of a slave member to a master at a ratio with a clutch. -/
def execGearEngage (d : Desc) (s : State) : Host.Outcome State Fault Refusal := .next (runDesc 0x0106 opGear (d.force 1 27 27 0) s)

/-- R155: A GEAR with OFF queues the disengagement of the slave, which decelerates to rest. -/
def execGearDisengage (d : Desc) (s : State) : Host.Outcome State Fault Refusal := .next (runDesc 0x0106 opGear (d.force 1 27 27 1) s)

/-- R158: The CAM_LOAD descriptor fetches cam points from host memory for a spline table. -/
def execCamLoad (d : Desc) (s : State) : Host.Outcome State Fault Refusal := .next (runDesc 0x0107 opCamLoad d s)

/-- R158: The spline of a loaded cam table is computed and the table can be used, or CAM_INVALID keeps the old contents. -/
def execCamReady (t : Fin 32) (s : State) : Host.Outcome State Fault Refusal := .next (camReady t.val s)

/-- R159: The CAM_ENGAGE descriptor queues the engagement of a slave to a cam table. -/
def execCamEngage (d : Desc) (s : State) : Host.Outcome State Fault Refusal := .next (runDesc 0x0108 opCamEngage (d.force 1 31 31 0) s)

/-- R159: A CAM_ENGAGE with OFF queues the disengagement of the cam slave. -/
def execCamDisengage (d : Desc) (s : State) : Host.Outcome State Fault Refusal := .next (runDesc 0x0108 opCamEngage (d.force 1 31 31 1) s)

/-- R161: The GROUP_REPORT descriptor writes the 320-byte group report to host memory. -/
def execGroupReport (d : Desc) (s : State) : Host.Outcome State Fault Refusal := .next (runDesc 0x0109 opGroupReport d s)

end Sys2Proof.Machine
end

