-- ==== Sys2Proof/Machine/ExecPower.lean ====
section
/-!
DEFINITION. The meanings of the commands of one family: Power and thermal (spec/15_power_and_thermal.md).
Each is one call of the operation that the other files of this folder give; what is not due has no effect.
-/
namespace Sys2Proof.Machine

/-- R516: VMAIN below LOSS for 1 us is lost, the charger disconnects and VBACK takes over. -/
def execVmainLost (vmain : BitVec 16) (vback : BitVec 16) (cyc : Nat) (s : State) : Host.Outcome State Fault Refusal :=
  .next (vmainLost vmain.toNat vback.toNat (s.atCyc cyc))

/-- R516: VMAIN rising above RETURN starts or restarts its return qualification. -/
def execReturnQualification (vmain : BitVec 16) (cyc : Nat) (s : State) : Host.Outcome State Fault Refusal :=
  .next (returnQual vmain.toNat (s.atCyc cyc))

/-- R516: VMAIN above RETURN for RET_US is back and carries the module again. -/
def execVmainBack (vmain : BitVec 16) (vback : BitVec 16) (cyc : Nat) (s : State) : Host.Outcome State Fault Refusal :=
  .next (vmainBack vmain.toNat vback.toNat (s.atCyc cyc))

/-- R516: VBACK falls below or rises above 6.0 V, setting or clearing VBACK_ABSENT. -/
def execVbackAbsent (vback : BitVec 16) (cyc : Nat) (s : State) : Host.Outcome State Fault Refusal :=
  .next (vbackAbsent vback.toNat (s.atCyc cyc))

/-- R519: The charger changes state, such as from CC to CV on reaching V_CHG. -/
def execChargeState (vback : BitVec 16) (mA : BitVec 16) (cyc : Nat) (s : State) : Host.Outcome State Fault Refusal :=
  .next (chargeState vback.toNat mA.toNat (s.atCyc cyc))

/-- R520: The bank thermistor is measured every 100 ms and the charger is held or resumed by the window. -/
def execBankTempMeasure (t : Int) (cyc : Nat) (s : State) : Host.Outcome State Fault Refusal := .next (bankTemp t (s.atCyc cyc))

/-- R522: The charger runs in CC for CHG_TMO without reaching V_CHG and goes to FAULT. -/
def execChargeTimeout (cyc : Nat) (s : State) : Host.Outcome State Fault Refusal := .next (chargeTimeout (s.atCyc cyc))

/-- R522: CHARGE_CTRL with CLEAR takes the charger from FAULT to OFF. -/
def execChargeCtrl (d : Desc) (s : State) : Host.Outcome State Fault Refusal := .next (runDesc 0x0C01 opChargeCtrl d s)

/-- R525: A sensor is measured and checked against its limit, rate and plausibility. -/
def execTempMeasure (k : Fin 10) (t : Int) (cyc : Nat) (s : State) : Host.Outcome State Fault Refusal :=
  .next (tempMeasure k.val t (s.atCyc cyc))

/-- R532: The THERMAL_MEASURE descriptor measures the named sensors within 2 ms. -/
def execThermalMeasure (d : Desc) (s : State) : Host.Outcome State Fault Refusal := .next (runDesc 0x0C00 opThermalMeasure d s)

/-- R528: A die comparator at 135 C drives safe levels and STO low and the device goes to THERMAL_HOLD. -/
def execThermalTrip (src : BitVec 6) (cyc : Nat) (s : State) : Host.Outcome State Fault Refusal := .next (thermalTrip src (s.atCyc cyc))

/-- R529: Every die comparator releases at 110 C and the device leaves THERMAL_HOLD for STANDBY. -/
def execThermalRelease (src : BitVec 6) (cyc : Nat) (s : State) : Host.Outcome State Fault Refusal :=
  .next (thermalRelease src (s.atCyc cyc))

end Sys2Proof.Machine
end

