-- ==== Sys2Proof/Machine/ExecPwm.lean ====
section
/-!
DEFINITION. The meanings of the commands of one family: The PWM block (spec/08_pwm.md).
Each is one call of the operation that the other files of this folder give; what is not due has no effect.
-/
namespace Sys2Proof.Machine

/-- Fault input f is low beyond its filter: LEVEL and SEEN set, and every slot with a mapped low input latches (R315). -/
def pwmFault (f : Nat) (s : State) : State :=
  forEach (upto 24) fltScan ((s.set ⟨A.pwmFltState, f, f⟩ 1).flag ⟨A.pwmFltState, 8 + f, 8 + f⟩)
/-- Fault input f is high again: LEVEL clears and FLT_ACTIVE follows; no latch clears by itself (R316). -/
def faultInputHigh (f : Nat) (s : State) : State :=
  forEach (upto s.slots) fltRefresh (s.set ⟨A.pwmFltState, f, f⟩ 0)

/-- R306: A write of COMMIT moves the staging set into the set in force at the slot's instant of effect. -/
def execPwmCommit (who : Option (Fin 38)) (n : Fin 24) (cyc : Nat) (s : State) : Host.Outcome State Fault Refusal :=
  .next (regAs who (A.pwmSlotCommit n.val) 1 (s.atCyc cyc))

/-- R308: Committed compares take effect, moving unfired edges and recording the update delay. -/
def execPwmCommitEffect (n : Fin 24) (cyc : Nat) (s : State) : Host.Outcome State Fault Refusal :=
  .next (whenB ((s.atCyc cyc).slotPresent n.val) (pwmCommitEffect n.val) (s.atCyc cyc))

/-- R310: At a period boundary each pair's pulse is skipped, pulsed whole or pulsed under its residue and a new period takes effect. -/
def execPwmPeriodBoundary (n : Fin 24) (cyc : Nat) (s : State) : Host.Outcome State Fault Refusal :=
  .next (whenB ((s.atCyc cyc).slotPresent n.val) (pwmBoundary n.val) (s.atCyc cyc))

/-- R313: A write setting RUN starts the slot pulsing at the next period boundary, or is ignored. -/
def execPwmRunSet (who : Option (Fin 38)) (n : Fin 24) (cyc : Nat) (s : State) : Host.Outcome State Fault Refusal :=
  .next (regAs who (A.pwmSlotCtrl n.val) 1 (s.atCyc cyc))

/-- R313: A write clearing RUN drives the safe levels at once. -/
def execPwmRunClear (who : Option (Fin 38)) (n : Fin 24) (cyc : Nat) (s : State) : Host.Outcome State Fault Refusal :=
  .next (regAs who (A.pwmSlotCtrl n.val) 0 (s.atCyc cyc))

/-- R315: A mapped fault input low beyond its filter sets FLT_LATCH and forces the safe levels. -/
def execPwmFault (f : Fin 8) (cyc : Nat) (s : State) : Host.Outcome State Fault Refusal := .next (pwmFault f.val (s.atCyc cyc))

/-- R316: A write of 1 to FLT_LATCH clears the latch when every mapped input is high. -/
def execFltLatchClear (n : Fin 24) (s : State) : Host.Outcome State Fault Refusal := .next (barWrite (A.pwmSlotStatus n.val) 2 s)

/-- R305: The carrier reaches a compare and a pair's output edge fires, with dead time applied and an edge that would end an on-state early
postponed for MIN_ON, setting MINON_EXT. -/
def execPwmEdge (n : Fin 24) (p : Fin 4) (rising : Bool) (cyc : Nat) (s : State) : Host.Outcome State Fault Refusal :=
  .next (whenB ((s.atCyc cyc).slotPresent n.val) (pwmEdge n.val p.val rising) (s.atCyc cyc))

/-- R312: A free slot with DBL 1 reaches mid-period, an update point at which the delay timer restarts, NO_UPD may count and the PWM mid-
period event is raised. -/
def execPwmMidPeriod (n : Fin 24) (cyc : Nat) (s : State) : Host.Outcome State Fault Refusal :=
  .next (whenB ((s.atCyc cyc).slotPresent n.val) (pwmMid n.val) (s.atCyc cyc))

/-- R316: A fault input FLTf_n returns high, clearing FLT_ACTIVE and LEVEL so that FLT_LATCH can be cleared. -/
def execFaultInputHigh (f : Fin 8) (cyc : Nat) (s : State) : Host.Outcome State Fault Refusal := .next (faultInputHigh f.val (s.atCyc cyc))

end Sys2Proof.Machine
end

