-- ==== Sys2Proof/Machine/ExecShroud.lean ====
section
/-!
DEFINITION. The meanings of the commands of one family: The Shroud (spec/13_shroud_safety.md).
Each is one call of the operation that the other files of this folder give; what is not due has no effect.
-/
namespace Sys2Proof.Machine

/-- R463: A Shroud tick of its own clock applies arrivals, evaluates the safety functions and timers and exchanges state between the cores.
-/
def execShroudTick (m : ShroudSample) (s : State) : Host.Outcome State Fault Refusal := .next (jtagWatch s (shroudTick m s))

/-- R465: The Shroud completes its own start-up and awaits a reset edge before releasing STO. -/
def execShroudStartUp (s : State) : Host.Outcome State Fault Refusal := .next (jtagWatch s (shrStartUp s))

/-- R470: A safety input channel takes a new filtered level and its pair state is re-read. -/
def execSafetyInputChange (p : Fin 8) (b : Bool) (level : Bool) (s : State) : Host.Outcome State Fault Refusal :=
  .next (inputChange p.val b level s)

/-- R471: The discrepancy timer expires without the other channel following and the pair faults. -/
def execDiscrepancyTimeout (p : Fin 8) (s : State) : Host.Outcome State Fault Refusal := .next (jtagWatch s (discrepancy p.val s))

/-- R472: A test source switches off for a dark pulse and the channels are checked for missed or foreign pulses. -/
def execInputTestPulse (srcB : Bool) (dark : BitVec 16) (s : State) : Host.Outcome State Fault Refusal :=
  .next (inputPulse srcB dark.toNat s)

/-- R473: A reset press held past 500 steps is rejected. -/
def execResetWindowExpiry (z : Fin 16) (s : State) : Host.Outcome State Fault Refusal := .next (resetExpiry z.val s)

/-- R479: An SS1 or SS2 reaches T_DELAY + T_RAMP and removes torque or begins SOS. -/
def execStopComplete (k : Fin 32) (s : State) : Host.Outcome State Fault Refusal := .next (jtagWatch s (stopComplete k.val s))

/-- R480: T_REACT after an SLS onset the limit starts to be monitored. -/
def execSlsReact (k : Fin 32) (s : State) : Host.Outcome State Fault Refusal := .next (jtagWatch s (slsReact k.val s))

/-- R481: T_BRAKE after the zone's STO the SBC output pair switches off. -/
def execBrakeDelay (k : Fin 32) (s : State) : Host.Outcome State Fault Refusal := .next (brakeDelay k.val s)

/-- R483: A safety output channel runs its dark pulse and its readback is checked. -/
def execOutputTestPulse (q : Fin 4) (x : DarkPulse) (s : State) : Host.Outcome State Fault Refusal :=
  .next (outputPulse q.val x.b x.fell (s.atCyc x.cyc))

/-- R485: A safety output driver without refresh for 2 ms turns off. -/
def execFieldDriverTimeout (q : Fin 4) (b : Bool) (s : State) : Host.Outcome State Fault Refusal := .next (fieldTimeout q.val b s)

/-- R487: A received TSE container is checked and accepted, ignored as a repeat or faults the connection. -/
def execTseMessage (c : Fin 127) (s : State) : Host.Outcome State Fault Refusal := .next (tseMessage c.val s)

/-- R488: The TSE watchdog expires without an acknowledgement and the connection faults. -/
def execTseWatchdog (c : Fin 127) (s : State) : Host.Outcome State Fault Refusal := .next (jtagWatch s (tseWatch c.val s))

/-- R489: Once the node is JOINED the Shroud starts the connection with SEQ 1 and START. -/
def execTseConnectionStart (c : Fin 127) (s : State) : Host.Outcome State Fault Refusal := .next (tseStart c.val s)

/-- R490: SAFETY_SESSION with OPEN opens a safety session when the password is right. -/
def execSafetySessionOpen (d : Desc) (s : State) : Host.Outcome State Fault Refusal :=
  .next (runDesc 0x0A00 opSessionAny (d.force 1 0 0 1) s)

/-- R490: SAFETY_SESSION with OPEN 0 closes the session. -/
def execSafetySessionClose (d : Desc) (s : State) : Host.Outcome State Fault Refusal :=
  .next (runDesc 0x0A00 opSessionAny (d.force 1 0 0 0) s)

/-- R490: 600 s without a safety descriptor from its ring ends the session. -/
def execSessionTimeout (s : State) : Host.Outcome State Fault Refusal := .next (sessionTimeout s)

/-- R491: The 60 s lockout after three wrong passwords ends. -/
def execLockoutEnd (s : State) : Host.Outcome State Fault Refusal := .next (lockoutEnd s)

/-- R491: The SAFETY_PASSWORD descriptor sets a new password. -/
def execSafetyPassword (d : Desc) (s : State) : Host.Outcome State Fault Refusal := .next (runDesc 0x0A01 opPassword d s)

/-- R492: The SAFETY_CONFIG descriptor fetches and checks a safety configuration and makes it pending. -/
def execSafetyConfig (d : Desc) (s : State) : Host.Outcome State Fault Refusal := .next (runDesc 0x0A02 opSafetyCfg d s)

/-- R492: The SAFETY_CONFIRM descriptor with the matching CRC writes the pending configuration into force. -/
def execSafetyConfirm (d : Desc) (s : State) : Host.Outcome State Fault Refusal := .next (runDesc 0x0A03 opSafetyConfirm d s)

/-- R492: 60 s without confirmation discards the pending configuration. -/
def execConfirmTimeout (s : State) : Host.Outcome State Fault Refusal := .next (confirmTimeout s)

/-- R495: The SAFETY_DEMAND descriptor replaces the host demand bits of the instances. -/
def execSafetyDemand (d : Desc) (s : State) : Host.Outcome State Fault Refusal := .next (runDesc 0x0A04 opDemandAny (d.force 1 63 63 0) s)

/-- R495: The DEVICE_STO bit of SAFETY_DEMAND brings every zone to STO. -/
def execDeviceSto (d : Desc) (s : State) : Host.Outcome State Fault Refusal := .next (runDesc 0x0A04 opDemandAny (d.force 1 63 63 1) s)

/-- R495: SAFETY_REPORT 0 writes a copy of the SHR status block to host memory. -/
def execSafetyReportStatus (d : Desc) (s : State) : Host.Outcome State Fault Refusal :=
  .next (runDesc 0x0A05 opReportAny (d.force 1 0 0 0) s)

/-- R493: SAFETY_REPORT 1 writes the change log to host memory. -/
def execSafetyReportLog (d : Desc) (s : State) : Host.Outcome State Fault Refusal := .next (runDesc 0x0A05 opReportAny (d.force 1 0 0 1) s)

/-- R496: Writing STO_CHECK pulses the enables of STO zones and checks their readback. -/
def execStoCheck (rsv : BitVec 30) (pulse : Bool) (s : State) : Host.Outcome State Fault Refusal :=
  .next (barWrite A.shrTest (4 * rsv.toNat + 2 + pulse.toNat) s)

/-- R496: Writing PULSE_NOW runs a dark pulse on every on channel at the next Shroud tick. -/
def execPulseNow (rest : BitVec 31) (s : State) : Host.Outcome State Fault Refusal := .next (barWrite A.shrTest (2 * rest.toNat + 1) s)

end Sys2Proof.Machine
end

