-- ==== Sys2Proof/Machine/ExecTick.lean ====
section
/-!
DEFINITION. The meanings of the commands of one family: The frame tick, the clock and the engines (spec/01_architecture_and_tick.md).
Each is one call of the operation that the other files of this folder give; what is not due has no effect.
-/
namespace Sys2Proof.Machine

/-- R35: A frame tick begins: the tick number advances, the exchange images swap and the ending tick is checked for overruns. -/
def execTickStrobe (late : BitVec 38) (vmain : BitVec 16) (vback : BitVec 16) (pIn : BitVec 16) (s : State) : Host.Outcome State Fault Refusal :=
  .next (tickStrobe late vmain.toNat vback.toNat pIn.toNat s)

/-- R44: The third consecutive overrun faults the engine with the consequences of Table 1.8. -/
def execEngineFault (e : Fin 38) (s : State) : Host.Outcome State Fault Refusal := .next (thirdOverrun e.val s)

/-- R44: VE, or the hardware for VE, restarts NE, CE, HE or VE from its image after its overrun fault. -/
def execEngineRestart (e : Fin 38) (s : State) : Host.Outcome State Fault Refusal := .next (engineRestart e.val s)

/-- R32: A sub-tick boundary of a slot raises the SUB interrupt of AEn, which takes steps 1 and 2 of the current-stage update. -/
def execSubInterrupt (n : Fin 24) (b : SubBoundary) (s : State) : Host.Outcome State Fault Refusal :=
  .next (subInterrupt n.val b.i.val b.stored s)

/-- R170: The input-ready interrupt runs steps 3 to 10 of the current-stage update and writes the compares. -/
def execInrdyInterrupt (n : Fin 24) (cyc : Nat) (s : State) : Host.Outcome State Fault Refusal := .next (inrdyInterrupt n.val (s.atCyc cyc))

/-- R343: INRDY is raised at t_end + INRDY_MAX cycles when the gated inputs have not delivered earlier. -/
def execInrdyTimeout (n : Fin 24) (cyc : Nat) (s : State) : Host.Outcome State Fault Refusal :=
  .next (whenB ((s.atCyc cyc).slotPresent n.val) (inrdyTimeout n.val) (s.atCyc cyc))

/-- R283: The engine timer interrupt is raised when CYC equals TMR_CMP. -/
def execTmrInterrupt (e : Fin 38) (s : State) : Host.Outcome State Fault Refusal := .next (tmrInterrupt e.val s)

/-- R37: At the Halyard input cutoff NE delivers actuals to the planner engines and evaluates the partner watchdogs. -/
def execHalCutoff (s : State) : Host.Outcome State Fault Refusal := .next (cutoff s)

/-- R29: A pending FT or sub-tick selection is adopted at a common tick boundary, raising FT to 62.5 us under R30 where needed. -/
def execFtAdopt (s : State) : Host.Outcome State Fault Refusal := .next (ftAdopt s)

/-- R424: A held or requested step of the local clock is applied at a tick boundary with the long tick of R31. -/
def execClockStep (s : State) : Host.Outcome State Fault Refusal := .next (clockStep s)

end Sys2Proof.Machine
end

