-- ==== Sys2Proof/Machine/ExecWeb.lean ====
section
/-!
DEFINITION. The meanings of the commands of one family: Web spans and haul-down (spec/06_web_spans_and_hauldown.md).
Each is one call of the operation that the other files of this folder give; what is not due has no effect.
-/
namespace Sys2Proof.Machine

/-- LINE_STANDSTILL: 16 ticks at rest end the haul-down (R249, Table 3.4). -/
def lineStandstill (s : State) : State :=
  match s.web.haul with
  | some h => if s.mode = mHauldown ∧ 16 ≤ h.still then s.request mStandby 8 6 else s
  | none => s

/-- R217: The LINE descriptor sets the reference axis, tension switch, publication and haul-down parameters. -/
def execLine (d : Desc) (s : State) : Host.Outcome State Fault Refusal := .next (runDesc 0x0300 opLine d s)

/-- R214: The ROLL descriptor configures an axis as a roll with its diameter, deceleration capacity and torque scale. -/
def execRoll (d : Desc) (s : State) : Host.Outcome State Fault Refusal := .next (runDesc 0x0301 opRollAny (d.force 1 15 15 0) s)

/-- R215: ROLL with REMOVE makes the axis cease to be a roll and its spans and winders absent. -/
def execRollRemove (d : Desc) (s : State) : Host.Outcome State Fault Refusal := .next (runDesc 0x0301 opRollAny (d.force 1 15 15 1) s)

/-- R215: The SPAN descriptor configures a span between two rolls. -/
def execSpan (d : Desc) (s : State) : Host.Outcome State Fault Refusal := .next (runDesc 0x0302 opSpanAny (d.force 1 32 32 0) s)

/-- R215: SPAN with REMOVE makes the span and every span downstream of it absent. -/
def execSpanRemove (d : Desc) (s : State) : Host.Outcome State Fault Refusal := .next (runDesc 0x0302 opSpanAny (d.force 1 32 32 1) s)

/-- R226: The TENSION_LOOP descriptor sets a span's tension loop source, setpoint and gains. -/
def execTensionLoop (d : Desc) (s : State) : Host.Outcome State Fault Refusal := .next (runDesc 0x0303 opTensionLoop d s)

/-- R233: The WINDER descriptor configures a roll as rewinder or unwinder. -/
def execWinder (d : Desc) (s : State) : Host.Outcome State Fault Refusal := .next (runDesc 0x0304 opWinderAny (d.force 1 25 25 0) s)

/-- R233: WINDER with REMOVE makes the roll cease to be a winder. -/
def execWinderRemove (d : Desc) (s : State) : Host.Outcome State Fault Refusal := .next (runDesc 0x0304 opWinderAny (d.force 1 25 25 1) s)

/-- R225: The MATERIAL descriptor sets a change of stiffness and thickness to enter the line. -/
def execMaterial (d : Desc) (s : State) : Host.Outcome State Fault Refusal := .next (runDesc 0x0305 opMaterial d s)

/-- R225: A waiting material change enters its span when the line reference setpoint passes LINE_POS. -/
def execMaterialEnter (i : Nat) (s : State) : Host.Outcome State Fault Refusal := .next (matEnter i s)

/-- R225: A material change in transit reaches a span midpoint or a winder and takes effect there. -/
def execMaterialReach (i : Nat) (winder : Bool) (k : Fin 24) (s : State) : Host.Outcome State Fault Refusal :=
  .next (matReach i winder k.val s)

/-- R239: The DIAMETER_SET descriptor replaces a winder's diameter and restarts its revolution window. -/
def execDiameterSet (d : Desc) (s : State) : Host.Outcome State Fault Refusal := .next (runDesc 0x0306 opDiameterSet d s)

/-- R253: The LINE_REPORT descriptor writes the 1,088-byte line report to host memory. -/
def execLineReport (d : Desc) (s : State) : Host.Outcome State Fault Refusal := .next (runDesc 0x0307 opLineReport d s)

/-- R235: A winder completes a revolution and its ratio estimate corrects the diameter or sets DIAM_DEV. -/
def execWinderRevolution (w : Fin 8) (s : State) : Host.Outcome State Fault Refusal := .next (winderRev w.val s)

/-- R232: Measured tension below T_BREAK for 16 consecutive ticks at speed sets BREAK and raises WEB_BREAK. -/
def execWebBreak (k : Fin 24) (s : State) : Host.Outcome State Fault Refusal := .next (webBreak k.val s)

/-- R249: Every roll at or below ZERO_SPEED for 16 ticks ends the haul-down and the device goes to STANDBY. -/
def execLineStandstill (s : State) : Host.Outcome State Fault Refusal := .next (lineStandstill s)

/-- R251: Every PUB_DIV ticks VE writes the line status record to host memory. -/
def execLineStatusPublish (ok : Bool) (s : State) : Host.Outcome State Fault Refusal := .next (linePublish ok s)

end Sys2Proof.Machine
end

