-- ==== Sys2Proof/Machine/Dispatch.lean ====
section
/-!
DEFINITION. One arm for each constructor of Instr: a direct call of its meaning.
-/
namespace Sys2Proof.Machine

def exec (i : Instr) (s : State) : Host.Outcome State Fault Refusal :=
  match i with
  | .tickStrobe late vmain vback pIn => Sys2Proof.Machine.execTickStrobe late vmain vback pIn s
  | .engineFault e => Sys2Proof.Machine.execEngineFault e s
  | .engineRestart e => Sys2Proof.Machine.execEngineRestart e s
  | .subInterrupt n b => Sys2Proof.Machine.execSubInterrupt n b s
  | .inrdyInterrupt n cyc => Sys2Proof.Machine.execInrdyInterrupt n cyc s
  | .inrdyTimeout n cyc => Sys2Proof.Machine.execInrdyTimeout n cyc s
  | .tmrInterrupt e => Sys2Proof.Machine.execTmrInterrupt e s
  | .halCutoff => Sys2Proof.Machine.execHalCutoff s
  | .ftAdopt => Sys2Proof.Machine.execFtAdopt s
  | .clockStep => Sys2Proof.Machine.execClockStep s
  | .shroudTick m => Sys2Proof.Machine.execShroudTick m s
  | .shroudStartUp => Sys2Proof.Machine.execShroudStartUp s
  | .hostLoss kind => Sys2Proof.Machine.execHostLoss kind s
  | .submissionDoorbell n t k => Sys2Proof.Machine.execSubmissionDoorbell n t k s
  | .eventRingDoorbell v => Sys2Proof.Machine.execEventRingDoorbell v s
  | .captureRingDoorbell m v => Sys2Proof.Machine.execCaptureRingDoorbell m v s
  | .ringEnable n v => Sys2Proof.Machine.execRingEnable n v s
  | .ringDisable n v => Sys2Proof.Machine.execRingDisable n v s
  | .eventRingEnable v => Sys2Proof.Machine.execEventRingEnable v s
  | .eventRingDisable v => Sys2Proof.Machine.execEventRingDisable v s
  | .captureRingEnable m v => Sys2Proof.Machine.execCaptureRingEnable m v s
  | .captureRingDisable m v => Sys2Proof.Machine.execCaptureRingDisable m v s
  | .ringDmaError ring wr addr => Sys2Proof.Machine.execRingDmaError ring wr addr s
  | .ringWatchdog n => Sys2Proof.Machine.execRingWatchdog n s
  | .nop d => Sys2Proof.Machine.execNop d s
  | .fence d => Sys2Proof.Machine.execFence d s
  | .fenceRelease n => Sys2Proof.Machine.execFenceRelease n s
  | .mode d => Sys2Proof.Machine.execMode d s
  | .groupClr d => Sys2Proof.Machine.execGroupClr d s
  | .engineRecovered e => Sys2Proof.Machine.execEngineRecovered e s
  | .backstayWindowExpiry cyc => Sys2Proof.Machine.execBackstayWindowExpiry cyc s
  | .powerOnReset also => Sys2Proof.Machine.execPowerOnReset also s
  | .padReset also => Sys2Proof.Machine.execPadReset also s
  | .perstReset also => Sys2Proof.Machine.execPerstReset also s
  | .softReset v => Sys2Proof.Machine.execSoftReset v s
  | .pllLockLoss refLoss => Sys2Proof.Machine.execPllLockLoss refLoss s
  | .pllReset also => Sys2Proof.Machine.execPllReset also s
  | .supervisorReset also => Sys2Proof.Machine.execSupervisorReset also s
  | .pllLock ok => Sys2Proof.Machine.execPllLock ok s
  | .memoryWipeComplete ok ms => Sys2Proof.Machine.execMemoryWipeComplete ok ms s
  | .calibrationDone c => Sys2Proof.Machine.execCalibrationDone c s
  | .startUp pairs readyMs => Sys2Proof.Machine.execStartUp pairs readyMs s
  | .lcChangeRequest v => Sys2Proof.Machine.execLcChangeRequest v s
  | .lcChangeComplete => Sys2Proof.Machine.execLcChangeComplete s
  | .pendingWipeStart => Sys2Proof.Machine.execPendingWipeStart s
  | .pendingWipeTimeout => Sys2Proof.Machine.execPendingWipeTimeout s
  | .axisBind d => Sys2Proof.Machine.execAxisBind d s
  | .axisLimits d => Sys2Proof.Machine.execAxisLimits d s
  | .profile d => Sys2Proof.Machine.execProfile d s
  | .move d => Sys2Proof.Machine.execMove d s
  | .moveImmediate d => Sys2Proof.Machine.execMoveImmediate d s
  | .moveCont d => Sys2Proof.Machine.execMoveCont d s
  | .moveIncomplete ring => Sys2Proof.Machine.execMoveIncomplete ring s
  | .groupEnable d => Sys2Proof.Machine.execGroupEnable d s
  | .groupDisable d => Sys2Proof.Machine.execGroupDisable d s
  | .groupStop d => Sys2Proof.Machine.execGroupStop d s
  | .groupResume d => Sys2Proof.Machine.execGroupResume d s
  | .groupFlush d => Sys2Proof.Machine.execGroupFlush d s
  | .queueStart g => Sys2Proof.Machine.execQueueStart g s
  | .segmentEnd g => Sys2Proof.Machine.execSegmentEnd g s
  | .gearEngage d => Sys2Proof.Machine.execGearEngage d s
  | .gearDisengage d => Sys2Proof.Machine.execGearDisengage d s
  | .camLoad d => Sys2Proof.Machine.execCamLoad d s
  | .camReady t => Sys2Proof.Machine.execCamReady t s
  | .camEngage d => Sys2Proof.Machine.execCamEngage d s
  | .camDisengage d => Sys2Proof.Machine.execCamDisengage d s
  | .groupReport d => Sys2Proof.Machine.execGroupReport d s
  | .motor d => Sys2Proof.Machine.execMotor d s
  | .isense d => Sys2Proof.Machine.execIsense d s
  | .currentLoop d => Sys2Proof.Machine.execCurrentLoop d s
  | .velocityLoop d => Sys2Proof.Machine.execVelocityLoop d s
  | .positionLoop d => Sys2Proof.Machine.execPositionLoop d s
  | .notch d => Sys2Proof.Machine.execNotch d s
  | .notchRaw d => Sys2Proof.Machine.execNotchRaw d s
  | .stepper d => Sys2Proof.Machine.execStepper d s
  | .identify d => Sys2Proof.Machine.execIdentify d s
  | .identifyAbort d => Sys2Proof.Machine.execIdentifyAbort d s
  | .idState a r cause => Sys2Proof.Machine.execIdState a r cause s
  | .loopReport d => Sys2Proof.Machine.execLoopReport d s
  | .idReport d => Sys2Proof.Machine.execIdReport d s
  | .loopFlagsClr d => Sys2Proof.Machine.execLoopFlagsClr d s
  | .line d => Sys2Proof.Machine.execLine d s
  | .roll d => Sys2Proof.Machine.execRoll d s
  | .rollRemove d => Sys2Proof.Machine.execRollRemove d s
  | .span d => Sys2Proof.Machine.execSpan d s
  | .spanRemove d => Sys2Proof.Machine.execSpanRemove d s
  | .tensionLoop d => Sys2Proof.Machine.execTensionLoop d s
  | .winder d => Sys2Proof.Machine.execWinder d s
  | .winderRemove d => Sys2Proof.Machine.execWinderRemove d s
  | .material d => Sys2Proof.Machine.execMaterial d s
  | .materialEnter at_ => Sys2Proof.Machine.execMaterialEnter at_ s
  | .materialReach at_ winder k => Sys2Proof.Machine.execMaterialReach at_ winder k s
  | .diameterSet d => Sys2Proof.Machine.execDiameterSet d s
  | .lineReport d => Sys2Proof.Machine.execLineReport d s
  | .winderRevolution w => Sys2Proof.Machine.execWinderRevolution w s
  | .webBreak k => Sys2Proof.Machine.execWebBreak k s
  | .lineStandstill => Sys2Proof.Machine.execLineStandstill s
  | .lineStatusPublish ok => Sys2Proof.Machine.execLineStatusPublish ok s
  | .addi at_ rd ra imm => Sys2Proof.Machine.execAddi at_ rd ra imm s
  | .andi at_ rd ra imm => Sys2Proof.Machine.execAndi at_ rd ra imm s
  | .ldi at_ rd imm => Sys2Proof.Machine.execLdi at_ rd imm s
  | .ldk at_ rd lane imm => Sys2Proof.Machine.execLdk at_ rd lane imm s
  | .sel at_ rd ra rb rc => Sys2Proof.Machine.execSel at_ rd ra rb rc s
  | .ld at_ rd sz m => Sys2Proof.Machine.execLd at_ rd sz m s
  | .st at_ rs sz m => Sys2Proof.Machine.execSt at_ rs sz m s
  | .add at_ rd ra rb => Sys2Proof.Machine.execAdd at_ rd ra rb s
  | .adds at_ rd ra rb => Sys2Proof.Machine.execAdds at_ rd ra rb s
  | .sub at_ rd ra rb => Sys2Proof.Machine.execSub at_ rd ra rb s
  | .subs at_ rd ra rb => Sys2Proof.Machine.execSubs at_ rd ra rb s
  | .and at_ rd ra rb => Sys2Proof.Machine.execAnd at_ rd ra rb s
  | .or at_ rd ra rb => Sys2Proof.Machine.execOr at_ rd ra rb s
  | .xor at_ rd ra rb => Sys2Proof.Machine.execXor at_ rd ra rb s
  | .shl at_ rd ra rb => Sys2Proof.Machine.execShl at_ rd ra rb s
  | .shr at_ rd ra rb => Sys2Proof.Machine.execShr at_ rd ra rb s
  | .sra at_ rd ra rb => Sys2Proof.Machine.execSra at_ rd ra rb s
  | .shls at_ rd ra rb => Sys2Proof.Machine.execShls at_ rd ra rb s
  | .shli at_ rd ra n => Sys2Proof.Machine.execShli at_ rd ra n s
  | .shri at_ rd ra n => Sys2Proof.Machine.execShri at_ rd ra n s
  | .srai at_ rd ra n => Sys2Proof.Machine.execSrai at_ rd ra n s
  | .shlsi at_ rd ra n => Sys2Proof.Machine.execShlsi at_ rd ra n s
  | .min at_ rd ra rb => Sys2Proof.Machine.execMin at_ rd ra rb s
  | .max at_ rd ra rb => Sys2Proof.Machine.execMax at_ rd ra rb s
  | .minu at_ rd ra rb => Sys2Proof.Machine.execMinu at_ rd ra rb s
  | .maxu at_ rd ra rb => Sys2Proof.Machine.execMaxu at_ rd ra rb s
  | .abss at_ rd ra => Sys2Proof.Machine.execAbss at_ rd ra s
  | .negs at_ rd ra => Sys2Proof.Machine.execNegs at_ rd ra s
  | .slt at_ rd ra rb => Sys2Proof.Machine.execSlt at_ rd ra rb s
  | .sltu at_ rd ra rb => Sys2Proof.Machine.execSltu at_ rd ra rb s
  | .seq at_ rd ra rb => Sys2Proof.Machine.execSeq at_ rd ra rb s
  | .sext32 at_ rd ra => Sys2Proof.Machine.execSext32 at_ rd ra s
  | .sext16 at_ rd ra => Sys2Proof.Machine.execSext16 at_ rd ra s
  | .sext8 at_ rd ra => Sys2Proof.Machine.execSext8 at_ rd ra s
  | .norm at_ rd ra => Sys2Proof.Machine.execNorm at_ rd ra s
  | .expx at_ rd ra q => Sys2Proof.Machine.execExpx at_ rd ra q s
  | .gmul at_ rd ra rb => Sys2Proof.Machine.execGmul at_ rd ra rb s
  | .mulh at_ rd ra rb => Sys2Proof.Machine.execMulh at_ rd ra rb s
  | .mull at_ rd ra rb => Sys2Proof.Machine.execMull at_ rd ra rb s
  | .clips at_ rd ra rb => Sys2Proof.Machine.execClips at_ rd ra rb s
  | .mul at_ ra rb acc sg => Sys2Proof.Machine.execMul at_ ra rb acc sg s
  | .mac at_ ra rb acc sg => Sys2Proof.Machine.execMac at_ ra rb acc sg s
  | .msu at_ ra rb acc sg => Sys2Proof.Machine.execMsu at_ ra rb acc sg s
  | .mulld at_ ra rb agx agy acc sg => Sys2Proof.Machine.execMulld at_ ra rb agx agy acc sg s
  | .macld at_ ra rb agx agy acc sg => Sys2Proof.Machine.execMacld at_ ra rb agx agy acc sg s
  | .msuld at_ ra rb agx agy acc sg => Sys2Proof.Machine.execMsuld at_ ra rb agx agy acc sg s
  | .extr at_ rd shift acc rnd => Sys2Proof.Machine.execExtr at_ rd shift acc rnd s
  | .acld at_ ra shift acc => Sys2Proof.Machine.execAcld at_ ra shift acc s
  | .norma at_ rd acc => Sys2Proof.Machine.execNorma at_ rd acc s
  | .div at_ rd ra rb => Sys2Proof.Machine.execDiv at_ rd ra rb s
  | .divu at_ rd ra rb => Sys2Proof.Machine.execDivu at_ rd ra rb s
  | .diva0 at_ rd ra => Sys2Proof.Machine.execDiva0 at_ rd ra s
  | .diva1 at_ rd ra => Sys2Proof.Machine.execDiva1 at_ rd ra s
  | .sqrtu at_ rd ra => Sys2Proof.Machine.execSqrtu at_ rd ra s
  | .sincos at_ rd ra rb => Sys2Proof.Machine.execSincos at_ rd ra rb s
  | .atan2 at_ rd ra rb => Sys2Proof.Machine.execAtan2 at_ rd ra rb s
  | .beqz at_ ra off => Sys2Proof.Machine.execBeqz at_ ra off s
  | .bnez at_ ra off => Sys2Proof.Machine.execBnez at_ ra off s
  | .bltz at_ ra off => Sys2Proof.Machine.execBltz at_ ra off s
  | .bgez at_ ra off => Sys2Proof.Machine.execBgez at_ ra off s
  | .bgtz at_ ra off => Sys2Proof.Machine.execBgtz at_ ra off s
  | .blez at_ ra off => Sys2Proof.Machine.execBlez at_ ra off s
  | .b at_ off => Sys2Proof.Machine.execB at_ off s
  | .bloop at_ off => Sys2Proof.Machine.execBloop at_ off s
  | .bloopr at_ off => Sys2Proof.Machine.execBloopr at_ off s
  | .jal at_ rd off => Sys2Proof.Machine.execJal at_ rd off s
  | .jr at_ ra => Sys2Proof.Machine.execJr at_ ra s
  | .mfc at_ rd num => Sys2Proof.Machine.execMfc at_ rd num s
  | .mtc at_ ra num => Sys2Proof.Machine.execMtc at_ ra num s
  | .mfs at_ rd ra => Sys2Proof.Machine.execMfs at_ rd ra s
  | .mts at_ rd ra => Sys2Proof.Machine.execMts at_ rd ra s
  | .sparNop at_ => Sys2Proof.Machine.execSparNop at_ s
  | .done at_ => Sys2Proof.Machine.execDone at_ s
  | .waitt at_ => Sys2Proof.Machine.execWaitt at_ s
  | .waitc at_ => Sys2Proof.Machine.execWaitc at_ s
  | .reti at_ => Sys2Proof.Machine.execReti at_ s
  | .brk at_ => Sys2Proof.Machine.execBrk at_ s
  | .fenceIo at_ => Sys2Proof.Machine.execFenceIo at_ s
  | .dmaComplete e cyc => Sys2Proof.Machine.execDmaComplete e cyc s
  | .pwmCommit who n cyc => Sys2Proof.Machine.execPwmCommit who n cyc s
  | .pwmCommitEffect n cyc => Sys2Proof.Machine.execPwmCommitEffect n cyc s
  | .pwmPeriodBoundary n cyc => Sys2Proof.Machine.execPwmPeriodBoundary n cyc s
  | .pwmRunSet who n cyc => Sys2Proof.Machine.execPwmRunSet who n cyc s
  | .pwmRunClear who n cyc => Sys2Proof.Machine.execPwmRunClear who n cyc s
  | .pwmFault f cyc => Sys2Proof.Machine.execPwmFault f cyc s
  | .fltLatchClear n => Sys2Proof.Machine.execFltLatchClear n s
  | .inputBind d => Sys2Proof.Machine.execInputBind d s
  | .adcSoftwareTrigger who c cyc => Sys2Proof.Machine.execAdcSoftwareTrigger who c cyc s
  | .adcTimerTrigger c cyc => Sys2Proof.Machine.execAdcTimerTrigger c cyc s
  | .adcEventTrigger c cyc => Sys2Proof.Machine.execAdcEventTrigger c cyc s
  | .adcResult c code cyc => Sys2Proof.Machine.execAdcResult c code cyc s
  | .adcCfgApply c cyc => Sys2Proof.Machine.execAdcCfgApply c cyc s
  | .diagInjection j cyc => Sys2Proof.Machine.execDiagInjection j cyc s
  | .sdiWord at_ value run cyc => Sys2Proof.Machine.execSdiWord at_ value run cyc s
  | .sdiStuck at_ cyc => Sys2Proof.Machine.execSdiStuck at_ cyc s
  | .segmentPublish sdi k cyc => Sys2Proof.Machine.execSegmentPublish sdi k cyc s
  | .diagFaultClear who c cyc => Sys2Proof.Machine.execDiagFaultClear who c cyc s
  | .stuckClear who at_ cyc => Sys2Proof.Machine.execStuckClear who at_ cyc s
  | .recoveryWindowEnd sdi k cyc => Sys2Proof.Machine.execRecoveryWindowEnd sdi k cyc s
  | .feedbackBind d => Sys2Proof.Machine.execFeedbackBind d s
  | .fbEnable who n cyc => Sys2Proof.Machine.execFbEnable who n cyc s
  | .fbDisable who n cyc => Sys2Proof.Machine.execFbDisable who n cyc s
  | .fbCount n lines cyc => Sys2Proof.Machine.execFbCount n lines cyc s
  | .fbIndex n cyc => Sys2Proof.Machine.execFbIndex n cyc s
  | .fbStill n cyc => Sys2Proof.Machine.execFbStill n cyc s
  | .fbGate n cyc => Sys2Proof.Machine.execFbGate n cyc s
  | .serialReadStart n cyc => Sys2Proof.Machine.execSerialReadStart n cyc s
  | .serialReadDone n started raw nE nW crc cyc => Sys2Proof.Machine.execSerialReadDone n started raw nE nW crc cyc s
  | .resolverTrigger n cyc => Sys2Proof.Machine.execResolverTrigger n cyc s
  | .fbFaultClear who n cyc => Sys2Proof.Machine.execFbFaultClear who n cyc s
  | .latchEdge at_ rise taps cyc => Sys2Proof.Machine.execLatchEdge at_ rise taps cyc s
  | .latchRecord at_ => Sys2Proof.Machine.execLatchRecord at_ s
  | .latchRecordTimeout at_ cyc => Sys2Proof.Machine.execLatchRecordTimeout at_ cyc s
  | .latchArm who at_ cyc => Sys2Proof.Machine.execLatchArm who at_ cyc s
  | .latchPop who at_ cyc => Sys2Proof.Machine.execLatchPop who at_ cyc s
  | .latchFlush who at_ cyc => Sys2Proof.Machine.execLatchFlush who at_ cyc s
  | .tdcRecalibration at_ ok => Sys2Proof.Machine.execTdcRecalibration at_ ok s
  | .captureArm d => Sys2Proof.Machine.execCaptureArm d s
  | .captureStop d => Sys2Proof.Machine.execCaptureStop d s
  | .captureForce d => Sys2Proof.Machine.execCaptureForce d s
  | .captureDisarm d => Sys2Proof.Machine.execCaptureDisarm d s
  | .captureBlocksReserved u => Sys2Proof.Machine.execCaptureBlocksReserved u s
  | .captureSample u full cyc => Sys2Proof.Machine.execCaptureSample u full cyc s
  | .sequencerTimeout u full cyc => Sys2Proof.Machine.execSequencerTimeout u full cyc s
  | .captureRestart u full cyc => Sys2Proof.Machine.execCaptureRestart u full cyc s
  | .captureRingWrite m => Sys2Proof.Machine.execCaptureRingWrite m s
  | .linkChange p up speed => Sys2Proof.Machine.execLinkChange p up speed s
  | .rxFrame p err => Sys2Proof.Machine.execRxFrame p err s
  | .sync p m egress => Sys2Proof.Machine.execSync p m egress s
  | .followUp p m residence => Sys2Proof.Machine.execFollowUp p m residence s
  | .ptpAnnounce p a => Sys2Proof.Machine.execPtpAnnounce p a s
  | .delayReq p m egress => Sys2Proof.Machine.execDelayReq p m egress s
  | .delayResp p m => Sys2Proof.Machine.execDelayResp p m s
  | .pdelayReq p m egress => Sys2Proof.Machine.execPdelayReq p m egress s
  | .pdelayResp p m t => Sys2Proof.Machine.execPdelayResp p m t s
  | .ptpTransmit p kind stamp => Sys2Proof.Machine.execPtpTransmit p kind stamp s
  | .announceReceiptTimeout p => Sys2Proof.Machine.execAnnounceReceiptTimeout p s
  | .syncReceiptTimeout p => Sys2Proof.Machine.execSyncReceiptTimeout p s
  | .delayRespTimeout p => Sys2Proof.Machine.execDelayRespTimeout p s
  | .pathHoldExpiry => Sys2Proof.Machine.execPathHoldExpiry s
  | .stepAuthLapse => Sys2Proof.Machine.execStepAuthLapse s
  | .ptpStepAuthorise d => Sys2Proof.Machine.execPtpStepAuthorise d s
  | .ptpStep d => Sys2Proof.Machine.execPtpStep d s
  | .timeCompare d => Sys2Proof.Machine.execTimeCompare d s
  | .timeCompareCancel d => Sys2Proof.Machine.execTimeCompareCancel d s
  | .timeCompareFire c cyc => Sys2Proof.Machine.execTimeCompareFire c cyc s
  | .netSend d => Sys2Proof.Machine.execNetSend d s
  | .timedLaunch k cyc => Sys2Proof.Machine.execTimedLaunch k cyc s
  | .txTimestamp p stamp => Sys2Proof.Machine.execTxTimestamp p stamp s
  | .txtsIdRead p => Sys2Proof.Machine.execTxtsIdRead p s
  | .txtsPop p => Sys2Proof.Machine.execTxtsPop p s
  | .netReport d => Sys2Proof.Machine.execNetReport d s
  | .nodeCfg d => Sys2Proof.Machine.execNodeCfg d s
  | .nodeIo d => Sys2Proof.Machine.execNodeIo d s
  | .discover => Sys2Proof.Machine.execDiscover s
  | .announce p a => Sys2Proof.Machine.execAnnounce p a s
  | .joinReq n => Sys2Proof.Machine.execJoinReq n s
  | .joinAck p mac n => Sys2Proof.Machine.execJoinAck p mac n s
  | .joinTimeout n => Sys2Proof.Machine.execJoinTimeout n s
  | .reply p r => Sys2Proof.Machine.execReply p r s
  | .leave p mac => Sys2Proof.Machine.execLeave p mac s
  | .partnerWatchdog n => Sys2Proof.Machine.execPartnerWatchdog n s
  | .safetyInputChange p b level => Sys2Proof.Machine.execSafetyInputChange p b level s
  | .discrepancyTimeout p => Sys2Proof.Machine.execDiscrepancyTimeout p s
  | .inputTestPulse srcB dark => Sys2Proof.Machine.execInputTestPulse srcB dark s
  | .resetWindowExpiry z => Sys2Proof.Machine.execResetWindowExpiry z s
  | .stopComplete k => Sys2Proof.Machine.execStopComplete k s
  | .slsReact k => Sys2Proof.Machine.execSlsReact k s
  | .brakeDelay k => Sys2Proof.Machine.execBrakeDelay k s
  | .outputTestPulse q x => Sys2Proof.Machine.execOutputTestPulse q x s
  | .fieldDriverTimeout q b => Sys2Proof.Machine.execFieldDriverTimeout q b s
  | .tseMessage c => Sys2Proof.Machine.execTseMessage c s
  | .tseWatchdog c => Sys2Proof.Machine.execTseWatchdog c s
  | .tseConnectionStart c => Sys2Proof.Machine.execTseConnectionStart c s
  | .safetySessionOpen d => Sys2Proof.Machine.execSafetySessionOpen d s
  | .safetySessionClose d => Sys2Proof.Machine.execSafetySessionClose d s
  | .sessionTimeout => Sys2Proof.Machine.execSessionTimeout s
  | .lockoutEnd => Sys2Proof.Machine.execLockoutEnd s
  | .safetyPassword d => Sys2Proof.Machine.execSafetyPassword d s
  | .safetyConfig d => Sys2Proof.Machine.execSafetyConfig d s
  | .safetyConfirm d => Sys2Proof.Machine.execSafetyConfirm d s
  | .confirmTimeout => Sys2Proof.Machine.execConfirmTimeout s
  | .safetyDemand d => Sys2Proof.Machine.execSafetyDemand d s
  | .deviceSto d => Sys2Proof.Machine.execDeviceSto d s
  | .safetyReportStatus d => Sys2Proof.Machine.execSafetyReportStatus d s
  | .safetyReportLog d => Sys2Proof.Machine.execSafetyReportLog d s
  | .stoCheck rsv pulse => Sys2Proof.Machine.execStoCheck rsv pulse s
  | .pulseNow rest => Sys2Proof.Machine.execPulseNow rest s
  | .fldUvSet mv cyc => Sys2Proof.Machine.execFldUvSet mv cyc s
  | .fldUvClear mv cyc => Sys2Proof.Machine.execFldUvClear mv cyc s
  | .fldOff mv cyc => Sys2Proof.Machine.execFldOff mv cyc s
  | .inValid mv cyc => Sys2Proof.Machine.execInValid mv cyc s
  | .fieldReenable d => Sys2Proof.Machine.execFieldReenable d s
  | .fieldOut d => Sys2Proof.Machine.execFieldOut d s
  | .fieldOutputUpdate read => Sys2Proof.Machine.execFieldOutputUpdate read s
  | .fieldInput j samples cyc => Sys2Proof.Machine.execFieldInput j samples cyc s
  | .inFiltWrite m v => Sys2Proof.Machine.execInFiltWrite m v s
  | .overload q => Sys2Proof.Machine.execOverload q s
  | .thermalOffPhase q => Sys2Proof.Machine.execThermalOffPhase q s
  | .thermalOffEnd q => Sys2Proof.Machine.execThermalOffEnd q s
  | .extHigh q => Sys2Proof.Machine.execExtHigh q s
  | .holdSeen => Sys2Proof.Machine.execHoldSeen s
  | .fieldCpl out ch cyc => Sys2Proof.Machine.execFieldCpl out ch cyc s
  | .couplerRestored out ch => Sys2Proof.Machine.execCouplerRestored out ch s
  | .vmainLost vmain vback cyc => Sys2Proof.Machine.execVmainLost vmain vback cyc s
  | .returnQualification vmain cyc => Sys2Proof.Machine.execReturnQualification vmain cyc s
  | .vmainBack vmain vback cyc => Sys2Proof.Machine.execVmainBack vmain vback cyc s
  | .vbackAbsent vback cyc => Sys2Proof.Machine.execVbackAbsent vback cyc s
  | .chargeState vback mA cyc => Sys2Proof.Machine.execChargeState vback mA cyc s
  | .bankTempMeasure t cyc => Sys2Proof.Machine.execBankTempMeasure t cyc s
  | .chargeTimeout cyc => Sys2Proof.Machine.execChargeTimeout cyc s
  | .chargeCtrl d => Sys2Proof.Machine.execChargeCtrl d s
  | .tempMeasure k t cyc => Sys2Proof.Machine.execTempMeasure k t cyc s
  | .thermalMeasure d => Sys2Proof.Machine.execThermalMeasure d s
  | .thermalTrip src cyc => Sys2Proof.Machine.execThermalTrip src cyc s
  | .thermalRelease src cyc => Sys2Proof.Machine.execThermalRelease src cyc s
  | .imageStore d => Sys2Proof.Machine.execImageStore d s
  | .imageStored ok => Sys2Proof.Machine.execImageStored ok s
  | .imageLoad d => Sys2Proof.Machine.execImageLoad d s
  | .engineReload e => Sys2Proof.Machine.execEngineReload e s
  | .imageStaged e => Sys2Proof.Machine.execImageStaged e s
  | .imageSwap d => Sys2Proof.Machine.execImageSwap d s
  | .imageRollback d => Sys2Proof.Machine.execImageRollback d s
  | .swapTakeEffect e => Sys2Proof.Machine.execSwapTakeEffect e s
  | .swapAbandon e => Sys2Proof.Machine.execSwapAbandon e s
  | .swapRollback e => Sys2Proof.Machine.execSwapRollback e s
  | .probationEnd e => Sys2Proof.Machine.execProbationEnd e s
  | .bootSlotWrite => Sys2Proof.Machine.execBootSlotWrite s
  | .imageOverride d => Sys2Proof.Machine.execImageOverride d s
  | .engineParam d => Sys2Proof.Machine.execEngineParam d s
  | .imageKey d => Sys2Proof.Machine.execImageKey d s
  | .debugAttach x => Sys2Proof.Machine.execDebugAttach x s
  | .debugDetach jtag => Sys2Proof.Machine.execDebugDetach jtag s
  | .tapReset => Sys2Proof.Machine.execTapReset s
  | .halt jtag e => Sys2Proof.Machine.execHalt jtag e s
  | .resume jtag e => Sys2Proof.Machine.execResume jtag e s
  | .step jtag e => Sys2Proof.Machine.execStep jtag e s
  | .memoryTransfer jtag v => Sys2Proof.Machine.execMemoryTransfer jtag v s
  | .memoryTransferDone => Sys2Proof.Machine.execMemoryTransferDone s
  | .bypass => Sys2Proof.Machine.execBypass s
  | .idcode => Sys2Proof.Machine.execIdcode s
  | .samplePreload pads drive => Sys2Proof.Machine.execSamplePreload pads drive s
  | .extest => Sys2Proof.Machine.execExtest s
  | .highz => Sys2Proof.Machine.execHighz s
  | .clamp => Sys2Proof.Machine.execClamp s
  | .wideRegisterRead r => Sys2Proof.Machine.execWideRegisterRead r s
  | .wideRegisterWrite a v => Sys2Proof.Machine.execWideRegisterWrite a v s
  | .timeRead word cyc => Sys2Proof.Machine.execTimeRead word cyc s
  | .resRead sdi k word => Sys2Proof.Machine.execResRead sdi k word s
  | .seg0SumRead sdi k word => Sys2Proof.Machine.execSeg0SumRead sdi k word s
  | .posRead n word cyc => Sys2Proof.Machine.execPosRead n word cyc s
  | .registerWrite p a v cyc => Sys2Proof.Machine.execRegisterWrite p a v cyc s
  | .rejectedOpcode opcode d => Sys2Proof.Machine.execRejectedOpcode opcode d s
  | .groupCtrlNoAction d => Sys2Proof.Machine.execGroupCtrlNoAction d s
  | .captureCtrlNoAction d => Sys2Proof.Machine.execCaptureCtrlNoAction d s
  | .illegalInstruction at_ w => Sys2Proof.Machine.execIllegalInstruction at_ w s
  | .pwmEdge n p rising cyc => Sys2Proof.Machine.execPwmEdge n p rising cyc s
  | .pwmMidPeriod n cyc => Sys2Proof.Machine.execPwmMidPeriod n cyc s
  | .faultInputHigh f cyc => Sys2Proof.Machine.execFaultInputHigh f cyc s
  | .pllLockRegained => Sys2Proof.Machine.execPllLockRegained s

end Sys2Proof.Machine
end

