-- ==== Sys2Proof/Safety.lean ====
section
/-!
DEFINITION. What a run of the part is held to, in the terms that the statements use: the canonical form of the registers and of host
memory, an engine that issues an instruction and what such an instruction leaves, a descriptor that its ring accepts and its
completion.
-/
namespace Sys2Proof.Machine

/-- Registers and host memory are in their canonical form: addresses strictly rising, none listed that holds what an unlisted one reads. -/
def State.tablesOk (s : State) : Bool := Table.wf regReset s.regs && Table.wf (fun _ => (0 : Byte)) s.hostMem

/-! ## Instructions of an engine (spec/07_spar_engines.md) -/

/-- The engine executes its next instruction: it runs, no interrupt is taken first, the base level does not wait, no debug step is
granted, and the code address lies in the bank. -/
def State.issues (s : State) (i : SparAt) : Prop :=
  s.sparRuns i.e.val = true ∧ (s.eng i.e.val).stepOne = false ∧ (s.eng i.e.val).pc ≤ 0xBFFC ∧
    ((s.eng i.e.val).inH = true ∨ ((s.eng i.e.val).irqNext = none ∧ (s.eng i.e.val).wait = .none))

/-- The state as the instruction finds it: the cycle of the tick, and the pc past the instruction. -/
def State.issued (s : State) (i : SparAt) : State :=
  (s.atCyc i.cyc).updEng i.e.val (fun y => { y with pc := y.pc + 4 })

/-- Nothing but the cycle of the tick and one engine differs. -/
def OnlyEngine (i : SparAt) (s t : State) : Prop :=
  t = { s.atCyc i.cyc with spar := t.spar } ∧ ∀ e, e ≠ i.e.val → t.eng e = s.eng e

/-- A register set in which register `rd` holds `v`, `flags` have set in STICKY, and nothing else has changed. -/
def RegSet.wrote (x y : RegSet) (rd : Nat) (v : W64) (flags : Nat) : Prop :=
  y.rd rd = v ∧ (∀ r, r < 64 → r ≠ rd → y.rd r = x.rd r) ∧ y = { x with g := y.g, sticky := x.sticky ||| flags }

/-- An integer held within the range of signed numbers of `w` bits. -/
def held (w : Nat) (x : Int) : Int := max (-(2 ^ (w - 1))) (min (2 ^ (w - 1) - 1) x)
/-- An integer lies outside the range of signed numbers of `w` bits. -/
def outside (w : Nat) (x : Int) : Bool := decide (x < -(2 ^ (w - 1)) ∨ 2 ^ (w - 1) ≤ x)
/-- An integer divided by a positive number, to the nearest integer, ties away from zero. -/
def nearestAway (x : Int) (d : Nat) : Int := x.sign * ((2 * x.natAbs + d) / (2 * d) : Nat)

/-- A register set whose accumulator `k` holds `v`, with `flags` set in STICKY. -/
def RegSet.withAcc (r : RegSet) (k : Bool) (v : Int) (flags : Nat) : RegSet :=
  if k then { r with acc1 := BitVec.ofInt 160 v, sticky := r.sticky ||| flags }
  else { r with acc0 := BitVec.ofInt 160 v, sticky := r.sticky ||| flags }

/-- The effective offset of an address generator, and the address of an access at an offset of `n` bytes from it (R270). -/
def Ag.offset (x : Ag) : Nat := if x.len = 0 ∨ x.ofs.toNat < x.len then x.ofs.toNat else x.ofs.toNat % x.len
def Ag.at' (x : Ag) (n : Int) : Nat :=
  wrapN 32 (x.base.toNat + if x.len = 0 then x.offset + n else (x.offset + n) % (x.len : Int))
/-- A register set after a post-modify of generator `k` by `n` bytes: OFS, and CFOLD where the offset was folded (R270). -/
def RegSet.stepped (r : RegSet) (k : Nat) (n : Int) : RegSet :=
  let x := r.ag k
  { r.updAg k (fun _ => { x with ofs := BitVec.ofInt 32 (if x.len = 0 then x.ofs.toNat + n else (x.offset + n) % (x.len : Int)) }) with
    sticky := r.sticky ||| (if x.len ≠ 0 ∧ x.len ≤ x.ofs.toNat then 4 else 0) }

/-- The address of an M-format access of `n` bytes (Table 7.3), and the register set after its write-back. -/
def RegSet.memAt (r : RegSet) (n : Nat) : MemAddr → Nat
  | .base ra k => wrapN 32 ((r.rd ra.val).toNat + k.toInt * n)
  | .gen a post k => (r.ag a.val).at' (if post then 0 else k.toInt * n)
def RegSet.memAfter (r : RegSet) (n : Nat) : MemAddr → RegSet
  | .base _ _ => r
  | .gen a post k => if post then r.stepped a.val (k.toInt * n) else r

/-! ## Descriptors (spec/02_host_rings.md) -/

/-- The ring takes this descriptor and applies it: VE works, the ring is enabled, the descriptor is submitted and within the credit
limit, no FENCE holds the ring, no MOVE of the ring is open, its LEN is one the opcode allows, and the mode admits the opcode. -/
def Accepts (s : State) (opcode : Nat) (d : Desc) : Prop :=
  s.ringTakes d.ring.val = true ∧ (s.ring d.ring.val).fence = none ∧ Table.look none s.plan.opens d.ring.val = none ∧
    (s.mode = mQuarantine → opcode / 256 = 0 ∨ opcode / 256 = 4) ∧
    ∃ x, opInfo opcode = some x ∧ x.1 ≤ d.len.val ∧ d.len.val ≤ x.2.1

/-- The state in which VE has fetched the descriptor: H counts it. -/
def State.fetched (s : State) (d : Desc) : State :=
  (s.updRing d.ring.val (fun r => { r with h := r.h + 1 })).setReg (A.hriRingHead d.ring.val) ((s.ring d.ring.val).h + 1)

/-- The latest completion record of the descriptor's ring answers the descriptor: TAG and SEQ are its own, STATUS, NO_EFFECT and
RESULT are as given (Tables 2.6 to 2.8). -/
def Answered (t : State) (d : Desc) (status : Nat) (noEffect : Bool) (result : Nat) : Prop :=
  let n := d.ring.val
  let c := (t.ring n).c - 1
  let byte (k : Nat) : Byte :=
    t.hostByte ((t.get64 (A.hriRingCqBaseLo n) + c.toNat % 2 ^ t.get (F.hriRingCfg_SIZE n) * 16 + k) % 2 ^ 64)
  byte 0 = d.tag.setWidth 8 ∧ byte 1 = (d.tag >>> 8).setWidth 8 ∧ byte 2 = d.seq.setWidth 8 ∧ byte 3 = (d.seq >>> 8).setWidth 8 ∧
    byte 4 = BitVec.ofNat 8 status ∧ byte 5 = 0 ∧ (byte 6).getLsbD 1 = noEffect ∧
    byte 12 = BitVec.ofNat 8 result ∧ byte 13 = BitVec.ofNat 8 (result / 2 ^ 8) ∧ byte 14 = BitVec.ofNat 8 (result / 2 ^ 16) ∧
    byte 15 = BitVec.ofNat 8 (result / 2 ^ 24)

/-- The command of a descriptor completes: `t` answers the descriptor, and the next state is `t` with the events of the step written
(R65, step 4), which touches nothing but the event ring (`stepEvents`). -/
def Answers (c : Instr) (d : Desc) (s t : State) (noEffect : Bool) (result : Nat) : Prop :=
  exec c s = .next (stepEvents s t) ∧ Answered t d 0 noEffect result

/-- Nothing of the registers, the rings and host memory differs but what the fetch and the completion of a descriptor write: its ring's
counts and HEAD, CQ_TAIL and CLAMP_COUNT registers, and its completion record; the registers that `also` lists; and a report of `len` bytes
at a host address. -/
def OnlyRing (d : Desc) (s t : State) (also : List Nat) (addr : Nat := 0) (len : Nat := 0) : Prop :=
  (∀ a, a ≠ A.hriRingHead d.ring.val → a ≠ A.hriRingCqTail d.ring.val → a ≠ A.hriRingClampCount d.ring.val → a ∉ also → t.reg a = s.reg a) ∧
    (∀ m, m ≠ d.ring.val → t.ring m = s.ring m) ∧
    ∀ q, (∀ j, j < 16 → q ≠ (s.recordAt d.ring.val + j) % 2 ^ 64) → (∀ j, j < len → q ≠ (addr + j) % 2 ^ 64) → t.hostByte q = s.hostByte q

/-- The report `bytes` stands at a host address in `t`: each of its bytes that the descriptor's completion record, written after it,
does not cover. -/
def Reported (s t : State) (d : Desc) (addr : Nat) (bytes : List Byte) : Prop :=
  ∀ k, k < bytes.length → (∀ j, j < 16 → (s.recordAt d.ring.val + j) % 2 ^ 64 ≠ (addr + k) % 2 ^ 64) →
    t.hostByte ((addr + k) % 2 ^ 64) = bytes.getD k 0

/-! ## The Shroud (spec/13_shroud_safety.md) -/

/-- What a function instance becomes in a Shroud step from `u`, in which arrivals, samples and reset edges have been taken (R475, R479 to
R482, Tables 13.3 and 13.4): all but an SS1 that another instance's REACT starts or that takes over a running SS2. -/
def fnNext (u : State) (k : Nat) (f : FnCfg) : FnSt :=
  let x := u.fn k
  let now := u.shr.tick
  let axes := u.zoneSafe f.zone
  let speed (a : Nat) : Nat := (u.sa a).speed.natAbs
  let positions : Table Int := axes.map (fun e => (e.1, (u.sa e.1).pos))
  let demand : Bool := (upto 8).any (fun p => f.pairs.testBit p && u.pairDemand p) || (f.host && x.host) ||
    (match f.tse with | some (c, b) => (u.tseC c).state != 2 || !(u.tseC c).input.testBit b | none => false)
  let hasSs1 : Bool := u.scfg.fns.any (fun e => e.2.func == 2 && e.2.zone == f.zone)
  let breach (y : FnSt) : FnSt := { y with state := 4, sto := true, sos := false }
  let reacts (y : FnSt) : FnSt := if f.react && hasSs1 then { y with state := 4 } else breach y
  let left (y : FnSt) : Bool := axes.any (fun e => decide (e.2.posWin < ((u.sa e.1).pos - Table.look 0 y.pos e.1).natAbs))
  -- the onset of a demanded instance
  let y : FnSt := if x.state ≠ 0 then x
    else if f.func = 1 then { x with state := 3, sto := true }
    else if f.func = 2 ∨ f.func = 3 then
      { x with state := 2, onset := now, env := (f.tDelay, f.tRamp), v0 := axes.map (fun e => (e.1, (u.sa e.1).speed)) }
    else if f.func = 5 then { x with state := 1, onset := now, live := f.tReact == 0, limits := true }
    else { x with state := 1, pos := positions }
  if f.func = 7 ∨ (u.zoneDemand f.zone = false ∧ x.state = 0 ∧ demand = false) then x
  else if u.zoneDemand f.zone then { x with state := if x.state = 4 then 4 else 3, sto := true, sos := false }
  else if x.state = 1 ∧ demand = false then { host := x.host }
  else if y.state = 2 then
    -- a running stop: its envelope, and its end at standstill
    let t := now - y.onset
    let td := y.env.1
    let tr := y.env.2
    let above (e : Nat × SafeAxisCfg) : Bool :=
      let v0 := (Table.look 0 y.v0 e.1).natAbs
      (decide (t ≤ td) && decide (v0 + e.2.vTol < speed e.1)) ||
        (decide (td < t ∧ t < td + tr) && decide (v0 * (td + tr - t) + e.2.vTol * tr < speed e.1 * tr))
    if tr = 0 then y
    else if axes.any above then breach y
    else if axes ≠ [] ∧ axes.all (fun e => decide (speed e.1 ≤ e.2.vZero)) = true then
      (if f.func = 2 then { y with state := 3, sto := true } else { y with state := 3, sos := true, pos := positions })
    else y
  else if y.state = 1 then
    if f.func = 4 then (if left y then breach y else y)
    else if f.func = 5 then
      (if y.live && axes.any (fun e => decide (f.share * e.2.vRef + e.2.vTol * 65536 < speed e.1 * 65536)) then reacts y else y)
    else if f.func = 6 then
      let sg : Int := if f.dir then 1 else -1
      let furthest (a : Nat) : Int := if sg * (u.sa a).pos < sg * Table.look 0 y.pos a then (u.sa a).pos else Table.look 0 y.pos a
      let z : FnSt := { y with pos := axes.map (fun e => (e.1, furthest e.1)) }
      if axes.any (fun e => decide ((e.2.sdiTol : Int) < sg * ((u.sa e.1).pos - Table.look 0 z.pos e.1))) then reacts z else z
    else y
  else if x.state = 0 then y
  else if x.sos = true ∧ left x = true ∧ x.state ≠ 4 then breach x
  else
    let z := if x.sos && left x then breach x else x
    if demand = false ∧ f.restart = true ∧ (u.zone f.zone).acked = true then { host := x.host } else z

/-- An output pair has taken a step from `u` (R481, R483, R484): a safe output follows its zone, a brake output the zones of its SBC
instances, T_BRAKE after torque is lost in one; and a pair turns on once no dark pulse of either channel runs. -/
def OutStepped (u t : State) (q : Nat) : Prop :=
  let c := u.scfg
  let x := u.outP q
  let y := t.outP q
  let zones := u.outZones q
  let free : Prop := zones ≠ [] ∧ (∀ z, z ∈ zones → (t.zone z).sto = false ∧ c.zones.any (fun e => e.1 == z) = true)
  let stops (z : Nat) : Bool := c.fns.any (fun e => e.2.zone == z && (e.2.func == 2 || e.2.func == 3) && (t.fn e.1).state == 2)
  let ends (d : Option Nat) : Nat := match d with
    | none => 0
    | some a => if u.nowNs < a + 300000 then a + 300000 else 0
  (y.on = true → x.fault = false ∧ u.shrState = 2 ∧ y.rise = if x.on then x.rise else max (ends x.darkA) (ends x.darkB)) ∧
  ((c.out q).use = 0 → y.on = false) ∧
  ((c.out q).use = 1 → (y.on = true ↔ free ∧ (∀ z, z ∈ zones → stops z = false) ∧ x.fault = false ∧ u.shrState = 2)) ∧
  ((c.out q).use = 2 → free → y.brakeDue = none ∧ (y.on = true ↔ x.fault = false ∧ u.shrState = 2)) ∧
  ((c.out q).use = 2 → ¬ free → ∀ e, e ∈ c.fns → c.fns.filter (fun o => o.2.func == 7 && o.2.out == q) = [e] →
    let lost : Prop := (u.zone e.2.zone).sto = false ∧ (t.zone e.2.zone).sto = true
    y.brakeDue = (if lost then (if e.2.tBrake = 0 then none else some (u.shr.tick + e.2.tBrake)) else x.brakeDue) ∧
    (y.on = true ↔ x.on = true ∧ y.brakeDue.isSome = true ∧ x.fault = false ∧ u.shrState = 2))

/-- The instances of the configuration in force have taken a step from `u`, and the zones, torque and registers follow (R462, R465, R477,
Tables 13.10 and 13.11). -/
def FnsStepped (u t : State) : Prop :=
  let c := u.scfg
  let stops (z : Nat) : Prop := u.shrState ≠ 2 ∨ u.lc = 4 ∨ (u.zone z).acked = false ∨ (u.zone z).held = true ∨
    (∃ e, e ∈ c.fns ∧ e.2.zone = z ∧ (t.fn e.1).sto = true) ∨ u.zoneDemand z = true
  t.shr.cfg = u.shr.cfg ∧ t.shr.tick = u.shr.tick ∧ t.shrState = u.shrState ∧
  ((c.fns.map (·.1)).Nodup → ∀ e, e ∈ c.fns →
    ((e.2.func = 2 → ∀ g, g ∈ c.fns → g.2.zone = e.2.zone → g.2.func ≠ 3 ∧ ((g.2.func = 5 ∨ g.2.func = 6) → g.2.react = false)) →
      t.fn e.1 = fnNext u e.1 e.2) ∧
    t.reg (A.shrFn e.1) = BitVec.ofNat 32 (e.2.func * 2 ^ 28 + e.2.zone * 2 ^ 24 + t.srcDem e.2 (t.fn e.1) * 2 ^ 8 + (t.fn e.1).state)) ∧
  (∀ e, e ∈ c.zones → ((t.zone e.1).sto = true ↔ stops e.1)) ∧
  (∀ n, n < 24 → ((t.get F.shrStoCmd_TORQUE).testBit n = true ↔
    n < u.slots ∧ u.getB F.pwtThermStatus_TRIP = false ∧ ∃ z, u.slotZone n = some z ∧ (t.zone z).sto = false)) ∧
  (t.getB F.shrStatus_STO_ALL = true ↔ u.shrState ≠ 2 ∨ ∀ e, e ∈ c.zones → (t.zone e.1).sto = true) ∧
  t.shr = { u.shr with fns := t.shr.fns, zones := t.shr.zones, outs := t.shr.outs, conns := t.shr.conns } ∧ ∀ q : Fin 4, OutStepped u t q.val

/-! ## Flags of STICKY -/

/-- The flag SAT, ASAT, DIVZ of STICKY where a condition holds (Table 7.4). -/
def satFlag (c : Bool) : Nat := if c then 1 else 0
def asatFlag (c : Bool) : Nat := if c then 2 else 0
def divzFlag (c : Bool) : Nat := if c then 8 else 0

end Sys2Proof.Machine

namespace Sys2Proof
open Machine

/-- What an instruction leaves that writes one register of the set in use and sets flags: the pc is past it, and nothing else changes. -/
def SparAt.wrote (i : SparAt) (s t : State) (rd : Nat) (v : W64) (flags : Nat) : Prop :=
  OnlyEngine i s t ∧ (s.eng i.e.val).set'.wrote (t.eng i.e.val).set' rd v flags ∧ (t.eng i.e.val).other = (s.eng i.e.val).other ∧
    t.eng i.e.val = { s.eng i.e.val with
      pc := (s.eng i.e.val).pc + 4, base := (t.eng i.e.val).base, intr := (t.eng i.e.val).intr }

/-- A command completes as an instruction that writes one register of the set in use and sets flags. -/
def SparAt.writes (i : SparAt) (c : Instr) (s : State) (rd : Nat) (v : W64) (flags : Nat) : Prop :=
  ∃ t, exec c s = .next t ∧ i.wrote s t rd v flags

/-- A command completes and changes nothing but the engine, which becomes what `f` makes of it as the instruction finds it: the pc past
the instruction. -/
def SparAt.makes (i : SparAt) (c : Instr) (s : State) (f : Eng → Eng) : Prop :=
  ∃ t, exec c s = .next t ∧ OnlyEngine i s t ∧ t.eng i.e.val = f { s.eng i.e.val with pc := (s.eng i.e.val).pc + 4 }

/-- The pc after a jump by a signed count of instructions from the instruction itself. -/
def SparAt.target (i : SparAt) (s : State) (off : BitVec 16) : Nat := wrapN 32 ((s.eng i.e.val).pc + 4 * off.toInt)

end Sys2Proof
end

