-- ==== Sys2Proof/Certificates/Slice0/Obligations.lean ====
section
/-!
DEFINITION. The statements for the provers, one for each rule or family of rules of the spec that says what a command does.
-/
open Sys2Proof Sys2Proof.Machine


/-- The step of the block (notes/assumptions/1.md): first in, first out; an empty queue idles. -/
def Obligations.StepRunsFront : Prop :=
  (∀ (c : Instr) (q : List Instr) (s : State), s.pending = c :: q → step s = exec c { s with pending := q }) ∧
  (∀ s : State, s.pending = [] → step s = .next s)

/-- The state after reset as the register tables give it (spec/03_modes_and_startup.md, Tables 3.10 to 3.13 and those of the other blocks). -/
def Obligations.ResetState : Prop :=
  State.reset.get F.glbId_PART = 0x6480 ∧ State.reset.mode = mReset ∧ State.reset.ready = false ∧
    (∀ g, g < 32 → State.reset.gst g = gIdle) ∧ (∀ n, n < 64 → State.reset.ringState n = 0) ∧
    State.reset.getB F.hriEvtCfg_EN = false ∧ State.reset.ftNs = 31250 ∧ (∀ e, (State.reset.eng e).run = false) ∧
    State.reset.tickNo = 0 ∧ State.reset.pending = [] ∧ State.reset.tablesOk = true

/-- No command is refused, and none touches the queue (notes/assumptions/1.md). -/
def Obligations.StepTakesOneCommand : Prop :=
  ∀ s : State, ∃ t, step s = .next t ∧ t.pending = s.pending.tail

/-- The invariant of the whole machine: the canonical form of its registers and of host memory. -/
def Obligations.TablesStayCanonical : Prop :=
  ∀ s t : State, s.tablesOk = true → step s = .next t → t.tablesOk = true

/-- R272, R277, Tables 7.6 and 7.8: the integer instructions, for every register, operand and immediate, with their frame (`SparAt.wrote`). -/
def Obligations.AluIntegers : Prop :=
  ∀ (i : SparAt) (rd ra rb rc : Fin 64) (s : State), s.issues i →
    let a := s.g i.e.val ra.val
    let b := s.g i.e.val rb.val
    let w (c : Instr) (v : W64) (f : Nat) : Prop := i.writes c s rd.val v f
    let sat (c : Instr) (x : Int) : Prop := w c (BitVec.ofInt 64 (held 64 x)) (satFlag (outside 64 x))
    (∀ imm : BitVec 14, w (.addi i rd ra imm) (a + imm.signExtend 64) 0 ∧ w (.andi i rd ra imm) (a &&& imm.setWidth 64) 0) ∧
    (∀ imm : BitVec 16, w (.ldi i rd imm) (imm.signExtend 64) 0) ∧
    (∀ (lane : Fin 4) (imm : BitVec 16), ∃ v, w (.ldk i rd lane imm) v 0 ∧
      ∀ k, k < 64 → v.getLsbD k = if k / 16 = lane.val then imm.getLsbD (k % 16) else (s.g i.e.val rd.val).getLsbD k) ∧
    w (.sel i rd ra rb rc) (if a ≠ 0 then b else s.g i.e.val rc.val) 0 ∧
    w (.add i rd ra rb) (a + b) 0 ∧ sat (.adds i rd ra rb) (a.toInt + b.toInt) ∧
    w (.sub i rd ra rb) (a - b) 0 ∧ sat (.subs i rd ra rb) (a.toInt - b.toInt) ∧
    w (.and i rd ra rb) (a &&& b) 0 ∧ w (.or i rd ra rb) (a ||| b) 0 ∧ w (.xor i rd ra rb) (a ^^^ b) 0 ∧
    w (.shl i rd ra rb) (if 64 ≤ b.toNat then 0 else a <<< b.toNat) 0 ∧
    w (.shr i rd ra rb) (if 64 ≤ b.toNat then 0 else a >>> b.toNat) 0 ∧
    w (.sra i rd ra rb) (if 64 ≤ b.toNat then (if a.toInt < 0 then -1 else 0) else a.sshiftRight b.toNat) 0 ∧
    sat (.shls i rd ra rb) (if 64 ≤ b.toNat then a.toInt * 2 ^ 64 else a.toInt * 2 ^ b.toNat) ∧
    (∀ n : Fin 64, w (.shli i rd ra n) (a <<< n.val) 0 ∧ w (.shri i rd ra n) (a >>> n.val) 0 ∧
      w (.srai i rd ra n) (a.sshiftRight n.val) 0 ∧ sat (.shlsi i rd ra n) (a.toInt * 2 ^ n.val)) ∧
    w (.min i rd ra rb) (if a.toInt < b.toInt then a else b) 0 ∧ w (.max i rd ra rb) (if a.toInt < b.toInt then b else a) 0 ∧
    w (.minu i rd ra rb) (if a.toNat < b.toNat then a else b) 0 ∧ w (.maxu i rd ra rb) (if a.toNat < b.toNat then b else a) 0 ∧
    sat (.abss i rd ra) a.toInt.natAbs ∧ sat (.negs i rd ra) (-a.toInt) ∧
    w (.slt i rd ra rb) (if a.toInt < b.toInt then 1 else 0) 0 ∧ w (.sltu i rd ra rb) (if a.toNat < b.toNat then 1 else 0) 0 ∧
    w (.seq i rd ra rb) (if a = b then 1 else 0) 0 ∧
    w (.sext32 i rd ra) ((a.setWidth 32).signExtend 64) 0 ∧ w (.sext16 i rd ra) ((a.setWidth 16).signExtend 64) 0 ∧
    w (.sext8 i rd ra) ((a.setWidth 8).signExtend 64) 0 ∧
    w (.mulh i rd ra rb) (BitVec.ofInt 64 ((a.toInt * b.toInt).fdiv (2 ^ 64))) 0 ∧
    w (.mull i rd ra rb) (BitVec.ofInt 64 (a.toInt * b.toInt)) 0 ∧
    (let n : Int := b.toInt.natAbs
     let r : Int := max (-n) (min n a.toInt)
     w (.clips i rd ra rb) (BitVec.ofInt 64 r) (satFlag (decide (r ≠ a.toInt))))

/-- R275: NORM, EXPX and GMUL for every operand, with their frame (`SparAt.wrote`). `p` is the position of the leading 1. -/
def Obligations.AluNormalised : Prop :=
  ∀ (i : SparAt) (rd ra rb q : Fin 64) (s : State), s.issues i →
    let a := s.g i.e.val ra.val
    let b := s.g i.e.val rb.val
    (∃ n, n ≤ 63 ∧ i.writes (.norm i rd ra) s rd.val (BitVec.ofNat 64 n) 0 ∧
      (∀ k, 63 - n ≤ k → k < 63 → a.getLsbD k = a.getLsbD 63) ∧ (n < 63 → a.getLsbD (62 - n) ≠ a.getLsbD 63)) ∧
    (a = 0 → i.writes (.expx i rd ra q) s rd.val 0 0) ∧
    (∀ p, 2 ^ p ≤ a.toNat → a.toNat < 2 ^ (p + 1) →
      let m0 := if p ≤ 31 then a.toNat * 2 ^ (31 - p) else (2 * a.toNat + 2 ^ (p - 31)) / 2 ^ (p - 30)
      let m := if m0 = 2 ^ 32 then 2 ^ 31 else m0
      let x : Int := (if m0 = 2 ^ 32 then p + 1 else p : Nat) - (q.val : Int)
      i.writes (.expx i rd ra q) s rd.val
        (BitVec.ofNat 64 (if 63 < x then 63 * 2 ^ 32 + (2 ^ 32 - 1)
          else if x < -64 then (256 - 64) * 2 ^ 32 + (2 * m + 2 ^ (-64 - x).toNat) / 2 ^ ((-64 - x).toNat + 1)
          else (x % 256).toNat * 2 ^ 32 + m))
        (satFlag (decide (63 < x)))) ∧
    (let e : Int := max (-64) (min 63 (BitVec.extractLsb' 32 8 b).toInt)
     let y := a.toInt * (b.toNat % 2 ^ 32 : Nat)
     let r : Int := if 31 ≤ e then y * 2 ^ (e - 31).toNat else nearestAway y (2 ^ (31 - e).toNat)
     i.writes (.gmul i rd ra rb) s rd.val (BitVec.ofInt 64 (held 64 r)) (satFlag (outside 64 r)))

/-- R273, R274: the accumulator instructions, each with its whole frame: the engine becomes what is said here and nothing else of the
part changes. SHIFT runs to 96. -/
def Obligations.MacAccumulator : Prop :=
  ∀ (i : SparAt) (rd ra rb : Fin 64) (acc : Bool) (s : State), s.issues i →
    let a := s.g i.e.val ra.val
    let b := s.g i.e.val rb.val
    let v := (s.acc i.e.val acc).toInt
    (∀ sg : MacSign,
      let p : Int := match sg with
        | .ss => a.toInt * b.toInt
        | .uu => a.toNat * b.toNat
        | .su => a.toInt * b.toNat
      let put (r : RegSet) (x : Int) : RegSet := r.withAcc acc (held 160 x) (asatFlag (outside 160 x))
      i.makes (.mul i ra rb acc sg) s (fun x => x.updSet (fun r => put r p)) ∧
      i.makes (.mac i ra rb acc sg) s (fun x => x.updSet (fun r => put r (v + p))) ∧
      i.makes (.msu i ra rb acc sg) s (fun x => x.updSet (fun r => put r (v - p))) ∧
      (∀ gx gy : Fin 4, gx ≠ gy → ra ≠ rb →
        let ax := ((s.eng i.e.val).set'.ag gx.val).at' 0
        let ay := ((s.eng i.e.val).set'.ag gy.val).at' 0
        ax % 8 = 0 → ay % 8 = 0 → ax < 0x40000 → ay < 0x40000 →
        let word (k : Nat) : W64 := BitVec.ofNat 64 (memLe (s.eng i.e.val).sram k 8)
        let reload (r : RegSet) (x : Int) : RegSet :=
          ((((put r x).wr ra.val (word ax)).wr rb.val (word ay)).stepped gx.val 8).stepped gy.val 8
        i.makes (.mulld i ra rb gx gy acc sg) s (fun x => x.updSet (fun r => reload r p)) ∧
        i.makes (.macld i ra rb gx gy acc sg) s (fun x => x.updSet (fun r => reload r (v + p))) ∧
        i.makes (.msuld i ra rb gx gy acc sg) s (fun x => x.updSet (fun r => reload r (v - p))))) ∧
    (∀ (shift : Fin 128) (rnd : Bool), shift.val ≤ 96 →
      let q : Int := if rnd then nearestAway v (2 ^ shift.val) else v.fdiv (2 ^ shift.val)
      i.writes (.extr i rd shift acc rnd) s rd.val (BitVec.ofInt 64 (held 64 q)) (asatFlag (outside 64 q)) ∧
      i.makes (.acld i ra shift acc) s (fun x => x.updSet (fun r => r.withAcc acc (a.toInt * 2 ^ shift.val) 0))) ∧
    (∃ n, n ≤ 159 ∧ i.writes (.norma i rd acc) s rd.val (BitVec.ofNat 64 n) 0 ∧
      (∀ k, 159 - n ≤ k → k < 159 → (s.acc i.e.val acc).getLsbD k = (s.acc i.e.val acc).getLsbD 159) ∧
      (n < 159 → (s.acc i.e.val acc).getLsbD (158 - n) ≠ (s.acc i.e.val acc).getLsbD 159))

/-- R276: the divisions and the square root, for every operand, with their frame. SINCOS and ATAN2 have a statement of their own. -/
def Obligations.Division : Prop :=
  ∀ (i : SparAt) (rd ra rb : Fin 64) (s : State), s.issues i →
    let a := s.g i.e.val ra.val
    let b := s.g i.e.val rb.val
    let signed (c : Instr) (x y : Int) : Prop :=
      i.writes c s rd.val
        (BitVec.ofInt 64 (if y = 0 then (if x = 0 then 0 else if x < 0 then -(2 ^ 63) else 2 ^ 63 - 1) else held 64 (x.tdiv y)))
        (divzFlag (decide (y = 0)) ||| satFlag (decide (y ≠ 0) && outside 64 (x.tdiv y)))
    signed (.div i rd ra rb) a.toInt b.toInt ∧
    i.writes (.divu i rd ra rb) s rd.val
      (if b = 0 then (if a = 0 then 0 else -1) else BitVec.ofNat 64 (a.toNat / b.toNat)) (divzFlag (decide (b = 0))) ∧
    signed (.diva0 i rd ra) (s.eng i.e.val).set'.acc0.toInt a.toInt ∧
    signed (.diva1 i rd ra) (s.eng i.e.val).set'.acc1.toInt a.toInt ∧
    (∃ r, i.writes (.sqrtu i rd ra) s rd.val (BitVec.ofNat 64 r) 0 ∧ r * r ≤ a.toNat ∧ a.toNat < (r + 1) * (r + 1))

/-- SINCOS and ATAN2 (spec/07_spar_engines.md, R276): what is written and what is not. The values are free within the manual's error
(notes/assumptions/9.md): this statement gives them where the manual gives them exactly, and their range elsewhere. -/
def Obligations.AngleFunctions : Prop :=
  ∀ (i : SparAt) (rd ra rb : Fin 64) (s : State), s.issues i →
    (rd ≠ rb → ∃ (t : State) (v w : Int), exec (.sincos i rd ra rb) s = .next t ∧ OnlyEngine i s t ∧
      t.eng i.e.val = Eng.updSet { s.eng i.e.val with pc := (s.eng i.e.val).pc + 4 }
        (fun r => (r.wr rd.val (BitVec.ofInt 64 v)).wr rb.val (BitVec.ofInt 64 w)) ∧
      (let theta := (s.g i.e.val ra.val).toNat % 2 ^ 32
       (theta = 0 → w = 2 ^ 30) ∧ (theta = 2 ^ 30 → v = 2 ^ 30) ∧ (theta = 2 ^ 31 → w = -(2 ^ 30)) ∧
         (theta = 3 * 2 ^ 30 → v = -(2 ^ 30)))) ∧
    (∃ n, i.writes (.atan2 i rd ra rb) s rd.val (BitVec.ofNat 64 n) 0 ∧ n < 2 ^ 32 ∧
      (s.g i.e.val ra.val = 0 → s.g i.e.val rb.val = 0 → n = 0))

/-- R263, R270, R280, Tables 7.2 and 7.3: loads and stores. The address is the one that the addressing mode gives on the state before the
instruction; for a store, every byte of the data SRAM outside the stored ones reads as before. -/
def Obligations.LoadStore : Prop :=
  ∀ (i : SparAt) (rd : Fin 64) (sz : Fin 7) (m : MemAddr) (s : State), s.issues i →
    let x := s.eng i.e.val
    let n := match sz.val with | 0 | 4 => 1 | 1 | 5 => 2 | 2 | 6 => 4 | _ => 8
    let a := x.set'.memAt n m
    let loads (v : Nat) : Prop := i.makes (.ld i rd sz m) s (fun y => y.updSet (fun r =>
      (r.memAfter n m).wr rd.val
        (if sz.val < 4 then BitVec.ofNat 64 v
         else if v < 2 ^ (8 * n - 1) then BitVec.ofNat 64 v else BitVec.ofInt 64 (v - 2 ^ (8 * n) : Int))))
    a % n = 0 →
    (a < 0x40000 → loads (memLe x.sram a n)) ∧
    (∀ o, o < 0x1000 → a = 0x80000 + o → loads (memLe (if x.xwMask.contains (o / 8) then x.xw else x.pub) o n)) ∧
    (∀ o, o < 0x1000 → a = 0x90000 + o → 24 ≤ i.e.val → i.e.val < 32 → loads (memLe x.hal o n)) ∧
    (∀ o, o < 0x1000 → a = 0xA0000 + o → loads (memLe x.prm o n)) ∧
    (∀ e o, e < 38 → o < 0x1000 → a = 0x100000 + 0x1000 * e + o → (e = i.e.val ∨ s.ephagon e = false) →
      loads (memLe (s.eng e).pub o n)) ∧
    (a < 0x40000 → ∃ t, exec (.st i rd sz m) s = .next t ∧ OnlyEngine i s t ∧
      t.eng i.e.val = { x.updSet (fun r => r.memAfter n m) with pc := x.pc + 4, sram := (t.eng i.e.val).sram } ∧
      (∀ k, k < n → Table.look 0 (t.eng i.e.val).sram (a + k) = BitVec.ofNat 8 ((s.g i.e.val rd.val).toNat / 256 ^ k)) ∧
      (∀ b, b < a ∨ a + n ≤ b → Table.look 0 (t.eng i.e.val).sram b = Table.look 0 x.sram b))

/-- R260, Tables 7.5, 7.6, 7.7 and 7.11: control flow. R282's cycle counts are timing and outside the model. -/
def Obligations.Branches : Prop :=
  ∀ (i : SparAt) (rd ra : Fin 64) (off : BitVec 16) (s : State), s.issues i →
    let a := s.g i.e.val ra.val
    let lc := (s.eng i.e.val).set'.lc
    let jump (c : Bool) (x : Eng) : Eng := if c then { x with pc := i.target s off } else x
    let branch (c : Instr) (taken : Bool) : Prop := i.makes c s (jump taken)
    branch (.beqz i ra off) (decide (a = 0)) ∧ branch (.bnez i ra off) (decide (a ≠ 0)) ∧
    branch (.bltz i ra off) (decide (a.toInt < 0)) ∧ branch (.bgez i ra off) (decide (0 ≤ a.toInt)) ∧
    branch (.bgtz i ra off) (decide (0 < a.toInt)) ∧ branch (.blez i ra off) (decide (a.toInt ≤ 0)) ∧
    branch (.b i off) true ∧
    (let n : W64 := if lc = 0 then 0 else lc - 1
     i.makes (.bloop i off) s (fun x => jump (decide (n ≠ 0)) (x.updSet (fun r => { r with lc := n }))) ∧
     i.makes (.bloopr i off) s (fun x => jump (decide (n ≠ 0)) (x.updSet (fun r => { r with lc := n, rrb := (r.rrb + 31) % 32 })))) ∧
    i.makes (.jal i rd off) s (fun x => jump true (x.updSet (fun r => r.wr rd.val (BitVec.ofNat 64 ((s.eng i.e.val).pc + 4))))) ∧
    (a.toNat % 4 = 0 → i.makes (.jr i ra) s (fun x => { x with pc := a.toNat % 2 ^ 32 }))

/-- R259, R269, R278, R294, Tables 7.4, 7.14 and 7.16: the control registers and the other register set. -/
def Obligations.ControlRegisters : Prop :=
  ∀ (i : SparAt) (rd ra : Fin 64) (s : State), s.issues i →
    let x := s.eng i.e.val
    let r := x.set'
    let v := s.g i.e.val ra.val
    let w := v.toNat
    let b (c : Bool) (n : Nat) : Nat := if c then 2 ^ n else 0
    let reads (n : BitVec 8) (y : Nat) : Prop := i.writes (.mfc i rd n) s rd.val (BitVec.ofNat 64 y) 0
    let set (n : BitVec 8) (f : RegSet → RegSet) : Prop := i.makes (.mtc i ra n) s (fun y => y.updSet f)
    let puts (n : BitVec 8) (f : Eng → Eng) : Prop := i.makes (.mtc i ra n) s f
    (reads 0x00 i.e.val ∧ reads 0x01 ((s.reg A.clkTickLo).toNat + (s.reg (A.clkTickLo + 4)).toNat * 2 ^ 32) ∧ reads 0x02 i.cyc ∧
      reads 0x03 ((s.clk.clk + i.cyc * s.clk.incr) / 2 ^ 32) ∧ reads 0x04 r.sticky ∧ reads 0x05 r.rrb ∧ reads 0x06 r.lc.toNat ∧
      reads 0x08 x.ien ∧ reads 0x09 x.ipend ∧ reads 0x0A x.tmrCmp ∧
      reads 0x0B (b x.update 4 + (if x.inH then 2 * x.src + 1 else 0)) ∧
      reads 0x0C (b x.otherValid 2 + b x.swapped 1 + b x.active 0) ∧
      reads 0x0D (b (x.cutPassed && decide (24 ≤ i.e.val ∧ i.e.val < 32)) 3 + b x.xLate 2 + b x.tickPend 1 + b x.xDone 0) ∧
      reads 0x20 x.dmaLoc ∧ reads 0x21 x.dmaExt ∧ reads 0x22 x.dmaCtl ∧ reads 0x23 (b x.dmaDone 1 + b x.dma.isSome 0)) ∧
    (∀ k : Fin 4, reads (0x10 + BitVec.ofNat 8 k.val) (r.ag k.val).base.toNat ∧ reads (0x14 + BitVec.ofNat 8 k.val) (r.ag k.val).len ∧
      reads (0x18 + BitVec.ofNat 8 k.val) (r.ag k.val).ofs.toNat ∧
      set (0x10 + BitVec.ofNat 8 k.val) (fun y => y.updAg k.val (fun g => { g with base := BitVec.ofNat 32 w })) ∧
      set (0x14 + BitVec.ofNat 8 k.val) (fun y => y.updAg k.val (fun g => { g with len := min (w - w % 8) 0x40000 })) ∧
      set (0x18 + BitVec.ofNat 8 k.val) (fun y => y.updAg k.val (fun g => { g with ofs := BitVec.ofNat 32 w }))) ∧
    (∀ n ∈ [0x00, 0x01, 0x02, 0x03, 0x0B, 0x0C, 0x0D], puts n id) ∧
    set 0x04 (fun y => { y with sticky := y.sticky &&& (127 - w % 128) }) ∧ set 0x05 (fun y => { y with rrb := w % 32 }) ∧
    set 0x06 (fun y => { y with lc := v }) ∧ puts 0x08 (fun y => { y with ien := w % 32 }) ∧
    puts 0x09 (fun y => { y with ipend := y.ipend &&& (31 - w % 32) }) ∧ puts 0x0A (fun y => { y with tmrCmp := w % 2 ^ 32 }) ∧
    puts 0x20 (fun y => { y with dmaLoc := w % 2 ^ 18 - w % 8 }) ∧ puts 0x21 (fun y => { y with dmaExt := w % 2 ^ 23 - w % 8 }) ∧
    (v.getLsbD 31 = false → puts 0x22 (fun y => { y with dmaCtl := w &&& 0x7F01FFFF })) ∧
    puts 0x23 (fun y => { y with dmaDone := y.dmaDone && !v.getLsbD 1 }) ∧
    i.writes (.mfs i rd ra) s rd.val (x.other.rd ra.val) 0 ∧
    i.makes (.mts i rd ra) s (fun y => y.updOther (fun o => o.wr rd.val v))

/-- R284, R288 to R290, R296, Tables 7.7 and 7.14a: the control instructions. For RETI the handler is not one that makes INRDY pending
or ends an update; those are said in the same statement's last clauses. -/
def Obligations.Handshake : Prop :=
  ∀ (i : SparAt) (s : State), s.issues i →
    let x := s.eng i.e.val
    let done (y : Eng) : Eng := if y.xLate then { y with xLate := false, xw := [], xwMask := [] } else { y with xDone := true }
    i.makes (.sparNop i) s id ∧ i.makes (.fenceIo i) s id ∧ i.makes (.done i) s done ∧
    (x.inH = false → i.makes (.waitt i) s (fun y =>
      if (done y).tickPend then { done y with tickPend := false } else { done y with wait := .tick })) ∧
    (x.inH = false → i.makes (.waitc i) s (fun y =>
      if (24 ≤ i.e.val ∧ i.e.val < 32) ∧ y.cutPassed = false then { y with wait := .cut } else y)) ∧
    (x.inH = true → x.src ≠ 0 →
      let y : Eng := if x.src = 1 then { x with update := false } else x
      (x.ipend &&& x.ien = 0 → i.makes (.reti i) s (fun _ => { y with inH := false, pc := x.ret })) ∧
      (∀ k, k < 5 → (x.ipend &&& x.ien).testBit k → (∀ j, j < k → (x.ipend &&& x.ien).testBit j = false) →
        ∃ t, exec (.reti i) s = .next t ∧ OnlyEngine i s t ∧ (t.eng i.e.val).pc = 0x10 * (k + 1) ∧ (t.eng i.e.val).src = k ∧
          (t.eng i.e.val).inH = true ∧ (t.eng i.e.val).ipend.testBit k = false ∧ (t.eng i.e.val).base = x.base ∧
          (t.eng i.e.val).intr = x.intr)) ∧
    (s.mode ≠ mService ∨ s.get F.dbgCtrl_OWNER = 0 → i.makes (.brk i) s id) ∧
    (s.mode = mService → s.get F.dbgCtrl_OWNER ≠ 0 → ∃ t, exec (.brk i) s = .next t ∧ t.sparRuns i.e.val = false ∧
      t.getB (F.clkEngStat_HALT i.e.val) = true)

/-- R261, R263, R292, Table 7.15: exceptions, with what the event record carries (Table 2.13). On an axis engine the slot goes to its safe
levels: RUN clears and SAFE sets. -/
def Obligations.EngineExceptions : Prop :=
  ∀ (i : SparAt) (ra rb : Fin 64) (sz : Fin 7) (m : MemAddr) (s : State), s.issues i →
    let x := s.eng i.e.val
    let n := match sz.val with | 0 | 4 => 1 | 1 | 5 => 2 | 2 | 6 => 4 | _ => 8
    let a := x.set'.memAt n m
    let raises (c : Instr) (cause : Nat) : Prop :=
      ∃ t, exec c s = .next t ∧ (t.eng i.e.val).exc = some cause ∧ t.sparRuns i.e.val = false ∧
        (∀ e, e ≠ i.e.val → t.eng e = s.eng e) ∧
        (s.slotPresent i.e.val = true → t.getB (F.pwmSlotStatus_SAFE i.e.val) = true) ∧
        (s.host.evBuf.length < 256 → ∃ r ∈ t.host.evBuf, r.code = 0x0030 ∧ r.ctrl = BitVec.ofNat 16 (i.e.val * 1024 + 0x3FF) ∧
          r.payload.toNat % 256 = cause)
    (∀ w, sparLegal w = false → raises (.illegalInstruction i w) 1) ∧
    (∀ (shift : Fin 128) (acc rnd : Bool), 96 < shift.val → raises (.extr i ra shift acc rnd) 1 ∧ raises (.acld i ra shift acc) 1) ∧
    (∀ (gx gy : Fin 4) (acc : Bool) (sg : MacSign), gx = gy ∨ ra = rb → raises (.mulld i ra rb gx gy acc sg) 1 ∧
      raises (.macld i ra rb gx gy acc sg) 1 ∧ raises (.msuld i ra rb gx gy acc sg) 1) ∧
    (a % n ≠ 0 → raises (.ld i ra sz m) 2 ∧ raises (.st i ra sz m) 2) ∧
    (a % n = 0 → 0x126000 ≤ a → a < 0x408000 → raises (.ld i ra sz m) 3 ∧ raises (.st i ra sz m) 3) ∧
    (a % n = 0 → 0xA0000 ≤ a → a < 0xA1000 → raises (.st i ra sz m) 4) ∧
    (x.inH = true → raises (.waitt i) 6 ∧ raises (.waitc i) 6) ∧
    (∀ k ∈ [(0x07 : BitVec 8), 0x0E, 0x0F, 0x1C, 0x1F, 0x24, 0xFF], raises (.mfc i ra k) 8 ∧ raises (.mtc i ra k) 8)

/-- R293, Tables 7.14 to 7.16. -/
def Obligations.EngineDma : Prop :=
  ∀ (i : SparAt) (ra : Fin 64) (s : State),
    let x := s.eng i.e.val
    let v := s.g i.e.val ra.val
    let len := v.toNat % 2 ^ 17
    let ctl (y : Eng) : Eng := { y with dmaCtl := v.toNat &&& 0x7F01FFFF }
    (s.issues i → v.getLsbD 31 = true → x.dma.isSome = true →
      i.makes (.mtc i ra 0x22) s (fun y => (ctl y).updSet (fun r => { r with sticky := r.sticky ||| 64 }))) ∧
    (s.issues i → v.getLsbD 31 = true → x.dma = none → v.getLsbD 29 = false → len % 8 = 0 → 8 ≤ len → len ≤ 65536 →
      x.dmaLoc + len ≤ 0x40000 → x.dmaExt + len ≤ 2 ^ 23 →
      i.makes (.mtc i ra 0x22) s (fun y => { ctl y with
        dma := some { toRegion := v.getLsbD 30, cam := none, len := len, loc := x.dmaLoc, ext := x.dmaExt } })) ∧
    (∀ (d : Dma), x.dma = some d → ∃ t, exec (.dmaComplete i.e i.cyc) s = .next t ∧ OnlyEngine i s t ∧
      t.eng i.e.val = { x with
        dma := none, dmaDone := true, ipend := x.ipend ||| 16, sram := (t.eng i.e.val).sram, region := (t.eng i.e.val).region } ∧
      (d.toRegion = true → (t.eng i.e.val).sram = x.sram ∧ ∀ a, Table.look 0 (t.eng i.e.val).region a =
        if d.ext ≤ a ∧ a < d.ext + d.len then Table.look 0 x.sram (d.loc + (a - d.ext)) else Table.look 0 x.region a) ∧
      (d.toRegion = false → (t.eng i.e.val).region = x.region ∧ ∀ a, Table.look 0 (t.eng i.e.val).sram a =
        if d.loc ≤ a ∧ a < d.loc + d.len then
          (match d.cam with
          | none => Table.look 0 x.region (d.ext + (a - d.loc))
          | some c => (Table.look ({} : Cam) s.plan.cams c).bytes.getD (d.ext + (a - d.loc)) 0)
        else Table.look 0 x.sram a))

/-- R27, R28, R31: the clock at a strobe, whatever the tick's work does (times in 2^-32 ns). -/
def Obligations.TickStrobe : Prop :=
  ∀ (late : BitVec 38) (vmain vback pIn : BitVec 16) (s : State),
    let ft := 31250 * 2 ^ s.get F.clkFtStatus_FT_ACT * 2 ^ 32
    (s.md.bootStep = 0 → exec (.tickStrobe late vmain vback pIn) s = .next s) ∧
    (s.md.bootStep ≠ 0 → 0 < s.clk.incr → ∃ (t : State) (n m : Nat), exec (.tickStrobe late vmain vback pIn) s = .next t ∧
      t.clk.ticks = s.clk.ticks + 1 ∧ t.clk.clk = s.clk.clk + n * s.clk.incr ∧
      m * ft ≤ t.clk.clk ∧ t.clk.clk < m * ft + s.clk.incr ∧
      (if s.clk.longTick then s.clk.clk + ft ≤ m * ft ∧ m * ft < s.clk.clk + 2 * ft else s.clk.clk < m * ft ∧ m * ft ≤ s.clk.clk + ft))

/-- R37, R43, R166, R285, R343, Table 7.14a: the interrupts that the tick brings an engine. -/
def Obligations.EngineTickEvents : Prop :=
  ∀ (e : Fin 38) (n : Fin 24) (i : Fin 8) (stored : Bool) (cyc : Nat) (s : State),
    let counts : Prop := s.md.bootStep ≠ 0
    let engine (u t : State) (k : Nat) (z : Eng) : Prop := t.eng k = z ∧ ∀ j : Fin 38, j.val ≠ k → t.eng j.val = u.eng j.val
    let regsBut (u t : State) (l : List Nat) : Prop := ∀ a, a ∉ l → t.reg a = u.reg a
    -- TMR
    (let x := s.eng e.val
     let due : Prop := counts ∧ x.run = true ∧ x.tmrCmp ≠ 0 ∧ x.tmrDone = false ∧ s.clk.cyc ≤ x.tmrCmp ∧ x.tmrCmp < s.tickCycles
     (¬ due → exec (.tmrInterrupt e) s = .next s) ∧
     (due → ∃ t, exec (.tmrInterrupt e) s = .next t ∧ t = { s.atCyc x.tmrCmp with spar := t.spar } ∧
      engine s t e.val { x with ipend := x.ipend ||| 4, tmrDone := true })) ∧
    -- SUB
    (let o := exec (.subInterrupt n ⟨i, stored⟩) s
     let y := s.eng n.val
     let due : Prop := counts ∧ s.slotPresent n.val = true ∧ i.val < 2 ^ Table.look 0 s.clk.subAct n.val
     let w := s.atCyc (s.subCycle n.val i.val)
     let u := if s.getB (F.pwmSlotCfg_TB n.val) then w else updatePoint n.val w
     let halt := s.getB (F.clkEngStat_HALT n.val)
     let works : Prop := y.run = true ∧ y.exc = none ∧ s.engFaulted n.val = false
     let own := s.ephagon n.val
     let busy := if own then (s.axisL n.val).updating else y.update
     let overruns (t : State) (c : Nat) : Prop := Table.look 0 t.clk.subOvrRun n.val = c ∧
      ∀ k : Fin 24, k ≠ n → Table.look 0 t.clk.subOvrRun k.val = Table.look 0 s.clk.subOvrRun k.val
     (¬ due → o = .next s) ∧
     (due → ¬ works → o = .next u) ∧
     (due → works → halt = true → own = true ∨ busy = true → o = .next u) ∧
     (due → works → halt = false → busy = true → ∃ t, o = .next t ∧ overruns t (Table.look 0 s.clk.subOvrRun n.val + 1) ∧
      t.get (F.clkEngStat_SUB_OVR_TOTAL n.val) = min (u.get (F.clkEngStat_SUB_OVR_TOTAL n.val) + 1) 255 ∧
      regsBut u t [A.clkEngStat n.val] ∧ (s.jobOf n.val = none → t.img = u.img) ∧
      t = { u with regs := t.regs, img := t.img, clk := { u.clk with subOvrRun := t.clk.subOvrRun } }) ∧
     (due → works → own = false → busy = false → ∃ t, o = .next t ∧ engine u t n.val { u.eng n.val with ipend := (u.eng n.val).ipend ||| 1 } ∧
      overruns t 0 ∧ t = { u with spar := t.spar, clk := { u.clk with subOvrRun := t.clk.subOvrRun } }) ∧
     (due → works → halt = false → own = true → busy = false →
      (let z := u.axisL n.val
       let now := if stored = true ∧ i.val ≠ 0 then z.iNext else z.iSet
       (z.curRun = true ∨ u.loopsClosed n.val = false ∨ (u.get F.shrStoCmd_TORQUE).testBit n.val = false →
        (z.curRun = true ∧ u.loopsClosed n.val = true → ∃ t, o = .next t ∧ overruns t 0 ∧ (t.eng n.val).update = true ∧
          (t.axisL n.val).updating = true ∧ (t.axisL n.val).iSet = now) ∧
        (z.curRun = false ∨ u.loopsClosed n.val = false → ∃ t, o = .next t ∧ overruns t 0 ∧ t.axisL n.val = { z with iSet := now } ∧
          (∀ k : Fin 24, k ≠ n → t.axisL k.val = u.axisL k.val) ∧
          t = { u with loop := t.loop, clk := { u.clk with subOvrRun := t.clk.subOvrRun } })) ∧
       (z.curRun = false → u.loopsClosed n.val = true → (u.get F.shrStoCmd_TORQUE).testBit n.val = true → ∃ t, o = .next t ∧
        (t.axisL n.val).curRun = true ∧ (t.axisL n.val).vd = 0 ∧ (t.axisL n.val).vq = 0 ∧ (t.axisL n.val).intD = 0 ∧ (t.axisL n.val).intQ = 0 ∧
        (t.axisL n.val).updating = true ∧ (t.axisL n.val).iSet = now ∧ (t.eng n.val).update = true)))) ∧
    -- INRDY
    (let w := s.atCyc cyc
     let y := s.eng n.val
     let waits : Prop := s.slotPresent n.val = true ∧ s.getB (F.adcGate_EN n.val) = true ∧ Table.look false s.adc.inrdyDone n.val = false
     let tEnd := (s.slot n.val).tEnd
     let late : Prop := tEnd + s.get F.adcInrdyMax_MAX * s.clk.incr ≤ w.nowFx
     let ready : Prop := if s.getB (F.adcGate_AVG n.val) then ∀ a ∈ s.gateInputs n.val, tEnd ≤ (s.ain a.1 a.2).published
       else tEnd + 4 * s.clk.incr ≤ w.nowFx ∧ ∀ a ∈ s.gateInputs n.val, (s.slot n.val).tPrev < (s.ain a.1 a.2).last
     let told (t : State) : Prop := engine s t n.val { y with ipend := y.ipend ||| 2 } ∧
      (∀ k : Fin 24, Table.look false t.adc.inrdyDone k.val = if k = n then true else Table.look false s.adc.inrdyDone k.val) ∧
      t = { w with spar := t.spar, adc := { s.adc with inrdyDone := t.adc.inrdyDone } }
     let ends : Prop := s.doesWork n.val = true ∧ (s.axisL n.val).updating = true
     (¬ (waits ∧ late) → exec (.inrdyTimeout n cyc) s = .next w) ∧
     (waits → late → ∃ t, exec (.inrdyTimeout n cyc) s = .next t ∧ told t) ∧
     (s.slotPresent n.val = false → exec (.inrdyInterrupt n cyc) s = .next w) ∧
     (s.slotPresent n.val = true → ¬ ends →
      (¬ (waits ∧ ready) → exec (.inrdyInterrupt n cyc) s = .next w) ∧
      (waits → ready → ∃ t, exec (.inrdyInterrupt n cyc) s = .next t ∧ told t)) ∧
     (s.slotPresent n.val = true → ends →
      (let pending : Prop := (waits ∧ ready) ∨ y.ipend.testBit 1 = true ∨ s.getB (F.adcGate_EN n.val) = false
       (¬ pending → exec (.inrdyInterrupt n cyc) s = .next w) ∧
       (pending → ∃ t, exec (.inrdyInterrupt n cyc) s = .next t ∧ (t.eng n.val).update = false ∧ (t.eng n.val).ipend = y.ipend / 4 * 4)))) ∧
    -- the cutoff
    (let due : Prop := counts ∧ (s.eng 24).cutPassed = false
     let w := s.atCyc (s.get F.clkHalCutAct_CUT_ACT)
     (¬ due → exec .halCutoff s = .next s) ∧
     (due → ∃ t, exec .halCutoff s = .next t ∧ t.clk = { w.clk with fresh := t.clk.fresh } ∧
      (∀ k : Fin 8, (t.eng (24 + k.val)).cutPassed = true ∧ (t.eng (24 + k.val)).wait ≠ .cut ∧
        (t.eng (24 + k.val)).ipend = (s.eng (24 + k.val)).ipend ||| 8) ∧
      (s.doesWork eNE = false ∨ Table.look false s.clk.late eNE = true →
        (∀ k : Fin 38, ¬ (24 ≤ k.val ∧ k.val < 32) → t.eng k.val = s.eng k.val) ∧ t = { w with spar := t.spar })))

/-- R62, R64, R66: the ring descriptors and rejections (spec/02_host_rings.md). -/
def Obligations.RingDescriptors : Prop :=
  ∀ (d : Desc) (s : State),
    let n := d.ring.val
    let only (t : State) : Prop := t = { s with regs := t.regs, host := t.host, hostMem := t.hostMem }
    let counted (t : State) : Prop :=
      (t.ring n).h = (s.ring n).h + 1 ∧ (t.ring n).c = (s.ring n).c + 1 ∧ (t.ring n).done = (s.ring n).done + 1
    (∀ u : State, let v := stepEvents s u
      v = { u with regs := v.regs, host := v.host, hostMem := v.hostMem } ∧
      v.host = { u.host with evBuf := v.host.evBuf, evDropped := v.host.evDropped, evWrote := v.host.evWrote
                             irqs := v.host.irqs, msixPend := v.host.msixPend } ∧
      (∀ a, a ≠ A.hriEvtTail → a ≠ A.hriEvtLost → v.reg a = u.reg a) ∧
      (∀ q, (∀ c, c < 32 * 2 ^ u.get F.hriEvtCfg_SIZE → q ≠ (u.get64 A.hriEvtBaseLo + c) % 2 ^ 64) → v.hostByte q = u.hostByte q) ∧
      (s.host.evBuf ≠ [] ∨ u.host.evBuf = [] → v = u)) ∧
    (Accepts s 0x0000 d → ∃ t, exec (.nop d) s = .next (stepEvents s t) ∧ Answered t d 0 false 0 ∧ only t ∧ counted t) ∧
    (Accepts s 0x0001 d → ∃ t, exec (.fence d) s = .next (stepEvents s t) ∧ Answered t d 0 false 0 ∧ only t ∧ counted t ∧
      ∃ f, (t.ring n).fence = some f ∧ f.step = s.clk.ticks ∧ f.covered =
        ((List.range 64).filter (fun m => d.w1.getLsbD m && decide (m ≠ n) && decide (s.ringState m = 1))).map
          (fun m => (m, (s.ring m).t, (s.ring m).gen))) ∧
    (s.ringTakes n = true → (s.ring n).fence.isSome = true → ∃ t, exec (.nop d) s = .next t ∧
      t = { s with regs := t.regs, host := t.host } ∧ (t.ring n).h = (s.ring n).h + 1 ∧ (t.ring n).c = (s.ring n).c ∧
      (t.ring n).held = (s.ring n).held ++ [(0x0000, d)]) ∧
    ((s.ring n).fence = none → exec (.fenceRelease d.ring) s = .next s) ∧
    (∀ f, (s.ring n).fence = some f →
      let met : Prop := ∀ e ∈ f.covered, if e.1 < n then (s.ring e.1).gen ≠ e.2.2 ∨ 0 ≤ cdiff (s.ring e.1).done e.2.1
        else (s.ring e.1).gen0 ≠ e.2.2 ∨ 0 ≤ cdiff (s.ring e.1).done0 e.2.1
      let due : Prop := s.veWorks = true ∧ f.step < s.clk.ticks ∧ met
      (¬ due → exec (.fenceRelease d.ring) s = .next s) ∧
      (due → (s.ring n).held = [] → ∃ t, exec (.fenceRelease d.ring) s = .next t ∧ t = { s with host := { s.host with rings := t.host.rings } } ∧
        t.ring n = { s.ring n with fence := none } ∧ ∀ m : Fin 64, m ≠ d.ring → t.ring m.val = s.ring m.val) ∧
      (due → (s.ring n).held = [(0x0000, d)] → d.len = 0 → ∃ t, exec (.fenceRelease d.ring) s = .next (stepEvents s t) ∧
        Answered t d 0 false 0 ∧ only t ∧ (t.ring n).fence = none ∧ (t.ring n).held = []) ∧
      (∀ d2 h, due → (s.ring n).held = (0x0001, d2) :: h → d2.ring = d.ring → d2.len = 1 → ∃ t, exec (.fenceRelease d.ring) s = .next (stepEvents s t) ∧
        only t ∧ (t.ring n).held = h ∧ ∃ g, (t.ring n).fence = some g ∧ g.step = s.clk.ticks)) ∧
    (∀ k : BitVec 16, opInfo k.toNat = none → s.ringTakes n = true → (s.ring n).fence = none → Table.look none s.plan.opens n = none →
      ∃ t, exec (.rejectedOpcode k d) s = .next (stepEvents s t) ∧ Answered t d 1 false 0 ∧ only t ∧ counted t) ∧
    (s.ringTakes n = true → (s.ring n).fence = none → Table.look none s.plan.opens n = none → 0 < d.len.val →
      ∃ t, exec (.nop d) s = .next (stepEvents s t) ∧ Answered t d 2 false 0 ∧ only t ∧ counted t)

/-- R65, R71, R74: what VE finds at its next step (notes/assumptions/7.md, notes/assumptions/8.md). -/
def Obligations.Doorbells : Prop :=
  ∀ (n : Fin 64) (m : Fin 4) (t0 k0 : Option W32) (v : W32) (s : State),
    let waits (c : Instr) (a : Nat) (w : W32) : Prop := if s.ready = true then ∃ t, exec c s = .next t ∧
      t = { s with host := { s.host with hriPend := t.host.hriPend } } ∧
      t.host.hriPend = s.host.hriPend ++ [(a, s.spared a w)] else exec c s = .next s
    (if s.ready = true then ∃ t, exec (.submissionDoorbell n t0 k0) s = .next t ∧ t = { s with host := { s.host with rings := t.host.rings } } ∧
      t.ring n.val = { s.ring n.val with
        dbT := if t0.isSome then t0 else (s.ring n.val).dbT, dbK := if k0.isSome then k0 else (s.ring n.val).dbK, arrival := true } ∧
      (∀ r, r ≠ n.val → t.ring r = s.ring r) else exec (.submissionDoorbell n t0 k0) s = .next s) ∧
    (if s.ready = true then exec (.eventRingDoorbell v) s = .next { s with host := { s.host with evDb := some v } }
      else exec (.eventRingDoorbell v) s = .next s) ∧
    (if s.ready = true then ∃ t, exec (.captureRingDoorbell m v) s = .next t ∧ t = { s with host := { s.host with crDb := t.host.crDb } } ∧
      Table.look none t.host.crDb m.val = some v ∧ (∀ r, r ≠ m.val → Table.look none t.host.crDb r = Table.look none s.host.crDb r)
      else exec (.captureRingDoorbell m v) s = .next s) ∧
    waits (.ringEnable n v) (A.hriRingCfg n.val) (v ||| 0x80000000) ∧ waits (.ringDisable n v) (A.hriRingCfg n.val) (v &&& 0x7FFFFFFF) ∧
    waits (.eventRingEnable v) A.hriEvtCfg (v ||| 0x80000000) ∧ waits (.eventRingDisable v) A.hriEvtCfg (v &&& 0x7FFFFFFF) ∧
    waits (.captureRingEnable m v) (A.hriCrCfg m.val) (v ||| 0x80000000) ∧
    waits (.captureRingDisable m v) (A.hriCrCfg m.val) (v &&& 0x7FFFFFFF)

/-- R29 to R32, R42 to R45 and Table 1.8, R424, R439: what a strobe may bring besides the tick. The amount of a step is in 2^-16 ns. -/
def Obligations.ClockAndEngineFaults : Prop :=
  ∀ (e : Fin 38) (s : State),
    let sel := s.get F.clkFtCtrl_FT_SEL
    let act := s.get F.clkFtStatus_FT_ACT
    let raised : Bool := decide (sel = 0 ∧ ∃ k ∈ List.range 8, 12 < s.peLoad k)
    let got := if raised then 1 else sel
    let idle : Bool := decide (∀ g ∈ List.range 32, s.gst g = gIdle)
    let wanted : Bool := decide (sel ≠ act ∨ ∃ n ∈ List.range s.slots, s.subSel n ≠ Table.look 0 s.clk.subAct n)
    let path : Bool := decide (((s.mode = mReset ∨ s.mode = mCalibrate ∨ s.mode = mStandby) ∧ idle) ∨ (s.mode = mStandby ∧ s.clk.ftDue = true))
    (if s.md.bootStep ≠ 0 ∧ wanted ∧ path ∧ s.clk.cyc = 0 ∧ s.tickNo * s.ftNs % (31250 * 2 ^ got) = 0 then
      ∃ t, exec .ftAdopt s = .next t ∧
        t = { s with regs := t.regs, loop := t.loop, clk := { s.clk with ftDue := false, subAct := t.clk.subAct, fresh := t.clk.fresh } } ∧
        (∀ a, a ∉ [A.clkFtStatus, A.clkTickLo, A.clkTickHi, A.clkHalCutAct] → t.reg a = s.reg a) ∧
        t.get F.clkFtStatus_FT_ACT = got ∧ t.get F.clkFtStatus_SHR_PER = 32 / 2 ^ got ∧
        (t.getB F.clkFtStatus_FT_RAISED = true ↔ (raised ∨ s.getB F.clkFtStatus_FT_RAISED = true)) ∧
        t.tickNo = s.clk.clk / (31250 * 2 ^ got * 2 ^ 32) % 2 ^ 64 ∧
        t.get F.clkHalCutAct_CUT_ACT = min (s.get F.clkHalCut_CUT) (12500 * 2 ^ got - 2000) ∧
        (∀ n, n < s.slots → Table.look 0 t.clk.subAct n = s.subSel n) ∧
        ∀ a, t.axisL a = { s.axisL a with notches := (t.axisL a).notches }
    else exec .ftAdopt s = .next s) ∧
    (s.net.ptp.step = none → exec .clockStep s = .next s) ∧
    (∀ (amount : Int) (first : Bool), s.net.ptp.step = some (amount, first) →
      if s.md.bootStep = 0 ∨ s.clk.cyc ≠ 0 then exec .clockStep s = .next s
      else if (∃ g ∈ List.range 32, s.gst g = gMoving) ∨ s.mode = mHauldown ∨ s.mode = mBackstay then
        exec .clockStep s = .next (s.set F.ptpStatus_STEP_PENDING 1)
      else ∃ t, exec .clockStep s = .next t ∧
        t = { s with regs := t.regs, host := t.host, net := t.net, clk := { s.clk with clk := t.clk.clk, longTick := true, fresh := t.clk.fresh } } ∧
        (∀ a, a ∉ [A.clkFtStatus, A.clkTickLo, A.clkTickHi, A.ptpStatus, A.hriEvtLost] → t.reg a = s.reg a) ∧
        t.clk.clk = ((s.clk.clk : Int) + amount * 65536).toNat ∧ t.tickNo = t.clk.clk / (s.ftNs * 2 ^ 32) % 2 ^ 64 ∧
        t.getB F.clkFtStatus_STEP_TICK = true ∧ t.getB F.ptpStatus_STEP_PENDING = false ∧ t.net.ptp.step = none ∧
        t.net.units = [] ∧ t.net.launch = [] ∧
        (if first = true then t.getB F.ptpStatus_STEPPED = true ∧ t.get F.ptpStatus_STATE = 2
          else t.getB F.ptpStatus_STEPPED = s.getB F.ptpStatus_STEPPED ∧ t.get F.ptpStatus_STATE = s.get F.ptpStatus_STATE) ∧
        (s.host.evBuf.length < 255 → ∃ r l, t.host.evBuf = s.host.evBuf ++ r :: l ∧ r.code = 0x090B)) ∧
    (let counted : Bool := decide ((s.eng e.val).run = true ∧ s.engFaulted e.val = false ∧ s.getB (F.clkEngStat_HALT e.val) = false ∧
        s.get (F.imgEng_STEP e.val) ≠ 4)
     let sub : Bool := decide (3 ≤ Table.look 0 s.clk.subOvrRun e.val)
     let third : Bool := decide (s.get (F.clkEngStat_OVR_RUN e.val) = 2 ∧ (s.eimg e.val).act.isSome = true ∧
        (s.ephagon e.val = true ∨ (s.eng e.val).xDone = false))
     if s.md.bootStep ≠ 0 ∧ counted ∧ (sub ∨ third) then
      ∃ t, exec (.engineFault e) s = .next t ∧ (∀ k, k < 38 → (t.engFaulted k = true ↔ (k = e.val ∨ s.engFaulted k = true))) ∧
        (t.eng e.val).run = false ∧ t.get (F.clkEngStat_OVR_TOTAL e.val) =
          (if sub then s.get (F.clkEngStat_OVR_TOTAL e.val) else min (s.get (F.clkEngStat_OVR_TOTAL e.val) + 1) 65535) ∧
        Table.look 0 t.clk.subOvrRun e.val = (if sub then 0 else Table.look 0 s.clk.subOvrRun e.val) ∧
        (e.val < 24 → (t.axis e.val).faulted = true ∧
          ((s.axis e.val).faulted = false → ∀ g, s.groupOf e.val = some g → t.gst g = gFaulted)) ∧
        (24 ≤ e.val ∧ e.val < 32 → (∀ j, j < 4 → (s.members (4 * (e.val - 24) + j)).isEmpty = false →
            t.gst (4 * (e.val - 24) + j) = gFaulted) ∧
          ∀ a ∈ s.plan.axes, a.2.pe = some e.val → (t.axis a.1).faulted = true) ∧
        (s.carriesWeb e.val = true → s.mode = mCommission ∨ s.mode = mRun ∨ s.mode = mReef ∨ s.mode = mBackstay →
          s.md.decided = none → s.lc ≠ 4 → t.md.decided = some { target := mHauldown, cause := 5, rank := 4 }) ∧
        t.mode = s.mode ∧ t.web = s.web ∧ t.fbk = s.fbk ∧ t.fld = s.fld ∧ t.img = s.img ∧ t.dbg = s.dbg ∧ t.hostMem = s.hostMem ∧
        t.clk.ticks = s.clk.ticks ∧ ∀ n, t.ring n = s.ring n
     else exec (.engineFault e) s = .next s) ∧
    (if 34 ≤ e.val ∧ s.engFaulted e.val = true then ∃ t, exec (.engineRestart e) s = .next t ∧
        (∀ k, k < 38 → (t.engFaulted k = true ↔ (k ≠ e.val ∧ s.engFaulted k = true))) ∧
        t.get (F.clkEngStat_OVR_RUN e.val) = 0 ∧ (t.eng e.val).starts = true ∧ (t.eng e.val).pc = 0 ∧ (t.eng e.val).exc = none ∧
        (∀ i, s.imgSlot (s.get (F.imgEng_ACTIVE_SLOT e.val)) = some i → (t.eng e.val).sram = byteTable i.data ∧
          (if (s.eng e.val).active then (t.eng e.val).code1 else (t.eng e.val).code0) = byteTable i.code) ∧
        (∀ k, k ≠ e.val → t.eng k = s.eng k) ∧ (e.val ≠ eNE → t.net = s.net) ∧
        (e.val = eNE → t.net.ptp = { rate := s.net.ptp.rate, integ := s.net.ptp.integ } ∧
          t.get F.ptpStatus_STATE = if s.getB F.ptpStatus_STEPPED then 3 else 0) ∧
        (e.val = eVE → s.host.evBuf.length < 256 → ∃ r, t.host.evBuf = s.host.evBuf ++ [r] ∧ r.ctrl = 0x907F ∧ r.payload = 36) ∧
        (∀ g, t.gst g = s.gst g) ∧ t.mode = s.mode ∧ t.plan = s.plan ∧ t.web = s.web ∧ t.fld = s.fld ∧ t.shr = s.shr ∧ t.hostMem = s.hostMem
      else exec (.engineRestart e) s = .next s)

/-- R55, R75, R76, R80, R81: what stops rings. The ring codes are those of RING_DMA_ERROR: 64 the event ring, 65 to 68 the capture rings. -/
def Obligations.RingFaults : Prop :=
  ∀ (n : Fin 64) (m : Fin 4) (kind : Fin 4) (wr : Bool) (addr : W64) (s : State),
    let wd := s.get (F.hriRingWd_WD_TICKS n.val)
    let act := s.get (F.hriRingWd_WD_ACT n.val)
    let due : Bool := decide (s.ringState n.val ≠ 0 ∧ s.veWorks = true ∧ wd ≠ 0) &&
      (s.ring n.val).armed.any (fun t0 => decide (t0 + wd ≤ s.clk.ticks))
    let named : Nat → Bool := fun g => (s.reg (A.hriRingWdgrp n.val)).getLsbD g
    let web : Bool := decide (∃ g ∈ List.range 32, named g = true ∧ ∃ a ∈ s.members g, s.isWeb a.2 = true)
    let hauls : Bool := decide (s.mode = mCommission ∨ s.mode = mRun ∨ s.mode = mReef ∨ s.mode = mBackstay)
    let report (t : State) (p c : Nat) : Prop := s.host.evBuf.length < 256 → ∃ r l, t.host.evBuf = s.host.evBuf ++ r :: l ∧
      r.code = BitVec.ofNat 16 c ∧ r.ctrl = BitVec.ofNat 16 p
    let others (t : State) : Prop := ∀ k, k ≠ n.val → t.ring k = s.ring k ∧ t.ringState k = s.ringState k
    (if due then ∃ t, exec (.ringWatchdog n) s = .next t ∧
        t = { s with regs := t.regs, host := t.host, md := t.md, plan := t.plan, clk := { s.clk with fresh := t.clk.fresh } } ∧
        t.ring n.val = { s.ring n.val with armed := none } ∧ others t ∧ t.getB (F.hriRingStatus_WD_EXP n.val) = true ∧
        report t (0x9100 + n.val) 0x0011 ∧
        (if act = 2 ∨ (act = 1 ∧ web = true) then t.plan = s.plan ∧ t.mode = s.mode ∧
            (hauls = true → s.lc ≠ 4 → s.md.decided = none → t.md.decided = some { target := mHauldown, cause := 4, rank := 4 }) ∧
            (hauls = false → t.md = s.md)
          else if act = 1 then t.md = s.md ∧ ∀ g, g < 32 →
            if named g = true ∧ s.gst g = gMoving then t.gst g = gHolding ∧ (t.grp g).todo = (s.grp g).todo ++ [.stop]
            else t.gst g = s.gst g ∧ t.grp g = s.grp g
          else t.md = s.md ∧ t.plan = s.plan)
      else exec (.ringWatchdog n) s = .next s) ∧
    (if s.ringState n.val = 1 then ∃ t, exec (.ringDmaError (n.castLE (by omega)) wr addr) s = .next t ∧ t.ringState n.val = 2 ∧
        others t ∧ t.getB (F.hriRingStatus_DMA_ERR n.val) = true ∧ (t.ring n.val).held = [] ∧ (t.ring n.val).fence = none ∧
        (wd ≠ 0 → (t.ring n.val).armed = none) ∧ (t.ring n.val).t = (s.ring n.val).t ∧ (t.ring n.val).h = (s.ring n.val).h ∧
        (wr = false ∨ failedFrom addr.toNat (s.ring n.val).wrote = [] → (t.ring n.val).c = (s.ring n.val).c ∧ t.hostMem = s.hostMem) ∧
        (∀ w l, wr = true → failedFrom addr.toNat (s.ring n.val).wrote = w :: l → (t.ring n.val).c = w.count ∧
          t.reg (A.hriRingCqTail n.val) = w.count ∧ ∀ q, (∀ x ∈ w :: l, ∀ j, j < x.old.length → q ≠ (x.addr + j) % 2 ^ 64) →
            t.hostByte q = s.hostByte q) ∧
        (t.shr.session = if s.shr.session.map (·.1) = some n.val then none else s.shr.session) ∧
        ((s.ring n.val).armed = none → s.shr.session.map (·.1) ≠ some n.val → report t (0x9100 + n.val) 0x0012 ∧ t.md = s.md ∧ t.plan = s.plan)
      else exec (.ringDmaError (n.castLE (by omega)) wr addr) s = .next s) ∧
    (if s.getB F.hriEvtCfg_EN = true then ∃ t, exec (.ringDmaError 64 wr addr) s = .next t ∧
        t = { s with regs := t.regs, host := t.host, hostMem := t.hostMem, free := t.free, clk := { s.clk with fresh := t.clk.fresh } } ∧
        t.getB F.hriEvtCfg_EN = false ∧ t.getB F.hriEvtCfg_DMA_ERR = true ∧ t.host.rings = s.host.rings ∧
        (wr = false ∨ failedFrom addr.toNat s.host.evWrote = [] → report t 0x91FF 0x0012 ∧ t.reg A.hriEvtTail = s.reg A.hriEvtTail ∧
          t.hostMem = s.hostMem) ∧
        (∀ w l, wr = true → failedFrom addr.toNat s.host.evWrote = w :: l → t.reg A.hriEvtTail = w.count ∧
          ∃ b, t.host.evBuf = l.filterMap (·.event) ++ s.host.evBuf ++ b)
      else exec (.ringDmaError 64 wr addr) s = .next s) ∧
    (if s.getB (F.hriCrCfg_EN m.val) = true then ∃ t, exec (.ringDmaError ⟨65 + m.val, by omega⟩ wr addr) s = .next t ∧
        t.getB (F.hriCrCfg_EN m.val) = false ∧ t.getB (F.hriCrCfg_DMA_ERR m.val) = true ∧ t.host.rings = s.host.rings ∧
        report t (0x8C80 + m.val) 0x0012 ∧ (∀ k, k < 4 → k ≠ m.val → t.getB (F.hriCrCfg_EN k) = s.getB (F.hriCrCfg_EN k)) ∧
        t.md = s.md ∧ t.plan = s.plan ∧ t.shr = s.shr ∧ (wr = false → t.hostMem = s.hostMem)
      else exec (.ringDmaError ⟨65 + m.val, by omega⟩ wr addr) s = .next s) ∧
    (∃ t, exec (.hostLoss kind) s = .next t ∧ (∀ k, k < 64 → t.ringState k = 0) ∧ t.getB F.hriEvtCfg_EN = false ∧
      (∀ k, k < 4 → t.getB (F.hriCrCfg_EN k) = false) ∧ t.shr.session = none ∧ t.mode = s.mode ∧
      (s.get F.dbgCtrl_OWNER = 1 → t.get F.dbgCtrl_OWNER = 0 ∧ t.getB F.dbgCtrl_ATTACH = false) ∧
      (kind = 0 → t.host.hriPend = [] ∧ t.host.msix = [] ∧ ∀ a, 0x1000 ≤ a → a < 0x2000 → t.reg a = State.reset.reg a) ∧
      (s.host.evBuf = [] → s.shr.session = none → (∀ k, k < 64 → (s.ring k).armed = none) →
        ∃ r, t.host.evBuf.head? = some r ∧ r.code = 0x0014 ∧ r.ctrl = 0x93FF) ∧
      (∀ g, g < 32 → s.gst g ≠ gMoving → t.gst g = s.gst g) ∧
      t.fbk = s.fbk ∧ t.fld = s.fld ∧ t.web = s.web ∧ t.net = s.net ∧ t.img = s.img ∧ t.hostMem = s.hostMem ∧ t.clk.ticks = s.clk.ticks)

/-- R73, R75, R83, R85: the operations of VE's step 1 on a ring (the commands that ask for them are Doorbells'). -/
def Obligations.RingEnabling : Prop :=
  ∀ (n : Fin 64) (m : Fin 4) (s : State),
    let granted := ((List.range 64).map (fun k => s.get (F.hriRingStatus_GRANT_ACT k))).sum
    let g := min (s.get (F.hriRingCfg_GRANT n.val)) (min (2 ^ s.get (F.hriRingCfg_SIZE n.val)) (256 - granted))
    let mine := [A.hriRingCfg n.val, A.hriRingStatus n.val, A.hriRingHead n.val, A.hriRingCqTail n.val, A.hriRingClampCount n.val,
      A.hriRingCredit n.val, A.hriGrantSum]
    let only (t : State) : Prop := t = { s with regs := t.regs, host := { s.host with rings := t.host.rings } } ∧
      (∀ a, a ∉ mine → t.reg a = s.reg a) ∧ ∀ k, k ≠ n.val → t.ring k = s.ring k
    let x := s.ring n.val
    (s.ringState n.val = 0 → granted ≤ 256 → only (ringOn n.val s) ∧
      (g = 0 → (ringOn n.val s).ringState n.val = 0 ∧ (ringOn n.val s).getB (F.hriRingStatus_NO_GRANT n.val) = true ∧
        (ringOn n.val s).getB (F.hriRingCfg_EN n.val) = false ∧ (ringOn n.val s).ring n.val = x) ∧
      (0 < g → (ringOn n.val s).ringState n.val = 1 ∧ (ringOn n.val s).get (F.hriRingStatus_GRANT_ACT n.val) = g ∧
        (ringOn n.val s).getB (F.hriRingCfg_EN n.val) = true ∧ (ringOn n.val s).getB (F.hriRingStatus_NO_GRANT n.val) = false ∧
        (ringOn n.val s).reg (A.hriRingHead n.val) = 0 ∧ (ringOn n.val s).reg (A.hriRingCqTail n.val) = 0 ∧
        (ringOn n.val s).reg (A.hriRingClampCount n.val) = 0 ∧ (ringOn n.val s).reg (A.hriRingCredit n.val) = BitVec.ofNat 32 g ∧
        ((ringOn n.val s).ring n.val).g = g ∧ ((ringOn n.val s).ring n.val).t = 0 ∧ ((ringOn n.val s).ring n.val).k = 0 ∧
        ((ringOn n.val s).ring n.val).h = 0 ∧ ((ringOn n.val s).ring n.val).c = 0 ∧ ((ringOn n.val s).ring n.val).done = 0 ∧
        ((ringOn n.val s).ring n.val).armed = some s.clk.ticks ∧
        (x.g = s.get (F.hriRingStatus_GRANT_ACT n.val) → s.get (F.hriRingStatus_GRANT_ACT n.val) = 0 →
          (ringOn n.val s).get F.hriGrantSum_GRANT_SUM = granted + g))) ∧
    (s.ringState n.val ≠ 0 → ringOn n.val s = s) ∧
    (s.ringState n.val = 0 → ringOff n.val s = s.set (F.hriRingCfg_EN n.val) 0) ∧
    (s.ringState n.val ≠ 0 → (ringOff n.val s).ringState n.val = 0 ∧ (ringOff n.val s).getB (F.hriRingCfg_EN n.val) = false ∧
      (ringOff n.val s).get (F.hriRingStatus_GRANT_ACT n.val) = 0 ∧ (ringOff n.val s).reg (A.hriRingCredit n.val) = 0 ∧
      (ringOff n.val s).ring n.val = { gen := x.gen + 1, gen0 := x.gen0, done0 := x.done0, wrote := x.wrote, irqSent := x.irqSent
                                       dbT := x.dbT, dbK := x.dbK, arrival := x.arrival } ∧
      (s.shr.session.map (·.1) ≠ some n.val → only (ringOff n.val s)) ∧
      (s.shr.session.map (·.1) = some n.val → (ringOff n.val s).shr.session = none)) ∧
    (s.getB F.hriEvtCfg_EN = true → evOn s = s) ∧
    (s.getB F.hriEvtCfg_EN = false → (evOn s).getB F.hriEvtCfg_EN = true ∧ (evOn s).reg A.hriEvtTail = 0 ∧ (evOn s).reg A.hriEvtLost = 0 ∧
      (evOn s).host = { s.host with evHost := 0 } ∧ ∀ a, a ∉ [A.hriEvtCfg, A.hriEvtTail, A.hriEvtLost] → (evOn s).reg a = s.reg a) ∧
    (s.getB (F.hriCrCfg_EN m.val) = true → crOn m.val s = s ∧ (crOff m.val s).getB (F.hriCrCfg_EN m.val) = false ∧
      Table.look [] (crOff m.val s).cap.handed m.val = []) ∧
    (s.getB (F.hriCrCfg_EN m.val) = false → crOff m.val s = s ∧ (crOn m.val s).getB (F.hriCrCfg_EN m.val) = true ∧
      (crOn m.val s).reg (A.hriCrTail m.val) = 0 ∧ (crOn m.val s).reg (A.hriCrHead m.val) = 0 ∧
      ∀ a, a ∉ [A.hriCrCfg m.val, A.hriCrTail m.val, A.hriCrHead m.val] → (crOn m.val s).reg a = s.reg a)

/-- R96 to R98, R100 to R104, Tables 3.4 to 3.6: modes as the host asks for them. -/
def Obligations.ModeRequests : Prop :=
  ∀ (d : Desc) (e : Fin 38) (cyc : Nat) (s : State),
    let target := d.w1.toNat % 16
    let allowed := [(mStandby, mCalibrate), (mStandby, mCommission), (mStandby, mRun), (mStandby, mReef), (mStandby, mService),
      (mService, mStandby), (mCommission, mStandby), (mRun, mStandby), (mReef, mStandby), (mRun, mReef), (mReef, mRun),
      (mCommission, mHauldown), (mRun, mHauldown), (mReef, mHauldown), (mBackstay, mHauldown)]
    let barred : Bool :=
      (decide (s.mode = mStandby ∧ target = mCalibrate) && (List.range 32).any (fun g => s.gst g != gIdle)) ||
      (decide (s.mode = mStandby ∧ target = mService) && (List.range 32).any (fun g => s.gst g != gIdle && s.gst g != gFaulted)) ||
      (decide ((s.mode = mRun ∨ s.mode = mReef) ∧ target = mStandby) && s.rolls.any (fun a => (s.axis a).vel != 0)) ||
      decide (s.lc = 4 ∧ target ≠ mStandby ∧ target ≠ mService)
    let rank := if target = mHauldown then 4 else 7
    let overruled : Bool := s.md.decided.any (fun x => decide (x.rank < rank ∨ (x.rank = 4 ∧ rank = 4 ∧ x.target ≠ target)))
    let reason := if target ∈ [mReset, mSto, mBackstay, mThermal, mQuarantine] then 5 else if target = s.mode then 1
      else if (s.mode = mSto ∧ s.stoDemand = true) ∨ (s.mode = mReef ∧ target = mRun ∧ s.slsDemand = true) then 6
      else if (s.mode, target) ∉ allowed then 2 else if barred then 3 else if overruled then 4 else 0
    let after (t : State) : Nat := (t.md.decided.map (·.target)).getD s.mode
    let rest (t : State) : Prop := t = { s with regs := t.regs, host := t.host, hostMem := t.hostMem, md := t.md, img := t.img, spar := t.spar
                                                plan := t.plan, clk := t.clk }
    (Accepts s 0x0002 d → d.w 2 = 0 → 12 ≤ target → ∃ t, exec (.mode d) s = .next (stepEvents s t) ∧ Answered t d 0 false (after s) ∧
      rest t ∧ t.md.decided = s.md.decided ∧ t.plan = s.plan ∧ t.img = s.img ∧ t.mode = s.mode) ∧
    (Accepts s 0x0002 d → d.w 2 = 0 → target < 12 → ∃ t, exec (.mode d) s = .next (stepEvents s t) ∧
      Answered t d 0 (reason != 0) (reason * 256 + after t) ∧ rest t ∧ t.mode = s.mode ∧ (∀ g, t.gst g = s.gst g) ∧
      (reason ≠ 0 → t.md.decided = s.md.decided ∧ t.plan = s.plan ∧ t.img = s.img) ∧
      (reason = 0 → s.md.decided = none ∨ (∃ x, s.md.decided = some x ∧ (rank < x.rank ∨ rank = 7)) →
        t.md.decided = some { target := target, cause := 0, rank := rank }) ∧
      (∀ h, reason = 0 → s.md.host = [h] → h.stands = true → h.cleared = false → h.target ≠ target → target ≠ mHauldown ∨ s.md.decided ≠ none →
        (∀ j k, j < 16 → k < 16 → (s.recordAt d.ring.val + j) % 2 ^ 64 ≠ (h.record + k) % 2 ^ 64) →
        t.hostByte ((h.record + 13) % 2 ^ 64) = 4 ∧ (t.hostByte ((h.record + 6) % 2 ^ 64)).getLsbD 1 = true)) ∧
    (let named := (List.range 32).filter (fun g => (d.w 2).getLsbD g)
     let full (k : Nat) : Bool := (s.clearsWith k).all (fun g => named.contains g)
     let ignored : Bool := decide (s.mode ∉ [mStandby, mCommission, mRun, mReef, mService]) || named.any (fun g => !s.mayClear g) ||
        named.any (fun g => (s.carriers g).any (fun k => !full k)) || (List.range 34).any (fun k => s.engFaulted k && !full k) ||
        [32, 33].any (fun k => s.engFaulted k && (s.served k).any (fun g => named.contains g && s.gst g != gIdle && s.gst g != gFaulted))
     Accepts s 0x0002 d → named ≠ [] → target = 15 → ∃ t, exec (.mode d) s = .next (stepEvents s t) ∧ Answered t d 0 false (after s) ∧
        t.mode = s.mode ∧ t.md.decided = s.md.decided ∧ (∀ g, g < 32 → s.gst g ≠ gFaulted → t.gst g = s.gst g) ∧
        (∀ k, k < 38 → t.engFaulted k = s.engFaulted k) ∧
        (ignored = true → t.plan = s.plan ∧ t.img = s.img ∧ t.spar = s.spar ∧ ∀ g, t.gst g = s.gst g) ∧
        (ignored = false → (∀ g ∈ named, s.gst g = gFaulted →
            if (s.blockers g).isEmpty then t.gst g = gIdle ∧ ∀ a ∈ s.members g, (t.axis a.2).faulted = false
            else t.gst g = gFaulted) ∧
          ∀ k, k < 34 → s.engFaulted k = true → (s.eimg k).recover = none →
            (t.eimg k).recover = some (((s.clearsWith k).map (fun g => 2 ^ g)).sum) ∧
            ((s.eimg k).act.isSome = true → t.get (F.imgEng_STEP k) = 4 ∧
              (t.eimg k).reload = some (s.get (F.imgEng_ACTIVE_SLOT k), false)))) ∧
    ((s.eimg e.val).recover = none → exec (.engineRecovered e) s = .next s) ∧
    (∀ gs, (s.eimg e.val).recover = some gs →
      let first : Bool := (s.eng e.val).run && (s.ephagon e.val || (s.eimg e.val).act.isNone || (s.eng e.val).xDone)
      if first then ∃ t, exec (.engineRecovered e) s = .next t ∧
        (∀ k, k < 38 → (t.engFaulted k = true ↔ (k ≠ e.val ∧ s.engFaulted k = true))) ∧
        t.get (F.clkEngStat_OVR_RUN e.val) = 0 ∧ (t.eimg e.val).recover = none ∧ t.mode = s.mode ∧ t.md = s.md ∧
        (gs = 0 → t.plan = s.plan ∧ t.loop = s.loop) ∧
        (∀ g, g < 32 → gs = 2 ^ g → (∀ h, h ≠ g → t.gst h = s.gst h) ∧
          (s.gst g ≠ gFaulted → t.gst g = s.gst g) ∧
          (s.gst g = gFaulted → s.mayClear g = true → (∀ k ∈ s.blockers g, k = e.val) → t.gst g = gIdle) ∧
          (s.gst g = gFaulted → s.mayClear g = false → t.gst g = gFaulted)) ∧
        (s.host.evBuf.length < 200 → ∃ l r, t.host.evBuf = s.host.evBuf ++ l ++ [r] ∧ r.code = 0x0022 ∧ r.payload = BitVec.ofNat 128 e.val)
      else exec (.engineRecovered e) s = .next s) ∧
    (s.md.windowDue = none → exec (.backstayWindowExpiry cyc) s = .next (s.atCyc cyc)) ∧
    (∀ k, s.md.windowDue = some k → if s.mode = mBackstay ∧ s.veWorks = true ∧ k ≤ s.clk.ticks then
      ∃ t, exec (.backstayWindowExpiry cyc) s = .next t ∧ t.mode = s.mode ∧ t.plan = s.plan ∧ (∀ a, t.axisL a = s.axisL a) ∧
        (s.lc ≠ 4 → s.md.decided = none ∨ (∃ x, s.md.decided = some x ∧ 4 < x.rank) →
          t.md.decided = some { target := mHauldown, cause := 9, rank := 4 }) ∧
        (∀ x, s.md.decided = some x → x.rank ≤ 4 → t.md.decided = some x)
      else exec (.backstayWindowExpiry cyc) s = .next (s.atCyc cyc))

/-- R105 to R107, Table 3.7. `spare` tells the sources that leave the Shroud running. -/
def Obligations.ResetSources : Prop :=
  ∀ (also : BitVec 7) (v : W32) (ref : Bool) (s : State),
    let lasting (t : State) : Prop := t.img.slots = s.img.slots ∧ t.img.key = s.img.key ∧ t.img.overrides = s.img.overrides ∧
      t.lc = s.md.lcTarget.getD s.lc % 16 ∧ t.shr.store = s.shr.store ∧ t.shr.password = s.shr.password ∧
      (s.shr.session = none → t.shr.log = s.shr.log) ∧ t.fld = s.fld ∧ t.hostMem = s.hostMem ∧
      (t.getB F.glbStatus_THERM_LATCH = true ↔ (s.getB F.pwtThermStatus_TRIP = true ∧ s.getB F.glbStatus_THERM_LATCH = true))
    let fresh (t : State) : Prop := t.mode = mReset ∧ t.ready = false ∧ (∀ g, g < 32 → t.gst g = gIdle) ∧ (∀ n, n < 64 → t.ringState n = 0) ∧
      t.md.bootStep = 0 ∧ t.md.bootStop = false ∧ t.clk = {} ∧ t.host = {} ∧ t.plan = {} ∧ t.loop = {} ∧ t.web = {} ∧ t.spar = {} ∧
      t.pwm = {} ∧ t.adc = {} ∧ t.fbk = {} ∧ t.cap = {} ∧ t.net = {} ∧ t.shr.session = none ∧
      ∀ a, 0x1000 ≤ a → a < 0x3000 → t.reg a = State.reset.reg a
    let resets (c : Instr) (bit : Nat) : Prop := ∃ t, exec c s = .next t ∧ t.get F.glbResetCause_CAUSE = bit ∧ fresh t ∧ lasting t
    let key : Prop := v.toNat / 2 ^ 16 = 0xA5C3
    let refused : Prop := s.mode = mHauldown ∨ s.mode = mBackstay ∨ (v.getLsbD 1 = false ∧ ∃ g, g < 32 ∧ s.gst g = gMoving)
    resets (.powerOnReset also) (1 ||| also.toNat) ∧ resets (.padReset also) (2 ||| also.toNat) ∧
    (s.getB F.glbResetCfg_PERST_ACT = true → resets (.perstReset also) (4 ||| also.toNat)) ∧
    (s.getB F.glbResetCfg_PERST_ACT = false → ∃ t, exec (.perstReset also) s = .next t ∧ exec (.hostLoss 1) s = .next t ∧ t.mode = s.mode ∧
      (∀ n, n < 64 → t.ringState n = 0)) ∧
    (key → v.getLsbD 0 = true → ¬ refused → resets (.softReset v) 8) ∧
    (key → v.getLsbD 0 = true → refused → ∃ t, exec (.softReset v) s = .next t ∧ t.getB F.glbResetCtrl_REFUSED = true ∧
      t.getB F.glbResetCtrl_FORCE = v.getLsbD 1 ∧ t = { s with regs := t.regs, clk := { s.clk with fresh := t.clk.fresh } } ∧
      ∀ a, a ≠ A.glbResetCtrl → t.reg a = s.reg a) ∧
    (Table.look 0 s.clk.fresh A.glbResetCtrl = 0 → ¬ (key ∧ v.getLsbD 0 = true) → ∃ t, exec (.softReset v) s = .next t ∧
      t = { s with regs := t.regs } ∧ (∀ a, a ≠ A.glbResetCtrl → t.reg a = s.reg a) ∧
      t.getB F.glbResetCtrl_REFUSED = (s.getB F.glbResetCtrl_REFUSED && !v.getLsbD 2) ∧
      (key → t.getB F.glbResetCtrl_FORCE = v.getLsbD 1) ∧ (¬ key → t.getB F.glbResetCtrl_FORCE = s.getB F.glbResetCtrl_FORCE)) ∧
    (∃ t, exec (.pllLockLoss ref) s = .next t ∧ t.getB F.clkPllStatus_LOCK = false ∧ t.mode = s.mode ∧
      (t.getB F.clkPllStatus_LOCK_LOSS = true ↔ (s.getB F.clkPllStatus_LOCK = true ∨ s.getB F.clkPllStatus_LOCK_LOSS = true)) ∧
      (t.getB F.clkPllStatus_REF_LOSS = true ↔ (ref = true ∨ s.getB F.clkPllStatus_REF_LOSS = true)) ∧
      t.md = { s.md with pllLost := s.md.pllLost || s.getB F.clkPllStatus_LOCK } ∧
      (s.getB F.clkPllStatus_LOCK = true → ∀ n, n < s.slots → t.getB (F.pwmSlotStatus_HALTED n) = true) ∧
      t = { s with regs := t.regs, md := t.md, clk := { s.clk with fresh := t.clk.fresh } }) ∧
    (s.md.pllLost = false → exec .pllLockRegained s = .next s ∧ exec (.pllReset also) s = .next s) ∧
    (s.md.pllLost = true → (∃ t, exec .pllLockRegained s = .next t ∧ t.getB F.clkPllStatus_LOCK = true ∧
        t = { s with regs := t.regs, md := { s.md with pllLost := false } } ∧
        ∀ n, n < s.slots → t.getB (F.pwmSlotStatus_HALTED n) = s.getB (F.clkEngStat_HALT n)) ∧
      resets (.pllReset also) (16 ||| also.toNat)) ∧
    (s.md.veWatch = none → exec (.supervisorReset also) s = .next s) ∧
    (∀ k, s.md.veWatch = some k → (100 ≤ k → resets (.supervisorReset also) (32 ||| also.toNat)) ∧
      (k < 100 → exec (.supervisorReset also) s = .next s)) ∧
    (∀ k, 1 ≤ k → k ≤ 4 → s.md.lcTarget = some k → ∃ t, exec .lcChangeComplete s = .next t ∧ t.get F.glbResetCause_CAUSE = 64 ∧ fresh t)

/-- R108 to R113, R116, Table 3.8: the steps of start-up in their order. -/
def Obligations.StartUpSteps : Prop :=
  ∀ (pairs : List (Nat × Nat × BitVec 256)) (ms : Fin 65536) (ok : Bool) (c : CalResult) (s : State),
    let at' (n : Nat) : Prop := s.md.bootStep = n ∧ s.md.bootStop = false
    let stops (u : State) (err : Nat) : Prop := u = { s with regs := u.regs, md := { s.md with bootStop := true } } ∧
      u.get F.glbStatus_BOOT_ERR = err ∧ u.mode = s.mode ∧ u.ready = s.ready
    (at' 0 → s.md.wipeMark = false → ok = true → ∃ t, exec (.pllLock ok) s = .next t ∧
      t = { s with regs := t.regs, md := { s.md with bootStep := 1 } } ∧ t.getB F.clkPllStatus_LOCK = true ∧ t.tickNo = 0 ∧
      (∀ a, a ≠ A.clkPllStatus → a ≠ A.clkTickLo → a ≠ A.clkTickHi → t.reg a = s.reg a)) ∧
    (¬ (at' 0 ∧ s.md.wipeMark = false ∧ ok = true) → exec (.pllLock ok) s = .next s) ∧
    (at' 0 → s.md.wipeMark = true → (∃ t, exec .pendingWipeStart s = .next t ∧ t.md = { s.md with wipeMark := false, lcTarget := none } ∧
        t.shr.store = none ∧ t.shr.password = none ∧ t.shr.cfg = none ∧ t.img.key = none ∧ t.img.overrides = [] ∧
        (∀ k, 16 ≤ k → k < 64 → t.imgSlot k = none) ∧ (∀ k, k < 16 → t.imgSlot k = s.imgSlot k) ∧ t.lc = s.lc ∧ t.mode = s.mode) ∧
      ∃ t, exec .pendingWipeTimeout s = .next t ∧ stops t 2) ∧
    (¬ (at' 0 ∧ s.md.wipeMark = true) → exec .pendingWipeStart s = .next s ∧ exec .pendingWipeTimeout s = .next s) ∧
    (at' 1 → ∃ t, exec (.memoryWipeComplete ok ms.val) s = .next t ∧ if ok = false then stops t 1
      else t = { s with regs := t.regs, md := { s.md with bootStep := 2 } } ∧ t.mode = mCalibrate ∧ t.get F.glbMode_MODE_PREV = mReset ∧
        t.get F.glbBootTime_WIPE_MS = ms.val ∧
        ∀ a, a ∉ [A.glbBootTime, A.glbMode, A.glbModeTickLo, A.glbModeTickHi] → t.reg a = s.reg a) ∧
    (¬ at' 1 → exec (.memoryWipeComplete ok ms.val) s = .next s) ∧
    (let taken (t : State) : Prop := t.mode = s.mode ∧
        t.getB F.glbCalStatus_TDC = (c.tdc != 0) ∧ (∀ n, n < s.slots → t.getB (F.pwmSlotStatus_CAL_FAULT n) = c.pwm.getLsbD n) ∧
        (∀ j, j < s.get F.adcInfo_PAIRS → t.getB (F.adcPairStatus_CAL_FAULT j) = c.adc.getLsbD j ∧
          t.reg (A.adcPairCal0 j) = c.cal0.getD j 0 ∧ t.reg (A.adcPairCal1 j) = c.cal1.getD j 0) ∧
        (∀ i, i < 16 → t.getB (F.latLatStatus_CAL_FAULT i) = c.tdc.getLsbD i) ∧
        (t.getB F.glbStatus_CAL_FAIL = true ↔ t.getB F.glbCalStatus_ADC = true ∨ t.getB F.glbCalStatus_TDC = true ∨
          t.getB F.glbCalStatus_PWM = true ∨ t.getB F.glbCalStatus_SDI = true) ∧
        (t.getB F.glbCalStatus_PWM = true ↔ ∃ n, n < s.slots ∧ c.pwm.getLsbD n = true)
     if s.mode = mCalibrate ∧ s.md.bootStep = 2 ∧ s.md.bootStop = false then
       ∃ t, exec (.calibrationDone c) s = .next t ∧ t.md = { s.md with bootStep := 3 } ∧ taken t
     else if s.mode = mCalibrate ∧ s.ready = true then ∃ t, exec (.calibrationDone c) s = .next t ∧ taken t ∧
       t.md = { s.md with reqs := s.md.reqs ++ [{ target := mStandby, cause := 0, rank := 6 }] }
     else exec (.calibrationDone c) s = .next s) ∧
    (at' 3 → ∃ t, exec (.startUp pairs ms.val) s = .next t ∧ t.ready = true ∧ t.md.bootStep = 4 ∧ t.get F.glbBootTime_READY_MS = ms.val ∧
      t.host.evBuf.head?.map (·.code) = some 0x0023 ∧ t.host.evBuf.head?.map (·.ctrl) = some 0x907F ∧
      t.get F.glbMode_MODE_PREV = s.mode ∧
      (let u : State := { s with img := { s.img with pairs := pairs, engs := [], staging := [], jobs := [], grpNext := [] } }
       let bad : Bool := [34, 35, 36, 37].any (fun e => match u.bootImage e with
         | some x => (u.check e x.2.h).isSome
         | none => true)
       t.mode = if s.getB F.glbStatus_THERM_LATCH = true ∧ s.lc ≠ 4 then mThermal else if bad then mQuarantine else mStandby)) ∧
    (¬ at' 3 → exec (.startUp pairs ms.val) s = .next s)

/-- R114 to R116, Table 3.9. -/
def Obligations.LifeCycle : Prop :=
  ∀ (v : W32) (s : State),
    let target := v.toNat % 16
    let stored (t : State) : Prop := t.reg A.glbLcCtrl = v &&& 0xFFFF000F ∧ ∀ a, a ≠ A.glbLcCtrl → a ≠ A.glbLc → t.reg a = s.reg a
    let legal : Bool := decide (target = s.lc + 1 ∧ target ≤ 4) ||
      (decide (s.lc = 4 ∧ target = 2) && (s.imgSlot 15).any (fun i => i.h.kind == 0xB))
    let reason := if legal = false then 1 else if s.mode ≠ mStandby ∧ s.mode ≠ mService then 2
      else if (∃ g ∈ List.range 32, s.gst g ≠ gIdle) then 3 else if s.flashOk = false then 4 else 0
    (s.shr.session = none → exec (.lcChangeRequest v) s = .next s) ∧
    (s.shr.session.isSome = true → v.toNat / 2 ^ 16 ≠ 0x4C43 ∨ s.md.lcTarget.isSome = true →
      ∃ t, exec (.lcChangeRequest v) s = .next t ∧ t = { s with regs := t.regs } ∧ stored t ∧ t.reg A.glbLc = s.reg A.glbLc) ∧
    (s.shr.session.isSome = true → v.toNat / 2 ^ 16 = 0x4C43 → s.md.lcTarget = none →
      ∃ t, exec (.lcChangeRequest v) s = .next t ∧ stored t ∧ t.get F.glbLc_REASON = reason ∧ t.lc = s.lc ∧
        (if reason = 0 then t = { s with regs := t.regs, md := { s.md with lcTarget := some target } } ∧
            t.getB F.glbLc_REFUSED = s.getB F.glbLc_REFUSED
          else t = { s with regs := t.regs, clk := { s.clk with fresh := t.clk.fresh } } ∧ t.getB F.glbLc_REFUSED = true)) ∧
    (s.md.lcTarget = none → exec .lcChangeComplete s = .next s) ∧
    (∀ k, 1 ≤ k → k ≤ 4 → s.md.lcTarget = some k → ∃ t, exec .lcChangeComplete s = .next t ∧ t.lc = k ∧
      t.md = {} ∧ t.shr.session = none ∧ t.shr.store = none ∧ t.shr.cfg = none ∧ t.shr.password = none ∧ t.img.key = none ∧
      t.img.overrides = [] ∧ (∀ j, 16 ≤ j → j < 64 → t.imgSlot j = none) ∧ (∀ j, j < 16 → t.imgSlot j = s.imgSlot j) ∧
      (∀ e, e < 38 → t.get (F.imgEng_BOOT_SLOT e) = 0x3F) ∧ (∃ x ∈ t.shr.log, x.kind = 8 ∧ x.detail = s.lc * 256 + k) ∧
      t.get F.glbResetCause_CAUSE = 64 ∧ t.mode = mReset ∧ t.fld = s.fld ∧ t.hostMem = s.hostMem)

/-- R119, R120, R122, R20, R21: binding, limits and profiles (spec/04_motion_planner.md). -/
def Obligations.AxisDescriptors : Prop :=
  ∀ (d : Desc) (s : State),
    let a := d.f 1 7 0
    let g := d.f 1 12 8
    let m := d.f 1 19 16
    let only (t : State) : Prop := t = { s with regs := t.regs, host := t.host, hostMem := t.hostMem, plan := t.plan }
    let others (t : State) : Prop := ∀ b, b ≠ a → t.axis b = s.axis b
    let free : Prop := s.gst g = gIdle ∧ s.axisIdle a = true ∧ (s.memberAxis g m = none ∨ s.memberAxis g m = some a) ∧
      ((s.axis a).bound = none ∨ (s.axis a).bound = some (g, m))
    (Accepts s 0x0100 d →
      (s.axisPresent a = false → ∃ t, Answers (.axisBind d) d s t true 0x01000000 ∧ only t ∧ t.plan = s.plan) ∧
      (s.axisPresent a = true → d.fb 1 23 = true → (∀ h, s.groupOf a = some h → s.gst h = gIdle) → ∃ t,
        Answers (.axisBind d) d s t false 0 ∧ only t ∧ others t ∧ t.groupOf a = none ∧
        t.axis a = { s.axis a with bound := none, pe := if (s.axis a).bound.isNone then (s.axis a).pe else none }) ∧
      (s.axisPresent a = true → (if d.fb 1 23 then ∃ h, s.groupOf a = some h ∧ s.gst h ≠ gIdle else s.gst g ≠ gIdle ∨ s.axisIdle a = false) →
        ∃ t, Answers (.axisBind d) d s t true 0x02000000 ∧ only t ∧ t.plan = s.plan) ∧
      (s.axisPresent a = true → d.fb 1 23 = false → s.gst g = gIdle → s.axisIdle a = true →
        ((∃ b, s.memberAxis g m = some b ∧ b ≠ a) ∨ ∃ x, (s.axis a).bound = some x ∧ x ≠ (g, m)) →
        ∃ t, Answers (.axisBind d) d s t true 0x05000000 ∧ only t ∧ t.plan = s.plan) ∧
      (s.axisPresent a = true → d.fb 1 23 = false → free → (a < 24 ∨ (s.axis a).pe.isSome = true) → ∃ t,
        Answers (.axisBind d) d s t false 0 ∧ others t ∧
        (t.axis a).bound = some (g, m) ∧ (t.axis a).noReverse = d.fb 1 22 ∧ (t.axis a).lead = d.f 1 21 20 ∧
        (t.axis a).pe = (if a < 24 then none else (s.axis a).pe) ∧
        (t.axis a).softMin = (s.axis a).softMin ∧ (t.axis a).vmax = (s.axis a).vmax ∧
        (a < 24 → s.getB (F.imgEng_QUAR a) = false → only t ∧ t.gst g = gIdle)) ∧
      (s.axisPresent a = true → d.fb 1 23 = false → free → 24 ≤ a → (s.axis a).pe = none → s.peLoad s.peFor < s.peCap → ∃ t,
        Answers (.axisBind d) d s t false 0 ∧ others t ∧
        (t.axis a).bound = some (g, m) ∧ (t.axis a).pe = some (24 + s.peFor) ∧ ∀ k, k < 8 → s.peLoad s.peFor ≤ s.peLoad k) ∧
      (s.axisPresent a = true → d.fb 1 23 = false → free → 24 ≤ a → (s.axis a).pe = none → s.peCap ≤ s.peLoad s.peFor →
        s.host.evBuf.length < 256 → ∃ t,
        Answers (.axisBind d) d s t true 0x08000000 ∧ (∀ b, t.axis b = s.axis b) ∧
        ∃ r, t.host.evBuf = s.host.evBuf ++ [r] ∧ r.code = 0x0101)) ∧
    (Accepts s 0x0101 d → s.axisPresent a = true → ∃ t, Answers (.axisLimits d) d s t false 0 ∧ only t ∧
      others t ∧ (t.axis a).softMin = d.i 2 ∧ (t.axis a).softMax = max (d.i 2) (d.i 3) ∧
      (t.axis a).vmax = (max 0 (d.i 4)).toNat ∧ (t.axis a).amax = (max 65536 (d.i 5)).toNat ∧
      (t.axis a).jmax = max 1 (d.n 6) ∧ (t.axis a).bound = (s.axis a).bound) ∧
    (Accepts s 0x0101 d → s.axisPresent a = false → ∃ t, Answers (.axisLimits d) d s t true 0x01000000 ∧ only t ∧ t.plan = s.plan) ∧
    (let h := d.f 1 4 0
     let held (lo x : Int) : Nat := if x = 0 then 0 else (max lo x).toNat
     let pr : Profile := { v := held (2 ^ 24) (d.i 2), a := held (2 ^ 16) (d.i 3), d := held (2 ^ 16) (d.i 4), j := d.n 5 }
     let stored := Table.put {} (d.f 1 7 5) pr (s.grp h).profiles
     Accepts s 0x0102 d → ∃ t, Answers (.profile d) d s t false (t.free? h) ∧ t.plan.axes = s.plan.axes ∧ (t.grp h).profiles = stored ∧
      (∀ k, k ≠ h → t.grp k = s.grp k) ∧ (d.fb 1 8 = false → only t ∧ t.grp h = { s.grp h with profiles := stored }))

/-- R129 to R135, R151: moves. `buildSeg` and `matchTargets` are the model's functions of R129 to R132; the clauses on the
segment say what they give. -/
def Obligations.Moves : Prop :=
  ∀ (d : Desc) (n : Fin 64) (s : State),
    let g := d.f 1 4 0
    let only (t : State) : Prop := t = { s with regs := t.regs, host := t.host, hostMem := t.hostMem, plan := t.plan } ∧ OnlyRing d s t []
    -- the plan: another group keeps everything, an axis everything but its previous target
    let planOnly (t : State) (h : Nat) : Prop := (∀ k, k ≠ h → t.grp k = s.grp k) ∧
      ∀ a, t.axis a = { s.axis a with target := (t.axis a).target }
    let ms := (List.range 16).filter (fun m => (d.f 1 31 16).testBit m)
    let o (imm more : Bool) : OpenMove := {
      group := g, tag := d.tag.toNat, ctol := d.f 1 63 48, feed := if d.f 1 42 32 = 0 then 1024 else min (d.f 1 42 32) 1024
      prof := d.f 1 7 5, rel := d.fb 1 8, imm := imm, targets := (matchTargets s d g (d.fb 1 8)).1, parts := 0
      step := s.clk.ticks, reserved := more }
    let b := buildSeg s (o false false)
    let takes : Prop := takesEntries (s.gst g) = true
    let m1 := d.force 1 9 9 0
    let m2 := d.force 1 9 9 1
    -- a segment behind the queue of a group: its planner engine takes it into its window
    let behind (t : State) (h : Nat) (x : Seg) : Prop := planOnly t h ∧ (∀ e ∈ s.members h, (t.axis e.2).target = x.target.getD e.1 0) ∧
      t.grp h = { s.grp h with queue := (s.grp h).queue ++ [.move x], todo := (s.grp h).todo ++ [.window] }
    (Accepts s 0x0103 m1 → takes → d.fb 1 10 = false →
      (0 < s.free? g → b.1 = 0 → ∃ t, Answers (.move d) d s t false (s.free? g - 1) ∧ only t ∧ behind t g b.2.1 ∧
        t.plan.opens = s.plan.opens) ∧
      (s.free? g = 0 → b.1 = 0 → ∃ t, Answers (.move d) d s t true 0x03000000 ∧ only t ∧ t.plan = s.plan) ∧
      (b.1 ≠ 0 → ∃ t, Answers (.move d) d s t true (0x09000000 + s.free? g) ∧ only t ∧ t.plan = s.plan)) ∧
    (b.1 = if b.2.1.len ≠ 0 ∧ (s.axis ((s.memberAxis g b.2.1.lead).getD 0)).vmax = 0 then 0x09 else 0) ∧
    (b.2.1.tag = d.tag.toNat ∧ b.2.1.start = s.targets g ∧ b.2.1.ctol = d.f 1 63 48 ∧ b.2.1.target.length = 16) ∧
    (∀ m, m < 16 → (b.2.1.delta m).natAbs ≤ b.2.1.len) ∧
    (b.2.1.len ≠ 0 → (b.2.1.delta b.2.1.lead).natAbs = b.2.1.len ∧ ∀ m, m < b.2.1.lead → (b.2.1.delta m).natAbs < b.2.1.len) ∧
    (∀ m, m < 16 → b.2.1.target.getD m 0 =
      match s.memberAxis g m with
      | none => 0
      | some a => if m ∈ ms ∧ ms.idxOf m + 1 < d.len.val then
          let x := s.axis a
          let w := d.i (ms.idxOf m + 2)
          clampI x.softMin x.softMax (if d.fb 1 8 then x.target + w else w)
        else (s.axis a).target) ∧
    (Accepts s 0x0103 m1 → ¬ takes → ∃ t, Answers (.move d) d s t true (0x02000000 + s.free? g) ∧ only t ∧ t.plan = s.plan) ∧
    (Accepts s 0x0103 m1 → takes → d.fb 1 10 = true →
      (0 < s.free? g → ∃ t, Answers (.move d) d s t false (s.free? g - 1) ∧ only t ∧
        t.plan = { s.plan with opens := Table.put none d.ring.val (some (o false true)) s.plan.opens }) ∧
      (s.free? g = 0 → ∃ t, Answers (.move d) d s t true 0x03000000 ∧ only t ∧ t.plan = s.plan)) ∧
    (Accepts s 0x0103 m2 →
      (takes → d.fb 1 10 = false → b.1 = 0 → ∃ t, Answers (.moveImmediate d) d s t false (t.free? g) ∧ only t ∧ planOnly t g ∧
        (∀ e ∈ s.members g, (t.axis e.2).target = b.2.1.target.getD e.1 0) ∧ t.plan.opens = s.plan.opens ∧
        let held (e : Option Exec) : Nat := if e.any (fun x => !x.seg.noSlot) then 1 else 0
        let bare (e : Exec) : Exec := { e with seg := { e.seg with noSlot := true } }
        let kept := (s.grp g).todo.filter (fun x => x != .immediate)
        t.grp g = { s.grp g with
          queue := [.move { b.2.1 with reform := true }], cur := (s.grp g).cur.map bare, nxt := (s.grp g).nxt.map bare
          todo := if (s.grp g).cur.isSome then kept ++ [.immediate] else kept
          freed := (s.grp g).freed + (s.grp g).queue.length + held (s.grp g).cur + held (s.grp g).nxt }) ∧
      (takes → d.fb 1 10 = false → b.1 ≠ 0 → ∃ t, Answers (.moveImmediate d) d s t true (0x09000000 + s.free? g) ∧ only t ∧ t.plan = s.plan) ∧
      (takes → d.fb 1 10 = true → ∃ t, Answers (.moveImmediate d) d s t false (s.free? g - 1) ∧ only t ∧
        t.plan = { s.plan with opens := Table.put none d.ring.val (some (o true (decide (0 < s.free? g)))) s.plan.opens }) ∧
      (¬ takes → ∃ t, Answers (.moveImmediate d) d s t true (0x02000000 + s.free? g) ∧ only t ∧ t.plan = s.plan)) ∧
    (Accepts s 0x0104 d → ∃ t, Answers (.moveCont d) d s t true (0x06000000 + s.free? g) ∧ only t ∧ t.plan = s.plan) ∧
    (∀ x, Table.look none s.plan.opens d.ring.val = some x → s.ringTakes d.ring.val = true → (s.ring d.ring.val).fence = none →
      s.mode ≠ mQuarantine → 2 ≤ d.len.val → x.group = g → x.reserved = true →
      let y : OpenMove := { x with
        targets := x.targets.filter (fun e => !(matchTargets s d g x.rel).1.any (fun z => z.1 == e.1)) ++ (matchTargets s d g x.rel).1
        parts := x.parts + 1, step := s.clk.ticks }
      (d.fb 1 10 = true → x.parts = 0 → ∃ t, Answers (.moveCont d) d s t false (s.free? g) ∧ only t ∧
        t.plan = { s.plan with opens := Table.put none d.ring.val (some y) s.plan.opens }) ∧
      (d.fb 1 10 = false ∨ 1 ≤ x.parts → x.imm = false → (buildSeg s y).1 = 0 → ∃ t, Answers (.moveCont d) d s t false (t.free? g) ∧ only t ∧
        behind t g (buildSeg s y).2.1 ∧ t.plan.opens = Table.put none d.ring.val none s.plan.opens)) ∧
    (∀ x, Table.look none s.plan.opens n.val = some x → x.step + 16 ≤ s.clk.ticks → x.imm = false → x.reserved = true →
      (buildSeg s x).1 = 0 → s.host.evBuf.length < 256 → ∃ t, exec (.moveIncomplete n) s = .next t ∧
      t = { s with host := t.host, plan := t.plan } ∧ behind t x.group (buildSeg s x).2.1 ∧
      t.plan.opens = Table.put none n.val none s.plan.opens ∧
      ∃ r, t.host.evBuf = s.host.evBuf ++ [r] ∧ r.code = 0x010A ∧ r.data = BitVec.ofNat 16 (0x3000 + x.group))

/-- R142, R138, R134: group control. Where several commands meet in one VE step (R95), the first of the step is meant here. -/
def Obligations.GroupCommands : Prop :=
  ∀ (d : Desc) (k : Fin 32) (s : State),
    let g := d.f 1 4 0
    let groupRegs := [(grpFld g).a, F.glbStatus_QUAR_GRP.a]
    let stageRegs := ((s.members g).filter (fun e => decide (e.2 < 24))).flatMap (fun e =>
      [A.pwmSlotCtrl e.2, A.pwmSlotStatus e.2] ++ (List.range 4).map (A.pwmSlotResidue e.2))
    let only (t : State) (regs : List Nat) : Prop :=
      t = { s with regs := t.regs, host := t.host, hostMem := t.hostMem, plan := t.plan } ∧ OnlyRing d s t regs
    let wide (t : State) (regs : List Nat) : Prop :=
      t = { s with regs := t.regs, host := t.host, hostMem := t.hostMem, plan := t.plan, loop := t.loop, pwm := t.pwm } ∧ OnlyRing d s t regs
    let first : Prop := (s.grp g).trig.filter (fun x => x.step == s.clk.ticks) = none
    let refused (t : State) : Prop := only t [] ∧ t.plan = s.plan
    let no : Nat := 0x02000000 + s.free? g
    let others (t : State) (j : Nat) : Prop := ∀ i, i ≠ j → t.grp i = s.grp i
    let axes (t : State) : Prop := ∀ a, t.axis a = s.axis a
    -- nothing of the group's plan but the trigger that stands
    let keeps (t : State) (todo : List PlanAct) : Prop :=
      t.grp g = { s.grp g with todo := (s.grp g).todo ++ todo, trig := (t.grp g).trig } ∧ others t g ∧ axes t
    let member (a : Nat) : Prop := ∃ e ∈ s.members g, e.2 = a
    (Accepts s 0x0105 (d.force 1 11 8 1) → first →
      (s.gst g = gIdle → s.mayEnable g = true → ∃ t, Answers (.groupEnable d) d s t false (s.free? g) ∧ wide t groupRegs ∧ t.gst g = gEnabled ∧
        t.pwm = s.pwm ∧ t.grp g = { s.grp g with trig := (t.grp g).trig } ∧ others t g ∧
        (∀ e ∈ s.members g, t.axis e.2 = { s.axis e.2 with
            pos := s.actual e.2, vel := 0, acc := 0, visPos := s.actual e.2, visVel := 0, visAcc := 0, target := s.actual e.2 } ∧
          (t.axisL e.2).closed = true ∧ (t.axisL e.2).velInt = 0 ∧ (t.axisL e.2).intD = 0 ∧ (t.axisL e.2).intQ = 0 ∧
          (t.axisL e.2).cfg = (s.axisL e.2).cfg) ∧
        ∀ a, ¬ member a → t.axis a = s.axis a ∧ t.axisL a = s.axisL a) ∧
      (s.gst g ≠ gIdle ∨ s.mayEnable g = false → ∃ t, Answers (.groupEnable d) d s t true no ∧ refused t)) ∧
    (Accepts s 0x0105 (d.force 1 11 8 2) → first →
      (s.gst g = gEnabled ∨ s.gst g = gHolding → ∃ t, Answers (.groupDisable d) d s t false (t.free? g) ∧ wide t (groupRegs ++ stageRegs) ∧
        t.gst g = gIdle ∧ others t g ∧ axes t ∧
        t.grp g = { s.grp g with
          queue := [], cur := none, nxt := none, rels := [], stops := [], todo := [], reef := false, overridden := false
          freed := (s.grp g).freed + s.slotsUsed g, trig := (t.grp g).trig } ∧
        t.plan.opens = s.plan.opens.filter (fun e => match e.2 with | some o => o.group != g | none => false) ∧
        (∀ e ∈ s.members g, (t.axisL e.2).closed = false ∧ (e.2 < 24 → s.slotPresent e.2 = true → t.get (F.pwmSlotCtrl_RUN e.2) = 0)) ∧
        ∀ a, ¬ member a → t.axisL a = s.axisL a) ∧
      (s.gst g ≠ gEnabled → s.gst g ≠ gHolding → ∃ t, Answers (.groupDisable d) d s t true no ∧ refused t)) ∧
    (Accepts s 0x0105 (d.force 1 11 8 3) → first →
      (s.gst g = gMoving → ∃ t, Answers (.groupStop d) d s t false (s.free? g) ∧ only t groupRegs ∧ t.gst g = gHolding ∧ keeps t [.stop]) ∧
      (s.gst g ≠ gMoving → ∃ t, Answers (.groupStop d) d s t true no ∧ refused t)) ∧
    (∀ e, (s.grp k.val).cur = some e → e.stopped = false → e.stopAt = none → (s.grp k.val).rels = [] →
      let t := planAct k.val .stop s
      t = { s with plan := t.plan } ∧ others t k.val ∧ (∀ a, t.axis a = s.axis a) ∧
        t.grp k.val = { s.grp k.val with cur := some (stopExec s k.val e) } ∧ (stopExec s k.val e).stopped = true ∧
        (stopExec s k.val e).seg = e.seg ∧ (stopExec s k.val e).vEnd = 0 ∧ (stopExec s k.val e).tb = 0) ∧
    ((s.grp k.val).cur = none → (s.grp k.val).stops = [] →
      (planAct k.val .stop s).grp k.val = { s.grp k.val with
        stops := (s.grp k.val).rels.filterMap (fun r => (s.memberAxis k.val r.c.member).map (ownStop s k.val r.c.member)) }) ∧
    (Accepts s 0x0105 (d.force 1 11 8 4) → first →
      (s.gst g = gHolding → s.motionOk = true → ∃ t, Answers (.groupResume d) d s t false (s.free? g) ∧ only t groupRegs ∧
        t.gst g = gMoving ∧ keeps t []) ∧
      (s.gst g ≠ gHolding ∨ s.motionOk = false → ∃ t, Answers (.groupResume d) d s t true no ∧ refused t)) ∧
    (∀ e, (s.grp k.val).cur = some e → e.stopped = true → e.beyond = none → e.stopAt = none → e.done = true → s.gst k.val = gMoving →
      s.web.haul = none → (s.grp k.val).stops = [] →
      (planRest k.val s).grp k.val = { s.grp k.val with cur := some (planSeg s k.val e.seg [] ⟨e.nowUnits.s, 0, 0⟩) }) ∧
    (Accepts s 0x0105 (d.force 1 11 8 5) →
      let keep := if (s.grp g).cur.any (fun e => decide (e.tb ≠ 0) && e.committed) && (s.grp g).nxt.isNone then 1 else 0
      let gone := (s.grp g).queue.length - keep
      ∃ t, Answers (.groupFlush d) d s t false (t.free? g) ∧ only t [] ∧ others t g ∧ t.plan.opens = s.plan.opens ∧
        (∀ a, t.axis a = { s.axis a with target := (t.axis a).target }) ∧
        t.grp g = { s.grp g with
          queue := (s.grp g).queue.take keep, freed := (s.grp g).freed + gone
          todo := if (s.grp g).queue.length = keep then (s.grp g).todo else (s.grp g).todo ++ [.window] }) ∧
    (Accepts s 0x0105 (d.noCmd 5) → ∃ t, Answers (.groupCtrlNoAction d) d s t true (0x0B000000 + s.free? g) ∧ refused t) ∧
    (∀ b r, (s.grp k.val).queue = Entry.move b :: r → s.sees (.move b) = true → s.gst k.val = gEnabled → s.motionOk = true →
      (s.grp k.val).rels = [] → (s.grp k.val).cur = none → ∃ t, exec (.queueStart k) s = .next t ∧ t.gst k.val = gMoving ∧
      t = { s with regs := t.regs, host := t.host, plan := t.plan } ∧ others t k.val ∧
      (t.grp k.val).queue.length = r.length ∧ (t.grp k.val).freed = (s.grp k.val).freed ∧
      ∃ e, (t.grp k.val).cur = some e ∧ e.el = 0 ∧ e.seg.tag = b.tag ∧ e.stopped = false) ∧
    (∀ e, (s.grp k.val).cur = some e → e.done = true → e.stopped = false → e.beyond = none → s.gst k.val = gMoving →
      (s.grp k.val).nxt = none → (s.grp k.val).queue = [] → (s.grp k.val).rels = [] → (s.grp k.val).stops = [] → s.web.haul = none →
      ∃ t, exec (.segmentEnd k) s = .next t ∧ t = { s with regs := t.regs, host := t.host, plan := t.plan } ∧
      t.gst k.val = gEnabled ∧ others t k.val ∧ (t.grp k.val).cur = none ∧
      (t.grp k.val).freed = (s.grp k.val).freed + (if e.seg.noSlot then 0 else 1) ∧
      ∀ m ∈ s.members k.val, e.seg.named.contains m.1 = true → (t.axis m.2).pos = e.restAt m.1 ∧ (t.axis m.2).vel = 0)

/-- R155, R158, R159, R161: gears, cams and the group report. -/
def Obligations.Couplings : Prop :=
  ∀ (d : Desc) (k : Fin 32) (s : State),
    let g := d.f 1 4 0
    let m := d.f 1 11 8
    let ct := d.f 1 30 26
    let only (t : State) : Prop := t = { s with regs := t.regs, host := t.host, hostMem := t.hostMem, plan := t.plan } ∧ OnlyRing d s t []
    let src := if d.f 1 25 24 ≤ 2 then d.f 1 25 24 else 0
    let gear (off : Bool) : Couple := {
      tag := d.tag.toNat, off := off, cam := none, source := src, master := d.f 1 23 16, member := m, catchUp := d.fb 1 26
      num := d.fi 2 31 0, den := max 1 (d.f 2 63 32), clutch := d.n 3, mOff := 0, sOff := 0, step := s.clk.ticks }
    let cam (off : Bool) : Couple := {
      tag := d.tag.toNat, off := off, cam := some ct, source := src, master := d.f 1 23 16, member := m
      catchUp := d.fb 1 12, num := 0, den := 1, clutch := 0, mOff := d.i 2, sOff := d.i 3, step := s.clk.ticks }
    let rest (t : State) : Prop := t.plan = { s.plan with groups := t.plan.groups } ∧ ∀ h, h ≠ g → t.grp h = s.grp h
    let queued (c : Instr) (x : Couple) : Prop := ∃ t, Answers c d s t false (s.free? g - 1) ∧ only t ∧ rest t ∧
      t.grp g = { s.grp g with queue := (s.grp g).queue ++ [.couple x], todo := (s.grp g).todo ++ [.window] }
    let refused (c : Instr) (why : Nat) : Prop := ∃ t, Answers c d s t true (why * 2 ^ 24 + s.free? g) ∧ only t ∧ t.plan = s.plan
    let takes : Prop := takesEntries (s.gst g) = true
    let room : Prop := 0 < s.free? g
    let bound : Prop := (s.memberAxis g m).isSome = true
    let master : Prop := if src = 2 then s.web.refAxis ≠ 0xFF else s.axisPresent (d.f 1 23 16) = true
    let table : Prop := (Table.look {} s.plan.cams ct).ready = true
    let engaged : Bool := s.plan.groups.any (fun e => e.2.rels.any (fun r => r.c.cam == some (d.f 1 4 0)))
    (Accepts s 0x0106 (d.force 1 27 27 0) →
      (bound → master → takes → room → queued (.gearEngage d) (gear false)) ∧
      (¬ bound ∨ ¬ master → refused (.gearEngage d) 1) ∧
      (bound → master → ¬ takes → refused (.gearEngage d) 2) ∧
      (bound → master → takes → ¬ room → refused (.gearEngage d) 3)) ∧
    (Accepts s 0x0106 (d.force 1 27 27 1) →
      (bound → takes → room → queued (.gearDisengage d) (gear true)) ∧
      (¬ bound → refused (.gearDisengage d) 1) ∧
      (bound → ¬ takes → refused (.gearDisengage d) 2) ∧
      (bound → takes → ¬ room → refused (.gearDisengage d) 3)) ∧
    (Accepts s 0x0108 (d.force 1 31 31 0) →
      (bound → master → table → takes → room → queued (.camEngage d) (cam false)) ∧
      (¬ bound ∨ ¬ master ∨ ¬ table → refused (.camEngage d) 1) ∧
      (bound → master → table → ¬ takes → refused (.camEngage d) 2) ∧
      (bound → master → table → takes → ¬ room → refused (.camEngage d) 3)) ∧
    (Accepts s 0x0108 (d.force 1 31 31 1) →
      (bound → takes → room → queued (.camDisengage d) (cam true)) ∧
      (¬ bound → refused (.camDisengage d) 1) ∧
      (bound → ¬ takes → refused (.camDisengage d) 2) ∧
      (bound → takes → ¬ room → refused (.camDisengage d) 3)) ∧
    (Accepts s 0x0107 d →
      (engaged = false → 2 ≤ d.f 1 28 16 → ∃ t, Answers (.camLoad d) d s t false 0 ∧ only t ∧ t.plan = { s.plan with cams := t.plan.cams } ∧
        (∀ i, i ≠ d.f 1 4 0 → Table.look {} t.plan.cams i = Table.look {} s.plan.cams i) ∧
        Table.look {} t.plan.cams (d.f 1 4 0) = { Table.look {} s.plan.cams (d.f 1 4 0) with
          next := some (camPoints (min (d.f 1 28 16) 4096) d.data, d.fb 1 5) }) ∧
      (engaged = false → d.f 1 28 16 < 2 → ∃ t, Answers (.camLoad d) d s t true 0x0A000000 ∧ only t ∧ t.plan = s.plan) ∧
      (engaged = true → ∃ t, Answers (.camLoad d) d s t true 0x07000000 ∧ only t ∧ t.plan = s.plan)) ∧
    (∀ pts per, (Table.look {} s.plan.cams k.val).next = some (pts, per) → s.host.evBuf.length < 256 →
      let made (t : State) (x : Cam) (code : BitVec 16) : Prop :=
        t = { s with host := { s.host with evBuf := t.host.evBuf }, plan := { s.plan with cams := t.plan.cams } } ∧
        (∀ i, i ≠ k.val → Table.look {} t.plan.cams i = Table.look {} s.plan.cams i) ∧ Table.look {} t.plan.cams k.val = x ∧
        ∃ r, t.host.evBuf = s.host.evBuf ++ [r] ∧ r.code = code ∧ r.ctrl = 0x607F
      (firstFall 0 pts = none → ∃ t, exec (.camReady k) s = .next t ∧ made t { pts := pts, periodic := per, ready := true, next := none } 0x0107) ∧
      (∀ i, firstFall 0 pts = some i → ∃ t, exec (.camReady k) s = .next t ∧
        made t { Table.look {} s.plan.cams k.val with next := none } 0x0108)) ∧
    (let addr := d.n 2 / 64 * 64
     let p := s.grp g
     let body := groupReport s g
     Accepts s 0x0109 d → body.length = 320 ∧
      body.take 8 = [BitVec.ofNat 8 p.visState, BitVec.ofNat 8 p.visFlags] ++ leBytes 2 p.visFree ++ leBytes 2 p.visQueued ++ leBytes 2 p.visTag ∧
      (body.drop 8).take 8 = leBytes 8 p.visNs ∧ (body.drop 16).take 8 = leBytes 8 (wrapN 64 p.visLeft) ∧
      (body.drop 24).take 8 = leBytes 8 (wrapN 64 p.visV) ∧
      (∀ i : Fin 16, (body.drop (64 + 16 * i.val)).take 16 = match s.memberAxis g i.val with
        | some a => leBytes 8 (wrapN 64 (s.axis a).visPos) ++ leBytes 8 (wrapN 64 (s.axis a).visVel)
        | none => leBytes 16 0) ∧
      ∃ t, Answers (.groupReport d) d s t false (s.free? g) ∧
        t = { s with regs := t.regs, host := t.host, hostMem := t.hostMem } ∧ OnlyRing d s t [] addr 320 ∧ Reported s t d addr body)

/-- R210, R211, Tables 5.10 to 5.19: the loop descriptors (spec/05_servo_loops.md). -/
def Obligations.LoopDescriptors : Prop :=
  ∀ (d : Desc) (s : State),
    let a := d.f 1 7 0
    let c := (s.axisL a).cfg
    let only (t : State) : Prop := (t = { s with regs := t.regs, host := t.host, hostMem := t.hostMem, loop := t.loop } ∧ OnlyRing d s t []) ∧
      ∀ b, b ≠ a → t.axisL b = s.axisL b
    let within (lo hi x : Nat) : Nat := max lo (min hi x)
    let signed (lo hi : Nat) (x : Int) : Nat := (max (lo : Int) (min (hi : Int) x)).toNat
    let absent : Prop := s.axisPresent a = false
    let busy : Prop := s.axisIdle a = false
    let noChan (n : Nat) : Prop := 32 ≤ n ∧ n ≠ 0xFF
    let itsChan (n : Nat) : Prop := n < 32 ∧ s.heldBy 2 n ≠ a
    let noIn (sdi : Bool) (k : Nat) : Prop := s.inPresent sdi k = false
    let itsIn (sdi : Bool) (k : Nat) : Prop := s.inPresent sdi k = true ∧ s.heldBy (if sdi then 1 else 0) k ≠ a
    -- a descriptor is answered with a reason and leaves the loops, or has its effect
    let answers (op : Nat) (i : Instr) (why : Nat) (x : AxisL) : Prop :=
      Accepts s op d → ∃ t, Answers i d s t (decide (why ≠ 0)) (why * 2 ^ 24) ∧ only t ∧ (if why = 0 then t.axisL a = x else t.loop = s.loop)
    let set (x : LoopCfg) : AxisL := { s.axisL a with cfg := x }
    let kind := if d.f 1 9 8 ≤ 1 then d.f 1 9 8 else 0
    let fb := d.f 1 39 32
    let vin := d.f 4 39 32
    answers 0x0200 (.motor d)
      (if absent then 1 else if 24 ≤ a then 3 else if noChan fb ∨ (vin ≠ 0xFF ∧ noIn false vin) then 1 else if busy then 2
       else if itsChan fb ∨ (vin ≠ 0xFF ∧ itsIn false vin) then 4 else if fb = 0xFF ∧ kind = 0 then 8 else 0)
      (let lim := signed 0 (2 ^ 30) (d.fi 3 31 0)
       set { c with
        ifs := within 1 65535 (d.f 1 63 48), dirInv := d.fb 1 40, fbCh := fb, polePairs := within 1 255 (d.f 1 23 16)
        kind := kind, angleOfs := d.f 2 63 32, countsRev := within 1 (2 ^ 31) (d.f 2 31 0), iLimit := lim
        iTrip := signed lim (2 ^ 30) (d.fi 3 63 32), vbusFs := within 1 65535 (d.f 4 55 40)
        vbusIn := vin, modMax := signed (2 ^ 29) (2 ^ 30) (d.fi 4 31 0), vbusNom := signed (2 ^ 26) (2 ^ 30) (d.fi 5 31 0)
        motorDone := true }) ∧
    (let ins := [d.f 1 31 24, d.f 1 39 32] ++ (if c.kind = 1 ∨ d.f 1 47 40 = 0xFF then [] else [d.f 1 47 40])
     answers 0x0201 (.isense d)
      (if absent then 1 else if 24 ≤ a then 3 else if ∃ k ∈ ins, noIn (d.fb 1 17) k then 1 else if busy then 2
       else if ∃ k ∈ ins, k ≠ 0xFF ∧ itsIn (d.fb 1 17) k then 4 else 0)
      (set { c with
        inA := d.f 1 31 24, inB := d.f 1 39 32, inC := d.f 1 47 40, window := d.fb 1 18, sdi := d.fb 1 17, avg := d.fb 1 16
        isenseDone := true })) ∧
    answers 0x0202 (.currentLoop d) (if absent then 1 else if 24 ≤ a then 3 else 0)
      (set { c with
        bemf := d.fb 1 9, decouple := d.fb 1 8, ti := if d.f 2 63 32 = 0 then 0 else max 1000 (d.f 2 63 32), kpI := d.f 2 31 0
        xq := d.f 3 63 32, xd := d.f 3 31 0, ke := d.f 4 31 0 }) ∧
    answers 0x0203 (.velocityLoop d)
      (if absent then 1 else if a < 24 ∧ noChan (d.f 1 23 16) then 1 else if a < 24 ∧ itsChan (d.f 1 23 16) then 4 else 0)
      (let lo := within (2 ^ 18) (2 ^ 24) (d.f 5 31 0)
       set { c with
        velFb := d.f 1 23 16, vsrc := if d.f 1 9 8 ≤ 1 then d.f 1 9 8 else 0, kv := (cGain (d.w 2)).val, tf := d.f 3 63 32
        tn := d.f 3 31 0, kaff := (cGain (d.w 4)).val, scaleMin := lo, scaleMax := within lo (2 ^ 30) (d.f 5 63 32) }) ∧
    answers 0x0204 (.positionLoop d)
      (if absent then 1 else if a < 24 ∧ noChan (d.f 1 15 8) then 1 else if a < 24 ∧ itsChan (d.f 1 15 8) then 4 else 0)
      (set { c with posFb := d.f 1 15 8, kp := (cGain (d.w 2)).val, vff := signed 0 (2 ^ 30) (d.fi 3 63 32), feMax := d.f 3 31 0 }) ∧
    (∀ w : W64, (cGain w).val.setWidth 32 = w.setWidth 32 ∧ sbits (cGain w).val 39 32 = max (-64) (min 63 (sbits w 39 32)) ∧
      (cGain w).val.toNat < 2 ^ 40) ∧
    (let f0 := signed (10 * 65536) s.fTop (d.fi 2 31 0)
     let mode := if d.f 1 13 12 ≤ 2 then d.f 1 13 12 else 0
     let lo := signed (10 * 65536) s.fTop (d.fi 3 31 0)
     let hi := signed lo s.fTop (d.fi 3 63 32)
     let n : Notch := if mode = 0 then { lock := d.fb 1 11 } else {
       mode := mode, lock := d.fb 1 11, depth := signed 0 (60 * 256) (d.fi 2 63 48), width := within 1 (f0 / 65536) (d.f 2 47 32)
       f0 := if mode = 2 then within lo hi f0 else f0, fMin := lo, fMax := hi, rate := signed 1 (2 ^ 31 - 1) (d.fi 4 31 0) }
     answers 0x0205 (.notch d) (if absent then 1 else 0)
      { s.axisL a with notchPend := ((s.axisL a).notchPend.filter (fun e => e.1 != d.f 1 9 8)).map (fun e =>
          if mode = 2 ∧ e.2.mode = 2 then (e.1, { e.2 with mode := 1 }) else e) ++ [(d.f 1 9 8, n)] }) ∧
    (let lim : Int := 2 ^ 60 - 2 ^ 40
     let a2 := max (-lim) (min lim (d.i 6))
     answers 0x0206 (.notchRaw d) (if absent then 1 else 0)
      { s.axisL a with notchPend := ((s.axisL a).notchPend.filter (fun e => e.1 != d.f 1 9 8)) ++ [(d.f 1 9 8,
          { raw := true, lock := d.fb 1 11, b0 := d.i 2, b1 := d.i 3, b2 := d.i 4
            a1 := max (-(lim + a2)) (min (lim + a2) (d.i 5)), a2 := a2 })] }) ∧
    (let lo := signed 0 c.iLimit (d.fi 2 31 0)
     let hi := signed lo c.iLimit (d.fi 2 63 32)
     let dl := min (2 ^ 30 - 1) (d.f 3 31 0)
     answers 0x0207 (.stepper d) (if absent then 1 else if 24 ≤ a then 3 else if busy then 2 else if c.kind ≠ 1 then 8 else 0)
      (set { c with
        openLoop := d.fb 1 10, stallFault := d.fb 1 9, lf := d.fb 1 8, iMax := hi, iMin := lo
        deltaHi := within (dl + 1) (2 ^ 30) (d.f 3 63 32), deltaLo := dl, fallTicks := within 1 65535 (d.f 4 47 32)
        iHold := signed 0 hi (d.fi 4 31 0) })) ∧
    answers 0x020B (.loopFlagsClr d) (if absent then 1 else 0)
      { s.axisL a with
        clrI := (s.axisL a).clrI ||| d.f 2 15 0, clrV := (s.axisL a).clrV ||| d.f 2 31 16, clrP := (s.axisL a).clrP ||| d.f 2 47 32 } ∧
    (let x := s.axisL a
     let t := takeCfg a s
     let y := t.axisL a
     t = { s with loop := t.loop } ∧ (∀ b, b ≠ a → t.axisL b = s.axisL b) ∧ y.use = x.cfg ∧ y.cfg = x.cfg ∧ y.notchPend = [] ∧
      (x.notchPend = [] → y.notches = x.notches) ∧
      (∀ e, x.notchPend = [e] → ∀ i, i < 4 → i ≠ e.1 → t.notch a i =
        { s.notch a i with mode := if e.2.mode = 2 ∧ (s.notch a i).mode = 2 then 1 else (s.notch a i).mode }) ∧
      (∀ e, x.notchPend = [e] → (t.notch a e.1).mode = e.2.mode ∧ (t.notch a e.1).x1 = (s.notch a e.1).x1 ∧
        (t.notch a e.1).y1 = (s.notch a e.1).y1 ∧ (e.2.mode = 0 → t.notch a e.1 = (s.notch a e.1).define e.2)))

/-- R203, R207, R210: identification and the loop reports (spec/05_servo_loops.md). -/
def Obligations.Identification : Prop :=
  ∀ (d : Desc) (k : Fin 256) (r : IdResult) (s : State),
    let a := d.f 1 7 0
    let only (t : State) (len : Nat) : Prop :=
      t = { s with regs := t.regs, host := t.host, hostMem := t.hostMem, plan := t.plan, loop := t.loop } ∧ OnlyRing d s t [] (d.n 2 / 64 * 64) len ∧
      (∀ b, b ≠ a → t.axisL b = s.axisL b)
    let x := (s.axisL k.val).ident
    -- one more event, ID_STATE; or ID_STATE and ID_END
    let told (t : State) (b st was : Nat) : Prop := ∃ e, t.host.evBuf = s.host.evBuf ++ [e] ∧
      e.code = 0x0207 ∧ e.data = BitVec.ofNat 16 (0x5200 + b) ∧ e.payload.setWidth 16 = BitVec.ofNat 16 (st + 256 * was)
    let toldEnd (t : State) (b st was cause valid : Nat) : Prop := ∃ e f, t.host.evBuf = s.host.evBuf ++ [e, f] ∧
      e.code = 0x0207 ∧ e.payload.setWidth 16 = BitVec.ofNat 16 (st + 256 * was) ∧ f.code = 0x0208 ∧ f.data = BitVec.ofNat 16 (0x5200 + b) ∧
      f.payload.setWidth 24 = BitVec.ofNat 24 (st + 256 * cause + 65536 * valid)
    let aborted (t : State) (b cause : Nat) : Prop :=
      let y := (s.axisL b).ident
      let p := (s.axisL b).actual
      (t.axisL b).ident = { y with state := 8, run := .rest, cause := cause, time := s.nowNs } ∧ toldEnd t b 8 y.state cause y.valid ∧
        (y.run = .rest → t.plan = s.plan) ∧
        (y.run ≠ .rest → t.axis b = { s.axis b with pos := p, vel := 0, acc := 0, visPos := p, visVel := 0, visAcc := 0, target := p } ∧
          (t.axisL b).iSet = 0 ∧ (t.axisL b).iNext = 0) ∧
        ∀ i, i ≠ b → t.axis i = s.axis i ∧ t.axisL i = s.axisL i
    let room : Prop := s.host.evBuf.length + 2 ≤ 256
    (room → Accepts s 0x0208 (d.force 1 13 13 0) →
      let steps := d.f 1 11 8
      let on := (s.groupOf a).any (fun g => s.gst g == gEnabled)
      let why := if s.axisPresent a = false then 1 else if s.mode ≠ mCommission then 5 else if on = false then 2 else if steps = 0 then 9
        else if 24 ≤ a ∧ steps.testBit 0 = true then 3 else if a < 24 ∧ (s.axisL a).cfg.kind = 1 then 8
        else if (s.groupOf a).any s.idOn = true then 6 else if s.carriesSpan a = true ∧ s.tensionActive = true then 7 else 0
      let signed (hi : Nat) (v : Int) : Nat := (max 0 (min (hi : Int) v)).toNat
      let im := signed (if a < 24 then (s.axisL a).cfg.iLimit else 2 ^ 30) (d.fi 4 31 0)
      let am := signed im (d.fi 4 63 32)
      ∃ t, Answers (.identify d) d s t (decide (why ≠ 0)) (why * 2 ^ 24) ∧ only t 0 ∧ t.plan = s.plan ∧
        (why ≠ 0 → t.loop = s.loop) ∧
        (why = 0 → told t a 1 (s.axisL a).ident.state ∧ t.axisL a = { s.axisL a with ident := {
          state := 1, start := (s.axis a).visPos, steps := steps, place := d.fb 1 12, travel := max 1 (d.n 2)
          vmax := signed (s.axis a).vmax (d.i 3), imax := im, ampl := am, amplUsed := am } })) ∧
    (room → Accepts s 0x0208 (d.force 1 13 13 1) →
      (s.axisPresent a = false → ∃ t, Answers (.identifyAbort d) d s t true 0x01000000 ∧ only t 0 ∧ t.loop = s.loop ∧ t.plan = s.plan) ∧
      (s.axisPresent a = true → idRunning (s.axisL a).ident = false → ∃ t, Answers (.identifyAbort d) d s t true 0x06000000 ∧ only t 0 ∧
        t.loop = s.loop ∧ t.plan = s.plan) ∧
      (s.axisPresent a = true → idRunning (s.axisL a).ident = true → ∃ t, Answers (.identifyAbort d) d s t false 0 ∧ only t 0 ∧ aborted t a 0)) ∧
    (idRunning x = false → ∀ c, exec (.idState k r c) s = .next s) ∧
    (room → idRunning x = true →
      let keeps (t : State) : Prop := t = { s with host := t.host, plan := t.plan, loop := t.loop }
      let outside : Prop := x.state = 1 ∧ (x.start < (s.axis k.val).softMin ∨ (s.axis k.val).softMax < x.start)
      let ready : Prop := x.run = .excite ∨ (x.run = .rest ∧ idRuns s k.val ≤ x.begun)
      (∀ c : Fin 256, ∃ t, exec (.idState k r (some c)) s = .next t ∧ keeps t ∧ aborted t k.val c.val) ∧
      (outside → ∃ t, exec (.idState k r none) s = .next t ∧ keeps t ∧ aborted t k.val 2) ∧
      (¬ outside → ¬ ready → exec (.idState k r none) s = .next s) ∧
      (¬ outside → ready → x.state < 6 → ∃ t, exec (.idState k r none) s = .next t ∧ keeps t ∧ t.plan = s.plan ∧
        told t k.val (idNext x.steps x.state) x.state ∧ (∀ i, i ≠ k.val → t.axisL i = s.axisL i) ∧
        let y := (t.axisL k.val).ident
        let z : Ident := { x with state := y.state, run := .rest, begun := 0, el := 0, valid := y.valid }
        y.state = idNext x.steps x.state ∧ y.valid = x.valid ||| (if 2 ≤ x.state then 2 ^ (x.state - 2) else 0) ∧
        (x.state = 1 → y = z) ∧
        (x.state = 2 → y = { z with rs := r.rs.toNat, xd := r.xd.toNat, xq := r.xq.toNat, angleOfs := r.angleOfs.toNat }) ∧
        (x.state = 3 → y = { z with coulomb := satI 32 (fitFriction (r.runs.map (fun e => (e.1.toInt, e.2.toInt)))).1, b := y.b }) ∧
        (x.state = 4 → y = { z with ji := y.ji }) ∧
        (x.state = 5 → y = { z with res := y.res, amplUsed := min x.ampl r.ampl.toNat } ∧ y.res.length ≤ 4 ∧
          ∀ p ∈ y.res, 6 * 256 ≤ p.peak)) ∧
      (ready → x.state = 6 → ∃ t, exec (.idState k r none) s = .next t ∧ keeps t ∧ t.plan = s.plan ∧ toldEnd t k.val 7 6 0xFF x.valid ∧
        (∀ i, i ≠ k.val → t.axisL i = s.axisL i) ∧
        let y := (t.axisL k.val).ident
        let upd := if k.val < 24 then s.updInterval k.val else s.ftNs * 2 ^ 32
        y.state = 7 ∧ y.valid = x.valid ∧ y.time = s.nowNs ∧ y.rs = x.rs ∧ y.xq = x.xq ∧ y.coulomb = x.coulomb ∧ y.b = x.b ∧ y.ji = x.ji ∧
        y.kpI = satN 32 (rdiv (x.xq * 1000000 * 2 ^ 32 : Nat) (12 * upd)).toNat ∧
        (x.place = false → (t.axisL k.val).notches = (s.axisL k.val).notches ∧ ∀ p ∈ y.res, p.placed = 0xFF))) ∧
    (∀ st, st < 6 → st < idNext x.steps st ∧ idNext x.steps st ≤ 6 ∧
      (idNext x.steps st < 6 → x.steps.testBit (idNext x.steps st - 2) = true) ∧
      ∀ j, st < j → 2 ≤ j → j < idNext x.steps st → x.steps.testBit (j - 2) = false) ∧
    (Accepts s 0x0209 d →
      (s.axisPresent a = false → ∃ t, Answers (.loopReport d) d s t true 0x01000000 ∧ only t 0 ∧ t.plan = s.plan ∧ t.loop = s.loop) ∧
      (s.axisPresent a = true → ∃ t, Answers (.loopReport d) d s t false 0 ∧ only t 128 ∧ t.plan = s.plan ∧
        (loopReport s a).length = 128 ∧ Reported s t d (d.n 2 / 64 * 64) (loopReport s a) ∧
        t.axisL a = { s.axisL a with dlyMin := 0, dlyMax := 0, dlySeen := false })) ∧
    (Accepts s 0x020A d →
      (s.axisPresent a = false → ∃ t, Answers (.idReport d) d s t true 0x01000000 ∧ only t 0 ∧ t.plan = s.plan ∧ t.loop = s.loop) ∧
      (s.axisPresent a = true → (idReport s a).length = 128 ∧ ∃ t, Answers (.idReport d) d s t false 0 ∧ only t 128 ∧ t.plan = s.plan ∧
        t.loop = s.loop ∧ Reported s t d (d.n 2 / 64 * 64) (idReport s a)))

/-- R214 to R218, R225, R226, R229, R233, R239, R252, R253: the web descriptors (spec/06_web_spans_and_hauldown.md). The legal
bounds in metres, m/s and so on stand as the nearest Q32.32 or Q8.24 numbers. -/
def Obligations.WebDescriptors : Prop :=
  ∀ (d : Desc) (s : State),
    let a := d.f 1 7 0
    let k := d.f 1 4 0
    let w := d.f 1 2 0
    let only (t : State) : Prop := t = { s with regs := t.regs, host := t.host, hostMem := t.hostMem, web := t.web } ∧ OnlyRing d s t []
    let within (lo hi x : Int) : Nat := (max lo (min hi x)).toNat
    let top : Int := 2 ^ 63 - 1
    -- a descriptor is answered with a reason and leaves the line, or has its effect
    let answers (op : Nat) (d' : Desc) (i : Instr) (why : Nat) (done : State → Prop) : Prop :=
      Accepts s op d' → ∃ t, Answers i d s t (decide (why ≠ 0)) (why * 2 ^ 24) ∧ only t ∧ (if why = 0 then done t else t.web = s.web)
    let absent (b : Nat) : Prop := s.axisPresent b = false
    let calm (b : Nat) : Prop := s.axisIdle b = true ∧ s.mode ≠ mHauldown ∧ s.mode ≠ mBackstay
    let noRoll (b : Nat) : Prop := s.isWeb b = false
    let noSpan (j : Nat) : Prop := 24 ≤ j ∨ (s.span j).on = false
    (let new : Prop := a ≠ s.web.refAxis
     let t1 : WebSt := { s.web with
       refAxis := a, tensionOn := d.fb 1 8, pubDiv := d.f 1 31 16, pubAddr := d.n 2 / 64 * 64
       hdMax := within 42949673 (100 * 2 ^ 32) (d.i 3), hdJerk := within 429496730 (10000 * 2 ^ 32) (d.i 4)
       hdMin := within 0 (within 42949673 (100 * 2 ^ 32) (d.i 3)) (d.i 5), zeroSpeed := within 429497 (2 ^ 32) (d.i 6)
       margin := min (2 ^ 29) (d.f 7 31 0)
       -- the corrections of the loops that TENSION_ON stops run down in 64 ticks (R230)
       spans := if s.web.tensionOn = true ∧ d.fb 1 8 = false then s.web.spans.map (fun e => (e.1, { e.2 with ramp := 64, rampFrom := e.2.corr }))
         else s.web.spans }
     answers 0x0300 d (.line d)
      (if a ≠ 0xFF ∧ absent a then 1 else if new ∧ a ≠ 0xFF ∧ (noRoll a ∨ (s.winderOf a).isSome = true) then 5
       else if new ∧ ¬(s.mode ≠ mHauldown ∧ s.mode ≠ mBackstay ∧ (a = 0xFF ∨ s.axisIdle a = true) ∧
        (s.web.refAxis = 0xFF ∨ s.axisIdle s.web.refAxis = true)) then 2 else 0)
      (fun t => (a ≠ 0xFF ∨ s.web.refAxis = 0xFF ∨ s.web.mats = [] → t.web = t1) ∧
        t.web = { t1 with spans := t.web.spans, winders := t.web.winders, mats := t.web.mats } ∧
        (a = 0xFF → s.web.refAxis ≠ 0xFF → ∀ m ∈ t.web.mats, m.wait = none))) ∧
    answers 0x0301 (d.force 1 15 15 0) (.roll d) (if absent a then 1 else if ¬ calm a then 2 else 0)
      (fun t => t.web = { s.web with rolls := t.web.rolls } ∧ (∀ b, b ≠ a → t.roll b = s.roll b) ∧
        t.roll a = { s.roll a with
          on := true, cpr := max 1 (min (2 ^ 31) (d.f 1 47 16)), dFix := within 4294967 (10 * 2 ^ 32) (d.i 2)
          cap := if d.i 3 = 0 then 0 else within 42949673 (1000 * 2 ^ 32) (d.i 3)
          kt := if d.i 4 ≤ 0 then 0 else within 4294967 (2 ^ 63) (d.i 4), lastPos := s.actual a }) ∧
    answers 0x0301 (d.force 1 15 15 1) (.rollRemove d) (if absent a then 1 else if noRoll a then 5 else if ¬ calm a then 2 else 0)
      (fun t => t.isWeb a = false ∧ t.web.refAxis = (if s.web.refAxis = a then 0xFF else s.web.refAxis) ∧
        (∀ e ∈ t.web.winders, e.2.axis ≠ a) ∧ (∀ b, b ≠ a → t.roll b = s.roll b) ∧
        (let mine := s.web.spans.filter (fun e => e.2.on && (e.2.up == a || e.2.dn == a))
         mine.length ≤ 24 → s.web.mats = [] → ∀ e ∈ mine, (t.span e.1).on = false ∧ ∀ x ∈ t.web.winders, x.2.span ≠ e.1)) ∧
    (let up := d.f 1 15 8
     let dn := d.f 1 23 16
     let ups := d.f 1 31 24
     let tm := within 0 top (d.i 4)
     let x : SpanSt := { s.span k with
       on := true, up := up, dn := dn, upstream := ups, len := within 42949673 (1000 * 2 ^ 32) (d.i 2)
       lane := max (2 ^ 10) (min (2 ^ 30) (d.f 3 63 32)), band := min (2 ^ 29) (d.f 3 31 0), tMax := tm
       tIn := within 0 (if tm = 0 then top else tm) (d.i 5) }
     let astray (e : Nat × SpanSt) : Prop := e.1 ≠ k ∧ e.2.on = true ∧ e.2.upstream = k ∧ e.2.up ≠ dn
     answers 0x0302 (d.force 1 32 32 0) (.span d)
      (if 24 ≤ k ∨ absent up ∨ absent dn then 1 else if ¬ calm up ∨ ¬ calm dn then 2 else if noRoll up ∨ noRoll dn then 8
       else if upstreamOk s k up ups = false then 6 else 0)
      (fun t => t.web = { s.web with spans := t.web.spans, winders := t.web.winders, mats := t.web.mats } ∧
        (∀ e ∈ t.web.winders, e ∈ s.web.winders ∧ (e.2.span = k → e.2.axis = if e.2.unwind then up else dn)) ∧
        ((∀ e ∈ s.web.spans, ¬ astray e) → t.span k = x ∧ (∀ j, j ≠ k → t.span j = s.span j) ∧
          ∀ e ∈ s.web.winders, e.2.span ≠ k → e ∈ t.web.winders))) ∧
    (∀ j, upstreamOk s k (d.f 1 15 8) j = true → j = 0xFF ∨ (j ≠ k ∧ (s.span j).on = true ∧ (s.span j).dn = d.f 1 15 8)) ∧
    (let x := s.span k
     let down := s.web.spans.filter (fun e => e.2.on && e.2.upstream == k)
     answers 0x0302 (d.force 1 32 32 1) (.spanRemove d) (if noSpan k then 1 else if ¬ calm x.up ∨ ¬ calm x.dn then 2 else 0)
      (fun t => t.web = { s.web with spans := t.web.spans, winders := t.web.winders, mats := t.web.mats } ∧
        (t.span k).on = false ∧ (∀ e ∈ t.web.winders, e.2.span ≠ k) ∧
        (down = [] → ∀ j, j ≠ k → t.span j = s.span j) ∧
        (down.length ≤ 24 → ∀ e ∈ down, (t.span e.1).on = false ∧ ∀ y ∈ t.web.winders, y.2.span ≠ e.1))) ∧
    (let x := s.span k
     let src := d.f 1 9 8
     let fb := d.fb 1 13
     let input := d.f 1 23 16
     let target := if d.fb 1 11 then x.dn else x.up
     let sensor : Prop := src = 1 ∨ src = 2
     answers 0x0303 d (.tensionLoop d)
      (if noSpan k ∨ (sensor ∧ (if fb then 32 ≤ input else s.inPresent false input = false)) then 1
       else if sensor ∧ s.heldBy (if fb then 2 else 0) input ≠ seOf k then 4
       else if src ≠ 0 ∧ s.web.spans.any (fun e => e.2.on && e.1 != k && e.2.source != 0 && e.2.controlled == target) = true then 3 else 0)
      (fun t => t.web = { s.web with spans := t.web.spans } ∧ (∀ j, j ≠ k → t.span j = s.span j) ∧
        t.span k = { x with
          source := src, act := d.fb 1 10, ctrl := d.fb 1 11, cascade := d.fb 1 12, fb := fb, input := input
          tSet := within 0 (if x.tMax = 0 then top else x.tMax) (d.i 2), tRate := within 0 top (d.i 3), kp := (cGain (d.w 4)).val
          tn := d.f 5 63 32, lim := min (2 ^ 30) (d.f 5 31 0), gain := d.i 6, zero := d.f 7 63 32, corrM := d.f 7 31 16, tBreak := d.f 7 15 0 })) ∧
    (let b := d.f 1 15 8
     let j := d.f 1 20 16
     let core := within 167772 (4 * 2 ^ 24) (d.f 2 31 0)
     let dMax := within core (4 * 2 ^ 24) (d.f 2 63 32)
     answers 0x0304 (d.force 1 25 25 0) (.winder d)
      (if absent b ∨ noSpan j then 1 else if ¬ calm b then 2 else if noRoll b ∨ b = s.web.refAxis then 5
       else if (if d.fb 1 24 then (s.span j).up else (s.span j).dn) ≠ b then 8
       else if s.winderOf b ≠ none ∧ s.winderOf b ≠ some w then 9 else 0)
      (fun t => t.web = { s.web with winders := t.web.winders } ∧ (∀ i, i ≠ w → t.winder i = s.winder i) ∧
        let y := t.winder w
        y = { on := true, axis := b, span := j, unwind := d.fb 1 24, dCore := core, dMax := dMax, dGear := d.f 3 63 32, h := d.f 3 31 0
              jFix := within 0 top (d.i 4), rho := within 0 top (d.i 5), jRef := within 0 top (d.i 6), fRef := d.f 7 63 32
              devMax := d.f 7 31 0, taper := d.f 1 63 48, trust := d.f 1 47 32, d := (if d.fb 1 24 then dMax else core) * 2 ^ 40
              hNow := d.f 3 31 0, revPos := s.actual b, j := y.j, scale := y.scale, pred := y.pred })) ∧
    answers 0x0304 (d.force 1 25 25 1) (.winderRemove d)
      (if (s.winder w).on = false then 1 else if ¬ calm (s.winder w).axis then 2 else 0)
      (fun t => t.web = { s.web with winders := t.web.winders, mats := t.web.mats } ∧ t.winder w = {} ∧ ∀ i, i ≠ w → t.winder i = s.winder i) ∧
    answers 0x0306 d (.diameterSet d) (if (s.winder w).on = false then 1 else 0)
      (fun t => t.web = { s.web with winders := t.web.winders } ∧ (∀ i, i ≠ w → t.winder i = s.winder i) ∧
        let x := s.winder w
        let y := t.winder w
        y = { x with
          d := clampN x.dCore x.dMax (d.f 2 31 0) * 2 ^ 40, revPos := s.actual x.axis, revLen := 0, slow := false, atCore := false
          atMax := false, j := y.j, scale := y.scale, pred := y.pred }) ∧
    (let line := d.fb 1 8 && s.web.refAxis != 0xFF && decide ((s.axis s.web.refAxis).visPos < d.i 3)
     let all := d.fb 1 9
     let ea := within 0 top (d.i 2)
     let m : Mat := { ea := ea, h := d.f 1 63 32, span := k, all := all, wait := none, entered := s.web.sL, spans := [], winders := [] }
     answers 0x0305 d (.material d)
      (if noSpan k then 1 else if (line = true ∨ all = false) ∧ 16 ≤ s.web.mats.length then 7 else 0)
      (fun t =>
        (line = true → t.web = { s.web with mats := s.web.mats ++ [{ m with wait := some (d.i 3), entered := 0 }] }) ∧
        (line = false → all = false → t.web = { s.web with mats := s.web.mats ++ [m] }) ∧
        (line = false → all = true → t.web = { s.web with spans := t.web.spans, winders := t.web.winders } ∧
          (∀ j ∈ downSpans s k, t.span j = { s.span j with ea := ea }) ∧ (∀ j, j ∉ downSpans s k → t.span j = s.span j)))) ∧
    (k ∈ downSpans s k ∧ ∀ j ∈ downSpans s k, j = k ∨ ∃ e ∈ s.web.spans, e.1 = j ∧ e.2.on = true ∧ e.2.upstream ∈ downSpans s k) ∧
    (Accepts s 0x0307 d → (lineReport s).length = 1088 ∧ ∃ t, Answers (.lineReport d) d s t false 0 ∧
      t = { s with regs := t.regs, host := t.host, hostMem := t.hostMem } ∧ OnlyRing d s t [] (d.n 2 / 64 * 64) 1088 ∧
      Reported s t d (d.n 2 / 64 * 64) (lineReport s))

/-- R225, R232, R235, R249, R251: what the line does of itself (spec/06_web_spans_and_hauldown.md). -/
def Obligations.WebEvents : Prop :=
  ∀ (i : Nat) (k : Fin 24) (w : Fin 8) (s : State),
    let only (t : State) : Prop := t = { s with web := t.web }
    let room : Prop := s.host.evBuf.length < 256
    (∀ m, s.web.mats[i]? = some m →
      (∀ p, m.wait = some p → (p ≤ (s.axis s.web.refAxis).visPos ∨ s.web.refAxis = 0xFF) →
        (m.all = false → exec (.materialEnter i) s = .next { s with web := { s.web with
          mats := s.web.mats.eraseIdx i ++ [{ m with wait := none, entered := s.web.sL }] } }) ∧
        (m.all = true → ∃ t, exec (.materialEnter i) s = .next t ∧ only t ∧
          t.web = { s.web with mats := s.web.mats.eraseIdx i, spans := t.web.spans, winders := t.web.winders } ∧
          (∀ j ∈ downSpans s m.span, t.span j = { s.span j with ea := m.ea }) ∧ ∀ j, j ∉ downSpans s m.span → t.span j = s.span j)) ∧
      (∀ p, m.wait = some p → (s.axis s.web.refAxis).visPos < p → s.web.refAxis ≠ 0xFF → exec (.materialEnter i) s = .next s) ∧
      (∀ l, webTo s m.span 26 k.val = some l → m.wait = none → m.spans.contains k.val = false → (s.span k.val).on = true →
        ((l + (s.span k.val).len / 2 : Nat) : Int) ≤ s.web.sL - m.entered → ∃ t, exec (.materialReach i false k) s = .next t ∧ only t ∧
        (t.span k.val).ea = m.ea ∧ (∀ j, j ≠ k.val → t.span j = s.span j) ∧ t.web = { s.web with spans := t.web.spans, mats := t.web.mats } ∧
        (t.web.mats = s.web.mats.set i { m with spans := m.spans ++ [k.val] } ∨ t.web.mats = s.web.mats.eraseIdx i)) ∧
      (∀ l, webTo s m.span 26 k.val = some l → s.web.sL - m.entered < ((l + (s.span k.val).len / 2 : Nat) : Int) →
        exec (.materialReach i false k) s = .next s) ∧
      (∀ l, webTo s m.span 26 (s.winder k.val).span = some l → m.wait = none → m.winders.contains k.val = false →
        (s.winder k.val).on = true → (s.winder k.val).unwind = false →
        ((l + (s.span (s.winder k.val).span).len : Nat) : Int) ≤ s.web.sL - m.entered → ∃ t,
        exec (.materialReach i true k) s = .next t ∧ only t ∧ t.winder k.val = { s.winder k.val with hNow := m.h } ∧
        t.web = { s.web with winders := t.web.winders, mats := t.web.mats } ∧ ∀ j, j ≠ k.val → t.winder j = s.winder j)) ∧
    (let x := s.winder w.val
     let ratio := rdiv (x.revLen.natAbs * 2 ^ 96 : Nat) piQ64
     x.on = true → (s.roll x.axis).cpr * 65536 ≤ (s.actual x.axis - x.revPos).natAbs →
      (x.slow = true → ∃ t, exec (.winderRevolution w) s = .next t ∧ only t ∧
        t.winder w.val = { x with revPos := s.actual x.axis, revLen := 0, slow := false }) ∧
      (x.slow = false → (x.devMax = 0 ∨ (ratio - x.d).natAbs * 1000000 ≤ x.devMax * 2 ^ 64) → ∃ t,
        exec (.winderRevolution w) s = .next t ∧ t = { s with host := t.host, web := { s.web with winders := t.web.winders } } ∧
        ((t.winder w.val).d : Int) = clampI (x.dCore * 2 ^ 40) (x.dMax * 2 ^ 40) (x.d + rdiv (x.trust * (ratio - x.d)) 65536) ∧
        (t.winder w.val).revLen = 0 ∧ (t.winder w.val).revPos = s.actual x.axis ∧ ∀ j, j ≠ w.val → t.winder j = s.winder j) ∧
      (x.slow = false → ¬ (x.devMax = 0 ∨ (ratio - x.d).natAbs * 1000000 ≤ x.devMax * 2 ^ 64) → x.dev = false → room → ∃ t,
        exec (.winderRevolution w) s = .next t ∧ t = { s with host := t.host, web := { s.web with winders := t.web.winders } } ∧
        (t.winder w.val).d = x.d ∧ (t.winder w.val).dev = true ∧ (∀ j, j ≠ w.val → t.winder j = s.winder j) ∧
        ∃ r, t.host.evBuf = s.host.evBuf ++ [r] ∧ r.code = 0x0305 ∧ r.data = BitVec.ofNat 16 (0x4000 + x.axis))) ∧
    (let x := s.winder w.val
     x.on = true → (s.actual x.axis - x.revPos).natAbs < (s.roll x.axis).cpr * 65536 → exec (.winderRevolution w) s = .next s) ∧
    ((s.span k.val).on = true → (s.span k.val).broke = false → room →
      (16 ≤ (s.span k.val).breakRun → ∃ t, exec (.webBreak k) s = .next t ∧ t = { s with host := t.host, web := { s.web with spans := t.web.spans } } ∧ t.span k.val = { s.span k.val with broke := true } ∧
        (∀ j, j ≠ k.val → t.span j = s.span j) ∧
        ∃ r, t.host.evBuf = s.host.evBuf ++ [r] ∧ r.code = 0x0303 ∧ r.data = BitVec.ofNat 16 (0x2000 + k.val)) ∧
      ((s.span k.val).breakRun < 16 → exec (.webBreak k) s = .next s)) ∧
    (∀ h, s.web.haul = some h → s.mode = mHauldown →
      (16 ≤ h.still → exec .lineStandstill s = .next { s with md := { s.md with
        reqs := s.md.reqs ++ [{ target := mStandby, cause := 8, rank := 6 }] } }) ∧
      (h.still < 16 → exec .lineStandstill s = .next s)) ∧
    (s.web.pubDiv ≠ 0 → s.tickNo % s.web.pubDiv = 0 →
      (∃ t, exec (.lineStatusPublish true) s = .next t ∧ t = { s with hostMem := t.hostMem } ∧ (lineRecord s).length = 64 ∧
        (∀ q, (∀ j, j < 64 → q ≠ (s.web.pubAddr + j) % 2 ^ 64) → t.hostByte q = s.hostByte q) ∧ ∀ j, j < 64 → t.hostByte ((s.web.pubAddr + j) % 2 ^ 64) = (lineRecord s).getD j 0) ∧
      (room → ∃ t, exec (.lineStatusPublish false) s = .next t ∧ t = { s with host := t.host, web := { s.web with pubDiv := 0 } } ∧
        ∃ r, t.host.evBuf = s.host.evBuf ++ [r] ∧ r.code = 0x0309)) ∧
    (s.web.pubDiv = 0 ∨ s.tickNo % s.web.pubDiv ≠ 0 → ∀ ok, exec (.lineStatusPublish ok) s = .next s)

/-- R303 to R312: the PWM generator's updates and edges (spec/08_pwm.md). Instants are local times in units of 2^-32 ns. -/
def Obligations.PwmUpdates : Prop :=
  ∀ (who : Option (Fin 38)) (n : Fin 24) (p : Fin 4) (cyc : Nat) (s : State), s.slotPresent n.val = true →
    let x := s.slot n.val
    let now := (s.atCyc cyc).nowFx
    let u := s.atCyc cyc
    -- nothing of the other slots, and of the registers none outside the slot
    let slotOnly (t : State) : Prop := t = { u with
        regs := t.regs, host := t.host, pwm := t.pwm, cap := t.cap, clk := { u.clk with fresh := t.clk.fresh } } ∧
      (∀ m, m ≠ n.val → t.slot m = s.slot m) ∧ ∀ a, (a < 0x8000 + 0x100 * n.val ∨ 0x8100 + 0x100 * n.val ≤ a) → t.reg a = s.reg a
    -- the slot's own engine drives it, or in SERVICE the host, whose write in the cycle of an engine's is lost (R264)
    let own : Prop := who.map (·.val) = some n.val ∨
      (who = none ∧ s.ready = true ∧ s.mode = mService ∧ u.clk.engWrote.contains (A.pwmSlotCommit n.val) = false)
    let q := x.pair p.val
    let free := s.getB (F.pwmSlotCfg_TB n.val)
    let live : Prop := s.frozen n.val = false
    (own → ∃ t, exec (.pwmCommit who n cyc) s = .next t ∧
      t = { u with pwm := t.pwm, clk := { u.clk with engWrote := t.clk.engWrote } } ∧ (∀ m, m ≠ n.val → t.slot m = s.slot m) ∧
      t.slot n.val = { x with commit := (t.slot n.val).commit, committed := true } ∧ ∃ c, (t.slot n.val).commit = some c ∧
        c.a = (List.range 4).map (fun j => s.get (F.pwmSlotCmpa_CMPA n.val j)) ∧
        c.b = (List.range 4).map (fun j => s.get (F.pwmSlotCmpb_CMPB n.val j)) ∧ c.made = now ∧ c.due = now + 2 * s.clk.incr ∧ c.wrote = x.staged ∧
        c.per = (if free = true ∧ s.get (F.pwmSlotPer_PER n.val) ≠ s.get (F.pwmSlotPerAct_PER_ACT n.val) then
          some (s.get (F.pwmSlotPer_PER n.val)) else none) ∧ (x.committed = false → c.meas = some x.tEnd)) ∧
    (∀ e : Fin 38, e.val ≠ n.val → ∃ t, exec (.pwmCommit (some e) n cyc) s = .next t ∧
      t = { u with spar := t.spar } ∧ (t.eng e.val).set'.sticky = (s.eng e.val).set'.sticky ||| 32 ∧ ∀ i, i ≠ e.val → t.eng i = s.eng i) ∧
    ((who = none ∧ (s.ready = false ∨ s.mode ≠ mService)) → exec (.pwmCommit who n cyc) s = .next u) ∧
    (∀ c, x.commit = some c → s.getB (F.pwmSlotCfg_TAKE n.val) = true → c.per = none → live →
      (c.due ≤ now → ∃ t, exec (.pwmCommitEffect n cyc) s = .next t ∧ slotOnly t ∧ (t.slot n.val).commit = none ∧
        t.get (F.pwmSlotCmpaAct_CMPA_ACT n.val p.val) = min (s.periodOf n.val) (c.a.getD p.val 0) % 2 ^ 32 ∧
        t.get (F.pwmSlotCmpbAct_CMPB_ACT n.val p.val) = min (s.periodOf n.val) (c.b.getD p.val 0) % 2 ^ 32 ∧
        (∀ t0, c.meas = some t0 → s.getB (F.pwmSlotStatus_SAFE n.val) = false →
          t.get (F.pwmSlotDlyLast_DLY_LAST n.val) = (now - t0) / 2 ^ 24 % 2 ^ 32 ∧
          t.get (F.pwmSlotCounts_UPD n.val) = (s.get (F.pwmSlotCounts_UPD n.val) + 1) % 2 ^ 16)) ∧
      (now < c.due → exec (.pwmCommitEffect n cyc) s = .next u)) ∧
    -- the boundaries: of a free slot a period after the last one, of a locked slot on sub-tick boundaries
    (free = true → u.carrierAt n.val false = (if s.getB (F.pwmSlotCtrl_RUN n.val) = true ∧ x.start + s.periodOf n.val * euFx < now + s.clk.incr
      then some (x.start + s.periodOf n.val * euFx) else none)) ∧
    (∀ t0, free = false → u.carrierAt n.val false = some t0 → ∃ i, i < s.subN n.val ∧ u.subCycle n.val i = cyc ∧
      t0 = s.tickNo * (s.ftNs * 2 ^ 32) + i * (s.ftNs * 2 ^ 32) / s.subN n.val ∧
      (s.getB (F.pwmSlotCfg_DBL n.val) = true → (s.tickNo * s.subN n.val + i) % 2 = 0)) ∧
    (s.frozen n.val = true ∨ u.carrierAt n.val false = none → exec (.pwmPeriodBoundary n cyc) s = .next u) ∧
    (s.frozen n.val = true ∨ u.carrierAt n.val true = none → exec (.pwmMidPeriod n cyc) s = .next u) ∧
    (∀ t0, u.carrierAt n.val false = some t0 → live → s.getB (F.pwmSlotCtrl_RUN n.val) = true → x.commit = none →
      (s.get (F.pwmSlotPerAct_PER_ACT n.val) = 0 ∨ s.get (F.pwmSlotPerAct_PER_ACT n.val) = s.periodOf n.val) →
      let per := s.periodOf n.val
      let a := min per (s.get (F.pwmSlotCmpaAct_CMPA_ACT n.val p.val))
      let b := min per (s.get (F.pwmSlotCmpbAct_CMPB_ACT n.val p.val))
      let mode := s.outMode n.val p.val
      let tau := if s.getB (F.pwmSlotCfg_CARRIER n.val) then a else if a ≤ b then b - a else per - (a - b)
      let tpMin := s.get (F.pwmSlotTiming_MIN_ON n.val) + (if mode = 0 then s.get (F.pwmSlotTiming_DEAD n.val) else 0)
      let w : Int := tau + (BitVec.ofNat 32 (s.get (F.pwmSlotResidue_RESIDUE n.val p.val))).toInt
      ∃ t, exec (.pwmPeriodBoundary n cyc) s = .next t ∧ slotOnly t ∧ t.getB (F.pwmSlotStatus_SAFE n.val) = false ∧
        t.get (F.pwmSlotPerAct_PER_ACT n.val) = per ∧ (t.slot n.val).start = t0 ∧ (t.slot n.val).pulsing = true ∧
        (mode < 2 → t.reg (A.pwmSlotResidue n.val p.val) =
            BitVec.ofInt 32 (if w < tpMin then w else if (per : Int) - w < tpMin then w - per else 0) ∧
          ((t.slot n.val).pair p.val).pulse = (if w < tpMin then .none else if (per : Int) - w < tpMin then .whole else .width))) ∧
    (live → x.pulsing = true →
      (∀ t0, q.rise = some t0 → t0 < now + s.clk.incr → q.on = false → ∃ t, exec (.pwmEdge n p true cyc) s = .next t ∧ slotOnly t ∧
        let early := match q.low with | some f => decide (f < t0 ∧ t0 < f + s.minOnFx n.val) | none => false
        let off := match q.low with | some f => if early then f + s.minOnFx n.val else t0 | none => t0
        let q' := (t.slot n.val).pair p.val
        q'.on = true ∧ q'.rise = none ∧ q'.low = none ∧ q'.high = some (off + if s.outMode n.val p.val = 0 then s.deadFx n.val else 0) ∧
        (early = true → t.getB (F.pwmSlotStatus_MINON_EXT n.val) = true)) ∧
      (∀ t0, q.fall = some t0 → t0 < now + s.clk.incr → q.on = true → ∃ t, exec (.pwmEdge n p false cyc) s = .next t ∧ slotOnly t ∧
        let early := match q.high with | some f => decide (f < t0 ∧ t0 < f + s.minOnFx n.val) | none => false
        let off := match q.high with | some f => if early then f + s.minOnFx n.val else t0 | none => t0
        let q' := (t.slot n.val).pair p.val
        q'.on = false ∧ q'.fall = none ∧ q'.high = none ∧
        q'.low = (if s.outMode n.val p.val = 0 then some (off + s.deadFx n.val) else none) ∧
        (early = true → t.getB (F.pwmSlotStatus_MINON_EXT n.val) = true)) ∧
      (q.rise = none → exec (.pwmEdge n p true cyc) s = .next u) ∧
      (∀ t0, q.rise = some t0 → now + s.clk.incr ≤ t0 → exec (.pwmEdge n p true cyc) s = .next u) ∧
      (∀ t0, q.fall = some t0 → now + s.clk.incr ≤ t0 → exec (.pwmEdge n p false cyc) s = .next u)) ∧
    (free = true → u.carrierAt n.val true = (if s.getB (F.pwmSlotCtrl_RUN n.val) = true ∧ x.start + s.periodOf n.val * euFx / 2 < now + s.clk.incr
      then some (x.start + s.periodOf n.val * euFx / 2) else none)) ∧
    (∀ t0, u.carrierAt n.val true = some t0 → live → s.getB (F.pwmSlotCfg_DBL n.val) = false → ∃ t, exec (.pwmMidPeriod n cyc) s = .next t ∧
      t = { u with pwm := t.pwm, cap := t.cap } ∧ (∀ m, m ≠ n.val → t.slot m = s.slot m) ∧ (t.slot n.val).tEnd = x.tEnd ∧
      (t.slot n.val).commit = x.commit) ∧
    (∀ t0, u.carrierAt n.val true = some t0 → live → free = true → s.getB (F.pwmSlotCfg_DBL n.val) = true → x.commit = none → ∃ t,
      exec (.pwmMidPeriod n cyc) s = .next t ∧ slotOnly t ∧
      (t.slot n.val).tPrev = x.tEnd ∧ (t.slot n.val).tEnd = now ∧ (t.slot n.val).committed = false ∧
      t.get (F.pwmSlotCounts_NO_UPD n.val) = (if x.committed = false ∧ s.getB (F.pwmSlotStatus_SAFE n.val) = false then
        min (s.get (F.pwmSlotCounts_NO_UPD n.val) + 1) 65535 else s.get (F.pwmSlotCounts_NO_UPD n.val)))

/-- R311 to R316: running, safe levels and fault inputs (spec/08_pwm.md). -/
def Obligations.PwmFaults : Prop :=
  ∀ (who : Option (Fin 38)) (n : Fin 24) (f : Fin 8) (cyc : Nat) (s : State), s.slotPresent n.val = true →
    let u := s.atCyc cyc
    -- the slot's own engine drives it, or in SERVICE the host, whose write in the cycle of an engine's is lost (R264)
    let own : Prop := who.map (·.val) = some n.val ∨
      (who = none ∧ s.ready = true ∧ s.mode = mService ∧ u.clk.engWrote.contains (A.pwmSlotCtrl n.val) = false)
    -- nothing of the other slots, and of the registers none but those that RUN and the safe levels take in
    let slotOnly (t : State) : Prop := t = { u with regs := t.regs, pwm := t.pwm, clk := { u.clk with engWrote := t.clk.engWrote } } ∧
      (∀ m, m ≠ n.val → t.slot m = s.slot m) ∧
      ∀ a, a ≠ A.pwmSlotCtrl n.val → a ≠ A.pwmSlotStatus n.val → (∀ p, p < 4 → a ≠ A.pwmSlotResidue n.val p) → t.reg a = s.reg a
    let latch := s.getB (F.pwmSlotStatus_FLT_LATCH n.val)
    let may : Prop := latch = false ∧ s.getB (F.pwmSlotStatus_CAL_FAULT n.val) = false ∧
      s.mode ∉ [mReset, mCalibrate, mSto, mThermal, mQuarantine] ∧ s.getB F.pwtThermStatus_TRIP = false ∧
      s.getB (F.pwmSlotStatus_FLT_ACTIVE n.val) = false ∧ (s.slot n.val).excepted = false
    let run (t : State) : Bool := t.getB (F.pwmSlotCtrl_RUN n.val)
    let safe (t : State) : Prop := run t = false ∧ t.getB (F.pwmSlotStatus_SAFE n.val) = true ∧ (t.slot n.val).pulsing = false ∧
      ∀ p, p < 4 → t.reg (A.pwmSlotResidue n.val p) = 0
    let mapped := (s.get (F.pwmSlotCfg_FLT_MASK n.val)).testBit f.val
    (own →
      (may → ∃ t, exec (.pwmRunSet who n cyc) s = .next t ∧ run t = true ∧ slotOnly t ∧
        (run s = false → s.getB (F.pwmSlotCfg_TB n.val) = true → (t.slot n.val).start = (s.atCyc cyc).nowFx)) ∧
      (¬ may → ∃ t, exec (.pwmRunSet who n cyc) s = .next t ∧ slotOnly t ∧ t.pwm = s.pwm ∧ t.regs = s.regs) ∧
      (run s = true → ∃ t, exec (.pwmRunClear who n cyc) s = .next t ∧ safe t ∧ slotOnly t) ∧
      (run s = false → ∃ t, exec (.pwmRunClear who n cyc) s = .next t ∧ slotOnly t ∧ t.pwm = s.pwm ∧ t.regs = s.regs)) ∧
    ((who = none ∧ (s.ready = false ∨ s.mode ≠ mService)) → exec (.pwmRunSet who n cyc) s = .next u ∧ exec (.pwmRunClear who n cyc) s = .next u) ∧
    (∃ t, exec (.pwmFault f cyc) s = .next t ∧ (t.get F.pwmFltState_LEVEL).testBit f.val = true ∧
      (t.get F.pwmFltState_SEEN).testBit f.val = true ∧
      (mapped = true → t.getB (F.pwmSlotStatus_FLT_ACTIVE n.val) = true ∧ t.getB (F.pwmSlotStatus_FLT_LATCH n.val) = true ∧
        (latch = false → safe t ∧ (n.val < 24 → (t.axis n.val).faulted = true)))) ∧
    (∃ t, exec (.faultInputHigh f cyc) s = .next t ∧ (t.get F.pwmFltState_LEVEL).testBit f.val = false ∧
      (∀ g, g < 8 → g ≠ f.val → (t.get F.pwmFltState_LEVEL).testBit g = (s.get F.pwmFltState_LEVEL).testBit g) ∧
      t.getB (F.pwmSlotStatus_FLT_LATCH n.val) = latch ∧
      t.getB (F.pwmSlotStatus_FLT_ACTIVE n.val) =
        (List.range 8).any (fun g => decide (g ≠ f.val ∧ (s.get (F.pwmSlotCfg_FLT_MASK n.val)).testBit g = true ∧
          (s.get F.pwmFltState_LEVEL).testBit g = true))) ∧
    (s.ready = false ∨ s.clk.engWrote.contains (A.pwmSlotStatus n.val) = true → exec (.fltLatchClear n) s = .next s) ∧
    (s.ready = true → s.clk.engWrote.contains (A.pwmSlotStatus n.val) = false → s.spared (A.pwmSlotStatus n.val) 2 = 2 →
      ∃ t, exec (.fltLatchClear n) s = .next t ∧ (s.fltLow n.val = true → t = s) ∧
      (s.fltLow n.val = false → t.getB (F.pwmSlotStatus_FLT_LATCH n.val) = false ∧
        t.get (F.pwmSlotStatus_SAFE n.val) = s.get (F.pwmSlotStatus_SAFE n.val) ∧ t = { s with regs := t.regs } ∧
        ∀ a, a ≠ A.pwmSlotStatus n.val → t.reg a = s.reg a))

/-- R324 to R341: triggers, conversions and held configuration (spec/09_converters.md). Instants are in units of 2^-32 ns. -/
def Obligations.AdcTriggers : Prop :=
  ∀ (who : Option (Fin 38)) (c : Fin 32) (cyc : Nat) (s : State), c.val / 2 < s.get F.adcInfo_PAIRS →
    let u := s.atCyc cyc
    let j := c.val / 2
    let x := s.conv c.val
    let now := u.nowFx
    let ilv := s.getB (F.adcPairCfg_ILV j)
    let lead := if ilv then j * 2 else c.val
    let mode := s.get (F.adcConvCfg_MODE lead)
    let acq := s.get (F.adcConvCfg_ACQ lead)
    let ok (m : Nat) : Prop := mode ≠ 0 ∧ s.getB (F.adcConvStatus_DIAG_FAULT m) = false ∧ s.getB (F.adcPairStatus_CAL_FAULT j) = false
    -- nothing but the pair's status, its counts and the converters' own state differs
    let only (t : State) : Prop := t = { u with
        regs := t.regs, adc := t.adc, clk := { u.clk with fresh := t.clk.fresh, engWrote := t.clk.engWrote } } ∧
      t.adc = { s.adc with convs := t.adc.convs } ∧ (∀ m : Fin 32, m.val / 2 ≠ j → t.conv m.val = s.conv m.val) ∧
      ∀ a, (∀ m : Fin 32, m.val / 2 = j → a ≠ A.adcConvStatus m.val ∧ a ≠ A.adcConvCounts m.val) → t.reg a = s.reg a
    -- what a trigger whose acquisition starts at `at'` does to converter m
    let takes (m at' : Nat) (t : State) : Prop :=
      let y := s.conv m
      let busy : Prop := y.running = true ∨ y.deferred = true
      let same : Prop := t.conv m = y ∧ t.reg (A.adcConvStatus m) = s.reg (A.adcConvStatus m) ∧
        t.reg (A.adcConvCounts m) = s.reg (A.adcConvCounts m)
      (¬ ok m → same) ∧
      (ok m → busy → (y.arrived = now ∨ (y.running = true ∧ mode = 2)) → same) ∧
      (ok m → busy → ¬ (y.arrived = now ∨ (y.running = true ∧ mode = 2)) → t.conv m = y ∧
        t.getB (F.adcConvStatus_LOST m) = true ∧
        t.get (F.adcConvCounts_TRIG_LOST m) = min (s.get (F.adcConvCounts_TRIG_LOST m) + 1) 65535) ∧
      (ok m → ¬ busy → y.injecting = true → t.conv m = { y with deferred := true, arrived := now, start := at' } ∧
        t.getB (F.adcConvStatus_DEFER m) = true ∧ t.getB (F.adcConvStatus_BUSY m) = true) ∧
      (ok m → ¬ busy → y.injecting = false → t.conv m = { y with running := true, arrived := now, start := at', entry := 0 } ∧
        t.getB (F.adcConvStatus_BUSY m) = true ∧ t.reg (A.adcConvCounts m) = s.reg (A.adcConvCounts m))
    let takesNone (t : State) : Prop := t.regs = s.regs ∧ t.adc = s.adc
    let trig (at' : Nat) (t : State) : Prop := only t ∧
      (ilv = false → takes c.val at' t ∧ ∀ m : Fin 32, m.val / 2 = j → m ≠ c → t.conv m.val = s.conv m.val ∧
        t.reg (A.adcConvStatus m.val) = s.reg (A.adcConvStatus m.val)) ∧
      (ilv = true → c.val % 2 = 1 → takesNone t) ∧
      (ilv = true → c.val % 2 = 0 → takes c.val at' t ∧ takes (c.val + 1) (at' + (acq + 25) / 2 * s.clk.incr) t)
    let src := s.get (F.adcConvTrig_SRC c.val)
    let per := s.get (F.adcConvTimer_PERIOD c.val)
    let ph := s.get (F.adcConvTimer_PHASE c.val)
    let ev := s.get (F.adcConvTrig_EVENT c.val)
    -- GO by the host, or by an engine that owns the inputs
    (who = none → s.ready = true → u.clk.engWrote.contains (A.adcConvSwtrig c.val) = false →
      ∃ t, exec (.adcSoftwareTrigger none c cyc) s = .next t ∧ trig now t) ∧
    (s.ready = false ∨ u.clk.engWrote.contains (A.adcConvSwtrig c.val) = true →
      exec (.adcSoftwareTrigger none c cyc) s = .next u) ∧
    (∀ e : Fin 38, who = some e →
      (s.ioMay e.val (A.adcConvSwtrig c.val) = true → ∃ t, exec (.adcSoftwareTrigger (some e) c cyc) s = .next t ∧ trig now t) ∧
      (s.ioMay e.val (A.adcConvSwtrig c.val) = false →
        ∃ t, exec (.adcSoftwareTrigger (some e) c cyc) s = .next t ∧ t = u.updEng e.val (fun y => y.updSet (fun r => { r with sticky := r.sticky ||| 2 ^ 5 })))) ∧
    -- the timer; one whose period is 0 fires at PHASE only
    (src = 1 → ph ≤ cyc → (cyc - ph) % per = 0 → ∃ t, exec (.adcTimerTrigger c cyc) s = .next t ∧ trig now t) ∧
    (¬ (src = 1 ∧ ph ≤ cyc ∧ (cyc - ph) % per = 0) → exec (.adcTimerTrigger c cyc) s = .next u) ∧
    -- the PWM event of EVENT, in the cycle of the first clock edge at or after it
    (let te := Table.look none (s.slot (ev / 8)).events (ev % 8)
     let edge (e : Nat) := s.clk.clk + (e - s.clk.clk + s.clk.incr - 1) / s.clk.incr * s.clk.incr
     (∀ e, te = some e → src = 2 → edge e = now → ∃ t, exec (.adcEventTrigger c cyc) s = .next t ∧
        trig (now + s.get (F.adcConvTrig_DELAY c.val) * s.clk.incr) t) ∧
     ((src ≠ 2 ∨ te = none ∨ ∀ e, te = some e → edge e ≠ now) → exec (.adcEventTrigger c cyc) s = .next u)) ∧
    -- a conversion of the sequence completes
    (let conv := x.start + acq * s.clk.incr
     let done := conv + 25 * s.clk.incr
     (∀ code : Int, ok c.val → x.running = true → x.injecting = false → x.inject = none → done ≤ now → x.entry < 8 →
      let word := (s.reg (A.adcConvSeq lead (x.entry / 4))).toNat / 256 ^ (x.entry % 4) % 256
      let k := j * 6 + min 5 (word % 8)
      let y := s.ain false k
      let v := clampI (-32768) 32767 code
      let si := Table.look 0 x.settleIn k
      let se := Table.look 0 x.settleEnt x.entry
      let ovl := s.mode = mCalibrate ∨ s.mode = mService ∨ s.getB (F.adcAinStatus_RECOVERY k) = true
      let tag := if si ≠ 0 ∨ se ≠ 0 then 1 else if v ≠ code ∧ ovl then 2 else 0
      let last := ilv = true ∨ s.get (F.adcConvCfg_LEN c.val) ≤ x.entry
      let more (g : Segment) : Segment := if tag = 1 then g
        else { g with sum := satI 32 (g.sum + v), cnt := g.cnt + 1, clip := g.clip || decide (v ≠ code) }
      ∃ t, exec (.adcResult c code cyc) s = .next t ∧
        t.get (F.adcAinRes_CODE k) = wrapN 16 v ∧ t.get (F.adcAinRes_TAG k) = tag ∧
        t.get (F.adcAinRes_SEQ k) = (s.get (F.adcAinRes_SEQ k) + 1) % 2 ^ 14 ∧
        t.reg (A.adcAinTime k) = BitVec.ofNat 32 (conv / 2 ^ 32) ∧
        t.get (F.adcConvCounts_CONVS c.val) = (s.get (F.adcConvCounts_CONVS c.val) + 1) % 2 ^ 16 ∧
        t.get (F.adcConvCounts_TRIG_LOST c.val) = s.get (F.adcConvCounts_TRIG_LOST c.val) ∧
        t.getB (F.adcAinStatus_CLIP k) = (s.getB (F.adcAinStatus_CLIP k) || decide (v ≠ code)) ∧
        (y.closed.findIdx? (fun g => decide (conv ≤ g.at')) = none →
          (t.ain false k).seg = more y.seg ∧ (t.ain false k).closed = y.closed) ∧
        (∀ p, y.closed.findIdx? (fun g => decide (conv ≤ g.at')) = some p →
          (t.ain false k).seg = y.seg ∧ (t.ain false k).closed = y.closed.set p (more (y.closed.getD p {}))) ∧
        Table.look 0 (t.conv c.val).settleIn k = si - 1 ∧ Table.look 0 (t.conv c.val).settleEnt x.entry = se - 1 ∧
        (¬ last → (t.conv c.val).running = true ∧ (t.conv c.val).entry = x.entry + 1 ∧ (t.conv c.val).start = done) ∧
        (last → mode ≠ 2 → (t.conv c.val).running = false ∧ t.getB (F.adcConvStatus_BUSY c.val) = false) ∧
        (last → mode = 2 → (t.conv c.val).running = true ∧ (t.conv c.val).entry = 0 ∧ (t.conv c.val).start = done) ∧
        (∀ m : Fin 32, m ≠ c → t.conv m.val = s.conv m.val) ∧
        ∀ m, m < 96 → m ≠ k → t.ain false m = s.ain false m ∧
          ∀ o, o < 8 → t.reg (0xA600 + 0x20 * m + 4 * o) = s.reg (0xA600 + 0x20 * m + 4 * o)) ∧
     (¬ (ok c.val ∧ (x.running = true ∨ x.injecting = true) ∧ done ≤ now) →
      ∀ code : Int, exec (.adcResult c code cyc) s = .next u) ∧
     -- the last entry in MODE 1 with a test conversion waiting: the injection follows at once
     (∀ i, x.inject = some i → ∀ code : Int, ok c.val → x.running = true → x.injecting = false → done ≤ now →
      mode ≠ 2 → ilv = false → s.get (F.adcConvCfg_LEN c.val) ≤ x.entry → ∃ t, exec (.adcResult c code cyc) s = .next t ∧
        (t.conv c.val).running = false ∧ (t.conv c.val).injecting = true ∧ (t.conv c.val).start = done ∧
        (t.conv c.val).inject = some i)) ∧
    -- the held configuration: here one write to TIMER that waits
    (let pass : Prop := mode = 2 ∧ x.entry = 0 ∧ x.start ≤ now ∧ now < x.start + s.clk.incr
     let apply : Prop := (x.running = false ∨ pass) ∧ x.injecting = false
     (∀ v : W32, x.pend = [(A.adcConvTimer c.val, v)] → apply → ∃ t, exec (.adcCfgApply c cyc) s = .next t ∧
      t.reg (A.adcConvTimer c.val) = v ∧ (t.conv c.val) = { x with pend := [] } ∧
      t.getB (F.adcConvStatus_CFG_PEND c.val) = false ∧ t = { u with regs := t.regs, adc := t.adc } ∧
      (∀ m : Fin 32, m ≠ c → t.conv m.val = s.conv m.val) ∧
      ∀ a, a ≠ A.adcConvTimer c.val → a ≠ A.adcConvStatus (2 * j) → a ≠ A.adcConvStatus (2 * j + 1) →
        a ≠ A.adcPairStatus j → t.reg a = s.reg a) ∧
     (x.pend = [] ∨ ¬ apply → exec (.adcCfgApply c cyc) s = .next u))

/-- R325 to R347: inputs, sums, diagnosis and channel faults (spec/09_converters.md). Instants are in units of 2^-32 ns. -/
def Obligations.AdcChannels : Prop :=
  ∀ (d : Desc) (who : Option (Fin 38)) (sdi : Bool) (k : Fin 96) (i : Fin 48) (j : Fin 16) (c : Fin 32) (cyc : Nat) (s : State),
    let u := s.atCyc cyc
    let now := u.nowFx
    let window := now + 100000000 * 2 ^ 32
    let kind := d.fb 1 16
    let b := d.f 1 15 8
    let e0 := d.f 1 29 24
    let e := if e0 ≤ 33 ∨ e0 = 35 then e0 else 35
    let here : Prop := (kind = true ∧ b < 48) ∨ (kind = false ∧ b < s.get F.adcInfo_AINS)
    let may : Prop := (e < 24 ∧ e < s.slots) ∨ e = 35 ∨ (kind = false ∧ 24 ≤ e ∧ e ≤ 33)
    let there : Prop := (sdi = true ∧ k.val < 48) ∨ (sdi = false ∧ k.val < s.get F.adcInfo_AINS)
    let y := s.ain sdi k.val
    let x := s.ain true i.val
    let pairs := s.get F.adcInfo_PAIRS
    let lead (m : Nat) := if s.getB (F.adcPairCfg_ILV (m / 2)) then m / 2 * 2 else m
    let mode (m : Nat) := s.get (F.adcConvCfg_MODE (lead m))
    let ok (m : Nat) : Prop := m / 2 < pairs ∧ mode m ≠ 0 ∧
      s.getB (F.adcConvStatus_DIAG_FAULT m) = false ∧ s.getB (F.adcPairStatus_CAL_FAULT (m / 2)) = false
    -- nothing but registers and the inputs' own state differs; of the registers, those listed
    let regsOnly (l : List Nat) (t : State) : Prop := ∀ a, a ∉ l → t.reg a = s.reg a
    -- a register write that its owner sends is taken (R264): the engine's own, or the host's where no engine writes in the same cycle
    let taken (a : Nat) : Prop := (who = none ∧ s.ready = true ∧ u.clk.engWrote.contains a = false) ∨
      ∃ e, who = some e ∧ s.ioMay e.val a = true
    let refused (i : Instr) (a : Nat) : Prop :=
      (who = none → (s.ready = false ∨ u.clk.engWrote.contains a = true) → exec i s = .next u) ∧
      ∀ e : Fin 38, who = some e → s.ioMay e.val a = false →
        exec i s = .next (u.updEng e.val (fun y => y.updSet (fun r => { r with sticky := r.sticky ||| 2 ^ 5 })))
    -- INPUT_BIND
    (Accepts s 0x0600 d →
      let why := if ¬ here then 1 else if s.inInUse kind b = true then 2 else if ¬ may then 3 else 0
      ∃ t, Answers (.inputBind d) d s t (decide (why ≠ 0)) (why * 2 ^ 24) ∧ OnlyRing d s t [] ∧
        t = { s with regs := t.regs, host := t.host, hostMem := t.hostMem } ∧
        t.heldBy (if kind then 1 else 0) b = (if why = 0 then e else s.heldBy (if kind then 1 else 0) b) ∧
        ∀ m n, (m ≠ (if kind then 1 else 0) ∨ n ≠ b) → t.heldBy m n = s.heldBy m n) ∧
    -- a word of a sigma-delta input
    (let on : Prop := s.getB (F.adcSdiCfg_EN i.val) = true ∧ (s.get F.adcSdclkCfg_OFF).testBit (i.val / 4) = false
     ∀ (value : Int) (run : Nat),
      let span := (if s.getB (F.adcSdiCfg_ORDER i.val) then 4 else 3) * 16 * 2 ^ s.get (F.adcSdiCfg_OSR i.val)
      let bit := if (s.get F.adcSdclkCfg_DIV).testBit (i.val / 4) then 40 else 20
      let mid := now - 200 * s.clk.incr - span * bit * s.clk.incr / 2
      let v := clampI (-8388608) 8388607 value
      let exceeds : Bool := decide (s.get (F.adcSdiCfg_OVL_RUN i.val) ≤ run)
      let tag := if x.settle ≠ 0 then 1
        else if exceeds = true ∧ (s.mode = mCalibrate ∨ s.mode = mService ∨ s.getB (F.adcSdiStatus_RECOVERY i.val) = true) then 2 else 0
      let more (g : Segment) : Segment := if tag = 1 then g
        else { g with sum := satI 32 (g.sum + v / 256), cnt := g.cnt + 1, clip := g.clip || exceeds }
      (on → ∃ t, exec (.sdiWord i value run cyc) s = .next t ∧ t.get (F.adcSdiRes_VALUE i.val) = wrapN 24 v ∧
        t.get (F.adcSdiRes_TAG i.val) = tag ∧ t.get (F.adcSdiRes_SEQ i.val) = (s.get (F.adcSdiRes_SEQ i.val) + 1) % 64 ∧
        t.reg (A.adcSdiTime i.val) = BitVec.ofNat 32 (mid / 2 ^ 32) ∧
        t.getB (F.adcSdiStatus_CLIP i.val) = (s.getB (F.adcSdiStatus_CLIP i.val) || exceeds) ∧
        (t.ain true i.val).settle = x.settle - 1 ∧
        (x.closed.findIdx? (fun g => decide (mid ≤ g.at')) = none →
          (t.ain true i.val).seg = more x.seg ∧ (t.ain true i.val).closed = x.closed) ∧
        (∀ p, x.closed.findIdx? (fun g => decide (mid ≤ g.at')) = some p →
          (t.ain true i.val).seg = x.seg ∧ (t.ain true i.val).closed = x.closed.set p (more (x.closed.getD p {}))) ∧
        t = { u with regs := t.regs, adc := t.adc, spar := t.spar, host := t.host, clk := { u.clk with fresh := t.clk.fresh } } ∧
        t.adc = { s.adc with sdis := t.adc.sdis, inrdyDone := t.adc.inrdyDone } ∧
        (∀ m : Fin 48, m ≠ i → t.ain true m.val = s.ain true m.val) ∧
        regsOnly [A.adcSdiRes i.val, A.adcSdiTime i.val, A.adcSdiStatus i.val] t) ∧
      (¬ on → exec (.sdiWord i value run cyc) s = .next u)) ∧
    -- its stuck line
    (s.getB (F.adcSdiCfg_EN i.val) = false → exec (.sdiStuck i cyc) s = .next u) ∧
    (s.getB (F.adcSdiCfg_EN i.val) = true →
      ∃ t, exec (.sdiStuck i cyc) s = .next t ∧ t.getB (F.adcSdiStatus_STUCK i.val) = true ∧
        t.getB (F.adcSdiStatus_FAULT i.val) = true ∧ t.ain true i.val = { x with toggled := false } ∧
        (∀ m : Fin 48, m ≠ i → t.ain true m.val = s.ain true m.val) ∧
        (s.getB (F.adcSdiStatus_FAULT i.val) = true → t = { u with
          regs := t.regs, adc := t.adc, host := t.host, clk := { u.clk with fresh := t.clk.fresh } } ∧
          regsOnly [A.adcSdiStatus i.val] t) ∧
        (s.getB (F.adcSdiStatus_FAULT i.val) = false →
          (∀ a : Fin 24, (s.axisL a.val).cfg.sdi = true →
            (s.axisL a.val).cfg.inA = i.val ∨ (s.axisL a.val).cfg.inB = i.val ∨
              ((s.axisL a.val).cfg.kind ≠ 1 ∧ (s.axisL a.val).cfg.inC = i.val) → (t.axis a.val).faulted = true) ∧
          (s.host.evBuf.length < 256 →
            ∃ r, (t.host.evBuf.drop s.host.evBuf.length)[0]? = some r ∧ r.code = 0x0603 ∧ r.sev = sevFault ∧
              r.data = BitVec.ofNat 16 (0x6100 + i.val) ∧ r.payload.setWidth 16 = 0xFF02))) ∧
    -- publication of a segment
    (there →
      let runs : Prop := s.getB (F.adcSdiCfg_EN k.val) = true ∧ (s.get F.adcSdclkCfg_OFF).testBit (k.val / 4) = false
      let grid := 16 * 2 ^ s.get (F.adcSdiCfg_OSR k.val) * (if (s.get F.adcSdclkCfg_DIV).testBit (k.val / 4) then 40 else 20) * s.clk.incr
      let due (at' : Nat) : Prop := (sdi = false ∧ at' + 120 * s.clk.incr ≤ now) ∨
        (sdi = true ∧ (¬ runs ∨ y.last = 0 ∨ at' < y.last + grid))
      (∀ g, y.closed.head? = some g → due g.at' →
        let a := inSeg0 sdi k.val
        ∃ t, exec (.segmentPublish sdi k cyc) s = .next t ∧ t.reg a = BitVec.ofInt 32 g.sum ∧ t.reg (a + 4) = s.reg a ∧
          t.reg (a + 8) = BitVec.ofNat 32 (bits (s.reg (a + 8)) 15 0 * 65536 + g.cnt % 65536) ∧
          t.reg (a + 12) = BitVec.ofNat 32 (g.at' / 2 ^ 32) ∧
          t.ain sdi k.val = { y with closed := y.closed.tail, published := g.at', clip1 := y.clip0, clip0 := g.clip } ∧
          t = { u with regs := t.regs, adc := t.adc, spar := t.spar } ∧
          (∀ m : Fin 96, m ≠ k → t.ain sdi m.val = s.ain sdi m.val) ∧ regsOnly [a, a + 4, a + 8, a + 12] t) ∧
      ((∀ g, y.closed.head? = some g → ¬ due g.at') → exec (.segmentPublish sdi k cyc) s = .next u)) ∧
    (¬ there → exec (.segmentPublish sdi k cyc) s = .next u) ∧
    -- a test conversion falls due
    (let z := Table.look {} s.adc.diags j.val
     let turn := 2 * j.val + if z.odd then 1 else 0
     let other := 2 * j.val + if z.odd then 0 else 1
     let m := if s.convOk turn then turn else other
     let n := (if m % 2 = 0 then z.entry0 else z.entry1) % ((if s.getB (F.adcPairCfg_ILV j.val) then 0 else s.get (F.adcConvCfg_LEN m)) + 1)
     let per := s.get (F.adcPairCfg_DIAG_PERIOD j.val)
     let due : Prop := j.val < pairs ∧ s.getB (F.adcPairStatus_DIAG_OFF j.val) = false ∧ 0 < per ∧ per ≤ z.ticks
     (due → ∃ t, exec (.diagInjection j cyc) s = .next t ∧ t = { u with adc := t.adc } ∧
        t.adc = { s.adc with convs := t.adc.convs, diags := t.adc.diags } ∧
        Table.look {} t.adc.diags j.val = {
          ticks := 0, odd := decide (m % 2 = 0), level := (z.level + 1) % 4
          entry0 := if m % 2 = 0 then n + 1 else z.entry0
          entry1 := if m % 2 = 1 then n + 1 else z.entry1 } ∧
        (∀ q : Fin 16, q ≠ j → Table.look {} t.adc.diags q.val = Table.look {} s.adc.diags q.val) ∧
        t.conv m = { s.conv m with inject := some (n, z.level) } ∧
        ∀ q : Fin 32, q.val ≠ m → t.conv q.val = s.conv q.val) ∧
     (¬ due → exec (.diagInjection j cyc) s = .next u)) ∧
    -- and completes
    (let p := s.conv c.val
     let conv := p.start + s.get (F.adcConvCfg_ACQ (lead c.val)) * s.clk.incr
     let done := conv + 25 * s.clk.incr
     ∀ n, p.inject = some n → ∀ code : Int, p.injecting = true → ok c.val → done ≤ now → n.1 < 8 →
      let w := (s.reg (A.adcConvSeq (lead c.val) (n.1 / 4))).toNat / 256 ^ (n.1 % 4) % 256
      let q := c.val / 2 * 6 + min 5 (w % 8)
      let v := clampI (-32768) 32767 code
      let want : Int := if n.2 % 4 = 0 then -24576 else if n.2 % 4 = 1 then -8192 else if n.2 % 4 = 2 then 8192 else 24576
      let pass : Prop := (v - want).natAbs ≤ s.get (F.adcPairCfg_DIAG_TOL (c.val / 2))
      let streak := if c.val % 2 = 0 then F.adcPairStatus_STREAK0 (c.val / 2) else F.adcPairStatus_STREAK1 (c.val / 2)
      let fails := min 3 (s.get streak + 1)
      ∃ t, exec (.adcResult c code cyc) s = .next t ∧ t.get (F.adcAinRes_CODE q) = wrapN 16 v ∧ t.get (F.adcAinRes_TAG q) = 3 ∧
        t.get (F.adcAinRes_SEQ q) = (s.get (F.adcAinRes_SEQ q) + 1) % 2 ^ 14 ∧
        t.reg (A.adcAinTime q) = BitVec.ofNat 32 (conv / 2 ^ 32) ∧
        t.get (F.adcConvCounts_CONVS c.val) = (s.get (F.adcConvCounts_CONVS c.val) + 1) % 2 ^ 16 ∧
        (t.ain false q).seg = (s.ain false q).seg ∧ (t.ain false q).closed = (s.ain false q).closed ∧
        (t.conv c.val).injecting = false ∧ (t.conv c.val).inject = none ∧
        t.get streak = (if pass then 0 else fails) ∧
        t.get (F.adcPairStatus_FAIL_CNT (c.val / 2)) = (if pass then s.get (F.adcPairStatus_FAIL_CNT (c.val / 2))
          else min (s.get (F.adcPairStatus_FAIL_CNT (c.val / 2)) + 1) 65535) ∧
        t.getB (F.adcPairStatus_FAIL (c.val / 2)) = (s.getB (F.adcPairStatus_FAIL (c.val / 2)) || decide (¬ pass)) ∧
        (¬ pass → s.host.evBuf.length < 256 → ∃ r, (t.host.evBuf.drop s.host.evBuf.length)[0]? = some r ∧ r.code = 0x0602 ∧
          r.sev = sevWarn ∧ r.data = BitVec.ofNat 16 (0x6000 + q) ∧ r.payload.setWidth 8 = BitVec.ofNat 8 c.val ∧
          r.payload.toNat / 2 ^ 16 % 2 ^ 16 = wrapN 16 want ∧ r.payload.toNat / 2 ^ 32 % 2 ^ 16 = wrapN 16 v ∧
          r.payload.toNat / 2 ^ 48 % 2 ^ 8 = fails) ∧
        (pass ∨ fails < 3 →
          t.getB (F.adcConvStatus_DIAG_FAULT c.val) = false ∧
          (p.deferred = true → (t.conv c.val).running = true ∧ (t.conv c.val).deferred = false ∧ (t.conv c.val).entry = 0 ∧
            (t.conv c.val).start = max p.start done) ∧
          (p.deferred = false → mode c.val ≠ 2 → (t.conv c.val).running = p.running ∧ t.getB (F.adcConvStatus_BUSY c.val) = false)) ∧
        (¬ pass → fails = 3 → t.getB (F.adcConvStatus_DIAG_FAULT c.val) = true ∧ (t.conv c.val).running = false ∧
          (t.conv c.val).deferred = false ∧ t.getB (F.adcConvStatus_BUSY c.val) = false ∧
          t.getB (F.adcConvStatus_ACTIVE c.val) = false ∧
          ∀ m ∈ s.convInputs c.val, t.getB (F.adcAinStatus_FAULT m) = true)) ∧
    -- DIAG_FAULT is cleared
    (let a := A.adcConvStatus c.val
     let clears : Prop := c.val / 2 < pairs ∧ s.getB (F.adcConvStatus_DIAG_FAULT c.val) = true ∧ u.spared a 0x100 = 0x100
     let mate := c.val / 2 * 2 + (c.val + 1) % 2
     (taken a → clears →
      ∃ t, exec (.diagFaultClear who c cyc) s = .next t ∧ t.getB (F.adcConvStatus_DIAG_FAULT c.val) = false ∧
        t.getB (F.adcConvStatus_ACTIVE c.val) =
          decide (mode c.val ≠ 0 ∧ s.getB (F.adcPairStatus_CAL_FAULT (c.val / 2)) = false) ∧
        t.adc.convs = s.adc.convs ∧
        (∀ m ∈ s.convInputs c.val, t.getB (F.adcAinStatus_RECOVERY m) = true ∧ (t.ain false m) = { s.ain false m with recover := some window } ∧
          t.getB (F.adcAinStatus_FAULT m) = decide (s.getB (F.adcPairStatus_CAL_FAULT (c.val / 2)) = true ∨
            (s.getB (F.adcConvStatus_DIAG_FAULT mate) = true ∧ m ∈ s.convInputs mate))) ∧
        (∀ m : Fin 96, m.val ∉ s.convInputs c.val → t.ain false m.val = s.ain false m.val ∧
          t.reg (A.adcAinStatus m.val) = s.reg (A.adcAinStatus m.val)) ∧
        t = { u with regs := t.regs, adc := t.adc, clk := { u.clk with engWrote := t.clk.engWrote } }) ∧
     (taken a → ¬ clears → ∃ t, exec (.diagFaultClear who c cyc) s = .next t ∧
        t = { u with clk := { u.clk with engWrote := t.clk.engWrote } }) ∧
     refused (.diagFaultClear who c cyc) a) ∧
    -- STUCK is cleared
    (let a := A.adcSdiStatus i.val
     let clears : Prop := s.getB (F.adcSdiStatus_STUCK i.val) = true ∧ x.toggled = true ∧ u.spared a 4 = 4
     (taken a → clears → ∃ t, exec (.stuckClear who i cyc) s = .next t ∧ t.getB (F.adcSdiStatus_STUCK i.val) = false ∧
        t.getB (F.adcSdiStatus_RECOVERY i.val) = true ∧ t.ain true i.val = { x with recover := some window } ∧
        t.getB (F.adcSdiStatus_FAULT i.val) = s.getB (F.adcSdiStatus_CAL_FAULT i.val) ∧
        t.getB (F.adcSdiStatus_CLIP i.val) = s.getB (F.adcSdiStatus_CLIP i.val) ∧
        (∀ m : Fin 48, m ≠ i → t.ain true m.val = s.ain true m.val) ∧ regsOnly [a] t ∧
        t = { u with regs := t.regs, adc := t.adc, clk := { u.clk with engWrote := t.clk.engWrote } }) ∧
     (taken a → ¬ clears → ∃ t, exec (.stuckClear who i cyc) s = .next t ∧
        t = { u with clk := { u.clk with engWrote := t.clk.engWrote } }) ∧
     refused (.stuckClear who i cyc) a) ∧
    -- a recovery window ends
    (∀ w, there → y.recover = some w → w ≤ now → ∃ t, exec (.recoveryWindowEnd sdi k cyc) s = .next t ∧
      t.getB (inRecovery sdi k.val) = false ∧ t.ain sdi k.val = { y with recover := none } ∧
      t = { u with regs := t.regs, adc := t.adc } ∧ (∀ m : Fin 96, m ≠ k → t.ain sdi m.val = s.ain sdi m.val) ∧
      regsOnly [(inRecovery sdi k.val).a] t) ∧
    ((¬ there ∨ y.recover = none ∨ ∀ w, y.recover = some w → now < w) → exec (.recoveryWindowEnd sdi k cyc) s = .next u)

/-- R353 to R369, R379 and R380: feedback channels in the counting modes (spec/10_feedback_and_latches.md). Instants are in units of
2^-32 ns, speeds in 2^-24 counts/s. -/
def Obligations.Feedback : Prop :=
  ∀ (d : Desc) (who : Option (Fin 38)) (n : Fin 32) (lines : Fin 8) (cyc : Nat) (s : State),
    let x := s.fb n.val
    let u := s.atCyc cyc
    let now := u.nowFx
    let lat := d.fb 1 16
    let b := d.f 1 15 8
    let e0 := d.f 1 29 24
    let e := if e0 ≤ 33 ∨ e0 = 35 then e0 else 35
    let here : Prop := (lat = true ∧ b < 16) ∨ (lat = false ∧ b < 32)
    let may : Prop := (e < 24 ∧ e < s.slots) ∨ 24 ≤ e
    let mode := s.get (F.fbkFbCfg_MODE n.val)
    let en := s.getB (F.fbkFbCtrl_EN n.val)
    let still := s.getB (F.fbkFbStatus_STILL n.val)
    let meth := s.getB (F.fbkFbStatus_METHOD n.val)
    let flt := s.getB (F.fbkFbStatus_FAULT n.val)
    let runs : Prop := en = true ∧ mode ≠ 0 ∧ s.getB (F.fbkFbStatus_CFG_ERR n.val) = false
    let pos (t : State) : W32 := t.reg (A.fbkFbPos n.val)
    let at' := now - (s.get (F.fbkFbCfg_FILT n.val) + 2) * s.clk.incr
    let flag (t : State) (f : Nat → Fld) : Bool := t.getB (f n.val)
    -- nothing but this channel and the registers `l` differs; what waits in a latch for a count, and an event, may
    let only (l : List Nat) (t : State) : Prop := t = { u with regs := t.regs, fbk := t.fbk } ∧
      (∀ m : Fin 32, m ≠ n → t.fb m.val = s.fb m.val) ∧ t.fbk.fbOwner = s.fbk.fbOwner ∧ t.fbk.latOwner = s.fbk.latOwner ∧
      ∀ a, a ∉ l → t.reg a = s.reg a
    let stat := A.fbkFbStatus n.val
    let spd := [A.fbkFbSpeedLo n.val, A.fbkFbSpeedLo n.val + 4]
    -- a register write that its owner sends is taken (R264): the engine's own, or the host's where no engine writes in the same cycle
    let taken (a : Nat) : Prop := (who = none ∧ s.ready = true ∧ u.clk.engWrote.contains a = false) ∨
      ∃ e, who = some e ∧ s.ioMay e.val a = true
    let wrote (t : State) : State := { u with clk := { u.clk with engWrote := t.clk.engWrote } }
    let refused (i : Instr) (a : Nat) : Prop :=
      (who = none → (s.ready = false ∨ u.clk.engWrote.contains a = true) → exec i s = .next u) ∧
      ∀ e : Fin 38, who = some e → s.ioMay e.val a = false →
        exec i s = .next (u.updEng e.val (fun y => y.updSet (fun r => { r with sticky := r.sticky ||| 2 ^ 5 })))
    -- a channel fault: FAULT, the axes whose stages read the channel, and FB_FAULT with its cause and POS
    let faults (cause : Nat) (t : State) : Prop := flag t F.fbkFbStatus_FAULT = true ∧ (flt = false →
      (∀ a : Fin 24, let c := (s.axisL a.val).cfg
        let vel := if c.velFb = 0xFF then c.fbCh else c.velFb
        (c.fbCh = n.val ∨ vel = n.val ∨ (if c.posFb = 0xFF then vel else c.posFb) = n.val) → (t.axis a.val).faulted = true) ∧
      (s.host.evBuf.length < 256 → ∃ r, (t.host.evBuf.drop s.host.evBuf.length)[0]? = some r ∧ r.code = 0x0701 ∧
        r.sev = sevFault ∧ r.data = BitVec.ofNat 16 (0x6200 + n.val) ∧ r.payload.setWidth 8 = BitVec.ofNat 8 cause ∧
        r.payload.toNat / 2 ^ 32 % 2 ^ 32 = (pos s).toNat))
    let near (v num : Int) (den : Nat) : Prop := 0 < den → (v * (den : Int) - num).natAbs < den
    let giga : Int := 1000000000
    -- FEEDBACK_BIND
    (Accepts s 0x0700 d →
      let why := if ¬ here then 1 else if lat = false ∧ s.fbInUse b = true then 2 else if ¬ may then 3 else 0
      let kind := if lat then 3 else 2
      ∃ t, Answers (.feedbackBind d) d s t (decide (why ≠ 0)) (why * 2 ^ 24) ∧ OnlyRing d s t [] ∧
        t = { s with regs := t.regs, host := t.host, hostMem := t.hostMem } ∧
        t.heldBy kind b = (if why = 0 then e else s.heldBy kind b) ∧
        ∀ m n, (m ≠ kind ∨ n ≠ b) → t.heldBy m n = s.heldBy m n) ∧
    -- EN is set
    (let a := A.fbkFbCtrl n.val
     let sin := s.get (F.fbkFbAna_SIN_IN n.val)
     let cos := s.get (F.fbkFbAna_COS_IN n.val)
     let owner := s.fbOwner n.val
     let bad : Prop := (mode = 5 ∨ mode = 6) ∧ (s.get F.adcInfo_AINS ≤ sin ∨ s.get F.adcInfo_AINS ≤ cos ∨ sin / 6 ≠ cos / 6 ∨
       s.get (F.adcAinStatus_OWNER sin) ≠ owner ∨ s.get (F.adcAinStatus_OWNER cos) ≠ owner ∨
       (mode = 6 ∧ s.get (F.adcPairCfg_DAC_MODE (s.get (F.fbkFbAna_EXC_PAIR n.val))) ≠ 1))
     (taken a → en = false → ∃ t, exec (.fbEnable who n cyc) s = .next t ∧
      t = { u with regs := t.regs, fbk := t.fbk, clk := { u.clk with engWrote := t.clk.engWrote } } ∧
      flag t F.fbkFbCtrl_EN = true ∧ pos t = pos s ∧ (t.fb n.val).speed = 0 ∧ t.get64 (A.fbkFbSpeedLo n.val) = 0 ∧
      (t.fb n.val).times = [] ∧ (t.fb n.val).gateOk = false ∧ (t.fb n.val).valid = false ∧ (t.fb n.val).turn = x.raw ∧
      flag t F.fbkFbStatus_METHOD = decide (3 ≤ mode) ∧ flag t F.fbkFbStatus_STILL = decide (mode < 3) ∧
      flag t F.fbkFbStatus_FIRST = false ∧ flag t F.fbkFbStatus_DIRCHG = false ∧ (28 ≤ n.val → flag t F.fbkFbStatus_DIR = false) ∧
      flag t F.fbkFbStatus_CFG_ERR = decide bad ∧ t.fbk.lats = s.fbk.lats ∧
      (∀ m : Fin 32, m ≠ n → t.fb m.val = s.fb m.val) ∧ ∀ b, b ∉ a :: stat :: spd → t.reg b = s.reg b) ∧
     (taken a → en = true → ∃ t, exec (.fbEnable who n cyc) s = .next t ∧ t = wrote t) ∧
     refused (.fbEnable who n cyc) a ∧
     -- EN is cleared
     (taken a → en = true → ∃ t, exec (.fbDisable who n cyc) s = .next t ∧
      flag t F.fbkFbCtrl_EN = false ∧ flag t F.fbkFbStatus_CFG_ERR = false ∧ pos t = pos s ∧ t.fb n.val = { x with busy := false } ∧
      (s.fbInUse n.val = true → faults 3 t) ∧
      (s.fbInUse n.val = false → t = { u with regs := t.regs, fbk := t.fbk, clk := { u.clk with engWrote := t.clk.engWrote } } ∧
        (∀ m : Fin 32, m ≠ n → t.fb m.val = s.fb m.val) ∧ flag t F.fbkFbStatus_FAULT = flt ∧
        ∀ b, b ∉ [a, stat] → t.reg b = s.reg b)) ∧
     (taken a → en = false → ∃ t, exec (.fbDisable who n cyc) s = .next t ∧ t = wrote t) ∧
     refused (.fbDisable who n cyc) a) ∧
    -- transitions of the lines
    (let seq : List Nat := if mode = 1 then [0, 1, 3, 2] else [1, 3, 2, 6, 4, 5]
     let from' := if mode = 1 then x.lines % 4 else x.hall
     let to' := if mode = 1 then lines.val % 4 else lines.val
     let step := (seq.idxOf to' + seq.length - seq.idxOf from') % seq.length
     let fwd := !s.getB (F.fbkFbCfg_INV n.val)
     let counting : Prop := runs ∧ (mode = 1 ∨ mode = 2) ∧ lines.val ≠ x.lines
     let counts (up : Bool) : Prop := counting ∧ from' ∈ seq ∧ to' ∈ seq ∧ step = (if up = fwd then 1 else seq.length - 1)
     let illegal : Prop := counting ∧ ((mode = 1 ∧ step = 2) ∨ (mode = 2 ∧ (lines.val = 0 ∨ lines.val = 7 ∨
      (from' ∈ seq ∧ 2 ≤ step ∧ step ≤ 4))))
     -- the channel reports a count; `turned` where a measuring channel changes its reported direction
     let reports (up turned : Bool) (t : State) : Prop :=
      let sg : Int := if up then 1 else -1
      let y := t.fb n.val
      let win := (at' :: x.times).take (s.get (F.fbkFbSpd_PER_CNT n.val) + 1)
      let restart : Prop := still = false ∧ turned = false ∧ x.down = up ∧ n.val < 28
      only (A.fbkFbPos n.val :: A.fbkFbPosTime n.val :: stat :: spd) t ∧
      pos t = (if up then pos s + 1 else pos s - 1) ∧ t.reg (A.fbkFbPosTime n.val) = BitVec.ofNat 32 (at' / 2 ^ 32) ∧
      flag t F.fbkFbStatus_DIR = !up ∧ flag t F.fbkFbStatus_STILL = false ∧ y.gate = x.gate + sg ∧ y.down = !up ∧
      flag t F.fbkFbStatus_FAULT = flt ∧
      (t.get64 (A.fbkFbSpeedLo n.val) = wrapN 64 y.speed ∨
        (y.speed = x.speed ∧ t.get64 (A.fbkFbSpeedLo n.val) = s.get64 (A.fbkFbSpeedLo n.val))) ∧
      (still = true → y.speed = 0 ∧ flag t F.fbkFbStatus_FIRST = true ∧ y.times = [at'] ∧ flag t F.fbkFbStatus_METHOD = meth) ∧
      (still = false → turned = true → y.times = at' :: x.times.take 1 ∧ flag t F.fbkFbStatus_METHOD = false ∧
        flag t F.fbkFbStatus_FIRST = false ∧ flag t F.fbkFbStatus_DIRCHG = flag s F.fbkFbStatus_DIRCHG ∧
        ∀ t0, x.times.head? = some t0 → near y.speed (sg * giga * 2 ^ 56) (at' - t0)) ∧
      (restart → y.speed = 0 ∧ y.times = [at'] ∧ flag t F.fbkFbStatus_DIRCHG = true ∧ flag t F.fbkFbStatus_METHOD = false ∧
        flag t F.fbkFbStatus_FIRST = false) ∧
      (still = false → turned = false → ¬ restart → y.times = win ∧ flag t F.fbkFbStatus_DIRCHG = false ∧
        flag t F.fbkFbStatus_FIRST = false ∧ flag t F.fbkFbStatus_METHOD = meth ∧ (meth = true → y.speed = x.speed) ∧
        ∀ t0, win.getLast? = some t0 → near (if meth then y.perSpeed else y.speed) (sg * ((win.length : Int) - 1) * giga * 2 ^ 56) (at' - t0))
     (∀ up : Bool, counts up →
      let raw := if up then x.raw + 1 else x.raw - 1
      let dn := flag s F.fbkFbStatus_DIR
      ∃ t, exec (.fbCount n lines cyc) s = .next t ∧ (t.fb n.val).raw = raw ∧ (t.fb n.val).lines = lines.val ∧
        (n.val < 28 → reports up false t) ∧
        (28 ≤ n.val →
          (dn = false → x.turn < raw → reports true false t ∧ (t.fb n.val).turn = raw) ∧
          (dn = false → raw ≤ x.turn - 2 → reports false true t ∧ (t.fb n.val).turn = raw) ∧
          (dn = true → raw < x.turn → reports false false t ∧ (t.fb n.val).turn = raw) ∧
          (dn = true → x.turn + 2 ≤ raw → reports true true t ∧ (t.fb n.val).turn = raw) ∧
          ((if dn then x.turn ≤ raw ∧ raw < x.turn + 2 else x.turn - 2 < raw ∧ raw ≤ x.turn) →
            t = u.updFb n.val (fun y => { y with lines := lines.val, hall := if mode = 2 then lines.val else y.hall, raw := raw })))) ∧
     (illegal → ∃ t, exec (.fbCount n lines cyc) s = .next t ∧ pos t = pos s ∧ flag t F.fbkFbStatus_QERR = true ∧
      t.get (F.fbkFbErrs_QERR_CNT n.val) = min (s.get (F.fbkFbErrs_QERR_CNT n.val) + 1) 65535 ∧
      (t.fb n.val).badAt = some at' ∧ (t.fb n.val).raw = x.raw ∧ (t.fb n.val).lines = lines.val ∧
      (∀ t0, x.badAt = some t0 → at' ≤ t0 + 1000000 * 2 ^ 32 → faults 0 t) ∧
      ((∀ t0, x.badAt = some t0 → t0 + 1000000 * 2 ^ 32 < at') → flag t F.fbkFbStatus_FAULT = flt ∧
        t = { u with regs := t.regs, fbk := t.fbk, host := t.host, clk := { u.clk with fresh := t.clk.fresh } })) ∧
     (¬ illegal → (∀ up : Bool, ¬ counts up) → ∃ t, exec (.fbCount n lines cyc) s = .next t ∧ t = { u with fbk := t.fbk } ∧
      (t.fb n.val) = { x with lines := lines.val, hall := (t.fb n.val).hall } ∧ t.fbk.lats = s.fbk.lats ∧
      ∀ m : Fin 32, m ≠ n → t.fb m.val = s.fb m.val)) ∧
    -- Z
    (runs → mode = 1 → ∃ t, exec (.fbIndex n cyc) s = .next t ∧ t = { u with regs := t.regs } ∧
      t.reg (A.fbkFbZpos n.val) = pos s ∧ t.reg (A.fbkFbZtime n.val) = BitVec.ofNat 32 (at' / 2 ^ 32) ∧
      t.get (F.fbkFbZcnt_ZCNT n.val) = (s.get (F.fbkFbZcnt_ZCNT n.val) + 1) % 2 ^ 16 ∧
      ∀ a, a ∉ [A.fbkFbZpos n.val, A.fbkFbZtime n.val, A.fbkFbZcnt n.val] → t.reg a = s.reg a) ∧
    (¬ (runs ∧ mode = 1) → exec (.fbIndex n cyc) s = .next u) ∧
    -- standstill
    (let due (t0 : Nat) : Prop := runs ∧ (mode = 1 ∨ mode = 2) ∧ meth = false ∧ t0 + s.get (F.fbkFbSpd_STILL_T n.val) * 10000 * 2 ^ 32 ≤ now
     (∀ t0, x.times.head? = some t0 → due t0 → ∃ t, exec (.fbStill n cyc) s = .next t ∧ only (stat :: spd) t ∧
      flag t F.fbkFbStatus_STILL = true ∧ flag t F.fbkFbStatus_FIRST = false ∧ flag t F.fbkFbStatus_DIRCHG = false ∧
      t.get64 (A.fbkFbSpeedLo n.val) = 0 ∧ t.fb n.val = { x with times := [], perSpeed := 0, speed := 0 } ∧
      flag t F.fbkFbStatus_FAULT = flt) ∧
     ((∀ t0, x.times.head? = some t0 → ¬ due t0) → exec (.fbStill n cyc) s = .next u)) ∧
    -- a gate boundary: the first cycle edge at or after a multiple of FT / 2^GDIV
    (let div := s.get (F.fbkFbSpd_GDIV n.val)
     let up := s.get (F.fbkFbSpdMc_M_UP n.val)
     let dn := s.get (F.fbkFbSpdMc_M_DN n.val)
     let due : Prop := runs ∧ (mode = 1 ∨ mode = 2) ∧ now % (s.ftNs * 2 ^ 32 / 2 ^ div) < s.clk.incr
     (¬ due → exec (.fbGate n cyc) s = .next u) ∧
     (due → x.gateOk = false → exec (.fbGate n cyc) s = .next (u.updFb n.val (fun y => { y with gate := 0, gateOk := true }))) ∧
     (due → x.gateOk = true → ∃ t, exec (.fbGate n cyc) s = .next t ∧ only (stat :: spd) t ∧ (t.fb n.val).gate = 0 ∧
      (t.fb n.val).times = x.times ∧ (t.fb n.val).perSpeed = x.perSpeed ∧ flag t F.fbkFbStatus_STILL = still ∧
      let byCount := near (t.fb n.val).speed (x.gate * giga * 2 ^ 24 * 2 ^ div) s.ftNs
      (meth = false → up ≤ x.gate.natAbs → flag t F.fbkFbStatus_METHOD = true ∧ byCount) ∧
      (meth = false → x.gate.natAbs < up → flag t F.fbkFbStatus_METHOD = false ∧ (t.fb n.val).speed = x.speed) ∧
      (meth = true → x.gate.natAbs ≤ dn → flag t F.fbkFbStatus_METHOD = false ∧ (t.fb n.val).speed = x.perSpeed) ∧
      (meth = true → dn < x.gate.natAbs → flag t F.fbkFbStatus_METHOD = true ∧ byCount))) ∧
    -- FAULT is cleared
    (let clears : Prop := flt = true ∧ u.spared stat 0x100 = 0x100
     (taken stat → clears → ∃ t, exec (.fbFaultClear who n cyc) s = .next t ∧ flag t F.fbkFbStatus_FAULT = false ∧
      flag t F.fbkFbStatus_REF_LOST = true ∧
      t = { u with regs := t.regs, host := t.host, clk := { u.clk with fresh := t.clk.fresh, engWrote := t.clk.engWrote } } ∧
      (∀ f, f ∈ [F.fbkFbStatus_QERR, F.fbkFbStatus_SERR, F.fbkFbStatus_CFG_ERR, F.fbkFbStatus_STILL, F.fbkFbStatus_METHOD] →
        flag t f = flag s f) ∧ ∀ b, b ∉ [stat] → t.reg b = s.reg b) ∧
     (taken stat → ¬ clears → ∃ t, exec (.fbFaultClear who n cyc) s = .next t ∧ t = wrote t) ∧
     refused (.fbFaultClear who n cyc) stat)

/-- R370 to R375 and R378: serial encoders and resolvers (spec/10_feedback_and_latches.md). Instants are in units of 2^-32 ns. -/
def Obligations.SerialEncoders : Prop :=
  ∀ (n : Fin 32) (started : Bool) (raw : W64) (nE nW : Bool) (crc : Fin 64) (cyc : Nat) (s : State),
    let x := s.fb n.val
    let u := s.atCyc cyc
    let now := u.nowFx
    let mode := s.get (F.fbkFbCfg_MODE n.val)
    let runs : Prop := s.getB (F.fbkFbCtrl_EN n.val) = true ∧ mode ≠ 0 ∧ s.getB (F.fbkFbStatus_CFG_ERR n.val) = false
    let pos (t : State) : W32 := t.reg (A.fbkFbPos n.val)
    let stat := A.fbkFbStatus n.val
    -- reads
    (let owner := s.fbOwner n.val
     let due : Prop := runs ∧ (mode = 3 ∨ mode = 4) ∧ (cyc = 0 ∨ (s.getB (F.fbkFbSer_TRIG n.val) = true ∧ owner < 24 ∧
       (List.range (s.subN owner)).any (fun i => s.subCycle owner i == cyc) = true))
     (due → x.busy = false → x.freeAt ≤ now → exec (.serialReadStart n cyc) s = .next (u.updFb n.val (fun y =>
        { y with busy := true, readAt := now + s.get (F.fbkFbSer2_LAT_COMP n.val) * 2 ^ 32 }))) ∧
     (due → (x.busy = true ∨ now < x.freeAt) → ∃ t, exec (.serialReadStart n cyc) s = .next t ∧ t = { u with regs := t.regs } ∧
        t.get (F.fbkFbZcnt_SKIP n.val) = min (s.get (F.fbkFbZcnt_SKIP n.val) + 1) 65535 ∧
        t.get (F.fbkFbZcnt_ZCNT n.val) = s.get (F.fbkFbZcnt_ZCNT n.val) ∧ ∀ a, a ≠ A.fbkFbZcnt n.val → t.reg a = s.reg a) ∧
     (¬ due → exec (.serialReadStart n cyc) s = .next u)) ∧
    (let width := s.get (F.fbkFbSer_BITS n.val)
     let got := raw.toNat % 2 ^ width
     let word := got * 4 + (if nE then 2 else 0) + (if nW then 1 else 0)
     let good : Prop := started = true ∧ (mode = 3 ∨ (nE = true ∧ crc.val = 63 - crc6 (width + 2) word 0))
     let idle (t : State) : Prop := (t.fb n.val).busy = false ∧ (∀ m : Fin 32, m ≠ n → t.fb m.val = s.fb m.val) ∧
      (t.fb n.val).freeAt = now + if mode = 3 then s.get (F.fbkFbSer2_MONO n.val) * 1000 * 2 ^ 32 else 0
     (x.busy = true → good → x.prevV < 2 ^ width → ∃ t, exec (.serialReadDone n started raw nE nW crc cyc) s = .next t ∧ idle t ∧
      let v := t.get64 (A.fbkFbAbsLo n.val)
      let diff := sx width ((v + (2 ^ width - x.prevV)) % 2 ^ width)
      (mode = 4 ∨ s.getB (F.fbkFbSer_GRAY n.val) = false → v = got) ∧
      (mode = 3 → s.getB (F.fbkFbSer_GRAY n.val) = true → Nat.xor v (v / 2) = got) ∧
      (x.valid = false → pos t = BitVec.ofNat 32 v) ∧
      (x.valid = true → pos t = pos s + BitVec.ofInt 32 diff) ∧
      (t.fb n.val).valid = true ∧ (t.fb n.val).prevV = v ∧ (t.fb n.val).fails = 0 ∧ (t.fb n.val).prevAt = x.readAt ∧
      t.reg (A.fbkFbPosTime n.val) = BitVec.ofNat 32 (x.readAt / 2 ^ 32) ∧
      t.get64 (A.fbkFbSpeedLo n.val) = wrapN 64 (t.fb n.val).speed ∧
      (x.valid = false ∨ x.readAt ≤ x.prevAt → (t.fb n.val).speed = 0) ∧
      (x.valid = true → x.prevAt < x.readAt → ((t.fb n.val).speed * (x.readAt - x.prevAt : Nat) - diff * 1000000000 * 2 ^ 56).natAbs
        < x.readAt - x.prevAt) ∧
      t.getB (F.fbkFbStatus_WARN n.val) = (s.getB (F.fbkFbStatus_WARN n.val) || decide (mode = 4 ∧ nW = false)) ∧
      (∀ f, f ∈ [F.fbkFbStatus_FAULT, F.fbkFbStatus_SERR, F.fbkFbStatus_STILL, F.fbkFbStatus_METHOD, F.fbkFbStatus_FIRST,
        F.fbkFbStatus_DIRCHG] → t.getB (f n.val) = s.getB (f n.val)) ∧
      t = { u with regs := t.regs, fbk := t.fbk, host := t.host, clk := { u.clk with fresh := t.clk.fresh } } ∧
      ∀ a, a ∉ [A.fbkFbPos n.val, A.fbkFbPosTime n.val, A.fbkFbSpeedLo n.val, A.fbkFbSpeedLo n.val + 4, A.fbkFbAbsLo n.val,
        A.fbkFbAbsLo n.val + 4, stat] → t.reg a = s.reg a) ∧
     (x.busy = true → ¬ good →
      let last : Prop := s.get (F.fbkFbSer2_ERR_LIM n.val) ≤ x.fails + 1
      let flt := s.getB (F.fbkFbStatus_FAULT n.val)
      ∃ t, exec (.serialReadDone n started raw nE nW crc cyc) s = .next t ∧ idle t ∧ pos t = pos s ∧
      t.get64 (A.fbkFbAbsLo n.val) = s.get64 (A.fbkFbAbsLo n.val) ∧ (t.fb n.val).speed = x.speed ∧
      t.getB (F.fbkFbStatus_SERR n.val) = true ∧
      t.get (F.fbkFbErrs_SERR_CNT n.val) = min (s.get (F.fbkFbErrs_SERR_CNT n.val) + 1) 65535 ∧
      (t.fb n.val).fails = x.fails + 1 ∧ t.getB (F.fbkFbStatus_FAULT n.val) = (flt || decide last) ∧
      (last → flt = false →
        (∀ a : Fin 24, let c := (s.axisL a.val).cfg
          let vel := if c.velFb = 0xFF then c.fbCh else c.velFb
          (c.fbCh = n.val ∨ vel = n.val ∨ (if c.posFb = 0xFF then vel else c.posFb) = n.val) → (t.axis a.val).faulted = true) ∧
        (s.host.evBuf.length < 256 → ∃ r, (t.host.evBuf.drop s.host.evBuf.length)[0]? = some r ∧ r.code = 0x0701 ∧
          r.sev = sevFault ∧ r.data = BitVec.ofNat 16 (0x6200 + n.val) ∧ r.payload.setWidth 8 = 1)) ∧
      (¬ last ∨ flt = true →
        t = { u with regs := t.regs, fbk := t.fbk, host := t.host, clk := { u.clk with fresh := t.clk.fresh } } ∧
        ∀ a, a ∉ [A.fbkFbErrs n.val, stat] → t.reg a = s.reg a)) ∧
     (x.busy = false → exec (.serialReadDone n started raw nE nW crc cyc) s = .next u)) ∧
    -- resolvers: the pair of the inputs, and what a trigger does to its converters m (R330)
    (let a := s.get (F.fbkFbAna_SIN_IN n.val)
     let b := s.get (F.fbkFbAna_COS_IN n.val)
     let j := a / 6
     let even := j * 2
     let odd := j * 2 + 1
     let ilv := s.getB (F.adcPairCfg_ILV j)
     let lead (m : Nat) := if ilv then even else m
     let mode' (m : Nat) := s.get (F.adcConvCfg_MODE (lead m))
     let acq (m : Nat) := s.get (F.adcConvCfg_ACQ (lead m))
     let per := (nearestAway 1000000000 (s.get (F.adcPairDac_EXC_FREQ (s.get (F.fbkFbAna_EXC_PAIR n.val))))).toNat * 2 ^ 32
     let phase := s.get (F.fbkFbAna2_RES_PHASE n.val) * 2 ^ 32
     let peak (m : Nat) : Prop := (now + acq m * s.clk.incr - phase + 3 * per / 4) % per < s.clk.incr
     let due (m : Nat) : Prop := (a ∈ s.convInputs m ∨ b ∈ s.convInputs m) ∧ peak m
     let takes (m at' : Nat) (t : State) : Prop :=
      let y := s.conv m
      let ok : Prop := j < s.get F.adcInfo_PAIRS ∧ mode' m ≠ 0 ∧ s.getB (F.adcConvStatus_DIAG_FAULT m) = false ∧ s.getB (F.adcPairStatus_CAL_FAULT j) = false
      let busy : Prop := y.running = true ∨ y.deferred = true
      let same : Prop := y.arrived = now ∨ (y.running = true ∧ mode' m = 2)
      (¬ ok ∨ (busy ∧ same) → t.conv m = y ∧ t.reg (A.adcConvCounts m) = s.reg (A.adcConvCounts m)) ∧
      (ok → busy → ¬ same → t.conv m = y ∧ t.getB (F.adcConvStatus_LOST m) = true ∧
        t.get (F.adcConvCounts_TRIG_LOST m) = min (s.get (F.adcConvCounts_TRIG_LOST m) + 1) 65535) ∧
      (ok → ¬ busy → y.injecting = true → t.conv m = { y with deferred := true, arrived := now, start := at' }) ∧
      (ok → ¬ busy → y.injecting = false → t.conv m = { y with running := true, arrived := now, start := at', entry := 0 } ∧
        t.getB (F.adcConvStatus_BUSY m) = true)
     (runs → mode = 6 → j < 16 → ∃ t, exec (.resolverTrigger n cyc) s = .next t ∧
      t = { u with regs := t.regs, adc := t.adc, clk := { u.clk with fresh := t.clk.fresh } } ∧
      (due even → takes even now t) ∧ (¬ due even → t.conv even = s.conv even) ∧
      (ilv = false → due odd → takes odd now t) ∧ (ilv = false → ¬ due odd → t.conv odd = s.conv odd) ∧
      (ilv = true → due even → takes odd (now + (acq even + 25) / 2 * s.clk.incr) t) ∧
      (ilv = true → ¬ due even → t.conv odd = s.conv odd) ∧
      (∀ m : Fin 32, m.val ≠ even → m.val ≠ odd → t.conv m.val = s.conv m.val) ∧
      ∀ r, r ∉ [A.adcConvStatus even, A.adcConvStatus odd, A.adcConvCounts even, A.adcConvCounts odd] → t.reg r = s.reg r) ∧
     (¬ (runs ∧ mode = 6) → exec (.resolverTrigger n cyc) s = .next u))

/-- R355 and R381 to R388: latch inputs (spec/10_feedback_and_latches.md). Instants are in units of 2^-32 ns. -/
def Obligations.Latches : Prop :=
  ∀ (who : Option (Fin 38)) (i : Fin 16) (rise : Bool) (taps : Fin 128) (ok : Bool) (cyc : Nat) (s : State),
    let l := s.lat i.val
    let u := s.atCyc cyc
    let now := u.nowFx
    let t0 := now + taps.val * s.clk.incr / 128
    let sel := s.get (F.latLatCfg_EDGE i.val)
    let n := s.get (F.latLatCfg_FB_CH i.val)
    let single := s.getB (F.latLatCfg_SINGLE i.val)
    let armed := s.getB (F.latLatStatus_ARMED i.val)
    let ctrl := A.latLatCtrl i.val
    let stat := A.latLatStatus i.val
    let mine := [stat, A.latLatCounts i.val, A.latLatRecTimeLo i.val, A.latLatRecTimeLo i.val + 4, A.latLatRecTfrac i.val,
      A.latLatRecPos i.val, A.latLatRecInfo i.val, A.hriEvtLost]
    let others (t : State) : Prop := (∀ k : Fin 16, k ≠ i → t.lat k.val = s.lat k.val) ∧ t.fbk = { s.fbk with lats := t.fbk.lats } ∧
      ∀ a, a ∉ mine → t.reg a = s.reg a
    -- the registers follow the FIFO: FILL, WAITING and the oldest record, or 0
    let oldest (t : State) : Prop := t.get (F.latLatStatus_FILL i.val) = (t.lat i.val).recs.length % 32 ∧
      t.getB (F.latLatStatus_WAITING i.val) = !(t.lat i.val).waiting.isEmpty ∧
      t.get64 (A.latLatRecTimeLo i.val) = (match (t.lat i.val).recs.head? with | some r => r.time / 2 ^ 32 % 2 ^ 64 | none => 0) ∧
      t.reg (A.latLatRecTfrac i.val) = (match (t.lat i.val).recs.head? with | some r => BitVec.ofNat 32 r.time | none => 0) ∧
      t.reg (A.latLatRecPos i.val) = (match (t.lat i.val).recs.head? with | some r => r.pos | none => 0) ∧
      t.reg (A.latLatRecInfo i.val) = (match (t.lat i.val).recs.head? with | some r => r.info | none => 0)
    -- an edge
    (let fb := s.fb n
     let counting : Bool := decide (s.get (F.fbkFbCfg_MODE n) = 1 ∨ s.get (F.fbkFbCfg_MODE n) = 2)
     let usable : Bool := s.getB (F.fbkFbCtrl_EN n) && decide (s.get (F.fbkFbCfg_MODE n) ≠ 0) && !s.getB (F.fbkFbStatus_CFG_ERR n) &&
       !s.getB (F.fbkFbStatus_FAULT n)
     let takes : Prop := (sel = 3 ∨ (sel = 1 ∧ rise = true) ∨ (sel = 2 ∧ rise = false)) ∧ armed = true ∧
       s.getB (F.latLatStatus_CAL_FAULT i.val) = false ∧ l.holdoff ≤ t0 ∧ (single = true → l.armedAt ≤ now)
     let inside : Prop := s.getB (F.latLatCfg_WIN_EN i.val) = false ∨
       (s.reg (A.fbkFbPos n) - s.reg (A.latLatWinCenter i.val)).toInt.natAbs ≤ s.get (F.latLatWinHalf_HALF i.val)
     (takes → inside → ∃ t, exec (.latchEdge i rise taps cyc) s = .next t ∧ oldest t ∧ others t ∧
      t.lat i.val = { l with
        holdoff := t0 + s.get (F.latLatCfg_HOLDOFF i.val) * 2 ^ 32
        waiting := l.waiting ++ [{
          time := t0, ch := n, rise := rise, na := s.reg (A.fbkFbPos n), down := fb.down
          ta := if counting then fb.times.head? else if fb.valid then some fb.prevAt else none
          counting := counting, bad := !usable }] } ∧
      t.getB (F.latLatStatus_ARMED i.val) = !single ∧ t.getB (F.latLatStatus_LEVEL i.val) = rise ∧
      t = { u with regs := t.regs, fbk := t.fbk, cap := t.cap } ∧ t.cap = (u.capSee true i.val t0).cap) ∧
     (takes → ¬ inside → ∃ t, exec (.latchEdge i rise taps cyc) s = .next t ∧ t = { u with regs := t.regs } ∧ others t ∧
      t.getB (F.latLatStatus_LEVEL i.val) = rise ∧ t.getB (F.latLatStatus_ARMED i.val) = armed ∧
      t.get (F.latLatCounts_OUTWIN i.val) = min (s.get (F.latLatCounts_OUTWIN i.val) + 1) 65535) ∧
     (¬ takes → ∃ t, exec (.latchEdge i rise taps cyc) s = .next t ∧ t = { u with regs := t.regs } ∧
      t.getB (F.latLatStatus_LEVEL i.val) = rise ∧ t.getB (F.latLatStatus_ARMED i.val) = armed ∧
      ∀ a, a ≠ stat → t.reg a = s.reg a)) ∧
    -- completion of the oldest waiting record w, with a position, a fraction in 2^-16 and FRAC_VALID
    (let kept (v t : State) (w : LatWait) (pos : W32) (frac : Int) (valid : Bool) : Prop :=
      oldest t ∧ others t ∧ (t.lat i.val).waiting = l.waiting.drop 1 ∧ (t.lat i.val).seq = l.seq + 1 ∧
      (l.recs.length < 16 → ∃ r, (t.lat i.val).recs = l.recs ++ [r] ∧ r.time = w.time ∧ r.pos = pos ∧
        bits r.info 31 16 = frac.toNat ∧ bits r.info 15 11 = w.ch % 32 ∧ r.info.getLsbD 9 = w.bad ∧ r.info.getLsbD 8 = valid ∧
        r.info.getLsbD 7 = w.rise ∧ bits r.info 6 0 = l.seq % 128) ∧
      (16 ≤ l.recs.length → (t.lat i.val).recs = l.recs ∧ t.getB (F.latLatStatus_OVF i.val) = true ∧
        t.get (F.latLatCounts_LOST i.val) = min (s.get (F.latLatCounts_LOST i.val) + 1) 65535) ∧
      (s.getB (F.latLatCfg_EVT i.val) = false → t.host.evBuf = s.host.evBuf) ∧
      (s.getB (F.latLatCfg_EVT i.val) = true → s.host.evBuf.length < 256 → ∃ r, t.host.evBuf = s.host.evBuf ++ [r] ∧ r.code = 0x0703 ∧
        r.sev = sevInfo ∧ r.data = BitVec.ofNat 16 (0x6300 + i.val) ∧ r.time = BitVec.ofNat 64 (w.time / 2 ^ 32) ∧
        r.payload.toNat % 2 ^ 32 = w.time % 2 ^ 32 ∧ r.payload.toNat / 2 ^ 32 % 2 ^ 32 = pos.toNat ∧
        (16 ≤ l.recs.length ∨ ∀ x, (t.lat i.val).recs.getLast? = some x → r.payload.toNat / 2 ^ 64 % 2 ^ 32 = x.info.toNat)) ∧
      t = { v with regs := t.regs, fbk := t.fbk, host := t.host, clk := { v.clk with fresh := t.clk.fresh } }
     (∀ w, l.waiting.head? = some w →
      let still := s.get (F.fbkFbSpd_STILL_T w.ch) * 10000 * 2 ^ 32
      (∀ ta, w.ta = some ta → ∀ nb, w.nb = some nb → w.ch < 32 → w.bad = false → ta ≤ w.time → ta < nb.2.1 →
        let lies := ((w.time - ta : Nat) : Int) * 65536
        let gap := nb.2.1 - ta
        let f := nearestAway lies gap
        let inTime : Prop := nb.2.1 ≤ w.time + still
        let pair : Prop := gap ≤ still ∧ nb.2.2 = w.down ∧ inTime
        (w.counting = true → pair → w.down = false → nb.1 = w.na + 1 → ∃ t, exec (.latchRecord i) s = .next t ∧
          kept s t w (w.na + BitVec.ofInt 32 (f / 65536)) (f % 65536) true) ∧
        (w.counting = true → pair → w.down = true → nb.1 = w.na - 1 → ∃ t, exec (.latchRecord i) s = .next t ∧
          kept s t w (w.na + BitVec.ofInt 32 ((65536 - f) / 65536)) ((65536 - f) % 65536) true) ∧
        (w.counting = true → (¬ pair ∨ (w.down = false ∧ nb.1 ≠ w.na + 1) ∨ (w.down = true ∧ nb.1 ≠ w.na - 1)) →
          ∃ t, exec (.latchRecord i) s = .next t ∧ kept s t w w.na 0 false) ∧
        (w.counting = false → inTime →
          let p := nearestAway ((nb.1 - w.na).toInt * lies) gap
          ∃ t, exec (.latchRecord i) s = .next t ∧ kept s t w (w.na + BitVec.ofInt 32 (p / 65536)) (p % 65536) true) ∧
        (w.counting = false → ¬ inTime → ∃ t, exec (.latchRecord i) s = .next t ∧ kept s t w w.na 0 false)) ∧
      (w.ch < 32 → (w.bad = true ∨ (w.ta = none ∧ w.nb ≠ none)) → ∃ t, exec (.latchRecord i) s = .next t ∧ kept s t w w.na 0 false) ∧
      (w.nb = none → w.bad = false → exec (.latchRecord i) s = .next s) ∧
      (w.ch < 32 → w.nb = none → w.time + still < now → ∃ t, exec (.latchRecordTimeout i cyc) s = .next t ∧ kept u t w w.na 0 false) ∧
      (w.nb ≠ none ∨ now ≤ w.time + still → exec (.latchRecordTimeout i cyc) s = .next u)) ∧
     (l.waiting = [] → exec (.latchRecord i) s = .next s ∧ exec (.latchRecordTimeout i cyc) s = .next u)) ∧
    -- ARM, POP and FLUSH
    (let taken : Prop := (who = none ∧ s.ready = true ∧ u.clk.engWrote.contains ctrl = false) ∨
      ∃ e, who = some e ∧ s.ioMay e.val ctrl = true
     let may : Prop := who ≠ none ∨ s.mode = mService ∨ s.latOwner i.val = 35
     let wrote (v t : State) : State := { v with clk := { v.clk with engWrote := t.clk.engWrote } }
     let refused (c : Instr) : Prop :=
      (who = none → (s.ready = false ∨ u.clk.engWrote.contains ctrl = true) → exec c s = .next u) ∧
      ∀ e : Fin 38, who = some e → s.ioMay e.val ctrl = false →
        exec c s = .next (u.updEng e.val (fun y => y.updSet (fun r => { r with sticky := r.sticky ||| 2 ^ 5 })))
     let left (t : State) : Prop := oldest t ∧ others t ∧
      t = { u with regs := t.regs, fbk := t.fbk, clk := { u.clk with engWrote := t.clk.engWrote } }
     (taken → single = true → armed = false → ∃ t, exec (.latchArm who i cyc) s = .next t ∧
      t = { u with regs := t.regs, fbk := t.fbk, clk := { u.clk with engWrote := t.clk.engWrote } } ∧ others t ∧
      t.getB (F.latLatStatus_ARMED i.val) = true ∧ t.lat i.val = { l with armedAt := now + s.clk.incr }) ∧
     (taken → (single = false ∨ armed = true) → ∃ t, exec (.latchArm who i cyc) s = .next t ∧ t = wrote u t) ∧
     (taken → may → (∃ t, exec (.latchPop who i cyc) s = .next t ∧ left t ∧ t.lat i.val = { l with recs := l.recs.drop 1 }) ∧
      ∃ t, exec (.latchFlush who i cyc) s = .next t ∧ left t ∧ t.lat i.val = { l with recs := [], waiting := [] }) ∧
     (taken → ¬ may → (∃ t, exec (.latchPop who i cyc) s = .next t ∧ t = wrote u t) ∧
      ∃ t, exec (.latchFlush who i cyc) s = .next t ∧ t = wrote u t) ∧
     refused (.latchArm who i cyc) ∧ refused (.latchPop who i cyc) ∧ refused (.latchFlush who i cyc)) ∧
    -- recalibration of the delay line
    (let fails : Prop := s.mode = mRun ∧ ok = false ∧ s.getB (F.latLatStatus_CAL_FAULT i.val) = false
     (fails → ∃ t, exec (.tdcRecalibration i ok) s = .next t ∧ t.getB (F.latLatStatus_CAL_FAULT i.val) = true ∧
      t = { s with regs := t.regs, host := t.host } ∧ (∀ a, a ∉ [stat, A.hriEvtLost] → t.reg a = s.reg a) ∧
      (s.host.evBuf.length < 256 → ∃ r, t.host.evBuf = s.host.evBuf ++ [r] ∧ r.code = 0x0705 ∧ r.sev = sevFault ∧
        r.data = BitVec.ofNat 16 (0x6300 + i.val) ∧ r.payload.setWidth 8 = BitVec.ofNat 8 i.val)) ∧
     (¬ fails → exec (.tdcRecalibration i ok) s = .next s))

/-- R406 to R414: running control and capture rings (spec/11_capture.md). -/
def Obligations.CaptureControl : Prop :=
  ∀ (d : Desc) (m : Fin 4) (s : State),
    -- CAPTURE_CTRL
    (let u := d.f 1 1 0
     let only (t : State) : Prop := OnlyRing d s t [] ∧
       t = { s with regs := t.regs, host := t.host, hostMem := t.hostMem, cap := { s.cap with cmds := t.cap.cmds } }
     let post := d.f 2 63 32
     let pre := d.f 2 31 0
     let rs := 8 * s.get (F.capCuCfg_TSTAMP u) + 4 * (s.get (F.capCuCfg_NSRC_M1 u) + 1)
     let alloc := s.get (F.capCuAlloc_ALLOC u)
     let c := alloc * (65536 / rs)
     let stream := s.get (F.capCuCfg_MODE u) = 2
     let post' := if stream then post else min post c
     let pre' := if stream then min pre c else min pre (c - post')
     let idle := s.get (F.capCuStatus_STATE u) = 0
     let answers (cmd : Nat) (d' : Desc) (i : Instr) (why : Nat) (clamped : Bool) : Prop := Accepts s 0x0800 d' →
       ∃ t, Answers i d s t (decide (why ≠ 0)) (why * 2 ^ 24) ∧ only t ∧ t.cap.cmds = s.cap.cmds ++
        (if why = 0 ∧ cmd ≠ 0 then [{ unit := u, cmd := cmd, count := d.f 1 47 32, pre := pre, post := post, clamped := clamped }] else [])
     answers 1 (d.force 1 11 8 1) (.captureArm d) (if ¬ idle then 2 else if alloc = 0 then 3 else 0) (decide (pre' ≠ pre ∨ post' ≠ post)) ∧
     answers 2 (d.force 1 11 8 2) (.captureStop d) (if idle then 2 else 0) false ∧
     answers 3 (d.force 1 11 8 3) (.captureForce d) (if idle then 2 else 0) false ∧
     answers 4 (d.force 1 11 8 4) (.captureDisarm d) (if idle then 2 else 0) false ∧
     answers 0 (d.noCmd 4) (.captureCtrlNoAction d) 0 false) ∧
    -- what a unit k is after it has its blocks
    (let k := m.val
     let z := s.cu k
     let su := s.get (F.capCuStatus_STATE k)
     let need := s.get (F.capCuAlloc_ALLOC k)
     let free := s.get F.capFree_FREE
     let others (t : State) : Prop := ∀ j : Fin 4, j ≠ m → t.cu j.val = s.cu j.val ∧
       t.reg (A.capCuStatus j.val) = s.reg (A.capCuStatus j.val) ∧ t.reg (A.capCuHeld j.val) = s.reg (A.capCuHeld j.val)
     let started (t : State) : Prop := t.get (F.capCuStatus_STATE k) = 2 ∧ t.get (F.capCuStatus_SEQ k) = 0 ∧ (t.cu k).on = true ∧
       (t.cu k).t0 = s.clk.clk ∧ t.get F.capFree_FREE = free - need ∧ t.get (F.capCuDeadLast_DEAD_LAST k) = 0 ∧ others t
     -- the command that the strobe takes
     (∀ x, s.cap.cmds.head? = some x → s.cap.cmds.length = 1 → x.unit = k →
       let t := capStrobe s
       let rs := 8 * s.get (F.capCuCfg_TSTAMP k) + 4 * (s.get (F.capCuCfg_NSRC_M1 k) + 1)
       let c := need * (65536 / rs)
       let stream := s.get (F.capCuCfg_MODE k) = 2
       let post := if stream then x.post else min x.post c
       let pre := if stream then min x.pre c else min x.pre (c - post)
       others t ∧ t.cap.cmds = [] ∧
       (x.cmd = 1 → su = 0 → (t.cu k).pre = pre ∧ (t.cu k).post = post ∧ (t.cu k).clamped = x.clamped ∧ (t.cu k).recs = [] ∧ (t.cu k).trig = none ∧
         (t.cu k).left = (if x.count = 0 ∨ s.get (F.capCuCfg_MODE k) ≠ 1 then none else some x.count) ∧
         t.getB (F.capCuStatus_CLAMPED k) = (s.getB (F.capCuStatus_CLAMPED k) || x.clamped)) ∧
       (x.cmd = 1 → su = 0 → need ≤ free → started t ∧ (t.cu k).own = need) ∧
       (x.cmd = 1 → su = 0 → free < need → t.get (F.capCuStatus_STATE k) = 1 ∧ t.getB (F.capCuStatus_NO_BLOCKS k) = true ∧
         (t.cu k).on = false ∧ t.get F.capFree_FREE = free ∧
         (s.host.evBuf.length < 256 → ∃ r, t.host.evBuf = s.host.evBuf ++ [r] ∧ r.code = 0x0804 ∧ r.sev = sevWarn)) ∧
       (x.cmd = 2 → su = 2 ∨ su = 3 → t.get (F.capCuStatus_STATE k) = 0 ∧ (t.cu k).on = false ∧
         t.get (F.capCuCapno_CAPNO k) = (s.get (F.capCuCapno_CAPNO k) + 1) % 2 ^ 32) ∧
       (x.cmd = 2 → su = 1 ∨ su = 4 → t.get (F.capCuStatus_STATE k) = 0 ∧ t.cu k = {} ∧
         t.get (F.capCuCapno_CAPNO k) = s.get (F.capCuCapno_CAPNO k)) ∧
       (x.cmd = 3 → t.cu k = if su = 2 ∨ su = 3 then { z with force := true } else z) ∧
       (x.cmd = 4 → su ≠ 0 → t.get (F.capCuStatus_STATE k) = 0 ∧ t.cu k = {} ∧
         t.get (F.capCuCapno_CAPNO k) = s.get (F.capCuCapno_CAPNO k)) ∧
       ((x.cmd = 1 ∧ su ≠ 0) ∨ ((x.cmd = 2 ∨ x.cmd = 4) ∧ su = 0) → t.cu k = z ∧ t.regs = s.regs)) ∧
     -- the blocks it waits for
     (let arming : Prop := su = 1 ∧ need ≤ free ∧ s.clk.cyc = 0
      let dead : Prop := su = 4 ∧ need ≤ free ∧ z.reserved = false
      (arming → ∃ t, exec (.captureBlocksReserved m) s = .next t ∧ started t ∧ (t.cu k).own = z.own + need ∧
        t = { s with regs := t.regs, cap := { s.cap with units := t.cap.units } }) ∧
      (dead → ∃ t, exec (.captureBlocksReserved m) s = .next t ∧ t.cu k = { z with reserved := true, own := z.own + need } ∧
        t.get F.capFree_FREE = free - need ∧ t.get (F.capCuStatus_STATE k) = 4 ∧ others t ∧
        t = { s with regs := t.regs, cap := { s.cap with units := t.cap.units } }) ∧
      (¬ arming → ¬ dead → exec (.captureBlocksReserved m) s = .next s))) ∧
    -- a ring
    (let k := m.val
     let waits : List CapEntry := Table.look [] s.cap.queues k
     let works : Prop := s.engWorks eCE = true ∧ Table.look false s.clk.late eCE = false ∧ s.getB (F.hriCrCfg_EN k) = true
     let n := 2 ^ s.get (F.hriCrCfg_SIZE k)
     let tail := s.reg (A.hriCrTail k)
     let base := s.get64 (A.hriCrBaseLo k) + 128 * (tail.toNat % n)
     let data := s.get64 (A.capCrDataLo k) + 65536 * (tail.toNat % n)
     let room : Prop := (tail - s.reg (A.hriCrHead k)).toInt < (n : Int)
     (works → ∀ e, waits.head? = some e → room → e.body.length = 126 → e.unit < 4 →
       let head := leBytes 2 ((if tail.toNat / n % 2 = 0 then 0x8000 else 0) + if e.header then 1 else 0)
       let handed (t : State) : List Nat := Table.look [] t.cap.handed k
       ∃ t, exec (.captureRingWrite m) s = .next t ∧ t.reg (A.hriCrTail k) = tail + 1 ∧ Table.look [] t.cap.queues k = waits.drop 1 ∧
       t.cap.units = s.cap.units ∧ t.get F.capFree_FREE = s.get F.capFree_FREE ∧
       t.get (F.capCuHeld_HELD e.unit) = ((s.cu e.unit).own + t.queuedOf e.unit) % 2 ^ 15 ∧
       (∀ j, j < 128 → t.hostByte ((base + j) % 2 ^ 64) = (head ++ e.body).getD j 0) ∧
       (e.header = false → e.data.length ≤ 65536 →
         (∀ j, j < e.data.length → (∀ i, i < 128 → (base + i) % 2 ^ 64 ≠ (data + j) % 2 ^ 64) →
           t.hostByte ((data + j) % 2 ^ 64) = e.data.getD j 0) ∧ handed t = handed s ++ [tail.toNat]) ∧
       (e.header = true → handed t = handed s ∧ (s.host.evBuf.length < 256 →
         ∃ r, t.host.evBuf = s.host.evBuf ++ [r] ∧ r.code = 0x0801 ∧ r.sev = sevInfo ∧ r.ctrl = BitVec.ofNat 16 (0x8C00 + e.unit) ∧
           r.payload = e.done)) ∧
       (∀ q, (∀ i, i < 128 → q ≠ (base + i) % 2 ^ 64) → (∀ j, j < (if e.header then 0 else e.data.length) → q ≠ (data + j) % 2 ^ 64) →
         t.hostByte q = s.hostByte q) ∧
       (∀ a, a ∉ [A.hriCrTail k, A.capCuHeld e.unit, A.capCrStatus k, A.hriEvtLost] → t.reg a = s.reg a) ∧
       t = { s with regs := t.regs, host := t.host, hostMem := t.hostMem, cap := t.cap }) ∧
     (works → waits ≠ [] → ¬ room → ∃ t, exec (.captureRingWrite m) s = .next t ∧ t.getB (F.capCrStatus_FULL k) = true ∧
       t = { s with regs := t.regs } ∧ ∀ a, a ∉ [A.capCrStatus k] → t.reg a = s.reg a) ∧
     (¬ works ∨ waits = [] → exec (.captureRingWrite m) s = .next s))

/-- R395 to R412: samples of a unit (spec/11_capture.md). Instants are in units of 2^-32 ns. -/
def Obligations.CaptureSamples : Prop :=
  ∀ (m : Fin 4) (full : Bool) (cyc : Nat) (s : State),
    let u := m.val
    let x := s.cu u
    let v := s.atCyc cyc
    let now := v.nowFx
    let clk := s.get (F.capCuCfg_CLK u)
    let state := s.get (F.capCuStatus_STATE u)
    let mode := s.get (F.capCuCfg_MODE u)
    let nsrc := s.get (F.capCuCfg_NSRC_M1 u) + 1
    let rs := 8 * s.get (F.capCuCfg_TSTAMP u) + 4 * nsrc
    let src (i : Nat) : W32 := s.reg (A.capCuSrc u i)
    let no := s.get (F.capCuCapno_CAPNO u)
    -- the instant of the sample that falls in the present cycle (R395)
    let ev := s.get (F.capCuClkSrc_EVENT u)
    let per := s.get (F.capCuClk_SPER u) * 5 * 2 ^ 31
    let grid := x.t0 + (now - x.t0) / per * per
    let edge (e : Nat) := s.clk.clk + (e - s.clk.clk + s.clk.incr - 1) / s.clk.incr * s.clk.incr
    let got := (s.ain (s.getB (F.capCuClkSrc_IN_KIND u)) ev).last
    let sample : Option Nat :=
      if x.on = false then none
      else if clk = 0 then (if x.t0 ≤ now ∧ x.k ≤ (now - x.t0) / per ∧ now < grid + s.clk.incr then some grid else none)
      else if clk = 1 then (match Table.look none (s.slot (ev / 8)).events (ev % 8) with
        | some e => if x.last < e ∧ now = edge e + s.get (F.capCuClkSrc_DELAY u) * s.clk.incr ∧ x.t0 ≤ now then some now else none
        | none => none)
      else if clk = 2 then (if x.last < got then some got else none)
      else if cyc = 0 ∧ x.prevT ≠ some s.clk.clk then some s.clk.clk else none
    -- the words of the sample (Table 11.1); a source of an absent object reads 0
    let ws := (capWords v u).1
    let word (i : Nat) : Prop :=
      let n := bits (src i) 23 16
      let w := ws.getD i 0
      let kind := bits (src i) 31 28
      let is (k : Nat) (there : Prop) (y : W32) : Prop := kind = k → (there → w = y) ∧ (¬ there → w = 0)
      is 0 True 0 ∧ is 1 (n < s.get F.adcInfo_AINS) (s.reg (A.adcAinRes n)) ∧ is 2 (n < 48) (s.reg (A.adcSdiRes n)) ∧
        is 3 (n < 32) (s.reg (A.fbkFbPos n)) ∧ is 4 (n < 32) (BitVec.ofInt 32 (satI 32 (Int.tdiv (fbSpeed v n) (2 ^ 24)))) ∧
        (kind = 5 → s.slots ≤ n → w = 0) ∧ (kind = 5 → n < s.slots → w.getLsbD 8 = s.getB (F.pwmSlotStatus_SAFE n)) ∧
        is 6 (n < 38) (BitVec.ofNat 32 (ofLe ((List.range 4).map (fun b =>
          Table.look 0 (s.eng n).pub (8 * bits (src i) 8 0 + 4 * bits (src i) 24 24 + b))))) ∧
        is 7 (n = 0) (s.reg A.dioInLevel) ∧ is 8 (n = 0) (BitVec.ofNat 32 (now / 2 ^ 32)) ∧
        is 9 (n < 32) (BitVec.ofNat 32 (16 * s.gst n + s.mode)) ∧ (10 ≤ kind → w = 0)
    -- comparators (Table 11.2)
    let value (l : List W32) (i : Nat) : Int :=
      let w := l.getD i 0
      if bits (src i) 31 28 = 1 then w.toInt / 2 ^ 16 else if bits (src i) 31 28 = 2 then w.toInt / 2 ^ 8 else w.toInt
    let op (c : Nat) := s.get (F.capCuCmpCfg_OP u c)
    let slot (c : Nat) := s.get (F.capCuCmpCfg_SLOT u c)
    let a (c : Nat) : Int := (s.reg (A.capCuCmpA u c)).toInt
    let b (c : Nat) : Int := (s.reg (A.capCuCmpB u c)).toInt
    let y (c : Nat) : Int := if slot c < nsrc then value ws (slot c) else 0
    let y' (c : Nat) : Int := if slot c < nsrc then value x.prev (slot c) else 0
    let raw (l : List W32) (c : Nat) : W32 := if slot c < nsrc then l.getD (slot c) 0 else 0
    let marks (g c : Nat) : List Nat := (x.seen.filter (fun q => q.1 == (op c == 9) && q.2.1 == wrapN 32 (a c) &&
      decide (q.2.2 + (if op c = 9 then 10 * 2 ^ 32 else 0) ≤ g))).map (fun q => q.2.2)
    let past (t c : Nat) : Int := (BitVec.ofNat 32 (t / 2 ^ 32) - s.reg (A.capCuCmpA u c)).toInt
    let holds (g c : Nat) : Bool := decide ((op c = 1 ∧ a c < y c) ∨ (op c = 2 ∧ y c < a c) ∨ (op c = 3 ∧ a c ≤ y c ∧ y c ≤ b c) ∨
      (op c = 4 ∧ (y c < a c ∨ b c < y c)) ∨ (op c = 5 ∧ x.prevT.isSome = true ∧ y' c ≤ a c ∧ a c < y c) ∨
      (op c = 6 ∧ x.prevT.isSome = true ∧ a c ≤ y' c ∧ y c < a c) ∨
      (op c = 7 ∧ raw ws c &&& s.reg (A.capCuCmpB u c) = s.reg (A.capCuCmpA u c)) ∨
      (op c = 8 ∧ x.prevT.isSome = true ∧ raw ws c ≠ raw x.prev c) ∨ ((op c = 9 ∨ op c = 10) ∧ marks g c ≠ []) ∨
      (op c = 11 ∧ x.prevT.isSome = true ∧ past (x.prevT.getD 0) c < 0 ∧ 0 ≤ past g c))
    -- exits (R401 to R403): a capture that begins with this sample is in ST0
    let begins : Prop := state = 4
    let q := if begins then 0 else s.get (F.capCuStatus_SEQ u)
    let timer := if begins then 0 else x.timer
    let en (e : Nat) : Bool := s.getB (F.capCuStExit_EN u q e)
    let neg (e : Nat) : Bool := s.getB (F.capCuStExit_NEG u q e)
    let cmp (e : Nat) := s.get (F.capCuStExit_CMP u q e)
    let true' (g e : Nat) : Bool := en e && (holds g (cmp e) != neg e)
    let count (g e : Nat) : Nat := (if begins then 0 else x.counts.getD e 0) + if true' g e then 1 else 0
    let done (g e : Nat) : Bool := true' g e && decide (s.get (F.capCuStExit_NEED u q e) ≤ count g e)
    let taken (g : Nat) : Option Nat := (List.range 4).find? (done g)
    let tmo := s.get (F.capCuStTmo_TMO u q)
    let expired (g : Nat) : Bool := (taken g).isNone && decide (tmo ≠ 0 ∧ tmo ≤ timer)
    let act (g : Nat) : Nat := match taken g with
      | some e => s.get (F.capCuStExit_ACT u q e)
      | none => if expired g then s.get (F.capCuStTmoExit_TMO_ACT u q) else 0
    let next (g : Nat) : Nat := match taken g with
      | some e => s.get (F.capCuStExit_NEXT u q e)
      | none => if expired g then s.get (F.capCuStTmoExit_TMO_NEXT u q) else q
    -- the instant of a trigger (R405)
    let instant (g t : Nat) : Prop := (taken g = none → t = g) ∧ ∀ e, taken g = some e →
        let c := cmp e
        let tp := x.prevT.getD 0
        (neg e = true ∨ op c ∈ [1, 2, 3, 4, 7, 8] → t = g) ∧
        (neg e = false → (op c = 5 ∨ op c = 6) → tp < g → tp ≤ t ∧
          (((t : Int) - tp) * (y c - y' c) - (a c - y' c) * (g - tp : Nat)).natAbs < (y c - y' c).natAbs) ∧
        (neg e = false → (op c = 9 ∨ op c = 10) → t ∈ marks g c ∧ ∀ r ∈ marks g c, t ≤ r) ∧
        (neg e = false → op c = 11 → t = (g / 2 ^ 32 - (past g c).toNat) * 2 ^ 32)
    let mask (n : Nat) (f : Nat → Bool) : Nat := ((List.range n).map (fun i => if f i then 2 ^ i else 0)).sum
    let negated (c : Nat) : Bool := match (List.range 4).find? (fun e => en e && cmp e == c) with | some e => neg e | none => false
    let locked := s.getB F.ptpStatus_LOCKED
    let triggers (g : Nat) : Prop := x.trig = none ∧ (x.force = true ∨ act g = 1)
    -- the capture is handed at this sample with its header: the records before and from the trigger, STOPPED, and an overflow's cause
    let le (l : List Byte) (o n : Nat) : Nat := ofLe ((l.drop (o - 2)).take n)
    let handed (g before after : Nat) (hasTrig stopped : Bool) (ovf : Option Nat) (t : State) : Prop :=
      (∃ h, (Table.look [] t.cap.queues (s.get (F.capCuCfg_RING u))).getLast? = some h ∧ h.header = true ∧ h.unit = u ∧ h.no = no ∧
        le h.body 24 4 = before % 2 ^ 32 ∧ le h.body 28 4 = after % 2 ^ 32 ∧ le h.body 82 1 = ovf.getD 0xFF ∧
        le h.body 64 8 = (if ovf.isSome then g / 2 ^ 32 % 2 ^ 64 else 0) ∧
        (le h.body 84 4).testBit 0 = hasTrig ∧ (le h.body 84 4).testBit 2 = stopped ∧ (le h.body 84 4).testBit 4 = ovf.isSome) ∧
      t.get (F.capCuCapno_CAPNO u) = (no + 1) % 2 ^ 32 ∧
      (mode = 1 ∧ ovf = none ∧ x.left ≠ some 1 → t.get (F.capCuStatus_STATE u) = 4 ∧ (t.cu u).on = true ∧ (t.cu u).t0 = x.t0 ∧
        (t.cu u).left = x.left.map (· - 1) ∧ (t.cu u).pre = x.pre ∧ (t.cu u).post = x.post ∧ (t.cu u).trig = none ∧ (t.cu u).recs = [] ∧
        ((t.cu u).reserved = true ∨ t.getB (F.capCuStatus_NO_BLOCKS u) = true)) ∧
      (¬ (mode = 1 ∧ ovf = none ∧ x.left ≠ some 1) → t.get (F.capCuStatus_STATE u) = 0 ∧ t.cu u = {}) ∧
      (ovf.isSome = true → t.getB (F.capCuStatus_OVF u) = true ∧ (s.host.evBuf.length < 256 →
        ∃ r ∈ t.host.evBuf.drop s.host.evBuf.length, r.code = 0x0802 ∧ r.sev = sevWarn ∧ bits r.payload 31 0 = no ∧
          bits r.payload 39 32 = ovf.getD 0 ∧ bits r.payload 127 64 = g / 2 ^ 32 % 2 ^ 64))
    -- what belongs to other units and to the rest of the module stays
    let rest (t : State) : Prop := t = { v with regs := t.regs, cap := t.cap, host := t.host, free := t.free, clk := { v.clk with fresh := t.clk.fresh } } ∧
      t.cap.cmds = s.cap.cmds ∧ t.cap.handed = s.cap.handed ∧ t.cap.wrote = s.cap.wrote ∧
      ∀ j : Fin 4, j ≠ m → t.cu j.val = s.cu j.val ∧ t.reg (A.capCuStatus j.val) = s.reg (A.capCuStatus j.val) ∧
        t.reg (A.capCuCapno j.val) = s.reg (A.capCuCapno j.val)
    let evaluates (g : Nat) : Prop := state = 2 ∨ state = 3 ∨ (state = 4 ∧ x.reserved = true ∧ x.endT + 1000 * 2 ^ 32 ≤ g)
    let overflows (g : Nat) : Prop := full = true ∧ ∃ tp, x.prevT = some tp ∧ 2 * (g - tp) < 5 * rs * 2 ^ 32
    ws.length = nsrc ∧ (∀ i, i < nsrc → word i) ∧
    (sample = none → exec (.captureSample m full cyc) s = .next v) ∧
    (∀ g, sample = some g →
      (¬ evaluates g → ∃ t, exec (.captureSample m full cyc) s = .next t ∧ rest t ∧ t.regs = s.regs ∧ t.host = s.host ∧
        (t.cu u).prevT = some g ∧ (t.cu u).prev = ws ∧ (t.cu u).recs = x.recs ∧ (t.cu u).posts = x.posts ∧ (t.cu u).trig = x.trig ∧
        (t.cu u).counts = x.counts ∧ (t.cu u).timer = x.timer ∧ t.cap.queues = s.cap.queues) ∧
      (evaluates g → overflows g → ∃ t, exec (.captureSample m full cyc) s = .next t ∧ rest t ∧
        handed g (if x.trig = none then x.recs.length else x.preEff) (if x.trig = none then 0 else x.postEff) x.trig.isSome false (some 0) t) ∧
      (evaluates g → ¬ overflows g →
        let isTrig : Bool := x.trig.isSome || decide (triggers g)
        let stop : Bool := act g == 2
        let before := if x.trig = none then x.recs.length else x.preEff
        let held := if x.trig = none then x.recs.length else x.posts.length
        let nowDone : Prop := mode ≠ 2 ∧ isTrig = true ∧ x.post = 0
        let lacks : Prop := mode = 2 ∧ isTrig = true ∧ x.own < held / (65536 / rs) + 1 ∧ (s.get F.capFree_FREE = 0 ∨
          s.get (F.capCuAlloc_ALLOC u) ≤ x.own + (s.cap.queues.map (fun e =>
            (e.2.filter (fun q => q.unit == u && !q.header && q.no == no)).length)).sum)
        let ends : Prop := nowDone ∨ lacks ∨ stop = true ∨ (isTrig = true ∧ x.post ≠ 0 ∧ x.postEff + 1 = x.post)
        ∃ t, exec (.captureSample m full cyc) s = .next t ∧ rest t ∧
        -- a mark
        (act g = 3 → s.host.evBuf.length < 256 → ∃ r ∈ t.host.evBuf.drop s.host.evBuf.length, r.code = 0x0803 ∧ r.sev = sevInfo ∧
          r.time = BitVec.ofNat 64 (g / 2 ^ 32) ∧ bits r.payload 31 0 = no ∧ bits r.payload 39 36 = q ∧
          (∀ e, taken g = some e → bits r.payload 35 32 = e) ∧ bits r.payload 47 40 = mask 8 (fun c => holds g c != negated c)) ∧
        -- the dead time of a capture that begins
        (begins → t.get (F.capCuDeadLast_DEAD_LAST u) = min ((g - x.endT) / 2 ^ 32) (2 ^ 32 - 1)) ∧
        -- a capture that goes on
        (¬ ends → t.get (F.capCuStatus_SEQ u) = next g ∧ (t.cu u).prevT = some g ∧ (t.cu u).prev = ws ∧
          (if (taken g).isSome ∨ expired g = true then (t.cu u).counts = [0, 0, 0, 0] ∧ (t.cu u).timer = 1
           else (t.cu u).counts = (List.range 4).map (count g) ∧ (t.cu u).timer = timer + 1) ∧
          (begins → (t.cu u).dead = (g - x.endT) / 2 ^ 32 ∧ (t.cu u).reserved = false) ∧
          (∀ r, x.trig = some r → (t.cu u).trig = some r) ∧
          (triggers g → x.force = true → (t.cu u).forced = true ∧
            (t.cu u).trig = some { time := g, conds := 0, exits := 16 * q, locked := locked }) ∧
          (triggers g → x.force = false → ∃ r, (t.cu u).trig = some r ∧ instant g r.time ∧ r.locked = locked ∧
            r.conds = mask 8 (fun c => holds g c != negated c) ∧ r.exits = 16 * q + mask 4 (done g)) ∧
          (isTrig = false → t.get (F.capCuStatus_STATE u) = 2 ∧ (t.cu u).trig = none ∧
            (t.cu u).recs = (x.recs ++ [(⟨g, ws⟩ : CapRec)]).drop (x.recs.length + 1 - x.pre)) ∧
          (isTrig = true → t.get (F.capCuStatus_STATE u) = (if triggers g then 3 else if begins then 2 else state) ∧
            (t.cu u).preEff = before ∧ (t.cu u).postEff = x.postEff + 1 ∧
            (mode ≠ 2 → (t.cu u).posts = (if x.trig = none then x.recs else x.posts) ++ [(⟨g, ws⟩ : CapRec)]))) ∧
        -- and one that ends with this sample
        (lacks → handed g before x.postEff true false (some 1) t) ∧
        (nowDone → handed g before x.postEff true false none t) ∧
        (¬ nowDone → ¬ lacks → ends → isTrig = true → handed g before (x.postEff + 1) true stop none t) ∧
        (ends → isTrig = false → handed g (min x.pre (x.recs.length + 1)) 0 false true none t))) ∧
    -- the commands for a timeout that expires and for a capture that restarts
    (let is : Prop := ∃ g, sample = some g ∧ (state = 2 ∨ state = 3) ∧ expired g = true
     (is → ∃ t, exec (.sequencerTimeout m full cyc) s = .next t ∧ exec (.captureSample m full cyc) s = .next t) ∧
     (¬ is → exec (.sequencerTimeout m full cyc) s = .next v)) ∧
    (let is : Prop := ∃ g, sample = some g ∧ state = 4 ∧ evaluates g
     (is → ∃ t, exec (.captureRestart m full cyc) s = .next t ∧ exec (.captureSample m full cyc) s = .next t) ∧
     (¬ is → exec (.captureRestart m full cyc) s = .next v))

/-- R426 to R434: PTP messages and the servo (spec/12_network_and_time.md). Times are in 2^-16 ns, rates in 2^-32 ppb. -/
def Obligations.PtpSync : Prop :=
  ∀ (p : Fin 2) (m : PtpMsg) (egress residence stamp : W64) (a : PtpAnn) (s : State),
    let u := ptpExpire p.val s
    let q := 1 - p.val
    let works : Prop := s.engWorks eNE = true
    let x := u.net.ptp
    let y := u.pp p.val
    let kind (v : State) := if 2 ≤ v.get F.ptpCfg_CLOCK ∧ ¬ (v.portMode 0 = 1 ∧ v.portMode 1 = 1) then 1 else v.get F.ptpCfg_CLOCK
    let clock := kind u
    let tc : Prop := 2 ≤ clock
    let onPort (v : State) : Prop := v.getB (F.ptpPortCfg_EN p.val) = true ∧ (v.portMode p.val = 2 ∨ (v.portMode p.val = 1 ∧ v.get F.ptpCfg_CLOCK ≠ 0))
    let takes (domain : BitVec 8) : Prop := onPort u ∧ domain.toNat = u.get F.ptpCfg_DOMAIN
    let counts (t : State) : Prop := t.reg (A.netPortRxPtp p.val) = u.reg (A.netPortRxPtp p.val) + if u.portMode p.val = 0 then 0 else 1
    let ignored (i : Instr) : Prop := ∃ t, exec i s = .next t ∧ t = { u with regs := t.regs } ∧ counts t ∧
      ∀ a, a ∉ [A.netPortRxPtp p.val] → t.reg a = u.reg a
    -- the state after a message: `fw` is what a transparent clock forwards on the other port
    let ports (t : State) (z : PtpPort) (fw : Option (Nat × Nat × Int)) : Prop := counts t ∧ t.pp p.val = z ∧
      t.pp q = { u.pp q with sent := fw.or (u.pp q).sent } ∧
      t.reg (A.netPortTxFrames q) = u.reg (A.netPortTxFrames q) + if fw.isSome then 1 else 0
    -- the state after an offset `o` was measured, or none; `heard`: a transparent clock hears a Sync and so has a master
    let log : Int := sx 4 (u.get (F.ptpPortCfg_LOG_SYNC p.val))
    let mx : Int := ((u.reg A.ptpRateMax).toNat : Int) * 2 ^ 32
    let limit := (u.reg A.ptpStepLimit).toNat * 65536
    let thr := (u.reg A.ptpLockThresh).toNat * 65536
    let st0 := u.get F.ptpStatus_STATE
    let stepped := u.getB F.ptpStatus_STEPPED
    let moving : Prop := (∃ g, g < 32 ∧ u.gst g = gMoving) ∨ u.mode = mHauldown ∨ u.mode = mBackstay
    let measured (heard : Prop) [Decidable heard] (t : State) (off : Option Int) : Prop :=
      let some' := off.isSome
      let o := off.getD 0
      let starts : Prop := heard ∧ st0 = 0
      let st := if starts then (if stepped then 3 else 1) else st0
      let next' := if some' ∧ st = 3 then 2 else st
      let free : Prop := some' = true ∧ st ≠ 0 ∧ x.step = none
      let steps : Prop := free ∧ (st = 1 ∨ x.authDue.isSome = true)
      let meets : Prop := free ∧ st ≠ 1 ∧ x.authDue = none ∧ x.hold = none
      let refuse : Prop := meets ∧ limit < o.natAbs ∧ x.byRate = false
      let feed : Prop := meets ∧ ¬ (limit < o.natAbs ∧ x.byRate = false)
      let perS := o * 2 ^ (-log).toNat
      let i := clampI (-mx) mx (x.integ + u.get F.ptpServo_KI * perS)
      let r := clampI (-mx) mx (-(u.get F.ptpServo_KP * perS + i))
      let within := o.natAbs ≤ thr
      let good0 := if starts then 0 else x.good
      let bad0 := if starts then 0 else x.bad
      let good := if feed then (if within then good0 + 1 else 0) else good0
      let bad := if feed then (if within then 0 else bad0 + 1) else bad0
      let lock0 := !decide starts && u.getB F.ptpStatus_LOCKED
      let slave := if heard then p.val else if u.getB F.ptpStatus_SLAVE then u.get F.ptpStatus_SLAVE_PORT else 0xFF
      let state (old new : Nat) : Event := { code := 0x0906, sev := if new = 3 then sevWarn else sevInfo, data := 0, ctrl := 0x89FF
                                             time := BitVec.ofNat 64 u.nowNs, payload := BitVec.ofNat 128 (new + old * 2 ^ 8 + slave * 2 ^ 16) }
      t.net.ptp = { x with
        ports := t.net.ptp.ports
        integ := if feed then i else x.integ
        rate := if feed then r else x.rate
        good := good
        bad := bad
        step := if steps then some (-o, decide (st = 1)) else x.step
        authDue := if steps then none else x.authDue
        refused := if refuse then true else if feed then false else x.refused
        byRate := if feed then x.byRate && decide (limit < o.natAbs) else x.byRate } ∧
      t.clk.incrNext = (if feed then some (nearestAway (5 * 2 ^ 31 * (1000000000 * 2 ^ 32 + r)) (1000000000 * 2 ^ 32)).toNat else u.clk.incrNext) ∧
      t.get F.ptpStatus_STATE = next' ∧
      t.getB F.ptpStatus_LOCKED = (if feed ∧ 8 ≤ good then true else if feed ∧ 4 ≤ bad then false else lock0) ∧
      t.getB F.ptpStatus_AUTH = (if steps then false else u.getB F.ptpStatus_AUTH) ∧
      t.getB F.ptpStatus_STEP_PENDING = (if steps then decide moving else u.getB F.ptpStatus_STEP_PENDING) ∧
      t.getB F.ptpStatus_STEP_REFUSED = (if refuse then true else u.getB F.ptpStatus_STEP_REFUSED) ∧
      t.getB F.ptpStatus_SLAVE = (if heard then true else u.getB F.ptpStatus_SLAVE) ∧
      t.get F.ptpStatus_SLAVE_PORT = (if heard then p.val else u.get F.ptpStatus_SLAVE_PORT) ∧
      t.get64 A.ptpMasterIdLo = (if heard then m.src.toNat else u.get64 A.ptpMasterIdLo) ∧
      (∀ f, f ∈ [F.ptpStatus_STEPPED, F.ptpStatus_PATH_HOLD, F.ptpStatus_ASYM, F.ptpStatus_CLOCK_ERR] → t.get f = u.get f) ∧
      t.reg A.ptpOffset = (if some' then BitVec.ofInt 32 (held 32 (qdiv o 65536)) else u.reg A.ptpOffset) ∧
      t.reg A.ptpRate = (if feed then BitVec.ofInt 32 (qdiv r (2 ^ 32)) else u.reg A.ptpRate) ∧
      (u.host.evBuf.length ≤ 253 → t.host.evBuf = u.host.evBuf ++ (if starts then [state 0 st] else []) ++
        (if some' ∧ st = 3 then [state 3 2] else []) ++
        (if refuse ∧ x.refused = false then
          [{ code := 0x0907, sev := sevWarn, data := 0, ctrl := BitVec.ofNat 16 (0x8980 + p.val), time := BitVec.ofNat 64 u.nowNs
             payload := BitVec.ofNat 128 (wrapN 64 (qdiv o 65536) * 2 ^ 64) }] else [])) ∧
      (∀ a, a ∉ [A.netPortRxPtp p.val, A.netPortTxFrames q, A.ptpStatus, A.ptpMasterIdLo, A.ptpMasterIdLo + 4, A.ptpOffset, A.ptpRate,
        A.hriEvtLost] → t.reg a = u.reg a) ∧
      t = { u with
        regs := t.regs
        host := { u.host with evBuf := t.host.evBuf, evDropped := t.host.evDropped }
        net := { u.net with ptp := t.net.ptp }
        clk := { u.clk with incrNext := t.clk.incrNext, fresh := t.clk.fresh } }
    let t2 := u.rxTime p.val m.stamp
    let t1 : Int := m.time.toNat * 65536
    let corr := m.corr.toInt
    -- NE that does not work takes nothing, and what has expired comes first
    (¬ works → exec (.sync p m egress) s = .next s ∧ exec (.followUp p m residence) s = .next s ∧ exec (.ptpAnnounce p a) s = .next s ∧
      ∀ k : Fin 3, exec (.ptpTransmit p k stamp) s = .next s) ∧
    ((s.pp p.val).parent = none ∨ s.clk.ticks < (s.pp p.val).syncDue →
      s.clk.ticks < (s.pp p.val).annDue ∨ s.get (F.ptpPortState_PORT_STATE p.val) = 6 →
      (∀ r, (s.pp p.val).req = some r → s.clk.ticks < r.2.2) → (∀ h, s.net.ptp.hold = some h → s.clk.ticks < h.due) → u = s) ∧
    (∀ b, exec (.syncReceiptTimeout p) s = .next b → b.engWorks eNE = true → ∀ c, exec (.announceReceiptTimeout p) b = .next c →
      c.engWorks eNE = true → ∀ d, exec (.delayRespTimeout p) c = .next d → d.engWorks eNE = true → works →
      exec (.pathHoldExpiry) d = .next u) ∧
    (works →
      -- Sync
      (let ours : Prop := takes m.domain ∧ (tc ∨ y.parent = some (m.src, m.srcPort))
       (¬ ours → ignored (.sync p m egress)) ∧
       (ours → ∃ t, exec (.sync p m egress) s = .next t ∧
        ports t { y with
          parent := some (m.src, m.srcPort)
          sync := if m.twoStep then some m else none
          last := if m.twoStep then y.last else some (t1, t2, corr)
          syncDue := u.clk.ticks + 1 + u.ivTicks (u.get (F.ptpPortCfg_SYNC_TMO p.val)) log }
          (if tc then some (0, m.seq.toNat, corr + (if clock = 3 then x.d.getD 0 else 0) +
            (if m.twoStep then 0 else u.txTime q egress - t2)) else none) ∧
        measured tc t (if m.twoStep then none else x.d.map (fun d => t2 - t1 - corr - d)))) ∧
      -- Follow_Up
      (let matched : Prop := takes m.domain ∧ ∃ z, y.sync = some z ∧ z.seq = m.seq ∧ z.src = m.src ∧ z.srcPort = m.srcPort
       let fw := if tc then some (8, m.seq.toNat, corr + (residence.toNat : Int)) else none
       (¬ takes m.domain → ignored (.followUp p m residence)) ∧
       (takes m.domain → ¬ matched → ∃ t, exec (.followUp p m residence) s = .next t ∧ ports t y fw ∧ measured False t none) ∧
       (∀ z, y.sync = some z → matched → ∃ t, exec (.followUp p m residence) s = .next t ∧
        ports t { y with sync := none, last := some (t1, u.rxTime p.val z.stamp, z.corr.toInt + corr) } fw ∧
        measured False t (x.d.map (fun d => u.rxTime p.val z.stamp - t1 - (z.corr.toInt + corr) - d)))) ∧
      -- Announce
      (let bmca : Prop := ¬ tc ∧ u.portMode p.val = 1 ∧ a.src ≠ u.clockId
       let l := y.foreign
       let now := u.clk.ticks + 1
       let win := u.ivTicks 4 (sx 4 (u.get (F.ptpPortCfg_LOG_ANN p.val)))
       let fresh : Foreign := { ann := a, n := 1, step := now }
       let same (f : Foreign) : Bool := f.ann.src == a.src && f.ann.srcPort == a.srcPort
       let lists (l' : List Foreign) : Prop := ∃ t, exec (.ptpAnnounce p a) s = .next t ∧ counts t ∧ (t.pp p.val).foreign = l' ∧
         (t.pp q).foreign = (u.pp q).foreign
       (¬ takes a.domain ∨ (¬ tc ∧ ¬ bmca) → ignored (.ptpAnnounce p a)) ∧
       (takes a.domain → tc → ∃ t, exec (.ptpAnnounce p a) s = .next t ∧ ports t y (some (11, 0, 0)) ∧ measured False t none) ∧
       (takes a.domain → bmca →
        (l.any same = true → lists (l.map (fun f => if same f then { ann := a, n := if now < f.step + win then f.n + 1 else 1, step := now } else f))) ∧
        (l.any same = false → l.length < 8 → lists (l ++ [fresh])) ∧
        (l.any same = false → 8 ≤ l.length → ∀ w, w ∈ l → (∀ f, f ∈ l → f ≠ w → annBetter f.ann p.val w.ann p.val = true) →
          (annBetter a p.val w.ann p.val = true → lists (l.filter (fun f => f != w) ++ [fresh])) ∧
          (annBetter a p.val w.ann p.val = false → lists l)) ∧
        (∀ f, l.head? = some f → l.length = 1 → same f = true → now < f.step + win → 1 ≤ f.n → u.portMode q ≠ 1 →
          u.get (F.ptpPortState_PORT_STATE p.val) ≠ 3 → 128 ≤ u.get F.ptpCfg2_CLOCK_CLASS → annBetter u.ownSet 0 a p.val = false →
          ∃ t, exec (.ptpAnnounce p a) s = .next t ∧ t.get (F.ptpPortState_PORT_STATE p.val) = 9 ∧ (t.pp p.val).parent = some (a.src, a.srcPort) ∧
          t.getB F.ptpStatus_SLAVE = true ∧ t.get F.ptpStatus_SLAVE_PORT = p.val ∧ t.get64 A.ptpMasterIdLo = a.src.toNat ∧
          t.get F.ptpStatus_STATE = (if st0 = 0 then (if stepped then 3 else 1) else st0)))) ∧
      -- a transmission
      (let z := s.pp p.val
       let peer : Prop := s.getB (F.ptpPortCfg_P2P p.val) = true ∨ kind s = 3
       let master : Prop := s.get (F.ptpPortState_PORT_STATE p.val) = 6
       let sends (k : Fin 3) (may : Prop) (f : Fld) (code frames : Nat) : Prop :=
         let n := z.seqs.getD k.val 0 % 65536
         let due : Prop := onPort s ∧ s.linkUp p.val = true ∧ may ∧ z.txDue.getD k.val 0 ≤ s.clk.ticks
         (due → ∃ t, exec (.ptpTransmit p k stamp) s = .next t ∧ t.pp q = s.pp q ∧
          t.pp p.val = { z with
            txDue := z.txDue.set k.val (s.clk.ticks + s.ivTicks 1 (sx 4 (s.get f)))
            seqs := z.seqs.set k.val (n + 1)
            req := if k = 2 then some (BitVec.ofNat 16 n, s.txTime p.val stamp, s.clk.ticks + s.ivTicks 1 0) else z.req
            sent := some (code, n, 0) } ∧
          t.reg (A.netPortTxFrames p.val) = s.reg (A.netPortTxFrames p.val) + BitVec.ofNat 32 frames ∧
          (∀ a, a ∉ [A.netPortTxFrames p.val] → t.reg a = s.reg a) ∧
          t = { s with regs := t.regs, net := { s.net with ptp := { s.net.ptp with ports := t.net.ptp.ports } } }) ∧
         (¬ due → exec (.ptpTransmit p k stamp) s = .next s)
       sends 0 master (F.ptpPortCfg_LOG_SYNC p.val) 0 (if s.getB (F.ptpPortCfg_ONE_STEP p.val) then 1 else 2) ∧
       sends 1 master (F.ptpPortCfg_LOG_ANN p.val) 11 1 ∧
       sends 2 ((peer ∧ s.portMode p.val = 1) ∨ z.parent.isSome = true) (F.ptpPortCfg_LOG_DELAY p.val) (if peer then 2 else 1) 1))

/-- R428, R430 and R435 to R437: path delay (spec/12_network_and_time.md). Times are in 2^-16 ns. -/
def Obligations.PathDelay : Prop :=
  ∀ (p : Fin 2) (m : PtpMsg) (egress t3 : W64) (s : State),
    let q := 1 - p.val
    let works : Prop := s.engWorks eNE = true
    let now := s.clk.ticks
    let kind (v : State) := if 2 ≤ v.get F.ptpCfg_CLOCK ∧ ¬ (v.portMode 0 = 1 ∧ v.portMode 1 = 1) then 1 else v.get F.ptpCfg_CLOCK
    let takes (v : State) : Prop := v.getB (F.ptpPortCfg_EN p.val) = true ∧
      (v.portMode p.val = 2 ∨ (v.portMode p.val = 1 ∧ v.get F.ptpCfg_CLOCK ≠ 0)) ∧ m.domain.toNat = v.get F.ptpCfg_DOMAIN
    let p2p (v : State) : Prop := v.getB (F.ptpPortCfg_P2P p.val) = true
    let corr := m.corr.toInt
    let residence (v : State) : Int := v.txTime q egress - v.rxTime p.val m.stamp
    -- a message is counted and sends `n` frames of `what` on port `k`; nothing else changes
    let counts (v t : State) (k n : Nat) : Prop :=
      t.reg (A.netPortRxPtp p.val) = v.reg (A.netPortRxPtp p.val) + (if v.portMode p.val = 0 then 0 else 1) ∧
      t.reg (A.netPortTxFrames k) = v.reg (A.netPortTxFrames k) + BitVec.ofNat 32 n
    let sends (i : Instr) (v : State) (k n : Nat) (what : Nat × Nat × Int) : Prop := ∃ t, exec i s = .next t ∧ counts v t k n ∧
      t.pp k = (if n = 0 then v.pp k else { v.pp k with sent := some what }) ∧ t.pp (1 - k) = v.pp (1 - k) ∧
      (∀ a, a ∉ [A.netPortRxPtp p.val, A.netPortTxFrames k] → t.reg a = v.reg a) ∧
      t = { v with regs := t.regs, net := { v.net with ptp := { v.net.ptp with ports := t.net.ptp.ports } } }
    let none' : Nat × Nat × Int := (0, 0, 0)
    -- responses: `u` is the state after the timers of the present step
    let u := ptpExpire p.val s
    let x := u.net.ptp
    let y := u.pp p.val
    let limit := u.get F.ptpPath_PATH_STEP_LIMIT * 65536
    let q8 (d : Int) : Nat := wrapN 32 (qdiv d 256)
    let event (v : State) (code sev ctrl payload : Nat) : Event :=
      { code := BitVec.ofNat 16 code, sev := sev, data := 0, ctrl := BitVec.ofNat 16 ctrl, time := BitVec.ofNat 64 v.nowNs
        payload := BitVec.ofNat 128 payload }
    let ctrl := 0x8980 + p.val
    let measured (i : Instr) (fw : Option (Nat × Nat × Int)) (v : Int) : Prop := ∃ t, exec i s = .next t ∧
      counts u t q (if fw.isSome then 1 else 0) ∧ t.pp p.val = { y with req := none } ∧ t.pp q = { u.pp q with sent := fw.or (u.pp q).sent } ∧
      let accept : Prop := x.d = none ∨ (x.hold = none ∧ ∀ d, x.d = some d → (v - d).natAbs ≤ limit)
      let starts : Prop := x.hold = none ∧ ∃ d, x.d = some d ∧ limit < (v - d).natAbs
      let ends : Prop := x.hold.isSome ∧ ∃ d, x.d = some d ∧ (v - d).natAbs ≤ limit
      let dev := (v - x.d.getD 0).natAbs
      let bound := min (qdiv dev 65536).toNat (2 ^ 32 - 1)
      let l := (x.meas ++ [v]).drop (x.meas.length + 1 - 8)
      let mean := qdiv l.sum l.length
      t.net.ptp = { x with
        ports := t.net.ptp.ports
        d := if accept then some mean else x.d
        meas := if accept then l else x.meas
        hold := if accept then x.hold else if ends then none
          else if starts then some { due := u.clk.ticks + 1 + u.ivTicks (u.get F.ptpPath_PATH_HOLD) 0, aside := [v] }
          else x.hold.map (fun h => { h with aside := h.aside ++ [v] }) } ∧
      t.get F.ptpPathDelay_PATH_DELAY = (if accept then q8 mean else u.get F.ptpPathDelay_PATH_DELAY) ∧
      t.getB F.ptpStatus_PATH_HOLD = (if accept then u.getB F.ptpStatus_PATH_HOLD else if ends then false else if starts then true
        else u.getB F.ptpStatus_PATH_HOLD) ∧
      t.getB F.ptpStatus_ASYM = (if starts then true else u.getB F.ptpStatus_ASYM) ∧
      t.get F.ptpAsymBound_ASYM_BOUND = (if starts then bound else u.get F.ptpAsymBound_ASYM_BOUND) ∧
      (∀ f, f ∈ [F.ptpStatus_STATE, F.ptpStatus_STEPPED, F.ptpStatus_SLAVE, F.ptpStatus_SLAVE_PORT, F.ptpStatus_LOCKED, F.ptpStatus_AUTH,
        F.ptpStatus_STEP_PENDING, F.ptpStatus_STEP_REFUSED, F.ptpStatus_CLOCK_ERR] → t.get f = u.get f) ∧
      (u.host.evBuf.length < 256 → t.host.evBuf = u.host.evBuf ++
        (if starts then [event u 0x0908 sevWarn ctrl (bound + q8 v * 2 ^ 32)] else []) ++
        (if ends then [event u 0x090A sevInfo ctrl (q8 (x.d.getD 0))] else [])) ∧
      (∀ a, a ∉ [A.netPortRxPtp p.val, A.netPortTxFrames q, A.ptpPathDelay, A.ptpStatus, A.ptpAsymBound, A.hriEvtLost] → t.reg a = u.reg a) ∧
      t = { u with
        regs := t.regs
        host := { u.host with evBuf := t.host.evBuf, evDropped := t.host.evDropped }
        net := { u.net with ptp := t.net.ptp }
        clk := { u.clk with fresh := t.clk.fresh } }
    (¬ works → exec (.delayReq p m egress) s = .next s ∧ exec (.delayResp p m) s = .next s ∧ exec (.pdelayReq p m egress) s = .next s ∧
      exec (.pdelayResp p m ⟨t3, egress⟩) s = .next s ∧ exec (.delayRespTimeout p) s = .next s ∧ exec (.pathHoldExpiry) s = .next s) ∧
    (works →
      -- Delay_Req
      (let answers : Prop := s.get (F.ptpPortState_PORT_STATE p.val) = 6 ∧ ¬ p2p s
       (takes s → 2 ≤ kind s → sends (.delayReq p m egress) s q 1 (1, m.seq.toNat, corr + residence s)) ∧
       (takes s → kind s < 2 → answers → sends (.delayReq p m egress) s p.val 1 (9, m.seq.toNat, corr)) ∧
       (¬ takes s ∨ (kind s < 2 ∧ ¬ answers) → sends (.delayReq p m egress) s p.val 0 none')) ∧
      -- Pdelay_Req
      (let answers : Prop := kind s = 3 ∨ (kind s < 2 ∧ p2p s)
       (takes s → kind s = 2 → sends (.pdelayReq p m egress) s q 1 (2, m.seq.toNat, corr + residence s)) ∧
       (takes s → answers → sends (.pdelayReq p m egress) s p.val 2 (3, m.seq.toNat, corr)) ∧
       (¬ takes s ∨ (kind s < 2 ∧ ¬ answers) → sends (.pdelayReq p m egress) s p.val 0 none')) ∧
      -- Delay_Resp
      (let fw := if 2 ≤ kind u then some (9, m.seq.toNat, corr) else none
       let matched : Prop := takes u ∧ ¬ p2p u ∧ y.last.isSome = true ∧ ∃ r, y.req = some r ∧ r.1 = m.seq
       (¬ matched → sends (.delayResp p m) u q (if takes u ∧ 2 ≤ kind u then 1 else 0) (9, m.seq.toNat, corr)) ∧
       (matched → ∀ r, y.req = some r → ∀ l, y.last = some l →
        measured (.delayResp p m) fw (qdiv ((l.2.1 - l.1 - l.2.2) + ((m.time.toNat : Int) * 65536 - r.2.1 - corr)) 2))) ∧
      -- Pdelay_Resp
      (let fw := if kind u = 2 then some (3, m.seq.toNat, corr + residence u) else none
       let matched : Prop := takes u ∧ (kind u = 3 ∨ p2p u) ∧ ∃ r, y.req = some r ∧ r.1 = m.seq
       (¬ matched → sends (.pdelayResp p m ⟨t3, egress⟩) u q (if takes u ∧ kind u = 2 then 1 else 0) (3, m.seq.toNat, corr + residence u)) ∧
       (matched → ∀ r, y.req = some r → measured (.pdelayResp p m ⟨t3, egress⟩) fw
        (qdiv (u.rxTime p.val m.stamp - r.2.1 - ((t3.toNat : Int) - m.time.toNat) * 65536 - corr) 2))) ∧
      -- a request without a response
      ((∀ r, (s.pp p.val).req = some r → now < r.2.2) → exec (.delayRespTimeout p) s = .next s) ∧
      (∀ r, (s.pp p.val).req = some r → r.2.2 ≤ now → ∃ t, exec (.delayRespTimeout p) s = .next t ∧
        t.pp p.val = { s.pp p.val with req := none } ∧ t.pp q = s.pp q ∧
        t.get (F.ptpPortState_DELAY_MISSED p.val) = min (s.get (F.ptpPortState_DELAY_MISSED p.val) + 1) 65535 ∧
        t.get (F.ptpPortState_PORT_STATE p.val) = s.get (F.ptpPortState_PORT_STATE p.val) ∧
        (∀ a, a ∉ [A.ptpPortState p.val] → t.reg a = s.reg a) ∧
        t = { s with regs := t.regs, net := { s.net with ptp := { s.net.ptp with ports := t.net.ptp.ports } } }) ∧
      -- the hold expires
      (let z := s.net.ptp
       ((∀ h, z.hold = some h → now < h.due) → exec (.pathHoldExpiry) s = .next s) ∧
       (∀ h, z.hold = some h → h.due ≤ now → h.aside.length < 4 →
        let again : PathHold := { h with due := now + s.ivTicks (s.get F.ptpPath_PATH_HOLD) 0 }
        exec (.pathHoldExpiry) s = .next { s with net := { s.net with ptp := { z with hold := some again } } }) ∧
       (∀ h, z.hold = some h → h.due ≤ now → 4 ≤ h.aside.length → ∃ t, exec (.pathHoldExpiry) s = .next t ∧
        let mean := qdiv h.aside.sum h.aside.length
        t.net = { s.net with ptp := { z with
          hold := none
          byRate := true
          meas := h.aside.drop (h.aside.length - 8)
          d := some mean } } ∧
        t.get F.ptpPathDelay_PATH_DELAY = q8 mean ∧ t.getB F.ptpStatus_PATH_HOLD = false ∧
        (s.host.evBuf.length < 256 → t.host.evBuf = s.host.evBuf ++ [event s 0x0909 sevInfo 0x89FF (q8 mean + q8 (z.d.getD 0) * 2 ^ 32)]) ∧
        (∀ f, f ∈ [F.ptpStatus_STATE, F.ptpStatus_STEPPED, F.ptpStatus_SLAVE, F.ptpStatus_SLAVE_PORT, F.ptpStatus_LOCKED, F.ptpStatus_AUTH,
          F.ptpStatus_STEP_PENDING, F.ptpStatus_STEP_REFUSED, F.ptpStatus_ASYM, F.ptpStatus_CLOCK_ERR] → t.get f = s.get f) ∧
        (∀ a, a ∉ [A.ptpPathDelay, A.ptpStatus, A.hriEvtLost] → t.reg a = s.reg a) ∧
        t = { s with
          regs := t.regs
          host := { s.host with evBuf := t.host.evBuf, evDropped := t.host.evDropped }
          net := t.net })))

/-- R424 to R440: receipt time-outs, steps and compare targets (spec/12_network_and_time.md). -/
def Obligations.PtpControl : Prop :=
  ∀ (d : Desc) (p : Fin 2) (c : Fin 8) (cyc : Nat) (s : State),
    let x := s.net.ptp
    let y := s.pp p.val
    let q := 1 - p.val
    let now := s.clk.ticks
    let st := s.get F.ptpStatus_STATE
    let works : Prop := s.engWorks eNE = true
    let plant (n : Nat) : Prop := s.portMode n = 1
    let kind := if 2 ≤ s.get F.ptpCfg_CLOCK ∧ ¬ (plant 0 ∧ plant 1) then 1 else s.get F.ptpCfg_CLOCK
    let state := s.get (F.ptpPortState_PORT_STATE p.val)
    -- receipt time-outs
    let bmca : Prop := s.getB (F.ptpPortCfg_EN p.val) = true ∧ plant p.val ∧ kind = 1
    let lone : Prop := ¬ plant q ∧ (s.pp q).parent = none ∧ (∀ f, f ∈ y.foreign → y.parent.isSome = true → y.parent = some (f.ann.src, f.ann.srcPort))
    let shows (t : State) : Prop := t.getB F.ptpStatus_SLAVE = false ∧
      let next' := if st = 1 then 0 else if st = 2 then 3 else st
      t.get F.ptpStatus_STATE = next' ∧ t.getB F.ptpStatus_LOCKED = (if next' = st then s.getB F.ptpStatus_LOCKED else false) ∧
      (s.host.evBuf.length < 256 → t.host.evBuf = s.host.evBuf ++ if next' = st then [] else
        [{ code := 0x0906, sev := if next' = 3 then sevWarn else sevInfo, data := 0, ctrl := 0x89FF, time := BitVec.ofNat 64 s.nowNs
           payload := BitVec.ofNat 128 (next' + st * 2 ^ 8 + 0xFF * 2 ^ 16) }])
    let expired (i : Instr) : Prop := ∃ t, exec i s = .next t ∧
      (t.pp p.val).foreign = y.foreign.filter (fun f => y.parent.isSome && y.parent != some (f.ann.src, f.ann.srcPort)) ∧
      (t.pp p.val).annDue = now + s.ivTicks (s.get (F.ptpPortCfg_ANN_TMO p.val)) (sx 4 (s.get (F.ptpPortCfg_LOG_ANN p.val))) ∧
      (t.pp q).foreign = (s.pp q).foreign ∧
      (bmca → lone → state ≠ 3 → (t.pp p.val).foreign = [] ∧ (t.pp p.val).parent = none ∧ shows t ∧
        t.get (F.ptpPortState_PORT_STATE p.val) = (if s.get F.ptpCfg2_CLOCK_CLASS = 255 then 4 else 6)) ∧
      (2 ≤ kind → (t.pp p.val).parent = none ∧ ((s.pp q).parent = none → shows t)) ∧
      t.net = { s.net with ptp := { x with
        ports := t.net.ptp.ports
        good := t.net.ptp.good
        bad := t.net.ptp.bad
        step := t.net.ptp.step } } ∧
      (∀ a, a ∉ [A.ptpStatus, A.ptpPortState 0, A.ptpPortState 1, A.ptpMasterIdLo, A.ptpMasterIdLo + 4, A.hriEvtLost] → t.reg a = s.reg a) ∧
      t = { s with regs := t.regs, host := { s.host with evBuf := t.host.evBuf, evDropped := t.host.evDropped }, net := t.net }
    (¬ works → exec (.announceReceiptTimeout p) s = .next s ∧ exec (.syncReceiptTimeout p) s = .next s ∧ exec (.stepAuthLapse) s = .next s) ∧
    (works →
      (let due : Prop := bmca ∧ y.annDue ≤ now ∧ state ≠ 6
       (due → expired (.announceReceiptTimeout p)) ∧ (¬ due → exec (.announceReceiptTimeout p) s = .next s)) ∧
      (let due : Prop := y.parent.isSome = true ∧ y.syncDue ≤ now
       (due → expired (.syncReceiptTimeout p)) ∧ (¬ due → exec (.syncReceiptTimeout p) s = .next s)) ∧
      ((∀ due, x.authDue = some due → now < due) → exec (.stepAuthLapse) s = .next s) ∧
      (∀ due, x.authDue = some due → due ≤ now → exec (.stepAuthLapse) s =
        .next { s.setB F.ptpStatus_AUTH false with net := { s.net with ptp := { x with authDue := none } } })) ∧
    -- PTP_STEP
    (let moving : Prop := (∃ g, g < 32 ∧ s.gst g = gMoving) ∨ s.mode = mHauldown ∨ s.mode = mBackstay
     let answers (mode : Nat) (i : Instr) (ok : Prop) [Decidable ok] (z : PtpSt) (f : Fld) (b : Prop) : Prop := Accepts s 0x0902 (d.force 1 0 0 mode) →
       ∃ t, Answers i d s t (!decide ok) (if ok then 0 else 0x02000000) ∧ OnlyRing d s t [A.ptpStatus] ∧
        t = { s with regs := t.regs, host := t.host, hostMem := t.hostMem, net := { s.net with ptp := if ok then z else x } } ∧
        (if ok then (t.getB f = true ↔ b) else t.getB f = s.getB f) ∧
        (∀ g, g ∈ [F.ptpStatus_STATE, F.ptpStatus_STEPPED, F.ptpStatus_SLAVE, F.ptpStatus_SLAVE_PORT, F.ptpStatus_LOCKED, F.ptpStatus_AUTH,
          F.ptpStatus_STEP_PENDING, F.ptpStatus_PATH_HOLD, F.ptpStatus_STEP_REFUSED, F.ptpStatus_ASYM, F.ptpStatus_CLOCK_ERR] → g ≠ f →
          t.get g = s.get g)
     answers 0 (.ptpStepAuthorise d) (st ≠ 0) { x with authDue := some (now + s.ivTicks 2 0) } F.ptpStatus_AUTH True ∧
     answers 1 (.ptpStep d) ((st = 0 ∨ st = 3) ∧ s.getB F.ptpStatus_SLAVE = false)
      { x with step := some ((d.w 2).toInt * 65536, false) } F.ptpStatus_STEP_PENDING moving) ∧
    -- compare targets
    (let status (t : State) : Prop := t.get F.ptpCmpStatus_PENDING = t.net.pendList.length % 2 ^ 8 ∧
       ∀ k : Fin 8, (t.reg A.ptpCmpStatus).getLsbD k.val = (Table.look none t.net.units k.val).isSome
     let name := d.f 1 31 16
     let period := if d.n 3 = 0 then 0 else clampN 1000000 (2 ^ 40) (d.n 3)
     let named (e : Timed) : Bool := match e with | .compare z => z.id == name | .frame _ => false
     let unit (v : State) (k : Nat) : Option (Compare × Bool) := Table.look none v.net.units k
     let only (t : State) : Prop := OnlyRing d s t [A.ptpCmpStatus] ∧
       t = { s with
        regs := t.regs
        host := t.host
        hostMem := t.hostMem
        net := { s.net with pendList := t.net.pendList, units := t.net.units } }
     (Accepts s 0x0903 (d.force 1 1 1 0) →
      (s.net.pendList.length < 64 → ∃ t, Answers (.timeCompare d) d s t false 0 ∧ only t ∧ status t ∧ t.net.units = s.net.units ∧
        t.net.pendList = s.net.pendList ++ [.compare { id := name, target := d.n 2, period := period }]) ∧
      (64 ≤ s.net.pendList.length → ∃ t, Answers (.timeCompare d) d s t true 0x03000000 ∧ only t ∧ t.net = s.net ∧
        t.reg A.ptpCmpStatus = s.reg A.ptpCmpStatus)) ∧
     (Accepts s 0x0903 (d.force 1 1 1 1) → ∃ t, Answers (.timeCompareCancel d) d s t false 0 ∧ only t ∧ status t ∧
      t.net.pendList = s.net.pendList.filter (fun e => !named e) ∧
      ∀ k : Fin 8, unit t k.val = (unit s k.val).bind (fun u => if u.1.id = name then none else some u)) ∧
     -- a unit fires
     (let v := s.atCyc cyc
      let came (u : Compare × Bool) : Prop := 0 ≤ cdiff (BitVec.ofNat 32 v.nowNs) (BitVec.ofNat 32 u.1.target)
      ((∀ u, unit s c.val = some u → ¬ came u) → exec (.timeCompareFire c cyc) s = .next v) ∧
      (∀ u, unit s c.val = some u → came u → ∃ t, exec (.timeCompareFire c cyc) s = .next t ∧ status t ∧
        unit t c.val = none ∧ (∀ k : Fin 8, k ≠ c → unit t k.val = unit s k.val) ∧
        t.net.pendList = s.net.pendList ++
          (if u.1.period = 0 then [] else [Timed.compare { u.1 with target := u.1.target + u.1.period }]) ∧
        (s.host.evBuf.length < 256 → t.host.evBuf = s.host.evBuf ++
          [{ code := 0x090C, sev := sevInfo, data := 0, ctrl := 0x89FF, time := BitVec.ofNat 64 v.nowNs
             payload := BitVec.ofNat 128 (u.1.id % 2 ^ 16 + (if u.2 then 2 ^ 16 else 0) + u.1.target % 2 ^ 64 * 2 ^ 64) }]) ∧
        (∀ a, a ∉ [A.ptpCmpStatus, A.hriEvtLost] → t.reg a = s.reg a) ∧
        t = { v with
          regs := t.regs
          host := { v.host with evBuf := t.host.evBuf, evDropped := t.host.evDropped }
          net := { s.net with pendList := t.net.pendList, units := t.net.units } })))

/-- R420 to R443: ports and frames (spec/12_network_and_time.md). -/
def Obligations.NetFrames : Prop :=
  ∀ (d : Desc) (p : Fin 2) (up : Bool) (speed : Fin 3) (err : Bool) (k : Fin 8) (stamp : W64) (cyc : Nat) (s : State),
    let room : Prop := s.host.evBuf.length < 256
    let event (code sev n time payload : Nat) : Event :=
      { code := BitVec.ofNat 16 code, sev := sev, data := 0, ctrl := BitVec.ofNat 16 (0x887F + 128 * n), time := BitVec.ofNat 64 time
        payload := BitVec.ofNat 128 payload }
    -- the timestamp registers of a port
    let shown (t : State) (n : Nat) : Prop :=
      let y := t.port n
      t.get (F.ptpPortTxtsStatus_AWAITING n) = y.awaiting % 2 ^ 5 ∧ t.get (F.ptpPortTxtsStatus_READY n) = y.ready.length % 2 ^ 5 ∧
      t.get (F.ptpPortTxtsId_ID n) = ((y.ready.head?.map (·.id)).getD 0) % 2 ^ 16 ∧
      t.get (F.ptpPortTxtsId_STATUS n) = ((y.ready.head?.map (·.status)).getD 0) % 2 ^ 3
    let txts (n : Nat) : List Nat := [A.ptpPortTxtsStatus n, A.ptpPortTxtsId n]
    let keeps (t : State) (n : Nat) : Prop := t.get (F.ptpPortTxtsStatus_DROPS n) = s.get (F.ptpPortTxtsStatus_DROPS n) ∧
      t.getB (F.ptpPortTxtsStatus_DROP n) = s.getB (F.ptpPortTxtsStatus_DROP n)
    let mode := s.portMode p.val
    let x := s.port p.val
    let was := s.linkUp p.val
    -- a link change
    (let same : Prop := mode = 0 ∨ (was = up ∧ (up = false ∨ s.get (F.netPortStatus_SPEED p.val) = speed.val))
     (same → exec (.linkChange p up speed) s = .next s) ∧
     (¬ same → s.linkNodes p.val = [] → ∃ t, exec (.linkChange p up speed) s = .next t ∧
      let loss : Bool := was && !up
      let pend := s.net.pendList.filterMap (fun e => match e with | .frame f => if f.port = p.val then some f else none | .compare _ => none)
      let armed := s.net.launch.filterMap (fun e => match e.2 with | some f => if f.port = p.val then some f else none | none => none)
      let gone := (x.sending ++ armed ++ pend).filter (·.entry)
      t.linkUp p.val = up ∧ t.get (F.netPortStatus_SPEED p.val) = speed.val ∧
      t.getB (F.netPortStatus_LINK_SLOW p.val) = (up && decide (mode = 2) && decide (speed.val = 2)) ∧
      t.getB (F.netPortStatus_LINK_LOSS p.val) = (loss || s.getB (F.netPortStatus_LINK_LOSS p.val)) ∧
      t.port (1 - p.val) = s.port (1 - p.val) ∧
      t.port p.val = (if loss then { x with
        sending := []
        awaiting := x.awaiting - gone.length
        ready := x.ready ++ gone.map (fun f => { id := f.tsId, status := 2, time := 0 }) } else x) ∧
      t.net.pendList = (if loss then s.net.pendList.filter (fun e => match e with | .frame f => f.port != p.val | .compare _ => true)
        else s.net.pendList) ∧
      t.net.launch = (if loss then s.net.launch.filter (fun e => match e.2 with | some f => f.port != p.val | none => false)
        else s.net.launch) ∧
      (if loss ∧ gone ≠ [] then shown t p.val ∧ keeps t p.val else ∀ a, a ∈ txts p.val → t.reg a = s.reg a) ∧
      t.get F.ptpCmpStatus_PENDING = (if loss then t.net.pendList.length % 2 ^ 8 else s.get F.ptpCmpStatus_PENDING) ∧
      (∀ n : Fin 2, t.get (if n = 0 then F.netHalLoad_LOAD0 else F.netHalLoad_LOAD1) =
        if t.portMode n.val = 2 then min (t.loadOf n.val ((t.linkNodes n.val).map (·.2)) / 100) 65535 else 0) ∧
      (room → t.host.evBuf = s.host.evBuf ++
        [event 0x0905 sevWarn p.val s.nowNs (p.val + (if up then 2 ^ 8 else 0) + speed.val * 2 ^ 16)]) ∧
      (∀ a, a ∉ [A.netPortStatus p.val, A.netHalLoad, A.ptpPortTxtsStatus p.val, A.ptpPortTxtsId p.val, A.ptpCmpStatus, A.hriEvtLost] →
        t.reg a = s.reg a) ∧
      t = { s with
        regs := t.regs
        host := { s.host with evBuf := t.host.evBuf, evDropped := t.host.evDropped }
        net := { s.net with ports := t.net.ports, pendList := t.net.pendList, launch := t.net.launch }
        clk := { s.clk with fresh := t.clk.fresh } })) ∧
    -- a dropped frame
    (∃ t, exec (.rxFrame p err) s = .next t ∧ t = { s with regs := t.regs } ∧
      t.reg (A.netPortRxErr p.val) = s.reg (A.netPortRxErr p.val) + (if mode ≠ 0 ∧ err = true then 1 else 0) ∧
      t.reg (A.netPortRxOther p.val) = s.reg (A.netPortRxOther p.val) + (if mode ≠ 0 ∧ err = false then 1 else 0) ∧
      ∀ a, a ∉ [A.netPortRxErr p.val, A.netPortRxOther p.val] → t.reg a = s.reg a) ∧
    -- NET_SEND
    (let n := d.f 1 0 0
     let z := s.port n
     let timed := d.fb 1 2
     let len := clampN 60 1514 (d.f 1 47 32)
     let data := (d.data ++ List.replicate len 0).take len
     let et := (data.getD 12 0).toNat * 256 + (data.getD 13 0).toNat
     let off : Prop := s.portMode n = 0 ∨ s.linkUp n = false ∨ (s.portMode n = 2 ∧ et = s.get F.netHalCfg_ETHERTYPE)
     let full : Prop := if timed then 64 ≤ s.net.pendList.length else 16 ≤ z.sending.length
     let why := if off then 4 else if full then 3 else 0
     let ts : Bool := d.fb 1 1 && decide (why = 0)
     let entry : Bool := ts && decide (z.awaiting + z.ready.length < 16)
     let drop : Bool := ts && !entry
     let frame : TxFrame := { port := n, data := data, tsId := d.f 1 31 16, entry := entry, launch := if timed then some (d.n 3) else none }
     let drops := if drop then min (s.get (F.ptpPortTxtsStatus_DROPS n) + 1) 65535 else s.get (F.ptpPortTxtsStatus_DROPS n)
     Accepts s 0x0904 d → ∃ t, Answers (.netSend d) d s t (decide (why ≠ 0)) (why * 2 ^ 24) ∧
      OnlyRing d s t [A.ptpCmpStatus, A.ptpPortTxtsStatus n, A.ptpPortTxtsId n, A.hriEvtLost] ∧
      t.port n = { z with
        sending := if why = 0 ∧ timed = false then z.sending ++ [frame] else z.sending
        awaiting := z.awaiting + (if entry then 1 else 0)
        dropped := z.dropped || drop } ∧
      t.port (1 - n) = s.port (1 - n) ∧
      t.net.pendList = (if why = 0 ∧ timed = true then s.net.pendList ++ [.frame frame] else s.net.pendList) ∧
      (if why = 0 ∧ timed = true then t.get F.ptpCmpStatus_PENDING = (s.net.pendList.length + 1) % 2 ^ 8
        else t.reg A.ptpCmpStatus = s.reg A.ptpCmpStatus) ∧
      t.get (F.ptpPortTxtsStatus_DROPS n) = drops ∧ t.getB (F.ptpPortTxtsStatus_DROP n) = (drop || s.getB (F.ptpPortTxtsStatus_DROP n)) ∧
      (entry = true → shown t n) ∧ (entry = false → drop = false → ∀ a, a ∈ txts n → t.reg a = s.reg a) ∧
      (room → t.host.evBuf = s.host.evBuf ++
        if drop = true ∧ z.dropped = false then [event 0x090D sevWarn n s.nowNs (n + drops * 2 ^ 16)] else []) ∧
      t = { s with
        regs := t.regs
        host := t.host
        hostMem := t.hostMem
        net := { s.net with ports := t.net.ports, pendList := t.net.pendList }
        clk := { s.clk with fresh := t.clk.fresh } }) ∧
    -- a launch slot
    (let v := s.atCyc cyc
     let slot (t : State) (j : Nat) : Option TxFrame := Table.look none t.net.launch j
     let due (f : TxFrame) : Prop := f.launch.getD 0 ≤ v.nowNs + 5
     let isTimed (f : TxFrame) : Bool := f.launch.isSome
     ((∀ f, slot s k.val = some f → ¬ due f) → exec (.timedLaunch k cyc) s = .next v) ∧
     (∀ f, slot s k.val = some f → due f → ∃ t, exec (.timedLaunch k cyc) s = .next t ∧ slot t k.val = none ∧
      (∀ j : Fin 8, j ≠ k → slot t j.val = slot s j.val) ∧
      (t.port f.port).sending = (s.port f.port).sending.takeWhile isTimed ++ f :: (s.port f.port).sending.dropWhile isTimed ∧
      t.port f.port = { s.port f.port with sending := (t.port f.port).sending } ∧
      (∀ m : Fin 2, m.val ≠ f.port → t.port m.val = s.port m.val) ∧
      t = { v with net := { s.net with launch := t.net.launch, ports := t.net.ports } })) ∧
    -- a frame crosses the MDI
    (x.sending = [] → exec (.txTimestamp p stamp) s = .next s) ∧
    (∀ f, x.sending.head? = some f → ∃ t, exec (.txTimestamp p stamp) s = .next t ∧
      let time := s.txTime p.val stamp
      let late : Bool := match f.launch with | some l => decide (((l : Int) + 5) * 65536 < time) | none => false
      let tag : List Byte := if s.getB (F.netPortCfg_VLAN p.val) then
        [0x81, 0x00] ++ (leBytes 2 (s.get (F.netPortCfg_PCP p.val) * 2 ^ 13 + s.get (F.netPortCfg_VID p.val))).reverse else []
      t.port p.val = { x with
        sending := x.sending.drop 1
        awaiting := if f.entry then x.awaiting - 1 else x.awaiting
        ready := if f.entry then x.ready ++ [{ id := f.tsId, status := if late then 1 else 0, time := time.toNat * 2 ^ 16 }] else x.ready } ∧
      t.port (1 - p.val) = s.port (1 - p.val) ∧
      Table.look [] t.net.lastTx p.val = f.data.take 12 ++ tag ++ f.data.drop 12 ∧
      Table.look [] t.net.lastTx (1 - p.val) = Table.look [] s.net.lastTx (1 - p.val) ∧
      t.reg (A.netPortTxFrames p.val) = s.reg (A.netPortTxFrames p.val) + 1 ∧
      t.get (F.netPortLate_LAUNCH_LATE p.val) = (if late then min (s.get (F.netPortLate_LAUNCH_LATE p.val) + 1) 65535
        else s.get (F.netPortLate_LAUNCH_LATE p.val)) ∧
      t.get (F.netPortLate_REPLY_LATE p.val) = s.get (F.netPortLate_REPLY_LATE p.val) ∧
      (f.entry = true → shown t p.val ∧ keeps t p.val) ∧ (f.entry = false → ∀ a, a ∈ txts p.val → t.reg a = s.reg a) ∧
      (room → t.host.evBuf = s.host.evBuf ++
        if late then [event 0x090E sevWarn p.val (time / 65536).toNat (p.val + f.launch.getD 0 % 2 ^ 64 * 2 ^ 64)] else []) ∧
      (∀ a, a ∉ [A.netPortTxFrames p.val, A.netPortLate p.val, A.ptpPortTxtsStatus p.val, A.ptpPortTxtsId p.val, A.hriEvtLost] →
        t.reg a = s.reg a) ∧
      t = { s with
        regs := t.regs
        host := { s.host with evBuf := t.host.evBuf, evDropped := t.host.evDropped }
        net := { s.net with ports := t.net.ports, lastTx := t.net.lastTx } }) ∧
    -- the timestamp registers
    (s.ready = false → (∃ t, exec (.txtsIdRead p) s = .next t ∧ t = { s with host := { s.host with readData := 0 } }) ∧
      exec (.txtsPop p) s = .next s) ∧
    (s.ready = true →
      (let time := (x.ready.head?.map (·.time)).getD 0
       ∃ t, exec (.txtsIdRead p) s = .next t ∧ t.host.readData = s.reg (A.ptpPortTxtsId p.val) ∧
        t.get64 (A.ptpPortTxtsTimeLo p.val) = time / 2 ^ 32 % 2 ^ 64 ∧ t.reg (A.ptpPortTxtsFrac p.val) = BitVec.ofNat 32 time ∧
        (∀ a, a ∉ [A.ptpPortTxtsTimeLo p.val, A.ptpPortTxtsTimeLo p.val + 4, A.ptpPortTxtsFrac p.val] → t.reg a = s.reg a) ∧
        t = { s with regs := t.regs, host := { s.host with readData := t.host.readData } }) ∧
      (∃ t, exec (.txtsPop p) s = .next t ∧ t.port p.val = { x with ready := x.ready.drop 1 } ∧ t.port (1 - p.val) = s.port (1 - p.val) ∧
        shown t p.val ∧ keeps t p.val ∧ (∀ a, a ∉ txts p.val → t.reg a = s.reg a) ∧
        t = { s with regs := t.regs, net := { s.net with ports := t.net.ports } })) ∧
    (Accepts s 0x0905 d →
      let bytes := netReport (s.fetched d)
      ∃ t, Answers (.netReport d) d s t false 0 ∧ Reported s t d (d.n 2 / 64 * 64) bytes ∧
        OnlyRing d s t [] (d.n 2 / 64 * 64) bytes.length ∧ t = { s with regs := t.regs, host := t.host, hostMem := t.hostMem })

/-- R444 to R457: the Halyard link (spec/12_network_and_time.md). -/
def Obligations.Halyard : Prop :=
  ∀ (d : Desc) (p : Fin 2) (n : Fin 128) (mac : BitVec 48) (a : HalAnnounce) (r : HalReply) (up : Bool) (speed : Fin 3) (s : State),
    let works : Prop := s.engWorks eNE = true
    let room : Prop := s.host.evBuf.length < 256
    let now := s.clk.ticks
    -- an arrival after the cutoff counts in the next step
    let late := if (s.eng 24).cutPassed then 1 else 0
    let step' := now + late
    let k := s.tickNo + late
    let onLink (j : Nat) : Prop := s.nodeSt j = 3 ∨ s.nodeSt j = 4
    let nodeReg (j : Nat) := A.netNodeState (j / 8)
    let ctrl (j : Nat) := if j < 64 then 0x8900 + j else 0x8A00 + (j - 64)
    let event (code sev c payload : Nat) : Event :=
      { code := BitVec.ofNat 16 code, sev := sev, data := 0, ctrl := BitVec.ofNat 16 c, time := BitVec.ofNat 64 s.nowNs
        payload := BitVec.ofNat 128 payload }
    let others (t : State) (j : Nat) : Prop := ∀ i : Fin 128, i.val ≠ j → t.node i.val = s.node i.val ∧ t.nodeSt i.val = s.nodeSt i.val
    let only (t : State) (also : List Nat) : Prop := (∀ q, q ∉ also → t.reg q = s.reg q) ∧
      t = { s with regs := t.regs, host := { s.host with evBuf := t.host.evBuf, evDropped := t.host.evDropped }, net := t.net }
    let evs (t : State) (l : List Event) : Prop := room → t.host.evBuf = s.host.evBuf ++ l
    let loads (t : State) : Prop := ∀ m : Fin 2, t.get (if m = 0 then F.netHalLoad_LOAD0 else F.netHalLoad_LOAD1) =
      if t.portMode m.val = 2 then min (t.loadOf m.val ((t.linkNodes m.val).map (·.2)) / 100) 65535 else 0
    -- a Halyard frame received on port p
    let rx (t : State) : Prop := t.reg (A.netPortRxHal p.val) = s.reg (A.netPortRxHal p.val) + (if s.portMode p.val = 2 then 1 else 0) ∧
      t.reg (A.netPortRxOther p.val) = s.reg (A.netPortRxOther p.val) + (if s.portMode p.val = 1 then 1 else 0)
    let rxRegs := [A.netPortRxHal p.val, A.netPortRxOther p.val]
    let counted (i : Instr) : Prop := ∃ t, exec i s = .next t ∧ rx t ∧ only t rxRegs ∧ t.net = s.net ∧ t.host = s.host
    -- the node of slot n leaves
    let left (t : State) (c : NodeCfg) (cause : Nat) (inStep : Option Nat) : Prop :=
      t.nodeSt n.val = (if c.rejoin then 1 else 5) ∧
      t.node n.val = { s.node n.val with
        leftBy := cause
        fresh := none
        old := none
        invite := false
        seenIn := none
        tseNew := false
        leftIn := inStep.or (s.node n.val).leftIn } ∧
      (∀ i, i < c.count → (t.axis (c.base + i)).left = true ∧ (t.axis (c.base + i)).faulted = true)
    let leftEvent (t : State) (c : NodeCfg) (cause : Nat) : Prop := room → t.host.evBuf[s.host.evBuf.length]? =
      some (event 0x0903 (if s.nodeIdle c then sevWarn else sevFault) (ctrl n.val) (cause + (s.node n.val).lastTick % 2 ^ 64 * 2 ^ 64))
    let x := s.node n.val
    let st := s.nodeSt n.val
    let m := d.f 1 6 0
    let busy (j : Nat) : Prop := s.nodeSt j = 2 ∨ s.nodeSt j = 3 ∨ s.nodeSt j = 4
    -- wire times, in tenths of a ns
    ((∀ b, 64 ≤ b → s.wire p.val b = (b + 20) * if s.get (F.netPortStatus_SPEED p.val) = 0 then 32 else 80) ∧
     (∀ c, x.cfg = some c → replyLen c = 50 + 24 * c.count + c.ioIn + (if c.tse then 32 else 0) ∧
      s.loadOf p.val [c] = ((s.frameLens p.val [sectionLen c]).map (s.wire p.val)).sum + s.wire p.val (replyLen c))) ∧
    -- NODE_CFG
    (let own := d.f 1 31 24
     let base := d.f 3 7 0
     let cnt := min 8 (d.f 3 23 16)
     let asked : NodeCfg :=
      { owner := if 24 ≤ own ∧ own ≤ 31 then own else 0xFF, wd := clampN 2 15 (d.f 1 19 16), rejoin := d.fb 1 12, tse := d.fb 1 11
        port := if d.f 1 9 8 = 3 then 2 else d.f 1 9 8, product := d.f 2 63 32, vendor := d.f 2 31 0, serial := d.f 3 63 32
        count := cnt, base := base, ioOut := min 40 (d.f 4 15 8), ioIn := min 40 (d.f 4 7 0) }
     let clash : Prop := cnt ≠ 0 ∧ (base < 24 ∨ 256 < base + cnt ∨
      ∃ e, e ∈ s.nodes ∧ e.1 ≠ m ∧ base < e.2.base + e.2.count ∧ e.2.base < base + cnt)
     let why := if busy m then 2 else if clash then 5 else 0
     let old := s.node m
     Accepts s 0x0900 d → d.fb 1 10 = false → ∃ t, Answers (.nodeCfg d) d s t (decide (why ≠ 0)) (why * 2 ^ 24) ∧
      OnlyRing d s t [nodeReg m] ∧ others t m ∧ t.nodeSt m = (if why = 0 then 1 else s.nodeSt m) ∧
      t.node m = (if why = 0 then { missed := old.missed, aged := old.aged, joins := old.joins, cfg := some asked } else old) ∧
      t = { s with regs := t.regs, host := t.host, hostMem := t.hostMem, net := { s.net with nodes := t.net.nodes } }) ∧
    (Accepts s 0x0900 d → d.fb 1 10 = true →
      let still (why : Nat) : Prop := ∃ t, Answers (.nodeCfg d) d s t (decide (why ≠ 0)) (why * 2 ^ 24) ∧ OnlyRing d s t [] ∧
        t = { s with regs := t.regs, host := t.host, hostMem := t.hostMem }
      ((s.node m).cfg = none → still 0) ∧
      (∀ c, (s.node m).cfg = some c → busy m → s.nodeIdle c = false → still 2) ∧
      (∀ c, (s.node m).cfg = some c → ¬ (busy m ∧ s.nodeIdle c = false) → ∃ t, Answers (.nodeCfg d) d s t false 0 ∧ t.nodeSt m = 0 ∧
        t.node m = {} ∧ others t m ∧ loads t ∧
        (¬ onLink m → OnlyRing d s t [nodeReg m, A.netHalLoad] ∧
          t = { s with regs := t.regs, host := t.host, hostMem := t.hostMem, net := { s.net with nodes := t.net.nodes } }) ∧
        (onLink m → (∀ i, i < c.count → (t.axis (c.base + i)).left = true ∧ (t.axis (c.base + i)).faulted = true) ∧
          (m = n.val → leftEvent t c 3)))) ∧
    -- NODE_IO
    (Accepts s 0x0901 d →
      let why := match (s.node m).cfg with | none => 1 | some c => if c.owner = 0xFF then 0 else 6
      let byte (i : Nat) : Byte := if i < 8 * (d.len.val - 1) then BitVec.ofNat 8 (d.n (2 + i / 8) / 256 ^ (i % 8)) else (s.node m).output.getD i 0
      ∃ t, Answers (.nodeIo d) d s t (decide (why ≠ 0)) (why * 2 ^ 24) ∧ OnlyRing d s t [] ∧ others t m ∧ t.nodeSt m = s.nodeSt m ∧
        t.node m = (if why = 0 then { s.node m with output := (upto (((s.node m).cfg.map (·.ioOut)).getD 0)).map byte } else s.node m) ∧
        t = { s with regs := t.regs, host := t.host, hostMem := t.hostMem, net := { s.net with nodes := t.net.nodes } }) ∧
    -- NE that does not work takes nothing
    (¬ works → exec (.discover) s = .next s ∧ exec (.announce p a) s = .next s ∧ exec (.joinReq n) s = .next s ∧
      exec (.joinAck p mac n) s = .next s ∧ exec (.joinTimeout n) s = .next s ∧ exec (.reply p r) s = .next s ∧
      exec (.leave p mac) s = .next s ∧ exec (.partnerWatchdog n) s = .next s) ∧
    (works →
      -- frames that NE sends
      (let ether (o : Fin 2) (dst : Nat) : List Byte := beBytes 6 dst ++
        beBytes 6 ((s.reg (A.netPortMacLo o.val)).toNat + s.get (F.netPortMacHi_MAC o.val) * 2 ^ 32) ++
        (if s.getB (F.netPortCfg_VLAN o.val) then [0x81, 0x00] ++ beBytes 2 (s.get (F.netPortCfg_PCP o.val) * 2 ^ 13 + s.get (F.netPortCfg_VID o.val))
          else []) ++ beBytes 2 (s.get F.netHalCfg_ETHERTYPE)
       let sent (t : State) (o : Fin 2) : List Byte := Table.look [] t.net.lastTx o.val
       -- DISCOVER
       (let sec := s.clk.clk / (2 ^ 32 * 1000000000)
        let due : Prop := s.net.second < sec ∧ s.clk.cyc = 0
        (¬ due → exec (.discover) s = .next s) ∧
        (due → ∃ t, exec (.discover) s = .next t ∧ only t [A.netPortTxFrames 0, A.netPortTxFrames 1] ∧ t.host = s.host ∧
          t.net = { s.net with second := sec, lastTx := t.net.lastTx } ∧
          ∀ o : Fin 2, let on : Prop := s.portMode o.val = 2 ∧ s.linkUp o.val = true
            t.reg (A.netPortTxFrames o.val) = s.reg (A.netPortTxFrames o.val) + (if on then 1 else 0) ∧
            sent t o = if on then ether o 0x03E9A0484C00 ++ [0x13, 0, 0, 0] ++ leBytes 8 s.tickNo ++ [0xFF, 0, 0, 0] else sent s o)) ∧
       -- JOIN_REQ
       (let due : Prop := x.cfg.isSome = true ∧ x.invite = true ∧ (st = 1 ∨ st = 5) ∧ x.seenIn.getD 0 < now ∧ s.clk.cyc = 0
        (¬ due → exec (.joinReq n) s = .next s) ∧
        (∀ c, x.cfg = some c → due → ∃ t, exec (.joinReq n) s = .next t ∧ t.nodeSt n.val = 2 ∧ others t n.val ∧ t.host = s.host ∧
          t.node n.val = { x with invite := false, joinDue := now + s.get F.netHalCfg_JOIN_TICKS } ∧
          only t [nodeReg n.val, A.netPortTxFrames x.port] ∧ t.net = { s.net with nodes := t.net.nodes, lastTx := t.net.lastTx } ∧
          t.reg (A.netPortTxFrames x.port) = s.reg (A.netPortTxFrames x.port) + 1 ∧
          (∀ o : Fin 2, x.port = o.val → sent t o = ether o x.mac ++ [0x15, 0, 16, 0] ++ leBytes 8 s.tickNo ++ [BitVec.ofNat 8 n.val, 0, 0, 0] ++
            [BitVec.ofNat 8 n.val, BitVec.ofNat 8 s.ftSel, BitVec.ofNat 8 c.wd, BitVec.ofNat 8 c.count, BitVec.ofNat 8 c.ioIn,
              BitVec.ofNat 8 c.ioOut, if c.tse then 1 else 0, 0] ++
            leBytes 4 (s.reg A.netHalSample).toNat ++ leBytes 4 (s.reg A.netHalApply).toNat)))) ∧
      -- ANNOUNCE
      (let macA := a.mac.toNat
       let gone : Prop := ∃ e, e ∈ s.nodes ∧ (s.node e.1).mac = macA ∧ (s.node e.1).leftIn = some step'
       let mine := (s.linkNodes p.val).filter (fun e => (s.node e.1).mac == macA)
       let matched (e : Nat × NodeCfg) : Bool := (s.nodeSt e.1 == 1 || s.nodeSt e.1 == 5) && (e.2.port == p.val || e.2.port == 2) &&
        e.2.vendor == a.vendor.toNat && e.2.product == a.product.toNat && (e.2.serial == 0 || e.2.serial == a.serial.toNat)
       (s.portMode p.val ≠ 2 ∨ gone → counted (.announce p a)) ∧
       (s.portMode p.val = 2 → ¬ gone →
        (∀ c, x.cfg = some c → mine = [(n.val, c)] → ∃ t, exec (.announce p a) s = .next t ∧ rx t ∧ leftEvent t c 5 ∧
          (t.node n.val).leftBy = 5 ∧ (t.nodeSt n.val = 1 ∨ t.nodeSt n.val = 5) ∧
          ∀ i, i < c.count → (t.axis (c.base + i)).left = true ∧ (t.axis (c.base + i)).faulted = true) ∧
        (mine = [] → s.nodes.filter matched = [] →
          (let again : Prop := ∃ e, s.net.seenMacs.find? (fun e => e.1 == macA) = some e ∧ s.nowNs < e.2 + 60000000000
           (again → counted (.announce p a)) ∧
           (¬ again → ∃ t, exec (.announce p a) s = .next t ∧ rx t ∧ only t (A.hriEvtLost :: rxRegs) ∧
            t.net = { s.net with seenMacs := s.net.seenMacs.filter (fun e => e.1 != macA) ++ [(macA, s.nowNs)] } ∧
            evs t [event 0x0901 sevInfo 0x897F (macA + p.val * 2 ^ 48 + a.vendor.toNat * 2 ^ 64 + a.product.toNat * 2 ^ 96)]))) ∧
        (∀ c, x.cfg = some c → mine = [] → (s.nodes.filter matched).head? = some (n.val, c) →
          (x.seenIn = some step' → x.mac < macA → counted (.announce p a)) ∧
          (¬ (x.seenIn = some step' ∧ x.mac < macA) → ∃ t, exec (.announce p a) s = .next t ∧ rx t ∧ others t n.val ∧
            t.net = { s.net with nodes := t.net.nodes } ∧ only t (A.hriEvtLost :: nodeReg n.val :: rxRegs) ∧
            let load := s.loadOf p.val (s.linkWith p.val n.val)
            let fits : Prop := c.count ≤ a.axes.toNat ∧ c.ioIn ≤ a.ioIn.toNat ∧ c.ioOut ≤ a.ioOut.toNat ∧ (c.tse = true → a.caps.getLsbD 0 = true)
            let loaded : Prop := load ≤ 20 * s.get F.clkHalCutAct_CUT_ACT ∧ (s.frameLens p.val ((s.linkWith p.val n.val).map sectionLen)).length ≤ 4
            let pass : Prop := fits ∧ loaded ∧ s.ioFits n.val c = true
            let cause := if ¬ fits then 0 else if ¬ loaded then 1 else 2
            t.node n.val = { x with
              mac := macA
              port := p.val
              axes := a.axes.toNat
              caps := a.caps.toNat
              serial := a.serial.toNat
              seenIn := some step'
              invite := decide pass
              refused := if pass then x.refused else cause } ∧
            t.nodeSt n.val = (if pass then st else 5) ∧
            evs t (if pass ∨ x.refused = cause then [] else [event 0x0904 sevWarn (ctrl n.val) (cause + load / 10 % 2 ^ 32 * 2 ^ 32)]))))) ∧
      -- JOIN_ACK, the join timer and the watchdog
      (let mineO := s.nodes.filter (fun e => e.2.owner == ((x.cfg.map (·.owner)).getD 0) && decide (e.1 < n.val))
       let up8 (b : Nat) := (b + 7) / 8 * 8
       let ok : Prop := x.cfg.isSome = true ∧ s.portMode p.val = 2 ∧ st = 2 ∧ x.mac = mac.toNat ∧ x.port = p.val ∧ step' ≤ x.joinDue
       (¬ ok → counted (.joinAck p mac n)) ∧
       (∀ c, x.cfg = some c → ok → ∃ t, exec (.joinAck p mac n) s = .next t ∧ rx t ∧ t.nodeSt n.val = 3 ∧ others t n.val ∧ loads t ∧
        t.node n.val = { x with
          wdDue := step' + c.wd
          inOfs := (mineO.map (fun e => up8 e.2.ioIn)).sum
          outOfs := (mineO.map (fun e => up8 e.2.ioOut)).sum
          tseNew := false } ∧
        t.net = { s.net with nodes := t.net.nodes } ∧ t.host = s.host ∧ only t (A.netHalLoad :: nodeReg n.val :: rxRegs))) ∧
      (let fails (i : Instr) : Prop := ∃ t, exec i s = .next t ∧ t.nodeSt n.val = 1 ∧ others t n.val ∧ loads t ∧
        t.node n.val = { x with refused := 3, invite := false } ∧ t.net = { s.net with nodes := t.net.nodes } ∧
        only t [A.netHalLoad, nodeReg n.val, A.hriEvtLost] ∧
        evs t [event 0x0904 sevWarn (ctrl n.val) (3 + s.loadOf x.port (s.linkWith x.port n.val) / 10 % 2 ^ 32 * 2 ^ 32)]
       let due : Prop := (st = 2 ∧ x.joinDue < step') ∨ (st = 3 ∧ x.wdDue < step')
       (due → fails (.joinTimeout n)) ∧ (¬ due → exec (.joinTimeout n) s = .next s) ∧
       (st = 3 → x.wdDue < step' → fails (.partnerWatchdog n)) ∧
       (¬ onLink n.val ∨ step' ≤ x.wdDue → exec (.partnerWatchdog n) s = .next s) ∧
       (∀ c, x.cfg = some c → st = 4 → x.wdDue < step' → ∃ t, exec (.partnerWatchdog n) s = .next t ∧ left t c 0 none ∧ leftEvent t c 0 ∧
        others t n.val ∧ loads t)) ∧
      -- REPLY
      (let found := s.nodes.find? (fun e => (s.nodeSt e.1 == 3 || s.nodeSt e.1 == 4) && (s.node e.1).mac == r.mac.toNat && (s.node e.1).port == p.val)
       (found = none → counted (.reply p r)) ∧
       (∀ c, x.cfg = some c → found = some (n.val, c) →
        let valid : Prop := r.node.toNat = n.val ∧ r.axes.length = c.count ∧ r.input.length = c.ioIn ∧
          r.tse.length = (if c.tse then 32 else 0) ∧ (r.tick.toNat = k ∨ r.tick.toNat + 1 = k)
        (x.wdDue < step' → counted (.reply p r)) ∧
        (step' ≤ x.wdDue → ¬ valid → ∃ t, exec (.reply p r) s = .next t ∧ rx t ∧ only t (A.netPortLate p.val :: rxRegs) ∧ t.net = s.net ∧
          t.host = s.host ∧ t.get (F.netPortLate_REPLY_LATE p.val) = min (s.get (F.netPortLate_REPLY_LATE p.val) + 1) 65535 ∧
          t.get (F.netPortLate_LAUNCH_LATE p.val) = s.get (F.netPortLate_LAUNCH_LATE p.val)) ∧
        (step' ≤ x.wdDue → valid → ∃ t, exec (.reply p r) s = .next t ∧ rx t ∧ others t n.val ∧ t.nodeSt n.val = 4 ∧
          t.net = { s.net with nodes := t.net.nodes } ∧
          t.node n.val = { x with
            wdDue := step' + c.wd
            lastTick := r.tick.toNat
            fresh := if r.tick.toNat = k then some r else x.fresh
            old := if r.tick.toNat = k then x.old else some r
            joins := if st = 3 then min (x.joins + 1) 65535 else x.joins
            refused := if st = 3 then 0xFF else x.refused
            input := if c.owner = 0xFF then r.input else x.input } ∧
          (st = 3 → ∀ i, i < c.count → (t.axis (c.base + i)).left = false) ∧
          evs t (if st = 3 then [event 0x0902 sevInfo (ctrl n.val) (r.mac.toNat + p.val * 2 ^ 48 + c.count % 2 ^ 8 * 2 ^ 56)] else []) ∧
          (∀ q, q ∉ (A.hriEvtLost :: nodeReg n.val :: rxRegs) → t.reg q = s.reg q) ∧
          t = { s with
            regs := t.regs
            host := { s.host with evBuf := t.host.evBuf, evDropped := t.host.evDropped }
            net := t.net
            plan := if st = 3 then t.plan else s.plan }))) ∧
      -- LEAVE
      (let mine := (s.linkNodes p.val).filter (fun e => (s.node e.1).mac == mac.toNat)
       (mine = [] → counted (.leave p mac)) ∧
       (∀ c, x.cfg = some c → onLink n.val → x.port = p.val → x.mac = mac.toNat → ∃ t, exec (.leave p mac) s = .next t ∧ rx t ∧
        left t c 1 (some step') ∧ (mine.length = 1 → leftEvent t c 1 ∧ others t n.val ∧ loads t)))) ∧
    -- the link of a Halyard port
    (∀ c, x.cfg = some c → onLink n.val → x.port = p.val → s.portMode p.val = 2 → s.linkUp p.val = true → up = false ∨ (speed.val = 2 ∧
        s.get (F.netPortStatus_SPEED p.val) ≠ 2) →
      ∃ t, exec (.linkChange p up speed) s = .next t ∧ left t c (if up then 6 else 2) none)

/-- R462 to R477: the Shroud tick, its inputs and resets (spec/13_shroud_safety.md). -/
def Obligations.ShroudInputs : Prop :=
  ∀ (p : Fin 8) (b level srcB : Bool) (dark : BitVec 16) (z : Fin 16) (m : ShroudSample) (s : State),
    let c := s.scfg
    let pc := c.pair p.val
    let x := s.pairIn p.val
    let step := s.shr.tick + 1
    let room : Prop := s.host.evBuf.length < 256
    let event (code sev data ctrl time payload : Nat) : Event :=
      { code := BitVec.ofNat 16 code, sev := sev, data := BitVec.ofNat 16 data, ctrl := BitVec.ofNat 16 ctrl, time := BitVec.ofNat 64 time
        payload := BitVec.ofNat 128 payload }
    let first (t : State) (e : Event) : Prop := room → t.host.evBuf[s.host.evBuf.length]? = some e
    let demanding (k : Nat) (chB l : Bool) : Bool := if k = 1 then !l else if k = 2 then (if chB then l else !l) else l
    let mine (v : State) (i : Nat) : List Nat := (v.scfg.zones.filter (fun e => e.2.rst == .pair i)).map (·.1)
    -- a pair after a fault: whether its channels stand in the demand, or released, state together
    let faulted (v : State) (i : Nat) : PairIn :=
      let y := v.pairIn i
      let k := (v.scfg.pair i).kind
      if y.fault then y else
      { y with
        fault := true
        left := none
        press := none
        seen := (demanding k false y.a != (k == 3)) && (demanding k true y.b != (k == 3)) }
    let pairEvent (why' : Nat) : Event := event 0x0A02 sevFault 0 (0x9800 + p.val) s.nowNs (p.val + why' * 2 ^ 8)
    -- an input channel
    (let y : PairIn := { x with a := if b then x.a else level, b := if b then level else x.b }
     let demA := demanding pc.kind false y.a
     let demB := demanding pc.kind true y.b
     let agree : Prop := pc.kind ≠ 0 ∧ demA = demB
     let lateBy : Prop := ∃ i, x.left = some i ∧ i + pc.dt < step
     let fails : Prop := agree ∧ lateBy ∧ x.fault = false
     let rest := if pc.kind = 3 then !demA else demA
     let seen0 := if fails then rest else x.seen
     let fault := x.fault || decide fails
     let seen := fault && (seen0 || rest)
     let press0 := if fails then none else x.press
     let pressed : Prop := pc.kind = 3 ∧ agree ∧ demA = true ∧ x.state ≠ demA ∧ (fault = true → seen0 = true)
     let released : Prop := pc.kind = 3 ∧ agree ∧ demA = false
     let edge : Prop := released ∧ x.jammed = false ∧ ∃ r, press0 = some r ∧ r + 50 ≤ step ∧ step ≤ r + 500
     ∃ t, exec (.safetyInputChange p b level) s = .next t ∧
      t.pairIn p.val = (if pc.kind = 0 then y
        else if demA ≠ demB then (if x.fault then y else { y with left := some (x.left.getD step) })
        else { y with
          state := demA
          left := none
          fault := fault && !decide edge
          seen := seen && !decide edge
          press := if pressed then some step else if released then none else press0
          jammed := if pressed ∨ released then false else x.jammed }) ∧
      (∀ i : Fin 8, i ≠ p → t.pairIn i.val = s.pairIn i.val) ∧
      (∀ w : Fin 16, t.zone w.val = if edge ∧ (mine s p.val).contains w.val then { s.zone w.val with edge := true } else s.zone w.val) ∧
      (room → t.host.evBuf = s.host.evBuf ++ if fails then [pairEvent 0] else []) ∧ (∀ a, a ∉ [A.hriEvtLost] → t.reg a = s.reg a) ∧
      t = { s with
        regs := t.regs
        host := { s.host with evBuf := t.host.evBuf, evDropped := t.host.evDropped }
        shr := { s.shr with pairs := t.shr.pairs, zones := t.shr.zones } }) ∧
    (s.pairDemand p.val = true ↔ (pc.kind = 1 ∨ pc.kind = 2) ∧ (x.fault = true ∨ demanding pc.kind false x.a = true ∨ demanding pc.kind true x.b = true)) ∧
    -- the discrepancy timer
    ((∀ i, x.left = some i → s.shr.tick ≤ i + pc.dt) → exec (.discrepancyTimeout p) s = .next s) ∧
    (∀ i, x.left = some i → i + pc.dt < s.shr.tick → ∃ t, exec (.discrepancyTimeout p) s = .next (jtagWatch s t) ∧
      t.pairIn p.val = faulted s p.val ∧ (∀ i : Fin 8, i ≠ p → t.pairIn i.val = s.pairIn i.val) ∧ (x.fault = false → first t (pairEvent 0)) ∧
      (s.shrState = 2 → FnsStepped (s.updPairIn p.val (fun _ => faulted s p.val)) t) ∧
      (s.shrState ≠ 2 → (∀ a, a ∉ [A.hriEvtLost] → t.reg a = s.reg a) ∧ t = { s with
        regs := t.regs
        host := { s.host with evBuf := t.host.evBuf, evDropped := t.host.evDropped }
        shr := { s.shr with pairs := t.shr.pairs } })) ∧
    -- a dark pulse of a source
    (let went (i : Nat) (ch : Bool) : Bool := dark.getLsbD (2 * i + if ch then 1 else 0)
     let own (i : Nat) := if srcB then (s.pairIn i).b else (s.pairIn i).a
     let other (i : Nat) := if srcB then (s.pairIn i).a else (s.pairIn i).b
     let fails (i : Nat) : Prop := (c.pair i).test = true ∧ (c.pair i).kind ≠ 0 ∧
      ((own i = true ∧ went i srcB = false) ∨ (other i = true ∧ went i (!srcB) = true))
     ∃ t, exec (.inputTestPulse srcB dark) s = .next t ∧
      (∀ i : Fin 8, t.pairIn i.val = if fails i.val then faulted s i.val else s.pairIn i.val) ∧
      ((∀ i : Fin 8, fails i.val → i = p ∨ (s.pairIn i.val).fault = true) → fails p.val → x.fault = false →
        first t (pairEvent (if own p.val && !went p.val srcB then 1 else 2))) ∧
      (∀ a, a ∉ [A.hriEvtLost] → t.reg a = s.reg a) ∧
      t = { s with
        regs := t.regs
        host := { s.host with evBuf := t.host.evBuf, evDropped := t.host.evDropped }
        shr := { s.shr with pairs := t.shr.pairs } }) ∧
    -- a reset press that lasts
    (let zone := c.zones.find? (fun e => e.1 == z.val)
     let press (r : RstSrc) : Option Nat := match r with | .pair i => (s.pairIn i).press | .tse i => (s.tseC i).press
     let jammed (v : State) (r : RstSrc) : Bool := match r with | .pair i => (v.pairIn i).jammed | .tse i => (v.tseC i).jammed
     let due : Prop := ∃ e, zone = some e ∧ jammed s e.2.rst = false ∧ ∃ r, press e.2.rst = some r ∧ r + 500 ≤ s.shr.tick
     (¬ due → exec (.resetWindowExpiry z) s = .next s) ∧
     (∀ e, zone = some e → due → ∃ t, exec (.resetWindowExpiry z) s = .next t ∧ jammed t e.2.rst = true ∧
      t.shr.zones = s.shr.zones ∧ (∀ i : Fin 8, e.2.rst ≠ .pair i.val → t.pairIn i.val = s.pairIn i.val) ∧
      (∀ i : Fin 8, e.2.rst = .pair i.val → t.pairIn i.val = { s.pairIn i.val with jammed := true }) ∧
      (∀ i : Fin 127, e.2.rst ≠ .tse i.val → t.tseC i.val = s.tseC i.val) ∧
      (∀ i : Fin 127, e.2.rst = .tse i.val → t.tseC i.val = { s.tseC i.val with jammed := true }) ∧
      (c.zones.filter (fun w => w.2.rst == e.2.rst) = [e] →
        let src := match e.2.rst with | .pair i => 0x9800 + i | .tse i => 0x9980 + i
        first t (event 0x0A03 sevWarn (if e.2.line then 0x1000 else 0) src s.nowNs (e.1 + 2 ^ 8))) ∧
      (∀ a, a ∉ [A.hriEvtLost] → t.reg a = s.reg a) ∧
      t = { s with
        regs := t.regs
        host := { s.host with evBuf := t.host.evBuf, evDropped := t.host.evDropped }
        shr := { s.shr with pairs := t.shr.pairs, conns := t.shr.conns } })) ∧
    -- a configuration in force
    (let inForce (t : State) (y : SafetyCfg × Nat) : Prop := t.shrState = 2 ∧ t.shr.cfg = some y ∧ t.shr.apply = none ∧
       t.get F.shrCfgCrc_CFG_CRC = y.2 % 2 ^ 32 ∧ t.getB F.shrStatus_CFG_VALID = true ∧
       ((y.1.fns.map (·.1)).Nodup → ∀ e, e ∈ y.1.fns → (t.fn e.1).sto = true ∧ (t.fn e.1).host = (s.fn e.1).host) ∧
       (∀ e, e ∈ y.1.zones → (t.zone e.1).sto = true ∧ (t.zone e.1).acked = false)
     -- start-up
     (s.shr.started = true → exec (.shroudStartUp) s = .next s) ∧
     (s.shr.started = false → s.shrState ≠ 3 →
      (s.shr.store = none → ∃ t, exec (.shroudStartUp) s = .next (jtagWatch s t) ∧ t.shr.started = true ∧ t.shrState = 1 ∧
        t.getB F.shrStatus_STO_ALL = true) ∧
      (∀ y, s.shr.store = some y → ∃ t, exec (.shroudStartUp) s = .next (jtagWatch s t) ∧ t.shr.started = true ∧ inForce t y ∧
        ((y.1.fns.map (·.1)).Nodup → ∀ e, e ∈ y.1.fns → (t.fn e.1).state = 3))) ∧
     -- a tick
     (let w := s.atCyc m.cyc
      let late := if m.agree then 0 else s.shr.disagree + 1
      let cause := if m.selfTest = false then 2 else if 2 ≤ late then 1 else 0
      let ticked (t : State) : Prop := t.shr.tick = step ∧ t.reg A.shrTick = s.reg A.shrTick + 1 ∧ t.shr.disagree = late
      let log (v : State) (kind ring old new detail : Nat) : LogEntry :=
        { no := s.get F.shrLogCount_ENTRY + 1, time := w.nowNs, kind := kind, ring := ring, lc := v.lc, oldCrc := old, newCrc := new, detail := detail }
      (s.shr.started = false → ∃ t, exec (.shroudTick m) s = .next (jtagWatch s t) ∧ ticked t ∧
        t.shrState = (if cause ≠ 0 then 3 else s.shrState) ∧ t.shr.zones = s.shr.zones ∧ t.shr.fns = s.shr.fns) ∧
      (s.shr.started = true → s.shr.apply = none → s.shrState ≠ 3 → cause ≠ 0 → ∃ t, exec (.shroudTick m) s = .next (jtagWatch s t) ∧
        ticked t ∧ t.shrState = 3 ∧ t.get F.shrFault_CAUSE = cause ∧ (∀ e, e ∈ c.zones → (t.zone e.1).sto = true) ∧
        t.getB F.shrStatus_STO_ALL = true ∧ t.get F.shrStoCmd_TORQUE = 0 ∧ (∀ q, q < 4 → (t.outP q).on = false) ∧
        t.shr.log = (log s 0x0A 0xFF 0 0 cause :: s.shr.log).take 256 ∧ first t (event 0x0A08 sevFault 0 0xEFFF w.nowNs cause)) ∧
      (∀ y, s.shr.apply = some y → s.shr.started = true → cause = 0 → s.shrState ≠ 3 → ∃ t, exec (.shroudTick m) s = .next (jtagWatch s t) ∧
        ticked t ∧ inForce t (y.1, y.2.1) ∧ t.shr.log = (log s 5 y.2.2 (s.get F.shrCfgCrc_CFG_CRC) y.2.1 0 :: s.shr.log).take 256 ∧
        first t (event 0x0A0A sevInfo 0 0xEFFF w.nowNs (y.2.1 % 2 ^ 32 + s.get F.shrCfgCrc_CFG_CRC * 2 ^ 32))) ∧
      (s.shr.started = true → s.shr.apply = none → cause = 0 → s.shrState = 2 →
        -- the state before the samples, after them, and after what the tests, connections and resets have done
        let v := (w.updShr (fun y => { y with tick := step, disagree := late })).bump F.shrTick_STICK
        let i := forEach c.axes (safeStep m) v
        let j := tseLeft (soReadback m (stoReadback m i))
        let k := shrTests m j
        let n := if s.shr.deviceSto then forEach (c.zones.map (·.1)) (fun e o => o.updZone e (fun y => { y with held := true })) k else k
        let u := forEach ((c.zones.filter (fun e => (n.zone e.1).edge)).map (·.1)) resetEdge n
        (∃ t, exec (.shroudTick m) s = .next (jtagWatch s t) ∧ ticked t ∧ FnsStepped u t ∧
          (∀ e, e ∈ c.zones → (s.zone e.1).sto = false → (t.zone e.1).sto = true → (∃ o, o ∈ c.zones ∧ (t.zone o.1).sto = false) →
            ∀ a, a ∈ s.zoneAxes e.1 → ∀ g, s.groupOf a = some g → s.gst g ≠ gIdle → (s.axis a).faulted = false → t.gst g = gFaulted)) ∧
        -- the safe axes
        ((c.axes.map (·.1)).Nodup → ∀ e, e ∈ c.axes →
          let y := s.sa e.1
          let n1 := Table.look 0 m.counts0 e.2.fb1
          let n2 := Table.look 0 m.counts1 (if e.2.src = 1 then e.2.fb1 else e.2.fb2)
          (e.2.src = 2 → i.sa e.1 = { y with d1 := y.pos, speed := (y.pos - y.d1) * 1000 }) ∧
          (e.2.src ≠ 2 → y.c1 = none → i.sa e.1 = { y with c1 := some n1, c2 := n2 }) ∧
          (∀ o, y.c1 = some o → e.2.src ≠ 2 →
            let d1 := y.d1 + (n1 - o).toInt
            let d2 := y.d2 + (n2 - y.c2).toInt
            let run := if e.2.src = 0 ∧ (e.2.posTol : Int) * e.2.den < (d1 * e.2.den - d2 * e.2.num).natAbs then y.run + 1 else 0
            i.sa e.1 = { y with
              c1 := some n1
              c2 := n2
              d1 := d1
              d2 := d2
              pos := y.pos + (n1 - o).toInt
              speed := (n1 - o).toInt * 1000
              run := run
              disc := y.disc || decide (2 ≤ run)
              fault := y.fault || decide (2 ≤ run) })) ∧
        -- readbacks
        (∀ o, o < s.slots →
          let cmd := (s.get F.shrStoCmd_TORQUE).testBit o
          let ran := Table.look (0, 0) s.shr.stoRun o
          let na := if m.stoA.getLsbD o = cmd then 0 else ran.1 + 1
          let nb := if m.stoB.getLsbD o = cmd then 0 else ran.2 + 1
          Table.look (0, 0) j.shr.stoRun o = (na, nb) ∧
          ((j.get F.shrStoFault_FAULT).testBit o = true ↔ (s.get F.shrStoFault_FAULT).testBit o = true ∨ 2 ≤ na ∨ 2 ≤ nb)) ∧
        (∀ q : Fin 4,
          let o := s.outP q.val
          let count (hi : Bool) (r : Nat) := if hi && !o.on then r + 1 else 0
          let high := (count (m.outA.getLsbD q.val) o.high.1, count (m.outB.getLsbD q.val) o.high.2)
          let y : OutPair := { o with high := high, rbA := m.outA.getLsbD q.val, rbB := m.outB.getLsbD q.val, offA := false, offB := false }
          j.outP q.val = if (2 ≤ high.1 ∨ 2 ≤ high.2) ∧ o.fault = false then { y with fault := true, on := false } else y) ∧
        -- reset edges
        ((∀ e, e ∈ c.zones → (n.zone e.1).edge = false) → u = n) ∧
        (∀ e, e ∈ c.zones → c.zones.filter (fun o => (n.zone o.1).edge) = [e] →
          let zone := e.1
          let fns := c.fns.filter (fun o => o.2.zone == zone)
          u.zone zone = { n.zone zone with acked := true, edge := false, held := s.shr.deviceSto } ∧
          (∀ i : Fin 8, u.pairIn i.val = if (n.pairIn i.val).fault = true ∧ (n.pairIn i.val).seen = true ∧ fns.any (fun o => o.2.pairs.testBit i.val) = true
            then { n.pairIn i.val with fault := false, seen := false } else n.pairIn i.val) ∧
          (∀ i : Fin 127, u.tseC i.val = if (n.tseC i.val).state = 2 ∧ c.conns.any (fun o => o.1 == i.val && o.2.zone == zone) = true
            then { n.tseC i.val with hold := false } else n.tseC i.val) ∧
          (∀ i : Fin 24, (u.get F.shrStoFault_FAULT).testBit i.val = ((n.get F.shrStoFault_FAULT).testBit i.val &&
            !(e.2.slots.testBit i.val && decide (Table.look (0, 0) n.shr.stoRun i.val = (0, 0)) && decide (c.zones.find? (fun o => o.1 == zone) = some e)))) ∧
          ((c.axes.map (·.1)).Nodup → ∀ o, o ∈ c.axes →
            let gone : Prop := (n.zoneSafe zone).any (fun y => y.1 == o.1) = true ∧ (n.sa o.1).fault = true ∧
              (o.2.src = 2 → ∃ y, y ∈ c.conns ∧ y.2.axmap.any (fun a => a == some o.1) = true ∧ (n.tseC y.1).state = 2)
            u.sa o.1 = if gone then { n.sa o.1 with
              fault := false
              disc := false
              run := 0
              d1 := if o.2.src = 2 then (n.sa o.1).d1 else 0
              d2 := 0 } else n.sa o.1) ∧
          (∀ i : Fin 4, u.outP i.val = if (n.outZones i.val).contains zone = true ∧ (n.outP i.val).fault = true ∧ (n.outP i.val).high = (0, 0)
            then { n.outP i.val with fault := false } else n.outP i.val) ∧
          ((c.fns.map (·.1)).Nodup → ∀ o, o ∈ c.fns →
            let clears : Prop := o.2.zone = zone ∧ u.zoneDemand zone = false ∧ u.fnDemand o.2 (n.fn o.1) = false ∧
              ((n.fn o.1).state = 3 ∨ (n.fn o.1).state = 4)
            (o.2.func ≠ 7 → u.fn o.1 = if clears then { host := (n.fn o.1).host } else n.fn o.1))))))

/-- R479 to R489 and R496: the Shroud's timers, outputs, connections and tests (spec/13_shroud_safety.md). -/
def Obligations.ShroudFunctions : Prop :=
  ∀ (k : Fin 32) (q : Fin 4) (fell b : Bool) (cyc : Nat) (c : Fin 127) (rsv : BitVec 30) (rest : BitVec 31) (m : ShroudSample)
      (s : State),
    let cfg := s.scfg
    let room : Prop := s.host.evBuf.length < 256
    let tick := s.shr.tick
    let event (code sev data ctrl time payload : Nat) : Event :=
      { code := BitVec.ofNat 16 code, sev := sev, data := BitVec.ofNat 16 data, ctrl := BitVec.ofNat 16 ctrl, time := BitVec.ofNat 64 time
        payload := BitVec.ofNat 128 payload }
    let first (t : State) (e : Event) : Prop := room → t.host.evBuf[s.host.evBuf.length]? = some e
    let data (z : Nat) : Nat := if cfg.zones.any (fun e => e.1 == z && e.2.line) then 0x1000 else 0
    -- what SHR.SO_STATE shows of an output pair
    let shows (t : State) (j : Nat) : Prop :=
      let y := t.outP j
      let dark (d : Option Nat) : Bool := match d with
        | none => false
        | some a => decide (t.nowNs < a + 300000)
      let v (x : Bool) (n : Nat) : Nat := if x then 2 ^ n else 0
      bits (t.reg A.shrSoState) (8 * j + 7) (8 * j) =
        v y.fault 7 + v (dark y.darkA || dark y.darkB) 6 + v y.rbB 5 + v y.rbA 4 + v y.on 3 + v y.on 2 + (cfg.out j).use
    -- an output pair alone has changed since `v`
    let outOnly (v t : State) (j : Nat) (y : OutPair) : Prop :=
      t.outP j = y ∧ (∀ i : Fin 4, i.val ≠ j → t.outP i.val = s.outP i.val) ∧ (j < 4 → shows t j) ∧
      t = { v with
        regs := t.regs
        host := { s.host with evBuf := t.host.evBuf, evDropped := t.host.evDropped }
        shr := { s.shr with outs := t.shr.outs } }
    let inst := cfg.fns.find? (fun e => e.1 == k.val)
    -- the timers of an instance
    (let x := s.fn k.val
     let again (i : Instr) (due : FnCfg → Prop) (y : FnCfg → FnSt) : Prop :=
       ((∀ e, inst = some e → ¬ due e.2) → exec i s = .next s) ∧
       (∀ e, inst = some e → due e.2 → ∃ t, exec i s = .next (jtagWatch s t) ∧
         (s.shrState = 2 → FnsStepped (s.updFn k.val (fun _ => y e.2)) t) ∧ (s.shrState ≠ 2 → t = s.updFn k.val (fun _ => y e.2)))
     again (.stopComplete k) (fun f => (f.func = 2 ∨ f.func = 3) ∧ x.state = 2 ∧ x.onset + x.env.1 + x.env.2 ≤ tick)
       (fun f => if f.func = 2 then { x with state := 3, sto := true }
         else { x with state := 3, sos := true, pos := (s.zoneSafe f.zone).map (fun y => (y.1, (s.sa y.1).pos)) }) ∧
     again (.slsReact k) (fun f => f.func = 5 ∧ x.state = 1 ∧ x.onset + f.tReact ≤ tick) (fun _ => { x with live := true })) ∧
    (let due (f : FnCfg) : Prop := f.func = 7 ∧ ∃ d, (s.outP f.out).brakeDue = some d ∧ d ≤ tick
     ((∀ e, inst = some e → ¬ due e.2) → exec (.brakeDelay k) s = .next s) ∧
     (∀ e, inst = some e → due e.2 → ∃ t, exec (.brakeDelay k) s = .next t ∧
       outOnly s t e.2.out { s.outP e.2.out with on := false, brakeDue := none })) ∧
    -- output channels
    (let o := s.outP q.val
     let w := s.atCyc cyc
     let pulsed : OutPair := if b then { o with darkB := some w.nowNs } else { o with darkA := some w.nowNs }
     (o.on = false → exec (.outputTestPulse q ⟨b, fell, cyc⟩) s = .next w) ∧
     (o.on = true → ∃ t, exec (.outputTestPulse q ⟨b, fell, cyc⟩) s = .next t ∧
       outOnly w t q.val (if fell = true ∨ o.fault = true then pulsed else { pulsed with fault := true, on := false }) ∧
       (fell = false → o.fault = false → first t (event 0x0A06 sevFault (data ((s.outZones q.val).headD 16)) (0x9880 + q.val) w.nowNs q.val))) ∧
     (∃ t, exec (.fieldDriverTimeout q b) s = .next t ∧
       outOnly s t q.val (if b then { o with offB := true, rbB := false } else { o with offA := true, rbA := false })) ∧
     -- what a channel carries
     (s.outLevel q.val b = true ↔ o.on = true ∧ o.rise ≤ s.nowNs ∧ (if b then o.offB else o.offA) = false ∧
       ¬ ∃ a, (if b then o.darkB else o.darkA) = some a ∧ s.nowNs < a + 300000)) ∧
    -- TSE
    (let conn := cfg.conns.find? (fun e => e.1 == c.val)
     let x := s.tseC c.val
     let failed (t : State) (w : TseCfg) (cause : Nat) : Prop :=
       t.tseC c.val = { x with
         box := (t.tseC c.val).box
         state := 3
         cause := cause
         flying := false
         hold := true
         press := none
         faults := min 65535 (x.faults + 1) } ∧
       (∀ a : Fin 64, t.sa a.val = if w.axmap.any (fun y => y == some a.val) then { s.sa a.val with fault := true, tsePos := none } else s.sa a.val) ∧
       first t (event 0x0A05 sevFault (data w.zone) (0x9980 + c.val) s.nowNs (c.val + 256 * cause))
     let others (t : State) : Prop := ∀ i : Fin 127, i ≠ c → t.tseC i.val = s.tseC i.val
     (conn = none ∨ x.box = none → exec (.tseMessage c) s = .next s) ∧
     (∀ e, conn = some e → ∀ p, x.box = some p →
       let w := e.2
       let seq := leAt p 0 2
       let ack := leAt p 2 2
       let flag (i : Nat) : Bool := (leAt p 6 1).testBit i
       let cause : Option Nat :=
         if leAt p 28 4 ≠ (crc32c (BitVec.ofNat 32 w.connId) (p.take 28)).toNat then some 0
         else if leAt p 8 4 ≠ w.connId then some 1
         else if flag 1 = false then some 2
         else if leAt p 4 2 ≠ w.wd then some 3
         else if seq = x.rx ∧ x.rx ≠ 0 then none
         else if seq ≠ (if x.rx = 65535 then 1 else x.rx + 1) then some 4
         else if ack ≠ x.tx ∧ ack ≠ x.prev then some 5
         else none
       let live : Prop := x.state ≠ 0 ∧ x.state ≠ 3
       let active : Bool := x.state == 2 || (flag 0 && ack == 1)
       let reset : Bool := (leAt p 14 1).testBit 0
       let edge : Prop := reset = false ∧ x.reset = true ∧ x.jammed = false ∧ ∃ r, x.press = some r ∧ r + 50 ≤ tick + 1 ∧ tick + 1 ≤ r + 500
       let taken : TseSt := { x with
         box := none
         rx := seq
         acked := ack
         flying := x.flying && !(active && ack == x.tx)
         state := if active then 2 else x.state
         cause := if active then 0xFF else x.cause
         input := leAt p 12 2
         reset := reset
         press := if reset = x.reset then x.press else if reset then some (tick + 1) else none
         jammed := x.jammed && (reset == x.reset) }
       ∃ t, exec (.tseMessage c) s = .next t ∧ others t ∧ (t.tseC c.val).box = none ∧
         (¬ live → t.tseC c.val = { x with box := none } ∧ t.shr.axes = s.shr.axes) ∧
         (live → ∀ r, cause = some r → failed t w r) ∧
         (live → cause = none → seq = x.rx ∧ x.rx ≠ 0 →
           t.tseC c.val = { x with box := none, repeats := min 65535 (x.repeats + 1) } ∧ t.shr.axes = s.shr.axes) ∧
         (live → cause = none → (seq ≠ x.rx ∨ x.rx = 0) → t.tseC c.val = taken ∧
           ((w.axmap.filterMap id).Nodup → ∀ j : Fin 4, ∀ a, w.axmap.getD j.val none = some a →
             let v := leAt p (16 + 3 * j.val) 3
             t.sa a = { s.sa a with
               tsePos := some v
               pos := match (s.sa a).tsePos with
                 | some o => (s.sa a).pos + (BitVec.ofInt 24 ((v : Int) - o)).toInt
                 | none => (s.sa a).pos }) ∧
           (∀ a : Fin 64, w.axmap.any (fun y => y == some a.val) = false → t.sa a.val = s.sa a.val)) ∧
         (∀ z : Fin 16, t.zone z.val = if live ∧ cause = none ∧ (seq ≠ x.rx ∨ x.rx = 0) ∧ edge ∧
             cfg.zones.any (fun o => o.1 == z.val && o.2.rst == .tse c.val) = true
           then { s.zone z.val with edge := true } else s.zone z.val) ∧
         (∀ a, a ∉ [A.hriEvtLost] → t.reg a = s.reg a) ∧
         ((live → cause = none) → t.host = s.host ∧ t.regs = s.regs) ∧
         t = { s with
           regs := t.regs
           host := { s.host with evBuf := t.host.evBuf, evDropped := t.host.evDropped }
           shr := { s.shr with conns := t.shr.conns, axes := t.shr.axes, zones := t.shr.zones } }) ∧
     -- the watchdog of the message in transit
     (let due : Prop := x.flying = true ∧ x.wdDue ≤ tick ∧ x.state ≠ 3
      (¬ due → exec (.tseWatchdog c) s = .next s) ∧
      (∀ e, conn = some e → due → ∃ t, exec (.tseWatchdog c) s = .next (jtagWatch s t) ∧ failed t e.2 6 ∧ (t.tseC c.val).box = x.box ∧ others t ∧
        (s.shrState = 2 → FnsStepped (tseFault c.val 6 s) t) ∧ (s.shrState ≠ 2 → t = tseFault c.val 6 s))) ∧
     -- a connection starts, and goes on
     (let due (w : TseCfg) : Prop := s.nodeSt w.node = nJoined ∧ (x.state = 0 ∨ x.state = 3)
      -- the container of Table 13.5 that stands in the node's output area
      let carries (t : State) (w : TseCfg) (seq rx : Nat) (start rel : Bool) : Prop :=
        let p := (t.node w.node).tseOut
        (t.node w.node).tseNew = true ∧ p.length = 32 ∧ leAt p 0 2 = seq ∧ leAt p 2 2 = rx % 65536 ∧ leAt p 4 2 = w.wd % 65536 ∧
        leAt p 6 1 = (if start then 1 else 0) + (if rel then 0 else 4) ∧ leAt p 7 1 = 0 ∧ leAt p 8 4 = w.connId % 2 ^ 32 ∧
        leAt p 12 2 = (if rel then (2 ^ (s.connAxes w).length - 1) % 256 else 0) ∧ (∀ j : Fin 14, p.getD (14 + j.val) 1 = 0) ∧
        leAt p 28 4 = (crc32c (BitVec.ofNat 32 w.connId) (p.take 28)).toNat
      ((∀ e, conn = some e → ¬ due e.2) → exec (.tseConnectionStart c) s = .next s) ∧
      (∀ e, conn = some e → due e.2 → ∃ t, exec (.tseConnectionStart c) s = .next t ∧
        t.tseC c.val = { x with
          state := 1
          tx := 1
          rx := 0
          acked := 0
          prev := 0
          flying := true
          sent := tick + 1
          wdDue := tick + 1 + e.2.wd } ∧
        carries t e.2 1 0 true false ∧ others t ∧
        (∀ n : Fin 128, t.node n.val = if n.val = e.2.node then { s.node n.val with tseOut := (t.node n.val).tseOut, tseNew := true } else s.node n.val) ∧
        t = { s with net := { s.net with nodes := t.net.nodes }, shr := { s.shr with conns := t.shr.conns } }) ∧
      -- a tick
      (let runs : Prop := s.shr.started = true ∧ s.shr.apply = none ∧ m.selfTest = true ∧ m.agree = true ∧ s.shrState = 2 ∧
         (∀ e, e ∈ cfg.zones → (s.zone e.1).edge = false)
       let w := s.atCyc m.cyc
       let read := soReadback m (stoReadback m (forEach cfg.axes (safeStep m)
         ((w.updShr (fun y => { y with tick := tick + 1, disagree := 0 })).bump F.shrTick_STICK)))
       runs → ∃ t, exec (.shroudTick m) s = .next (jtagWatch s t) ∧
        ((cfg.conns.map (·.1)).Nodup → ∀ e, conn = some e →
          let joined : Prop := s.nodeSt e.2.node = nJoined
          ((x.state = 1 ∨ x.state = 2) → ¬ joined → t.tseC c.val = { x with
            state := 3
            cause := 7
            flying := false
            hold := true
            press := none
            faults := min 65535 (x.faults + 1) }) ∧
          (joined → x.state = 2 → x.flying = false → x.sent < tick + 1 →
            let seq := if x.tx = 65535 then 1 else x.tx + 1
            t.tseC c.val = { x with
              tx := seq
              prev := x.tx
              flying := true
              sent := tick + 1
              wdDue := tick + 1 + e.2.wd } ∧
            ((cfg.conns.map (fun o => o.2.node)).Nodup → seq < 65536 →
              carries t e.2 seq x.rx false (!(t.zone e.2.zone).sto && !x.hold))) ∧
          (joined ∨ x.state = 0 ∨ x.state = 3 → ¬ (x.state = 2 ∧ x.flying = false ∧ x.sent < tick + 1) → t.tseC c.val = x)) ∧
        -- STO_CHECK and PULSE_NOW
        t.get F.shrTest_STO_CHECK = 0 ∧ t.get F.shrTest_PULSE_NOW = 0 ∧
        (∀ n : Fin 24, (t.get F.shrStoFault_FAULT).testBit n.val = true ↔ (read.get F.shrStoFault_FAULT).testBit n.val = true ∨
          (s.getB F.shrTest_STO_CHECK = true ∧ n.val < s.slots ∧ (∃ z, s.slotZone n.val = some z ∧ (s.zone z).sto = true) ∧
            (m.checkA.getLsbD n.val = false ∨ m.checkB.getLsbD n.val = false))) ∧
        (let y := read.outP q.val
         let pulse : Prop := s.getB F.shrTest_PULSE_NOW = true ∧ y.on = true
         (t.outP q.val).darkA = (if pulse then some w.nowNs else y.darkA) ∧ (t.outP q.val).darkB = (if pulse then some w.nowNs else y.darkB) ∧
         ((t.outP q.val).fault = true ↔ y.fault = true ∨
           (pulse ∧ (m.fell.getLsbD (2 * q.val) = false ∨ m.fell.getLsbD (2 * q.val + 1) = false))) ∧
         ((t.outP q.val).fault = true → (t.outP q.val).on = false))))) ∧
    -- the register that asks for the tests
    (let open' : Prop := s.ready = true ∧ s.shr.session.isSome = true ∧ s.shr.started = true
     (open' → (∃ t, exec (.stoCheck rsv b) s = .next t ∧ t = { s with regs := t.regs } ∧ t.reg A.shrTest = (if b then 3 else 2) ∧
       ∀ a, a ∉ [A.shrTest] → t.reg a = s.reg a) ∧
      (∃ t, exec (.pulseNow rest) s = .next t ∧ t = { s with regs := t.regs } ∧ t.reg A.shrTest = (if rest.getLsbD 0 then 3 else 1) ∧
       ∀ a, a ∉ [A.shrTest] → t.reg a = s.reg a)) ∧
     (¬ open' → exec (.stoCheck rsv b) s = .next s ∧ exec (.pulseNow rest) s = .next s))

/-- R490 to R495: safety sessions and descriptors (spec/13_shroud_safety.md). -/
def Obligations.ShroudSessions : Prop :=
  ∀ (d : Desc) (k : Fin 32) (s : State),
    let n := d.ring.val
    let tick := s.shr.tick
    let own : Prop := ∃ x, s.shr.session = some x ∧ x.1 = n
    let foreign : Prop := ∃ x, s.shr.session = some x ∧ x.1 ≠ n
    let lapse : Option (Nat × Nat) := some (n, tick + 600000)
    -- the descriptor keeps its own session alive
    let kept : ShrSt := if own then { s.shr with session := lapse } else s.shr
    let log (kind ring old new detail : Nat) : List LogEntry :=
      (({ no := s.get F.shrLogCount_ENTRY + 1, time := s.nowNs, kind := kind, ring := ring, lc := s.lc, oldCrc := old, newCrc := new, detail := detail }
        : LogEntry) :: s.shr.log).take 256
    let logged (t : State) : Prop := t.get F.shrLogCount_ENTRY = (s.get F.shrLogCount_ENTRY + 1) % 2 ^ 32
    let event (t : State) (kind : Nat) : Prop := s.host.evBuf.length < 256 → t.host.evBuf = s.host.evBuf ++
      [({ code := 0x0A09, sev := if kind = 2 then sevWarn else sevInfo, data := 0, ctrl := 0xEFFF, time := BitVec.ofNat 64 s.nowNs
          payload := BitVec.ofNat 128 (kind + t.get F.shrLogCount_ENTRY * 2 ^ 32) } : Event)]
    let quiet (t : State) : Prop := t.host.evBuf = s.host.evBuf
    let answers (op : Nat) (d' : Desc) (i : Instr) (reason : Nat) (also : List Nat) (P : State → Prop) : Prop := Accepts s op d' →
      ∃ t, Answers i d s t (decide (reason ≠ 0)) (reason * 2 ^ 24) ∧ OnlyRing d s t also ∧
        t = { s with regs := t.regs, host := t.host, hostMem := t.hostMem, shr := t.shr, free := t.free } ∧ P t
    let right : Bool := match s.shr.password with
      | none => (pwBytes d).isEmpty
      | some p => Config.sha256 (leBytes 16 p.1.toNat ++ pwBytes d) == p.2
    let ended (t : State) (ring cause : Nat) : Prop :=
      t.get F.shrStatus_SESSION = 0 ∧ t.get F.glbStatus_SAFE_SESS = 0 ∧ t.get F.shrStatus_PENDING = 0 ∧ t.get F.shrPendCrc_PEND_CRC = 0 ∧
      t.shr = { s.shr with session := none, pend := none, log := log 3 ring 0 0 cause } ∧ logged t ∧ event t 3
    let status := [A.shrStatus, A.glbStatus, A.shrLogCount, A.shrPendCrc, A.hriEvtLost]
    -- no descriptor, only time
    let timed (t : State) : Prop := (∀ a, a ∉ status → t.reg a = s.reg a) ∧ t = { s with
      regs := t.regs
      host := { s.host with evBuf := t.host.evBuf, evDropped := t.host.evDropped }
      shr := t.shr }
    let locked : Prop := s.shr.lockDue.isSome = true
    -- SAFETY_SESSION
    (let wrong := s.shr.wrong + 1
     answers 0x0A00 (d.force 1 0 0 1) (.safetySessionOpen d) (if locked then 4 else if foreign then 2 else if right then 0 else 3) status (fun t =>
      t.shr = (if locked then kept else if foreign then s.shr else if right then
          { s.shr with session := lapse, wrong := 0, log := if own then s.shr.log else log 1 n 0 0 0 }
        else { kept with wrong := wrong, lockDue := if 3 ≤ wrong then some (tick + 60000) else none, log := log 2 n 0 0 wrong }) ∧
      (¬ locked → ¬ foreign → right = true → t.get F.shrStatus_SESSION = 1 ∧ t.get F.glbStatus_SAFE_SESS = 1 ∧
        (own → quiet t ∧ t.reg A.shrLogCount = s.reg A.shrLogCount) ∧ (¬ own → logged t ∧ event t 1)) ∧
      (¬ locked → ¬ foreign → right = false → t.getB F.shrStatus_LOCKOUT = decide (3 ≤ wrong) ∧ logged t ∧ event t 2) ∧
      (locked ∨ foreign → quiet t ∧ ∀ a, a ∈ status → t.reg a = s.reg a)) ∧
     answers 0x0A00 (d.force 1 0 0 0) (.safetySessionClose d) (if locked then 4 else if own then 0 else 2) status (fun t =>
      (¬ locked → own → ended t n 0) ∧
      (locked ∨ ¬ own → t.shr = kept ∧ quiet t ∧ ∀ a, a ∈ status → t.reg a = s.reg a))) ∧
    (let due : Prop := ∃ x, s.shr.session = some x ∧ x.2 ≤ tick
     (¬ due → exec .sessionTimeout s = .next s) ∧
     (∀ x, s.shr.session = some x → due → ∃ t, exec .sessionTimeout s = .next t ∧ ended t x.1 1 ∧ timed t)) ∧
    (let due : Prop := ∃ x, s.shr.lockDue = some x ∧ x ≤ tick
     (¬ due → exec .lockoutEnd s = .next s) ∧
     (due → ∃ t, exec .lockoutEnd s = .next t ∧ t.shr = { s.shr with lockDue := none } ∧ t.get F.shrStatus_LOCKOUT = 0 ∧ t.host = s.host ∧ timed t)) ∧
    (let due : Prop := ∃ x, s.shr.pend = some x ∧ x.2.2 ≤ tick
     (¬ due → exec .confirmTimeout s = .next s) ∧
     (due → ∃ t, exec .confirmTimeout s = .next t ∧ t.shr = { s.shr with pend := none } ∧ t.get F.shrStatus_PENDING = 0 ∧
       t.get F.shrPendCrc_PEND_CRC = 0 ∧ t.host = s.host ∧ timed t)) ∧
    -- SAFETY_PASSWORD
    answers 0x0A01 d (.safetyPassword d) (if ¬ own then 2 else if d.f 1 15 8 = 0 then 6 else 0) status (fun t =>
      (¬ own ∨ d.f 1 15 8 = 0 → t.shr = kept ∧ quiet t ∧ t.free = s.free ∧ ∀ a, a ∈ status → t.reg a = s.reg a) ∧
      (own → d.f 1 15 8 ≠ 0 → t.shr = { kept with password := t.shr.password, log := log 4 n 0 0 0 } ∧ t.getB F.shrStatus_PW_EMPTY = false ∧
        logged t ∧ event t 4 ∧
        ∃ p, t.shr.password = some p ∧ p.2 = Config.sha256 (leBytes 16 p.1.toNat ++ pwBytes d))) ∧
    -- SAFETY_CONFIG
    (let pass : Bool := safetyContainer s (min 65536 (d.f 1 31 0)) d.data
     let sound : Bool := match d.safety with | none => false | some y => cfgOk s.slots y
     let crc := (crc32c 0xFFFFFFFF d.data).toNat
     let reason := if ¬ own then 2 else if s.getB F.shrStatus_PW_EMPTY then 10 else if pass = false then 5 else if sound = false then 6 else 0
     answers 0x0A02 d (.safetyConfig d) reason status (fun t => quiet t ∧
      (reason = 2 ∨ reason = 10 → t.shr = kept ∧ ∀ a, a ∈ status → t.reg a = s.reg a) ∧
      (reason = 5 ∨ reason = 6 → t.shr = { kept with log := log 6 n (s.get F.shrCfgCrc_CFG_CRC) 0 reason } ∧ logged t ∧ t.reg A.shrStatus = s.reg A.shrStatus) ∧
      (reason = 0 → t.shr = { kept with pend := d.safety.map (fun y => (y, crc, tick + 60000)) } ∧ t.getB F.shrStatus_PENDING = true ∧
        t.get F.shrPendCrc_PEND_CRC = crc ∧ t.reg A.shrLogCount = s.reg A.shrLogCount))) ∧
    -- SAFETY_CONFIRM
    (let still : Prop := s.shrState ≠ 2 ∨ (∀ e, e ∈ s.scfg.zones → (s.zone e.1).sto = true)
     let pending := s.shr.pend.map (fun x => x.2.1)
     let reason := if ¬ own then 2 else if s.getB F.shrStatus_PW_EMPTY then 10 else if pending ≠ some (d.f 1 31 0) then 8 else if ¬ still then 7
       else if s.getB F.pwtThermStatus_FLASH_OK = false then 9 else 0
     answers 0x0A03 d (.safetyConfirm d) reason status (fun t => quiet t ∧
      (reason = 2 ∨ reason = 10 → t.shr = kept ∧ ∀ a, a ∈ status → t.reg a = s.reg a) ∧
      (reason = 7 ∨ reason = 8 ∨ reason = 9 →
        t.shr = { kept with log := log 6 n (s.get F.shrCfgCrc_CFG_CRC) (pending.getD 0) reason } ∧ logged t ∧ t.reg A.shrStatus = s.reg A.shrStatus) ∧
      (reason = 0 → t.shr = { kept with
          pend := none
          store := s.shr.pend.map (fun x => (x.1, x.2.1))
          apply := s.shr.pend.map (fun x => (x.1, x.2.1, n)) } ∧
        t.getB F.shrStatus_PENDING = false ∧ t.get F.shrPendCrc_PEND_CRC = 0 ∧ t.reg A.shrLogCount = s.reg A.shrLogCount))) ∧
    -- SAFETY_DEMAND and SAFETY_REPORT
    (let demand (dev : Bool) (t : State) : Prop := t.shr = { kept with deviceSto := dev, fns := t.shr.fns } ∧ quiet t ∧
      t.fn k.val = (if s.scfg.fns.any (fun e => e.1 == k.val) then { s.fn k.val with host := (d.w 1).getLsbD k.val } else s.fn k.val)
     answers 0x0A04 (d.force 1 63 63 0) (.safetyDemand d) 0 [] (demand false) ∧
     answers 0x0A04 (d.force 1 63 63 1) (.deviceSto d) 0 [] (demand true)) ∧
    (let place := d.n 2 / 64 * 64
     let report (d' : Desc) (i : Instr) (bytes : List Byte) : Prop := Accepts s 0x0A05 d' →
      ∃ t, Answers i d s t false 0 ∧ OnlyRing d s t [] place bytes.length ∧ Reported s t d place bytes ∧ t.shr = kept ∧ quiet t ∧
        t = { s with regs := t.regs, host := t.host, hostMem := t.hostMem, shr := t.shr, free := t.free }
     report (d.force 1 0 0 0) (.safetyReportStatus d) ((upto 1024).flatMap (fun i => leBytes 4 (s.reg (0x18000 + 4 * i)).toNat)) ∧
     report (d.force 1 0 0 1) (.safetyReportLog d) (s.shr.log.flatMap (fun e => leBytes 4 e.no ++ leBytes 8 e.time ++ leBytes 1 e.kind ++ leBytes 1 e.ring ++
        leBytes 1 e.lc ++ leBytes 1 0 ++ leBytes 4 e.oldCrc ++ leBytes 4 e.newCrc ++ leBytes 8 e.detail) ++
      List.replicate (8192 - 32 * s.shr.log.length) 0))

/-- R498 to R500 and R508 to R514: the field supply, outputs' commands and couplers (spec/14_field_io.md). -/
def Obligations.FieldSupply : Prop :=
  ∀ (mv : BitVec 16) (cyc : Nat) (d : Desc) (out : Bool) (ch : Fin 32) (read : BitVec 16) (s : State),
    let v := mv.toNat
    let w := s.atCyc cyc
    let room : Prop := s.host.evBuf.length < 256
    let event (code sev ctrl time payload : Nat) : Event :=
      { code := BitVec.ofNat 16 code, sev := sev, data := 0, ctrl := BitVec.ofNat 16 ctrl, time := BitVec.ofNat 64 time
        payload := BitVec.ofNat 128 payload }
    let supply (kind sev mV time : Nat) : Event := event 0x0B03 sev 0x9402 time (kind + mV * 2 ^ 32)
    let raised (t : State) (l : List Event) : Prop := room → t.host.evBuf = s.host.evBuf ++ l
    let seen := s.getB F.dioFldStatus_FLD_UV_SEEN
    let uv := s.getB F.dioFldStatus_FLD_UV
    let latched := s.getB F.dioFldStatus_FLD_OFF
    let valid := s.getB F.dioFldStatus_IN_VALID
    -- DIO.FLD_STATUS: VFLD and the flags FLD_UV, FLD_UV_SEEN, FLD_OFF, IN_VALID; HOLD_SEEN stays
    let status (t : State) (mV : Nat) (uv seen off valid : Bool) : Prop :=
      t.get F.dioFldStatus_VFLD = mV ∧ t.getB F.dioFldStatus_FLD_UV = uv ∧ t.getB F.dioFldStatus_FLD_UV_SEEN = seen ∧
      t.getB F.dioFldStatus_FLD_OFF = off ∧ t.getB F.dioFldStatus_IN_VALID = valid ∧
      t.getB F.dioFldStatus_HOLD_SEEN = s.getB F.dioFldStatus_HOLD_SEEN
    let timed (v t : State) (also : List Nat) : Prop := (∀ a, a ∉ also → t.reg a = s.reg a) ∧ t = { v with
      clk := { v.clk with fresh := t.clk.fresh }
      regs := t.regs
      host := { s.host with evBuf := t.host.evBuf, evDropped := t.host.evDropped }
      fld := t.fld }
    let supplied (t : State) : Prop := timed w t [A.dioFldStatus, A.hriEvtLost]
    -- the supply
    (let first : Prop := v < 18000 ∧ uv = false
     ∃ t, exec (.fldUvSet mv cyc) s = .next t ∧ supplied t ∧ t.fld = { s.fld with mv := v } ∧
      status t v (uv || decide (v < 18000)) (seen || decide first) latched valid ∧ raised t (if first then [supply 0 sevWarn v w.nowNs] else [])) ∧
    (∃ t, exec (.fldUvClear mv cyc) s = .next t ∧ supplied t ∧ t.fld = { s.fld with mv := v } ∧
      status t v (uv && decide (v ≤ 18000)) seen latched valid ∧ t.host = s.host) ∧
    (11000 ≤ v → ∃ t, exec (.fldOff mv cyc) s = .next t ∧ supplied t ∧ t.fld = { s.fld with mv := v } ∧
      status t v uv seen latched valid ∧ t.host = s.host) ∧
    (v < 11000 → ∃ t, exec (.fldOff mv cyc) s = .next t ∧ timed w t [A.dioFldStatus, A.dioOutLimit, A.hriEvtLost] ∧
      t.fld = { s.fld with mv := v, on := 0, up := false } ∧ status t v uv seen true false ∧
      t.get F.dioOutLimit_ILIM = 0 ∧ (∀ q : Fin 16, t.bitAt A.dioOutLimit (16 + q.val) = s.bitAt A.dioOutLimit (16 + q.val)) ∧
      raised t (if s.fld.up then [supply 1 sevFault v w.nowNs] else [])) ∧
    (let passes : Prop := 11000 < v ∧ s.fld.up = false
     ∃ t, exec (.inValid mv cyc) s = .next t ∧ supplied t ∧ t.host = s.host ∧
      (¬ passes → t.fld = { s.fld with mv := v } ∧ status t v uv seen latched valid) ∧
      (passes → t.fld = { s.fld with mv := v, ctr := [], on := 0, up := true } ∧ status t v uv seen true true)) ∧
    -- FIELD_REENABLE and FIELD_OUT
    (let low : Prop := s.get F.dioFldStatus_VFLD ≤ 18000
     Accepts s 0x0B01 d → ∃ t, Answers (.fieldReenable d) d s t (decide low) (if low then 0x02000000 else 0) ∧
      OnlyRing d s t [A.dioFldStatus, A.hriEvtLost] ∧ t = { s with regs := t.regs, host := t.host, hostMem := t.hostMem } ∧
      status t (s.get F.dioFldStatus_VFLD) uv seen (latched && decide low) valid ∧
      raised t (if ¬ low ∧ latched = true then [supply 2 sevInfo (s.get F.dioFldStatus_VFLD) s.nowNs] else [])) ∧
    (Accepts s 0x0B00 d → ∃ t, Answers (.fieldOut d) d s t false 0 ∧ OnlyRing d s t [A.dioOutCmd] ∧
      t = { s with regs := t.regs, host := t.host, hostMem := t.hostMem } ∧ t.host.evBuf = s.host.evBuf ∧
      (∀ q : Fin 16, t.bitAt A.dioOutCmd q.val = if (d.w 1).getLsbD q.val then (d.w 1).getLsbD (16 + q.val) else s.bitAt A.dioOutCmd q.val)) ∧
    -- an update of the field side
    (let off : Bool := latched || !s.fld.enab
     ∃ t, exec (.fieldOutputUpdate read) s = .next t ∧ (∀ a, a ∉ [A.dioOutRead, A.dioOutLimit] → t.reg a = s.reg a) ∧
      t = { s with regs := t.regs, fld := { s.fld with held := t.fld.held, on := t.fld.on } } ∧ t.get F.dioOutRead_READ = read.toNat ∧
      (∀ q : Fin 16,
        let fed : Prop := s.heServes = true ∧ s.bitAt A.dioCplFaultOut q.val = false
        t.fld.held.getLsbD q.val = (if fed then s.fld.lat.getLsbD q.val else s.fld.held.getLsbD q.val) ∧
        t.fld.on.getLsbD q.val = (!off && if fed then s.fld.lat.getLsbD q.val else s.fld.on.getLsbD q.val) ∧
        t.bitAt A.dioOutLimit q.val = (s.bitAt A.dioOutLimit q.val && t.fld.on.getLsbD q.val) ∧
        t.bitAt A.dioOutLimit (16 + q.val) = s.bitAt A.dioOutLimit (16 + q.val))) ∧
    (s.heServes = true ↔ s.ready = true ∧ s.engFaulted eHE = false ∧ s.getB (F.clkEngStat_HALT eHE) = false) ∧
    (∃ t, exec .holdSeen s = .next t ∧ timed s t [A.dioFldStatus] ∧ t.host = s.host ∧ t.fld = s.fld ∧
      t.getB F.dioFldStatus_HOLD_SEEN = true ∧ t.get F.dioFldStatus_VFLD = s.get F.dioFldStatus_VFLD ∧
      ∀ f, f ∈ [F.dioFldStatus_FLD_UV, F.dioFldStatus_FLD_UV_SEEN, F.dioFldStatus_FLD_OFF, F.dioFldStatus_IN_VALID] → t.getB f = s.getB f) ∧
    -- couplers: 32 of the inputs, 16 of the outputs
    (let cpl := if out then A.dioCplFaultOut else A.dioCplFaultIn
     let place := (if out then 0x9580 else 0x9500) + ch.val
     let there : Prop := out = false ∨ ch.val < 16
     let side := if out then 1 else 0
     let only (v t : State) : Prop := timed v t [cpl, A.hriEvtLost] ∧ t.fld = s.fld ∧
       ∀ i : Fin 32, i ≠ ch → t.bitAt cpl i.val = s.bitAt cpl i.val
     (¬ there ∨ s.bitAt cpl ch.val = true → exec (.fieldCpl out ch cyc) s = .next w) ∧
     (there → s.bitAt cpl ch.val = false → ∃ t, exec (.fieldCpl out ch cyc) s = .next t ∧ only w t ∧ t.bitAt cpl ch.val = true ∧
       raised t [event 0x0B04 sevFault place w.nowNs (side + ch.val * 2 ^ 8)]) ∧
     (¬ there → exec (.couplerRestored out ch) s = .next s) ∧
     (there → ∃ t, exec (.couplerRestored out ch) s = .next t ∧ only s t ∧ t.bitAt cpl ch.val = false ∧ t.host = s.host))

/-- R502 to R507 and R514: field inputs and outputs (spec/14_field_io.md). -/
def Obligations.FieldChannels : Prop :=
  ∀ (j : Fin 32) (r : Bool) (n cyc : Nat) (more : List Bool) (m : Fin 8) (v : W32) (q : Fin 16) (s : State),
    let w := s.atCyc cyc
    let filt := s.filt j.val
    let c := Table.look 0 s.fld.ctr j.val
    let level := s.bitAt A.dioInLevel j.val
    let counts : Prop := s.getB F.dioFldStatus_IN_VALID = true ∧ s.bitAt A.dioCplFaultIn j.val = false
    -- one input alone has changed; IN_RISE, IN_FALL and the events follow its level
    let only (v t : State) (regs : List Nat) : Prop := (∀ a, a ∉ regs → t.reg a = s.reg a) ∧ t = { v with
      clk := { v.clk with fresh := t.clk.fresh }
      regs := t.regs
      host := { s.host with evBuf := t.host.evBuf, evDropped := t.host.evDropped, notes := t.host.notes }
      fld := t.fld }
    let inputs (t : State) (c' : Nat) (l' : Bool) : Prop :=
      only w t [A.dioInRaw, A.dioInLevel, A.dioInRise, A.dioInFall, A.hriEvtLost] ∧ t.host.notes = s.host.notes ∧
      Table.look 0 t.fld.ctr j.val = c' ∧ t.bitAt A.dioInLevel j.val = l' ∧
      (∀ i : Fin 32, i ≠ j → Table.look 0 t.fld.ctr i.val = Table.look 0 s.fld.ctr i.val ∧ t.fld.rise.getLsbD i.val = s.fld.rise.getLsbD i.val ∧
        t.fld.fall.getLsbD i.val = s.fld.fall.getLsbD i.val ∧
        ∀ a, a ∈ [A.dioInRaw, A.dioInLevel, A.dioInRise, A.dioInFall] → t.bitAt a i.val = s.bitAt a i.val) ∧
      t.fld = { s.fld with ctr := t.fld.ctr, rise := t.fld.rise, fall := t.fld.fall }
    let edge (t : State) (up : Bool) (ago : Nat) : Prop :=
      t.bitAt (if up then A.dioInRise else A.dioInFall) j.val = true ∧ (if up then t.fld.rise else t.fld.fall).getLsbD j.val = true ∧
      t.bitAt (if up then A.dioInFall else A.dioInRise) j.val = s.bitAt (if up then A.dioInFall else A.dioInRise) j.val ∧
      (s.host.evBuf.length < 256 → t.host.evBuf = s.host.evBuf ++ if s.bitAt A.dioInEvt j.val
        then [({ code := 0x0B01, sev := sevInfo, data := 0, ctrl := BitVec.ofNat 16 (0x9500 + j.val), time := BitVec.ofNat 64 (w.nowNs - 25000 * ago)
                 payload := BitVec.ofNat 128 (j.val + (if up then 256 else 0)) } : Event)] else [])
    let alone (t : State) : Prop := t.reg A.dioInRise = s.reg A.dioInRise ∧ t.reg A.dioInFall = s.reg A.dioInFall ∧
      t.fld = { s.fld with ctr := t.fld.ctr } ∧ t.host = s.host
    -- samples of one value
    (counts → 1 ≤ filt → 1 ≤ n → c ≤ filt →
      (c + n < filt → 1 ≤ c → ∃ t, exec (.fieldInput j (List.replicate n true) cyc) s = .next t ∧ inputs t (c + n) level ∧ alone t) ∧
      (filt ≤ c + n → ∃ t, exec (.fieldInput j (List.replicate n true) cyc) s = .next t ∧ inputs t filt true ∧
        (level = false → edge t true (n - (if c = filt then 1 else filt - c))) ∧ (level = true → 1 ≤ c → alone t)) ∧
      (n < c → c < filt → ∃ t, exec (.fieldInput j (List.replicate n false) cyc) s = .next t ∧ inputs t (c - n) level ∧ alone t) ∧
      (c ≤ n → ∃ t, exec (.fieldInput j (List.replicate n false) cyc) s = .next t ∧ inputs t 0 false ∧
        (level = true → edge t false (n - (if c = 0 then 1 else c))) ∧ (level = false → c < filt → alone t))) ∧
    -- one sample
    (counts →
      let c' := if r then (if c < filt then c + 1 else c) else c - 1
      let l' := if c' = 0 then false else if c' = filt then true else level
      ∃ t, exec (.fieldInput j [r] cyc) s = .next t ∧ inputs t c' l' ∧ t.bitAt A.dioInRaw j.val = r ∧
        (l' = level → alone t) ∧ (l' ≠ level → edge t l' 0)) ∧
    exec (.fieldInput j [] cyc) s = .next w ∧
    (¬ counts → exec (.fieldInput j more cyc) s = .next w) ∧
    -- FILT
    (let byte (i : Nat) : Nat := if bits v (8 * i + 7) (8 * i) = 0 then 1 else bits v (8 * i + 7) (8 * i)
     (s.ready = false → exec (.inFiltWrite m v) s = .next s) ∧
     (s.ready = true → ∃ t, exec (.inFiltWrite m v) s = .next t ∧ (∀ a, a ∉ [A.dioInFilt m.val] → t.reg a = s.reg a) ∧
      t = { s with regs := t.regs, fld := { s.fld with ctr := t.fld.ctr } } ∧
      (∀ i : Fin 4, t.filt (4 * m.val + i.val) = byte i.val ∧ Table.look 0 t.fld.ctr (4 * m.val + i.val) =
        if s.filt (4 * m.val + i.val) = byte i.val then Table.look 0 s.fld.ctr (4 * m.val + i.val)
        else min (Table.look 0 s.fld.ctr (4 * m.val + i.val)) (byte i.val)) ∧
      (∀ i : Fin 32, i.val / 4 ≠ m.val → Table.look 0 t.fld.ctr i.val = Table.look 0 s.fld.ctr i.val))) ∧
    -- the flags of an output
    (let ilim := s.bitAt A.dioOutLimit q.val
     let cooling := s.bitAt A.dioOutLimit (16 + q.val)
     let others (t : State) : Prop := t.fld = s.fld ∧ t.host.evBuf = s.host.evBuf ∧ ∀ i : Fin 32, i.val % 16 ≠ q.val →
       ∀ a, a ∈ [A.dioOutLimit, A.dioOutStatus, A.dioOutRead] → t.bitAt a i.val = s.bitAt a i.val
     let limit (t : State) (lim off : Bool) : Prop := t.bitAt A.dioOutLimit q.val = lim ∧ t.bitAt A.dioOutLimit (16 + q.val) = off
     -- a flag, kept with those of the same output until the event of the tick
     let flagged (t : State) (bit flag : Nat) : Prop :=
       let same (x : Note) : Bool := x.code == 0x0B02 && x.data == 0 && x.ctrl == 0x9580 + q.val && x.pre == [(16, 1, q.val)]
       t.bitAt A.dioOutStatus bit = true ∧ t.host.notes = (if s.bitAt A.dioOutStatus bit then s.host.notes
         else if s.host.notes.any same then s.host.notes.map (fun x => if same x then { x with flags := x.flags ||| flag } else x)
         else s.host.notes ++ [{ code := 0x0B02, data := 0, ctrl := 0x9580 + q.val, pre := [(16, 1, q.val)], byte := 17, flags := flag, warn := 3
                                 time := s.nowNs }])
     (s.fld.on.getLsbD q.val = false ∨ cooling = true → exec (.overload q) s = .next s) ∧
     (s.fld.on.getLsbD q.val = true → cooling = false → ∃ t, exec (.overload q) s = .next t ∧ only s t [A.dioOutLimit, A.dioOutStatus] ∧ others t ∧
       limit t true cooling ∧ t.bitAt A.dioOutStatus q.val = s.bitAt A.dioOutStatus q.val ∧ flagged t (16 + q.val) 1) ∧
     (ilim = false → exec (.thermalOffPhase q) s = .next s) ∧
     (ilim = true → ∃ t, exec (.thermalOffPhase q) s = .next t ∧ only s t [A.dioOutLimit, A.dioOutRead] ∧ others t ∧ t.host = s.host ∧
       limit t false true ∧ t.bitAt A.dioOutRead q.val = false ∧ t.bitAt A.dioOutRead (16 + q.val) = s.bitAt A.dioOutRead (16 + q.val)) ∧
     (∃ t, exec (.thermalOffEnd q) s = .next t ∧ only s t [A.dioOutLimit] ∧ others t ∧ t.host = s.host ∧ limit t ilim false) ∧
     (s.bitAt A.dioOutCmd q.val = true → exec (.extHigh q) s = .next s) ∧
     (s.bitAt A.dioOutCmd q.val = false → ∃ t, exec (.extHigh q) s = .next t ∧ only s t [A.dioOutRead, A.dioOutStatus] ∧ others t ∧
       t.bitAt A.dioOutRead q.val = true ∧ t.bitAt A.dioOutStatus (16 + q.val) = s.bitAt A.dioOutStatus (16 + q.val) ∧ flagged t q.val 2))

/-- R515 to R522 and R532: supplies and the charger (spec/15_power_and_thermal.md). -/
def Obligations.Supplies : Prop :=
  ∀ (vmain vback mA : BitVec 16) (cyc : Nat) (d : Desc) (s : State),
    let vm := vmain.toNat
    let vb := vback.toNat
    let w := s.atCyc cyc
    let now (v : State) : Nat := v.pwr.upNs + v.clk.cyc * 5 / 2
    let lost := s.getB F.pwtSupStatus_VMAIN_LOST
    let qual := s.getB F.pwtSupStatus_RET_QUAL
    let absent := s.getB F.pwtSupStatus_VBACK_ABSENT
    let seen := s.getB F.pwtSupStatus_LOSS_SEEN
    let st := s.chState
    let act := s.get F.pwtPower_I_CHG_ACT
    -- what a command of this statement leaves alone
    let regs := [A.pwtSupStatus, A.glbStatus, A.pwtVolts, A.pwtPower, A.pwtBankStatus]
    let part (t : State) : Prop :=
      (∀ f, f ∈ [F.pwtSupStatus_VBACK_LOW, F.pwtPower_P_IN, F.pwtBankStatus_RESERVE_LOW, F.pwtBankStatus_TEMP_HELD] → t.get f = s.get f) ∧
      ∀ i : Fin 32, i.val ≠ F.glbStatus_ON_VBACK.lo → t.bitAt A.glbStatus i.val = s.bitAt A.glbStatus i.val
    let only (t : State) : Prop := (∀ a, a ∉ A.hriEvtLost :: regs → t.reg a = s.reg a) ∧ part t ∧ t = { w with
      clk := { w.clk with fresh := t.clk.fresh }
      regs := t.regs
      host := { s.host with evBuf := t.host.evBuf, evDropped := t.host.evDropped }
      pwr := t.pwr }
    -- PWT.SUP_STATUS and PWT.VOLTS
    let supplies (t : State) (lost' qual' absent' : Bool) (turn : Bool → Bool) (seen' : Bool) (vm' vb' : Nat) : Prop :=
      t.getB F.pwtSupStatus_VMAIN_LOST = lost' ∧ t.getB F.pwtSupStatus_RET_QUAL = qual' ∧ t.getB F.pwtSupStatus_VBACK_ABSENT = absent' ∧
      t.getB F.pwtSupStatus_ON_VBACK = turn (s.getB F.pwtSupStatus_ON_VBACK) ∧ t.getB F.pwtSupStatus_LOSS_SEEN = seen' ∧
      t.getB F.glbStatus_ON_VBACK = turn (s.getB F.glbStatus_ON_VBACK) ∧
      t.get F.pwtVolts_VMAIN = vm' ∧ t.get F.pwtVolts_VBACK = vb'
    -- the charger: its state, current, time in CC and event
    let wanted : Bool := s.getB F.pwtBankCfg_KIND && s.getB F.pwtBankCfg_CHG_EN
    let warm : Bool := s.getB F.pwtBankStatus_TEMP_HELD || s.getB (F.pwtTsStatus_BROKEN s.bankSensor)
    let next (lost' : Bool) (vb' : Nat) : Nat := if st = 5 then 5 else if wanted = false then 0 else if lost' then 4 else if warm then 3
      else if st = 2 then 2 else if st = 1 then (if s.get F.pwtBankV_V_CHG ≤ vb' then 2 else 1) else 1
    let ccTotal (v : State) : Nat := s.pwr.ccNs + if st = 1 then now v - s.pwr.ccFrom else 0
    let charger (v t : State) (n act' : Nat) : Prop :=
      t.chState = n ∧ t.getB F.pwtBankStatus_CHG_FAULT = (if n = st then s.getB F.pwtBankStatus_CHG_FAULT else n == 5) ∧
      t.get F.pwtPower_I_CHG_ACT = (if n = st then act' else if n = 1 then s.get F.pwtBankCfg_I_CHG else if n = 2 then act' else 0) ∧
      { t.pwr with arr := [], qual := 0 } = { s.pwr with
        arr := []
        qual := 0
        ccFrom := if n = st then s.pwr.ccFrom else now v
        ccNs := if n = st then s.pwr.ccNs else if n = 1 then (if st = 0 ∨ st = 5 then 0 else s.pwr.ccNs) else ccTotal v }
    let event (code sev ctrl time payload : Nat) : Event :=
      { code := BitVec.ofNat 16 code, sev := sev, data := 0, ctrl := BitVec.ofNat 16 ctrl, time := BitVec.ofNat 64 time
        payload := BitVec.ofNat 128 payload }
    let supply (t : State) (kind : Nat) : Event :=
      event 0x0C01 (if kind = 0 ∨ kind = 2 then sevWarn else sevInfo) (if kind < 2 then 0x9400 else 0x9401) w.nowNs
        (kind + t.get F.pwtVolts_VMAIN * 2 ^ 32 + t.get F.pwtVolts_VBACK * 2 ^ 48)
    let charge (v t : State) (n : Nat) : List Event := if n = st then [] else
      [event 0x0C02 (if n = 5 ∨ n = 3 then sevWarn else sevInfo) 0x9403 v.nowNs (n + st * 2 ^ 8 + t.get F.pwtVolts_VBACK * 2 ^ 32)]
    let raised (t : State) (l : List Event) : Prop := s.host.evBuf.length < 254 → t.host.evBuf = s.host.evBuf ++ l
    -- VMAIN
    (let due : Prop := vm < s.get F.pwtVmainTh_LOSS ∧ lost = false
     let n := next true vb
     (¬ due → ∃ t, exec (.vmainLost vmain vback cyc) s = .next t ∧ only t ∧ t.pwr = s.pwr ∧ t.host = s.host ∧
       supplies t lost qual absent id seen vm vb ∧ charger w t st act) ∧
     (due → ∃ t, exec (.vmainLost vmain vback cyc) s = .next t ∧ only t ∧ supplies t true false (absent || decide (vb < 600))
         (fun b => b || decide (600 ≤ vb)) true vm vb ∧
       charger w t n act ∧ t.pwr.qual = s.pwr.qual ∧ t.pwr.arr = s.pwr.arr ++ [true] ∧
       raised t (charge w t n ++ (if vb < 600 ∧ absent = false then [supply t 2] else []) ++ [supply t 0]))) ∧
    (let exceeds := decide (s.get F.pwtVmainTh_RETURN < vm)
     ∃ t, exec (.returnQualification vmain cyc) s = .next t ∧ only t ∧ t.host = s.host ∧
      supplies t lost (if lost then exceeds else qual) absent id seen vm (s.get F.pwtVolts_VBACK) ∧ charger w t st act ∧ t.pwr.arr = s.pwr.arr ∧
      t.pwr.qual = if lost = true ∧ (exceeds = false ∨ qual = false) then now w else s.pwr.qual) ∧
    (let due : Prop := s.get F.pwtVmainTh_RETURN < vm ∧ qual = true ∧ s.pwr.qual + s.get F.pwtVmainRet_RET_US * 1000 ≤ now w
     let n := next false vb
     (¬ due → ∃ t, exec (.vmainBack vmain vback cyc) s = .next t ∧ only t ∧ t.pwr = s.pwr ∧ t.host = s.host ∧
       supplies t lost qual absent id seen vm vb ∧ charger w t st act) ∧
     (due → ∃ t, exec (.vmainBack vmain vback cyc) s = .next t ∧ only t ∧ supplies t false false absent (fun _ => false) seen vm vb ∧
       charger w t n act ∧ t.pwr.qual = s.pwr.qual ∧ t.pwr.arr = s.pwr.arr ++ [false] ∧
       raised t (supply t 1 :: charge w t n))) ∧
    -- VBACK
    (let gone := decide (vb < 600)
     ∃ t, exec (.vbackAbsent vback cyc) s = .next t ∧ only t ∧ t.pwr = s.pwr ∧ charger w t st act ∧
      supplies t lost qual gone (fun b => b || (lost && absent && !gone)) seen (s.get F.pwtVolts_VMAIN) vb ∧
      raised t (if gone = absent then [] else [supply t (if gone then 2 else 3)])) ∧
    -- the charger
    (let n := next lost vb
     ∃ t, exec (.chargeState vback mA cyc) s = .next t ∧ only t ∧ t.pwr.arr = s.pwr.arr ∧ t.pwr.qual = s.pwr.qual ∧
      supplies t lost qual absent id seen (s.get F.pwtVolts_VMAIN) vb ∧ charger w t n (if st = 1 ∨ st = 2 then mA.toNat else 0) ∧
      raised t (charge w t n)) ∧
    (let due : Prop := st = 1 ∧ s.get F.pwtBankP_CHG_TMO ≠ 0 ∧ s.get F.pwtBankP_CHG_TMO * 1000000000 ≤ ccTotal w
     (¬ due → exec (.chargeTimeout cyc) s = .next w) ∧
     (due → ∃ t, exec (.chargeTimeout cyc) s = .next t ∧ only t ∧ t.pwr.arr = s.pwr.arr ∧ t.pwr.qual = s.pwr.qual ∧
       t.reg A.pwtSupStatus = s.reg A.pwtSupStatus ∧ t.reg A.pwtVolts = s.reg A.pwtVolts ∧ t.reg A.glbStatus = s.reg A.glbStatus ∧
       charger w t 5 act ∧ raised t (charge w t 5))) ∧
    (let clears : Prop := d.fb 1 0 = true ∧ st = 5
     let bad : Prop := d.fb 1 0 = true ∧ st ≠ 5
     let n := if clears then 0 else st
     Accepts s 0x0C01 d → ∃ t, Answers (.chargeCtrl d) d s t (decide bad) (if bad then 0x02000000 else 0) ∧
      OnlyRing d s t [A.pwtBankStatus, A.pwtPower, A.hriEvtLost] ∧ part t ∧
      t = { s with regs := t.regs, host := t.host, hostMem := t.hostMem, pwr := t.pwr } ∧
      t.pwr.arr = s.pwr.arr ∧ t.pwr.qual = s.pwr.qual ∧ charger s t n act ∧ raised t (charge s t n))

/-- R520 and R525 to R532: sensors and the thermal trip (spec/15_power_and_thermal.md). Temperatures are in units of 1/128 degree. -/
def Obligations.Sensors : Prop :=
  ∀ (k : Fin 10) (deg : Int) (cyc : Nat) (d : Desc) (src : BitVec 6) (s : State),
    let w := s.atCyc cyc
    let now := s.pwr.upNs + cyc * 5 / 2
    let event (code sev ctrl payload : Nat) : Event :=
      { code := BitVec.ofNat 16 code, sev := sev, data := 0, ctrl := BitVec.ofNat 16 ctrl, time := BitVec.ofNat 64 w.nowNs
        payload := BitVec.ofNat 128 payload }
    let raised (t : State) (l : List Event) : Prop := s.host.evBuf.length < 252 → t.host.evBuf = s.host.evBuf ++ l
    let only (t : State) (regs : List Nat) : Prop := (∀ a, a ∉ A.hriEvtLost :: regs → t.reg a = s.reg a) ∧ t = { w with
      clk := { w.clk with fresh := t.clk.fresh }
      regs := t.regs
      host := { s.host with evBuf := t.host.evBuf, evDropped := t.host.evDropped }
      pwr := t.pwr }
    let u16 (x : Int) : Nat := (BitVec.ofInt 16 x).toNat
    let i16 (n : Nat) : Int := (BitVec.ofNat 16 n).toInt
    -- a measurement of sensor j: what it leaves, and the events it raises
    let others (j : Nat) := ((upto 6).filter (fun i => i != j && !s.broken i && s.measMode i != 2 && !(s.sensor i).hist.isEmpty)).map s.temp
    let fine (j : Nat) : Bool := if j < 6 then decide (-7680 ≤ deg ∧ deg ≤ 22400) && ((others j).isEmpty || decide ((2 * deg - median2 (others j)).natAbs ≤ 5120))
      else decide (-7040 ≤ deg ∧ deg ≤ 19200)
    let good (j : Nat) := if fine j then (s.sensor j).good + 1 else 0
    let bad (j : Nat) := if fine j then 0 else (s.sensor j).bad + 1
    let waits (j : Nat) : Bool := s.broken j && decide (good j < 3)
    let broken (j : Nat) : Bool := if s.broken j then decide (good j < 3) else decide (3 ≤ bad j)
    let lim (j : Nat) : Int := i16 (s.get (F.pwtTsLim_LIM j))
    let rlim (j : Nat) : Int := i16 (s.get (F.pwtTsLim_RATE_LIM j))
    let near (j : Nat) : Int := s.get (F.pwtTsMeas_NEAR j) * 128
    let kept (j : Nat) := (s.sensor j).hist.filter (fun e => decide (now ≤ e.1 + 10000000000))
    let old (j : Nat) := (kept j).find? (fun e => decide (e.1 + 1000000000 ≤ now))
    let dt (e : Nat × Int) : Int := (now - e.1 : Nat)
    let num (e : Nat × Int) : Int := (deg - e.2) * 2000000000
    let rate (e : Nat × Int) : Int := let r := qdiv (num e) (dt e); if r < -32768 then -32768 else if 32767 < r then 32767 else r
    let rises (j : Nat) : Bool := match old j with | some e => rlim j != 0 && decide (rlim j * dt e < num e) | none => false
    let rising (j : Nat) : Bool := match old j with | some _ => if rlim j = 0 then (s.sensor j).rising else rises j | none => (s.sensor j).rising
    let heat (j : Nat) : List Event :=
      if waits j then [] else
      (if s.broken j then [event 0x0C06 sevInfo (0x9480 + j) (j + 2 ^ 8 + u16 deg * 2 ^ 32)]
        else if broken j then [event 0x0C06 sevWarn (0x9480 + j) (j + u16 deg * 2 ^ 32)] else []) ++
      (if broken j then [] else
        (if lim j ≤ deg ∧ s.getB (F.pwtTsStatus_OVER j) = false
          then [event 0x0C04 sevWarn (0x9480 + j) (j + u16 deg * 2 ^ 32 + u16 (lim j) * 2 ^ 48)] else []) ++
        (match old j with
          | some e => if rises j && !(s.sensor j).rising
              then [event 0x0C05 sevWarn (0x9480 + j) (j + u16 (rate e) * 2 ^ 32 + u16 (rlim j) * 2 ^ 48)] else []
          | none => []))
    let measured (t : State) (j : Nat) : Prop :=
      let flag (f : Nat → Fld) := s.getB (f j)
      let tests := !waits j && !broken j
      t.sensor j = { s.sensor j with
        asked := false
        good := min (good j) 3
        bad := min (bad j) 3
        hist := if waits j then (s.sensor j).hist else (now, deg) :: kept j
        rising := if tests then rising j else (s.sensor j).rising } ∧
      (∀ i : Fin 10, i.val ≠ j → t.sensor i.val = s.sensor i.val) ∧
      t.broken j = broken j ∧ t.temp j = (if waits j then s.temp j else (BitVec.ofInt 16 deg).toInt) ∧
      t.getB (F.pwtTsStatus_OVER j) = (if tests then (decide (lim j ≤ deg) || (flag F.pwtTsStatus_OVER && decide (lim j - 256 ≤ deg))) else flag F.pwtTsStatus_OVER) ∧
      t.getB (F.pwtTsStatus_OVER_SEEN j) = (flag F.pwtTsStatus_OVER_SEEN || (tests && decide (lim j ≤ deg) && !flag F.pwtTsStatus_OVER)) ∧
      t.getB (F.pwtTsStatus_RISE j) = (flag F.pwtTsStatus_RISE || (tests && rises j && !(s.sensor j).rising)) ∧
      t.getB (F.pwtTsStatus_FAST j) = (if !tests then flag F.pwtTsStatus_FAST else if s.measMode j ≠ 0 then false
        else decide (lim j - near j ≤ deg) || (flag F.pwtTsStatus_FAST && decide (lim j - near j - 256 ≤ deg))) ∧
      (∀ e, old j = some e → t.get (F.pwtTsRead_RATE j) = if tests then u16 (rate e) else s.get (F.pwtTsRead_RATE j)) ∧
      (old j = none → t.get (F.pwtTsRead_RATE j) = s.get (F.pwtTsRead_RATE j)) ∧
      (waits j = false → ∀ i : Fin 6, t.broken i.val = false → t.temp i.val ≤ i16 (t.get F.pwtThermStatus_DIE_MAX) ∧
        ∃ l : Fin 6, t.broken l.val = false ∧ t.temp l.val = i16 (t.get F.pwtThermStatus_DIE_MAX)) ∧
      (waits j = true ∨ (∀ i : Fin 6, t.broken i.val = true) → t.get F.pwtThermStatus_DIE_MAX = s.get F.pwtThermStatus_DIE_MAX) ∧
      -- R530: flash may be written
      (let used (i : Fin 6) : Prop := s.measMode i.val ≠ 2 ∧ t.broken i.val = false
       t.getB F.pwtThermStatus_FLASH_OK = true ↔ (∃ i : Fin 6, used i) ∧ ∀ i : Fin 6, used i →
        ∃ e, (t.sensor i.val).hist.head? = some e ∧ now ≤ e.1 + 100000000 ∧ 0 ≤ e.2 ∧ e.2 ≤ 10880) ∧
      (∀ f, f ∈ [F.pwtThermStatus_TRIP, F.pwtThermStatus_TRIP_SEEN, F.pwtThermStatus_TRIP_SRC] → t.get f = s.get f)
    let regs (j : Nat) := [A.pwtTsRead j, A.pwtTsStatus j, A.pwtThermStatus]
    (let mode := s.measMode k.val
     let asked := (s.sensor k.val).asked
     let runs : Prop := mode ≠ 2 ∧ (mode = 1 → k.val < 6 ∨ asked = true) ∧ (mode = 0 → Table.look false s.clk.late eHE = false ∨ asked = true)
     (¬ runs → exec (.tempMeasure k deg cyc) s = .next w) ∧
     (runs → ∃ t, exec (.tempMeasure k deg cyc) s = .next t ∧ only t (regs k.val) ∧ measured t k.val ∧
       { t.pwr with sensors := [] } = { s.pwr with sensors := [] } ∧ raised t (heat k.val))) ∧
    -- the bank thermistor
    (let b := 6 + s.get F.pwtBankCfg_BANK_NTC
     let st := s.chState
     let held : Bool := (if deg < -2560 ∨ 7680 < deg then true else if -2304 ≤ deg ∧ deg ≤ 7424 then false else s.getB F.pwtBankStatus_TEMP_HELD) || broken b
     let n := if s.getB F.pwtBankCfg_KIND = false ∨ s.getB F.pwtBankCfg_CHG_EN = false then 0 else if s.getB F.pwtSupStatus_VMAIN_LOST then 4
       else if held then 3 else if st = 2 then 2 else if st = 1 then (if s.get F.pwtBankV_V_CHG ≤ s.get F.pwtVolts_VBACK then 2 else 1) else 1
     let act := s.get F.pwtPower_I_CHG_ACT
     (¬ (st = 1 ∨ st = 2 ∨ st = 3) → exec (.bankTempMeasure deg cyc) s = .next w) ∧
     (st = 1 ∨ st = 2 ∨ st = 3 → ∃ t, exec (.bankTempMeasure deg cyc) s = .next t ∧ only t (regs b ++ [A.pwtBankStatus, A.pwtPower]) ∧ measured t b ∧
       t.getB F.pwtBankStatus_TEMP_HELD = held ∧ t.chState = n ∧ t.get F.pwtBankStatus_RESERVE_LOW = s.get F.pwtBankStatus_RESERVE_LOW ∧
       t.get F.pwtPower_P_IN = s.get F.pwtPower_P_IN ∧
       t.get F.pwtPower_I_CHG_ACT = (if n = st then act else if n = 1 then s.get F.pwtBankCfg_I_CHG else if n = 2 then act else 0) ∧
       { t.pwr with sensors := [] } = { s.pwr with
         sensors := []
         ccFrom := if n = st then s.pwr.ccFrom else now
         ccNs := if n = st ∨ n = 1 then s.pwr.ccNs else s.pwr.ccNs + if st = 1 then now - s.pwr.ccFrom else 0 } ∧
       raised t (heat b ++ if n = st then [] else
         [event 0x0C02 (if n = 3 then sevWarn else sevInfo) 0x9403 (n + st * 2 ^ 8 + s.get F.pwtVolts_VBACK * 2 ^ 32)]))) ∧
    -- THERMAL_MEASURE
    (Accepts s 0x0C00 d →
      let want (j : Fin 10) : Prop := (d.w 1).getLsbD j.val = true ∧ s.measMode j.val ≠ 2
      let none' : Prop := ∀ j : Fin 10, ¬ want j
      ∃ t, Answers (.thermalMeasure d) d s t (decide none') (if none' then 0x01000000 else 0) ∧ OnlyRing d s t [] ∧
        t = { s with regs := t.regs, host := t.host, hostMem := t.hostMem, pwr := { s.pwr with sensors := t.pwr.sensors } } ∧
        ∀ j : Fin 10, t.sensor j.val = if want j then { s.sensor j.val with asked := true } else s.sensor j.val) ∧
    -- the trip
    (let old := s.get F.pwtThermStatus_TRIP_SRC
     let safe := forEach (upto s.slots) slotSafe w
     let frame (v t : State) : Prop := (∀ a, (a < 0x18000 ∨ 0x1C000 ≤ a) → a ∉ [A.pwtThermStatus, A.glbStatus, A.hriEvtLost] → t.reg a = v.reg a) ∧
       t = { v with
        clk := { v.clk with fresh := t.clk.fresh }
        regs := t.regs
        host := { s.host with evBuf := t.host.evBuf, evDropped := t.host.evDropped } }
     let fields (t : State) : Prop := t.get F.pwtThermStatus_DIE_MAX = s.get F.pwtThermStatus_DIE_MAX ∧
       t.get F.pwtThermStatus_FLASH_OK = s.get F.pwtThermStatus_FLASH_OK ∧
       ∀ i : Fin 32, i.val ≠ F.glbStatus_THERM_LATCH.lo → t.bitAt A.glbStatus i.val = s.bitAt A.glbStatus i.val
     (old ||| src.toNat = old → exec (.thermalTrip src cyc) s = .next w) ∧
     (old ||| src.toNat ≠ old → ∃ t, exec (.thermalTrip src cyc) s = .next t ∧ frame safe t ∧ fields t ∧ t.getB F.glbStatus_THERM_LATCH = true ∧
       t.getB F.pwtThermStatus_TRIP = true ∧ t.getB F.pwtThermStatus_TRIP_SEEN = true ∧ t.get F.pwtThermStatus_TRIP_SRC = (old ||| src.toNat) ∧
       t.get F.shrStoCmd_TORQUE = 0 ∧
       (∀ n, n < s.slots → s.slotPresent n = true → t.getB (F.pwmSlotStatus_SAFE n) = true ∧ t.getB (F.pwmSlotCtrl_RUN n) = false) ∧
       (∀ j : Fin 6, src.getLsbD j.val = true → old.testBit j.val = false → (∀ i : Fin 6, i < j → src.getLsbD i.val = true → old.testBit i.val = true) →
         s.host.evBuf.length < 256 → t.host.evBuf[s.host.evBuf.length]? =
           some (event 0x0C07 sevFault (0x9480 + j.val) ((old ||| src.toNat) + s.get F.pwtThermStatus_DIE_MAX * 2 ^ 32)))) ∧
     (let left := old &&& (63 - src.toNat)
      let ends : Prop := left = 0 ∧ s.getB F.pwtThermStatus_TRIP = true
      ∃ t, exec (.thermalRelease src cyc) s = .next t ∧ frame w t ∧ fields t ∧ t.getB F.glbStatus_THERM_LATCH = s.getB F.glbStatus_THERM_LATCH ∧
       t.get F.pwtThermStatus_TRIP_SRC = left ∧ t.get F.pwtThermStatus_TRIP_SEEN = s.get F.pwtThermStatus_TRIP_SEEN ∧
       t.getB F.pwtThermStatus_TRIP = (s.getB F.pwtThermStatus_TRIP && decide (left ≠ 0)) ∧
       (¬ ends → t.host = s.host ∧ ∀ a, a ∉ [A.pwtThermStatus] → t.reg a = s.reg a) ∧
       (ends → ∀ n : Fin 24, (t.get F.shrStoCmd_TORQUE).testBit n.val = true ↔
         n.val < s.slots ∧ ∃ z, s.slotZone n.val = some z ∧ (s.zone z).sto = false)))

/-- R538 to R556: images are stored and loaded (spec/16_images_and_update.md). -/
def Obligations.ImageLoading : Prop :=
  ∀ (d : Desc) (ok : Bool) (e : Fin 34) (s : State),
    let slot := d.f 1 5 0
    let room : Prop := s.host.evBuf.length < 128
    let event (code sev data ctrl payload : Nat) : Event :=
      { code := BitVec.ofNat 16 code, sev := sev, data := BitVec.ofNat 16 data, ctrl := BitVec.ofNat 16 ctrl, time := BitVec.ofNat 64 s.nowNs
        payload := BitVec.ofNat 128 payload }
    let raised (t : State) (l : List Event) : Prop := room → t.host.evBuf = s.host.evBuf ++ l
    let flags (t : State) (but : List Fld) : Prop := ∀ f, f ∈ [F.imgStatus_BOOT_PENDING, F.imgStatus_KEY_SET, F.imgStatus_OVERRIDE,
      F.imgStatus_STORE_ERR, F.imgStatus_SWAP_BUSY, F.imgStatus_STORE_BUSY] → f ∉ but → t.get f = s.get f
    -- the fields of IMG.ENGn
    let kept (t : State) (n : Nat) (but : List (Nat → Fld)) : Prop := ∀ f, f ∈ [F.imgEng_ACTIVE_SLOT, F.imgEng_OTHER_SLOT, F.imgEng_BOOT_SLOT,
      F.imgEng_STEP, F.imgEng_QUAR] → (∀ g, g ∈ but → g 0 ≠ f 0) → t.get (f n) = s.get (f n)
    -- a descriptor: a reason other than 0 has no further effect
    let answers (op : Nat) (i : Instr) (why' low : Nat) (also : List Nat) (P : State → Prop) : Prop := Accepts s op d →
      ∃ t, Answers i d s t (decide (why' ≠ 0)) (why' * 2 ^ 24 + low) ∧ OnlyRing d s t (if why' = 0 then also else []) ∧
        (why' ≠ 0 → t = { s with regs := t.regs, host := t.host, hostMem := t.hostMem } ∧ t.host.evBuf = s.host.evBuf) ∧ (why' = 0 → P t)
    let slotRegs := [A.imgSlot slot, A.imgSlotVersion slot, A.imgSlotEpoch slot, A.imgSlotShash slot]
    -- IMAGE_STORE and the end of its write
    (let i := parseImage d.data
     let good : Bool := containerOk s.img.key (d.f 1 63 32) d.data && fitsSlot i.h slot
     answers 0x0400 (.imageStore d) (if s.img.write ≠ none then 3 else if s.slotUsed slot then 2 else if s.flashOk = false then 7 else if good = false then 4 else 0)
      0 (A.imgStatus :: slotRegs) (fun t => t = { s with regs := t.regs, host := t.host, hostMem := t.hostMem, img := t.img } ∧
        t.img = { s.img with slots := t.img.slots, write := some (slot, i) } ∧ t.imgSlot slot = none ∧
        (∀ k : Fin 64, k.val ≠ slot → t.imgSlot k.val = s.imgSlot k.val) ∧ (∀ a, a ∈ slotRegs → t.reg a = 0) ∧
        t.getB F.imgStatus_STORE_BUSY = true ∧ flags t [F.imgStatus_STORE_BUSY] ∧ t.host.evBuf = s.host.evBuf)) ∧
    (s.img.write = none → exec (.imageStored ok) s = .next s) ∧
    (∀ w, s.img.write = some w → w.1 < 64 → ∃ t, exec (.imageStored ok) s = .next t ∧
      t.img = { s.img with slots := t.img.slots, write := none } ∧ t.imgSlot w.1 = (if ok then some w.2 else s.imgSlot w.1) ∧
      (∀ k : Fin 64, k.val ≠ w.1 → t.imgSlot k.val = s.imgSlot k.val) ∧
      t.getB F.imgStatus_STORE_BUSY = false ∧ t.getB F.imgStatus_STORE_ERR = (s.getB F.imgStatus_STORE_ERR || !ok) ∧
      flags t [F.imgStatus_STORE_BUSY, F.imgStatus_STORE_ERR] ∧
      raised t [event 0x0401 (if ok then sevInfo else sevWarn) 0 0x90FF (w.1 + if ok then 0 else 256)] ∧
      (∀ a, a ∉ A.hriEvtLost :: A.imgStatus :: (if ok then [A.imgSlot w.1, A.imgSlotVersion w.1, A.imgSlotEpoch w.1, A.imgSlotShash w.1] else []) →
        t.reg a = s.reg a) ∧
      (ok = true → t.reg (A.imgSlot w.1) = BitVec.ofNat 32 (w.2.h.kind * 2 ^ 24 + w.2.h.revMax * 2 ^ 16 + w.2.h.revMin * 2 ^ 8 + 2 ^ 7 + w.2.h.signer * 2 ^ 6) ∧
        t.reg (A.imgSlotVersion w.1) = BitVec.ofNat 32 w.2.h.version ∧ t.reg (A.imgSlotEpoch w.1) = BitVec.ofNat 32 w.2.h.epoch ∧
        t.reg (A.imgSlotShash w.1) = w.2.h.shash.setWidth 32) ∧
      t = { s with
        clk := { s.clk with fresh := t.clk.fresh }
        regs := t.regs
        host := { s.host with evBuf := t.host.evBuf, evDropped := t.host.evDropped }
        img := t.img }) ∧
    -- IMAGE_LOAD
    (let mask := engMask (d.f 2 33 0)
     let boot := d.fb 1 9
     let test (m : Image) (n : Nat) : Option Nat := s.check n m.h
     let groups := s.servedAll mask
     let idle : Bool := groups.all (fun g => s.gst g == gIdle || s.gst g == gQuarantined)
     let same (m : Image) : Bool := mask.all (fun n => match (s.eimg n).act with | some a => a.shash == m.h.shash | none => false)
     let fits (m : Image) : Bool := same m && groups.all (fun g => s.gst g == gIdle || s.gst g == gEnabled)
     let first := mask.headD 0
     let verdict (m : Image) : Nat × Nat :=
       match mask.find? (fun n => !s.engPresent n), mask.find? (fun n => kindOf n != m.h.kind), mask.find? s.engBusy,
           mask.find? (fun n => (test m n).isSome) with
       | some n, _, _, _ => (1, n)
       | none, some n, _, _ => (9, n)
       | none, none, some n, _ => (3, n)
       | none, none, none, some n => (5, n)
       | none, none, none, none => if mask = [] then (1, 0) else if idle then (if reloadMode s.mode then (0, 0) else (2, first))
         else if fits m then (if swapMode s.mode then (0, 0) else (2, first)) else (6, first)
     let out : Nat × Nat := match s.imgSlot slot with | none => (1, 0) | some m => verdict m
     let bad (m : Image) := mask.filter (fun n => (test m n).isSome)
     let quarantines (m : Image) (g : Nat) : Bool := s.gst g == gIdle && (bad m).any (fun n => (s.served n).contains g)
     let ends (m : Image) (g : Nat) : Bool := mask.any (fun n => (s.served n).contains g) && !(Table.look [] s.img.overrides g).any (fun o => o.2 == m.h.phash)
     let taken (m : Image) (t : State) : Prop :=
       t = { s with regs := t.regs, host := t.host, hostMem := t.hostMem, img := t.img } ∧ t.host.evBuf = s.host.evBuf ∧
       (∀ n : Fin 38, t.eimg n.val = if mask.contains n.val = false then s.eimg n.val
         else if idle then { s.eimg n.val with reload := some (slot, boot), failed := none } else { s.eimg n.val with failed := none }) ∧
       t.img = { s.img with
         engs := t.img.engs
         overrides := t.img.overrides
         staging := s.img.staging ++ if idle then [] else [{ mask := mask, slot := slot, swap := d.fb 1 8, boot := boot }] } ∧
       (∀ g : Fin 32, Table.look [] t.img.overrides g.val = if ends m g.val then [] else Table.look [] s.img.overrides g.val) ∧
       t.getB F.imgStatus_OVERRIDE = !t.img.overrides.isEmpty ∧ flags t [F.imgStatus_OVERRIDE] ∧
       (∀ n : Fin 34, mask.contains n.val = true → t.get (F.imgEng_STEP n.val) = (if idle then 4 else s.get (F.imgEng_STEP n.val)) ∧
         kept t n.val [F.imgEng_STEP])
     (out.1 ≠ 5 → answers 0x0401 (.imageLoad d) out.1 out.2 (A.imgStatus :: mask.map A.imgEng) (fun t => ∀ m, s.imgSlot slot = some m → taken m t)) ∧
     (∀ m, s.imgSlot slot = some m → out.1 = 5 → Accepts s 0x0401 d → ∃ t, Answers (.imageLoad d) d s t true (5 * 2 ^ 24 + out.2) ∧
       (∀ n : Fin 38, t.eimg n.val = if (bad m).contains n.val then { s.eimg n.val with failed := some (slot, (test m n.val).getD 0) } else s.eimg n.val) ∧
       (∀ g : Fin 32, t.gst g.val = if quarantines m g.val then gQuarantined else s.gst g.val) ∧
       (∀ n : Fin 34, (bad m).contains n.val = true → s.host.evBuf.length + mask.length + 33 ≤ 256 → ∃ r, r ∈ t.host.evBuf ∧
         r.code = 0x0402 ∧ r.ctrl = 0x90FF ∧ r.payload = BitVec.ofNat 128 (n.val + (test m n.val).getD 0 * 2 ^ 8 + slot * 2 ^ 16)) ∧
       t.img = { s.img with engs := t.img.engs } ∧ t.spar = s.spar ∧ t.net = s.net ∧ t.shr = s.shr ∧ t.cap = s.cap ∧ t.web = s.web ∧ t.md = s.md)) ∧
    -- the end of a reload
    (let x := s.eimg e.val
     let y := s.eng e.val
     let groups := s.served e.val
     (x.reload = none ∨ y.run = true → exec (.engineReload e) s = .next s) ∧
     (∀ r, x.reload = some r → r.1 < 64 → y.run = false →
      let m := s.imgSlot r.1
      let code := match m with | some i => byteTable i.code | none => []
      let data := match m with | some i => byteTable i.data | none => []
      let dropped := x.staged.isSome
      let passes (n : Nat) : Bool := n == e.val && x.failed.isNone || n != e.val && !s.getB (F.imgEng_QUAR n) && (s.eimg n).failed.isNone
      ∃ t, exec (.engineReload e) s = .next t ∧
       t.eimg e.val = { x with act := m.map (·.h), reload := none, staged := none, other := if dropped then none else x.other } ∧
       t.eng e.val = ({ active := y.active
                        otherValid := y.otherValid && !dropped
                        code0 := if y.active then y.code0 else code
                        code1 := if y.active then code else y.code1
                        pub := y.pub
                        prm := y.prm
                        prmNext := y.prmNext
                        hal := y.hal
                        starts := true
                        sram := data } : Eng) ∧
       (∀ n : Fin 38, n.val ≠ e.val → t.eng n.val = s.eng n.val ∧ t.eimg n.val = s.eimg n.val) ∧
       t.get (F.imgEng_ACTIVE_SLOT e.val) = r.1 ∧ t.get (F.imgEng_STEP e.val) = 0 ∧ t.getB (F.imgEng_QUAR e.val) = false ∧
       t.get (F.imgEng_OTHER_SLOT e.val) = (if dropped then 0x3F else s.get (F.imgEng_OTHER_SLOT e.val)) ∧
       t.get (F.imgEng_BOOT_SLOT e.val) = (if r.2 = true ∧ s.flashOk = true then r.1 else s.get (F.imgEng_BOOT_SLOT e.val)) ∧
       t.img.bootPend = s.img.bootPend ++ (if r.2 = true ∧ s.flashOk = false then [(e.val, r.1)] else []) ∧
       t.getB F.imgStatus_BOOT_PENDING = (s.getB F.imgStatus_BOOT_PENDING || (r.2 && !s.flashOk)) ∧ flags t [F.imgStatus_BOOT_PENDING] ∧
       (∀ f, f ∈ [F.clkEngStat_HALT, F.dbgEngStatus_HALTED, F.dbgEngStatus_BRK] → t.getB (f e.val) = false) ∧
       (s.slotPresent e.val = true → t.getB (F.pwmSlotStatus_HALTED e.val) = false) ∧
       (∀ g : Fin 32, t.gst g.val = if groups.contains g.val = true ∧ s.gst g.val = gQuarantined ∧ (s.servers g.val).all passes = true then gIdle
         else s.gst g.val) ∧
       t = { s with
         regs := t.regs
         host := { s.host with evBuf := t.host.evBuf, evDropped := t.host.evDropped }
         plan := t.plan
         spar := t.spar
         img := { s.img with engs := t.img.engs, bootPend := t.img.bootPend } })) ∧
    (s.flashOk = false → exec .bootSlotWrite s = .next s) ∧
    (s.flashOk = true → ∃ t, exec .bootSlotWrite s = .next t ∧ t = { s with regs := t.regs, img := { s.img with bootPend := [] } } ∧
      t.getB F.imgStatus_BOOT_PENDING = false ∧ flags t [F.imgStatus_BOOT_PENDING] ∧
      ((∀ p, p ∈ s.img.bootPend → p.2 < 64) → ∀ n : Fin 38, kept t n.val [F.imgEng_BOOT_SLOT] ∧
        t.get (F.imgEng_BOOT_SLOT n.val) = match (s.img.bootPend.filter (fun p => p.1 == n.val)).getLast? with
          | some p => p.2
          | none => s.get (F.imgEng_BOOT_SLOT n.val))) ∧
    -- IMAGE_OVERRIDE
    (let g := d.f 1 4 0
     let failing := (s.servers g).filter (fun n => (s.eimg n).failed.isSome)
     let hard : Bool := failing.any (fun n => match (s.eimg n).failed with | some f => decide (f.2 ≤ 2) | none => false)
     let zoned : Bool := (s.members g).any (fun m => s.scfg.fns.any (fun f => (s.zoneAxes f.2.zone).contains m.2))
     let inIt : Prop := ∃ x, s.shr.session = some x ∧ x.1 = d.ring.val
     let why' := if ¬ inIt ∨ s.gst g ≠ gQuarantined ∨ hard = true ∨ zoned = true ∨ s.mode = mQuarantine then 8
       else if failing.any s.engBusy then 3 else if reloadMode s.mode = false then 2 else if s.flashOk = false then 7 else 0
     answers 0x0403 (.imageOverride d) why' (if why' = 3 then failing.headD 0 else 0)
      ([A.imgStatus, A.shrLogCount, A.hriEvtLost, (grpFld g).a, A.glbStatus] ++ failing.map A.imgEng) (fun t =>
       (∀ h : Fin 32, t.gst h.val = if h.val = g then gIdle else s.gst h.val) ∧ t.getB F.imgStatus_OVERRIDE = true ∧ flags t [F.imgStatus_OVERRIDE] ∧
       (∀ n : Fin 38, t.eimg n.val = if failing.contains n.val = false then s.eimg n.val
         else { s.eimg n.val with failed := none, reload := (s.eimg n.val).failed.map (fun f => (f.1, false)) }) ∧
       (∀ n : Fin 34, failing.contains n.val = true → t.get (F.imgEng_STEP n.val) = 4 ∧ kept t n.val [F.imgEng_STEP]) ∧
       t.img = { s.img with engs := t.img.engs, overrides := t.img.overrides } ∧
       (∀ h : Fin 32, Table.look [] t.img.overrides h.val = if h.val ≠ g then Table.look [] s.img.overrides h.val
         else failing.filterMap (fun n => match (s.eimg n).failed with
           | some f => (s.imgSlot f.1).map (fun i => (n, i.h.phash))
           | none => none)) ∧
       t.shr = { s.shr with log := (({ no := s.get F.shrLogCount_ENTRY + 1, time := s.nowNs, kind := 7, ring := d.ring.val, lc := s.lc, oldCrc := 0
                                       newCrc := 0, detail := g } : LogEntry) :: s.shr.log).take 256 } ∧
       raised t [event 0x0021 sevInfo (0x3000 + g) 0x907F (gIdle + gQuarantined * 2 ^ 8),
         event 0x0405 sevWarn (0x3000 + g) (0x9080 + g) (g + t.get F.shrLogCount_ENTRY * 2 ^ 32)] ∧
       t = { s with regs := t.regs, host := t.host, hostMem := t.hostMem, plan := t.plan, img := t.img, shr := t.shr })) ∧
    -- ENGINE_PARAM
    (let n := d.f 1 5 0
     let own : Bool := match (s.eimg n).act with | some h => h.signer == 1 | none => false
     let why' := if 38 ≤ n ∨ (n < 34 ∧ s.engPresent n = false) then 1 else if 34 ≤ n ∨ own = false then 9 else 0
     let place (k : Nat) : Nat := d.f 1 27 16 / 8 * 8 + 8 * k
     answers 0x0404 (.engineParam d) why' (if why' = 0 then 0 else n) [] (fun t =>
       t.eng n = { s.eng n with prmNext := (s.eng n).prmNext ++ ((upto (d.len.val - 1)).filter (fun k => decide (place k < 0x1000))).flatMap (fun k =>
         (upto 8).map (fun b => (place k + b, ((d.w (k + 2)) >>> (8 * b)).setWidth 8))) } ∧
       (∀ i : Fin 38, i.val ≠ n → t.eng i.val = s.eng i.val) ∧ t.host.evBuf = s.host.evBuf ∧
       t = { s with regs := t.regs, host := t.host, hostMem := t.hostMem, spar := t.spar })) ∧
    -- IMAGE_KEY
    (let keyed : Prop := s.lc = 2 ∨ (s.lc = 3 ∧ s.img.key = none)
     answers 0x0405 (.imageKey d) (if ¬ keyed then 2 else if s.flashOk = false then 7 else 0) 0 [A.imgStatus] (fun t =>
       t.getB F.imgStatus_KEY_SET = true ∧ flags t [F.imgStatus_KEY_SET] ∧ t.host.evBuf = s.host.evBuf ∧
       t = { s with regs := t.regs, host := t.host, hostMem := t.hostMem, img := { s.img with key := some (d.data.take 64) } }))

/-- R548 to R553: hot swaps (spec/16_images_and_update.md). -/
def Obligations.ImageSwaps : Prop :=
  ∀ (d : Desc) (e : Fin 34) (s : State),
    let event (code sev payload : Nat) : Event :=
      { code := BitVec.ofNat 16 code, sev := sev, data := 0, ctrl := 0x90FF, time := BitVec.ofNat 64 s.nowNs, payload := BitVec.ofNat 128 payload }
    -- the last event of the command, and the only one where no group changes state
    let last (t : State) (r : Event) : Prop := s.host.evBuf.length + 33 ≤ 256 → t.host.evBuf.getLast? = some r
    let ended (t : State) (m : List Nat) (outcome cause : Nat) : Prop :=
      last t (event 0x0404 (if outcome = 0 then sevInfo else sevWarn) (outcome + cause * 2 ^ 8 + maskNat m % 2 ^ 64 * 2 ^ 64))
    let flags (t : State) (but : List Fld) : Prop := ∀ f, f ∈ [F.imgStatus_BOOT_PENDING, F.imgStatus_KEY_SET, F.imgStatus_OVERRIDE,
      F.imgStatus_STORE_ERR, F.imgStatus_SWAP_BUSY, F.imgStatus_STORE_BUSY] → f ∉ but → t.get f = s.get f
    let kept (t : State) (n : Nat) (but : List (Nat → Fld)) : Prop := ∀ f, f ∈ [F.imgEng_ACTIVE_SLOT, F.imgEng_OTHER_SLOT, F.imgEng_BOOT_SLOT,
      F.imgEng_STEP, F.imgEng_QUAR] → (∀ g, g ∈ but → g 0 ≠ f 0) → t.get (f n) = s.get (f n)
    let only (t : State) (regs : List Nat) : Prop := (∀ a, a ∉ A.hriEvtLost :: regs → t.reg a = s.reg a) ∧ t = { s with
      regs := t.regs
      host := { s.host with evBuf := t.host.evBuf, evDropped := t.host.evDropped }
      plan := t.plan
      spar := t.spar
      img := t.img }
    -- R549: what arms a swap, and an armed one
    let may (m : List Nat) (h : Nat → Option Hdr) : Bool := swapMode s.mode && (s.servedAll m).all (fun g => s.gst g == gIdle || s.gst g == gEnabled) &&
      (match s.md.decided with | none => true | some x => swapMode x.target) &&
      m.all (fun n => !s.engFaulted n && !Table.look false s.clk.late n &&
        match h n, (s.eimg n).act with | some a, some b => a.shash == b.shash | _, _ => false)
    let job (m : List Nat) (back : Bool) : SwapJob := { mask := m, prev := (s.servedAll m).map (fun g => (g, s.gst g)), back := back }
    let armed (t : State) (m : List Nat) (back : Bool) : Prop :=
      t.img.jobs = s.img.jobs ++ [job m back] ∧ t.img.grpNext = s.img.grpNext ++ (s.servedAll m).map (fun g => (g, gSwapping)) ∧
      t.getB F.imgStatus_SWAP_BUSY = true ∧ flags t [F.imgStatus_SWAP_BUSY] ∧
      ∀ n : Fin 34, m.contains n.val = true → t.get (F.imgEng_STEP n.val) = 2
    -- an engine with its banks exchanged
    let exchanged (t : State) (n : Nat) : Prop :=
      let y := s.eng n
      t.eng n = ({ active := !y.active
                   swapped := true
                   otherValid := true
                   code0 := y.code0
                   code1 := y.code1
                   pub := y.pub
                   prm := y.prm
                   prmNext := y.prmNext
                   hal := y.hal
                   ipend := y.ipend
                   sram := y.sram
                   region := y.region
                   xw := y.xw
                   xwMask := y.xwMask
                   run := true
                   tickPend := true } : Eng) ∧
      t.eimg n = { s.eimg n with act := (s.eimg n).other, other := (s.eimg n).act, staged := none } ∧
      t.get (F.imgEng_ACTIVE_SLOT n) = s.get (F.imgEng_OTHER_SLOT n) ∧ t.get (F.imgEng_OTHER_SLOT n) = s.get (F.imgEng_ACTIVE_SLOT n) ∧
      t.get (F.imgEng_BOOT_SLOT n) = s.get (F.imgEng_BOOT_SLOT n) ∧ t.get (F.imgEng_QUAR n) = s.get (F.imgEng_QUAR n)
    -- the engines of a mask, each named once, and the others
    let engines (t : State) (m : List Nat) (step : Nat) : Prop := ∀ n : Fin 34,
      (m.count n.val = 1 → exchanged t n.val ∧ t.get (F.imgEng_STEP n.val) = step) ∧
      (m.count n.val = 0 → t.eng n.val = s.eng n.val ∧ t.eimg n.val = s.eimg n.val)
    let idle (t : State) : Prop := t.spar = s.spar ∧ t.img.engs = s.img.engs
    -- groups still in SWAPPING go back to what they were, each named once
    let back (t : State) (j : SwapJob) : Prop :=
      (∀ g : Fin 32, j.prev.any (fun p => p.1 == g.val) = false → t.gst g.val = s.gst g.val) ∧
      (∀ p, p ∈ j.prev → j.prev.filter (fun q => q.1 == p.1) = [p] → p.1 < 32 → p.2 < 8 →
        t.gst p.1 = if s.gst p.1 = gSwapping then p.2 else s.gst p.1) ∧
      t.img.grpNext = s.img.grpNext.filter (fun q => !(q.2 == gSwapping && j.prev.any (fun p => p.1 == q.1)))
    let gone (t : State) (j : SwapJob) : Prop := t.img.jobs = s.img.jobs.filter (fun y => y.mask != j.mask) ∧
      t.getB F.imgStatus_SWAP_BUSY = !t.img.jobs.isEmpty
    -- staging completes
    (let staging := s.img.staging.find? (fun y => y.mask.contains e.val)
     (staging = none → exec (.imageStaged e) s = .next s) ∧
     (∀ w, staging = some w →
      (s.imgSlot w.slot = none → exec (.imageStaged e) s = .next s) ∧
      (∀ i, s.imgSlot w.slot = some i → w.slot < 64 →
       let arms : Bool := w.swap && may w.mask (fun _ => some i.h)
       ∃ t, exec (.imageStaged e) s = .next t ∧ only t (A.imgStatus :: w.mask.map A.imgEng) ∧ t.plan = s.plan ∧
        (∀ n : Fin 34,
          let y := s.eng n.val
          if w.mask.contains n.val = true then
            t.eimg n.val = { s.eimg n.val with staged := some (w.slot, w.boot), other := some i.h } ∧
            t.get (F.imgEng_OTHER_SLOT n.val) = w.slot ∧ t.get (F.imgEng_STEP n.val) = (if arms then 2 else 1) ∧
            kept t n.val [F.imgEng_OTHER_SLOT, F.imgEng_STEP] ∧
            t.eng n.val = { y with
              otherValid := true
              code0 := if y.active then byteTable i.code else y.code0
              code1 := if y.active then y.code1 else byteTable i.code }
          else t.eimg n.val = s.eimg n.val ∧ t.eng n.val = s.eng n.val) ∧
        t.img.staging = s.img.staging.filter (fun y => y.mask != w.mask) ∧
        (s.host.evBuf.length < 256 → t.host.evBuf = s.host.evBuf ++ [event 0x0403 sevInfo (maskNat w.mask % 2 ^ 64 * 2 ^ 64)]) ∧
        (arms = true → armed t w.mask false) ∧
        (arms = false → t.img.jobs = s.img.jobs ∧ t.img.grpNext = s.img.grpNext ∧ t.reg A.imgStatus = s.reg A.imgStatus)))) ∧
    -- IMAGE_SWAP
    (let mask := engMask (d.f 1 33 0)
     let first := mask.headD 0
     let answers (i : Instr) (out : Nat × Nat) (d' : Desc) (P : State → Prop) : Prop := Accepts s 0x0402 d' →
       ∃ t, Answers i d s t (decide (out.1 ≠ 0)) (out.1 * 2 ^ 24 + out.2) ∧ OnlyRing d s t (if out.1 = 0 then A.imgStatus :: mask.map A.imgEng else []) ∧
        t = { s with regs := t.regs, host := t.host, hostMem := t.hostMem, img := t.img } ∧ t.host.evBuf = s.host.evBuf ∧
        (out.1 ≠ 0 → t.img = s.img) ∧ (out.1 = 0 → P t)
     let staged (n : Nat) : Option Hdr := match (s.eimg n).staged with | some k => (s.imgSlot k.1).map (·.h) | none => none
     let out : Nat × Nat := match mask.find? (fun n => !s.engPresent n), mask.find? (fun n => (s.jobOf n).isSome || (s.eimg n).reload.isSome),
         mask.find? (fun n => (s.eimg n).staged.isNone) with
       | some n, _, _ => (1, n)
       | none, some n, _ => (3, n)
       | none, none, some n => (0x0A, n)
       | none, none, none => if mask = [] then (0x0A, 0) else if may mask staged then (0, 0) else (2, first)
     answers (.imageSwap d) out (d.force 1 63 63 0) (fun t => armed t mask false) ∧
     (let mine := s.img.jobs.find? (fun y => y.mask == mask)
      let out : Nat × Nat := match mask.find? (fun n => !s.engPresent n), mine, mask.find? s.engBusy,
          mask.find? (fun n => (s.eimg n).other.isNone || !(s.eng n).otherValid) with
        | some n, _, _, _ => (1, n)
        | none, some j, _, _ => if j.done then (0, 0) else (3, first)
        | none, none, some n, _ => (3, n)
        | none, none, none, some n => (0x0A, n)
        | none, none, none, none => if mask = [] then (0x0A, 0) else if may mask (fun n => (s.eimg n).other) then (0, 0) else (2, first)
      answers (.imageRollback d) out (d.force 1 63 63 1) (fun t =>
        (mine = none → armed t mask true) ∧
        (∀ j, mine = some j → s.jobOf first = some j → t.img = { s.img with jobs := s.img.jobs.map (fun y =>
          if y.mask = mask ∧ j.roll = none then { y with roll := some (4, s.clk.ticks) } else y) })))) ∧
    -- a swap that is armed, or in probation
    (let mine := s.jobOf e.val
     (mine = none → exec (.swapTakeEffect e) s = .next s ∧ exec (.swapAbandon e) s = .next s ∧ exec (.swapRollback e) s = .next s ∧
       exec (.probationEnd e) s = .next s) ∧
     (∀ j, mine = some j →
      let tries := s.get F.imgSwapCfg_TRIES
      let regs := A.imgStatus :: j.mask.map A.imgEng
      let grpRegs := [A.glbStatus] ++ (upto 32).map (fun g => (grpFld g).a)
      let served := s.servedAll j.mask
      let ready : Prop := j.done = false ∧ s.clk.cyc = 0 ∧ 2 ≤ j.count ∧ j.count ≤ tries + 1 ∧ s.allDone j.mask = true ∧ (∀ g, g ∈ served → s.gst g = gSwapping)
      let expired : Prop := j.done = false ∧ (tries + 1 < j.count ∨ (j.count = tries + 1 ∧ s.allDone j.mask = false) ∨
        served.any (fun g => s.gst g == gFaulted || s.gst g == gQuarantined) = true)
      let called : Prop := s.clk.cyc = 0 ∧ ∃ r, j.roll = some r ∧ r.2 < s.clk.ticks
      let exceeds' : Prop := j.done = true ∧ j.roll = none ∧ s.get F.imgSwapCfg_PROBATION ≤ j.count
      (¬ ready → exec (.swapTakeEffect e) s = .next s) ∧
      (ready → ∃ t, exec (.swapTakeEffect e) s = .next t ∧ only t regs ∧ t.plan = s.plan ∧ t.host = s.host ∧ engines t j.mask 3 ∧
        t.img = { s.img with
          engs := t.img.engs
          jobs := s.img.jobs.map (fun y => if y.mask = j.mask then { y with
            done := true
            count := 0
            boots := j.mask.filterMap (fun n => match (s.eimg n).staged with
              | some (k, true) => some (n, k)
              | _ => none) } else y) } ∧
        flags t [F.imgStatus_SWAP_BUSY]) ∧
      (¬ expired → exec (.swapAbandon e) s = .next s) ∧
      (expired → ∃ t, exec (.swapAbandon e) s = .next t ∧ only t (regs ++ grpRegs) ∧ idle t ∧ ended t j.mask 2 0 ∧ back t j ∧ gone t j ∧
        (∀ n : Fin 34, j.mask.contains n.val = true →
          t.get (F.imgEng_STEP n.val) = (if (s.eimg n.val).staged = none then 0 else 1) ∧ kept t n.val [F.imgEng_STEP]) ∧
        t.img = { s.img with jobs := t.img.jobs, grpNext := t.img.grpNext } ∧ flags t [F.imgStatus_SWAP_BUSY]) ∧
      (¬ called → exec (.swapRollback e) s = .next s) ∧
      (∀ r, j.roll = some r → called → r.1 < 256 → ∃ t, exec (.swapRollback e) s = .next t ∧ only t (regs ++ grpRegs) ∧ ended t j.mask 1 r.1 ∧
        back t j ∧ gone t j ∧ engines t j.mask 0 ∧
        t.img = { s.img with engs := t.img.engs, jobs := t.img.jobs, grpNext := t.img.grpNext } ∧ flags t [F.imgStatus_SWAP_BUSY]) ∧
      (¬ exceeds' → exec (.probationEnd e) s = .next s) ∧
      (exceeds' →
        let writes : Bool := !j.boots.isEmpty && s.flashOk
        let waits : Bool := !j.boots.isEmpty && !s.flashOk
        ∃ t, exec (.probationEnd e) s = .next t ∧ only t (regs ++ j.boots.map (fun p => A.imgEng p.1)) ∧ idle t ∧ t.plan = s.plan ∧ ended t j.mask 0 0 ∧
        gone t j ∧ t.img = { s.img with
          jobs := t.img.jobs
          grpNext := s.img.grpNext ++ j.prev
          bootPend := s.img.bootPend ++ (if waits then j.boots else []) } ∧
        t.getB F.imgStatus_BOOT_PENDING = (s.getB F.imgStatus_BOOT_PENDING || waits) ∧ flags t [F.imgStatus_SWAP_BUSY, F.imgStatus_BOOT_PENDING] ∧
        (∀ n : Fin 34, (j.mask.contains n.val = true → t.get (F.imgEng_STEP n.val) = 0) ∧ kept t n.val [F.imgEng_STEP, F.imgEng_BOOT_SLOT] ∧
          ((∀ p, p ∈ j.boots → p.2 < 64) → t.get (F.imgEng_BOOT_SLOT n.val) =
            match (j.boots.filter (fun p => p.1 == n.val && writes)).getLast? with
            | some p => p.2
            | none => s.get (F.imgEng_BOOT_SLOT n.val))))))

/-- R579 to R581: debug access (spec/17_electrical_and_package.md). -/
def Obligations.DebugAccess : Prop :=
  ∀ (jtag : Bool) (e : Fin 40) (v : W32) (cyc : Nat) (s : State),
    let path := if jtag then 2 else 1
    let owner := s.get F.dbgCtrl_OWNER
    let reaches : Prop := if jtag then s.lc = 1 ∨ s.lc = 2 else s.ready = true
    let other : Prop := owner ≠ 0 ∧ owner ≠ path
    let n := e.val
    let halted (k : Nat) : Bool := s.getB (F.dbgEngStatus_HALTED k)
    let fields (t : State) (l : List Fld) : Prop := ∀ f, f ∈ l → t.get f = s.get f
    let regsBut (t : State) (l : List Nat) : Prop := ∀ a, a ∉ l → t.reg a = s.reg a
    -- a write of the path that does not own the block
    let contend (o : Host.Outcome State Fault Refusal) (u : State) : Prop := ∃ t, o = .next t ∧ regsBut t [A.dbgCtrl] ∧ t.getB F.dbgCtrl_CONTEND = true ∧
      fields t [F.dbgCtrl_OWNER, F.dbgCtrl_ATTACH] ∧ t = { u with clk := { u.clk with fresh := t.clk.fresh }, regs := t.regs }
    -- an engine goes on
    let goes (t : State) (k : Nat) : Prop := t.getB (F.dbgEngStatus_HALTED k) = false ∧ t.getB (F.dbgEngStatus_BRK k) = false ∧
      t.getB (F.clkEngStat_HALT k) = false ∧ (s.slotPresent k = true → t.getB (F.pwmSlotStatus_HALTED k) = false) ∧
      t.eng k = { s.eng k with stepOne := false } ∧
      fields t [F.dbgEngStatus_PC k, F.dbgEngStatus_SET k, F.dbgEngStatus_ACCESS k, F.clkEngStat_FAULT k, F.clkEngStat_OVR_RUN k, F.clkEngStat_LATE k,
        F.clkEngStat_DONE k]
    let shown (k : Nat) := [A.dbgEngStatus k, A.clkEngStat k] ++ if s.slotPresent k then [A.pwmSlotStatus k] else []
    let engines (t : State) (but : Nat) : Prop := ∀ k : Fin 38, k.val ≠ but → t.eng k.val = s.eng k.val
    let detached (t : State) : Prop := t.get F.dbgCtrl_OWNER = 0 ∧ t.getB F.dbgCtrl_ATTACH = false ∧ fields t [F.dbgCtrl_CONTEND] ∧
      regsBut t (A.dbgCtrl :: ((upto 38).filter halted).flatMap shown) ∧
      (∀ k : Fin 38, (halted k.val = true → goes t k.val) ∧ (halted k.val = false → t.eng k.val = s.eng k.val))
    let attach := exec (.debugAttach ⟨jtag, cyc⟩) s
    let detach := exec (.debugDetach jtag) s
    -- attachment
    (let w := s.atCyc cyc
     let both : Prop := jtag = false ∧ owner = 2 ∧ s.dbg.since = (s.clk.ticks, cyc)
     (¬ reaches → attach = .next w ∧ detach = .next s) ∧
     (reaches →
      (owner = 0 ∨ both → ∃ t, attach = .next t ∧ regsBut t [A.dbgCtrl] ∧ t.get F.dbgCtrl_OWNER = path ∧ t.getB F.dbgCtrl_ATTACH = true ∧
        fields t [F.dbgCtrl_CONTEND] ∧ t = { w with regs := t.regs, dbg := { s.dbg with since := (s.clk.ticks, cyc) } }) ∧
      (owner = path → attach = .next w) ∧
      (other → (¬ both → contend attach w) ∧ contend detach s) ∧
      (owner = path → ∃ t, detach = .next t ∧ detached t ∧ t = { s with regs := t.regs, spar := t.spar }) ∧
      (owner = 0 → detach = .next s))) ∧
    (let ir : DbgSt := { s.dbg with ir := .idcode, tdr := s.idcode }
     (owner = 2 → ∃ t, exec .tapReset s = .next t ∧ detached t ∧ t = { s with regs := t.regs, spar := t.spar, dbg := ir }) ∧
     (owner ≠ 2 → exec .tapReset s = .next { s with dbg := ir })) ∧
    -- engines
    (let may : Prop := (n < 34 ∨ s.lc = 1) ∧ n < 38 ∧ s.mode = mService
     let x := s.eng n
     let halt := exec (.halt jtag e) s
     let resume := exec (.resume jtag e) s
     let step := exec (.step jtag e) s
     let transfer := exec (.memoryTransfer jtag v) s
     (¬ reaches ∨ owner = 0 → halt = .next s ∧ resume = .next s ∧ step = .next s ∧ transfer = .next s) ∧
     (reaches → other → contend halt s ∧ contend resume s ∧ contend step s ∧ contend transfer s) ∧
     (reaches → owner = path →
      (¬ (may ∧ halted n = false ∧ s.sparRuns n = true) → halt = .next s) ∧
      (may → halted n = false → s.sparRuns n = true → ∃ t, halt = .next t ∧ regsBut t (shown n) ∧ engines t n ∧
        t.getB (F.dbgEngStatus_HALTED n) = true ∧ t.getB (F.clkEngStat_HALT n) = true ∧ t.get (F.dbgEngStatus_PC n) = x.pc % 65536 ∧
        t.getB (F.dbgEngStatus_SET n) = x.inH ∧ t.getB (F.dbgEngStatus_BRK n) = false ∧ t.eng n = { x with stepOne := false } ∧ t.sparRuns n = false ∧
        (s.slotPresent n = true → t.getB (F.pwmSlotStatus_HALTED n) = true) ∧
        fields t [F.dbgEngStatus_ACCESS n, F.clkEngStat_FAULT n, F.clkEngStat_OVR_RUN n, F.clkEngStat_LATE n, F.clkEngStat_DONE n] ∧
        t = { s with regs := t.regs, spar := t.spar }) ∧
      (¬ (may ∧ halted n = true) → resume = .next s ∧ step = .next s) ∧
      (may → halted n = true →
        (∃ t, resume = .next t ∧ regsBut t (shown n) ∧ engines t n ∧ goes t n ∧ t = { s with regs := t.regs, spar := t.spar }) ∧
        (∃ t, step = .next t ∧ engines t n ∧ t.eng n = { x with stepOne := true } ∧ t = { s with spar := t.spar })) ∧
      -- GO
      (let busy := s.getB F.dbgMemCtrl_BUSY
       let clears : Bool := v.getLsbD 26 && !(Table.look 0 s.clk.fresh A.dbgMemCtrl).testBit 26
       let word (t : State) : W32 := t.dbg.xfer.elim 0 (fun r => r.1)
       ∃ t, transfer = .next t ∧ regsBut t [A.dbgMemCtrl] ∧ t.getB F.dbgMemCtrl_BUSY = true ∧ t.get F.dbgMemCtrl_ENGINE = bits v 5 0 ∧
        t.getB F.dbgMemCtrl_WRITE = v.getLsbD 30 ∧ t.get F.dbgMemCtrl_SPACE = (if 5 ≤ bits v 29 27 then 0 else bits v 29 27) ∧
        t.getB F.dbgMemCtrl_ERR = (s.getB F.dbgMemCtrl_ERR && !clears) ∧
        t = { s with
          regs := t.regs
          dbg := { s.dbg with xfer := if busy then s.dbg.xfer else some (word t, s.get F.dbgMemAddr_ADDR, s.get64 A.dbgMemDataLo) } } ∧
        (busy = false → ∃ r, t.dbg.xfer = some r ∧ bits r.1 5 0 = bits v 5 0 ∧ r.1.getLsbD 30 = v.getLsbD 30 ∧
          bits r.1 29 27 = if 5 ≤ bits v 29 27 then 0 else bits v 29 27)))) ∧
    -- a transfer completes
    (s.dbg.xfer = none → exec .memoryTransferDone s = .next s) ∧
    (∀ r, s.dbg.xfer = some r →
      let who := bits r.1 5 0
      let write := r.1.getLsbD 30
      let space := bits r.1 29 27
      let addr := r.2.1
      let at8 := addr / 8 * 8
      let data := r.2.2 % 2 ^ 64
      let y := s.eng who
      let allowed : Prop := (who < 34 ∨ s.lc = 1) ∧ who < 38 ∧ (s.mode = mService ∨ s.lc = 1 ∨ (s.lc = 2 ∧ write = false)) ∧
        (write = true → halted who = true)
      let u : State := { (s.set F.dbgMemCtrl_BUSY 0) with dbg := { s.dbg with xfer := none } }
      let failed : Prop := ∃ t, exec .memoryTransferDone s = .next t ∧ regsBut t [A.dbgMemCtrl] ∧ t.getB F.dbgMemCtrl_BUSY = false ∧
        t.getB F.dbgMemCtrl_ERR = true ∧ fields t [F.dbgMemCtrl_ENGINE, F.dbgMemCtrl_WRITE, F.dbgMemCtrl_SPACE] ∧
        t = { u with clk := { s.clk with fresh := t.clk.fresh }, regs := t.regs }
      let set : RegSet := if space = 2 then y.base else y.intr
      let code : Table Byte := if y.active then y.code1 else y.code0
      let word (k : Nat) (acc : BitVec 160) : Nat := acc.toNat / 2 ^ (64 * k) % 2 ^ (if k = 2 then 32 else 64)
      -- what a read of the space gives, with what reading does; none outside the space
      let read : Option (Nat × State) :=
        if space = 0 then (match sparLoad who at8 8 u with | .ok p => some p | .error _ => none)
        else if space = 1 then (if addr < 0xC000 then some (memLe code at8 8, u) else none)
        else if space = 2 ∨ space = 3 then
          (if addr < 64 then some ((Table.look 0 set.g addr).toNat, u) else if addr < 67 then some (word (addr - 64) set.acc0, u)
            else if addr < 70 then some (word (addr - 67) set.acc1, u) else none)
        else (mfc who addr u).map (fun p => (p.toNat, u))
      let patch (k : Nat) (acc : BitVec 160) : BitVec 160 := BitVec.ofNat 160 (acc.toNat - word k acc * 2 ^ (64 * k) +
        data % 2 ^ (if k = 2 then 32 else 64) * 2 ^ (64 * k))
      let poke (z : RegSet) : Option RegSet := if addr < 64 then some { z with g := Table.put 0 addr (BitVec.ofNat 64 data) z.g }
        else if addr < 67 then some { z with acc0 := patch (addr - 64) z.acc0 } else if addr < 70 then some { z with acc1 := patch (addr - 67) z.acc1 }
        else none
      let stored : Option State :=
        if space = 0 then (match sparStore who at8 8 data u with | .ok t => some t | .error _ => none)
        else if space = 1 then (if addr < 0xC000 then some (u.updEng who (fun z =>
          if z.active then { z with code1 := memPut data at8 8 z.code1 } else { z with code0 := memPut data at8 8 z.code0 })) else none)
        else if space = 2 then (poke y.base).map (fun z => u.updEng who (fun x => { x with base := z }))
        else if space = 3 then (poke y.intr).map (fun z => u.updEng who (fun x => { x with intr := z }))
        else mtc who addr (BitVec.ofNat 64 data) u
      (¬ allowed → failed) ∧
      (allowed → write = false → (read = none → failed) ∧
        (∀ p, read = some p → exec .memoryTransferDone s = .next (p.2.set64 A.dbgMemDataLo p.1))) ∧
      (allowed → write = true → (stored = none → failed) ∧ (∀ t, stored = some t → exec .memoryTransferDone s = .next t)))

/-- R582: the JTAG port (spec/17_electrical_and_package.md). -/
def Obligations.JtagPort : Prop :=
  ∀ (pads drive : List Bool) (m : ShroudSample) (p : Fin 8) (k : Fin 32) (c : Fin 127) (s : State),
    let sto := s.getB F.shrStatus_STO_ALL
    let code : W32 := if s.get F.glbId_REV = 0xB1 then 0x16480D5D else 0x26480D5D
    let loads (o : Host.Outcome State Fault Refusal) (i : JtagIr) (d : W32) (now : JtagIr) (taken : Bool) : Prop :=
      ∃ t, o = .next t ∧ t = { s with dbg := { s.dbg with ir := i, tdr := d } } ∧ t.jtagIr = now ∧ t.padsTaken = taken
    let acts (i : JtagIr) : JtagIr := if sto then i else .bypass
    -- the Shroud's own step leads to u
    let watched (o : Host.Outcome State Fault Refusal) (u : State) : Prop :=
      let fell : Prop := s.padsTaken = true ∧ u.getB F.shrStatus_STO_ALL = false
      let shown (n : Nat) := [A.pwmSlotCtrl n, A.pwmSlotStatus n] ++ (upto 4).map (A.pwmSlotResidue n)
      (¬ fell → o = .next u) ∧
      (fell → ∃ t, o = .next t ∧ (∀ a, a ∉ ((upto 24).filter u.slotPresent).flatMap shown → t.reg a = u.reg a) ∧
        (∀ n : Fin 24, (u.slotPresent n.val = false → t.slot n.val = u.slot n.val) ∧
          (u.slotPresent n.val = true → t.getB (F.pwmSlotCtrl_RUN n.val) = false ∧ t.getB (F.pwmSlotStatus_SAFE n.val) = true ∧
            t.slot n.val = { u.slot n.val with pulsing := false, pairs := [] } ∧
            (∀ q : Fin 4, t.get (F.pwmSlotResidue_RESIDUE n.val q.val) = 0) ∧
            (∀ b : Fin 32, b.val ≠ (F.pwmSlotCtrl_RUN n.val).lo →
              (t.reg (A.pwmSlotCtrl n.val)).getLsbD b.val = (u.reg (A.pwmSlotCtrl n.val)).getLsbD b.val) ∧
            (∀ b : Fin 32, b.val ≠ (F.pwmSlotStatus_SAFE n.val).lo →
              (t.reg (A.pwmSlotStatus n.val)).getLsbD b.val = (u.reg (A.pwmSlotStatus n.val)).getLsbD b.val))) ∧
        t = { u with regs := t.regs, pwm := { u.pwm with slots := t.pwm.slots } })
    loads (exec .bypass s) .bypass 0 .bypass false ∧
    loads (exec .idcode s) .idcode code .idcode false ∧
    (∃ t, exec (.samplePreload pads drive) s = .next t ∧ t = { s with dbg := { s.dbg with ir := .sample, tdr := 0, cells := pads, drive := drive } } ∧
      t.jtagIr = .sample ∧ t.padsTaken = false) ∧
    loads (exec .extest s) .extest 0 (acts .extest) sto ∧
    loads (exec .highz s) .highz 0 (acts .highz) sto ∧
    loads (exec .clamp s) .clamp 0 (acts .clamp) sto ∧
    (s.padsTaken = true → sto = true ∧ s.dbg.ir ∈ [JtagIr.extest, .highz, .clamp]) ∧
    watched (exec (.shroudTick m) s) (shroudTick m s) ∧
    watched (exec .shroudStartUp s) (shrStartUp s) ∧
    watched (exec (.discrepancyTimeout p) s) (discrepancy p.val s) ∧
    watched (exec (.stopComplete k) s) (stopComplete k.val s) ∧
    watched (exec (.slsReact k) s) (slsReact k.val s) ∧
    watched (exec (.tseWatchdog c) s) (tseWatch c.val s)

/-- R8 to R12, R53, R54, R70, R71, R324, R342, R362, R394, R425, R496, R503 and R580: register accesses (spec/00_scope.md and the chapters
of the registers). The configuration header and the MSI-X mask are notes/assumptions/101.md and 102.md. -/
def Obligations.Registers : Prop :=
  ∀ (p : RegPath) (a : BitVec 20) (w : W32) (b : BitVec 18) (v : W64) (word3 : Fin 3) (word2 : Fin 2) (word4 : Fin 4) (sdi : Bool) (k : Fin 96)
    (f : Fin 32) (q : Fin 2) (i : Fin 32) (cyc : Nat) (s : State),
    let y := a.toNat
    let z := b.toNat
    let u := s.atCyc cyc
    let answered (x : State) (d : W32) : State := { x with host := { x.host with readData := d } }
    let copies (x t : State) (adr : Nat) (l : List Nat) : Prop := t.host.readData = x.live adr ∧ (∀ c, c ∈ l → t.held c = some (x.live c)) ∧
      (∀ c, c ∉ l → t.held c = x.held c) ∧ t = { x with host := { x.host with readData := t.host.readData, holds := t.host.holds } }
    -- a read of a register that latches the registers l
    let reads (x : State) (adr : Nat) (l : List Nat) (o : Host.Outcome State Fault Refusal) : Prop :=
      (∀ c, x.held adr = some c → o = .next (answered (x.setHold adr none) c)) ∧
      (x.held adr = none → ∃ t, o = .next t ∧ copies x t adr l)
    let early (adr : Nat) : Prop := s.ready = false ∧ 0x1000 ≤ adr
    let res := if sdi then A.adcSdiRes k.val else A.adcAinRes k.val
    let seg := inSeg0 sdi k.val
    let pos := A.fbkFbPos f.val
    -- reads by path
    (let o := exec (.wideRegisterRead ⟨p, a⟩) s
     (p = .bar0 →
      (early y ∨ 0x20000 ≤ y → o = .next (answered s 0)) ∧
      (¬ early y → y < 0x20000 → y ≠ A.ptpPortTxtsId 0 → y ≠ A.ptpPortTxtsId 1 → reads s y (latchesOf y) o) ∧
      (s.ready = true → y = A.ptpPortTxtsId q.val →
        let time := match (s.port q.val).ready with
          | [] => 0
          | e :: _ => e.time
        ∃ t, o = .next t ∧ t.host.readData = s.reg y ∧ t.get64 (A.ptpPortTxtsTimeLo q.val) = time / 2 ^ 32 % 2 ^ 64 ∧
          t.reg (A.ptpPortTxtsFrac q.val) = BitVec.ofNat 32 time ∧
          (∀ c, c ∉ [A.ptpPortTxtsTimeLo q.val, A.ptpPortTxtsTimeLo q.val + 4, A.ptpPortTxtsFrac q.val] → t.reg c = s.reg c) ∧
          t = { answered s (s.reg y) with regs := t.regs }) ∧
      (wideLow y = true → latchesOf y = [y + 4]) ∧
      (y < 0x8000 → s.live y = s.reg y) ∧
      (∀ n : Fin 24, s.slotPresent n.val = false → 0x8000 + 0x100 * n.val ≤ y → y < 0x8100 + 0x100 * n.val → s.live y = 0) ∧
      (s.inPresent false k.val = false → 0xA600 + 0x20 * k.val ≤ y → y < 0xA620 + 0x20 * k.val → s.live y = 0)) ∧
     (p = .bar2 → ∃ t, o = .next t ∧ t = answered s t.host.readData ∧
      (y < 0x40000 → t.host.readData = (if y % 0x1000 = 0 then (s.ring (y / 0x1000)).t else if y % 0x1000 = 4 then (s.ring (y / 0x1000)).k else 0)) ∧
      (y = 0x40000 → t.host.readData = s.host.evHost) ∧
      (∀ m : Fin 4, y = 0x41000 + 0x1000 * m.val → t.host.readData = s.reg (A.hriCrHead m.val)) ∧
      (0x60000 ≤ y → y < 0x60200 → y % 4 = 0 → t.host.readData = s.msixWord ((y - 0x60000) / 4)) ∧
      (y = 0x61000 → t.host.readData.getLsbD i.val = s.host.msixPend.contains i.val) ∧
      (0x40000 < y → (∀ m : Fin 4, y ≠ 0x41000 + 0x1000 * m.val) → ¬ (0x60000 ≤ y ∧ y < 0x60200 ∧ y % 4 = 0) → y ≠ 0x61000 →
        t.host.readData = 0)) ∧
     (p = .jtag →
      (let reached : Prop := 0x1C000 ≤ y ∧ y < 0x20000 ∧ (s.lc = 1 ∨ s.lc = 2)
       (reached → reads s y (latchesOf y) o) ∧ (¬ reached → o = .next s))) ∧
     (p = .config →
      (s.getB F.clkPllStatus_LOCK = false → o = .next s) ∧
      (s.getB F.clkPllStatus_LOCK = true →
        (y = 0 → o = .next (answered s 0x6480E9A0)) ∧
        (y = 8 → o = .next (answered s (BitVec.ofNat 32 (0x11800000 + s.get F.glbId_REV)))) ∧
        (y = 0x2C → o = .next (answered s (if s.slots = 24 then 0x0024E9A0 else 0x0012E9A0))) ∧
        (y ∉ [0, 8, 0x2C] → o = .next (answered { s with free := s.free + 1 } ((Config.freeValue s.free).setWidth 32)))))) ∧
    -- reads by name
    (let time := A.ptpTimeLo + 4 * word3.val
     (s.ready = false → exec (.timeRead word3 cyc) s = .next (answered u 0)) ∧
     (s.ready = true → reads u time (if word3 = 0 then [A.ptpTimeHi, A.ptpTimeFrac] else []) (exec (.timeRead word3 cyc) s)) ∧
     u.live A.ptpTimeLo = BitVec.ofNat 32 u.nowNs ∧ u.live A.ptpTimeHi = BitVec.ofNat 32 (u.nowNs / 2 ^ 32) ∧
     u.live A.ptpTimeFrac = BitVec.ofNat 32 u.nowFx) ∧
    (s.inPresent sdi k.val = false → exec (.resRead sdi k word2) s = .next s ∧ exec (.seg0SumRead sdi k word4) s = .next s) ∧
    (s.inPresent sdi k.val = true → s.ready = false → exec (.resRead sdi k word2) s = .next (answered s 0) ∧
      exec (.seg0SumRead sdi k word4) s = .next (answered s 0)) ∧
    (s.inPresent sdi k.val = true → s.ready = true →
      reads s (res + 4 * word2.val) (if word2 = 0 then [res + 4] else []) (exec (.resRead sdi k word2) s) ∧
      reads s (seg + 4 * word4.val) (if word4 = 0 then [seg + 4, seg + 8, seg + 12] else []) (exec (.seg0SumRead sdi k word4) s) ∧
      s.live (res + 4 * word2.val) = s.reg (res + 4 * word2.val) ∧ s.live (seg + 4 * word4.val) = s.reg (seg + 4 * word4.val)) ∧
    (s.ready = false → exec (.posRead f word4 cyc) s = .next (answered u 0)) ∧
    (s.ready = true → reads u (pos + 4 * word4.val) (if word4 = 0 then [pos + 4, pos + 8, pos + 12] else if word4 = 2 then [pos + 12] else [])
        (exec (.posRead f word4 cyc) s) ∧
      u.live (pos + 4 * word4.val) = (if word4 = 2 then BitVec.ofNat 32 (wrapN 64 (fbSpeed u f.val))
        else if word4 = 3 then BitVec.ofNat 32 (wrapN 64 (fbSpeed u f.val) / 2 ^ 32) else u.reg (pos + 4 * word4.val))) ∧
    -- 64-bit writes
    (let o := exec (.wideRegisterWrite b v) s
     let part (c : Nat) (d : W32) (x : State) := exec (.registerWrite .bar0 (BitVec.ofNat 20 c) d s.clk.cyc) x
     (wideWritable z = false → o = .next s) ∧
     (wideWritable z = true → ∃ x, part z (v.extractLsb' 0 32) s = .next x ∧ o = part (z + 4) (v.extractLsb' 32 32) x) ∧
     (let pair (at0 : Nat) (d : W64) : Prop := ∃ t, o = .next t ∧ t.get64 at0 = d.toNat ∧ (∀ c, c ∉ [at0, at0 + 4] → t.reg c = s.reg c) ∧
        t = { s with regs := t.regs, host := { s.host with wideLo := Table.put none at0 none s.host.wideLo } }
      (z = A.dbgMemDataLo → s.ready = true → s.get F.dbgCtrl_OWNER = 1 → pair z v) ∧
      (∀ m : Fin 4, z = A.capCrDataLo m.val → s.ready = true →
        (s.getB (F.hriCrCfg_EN m.val) = true → o = .next s) ∧
        (s.getB (F.hriCrCfg_EN m.val) = false → pair z (v &&& 0xFFFFFFFFFFFF0000))))) ∧
    -- writes by path
    (let o := exec (.registerWrite p a w cyc) s
     let word (t : State) (d : W32) : Prop := t.reg y = d ∧ (∀ c, c ∉ [y] → t.reg c = u.reg c) ∧ t = { u with regs := t.regs }
     let stores (d : W32) : Prop := ∃ t, o = .next t ∧ word t d
     (p = .config → o = .next u) ∧
     (p = .bar2 →
      (let table : Prop := 0x60000 ≤ y ∧ y < 0x60200 ∧ y % 4 = 0
       let n := (y - 0x60000) / 4
       (¬ table → o = .next u) ∧
       (table → ∃ t, o = .next t ∧ (∀ m : Fin 128, t.msixWord m.val = if m.val = n then w else s.msixWord m.val) ∧
        t.host.msixPend = (if n % 4 = 3 ∧ w.getLsbD 0 = false then s.host.msixPend.filter (fun e => e != n / 4) else s.host.msixPend) ∧
        t = { u with host := { u.host with msix := t.host.msix, msixPend := t.host.msixPend } }))) ∧
     (p = .jtag → (y < 0x1C000 ∨ 0x20000 ≤ y ∨ regGroup? y = none → o = .next u) ∧
      (y = A.dbgMemAddr → (s.lc = 1 ∨ s.lc = 2) → s.get F.dbgCtrl_OWNER = 2 → stores w)) ∧
     (p = .bar0 → early y ∨ regGroup? y = none → o = .next u) ∧
     (p = .bar0 → ¬ early y → ∀ g, regGroup? y = some g →
      -- what the access types make of the register; a W1C bit that something set in this cycle stays
      (let d : W32 := w &&& ~~~ (Table.look 0 u.clk.fresh y &&& BitVec.ofNat 32 g.w1c)
       let rw : W32 := BitVec.ofNat 32 g.rw
       let kept : W32 := s.reg y &&& ~~~ (d &&& BitVec.ofNat 32 g.w1c)
       let merged : W32 := ((s.reg y &&& ~~~ rw) ||| (d &&& rw)) &&& ~~~ (d &&& BitVec.ofNat 32 g.w1c)
       (y < 0x1000 → y ≠ A.glbResetCtrl → y ≠ A.glbLcCtrl → stores merged) ∧
       (0x1000 ≤ y → y < 0x2000 → o = .next { u with host := { u.host with hriPend := s.host.hriPend ++ [(y, d)] } }) ∧
       (0x2000 ≤ y → y < 0x3000 → y ≠ A.clkHalCut → stores merged) ∧
       (y = A.clkHalCut → ∃ t, o = .next t ∧ t.reg y = merged ∧
        t.get F.clkHalCutAct_CUT_ACT = min (bits merged F.clkHalCut_CUT.hi F.clkHalCut_CUT.lo) (s.ftCyc - 2000) % 2 ^ 17 ∧
        (∀ c, c ∉ [y, A.clkHalCutAct] → t.reg c = s.reg c) ∧ t = { u with regs := t.regs }) ∧
       (((0x3000 ≤ y ∧ y < 0x4000) ∨ (0x12000 ≤ y ∧ y < 0x16000)) → y ≠ A.ptpPortTxtsPop 0 → y ≠ A.ptpPortTxtsPop 1 →
        ∃ t, o = .next t ∧ t.reg y = kept ∧ (∀ c, c ∉ [y] → t.reg c = s.reg c) ∧
          t = { u with regs := t.regs, clk := { u.clk with tickWrites := if g.rw = 0 then s.clk.tickWrites else s.clk.tickWrites ++ [(y, d)] } }) ∧
       (0x4000 ≤ y → y < 0x8000 → y ≠ A.imgSwapCfg → stores merged) ∧
       (y = A.imgSwapCfg → stores (normF 31 16 (max 1) (normF 7 0 (max 1) merged))) ∧
       (0x8000 ≤ y → y < 0x10000 → y ∈ u.clk.engWrote → o = .next u) ∧
       (0x10000 ≤ y → y < 0x11000 →
        (let n := (y - 0x10000) / 0x400
         let at0 := (y - 0x10000) % 0x400
         (at0 = 0x10 → stores merged) ∧
         (at0 ≠ 0x10 → s.cuState n ≠ cIdle → o = .next u) ∧
         (at0 ≠ 0x10 → s.cuState n = cIdle → stores (if at0 = 0 then normF 31 30 (fun x => if x = 3 then 0 else x) merged
          else if at0 = 4 then normF 23 0 (max 20) merged
          else if at0 = 0xC then normF 14 0 (min 24576) merged
          else if 0x80 ≤ at0 ∧ at0 < 0x100 ∧ at0 % 0x10 = 0 then normF 31 28 (fun x => if 0xC ≤ x then 0 else x) merged
          else if 0x100 ≤ at0 ∧ 8 ≤ (at0 - 0x100) % 0x20 then normF 15 0 (max 1) merged
          else merged)))) ∧
       (0x16000 ≤ y → y < 0x18000 → ¬ (0x16040 ≤ y ∧ y < 0x16060) → stores merged) ∧
       (∀ m : Fin 8, y = A.dioInFilt m.val → ∃ t, o = .next t ∧ (∀ c, c ∉ [y] → t.reg c = s.reg c) ∧
        (∀ n : Fin 32, t.filt n.val = (if n.val / 4 = m.val then max 1 (bits d (8 * (n.val % 4) + 7) (8 * (n.val % 4))) else s.filt n.val) ∧
          Table.look 0 t.fld.ctr n.val = (if t.filt n.val = s.filt n.val then Table.look 0 s.fld.ctr n.val
            else min (Table.look 0 s.fld.ctr n.val) (t.filt n.val))) ∧
        t = { u with regs := t.regs, fld := { s.fld with ctr := t.fld.ctr } }) ∧
       (0x18000 ≤ y → y < 0x1C000 →
        (let may : Prop := y = A.shrTest ∧ s.shr.session.isSome = true ∧ s.shr.started = true
         (¬ may → o = .next u) ∧ (may → stores (w &&& 3)))) ∧
       (y = A.dbgMemAddr → s.get F.dbgCtrl_OWNER = 1 → stores merged))))
end

