-- ==== Sys2Proof/Laws/Table.lean ====
section
/-!
SUPPORT. Sparse tables: a read after a write, and that every table operation keeps the canonical form.
-/
namespace Sys2Proof.Machine

@[simp] theorem Table.look_nil {α : Type} (d : α) (k : Nat) : Table.look d [] k = d := rfl

theorem Table.look_filter_same {α : Type} (d : α) (k : Nat) (t : Table α) : Table.look d (t.filter (fun e => e.1 != k)) k = d := by
  induction t with
  | nil => rfl
  | cons e r ih => by_cases h : e.1 = k <;> simp [h, Table.look, ih]

theorem Table.look_filter_other {α : Type} (d : α) {k q : Nat} (hq : q ≠ k) (t : Table α) :
    Table.look d (t.filter (fun e => e.1 != k)) q = Table.look d t q := by
  induction t with
  | nil => rfl
  | cons e r ih =>
    by_cases h : e.1 = k
    · have : e.1 ≠ q := fun h2 => hq (h2.symm.trans h)
      simp [h, Table.look, ih, hq.symm]
    · simp [h, Table.look, ih]

/-- A read of the number just written gives what was written. -/
@[simp] theorem Table.look_put_same {α : Type} [DecidableEq α] (d v : α) (k : Nat) (t : Table α) :
    Table.look d (Table.put d k v t) k = v := by
  induction t with
  | nil => by_cases hv : v = d <;> simp [Table.put, Table.look, hv]
  | cons e r ih =>
    obtain ⟨k', v'⟩ := e
    by_cases h1 : k' = k
    · simp only [Table.put, if_pos h1, ih]
    · by_cases h2 : k < k'
      · by_cases hv : v = d
        · simp only [Table.put, if_neg h1, if_pos h2, if_pos hv, Table.look, Table.look_filter_same]; exact hv.symm
        · simp only [Table.put, if_neg h1, if_pos h2, if_neg hv, Table.look, if_true]
      · simp only [Table.put, if_neg h1, if_neg h2, Table.look, ih]

/-- A write leaves every other number alone. -/
theorem Table.look_put_other {α : Type} [DecidableEq α] (d v d' : α) {k q : Nat} (h : q ≠ k) (t : Table α) :
    Table.look d' (Table.put d k v t) q = Table.look d' t q := by
  induction t with
  | nil => by_cases hv : v = d <;> simp [Table.put, Table.look, hv, h.symm]
  | cons e r ih =>
    obtain ⟨k', v'⟩ := e
    by_cases h1 : k' = k
    · have : k' ≠ q := fun h2 => h (h2.symm.trans h1)
      simp only [Table.put, if_pos h1, ih, Table.look, if_neg this]
    · by_cases h2 : k < k'
      · by_cases hv : v = d
        · simp only [Table.put, if_neg h1, if_pos h2, if_pos hv, Table.look, Table.look_filter_other d' h]
        · simp only [Table.put, if_neg h1, if_pos h2, if_neg hv, Table.look, if_neg h.symm, Table.look_filter_other d' h]
      · simp only [Table.put, if_neg h1, if_neg h2, Table.look, ih]

/-- Of two writes of a number the second stands. -/
@[simp] theorem Table.put_put {α : Type} [DecidableEq α] (d x y : α) (k : Nat) (t : Table α) :
    Table.put d k x (Table.put d k y t) = Table.put d k x t := by
  induction t with
  | nil => by_cases hy : y = d <;> by_cases hx : x = d <;> simp [Table.put, hx, hy]
  | cons a r ih =>
    obtain ⟨k', v⟩ := a
    by_cases h1 : k' = k
    · simp only [Table.put, if_pos h1, ih]
    · by_cases h2 : k < k'
      · by_cases hy : y = d <;> by_cases hx : x = d <;> simp [Table.put, h1, h2, hx, hy]
      · simp only [Table.put, if_neg h1, if_neg h2, ih]

/-- Two changes of a number are one change by both. -/
@[simp] theorem Table.upd_upd {α : Type} [DecidableEq α] (d : α) (k : Nat) (f g : α → α) (t : Table α) :
    Table.upd d k g (Table.upd d k f t) = Table.upd d k (fun x => g (f x)) t := by
  simp only [Table.upd, Table.look_put_same, Table.put_put]

/-- A change reads as the changed value. -/
@[simp] theorem Table.look_upd_same {α : Type} [DecidableEq α] (d : α) (k : Nat) (f : α → α) (t : Table α) :
    Table.look d (Table.upd d k f t) k = f (Table.look d t k) := Table.look_put_same d _ k t

theorem Table.look_upd_other {α : Type} [DecidableEq α] (d d' : α) {k q : Nat} (h : q ≠ k) (f : α → α) (t : Table α) :
    Table.look d' (Table.upd d k f t) q = Table.look d' t q := Table.look_put_other d _ d' h t

theorem Table.rising_weaken {α : Type} (t : Table α) {a b : Nat} (h : a ≤ b) (hb : Table.rising (some b) t = true) :
    Table.rising (some a) t = true := by
  cases t with
  | nil => rfl
  | cons e r => obtain ⟨k, v⟩ := e; simp only [Table.rising, Bool.and_eq_true, decide_eq_true_eq] at *; exact ⟨by omega, hb.2⟩

theorem Table.rising_none {α : Type} (t : Table α) {b : Nat} (hb : Table.rising (some b) t = true) : Table.rising none t = true := by
  cases t with
  | nil => rfl
  | cons e r => obtain ⟨k, v⟩ := e; simp_all [Table.rising]

theorem Table.rising_filter {α : Type} (p : Nat × α → Bool) :
    ∀ (t : Table α) (lo : Option Nat), Table.rising lo t = true → Table.rising lo (t.filter p) = true := by
  intro t
  induction t with
  | nil => intro lo _; cases lo <;> rfl
  | cons e r ih =>
    obtain ⟨k, v⟩ := e
    intro lo h
    have hr : Table.rising (some k) r = true := by cases lo <;> simp_all [Table.rising]
    simp only [List.filter_cons]
    split
    · cases lo <;> simp_all [Table.rising]
    · cases lo with
      | none => exact ih none (Table.rising_none r hr)
      | some l => exact ih (some l) (Table.rising_weaken r (by simp_all [Table.rising]; omega) hr)

theorem Table.rising_put {α : Type} [DecidableEq α] (d v : α) (k : Nat) :
    ∀ (t : Table α) (lo : Option Nat), Table.rising lo t = true → (∀ l, lo = some l → l < k) →
      Table.rising lo (Table.put d k v t) = true := by
  intro t
  induction t with
  | nil =>
    intro lo _ hk
    by_cases hv : v = d
    · cases lo <;> simp [Table.put, hv, Table.rising]
    · cases lo <;> simp_all [Table.put, Table.rising]
  | cons e r ih =>
    obtain ⟨k', v'⟩ := e
    intro lo hr hk
    have hr' : Table.rising (some k') r = true := by cases lo <;> simp_all [Table.rising]
    have hlo : ∀ l, lo = some l → l < k' := by intro l hl; subst hl; simp_all [Table.rising]
    have mk : ∀ (x : Nat) (w : α) (rest : Table α), (∀ l, lo = some l → l < x) → Table.rising (some x) rest = true →
        Table.rising lo ((x, w) :: rest) = true := by
      intro x w rest hx hrest
      cases lo with
      | none => simpa [Table.rising] using hrest
      | some l => simp [Table.rising, hx l rfl, hrest]
    have weak : Table.rising lo r = true := by
      cases lo with
      | none => exact Table.rising_none r hr'
      | some l => exact Table.rising_weaken r (Nat.le_of_lt (hlo l rfl)) hr'
    simp only [Table.put]
    split
    · exact ih lo weak hk
    · split
      · split
        · exact mk k' v' _ hlo (Table.rising_filter _ r (some k') hr')
        · exact mk k v _ hk (by simp [Table.rising, Table.rising_filter _ r (some k') hr']; assumption)
      · exact mk k' v' _ hlo (ih (some k') hr' (by intro l hl; cases hl; omega))

theorem Table.mem_put {α : Type} [DecidableEq α] (d v : α) (k : Nat) (t : Table α) (e : Nat × α) (h : e ∈ Table.put d k v t) :
    (e = (k, v) ∧ v ≠ d) ∨ e ∈ t := by
  induction t with
  | nil =>
    simp only [Table.put] at h
    split at h
    · cases h
    · rename_i hv; exact .inl ⟨by simpa using h, hv⟩
  | cons a r ih =>
    obtain ⟨k', v'⟩ := a
    have tail : e ∈ Table.put d k v r → (e = (k, v) ∧ v ≠ d) ∨ e ∈ (k', v') :: r := fun h => by
      rcases ih h with h | h
      · exact .inl h
      · exact .inr (List.mem_cons_of_mem _ h)
    simp only [Table.put] at h
    split at h
    · exact tail h
    · split at h
      · split at h
        · rcases List.mem_cons.1 h with h | h
          · exact .inr (h ▸ List.mem_cons_self)
          · exact .inr (List.mem_cons_of_mem _ (List.mem_of_mem_filter h))
        · rename_i hv
          rcases List.mem_cons.1 h with h | h
          · exact .inl ⟨h, hv⟩
          · rcases List.mem_cons.1 h with h | h
            · exact .inr (h ▸ List.mem_cons_self)
            · exact .inr (List.mem_cons_of_mem _ (List.mem_of_mem_filter h))
      · rcases List.mem_cons.1 h with h | h
        · exact .inr (h ▸ List.mem_cons_self)
        · exact tail h

/-- A write keeps the canonical form, so that equal contents are equal data. -/
theorem Table.wf_put {α : Type} [DecidableEq α] (d : Nat → α) (v : α) (k : Nat) (t : Table α) (h : Table.wf d t = true) :
    Table.wf d (Table.put (d k) k v t) = true := by
  simp only [Table.wf, Bool.and_eq_true, List.all_eq_true, decide_eq_true_eq] at *
  refine ⟨Table.rising_put (d k) v k t none h.1 (by intro l hl; cases hl), ?_⟩
  intro e he
  rcases Table.mem_put (d k) v k t e he with ⟨rfl, hv⟩ | he
  · exact hv
  · exact h.2 e he

/-- Dropping entries keeps the canonical form. -/
theorem Table.wf_filter {α : Type} [DecidableEq α] (d : Nat → α) (p : Nat × α → Bool) (t : Table α) (h : Table.wf d t = true) :
    Table.wf d (t.filter p) = true := by
  simp only [Table.wf, Bool.and_eq_true] at *
  refine ⟨Table.rising_filter p t none h.1, ?_⟩
  rw [List.all_eq_true] at *
  intro e he
  exact h.2 e (List.mem_of_mem_filter he)

end Sys2Proof.Machine
end

