-- ==== Sys2Proof/Laws/State.lean ====
section
/-!
SUPPORT. The small lemmas of State: bit fields, registers, and what each update of one part leaves alone, so that no proof unfolds a
record update.
-/
namespace Sys2Proof.Machine

set_option Elab.async false

/-! ## Bit fields -/

theorem nbits_testBit (x hi lo i : Nat) : (nbits x hi lo).testBit i = (decide (i < hi + 1 - lo) && x.testBit (lo + i)) := by
  simp only [nbits, Nat.testBit_mod_two_pow, Nat.testBit_div_two_pow, Nat.add_comm]

theorem maskOf_getLsbD (hi lo i : Nat) : (maskOf hi lo).getLsbD i = (decide (i < 32) && decide (lo ≤ i) && decide (i < hi + 1)) := by
  simp only [maskOf, BitVec.getLsbD_ofNat, Nat.testBit_mul_two_pow, Nat.testBit_two_pow_sub_one]
  by_cases h1 : i < 32 <;> by_cases h2 : lo ≤ i <;> simp [h1, h2] <;> omega

theorem setBits_getLsbD (x : W32) (hi lo v i : Nat) : (setBits x hi lo v).getLsbD i =
    if i < 32 ∧ lo ≤ i ∧ i ≤ hi then v.testBit (i - lo) else x.getLsbD i := by
  simp only [setBits, BitVec.getLsbD_or, BitVec.getLsbD_and, BitVec.getLsbD_not, maskOf_getLsbD, BitVec.getLsbD_ofNat, Nat.testBit_mul_two_pow]
  by_cases h1 : i < 32
  · by_cases h2 : lo ≤ i <;> by_cases h3 : i ≤ hi <;> simp [h1, h2, h3]
  · simp [h1, BitVec.getLsbD_of_ge x i (by omega)]

/-- A field just written holds what was written, truncated to its width. -/
theorem bits_setBits_same (x : W32) (hi lo v : Nat) (h : hi < 32) : bits (setBits x hi lo v) hi lo = v % 2 ^ (hi + 1 - lo) := by
  apply Nat.eq_of_testBit_eq
  intro i
  rw [bits, nbits_testBit, Nat.testBit_mod_two_pow]
  by_cases hi' : i < hi + 1 - lo
  · have h2 : (setBits x hi lo v).toNat.testBit (lo + i) = v.testBit i := by
      have := setBits_getLsbD x hi lo v (lo + i)
      rw [if_pos ⟨by omega, by omega, by omega⟩] at this
      simpa [BitVec.getLsbD, Nat.add_sub_cancel_left] using this
    simp [hi', h2]
  · simp [hi']

/-- A field that shares no bit with the one written keeps its value. -/
theorem bits_setBits_other (x : W32) (hi lo v hi' lo' : Nat) (h : hi' < lo ∨ hi < lo') :
    bits (setBits x hi lo v) hi' lo' = bits x hi' lo' := by
  apply Nat.eq_of_testBit_eq
  intro i
  simp only [bits, nbits_testBit]
  by_cases hi2 : i < hi' + 1 - lo'
  · have h2 : (setBits x hi lo v).toNat.testBit (lo' + i) = x.toNat.testBit (lo' + i) := by
      have := setBits_getLsbD x hi lo v (lo' + i)
      rw [if_neg (by omega)] at this
      simpa [BitVec.getLsbD] using this
    simp [hi2, h2]
  · simp [hi2]

/-! ## Registers -/

@[simp] theorem State.reg_setReg_same (s : State) (a : Nat) (v : W32) : (s.setReg a v).reg a = v := Table.look_put_same _ v a s.regs
theorem State.reg_setReg_other (s : State) {a b : Nat} (v : W32) (h : b ≠ a) : (s.setReg a v).reg b = s.reg b :=
  Table.look_put_other _ v _ h s.regs

theorem State.get_set_same (s : State) (f : Fld) (v : Nat) (h : f.hi < 32) : (s.set f v).get f = v % 2 ^ (f.hi + 1 - f.lo) := by
  simp only [State.get, State.set, State.reg_setReg_same]
  exact bits_setBits_same _ _ _ _ h

theorem State.get_set_reg (s : State) {f g : Fld} (v : Nat) (h : g.a ≠ f.a) : (s.set f v).get g = s.get g := by
  simp only [State.get, State.set, State.reg_setReg_other s _ h]

theorem State.get_set_bits (s : State) {f g : Fld} (v : Nat) (h : g.hi < f.lo ∨ f.hi < g.lo) : (s.set f v).get g = s.get g := by
  by_cases ha : g.a = f.a
  · simp only [State.get, State.set, ha, State.reg_setReg_same]
    exact bits_setBits_other _ _ _ _ _ _ h
  · exact State.get_set_reg s v ha

theorem State.reg_set_other (s : State) (f : Fld) (v : Nat) {b : Nat} (h : b ≠ f.a) : (s.set f v).reg b = s.reg b :=
  State.reg_setReg_other s _ h

/-! ## Events -/

theorem State.raiseAt_room (s : State) (time code sev data ctrl : Nat) (p : List (Nat × Nat × Nat)) (h : s.host.evBuf.length < 256) :
    s.raiseAt time code sev data ctrl p = { s with host := { s.host with evBuf := s.host.evBuf ++
      [{ code := BitVec.ofNat 16 code, sev := sev, data := BitVec.ofNat 16 data, ctrl := BitVec.ofNat 16 ctrl,
         time := BitVec.ofNat 64 time, payload := pl p }] } } := by
  rw [State.raiseAt, if_neg (by omega)]

theorem State.raise_room (s : State) (code sev data ctrl : Nat) (p : List (Nat × Nat × Nat)) (h : s.host.evBuf.length < 256) :
    s.raise code sev data ctrl p = { s with host := { s.host with evBuf := s.host.evBuf ++
      [{ code := BitVec.ofNat 16 code, sev := sev, data := BitVec.ofNat 16 data, ctrl := BitVec.ofNat 16 ctrl,
         time := BitVec.ofNat 64 s.nowNs, payload := pl p }] } } := State.raiseAt_room s s.nowNs code sev data ctrl p h

@[simp] theorem State.raise_clk (s : State) (code sev data ctrl : Nat) (p : List (Nat × Nat × Nat)) :
    (s.raise code sev data ctrl p).clk = s.clk := by
  unfold State.raise State.raiseAt
  split <;> rfl
@[simp] theorem State.raise_md (s : State) (code sev data ctrl : Nat) (p : List (Nat × Nat × Nat)) :
    (s.raise code sev data ctrl p).md = s.md := by
  unfold State.raise State.raiseAt
  split <;> rfl
@[simp] theorem State.raise_plan (s : State) (code sev data ctrl : Nat) (p : List (Nat × Nat × Nat)) :
    (s.raise code sev data ctrl p).plan = s.plan := by
  unfold State.raise State.raiseAt
  split <;> rfl
@[simp] theorem State.raise_loop (s : State) (code sev data ctrl : Nat) (p : List (Nat × Nat × Nat)) :
    (s.raise code sev data ctrl p).loop = s.loop := by
  unfold State.raise State.raiseAt
  split <;> rfl
@[simp] theorem State.raise_web (s : State) (code sev data ctrl : Nat) (p : List (Nat × Nat × Nat)) :
    (s.raise code sev data ctrl p).web = s.web := by
  unfold State.raise State.raiseAt
  split <;> rfl
@[simp] theorem State.raise_spar (s : State) (code sev data ctrl : Nat) (p : List (Nat × Nat × Nat)) :
    (s.raise code sev data ctrl p).spar = s.spar := by
  unfold State.raise State.raiseAt
  split <;> rfl
@[simp] theorem State.raise_pwm (s : State) (code sev data ctrl : Nat) (p : List (Nat × Nat × Nat)) :
    (s.raise code sev data ctrl p).pwm = s.pwm := by
  unfold State.raise State.raiseAt
  split <;> rfl
@[simp] theorem State.raise_adc (s : State) (code sev data ctrl : Nat) (p : List (Nat × Nat × Nat)) :
    (s.raise code sev data ctrl p).adc = s.adc := by
  unfold State.raise State.raiseAt
  split <;> rfl
@[simp] theorem State.raise_fbk (s : State) (code sev data ctrl : Nat) (p : List (Nat × Nat × Nat)) :
    (s.raise code sev data ctrl p).fbk = s.fbk := by
  unfold State.raise State.raiseAt
  split <;> rfl
@[simp] theorem State.raise_cap (s : State) (code sev data ctrl : Nat) (p : List (Nat × Nat × Nat)) :
    (s.raise code sev data ctrl p).cap = s.cap := by
  unfold State.raise State.raiseAt
  split <;> rfl
@[simp] theorem State.raise_net (s : State) (code sev data ctrl : Nat) (p : List (Nat × Nat × Nat)) :
    (s.raise code sev data ctrl p).net = s.net := by
  unfold State.raise State.raiseAt
  split <;> rfl
@[simp] theorem State.raise_shr (s : State) (code sev data ctrl : Nat) (p : List (Nat × Nat × Nat)) :
    (s.raise code sev data ctrl p).shr = s.shr := by
  unfold State.raise State.raiseAt
  split <;> rfl
@[simp] theorem State.raise_fld (s : State) (code sev data ctrl : Nat) (p : List (Nat × Nat × Nat)) :
    (s.raise code sev data ctrl p).fld = s.fld := by
  unfold State.raise State.raiseAt
  split <;> rfl
@[simp] theorem State.raise_pwr (s : State) (code sev data ctrl : Nat) (p : List (Nat × Nat × Nat)) :
    (s.raise code sev data ctrl p).pwr = s.pwr := by
  unfold State.raise State.raiseAt
  split <;> rfl
@[simp] theorem State.raise_img (s : State) (code sev data ctrl : Nat) (p : List (Nat × Nat × Nat)) :
    (s.raise code sev data ctrl p).img = s.img := by
  unfold State.raise State.raiseAt
  split <;> rfl
@[simp] theorem State.raise_dbg (s : State) (code sev data ctrl : Nat) (p : List (Nat × Nat × Nat)) :
    (s.raise code sev data ctrl p).dbg = s.dbg := by
  unfold State.raise State.raiseAt
  split <;> rfl
@[simp] theorem State.raise_hostMem (s : State) (code sev data ctrl : Nat) (p : List (Nat × Nat × Nat)) :
    (s.raise code sev data ctrl p).hostMem = s.hostMem := by
  unfold State.raise State.raiseAt
  split <;> rfl
@[simp] theorem State.raise_free (s : State) (code sev data ctrl : Nat) (p : List (Nat × Nat × Nat)) :
    (s.raise code sev data ctrl p).free = s.free := by
  unfold State.raise State.raiseAt
  split <;> rfl
@[simp] theorem State.raise_pending (s : State) (code sev data ctrl : Nat) (p : List (Nat × Nat × Nat)) :
    (s.raise code sev data ctrl p).pending = s.pending := by
  unfold State.raise State.raiseAt
  split <;> rfl

/-! ## What each update leaves alone -/

/-! ### setReg -/

@[simp] theorem State.setReg_clk (s : State) (a : Nat) (v : W32) : (s.setReg a v).clk = s.clk := rfl
@[simp] theorem State.setReg_host (s : State) (a : Nat) (v : W32) : (s.setReg a v).host = s.host := rfl
@[simp] theorem State.setReg_md (s : State) (a : Nat) (v : W32) : (s.setReg a v).md = s.md := rfl
@[simp] theorem State.setReg_plan (s : State) (a : Nat) (v : W32) : (s.setReg a v).plan = s.plan := rfl
@[simp] theorem State.setReg_loop (s : State) (a : Nat) (v : W32) : (s.setReg a v).loop = s.loop := rfl
@[simp] theorem State.setReg_web (s : State) (a : Nat) (v : W32) : (s.setReg a v).web = s.web := rfl
@[simp] theorem State.setReg_spar (s : State) (a : Nat) (v : W32) : (s.setReg a v).spar = s.spar := rfl
@[simp] theorem State.setReg_pwm (s : State) (a : Nat) (v : W32) : (s.setReg a v).pwm = s.pwm := rfl
@[simp] theorem State.setReg_adc (s : State) (a : Nat) (v : W32) : (s.setReg a v).adc = s.adc := rfl
@[simp] theorem State.setReg_fbk (s : State) (a : Nat) (v : W32) : (s.setReg a v).fbk = s.fbk := rfl
@[simp] theorem State.setReg_cap (s : State) (a : Nat) (v : W32) : (s.setReg a v).cap = s.cap := rfl
@[simp] theorem State.setReg_net (s : State) (a : Nat) (v : W32) : (s.setReg a v).net = s.net := rfl
@[simp] theorem State.setReg_shr (s : State) (a : Nat) (v : W32) : (s.setReg a v).shr = s.shr := rfl
@[simp] theorem State.setReg_fld (s : State) (a : Nat) (v : W32) : (s.setReg a v).fld = s.fld := rfl
@[simp] theorem State.setReg_pwr (s : State) (a : Nat) (v : W32) : (s.setReg a v).pwr = s.pwr := rfl
@[simp] theorem State.setReg_img (s : State) (a : Nat) (v : W32) : (s.setReg a v).img = s.img := rfl
@[simp] theorem State.setReg_dbg (s : State) (a : Nat) (v : W32) : (s.setReg a v).dbg = s.dbg := rfl
@[simp] theorem State.setReg_hostMem (s : State) (a : Nat) (v : W32) : (s.setReg a v).hostMem = s.hostMem := rfl
@[simp] theorem State.setReg_free (s : State) (a : Nat) (v : W32) : (s.setReg a v).free = s.free := rfl
@[simp] theorem State.setReg_pending (s : State) (a : Nat) (v : W32) : (s.setReg a v).pending = s.pending := rfl

/-! ### set -/

@[simp] theorem State.set_clk (s : State) (f : Fld) (v : Nat) : (s.set f v).clk = s.clk := rfl
@[simp] theorem State.set_host (s : State) (f : Fld) (v : Nat) : (s.set f v).host = s.host := rfl
@[simp] theorem State.set_md (s : State) (f : Fld) (v : Nat) : (s.set f v).md = s.md := rfl
@[simp] theorem State.set_plan (s : State) (f : Fld) (v : Nat) : (s.set f v).plan = s.plan := rfl
@[simp] theorem State.set_loop (s : State) (f : Fld) (v : Nat) : (s.set f v).loop = s.loop := rfl
@[simp] theorem State.set_web (s : State) (f : Fld) (v : Nat) : (s.set f v).web = s.web := rfl
@[simp] theorem State.set_spar (s : State) (f : Fld) (v : Nat) : (s.set f v).spar = s.spar := rfl
@[simp] theorem State.set_pwm (s : State) (f : Fld) (v : Nat) : (s.set f v).pwm = s.pwm := rfl
@[simp] theorem State.set_adc (s : State) (f : Fld) (v : Nat) : (s.set f v).adc = s.adc := rfl
@[simp] theorem State.set_fbk (s : State) (f : Fld) (v : Nat) : (s.set f v).fbk = s.fbk := rfl
@[simp] theorem State.set_cap (s : State) (f : Fld) (v : Nat) : (s.set f v).cap = s.cap := rfl
@[simp] theorem State.set_net (s : State) (f : Fld) (v : Nat) : (s.set f v).net = s.net := rfl
@[simp] theorem State.set_shr (s : State) (f : Fld) (v : Nat) : (s.set f v).shr = s.shr := rfl
@[simp] theorem State.set_fld (s : State) (f : Fld) (v : Nat) : (s.set f v).fld = s.fld := rfl
@[simp] theorem State.set_pwr (s : State) (f : Fld) (v : Nat) : (s.set f v).pwr = s.pwr := rfl
@[simp] theorem State.set_img (s : State) (f : Fld) (v : Nat) : (s.set f v).img = s.img := rfl
@[simp] theorem State.set_dbg (s : State) (f : Fld) (v : Nat) : (s.set f v).dbg = s.dbg := rfl
@[simp] theorem State.set_hostMem (s : State) (f : Fld) (v : Nat) : (s.set f v).hostMem = s.hostMem := rfl
@[simp] theorem State.set_free (s : State) (f : Fld) (v : Nat) : (s.set f v).free = s.free := rfl
@[simp] theorem State.set_pending (s : State) (f : Fld) (v : Nat) : (s.set f v).pending = s.pending := rfl

/-! ### setB -/

@[simp] theorem State.setB_clk (s : State) (f : Fld) (b : Bool) : (s.setB f b).clk = s.clk := rfl
@[simp] theorem State.setB_host (s : State) (f : Fld) (b : Bool) : (s.setB f b).host = s.host := rfl
@[simp] theorem State.setB_md (s : State) (f : Fld) (b : Bool) : (s.setB f b).md = s.md := rfl
@[simp] theorem State.setB_plan (s : State) (f : Fld) (b : Bool) : (s.setB f b).plan = s.plan := rfl
@[simp] theorem State.setB_loop (s : State) (f : Fld) (b : Bool) : (s.setB f b).loop = s.loop := rfl
@[simp] theorem State.setB_web (s : State) (f : Fld) (b : Bool) : (s.setB f b).web = s.web := rfl
@[simp] theorem State.setB_spar (s : State) (f : Fld) (b : Bool) : (s.setB f b).spar = s.spar := rfl
@[simp] theorem State.setB_pwm (s : State) (f : Fld) (b : Bool) : (s.setB f b).pwm = s.pwm := rfl
@[simp] theorem State.setB_adc (s : State) (f : Fld) (b : Bool) : (s.setB f b).adc = s.adc := rfl
@[simp] theorem State.setB_fbk (s : State) (f : Fld) (b : Bool) : (s.setB f b).fbk = s.fbk := rfl
@[simp] theorem State.setB_cap (s : State) (f : Fld) (b : Bool) : (s.setB f b).cap = s.cap := rfl
@[simp] theorem State.setB_net (s : State) (f : Fld) (b : Bool) : (s.setB f b).net = s.net := rfl
@[simp] theorem State.setB_shr (s : State) (f : Fld) (b : Bool) : (s.setB f b).shr = s.shr := rfl
@[simp] theorem State.setB_fld (s : State) (f : Fld) (b : Bool) : (s.setB f b).fld = s.fld := rfl
@[simp] theorem State.setB_pwr (s : State) (f : Fld) (b : Bool) : (s.setB f b).pwr = s.pwr := rfl
@[simp] theorem State.setB_img (s : State) (f : Fld) (b : Bool) : (s.setB f b).img = s.img := rfl
@[simp] theorem State.setB_dbg (s : State) (f : Fld) (b : Bool) : (s.setB f b).dbg = s.dbg := rfl
@[simp] theorem State.setB_hostMem (s : State) (f : Fld) (b : Bool) : (s.setB f b).hostMem = s.hostMem := rfl
@[simp] theorem State.setB_free (s : State) (f : Fld) (b : Bool) : (s.setB f b).free = s.free := rfl
@[simp] theorem State.setB_pending (s : State) (f : Fld) (b : Bool) : (s.setB f b).pending = s.pending := rfl

/-! ### setI -/

@[simp] theorem State.setI_clk (s : State) (f : Fld) (v : Int) : (s.setI f v).clk = s.clk := rfl
@[simp] theorem State.setI_host (s : State) (f : Fld) (v : Int) : (s.setI f v).host = s.host := rfl
@[simp] theorem State.setI_md (s : State) (f : Fld) (v : Int) : (s.setI f v).md = s.md := rfl
@[simp] theorem State.setI_plan (s : State) (f : Fld) (v : Int) : (s.setI f v).plan = s.plan := rfl
@[simp] theorem State.setI_loop (s : State) (f : Fld) (v : Int) : (s.setI f v).loop = s.loop := rfl
@[simp] theorem State.setI_web (s : State) (f : Fld) (v : Int) : (s.setI f v).web = s.web := rfl
@[simp] theorem State.setI_spar (s : State) (f : Fld) (v : Int) : (s.setI f v).spar = s.spar := rfl
@[simp] theorem State.setI_pwm (s : State) (f : Fld) (v : Int) : (s.setI f v).pwm = s.pwm := rfl
@[simp] theorem State.setI_adc (s : State) (f : Fld) (v : Int) : (s.setI f v).adc = s.adc := rfl
@[simp] theorem State.setI_fbk (s : State) (f : Fld) (v : Int) : (s.setI f v).fbk = s.fbk := rfl
@[simp] theorem State.setI_cap (s : State) (f : Fld) (v : Int) : (s.setI f v).cap = s.cap := rfl
@[simp] theorem State.setI_net (s : State) (f : Fld) (v : Int) : (s.setI f v).net = s.net := rfl
@[simp] theorem State.setI_shr (s : State) (f : Fld) (v : Int) : (s.setI f v).shr = s.shr := rfl
@[simp] theorem State.setI_fld (s : State) (f : Fld) (v : Int) : (s.setI f v).fld = s.fld := rfl
@[simp] theorem State.setI_pwr (s : State) (f : Fld) (v : Int) : (s.setI f v).pwr = s.pwr := rfl
@[simp] theorem State.setI_img (s : State) (f : Fld) (v : Int) : (s.setI f v).img = s.img := rfl
@[simp] theorem State.setI_dbg (s : State) (f : Fld) (v : Int) : (s.setI f v).dbg = s.dbg := rfl
@[simp] theorem State.setI_hostMem (s : State) (f : Fld) (v : Int) : (s.setI f v).hostMem = s.hostMem := rfl
@[simp] theorem State.setI_free (s : State) (f : Fld) (v : Int) : (s.setI f v).free = s.free := rfl
@[simp] theorem State.setI_pending (s : State) (f : Fld) (v : Int) : (s.setI f v).pending = s.pending := rfl

/-! ### bump -/

@[simp] theorem State.bump_clk (s : State) (f : Fld) : (s.bump f).clk = s.clk := rfl
@[simp] theorem State.bump_host (s : State) (f : Fld) : (s.bump f).host = s.host := rfl
@[simp] theorem State.bump_md (s : State) (f : Fld) : (s.bump f).md = s.md := rfl
@[simp] theorem State.bump_plan (s : State) (f : Fld) : (s.bump f).plan = s.plan := rfl
@[simp] theorem State.bump_loop (s : State) (f : Fld) : (s.bump f).loop = s.loop := rfl
@[simp] theorem State.bump_web (s : State) (f : Fld) : (s.bump f).web = s.web := rfl
@[simp] theorem State.bump_spar (s : State) (f : Fld) : (s.bump f).spar = s.spar := rfl
@[simp] theorem State.bump_pwm (s : State) (f : Fld) : (s.bump f).pwm = s.pwm := rfl
@[simp] theorem State.bump_adc (s : State) (f : Fld) : (s.bump f).adc = s.adc := rfl
@[simp] theorem State.bump_fbk (s : State) (f : Fld) : (s.bump f).fbk = s.fbk := rfl
@[simp] theorem State.bump_cap (s : State) (f : Fld) : (s.bump f).cap = s.cap := rfl
@[simp] theorem State.bump_net (s : State) (f : Fld) : (s.bump f).net = s.net := rfl
@[simp] theorem State.bump_shr (s : State) (f : Fld) : (s.bump f).shr = s.shr := rfl
@[simp] theorem State.bump_fld (s : State) (f : Fld) : (s.bump f).fld = s.fld := rfl
@[simp] theorem State.bump_pwr (s : State) (f : Fld) : (s.bump f).pwr = s.pwr := rfl
@[simp] theorem State.bump_img (s : State) (f : Fld) : (s.bump f).img = s.img := rfl
@[simp] theorem State.bump_dbg (s : State) (f : Fld) : (s.bump f).dbg = s.dbg := rfl
@[simp] theorem State.bump_hostMem (s : State) (f : Fld) : (s.bump f).hostMem = s.hostMem := rfl
@[simp] theorem State.bump_free (s : State) (f : Fld) : (s.bump f).free = s.free := rfl
@[simp] theorem State.bump_pending (s : State) (f : Fld) : (s.bump f).pending = s.pending := rfl

/-! ### bumpSat -/

@[simp] theorem State.bumpSat_clk (s : State) (f : Fld) (n : Nat) : (s.bumpSat f n).clk = s.clk := rfl
@[simp] theorem State.bumpSat_host (s : State) (f : Fld) (n : Nat) : (s.bumpSat f n).host = s.host := rfl
@[simp] theorem State.bumpSat_md (s : State) (f : Fld) (n : Nat) : (s.bumpSat f n).md = s.md := rfl
@[simp] theorem State.bumpSat_plan (s : State) (f : Fld) (n : Nat) : (s.bumpSat f n).plan = s.plan := rfl
@[simp] theorem State.bumpSat_loop (s : State) (f : Fld) (n : Nat) : (s.bumpSat f n).loop = s.loop := rfl
@[simp] theorem State.bumpSat_web (s : State) (f : Fld) (n : Nat) : (s.bumpSat f n).web = s.web := rfl
@[simp] theorem State.bumpSat_spar (s : State) (f : Fld) (n : Nat) : (s.bumpSat f n).spar = s.spar := rfl
@[simp] theorem State.bumpSat_pwm (s : State) (f : Fld) (n : Nat) : (s.bumpSat f n).pwm = s.pwm := rfl
@[simp] theorem State.bumpSat_adc (s : State) (f : Fld) (n : Nat) : (s.bumpSat f n).adc = s.adc := rfl
@[simp] theorem State.bumpSat_fbk (s : State) (f : Fld) (n : Nat) : (s.bumpSat f n).fbk = s.fbk := rfl
@[simp] theorem State.bumpSat_cap (s : State) (f : Fld) (n : Nat) : (s.bumpSat f n).cap = s.cap := rfl
@[simp] theorem State.bumpSat_net (s : State) (f : Fld) (n : Nat) : (s.bumpSat f n).net = s.net := rfl
@[simp] theorem State.bumpSat_shr (s : State) (f : Fld) (n : Nat) : (s.bumpSat f n).shr = s.shr := rfl
@[simp] theorem State.bumpSat_fld (s : State) (f : Fld) (n : Nat) : (s.bumpSat f n).fld = s.fld := rfl
@[simp] theorem State.bumpSat_pwr (s : State) (f : Fld) (n : Nat) : (s.bumpSat f n).pwr = s.pwr := rfl
@[simp] theorem State.bumpSat_img (s : State) (f : Fld) (n : Nat) : (s.bumpSat f n).img = s.img := rfl
@[simp] theorem State.bumpSat_dbg (s : State) (f : Fld) (n : Nat) : (s.bumpSat f n).dbg = s.dbg := rfl
@[simp] theorem State.bumpSat_hostMem (s : State) (f : Fld) (n : Nat) : (s.bumpSat f n).hostMem = s.hostMem := rfl
@[simp] theorem State.bumpSat_free (s : State) (f : Fld) (n : Nat) : (s.bumpSat f n).free = s.free := rfl
@[simp] theorem State.bumpSat_pending (s : State) (f : Fld) (n : Nat) : (s.bumpSat f n).pending = s.pending := rfl

/-! ### set64 -/

@[simp] theorem State.set64_clk (s : State) (a : Nat) (v : Nat) : (s.set64 a v).clk = s.clk := rfl
@[simp] theorem State.set64_host (s : State) (a : Nat) (v : Nat) : (s.set64 a v).host = s.host := rfl
@[simp] theorem State.set64_md (s : State) (a : Nat) (v : Nat) : (s.set64 a v).md = s.md := rfl
@[simp] theorem State.set64_plan (s : State) (a : Nat) (v : Nat) : (s.set64 a v).plan = s.plan := rfl
@[simp] theorem State.set64_loop (s : State) (a : Nat) (v : Nat) : (s.set64 a v).loop = s.loop := rfl
@[simp] theorem State.set64_web (s : State) (a : Nat) (v : Nat) : (s.set64 a v).web = s.web := rfl
@[simp] theorem State.set64_spar (s : State) (a : Nat) (v : Nat) : (s.set64 a v).spar = s.spar := rfl
@[simp] theorem State.set64_pwm (s : State) (a : Nat) (v : Nat) : (s.set64 a v).pwm = s.pwm := rfl
@[simp] theorem State.set64_adc (s : State) (a : Nat) (v : Nat) : (s.set64 a v).adc = s.adc := rfl
@[simp] theorem State.set64_fbk (s : State) (a : Nat) (v : Nat) : (s.set64 a v).fbk = s.fbk := rfl
@[simp] theorem State.set64_cap (s : State) (a : Nat) (v : Nat) : (s.set64 a v).cap = s.cap := rfl
@[simp] theorem State.set64_net (s : State) (a : Nat) (v : Nat) : (s.set64 a v).net = s.net := rfl
@[simp] theorem State.set64_shr (s : State) (a : Nat) (v : Nat) : (s.set64 a v).shr = s.shr := rfl
@[simp] theorem State.set64_fld (s : State) (a : Nat) (v : Nat) : (s.set64 a v).fld = s.fld := rfl
@[simp] theorem State.set64_pwr (s : State) (a : Nat) (v : Nat) : (s.set64 a v).pwr = s.pwr := rfl
@[simp] theorem State.set64_img (s : State) (a : Nat) (v : Nat) : (s.set64 a v).img = s.img := rfl
@[simp] theorem State.set64_dbg (s : State) (a : Nat) (v : Nat) : (s.set64 a v).dbg = s.dbg := rfl
@[simp] theorem State.set64_hostMem (s : State) (a : Nat) (v : Nat) : (s.set64 a v).hostMem = s.hostMem := rfl
@[simp] theorem State.set64_free (s : State) (a : Nat) (v : Nat) : (s.set64 a v).free = s.free := rfl
@[simp] theorem State.set64_pending (s : State) (a : Nat) (v : Nat) : (s.set64 a v).pending = s.pending := rfl

/-! ### hostWrite -/

@[simp] theorem State.hostWrite_regs (s : State) (a : Nat) (b : List Byte) : (s.hostWrite a b).regs = s.regs := rfl
@[simp] theorem State.hostWrite_clk (s : State) (a : Nat) (b : List Byte) : (s.hostWrite a b).clk = s.clk := rfl
@[simp] theorem State.hostWrite_host (s : State) (a : Nat) (b : List Byte) : (s.hostWrite a b).host = s.host := rfl
@[simp] theorem State.hostWrite_md (s : State) (a : Nat) (b : List Byte) : (s.hostWrite a b).md = s.md := rfl
@[simp] theorem State.hostWrite_plan (s : State) (a : Nat) (b : List Byte) : (s.hostWrite a b).plan = s.plan := rfl
@[simp] theorem State.hostWrite_loop (s : State) (a : Nat) (b : List Byte) : (s.hostWrite a b).loop = s.loop := rfl
@[simp] theorem State.hostWrite_web (s : State) (a : Nat) (b : List Byte) : (s.hostWrite a b).web = s.web := rfl
@[simp] theorem State.hostWrite_spar (s : State) (a : Nat) (b : List Byte) : (s.hostWrite a b).spar = s.spar := rfl
@[simp] theorem State.hostWrite_pwm (s : State) (a : Nat) (b : List Byte) : (s.hostWrite a b).pwm = s.pwm := rfl
@[simp] theorem State.hostWrite_adc (s : State) (a : Nat) (b : List Byte) : (s.hostWrite a b).adc = s.adc := rfl
@[simp] theorem State.hostWrite_fbk (s : State) (a : Nat) (b : List Byte) : (s.hostWrite a b).fbk = s.fbk := rfl
@[simp] theorem State.hostWrite_cap (s : State) (a : Nat) (b : List Byte) : (s.hostWrite a b).cap = s.cap := rfl
@[simp] theorem State.hostWrite_net (s : State) (a : Nat) (b : List Byte) : (s.hostWrite a b).net = s.net := rfl
@[simp] theorem State.hostWrite_shr (s : State) (a : Nat) (b : List Byte) : (s.hostWrite a b).shr = s.shr := rfl
@[simp] theorem State.hostWrite_fld (s : State) (a : Nat) (b : List Byte) : (s.hostWrite a b).fld = s.fld := rfl
@[simp] theorem State.hostWrite_pwr (s : State) (a : Nat) (b : List Byte) : (s.hostWrite a b).pwr = s.pwr := rfl
@[simp] theorem State.hostWrite_img (s : State) (a : Nat) (b : List Byte) : (s.hostWrite a b).img = s.img := rfl
@[simp] theorem State.hostWrite_dbg (s : State) (a : Nat) (b : List Byte) : (s.hostWrite a b).dbg = s.dbg := rfl
@[simp] theorem State.hostWrite_free (s : State) (a : Nat) (b : List Byte) : (s.hostWrite a b).free = s.free := rfl
@[simp] theorem State.hostWrite_pending (s : State) (a : Nat) (b : List Byte) : (s.hostWrite a b).pending = s.pending := rfl
@[simp] theorem State.hostWrite_reg (s : State) (a : Nat) (b : List Byte) (r : Nat) : (s.hostWrite a b).reg r = s.reg r := rfl
@[simp] theorem State.hostWrite_get (s : State) (a : Nat) (b : List Byte) (r : Fld) : (s.hostWrite a b).get r = s.get r := rfl

/-! ### atCyc -/

@[simp] theorem State.atCyc_regs (s : State) (c : Nat) : (s.atCyc c).regs = s.regs := rfl
@[simp] theorem State.atCyc_host (s : State) (c : Nat) : (s.atCyc c).host = s.host := rfl
@[simp] theorem State.atCyc_md (s : State) (c : Nat) : (s.atCyc c).md = s.md := rfl
@[simp] theorem State.atCyc_plan (s : State) (c : Nat) : (s.atCyc c).plan = s.plan := rfl
@[simp] theorem State.atCyc_loop (s : State) (c : Nat) : (s.atCyc c).loop = s.loop := rfl
@[simp] theorem State.atCyc_web (s : State) (c : Nat) : (s.atCyc c).web = s.web := rfl
@[simp] theorem State.atCyc_spar (s : State) (c : Nat) : (s.atCyc c).spar = s.spar := rfl
@[simp] theorem State.atCyc_pwm (s : State) (c : Nat) : (s.atCyc c).pwm = s.pwm := rfl
@[simp] theorem State.atCyc_adc (s : State) (c : Nat) : (s.atCyc c).adc = s.adc := rfl
@[simp] theorem State.atCyc_fbk (s : State) (c : Nat) : (s.atCyc c).fbk = s.fbk := rfl
@[simp] theorem State.atCyc_cap (s : State) (c : Nat) : (s.atCyc c).cap = s.cap := rfl
@[simp] theorem State.atCyc_net (s : State) (c : Nat) : (s.atCyc c).net = s.net := rfl
@[simp] theorem State.atCyc_shr (s : State) (c : Nat) : (s.atCyc c).shr = s.shr := rfl
@[simp] theorem State.atCyc_fld (s : State) (c : Nat) : (s.atCyc c).fld = s.fld := rfl
@[simp] theorem State.atCyc_pwr (s : State) (c : Nat) : (s.atCyc c).pwr = s.pwr := rfl
@[simp] theorem State.atCyc_img (s : State) (c : Nat) : (s.atCyc c).img = s.img := rfl
@[simp] theorem State.atCyc_dbg (s : State) (c : Nat) : (s.atCyc c).dbg = s.dbg := rfl
@[simp] theorem State.atCyc_hostMem (s : State) (c : Nat) : (s.atCyc c).hostMem = s.hostMem := rfl
@[simp] theorem State.atCyc_free (s : State) (c : Nat) : (s.atCyc c).free = s.free := rfl
@[simp] theorem State.atCyc_pending (s : State) (c : Nat) : (s.atCyc c).pending = s.pending := rfl
@[simp] theorem State.atCyc_reg (s : State) (c : Nat) (r : Nat) : (s.atCyc c).reg r = s.reg r := rfl
@[simp] theorem State.atCyc_get (s : State) (c : Nat) (r : Fld) : (s.atCyc c).get r = s.get r := rfl

/-! ### irq -/

@[simp] theorem State.irq_regs (s : State) (v : Nat) : (s.irq v).regs = s.regs := rfl
@[simp] theorem State.irq_clk (s : State) (v : Nat) : (s.irq v).clk = s.clk := rfl
@[simp] theorem State.irq_md (s : State) (v : Nat) : (s.irq v).md = s.md := rfl
@[simp] theorem State.irq_plan (s : State) (v : Nat) : (s.irq v).plan = s.plan := rfl
@[simp] theorem State.irq_loop (s : State) (v : Nat) : (s.irq v).loop = s.loop := rfl
@[simp] theorem State.irq_web (s : State) (v : Nat) : (s.irq v).web = s.web := rfl
@[simp] theorem State.irq_spar (s : State) (v : Nat) : (s.irq v).spar = s.spar := rfl
@[simp] theorem State.irq_pwm (s : State) (v : Nat) : (s.irq v).pwm = s.pwm := rfl
@[simp] theorem State.irq_adc (s : State) (v : Nat) : (s.irq v).adc = s.adc := rfl
@[simp] theorem State.irq_fbk (s : State) (v : Nat) : (s.irq v).fbk = s.fbk := rfl
@[simp] theorem State.irq_cap (s : State) (v : Nat) : (s.irq v).cap = s.cap := rfl
@[simp] theorem State.irq_net (s : State) (v : Nat) : (s.irq v).net = s.net := rfl
@[simp] theorem State.irq_shr (s : State) (v : Nat) : (s.irq v).shr = s.shr := rfl
@[simp] theorem State.irq_fld (s : State) (v : Nat) : (s.irq v).fld = s.fld := rfl
@[simp] theorem State.irq_pwr (s : State) (v : Nat) : (s.irq v).pwr = s.pwr := rfl
@[simp] theorem State.irq_img (s : State) (v : Nat) : (s.irq v).img = s.img := rfl
@[simp] theorem State.irq_dbg (s : State) (v : Nat) : (s.irq v).dbg = s.dbg := rfl
@[simp] theorem State.irq_hostMem (s : State) (v : Nat) : (s.irq v).hostMem = s.hostMem := rfl
@[simp] theorem State.irq_free (s : State) (v : Nat) : (s.irq v).free = s.free := rfl
@[simp] theorem State.irq_pending (s : State) (v : Nat) : (s.irq v).pending = s.pending := rfl
@[simp] theorem State.irq_reg (s : State) (v : Nat) (r : Nat) : (s.irq v).reg r = s.reg r := rfl
@[simp] theorem State.irq_get (s : State) (v : Nat) (r : Fld) : (s.irq v).get r = s.get r := rfl

/-! ### updRing -/

@[simp] theorem State.updRing_regs (s : State) (n : Nat) (f : Ring → Ring) : (s.updRing n f).regs = s.regs := rfl
@[simp] theorem State.updRing_clk (s : State) (n : Nat) (f : Ring → Ring) : (s.updRing n f).clk = s.clk := rfl
@[simp] theorem State.updRing_md (s : State) (n : Nat) (f : Ring → Ring) : (s.updRing n f).md = s.md := rfl
@[simp] theorem State.updRing_plan (s : State) (n : Nat) (f : Ring → Ring) : (s.updRing n f).plan = s.plan := rfl
@[simp] theorem State.updRing_loop (s : State) (n : Nat) (f : Ring → Ring) : (s.updRing n f).loop = s.loop := rfl
@[simp] theorem State.updRing_web (s : State) (n : Nat) (f : Ring → Ring) : (s.updRing n f).web = s.web := rfl
@[simp] theorem State.updRing_spar (s : State) (n : Nat) (f : Ring → Ring) : (s.updRing n f).spar = s.spar := rfl
@[simp] theorem State.updRing_pwm (s : State) (n : Nat) (f : Ring → Ring) : (s.updRing n f).pwm = s.pwm := rfl
@[simp] theorem State.updRing_adc (s : State) (n : Nat) (f : Ring → Ring) : (s.updRing n f).adc = s.adc := rfl
@[simp] theorem State.updRing_fbk (s : State) (n : Nat) (f : Ring → Ring) : (s.updRing n f).fbk = s.fbk := rfl
@[simp] theorem State.updRing_cap (s : State) (n : Nat) (f : Ring → Ring) : (s.updRing n f).cap = s.cap := rfl
@[simp] theorem State.updRing_net (s : State) (n : Nat) (f : Ring → Ring) : (s.updRing n f).net = s.net := rfl
@[simp] theorem State.updRing_shr (s : State) (n : Nat) (f : Ring → Ring) : (s.updRing n f).shr = s.shr := rfl
@[simp] theorem State.updRing_fld (s : State) (n : Nat) (f : Ring → Ring) : (s.updRing n f).fld = s.fld := rfl
@[simp] theorem State.updRing_pwr (s : State) (n : Nat) (f : Ring → Ring) : (s.updRing n f).pwr = s.pwr := rfl
@[simp] theorem State.updRing_img (s : State) (n : Nat) (f : Ring → Ring) : (s.updRing n f).img = s.img := rfl
@[simp] theorem State.updRing_dbg (s : State) (n : Nat) (f : Ring → Ring) : (s.updRing n f).dbg = s.dbg := rfl
@[simp] theorem State.updRing_hostMem (s : State) (n : Nat) (f : Ring → Ring) : (s.updRing n f).hostMem = s.hostMem := rfl
@[simp] theorem State.updRing_free (s : State) (n : Nat) (f : Ring → Ring) : (s.updRing n f).free = s.free := rfl
@[simp] theorem State.updRing_pending (s : State) (n : Nat) (f : Ring → Ring) : (s.updRing n f).pending = s.pending := rfl
@[simp] theorem State.updRing_reg (s : State) (n : Nat) (f : Ring → Ring) (r : Nat) : (s.updRing n f).reg r = s.reg r := rfl
@[simp] theorem State.updRing_get (s : State) (n : Nat) (f : Ring → Ring) (r : Fld) : (s.updRing n f).get r = s.get r := rfl

/-! ### updAxis -/

@[simp] theorem State.updAxis_regs (s : State) (a : Nat) (f : AxisP → AxisP) : (s.updAxis a f).regs = s.regs := rfl
@[simp] theorem State.updAxis_clk (s : State) (a : Nat) (f : AxisP → AxisP) : (s.updAxis a f).clk = s.clk := rfl
@[simp] theorem State.updAxis_host (s : State) (a : Nat) (f : AxisP → AxisP) : (s.updAxis a f).host = s.host := rfl
@[simp] theorem State.updAxis_md (s : State) (a : Nat) (f : AxisP → AxisP) : (s.updAxis a f).md = s.md := rfl
@[simp] theorem State.updAxis_loop (s : State) (a : Nat) (f : AxisP → AxisP) : (s.updAxis a f).loop = s.loop := rfl
@[simp] theorem State.updAxis_web (s : State) (a : Nat) (f : AxisP → AxisP) : (s.updAxis a f).web = s.web := rfl
@[simp] theorem State.updAxis_spar (s : State) (a : Nat) (f : AxisP → AxisP) : (s.updAxis a f).spar = s.spar := rfl
@[simp] theorem State.updAxis_pwm (s : State) (a : Nat) (f : AxisP → AxisP) : (s.updAxis a f).pwm = s.pwm := rfl
@[simp] theorem State.updAxis_adc (s : State) (a : Nat) (f : AxisP → AxisP) : (s.updAxis a f).adc = s.adc := rfl
@[simp] theorem State.updAxis_fbk (s : State) (a : Nat) (f : AxisP → AxisP) : (s.updAxis a f).fbk = s.fbk := rfl
@[simp] theorem State.updAxis_cap (s : State) (a : Nat) (f : AxisP → AxisP) : (s.updAxis a f).cap = s.cap := rfl
@[simp] theorem State.updAxis_net (s : State) (a : Nat) (f : AxisP → AxisP) : (s.updAxis a f).net = s.net := rfl
@[simp] theorem State.updAxis_shr (s : State) (a : Nat) (f : AxisP → AxisP) : (s.updAxis a f).shr = s.shr := rfl
@[simp] theorem State.updAxis_fld (s : State) (a : Nat) (f : AxisP → AxisP) : (s.updAxis a f).fld = s.fld := rfl
@[simp] theorem State.updAxis_pwr (s : State) (a : Nat) (f : AxisP → AxisP) : (s.updAxis a f).pwr = s.pwr := rfl
@[simp] theorem State.updAxis_img (s : State) (a : Nat) (f : AxisP → AxisP) : (s.updAxis a f).img = s.img := rfl
@[simp] theorem State.updAxis_dbg (s : State) (a : Nat) (f : AxisP → AxisP) : (s.updAxis a f).dbg = s.dbg := rfl
@[simp] theorem State.updAxis_hostMem (s : State) (a : Nat) (f : AxisP → AxisP) : (s.updAxis a f).hostMem = s.hostMem := rfl
@[simp] theorem State.updAxis_free (s : State) (a : Nat) (f : AxisP → AxisP) : (s.updAxis a f).free = s.free := rfl
@[simp] theorem State.updAxis_pending (s : State) (a : Nat) (f : AxisP → AxisP) : (s.updAxis a f).pending = s.pending := rfl
@[simp] theorem State.updAxis_reg (s : State) (a : Nat) (f : AxisP → AxisP) (r : Nat) : (s.updAxis a f).reg r = s.reg r := rfl
@[simp] theorem State.updAxis_get (s : State) (a : Nat) (f : AxisP → AxisP) (r : Fld) : (s.updAxis a f).get r = s.get r := rfl

/-! ### updGrp -/

@[simp] theorem State.updGrp_regs (s : State) (g : Nat) (f : GroupP → GroupP) : (s.updGrp g f).regs = s.regs := rfl
@[simp] theorem State.updGrp_clk (s : State) (g : Nat) (f : GroupP → GroupP) : (s.updGrp g f).clk = s.clk := rfl
@[simp] theorem State.updGrp_host (s : State) (g : Nat) (f : GroupP → GroupP) : (s.updGrp g f).host = s.host := rfl
@[simp] theorem State.updGrp_md (s : State) (g : Nat) (f : GroupP → GroupP) : (s.updGrp g f).md = s.md := rfl
@[simp] theorem State.updGrp_loop (s : State) (g : Nat) (f : GroupP → GroupP) : (s.updGrp g f).loop = s.loop := rfl
@[simp] theorem State.updGrp_web (s : State) (g : Nat) (f : GroupP → GroupP) : (s.updGrp g f).web = s.web := rfl
@[simp] theorem State.updGrp_spar (s : State) (g : Nat) (f : GroupP → GroupP) : (s.updGrp g f).spar = s.spar := rfl
@[simp] theorem State.updGrp_pwm (s : State) (g : Nat) (f : GroupP → GroupP) : (s.updGrp g f).pwm = s.pwm := rfl
@[simp] theorem State.updGrp_adc (s : State) (g : Nat) (f : GroupP → GroupP) : (s.updGrp g f).adc = s.adc := rfl
@[simp] theorem State.updGrp_fbk (s : State) (g : Nat) (f : GroupP → GroupP) : (s.updGrp g f).fbk = s.fbk := rfl
@[simp] theorem State.updGrp_cap (s : State) (g : Nat) (f : GroupP → GroupP) : (s.updGrp g f).cap = s.cap := rfl
@[simp] theorem State.updGrp_net (s : State) (g : Nat) (f : GroupP → GroupP) : (s.updGrp g f).net = s.net := rfl
@[simp] theorem State.updGrp_shr (s : State) (g : Nat) (f : GroupP → GroupP) : (s.updGrp g f).shr = s.shr := rfl
@[simp] theorem State.updGrp_fld (s : State) (g : Nat) (f : GroupP → GroupP) : (s.updGrp g f).fld = s.fld := rfl
@[simp] theorem State.updGrp_pwr (s : State) (g : Nat) (f : GroupP → GroupP) : (s.updGrp g f).pwr = s.pwr := rfl
@[simp] theorem State.updGrp_img (s : State) (g : Nat) (f : GroupP → GroupP) : (s.updGrp g f).img = s.img := rfl
@[simp] theorem State.updGrp_dbg (s : State) (g : Nat) (f : GroupP → GroupP) : (s.updGrp g f).dbg = s.dbg := rfl
@[simp] theorem State.updGrp_hostMem (s : State) (g : Nat) (f : GroupP → GroupP) : (s.updGrp g f).hostMem = s.hostMem := rfl
@[simp] theorem State.updGrp_free (s : State) (g : Nat) (f : GroupP → GroupP) : (s.updGrp g f).free = s.free := rfl
@[simp] theorem State.updGrp_pending (s : State) (g : Nat) (f : GroupP → GroupP) : (s.updGrp g f).pending = s.pending := rfl
@[simp] theorem State.updGrp_reg (s : State) (g : Nat) (f : GroupP → GroupP) (r : Nat) : (s.updGrp g f).reg r = s.reg r := rfl
@[simp] theorem State.updGrp_get (s : State) (g : Nat) (f : GroupP → GroupP) (r : Fld) : (s.updGrp g f).get r = s.get r := rfl

/-! ### updEng -/

@[simp] theorem State.updEng_regs (s : State) (e : Nat) (f : Eng → Eng) : (s.updEng e f).regs = s.regs := rfl
@[simp] theorem State.updEng_clk (s : State) (e : Nat) (f : Eng → Eng) : (s.updEng e f).clk = s.clk := rfl
@[simp] theorem State.updEng_host (s : State) (e : Nat) (f : Eng → Eng) : (s.updEng e f).host = s.host := rfl
@[simp] theorem State.updEng_md (s : State) (e : Nat) (f : Eng → Eng) : (s.updEng e f).md = s.md := rfl
@[simp] theorem State.updEng_plan (s : State) (e : Nat) (f : Eng → Eng) : (s.updEng e f).plan = s.plan := rfl
@[simp] theorem State.updEng_loop (s : State) (e : Nat) (f : Eng → Eng) : (s.updEng e f).loop = s.loop := rfl
@[simp] theorem State.updEng_web (s : State) (e : Nat) (f : Eng → Eng) : (s.updEng e f).web = s.web := rfl
@[simp] theorem State.updEng_pwm (s : State) (e : Nat) (f : Eng → Eng) : (s.updEng e f).pwm = s.pwm := rfl
@[simp] theorem State.updEng_adc (s : State) (e : Nat) (f : Eng → Eng) : (s.updEng e f).adc = s.adc := rfl
@[simp] theorem State.updEng_fbk (s : State) (e : Nat) (f : Eng → Eng) : (s.updEng e f).fbk = s.fbk := rfl
@[simp] theorem State.updEng_cap (s : State) (e : Nat) (f : Eng → Eng) : (s.updEng e f).cap = s.cap := rfl
@[simp] theorem State.updEng_net (s : State) (e : Nat) (f : Eng → Eng) : (s.updEng e f).net = s.net := rfl
@[simp] theorem State.updEng_shr (s : State) (e : Nat) (f : Eng → Eng) : (s.updEng e f).shr = s.shr := rfl
@[simp] theorem State.updEng_fld (s : State) (e : Nat) (f : Eng → Eng) : (s.updEng e f).fld = s.fld := rfl
@[simp] theorem State.updEng_pwr (s : State) (e : Nat) (f : Eng → Eng) : (s.updEng e f).pwr = s.pwr := rfl
@[simp] theorem State.updEng_img (s : State) (e : Nat) (f : Eng → Eng) : (s.updEng e f).img = s.img := rfl
@[simp] theorem State.updEng_dbg (s : State) (e : Nat) (f : Eng → Eng) : (s.updEng e f).dbg = s.dbg := rfl
@[simp] theorem State.updEng_hostMem (s : State) (e : Nat) (f : Eng → Eng) : (s.updEng e f).hostMem = s.hostMem := rfl
@[simp] theorem State.updEng_free (s : State) (e : Nat) (f : Eng → Eng) : (s.updEng e f).free = s.free := rfl
@[simp] theorem State.updEng_pending (s : State) (e : Nat) (f : Eng → Eng) : (s.updEng e f).pending = s.pending := rfl
@[simp] theorem State.updEng_reg (s : State) (e : Nat) (f : Eng → Eng) (r : Nat) : (s.updEng e f).reg r = s.reg r := rfl
@[simp] theorem State.updEng_get (s : State) (e : Nat) (f : Eng → Eng) (r : Fld) : (s.updEng e f).get r = s.get r := rfl

/-! ### engIrq -/

@[simp] theorem State.engIrq_regs (s : State) (e : Nat) (bitNo : Nat) : (s.engIrq e bitNo).regs = s.regs := rfl
@[simp] theorem State.engIrq_clk (s : State) (e : Nat) (bitNo : Nat) : (s.engIrq e bitNo).clk = s.clk := rfl
@[simp] theorem State.engIrq_host (s : State) (e : Nat) (bitNo : Nat) : (s.engIrq e bitNo).host = s.host := rfl
@[simp] theorem State.engIrq_md (s : State) (e : Nat) (bitNo : Nat) : (s.engIrq e bitNo).md = s.md := rfl
@[simp] theorem State.engIrq_plan (s : State) (e : Nat) (bitNo : Nat) : (s.engIrq e bitNo).plan = s.plan := rfl
@[simp] theorem State.engIrq_loop (s : State) (e : Nat) (bitNo : Nat) : (s.engIrq e bitNo).loop = s.loop := rfl
@[simp] theorem State.engIrq_web (s : State) (e : Nat) (bitNo : Nat) : (s.engIrq e bitNo).web = s.web := rfl
@[simp] theorem State.engIrq_pwm (s : State) (e : Nat) (bitNo : Nat) : (s.engIrq e bitNo).pwm = s.pwm := rfl
@[simp] theorem State.engIrq_adc (s : State) (e : Nat) (bitNo : Nat) : (s.engIrq e bitNo).adc = s.adc := rfl
@[simp] theorem State.engIrq_fbk (s : State) (e : Nat) (bitNo : Nat) : (s.engIrq e bitNo).fbk = s.fbk := rfl
@[simp] theorem State.engIrq_cap (s : State) (e : Nat) (bitNo : Nat) : (s.engIrq e bitNo).cap = s.cap := rfl
@[simp] theorem State.engIrq_net (s : State) (e : Nat) (bitNo : Nat) : (s.engIrq e bitNo).net = s.net := rfl
@[simp] theorem State.engIrq_shr (s : State) (e : Nat) (bitNo : Nat) : (s.engIrq e bitNo).shr = s.shr := rfl
@[simp] theorem State.engIrq_fld (s : State) (e : Nat) (bitNo : Nat) : (s.engIrq e bitNo).fld = s.fld := rfl
@[simp] theorem State.engIrq_pwr (s : State) (e : Nat) (bitNo : Nat) : (s.engIrq e bitNo).pwr = s.pwr := rfl
@[simp] theorem State.engIrq_img (s : State) (e : Nat) (bitNo : Nat) : (s.engIrq e bitNo).img = s.img := rfl
@[simp] theorem State.engIrq_dbg (s : State) (e : Nat) (bitNo : Nat) : (s.engIrq e bitNo).dbg = s.dbg := rfl
@[simp] theorem State.engIrq_hostMem (s : State) (e : Nat) (bitNo : Nat) : (s.engIrq e bitNo).hostMem = s.hostMem := rfl
@[simp] theorem State.engIrq_free (s : State) (e : Nat) (bitNo : Nat) : (s.engIrq e bitNo).free = s.free := rfl
@[simp] theorem State.engIrq_pending (s : State) (e : Nat) (bitNo : Nat) : (s.engIrq e bitNo).pending = s.pending := rfl
@[simp] theorem State.engIrq_reg (s : State) (e : Nat) (bitNo : Nat) (r : Nat) : (s.engIrq e bitNo).reg r = s.reg r := rfl
@[simp] theorem State.engIrq_get (s : State) (e : Nat) (bitNo : Nat) (r : Fld) : (s.engIrq e bitNo).get r = s.get r := rfl

/-! ### setG -/

@[simp] theorem State.setG_regs (s : State) (e : Nat) (n : Nat) (v : W64) : (s.setG e n v).regs = s.regs := rfl
@[simp] theorem State.setG_clk (s : State) (e : Nat) (n : Nat) (v : W64) : (s.setG e n v).clk = s.clk := rfl
@[simp] theorem State.setG_host (s : State) (e : Nat) (n : Nat) (v : W64) : (s.setG e n v).host = s.host := rfl
@[simp] theorem State.setG_md (s : State) (e : Nat) (n : Nat) (v : W64) : (s.setG e n v).md = s.md := rfl
@[simp] theorem State.setG_plan (s : State) (e : Nat) (n : Nat) (v : W64) : (s.setG e n v).plan = s.plan := rfl
@[simp] theorem State.setG_loop (s : State) (e : Nat) (n : Nat) (v : W64) : (s.setG e n v).loop = s.loop := rfl
@[simp] theorem State.setG_web (s : State) (e : Nat) (n : Nat) (v : W64) : (s.setG e n v).web = s.web := rfl
@[simp] theorem State.setG_pwm (s : State) (e : Nat) (n : Nat) (v : W64) : (s.setG e n v).pwm = s.pwm := rfl
@[simp] theorem State.setG_adc (s : State) (e : Nat) (n : Nat) (v : W64) : (s.setG e n v).adc = s.adc := rfl
@[simp] theorem State.setG_fbk (s : State) (e : Nat) (n : Nat) (v : W64) : (s.setG e n v).fbk = s.fbk := rfl
@[simp] theorem State.setG_cap (s : State) (e : Nat) (n : Nat) (v : W64) : (s.setG e n v).cap = s.cap := rfl
@[simp] theorem State.setG_net (s : State) (e : Nat) (n : Nat) (v : W64) : (s.setG e n v).net = s.net := rfl
@[simp] theorem State.setG_shr (s : State) (e : Nat) (n : Nat) (v : W64) : (s.setG e n v).shr = s.shr := rfl
@[simp] theorem State.setG_fld (s : State) (e : Nat) (n : Nat) (v : W64) : (s.setG e n v).fld = s.fld := rfl
@[simp] theorem State.setG_pwr (s : State) (e : Nat) (n : Nat) (v : W64) : (s.setG e n v).pwr = s.pwr := rfl
@[simp] theorem State.setG_img (s : State) (e : Nat) (n : Nat) (v : W64) : (s.setG e n v).img = s.img := rfl
@[simp] theorem State.setG_dbg (s : State) (e : Nat) (n : Nat) (v : W64) : (s.setG e n v).dbg = s.dbg := rfl
@[simp] theorem State.setG_hostMem (s : State) (e : Nat) (n : Nat) (v : W64) : (s.setG e n v).hostMem = s.hostMem := rfl
@[simp] theorem State.setG_free (s : State) (e : Nat) (n : Nat) (v : W64) : (s.setG e n v).free = s.free := rfl
@[simp] theorem State.setG_pending (s : State) (e : Nat) (n : Nat) (v : W64) : (s.setG e n v).pending = s.pending := rfl
@[simp] theorem State.setG_reg (s : State) (e : Nat) (n : Nat) (v : W64) (r : Nat) : (s.setG e n v).reg r = s.reg r := rfl
@[simp] theorem State.setG_get (s : State) (e : Nat) (n : Nat) (v : W64) (r : Fld) : (s.setG e n v).get r = s.get r := rfl

/-! ### setAcc -/

@[simp] theorem State.setAcc_regs (s : State) (e : Nat) (k : Bool) (v : Int) : (s.setAcc e k v).regs = s.regs := rfl
@[simp] theorem State.setAcc_clk (s : State) (e : Nat) (k : Bool) (v : Int) : (s.setAcc e k v).clk = s.clk := rfl
@[simp] theorem State.setAcc_host (s : State) (e : Nat) (k : Bool) (v : Int) : (s.setAcc e k v).host = s.host := rfl
@[simp] theorem State.setAcc_md (s : State) (e : Nat) (k : Bool) (v : Int) : (s.setAcc e k v).md = s.md := rfl
@[simp] theorem State.setAcc_plan (s : State) (e : Nat) (k : Bool) (v : Int) : (s.setAcc e k v).plan = s.plan := rfl
@[simp] theorem State.setAcc_loop (s : State) (e : Nat) (k : Bool) (v : Int) : (s.setAcc e k v).loop = s.loop := rfl
@[simp] theorem State.setAcc_web (s : State) (e : Nat) (k : Bool) (v : Int) : (s.setAcc e k v).web = s.web := rfl
@[simp] theorem State.setAcc_pwm (s : State) (e : Nat) (k : Bool) (v : Int) : (s.setAcc e k v).pwm = s.pwm := rfl
@[simp] theorem State.setAcc_adc (s : State) (e : Nat) (k : Bool) (v : Int) : (s.setAcc e k v).adc = s.adc := rfl
@[simp] theorem State.setAcc_fbk (s : State) (e : Nat) (k : Bool) (v : Int) : (s.setAcc e k v).fbk = s.fbk := rfl
@[simp] theorem State.setAcc_cap (s : State) (e : Nat) (k : Bool) (v : Int) : (s.setAcc e k v).cap = s.cap := rfl
@[simp] theorem State.setAcc_net (s : State) (e : Nat) (k : Bool) (v : Int) : (s.setAcc e k v).net = s.net := rfl
@[simp] theorem State.setAcc_shr (s : State) (e : Nat) (k : Bool) (v : Int) : (s.setAcc e k v).shr = s.shr := rfl
@[simp] theorem State.setAcc_fld (s : State) (e : Nat) (k : Bool) (v : Int) : (s.setAcc e k v).fld = s.fld := rfl
@[simp] theorem State.setAcc_pwr (s : State) (e : Nat) (k : Bool) (v : Int) : (s.setAcc e k v).pwr = s.pwr := rfl
@[simp] theorem State.setAcc_img (s : State) (e : Nat) (k : Bool) (v : Int) : (s.setAcc e k v).img = s.img := rfl
@[simp] theorem State.setAcc_dbg (s : State) (e : Nat) (k : Bool) (v : Int) : (s.setAcc e k v).dbg = s.dbg := rfl
@[simp] theorem State.setAcc_hostMem (s : State) (e : Nat) (k : Bool) (v : Int) : (s.setAcc e k v).hostMem = s.hostMem := rfl
@[simp] theorem State.setAcc_free (s : State) (e : Nat) (k : Bool) (v : Int) : (s.setAcc e k v).free = s.free := rfl
@[simp] theorem State.setAcc_pending (s : State) (e : Nat) (k : Bool) (v : Int) : (s.setAcc e k v).pending = s.pending := rfl
@[simp] theorem State.setAcc_reg (s : State) (e : Nat) (k : Bool) (v : Int) (r : Nat) : (s.setAcc e k v).reg r = s.reg r := rfl
@[simp] theorem State.setAcc_get (s : State) (e : Nat) (k : Bool) (v : Int) (r : Fld) : (s.setAcc e k v).get r = s.get r := rfl

/-! ### stick -/

@[simp] theorem State.stick_regs (s : State) (e : Nat) (b : Nat) : (s.stick e b).regs = s.regs := rfl
@[simp] theorem State.stick_clk (s : State) (e : Nat) (b : Nat) : (s.stick e b).clk = s.clk := rfl
@[simp] theorem State.stick_host (s : State) (e : Nat) (b : Nat) : (s.stick e b).host = s.host := rfl
@[simp] theorem State.stick_md (s : State) (e : Nat) (b : Nat) : (s.stick e b).md = s.md := rfl
@[simp] theorem State.stick_plan (s : State) (e : Nat) (b : Nat) : (s.stick e b).plan = s.plan := rfl
@[simp] theorem State.stick_loop (s : State) (e : Nat) (b : Nat) : (s.stick e b).loop = s.loop := rfl
@[simp] theorem State.stick_web (s : State) (e : Nat) (b : Nat) : (s.stick e b).web = s.web := rfl
@[simp] theorem State.stick_pwm (s : State) (e : Nat) (b : Nat) : (s.stick e b).pwm = s.pwm := rfl
@[simp] theorem State.stick_adc (s : State) (e : Nat) (b : Nat) : (s.stick e b).adc = s.adc := rfl
@[simp] theorem State.stick_fbk (s : State) (e : Nat) (b : Nat) : (s.stick e b).fbk = s.fbk := rfl
@[simp] theorem State.stick_cap (s : State) (e : Nat) (b : Nat) : (s.stick e b).cap = s.cap := rfl
@[simp] theorem State.stick_net (s : State) (e : Nat) (b : Nat) : (s.stick e b).net = s.net := rfl
@[simp] theorem State.stick_shr (s : State) (e : Nat) (b : Nat) : (s.stick e b).shr = s.shr := rfl
@[simp] theorem State.stick_fld (s : State) (e : Nat) (b : Nat) : (s.stick e b).fld = s.fld := rfl
@[simp] theorem State.stick_pwr (s : State) (e : Nat) (b : Nat) : (s.stick e b).pwr = s.pwr := rfl
@[simp] theorem State.stick_img (s : State) (e : Nat) (b : Nat) : (s.stick e b).img = s.img := rfl
@[simp] theorem State.stick_dbg (s : State) (e : Nat) (b : Nat) : (s.stick e b).dbg = s.dbg := rfl
@[simp] theorem State.stick_hostMem (s : State) (e : Nat) (b : Nat) : (s.stick e b).hostMem = s.hostMem := rfl
@[simp] theorem State.stick_free (s : State) (e : Nat) (b : Nat) : (s.stick e b).free = s.free := rfl
@[simp] theorem State.stick_pending (s : State) (e : Nat) (b : Nat) : (s.stick e b).pending = s.pending := rfl
@[simp] theorem State.stick_reg (s : State) (e : Nat) (b : Nat) (r : Nat) : (s.stick e b).reg r = s.reg r := rfl
@[simp] theorem State.stick_get (s : State) (e : Nat) (b : Nat) (r : Fld) : (s.stick e b).get r = s.get r := rfl

/-! ### capSee -/

@[simp] theorem State.capSee_regs (s : State) (lat : Bool) (num : Nat) (t : Nat) : (s.capSee lat num t).regs = s.regs := rfl
@[simp] theorem State.capSee_clk (s : State) (lat : Bool) (num : Nat) (t : Nat) : (s.capSee lat num t).clk = s.clk := rfl
@[simp] theorem State.capSee_host (s : State) (lat : Bool) (num : Nat) (t : Nat) : (s.capSee lat num t).host = s.host := rfl
@[simp] theorem State.capSee_md (s : State) (lat : Bool) (num : Nat) (t : Nat) : (s.capSee lat num t).md = s.md := rfl
@[simp] theorem State.capSee_plan (s : State) (lat : Bool) (num : Nat) (t : Nat) : (s.capSee lat num t).plan = s.plan := rfl
@[simp] theorem State.capSee_loop (s : State) (lat : Bool) (num : Nat) (t : Nat) : (s.capSee lat num t).loop = s.loop := rfl
@[simp] theorem State.capSee_web (s : State) (lat : Bool) (num : Nat) (t : Nat) : (s.capSee lat num t).web = s.web := rfl
@[simp] theorem State.capSee_spar (s : State) (lat : Bool) (num : Nat) (t : Nat) : (s.capSee lat num t).spar = s.spar := rfl
@[simp] theorem State.capSee_pwm (s : State) (lat : Bool) (num : Nat) (t : Nat) : (s.capSee lat num t).pwm = s.pwm := rfl
@[simp] theorem State.capSee_adc (s : State) (lat : Bool) (num : Nat) (t : Nat) : (s.capSee lat num t).adc = s.adc := rfl
@[simp] theorem State.capSee_fbk (s : State) (lat : Bool) (num : Nat) (t : Nat) : (s.capSee lat num t).fbk = s.fbk := rfl
@[simp] theorem State.capSee_net (s : State) (lat : Bool) (num : Nat) (t : Nat) : (s.capSee lat num t).net = s.net := rfl
@[simp] theorem State.capSee_shr (s : State) (lat : Bool) (num : Nat) (t : Nat) : (s.capSee lat num t).shr = s.shr := rfl
@[simp] theorem State.capSee_fld (s : State) (lat : Bool) (num : Nat) (t : Nat) : (s.capSee lat num t).fld = s.fld := rfl
@[simp] theorem State.capSee_pwr (s : State) (lat : Bool) (num : Nat) (t : Nat) : (s.capSee lat num t).pwr = s.pwr := rfl
@[simp] theorem State.capSee_img (s : State) (lat : Bool) (num : Nat) (t : Nat) : (s.capSee lat num t).img = s.img := rfl
@[simp] theorem State.capSee_dbg (s : State) (lat : Bool) (num : Nat) (t : Nat) : (s.capSee lat num t).dbg = s.dbg := rfl
@[simp] theorem State.capSee_hostMem (s : State) (lat : Bool) (num : Nat) (t : Nat) : (s.capSee lat num t).hostMem = s.hostMem := rfl
@[simp] theorem State.capSee_free (s : State) (lat : Bool) (num : Nat) (t : Nat) : (s.capSee lat num t).free = s.free := rfl
@[simp] theorem State.capSee_pending (s : State) (lat : Bool) (num : Nat) (t : Nat) : (s.capSee lat num t).pending = s.pending := rfl
@[simp] theorem State.capSee_reg (s : State) (lat : Bool) (num : Nat) (t : Nat) (r : Nat) : (s.capSee lat num t).reg r = s.reg r := rfl
@[simp] theorem State.capSee_get (s : State) (lat : Bool) (num : Nat) (t : Nat) (r : Fld) : (s.capSee lat num t).get r = s.get r := rfl

/-! ### updCu -/

@[simp] theorem State.updCu_regs (s : State) (u : Nat) (f : CapUnit → CapUnit) : (s.updCu u f).regs = s.regs := rfl
@[simp] theorem State.updCu_clk (s : State) (u : Nat) (f : CapUnit → CapUnit) : (s.updCu u f).clk = s.clk := rfl
@[simp] theorem State.updCu_host (s : State) (u : Nat) (f : CapUnit → CapUnit) : (s.updCu u f).host = s.host := rfl
@[simp] theorem State.updCu_md (s : State) (u : Nat) (f : CapUnit → CapUnit) : (s.updCu u f).md = s.md := rfl
@[simp] theorem State.updCu_plan (s : State) (u : Nat) (f : CapUnit → CapUnit) : (s.updCu u f).plan = s.plan := rfl
@[simp] theorem State.updCu_loop (s : State) (u : Nat) (f : CapUnit → CapUnit) : (s.updCu u f).loop = s.loop := rfl
@[simp] theorem State.updCu_web (s : State) (u : Nat) (f : CapUnit → CapUnit) : (s.updCu u f).web = s.web := rfl
@[simp] theorem State.updCu_spar (s : State) (u : Nat) (f : CapUnit → CapUnit) : (s.updCu u f).spar = s.spar := rfl
@[simp] theorem State.updCu_pwm (s : State) (u : Nat) (f : CapUnit → CapUnit) : (s.updCu u f).pwm = s.pwm := rfl
@[simp] theorem State.updCu_adc (s : State) (u : Nat) (f : CapUnit → CapUnit) : (s.updCu u f).adc = s.adc := rfl
@[simp] theorem State.updCu_fbk (s : State) (u : Nat) (f : CapUnit → CapUnit) : (s.updCu u f).fbk = s.fbk := rfl
@[simp] theorem State.updCu_net (s : State) (u : Nat) (f : CapUnit → CapUnit) : (s.updCu u f).net = s.net := rfl
@[simp] theorem State.updCu_shr (s : State) (u : Nat) (f : CapUnit → CapUnit) : (s.updCu u f).shr = s.shr := rfl
@[simp] theorem State.updCu_fld (s : State) (u : Nat) (f : CapUnit → CapUnit) : (s.updCu u f).fld = s.fld := rfl
@[simp] theorem State.updCu_pwr (s : State) (u : Nat) (f : CapUnit → CapUnit) : (s.updCu u f).pwr = s.pwr := rfl
@[simp] theorem State.updCu_img (s : State) (u : Nat) (f : CapUnit → CapUnit) : (s.updCu u f).img = s.img := rfl
@[simp] theorem State.updCu_dbg (s : State) (u : Nat) (f : CapUnit → CapUnit) : (s.updCu u f).dbg = s.dbg := rfl
@[simp] theorem State.updCu_hostMem (s : State) (u : Nat) (f : CapUnit → CapUnit) : (s.updCu u f).hostMem = s.hostMem := rfl
@[simp] theorem State.updCu_free (s : State) (u : Nat) (f : CapUnit → CapUnit) : (s.updCu u f).free = s.free := rfl
@[simp] theorem State.updCu_pending (s : State) (u : Nat) (f : CapUnit → CapUnit) : (s.updCu u f).pending = s.pending := rfl
@[simp] theorem State.updCu_reg (s : State) (u : Nat) (f : CapUnit → CapUnit) (r : Nat) : (s.updCu u f).reg r = s.reg r := rfl
@[simp] theorem State.updCu_get (s : State) (u : Nat) (f : CapUnit → CapUnit) (r : Fld) : (s.updCu u f).get r = s.get r := rfl

/-! ### updSlot -/

@[simp] theorem State.updSlot_regs (s : State) (n : Nat) (f : SlotSt → SlotSt) : (s.updSlot n f).regs = s.regs := rfl
@[simp] theorem State.updSlot_clk (s : State) (n : Nat) (f : SlotSt → SlotSt) : (s.updSlot n f).clk = s.clk := rfl
@[simp] theorem State.updSlot_host (s : State) (n : Nat) (f : SlotSt → SlotSt) : (s.updSlot n f).host = s.host := rfl
@[simp] theorem State.updSlot_md (s : State) (n : Nat) (f : SlotSt → SlotSt) : (s.updSlot n f).md = s.md := rfl
@[simp] theorem State.updSlot_plan (s : State) (n : Nat) (f : SlotSt → SlotSt) : (s.updSlot n f).plan = s.plan := rfl
@[simp] theorem State.updSlot_loop (s : State) (n : Nat) (f : SlotSt → SlotSt) : (s.updSlot n f).loop = s.loop := rfl
@[simp] theorem State.updSlot_web (s : State) (n : Nat) (f : SlotSt → SlotSt) : (s.updSlot n f).web = s.web := rfl
@[simp] theorem State.updSlot_spar (s : State) (n : Nat) (f : SlotSt → SlotSt) : (s.updSlot n f).spar = s.spar := rfl
@[simp] theorem State.updSlot_adc (s : State) (n : Nat) (f : SlotSt → SlotSt) : (s.updSlot n f).adc = s.adc := rfl
@[simp] theorem State.updSlot_fbk (s : State) (n : Nat) (f : SlotSt → SlotSt) : (s.updSlot n f).fbk = s.fbk := rfl
@[simp] theorem State.updSlot_cap (s : State) (n : Nat) (f : SlotSt → SlotSt) : (s.updSlot n f).cap = s.cap := rfl
@[simp] theorem State.updSlot_net (s : State) (n : Nat) (f : SlotSt → SlotSt) : (s.updSlot n f).net = s.net := rfl
@[simp] theorem State.updSlot_shr (s : State) (n : Nat) (f : SlotSt → SlotSt) : (s.updSlot n f).shr = s.shr := rfl
@[simp] theorem State.updSlot_fld (s : State) (n : Nat) (f : SlotSt → SlotSt) : (s.updSlot n f).fld = s.fld := rfl
@[simp] theorem State.updSlot_pwr (s : State) (n : Nat) (f : SlotSt → SlotSt) : (s.updSlot n f).pwr = s.pwr := rfl
@[simp] theorem State.updSlot_img (s : State) (n : Nat) (f : SlotSt → SlotSt) : (s.updSlot n f).img = s.img := rfl
@[simp] theorem State.updSlot_dbg (s : State) (n : Nat) (f : SlotSt → SlotSt) : (s.updSlot n f).dbg = s.dbg := rfl
@[simp] theorem State.updSlot_hostMem (s : State) (n : Nat) (f : SlotSt → SlotSt) : (s.updSlot n f).hostMem = s.hostMem := rfl
@[simp] theorem State.updSlot_free (s : State) (n : Nat) (f : SlotSt → SlotSt) : (s.updSlot n f).free = s.free := rfl
@[simp] theorem State.updSlot_pending (s : State) (n : Nat) (f : SlotSt → SlotSt) : (s.updSlot n f).pending = s.pending := rfl
@[simp] theorem State.updSlot_reg (s : State) (n : Nat) (f : SlotSt → SlotSt) (r : Nat) : (s.updSlot n f).reg r = s.reg r := rfl
@[simp] theorem State.updSlot_get (s : State) (n : Nat) (f : SlotSt → SlotSt) (r : Fld) : (s.updSlot n f).get r = s.get r := rfl

/-! ### updPair -/

@[simp] theorem State.updPair_regs (s : State) (n : Nat) (p : Nat) (f : PairSt → PairSt) : (s.updPair n p f).regs = s.regs := rfl
@[simp] theorem State.updPair_clk (s : State) (n : Nat) (p : Nat) (f : PairSt → PairSt) : (s.updPair n p f).clk = s.clk := rfl
@[simp] theorem State.updPair_host (s : State) (n : Nat) (p : Nat) (f : PairSt → PairSt) : (s.updPair n p f).host = s.host := rfl
@[simp] theorem State.updPair_md (s : State) (n : Nat) (p : Nat) (f : PairSt → PairSt) : (s.updPair n p f).md = s.md := rfl
@[simp] theorem State.updPair_plan (s : State) (n : Nat) (p : Nat) (f : PairSt → PairSt) : (s.updPair n p f).plan = s.plan := rfl
@[simp] theorem State.updPair_loop (s : State) (n : Nat) (p : Nat) (f : PairSt → PairSt) : (s.updPair n p f).loop = s.loop := rfl
@[simp] theorem State.updPair_web (s : State) (n : Nat) (p : Nat) (f : PairSt → PairSt) : (s.updPair n p f).web = s.web := rfl
@[simp] theorem State.updPair_spar (s : State) (n : Nat) (p : Nat) (f : PairSt → PairSt) : (s.updPair n p f).spar = s.spar := rfl
@[simp] theorem State.updPair_adc (s : State) (n : Nat) (p : Nat) (f : PairSt → PairSt) : (s.updPair n p f).adc = s.adc := rfl
@[simp] theorem State.updPair_fbk (s : State) (n : Nat) (p : Nat) (f : PairSt → PairSt) : (s.updPair n p f).fbk = s.fbk := rfl
@[simp] theorem State.updPair_cap (s : State) (n : Nat) (p : Nat) (f : PairSt → PairSt) : (s.updPair n p f).cap = s.cap := rfl
@[simp] theorem State.updPair_net (s : State) (n : Nat) (p : Nat) (f : PairSt → PairSt) : (s.updPair n p f).net = s.net := rfl
@[simp] theorem State.updPair_shr (s : State) (n : Nat) (p : Nat) (f : PairSt → PairSt) : (s.updPair n p f).shr = s.shr := rfl
@[simp] theorem State.updPair_fld (s : State) (n : Nat) (p : Nat) (f : PairSt → PairSt) : (s.updPair n p f).fld = s.fld := rfl
@[simp] theorem State.updPair_pwr (s : State) (n : Nat) (p : Nat) (f : PairSt → PairSt) : (s.updPair n p f).pwr = s.pwr := rfl
@[simp] theorem State.updPair_img (s : State) (n : Nat) (p : Nat) (f : PairSt → PairSt) : (s.updPair n p f).img = s.img := rfl
@[simp] theorem State.updPair_dbg (s : State) (n : Nat) (p : Nat) (f : PairSt → PairSt) : (s.updPair n p f).dbg = s.dbg := rfl
@[simp] theorem State.updPair_hostMem (s : State) (n : Nat) (p : Nat) (f : PairSt → PairSt) : (s.updPair n p f).hostMem = s.hostMem := rfl
@[simp] theorem State.updPair_free (s : State) (n : Nat) (p : Nat) (f : PairSt → PairSt) : (s.updPair n p f).free = s.free := rfl
@[simp] theorem State.updPair_pending (s : State) (n : Nat) (p : Nat) (f : PairSt → PairSt) : (s.updPair n p f).pending = s.pending := rfl
@[simp] theorem State.updPair_reg (s : State) (n : Nat) (p : Nat) (f : PairSt → PairSt) (r : Nat) : (s.updPair n p f).reg r = s.reg r := rfl
@[simp] theorem State.updPair_get (s : State) (n : Nat) (p : Nat) (f : PairSt → PairSt) (r : Fld) : (s.updPair n p f).get r = s.get r := rfl

/-! ### updAxisL -/

@[simp] theorem State.updAxisL_regs (s : State) (a : Nat) (f : AxisL → AxisL) : (s.updAxisL a f).regs = s.regs := rfl
@[simp] theorem State.updAxisL_clk (s : State) (a : Nat) (f : AxisL → AxisL) : (s.updAxisL a f).clk = s.clk := rfl
@[simp] theorem State.updAxisL_host (s : State) (a : Nat) (f : AxisL → AxisL) : (s.updAxisL a f).host = s.host := rfl
@[simp] theorem State.updAxisL_md (s : State) (a : Nat) (f : AxisL → AxisL) : (s.updAxisL a f).md = s.md := rfl
@[simp] theorem State.updAxisL_plan (s : State) (a : Nat) (f : AxisL → AxisL) : (s.updAxisL a f).plan = s.plan := rfl
@[simp] theorem State.updAxisL_web (s : State) (a : Nat) (f : AxisL → AxisL) : (s.updAxisL a f).web = s.web := rfl
@[simp] theorem State.updAxisL_spar (s : State) (a : Nat) (f : AxisL → AxisL) : (s.updAxisL a f).spar = s.spar := rfl
@[simp] theorem State.updAxisL_pwm (s : State) (a : Nat) (f : AxisL → AxisL) : (s.updAxisL a f).pwm = s.pwm := rfl
@[simp] theorem State.updAxisL_adc (s : State) (a : Nat) (f : AxisL → AxisL) : (s.updAxisL a f).adc = s.adc := rfl
@[simp] theorem State.updAxisL_fbk (s : State) (a : Nat) (f : AxisL → AxisL) : (s.updAxisL a f).fbk = s.fbk := rfl
@[simp] theorem State.updAxisL_cap (s : State) (a : Nat) (f : AxisL → AxisL) : (s.updAxisL a f).cap = s.cap := rfl
@[simp] theorem State.updAxisL_net (s : State) (a : Nat) (f : AxisL → AxisL) : (s.updAxisL a f).net = s.net := rfl
@[simp] theorem State.updAxisL_shr (s : State) (a : Nat) (f : AxisL → AxisL) : (s.updAxisL a f).shr = s.shr := rfl
@[simp] theorem State.updAxisL_fld (s : State) (a : Nat) (f : AxisL → AxisL) : (s.updAxisL a f).fld = s.fld := rfl
@[simp] theorem State.updAxisL_pwr (s : State) (a : Nat) (f : AxisL → AxisL) : (s.updAxisL a f).pwr = s.pwr := rfl
@[simp] theorem State.updAxisL_img (s : State) (a : Nat) (f : AxisL → AxisL) : (s.updAxisL a f).img = s.img := rfl
@[simp] theorem State.updAxisL_dbg (s : State) (a : Nat) (f : AxisL → AxisL) : (s.updAxisL a f).dbg = s.dbg := rfl
@[simp] theorem State.updAxisL_hostMem (s : State) (a : Nat) (f : AxisL → AxisL) : (s.updAxisL a f).hostMem = s.hostMem := rfl
@[simp] theorem State.updAxisL_free (s : State) (a : Nat) (f : AxisL → AxisL) : (s.updAxisL a f).free = s.free := rfl
@[simp] theorem State.updAxisL_pending (s : State) (a : Nat) (f : AxisL → AxisL) : (s.updAxisL a f).pending = s.pending := rfl
@[simp] theorem State.updAxisL_reg (s : State) (a : Nat) (f : AxisL → AxisL) (r : Nat) : (s.updAxisL a f).reg r = s.reg r := rfl
@[simp] theorem State.updAxisL_get (s : State) (a : Nat) (f : AxisL → AxisL) (r : Fld) : (s.updAxisL a f).get r = s.get r := rfl

/-! ### updNotch -/

@[simp] theorem State.updNotch_regs (s : State) (a : Nat) (i : Nat) (f : Notch → Notch) : (s.updNotch a i f).regs = s.regs := rfl
@[simp] theorem State.updNotch_clk (s : State) (a : Nat) (i : Nat) (f : Notch → Notch) : (s.updNotch a i f).clk = s.clk := rfl
@[simp] theorem State.updNotch_host (s : State) (a : Nat) (i : Nat) (f : Notch → Notch) : (s.updNotch a i f).host = s.host := rfl
@[simp] theorem State.updNotch_md (s : State) (a : Nat) (i : Nat) (f : Notch → Notch) : (s.updNotch a i f).md = s.md := rfl
@[simp] theorem State.updNotch_plan (s : State) (a : Nat) (i : Nat) (f : Notch → Notch) : (s.updNotch a i f).plan = s.plan := rfl
@[simp] theorem State.updNotch_web (s : State) (a : Nat) (i : Nat) (f : Notch → Notch) : (s.updNotch a i f).web = s.web := rfl
@[simp] theorem State.updNotch_spar (s : State) (a : Nat) (i : Nat) (f : Notch → Notch) : (s.updNotch a i f).spar = s.spar := rfl
@[simp] theorem State.updNotch_pwm (s : State) (a : Nat) (i : Nat) (f : Notch → Notch) : (s.updNotch a i f).pwm = s.pwm := rfl
@[simp] theorem State.updNotch_adc (s : State) (a : Nat) (i : Nat) (f : Notch → Notch) : (s.updNotch a i f).adc = s.adc := rfl
@[simp] theorem State.updNotch_fbk (s : State) (a : Nat) (i : Nat) (f : Notch → Notch) : (s.updNotch a i f).fbk = s.fbk := rfl
@[simp] theorem State.updNotch_cap (s : State) (a : Nat) (i : Nat) (f : Notch → Notch) : (s.updNotch a i f).cap = s.cap := rfl
@[simp] theorem State.updNotch_net (s : State) (a : Nat) (i : Nat) (f : Notch → Notch) : (s.updNotch a i f).net = s.net := rfl
@[simp] theorem State.updNotch_shr (s : State) (a : Nat) (i : Nat) (f : Notch → Notch) : (s.updNotch a i f).shr = s.shr := rfl
@[simp] theorem State.updNotch_fld (s : State) (a : Nat) (i : Nat) (f : Notch → Notch) : (s.updNotch a i f).fld = s.fld := rfl
@[simp] theorem State.updNotch_pwr (s : State) (a : Nat) (i : Nat) (f : Notch → Notch) : (s.updNotch a i f).pwr = s.pwr := rfl
@[simp] theorem State.updNotch_img (s : State) (a : Nat) (i : Nat) (f : Notch → Notch) : (s.updNotch a i f).img = s.img := rfl
@[simp] theorem State.updNotch_dbg (s : State) (a : Nat) (i : Nat) (f : Notch → Notch) : (s.updNotch a i f).dbg = s.dbg := rfl
@[simp] theorem State.updNotch_hostMem (s : State) (a : Nat) (i : Nat) (f : Notch → Notch) : (s.updNotch a i f).hostMem = s.hostMem := rfl
@[simp] theorem State.updNotch_free (s : State) (a : Nat) (i : Nat) (f : Notch → Notch) : (s.updNotch a i f).free = s.free := rfl
@[simp] theorem State.updNotch_pending (s : State) (a : Nat) (i : Nat) (f : Notch → Notch) : (s.updNotch a i f).pending = s.pending := rfl
@[simp] theorem State.updNotch_reg (s : State) (a : Nat) (i : Nat) (f : Notch → Notch) (r : Nat) : (s.updNotch a i f).reg r = s.reg r := rfl
@[simp] theorem State.updNotch_get (s : State) (a : Nat) (i : Nat) (f : Notch → Notch) (r : Fld) : (s.updNotch a i f).get r = s.get r := rfl

/-! ### updRoll -/

@[simp] theorem State.updRoll_regs (s : State) (a : Nat) (f : RollSt → RollSt) : (s.updRoll a f).regs = s.regs := rfl
@[simp] theorem State.updRoll_clk (s : State) (a : Nat) (f : RollSt → RollSt) : (s.updRoll a f).clk = s.clk := rfl
@[simp] theorem State.updRoll_host (s : State) (a : Nat) (f : RollSt → RollSt) : (s.updRoll a f).host = s.host := rfl
@[simp] theorem State.updRoll_md (s : State) (a : Nat) (f : RollSt → RollSt) : (s.updRoll a f).md = s.md := rfl
@[simp] theorem State.updRoll_plan (s : State) (a : Nat) (f : RollSt → RollSt) : (s.updRoll a f).plan = s.plan := rfl
@[simp] theorem State.updRoll_loop (s : State) (a : Nat) (f : RollSt → RollSt) : (s.updRoll a f).loop = s.loop := rfl
@[simp] theorem State.updRoll_spar (s : State) (a : Nat) (f : RollSt → RollSt) : (s.updRoll a f).spar = s.spar := rfl
@[simp] theorem State.updRoll_pwm (s : State) (a : Nat) (f : RollSt → RollSt) : (s.updRoll a f).pwm = s.pwm := rfl
@[simp] theorem State.updRoll_adc (s : State) (a : Nat) (f : RollSt → RollSt) : (s.updRoll a f).adc = s.adc := rfl
@[simp] theorem State.updRoll_fbk (s : State) (a : Nat) (f : RollSt → RollSt) : (s.updRoll a f).fbk = s.fbk := rfl
@[simp] theorem State.updRoll_cap (s : State) (a : Nat) (f : RollSt → RollSt) : (s.updRoll a f).cap = s.cap := rfl
@[simp] theorem State.updRoll_net (s : State) (a : Nat) (f : RollSt → RollSt) : (s.updRoll a f).net = s.net := rfl
@[simp] theorem State.updRoll_shr (s : State) (a : Nat) (f : RollSt → RollSt) : (s.updRoll a f).shr = s.shr := rfl
@[simp] theorem State.updRoll_fld (s : State) (a : Nat) (f : RollSt → RollSt) : (s.updRoll a f).fld = s.fld := rfl
@[simp] theorem State.updRoll_pwr (s : State) (a : Nat) (f : RollSt → RollSt) : (s.updRoll a f).pwr = s.pwr := rfl
@[simp] theorem State.updRoll_img (s : State) (a : Nat) (f : RollSt → RollSt) : (s.updRoll a f).img = s.img := rfl
@[simp] theorem State.updRoll_dbg (s : State) (a : Nat) (f : RollSt → RollSt) : (s.updRoll a f).dbg = s.dbg := rfl
@[simp] theorem State.updRoll_hostMem (s : State) (a : Nat) (f : RollSt → RollSt) : (s.updRoll a f).hostMem = s.hostMem := rfl
@[simp] theorem State.updRoll_free (s : State) (a : Nat) (f : RollSt → RollSt) : (s.updRoll a f).free = s.free := rfl
@[simp] theorem State.updRoll_pending (s : State) (a : Nat) (f : RollSt → RollSt) : (s.updRoll a f).pending = s.pending := rfl
@[simp] theorem State.updRoll_reg (s : State) (a : Nat) (f : RollSt → RollSt) (r : Nat) : (s.updRoll a f).reg r = s.reg r := rfl
@[simp] theorem State.updRoll_get (s : State) (a : Nat) (f : RollSt → RollSt) (r : Fld) : (s.updRoll a f).get r = s.get r := rfl

/-! ### updSpan -/

@[simp] theorem State.updSpan_regs (s : State) (k : Nat) (f : SpanSt → SpanSt) : (s.updSpan k f).regs = s.regs := rfl
@[simp] theorem State.updSpan_clk (s : State) (k : Nat) (f : SpanSt → SpanSt) : (s.updSpan k f).clk = s.clk := rfl
@[simp] theorem State.updSpan_host (s : State) (k : Nat) (f : SpanSt → SpanSt) : (s.updSpan k f).host = s.host := rfl
@[simp] theorem State.updSpan_md (s : State) (k : Nat) (f : SpanSt → SpanSt) : (s.updSpan k f).md = s.md := rfl
@[simp] theorem State.updSpan_plan (s : State) (k : Nat) (f : SpanSt → SpanSt) : (s.updSpan k f).plan = s.plan := rfl
@[simp] theorem State.updSpan_loop (s : State) (k : Nat) (f : SpanSt → SpanSt) : (s.updSpan k f).loop = s.loop := rfl
@[simp] theorem State.updSpan_spar (s : State) (k : Nat) (f : SpanSt → SpanSt) : (s.updSpan k f).spar = s.spar := rfl
@[simp] theorem State.updSpan_pwm (s : State) (k : Nat) (f : SpanSt → SpanSt) : (s.updSpan k f).pwm = s.pwm := rfl
@[simp] theorem State.updSpan_adc (s : State) (k : Nat) (f : SpanSt → SpanSt) : (s.updSpan k f).adc = s.adc := rfl
@[simp] theorem State.updSpan_fbk (s : State) (k : Nat) (f : SpanSt → SpanSt) : (s.updSpan k f).fbk = s.fbk := rfl
@[simp] theorem State.updSpan_cap (s : State) (k : Nat) (f : SpanSt → SpanSt) : (s.updSpan k f).cap = s.cap := rfl
@[simp] theorem State.updSpan_net (s : State) (k : Nat) (f : SpanSt → SpanSt) : (s.updSpan k f).net = s.net := rfl
@[simp] theorem State.updSpan_shr (s : State) (k : Nat) (f : SpanSt → SpanSt) : (s.updSpan k f).shr = s.shr := rfl
@[simp] theorem State.updSpan_fld (s : State) (k : Nat) (f : SpanSt → SpanSt) : (s.updSpan k f).fld = s.fld := rfl
@[simp] theorem State.updSpan_pwr (s : State) (k : Nat) (f : SpanSt → SpanSt) : (s.updSpan k f).pwr = s.pwr := rfl
@[simp] theorem State.updSpan_img (s : State) (k : Nat) (f : SpanSt → SpanSt) : (s.updSpan k f).img = s.img := rfl
@[simp] theorem State.updSpan_dbg (s : State) (k : Nat) (f : SpanSt → SpanSt) : (s.updSpan k f).dbg = s.dbg := rfl
@[simp] theorem State.updSpan_hostMem (s : State) (k : Nat) (f : SpanSt → SpanSt) : (s.updSpan k f).hostMem = s.hostMem := rfl
@[simp] theorem State.updSpan_free (s : State) (k : Nat) (f : SpanSt → SpanSt) : (s.updSpan k f).free = s.free := rfl
@[simp] theorem State.updSpan_pending (s : State) (k : Nat) (f : SpanSt → SpanSt) : (s.updSpan k f).pending = s.pending := rfl
@[simp] theorem State.updSpan_reg (s : State) (k : Nat) (f : SpanSt → SpanSt) (r : Nat) : (s.updSpan k f).reg r = s.reg r := rfl
@[simp] theorem State.updSpan_get (s : State) (k : Nat) (f : SpanSt → SpanSt) (r : Fld) : (s.updSpan k f).get r = s.get r := rfl

/-! ### updWinder -/

@[simp] theorem State.updWinder_regs (s : State) (w : Nat) (f : WinderSt → WinderSt) : (s.updWinder w f).regs = s.regs := rfl
@[simp] theorem State.updWinder_clk (s : State) (w : Nat) (f : WinderSt → WinderSt) : (s.updWinder w f).clk = s.clk := rfl
@[simp] theorem State.updWinder_host (s : State) (w : Nat) (f : WinderSt → WinderSt) : (s.updWinder w f).host = s.host := rfl
@[simp] theorem State.updWinder_md (s : State) (w : Nat) (f : WinderSt → WinderSt) : (s.updWinder w f).md = s.md := rfl
@[simp] theorem State.updWinder_plan (s : State) (w : Nat) (f : WinderSt → WinderSt) : (s.updWinder w f).plan = s.plan := rfl
@[simp] theorem State.updWinder_loop (s : State) (w : Nat) (f : WinderSt → WinderSt) : (s.updWinder w f).loop = s.loop := rfl
@[simp] theorem State.updWinder_spar (s : State) (w : Nat) (f : WinderSt → WinderSt) : (s.updWinder w f).spar = s.spar := rfl
@[simp] theorem State.updWinder_pwm (s : State) (w : Nat) (f : WinderSt → WinderSt) : (s.updWinder w f).pwm = s.pwm := rfl
@[simp] theorem State.updWinder_adc (s : State) (w : Nat) (f : WinderSt → WinderSt) : (s.updWinder w f).adc = s.adc := rfl
@[simp] theorem State.updWinder_fbk (s : State) (w : Nat) (f : WinderSt → WinderSt) : (s.updWinder w f).fbk = s.fbk := rfl
@[simp] theorem State.updWinder_cap (s : State) (w : Nat) (f : WinderSt → WinderSt) : (s.updWinder w f).cap = s.cap := rfl
@[simp] theorem State.updWinder_net (s : State) (w : Nat) (f : WinderSt → WinderSt) : (s.updWinder w f).net = s.net := rfl
@[simp] theorem State.updWinder_shr (s : State) (w : Nat) (f : WinderSt → WinderSt) : (s.updWinder w f).shr = s.shr := rfl
@[simp] theorem State.updWinder_fld (s : State) (w : Nat) (f : WinderSt → WinderSt) : (s.updWinder w f).fld = s.fld := rfl
@[simp] theorem State.updWinder_pwr (s : State) (w : Nat) (f : WinderSt → WinderSt) : (s.updWinder w f).pwr = s.pwr := rfl
@[simp] theorem State.updWinder_img (s : State) (w : Nat) (f : WinderSt → WinderSt) : (s.updWinder w f).img = s.img := rfl
@[simp] theorem State.updWinder_dbg (s : State) (w : Nat) (f : WinderSt → WinderSt) : (s.updWinder w f).dbg = s.dbg := rfl
@[simp] theorem State.updWinder_hostMem (s : State) (w : Nat) (f : WinderSt → WinderSt) : (s.updWinder w f).hostMem = s.hostMem := rfl
@[simp] theorem State.updWinder_free (s : State) (w : Nat) (f : WinderSt → WinderSt) : (s.updWinder w f).free = s.free := rfl
@[simp] theorem State.updWinder_pending (s : State) (w : Nat) (f : WinderSt → WinderSt) : (s.updWinder w f).pending = s.pending := rfl
@[simp] theorem State.updWinder_reg (s : State) (w : Nat) (f : WinderSt → WinderSt) (r : Nat) : (s.updWinder w f).reg r = s.reg r := rfl
@[simp] theorem State.updWinder_get (s : State) (w : Nat) (f : WinderSt → WinderSt) (r : Fld) : (s.updWinder w f).get r = s.get r := rfl

/-! ### updFb -/

@[simp] theorem State.updFb_regs (s : State) (n : Nat) (f : FbSt → FbSt) : (s.updFb n f).regs = s.regs := rfl
@[simp] theorem State.updFb_clk (s : State) (n : Nat) (f : FbSt → FbSt) : (s.updFb n f).clk = s.clk := rfl
@[simp] theorem State.updFb_host (s : State) (n : Nat) (f : FbSt → FbSt) : (s.updFb n f).host = s.host := rfl
@[simp] theorem State.updFb_md (s : State) (n : Nat) (f : FbSt → FbSt) : (s.updFb n f).md = s.md := rfl
@[simp] theorem State.updFb_plan (s : State) (n : Nat) (f : FbSt → FbSt) : (s.updFb n f).plan = s.plan := rfl
@[simp] theorem State.updFb_loop (s : State) (n : Nat) (f : FbSt → FbSt) : (s.updFb n f).loop = s.loop := rfl
@[simp] theorem State.updFb_web (s : State) (n : Nat) (f : FbSt → FbSt) : (s.updFb n f).web = s.web := rfl
@[simp] theorem State.updFb_spar (s : State) (n : Nat) (f : FbSt → FbSt) : (s.updFb n f).spar = s.spar := rfl
@[simp] theorem State.updFb_pwm (s : State) (n : Nat) (f : FbSt → FbSt) : (s.updFb n f).pwm = s.pwm := rfl
@[simp] theorem State.updFb_adc (s : State) (n : Nat) (f : FbSt → FbSt) : (s.updFb n f).adc = s.adc := rfl
@[simp] theorem State.updFb_cap (s : State) (n : Nat) (f : FbSt → FbSt) : (s.updFb n f).cap = s.cap := rfl
@[simp] theorem State.updFb_net (s : State) (n : Nat) (f : FbSt → FbSt) : (s.updFb n f).net = s.net := rfl
@[simp] theorem State.updFb_shr (s : State) (n : Nat) (f : FbSt → FbSt) : (s.updFb n f).shr = s.shr := rfl
@[simp] theorem State.updFb_fld (s : State) (n : Nat) (f : FbSt → FbSt) : (s.updFb n f).fld = s.fld := rfl
@[simp] theorem State.updFb_pwr (s : State) (n : Nat) (f : FbSt → FbSt) : (s.updFb n f).pwr = s.pwr := rfl
@[simp] theorem State.updFb_img (s : State) (n : Nat) (f : FbSt → FbSt) : (s.updFb n f).img = s.img := rfl
@[simp] theorem State.updFb_dbg (s : State) (n : Nat) (f : FbSt → FbSt) : (s.updFb n f).dbg = s.dbg := rfl
@[simp] theorem State.updFb_hostMem (s : State) (n : Nat) (f : FbSt → FbSt) : (s.updFb n f).hostMem = s.hostMem := rfl
@[simp] theorem State.updFb_free (s : State) (n : Nat) (f : FbSt → FbSt) : (s.updFb n f).free = s.free := rfl
@[simp] theorem State.updFb_pending (s : State) (n : Nat) (f : FbSt → FbSt) : (s.updFb n f).pending = s.pending := rfl
@[simp] theorem State.updFb_reg (s : State) (n : Nat) (f : FbSt → FbSt) (r : Nat) : (s.updFb n f).reg r = s.reg r := rfl
@[simp] theorem State.updFb_get (s : State) (n : Nat) (f : FbSt → FbSt) (r : Fld) : (s.updFb n f).get r = s.get r := rfl

/-! ### updLat -/

@[simp] theorem State.updLat_regs (s : State) (i : Nat) (f : LatSt → LatSt) : (s.updLat i f).regs = s.regs := rfl
@[simp] theorem State.updLat_clk (s : State) (i : Nat) (f : LatSt → LatSt) : (s.updLat i f).clk = s.clk := rfl
@[simp] theorem State.updLat_host (s : State) (i : Nat) (f : LatSt → LatSt) : (s.updLat i f).host = s.host := rfl
@[simp] theorem State.updLat_md (s : State) (i : Nat) (f : LatSt → LatSt) : (s.updLat i f).md = s.md := rfl
@[simp] theorem State.updLat_plan (s : State) (i : Nat) (f : LatSt → LatSt) : (s.updLat i f).plan = s.plan := rfl
@[simp] theorem State.updLat_loop (s : State) (i : Nat) (f : LatSt → LatSt) : (s.updLat i f).loop = s.loop := rfl
@[simp] theorem State.updLat_web (s : State) (i : Nat) (f : LatSt → LatSt) : (s.updLat i f).web = s.web := rfl
@[simp] theorem State.updLat_spar (s : State) (i : Nat) (f : LatSt → LatSt) : (s.updLat i f).spar = s.spar := rfl
@[simp] theorem State.updLat_pwm (s : State) (i : Nat) (f : LatSt → LatSt) : (s.updLat i f).pwm = s.pwm := rfl
@[simp] theorem State.updLat_adc (s : State) (i : Nat) (f : LatSt → LatSt) : (s.updLat i f).adc = s.adc := rfl
@[simp] theorem State.updLat_cap (s : State) (i : Nat) (f : LatSt → LatSt) : (s.updLat i f).cap = s.cap := rfl
@[simp] theorem State.updLat_net (s : State) (i : Nat) (f : LatSt → LatSt) : (s.updLat i f).net = s.net := rfl
@[simp] theorem State.updLat_shr (s : State) (i : Nat) (f : LatSt → LatSt) : (s.updLat i f).shr = s.shr := rfl
@[simp] theorem State.updLat_fld (s : State) (i : Nat) (f : LatSt → LatSt) : (s.updLat i f).fld = s.fld := rfl
@[simp] theorem State.updLat_pwr (s : State) (i : Nat) (f : LatSt → LatSt) : (s.updLat i f).pwr = s.pwr := rfl
@[simp] theorem State.updLat_img (s : State) (i : Nat) (f : LatSt → LatSt) : (s.updLat i f).img = s.img := rfl
@[simp] theorem State.updLat_dbg (s : State) (i : Nat) (f : LatSt → LatSt) : (s.updLat i f).dbg = s.dbg := rfl
@[simp] theorem State.updLat_hostMem (s : State) (i : Nat) (f : LatSt → LatSt) : (s.updLat i f).hostMem = s.hostMem := rfl
@[simp] theorem State.updLat_free (s : State) (i : Nat) (f : LatSt → LatSt) : (s.updLat i f).free = s.free := rfl
@[simp] theorem State.updLat_pending (s : State) (i : Nat) (f : LatSt → LatSt) : (s.updLat i f).pending = s.pending := rfl
@[simp] theorem State.updLat_reg (s : State) (i : Nat) (f : LatSt → LatSt) (r : Nat) : (s.updLat i f).reg r = s.reg r := rfl
@[simp] theorem State.updLat_get (s : State) (i : Nat) (f : LatSt → LatSt) (r : Fld) : (s.updLat i f).get r = s.get r := rfl

/-! ### updConv -/

@[simp] theorem State.updConv_regs (s : State) (c : Nat) (f : ConvSt → ConvSt) : (s.updConv c f).regs = s.regs := rfl
@[simp] theorem State.updConv_clk (s : State) (c : Nat) (f : ConvSt → ConvSt) : (s.updConv c f).clk = s.clk := rfl
@[simp] theorem State.updConv_host (s : State) (c : Nat) (f : ConvSt → ConvSt) : (s.updConv c f).host = s.host := rfl
@[simp] theorem State.updConv_md (s : State) (c : Nat) (f : ConvSt → ConvSt) : (s.updConv c f).md = s.md := rfl
@[simp] theorem State.updConv_plan (s : State) (c : Nat) (f : ConvSt → ConvSt) : (s.updConv c f).plan = s.plan := rfl
@[simp] theorem State.updConv_loop (s : State) (c : Nat) (f : ConvSt → ConvSt) : (s.updConv c f).loop = s.loop := rfl
@[simp] theorem State.updConv_web (s : State) (c : Nat) (f : ConvSt → ConvSt) : (s.updConv c f).web = s.web := rfl
@[simp] theorem State.updConv_spar (s : State) (c : Nat) (f : ConvSt → ConvSt) : (s.updConv c f).spar = s.spar := rfl
@[simp] theorem State.updConv_pwm (s : State) (c : Nat) (f : ConvSt → ConvSt) : (s.updConv c f).pwm = s.pwm := rfl
@[simp] theorem State.updConv_fbk (s : State) (c : Nat) (f : ConvSt → ConvSt) : (s.updConv c f).fbk = s.fbk := rfl
@[simp] theorem State.updConv_cap (s : State) (c : Nat) (f : ConvSt → ConvSt) : (s.updConv c f).cap = s.cap := rfl
@[simp] theorem State.updConv_net (s : State) (c : Nat) (f : ConvSt → ConvSt) : (s.updConv c f).net = s.net := rfl
@[simp] theorem State.updConv_shr (s : State) (c : Nat) (f : ConvSt → ConvSt) : (s.updConv c f).shr = s.shr := rfl
@[simp] theorem State.updConv_fld (s : State) (c : Nat) (f : ConvSt → ConvSt) : (s.updConv c f).fld = s.fld := rfl
@[simp] theorem State.updConv_pwr (s : State) (c : Nat) (f : ConvSt → ConvSt) : (s.updConv c f).pwr = s.pwr := rfl
@[simp] theorem State.updConv_img (s : State) (c : Nat) (f : ConvSt → ConvSt) : (s.updConv c f).img = s.img := rfl
@[simp] theorem State.updConv_dbg (s : State) (c : Nat) (f : ConvSt → ConvSt) : (s.updConv c f).dbg = s.dbg := rfl
@[simp] theorem State.updConv_hostMem (s : State) (c : Nat) (f : ConvSt → ConvSt) : (s.updConv c f).hostMem = s.hostMem := rfl
@[simp] theorem State.updConv_free (s : State) (c : Nat) (f : ConvSt → ConvSt) : (s.updConv c f).free = s.free := rfl
@[simp] theorem State.updConv_pending (s : State) (c : Nat) (f : ConvSt → ConvSt) : (s.updConv c f).pending = s.pending := rfl
@[simp] theorem State.updConv_reg (s : State) (c : Nat) (f : ConvSt → ConvSt) (r : Nat) : (s.updConv c f).reg r = s.reg r := rfl
@[simp] theorem State.updConv_get (s : State) (c : Nat) (f : ConvSt → ConvSt) (r : Fld) : (s.updConv c f).get r = s.get r := rfl

/-! ### updPort -/

@[simp] theorem State.updPort_regs (s : State) (p : Nat) (f : PortSt → PortSt) : (s.updPort p f).regs = s.regs := rfl
@[simp] theorem State.updPort_clk (s : State) (p : Nat) (f : PortSt → PortSt) : (s.updPort p f).clk = s.clk := rfl
@[simp] theorem State.updPort_host (s : State) (p : Nat) (f : PortSt → PortSt) : (s.updPort p f).host = s.host := rfl
@[simp] theorem State.updPort_md (s : State) (p : Nat) (f : PortSt → PortSt) : (s.updPort p f).md = s.md := rfl
@[simp] theorem State.updPort_plan (s : State) (p : Nat) (f : PortSt → PortSt) : (s.updPort p f).plan = s.plan := rfl
@[simp] theorem State.updPort_loop (s : State) (p : Nat) (f : PortSt → PortSt) : (s.updPort p f).loop = s.loop := rfl
@[simp] theorem State.updPort_web (s : State) (p : Nat) (f : PortSt → PortSt) : (s.updPort p f).web = s.web := rfl
@[simp] theorem State.updPort_spar (s : State) (p : Nat) (f : PortSt → PortSt) : (s.updPort p f).spar = s.spar := rfl
@[simp] theorem State.updPort_pwm (s : State) (p : Nat) (f : PortSt → PortSt) : (s.updPort p f).pwm = s.pwm := rfl
@[simp] theorem State.updPort_adc (s : State) (p : Nat) (f : PortSt → PortSt) : (s.updPort p f).adc = s.adc := rfl
@[simp] theorem State.updPort_fbk (s : State) (p : Nat) (f : PortSt → PortSt) : (s.updPort p f).fbk = s.fbk := rfl
@[simp] theorem State.updPort_cap (s : State) (p : Nat) (f : PortSt → PortSt) : (s.updPort p f).cap = s.cap := rfl
@[simp] theorem State.updPort_shr (s : State) (p : Nat) (f : PortSt → PortSt) : (s.updPort p f).shr = s.shr := rfl
@[simp] theorem State.updPort_fld (s : State) (p : Nat) (f : PortSt → PortSt) : (s.updPort p f).fld = s.fld := rfl
@[simp] theorem State.updPort_pwr (s : State) (p : Nat) (f : PortSt → PortSt) : (s.updPort p f).pwr = s.pwr := rfl
@[simp] theorem State.updPort_img (s : State) (p : Nat) (f : PortSt → PortSt) : (s.updPort p f).img = s.img := rfl
@[simp] theorem State.updPort_dbg (s : State) (p : Nat) (f : PortSt → PortSt) : (s.updPort p f).dbg = s.dbg := rfl
@[simp] theorem State.updPort_hostMem (s : State) (p : Nat) (f : PortSt → PortSt) : (s.updPort p f).hostMem = s.hostMem := rfl
@[simp] theorem State.updPort_free (s : State) (p : Nat) (f : PortSt → PortSt) : (s.updPort p f).free = s.free := rfl
@[simp] theorem State.updPort_pending (s : State) (p : Nat) (f : PortSt → PortSt) : (s.updPort p f).pending = s.pending := rfl
@[simp] theorem State.updPort_reg (s : State) (p : Nat) (f : PortSt → PortSt) (r : Nat) : (s.updPort p f).reg r = s.reg r := rfl
@[simp] theorem State.updPort_get (s : State) (p : Nat) (f : PortSt → PortSt) (r : Fld) : (s.updPort p f).get r = s.get r := rfl

/-! ### updPtp -/

@[simp] theorem State.updPtp_regs (s : State) (f : PtpSt → PtpSt) : (s.updPtp f).regs = s.regs := rfl
@[simp] theorem State.updPtp_clk (s : State) (f : PtpSt → PtpSt) : (s.updPtp f).clk = s.clk := rfl
@[simp] theorem State.updPtp_host (s : State) (f : PtpSt → PtpSt) : (s.updPtp f).host = s.host := rfl
@[simp] theorem State.updPtp_md (s : State) (f : PtpSt → PtpSt) : (s.updPtp f).md = s.md := rfl
@[simp] theorem State.updPtp_plan (s : State) (f : PtpSt → PtpSt) : (s.updPtp f).plan = s.plan := rfl
@[simp] theorem State.updPtp_loop (s : State) (f : PtpSt → PtpSt) : (s.updPtp f).loop = s.loop := rfl
@[simp] theorem State.updPtp_web (s : State) (f : PtpSt → PtpSt) : (s.updPtp f).web = s.web := rfl
@[simp] theorem State.updPtp_spar (s : State) (f : PtpSt → PtpSt) : (s.updPtp f).spar = s.spar := rfl
@[simp] theorem State.updPtp_pwm (s : State) (f : PtpSt → PtpSt) : (s.updPtp f).pwm = s.pwm := rfl
@[simp] theorem State.updPtp_adc (s : State) (f : PtpSt → PtpSt) : (s.updPtp f).adc = s.adc := rfl
@[simp] theorem State.updPtp_fbk (s : State) (f : PtpSt → PtpSt) : (s.updPtp f).fbk = s.fbk := rfl
@[simp] theorem State.updPtp_cap (s : State) (f : PtpSt → PtpSt) : (s.updPtp f).cap = s.cap := rfl
@[simp] theorem State.updPtp_shr (s : State) (f : PtpSt → PtpSt) : (s.updPtp f).shr = s.shr := rfl
@[simp] theorem State.updPtp_fld (s : State) (f : PtpSt → PtpSt) : (s.updPtp f).fld = s.fld := rfl
@[simp] theorem State.updPtp_pwr (s : State) (f : PtpSt → PtpSt) : (s.updPtp f).pwr = s.pwr := rfl
@[simp] theorem State.updPtp_img (s : State) (f : PtpSt → PtpSt) : (s.updPtp f).img = s.img := rfl
@[simp] theorem State.updPtp_dbg (s : State) (f : PtpSt → PtpSt) : (s.updPtp f).dbg = s.dbg := rfl
@[simp] theorem State.updPtp_hostMem (s : State) (f : PtpSt → PtpSt) : (s.updPtp f).hostMem = s.hostMem := rfl
@[simp] theorem State.updPtp_free (s : State) (f : PtpSt → PtpSt) : (s.updPtp f).free = s.free := rfl
@[simp] theorem State.updPtp_pending (s : State) (f : PtpSt → PtpSt) : (s.updPtp f).pending = s.pending := rfl
@[simp] theorem State.updPtp_reg (s : State) (f : PtpSt → PtpSt) (r : Nat) : (s.updPtp f).reg r = s.reg r := rfl
@[simp] theorem State.updPtp_get (s : State) (f : PtpSt → PtpSt) (r : Fld) : (s.updPtp f).get r = s.get r := rfl

/-! ### updPp -/

@[simp] theorem State.updPp_regs (s : State) (p : Nat) (f : PtpPort → PtpPort) : (s.updPp p f).regs = s.regs := rfl
@[simp] theorem State.updPp_clk (s : State) (p : Nat) (f : PtpPort → PtpPort) : (s.updPp p f).clk = s.clk := rfl
@[simp] theorem State.updPp_host (s : State) (p : Nat) (f : PtpPort → PtpPort) : (s.updPp p f).host = s.host := rfl
@[simp] theorem State.updPp_md (s : State) (p : Nat) (f : PtpPort → PtpPort) : (s.updPp p f).md = s.md := rfl
@[simp] theorem State.updPp_plan (s : State) (p : Nat) (f : PtpPort → PtpPort) : (s.updPp p f).plan = s.plan := rfl
@[simp] theorem State.updPp_loop (s : State) (p : Nat) (f : PtpPort → PtpPort) : (s.updPp p f).loop = s.loop := rfl
@[simp] theorem State.updPp_web (s : State) (p : Nat) (f : PtpPort → PtpPort) : (s.updPp p f).web = s.web := rfl
@[simp] theorem State.updPp_spar (s : State) (p : Nat) (f : PtpPort → PtpPort) : (s.updPp p f).spar = s.spar := rfl
@[simp] theorem State.updPp_pwm (s : State) (p : Nat) (f : PtpPort → PtpPort) : (s.updPp p f).pwm = s.pwm := rfl
@[simp] theorem State.updPp_adc (s : State) (p : Nat) (f : PtpPort → PtpPort) : (s.updPp p f).adc = s.adc := rfl
@[simp] theorem State.updPp_fbk (s : State) (p : Nat) (f : PtpPort → PtpPort) : (s.updPp p f).fbk = s.fbk := rfl
@[simp] theorem State.updPp_cap (s : State) (p : Nat) (f : PtpPort → PtpPort) : (s.updPp p f).cap = s.cap := rfl
@[simp] theorem State.updPp_shr (s : State) (p : Nat) (f : PtpPort → PtpPort) : (s.updPp p f).shr = s.shr := rfl
@[simp] theorem State.updPp_fld (s : State) (p : Nat) (f : PtpPort → PtpPort) : (s.updPp p f).fld = s.fld := rfl
@[simp] theorem State.updPp_pwr (s : State) (p : Nat) (f : PtpPort → PtpPort) : (s.updPp p f).pwr = s.pwr := rfl
@[simp] theorem State.updPp_img (s : State) (p : Nat) (f : PtpPort → PtpPort) : (s.updPp p f).img = s.img := rfl
@[simp] theorem State.updPp_dbg (s : State) (p : Nat) (f : PtpPort → PtpPort) : (s.updPp p f).dbg = s.dbg := rfl
@[simp] theorem State.updPp_hostMem (s : State) (p : Nat) (f : PtpPort → PtpPort) : (s.updPp p f).hostMem = s.hostMem := rfl
@[simp] theorem State.updPp_free (s : State) (p : Nat) (f : PtpPort → PtpPort) : (s.updPp p f).free = s.free := rfl
@[simp] theorem State.updPp_pending (s : State) (p : Nat) (f : PtpPort → PtpPort) : (s.updPp p f).pending = s.pending := rfl
@[simp] theorem State.updPp_reg (s : State) (p : Nat) (f : PtpPort → PtpPort) (r : Nat) : (s.updPp p f).reg r = s.reg r := rfl
@[simp] theorem State.updPp_get (s : State) (p : Nat) (f : PtpPort → PtpPort) (r : Fld) : (s.updPp p f).get r = s.get r := rfl

/-! ### updNet -/

@[simp] theorem State.updNet_regs (s : State) (f : NetSt → NetSt) : (s.updNet f).regs = s.regs := rfl
@[simp] theorem State.updNet_clk (s : State) (f : NetSt → NetSt) : (s.updNet f).clk = s.clk := rfl
@[simp] theorem State.updNet_host (s : State) (f : NetSt → NetSt) : (s.updNet f).host = s.host := rfl
@[simp] theorem State.updNet_md (s : State) (f : NetSt → NetSt) : (s.updNet f).md = s.md := rfl
@[simp] theorem State.updNet_plan (s : State) (f : NetSt → NetSt) : (s.updNet f).plan = s.plan := rfl
@[simp] theorem State.updNet_loop (s : State) (f : NetSt → NetSt) : (s.updNet f).loop = s.loop := rfl
@[simp] theorem State.updNet_web (s : State) (f : NetSt → NetSt) : (s.updNet f).web = s.web := rfl
@[simp] theorem State.updNet_spar (s : State) (f : NetSt → NetSt) : (s.updNet f).spar = s.spar := rfl
@[simp] theorem State.updNet_pwm (s : State) (f : NetSt → NetSt) : (s.updNet f).pwm = s.pwm := rfl
@[simp] theorem State.updNet_adc (s : State) (f : NetSt → NetSt) : (s.updNet f).adc = s.adc := rfl
@[simp] theorem State.updNet_fbk (s : State) (f : NetSt → NetSt) : (s.updNet f).fbk = s.fbk := rfl
@[simp] theorem State.updNet_cap (s : State) (f : NetSt → NetSt) : (s.updNet f).cap = s.cap := rfl
@[simp] theorem State.updNet_shr (s : State) (f : NetSt → NetSt) : (s.updNet f).shr = s.shr := rfl
@[simp] theorem State.updNet_fld (s : State) (f : NetSt → NetSt) : (s.updNet f).fld = s.fld := rfl
@[simp] theorem State.updNet_pwr (s : State) (f : NetSt → NetSt) : (s.updNet f).pwr = s.pwr := rfl
@[simp] theorem State.updNet_img (s : State) (f : NetSt → NetSt) : (s.updNet f).img = s.img := rfl
@[simp] theorem State.updNet_dbg (s : State) (f : NetSt → NetSt) : (s.updNet f).dbg = s.dbg := rfl
@[simp] theorem State.updNet_hostMem (s : State) (f : NetSt → NetSt) : (s.updNet f).hostMem = s.hostMem := rfl
@[simp] theorem State.updNet_free (s : State) (f : NetSt → NetSt) : (s.updNet f).free = s.free := rfl
@[simp] theorem State.updNet_pending (s : State) (f : NetSt → NetSt) : (s.updNet f).pending = s.pending := rfl
@[simp] theorem State.updNet_reg (s : State) (f : NetSt → NetSt) (r : Nat) : (s.updNet f).reg r = s.reg r := rfl
@[simp] theorem State.updNet_get (s : State) (f : NetSt → NetSt) (r : Fld) : (s.updNet f).get r = s.get r := rfl

/-! ### updNode -/

@[simp] theorem State.updNode_regs (s : State) (n : Nat) (f : Node → Node) : (s.updNode n f).regs = s.regs := rfl
@[simp] theorem State.updNode_clk (s : State) (n : Nat) (f : Node → Node) : (s.updNode n f).clk = s.clk := rfl
@[simp] theorem State.updNode_host (s : State) (n : Nat) (f : Node → Node) : (s.updNode n f).host = s.host := rfl
@[simp] theorem State.updNode_md (s : State) (n : Nat) (f : Node → Node) : (s.updNode n f).md = s.md := rfl
@[simp] theorem State.updNode_plan (s : State) (n : Nat) (f : Node → Node) : (s.updNode n f).plan = s.plan := rfl
@[simp] theorem State.updNode_loop (s : State) (n : Nat) (f : Node → Node) : (s.updNode n f).loop = s.loop := rfl
@[simp] theorem State.updNode_web (s : State) (n : Nat) (f : Node → Node) : (s.updNode n f).web = s.web := rfl
@[simp] theorem State.updNode_spar (s : State) (n : Nat) (f : Node → Node) : (s.updNode n f).spar = s.spar := rfl
@[simp] theorem State.updNode_pwm (s : State) (n : Nat) (f : Node → Node) : (s.updNode n f).pwm = s.pwm := rfl
@[simp] theorem State.updNode_adc (s : State) (n : Nat) (f : Node → Node) : (s.updNode n f).adc = s.adc := rfl
@[simp] theorem State.updNode_fbk (s : State) (n : Nat) (f : Node → Node) : (s.updNode n f).fbk = s.fbk := rfl
@[simp] theorem State.updNode_cap (s : State) (n : Nat) (f : Node → Node) : (s.updNode n f).cap = s.cap := rfl
@[simp] theorem State.updNode_shr (s : State) (n : Nat) (f : Node → Node) : (s.updNode n f).shr = s.shr := rfl
@[simp] theorem State.updNode_fld (s : State) (n : Nat) (f : Node → Node) : (s.updNode n f).fld = s.fld := rfl
@[simp] theorem State.updNode_pwr (s : State) (n : Nat) (f : Node → Node) : (s.updNode n f).pwr = s.pwr := rfl
@[simp] theorem State.updNode_img (s : State) (n : Nat) (f : Node → Node) : (s.updNode n f).img = s.img := rfl
@[simp] theorem State.updNode_dbg (s : State) (n : Nat) (f : Node → Node) : (s.updNode n f).dbg = s.dbg := rfl
@[simp] theorem State.updNode_hostMem (s : State) (n : Nat) (f : Node → Node) : (s.updNode n f).hostMem = s.hostMem := rfl
@[simp] theorem State.updNode_free (s : State) (n : Nat) (f : Node → Node) : (s.updNode n f).free = s.free := rfl
@[simp] theorem State.updNode_pending (s : State) (n : Nat) (f : Node → Node) : (s.updNode n f).pending = s.pending := rfl
@[simp] theorem State.updNode_reg (s : State) (n : Nat) (f : Node → Node) (r : Nat) : (s.updNode n f).reg r = s.reg r := rfl
@[simp] theorem State.updNode_get (s : State) (n : Nat) (f : Node → Node) (r : Fld) : (s.updNode n f).get r = s.get r := rfl

/-! ### updShr -/

@[simp] theorem State.updShr_regs (s : State) (f : ShrSt → ShrSt) : (s.updShr f).regs = s.regs := rfl
@[simp] theorem State.updShr_clk (s : State) (f : ShrSt → ShrSt) : (s.updShr f).clk = s.clk := rfl
@[simp] theorem State.updShr_host (s : State) (f : ShrSt → ShrSt) : (s.updShr f).host = s.host := rfl
@[simp] theorem State.updShr_md (s : State) (f : ShrSt → ShrSt) : (s.updShr f).md = s.md := rfl
@[simp] theorem State.updShr_plan (s : State) (f : ShrSt → ShrSt) : (s.updShr f).plan = s.plan := rfl
@[simp] theorem State.updShr_loop (s : State) (f : ShrSt → ShrSt) : (s.updShr f).loop = s.loop := rfl
@[simp] theorem State.updShr_web (s : State) (f : ShrSt → ShrSt) : (s.updShr f).web = s.web := rfl
@[simp] theorem State.updShr_spar (s : State) (f : ShrSt → ShrSt) : (s.updShr f).spar = s.spar := rfl
@[simp] theorem State.updShr_pwm (s : State) (f : ShrSt → ShrSt) : (s.updShr f).pwm = s.pwm := rfl
@[simp] theorem State.updShr_adc (s : State) (f : ShrSt → ShrSt) : (s.updShr f).adc = s.adc := rfl
@[simp] theorem State.updShr_fbk (s : State) (f : ShrSt → ShrSt) : (s.updShr f).fbk = s.fbk := rfl
@[simp] theorem State.updShr_cap (s : State) (f : ShrSt → ShrSt) : (s.updShr f).cap = s.cap := rfl
@[simp] theorem State.updShr_net (s : State) (f : ShrSt → ShrSt) : (s.updShr f).net = s.net := rfl
@[simp] theorem State.updShr_fld (s : State) (f : ShrSt → ShrSt) : (s.updShr f).fld = s.fld := rfl
@[simp] theorem State.updShr_pwr (s : State) (f : ShrSt → ShrSt) : (s.updShr f).pwr = s.pwr := rfl
@[simp] theorem State.updShr_img (s : State) (f : ShrSt → ShrSt) : (s.updShr f).img = s.img := rfl
@[simp] theorem State.updShr_dbg (s : State) (f : ShrSt → ShrSt) : (s.updShr f).dbg = s.dbg := rfl
@[simp] theorem State.updShr_hostMem (s : State) (f : ShrSt → ShrSt) : (s.updShr f).hostMem = s.hostMem := rfl
@[simp] theorem State.updShr_free (s : State) (f : ShrSt → ShrSt) : (s.updShr f).free = s.free := rfl
@[simp] theorem State.updShr_pending (s : State) (f : ShrSt → ShrSt) : (s.updShr f).pending = s.pending := rfl
@[simp] theorem State.updShr_reg (s : State) (f : ShrSt → ShrSt) (r : Nat) : (s.updShr f).reg r = s.reg r := rfl
@[simp] theorem State.updShr_get (s : State) (f : ShrSt → ShrSt) (r : Fld) : (s.updShr f).get r = s.get r := rfl

/-! ### updPairIn -/

@[simp] theorem State.updPairIn_regs (s : State) (p : Nat) (f : PairIn → PairIn) : (s.updPairIn p f).regs = s.regs := rfl
@[simp] theorem State.updPairIn_clk (s : State) (p : Nat) (f : PairIn → PairIn) : (s.updPairIn p f).clk = s.clk := rfl
@[simp] theorem State.updPairIn_host (s : State) (p : Nat) (f : PairIn → PairIn) : (s.updPairIn p f).host = s.host := rfl
@[simp] theorem State.updPairIn_md (s : State) (p : Nat) (f : PairIn → PairIn) : (s.updPairIn p f).md = s.md := rfl
@[simp] theorem State.updPairIn_plan (s : State) (p : Nat) (f : PairIn → PairIn) : (s.updPairIn p f).plan = s.plan := rfl
@[simp] theorem State.updPairIn_loop (s : State) (p : Nat) (f : PairIn → PairIn) : (s.updPairIn p f).loop = s.loop := rfl
@[simp] theorem State.updPairIn_web (s : State) (p : Nat) (f : PairIn → PairIn) : (s.updPairIn p f).web = s.web := rfl
@[simp] theorem State.updPairIn_spar (s : State) (p : Nat) (f : PairIn → PairIn) : (s.updPairIn p f).spar = s.spar := rfl
@[simp] theorem State.updPairIn_pwm (s : State) (p : Nat) (f : PairIn → PairIn) : (s.updPairIn p f).pwm = s.pwm := rfl
@[simp] theorem State.updPairIn_adc (s : State) (p : Nat) (f : PairIn → PairIn) : (s.updPairIn p f).adc = s.adc := rfl
@[simp] theorem State.updPairIn_fbk (s : State) (p : Nat) (f : PairIn → PairIn) : (s.updPairIn p f).fbk = s.fbk := rfl
@[simp] theorem State.updPairIn_cap (s : State) (p : Nat) (f : PairIn → PairIn) : (s.updPairIn p f).cap = s.cap := rfl
@[simp] theorem State.updPairIn_net (s : State) (p : Nat) (f : PairIn → PairIn) : (s.updPairIn p f).net = s.net := rfl
@[simp] theorem State.updPairIn_fld (s : State) (p : Nat) (f : PairIn → PairIn) : (s.updPairIn p f).fld = s.fld := rfl
@[simp] theorem State.updPairIn_pwr (s : State) (p : Nat) (f : PairIn → PairIn) : (s.updPairIn p f).pwr = s.pwr := rfl
@[simp] theorem State.updPairIn_img (s : State) (p : Nat) (f : PairIn → PairIn) : (s.updPairIn p f).img = s.img := rfl
@[simp] theorem State.updPairIn_dbg (s : State) (p : Nat) (f : PairIn → PairIn) : (s.updPairIn p f).dbg = s.dbg := rfl
@[simp] theorem State.updPairIn_hostMem (s : State) (p : Nat) (f : PairIn → PairIn) : (s.updPairIn p f).hostMem = s.hostMem := rfl
@[simp] theorem State.updPairIn_free (s : State) (p : Nat) (f : PairIn → PairIn) : (s.updPairIn p f).free = s.free := rfl
@[simp] theorem State.updPairIn_pending (s : State) (p : Nat) (f : PairIn → PairIn) : (s.updPairIn p f).pending = s.pending := rfl
@[simp] theorem State.updPairIn_reg (s : State) (p : Nat) (f : PairIn → PairIn) (r : Nat) : (s.updPairIn p f).reg r = s.reg r := rfl
@[simp] theorem State.updPairIn_get (s : State) (p : Nat) (f : PairIn → PairIn) (r : Fld) : (s.updPairIn p f).get r = s.get r := rfl

/-! ### updFn -/

@[simp] theorem State.updFn_regs (s : State) (k : Nat) (f : FnSt → FnSt) : (s.updFn k f).regs = s.regs := rfl
@[simp] theorem State.updFn_clk (s : State) (k : Nat) (f : FnSt → FnSt) : (s.updFn k f).clk = s.clk := rfl
@[simp] theorem State.updFn_host (s : State) (k : Nat) (f : FnSt → FnSt) : (s.updFn k f).host = s.host := rfl
@[simp] theorem State.updFn_md (s : State) (k : Nat) (f : FnSt → FnSt) : (s.updFn k f).md = s.md := rfl
@[simp] theorem State.updFn_plan (s : State) (k : Nat) (f : FnSt → FnSt) : (s.updFn k f).plan = s.plan := rfl
@[simp] theorem State.updFn_loop (s : State) (k : Nat) (f : FnSt → FnSt) : (s.updFn k f).loop = s.loop := rfl
@[simp] theorem State.updFn_web (s : State) (k : Nat) (f : FnSt → FnSt) : (s.updFn k f).web = s.web := rfl
@[simp] theorem State.updFn_spar (s : State) (k : Nat) (f : FnSt → FnSt) : (s.updFn k f).spar = s.spar := rfl
@[simp] theorem State.updFn_pwm (s : State) (k : Nat) (f : FnSt → FnSt) : (s.updFn k f).pwm = s.pwm := rfl
@[simp] theorem State.updFn_adc (s : State) (k : Nat) (f : FnSt → FnSt) : (s.updFn k f).adc = s.adc := rfl
@[simp] theorem State.updFn_fbk (s : State) (k : Nat) (f : FnSt → FnSt) : (s.updFn k f).fbk = s.fbk := rfl
@[simp] theorem State.updFn_cap (s : State) (k : Nat) (f : FnSt → FnSt) : (s.updFn k f).cap = s.cap := rfl
@[simp] theorem State.updFn_net (s : State) (k : Nat) (f : FnSt → FnSt) : (s.updFn k f).net = s.net := rfl
@[simp] theorem State.updFn_fld (s : State) (k : Nat) (f : FnSt → FnSt) : (s.updFn k f).fld = s.fld := rfl
@[simp] theorem State.updFn_pwr (s : State) (k : Nat) (f : FnSt → FnSt) : (s.updFn k f).pwr = s.pwr := rfl
@[simp] theorem State.updFn_img (s : State) (k : Nat) (f : FnSt → FnSt) : (s.updFn k f).img = s.img := rfl
@[simp] theorem State.updFn_dbg (s : State) (k : Nat) (f : FnSt → FnSt) : (s.updFn k f).dbg = s.dbg := rfl
@[simp] theorem State.updFn_hostMem (s : State) (k : Nat) (f : FnSt → FnSt) : (s.updFn k f).hostMem = s.hostMem := rfl
@[simp] theorem State.updFn_free (s : State) (k : Nat) (f : FnSt → FnSt) : (s.updFn k f).free = s.free := rfl
@[simp] theorem State.updFn_pending (s : State) (k : Nat) (f : FnSt → FnSt) : (s.updFn k f).pending = s.pending := rfl
@[simp] theorem State.updFn_reg (s : State) (k : Nat) (f : FnSt → FnSt) (r : Nat) : (s.updFn k f).reg r = s.reg r := rfl
@[simp] theorem State.updFn_get (s : State) (k : Nat) (f : FnSt → FnSt) (r : Fld) : (s.updFn k f).get r = s.get r := rfl

/-! ### updSa -/

@[simp] theorem State.updSa_regs (s : State) (a : Nat) (f : SafeAxis → SafeAxis) : (s.updSa a f).regs = s.regs := rfl
@[simp] theorem State.updSa_clk (s : State) (a : Nat) (f : SafeAxis → SafeAxis) : (s.updSa a f).clk = s.clk := rfl
@[simp] theorem State.updSa_host (s : State) (a : Nat) (f : SafeAxis → SafeAxis) : (s.updSa a f).host = s.host := rfl
@[simp] theorem State.updSa_md (s : State) (a : Nat) (f : SafeAxis → SafeAxis) : (s.updSa a f).md = s.md := rfl
@[simp] theorem State.updSa_plan (s : State) (a : Nat) (f : SafeAxis → SafeAxis) : (s.updSa a f).plan = s.plan := rfl
@[simp] theorem State.updSa_loop (s : State) (a : Nat) (f : SafeAxis → SafeAxis) : (s.updSa a f).loop = s.loop := rfl
@[simp] theorem State.updSa_web (s : State) (a : Nat) (f : SafeAxis → SafeAxis) : (s.updSa a f).web = s.web := rfl
@[simp] theorem State.updSa_spar (s : State) (a : Nat) (f : SafeAxis → SafeAxis) : (s.updSa a f).spar = s.spar := rfl
@[simp] theorem State.updSa_pwm (s : State) (a : Nat) (f : SafeAxis → SafeAxis) : (s.updSa a f).pwm = s.pwm := rfl
@[simp] theorem State.updSa_adc (s : State) (a : Nat) (f : SafeAxis → SafeAxis) : (s.updSa a f).adc = s.adc := rfl
@[simp] theorem State.updSa_fbk (s : State) (a : Nat) (f : SafeAxis → SafeAxis) : (s.updSa a f).fbk = s.fbk := rfl
@[simp] theorem State.updSa_cap (s : State) (a : Nat) (f : SafeAxis → SafeAxis) : (s.updSa a f).cap = s.cap := rfl
@[simp] theorem State.updSa_net (s : State) (a : Nat) (f : SafeAxis → SafeAxis) : (s.updSa a f).net = s.net := rfl
@[simp] theorem State.updSa_fld (s : State) (a : Nat) (f : SafeAxis → SafeAxis) : (s.updSa a f).fld = s.fld := rfl
@[simp] theorem State.updSa_pwr (s : State) (a : Nat) (f : SafeAxis → SafeAxis) : (s.updSa a f).pwr = s.pwr := rfl
@[simp] theorem State.updSa_img (s : State) (a : Nat) (f : SafeAxis → SafeAxis) : (s.updSa a f).img = s.img := rfl
@[simp] theorem State.updSa_dbg (s : State) (a : Nat) (f : SafeAxis → SafeAxis) : (s.updSa a f).dbg = s.dbg := rfl
@[simp] theorem State.updSa_hostMem (s : State) (a : Nat) (f : SafeAxis → SafeAxis) : (s.updSa a f).hostMem = s.hostMem := rfl
@[simp] theorem State.updSa_free (s : State) (a : Nat) (f : SafeAxis → SafeAxis) : (s.updSa a f).free = s.free := rfl
@[simp] theorem State.updSa_pending (s : State) (a : Nat) (f : SafeAxis → SafeAxis) : (s.updSa a f).pending = s.pending := rfl
@[simp] theorem State.updSa_reg (s : State) (a : Nat) (f : SafeAxis → SafeAxis) (r : Nat) : (s.updSa a f).reg r = s.reg r := rfl
@[simp] theorem State.updSa_get (s : State) (a : Nat) (f : SafeAxis → SafeAxis) (r : Fld) : (s.updSa a f).get r = s.get r := rfl

/-! ### updTse -/

@[simp] theorem State.updTse_regs (s : State) (c : Nat) (f : TseSt → TseSt) : (s.updTse c f).regs = s.regs := rfl
@[simp] theorem State.updTse_clk (s : State) (c : Nat) (f : TseSt → TseSt) : (s.updTse c f).clk = s.clk := rfl
@[simp] theorem State.updTse_host (s : State) (c : Nat) (f : TseSt → TseSt) : (s.updTse c f).host = s.host := rfl
@[simp] theorem State.updTse_md (s : State) (c : Nat) (f : TseSt → TseSt) : (s.updTse c f).md = s.md := rfl
@[simp] theorem State.updTse_plan (s : State) (c : Nat) (f : TseSt → TseSt) : (s.updTse c f).plan = s.plan := rfl
@[simp] theorem State.updTse_loop (s : State) (c : Nat) (f : TseSt → TseSt) : (s.updTse c f).loop = s.loop := rfl
@[simp] theorem State.updTse_web (s : State) (c : Nat) (f : TseSt → TseSt) : (s.updTse c f).web = s.web := rfl
@[simp] theorem State.updTse_spar (s : State) (c : Nat) (f : TseSt → TseSt) : (s.updTse c f).spar = s.spar := rfl
@[simp] theorem State.updTse_pwm (s : State) (c : Nat) (f : TseSt → TseSt) : (s.updTse c f).pwm = s.pwm := rfl
@[simp] theorem State.updTse_adc (s : State) (c : Nat) (f : TseSt → TseSt) : (s.updTse c f).adc = s.adc := rfl
@[simp] theorem State.updTse_fbk (s : State) (c : Nat) (f : TseSt → TseSt) : (s.updTse c f).fbk = s.fbk := rfl
@[simp] theorem State.updTse_cap (s : State) (c : Nat) (f : TseSt → TseSt) : (s.updTse c f).cap = s.cap := rfl
@[simp] theorem State.updTse_net (s : State) (c : Nat) (f : TseSt → TseSt) : (s.updTse c f).net = s.net := rfl
@[simp] theorem State.updTse_fld (s : State) (c : Nat) (f : TseSt → TseSt) : (s.updTse c f).fld = s.fld := rfl
@[simp] theorem State.updTse_pwr (s : State) (c : Nat) (f : TseSt → TseSt) : (s.updTse c f).pwr = s.pwr := rfl
@[simp] theorem State.updTse_img (s : State) (c : Nat) (f : TseSt → TseSt) : (s.updTse c f).img = s.img := rfl
@[simp] theorem State.updTse_dbg (s : State) (c : Nat) (f : TseSt → TseSt) : (s.updTse c f).dbg = s.dbg := rfl
@[simp] theorem State.updTse_hostMem (s : State) (c : Nat) (f : TseSt → TseSt) : (s.updTse c f).hostMem = s.hostMem := rfl
@[simp] theorem State.updTse_free (s : State) (c : Nat) (f : TseSt → TseSt) : (s.updTse c f).free = s.free := rfl
@[simp] theorem State.updTse_pending (s : State) (c : Nat) (f : TseSt → TseSt) : (s.updTse c f).pending = s.pending := rfl
@[simp] theorem State.updTse_reg (s : State) (c : Nat) (f : TseSt → TseSt) (r : Nat) : (s.updTse c f).reg r = s.reg r := rfl
@[simp] theorem State.updTse_get (s : State) (c : Nat) (f : TseSt → TseSt) (r : Fld) : (s.updTse c f).get r = s.get r := rfl

/-! ### updZone -/

@[simp] theorem State.updZone_regs (s : State) (z : Nat) (f : ZoneSt → ZoneSt) : (s.updZone z f).regs = s.regs := rfl
@[simp] theorem State.updZone_clk (s : State) (z : Nat) (f : ZoneSt → ZoneSt) : (s.updZone z f).clk = s.clk := rfl
@[simp] theorem State.updZone_host (s : State) (z : Nat) (f : ZoneSt → ZoneSt) : (s.updZone z f).host = s.host := rfl
@[simp] theorem State.updZone_md (s : State) (z : Nat) (f : ZoneSt → ZoneSt) : (s.updZone z f).md = s.md := rfl
@[simp] theorem State.updZone_plan (s : State) (z : Nat) (f : ZoneSt → ZoneSt) : (s.updZone z f).plan = s.plan := rfl
@[simp] theorem State.updZone_loop (s : State) (z : Nat) (f : ZoneSt → ZoneSt) : (s.updZone z f).loop = s.loop := rfl
@[simp] theorem State.updZone_web (s : State) (z : Nat) (f : ZoneSt → ZoneSt) : (s.updZone z f).web = s.web := rfl
@[simp] theorem State.updZone_spar (s : State) (z : Nat) (f : ZoneSt → ZoneSt) : (s.updZone z f).spar = s.spar := rfl
@[simp] theorem State.updZone_pwm (s : State) (z : Nat) (f : ZoneSt → ZoneSt) : (s.updZone z f).pwm = s.pwm := rfl
@[simp] theorem State.updZone_adc (s : State) (z : Nat) (f : ZoneSt → ZoneSt) : (s.updZone z f).adc = s.adc := rfl
@[simp] theorem State.updZone_fbk (s : State) (z : Nat) (f : ZoneSt → ZoneSt) : (s.updZone z f).fbk = s.fbk := rfl
@[simp] theorem State.updZone_cap (s : State) (z : Nat) (f : ZoneSt → ZoneSt) : (s.updZone z f).cap = s.cap := rfl
@[simp] theorem State.updZone_net (s : State) (z : Nat) (f : ZoneSt → ZoneSt) : (s.updZone z f).net = s.net := rfl
@[simp] theorem State.updZone_fld (s : State) (z : Nat) (f : ZoneSt → ZoneSt) : (s.updZone z f).fld = s.fld := rfl
@[simp] theorem State.updZone_pwr (s : State) (z : Nat) (f : ZoneSt → ZoneSt) : (s.updZone z f).pwr = s.pwr := rfl
@[simp] theorem State.updZone_img (s : State) (z : Nat) (f : ZoneSt → ZoneSt) : (s.updZone z f).img = s.img := rfl
@[simp] theorem State.updZone_dbg (s : State) (z : Nat) (f : ZoneSt → ZoneSt) : (s.updZone z f).dbg = s.dbg := rfl
@[simp] theorem State.updZone_hostMem (s : State) (z : Nat) (f : ZoneSt → ZoneSt) : (s.updZone z f).hostMem = s.hostMem := rfl
@[simp] theorem State.updZone_free (s : State) (z : Nat) (f : ZoneSt → ZoneSt) : (s.updZone z f).free = s.free := rfl
@[simp] theorem State.updZone_pending (s : State) (z : Nat) (f : ZoneSt → ZoneSt) : (s.updZone z f).pending = s.pending := rfl
@[simp] theorem State.updZone_reg (s : State) (z : Nat) (f : ZoneSt → ZoneSt) (r : Nat) : (s.updZone z f).reg r = s.reg r := rfl
@[simp] theorem State.updZone_get (s : State) (z : Nat) (f : ZoneSt → ZoneSt) (r : Fld) : (s.updZone z f).get r = s.get r := rfl

/-! ### updOut -/

@[simp] theorem State.updOut_regs (s : State) (q : Nat) (f : OutPair → OutPair) : (s.updOut q f).regs = s.regs := rfl
@[simp] theorem State.updOut_clk (s : State) (q : Nat) (f : OutPair → OutPair) : (s.updOut q f).clk = s.clk := rfl
@[simp] theorem State.updOut_host (s : State) (q : Nat) (f : OutPair → OutPair) : (s.updOut q f).host = s.host := rfl
@[simp] theorem State.updOut_md (s : State) (q : Nat) (f : OutPair → OutPair) : (s.updOut q f).md = s.md := rfl
@[simp] theorem State.updOut_plan (s : State) (q : Nat) (f : OutPair → OutPair) : (s.updOut q f).plan = s.plan := rfl
@[simp] theorem State.updOut_loop (s : State) (q : Nat) (f : OutPair → OutPair) : (s.updOut q f).loop = s.loop := rfl
@[simp] theorem State.updOut_web (s : State) (q : Nat) (f : OutPair → OutPair) : (s.updOut q f).web = s.web := rfl
@[simp] theorem State.updOut_spar (s : State) (q : Nat) (f : OutPair → OutPair) : (s.updOut q f).spar = s.spar := rfl
@[simp] theorem State.updOut_pwm (s : State) (q : Nat) (f : OutPair → OutPair) : (s.updOut q f).pwm = s.pwm := rfl
@[simp] theorem State.updOut_adc (s : State) (q : Nat) (f : OutPair → OutPair) : (s.updOut q f).adc = s.adc := rfl
@[simp] theorem State.updOut_fbk (s : State) (q : Nat) (f : OutPair → OutPair) : (s.updOut q f).fbk = s.fbk := rfl
@[simp] theorem State.updOut_cap (s : State) (q : Nat) (f : OutPair → OutPair) : (s.updOut q f).cap = s.cap := rfl
@[simp] theorem State.updOut_net (s : State) (q : Nat) (f : OutPair → OutPair) : (s.updOut q f).net = s.net := rfl
@[simp] theorem State.updOut_fld (s : State) (q : Nat) (f : OutPair → OutPair) : (s.updOut q f).fld = s.fld := rfl
@[simp] theorem State.updOut_pwr (s : State) (q : Nat) (f : OutPair → OutPair) : (s.updOut q f).pwr = s.pwr := rfl
@[simp] theorem State.updOut_img (s : State) (q : Nat) (f : OutPair → OutPair) : (s.updOut q f).img = s.img := rfl
@[simp] theorem State.updOut_dbg (s : State) (q : Nat) (f : OutPair → OutPair) : (s.updOut q f).dbg = s.dbg := rfl
@[simp] theorem State.updOut_hostMem (s : State) (q : Nat) (f : OutPair → OutPair) : (s.updOut q f).hostMem = s.hostMem := rfl
@[simp] theorem State.updOut_free (s : State) (q : Nat) (f : OutPair → OutPair) : (s.updOut q f).free = s.free := rfl
@[simp] theorem State.updOut_pending (s : State) (q : Nat) (f : OutPair → OutPair) : (s.updOut q f).pending = s.pending := rfl
@[simp] theorem State.updOut_reg (s : State) (q : Nat) (f : OutPair → OutPair) (r : Nat) : (s.updOut q f).reg r = s.reg r := rfl
@[simp] theorem State.updOut_get (s : State) (q : Nat) (f : OutPair → OutPair) (r : Fld) : (s.updOut q f).get r = s.get r := rfl

/-! ### updFld -/

@[simp] theorem State.updFld_regs (s : State) (f : FldSt → FldSt) : (s.updFld f).regs = s.regs := rfl
@[simp] theorem State.updFld_clk (s : State) (f : FldSt → FldSt) : (s.updFld f).clk = s.clk := rfl
@[simp] theorem State.updFld_host (s : State) (f : FldSt → FldSt) : (s.updFld f).host = s.host := rfl
@[simp] theorem State.updFld_md (s : State) (f : FldSt → FldSt) : (s.updFld f).md = s.md := rfl
@[simp] theorem State.updFld_plan (s : State) (f : FldSt → FldSt) : (s.updFld f).plan = s.plan := rfl
@[simp] theorem State.updFld_loop (s : State) (f : FldSt → FldSt) : (s.updFld f).loop = s.loop := rfl
@[simp] theorem State.updFld_web (s : State) (f : FldSt → FldSt) : (s.updFld f).web = s.web := rfl
@[simp] theorem State.updFld_spar (s : State) (f : FldSt → FldSt) : (s.updFld f).spar = s.spar := rfl
@[simp] theorem State.updFld_pwm (s : State) (f : FldSt → FldSt) : (s.updFld f).pwm = s.pwm := rfl
@[simp] theorem State.updFld_adc (s : State) (f : FldSt → FldSt) : (s.updFld f).adc = s.adc := rfl
@[simp] theorem State.updFld_fbk (s : State) (f : FldSt → FldSt) : (s.updFld f).fbk = s.fbk := rfl
@[simp] theorem State.updFld_cap (s : State) (f : FldSt → FldSt) : (s.updFld f).cap = s.cap := rfl
@[simp] theorem State.updFld_net (s : State) (f : FldSt → FldSt) : (s.updFld f).net = s.net := rfl
@[simp] theorem State.updFld_shr (s : State) (f : FldSt → FldSt) : (s.updFld f).shr = s.shr := rfl
@[simp] theorem State.updFld_pwr (s : State) (f : FldSt → FldSt) : (s.updFld f).pwr = s.pwr := rfl
@[simp] theorem State.updFld_img (s : State) (f : FldSt → FldSt) : (s.updFld f).img = s.img := rfl
@[simp] theorem State.updFld_dbg (s : State) (f : FldSt → FldSt) : (s.updFld f).dbg = s.dbg := rfl
@[simp] theorem State.updFld_hostMem (s : State) (f : FldSt → FldSt) : (s.updFld f).hostMem = s.hostMem := rfl
@[simp] theorem State.updFld_free (s : State) (f : FldSt → FldSt) : (s.updFld f).free = s.free := rfl
@[simp] theorem State.updFld_pending (s : State) (f : FldSt → FldSt) : (s.updFld f).pending = s.pending := rfl
@[simp] theorem State.updFld_reg (s : State) (f : FldSt → FldSt) (r : Nat) : (s.updFld f).reg r = s.reg r := rfl
@[simp] theorem State.updFld_get (s : State) (f : FldSt → FldSt) (r : Fld) : (s.updFld f).get r = s.get r := rfl

/-! ### updPwr -/

@[simp] theorem State.updPwr_regs (s : State) (f : PwrSt → PwrSt) : (s.updPwr f).regs = s.regs := rfl
@[simp] theorem State.updPwr_clk (s : State) (f : PwrSt → PwrSt) : (s.updPwr f).clk = s.clk := rfl
@[simp] theorem State.updPwr_host (s : State) (f : PwrSt → PwrSt) : (s.updPwr f).host = s.host := rfl
@[simp] theorem State.updPwr_md (s : State) (f : PwrSt → PwrSt) : (s.updPwr f).md = s.md := rfl
@[simp] theorem State.updPwr_plan (s : State) (f : PwrSt → PwrSt) : (s.updPwr f).plan = s.plan := rfl
@[simp] theorem State.updPwr_loop (s : State) (f : PwrSt → PwrSt) : (s.updPwr f).loop = s.loop := rfl
@[simp] theorem State.updPwr_web (s : State) (f : PwrSt → PwrSt) : (s.updPwr f).web = s.web := rfl
@[simp] theorem State.updPwr_spar (s : State) (f : PwrSt → PwrSt) : (s.updPwr f).spar = s.spar := rfl
@[simp] theorem State.updPwr_pwm (s : State) (f : PwrSt → PwrSt) : (s.updPwr f).pwm = s.pwm := rfl
@[simp] theorem State.updPwr_adc (s : State) (f : PwrSt → PwrSt) : (s.updPwr f).adc = s.adc := rfl
@[simp] theorem State.updPwr_fbk (s : State) (f : PwrSt → PwrSt) : (s.updPwr f).fbk = s.fbk := rfl
@[simp] theorem State.updPwr_cap (s : State) (f : PwrSt → PwrSt) : (s.updPwr f).cap = s.cap := rfl
@[simp] theorem State.updPwr_net (s : State) (f : PwrSt → PwrSt) : (s.updPwr f).net = s.net := rfl
@[simp] theorem State.updPwr_shr (s : State) (f : PwrSt → PwrSt) : (s.updPwr f).shr = s.shr := rfl
@[simp] theorem State.updPwr_fld (s : State) (f : PwrSt → PwrSt) : (s.updPwr f).fld = s.fld := rfl
@[simp] theorem State.updPwr_img (s : State) (f : PwrSt → PwrSt) : (s.updPwr f).img = s.img := rfl
@[simp] theorem State.updPwr_dbg (s : State) (f : PwrSt → PwrSt) : (s.updPwr f).dbg = s.dbg := rfl
@[simp] theorem State.updPwr_hostMem (s : State) (f : PwrSt → PwrSt) : (s.updPwr f).hostMem = s.hostMem := rfl
@[simp] theorem State.updPwr_free (s : State) (f : PwrSt → PwrSt) : (s.updPwr f).free = s.free := rfl
@[simp] theorem State.updPwr_pending (s : State) (f : PwrSt → PwrSt) : (s.updPwr f).pending = s.pending := rfl
@[simp] theorem State.updPwr_reg (s : State) (f : PwrSt → PwrSt) (r : Nat) : (s.updPwr f).reg r = s.reg r := rfl
@[simp] theorem State.updPwr_get (s : State) (f : PwrSt → PwrSt) (r : Fld) : (s.updPwr f).get r = s.get r := rfl

/-! ### updSensor -/

@[simp] theorem State.updSensor_regs (s : State) (k : Nat) (f : Sensor → Sensor) : (s.updSensor k f).regs = s.regs := rfl
@[simp] theorem State.updSensor_clk (s : State) (k : Nat) (f : Sensor → Sensor) : (s.updSensor k f).clk = s.clk := rfl
@[simp] theorem State.updSensor_host (s : State) (k : Nat) (f : Sensor → Sensor) : (s.updSensor k f).host = s.host := rfl
@[simp] theorem State.updSensor_md (s : State) (k : Nat) (f : Sensor → Sensor) : (s.updSensor k f).md = s.md := rfl
@[simp] theorem State.updSensor_plan (s : State) (k : Nat) (f : Sensor → Sensor) : (s.updSensor k f).plan = s.plan := rfl
@[simp] theorem State.updSensor_loop (s : State) (k : Nat) (f : Sensor → Sensor) : (s.updSensor k f).loop = s.loop := rfl
@[simp] theorem State.updSensor_web (s : State) (k : Nat) (f : Sensor → Sensor) : (s.updSensor k f).web = s.web := rfl
@[simp] theorem State.updSensor_spar (s : State) (k : Nat) (f : Sensor → Sensor) : (s.updSensor k f).spar = s.spar := rfl
@[simp] theorem State.updSensor_pwm (s : State) (k : Nat) (f : Sensor → Sensor) : (s.updSensor k f).pwm = s.pwm := rfl
@[simp] theorem State.updSensor_adc (s : State) (k : Nat) (f : Sensor → Sensor) : (s.updSensor k f).adc = s.adc := rfl
@[simp] theorem State.updSensor_fbk (s : State) (k : Nat) (f : Sensor → Sensor) : (s.updSensor k f).fbk = s.fbk := rfl
@[simp] theorem State.updSensor_cap (s : State) (k : Nat) (f : Sensor → Sensor) : (s.updSensor k f).cap = s.cap := rfl
@[simp] theorem State.updSensor_net (s : State) (k : Nat) (f : Sensor → Sensor) : (s.updSensor k f).net = s.net := rfl
@[simp] theorem State.updSensor_shr (s : State) (k : Nat) (f : Sensor → Sensor) : (s.updSensor k f).shr = s.shr := rfl
@[simp] theorem State.updSensor_fld (s : State) (k : Nat) (f : Sensor → Sensor) : (s.updSensor k f).fld = s.fld := rfl
@[simp] theorem State.updSensor_img (s : State) (k : Nat) (f : Sensor → Sensor) : (s.updSensor k f).img = s.img := rfl
@[simp] theorem State.updSensor_dbg (s : State) (k : Nat) (f : Sensor → Sensor) : (s.updSensor k f).dbg = s.dbg := rfl
@[simp] theorem State.updSensor_hostMem (s : State) (k : Nat) (f : Sensor → Sensor) : (s.updSensor k f).hostMem = s.hostMem := rfl
@[simp] theorem State.updSensor_free (s : State) (k : Nat) (f : Sensor → Sensor) : (s.updSensor k f).free = s.free := rfl
@[simp] theorem State.updSensor_pending (s : State) (k : Nat) (f : Sensor → Sensor) : (s.updSensor k f).pending = s.pending := rfl
@[simp] theorem State.updSensor_reg (s : State) (k : Nat) (f : Sensor → Sensor) (r : Nat) : (s.updSensor k f).reg r = s.reg r := rfl
@[simp] theorem State.updSensor_get (s : State) (k : Nat) (f : Sensor → Sensor) (r : Fld) : (s.updSensor k f).get r = s.get r := rfl

/-! ### updImg -/

@[simp] theorem State.updImg_regs (s : State) (f : ImgSt → ImgSt) : (s.updImg f).regs = s.regs := rfl
@[simp] theorem State.updImg_clk (s : State) (f : ImgSt → ImgSt) : (s.updImg f).clk = s.clk := rfl
@[simp] theorem State.updImg_host (s : State) (f : ImgSt → ImgSt) : (s.updImg f).host = s.host := rfl
@[simp] theorem State.updImg_md (s : State) (f : ImgSt → ImgSt) : (s.updImg f).md = s.md := rfl
@[simp] theorem State.updImg_plan (s : State) (f : ImgSt → ImgSt) : (s.updImg f).plan = s.plan := rfl
@[simp] theorem State.updImg_loop (s : State) (f : ImgSt → ImgSt) : (s.updImg f).loop = s.loop := rfl
@[simp] theorem State.updImg_web (s : State) (f : ImgSt → ImgSt) : (s.updImg f).web = s.web := rfl
@[simp] theorem State.updImg_spar (s : State) (f : ImgSt → ImgSt) : (s.updImg f).spar = s.spar := rfl
@[simp] theorem State.updImg_pwm (s : State) (f : ImgSt → ImgSt) : (s.updImg f).pwm = s.pwm := rfl
@[simp] theorem State.updImg_adc (s : State) (f : ImgSt → ImgSt) : (s.updImg f).adc = s.adc := rfl
@[simp] theorem State.updImg_fbk (s : State) (f : ImgSt → ImgSt) : (s.updImg f).fbk = s.fbk := rfl
@[simp] theorem State.updImg_cap (s : State) (f : ImgSt → ImgSt) : (s.updImg f).cap = s.cap := rfl
@[simp] theorem State.updImg_net (s : State) (f : ImgSt → ImgSt) : (s.updImg f).net = s.net := rfl
@[simp] theorem State.updImg_shr (s : State) (f : ImgSt → ImgSt) : (s.updImg f).shr = s.shr := rfl
@[simp] theorem State.updImg_fld (s : State) (f : ImgSt → ImgSt) : (s.updImg f).fld = s.fld := rfl
@[simp] theorem State.updImg_pwr (s : State) (f : ImgSt → ImgSt) : (s.updImg f).pwr = s.pwr := rfl
@[simp] theorem State.updImg_dbg (s : State) (f : ImgSt → ImgSt) : (s.updImg f).dbg = s.dbg := rfl
@[simp] theorem State.updImg_hostMem (s : State) (f : ImgSt → ImgSt) : (s.updImg f).hostMem = s.hostMem := rfl
@[simp] theorem State.updImg_free (s : State) (f : ImgSt → ImgSt) : (s.updImg f).free = s.free := rfl
@[simp] theorem State.updImg_pending (s : State) (f : ImgSt → ImgSt) : (s.updImg f).pending = s.pending := rfl
@[simp] theorem State.updImg_reg (s : State) (f : ImgSt → ImgSt) (r : Nat) : (s.updImg f).reg r = s.reg r := rfl
@[simp] theorem State.updImg_get (s : State) (f : ImgSt → ImgSt) (r : Fld) : (s.updImg f).get r = s.get r := rfl

/-! ### updEimg -/

@[simp] theorem State.updEimg_regs (s : State) (e : Nat) (f : EngImg → EngImg) : (s.updEimg e f).regs = s.regs := rfl
@[simp] theorem State.updEimg_clk (s : State) (e : Nat) (f : EngImg → EngImg) : (s.updEimg e f).clk = s.clk := rfl
@[simp] theorem State.updEimg_host (s : State) (e : Nat) (f : EngImg → EngImg) : (s.updEimg e f).host = s.host := rfl
@[simp] theorem State.updEimg_md (s : State) (e : Nat) (f : EngImg → EngImg) : (s.updEimg e f).md = s.md := rfl
@[simp] theorem State.updEimg_plan (s : State) (e : Nat) (f : EngImg → EngImg) : (s.updEimg e f).plan = s.plan := rfl
@[simp] theorem State.updEimg_loop (s : State) (e : Nat) (f : EngImg → EngImg) : (s.updEimg e f).loop = s.loop := rfl
@[simp] theorem State.updEimg_web (s : State) (e : Nat) (f : EngImg → EngImg) : (s.updEimg e f).web = s.web := rfl
@[simp] theorem State.updEimg_spar (s : State) (e : Nat) (f : EngImg → EngImg) : (s.updEimg e f).spar = s.spar := rfl
@[simp] theorem State.updEimg_pwm (s : State) (e : Nat) (f : EngImg → EngImg) : (s.updEimg e f).pwm = s.pwm := rfl
@[simp] theorem State.updEimg_adc (s : State) (e : Nat) (f : EngImg → EngImg) : (s.updEimg e f).adc = s.adc := rfl
@[simp] theorem State.updEimg_fbk (s : State) (e : Nat) (f : EngImg → EngImg) : (s.updEimg e f).fbk = s.fbk := rfl
@[simp] theorem State.updEimg_cap (s : State) (e : Nat) (f : EngImg → EngImg) : (s.updEimg e f).cap = s.cap := rfl
@[simp] theorem State.updEimg_net (s : State) (e : Nat) (f : EngImg → EngImg) : (s.updEimg e f).net = s.net := rfl
@[simp] theorem State.updEimg_shr (s : State) (e : Nat) (f : EngImg → EngImg) : (s.updEimg e f).shr = s.shr := rfl
@[simp] theorem State.updEimg_fld (s : State) (e : Nat) (f : EngImg → EngImg) : (s.updEimg e f).fld = s.fld := rfl
@[simp] theorem State.updEimg_pwr (s : State) (e : Nat) (f : EngImg → EngImg) : (s.updEimg e f).pwr = s.pwr := rfl
@[simp] theorem State.updEimg_dbg (s : State) (e : Nat) (f : EngImg → EngImg) : (s.updEimg e f).dbg = s.dbg := rfl
@[simp] theorem State.updEimg_hostMem (s : State) (e : Nat) (f : EngImg → EngImg) : (s.updEimg e f).hostMem = s.hostMem := rfl
@[simp] theorem State.updEimg_free (s : State) (e : Nat) (f : EngImg → EngImg) : (s.updEimg e f).free = s.free := rfl
@[simp] theorem State.updEimg_pending (s : State) (e : Nat) (f : EngImg → EngImg) : (s.updEimg e f).pending = s.pending := rfl
@[simp] theorem State.updEimg_reg (s : State) (e : Nat) (f : EngImg → EngImg) (r : Nat) : (s.updEimg e f).reg r = s.reg r := rfl
@[simp] theorem State.updEimg_get (s : State) (e : Nat) (f : EngImg → EngImg) (r : Fld) : (s.updEimg e f).get r = s.get r := rfl

/-! ### updDbg -/

@[simp] theorem State.updDbg_regs (s : State) (f : DbgSt → DbgSt) : (s.updDbg f).regs = s.regs := rfl
@[simp] theorem State.updDbg_clk (s : State) (f : DbgSt → DbgSt) : (s.updDbg f).clk = s.clk := rfl
@[simp] theorem State.updDbg_host (s : State) (f : DbgSt → DbgSt) : (s.updDbg f).host = s.host := rfl
@[simp] theorem State.updDbg_md (s : State) (f : DbgSt → DbgSt) : (s.updDbg f).md = s.md := rfl
@[simp] theorem State.updDbg_plan (s : State) (f : DbgSt → DbgSt) : (s.updDbg f).plan = s.plan := rfl
@[simp] theorem State.updDbg_loop (s : State) (f : DbgSt → DbgSt) : (s.updDbg f).loop = s.loop := rfl
@[simp] theorem State.updDbg_web (s : State) (f : DbgSt → DbgSt) : (s.updDbg f).web = s.web := rfl
@[simp] theorem State.updDbg_spar (s : State) (f : DbgSt → DbgSt) : (s.updDbg f).spar = s.spar := rfl
@[simp] theorem State.updDbg_pwm (s : State) (f : DbgSt → DbgSt) : (s.updDbg f).pwm = s.pwm := rfl
@[simp] theorem State.updDbg_adc (s : State) (f : DbgSt → DbgSt) : (s.updDbg f).adc = s.adc := rfl
@[simp] theorem State.updDbg_fbk (s : State) (f : DbgSt → DbgSt) : (s.updDbg f).fbk = s.fbk := rfl
@[simp] theorem State.updDbg_cap (s : State) (f : DbgSt → DbgSt) : (s.updDbg f).cap = s.cap := rfl
@[simp] theorem State.updDbg_net (s : State) (f : DbgSt → DbgSt) : (s.updDbg f).net = s.net := rfl
@[simp] theorem State.updDbg_shr (s : State) (f : DbgSt → DbgSt) : (s.updDbg f).shr = s.shr := rfl
@[simp] theorem State.updDbg_fld (s : State) (f : DbgSt → DbgSt) : (s.updDbg f).fld = s.fld := rfl
@[simp] theorem State.updDbg_pwr (s : State) (f : DbgSt → DbgSt) : (s.updDbg f).pwr = s.pwr := rfl
@[simp] theorem State.updDbg_img (s : State) (f : DbgSt → DbgSt) : (s.updDbg f).img = s.img := rfl
@[simp] theorem State.updDbg_hostMem (s : State) (f : DbgSt → DbgSt) : (s.updDbg f).hostMem = s.hostMem := rfl
@[simp] theorem State.updDbg_free (s : State) (f : DbgSt → DbgSt) : (s.updDbg f).free = s.free := rfl
@[simp] theorem State.updDbg_pending (s : State) (f : DbgSt → DbgSt) : (s.updDbg f).pending = s.pending := rfl
@[simp] theorem State.updDbg_reg (s : State) (f : DbgSt → DbgSt) (r : Nat) : (s.updDbg f).reg r = s.reg r := rfl
@[simp] theorem State.updDbg_get (s : State) (f : DbgSt → DbgSt) (r : Fld) : (s.updDbg f).get r = s.get r := rfl

/-! ### updMd -/

@[simp] theorem State.updMd_regs (s : State) (f : ModeSt → ModeSt) : (s.updMd f).regs = s.regs := rfl
@[simp] theorem State.updMd_clk (s : State) (f : ModeSt → ModeSt) : (s.updMd f).clk = s.clk := rfl
@[simp] theorem State.updMd_host (s : State) (f : ModeSt → ModeSt) : (s.updMd f).host = s.host := rfl
@[simp] theorem State.updMd_plan (s : State) (f : ModeSt → ModeSt) : (s.updMd f).plan = s.plan := rfl
@[simp] theorem State.updMd_loop (s : State) (f : ModeSt → ModeSt) : (s.updMd f).loop = s.loop := rfl
@[simp] theorem State.updMd_web (s : State) (f : ModeSt → ModeSt) : (s.updMd f).web = s.web := rfl
@[simp] theorem State.updMd_spar (s : State) (f : ModeSt → ModeSt) : (s.updMd f).spar = s.spar := rfl
@[simp] theorem State.updMd_pwm (s : State) (f : ModeSt → ModeSt) : (s.updMd f).pwm = s.pwm := rfl
@[simp] theorem State.updMd_adc (s : State) (f : ModeSt → ModeSt) : (s.updMd f).adc = s.adc := rfl
@[simp] theorem State.updMd_fbk (s : State) (f : ModeSt → ModeSt) : (s.updMd f).fbk = s.fbk := rfl
@[simp] theorem State.updMd_cap (s : State) (f : ModeSt → ModeSt) : (s.updMd f).cap = s.cap := rfl
@[simp] theorem State.updMd_net (s : State) (f : ModeSt → ModeSt) : (s.updMd f).net = s.net := rfl
@[simp] theorem State.updMd_shr (s : State) (f : ModeSt → ModeSt) : (s.updMd f).shr = s.shr := rfl
@[simp] theorem State.updMd_fld (s : State) (f : ModeSt → ModeSt) : (s.updMd f).fld = s.fld := rfl
@[simp] theorem State.updMd_pwr (s : State) (f : ModeSt → ModeSt) : (s.updMd f).pwr = s.pwr := rfl
@[simp] theorem State.updMd_img (s : State) (f : ModeSt → ModeSt) : (s.updMd f).img = s.img := rfl
@[simp] theorem State.updMd_dbg (s : State) (f : ModeSt → ModeSt) : (s.updMd f).dbg = s.dbg := rfl
@[simp] theorem State.updMd_hostMem (s : State) (f : ModeSt → ModeSt) : (s.updMd f).hostMem = s.hostMem := rfl
@[simp] theorem State.updMd_free (s : State) (f : ModeSt → ModeSt) : (s.updMd f).free = s.free := rfl
@[simp] theorem State.updMd_pending (s : State) (f : ModeSt → ModeSt) : (s.updMd f).pending = s.pending := rfl
@[simp] theorem State.updMd_reg (s : State) (f : ModeSt → ModeSt) (r : Nat) : (s.updMd f).reg r = s.reg r := rfl
@[simp] theorem State.updMd_get (s : State) (f : ModeSt → ModeSt) (r : Fld) : (s.updMd f).get r = s.get r := rfl

/-! ### Reading what was just changed -/

@[simp] theorem State.ring_updRing_same (s : State) (n : Nat) (f : Ring → Ring) :
    (s.updRing n f).ring n = f (s.ring n) := Table.look_upd_same _ n f _
theorem State.ring_updRing_other (s : State) {n m : Nat} (f : Ring → Ring) (h : m ≠ n) :
    (s.updRing n f).ring m = s.ring m :=
  Table.look_upd_other _ _ h f _
@[simp] theorem State.axis_updAxis_same (s : State) (n : Nat) (f : AxisP → AxisP) :
    (s.updAxis n f).axis n = f (s.axis n) := Table.look_upd_same _ n f _
theorem State.axis_updAxis_other (s : State) {n m : Nat} (f : AxisP → AxisP) (h : m ≠ n) :
    (s.updAxis n f).axis m = s.axis m :=
  Table.look_upd_other _ _ h f _
@[simp] theorem State.grp_updGrp_same (s : State) (n : Nat) (f : GroupP → GroupP) :
    (s.updGrp n f).grp n = f (s.grp n) := Table.look_upd_same _ n f _
theorem State.grp_updGrp_other (s : State) {n m : Nat} (f : GroupP → GroupP) (h : m ≠ n) :
    (s.updGrp n f).grp m = s.grp m :=
  Table.look_upd_other _ _ h f _
@[simp] theorem State.eng_updEng_same (s : State) (n : Nat) (f : Eng → Eng) :
    (s.updEng n f).eng n = f (s.eng n) := Table.look_upd_same _ n f _
theorem State.eng_updEng_other (s : State) {n m : Nat} (f : Eng → Eng) (h : m ≠ n) :
    (s.updEng n f).eng m = s.eng m :=
  Table.look_upd_other _ _ h f _
@[simp] theorem State.axisL_updAxisL_same (s : State) (n : Nat) (f : AxisL → AxisL) :
    (s.updAxisL n f).axisL n = f (s.axisL n) := Table.look_upd_same _ n f _
theorem State.axisL_updAxisL_other (s : State) {n m : Nat} (f : AxisL → AxisL) (h : m ≠ n) :
    (s.updAxisL n f).axisL m = s.axisL m :=
  Table.look_upd_other _ _ h f _
@[simp] theorem State.roll_updRoll_same (s : State) (n : Nat) (f : RollSt → RollSt) :
    (s.updRoll n f).roll n = f (s.roll n) := Table.look_upd_same _ n f _
theorem State.roll_updRoll_other (s : State) {n m : Nat} (f : RollSt → RollSt) (h : m ≠ n) :
    (s.updRoll n f).roll m = s.roll m :=
  Table.look_upd_other _ _ h f _
@[simp] theorem State.span_updSpan_same (s : State) (n : Nat) (f : SpanSt → SpanSt) :
    (s.updSpan n f).span n = f (s.span n) := Table.look_upd_same _ n f _
theorem State.span_updSpan_other (s : State) {n m : Nat} (f : SpanSt → SpanSt) (h : m ≠ n) :
    (s.updSpan n f).span m = s.span m :=
  Table.look_upd_other _ _ h f _
@[simp] theorem State.winder_updWinder_same (s : State) (n : Nat) (f : WinderSt → WinderSt) :
    (s.updWinder n f).winder n = f (s.winder n) := Table.look_upd_same _ n f _
theorem State.winder_updWinder_other (s : State) {n m : Nat} (f : WinderSt → WinderSt) (h : m ≠ n) :
    (s.updWinder n f).winder m = s.winder m :=
  Table.look_upd_other _ _ h f _
@[simp] theorem State.slot_updSlot_same (s : State) (n : Nat) (f : SlotSt → SlotSt) :
    (s.updSlot n f).slot n = f (s.slot n) := Table.look_upd_same _ n f _
theorem State.slot_updSlot_other (s : State) {n m : Nat} (f : SlotSt → SlotSt) (h : m ≠ n) :
    (s.updSlot n f).slot m = s.slot m :=
  Table.look_upd_other _ _ h f _
@[simp] theorem State.fb_updFb_same (s : State) (n : Nat) (f : FbSt → FbSt) : (s.updFb n f).fb n = f (s.fb n) := Table.look_upd_same _ n f _
theorem State.fb_updFb_other (s : State) {n m : Nat} (f : FbSt → FbSt) (h : m ≠ n) :
    (s.updFb n f).fb m = s.fb m :=
  Table.look_upd_other _ _ h f _
@[simp] theorem State.lat_updLat_same (s : State) (n : Nat) (f : LatSt → LatSt) :
    (s.updLat n f).lat n = f (s.lat n) := Table.look_upd_same _ n f _
theorem State.lat_updLat_other (s : State) {n m : Nat} (f : LatSt → LatSt) (h : m ≠ n) :
    (s.updLat n f).lat m = s.lat m :=
  Table.look_upd_other _ _ h f _
@[simp] theorem State.conv_updConv_same (s : State) (n : Nat) (f : ConvSt → ConvSt) :
    (s.updConv n f).conv n = f (s.conv n) := Table.look_upd_same _ n f _
theorem State.conv_updConv_other (s : State) {n m : Nat} (f : ConvSt → ConvSt) (h : m ≠ n) :
    (s.updConv n f).conv m = s.conv m :=
  Table.look_upd_other _ _ h f _
@[simp] theorem State.cu_updCu_same (s : State) (n : Nat) (f : CapUnit → CapUnit) :
    (s.updCu n f).cu n = f (s.cu n) := Table.look_upd_same _ n f _
theorem State.cu_updCu_other (s : State) {n m : Nat} (f : CapUnit → CapUnit) (h : m ≠ n) :
    (s.updCu n f).cu m = s.cu m :=
  Table.look_upd_other _ _ h f _
@[simp] theorem State.node_updNode_same (s : State) (n : Nat) (f : Node → Node) :
    (s.updNode n f).node n = f (s.node n) := Table.look_upd_same _ n f _
theorem State.node_updNode_other (s : State) {n m : Nat} (f : Node → Node) (h : m ≠ n) :
    (s.updNode n f).node m = s.node m :=
  Table.look_upd_other _ _ h f _
@[simp] theorem State.fn_updFn_same (s : State) (n : Nat) (f : FnSt → FnSt) : (s.updFn n f).fn n = f (s.fn n) := Table.look_upd_same _ n f _
theorem State.fn_updFn_other (s : State) {n m : Nat} (f : FnSt → FnSt) (h : m ≠ n) :
    (s.updFn n f).fn m = s.fn m :=
  Table.look_upd_other _ _ h f _
@[simp] theorem State.sa_updSa_same (s : State) (n : Nat) (f : SafeAxis → SafeAxis) :
    (s.updSa n f).sa n = f (s.sa n) := Table.look_upd_same _ n f _
theorem State.sa_updSa_other (s : State) {n m : Nat} (f : SafeAxis → SafeAxis) (h : m ≠ n) :
    (s.updSa n f).sa m = s.sa m :=
  Table.look_upd_other _ _ h f _
@[simp] theorem State.tseC_updTse_same (s : State) (n : Nat) (f : TseSt → TseSt) :
    (s.updTse n f).tseC n = f (s.tseC n) := Table.look_upd_same _ n f _
theorem State.tseC_updTse_other (s : State) {n m : Nat} (f : TseSt → TseSt) (h : m ≠ n) :
    (s.updTse n f).tseC m = s.tseC m :=
  Table.look_upd_other _ _ h f _
@[simp] theorem State.zone_updZone_same (s : State) (n : Nat) (f : ZoneSt → ZoneSt) :
    (s.updZone n f).zone n = f (s.zone n) := Table.look_upd_same _ n f _
theorem State.zone_updZone_other (s : State) {n m : Nat} (f : ZoneSt → ZoneSt) (h : m ≠ n) :
    (s.updZone n f).zone m = s.zone m :=
  Table.look_upd_other _ _ h f _
@[simp] theorem State.outP_updOut_same (s : State) (n : Nat) (f : OutPair → OutPair) :
    (s.updOut n f).outP n = f (s.outP n) := Table.look_upd_same _ n f _
theorem State.outP_updOut_other (s : State) {n m : Nat} (f : OutPair → OutPair) (h : m ≠ n) :
    (s.updOut n f).outP m = s.outP m :=
  Table.look_upd_other _ _ h f _
@[simp] theorem State.pairIn_updPairIn_same (s : State) (n : Nat) (f : PairIn → PairIn) :
    (s.updPairIn n f).pairIn n = f (s.pairIn n) := Table.look_upd_same _ n f _
theorem State.pairIn_updPairIn_other (s : State) {n m : Nat} (f : PairIn → PairIn) (h : m ≠ n) :
    (s.updPairIn n f).pairIn m = s.pairIn m :=
  Table.look_upd_other _ _ h f _
@[simp] theorem State.sensor_updSensor_same (s : State) (n : Nat) (f : Sensor → Sensor) :
    (s.updSensor n f).sensor n = f (s.sensor n) := Table.look_upd_same _ n f _
theorem State.sensor_updSensor_other (s : State) {n m : Nat} (f : Sensor → Sensor) (h : m ≠ n) :
    (s.updSensor n f).sensor m = s.sensor m :=
  Table.look_upd_other _ _ h f _
@[simp] theorem State.eimg_updEimg_same (s : State) (n : Nat) (f : EngImg → EngImg) :
    (s.updEimg n f).eimg n = f (s.eimg n) := Table.look_upd_same _ n f _
theorem State.eimg_updEimg_other (s : State) {n m : Nat} (f : EngImg → EngImg) (h : m ≠ n) :
    (s.updEimg n f).eimg m = s.eimg m :=
  Table.look_upd_other _ _ h f _

end Sys2Proof.Machine
end

