-- ==== Sys2Proof/Laws/Desc.lean ====
section
/-!
SUPPORT. Descriptors: what the fetch of a descriptor that its ring accepts does, and what writing a completion leaves alone.
-/
namespace Sys2Proof.Machine

set_option Elab.async false

/-- The reply of an applied descriptor, with its clamped words and its reserved bits counted. -/
def Reply.counted (r : Reply) (opcode : Nat) (d : Desc) : Reply :=
  { r with clamps := r.clamps ||| rsvMask d (match opInfo opcode with | some x => x.2.2 | none => []) ||| (if d.rsv then 1 else 0) }

/-- A descriptor that its ring accepts is applied to the fetched state, and its completion is written. -/
theorem runDesc_accepts {opcode : Nat} {d : Desc} {s : State} (op : Op) (h : Accepts s opcode d) :
    runDesc opcode op d s =
      stepEvents s (complete d.ring.val d 0 ((op d (s.fetched d)).2.counted opcode d) false (op d (s.fetched d)).1) := by
  obtain ⟨h1, h2, h3, h4, ⟨lo, hi, m⟩, h5, h6, h7⟩ := h
  have hl : ¬(d.len.val < lo ∨ hi < d.len.val) := by simp only at h6 h7; omega
  have hm : ¬((s.fetched d).mode = mQuarantine ∧ opcode / 256 ≠ 0 ∧ opcode / 256 ≠ 4) := by
    have e : (s.fetched d).mode = s.mode := by
      have h : F.glbMode_MODE_ACT.a ≠ A.hriRingHead d.ring.val := by simp only [F.glbMode_MODE_ACT, A.glbMode, A.hriRingHead]; omega
      simp only [State.fetched, State.mode]
      unfold State.get
      rw [State.reg_setReg_other _ _ h]
      rfl
    rw [e]; rintro ⟨a, b, c⟩; rcases h4 a with h | h
    · exact b h
    · exact c h
  have hc : closeOpen d.ring.val opcode d (s.fetched d) = s.fetched d := by
    have e : Table.look none (s.fetched d).plan.opens d.ring.val = none := h3
    simp only [closeOpen, e]
  unfold runDesc
  simp only [h1, Bool.not_true, Bool.false_eq_true, if_false]
  rw [h2]
  simp only [Option.isSome_none, Bool.false_eq_true, if_false]
  show stepEvents s (applyDesc opcode op false d (s.fetched d)) = _
  simp only [applyDesc, hc, h5, if_neg hl, if_neg hm, Reply.counted]

/-! ## Writing a record to a ring -/

@[simp] theorem ringPut_regs (n a : Nat) (b : List Byte) (s : State) : (ringPut n a b s).regs = s.regs := rfl
@[simp] theorem ringPut_clk (n a : Nat) (b : List Byte) (s : State) : (ringPut n a b s).clk = s.clk := rfl
@[simp] theorem ringPut_md (n a : Nat) (b : List Byte) (s : State) : (ringPut n a b s).md = s.md := rfl
@[simp] theorem ringPut_plan (n a : Nat) (b : List Byte) (s : State) : (ringPut n a b s).plan = s.plan := rfl
@[simp] theorem ringPut_loop (n a : Nat) (b : List Byte) (s : State) : (ringPut n a b s).loop = s.loop := rfl
@[simp] theorem ringPut_web (n a : Nat) (b : List Byte) (s : State) : (ringPut n a b s).web = s.web := rfl
@[simp] theorem ringPut_spar (n a : Nat) (b : List Byte) (s : State) : (ringPut n a b s).spar = s.spar := rfl
@[simp] theorem ringPut_pwm (n a : Nat) (b : List Byte) (s : State) : (ringPut n a b s).pwm = s.pwm := rfl
@[simp] theorem ringPut_adc (n a : Nat) (b : List Byte) (s : State) : (ringPut n a b s).adc = s.adc := rfl
@[simp] theorem ringPut_fbk (n a : Nat) (b : List Byte) (s : State) : (ringPut n a b s).fbk = s.fbk := rfl
@[simp] theorem ringPut_cap (n a : Nat) (b : List Byte) (s : State) : (ringPut n a b s).cap = s.cap := rfl
@[simp] theorem ringPut_net (n a : Nat) (b : List Byte) (s : State) : (ringPut n a b s).net = s.net := rfl
@[simp] theorem ringPut_shr (n a : Nat) (b : List Byte) (s : State) : (ringPut n a b s).shr = s.shr := rfl
@[simp] theorem ringPut_fld (n a : Nat) (b : List Byte) (s : State) : (ringPut n a b s).fld = s.fld := rfl
@[simp] theorem ringPut_pwr (n a : Nat) (b : List Byte) (s : State) : (ringPut n a b s).pwr = s.pwr := rfl
@[simp] theorem ringPut_img (n a : Nat) (b : List Byte) (s : State) : (ringPut n a b s).img = s.img := rfl
@[simp] theorem ringPut_dbg (n a : Nat) (b : List Byte) (s : State) : (ringPut n a b s).dbg = s.dbg := rfl
@[simp] theorem ringPut_free (n a : Nat) (b : List Byte) (s : State) : (ringPut n a b s).free = s.free := rfl
@[simp] theorem ringPut_pending (n a : Nat) (b : List Byte) (s : State) : (ringPut n a b s).pending = s.pending := rfl
@[simp] theorem ringPut_host_evBuf (n a : Nat) (b : List Byte) (s : State) : (ringPut n a b s).host.evBuf = s.host.evBuf := rfl
@[simp] theorem ringPut_host_evDropped (n a : Nat) (b : List Byte) (s : State) : (ringPut n a b s).host.evDropped = s.host.evDropped := rfl
@[simp] theorem ringPut_host_notes (n a : Nat) (b : List Byte) (s : State) : (ringPut n a b s).host.notes = s.host.notes := rfl
@[simp] theorem ringPut_host_hriPend (n a : Nat) (b : List Byte) (s : State) : (ringPut n a b s).host.hriPend = s.host.hriPend := rfl
@[simp] theorem ringPut_host_holds (n a : Nat) (b : List Byte) (s : State) : (ringPut n a b s).host.holds = s.host.holds := rfl
@[simp] theorem ringPut_host_wideLo (n a : Nat) (b : List Byte) (s : State) : (ringPut n a b s).host.wideLo = s.host.wideLo := rfl
@[simp] theorem ringPut_host_readData (n a : Nat) (b : List Byte) (s : State) : (ringPut n a b s).host.readData = s.host.readData := rfl
@[simp] theorem ringPut_reg (n a : Nat) (b : List Byte) (s : State) (k : Nat) : (ringPut n a b s).reg k = s.reg k := rfl
@[simp] theorem ringPut_hostMem (n a : Nat) (b : List Byte) (s : State) : (ringPut n a b s).hostMem = hostWriteAux a b s.hostMem := rfl
/-- A record's write leaves the ring's counts. -/
theorem ringPut_ring (n a : Nat) (b : List Byte) (s : State) :
    ((ringPut n a b s).ring n).c = (s.ring n).c ∧ ((ringPut n a b s).ring n).done = (s.ring n).done ∧
      ((ringPut n a b s).ring n).h = (s.ring n).h := by
  simp only [ringPut, State.ring_updRing_same]; exact ⟨rfl, rfl, rfl⟩

/-! ## Writing a completion -/

@[simp] theorem ringIrq_clk (n : Nat) (s : State) : (ringIrq n s).clk = s.clk := by unfold ringIrq; split <;> rfl
@[simp] theorem complete_clk (n : Nat) (d : Desc) (st : Nat) (r : Reply) (h : Bool) (s : State) : (complete n d st r h s).clk = s.clk := by
  simp only [complete]; split <;> split <;> simp
@[simp] theorem ringIrq_md (n : Nat) (s : State) : (ringIrq n s).md = s.md := by unfold ringIrq; split <;> rfl
@[simp] theorem complete_md (n : Nat) (d : Desc) (st : Nat) (r : Reply) (h : Bool) (s : State) : (complete n d st r h s).md = s.md := by
  simp only [complete]; split <;> split <;> simp
@[simp] theorem ringIrq_plan (n : Nat) (s : State) : (ringIrq n s).plan = s.plan := by unfold ringIrq; split <;> rfl
@[simp] theorem complete_plan (n : Nat) (d : Desc) (st : Nat) (r : Reply) (h : Bool) (s : State) : (complete n d st r h s).plan = s.plan := by
  simp only [complete]; split <;> split <;> simp
@[simp] theorem ringIrq_loop (n : Nat) (s : State) : (ringIrq n s).loop = s.loop := by unfold ringIrq; split <;> rfl
@[simp] theorem complete_loop (n : Nat) (d : Desc) (st : Nat) (r : Reply) (h : Bool) (s : State) : (complete n d st r h s).loop = s.loop := by
  simp only [complete]; split <;> split <;> simp
@[simp] theorem ringIrq_web (n : Nat) (s : State) : (ringIrq n s).web = s.web := by unfold ringIrq; split <;> rfl
@[simp] theorem complete_web (n : Nat) (d : Desc) (st : Nat) (r : Reply) (h : Bool) (s : State) : (complete n d st r h s).web = s.web := by
  simp only [complete]; split <;> split <;> simp
@[simp] theorem ringIrq_spar (n : Nat) (s : State) : (ringIrq n s).spar = s.spar := by unfold ringIrq; split <;> rfl
@[simp] theorem complete_spar (n : Nat) (d : Desc) (st : Nat) (r : Reply) (h : Bool) (s : State) : (complete n d st r h s).spar = s.spar := by
  simp only [complete]; split <;> split <;> simp
@[simp] theorem ringIrq_pwm (n : Nat) (s : State) : (ringIrq n s).pwm = s.pwm := by unfold ringIrq; split <;> rfl
@[simp] theorem complete_pwm (n : Nat) (d : Desc) (st : Nat) (r : Reply) (h : Bool) (s : State) : (complete n d st r h s).pwm = s.pwm := by
  simp only [complete]; split <;> split <;> simp
@[simp] theorem ringIrq_adc (n : Nat) (s : State) : (ringIrq n s).adc = s.adc := by unfold ringIrq; split <;> rfl
@[simp] theorem complete_adc (n : Nat) (d : Desc) (st : Nat) (r : Reply) (h : Bool) (s : State) : (complete n d st r h s).adc = s.adc := by
  simp only [complete]; split <;> split <;> simp
@[simp] theorem ringIrq_fbk (n : Nat) (s : State) : (ringIrq n s).fbk = s.fbk := by unfold ringIrq; split <;> rfl
@[simp] theorem complete_fbk (n : Nat) (d : Desc) (st : Nat) (r : Reply) (h : Bool) (s : State) : (complete n d st r h s).fbk = s.fbk := by
  simp only [complete]; split <;> split <;> simp
@[simp] theorem ringIrq_cap (n : Nat) (s : State) : (ringIrq n s).cap = s.cap := by unfold ringIrq; split <;> rfl
@[simp] theorem complete_cap (n : Nat) (d : Desc) (st : Nat) (r : Reply) (h : Bool) (s : State) : (complete n d st r h s).cap = s.cap := by
  simp only [complete]; split <;> split <;> simp
@[simp] theorem ringIrq_net (n : Nat) (s : State) : (ringIrq n s).net = s.net := by unfold ringIrq; split <;> rfl
@[simp] theorem complete_net (n : Nat) (d : Desc) (st : Nat) (r : Reply) (h : Bool) (s : State) : (complete n d st r h s).net = s.net := by
  simp only [complete]; split <;> split <;> simp
@[simp] theorem ringIrq_shr (n : Nat) (s : State) : (ringIrq n s).shr = s.shr := by unfold ringIrq; split <;> rfl
@[simp] theorem complete_shr (n : Nat) (d : Desc) (st : Nat) (r : Reply) (h : Bool) (s : State) : (complete n d st r h s).shr = s.shr := by
  simp only [complete]; split <;> split <;> simp
@[simp] theorem ringIrq_fld (n : Nat) (s : State) : (ringIrq n s).fld = s.fld := by unfold ringIrq; split <;> rfl
@[simp] theorem complete_fld (n : Nat) (d : Desc) (st : Nat) (r : Reply) (h : Bool) (s : State) : (complete n d st r h s).fld = s.fld := by
  simp only [complete]; split <;> split <;> simp
@[simp] theorem ringIrq_pwr (n : Nat) (s : State) : (ringIrq n s).pwr = s.pwr := by unfold ringIrq; split <;> rfl
@[simp] theorem complete_pwr (n : Nat) (d : Desc) (st : Nat) (r : Reply) (h : Bool) (s : State) : (complete n d st r h s).pwr = s.pwr := by
  simp only [complete]; split <;> split <;> simp
@[simp] theorem ringIrq_img (n : Nat) (s : State) : (ringIrq n s).img = s.img := by unfold ringIrq; split <;> rfl
@[simp] theorem complete_img (n : Nat) (d : Desc) (st : Nat) (r : Reply) (h : Bool) (s : State) : (complete n d st r h s).img = s.img := by
  simp only [complete]; split <;> split <;> simp
@[simp] theorem ringIrq_dbg (n : Nat) (s : State) : (ringIrq n s).dbg = s.dbg := by unfold ringIrq; split <;> rfl
@[simp] theorem complete_dbg (n : Nat) (d : Desc) (st : Nat) (r : Reply) (h : Bool) (s : State) : (complete n d st r h s).dbg = s.dbg := by
  simp only [complete]; split <;> split <;> simp
@[simp] theorem ringIrq_free (n : Nat) (s : State) : (ringIrq n s).free = s.free := by unfold ringIrq; split <;> rfl
@[simp] theorem complete_free (n : Nat) (d : Desc) (st : Nat) (r : Reply) (h : Bool) (s : State) : (complete n d st r h s).free = s.free := by
  simp only [complete]; split <;> split <;> simp
@[simp] theorem ringIrq_pending (n : Nat) (s : State) : (ringIrq n s).pending = s.pending := by unfold ringIrq; split <;> rfl
@[simp] theorem complete_pending (n : Nat) (d : Desc) (st : Nat) (r : Reply) (h : Bool) (s : State) : (complete n d st r h s).pending = s.pending := by
  simp only [complete]; split <;> split <;> simp
@[simp] theorem ringIrq_host_evBuf (n : Nat) (s : State) : (ringIrq n s).host.evBuf = s.host.evBuf := by unfold ringIrq; split <;> rfl
@[simp] theorem complete_host_evBuf (n : Nat) (d : Desc) (st : Nat) (r : Reply) (h : Bool) (s : State) :
    (complete n d st r h s).host.evBuf = s.host.evBuf := by
  simp only [complete]; split <;> split <;> simp <;> rfl
@[simp] theorem ringIrq_host_evDropped (n : Nat) (s : State) : (ringIrq n s).host.evDropped = s.host.evDropped := by unfold ringIrq; split <;> rfl
@[simp] theorem complete_host_evDropped (n : Nat) (d : Desc) (st : Nat) (r : Reply) (h : Bool) (s : State) :
    (complete n d st r h s).host.evDropped = s.host.evDropped := by
  simp only [complete]; split <;> split <;> simp <;> rfl
@[simp] theorem ringIrq_host_notes (n : Nat) (s : State) : (ringIrq n s).host.notes = s.host.notes := by unfold ringIrq; split <;> rfl
@[simp] theorem complete_host_notes (n : Nat) (d : Desc) (st : Nat) (r : Reply) (h : Bool) (s : State) :
    (complete n d st r h s).host.notes = s.host.notes := by
  simp only [complete]; split <;> split <;> simp <;> rfl
@[simp] theorem ringIrq_host_hriPend (n : Nat) (s : State) : (ringIrq n s).host.hriPend = s.host.hriPend := by unfold ringIrq; split <;> rfl
@[simp] theorem complete_host_hriPend (n : Nat) (d : Desc) (st : Nat) (r : Reply) (h : Bool) (s : State) :
    (complete n d st r h s).host.hriPend = s.host.hriPend := by
  simp only [complete]; split <;> split <;> simp <;> rfl
@[simp] theorem ringIrq_host_holds (n : Nat) (s : State) : (ringIrq n s).host.holds = s.host.holds := by unfold ringIrq; split <;> rfl
@[simp] theorem complete_host_holds (n : Nat) (d : Desc) (st : Nat) (r : Reply) (h : Bool) (s : State) :
    (complete n d st r h s).host.holds = s.host.holds := by
  simp only [complete]; split <;> split <;> simp <;> rfl
@[simp] theorem ringIrq_host_wideLo (n : Nat) (s : State) : (ringIrq n s).host.wideLo = s.host.wideLo := by unfold ringIrq; split <;> rfl
@[simp] theorem complete_host_wideLo (n : Nat) (d : Desc) (st : Nat) (r : Reply) (h : Bool) (s : State) :
    (complete n d st r h s).host.wideLo = s.host.wideLo := by
  simp only [complete]; split <;> split <;> simp <;> rfl
@[simp] theorem ringIrq_host_readData (n : Nat) (s : State) : (ringIrq n s).host.readData = s.host.readData := by unfold ringIrq; split <;> rfl
@[simp] theorem complete_host_readData (n : Nat) (d : Desc) (st : Nat) (r : Reply) (h : Bool) (s : State) :
    (complete n d st r h s).host.readData = s.host.readData := by
  simp only [complete]; split <;> split <;> simp <;> rfl

@[simp] theorem ringIrq_reg (n a : Nat) (s : State) : (ringIrq n s).reg a = s.reg a := by unfold ringIrq; split <;> rfl
@[simp] theorem ringIrq_hostMem (n : Nat) (s : State) : (ringIrq n s).hostMem = s.hostMem := by unfold ringIrq; split <;> rfl

/-- A completion writes no register but CQ_TAIL and CLAMP_COUNT of its ring. -/
theorem complete_reg (n : Nat) (d : Desc) (st : Nat) (r : Reply) (h : Bool) (s : State) {a : Nat} (h1 : a ≠ A.hriRingCqTail n)
    (h2 : a ≠ A.hriRingClampCount n) : (complete n d st r h s).reg a = s.reg a := by
  have e : ∀ t : State, (t.bumpSat (F.hriRingClampCount_CLAMP_COUNT n)).reg a = t.reg a := fun t => State.reg_setReg_other _ _ h2
  simp only [complete]
  split <;> (try rw [ringIrq_reg]) <;> split <;> (try rw [e]) <;> rw [State.reg_setReg_other _ _ h1] <;> simp

/-- No register outside the rings is written by a completion. -/
@[simp] theorem complete_reg_low (n : Nat) (d : Desc) (st : Nat) (r : Reply) (h : Bool) (s : State) {a : Nat} (ha : a < 0x1400 ∨ 0x1414 + 0x30 * n ≤ a ∧ a ≤ 0x1424 + 0x30 * n ∨ 0x1430 + 0x30 * n ≤ a) :
    (complete n d st r h s).reg a = s.reg a :=
  complete_reg n d st r h s (by unfold A.hriRingCqTail; omega) (by unfold A.hriRingClampCount; omega)
theorem complete_get (n : Nat) (d : Desc) (st : Nat) (r : Reply) (h : Bool) (s : State) (f : Fld) (h1 : f.a ≠ A.hriRingCqTail n)
    (h2 : f.a ≠ A.hriRingClampCount n) : (complete n d st r h s).get f = s.get f := by
  unfold State.get; rw [complete_reg n d st r h s h1 h2]

theorem hostWriteAux_other (b : List Byte) : ∀ (a q : Nat) (m : Table Byte), (∀ k, k < b.length → q ≠ (a + k) % 2 ^ 64) →
    Table.look 0 (hostWriteAux a b m) q = Table.look 0 m q := by
  induction b with
  | nil => intro a q m _; rfl
  | cons x r ih =>
    intro a q m h
    rw [hostWriteAux, ih (a + 1) q]
    · exact Table.look_put_other _ _ _ (by simpa using h 0 (by simp)) m
    · intro k hk; have := h (k + 1) (by simpa using hk); rwa [show a + 1 + k = a + (k + 1) by omega]

/-- Each byte that is written reads as written. -/
theorem hostWriteAux_same (b : List Byte) (hb : b.length ≤ 2 ^ 64) : ∀ (a k : Nat) (m : Table Byte) (h : k < b.length),
    Table.look 0 (hostWriteAux a b m) ((a + k) % 2 ^ 64) = b[k] := by
  induction b with
  | nil => intro a k m h; cases h
  | cons x r ih =>
    intro a k m h
    have hr : r.length ≤ 2 ^ 64 := by simp at hb; omega
    rw [hostWriteAux]
    cases k with
    | zero =>
      rw [hostWriteAux_other]
      · simp
      · intro k hk
        have : r.length < 2 ^ 64 := by simp at hb; omega
        omega
    | succ k => have := ih hr (a + 1) k (Table.put 0 (a % 2 ^ 64) x m) (by simpa using h); rwa [show a + 1 + k = a + (k + 1) by omega] at this


theorem complete_hostMem (n : Nat) (d : Desc) (st : Nat) (r : Reply) (h : Bool) (s : State) :
    ∃ flags : Nat, flags.testBit 1 = r.noEffect ∧ (complete n d st r h s).hostMem =
      hostWriteAux (s.get64 (A.hriRingCqBaseLo n) + (s.ring n).c.toNat % 2 ^ s.get (F.hriRingCfg_SIZE n) * 16)
        (leBytes 2 d.tag.toNat ++ leBytes 2 d.seq.toNat ++ leBytes 2 st ++ leBytes 2 flags ++ leBytes 4 (s.ring n).limit.toNat ++
          leBytes 4 r.result) s.hostMem := by
  refine ⟨(if ringPhase (s.ring n).c (s.get (F.hriRingCfg_SIZE n)) then 2 ^ 15 else 0) + r.clamps / 2 % 128 * 2 ^ 8 +
    (if h then 4 else 0) + (if r.noEffect then 2 else 0) + (if r.clamps ≠ 0 then 1 else 0), ?_, ?_⟩
  · rw [Nat.testBit_eq_decide_div_mod_eq]
    have hy : (if r.clamps ≠ 0 then 1 else 0 : Nat) ≤ 1 := by split <;> omega
    generalize (if r.clamps ≠ 0 then 1 else 0 : Nat) = y at hy
    generalize r.clamps / 2 % 128 = x
    cases r.noEffect <;> cases h <;> split <;> simp <;> omega
  · simp only [complete]
    have e1 : ∀ (t : State) (f : Fld) (k : Nat), (t.bumpSat f k).hostMem = t.hostMem := fun _ _ _ => rfl
    have e2 : ∀ (t : State) (a : Nat) (v : W32), (t.setReg a v).hostMem = t.hostMem := fun _ _ _ => rfl
    have e3 : ∀ (t : State) (m : Nat) (f : Ring → Ring), (t.updRing m f).hostMem = t.hostMem := fun _ _ _ => rfl
    split <;> (try rw [ringIrq_hostMem]) <;> split <;> simp only [e1, e2, e3, ringPut_hostMem]

theorem complete_ring (n : Nat) (d : Desc) (st : Nat) (r : Reply) (h : Bool) (s : State) :
    ((complete n d st r h s).ring n).c = (s.ring n).c + 1 ∧ ((complete n d st r h s).ring n).done = (s.ring n).done + 1 ∧
      ((complete n d st r h s).ring n).h = (s.ring n).h := by
  have e : ∀ t : State, ((ringIrq n t).ring n).c = (t.ring n).c ∧ ((ringIrq n t).ring n).done = (t.ring n).done ∧
      ((ringIrq n t).ring n).h = (t.ring n).h := by
    intro t; unfold ringIrq; split
    · exact ⟨rfl, rfl, rfl⟩
    · simp only [State.ring_updRing_same]; exact ⟨rfl, rfl, rfl⟩
  have g : ∀ (t : State) (f : Fld) (k : Nat), (t.bumpSat f k).ring n = t.ring n := fun _ _ _ => rfl
  have g2 : ∀ (t : State) (a : Nat) (v : W32), (t.setReg a v).ring n = t.ring n := fun _ _ _ => rfl
  simp only [complete]
  split <;> (try simp only [e]) <;> split <;> simp only [g, g2, State.ring_updRing_same, ringPut_ring, and_self]

theorem complete_answered (n : Nat) (d : Desc) (hn : n = d.ring.val) (st : Nat) (hs : st < 256) (r : Reply) (h : Bool) (s : State) :
    Answered (complete n d st r h s) d st r.noEffect r.result := by
  subst hn
  have h64 : (complete d.ring.val d st r h s).get64 (A.hriRingCqBaseLo d.ring.val) = s.get64 (A.hriRingCqBaseLo d.ring.val) := by
    unfold State.get64
    rw [complete_reg _ _ _ _ _ _ (by unfold A.hriRingCqBaseLo A.hriRingCqTail; omega)
        (by unfold A.hriRingCqBaseLo A.hriRingClampCount; omega),
      complete_reg _ _ _ _ _ _ (by unfold A.hriRingCqBaseLo A.hriRingCqTail; omega)
        (by unfold A.hriRingCqBaseLo A.hriRingClampCount; omega)]
  have hz : (complete d.ring.val d st r h s).get (F.hriRingCfg_SIZE d.ring.val) = s.get (F.hriRingCfg_SIZE d.ring.val) :=
    complete_get _ _ _ _ _ _ _ (by simp only [F.hriRingCfg_SIZE, A.hriRingCfg, A.hriRingCqTail]; omega)
      (by simp only [F.hriRingCfg_SIZE, A.hriRingCfg, A.hriRingClampCount]; omega)
  obtain ⟨fl, hf, hm⟩ := complete_hostMem d.ring.val d st r h s
  have hc : ((complete d.ring.val d st r h s).ring d.ring.val).c - 1 = (s.ring d.ring.val).c := by
    rw [(complete_ring d.ring.val d st r h s).1]; simp
  have key := fun (k : Nat) hk => hostWriteAux_same (leBytes 2 d.tag.toNat ++ leBytes 2 d.seq.toNat ++ leBytes 2 st ++ leBytes 2 fl ++
    leBytes 4 (s.ring d.ring.val).limit.toNat ++ leBytes 4 r.result) (by simp [leBytes])
    (s.get64 (A.hriRingCqBaseLo d.ring.val) + (s.ring d.ring.val).c.toNat % 2 ^ s.get (F.hriRingCfg_SIZE d.ring.val) * 16) k s.hostMem hk
  simp only [Answered, State.hostByte, h64, hz, hc, hm]
  refine ⟨?_, ?_, ?_, ?_, ?_, ?_, ?_, ?_, ?_, ?_, ?_⟩
  · rw [key 0 (by simp [leBytes])]; simp [leBytes]
  · rw [key 1 (by simp [leBytes])]; simp [leBytes]; bv_omega
  · rw [key 2 (by simp [leBytes])]; simp [leBytes]
  · rw [key 3 (by simp [leBytes])]; simp [leBytes]; bv_omega
  · rw [key 4 (by simp [leBytes])]; simp [leBytes]
  · rw [key 5 (by simp [leBytes])]; simp [leBytes, Nat.div_eq_of_lt hs]
  · rw [key 6 (by simp [leBytes])]; simp only [leBytes, List.cons_append, List.nil_append, List.getElem_cons_succ, List.getElem_cons_zero, BitVec.getLsbD_ofNat, hf]; simp
  · rw [key 12 (by simp [leBytes])]; simp [leBytes]
  · rw [key 13 (by simp [leBytes])]; simp [leBytes]
  · rw [key 14 (by simp [leBytes])]; simp [leBytes, Nat.div_div_eq_div_mul]
  · rw [key 15 (by simp [leBytes])]; simp [leBytes, Nat.div_div_eq_div_mul]

/-- A row whose descriptor its ring accepts completes with the operation's effect on the fetched state and is answered. -/
theorem row_accepts {c : Instr} {opcode : Nat} {op : Op} {d : Desc} {s t : State} {r : Reply}
    (hc : exec c s = .next (runDesc opcode op d s)) (h : Accepts s opcode d) (ho : op d (s.fetched d) = (t, r)) :
    Answers c d s (complete d.ring.val d 0 (r.counted opcode d) false t) r.noEffect r.result := by
  unfold Answers
  rw [hc, runDesc_accepts op h, ho]
  exact ⟨rfl, complete_answered _ d rfl 0 (by omega) _ _ _⟩

end Sys2Proof.Machine
end

