-- ==== Sys2Proof/Laws/Kept.lean ====
section
/-!
SUPPORT. What every operation of the model leaves alone. `Kept k s` says that a state has the queue, the tick count and the local time
of the latest strobe that `k` names, and that its registers and the host memory are in their
canonical form. One lemma for each operation says that it keeps all of this.
-/
namespace Sys2Proof.Machine

/-- What nearly every operation leaves alone, and whether the tables were in canonical form. -/
structure Keep where
  q : List Instr
  ticks : Nat
  strobe : Nat
  ok : Bool

/-- The part of a state that `Keep` names. -/
def State.keep (s : State) : Keep := ⟨s.pending, s.clk.ticks, s.clk.clk, s.tablesOk⟩

/-- The queue and the tables: what every command leaves. -/
def Good (q : List Instr) (ok : Bool) (s : State) : Prop := s.pending = q ∧ (ok = true → s.tablesOk = true)

/-- A state that agrees with `k`, and whose tables are in canonical form if `k`'s were. -/
def Kept (k : Keep) (s : State) : Prop := (s.clk.ticks = k.ticks ∧ s.clk.clk = k.strobe) ∧ Good k.q k.ok s

theorem kept_self (s : State) : Kept s.keep s := ⟨⟨rfl, rfl⟩, rfl, fun h => h⟩
theorem Kept.good {k : Keep} {s : State} (h : Kept k s) : Good k.q k.ok s := h.2
theorem Good.kept {q : List Instr} {ok : Bool} {s : State} (h : Good q ok s) : Kept ⟨q, s.clk.ticks, s.clk.clk, ok⟩ s := ⟨⟨rfl, rfl⟩, h⟩

variable {k : Keep}

theorem setReg_kept (a : Nat) (v : W32) (s : State) (h : Kept k s) : Kept k (s.setReg a v) := by
  refine ⟨h.1, h.2.1, fun hk => ?_⟩
  have h2 := h.2.2 hk
  simp only [State.tablesOk, Bool.and_eq_true] at *
  exact ⟨Table.wf_put regReset v a s.regs h2.1, h2.2⟩

theorem hostWriteAux_wf (b : List Byte) : ∀ (a : Nat) (m : Table Byte), Table.wf (fun _ => (0 : Byte)) m = true →
    Table.wf (fun _ => (0 : Byte)) (hostWriteAux a b m) = true := by
  induction b with
  | nil => intro a m h; exact h
  | cons x r ih => intro a m h; exact ih _ _ (Table.wf_put (fun _ => (0 : Byte)) x _ m h)

theorem hostWrite_kept (a : Nat) (b : List Byte) (s : State) (h : Kept k s) : Kept k (s.hostWrite a b) := by
  refine ⟨h.1, h.2.1, fun hk => ?_⟩
  have h2 := h.2.2 hk
  simp only [State.tablesOk, Bool.and_eq_true] at *
  exact ⟨h2.1, hostWriteAux_wf b a s.hostMem h2.2⟩

theorem foldl_kept {α : Type} (l : List α) (f : State → α → State) (hf : ∀ x t, Kept k t → Kept k (f t x)) (s : State)
    (h : Kept k s) : Kept k (l.foldl f s) := by
  induction l generalizing s with
  | nil => exact h
  | cons a r ih => exact ih _ (hf a s h)

theorem forEach_kept {α : Type} (l : List α) (f : α → State → State) (hf : ∀ x t, Kept k t → Kept k (f x t)) (s : State)
    (h : Kept k s) : Kept k (forEach l f s) := foldl_kept l _ hf s h

theorem whenB_kept (c : Bool) (f : State → State) (hf : ∀ t, Kept k t → Kept k (f t)) (s : State) (h : Kept k s) :
    Kept k (whenB c f s) := by
  cases c
  · exact h
  · exact hf s h

theorem host_upd_kept (x) (s : State) (h : Kept k s) : Kept k { s with host := x } := h
theorem md_upd_kept (x) (s : State) (h : Kept k s) : Kept k { s with md := x } := h
theorem plan_upd_kept (x) (s : State) (h : Kept k s) : Kept k { s with plan := x } := h
theorem loop_upd_kept (x) (s : State) (h : Kept k s) : Kept k { s with loop := x } := h
theorem web_upd_kept (x) (s : State) (h : Kept k s) : Kept k { s with web := x } := h
theorem spar_upd_kept (x) (s : State) (h : Kept k s) : Kept k { s with spar := x } := h
theorem pwm_upd_kept (x) (s : State) (h : Kept k s) : Kept k { s with pwm := x } := h
theorem adc_upd_kept (x) (s : State) (h : Kept k s) : Kept k { s with adc := x } := h
theorem fbk_upd_kept (x) (s : State) (h : Kept k s) : Kept k { s with fbk := x } := h
theorem cap_upd_kept (x) (s : State) (h : Kept k s) : Kept k { s with cap := x } := h
theorem net_upd_kept (x) (s : State) (h : Kept k s) : Kept k { s with net := x } := h
theorem fld_upd_kept (x) (s : State) (h : Kept k s) : Kept k { s with fld := x } := h
theorem shr_upd_kept (x) (s : State) (h : Kept k s) : Kept k { s with shr := x } := h
theorem pwr_upd_kept (x) (s : State) (h : Kept k s) : Kept k { s with pwr := x } := h
theorem img_upd_kept (x) (s : State) (h : Kept k s) : Kept k { s with img := x } := h
theorem clk_upd_kept (x : ClkSt) (s : State) (h1 : x.ticks = s.clk.ticks) (h2 : x.clk = s.clk.clk) (h : Kept k s) :
    Kept k { s with clk := x } := ⟨⟨h1.trans h.1.1, h2.trans h.1.2⟩, h.2⟩
theorem dbg_upd_kept (x) (s : State) (h : Kept k s) : Kept k { s with dbg := x } := h
theorem clk_incr_kept (x) (s : State) (h : Kept k s) : Kept k { s with clk := { s.clk with incrNext := x } } := h
theorem free_upd_kept (x) (s : State) (h : Kept k s) : Kept k { s with free := x } := h
theorem regsFilter_kept (f : Nat × W32 → Bool) (s : State) (h : Kept k s) : Kept k { s with regs := s.regs.filter f } := by
  refine ⟨h.1, h.2.1, fun hk => ?_⟩
  have h2 := h.2.2 hk
  simp only [State.tablesOk, Bool.and_eq_true] at *
  exact ⟨Table.wf_filter regReset f s.regs h2.1, h2.2⟩

end Sys2Proof.Machine
end

