-- ==== Sys2Proof/Laws/KeptPlan.lean ====
section
/-!
SUPPORT. What the operations of registers, events, the planner, PWM and engine faults leave alone: one lemma for each operation, in its file's order.
-/
namespace Sys2Proof.Machine

set_option Elab.async false
variable {k : Keep}

theorem set_kept (f : Sys2Proof.Machine.Fld) (v : Nat) (s : State) (h : Kept k s) : Kept k (State.set s f v) := by
  unfold State.set
  grind [setReg_kept, foldl_kept]

theorem flag_kept (f : Sys2Proof.Machine.Fld) (s : State) (h : Kept k s) : Kept k (State.flag s f) := by
  exact clk_upd_kept _ _ rfl rfl (set_kept _ _ _ h)

theorem setB_kept (f : Sys2Proof.Machine.Fld) (b : Bool) (s : State) (h : Kept k s) : Kept k (State.setB s f b) := by
  unfold State.setB
  grind [set_kept, foldl_kept]

theorem setI_kept (f : Sys2Proof.Machine.Fld) (v : Int) (s : State) (h : Kept k s) : Kept k (State.setI s f v) := by
  unfold State.setI
  grind [set_kept, foldl_kept]

theorem bump_kept (f : Sys2Proof.Machine.Fld) (s : State) (h : Kept k s) : Kept k (State.bump s f) := by
  unfold State.bump
  grind [set_kept, foldl_kept]

theorem bumpSat_kept (f : Sys2Proof.Machine.Fld) (n : Nat) (s : State) (h : Kept k s) : Kept k (State.bumpSat s f n) := by
  unfold State.bumpSat
  grind [set_kept, foldl_kept]

theorem set64_kept (a : Nat) (v : Nat) (s : State) (h : Kept k s) : Kept k (State.set64 s a v) := by
  unfold State.set64
  grind [setReg_kept, foldl_kept]

theorem atCyc_kept (c : Nat) (s : State) (h : Kept k s) : Kept k (State.atCyc s c) := by
  unfold State.atCyc
  grind [Kept, Good, State.tablesOk, foldl_kept]

theorem draw_kept (s : State) (h : Kept k s) : Kept k (State.draw s).2 := by
  unfold State.draw
  grind [Kept, Good, State.tablesOk, foldl_kept]

theorem raiseAt_kept (time : Nat) (code : Nat) (sev : Nat) (data : Nat) (ctrl : Nat) (p : (List (Nat × Nat × Nat))) (s : State) (h :
    Kept k s) : Kept k (State.raiseAt s time code sev data ctrl p) := by
  unfold State.raiseAt
  grind [Kept, Good, State.tablesOk, bumpSat_kept, foldl_kept]

theorem raise_kept (code : Nat) (sev : Nat) (data : Nat) (ctrl : Nat) (p : (List (Nat × Nat × Nat))) (s : State) (h : Kept k s) :
    Kept k (State.raise s code sev data ctrl p) := by
  unfold State.raise
  grind [raiseAt_kept, foldl_kept]

theorem irq_kept (v : Nat) (s : State) (h : Kept k s) : Kept k (State.irq s v) := by
  unfold State.irq
  grind [Kept, Good, State.tablesOk, foldl_kept]

theorem note_kept (code : Nat) (data : Nat) (ctrl : Nat) (pre : List (Nat × Nat × Nat)) (byte : Nat) (flags : Nat) (warn : Nat) (s :
    State) (h : Kept k s) : Kept k (State.note s code data ctrl pre byte flags warn) := by
  unfold State.note
  grind [Kept, Good, State.tablesOk, foldl_kept]

theorem flushNotes_kept (s : State) (h : Kept k s) : Kept k (State.flushNotes s) := by
  unfold State.flushNotes
  grind (splits := 30) (gen := 30) (ematch := 30) [raiseAt_kept, foldl_kept, host_upd_kept, md_upd_kept, plan_upd_kept, loop_upd_kept,
    web_upd_kept, spar_upd_kept, pwm_upd_kept, adc_upd_kept, fbk_upd_kept, cap_upd_kept, net_upd_kept, fld_upd_kept, pwr_upd_kept,
    img_upd_kept, free_upd_kept]

theorem patchRecord_kept (a : Nat) (f : List Sys2Proof.Byte → List Sys2Proof.Byte) (s : State) (h : Kept k s) :
    Kept k (patchRecord a f s) := by
  unfold patchRecord
  grind [hostWrite_kept, foldl_kept]

theorem updRing_kept (n : Nat) (f : Sys2Proof.Machine.Ring → Sys2Proof.Machine.Ring) (s : State) (h : Kept k s) :
    Kept k (State.updRing s n f) := by
  unfold State.updRing
  grind [Kept, Good, State.tablesOk, foldl_kept]

theorem ringPut_kept (n : Nat) (a : Nat) (b : List Sys2Proof.Byte) (s : State) (h : Kept k s) : Kept k (ringPut n a b s) := by
  unfold ringPut
  grind [updRing_kept, hostWrite_kept, foldl_kept]

theorem updAxis_kept (a : Nat) (f : Sys2Proof.Machine.AxisP → Sys2Proof.Machine.AxisP) (s : State) (h : Kept k s) :
    Kept k (State.updAxis s a f) := by
  unfold State.updAxis
  grind [Kept, Good, State.tablesOk, foldl_kept]

theorem updGrp_kept (g : Nat) (f : Sys2Proof.Machine.GroupP → Sys2Proof.Machine.GroupP) (s : State) (h : Kept k s) :
    Kept k (State.updGrp s g f) := by
  unfold State.updGrp
  grind [Kept, Good, State.tablesOk, foldl_kept]

theorem updEng_kept (e : Nat) (f : Sys2Proof.Machine.Eng → Sys2Proof.Machine.Eng) (s : State) (h : Kept k s) :
    Kept k (State.updEng s e f) := by
  unfold State.updEng
  grind [Kept, Good, State.tablesOk, foldl_kept]

theorem engIrq_kept (e : Nat) (bitNo : Nat) (s : State) (h : Kept k s) : Kept k (State.engIrq s e bitNo) := by
  unfold State.engIrq
  grind [updEng_kept, foldl_kept]

theorem capSee_kept (lat : Bool) (num : Nat) (t : Nat) (s : State) (h : Kept k s) : Kept k (State.capSee s lat num t) := by
  unfold State.capSee
  grind [Kept, Good, State.tablesOk, foldl_kept]

theorem setGst_kept (g : Nat) (st : Nat) (s : State) (h : Kept k s) : Kept k (State.setGst s g st) := by
  unfold State.setGst
  grind [set_kept, setB_kept, updGrp_kept, raise_kept, foldl_kept]

theorem request_kept (target : Nat) (cause : Nat) (rank : Nat) (s : State) (h : Kept k s) : Kept k (State.request s target cause rank) := by
  unfold State.request
  grind [Kept, Good, State.tablesOk, foldl_kept]

theorem decideMode_kept (target : Nat) (cause : Nat) (rank : Nat) (s : State) (h : Kept k s) :
    Kept k (State.decideMode s target cause rank) := by
  unfold State.decideMode
  grind [Kept, Good, State.tablesOk, foldl_kept]

theorem setTargets_kept (g : Nat) (l : List Int) (s : State) (h : Kept k s) : Kept k (State.setTargets s g l) := by
  unfold State.setTargets
  grind [forEach_kept, updAxis_kept, foldl_kept]

theorem startMove_kept (g : Nat) (seg0 : Sys2Proof.Machine.Seg) (r : List Sys2Proof.Machine.Entry) (el : Nat) (s : State) (h : Kept k s) :
    Kept k (startMove s g seg0 r el) := by
  unfold startMove
  grind [updGrp_kept, raise_kept, setTargets_kept, foldl_kept]

theorem engage_kept (g : Nat) (c : Sys2Proof.Machine.Couple) (s : State) (h : Kept k s) : Kept k (engage s g c) := by
  unfold engage
  grind [updGrp_kept, raise_kept, foldl_kept]

theorem relTick_kept (g : Nat) (r : Sys2Proof.Machine.Rel) (s : State) (h : Kept k s) : Kept k (relTick g r s) := by
  unfold relTick
  grind [updAxis_kept, whenB_kept, raise_kept, updGrp_kept, foldl_kept]

theorem beginOverlap_kept (g : Nat) (s : State) (h : Kept k s) : Kept k (beginOverlap g s) := by
  unfold beginOverlap
  grind [updGrp_kept, foldl_kept]

theorem takeHead_kept (n g el : Nat) (s : State) (h : Kept k s) : Kept k (takeHead n g el s) := by
  induction n generalizing s with
  | zero => exact h
  | succ n ih =>
    unfold takeHead
    dsimp only
    split
    · exact h
    · split
      · split
        · exact ih _ (engage_kept _ _ _ (updGrp_kept _ _ _ h))
        · exact h
      · split
        · exact startMove_kept _ _ _ _ _ h
        · exact h
      · exact h

theorem settle_kept (g : Nat) (x : Sys2Proof.Machine.Exec) (s : State) (h : Kept k s) : Kept k (settle s g x) := by
  unfold settle
  grind [forEach_kept, updAxis_kept, foldl_kept]

theorem finishEntry_kept (g : Nat) (s : State) (h : Kept k s) : Kept k (finishEntry g s) := by
  unfold finishEntry
  grind [updGrp_kept, takeHead_kept, settle_kept, foldl_kept]

theorem planOn_kept (g : Nat) (dt : Nat) (s : State) (h : Kept k s) : Kept k (planOn g dt s) := by
  unfold planOn
  grind [updGrp_kept, foldl_kept]

theorem planAhead_kept (g : Nat) (dt : Nat) (s : State) (h : Kept k s) : Kept k (planAhead g dt s) := by
  unfold planAhead
  grind [finishEntry_kept, beginOverlap_kept, planOn_kept, foldl_kept]

theorem publish_kept (g : Nat) (skip : Nat → Bool) (s : State) (h : Kept k s) : Kept k (publish g skip s) := by
  unfold publish
  grind [forEach_kept, updAxis_kept, foldl_kept]

theorem endSegment_kept (g : Nat) (skip : Nat → Bool) (s : State) (h : Kept k s) : Kept k (endSegment g skip s) := by
  unfold endSegment
  grind [setGst_kept, updGrp_kept, finishEntry_kept, whenB_kept, raise_kept, publish_kept, foldl_kept]

theorem startQueue_kept (g : Nat) (skip : Nat → Bool) (s : State) (h : Kept k s) : Kept k (startQueue g skip s) := by
  unfold startQueue
  grind [publish_kept, takeHead_kept, setGst_kept, updGrp_kept, foldl_kept]

theorem discardPlan_kept (g : Nat) (s : State) (h : Kept k s) : Kept k (discardPlan g s) := by
  unfold discardPlan
  grind (splits := 30) (gen := 30) (ematch := 30) [updGrp_kept, foldl_kept, host_upd_kept, md_upd_kept, plan_upd_kept, loop_upd_kept,
    web_upd_kept, spar_upd_kept, pwm_upd_kept, adc_upd_kept, fbk_upd_kept, cap_upd_kept, net_upd_kept, fld_upd_kept, pwr_upd_kept,
    img_upd_kept, free_upd_kept]

theorem faultGroup_kept (g : Nat) (peDown : Bool) (skip : Nat → Bool) (s : State) (h : Kept k s) : Kept k (faultGroup g peDown skip s) := by
  unfold faultGroup
  grind [discardPlan_kept, updGrp_kept, forEach_kept, updAxis_kept, setGst_kept, foldl_kept]

theorem planNext_kept (g : Nat) (a : Sys2Proof.Machine.PlanAct) (s : State) (h : Kept k s) : Kept k (planNext g a s) := by
  unfold planNext
  grind [updGrp_kept, foldl_kept]

theorem stopGroup_kept (g : Nat) (s : State) (h : Kept k s) : Kept k (stopGroup g s) := by
  unfold stopGroup
  grind [setGst_kept, planNext_kept, foldl_kept]

theorem resumeGroup_kept (g : Nat) (s : State) (h : Kept k s) : Kept k (resumeGroup g s) := by
  unfold resumeGroup
  grind [setGst_kept, foldl_kept]

theorem planFromRest_kept (g : Nat) (s : State) (h : Kept k s) : Kept k (planFromRest g s) := by
  unfold planFromRest
  grind [updGrp_kept, foldl_kept]

theorem replan_kept (g : Nat) (s : State) (h : Kept k s) : Kept k (replan g s) := by
  unfold replan
  grind [updGrp_kept, foldl_kept]

theorem reefTick_kept (g : Nat) (s : State) (h : Kept k s) : Kept k (reefTick g s) := by
  unfold reefTick
  grind [replan_kept, foldl_kept]

theorem liveProfile_kept (g : Nat) (index : Nat) (pr : Sys2Proof.Machine.Profile) (s : State) (h : Kept k s) :
    Kept k (liveProfile g index pr s) := by
  unfold liveProfile
  grind [planNext_kept, updGrp_kept, foldl_kept]

theorem stopAct_kept (g : Nat) (s : State) (h : Kept k s) : Kept k (stopAct g s) := by
  unfold stopAct
  grind [updGrp_kept, foldl_kept]

theorem immediateAct_kept (g : Nat) (s : State) (h : Kept k s) : Kept k (immediateAct g s) := by
  unfold immediateAct
  grind [updGrp_kept, foldl_kept]

theorem liveAct_kept (g : Nat) (segs : List (Sys2Proof.Machine.Seg × Sys2Proof.Machine.Seg)) (s : State) (h : Kept k s) :
    Kept k (liveAct g segs s) := by
  unfold liveAct
  grind (splits := 30) (gen := 30) (ematch := 30) [updGrp_kept, replan_kept, raise_kept, foldl_kept, host_upd_kept, md_upd_kept,
    plan_upd_kept, loop_upd_kept, web_upd_kept, spar_upd_kept, pwm_upd_kept, adc_upd_kept, fbk_upd_kept, cap_upd_kept, net_upd_kept,
    shr_upd_kept, fld_upd_kept, pwr_upd_kept, img_upd_kept, dbg_upd_kept, free_upd_kept]

theorem planAct_kept (g : Nat) (a : Sys2Proof.Machine.PlanAct) (s : State) (h : Kept k s) : Kept k (planAct g a s) := by
  unfold planAct
  grind [stopAct_kept, replan_kept, immediateAct_kept, liveAct_kept, foldl_kept]

theorem planActs_kept (g : Nat) (s : State) (h : Kept k s) : Kept k (planActs g s) := by
  unfold planActs
  grind [updGrp_kept, planAct_kept, foldl_kept]

theorem planRest_kept (g : Nat) (s : State) (h : Kept k s) : Kept k (planRest g s) := by
  unfold planRest
  grind [updGrp_kept, takeHead_kept, settle_kept, planFromRest_kept, foldl_kept]

theorem softLimit_kept (g : Nat) (skip : Nat → Bool) (s : State) (h : Kept k s) : Kept k (softLimit g skip s) := by
  unfold softLimit
  grind [faultGroup_kept, raise_kept, foldl_kept]

theorem planPublished_kept (g : Nat) (s : State) (h : Kept k s) : Kept k (planPublished g s) := by
  unfold planPublished
  grind [updGrp_kept, foldl_kept]

theorem planTick_kept (g : Nat) (skip : Nat → Bool) (s : State) (h : Kept k s) : Kept k (planTick g skip s) := by
  unfold planTick
  grind (splits := 30) (gen := 30) (ematch := 30) [planPublished_kept, updGrp_kept, planOn_kept, publish_kept, forEach_kept,
    relTick_kept, beginOverlap_kept, reefTick_kept, planRest_kept, planActs_kept, softLimit_kept, foldl_kept, host_upd_kept,
    md_upd_kept, plan_upd_kept, loop_upd_kept, web_upd_kept, spar_upd_kept, pwm_upd_kept, adc_upd_kept, fbk_upd_kept, cap_upd_kept,
    net_upd_kept, shr_upd_kept, fld_upd_kept, pwr_upd_kept, img_upd_kept, dbg_upd_kept, free_upd_kept]

theorem idleGroup_kept (g : Nat) (s : State) (h : Kept k s) : Kept k (idleGroup g s) := by
  unfold idleGroup
  grind [setGst_kept, discardPlan_kept, foldl_kept]

theorem immediate_kept (g : Nat) (seg : Sys2Proof.Machine.Seg) (s : State) (h : Kept k s) : Kept k (immediate g seg s) := by
  unfold immediate
  grind [updGrp_kept, planNext_kept, foldl_kept]

theorem closeMove_kept (ring : Nat) (o : Sys2Proof.Machine.OpenMove) (s : State) (h : Kept k s) : Kept k (closeMove ring o s).1 := by
  unfold closeMove
  grind [Kept, Good, State.tablesOk, setTargets_kept, immediate_kept, planNext_kept, updGrp_kept, foldl_kept]

theorem endOpen_kept (ring : Nat) (s : State) (h : Kept k s) : Kept k (endOpen ring s) := by
  unfold endOpen
  grind [raise_kept, closeMove_kept, foldl_kept]

theorem updSlot_kept (n : Nat) (f : Sys2Proof.Machine.SlotSt → Sys2Proof.Machine.SlotSt) (s : State) (h : Kept k s) :
    Kept k (State.updSlot s n f) := by
  unfold State.updSlot
  grind [Kept, Good, State.tablesOk, foldl_kept]

theorem updPair_kept (n : Nat) (p : Nat) (f : Sys2Proof.Machine.PairSt → Sys2Proof.Machine.PairSt) (s : State) (h : Kept k s) :
    Kept k (State.updPair s n p f) := by
  unfold State.updPair
  grind [updSlot_kept, foldl_kept]

theorem pwmFlag_kept (n : Nat) (f : Sys2Proof.Machine.Fld) (s : State) (h : Kept k s) : Kept k (pwmFlag n f s) := by
  unfold pwmFlag
  grind [flag_kept, note_kept, foldl_kept]

theorem putCompare_kept (n : Nat) (act : Sys2Proof.Machine.Fld) (per : Nat) (v : Nat) (s : State) (h : Kept k s) :
    Kept k (putCompare n act per v s) := by
  unfold putCompare
  grind [pwmFlag_kept, set_kept, foldl_kept]

theorem slotEvent_kept (n : Nat) (e : Nat) (t : Nat) (s : State) (h : Kept k s) : Kept k (slotEvent n e t s) := by
  unfold slotEvent
  grind [capSee_kept, updSlot_kept, foldl_kept]

theorem pairLevel_kept (n : Nat) (p : Nat) (on : Bool) (t : Nat) (s : State) (h : Kept k s) : Kept k (pairLevel n p on t s) := by
  unfold pairLevel
  grind [whenB_kept, pwmFlag_kept, updPair_kept, slotEvent_kept, foldl_kept]

theorem slotTEnd_kept (n : Nat) (s : State) (h : Kept k s) : Kept k (slotTEnd n s) := by
  unfold slotTEnd
  grind [whenB_kept, bumpSat_kept, updSlot_kept, foldl_kept]

theorem recordDelay_kept (n : Nat) (m : Option Nat) (s : State) (h : Kept k s) : Kept k (recordDelay n m s) := by
  unfold recordDelay
  grind [bump_kept, set_kept, foldl_kept]

theorem pwmCommitAt_kept (n : Nat) (made : Nat) (s : State) (h : Kept k s) : Kept k (pwmCommitAt n made s) := by
  unfold pwmCommitAt
  grind [updSlot_kept, foldl_kept]

theorem pwmCommit_kept (n : Nat) (s : State) (h : Kept k s) : Kept k (pwmCommit n s) := by
  unfold pwmCommit
  grind [pwmCommitAt_kept, foldl_kept]

theorem commitNow_kept (n : Nat) (c : Sys2Proof.Machine.Commit) (horizon : Nat) (s : State) (h : Kept k s) :
    Kept k (commitNow n c horizon s) := by
  unfold commitNow
  grind [recordDelay_kept, updSlot_kept, forEach_kept, putCompare_kept, whenB_kept, pwmFlag_kept, updPair_kept, slotEvent_kept, foldl_kept]

theorem pwmCommitEffect_kept (n : Nat) (s : State) (h : Kept k s) : Kept k (pwmCommitEffect n s) := by
  unfold pwmCommitEffect
  grind [commitNow_kept, foldl_kept]

theorem newPeriod_kept (n : Nat) (old : Nat) (per : Nat) (m : Nat) (s : State) (h : Kept k s) : Kept k (newPeriod n old per m s) := by
  unfold newPeriod
  grind [putCompare_kept, forEach_kept, whenB_kept, pwmFlag_kept, foldl_kept]

theorem pairBoundary_kept (n : Nat) (p : Nat) (s : State) (h : Kept k s) : Kept k (pairBoundary n p s) := by
  unfold pairBoundary
  grind [updPair_kept, setI_kept, pwmFlag_kept, bump_kept, pairLevel_kept, foldl_kept]

theorem pwmBoundaryAt_kept (n : Nat) (now : Nat) (s : State) (h : Kept k s) : Kept k (pwmBoundaryAt n now s) := by
  unfold pwmBoundaryAt
  grind (splits := 30) (gen := 30) (ematch := 30) [whenB_kept, set_kept, recordDelay_kept, updSlot_kept, forEach_kept, slotEvent_kept,
    newPeriod_kept, putCompare_kept, pairBoundary_kept, slotTEnd_kept, foldl_kept, host_upd_kept, md_upd_kept, plan_upd_kept,
    loop_upd_kept, web_upd_kept, spar_upd_kept, pwm_upd_kept, adc_upd_kept, fbk_upd_kept, cap_upd_kept, net_upd_kept, shr_upd_kept,
    fld_upd_kept, pwr_upd_kept, img_upd_kept, dbg_upd_kept, free_upd_kept]

theorem pwmBoundary_kept (n : Nat) (s : State) (h : Kept k s) : Kept k (pwmBoundary n s) := by
  unfold pwmBoundary
  grind [pwmBoundaryAt_kept, foldl_kept]

theorem pwmMid_kept (n : Nat) (s : State) (h : Kept k s) : Kept k (pwmMid n s) := by
  unfold pwmMid
  grind [slotEvent_kept, commitNow_kept, slotTEnd_kept, foldl_kept]

theorem pwmEdge_kept (n : Nat) (p : Nat) (rising : Bool) (s : State) (h : Kept k s) : Kept k (pwmEdge n p rising s) := by
  unfold pwmEdge
  grind [updPair_kept, pairLevel_kept, foldl_kept]

theorem dropResidues_kept (n : Nat) (s : State) (h : Kept k s) : Kept k (dropResidues n s) := by
  unfold dropResidues
  grind [forEach_kept, set_kept, foldl_kept]

theorem slotSafe_kept (n : Nat) (s : State) (h : Kept k s) : Kept k (slotSafe n s) := by
  unfold slotSafe
  grind [set_kept, dropResidues_kept, updSlot_kept, foldl_kept]

theorem pwmRunSet_kept (n : Nat) (s : State) (h : Kept k s) : Kept k (pwmRunSet n s) := by
  unfold pwmRunSet
  grind [set_kept, updSlot_kept, foldl_kept]

theorem fltRefresh_kept (n : Nat) (s : State) (h : Kept k s) : Kept k (fltRefresh n s) := by
  unfold fltRefresh
  grind [setB_kept, foldl_kept]

theorem fltClear_kept (n : Nat) (s : State) (h : Kept k s) : Kept k (fltClear n s) := by
  unfold fltClear
  grind [set_kept, foldl_kept]

theorem updAxisL_kept (a : Nat) (f : Sys2Proof.Machine.AxisL → Sys2Proof.Machine.AxisL) (s : State) (h : Kept k s) :
    Kept k (State.updAxisL s a f) := by
  unfold State.updAxisL
  grind [Kept, Good, State.tablesOk, foldl_kept]

theorem updRoll_kept (a : Nat) (f : Sys2Proof.Machine.RollSt → Sys2Proof.Machine.RollSt) (s : State) (h : Kept k s) :
    Kept k (State.updRoll s a f) := by
  unfold State.updRoll
  grind [Kept, Good, State.tablesOk, foldl_kept]

theorem abortIdent_kept (a : Nat) (cause : Nat) (s : State) (h : Kept k s) : Kept k (abortIdent a cause s) := by
  unfold abortIdent
  grind [updAxisL_kept, updAxis_kept, raise_kept, foldl_kept]

theorem haulNow_kept (cause : Nat) (s : State) (h : Kept k s) : Kept k (haulNow cause s) := by
  unfold haulNow
  grind [decideMode_kept, foldl_kept]

theorem haulByFault_kept (s : State) (h : Kept k s) : Kept k (haulByFault s) := by
  unfold haulByFault
  grind [draw_kept, decideMode_kept, foldl_kept]

theorem stopStage_kept (a : Nat) (s : State) (h : Kept k s) : Kept k (stopStage a s) := by
  unfold stopStage
  grind [updAxisL_kept, slotSafe_kept, foldl_kept]

theorem groupFault_kept (g : Nat) (peDown : Bool) (s : State) (h : Kept k s) : Kept k (groupFault g peDown s) := by
  unfold groupFault
  grind [setGst_kept, faultGroup_kept, foldl_kept]

theorem axisFault_kept (a : Nat) (s : State) (h : Kept k s) : Kept k (axisFault a s) := by
  unfold axisFault
  grind [abortIdent_kept, updAxis_kept, stopStage_kept, groupFault_kept, foldl_kept]

theorem loopFault_kept (a : Nat) (cause : Nat) (stage : Nat) (value : Nat) (s : State) (h : Kept k s) :
    Kept k (loopFault a cause stage value s) := by
  unfold loopFault
  grind [raise_kept, axisFault_kept, haulByFault_kept, foldl_kept]

theorem groupToIdle_kept (g : Nat) (s : State) (h : Kept k s) : Kept k (groupToIdle g s) := by
  unfold groupToIdle
  grind [forEach_kept, stopStage_kept, discardPlan_kept, setGst_kept, foldl_kept]

theorem latchSlot_kept (n : Nat) (s : State) (h : Kept k s) : Kept k (latchSlot n s) := by
  unfold latchSlot
  grind [slotSafe_kept, flag_kept, raise_kept, haulByFault_kept, axisFault_kept, foldl_kept]

theorem fltScan_kept (n : Nat) (s : State) (h : Kept k s) : Kept k (fltScan n s) := by
  unfold fltScan
  grind [fltRefresh_kept, latchSlot_kept, foldl_kept]

end Sys2Proof.Machine
end

