-- ==== Sys2Proof/Laws/KeptIo.lean ====
section
/-!
SUPPORT. What the operations of feedback, converters and servo loops leave alone: one lemma for each operation, in its file's order.
-/
namespace Sys2Proof.Machine

set_option Elab.async false
variable {k : Keep}

theorem updFb_kept (n : Nat) (f : Sys2Proof.Machine.FbSt → Sys2Proof.Machine.FbSt) (s : State) (h : Kept k s) :
    Kept k (State.updFb s n f) := by
  unfold State.updFb
  grind [Kept, Good, State.tablesOk, foldl_kept]

theorem updLat_kept (i : Nat) (f : Sys2Proof.Machine.LatSt → Sys2Proof.Machine.LatSt) (s : State) (h : Kept k s) :
    Kept k (State.updLat s i f) := by
  unfold State.updLat
  grind [Kept, Good, State.tablesOk, foldl_kept]

theorem bindLater_kept (b : Sys2Proof.Machine.Binding) (s : State) (h : Kept k s) : Kept k (bindLater b s) := by
  unfold bindLater
  grind [Kept, Good, State.tablesOk, foldl_kept]

theorem bindNow_kept (b : Sys2Proof.Machine.Binding) (s : State) (h : Kept k s) : Kept k (bindNow b s) := by
  unfold bindNow
  grind [Kept, Good, State.tablesOk, set_kept, foldl_kept]

theorem takeBinds_kept (s : State) (h : Kept k s) : Kept k (takeBinds s) := by
  unfold takeBinds
  grind [Kept, Good, State.tablesOk, bindNow_kept, foldl_kept]

theorem fbFlag_kept (n : Nat) (f : Sys2Proof.Machine.Fld) (s : State) (h : Kept k s) : Kept k (fbFlag n f s) := by
  unfold fbFlag
  grind [flag_kept, note_kept, foldl_kept]

theorem fbFault_kept (n : Nat) (cause : Nat) (s : State) (h : Kept k s) : Kept k (fbFault n cause s) := by
  unfold fbFault
  grind [fbFlag_kept, raise_kept, forEach_kept, loopFault_kept, foldl_kept]

theorem fbSetSpeed_kept (n : Nat) (v : Int) (s : State) (h : Kept k s) : Kept k (fbSetSpeed n v s) := by
  unfold fbSetSpeed
  grind [set64_kept, updFb_kept, foldl_kept]

theorem latchCount_kept (n : Nat) (pos : Sys2Proof.W32) (t : Nat) (down : Bool) (s : State) (h : Kept k s) :
    Kept k (latchCount n pos t down s) := by
  unfold latchCount
  grind [forEach_kept, updLat_kept, foldl_kept]

theorem fbReported_kept (n : Nat) (up : Bool) (t : Nat) (turned : Bool) (s : State) (h : Kept k s) :
    Kept k (fbReported n up t turned s) := by
  unfold fbReported
  grind (splits := 30) (gen := 30) (ematch := 30) [set_kept, setReg_kept, updFb_kept, setB_kept, fbSetSpeed_kept, latchCount_kept,
    foldl_kept, host_upd_kept, md_upd_kept, plan_upd_kept, loop_upd_kept, web_upd_kept, spar_upd_kept, pwm_upd_kept, adc_upd_kept,
    fbk_upd_kept, cap_upd_kept, net_upd_kept, fld_upd_kept, pwr_upd_kept, img_upd_kept, free_upd_kept]

theorem fbRaw_kept (n : Nat) (up : Bool) (t : Nat) (s : State) (h : Kept k s) : Kept k (fbRaw n up t s) := by
  unfold fbRaw
  grind [updFb_kept, fbReported_kept, foldl_kept]

theorem fbIllegal_kept (n : Nat) (flag : Sys2Proof.Machine.Fld) (cause : Nat) (t : Nat) (s : State) (h : Kept k s) :
    Kept k (fbIllegal n flag cause t s) := by
  unfold fbIllegal
  grind [fbFlag_kept, bumpSat_kept, updFb_kept, fbFault_kept, foldl_kept]

theorem fbLines_kept (n : Nat) (lv : Nat) (s : State) (h : Kept k s) : Kept k (fbLines n lv s) := by
  unfold fbLines
  grind [updFb_kept, fbIllegal_kept, fbRaw_kept, foldl_kept]

theorem fbIndex_kept (n : Nat) (s : State) (h : Kept k s) : Kept k (fbIndex n s) := by
  unfold fbIndex
  grind [bump_kept, set_kept, foldl_kept]

theorem fbStill_kept (n : Nat) (s : State) (h : Kept k s) : Kept k (fbStill n s) := by
  unfold fbStill
  grind [fbSetSpeed_kept, updFb_kept, set_kept, foldl_kept]

theorem fbGate_kept (n : Nat) (s : State) (h : Kept k s) : Kept k (fbGate n s) := by
  unfold fbGate
  grind [updFb_kept, fbSetSpeed_kept, set_kept, foldl_kept]

theorem fbCheck_kept (n : Nat) (s : State) (h : Kept k s) : Kept k (fbCheck n s) := by
  unfold fbCheck
  grind [setB_kept, foldl_kept]

theorem fbEnable_kept (n : Nat) (s : State) (h : Kept k s) : Kept k (fbEnable n s) := by
  unfold fbEnable
  grind (splits := 30) (gen := 30) (ematch := 30) [set_kept, updFb_kept, fbCheck_kept, fbSetSpeed_kept, foldl_kept, host_upd_kept,
    md_upd_kept, plan_upd_kept, loop_upd_kept, web_upd_kept, spar_upd_kept, pwm_upd_kept, adc_upd_kept, fbk_upd_kept, cap_upd_kept,
    net_upd_kept, fld_upd_kept, pwr_upd_kept, img_upd_kept, free_upd_kept]

theorem fbDisable_kept (n : Nat) (s : State) (h : Kept k s) : Kept k (fbDisable n s) := by
  unfold fbDisable
  grind [updFb_kept, set_kept, fbFault_kept, foldl_kept]

theorem fbFaultClear_kept (n : Nat) (s : State) (h : Kept k s) : Kept k (fbFaultClear n s) := by
  unfold fbFaultClear
  grind [fbFlag_kept, set_kept, foldl_kept]

theorem fbSnap_kept (n : Nat) (s : State) (h : Kept k s) : Kept k (fbSnap n s) := by
  unfold fbSnap
  grind [set64_kept, set_kept, foldl_kept]

theorem fbSample_kept (n : Nat) (pos : Sys2Proof.W32) (d : Int) (t : Nat) (s : State) (h : Kept k s) : Kept k (fbSample n pos d t s) := by
  unfold fbSample
  grind [set_kept, setReg_kept, fbSetSpeed_kept, updFb_kept, latchCount_kept, foldl_kept]

theorem serialStart_kept (n : Nat) (s : State) (h : Kept k s) : Kept k (serialStart n s) := by
  unfold serialStart
  grind [bumpSat_kept, updFb_kept, foldl_kept]

theorem serialDone_kept (n : Nat) (started : Bool) (raw : Nat) (nE : Bool) (nW : Bool) (crc : Nat) (s : State) (h : Kept k s) :
    Kept k (serialDone n started raw nE nW crc s) := by
  unfold serialDone
  grind [updFb_kept, fbSample_kept, set64_kept, whenB_kept, fbFlag_kept, bumpSat_kept, fbFault_kept, foldl_kept]

theorem analogSample_kept (n : Nat) (sin : Int) (cos : Int) (tSin : Nat) (tCos : Nat) (s : State) (h : Kept k s) :
    Kept k (analogSample n sin cos tSin tCos s) := by
  unfold analogSample
  grind [updFb_kept, fbIllegal_kept, whenB_kept, fbFlag_kept, fbSample_kept, foldl_kept]

theorem latFlag_kept (i : Nat) (f : Sys2Proof.Machine.Fld) (s : State) (h : Kept k s) : Kept k (latFlag i f s) := by
  unfold latFlag
  grind [flag_kept, note_kept, foldl_kept]

theorem latRefresh_kept (i : Nat) (s : State) (h : Kept k s) : Kept k (latRefresh i s) := by
  unfold latRefresh
  grind (splits := 30) (gen := 30) (ematch := 30) [setB_kept, set_kept, setReg_kept, set64_kept, foldl_kept, host_upd_kept, md_upd_kept,
    plan_upd_kept, loop_upd_kept, web_upd_kept, spar_upd_kept, pwm_upd_kept, adc_upd_kept, fbk_upd_kept, cap_upd_kept, net_upd_kept,
    fld_upd_kept, pwr_upd_kept, img_upd_kept, free_upd_kept]

theorem latchEdge_kept (i : Nat) (rise : Bool) (taps : Nat) (s : State) (h : Kept k s) : Kept k (latchEdge i rise taps s) := by
  unfold latchEdge
  grind [setB_kept, bumpSat_kept, updLat_kept, capSee_kept, latRefresh_kept, set_kept, foldl_kept]

theorem latchComplete_kept (i : Nat) (s : State) (h : Kept k s) : Kept k (latchComplete i s) := by
  unfold latchComplete
  grind [updLat_kept, latFlag_kept, bumpSat_kept, whenB_kept, raiseAt_kept, latRefresh_kept, foldl_kept]

theorem latchRecord_kept (i : Nat) (s : State) (h : Kept k s) : Kept k (latchRecord i s) := by
  unfold latchRecord
  grind [latchComplete_kept, foldl_kept]

theorem latchTimeout_kept (i : Nat) (s : State) (h : Kept k s) : Kept k (latchTimeout i s) := by
  unfold latchTimeout
  grind [latchComplete_kept, foldl_kept]

theorem latchArm_kept (i : Nat) (s : State) (h : Kept k s) : Kept k (latchArm i s) := by
  unfold latchArm
  grind [updLat_kept, set_kept, foldl_kept]

theorem latchPop_kept (i : Nat) (s : State) (h : Kept k s) : Kept k (latchPop i s) := by
  unfold latchPop
  grind [latRefresh_kept, updLat_kept, foldl_kept]

theorem latchFlush_kept (i : Nat) (s : State) (h : Kept k s) : Kept k (latchFlush i s) := by
  unfold latchFlush
  grind [latRefresh_kept, updLat_kept, foldl_kept]

theorem tdcCheck_kept (i : Nat) (ok : Bool) (s : State) (h : Kept k s) : Kept k (tdcCheck i ok s) := by
  unfold tdcCheck
  grind [raise_kept, set_kept, foldl_kept]

theorem updAin_kept (sdi : Bool) (x2 : Nat) (f : Sys2Proof.Machine.AinSt → Sys2Proof.Machine.AinSt) (s : State) (h : Kept k s) :
    Kept k (State.updAin s sdi x2 f) := by
  unfold State.updAin
  grind [Kept, Good, State.tablesOk, foldl_kept]

theorem updConv_kept (c : Nat) (f : Sys2Proof.Machine.ConvSt → Sys2Proof.Machine.ConvSt) (s : State) (h : Kept k s) :
    Kept k (State.updConv s c f) := by
  unfold State.updConv
  grind [Kept, Good, State.tablesOk, foldl_kept]

theorem adcFlag_kept (sdi : Bool) (x1 : Nat) (f : Sys2Proof.Machine.Fld) (s : State) (h : Kept k s) : Kept k (adcFlag sdi x1 f s) := by
  unfold adcFlag
  grind [flag_kept, note_kept, foldl_kept]

theorem closeSegment_kept (sdi : Bool) (x1 : Nat) (s : State) (h : Kept k s) : Kept k (closeSegment sdi x1 s) := by
  unfold closeSegment
  grind [updAin_kept, foldl_kept]

theorem raiseInrdy_kept (n : Nat) (s : State) (h : Kept k s) : Kept k (raiseInrdy n s) := by
  unfold raiseInrdy
  grind (splits := 30) (gen := 30) (ematch := 30) [engIrq_kept, foldl_kept, host_upd_kept, md_upd_kept, plan_upd_kept, loop_upd_kept,
    web_upd_kept, spar_upd_kept, pwm_upd_kept, adc_upd_kept, fbk_upd_kept, cap_upd_kept, net_upd_kept, fld_upd_kept, pwr_upd_kept,
    img_upd_kept, free_upd_kept]

theorem inrdyCheck_kept (n : Nat) (s : State) (h : Kept k s) : Kept k (inrdyCheck n s) := by
  unfold inrdyCheck
  grind [raiseInrdy_kept, foldl_kept]

theorem inrdyTimeout_kept (n : Nat) (s : State) (h : Kept k s) : Kept k (inrdyTimeout n s) := by
  unfold inrdyTimeout
  grind [raiseInrdy_kept, foldl_kept]

theorem inrdyCheckAll_kept (sdi : Bool) (x1 : Nat) (s : State) (h : Kept k s) : Kept k (inrdyCheckAll sdi x1 s) := by
  unfold inrdyCheckAll
  grind [forEach_kept, inrdyCheck_kept, foldl_kept]

theorem updatePoint_kept (n : Nat) (s : State) (h : Kept k s) : Kept k (updatePoint n s) := by
  unfold updatePoint
  grind (splits := 30) (gen := 30) (ematch := 30) [slotTEnd_kept, forEach_kept, closeSegment_kept, foldl_kept, host_upd_kept,
    md_upd_kept, plan_upd_kept, loop_upd_kept, web_upd_kept, spar_upd_kept, pwm_upd_kept, adc_upd_kept, fbk_upd_kept, cap_upd_kept,
    net_upd_kept, fld_upd_kept, pwr_upd_kept, img_upd_kept, free_upd_kept]

theorem chanFault_kept (sdi : Bool) (x1 : Nat) (cause : Nat) (conv : Nat) (s : State) (h : Kept k s) :
    Kept k (chanFault sdi x1 cause conv s) := by
  unfold chanFault
  grind [raise_kept, set_kept, forEach_kept, loopFault_kept, foldl_kept]

theorem convRefresh_kept (j : Nat) (s : State) (h : Kept k s) : Kept k (convRefresh j s) := by
  unfold convRefresh
  grind [setB_kept, foldl_kept]

theorem muxChange_kept (c : Nat) (x1 : Nat) (s : State) (h : Kept k s) : Kept k (muxChange c x1 s) := by
  unfold muxChange
  grind [updConv_kept, foldl_kept]

theorem convStart_kept (c : Nat) (at' : Nat) (s : State) (h : Kept k s) : Kept k (convStart c at' s) := by
  unfold convStart
  grind [updConv_kept, set_kept, foldl_kept]

theorem convHalt_kept (c : Nat) (s : State) (h : Kept k s) : Kept k (convHalt c s) := by
  unfold convHalt
  grind [updConv_kept, set_kept, foldl_kept]

theorem convTake_kept (c : Nat) (at' : Nat) (s : State) (h : Kept k s) : Kept k (convTake c at' s) := by
  unfold convTake
  grind [flag_kept, bumpSat_kept, updConv_kept, set_kept, convStart_kept, foldl_kept]

theorem adcTrigger_kept (c : Nat) (at' : Nat) (s : State) (h : Kept k s) : Kept k (adcTrigger c at' s) := by
  unfold adcTrigger
  grind [convTake_kept, foldl_kept]

theorem addSum_kept (sdi : Bool) (x1 : Nat) (v : Int) (clip : Bool) (t : Nat) (s : State) (h : Kept k s) :
    Kept k (addSum sdi x1 v clip t s) := by
  unfold addSum
  grind [updAin_kept, whenB_kept, adcFlag_kept, foldl_kept]

theorem analogScan_kept (x0 : Nat) (s : State) (h : Kept k s) : Kept k (analogScan x0 s) := by
  unfold analogScan
  grind [forEach_kept, analogSample_kept, foldl_kept]

theorem putResult_kept (x0 : Nat) (code : Int) (ovr : Bool) (tag : Nat) (t : Nat) (s : State) (h : Kept k s) :
    Kept k (putResult x0 code ovr tag t s) := by
  unfold putResult
  grind (splits := 30) (gen := 30) (ematch := 30) [set_kept, bump_kept, setI_kept, updAin_kept, whenB_kept, adcFlag_kept, addSum_kept,
    analogScan_kept, inrdyCheckAll_kept, foldl_kept, host_upd_kept, md_upd_kept, plan_upd_kept, loop_upd_kept, web_upd_kept,
    spar_upd_kept, pwm_upd_kept, adc_upd_kept, fbk_upd_kept, cap_upd_kept, net_upd_kept, fld_upd_kept, pwr_upd_kept, img_upd_kept,
    free_upd_kept]

theorem diagResult_kept (c : Nat) (x1 : Nat) (code : Int) (level : Nat) (s : State) (h : Kept k s) :
    Kept k (diagResult c x1 code level s) := by
  unfold diagResult
  grind [set_kept, flag_kept, bumpSat_kept, raise_kept, convHalt_kept, convRefresh_kept, forEach_kept, chanFault_kept, foldl_kept]

theorem convNext_kept (c : Nat) (t : Nat) (s : State) (h : Kept k s) : Kept k (convNext c t s) := by
  unfold convNext
  grind [updConv_kept, set_kept, foldl_kept]

theorem adcResult_kept (c : Nat) (code : Int) (s : State) (h : Kept k s) : Kept k (adcResult c code s) := by
  unfold adcResult
  grind [bump_kept, putResult_kept, diagResult_kept, updConv_kept, convNext_kept, muxChange_kept, foldl_kept]

theorem convChanged_kept (old : Sys2Proof.Machine.State) (new : Sys2Proof.Machine.State) (c : Nat) (s : State) (h : Kept k s) :
    Kept k (convChanged old new c s) := by
  unfold convChanged
  grind [forEach_kept, updConv_kept, muxChange_kept, convHalt_kept, foldl_kept]

theorem convWrite_kept (c : Nat) (a : Nat) (v : Sys2Proof.W32) (s : State) (h : Kept k s) : Kept k (convWrite c a v s) := by
  unfold convWrite
  grind [setReg_kept, convRefresh_kept, forEach_kept, convChanged_kept, foldl_kept]

theorem convConfig_kept (c : Nat) (a : Nat) (v : Sys2Proof.W32) (s : State) (h : Kept k s) : Kept k (convConfig c a v s) := by
  unfold convConfig
  grind [updConv_kept, set_kept, convWrite_kept, foldl_kept]

theorem convApply_kept (c : Nat) (s : State) (h : Kept k s) : Kept k (convApply c s) := by
  unfold convApply
  grind [updConv_kept, set_kept, convWrite_kept, foldl_kept]

theorem ilvTurn_kept (j : Nat) (s : State) (h : Kept k s) : Kept k (ilvTurn j s) := by
  unfold ilvTurn
  grind [convHalt_kept, updConv_kept, convStart_kept, foldl_kept]

theorem pairConfig_kept (j : Nat) (v : Sys2Proof.W32) (s : State) (h : Kept k s) : Kept k (pairConfig j v s) := by
  unfold pairConfig
  grind [setReg_kept, ilvTurn_kept, forEach_kept, muxChange_kept, convRefresh_kept, foldl_kept]

theorem sdiWord_kept (i : Nat) (value : Int) (run : Nat) (s : State) (h : Kept k s) : Kept k (sdiWord i value run s) := by
  unfold sdiWord
  grind [set_kept, bump_kept, setI_kept, updAin_kept, whenB_kept, adcFlag_kept, addSum_kept, inrdyCheckAll_kept, foldl_kept]

theorem sdiStuck_kept (i : Nat) (s : State) (h : Kept k s) : Kept k (sdiStuck i s) := by
  unfold sdiStuck
  grind [updAin_kept, adcFlag_kept, chanFault_kept, foldl_kept]

theorem sdiConfig_kept (i : Nat) (v : Sys2Proof.W32) (s : State) (h : Kept k s) : Kept k (sdiConfig i v s) := by
  unfold sdiConfig
  grind [setReg_kept, updAin_kept, foldl_kept]

theorem openRecovery_kept (sdi : Bool) (x1 : Nat) (s : State) (h : Kept k s) : Kept k (openRecovery sdi x1 s) := by
  unfold openRecovery
  grind [updAin_kept, set_kept, foldl_kept]

theorem recoveryEnd_kept (sdi : Bool) (x1 : Nat) (s : State) (h : Kept k s) : Kept k (recoveryEnd sdi x1 s) := by
  unfold recoveryEnd
  grind [updAin_kept, set_kept, foldl_kept]

theorem segPublish_kept (sdi : Bool) (x1 : Nat) (s : State) (h : Kept k s) : Kept k (segPublish sdi x1 s) := by
  unfold segPublish
  grind [setReg_kept, inrdyCheckAll_kept, updAin_kept, foldl_kept]

theorem chanRefresh_kept (sdi : Bool) (x1 : Nat) (s : State) (h : Kept k s) : Kept k (chanRefresh sdi x1 s) := by
  unfold chanRefresh
  grind [setB_kept, foldl_kept]

theorem diagClear_kept (c : Nat) (s : State) (h : Kept k s) : Kept k (diagClear c s) := by
  unfold diagClear
  grind [convRefresh_kept, set_kept, forEach_kept, openRecovery_kept, chanRefresh_kept, foldl_kept]

theorem stuckClear_kept (i : Nat) (s : State) (h : Kept k s) : Kept k (stuckClear i s) := by
  unfold stuckClear
  grind [openRecovery_kept, chanRefresh_kept, set_kept, foldl_kept]

theorem diagInject_kept (j : Nat) (s : State) (h : Kept k s) : Kept k (diagInject j s) := by
  unfold diagInject
  grind [Kept, Good, State.tablesOk, updConv_kept, foldl_kept]

theorem loopFlag_kept (a : Nat) (stage : Nat) (bitNo : Nat) (s : State) (h : Kept k s) : Kept k (loopFlag a stage bitNo s) := by
  unfold loopFlag
  grind [updAxisL_kept, note_kept, foldl_kept]

theorem loopFlagIf_kept (a : Nat) (stage : Nat) (bitNo : Nat) (c : Bool) (s : State) (h : Kept k s) :
    Kept k (loopFlagIf a stage bitNo c s) := by
  unfold loopFlagIf
  grind [whenB_kept, loopFlag_kept, foldl_kept]

theorem loopClears_kept (a : Nat) (s : State) (h : Kept k s) : Kept k (loopClears a s) := by
  unfold loopClears
  grind [updAxisL_kept, foldl_kept]

theorem updNotch_kept (a : Nat) (i : Nat) (f : Sys2Proof.Machine.Notch → Sys2Proof.Machine.Notch) (s : State) (h : Kept k s) :
    Kept k (State.updNotch s a i f) := by
  unfold State.updNotch
  grind [updAxisL_kept, foldl_kept]

theorem takeNotches_kept (a : Nat) (s : State) (h : Kept k s) : Kept k (takeNotches a s) := by
  unfold takeNotches
  grind [forEach_kept, updNotch_kept, whenB_kept, updAxisL_kept, foldl_kept]

theorem trackTick_kept (a : Nat) (i : Nat) (s : State) (h : Kept k s) : Kept k (trackTick a i s) := by
  unfold trackTick
  grind [draw_kept, updNotch_kept, loopFlagIf_kept, whenB_kept, raise_kept, foldl_kept]

theorem actualTick_kept (a : Nat) (s : State) (h : Kept k s) : Kept k (actualTick a s) := by
  unfold actualTick
  grind [updAxisL_kept, foldl_kept]

theorem takeCfg_kept (a : Nat) (s : State) (h : Kept k s) : Kept k (takeCfg a s) := by
  unfold takeCfg
  grind [takeNotches_kept, updAxisL_kept, foldl_kept]

theorem idSet_kept (a : Nat) (run : Sys2Proof.Machine.IdRun) (v : Nat) (s : State) (h : Kept k s) : Kept k (idSet a run v s) := by
  unfold idSet
  grind [updAxisL_kept, foldl_kept]

theorem idBegin_kept (a : Nat) (s : State) (h : Kept k s) : Kept k (idBegin a s) := by
  unfold idBegin
  grind [abortIdent_kept, idSet_kept, foldl_kept]

theorem idPoint_kept (a : Nat) (p : Int) (v : Int) (acc : Int) (s : State) (h : Kept k s) : Kept k (idPoint a p v acc s) := by
  unfold idPoint
  grind [updAxis_kept, foldl_kept]

theorem idRest_kept (a : Nat) (s : State) (h : Kept k s) : Kept k (idRest a s) := by
  unfold idRest
  grind [updAxisL_kept, foldl_kept]

theorem idRunTick_kept (a : Nat) (s : State) (h : Kept k s) : Kept k (idRunTick a s) := by
  unfold idRunTick
  grind [updAxisL_kept, idBegin_kept, idPoint_kept, idRest_kept, abortIdent_kept, foldl_kept]

theorem idCurrent_kept (a : Nat) (s : State) (h : Kept k s) : Kept k (idCurrent a s).2 := by
  unfold idCurrent
  grind [abortIdent_kept, idRunTick_kept, draw_kept, foldl_kept]

theorem idDrive_kept (n : Nat) (s : State) (h : Kept k s) : Kept k (idDrive n s).2 := by
  unfold idDrive
  grind [draw_kept, foldl_kept]

theorem servoTick_kept (a : Nat) (before : Int) (s0 : State) (h : Kept k s0) : Kept k (servoTick a before s0) := by
  unfold servoTick
  grind (splits := 30) (gen := 30) (ematch := 30) [idCurrent_kept, updAxisL_kept, loopFlagIf_kept, foldl_kept, host_upd_kept,
    md_upd_kept, plan_upd_kept, loop_upd_kept, web_upd_kept, spar_upd_kept, pwm_upd_kept, adc_upd_kept, fbk_upd_kept, cap_upd_kept,
    net_upd_kept, shr_upd_kept, fld_upd_kept, pwr_upd_kept, img_upd_kept, dbg_upd_kept, free_upd_kept]

theorem followTick_kept (a : Nat) (s : State) (h : Kept k s) : Kept k (followTick a s) := by
  unfold followTick
  grind [loopFlagIf_kept, loopFault_kept, foldl_kept]

theorem stepperTick_kept (a : Nat) (s : State) (h : Kept k s) : Kept k (stepperTick a s) := by
  unfold stepperTick
  grind [updAxisL_kept, foldl_kept]

theorem loopTick_kept (a : Nat) (s : State) (h : Kept k s) : Kept k (loopTick a s) := by
  unfold loopTick
  grind [actualTick_kept, forEach_kept, trackTick_kept, stepperTick_kept, servoTick_kept, followTick_kept, foldl_kept]

theorem updateBegin_kept (n : Nat) (s : State) (h : Kept k s) : Kept k (updateBegin n s) := by
  unfold updateBegin
  grind [loopFlagIf_kept, whenB_kept, raise_kept, updAxisL_kept, foldl_kept]

theorem writeDuty_kept (n : Nat) (p : Nat) (duty : Int) (s : State) (h : Kept k s) : Kept k (writeDuty n p duty s) := by
  unfold writeDuty
  grind [set_kept, updSlot_kept, foldl_kept]

theorem writeServo_kept (n : Nat) (va : Int) (vb : Int) (vbus : Int) (s : State) (h : Kept k s) : Kept k (writeServo n va vb vbus s) := by
  unfold writeServo
  grind [writeDuty_kept, foldl_kept]

theorem writeStepper_kept (n : Nat) (va : Int) (vb : Int) (vbus : Int) (s : State) (h : Kept k s) :
    Kept k (writeStepper n va vb vbus s) := by
  unfold writeStepper
  grind [writeDuty_kept, foldl_kept]

theorem lostStep_kept (n : Nat) (delta : Int) (s : State) (h : Kept k s) : Kept k (lostStep n delta s) := by
  unfold lostStep
  grind [updAxisL_kept, loopFlag_kept, raise_kept, loopFault_kept, foldl_kept]

theorem stepAngle_kept (n : Nat) (delta : Int) (s : State) (h : Kept k s) : Kept k (stepAngle n delta s) := by
  unfold stepAngle
  grind [updAxisL_kept, lostStep_kept, foldl_kept]

theorem updateEnd_kept (n : Nat) (s0 : State) (h : Kept k s0) : Kept k (updateEnd n s0) := by
  unfold updateEnd
  extract_lets ax c step made tOut thc thm sa
  have hsa : Kept k sa := by
    unfold sa
    split
    · exact stepAngle_kept _ _ _ h
    · exact h
  have hd := idDrive_kept n sa hsa
  revert hd
  generalize idDrive n sa = p
  obtain ⟨drive, s⟩ := p
  intro hd
  dsimp -zeta only at hd ⊢
  extract_lets x m al0 be0 al be thRef thOut id iq dt dSet qSet vbus vmax vd2 vq2 holdD holdQ va vb ovr sat s1 s2 s3 s4
  have h1 : Kept k s1 := updAxisL_kept _ _ _ hd
  have h2 : Kept k s2 := loopFlagIf_kept _ _ _ _ _ (loopFlagIf_kept _ _ _ _ _ (loopFlagIf_kept _ _ _ _ _
    (loopFlagIf_kept _ _ _ _ _ (loopFlagIf_kept _ _ _ _ _ h1))))
  have h3 : Kept k s3 := by
    unfold s3
    split
    · exact loopFlagIf_kept _ _ _ _ _ (writeStepper_kept _ _ _ _ _ h2)
    · exact writeServo_kept _ _ _ _ _ h2
  have h4 : Kept k s4 := pwmCommitAt_kept _ _ _ h3
  split
  · exact loopFault_kept _ _ _ _ _ h4
  · split
    · exact loopFault_kept _ _ _ _ _ h4
    · exact h4

theorem gateWrite_kept (n : Nat) (s : State) (h : Kept k s) : Kept k (gateWrite n s) := by
  unfold gateWrite
  grind [updAxisL_kept, setReg_kept, foldl_kept]

theorem isenseCheck_kept (n : Nat) (s : State) (h : Kept k s) : Kept k (isenseCheck n s) := by
  unfold isenseCheck
  grind [updAxisL_kept, loopFlagIf_kept, whenB_kept, raise_kept, foldl_kept]

theorem isenseCheckAll_kept (runs : Nat → Bool) (s : State) (h : Kept k s) : Kept k (isenseCheckAll runs s) := by
  unfold isenseCheckAll
  grind [forEach_kept, gateWrite_kept, isenseCheck_kept, foldl_kept]

theorem closeLoops_kept (a : Nat) (s : State) (h : Kept k s) : Kept k (closeLoops a s) := by
  unfold closeLoops
  grind [updAxisL_kept, updAxis_kept, foldl_kept]

theorem applyIf_kept (reasons : List (Bool × Nat)) (clamps : Nat) (f : Sys2Proof.Machine.State → Sys2Proof.Machine.State) (h_f : ∀ t,
    Kept k t → Kept k (f t)) (s : State) (h : Kept k s) : Kept k (applyIf reasons s clamps f).1 := by
  unfold applyIf
  grind [foldl_kept]

theorem updCfg_kept (a : Nat) (f : Sys2Proof.Machine.LoopCfg → Sys2Proof.Machine.LoopCfg) (s : State) (h : Kept k s) :
    Kept k (updCfg a f s) := by
  unfold updCfg
  grind [updAxisL_kept, foldl_kept]

theorem opMotor_kept (d : Sys2Proof.Desc) (s : State) (h : Kept k s) : Kept k (opMotor d s).1 := by
  unfold opMotor
  grind [applyIf_kept, updCfg_kept, foldl_kept]

theorem opIsense_kept (d : Sys2Proof.Desc) (s : State) (h : Kept k s) : Kept k (opIsense d s).1 := by
  unfold opIsense
  grind [applyIf_kept, updCfg_kept, isenseCheck_kept, foldl_kept]

theorem opCurrentLoop_kept (d : Sys2Proof.Desc) (s : State) (h : Kept k s) : Kept k (opCurrentLoop d s).1 := by
  unfold opCurrentLoop
  grind [applyIf_kept, updCfg_kept, foldl_kept]

theorem opVelocityLoop_kept (d : Sys2Proof.Desc) (s : State) (h : Kept k s) : Kept k (opVelocityLoop d s).1 := by
  unfold opVelocityLoop
  grind [applyIf_kept, updCfg_kept, foldl_kept]

theorem opPositionLoop_kept (d : Sys2Proof.Desc) (s : State) (h : Kept k s) : Kept k (opPositionLoop d s).1 := by
  unfold opPositionLoop
  grind [applyIf_kept, updCfg_kept, foldl_kept]

theorem defineNotch_kept (a : Nat) (i : Nat) (n : Sys2Proof.Machine.Notch) (s : State) (h : Kept k s) : Kept k (defineNotch a i n s) := by
  unfold defineNotch
  grind [updAxisL_kept, foldl_kept]

theorem opNotch_kept (d : Sys2Proof.Desc) (s : State) (h : Kept k s) : Kept k (opNotch d s).1 := by
  unfold opNotch
  grind [applyIf_kept, defineNotch_kept, foldl_kept]

theorem opNotchRaw_kept (d : Sys2Proof.Desc) (s : State) (h : Kept k s) : Kept k (opNotchRaw d s).1 := by
  unfold opNotchRaw
  grind [applyIf_kept, defineNotch_kept, foldl_kept]

theorem opStepper_kept (d : Sys2Proof.Desc) (s : State) (h : Kept k s) : Kept k (opStepper d s).1 := by
  unfold opStepper
  grind [applyIf_kept, updCfg_kept, foldl_kept]

theorem opLoopFlagsClr_kept (d : Sys2Proof.Desc) (s : State) (h : Kept k s) : Kept k (opLoopFlagsClr d s).1 := by
  unfold opLoopFlagsClr
  grind [applyIf_kept, updAxisL_kept, foldl_kept]

theorem idGo_kept (a : Nat) (st : Nat) (s : State) (h : Kept k s) : Kept k (idGo a st s) := by
  unfold idGo
  grind [updAxisL_kept, raise_kept, foldl_kept]

theorem opIdentify_kept (d : Sys2Proof.Desc) (s : State) (h : Kept k s) : Kept k (opIdentify d s).1 := by
  unfold opIdentify
  grind [applyIf_kept, idGo_kept, updAxisL_kept, foldl_kept]

theorem opIdentifyAbort_kept (d : Sys2Proof.Desc) (s : State) (h : Kept k s) : Kept k (opIdentifyAbort d s).1 := by
  unfold opIdentifyAbort
  grind [applyIf_kept, abortIdent_kept, foldl_kept]

theorem idPropose_kept (a : Nat) (s : State) (h : Kept k s) : Kept k (idPropose a s) := by
  unfold idPropose
  grind [updAxisL_kept, forEach_kept, updNotch_kept, foldl_kept]

theorem idStep_kept (a : Nat) (r : Sys2Proof.IdResult) (cause : Option Nat) (s : State) (h : Kept k s) : Kept k (idStep a r cause s) := by
  unfold idStep
  grind [abortIdent_kept, updAxisL_kept, idPropose_kept, idGo_kept, foldl_kept]

theorem writeReport_kept (d : Sys2Proof.Desc) (bytes : List Sys2Proof.Byte) (s : State) (h : Kept k s) :
    Kept k (writeReport d bytes s).1 := by
  unfold writeReport
  grind [ringPut_kept, foldl_kept]

theorem opLoopReport_kept (d : Sys2Proof.Desc) (s : State) (h : Kept k s) : Kept k (opLoopReport d s).1 := by
  unfold opLoopReport
  grind [writeReport_kept, updAxisL_kept, foldl_kept]

theorem opIdReport_kept (d : Sys2Proof.Desc) (s : State) (h : Kept k s) : Kept k (opIdReport d s).1 := by
  unfold opIdReport
  grind [writeReport_kept, foldl_kept]

end Sys2Proof.Machine
end

