-- ==== Sys2Proof/Laws/KeptWeb.lean ====
section
/-!
SUPPORT. What the operations of the web line, capture, PTP and Halyard leave alone: one lemma for each operation, in its file's order.
-/
namespace Sys2Proof.Machine

set_option Elab.async false
variable {k : Keep}

theorem updPort_kept (p : Nat) (f : Sys2Proof.Machine.PortSt → Sys2Proof.Machine.PortSt) (s : State) (h : Kept k s) :
    Kept k (State.updPort s p f) := by
  unfold State.updPort
  grind [Kept, Good, State.tablesOk, foldl_kept]

theorem updPtp_kept (f : Sys2Proof.Machine.PtpSt → Sys2Proof.Machine.PtpSt) (s : State) (h : Kept k s) : Kept k (State.updPtp s f) := by
  unfold State.updPtp
  grind [Kept, Good, State.tablesOk, foldl_kept]

theorem updPp_kept (p : Nat) (f : Sys2Proof.Machine.PtpPort → Sys2Proof.Machine.PtpPort) (s : State) (h : Kept k s) :
    Kept k (State.updPp s p f) := by
  unfold State.updPp
  grind [updPtp_kept, foldl_kept]

theorem setClock_kept (st : Nat) (s : State) (h : Kept k s) : Kept k (setClock st s) := by
  unfold setClock
  grind [set_kept, updPtp_kept, raise_kept, foldl_kept]

theorem followPort_kept (p : Option Nat) (s : State) (h : Kept k s) : Kept k (followPort p s) := by
  unfold followPort
  grind [set64_kept, set_kept, setClock_kept, updPtp_kept, foldl_kept]

theorem ptpRoles_kept (s : State) (h : Kept k s) : Kept k (ptpRoles s) := by
  unfold ptpRoles
  grind [setB_kept, forEach_kept, updPp_kept, set_kept, followPort_kept, foldl_kept]

theorem askStep_kept (amount : Int) (first : Bool) (s : State) (h : Kept k s) : Kept k (askStep amount first s) := by
  unfold askStep
  grind [setB_kept, updPtp_kept, foldl_kept]

theorem servo_kept (p : Nat) (o : Int) (s : State) (h : Kept k s) : Kept k (servo p o s) := by
  unfold servo
  extract_lets
  exact setB_kept _ _ _ (setI_kept _ _ _ (clk_incr_kept _ _ (updPtp_kept _ _ h)))

theorem ptpOffset_kept (p : Nat) (o : Int) (s : State) (h : Kept k s) : Kept k (ptpOffset p o s) := by
  unfold ptpOffset
  grind [setReg_kept, setClock_kept, askStep_kept, updPtp_kept, set_kept, flag_kept, whenB_kept, raise_kept, servo_kept, foldl_kept]

theorem syncUse_kept (p : Nat) (t1 : Int) (t2 : Int) (c : Int) (s : State) (h : Kept k s) : Kept k (syncUse p t1 t2 c s) := by
  unfold syncUse
  grind [updPp_kept, ptpOffset_kept, foldl_kept]

theorem ptpRx_kept (p : Nat) (s : State) (h : Kept k s) : Kept k (State.ptpRx s p) := by
  unfold State.ptpRx
  grind [bump_kept, foldl_kept]

theorem ptpForward_kept (p : Nat) (kind : Nat) (seq : BitVec 16) (corr : Int) (s : State) (h : Kept k s) :
    Kept k (ptpForward p kind seq corr s) := by
  unfold ptpForward
  grind [bump_kept, updPp_kept, foldl_kept]

theorem ptpSend_kept (p : Nat) (kind : Nat) (seq : Nat) (corr : Int) (n : Nat) (s : State) (h : Kept k s) :
    Kept k (ptpSend p kind seq corr n s) := by
  unfold ptpSend
  grind [set_kept, updPp_kept, foldl_kept]

theorem masterExpire_kept (p : Nat) (s : State) (h : Kept k s) : Kept k (masterExpire p s) := by
  unfold masterExpire
  grind [updPp_kept, ptpRoles_kept, foldl_kept]

theorem announceTimeout_kept (p : Nat) (s : State) (h : Kept k s) : Kept k (announceTimeout p s) := by
  unfold announceTimeout
  grind [masterExpire_kept, foldl_kept]

theorem syncTimeout_kept (p : Nat) (s : State) (h : Kept k s) : Kept k (syncTimeout p s) := by
  unfold syncTimeout
  grind [masterExpire_kept, foldl_kept]

theorem setD_kept (d : Int) (s : State) (h : Kept k s) : Kept k (setD d s) := by
  unfold setD
  grind [set_kept, updPtp_kept, foldl_kept]

theorem pathHoldExpire_kept (s : State) (h : Kept k s) : Kept k (pathHoldExpire s) := by
  unfold pathHoldExpire
  grind [updPtp_kept, setD_kept, raise_kept, set_kept, foldl_kept]

theorem delayTimeout_kept (p : Nat) (s : State) (h : Kept k s) : Kept k (delayTimeout p s) := by
  unfold delayTimeout
  grind [bumpSat_kept, updPp_kept, foldl_kept]

theorem ptpExpire_kept (p : Nat) (s : State) (h : Kept k s) : Kept k (ptpExpire p s) := by
  unfold ptpExpire
  grind [pathHoldExpire_kept, delayTimeout_kept, announceTimeout_kept, syncTimeout_kept, foldl_kept]

theorem ptpSync_kept (p : Nat) (m : Sys2Proof.PtpMsg) (egress : Sys2Proof.W64) (was : State) (h : Kept k was) :
    Kept k (ptpSync p m egress was) := by
  unfold ptpSync
  grind [ptpExpire_kept, ptpRx_kept, updPp_kept, followPort_kept, ptpForward_kept, syncUse_kept, foldl_kept]

theorem ptpFollowUp_kept (p : Nat) (m : Sys2Proof.PtpMsg) (residence : Sys2Proof.W64) (was : State) (h : Kept k was) :
    Kept k (ptpFollowUp p m residence was) := by
  unfold ptpFollowUp
  grind [ptpExpire_kept, ptpRx_kept, ptpForward_kept, syncUse_kept, updPp_kept, foldl_kept]

theorem ptpAnnounce_kept (p : Nat) (a : Sys2Proof.PtpAnn) (was : State) (h : Kept k was) : Kept k (ptpAnnounce p a was) := by
  unfold ptpAnnounce
  grind [ptpExpire_kept, ptpRx_kept, ptpForward_kept, updPp_kept, ptpRoles_kept, foldl_kept]

theorem pathMeasure_kept (p : Nat) (m : Int) (s : State) (h : Kept k s) : Kept k (pathMeasure p m s) := by
  unfold pathMeasure
  grind [setD_kept, updPtp_kept, raise_kept, set_kept, flag_kept, foldl_kept]

theorem delayReq_kept (p : Nat) (m : Sys2Proof.PtpMsg) (egress : Sys2Proof.W64) (s : State) (h : Kept k s) :
    Kept k (delayReq p m egress s) := by
  unfold delayReq
  grind [ptpRx_kept, ptpForward_kept, ptpSend_kept, foldl_kept]

theorem delayResp_kept (p : Nat) (m : Sys2Proof.PtpMsg) (was : State) (h : Kept k was) : Kept k (delayResp p m was) := by
  unfold delayResp
  grind [ptpExpire_kept, ptpRx_kept, ptpForward_kept, pathMeasure_kept, updPp_kept, foldl_kept]

theorem pdelayReq_kept (p : Nat) (m : Sys2Proof.PtpMsg) (egress : Sys2Proof.W64) (s : State) (h : Kept k s) :
    Kept k (pdelayReq p m egress s) := by
  unfold pdelayReq
  grind [ptpRx_kept, ptpForward_kept, ptpSend_kept, foldl_kept]

theorem pdelayResp_kept (p : Nat) (m : Sys2Proof.PtpMsg) (t3 : Sys2Proof.W64) (egress : Sys2Proof.W64) (was : State) (h : Kept k was) :
    Kept k (pdelayResp p m t3 egress was) := by
  unfold pdelayResp
  grind [ptpExpire_kept, ptpRx_kept, ptpForward_kept, pathMeasure_kept, updPp_kept, foldl_kept]

theorem ptpTransmit_kept (p : Nat) (kind : Nat) (stamp : Sys2Proof.W64) (s : State) (h : Kept k s) :
    Kept k (ptpTransmit p kind stamp s) := by
  unfold ptpTransmit
  grind [updPp_kept, ptpSend_kept, foldl_kept]

theorem authLapse_kept (s : State) (h : Kept k s) : Kept k (authLapse s) := by
  unfold authLapse
  grind [updPtp_kept, set_kept, foldl_kept]

theorem opPtpStep_kept (d : Sys2Proof.Desc) (s : State) (h : Kept k s) : Kept k (opPtpStep d s).1 := by
  unfold opPtpStep
  grind [askStep_kept, updPtp_kept, set_kept, foldl_kept]

theorem updNet_kept (f : Sys2Proof.Machine.NetSt → Sys2Proof.Machine.NetSt) (s : State) (h : Kept k s) : Kept k (State.updNet s f) := by
  unfold State.updNet
  grind [Kept, Good, State.tablesOk, foldl_kept]

theorem cmpRefresh_kept (s : State) (h : Kept k s) : Kept k (cmpRefresh s) := by
  unfold cmpRefresh
  grind [set_kept, foldl_kept]

theorem armOne_kept (e : Sys2Proof.Machine.Timed) (s : State) (h : Kept k s) : Kept k (armOne e s) := by
  unfold armOne
  grind [updNet_kept, foldl_kept]

theorem armAll_kept (n : Nat) (s : State) (h : Kept k s) : Kept k (armAll n s) := by
  induction n generalizing s with
  | zero => exact h
  | succ n ih =>
    unfold armAll
    extract_lets due
    cases due with
    | nil => exact h
    | cons a r => exact ih _ (armOne_kept _ _ h)

theorem compareArm_kept (s : State) (h : Kept k s) : Kept k (compareArm s) := by
  unfold compareArm
  grind [cmpRefresh_kept, armAll_kept, foldl_kept]

theorem disarmAll_kept (s : State) (h : Kept k s) : Kept k (disarmAll s) := by
  unfold disarmAll
  grind [cmpRefresh_kept, updNet_kept, foldl_kept]

theorem compareFire_kept (c : Nat) (s : State) (h : Kept k s) : Kept k (compareFire c s) := by
  unfold compareFire
  grind [updNet_kept, raise_kept, cmpRefresh_kept, foldl_kept]

theorem opTimeCompare_kept (d : Sys2Proof.Desc) (s : State) (h : Kept k s) : Kept k (opTimeCompare d s).1 := by
  unfold opTimeCompare
  grind [cmpRefresh_kept, updNet_kept, foldl_kept]

theorem opTimeCompareCancel_kept (d : Sys2Proof.Desc) (s : State) (h : Kept k s) : Kept k (opTimeCompareCancel d s).1 := by
  unfold opTimeCompareCancel
  grind [forEach_kept, updNet_kept, cmpRefresh_kept, foldl_kept]

theorem txtsRefresh_kept (p : Nat) (s : State) (h : Kept k s) : Kept k (txtsRefresh p s) := by
  unfold txtsRefresh
  grind [set_kept, foldl_kept]

theorem takeEntry_kept (f : Sys2Proof.Machine.TxFrame) (ts : Bool) (s : State) (h : Kept k s) : Kept k (takeEntry f ts s).2 := by
  unfold takeEntry
  grind [txtsRefresh_kept, updPort_kept, bumpSat_kept, flag_kept, raise_kept, foldl_kept]

theorem entryReady_kept (p : Nat) (f : Sys2Proof.Machine.TxFrame) (status : Nat) (time : Nat) (s : State) (h : Kept k s) :
    Kept k (entryReady p f status time s) := by
  unfold entryReady
  grind [txtsRefresh_kept, updPort_kept, foldl_kept]

theorem sentFrame_kept (p : Nat) (b : List Sys2Proof.Byte) (s : State) (h : Kept k s) : Kept k (sentFrame p b s) := by
  unfold sentFrame
  grind [updNet_kept, foldl_kept]

theorem txStamp_kept (p : Nat) (stamp : Sys2Proof.W64) (s : State) (h : Kept k s) : Kept k (txStamp p stamp s) := by
  unfold txStamp
  grind [bump_kept, updPort_kept, sentFrame_kept, whenB_kept, raiseAt_kept, bumpSat_kept, entryReady_kept, foldl_kept]

theorem timedLaunch_kept (x0 : Nat) (s : State) (h : Kept k s) : Kept k (timedLaunch x0 s) := by
  unfold timedLaunch
  grind [updPort_kept, updNet_kept, raise_kept, bumpSat_kept, foldl_kept]

theorem opNetSend_kept (d : Sys2Proof.Desc) (s : State) (h : Kept k s) : Kept k (opNetSend d s).1 := by
  unfold opNetSend
  grind [takeEntry_kept, cmpRefresh_kept, updNet_kept, updPort_kept, foldl_kept]

theorem abortFrames_kept (p : Nat) (s : State) (h : Kept k s) : Kept k (abortFrames p s) := by
  unfold abortFrames
  grind [updNet_kept, cmpRefresh_kept, entryReady_kept, updPort_kept, foldl_kept]

theorem txtsRead_kept (p : Nat) (s : State) (h : Kept k s) : Kept k (txtsRead p s) := by
  unfold txtsRead
  grind (splits := 30) (gen := 30) (ematch := 30) [setReg_kept, set64_kept, foldl_kept, host_upd_kept, md_upd_kept, plan_upd_kept,
    loop_upd_kept, web_upd_kept, spar_upd_kept, pwm_upd_kept, adc_upd_kept, fbk_upd_kept, cap_upd_kept, net_upd_kept, fld_upd_kept,
    pwr_upd_kept, img_upd_kept, free_upd_kept]

theorem txtsPop_kept (p : Nat) (s : State) (h : Kept k s) : Kept k (txtsPop p s) := by
  unfold txtsPop
  grind [txtsRefresh_kept, updPort_kept, foldl_kept]

theorem netRate_kept (s : State) (h : Kept k s) : Kept k (netRate s) := by
  unfold netRate
  grind [Kept, Good, State.tablesOk, set_kept, setReg_kept, foldl_kept]

theorem updNode_kept (n : Nat) (f : Sys2Proof.Machine.Node → Sys2Proof.Machine.Node) (s : State) (h : Kept k s) :
    Kept k (State.updNode s n f) := by
  unfold State.updNode
  grind [updNet_kept, foldl_kept]

theorem loadRefresh_kept (s : State) (h : Kept k s) : Kept k (loadRefresh s) := by
  unfold loadRefresh
  grind [set_kept, foldl_kept]

theorem nodeLeave_kept (n : Nat) (cause : Nat) (s : State) (h : Kept k s) : Kept k (nodeLeave n cause s) := by
  unfold nodeLeave
  grind [set_kept, updNode_kept, raise_kept, forEach_kept, updAxis_kept, loopFault_kept, loadRefresh_kept, foldl_kept]

theorem portLeave_kept (p : Nat) (cause : Nat) (s : State) (h : Kept k s) : Kept k (portLeave p cause s) := by
  unfold portLeave
  grind [forEach_kept, nodeLeave_kept, foldl_kept]

theorem linkChange_kept (p : Nat) (up : Bool) (speed : Nat) (s : State) (h : Kept k s) : Kept k (linkChange p up speed s) := by
  unfold linkChange
  grind [Kept, Good, State.tablesOk, setB_kept, set_kept, abortFrames_kept, flag_kept, portLeave_kept, raise_kept, loadRefresh_kept,
    foldl_kept]

theorem portRole_kept (p : Nat) (mode : Nat) (s : State) (h : Kept k s) : Kept k (portRole p mode s) := by
  unfold portRole
  grind [set_kept, portLeave_kept, abortFrames_kept, loadRefresh_kept, setB_kept, foldl_kept]

theorem rxFrame_kept (p : Nat) (err : Bool) (s : State) (h : Kept k s) : Kept k (rxFrame p err s) := by
  unfold rxFrame
  grind [bump_kept, foldl_kept]

theorem halRx_kept (p : Nat) (s : State) (h : Kept k s) : Kept k (State.halRx s p) := by
  unfold State.halRx
  grind [bump_kept, foldl_kept]

theorem refuseEvent_kept (n : Nat) (cause : Nat) (load : Nat) (s : State) (h : Kept k s) : Kept k (refuseEvent n cause load s) := by
  unfold refuseEvent
  grind [raise_kept, foldl_kept]

theorem nodeRefuse_kept (n : Nat) (cause : Nat) (load : Nat) (s : State) (h : Kept k s) : Kept k (nodeRefuse n cause load s) := by
  unfold nodeRefuse
  grind [updNode_kept, set_kept, whenB_kept, refuseEvent_kept, foldl_kept]

theorem nodeCheck_kept (n : Nat) (p : Nat) (a : Sys2Proof.HalAnnounce) (s : State) (h : Kept k s) : Kept k (nodeCheck n p a s) := by
  unfold nodeCheck
  grind [updNode_kept, nodeRefuse_kept, foldl_kept]

theorem halAnnounce_kept (p : Nat) (a : Sys2Proof.HalAnnounce) (s : State) (h : Kept k s) : Kept k (halAnnounce p a s) := by
  unfold halAnnounce
  grind [halRx_kept, forEach_kept, nodeLeave_kept, raise_kept, updNet_kept, nodeCheck_kept, foldl_kept]

theorem joinReq_kept (n : Nat) (s : State) (h : Kept k s) : Kept k (joinReq n s) := by
  unfold joinReq
  grind [updNode_kept, set_kept, bump_kept, sentFrame_kept, foldl_kept]

theorem joinAck_kept (p : Nat) (mac : BitVec 48) (n : Nat) (s : State) (h : Kept k s) : Kept k (joinAck p mac n s) := by
  unfold joinAck
  grind [halRx_kept, loadRefresh_kept, updNode_kept, set_kept, foldl_kept]

theorem joinFail_kept (n : Nat) (s : State) (h : Kept k s) : Kept k (joinFail n s) := by
  unfold joinFail
  grind [updNode_kept, set_kept, loadRefresh_kept, refuseEvent_kept, foldl_kept]

theorem joinTimeout_kept (n : Nat) (s : State) (h : Kept k s) : Kept k (joinTimeout n s) := by
  unfold joinTimeout
  grind [joinFail_kept, foldl_kept]

theorem partnerWatchdog_kept (n : Nat) (s : State) (h : Kept k s) : Kept k (partnerWatchdog n s) := by
  unfold partnerWatchdog
  grind [nodeLeave_kept, joinFail_kept, foldl_kept]

theorem halLeave_kept (p : Nat) (mac : BitVec 48) (s : State) (h : Kept k s) : Kept k (halLeave p mac s) := by
  unfold halLeave
  grind [forEach_kept, updNode_kept, nodeLeave_kept, halRx_kept, foldl_kept]

theorem halDiscover_kept (s : State) (h : Kept k s) : Kept k (halDiscover s) := by
  unfold halDiscover
  grind [forEach_kept, bump_kept, sentFrame_kept, updNet_kept, foldl_kept]

theorem halRepeat_kept (s : State) (h : Kept k s) : Kept k (halRepeat s) := by
  unfold halRepeat
  grind [forEach_kept, set_kept, updPort_kept, foldl_kept]

theorem halOutput_kept (s : State) (h : Kept k s) : Kept k (halOutput s) := by
  unfold halOutput
  grind [forEach_kept, updPort_kept, draw_kept, updNode_kept, set_kept, foldl_kept]

theorem halReply_kept (p : Nat) (r : HalReply) (s : State) (h : Kept k s) : Kept k (halReply p r s) := by
  unfold halReply
  extract_lets s0 kk
  have h0 : Kept k s0 := halRx_kept _ _ h
  split
  · exact h0
  · extract_lets lenOk first s1 s2
    split
    · exact h0
    · split
      · exact bumpSat_kept _ _ _ h0
      · have h1 : Kept k s1 := updNode_kept _ _ _ h0
        split
        · exact raise_kept _ _ _ _ _ _ (forEach_kept _ _ (fun _ _ hx => updAxis_kept _ _ _ hx) _ (set_kept _ _ _ h1))
        · exact h1

theorem putHal_kept (e : Nat) (o : Nat) (b : List Sys2Proof.Byte) (s : State) (h : Kept k s) : Kept k (putHal e o b s) := by
  unfold putHal
  grind [updEng_kept, foldl_kept]

theorem axisDeliver_kept (a : Nat) (x1 : Option Sys2Proof.HalAxis) (mark : Nat) (t : Nat) (runs : Nat → Bool) (s : State) (h : Kept k s) :
    Kept k (axisDeliver a x1 mark t runs s) := by
  unfold axisDeliver
  grind [putHal_kept, updAxisL_kept, loopFault_kept, followTick_kept, servoTick_kept, forEach_kept, trackTick_kept, foldl_kept]

theorem halCutoff_kept (runs : Nat → Bool) (s : State) (h : Kept k s) : Kept k (halCutoff runs s) := by
  unfold halCutoff
  grind [forEach_kept, engIrq_kept, putHal_kept, axisDeliver_kept, updNode_kept, foldl_kept]

theorem opNodeCfg_kept (d : Sys2Proof.Desc) (s : State) (h : Kept k s) : Kept k (opNodeCfg d s).1 := by
  unfold opNodeCfg
  grind [nodeLeave_kept, loadRefresh_kept, updNet_kept, set_kept, updNode_kept, foldl_kept]

theorem opNodeIo_kept (d : Sys2Proof.Desc) (s : State) (h : Kept k s) : Kept k (opNodeIo d s).1 := by
  unfold opNodeIo
  grind [updNode_kept, foldl_kept]

theorem opNetReport_kept (d : Sys2Proof.Desc) (s : State) (h : Kept k s) : Kept k (opNetReport d s).1 := by
  unfold opNetReport
  grind [writeReport_kept, foldl_kept]

theorem updCu_kept (u : Nat) (f : Sys2Proof.Machine.CapUnit → Sys2Proof.Machine.CapUnit) (s : State) (h : Kept k s) :
    Kept k (State.updCu s u f) := by
  unfold State.updCu
  grind [Kept, Good, State.tablesOk, foldl_kept]

theorem capPass_kept (u : Nat) (t : Nat) (ws : List Sys2Proof.W32) (s : State) (h : Kept k s) : Kept k (capPass u t ws s) := by
  unfold capPass
  grind [updCu_kept, foldl_kept]

theorem capRefresh_kept (u : Nat) (s : State) (h : Kept k s) : Kept k (State.capRefresh s u) := by
  unfold State.capRefresh
  grind [set_kept, foldl_kept]

theorem capTake_kept (u : Nat) (n : Nat) (s : State) (h : Kept k s) : Kept k (capTake u n s) := by
  unfold capTake
  grind [capRefresh_kept, updCu_kept, set_kept, foldl_kept]

theorem capReturn_kept (u : Nat) (n : Nat) (s : State) (h : Kept k s) : Kept k (capReturn u n s) := by
  unfold capReturn
  grind [capRefresh_kept, updCu_kept, set_kept, foldl_kept]

theorem capQueue_kept (u : Nat) (e : Sys2Proof.Machine.CapEntry) (s : State) (h : Kept k s) : Kept k (capQueue u e s) := by
  unfold capQueue
  grind [Kept, Good, State.tablesOk, foldl_kept]

theorem capBlock_kept (u : Nat) (rs : List Sys2Proof.Machine.CapRec) (s : State) (h : Kept k s) : Kept k (capBlock u rs s) := by
  unfold capBlock
  grind [capRefresh_kept, updCu_kept, capQueue_kept, foldl_kept]

theorem capBlocks_kept (u n : Nat) (s : State) (h : Kept k s) : Kept k (capBlocks u n s) := by
  induction n generalizing s with
  | zero => exact h
  | succ n ih =>
    unfold capBlocks
    dsimp only
    split
    · exact h
    · exact ih _ (capBlock_kept _ _ _ h)

theorem capRingFull_kept (m : Nat) (s : State) (h : Kept k s) : Kept k (capRingFull m s) := by
  unfold capRingFull
  grind [setB_kept, foldl_kept]

theorem capIdle_kept (u : Nat) (s : State) (h : Kept k s) : Kept k (capIdle u s) := by
  unfold capIdle
  grind [capReturn_kept, capRefresh_kept, set_kept, updCu_kept, foldl_kept]

theorem capEnd_kept (u t : Nat) (how : CapHow) (ovf : Option (Nat × Nat)) (s : State) (h : Kept k s) :
    Kept k (capEnd u t how ovf s) := by
  unfold capEnd
  extract_lets x x1 lastT s1 s2 s3 s4a s4 left s5 s6
  have h1 : Kept k s1 := updCu_kept _ _ _ h
  have h3 : Kept k s3 := bump_kept _ _ (capQueue_kept _ _ _ (capBlocks_kept _ _ _ h1))
  have h4 : Kept k s4 := whenB_kept _ _ (fun _ ht => raise_kept _ _ _ _ _ _ (flag_kept _ _ ht)) _ (capReturn_kept _ _ _ h3)
  have h5 : Kept k s5 := capRingFull_kept _ _ h4
  split
  · have h6 : Kept k s6 := set_kept _ _ _ (updCu_kept _ _ _ h5)
    split
    · exact updCu_kept _ _ _ (capTake_kept _ _ _ h6)
    · exact flag_kept _ _ h6
  · exact capIdle_kept _ _ h5

theorem capStore_kept (u : Nat) (r : Sys2Proof.Machine.CapRec) (stop : Bool) (s : State) (h : Kept k s) : Kept k (capStore u r stop s) := by
  unfold capStore
  grind [updCu_kept, capEnd_kept, capTake_kept, capBlock_kept, foldl_kept]

theorem capTrigger_kept (u : Nat) (tr : Sys2Proof.Machine.CapTrig) (forced : Bool) (s : State) (h : Kept k s) :
    Kept k (capTrigger u tr forced s) := by
  unfold capTrigger
  grind [updCu_kept, set_kept, foldl_kept]

theorem capGo_kept (u : Nat) (t : Nat) (f : Sys2Proof.Machine.SeqFind) (s : State) (h : Kept k s) : Kept k (capGo u t f s).1 := by
  unfold capGo
  grind [updCu_kept, set_kept, capTrigger_kept, raiseAt_kept, draw_kept, foldl_kept]

theorem capWords_kept (u : Nat) (s : State) (h : Kept k s) : Kept k (capWords s u).2 := by
  unfold capWords
  grind [draw_kept, foldl_kept]

theorem capBegin_kept (u : Nat) (t : Nat) (s : State) (h : Kept k s) : Kept k (capBegin u t s) := by
  unfold capBegin
  grind [updCu_kept, set_kept, foldl_kept]

theorem capSample_kept (u : Nat) (full : Bool) (s : State) (h : Kept k s) : Kept k (capSample u full s) := by
  unfold capSample
  grind (splits := 30) (gen := 30) (ematch := 30) [capWords_kept, updCu_kept, capPass_kept, capBegin_kept, capEnd_kept, capTrigger_kept,
    capGo_kept, capStore_kept, foldl_kept, host_upd_kept, md_upd_kept, plan_upd_kept, loop_upd_kept, web_upd_kept, spar_upd_kept,
    pwm_upd_kept, adc_upd_kept, fbk_upd_kept, cap_upd_kept, net_upd_kept, fld_upd_kept, pwr_upd_kept, img_upd_kept, free_upd_kept]

theorem capStart_kept (u : Nat) (s : State) (h : Kept k s) : Kept k (capStart u s) := by
  unfold capStart
  grind [updCu_kept, capTake_kept, set_kept, foldl_kept]

theorem capReserve_kept (u : Nat) (s : State) (h : Kept k s) : Kept k (capReserve u s) := by
  unfold capReserve
  grind [capStart_kept, updCu_kept, capTake_kept, foldl_kept]

theorem capCmd_kept (c : CapCmd) (s : State) (h : Kept k s) : Kept k (capCmd c s) := by
  unfold capCmd
  extract_lets u st bad no mine n src s1
  split
  · split
    · exact h
    · generalize capClamp s u c.pre c.post = p
      obtain ⟨pre, post⟩ := p
      dsimp -zeta only
      extract_lets s1 s2
      have h1 : Kept k s1 := updCu_kept _ _ _ h
      have h2 : Kept k s2 := whenB_kept _ _ (fun _ ht => flag_kept _ _ ht) _ (whenB_kept _ _ (fun _ ht => flag_kept _ _ ht) _ h1)
      split
      · exact capStart_kept _ _ h2
      · exact raise_kept _ _ _ _ _ _ (flag_kept _ _ (set_kept _ _ _ h2))
  · split
    · exact capEnd_kept _ _ _ _ _ h
    · split
      · exact h
      · exact capIdle_kept _ _ h
  · split
    · exact updCu_kept _ _ _ h
    · exact h
  · split
    · exact h
    · have h1 : Kept k s1 := h
      exact capIdle_kept _ _ (set_kept _ _ _ h1)
  · exact h

theorem opCapture_kept (d : Sys2Proof.Desc) (s : State) (h : Kept k s) : Kept k (opCapture d s).1 := by
  unfold opCapture
  grind [Kept, Good, State.tablesOk, foldl_kept]

theorem capStrobe_kept (s : State) (h : Kept k s) : Kept k (capStrobe s) := by
  unfold capStrobe
  grind [Kept, Good, State.tablesOk, capCmd_kept, foldl_kept]

theorem capPut_kept (m : Nat) (a : Nat) (b : List Sys2Proof.Byte) (e : Sys2Proof.Machine.CapEntry) (final : Bool) (s : State) (h : Kept
    k s) : Kept k (capPut m a b e final s) := by
  unfold capPut
  grind (splits := 30) (gen := 30) (ematch := 30) [hostWrite_kept, foldl_kept, host_upd_kept, md_upd_kept, plan_upd_kept, loop_upd_kept,
    web_upd_kept, spar_upd_kept, pwm_upd_kept, adc_upd_kept, fbk_upd_kept, cap_upd_kept, net_upd_kept, shr_upd_kept, fld_upd_kept,
    pwr_upd_kept, img_upd_kept, dbg_upd_kept, free_upd_kept]

theorem capRingWrite_kept (m : Nat) (s : State) (h : Kept k s) : Kept k (capRingWrite m s) := by
  unfold capRingWrite
  extract_lets n c i phase
  split
  · exact h
  · split
    · exact h
    · split
      · exact set_kept _ _ _ h
      · extract_lets s1 s2 src s3 s4 s5 s6
        have h1 : Kept k s1 := by
          unfold s1
          split
          · exact h
          · exact capPut_kept _ _ _ _ _ _ h
        have h2 : Kept k s2 := capPut_kept _ _ _ _ _ _ h1
        have h3 : Kept k s3 := h2
        have h4 : Kept k s4 := capRefresh_kept _ _ (setReg_kept _ _ _ h3)
        have h5 : Kept k s5 := by
          unfold s5
          split
          · exact h4
          · exact irq_kept _ _ h4
        exact capRingFull_kept _ _ (whenB_kept _ _ (fun _ ht => raise_kept _ _ _ _ _ _ ht) _ h5)

theorem capRelease_kept (m : Nat) (v : W32) (s : State) (h : Kept k s) : Kept k (capRelease m v s) := by
  unfold capRelease
  extract_lets head tail ovr hh l free src s1 s2
  split
  · exact flag_kept _ _ h
  · have h1 : Kept k s1 := h
    have h2 : Kept k s2 := setReg_kept _ _ _ (set_kept _ _ _ h1)
    exact capRingFull_kept _ _ (whenB_kept _ _ (fun _ ht => flag_kept _ _ ht) _ h2)

theorem capRingDrop_kept (m : Nat) (s : State) (h : Kept k s) : Kept k (capRingDrop m s) := by
  unfold capRingDrop
  grind [Kept, Good, State.tablesOk, capRingFull_kept, set_kept, foldl_kept]

theorem capFault_kept (s : State) (h : Kept k s) : Kept k (capFault s) := by
  unfold capFault
  grind [forEach_kept, capEnd_kept, foldl_kept]

theorem updSpan_kept (x1 : Nat) (f : Sys2Proof.Machine.SpanSt → Sys2Proof.Machine.SpanSt) (s : State) (h : Kept k s) :
    Kept k (State.updSpan s x1 f) := by
  unfold State.updSpan
  grind [Kept, Good, State.tablesOk, foldl_kept]

theorem updWinder_kept (w : Nat) (f : Sys2Proof.Machine.WinderSt → Sys2Proof.Machine.WinderSt) (s : State) (h : Kept k s) :
    Kept k (State.updWinder s w f) := by
  unfold State.updWinder
  grind [Kept, Good, State.tablesOk, foldl_kept]

theorem dropChain_kept (n : Nat) (l : List Nat) (s : State) (h : Kept k s) : Kept k (dropChain n l s) := by
  induction n generalizing l s with
  | zero => exact h
  | succ n ih =>
    cases l with
    | nil => exact h
    | cons a r => exact ih _ _ h

theorem matsClean_kept (s : State) (h : Kept k s) : Kept k (matsClean s) := by
  unfold matsClean
  grind [Kept, Good, State.tablesOk, foldl_kept]

theorem dropSpans_kept (ks : List Nat) (s : State) (h : Kept k s) : Kept k (dropSpans ks s) := dropChain_kept _ _ _ h

theorem spanTakes_kept (x0 : Nat) (ea : Nat) (s : State) (h : Kept k s) : Kept k (spanTakes x0 ea s) := by
  unfold spanTakes
  grind [updSpan_kept, foldl_kept]

theorem winderTakes_kept (w : Nat) (x1 : Nat) (s : State) (h : Kept k s) : Kept k (winderTakes w x1 s) := by
  unfold winderTakes
  grind [updWinder_kept, foldl_kept]

theorem matIn_kept (m : Sys2Proof.Machine.Mat) (s : State) (h : Kept k s) : Kept k (matIn m s) := by
  unfold matIn
  grind [Kept, Good, State.tablesOk, forEach_kept, winderTakes_kept, spanTakes_kept, foldl_kept]

theorem matsEnter_kept (s : State) (h : Kept k s) : Kept k (matsEnter s) :=
  forEach_kept _ _ (fun _ _ hx => matIn_kept _ _ hx) _ h

theorem rollRemove_kept (a : Nat) (s : State) (h : Kept k s) : Kept k (rollRemove a s) := by
  unfold rollRemove
  extract_lets ks s1 src s2
  have h2 : Kept k s2 := dropSpans_kept ks s h
  split
  · exact matsEnter_kept _ h2
  · exact h2

theorem opLine_kept (d : Sys2Proof.Desc) (s : State) (h : Kept k s) : Kept k (opLine d s).1 := by
  unfold opLine
  grind [Kept, Good, State.tablesOk, applyIf_kept, matsEnter_kept, foldl_kept]

theorem opRoll_kept (d : Sys2Proof.Desc) (s : State) (h : Kept k s) : Kept k (opRoll d s).1 := by
  unfold opRoll
  grind [applyIf_kept, updRoll_kept, foldl_kept]

theorem opRollRemove_kept (d : Sys2Proof.Desc) (s : State) (h : Kept k s) : Kept k (opRollRemove d s).1 := by
  unfold opRollRemove
  grind [applyIf_kept, rollRemove_kept, foldl_kept]

theorem opSpan_kept (d : Desc) (s : State) (h : Kept k s) : Kept k (opSpan d s).1 := by
  refine applyIf_kept _ _ _ (fun t ht => ?_) _ h
  extract_lets t1 bad t2
  have h2 : Kept k t2 := dropSpans_kept _ _ (updSpan_kept _ _ _ ht)
  exact h2

theorem opSpanRemove_kept (d : Desc) (s : State) (h : Kept k s) : Kept k (opSpanRemove d s).1 :=
  applyIf_kept _ _ _ (fun _ ht => dropSpans_kept _ _ ht) _ h

theorem opTensionLoop_kept (d : Sys2Proof.Desc) (s : State) (h : Kept k s) : Kept k (opTensionLoop d s).1 := by
  unfold opTensionLoop
  grind [applyIf_kept, updSpan_kept, foldl_kept]

theorem opWinder_kept (d : Sys2Proof.Desc) (s : State) (h : Kept k s) : Kept k (opWinder d s).1 := by
  unfold opWinder
  grind [applyIf_kept, updWinder_kept, foldl_kept]

theorem opWinderRemove_kept (d : Desc) (s : State) (h : Kept k s) : Kept k (opWinderRemove d s).1 := by
  refine applyIf_kept _ _ _ (fun t ht => ?_) _ h
  exact ht

theorem opDiameterSet_kept (d : Sys2Proof.Desc) (s : State) (h : Kept k s) : Kept k (opDiameterSet d s).1 := by
  unfold opDiameterSet
  grind [applyIf_kept, updWinder_kept, foldl_kept]

theorem opMaterial_kept (d : Desc) (s : State) (h : Kept k s) : Kept k (opMaterial d s).1 := by
  refine applyIf_kept _ _ _ (fun t ht => ?_) _ h
  split
  · exact ht
  · exact matIn_kept _ _ ht

theorem matEnter_kept (i : Nat) (s : State) (h : Kept k s) : Kept k (matEnter i s) := by
  unfold matEnter
  repeat' split
  all_goals first | exact h | exact matIn_kept _ _ h

theorem matReach_kept (i : Nat) (winder : Bool) (x2 : Nat) (s : State) (h : Kept k s) : Kept k (matReach i winder x2 s) := by
  unfold matReach
  grind (splits := 30) (gen := 30) (ematch := 30) [winderTakes_kept, spanTakes_kept, foldl_kept, host_upd_kept, md_upd_kept,
    plan_upd_kept, loop_upd_kept, web_upd_kept, spar_upd_kept, pwm_upd_kept, adc_upd_kept, fbk_upd_kept, cap_upd_kept, net_upd_kept,
    fld_upd_kept, pwr_upd_kept, img_upd_kept, free_upd_kept]

theorem winderHold_kept (w : Nat) (d : Int) (s : State) (h : Kept k s) : Kept k (winderHold w d s) := by
  unfold winderHold
  grind [updWinder_kept, raise_kept, whenB_kept, foldl_kept]

theorem winderTick_kept (w : Nat) (s : State) (h : Kept k s) : Kept k (winderTick w s) := by
  unfold winderTick
  grind [updWinder_kept, winderHold_kept, foldl_kept]

theorem winderRev_kept (w : Nat) (s : State) (h : Kept k s) : Kept k (winderRev w s) := by
  unfold winderRev
  grind [updWinder_kept, winderHold_kept, whenB_kept, raise_kept, foldl_kept]

theorem spanTick_kept (x0 : Nat) (s : State) (h : Kept k s) : Kept k (spanTick x0 s) := by
  unfold spanTick
  dsimp only
  split
  · exact h
  · exact whenB_kept _ _ (fun _ ht => raise_kept _ _ _ _ _ _ ht) _ (whenB_kept _ _ (fun _ ht => raise_kept _ _ _ _ _ _ ht) _ (whenB_kept
    _ _ (fun _ ht => raise_kept _ _ _ _ _ _ ht) _ (updSpan_kept _ _ _ h)))

theorem webBreak_kept (x0 : Nat) (s : State) (h : Kept k s) : Kept k (webBreak x0 s) := by
  unfold webBreak
  grind [raise_kept, updSpan_kept, foldl_kept]

theorem corrections_kept (s : State) (h : Kept k s) : Kept k (corrections s) := by
  unfold corrections
  grind [forEach_kept, updRoll_kept, foldl_kept]

theorem figures_kept (s : State) (h : Kept k s) : Kept k (figures s) := by
  unfold figures
  grind [Kept, Good, State.tablesOk, forEach_kept, updRoll_kept, whenB_kept, raise_kept, foldl_kept]

theorem haulBegin_kept (s : State) (h : Kept k s) : Kept k (haulBegin s) := by
  unfold haulBegin
  grind [Kept, Good, State.tablesOk, foldl_kept]

theorem haulTick_kept (s : State) (h : Kept k s) : Kept k (haulTick s) := by
  unfold haulTick
  grind [Kept, Good, State.tablesOk, forEach_kept, updAxis_kept, foldl_kept]

theorem haulRevise_kept (s : State) (h : Kept k s) : Kept k (haulRevise s) := by
  unfold haulRevise
  grind [Kept, Good, State.tablesOk, raise_kept, foldl_kept]

theorem webTick_kept (runs : Nat → Bool) (s : State) (h : Kept k s) : Kept k (webTick runs s) := by
  unfold webTick
  grind (splits := 30) (gen := 30) (ematch := 30) [forEach_kept, winderTick_kept, spanTick_kept, updSpan_kept, corrections_kept,
    figures_kept, haulRevise_kept, updRoll_kept, foldl_kept, host_upd_kept, md_upd_kept, plan_upd_kept, loop_upd_kept, web_upd_kept,
    spar_upd_kept, pwm_upd_kept, adc_upd_kept, fbk_upd_kept, cap_upd_kept, net_upd_kept, fld_upd_kept, pwr_upd_kept, img_upd_kept,
    free_upd_kept]

theorem webFaults_kept (s : State) (h : Kept k s) : Kept k (webFaults s) := by
  unfold webFaults
  grind [corrections_kept, forEach_kept, updSpan_kept, foldl_kept]

theorem webSwap_kept (ok : Nat → Bool) (s : State) (h : Kept k s) : Kept k (webSwap ok s) := by
  unfold webSwap
  extract_lets s0 new src s1 held
  have h1 : Kept k s1 := webFaults_kept _ h
  refine forEach_kept _ _ (fun _ _ hx => ?_) _ h1
  split
  · exact hx
  · exact updRoll_kept _ _ _ hx

theorem opLineReport_kept (d : Sys2Proof.Desc) (s : State) (h : Kept k s) : Kept k (opLineReport d s).1 := by
  unfold opLineReport
  grind [writeReport_kept, foldl_kept]

theorem linePublish_kept (ok : Bool) (s : State) (h : Kept k s) : Kept k (linePublish ok s) := by
  unfold linePublish
  grind [Kept, Good, State.tablesOk, hostWrite_kept, raise_kept, foldl_kept]

end Sys2Proof.Machine
end

