-- ==== Sys2Proof/Laws/KeptSafe.lean ====
section
/-!
SUPPORT. What the operations of the Shroud, field I/O, power leave alone: one lemma for each operation, in its file's order.
-/
namespace Sys2Proof.Machine

set_option Elab.async false
variable {k : Keep}

theorem updShr_kept (f : Sys2Proof.Machine.ShrSt → Sys2Proof.Machine.ShrSt) (s : State) (h : Kept k s) : Kept k (State.updShr s f) := by
  unfold State.updShr
  grind [Kept, Good, State.tablesOk, foldl_kept]

theorem updPairIn_kept (p : Nat) (f : Sys2Proof.Machine.PairIn → Sys2Proof.Machine.PairIn) (s : State) (h : Kept k s) :
    Kept k (State.updPairIn s p f) := by
  unfold State.updPairIn
  grind [updShr_kept, foldl_kept]

theorem updFn_kept (x1 : Nat) (f : Sys2Proof.Machine.FnSt → Sys2Proof.Machine.FnSt) (s : State) (h : Kept k s) :
    Kept k (State.updFn s x1 f) := by
  unfold State.updFn
  grind [updShr_kept, foldl_kept]

theorem updSa_kept (a : Nat) (f : Sys2Proof.Machine.SafeAxis → Sys2Proof.Machine.SafeAxis) (s : State) (h : Kept k s) :
    Kept k (State.updSa s a f) := by
  unfold State.updSa
  grind [updShr_kept, foldl_kept]

theorem updTse_kept (c : Nat) (f : Sys2Proof.Machine.TseSt → Sys2Proof.Machine.TseSt) (s : State) (h : Kept k s) :
    Kept k (State.updTse s c f) := by
  unfold State.updTse
  grind [updShr_kept, foldl_kept]

theorem updZone_kept (z : Nat) (f : Sys2Proof.Machine.ZoneSt → Sys2Proof.Machine.ZoneSt) (s : State) (h : Kept k s) :
    Kept k (State.updZone s z f) := by
  unfold State.updZone
  grind [updShr_kept, foldl_kept]

theorem updOut_kept (q : Nat) (f : Sys2Proof.Machine.OutPair → Sys2Proof.Machine.OutPair) (s : State) (h : Kept k s) :
    Kept k (State.updOut s q f) := by
  unfold State.updOut
  grind [updShr_kept, foldl_kept]

theorem logAdd_kept (kind : Nat) (ring : Nat) (old : Nat) (new : Nat) (detail : Nat) (s : State) (h : Kept k s) :
    Kept k (logAdd kind ring old new detail s) := by
  unfold logAdd
  grind [set_kept, updShr_kept, foldl_kept]

theorem logSession_kept (kind : Nat) (ring : Nat) (detail : Nat) (s : State) (h : Kept k s) : Kept k (logSession kind ring detail s) := by
  unfold logSession
  grind [logAdd_kept, raise_kept, foldl_kept]

theorem dropPend_kept (s : State) (h : Kept k s) : Kept k (dropPend s) := by
  unfold dropPend
  grind [set_kept, updShr_kept, foldl_kept]

theorem sessionEnd_kept (cause : Nat) (s : State) (h : Kept k s) : Kept k (sessionEnd cause s) := by
  unfold sessionEnd
  grind [Kept, Good, State.tablesOk, set_kept, updShr_kept, logSession_kept, dropPend_kept, foldl_kept]

theorem pairFault_kept (p : Nat) (why' : Nat) (s : State) (h : Kept k s) : Kept k (pairFault p why' s) := by
  unfold pairFault
  grind [raise_kept, updPairIn_kept, foldl_kept]

theorem edgeTo_kept (src : Sys2Proof.RstSrc) (s : State) (h : Kept k s) : Kept k (edgeTo src s) := by
  unfold edgeTo
  grind [forEach_kept, updZone_kept, foldl_kept]

theorem inputChange_kept (p : Nat) (b : Bool) (level : Bool) (s : State) (h : Kept k s) : Kept k (inputChange p b level s) := by
  unfold inputChange
  grind [updPairIn_kept, pairFault_kept, edgeTo_kept, foldl_kept]

theorem inputPulse_kept (srcB : Bool) (dark : Nat) (s : State) (h : Kept k s) : Kept k (inputPulse srcB dark s) := by
  unfold inputPulse
  grind [forEach_kept, pairFault_kept, foldl_kept]

theorem resetExpiry_kept (z : Nat) (s : State) (h : Kept k s) : Kept k (resetExpiry z s) := by
  unfold resetExpiry
  grind [forEach_kept, raise_kept, updPairIn_kept, updTse_kept, foldl_kept]

theorem safeStep_kept (m : Sys2Proof.ShroudSample) (e : Nat × Sys2Proof.SafeAxisCfg) (s : State) (h : Kept k s) :
    Kept k (safeStep m e s) := by
  unfold safeStep
  grind [updSa_kept, foldl_kept]

theorem tseSend_kept (c : Nat) (start : Bool) (step : Nat) (s : State) (h : Kept k s) : Kept k (tseSend c start step s) := by
  unfold tseSend
  grind [updTse_kept, updNode_kept, foldl_kept]

theorem tseFault_kept (c : Nat) (cause : Nat) (s : State) (h : Kept k s) : Kept k (tseFault c cause s) := by
  unfold tseFault
  grind [updTse_kept, forEach_kept, updSa_kept, raise_kept, foldl_kept]

theorem tseStart_kept (c : Nat) (s : State) (h : Kept k s) : Kept k (tseStart c s) := by
  unfold tseStart
  grind [tseSend_kept, updTse_kept, foldl_kept]

theorem tseHand_kept (n : Nat) (box : List Sys2Proof.Byte) (s : State) (h : Kept k s) : Kept k (tseHand n box s) := by
  unfold tseHand
  grind [updTse_kept, foldl_kept]

theorem tseReset_kept (c : Nat) (on : Bool) (s : State) (h : Kept k s) : Kept k (tseReset c on s) := by
  unfold tseReset
  grind [updTse_kept, edgeTo_kept, foldl_kept]

theorem tsePosition_kept (a : Nat) (v : Nat) (s : State) (h : Kept k s) : Kept k (tsePosition a v s) := by
  unfold tsePosition
  grind [updSa_kept, foldl_kept]

theorem tseMessage_kept (c : Nat) (s : State) (h : Kept k s) : Kept k (tseMessage c s) := by
  unfold tseMessage
  grind [updTse_kept, tseFault_kept, forEach_kept, tsePosition_kept, tseReset_kept, foldl_kept]

theorem violation_kept (x1 : Nat) (a : Nat) (dev : Int) (limit : Int) (s : State) (h : Kept k s) :
    Kept k (State.violation s x1 a dev limit) := by
  unfold State.violation
  grind [raise_kept, foldl_kept]

theorem fnBreach_kept (x0 : Nat) (s : State) (h : Kept k s) : Kept k (fnBreach x0 s) := by
  unfold fnBreach
  grind [updFn_kept, foldl_kept]

theorem stopDone_kept (x0 : Nat) (f : Sys2Proof.FnCfg) (s : State) (h : Kept k s) : Kept k (stopDone x0 f s) := by
  unfold stopDone
  grind [updFn_kept, foldl_kept]

theorem stopBegin_kept (x0 : Nat) (f : Sys2Proof.FnCfg) (s : State) (h : Kept k s) : Kept k (stopBegin x0 f s) := by
  unfold stopBegin
  grind [updFn_kept, request_kept, forEach_kept, stopGroup_kept, foldl_kept]

theorem fnReact_kept (x0 : Nat) (f : Sys2Proof.FnCfg) (s : State) (h : Kept k s) : Kept k (fnReact x0 f s) := by
  unfold fnReact
  grind [updFn_kept, stopBegin_kept, fnBreach_kept, foldl_kept]

theorem sosWatch_kept (x0 : Nat) (f : Sys2Proof.FnCfg) (s : State) (h : Kept k s) : Kept k (sosWatch x0 f s) := by
  unfold sosWatch
  grind [fnBreach_kept, violation_kept, foldl_kept]

theorem stopWatch_kept (x0 : Nat) (f : Sys2Proof.FnCfg) (s : State) (h : Kept k s) : Kept k (stopWatch x0 f s) := by
  unfold stopWatch
  grind [fnBreach_kept, violation_kept, stopDone_kept, foldl_kept]

theorem slsWatch_kept (x0 : Nat) (f : Sys2Proof.FnCfg) (s : State) (h : Kept k s) : Kept k (slsWatch x0 f s) := by
  unfold slsWatch
  grind [fnReact_kept, violation_kept, foldl_kept]

theorem sdiWatch_kept (x0 : Nat) (f : Sys2Proof.FnCfg) (s : State) (h : Kept k s) : Kept k (sdiWatch x0 f s) := by
  unfold sdiWatch
  grind [updFn_kept, fnReact_kept, violation_kept, foldl_kept]

theorem fnWatch_kept (x0 : Nat) (f : Sys2Proof.FnCfg) (s : State) (h : Kept k s) : Kept k (fnWatch x0 f s) := by
  unfold fnWatch
  grind [stopWatch_kept, sosWatch_kept, slsWatch_kept, sdiWatch_kept, foldl_kept]

theorem fnOnset_kept (x0 : Nat) (f : Sys2Proof.FnCfg) (s : State) (h : Kept k s) : Kept k (fnOnset x0 f s) := by
  unfold fnOnset
  grind [updFn_kept, stopBegin_kept, foldl_kept]

theorem fnStep_kept (x0 : Nat) (f : Sys2Proof.FnCfg) (s : State) (h : Kept k s) : Kept k (fnStep x0 f s) := by
  unfold fnStep
  grind [updFn_kept, fnWatch_kept, fnOnset_kept, sosWatch_kept, foldl_kept]

theorem fnsStep_kept (s : State) (h : Kept k s) : Kept k (fnsStep s) := by
  unfold fnsStep
  grind [forEach_kept, fnStep_kept, foldl_kept]

theorem edgeClear_kept (z : Nat) (s : State) (h : Kept k s) : Kept k (edgeClear z s) := by
  unfold edgeClear
  grind [forEach_kept, updPairIn_kept, updSa_kept, set_kept, updTse_kept, updOut_kept, foldl_kept]

theorem resetEdge_kept (z : Nat) (s : State) (h : Kept k s) : Kept k (resetEdge z s) := by
  unfold resetEdge
  grind [edgeClear_kept, raise_kept, forEach_kept, updFn_kept, updZone_kept, foldl_kept]

theorem zoneLost_kept (z : Nat) (s : State) (h : Kept k s) : Kept k (zoneLost z s) := by
  unfold zoneLost
  grind [forEach_kept, axisFault_kept, foldl_kept]

theorem outCommand_kept (q : Nat) (on : Bool) (s : State) (h : Kept k s) : Kept k (outCommand q on s) := by
  unfold outCommand
  grind [updOut_kept, foldl_kept]

theorem shrPublish_kept (s : State) (h : Kept k s) : Kept k (shrPublish s) := by
  unfold shrPublish
  grind [set_kept, setB_kept, forEach_kept, setReg_kept, whenB_kept, raise_kept, foldl_kept]

theorem shrApply_kept (s : State) (h : Kept k s) : Kept k (shrApply s) := by
  unfold shrApply
  grind [forEach_kept, updZone_kept, zoneLost_kept, updOut_kept, outCommand_kept, shrPublish_kept, foldl_kept]

theorem shrAgain_kept (s : State) (h : Kept k s) : Kept k (shrAgain s) := by
  unfold shrAgain
  grind [shrApply_kept, fnsStep_kept, foldl_kept]

theorem discrepancy_kept (p : Nat) (s : State) (h : Kept k s) : Kept k (discrepancy p s) := by
  unfold discrepancy
  grind [shrAgain_kept, pairFault_kept, foldl_kept]

theorem tseWatch_kept (c : Nat) (s : State) (h : Kept k s) : Kept k (tseWatch c s) := by
  unfold tseWatch
  grind [shrAgain_kept, tseFault_kept, foldl_kept]

theorem stopComplete_kept (x0 : Nat) (s : State) (h : Kept k s) : Kept k (stopComplete x0 s) := by
  unfold stopComplete
  grind [shrAgain_kept, stopDone_kept, foldl_kept]

theorem slsReact_kept (x0 : Nat) (s : State) (h : Kept k s) : Kept k (slsReact x0 s) := by
  unfold slsReact
  grind [shrAgain_kept, updFn_kept, foldl_kept]

theorem brakeDelay_kept (x0 : Nat) (s : State) (h : Kept k s) : Kept k (brakeDelay x0 s) := by
  unfold brakeDelay
  grind [shrPublish_kept, updOut_kept, foldl_kept]

theorem soFault_kept (q : Nat) (why' : Nat) (s : State) (h : Kept k s) : Kept k (soFault q why' s) := by
  unfold soFault
  grind [raise_kept, updOut_kept, foldl_kept]

theorem outputPulse_kept (q : Nat) (b : Bool) (fell : Bool) (s : State) (h : Kept k s) : Kept k (outputPulse q b fell s) := by
  unfold outputPulse
  grind [updOut_kept, shrPublish_kept, soFault_kept, foldl_kept]

theorem fieldTimeout_kept (q : Nat) (b : Bool) (s : State) (h : Kept k s) : Kept k (fieldTimeout q b s) := by
  unfold fieldTimeout
  grind [shrPublish_kept, updOut_kept, foldl_kept]

theorem stoFault_kept (n : Nat) (ch : Nat) (s : State) (h : Kept k s) : Kept k (stoFault n ch s) := by
  unfold stoFault
  grind [raise_kept, set_kept, foldl_kept]

theorem stoCheck_kept (a : Nat) (b : Nat) (s : State) (h : Kept k s) : Kept k (stoCheck a b s) := by
  unfold stoCheck
  grind [forEach_kept, stoFault_kept, shrApply_kept, foldl_kept]

theorem pulseNow_kept (fell : Nat) (s : State) (h : Kept k s) : Kept k (pulseNow fell s) := by
  unfold pulseNow
  grind [forEach_kept, updOut_kept, soFault_kept, foldl_kept]

theorem shrTests_kept (m : Sys2Proof.ShroudSample) (s : State) (h : Kept k s) : Kept k (shrTests m s) := by
  unfold shrTests
  grind [whenB_kept, stoCheck_kept, setReg_kept, pulseNow_kept, foldl_kept]

theorem shrFault_kept (cause : Nat) (s : State) (h : Kept k s) : Kept k (shrFault cause s) := by
  unfold shrFault
  grind [set_kept, raise_kept, logAdd_kept, foldl_kept]

theorem cfgClear_kept (s : State) (h : Kept k s) : Kept k (cfgClear s) := by
  unfold cfgClear
  grind [forEach_kept, setReg_kept, foldl_kept]

theorem cfgInForce_kept (c : Sys2Proof.SafetyCfg) (crc : Nat) (s : State) (h : Kept k s) : Kept k (cfgInForce c crc s) := by
  unfold cfgInForce
  grind [updShr_kept, cfgClear_kept, set_kept, foldl_kept]

theorem shrStartUp_kept (s : State) (h : Kept k s) : Kept k (shrStartUp s) := by
  unfold shrStartUp
  grind [updShr_kept, shrApply_kept, cfgInForce_kept, set_kept, foldl_kept]

theorem stoReadback_kept (m : Sys2Proof.ShroudSample) (s : State) (h : Kept k s) : Kept k (stoReadback m s) := by
  unfold stoReadback
  grind [forEach_kept, updShr_kept, stoFault_kept, foldl_kept]

theorem soReadback_kept (m : Sys2Proof.ShroudSample) (s : State) (h : Kept k s) : Kept k (soReadback m s) := by
  unfold soReadback
  grind [forEach_kept, updOut_kept, soFault_kept, foldl_kept]

theorem tseLeft_kept (s : State) (h : Kept k s) : Kept k (tseLeft s) := by
  unfold tseLeft
  grind [forEach_kept, tseFault_kept, foldl_kept]

theorem tseTick_kept (s : State) (h : Kept k s) : Kept k (tseTick s) := by
  unfold tseTick
  grind [forEach_kept, tseSend_kept, foldl_kept]

theorem shrRun_kept (m : Sys2Proof.ShroudSample) (s : State) (h : Kept k s) : Kept k (shrRun m s) := by
  unfold shrRun
  grind (splits := 30) (gen := 30) (ematch := 30) [soReadback_kept, stoReadback_kept, forEach_kept, safeStep_kept, shrTests_kept,
    tseLeft_kept, whenB_kept, updZone_kept, resetEdge_kept, tseTick_kept, shrApply_kept, fnsStep_kept, foldl_kept, host_upd_kept,
    md_upd_kept, plan_upd_kept, loop_upd_kept, web_upd_kept, spar_upd_kept, pwm_upd_kept, adc_upd_kept, fbk_upd_kept, cap_upd_kept,
    net_upd_kept, shr_upd_kept, fld_upd_kept, pwr_upd_kept, img_upd_kept, dbg_upd_kept, free_upd_kept]

theorem shroudTick_kept (m : Sys2Proof.ShroudSample) (s0 : State) (h : Kept k s0) : Kept k (shroudTick m s0) := by
  unfold shroudTick
  grind (splits := 30) (gen := 30) (ematch := 30) [atCyc_kept, bump_kept, updShr_kept, raise_kept, logAdd_kept, cfgInForce_kept,
    shrFault_kept, shrRun_kept, tseTick_kept, shrApply_kept, shrTests_kept, tseLeft_kept, foldl_kept, host_upd_kept, md_upd_kept,
    plan_upd_kept, loop_upd_kept, web_upd_kept, spar_upd_kept, pwm_upd_kept, adc_upd_kept, fbk_upd_kept, cap_upd_kept, net_upd_kept,
    shr_upd_kept, fld_upd_kept, pwr_upd_kept, img_upd_kept, dbg_upd_kept, free_upd_kept]

theorem sessionTouch_kept (d : Sys2Proof.Desc) (s : State) (h : Kept k s) : Kept k (sessionTouch d s) := by
  unfold sessionTouch
  grind [updShr_kept, foldl_kept]

theorem opSessionOpen_kept (d : Sys2Proof.Desc) (s : State) (h : Kept k s) : Kept k (opSessionOpen d s).1 := by
  unfold opSessionOpen
  grind [updShr_kept, set_kept, logSession_kept, sessionTouch_kept, setB_kept, foldl_kept]

theorem opSessionClose_kept (d : Sys2Proof.Desc) (s : State) (h : Kept k s) : Kept k (opSessionClose d s).1 := by
  unfold opSessionClose
  grind [sessionTouch_kept, sessionEnd_kept, foldl_kept]

theorem sessionTimeout_kept (s : State) (h : Kept k s) : Kept k (sessionTimeout s) := by
  unfold sessionTimeout
  grind [sessionEnd_kept, foldl_kept]

theorem lockoutEnd_kept (s : State) (h : Kept k s) : Kept k (lockoutEnd s) := by
  unfold lockoutEnd
  grind [set_kept, updShr_kept, foldl_kept]

theorem confirmTimeout_kept (s : State) (h : Kept k s) : Kept k (confirmTimeout s) := by
  unfold confirmTimeout
  grind [dropPend_kept, foldl_kept]

theorem opPassword_kept (d : Sys2Proof.Desc) (s0 : State) (h : Kept k s0) : Kept k (opPassword d s0).1 := by
  unfold opPassword
  grind (splits := 30) (gen := 30) (ematch := 30) [sessionTouch_kept, updShr_kept, logSession_kept, set_kept, foldl_kept, host_upd_kept,
    md_upd_kept, plan_upd_kept, loop_upd_kept, web_upd_kept, spar_upd_kept, pwm_upd_kept, adc_upd_kept, fbk_upd_kept, cap_upd_kept,
    net_upd_kept, fld_upd_kept, pwr_upd_kept, img_upd_kept, free_upd_kept]

theorem opSafetyConfig_kept (ok : List Sys2Proof.Byte → Bool) (d : Sys2Proof.Desc) (s0 : State) (h : Kept k s0) :
    Kept k (opSafetyConfig ok d s0).1 := by
  unfold opSafetyConfig
  grind [sessionTouch_kept, logAdd_kept, updShr_kept, set_kept, foldl_kept]

theorem opSafetyConfirm_kept (d : Sys2Proof.Desc) (s0 : State) (h : Kept k s0) : Kept k (opSafetyConfirm d s0).1 := by
  unfold opSafetyConfirm
  grind [sessionTouch_kept, logAdd_kept, updShr_kept, dropPend_kept, foldl_kept]

theorem opDemand_kept (dev : Bool) (d : Sys2Proof.Desc) (s0 : State) (h : Kept k s0) : Kept k (opDemand dev d s0).1 := by
  unfold opDemand
  grind [sessionTouch_kept, forEach_kept, updFn_kept, updShr_kept, foldl_kept]

theorem opReportStatus_kept (d : Sys2Proof.Desc) (s0 : State) (h : Kept k s0) : Kept k (opReportStatus d s0).1 := by
  unfold opReportStatus
  grind [sessionTouch_kept, writeReport_kept, foldl_kept]

theorem opReportLog_kept (d : Sys2Proof.Desc) (s0 : State) (h : Kept k s0) : Kept k (opReportLog d s0).1 := by
  unfold opReportLog
  grind [sessionTouch_kept, writeReport_kept, foldl_kept]

theorem updFld_kept (f : Sys2Proof.Machine.FldSt → Sys2Proof.Machine.FldSt) (s : State) (h : Kept k s) : Kept k (State.updFld s f) := by
  unfold State.updFld
  grind [Kept, Good, State.tablesOk, foldl_kept]

theorem setBit_kept (a : Nat) (i : Nat) (b : Bool) (s : State) (h : Kept k s) : Kept k (State.setBit s a i b) := by
  unfold State.setBit
  grind [setReg_kept, foldl_kept]

theorem fldSupply_kept (kind : Nat) (sev : Nat) (mv : Nat) (s : State) (h : Kept k s) : Kept k (State.fldSupply s kind sev mv) := by
  unfold State.fldSupply
  grind [raise_kept, foldl_kept]

theorem vfld_kept (mv : Nat) (s : State) (h : Kept k s) : Kept k (vfld mv s) := by
  unfold vfld
  grind [set_kept, updFld_kept, foldl_kept]

theorem fldUvSet_kept (mv : Nat) (s : State) (h : Kept k s) : Kept k (fldUvSet mv s) := by
  unfold fldUvSet
  grind [vfld_kept, fldSupply_kept, flag_kept, set_kept, foldl_kept]

theorem fldUvClear_kept (mv : Nat) (s : State) (h : Kept k s) : Kept k (fldUvClear mv s) := by
  unfold fldUvClear
  grind [vfld_kept, set_kept, foldl_kept]

theorem fldOff_kept (mv : Nat) (s : State) (h : Kept k s) : Kept k (fldOff mv s) := by
  unfold fldOff
  grind [Kept, Good, State.tablesOk, vfld_kept, updFld_kept, set_kept, fldSupply_kept, foldl_kept]

theorem fldInValid_kept (mv : Nat) (s : State) (h : Kept k s) : Kept k (fldInValid mv s) := by
  unfold fldInValid
  grind [vfld_kept, updFld_kept, set_kept, foldl_kept]

theorem opFieldReenable_kept (_d : Sys2Proof.Desc) (s : State) (h : Kept k s) : Kept k (opFieldReenable _d s).1 := by
  unfold opFieldReenable
  grind [fldSupply_kept, set_kept, foldl_kept]

theorem inputSample_kept (j : Nat) (raw : Bool) (ago : Nat) (s : State) (h : Kept k s) : Kept k (inputSample j raw ago s) := by
  unfold inputSample
  grind [setBit_kept, updFld_kept, flag_kept, raiseAt_kept, foldl_kept]

theorem inputSamples_kept (j : Nat) (l : List Bool) (s : State) (h : Kept k s) : Kept k (inputSamples j l s) := by
  induction l generalizing s with
  | nil => exact h
  | cons r l ih =>
    unfold inputSamples
    apply ih
    split
    · exact inputSample_kept _ _ _ _ h
    · exact h

theorem inFiltWrite_kept (m : Nat) (v : Sys2Proof.W32) (s : State) (h : Kept k s) : Kept k (inFiltWrite m v s) := by
  unfold inFiltWrite
  grind [setReg_kept, forEach_kept, updFld_kept, foldl_kept]

theorem opFieldOut_kept (d : Sys2Proof.Desc) (s : State) (h : Kept k s) : Kept k (opFieldOut d s).1 := by
  unfold opFieldOut
  grind [set_kept, foldl_kept]

theorem outputUpdate_kept (read : BitVec 16) (s : State) (h : Kept k s) : Kept k (outputUpdate read s) := by
  unfold outputUpdate
  grind [updFld_kept, set_kept, foldl_kept]

theorem outFlag_kept (q : Nat) (flag : Nat) (fld : Sys2Proof.Machine.Fld) (s : State) (h : Kept k s) : Kept k (outFlag q flag fld s) := by
  unfold outFlag
  grind [flag_kept, note_kept, foldl_kept]

theorem overload_kept (q : Nat) (s : State) (h : Kept k s) : Kept k (overload q s) := by
  unfold overload
  grind [outFlag_kept, setBit_kept, foldl_kept]

theorem thermalOff_kept (q : Nat) (s : State) (h : Kept k s) : Kept k (thermalOff q s) := by
  unfold thermalOff
  grind [setBit_kept, foldl_kept]

theorem thermalOffEnd_kept (q : Nat) (s : State) (h : Kept k s) : Kept k (thermalOffEnd q s) := by
  unfold thermalOffEnd
  grind [setBit_kept, foldl_kept]

theorem extHigh_kept (q : Nat) (s : State) (h : Kept k s) : Kept k (extHigh q s) := by
  unfold extHigh
  grind [outFlag_kept, setBit_kept, foldl_kept]

theorem holdSeen_kept (s : State) (h : Kept k s) : Kept k (holdSeen s) := by
  unfold holdSeen
  grind [flag_kept, foldl_kept]

theorem cplFault_kept (out : Bool) (ch : Nat) (s : State) (h : Kept k s) : Kept k (cplFault out ch s) := by
  unfold cplFault
  grind [setBit_kept, raise_kept, foldl_kept]

theorem cplRestored_kept (out : Bool) (ch : Nat) (s : State) (h : Kept k s) : Kept k (cplRestored out ch s) := by
  unfold cplRestored
  grind [setBit_kept, foldl_kept]

theorem fldStrobe_kept (s : State) (h : Kept k s) : Kept k (fldStrobe s) := by
  unfold fldStrobe
  grind [updEng_kept, updFld_kept, foldl_kept]

theorem fldStartUp_kept (s : State) (h : Kept k s) : Kept k (fldStartUp s) := by
  unfold fldStartUp
  grind [updFld_kept, set_kept, setB_kept, foldl_kept]

theorem updPwr_kept (f : Sys2Proof.Machine.PwrSt → Sys2Proof.Machine.PwrSt) (s : State) (h : Kept k s) : Kept k (State.updPwr s f) := by
  unfold State.updPwr
  grind [Kept, Good, State.tablesOk, foldl_kept]

theorem updSensor_kept (x1 : Nat) (f : Sys2Proof.Machine.Sensor → Sys2Proof.Machine.Sensor) (s : State) (h : Kept k s) :
    Kept k (State.updSensor s x1 f) := by
  unfold State.updSensor
  grind [updPwr_kept, foldl_kept]

theorem setCharger_kept (st : Nat) (s : State) (h : Kept k s) : Kept k (setCharger st s) := by
  unfold setCharger
  grind [setB_kept, set_kept, updPwr_kept, raise_kept, foldl_kept]

theorem chargerEval_kept (s : State) (h : Kept k s) : Kept k (chargerEval s) := by
  unfold chargerEval
  grind [setCharger_kept, foldl_kept]

theorem chargeState_kept (vback : Nat) (mA : Nat) (s : State) (h : Kept k s) : Kept k (chargeState vback mA s) := by
  unfold chargeState
  grind [chargerEval_kept, set_kept, foldl_kept]

theorem chargeTimeout_kept (s : State) (h : Kept k s) : Kept k (chargeTimeout s) := by
  unfold chargeTimeout
  grind [setCharger_kept, foldl_kept]

theorem opChargeCtrl_kept (d : Sys2Proof.Desc) (s : State) (h : Kept k s) : Kept k (opChargeCtrl d s).1 := by
  unfold opChargeCtrl
  grind [setCharger_kept, foldl_kept]

theorem supplyEvent_kept (kind : Nat) (s : State) (h : Kept k s) : Kept k (State.supplyEvent s kind) := by
  unfold State.supplyEvent
  grind [raise_kept, foldl_kept]

theorem setVolts_kept (vmain : Nat) (vback : Nat) (s : State) (h : Kept k s) : Kept k (setVolts vmain vback s) := by
  unfold setVolts
  grind [set_kept, foldl_kept]

theorem setOnVback_kept (b : Bool) (s : State) (h : Kept k s) : Kept k (setOnVback b s) := by
  unfold setOnVback
  grind [setB_kept, foldl_kept]

theorem vbackAbsent_kept (vback : Nat) (s : State) (h : Kept k s) : Kept k (vbackAbsent vback s) := by
  unfold vbackAbsent
  grind [set_kept, setB_kept, supplyEvent_kept, setOnVback_kept, foldl_kept]

theorem vmainLost_kept (vmain : Nat) (vback : Nat) (s : State) (h : Kept k s) : Kept k (vmainLost vmain vback s) := by
  unfold vmainLost
  grind [Kept, Good, State.tablesOk, setVolts_kept, set_kept, flag_kept, chargerEval_kept, setOnVback_kept, vbackAbsent_kept,
    updPwr_kept, supplyEvent_kept, foldl_kept]

theorem returnQual_kept (vmain : Nat) (s : State) (h : Kept k s) : Kept k (returnQual vmain s) := by
  unfold returnQual
  grind [set_kept, updPwr_kept, setB_kept, foldl_kept]

theorem vmainBack_kept (vmain : Nat) (vback : Nat) (s : State) (h : Kept k s) : Kept k (vmainBack vmain vback s) := by
  unfold vmainBack
  grind [Kept, Good, State.tablesOk, setVolts_kept, set_kept, chargerEval_kept, updPwr_kept, supplyEvent_kept, setOnVback_kept, foldl_kept]

theorem flashRefresh_kept (s : State) (h : Kept k s) : Kept k (flashRefresh s) := by
  unfold flashRefresh
  grind [setB_kept, foldl_kept]

theorem dieMax_kept (s : State) (h : Kept k s) : Kept k (dieMax s) := by
  unfold dieMax
  grind [setI_kept, foldl_kept]

theorem tempLimit_kept (x0 : Nat) (t : Int) (s : State) (h : Kept k s) : Kept k (tempLimit x0 t s) := by
  unfold tempLimit
  grind [raise_kept, flag_kept, set_kept, foldl_kept]

theorem tempRate_kept (x0 : Nat) (t : Int) (hist : List (Nat × Int)) (s : State) (h : Kept k s) : Kept k (tempRate x0 t hist s) := by
  unfold tempRate
  dsimp only
  repeat' split
  all_goals first
    | exact h
    | exact setI_kept _ _ _ h
    | exact updSensor_kept _ _ _ (setI_kept _ _ _ h)
    | exact raise_kept _ _ _ _ _ _ (updSensor_kept _ _ _ (set_kept _ _ _ (setI_kept _ _ _ h)))

theorem tempFast_kept (x0 : Nat) (t : Int) (s : State) (h : Kept k s) : Kept k (tempFast x0 t s) := by
  unfold tempFast
  grind [set_kept, foldl_kept]

theorem measure_kept (x0 : Nat) (t : Int) (s : State) (h : Kept k s) : Kept k (measure x0 t s) := by
  unfold measure
  grind (splits := 30) (gen := 30) (ematch := 30) [updSensor_kept, flashRefresh_kept, setI_kept, raise_kept, set_kept, dieMax_kept,
    tempFast_kept, tempRate_kept, tempLimit_kept, foldl_kept, host_upd_kept, md_upd_kept, plan_upd_kept, loop_upd_kept, web_upd_kept,
    spar_upd_kept, pwm_upd_kept, adc_upd_kept, fbk_upd_kept, cap_upd_kept, net_upd_kept, fld_upd_kept, pwr_upd_kept, img_upd_kept,
    free_upd_kept]

theorem tempMeasure_kept (x0 : Nat) (t : Int) (s : State) (h : Kept k s) : Kept k (tempMeasure x0 t s) := by
  unfold tempMeasure
  grind [measure_kept, foldl_kept]

theorem bankTemp_kept (t : Int) (s : State) (h : Kept k s) : Kept k (bankTemp t s) := by
  unfold bankTemp
  grind [measure_kept, chargerEval_kept, setB_kept, foldl_kept]

theorem opThermalMeasure_kept (d : Sys2Proof.Desc) (s : State) (h : Kept k s) : Kept k (opThermalMeasure d s).1 := by
  unfold opThermalMeasure
  grind [forEach_kept, updSensor_kept, foldl_kept]

theorem thermalTrip_kept (src : BitVec 6) (s : State) (h : Kept k s) : Kept k (thermalTrip src s) := by
  unfold thermalTrip
  grind (splits := 30) (gen := 30) (ematch := 30) [forEach_kept, slotSafe_kept, set_kept, flag_kept, raise_kept, shrPublish_kept,
    foldl_kept, host_upd_kept, md_upd_kept, plan_upd_kept, loop_upd_kept, web_upd_kept, spar_upd_kept, pwm_upd_kept, adc_upd_kept,
    fbk_upd_kept, cap_upd_kept, net_upd_kept, shr_upd_kept, fld_upd_kept, pwr_upd_kept, img_upd_kept, dbg_upd_kept, free_upd_kept]

theorem thermalRelease_kept (src : BitVec 6) (s : State) (h : Kept k s) : Kept k (thermalRelease src s) := by
  unfold thermalRelease
  grind [set_kept, shrPublish_kept, foldl_kept]

theorem reserve_kept (s : State) (h : Kept k s) : Kept k (reserve s) := by
  unfold reserve
  grind [set_kept, flag_kept, raise_kept, foldl_kept]

theorem sensorUnused_kept (x0 : Nat) (s : State) (h : Kept k s) : Kept k (sensorUnused x0 s) := by
  unfold sensorUnused
  grind [updSensor_kept, setReg_kept, foldl_kept]

theorem pwrStrobe_kept (he : Bool) (ns : Nat) (vmain : Nat) (vback : Nat) (pIn : Nat) (s : State) (h : Kept k s) :
    Kept k (pwrStrobe he ns vmain vback pIn s) := by
  unfold pwrStrobe
  grind [updPwr_kept, set_kept, setVolts_kept, forEach_kept, sensorUnused_kept, flashRefresh_kept, whenB_kept, reserve_kept,
    chargerEval_kept, foldl_kept]

end Sys2Proof.Machine
end

