-- ==== Sys2Proof/Laws/KeptEng.lean ====
section
/-!
SUPPORT. What the operations of images, I/O registers, the engines and debug leave alone: one lemma for each operation, in its file's order.
-/
namespace Sys2Proof.Machine

set_option Elab.async false
variable {k : Keep}

theorem updImg_kept (f : Sys2Proof.Machine.ImgSt → Sys2Proof.Machine.ImgSt) (s : State) (h : Kept k s) : Kept k (State.updImg s f) := by
  unfold State.updImg
  grind [Kept, Good, State.tablesOk, foldl_kept]

theorem updEimg_kept (e : Nat) (f : Sys2Proof.Machine.EngImg → Sys2Proof.Machine.EngImg) (s : State) (h : Kept k s) :
    Kept k (State.updEimg s e f) := by
  unfold State.updEimg
  grind [updImg_kept, foldl_kept]

theorem loadEngine_kept (e : Nat) (i : Option Sys2Proof.Machine.Image) (s : State) (h : Kept k s) : Kept k (loadEngine e i s) := by
  unfold loadEngine
  grind [updEng_kept, foldl_kept]

theorem setActive_kept (e : Nat) (slot : Nat) (x2 : Option Sys2Proof.Machine.Hdr) (s : State) (h : Kept k s) :
    Kept k (setActive e slot x2 s) := by
  unfold setActive
  grind [set_kept, updEimg_kept, foldl_kept]

theorem groupUnquar_kept (g : Nat) (s : State) (h : Kept k s) : Kept k (groupUnquar g s) := by
  unfold groupUnquar
  grind [setGst_kept, foldl_kept]

theorem groupQuar_kept (g : Nat) (s : State) (h : Kept k s) : Kept k (groupQuar g s) := by
  unfold groupQuar
  grind [setGst_kept, forEach_kept, stopStage_kept, discardPlan_kept, foldl_kept]

theorem checkEvent_kept (e : Nat) (test : Nat) (slot : Nat) (fault : Bool) (s : State) (h : Kept k s) :
    Kept k (checkEvent e test slot fault s) := by
  unfold checkEvent
  grind [raise_kept, foldl_kept]

theorem slotRegs_kept (x0 : Nat) (i : Option Sys2Proof.Machine.Image) (s : State) (h : Kept k s) : Kept k (slotRegs x0 i s) := by
  unfold slotRegs
  grind [setReg_kept, foldl_kept]

theorem putSlot_kept (x0 : Nat) (i : Option Sys2Proof.Machine.Image) (s : State) (h : Kept k s) : Kept k (putSlot x0 i s) := by
  unfold putSlot
  grind [slotRegs_kept, updImg_kept, foldl_kept]

theorem opImageStore_kept (d : Sys2Proof.Desc) (s : State) (h : Kept k s) : Kept k (opImageStore d s).1 := by
  unfold opImageStore
  grind [set_kept, updImg_kept, putSlot_kept, foldl_kept]

theorem imageStored_kept (ok : Bool) (s : State) (h : Kept k s) : Kept k (imageStored ok s) := by
  unfold imageStored
  grind [set_kept, updImg_kept, putSlot_kept, flag_kept, raise_kept, foldl_kept]

theorem opImageKey_kept (d : Sys2Proof.Desc) (s : State) (h : Kept k s) : Kept k (opImageKey d s).1 := by
  unfold opImageKey
  grind [set_kept, updImg_kept, foldl_kept]

theorem beginReload_kept (slot : Nat) (boot : Bool) (e : Nat) (s : State) (h : Kept k s) : Kept k (beginReload slot boot e s) := by
  unfold beginReload
  grind [set_kept, updEimg_kept, foldl_kept]

theorem endOverrides_kept (e : Nat) (ph : BitVec 256) (s : State) (h : Kept k s) : Kept k (endOverrides e ph s) := by
  unfold endOverrides
  grind [forEach_kept, updImg_kept, setB_kept, foldl_kept]

theorem opImageLoad_kept (d : Sys2Proof.Desc) (s : State) (h : Kept k s) : Kept k (opImageLoad d s).1 := by
  unfold opImageLoad
  grind (splits := 30) (gen := 30) (ematch := 30) [forEach_kept, updEimg_kept, checkEvent_kept, groupQuar_kept, endOverrides_kept,
    beginReload_kept, updImg_kept, foldl_kept, host_upd_kept, md_upd_kept, plan_upd_kept, loop_upd_kept, web_upd_kept, spar_upd_kept,
    pwm_upd_kept, adc_upd_kept, fbk_upd_kept, cap_upd_kept, net_upd_kept, fld_upd_kept, pwr_upd_kept, img_upd_kept, free_upd_kept]

theorem writeBoot_kept (l : List (Nat × Nat)) (s : State) (h : Kept k s) : Kept k (writeBoot l s) := by
  unfold writeBoot
  grind [forEach_kept, set_kept, updImg_kept, foldl_kept]

theorem bootSlotWrite_kept (s : State) (h : Kept k s) : Kept k (bootSlotWrite s) := by
  unfold bootSlotWrite
  grind [set_kept, updImg_kept, forEach_kept, foldl_kept]

theorem resumeEngine_kept (e : Nat) (s : State) (h : Kept k s) : Kept k (resumeEngine e s) := by
  unfold resumeEngine
  grind [set_kept, updEng_kept, foldl_kept]

theorem engineReload_kept (e : Nat) (s : State) (h : Kept k s) : Kept k (engineReload e s) := by
  unfold engineReload
  grind (splits := 30) (gen := 30) (ematch := 30) [set_kept, updEng_kept, updEimg_kept, setActive_kept, loadEngine_kept,
    resumeEngine_kept, writeBoot_kept, forEach_kept, groupUnquar_kept, foldl_kept, host_upd_kept, md_upd_kept, plan_upd_kept,
    loop_upd_kept, web_upd_kept, spar_upd_kept, pwm_upd_kept, adc_upd_kept, fbk_upd_kept, cap_upd_kept, net_upd_kept, fld_upd_kept,
    pwr_upd_kept, img_upd_kept, free_upd_kept]

theorem swapBusy_kept (s : State) (h : Kept k s) : Kept k (State.swapBusy s) := by
  unfold State.swapBusy
  grind [setB_kept, foldl_kept]

theorem updJob_kept (j : Sys2Proof.Machine.SwapJob) (f : Sys2Proof.Machine.SwapJob → Option Sys2Proof.Machine.SwapJob) (s : State) (h :
    Kept k s) : Kept k (State.updJob s j f) := by
  unfold State.updJob
  grind [swapBusy_kept, updImg_kept, foldl_kept]

theorem armSwap_kept (mask : List Nat) (back : Bool) (s : State) (h : Kept k s) : Kept k (armSwap mask back s) := by
  unfold armSwap
  grind [updImg_kept, swapBusy_kept, forEach_kept, set_kept, foldl_kept]

theorem swapEnd_kept (outcome : Nat) (cause : Nat) (mask : List Nat) (s : State) (h : Kept k s) :
    Kept k (swapEnd outcome cause mask s) := by
  unfold swapEnd
  grind [raise_kept, foldl_kept]

theorem imageStaged_kept (e : Nat) (s : State) (h : Kept k s) : Kept k (imageStaged e s) := by
  unfold imageStaged
  grind (splits := 30) (gen := 30) (ematch := 30) [updImg_kept, forEach_kept, updEng_kept, set_kept, updEimg_kept, raise_kept,
    armSwap_kept, foldl_kept, host_upd_kept, md_upd_kept, plan_upd_kept, loop_upd_kept, web_upd_kept, spar_upd_kept, pwm_upd_kept,
    adc_upd_kept, fbk_upd_kept, cap_upd_kept, net_upd_kept, fld_upd_kept, pwr_upd_kept, img_upd_kept, free_upd_kept]

theorem opImageSwap_kept (d : Sys2Proof.Desc) (s : State) (h : Kept k s) : Kept k (opImageSwap d s).1 := by
  unfold opImageSwap
  grind [armSwap_kept, foldl_kept]

theorem callRollback_kept (e : Nat) (cause : Nat) (s : State) (h : Kept k s) : Kept k (callRollback e cause s) := by
  unfold callRollback
  grind [updJob_kept, foldl_kept]

theorem opImageRollback_kept (d : Sys2Proof.Desc) (s : State) (h : Kept k s) : Kept k (opImageRollback d s).1 := by
  unfold opImageRollback
  grind [callRollback_kept, armSwap_kept, foldl_kept]

theorem bankSwap_kept (swapped : Bool) (e : Nat) (s : State) (h : Kept k s) : Kept k (bankSwap swapped e s) := by
  unfold bankSwap
  grind [updEng_kept, set_kept, updEimg_kept, foldl_kept]

theorem swapTake_kept (e : Nat) (s : State) (h : Kept k s) : Kept k (swapTake e s) := by
  unfold swapTake
  grind [forEach_kept, set_kept, bankSwap_kept, updJob_kept, foldl_kept]

theorem groupsBack_kept (prev : List (Nat × Nat)) (s : State) (h : Kept k s) : Kept k (groupsBack prev s) := by
  unfold groupsBack
  grind [forEach_kept, setGst_kept, updImg_kept, foldl_kept]

theorem abandon_kept (j : Sys2Proof.Machine.SwapJob) (s : State) (h : Kept k s) : Kept k (abandon j s) := by
  unfold abandon
  grind [forEach_kept, set_kept, groupsBack_kept, swapEnd_kept, updJob_kept, foldl_kept]

theorem swapAbandon_kept (e : Nat) (s : State) (h : Kept k s) : Kept k (swapAbandon e s) := by
  unfold swapAbandon
  grind [abandon_kept, foldl_kept]

theorem rollBack_kept (j : Sys2Proof.Machine.SwapJob) (cause : Nat) (s : State) (h : Kept k s) : Kept k (rollBack j cause s) := by
  unfold rollBack
  grind [forEach_kept, set_kept, bankSwap_kept, swapEnd_kept, updJob_kept, groupsBack_kept, foldl_kept]

theorem swapRollback_kept (e : Nat) (s : State) (h : Kept k s) : Kept k (swapRollback e s) := by
  unfold swapRollback
  grind [rollBack_kept, foldl_kept]

theorem probationEnd_kept (e : Nat) (s : State) (h : Kept k s) : Kept k (probationEnd e s) := by
  unfold probationEnd
  grind [updImg_kept, forEach_kept, set_kept, swapEnd_kept, writeBoot_kept, updJob_kept, foldl_kept]

theorem imgStrobe_kept (overran : Nat → Bool) (s : State) (h : Kept k s) : Kept k (imgStrobe overran s) := by
  unfold imgStrobe
  grind [forEach_kept, setGst_kept, updImg_kept, foldl_kept]

theorem imgMode_kept (target : Nat) (s : State) (h : Kept k s) : Kept k (imgMode target s) := by
  unfold imgMode
  grind [forEach_kept, abandon_kept, callRollback_kept, foldl_kept]

theorem imgEnter_kept (target : Nat) (s : State) (h : Kept k s) : Kept k (imgEnter target s) := by
  unfold imgEnter
  grind [forEach_kept, abandon_kept, rollBack_kept, foldl_kept]

theorem opImageOverride_kept (d : Sys2Proof.Desc) (s : State) (h : Kept k s) : Kept k (opImageOverride d s).1 := by
  unfold opImageOverride
  grind (splits := 30) (gen := 30) (ematch := 30) [forEach_kept, beginReload_kept, updEimg_kept, set_kept, updImg_kept, logAdd_kept,
    setGst_kept, raise_kept, foldl_kept, host_upd_kept, md_upd_kept, plan_upd_kept, loop_upd_kept, web_upd_kept, spar_upd_kept,
    pwm_upd_kept, adc_upd_kept, fbk_upd_kept, cap_upd_kept, net_upd_kept, fld_upd_kept, pwr_upd_kept, img_upd_kept, free_upd_kept]

theorem opEngineParam_kept (d : Sys2Proof.Desc) (s : State) (h : Kept k s) : Kept k (opEngineParam d s).1 := by
  unfold opEngineParam
  grind [updEng_kept, foldl_kept]

theorem bootQuar_kept (e : Nat) (slot : Nat) (test : Nat) (s : State) (h : Kept k s) : Kept k (bootQuar e slot test s) := by
  unfold bootQuar
  grind [set_kept, loadEngine_kept, setActive_kept, checkEvent_kept, forEach_kept, groupQuar_kept, updEimg_kept, foldl_kept]

theorem bootEngine_kept (idle : Bool) (e : Nat) (s : State) (h : Kept k s) : Kept k (bootEngine idle e s) := by
  unfold bootEngine
  grind [loadEngine_kept, setActive_kept, bootQuar_kept, foldl_kept]

theorem bootImages_kept (pairs : List (Nat × Nat × BitVec 256)) (s : State) (h : Kept k s) : Kept k (bootImages pairs s).1 := by
  unfold bootImages
  grind [updImg_kept, forEach_kept, set_kept, loadEngine_kept, setActive_kept, checkEvent_kept, bootEngine_kept, foldl_kept]

theorem plainWrite_kept (a : Nat) (v : Sys2Proof.W32) (s : State) (h : Kept k s) : Kept k (plainWrite a v s) := by
  unfold plainWrite
  grind [setReg_kept, foldl_kept]

theorem pwmWrite_kept (e : Option Nat) (a : Nat) (v : Sys2Proof.W32) (s : State) (h : Kept k s) : Kept k (pwmWrite e a v s) := by
  unfold pwmWrite
  extract_lets n o run drives store s1
  have hs : Kept k (store s) := setReg_kept _ _ _ h
  have h1 : Kept k s1 := setReg_kept _ _ _ h
  have hu := updSlot_kept (k := k) n
  split
  · split
    · exact plainWrite_kept _ _ _ h
    · exact h
  split
  · exact h
  split
  · split
    · exact h
    · exact fltScan_kept _ _ hs
  split
  · split
    · exact h
    · exact hs
  split
  · split
    · exact h
    · split
      · exact pwmRunSet_kept _ _ h
      · split
        · exact slotSafe_kept _ _ h
        · exact h
  split
  · split
    · exact hs
    · exact h
  split
  · split
    · exact pwmCommit_kept _ _ h
    · exact h
  split
  · split
    · exact fltClear_kept _ _ h1
    · exact h1
  split
  · split
    · exact hu _ _ hs
    · exact h
  · exact h

theorem adcWrite_kept (e : Option Nat) (a : Nat) (v : Sys2Proof.W32) (s : State) (h : Kept k s) : Kept k (adcWrite e a v s) := by
  unfold adcWrite
  dsimp only
  repeat' split
  all_goals first | exact h | grind [convConfig_kept, adcTrigger_kept, setReg_kept, diagClear_kept, pairConfig_kept, plainWrite_kept,
    sdiConfig_kept, stuckClear_kept]

theorem fbkWrite_kept (a : Nat) (v : Sys2Proof.W32) (s : State) (h : Kept k s) : Kept k (fbkWrite a v s) := by
  unfold fbkWrite
  dsimp only
  repeat' split
  all_goals first | exact h | grind [setReg_kept, fbEnable_kept, fbDisable_kept, fbFaultClear_kept]

theorem latWrite_kept (e : Option Nat) (a : Nat) (v : Sys2Proof.W32) (s : State) (h : Kept k s) : Kept k (latWrite e a v s) := by
  unfold latWrite
  dsimp only
  repeat' split
  all_goals first | exact h | grind [latRefresh_kept, setReg_kept, whenB_kept, latchArm_kept, latchFlush_kept, latchPop_kept,
    plainWrite_kept]

theorem blockWrite_kept (e : Option Nat) (a : Nat) (v : Sys2Proof.W32) (s : State) (h : Kept k s) : Kept k (blockWrite e a v s) := by
  unfold blockWrite
  grind [pwmWrite_kept, adcWrite_kept, fbkWrite_kept, latWrite_kept, foldl_kept]

theorem ioWrite_kept (e : Option Nat) (a : Nat) (w : W32) (s : State) (h : Kept k s) : Kept k (ioWrite e a w s) := by
  unfold ioWrite
  extract_lets v
  split
  · split
    · exact h
    · exact blockWrite_kept _ _ _ _ h
  · exact clk_upd_kept _ _ rfl rfl (blockWrite_kept _ _ _ _ h)

theorem wideWrite_kept (a : Nat) (v : Sys2Proof.W32) (s : State) (h : Kept k s) : Kept k (wideWrite a v s) := by
  unfold wideWrite
  grind [Kept, Good, State.tablesOk, plainWrite_kept, foldl_kept]

theorem setHold_kept (a : Nat) (v : Option Sys2Proof.W32) (s : State) (h : Kept k s) : Kept k (State.setHold s a v) := by
  unfold State.setHold
  grind [Kept, Good, State.tablesOk, foldl_kept]

theorem regRead_kept (a : Nat) (s : State) (h : Kept k s) : Kept k (regRead a s).2 := by
  unfold regRead
  grind [setHold_kept, forEach_kept, foldl_kept]

theorem hostRead_kept (a : Nat) (s : State) (h : Kept k s) : Kept k (hostRead a s) := by
  unfold hostRead
  grind (splits := 30) (gen := 30) (ematch := 30) [txtsRead_kept, regRead_kept, foldl_kept, host_upd_kept, md_upd_kept, plan_upd_kept,
    loop_upd_kept, web_upd_kept, spar_upd_kept, pwm_upd_kept, adc_upd_kept, fbk_upd_kept, cap_upd_kept, net_upd_kept, fld_upd_kept,
    pwr_upd_kept, img_upd_kept, free_upd_kept]

theorem setG_kept (e : Nat) (n : Nat) (v : Sys2Proof.W64) (s : State) (h : Kept k s) : Kept k (State.setG s e n v) := by
  unfold State.setG
  grind [updEng_kept, foldl_kept]

theorem setAcc_kept (e : Nat) (x2 : Bool) (v : Int) (s : State) (h : Kept k s) : Kept k (State.setAcc s e x2 v) := by
  unfold State.setAcc
  grind [updEng_kept, foldl_kept]

theorem stick_kept (e : Nat) (b : Nat) (s : State) (h : Kept k s) : Kept k (State.stick s e b) := by
  unfold State.stick
  grind [updEng_kept, foldl_kept]

theorem stickIf_kept (c : Bool) (e : Nat) (b : Nat) (s : State) (h : Kept k s) : Kept k (stickIf c e b s) := by
  unfold stickIf
  grind [stick_kept, foldl_kept]

theorem sparExc_kept (e : Nat) (cause : Nat) (info : Nat) (s : State) (h : Kept k s) : Kept k (sparExc e cause info s) := by
  unfold sparExc
  grind [updEng_kept, raise_kept, updSlot_kept, slotSafe_kept, callRollback_kept, foldl_kept]

theorem haltEngine_kept (e : Nat) (brk : Bool) (s : State) (h : Kept k s) : Kept k (haltEngine e brk s) := by
  unfold haltEngine
  grind [setReg_kept, set_kept, updEng_kept, foldl_kept]

theorem takeIrq_kept (e : Nat) (s : State) (h : Kept k s) : Kept k (takeIrq e s) := by
  unfold takeIrq
  grind [updEng_kept, foldl_kept]

theorem sparStep_kept (i : Sys2Proof.SparAt) (f : Sys2Proof.Machine.State → Sys2Proof.Machine.State) (h_f : ∀ t, Kept k t → Kept k (f
    t)) (s : State) (h : Kept k s) : Kept k (sparStep i f s) := by
  unfold sparStep
  grind [atCyc_kept, takeIrq_kept, updEng_kept, draw_kept, sparExc_kept, haltEngine_kept, foldl_kept]

theorem ioLoad_kept (e : Nat) (o : Nat) (n : Nat) (s : State) (h : Kept k s) : Kept k (ioLoad e o n s).2 := by
  unfold ioLoad
  grind [regRead_kept, stick_kept, foldl_kept]

theorem ioStore_kept (e : Nat) (o : Nat) (n : Nat) (v : Nat) (s : State) (h : Kept k s) : Kept k (ioStore e o n v s) := by
  unfold ioStore
  grind [ioWrite_kept, stick_kept, foldl_kept]

theorem sparLoad_kept (e a n : Nat) (s : State) (v : Nat) (t : State) (hl : sparLoad e a n s = .ok (v, t)) (h : Kept k s) :
    Kept k t := by
  unfold sparLoad at hl
  dsimp only at hl
  repeat' split at hl
  all_goals first
    | (cases hl; done)
    | (cases hl; exact h)
    | (have e := congrArg Prod.snd (Except.ok.inj hl); simp only at e; subst e; exact ioLoad_kept _ _ _ _ h)

theorem sparStore_kept (e a n v : Nat) (s t : State) (hl : sparStore e a n v s = .ok t) (h : Kept k s) : Kept k t := by
  unfold sparStore at hl
  dsimp only at hl
  repeat' split at hl
  all_goals first
    | (cases hl; done)
    | (cases hl; exact updEng_kept _ _ _ h)
    | (cases hl; exact ioStore_kept _ _ _ _ _ h)

theorem postAg_kept (e : Nat) (x1 : Nat) (step : Int) (s : State) (h : Kept k s) : Kept k (postAg e x1 step s) := by
  unfold postAg
  grind [stickIf_kept, updEng_kept, foldl_kept]

theorem afterMem_kept (e : Nat) (p : Option (Nat × Int)) (s : State) (h : Kept k s) : Kept k (afterMem e p s) := by
  unfold afterMem
  grind [postAg_kept, foldl_kept]

theorem opLoad_kept (e : Nat) (rd : Nat) (sz : Nat) (m : Sys2Proof.MemAddr) (s : State) (h : Kept k s) : Kept k (opLoad e rd sz m s) := by
  unfold opLoad
  dsimp only
  split
  · exact sparExc_kept _ _ _ _ h
  · rename_i hl; exact setG_kept _ _ _ _ (afterMem_kept _ _ _ (sparLoad_kept _ _ _ _ _ _ hl h))

theorem opStore_kept (e : Nat) (rs : Nat) (sz : Nat) (m : Sys2Proof.MemAddr) (s : State) (h : Kept k s) : Kept k (opStore e rs sz m s) := by
  unfold opStore
  dsimp only
  split
  · exact sparExc_kept _ _ _ _ h
  · rename_i hl; exact afterMem_kept _ _ _ (sparStore_kept _ _ _ _ _ _ hl h)

theorem op2_kept (e : Nat) (rd : Nat) (ra : Nat) (rb : Nat) (f : Sys2Proof.W64 → Sys2Proof.W64 → Sys2Proof.W64 × Bool) (s : State) (h :
    Kept k s) : Kept k (op2 e rd ra rb f s) := by
  unfold op2
  grind [stickIf_kept, setG_kept, foldl_kept]

theorem op1_kept (e : Nat) (rd : Nat) (ra : Nat) (f : Sys2Proof.W64 → Sys2Proof.W64 × Bool) (s : State) (h : Kept k s) :
    Kept k (op1 e rd ra f s) := by
  unfold op1
  grind [op2_kept, foldl_kept]

theorem macTo_kept (e : Nat) (ra : Nat) (rb : Nat) (acc : Bool) (sg : Sys2Proof.MacSign) (f : Int → Int → Int) (s : State) (h : Kept k
    s) : Kept k (macTo e ra rb acc sg f s) := by
  unfold macTo
  grind [stickIf_kept, setAcc_kept, foldl_kept]

theorem macLoad_kept (e : Nat) (ra : Nat) (rb : Nat) (mf : Nat) (agx : Nat) (agy : Nat) (acc : Bool) (sg : Sys2Proof.MacSign) (f : Int →
    Int → Int) (s : State) (h : Kept k s) : Kept k (macLoad e ra rb mf agx agy acc sg f s) := by
  unfold macLoad
  dsimp only
  split
  · exact sparExc_kept _ _ _ _ h
  · split
    · exact sparExc_kept _ _ _ _ h
    · rename_i h1
      have k1 := sparLoad_kept _ _ _ _ _ _ h1 (macTo_kept _ _ _ _ _ _ _ h)
      split
      · exact sparExc_kept _ _ _ _ h
      · rename_i h2
        exact postAg_kept _ _ _ _ (postAg_kept _ _ _ _ (setG_kept _ _ _ _ (setG_kept _ _ _ _ (sparLoad_kept _ _ _ _ _ _ h2 k1))))

theorem opExtr_kept (e : Nat) (rd : Nat) (shift : Nat) (acc : Bool) (rnd : Bool) (s : State) (h : Kept k s) :
    Kept k (opExtr e rd shift acc rnd s) := by
  unfold opExtr
  grind [sparExc_kept, stickIf_kept, setG_kept, foldl_kept]

theorem opAcld_kept (e : Nat) (ra : Nat) (shift : Nat) (acc : Bool) (s : State) (h : Kept k s) : Kept k (opAcld e ra shift acc s) := by
  unfold opAcld
  grind [sparExc_kept, setAcc_kept, foldl_kept]

theorem opDivide_kept (e : Nat) (rd : Nat) (signed : Bool) (a : Int) (b : Int) (s : State) (h : Kept k s) :
    Kept k (opDivide e rd signed a b s) := by
  unfold opDivide
  grind [stick_kept, setG_kept, stickIf_kept, foldl_kept]

theorem opSincos_kept (e : Nat) (rd : Nat) (rb : Nat) (theta : Sys2Proof.W32) (s : State) (h : Kept k s) :
    Kept k (opSincos e rd rb theta s) := by
  unfold opSincos
  grind [draw_kept, setG_kept, foldl_kept]

theorem jumpBy_kept (e : Nat) (off : BitVec 16) (s : State) (h : Kept k s) : Kept k (jumpBy e off s) := by
  unfold jumpBy
  grind [updEng_kept, foldl_kept]

theorem branchIf_kept (e : Nat) (c : Bool) (off : BitVec 16) (s : State) (h : Kept k s) : Kept k (branchIf e c off s) := by
  unfold branchIf
  grind [jumpBy_kept, foldl_kept]

theorem opBloop_kept (e : Nat) (off : BitVec 16) (s : State) (h : Kept k s) : Kept k (opBloop e off s) := by
  unfold opBloop
  grind [branchIf_kept, updEng_kept, foldl_kept]

theorem opBloopr_kept (e : Nat) (off : BitVec 16) (s : State) (h : Kept k s) : Kept k (opBloopr e off s) := by
  unfold opBloopr
  grind [updEng_kept, opBloop_kept, foldl_kept]

theorem engDone_kept (e : Nat) (s : State) (h : Kept k s) : Kept k (engDone e s) := by
  unfold engDone
  grind [updEng_kept, foldl_kept]

theorem opDone_kept (e : Nat) (s : State) (h : Kept k s) : Kept k (opDone e s) := by
  unfold opDone
  grind [engDone_kept, foldl_kept]

theorem opWaitt_kept (e : Nat) (s : State) (h : Kept k s) : Kept k (opWaitt e s) := by
  unfold opWaitt
  grind [sparExc_kept, opDone_kept, updEng_kept, foldl_kept]

theorem opWaitc_kept (e : Nat) (s : State) (h : Kept k s) : Kept k (opWaitc e s) := by
  unfold opWaitc
  grind [sparExc_kept, updEng_kept, foldl_kept]

theorem opReti_kept (e : Nat) (s : State) (h : Kept k s) : Kept k (opReti e s) := by
  unfold opReti
  grind [updEng_kept, engIrq_kept, foldl_kept]

theorem opBrk_kept (e : Nat) (s : State) (h : Kept k s) : Kept k (opBrk e s) := by
  unfold opBrk
  grind [haltEngine_kept, foldl_kept]

theorem dmaStart_kept (e : Nat) (s : State) (h : Kept k s) : Kept k (dmaStart e s) := by
  unfold dmaStart
  grind [stick_kept, sparExc_kept, updEng_kept, foldl_kept]

theorem dmaComplete_kept (e : Nat) (s : State) (h : Kept k s) : Kept k (dmaComplete e s) := by
  unfold dmaComplete
  grind [updEng_kept, engIrq_kept, foldl_kept]

theorem mtc_kept (e n : Nat) (v : W64) (s t : State) (hl : mtc e n v s = some t) (h : Kept k s) : Kept k t := by
  unfold mtc at hl
  dsimp only at hl
  split at hl
  all_goals first
    | (cases hl; done)
    | (cases hl; exact h)
    | (cases hl; split; exact dmaStart_kept _ _ (updEng_kept _ _ _ h); exact updEng_kept _ _ _ h)

theorem opMfc_kept (e : Nat) (rd : Nat) (n : Nat) (s : State) (h : Kept k s) : Kept k (opMfc e rd n s) := by
  unfold opMfc
  grind [setG_kept, sparExc_kept, foldl_kept]

theorem opMtc_kept (e : Nat) (ra : Nat) (n : Nat) (s : State) (h : Kept k s) : Kept k (opMtc e ra n s) := by
  unfold opMtc
  split
  · rename_i hl; exact mtc_kept _ _ _ _ _ hl h
  · exact sparExc_kept _ _ _ _ h

theorem updDbg_kept (f : Sys2Proof.Machine.DbgSt → Sys2Proof.Machine.DbgSt) (s : State) (h : Kept k s) : Kept k (State.updDbg s f) := by
  unfold State.updDbg
  grind [Kept, Good, State.tablesOk, foldl_kept]

theorem dbgRefresh_kept (s : State) (h : Kept k s) : Kept k (dbgRefresh s) := by
  unfold dbgRefresh
  grind [forEach_kept, setB_kept, set_kept, foldl_kept]

theorem dbgDetach_kept (s : State) (h : Kept k s) : Kept k (dbgDetach s) := by
  unfold dbgDetach
  grind [forEach_kept, resumeEngine_kept, set_kept, foldl_kept]

theorem dbgEngWrite_kept (e : Nat) (v : Sys2Proof.W32) (s : State) (h : Kept k s) : Kept k (dbgEngWrite e v s) := by
  unfold dbgEngWrite
  grind [haltEngine_kept, resumeEngine_kept, updEng_kept, foldl_kept]

theorem dbgAttach_kept (path : Nat) (s : State) (h : Kept k s) : Kept k (dbgAttach path s) := by
  unfold dbgAttach
  grind [updDbg_kept, set_kept, foldl_kept]

theorem dbgWrite_kept (path a : Nat) (v : W32) (s : State) (h : Kept k s) : Kept k (dbgWrite path a v s) := by
  unfold dbgWrite
  extract_lets owner attaches s1 s2
  have h1 : Kept k s1 := by
    unfold s1
    split
    · exact set_kept _ _ _ h
    · exact h
  have h2 : Kept k s2 := setReg_kept _ _ _ h
  split
  · exact h
  split
  · exact dbgAttach_kept _ _ h
  split
  · exact flag_kept _ _ h
  split
  · split
    · split
      · exact h1
      · exact dbgDetach_kept _ h1
    · split
      · exact dbgAttach_kept _ _ h1
      · exact h1
  split
  · exact h
  split
  · split
    · exact updDbg_kept _ _ (set_kept _ _ _ h2)
    · exact h2
  split
  · split
    · exact dbgEngWrite_kept _ _ _ h
    · exact h
  split
  · exact wideWrite_kept _ _ _ h
  · exact plainWrite_kept _ _ _ h

theorem dbgPeek_kept (e sp a : Nat) (s : State) (v : Nat) (t : State) (hl : dbgPeek e sp a s = some (v, t)) (h : Kept k s) :
    Kept k t := by
  have h2 : t = s ∨ ∃ p, sparLoad e (a / 8 * 8) 8 s = .ok p ∧ p = (v, t) := by
    unfold dbgPeek at hl
    extract_lets x f at hl
    split at hl
    · split at hl
      · rename_i p hp
        exact .inr ⟨p, hp, Option.some.inj hl⟩
      · cases hl
    · split at hl
      · exact .inl (congrArg Prod.snd (Option.some.inj hl)).symm
      · cases hl
    all_goals
      obtain ⟨w, _, hw⟩ := Option.map_eq_some_iff.mp hl
      exact .inl (congrArg Prod.snd hw).symm
  obtain rfl | ⟨p, hp, rfl⟩ := h2
  · exact h
  · exact sparLoad_kept _ _ _ _ _ _ hp h

theorem dbgPoke_kept (e sp a : Nat) (v : W64) (s t : State) (hl : dbgPoke e sp a v s = some t) (h : Kept k s) : Kept k t := by
  unfold dbgPoke at hl
  dsimp only at hl
  split at hl
  · split at hl
    · rename_i p hp; cases hl; exact sparStore_kept _ _ _ _ _ _ hp h
    · cases hl
  · split at hl
    · cases hl; exact updEng_kept _ _ _ h
    · cases hl
  · obtain ⟨w, _, hw⟩ := Option.map_eq_some_iff.mp hl
    cases hw
    exact updEng_kept _ _ _ h
  · obtain ⟨w, _, hw⟩ := Option.map_eq_some_iff.mp hl
    cases hw
    exact updEng_kept _ _ _ h
  · exact mtc_kept _ _ _ _ _ hl h

theorem dbgTransfer_kept (s : State) (h : Kept k s) : Kept k (dbgTransfer s) := by
  unfold dbgTransfer
  dsimp only
  have h1 := set_kept F.dbgMemCtrl_BUSY 0 s h
  split
  · exact h
  · split
    · exact set_kept _ _ _ h1
    · split
      · split
        · rename_i hl; exact dbgPoke_kept _ _ _ _ _ _ hl h1
        · exact set_kept _ _ _ h1
      · split
        · rename_i hl; exact set64_kept _ _ _ (dbgPeek_kept _ _ _ _ _ _ hl h1)
        · exact set_kept _ _ _ h1

theorem jtagLoad_kept (i : Sys2Proof.Machine.JtagIr) (s : State) (h : Kept k s) : Kept k (jtagLoad i s) := by
  unfold jtagLoad
  grind [updDbg_kept, foldl_kept]

theorem jtagSample_kept (pads : List Bool) (drive : List Bool) (s : State) (h : Kept k s) : Kept k (jtagSample pads drive s) := by
  unfold jtagSample
  grind [updDbg_kept, foldl_kept]

theorem jtagWatch_kept (before : Sys2Proof.Machine.State) (s : State) (h : Kept k s) : Kept k (jtagWatch before s) := by
  unfold jtagWatch
  grind [forEach_kept, slotSafe_kept, foldl_kept]

end Sys2Proof.Machine
end

