-- ==== Sys2Proof/Laws/KeptHost.lean ====
section
/-!
SUPPORT. What the operations of the rings, modes, register writes and the tick leave alone: one lemma for each operation, in its file's order.
-/
namespace Sys2Proof.Machine

set_option Elab.async false
variable {k : Keep}

theorem opAxisBind_kept (d : Sys2Proof.Desc) (s : State) (h : Kept k s) : Kept k (opAxisBind d s).1 := by
  unfold opAxisBind
  grind (splits := 30) (gen := 30) (ematch := 30) [updAxis_kept, groupQuar_kept, raise_kept, foldl_kept, host_upd_kept, md_upd_kept,
    plan_upd_kept, loop_upd_kept, web_upd_kept, spar_upd_kept, pwm_upd_kept, adc_upd_kept, fbk_upd_kept, cap_upd_kept, net_upd_kept,
    shr_upd_kept, fld_upd_kept, pwr_upd_kept, img_upd_kept, free_upd_kept]

theorem opAxisLimits_kept (d : Sys2Proof.Desc) (s : State) (h : Kept k s) : Kept k (opAxisLimits d s).1 := by
  unfold opAxisLimits
  grind [updAxis_kept, foldl_kept]

theorem opProfile_kept (d : Sys2Proof.Desc) (s : State) (h : Kept k s) : Kept k (opProfile d s).1 := by
  unfold opProfile
  grind [updGrp_kept, liveProfile_kept, foldl_kept]

theorem moveWith_kept (imm : Bool) (d : Sys2Proof.Desc) (s : State) (h : Kept k s) : Kept k (moveWith imm d s).1 := by
  unfold moveWith
  grind [Kept, Good, State.tablesOk, closeMove_kept, foldl_kept]

theorem opMove_kept (d : Sys2Proof.Desc) (s : State) (h : Kept k s) : Kept k (opMove d s).1 := by
  unfold opMove
  grind [moveWith_kept, foldl_kept]

theorem opMoveCont_kept (d : Sys2Proof.Desc) (s : State) (h : Kept k s) : Kept k (opMoveCont d s).1 := by
  unfold opMoveCont
  grind [Kept, Good, State.tablesOk, closeMove_kept, foldl_kept]

theorem moveIncomplete_kept (ring : Nat) (s : State) (h : Kept k s) : Kept k (moveIncomplete ring s) := by
  unfold moveIncomplete
  grind [endOpen_kept, foldl_kept]

theorem loseRecord_kept (at' : Nat) (s : State) (h : Kept k s) : Kept k (loseRecord at' s) := by
  unfold loseRecord
  grind [patchRecord_kept, foldl_kept]

theorem dropTrigger_kept (g : Nat) (met : Nat) (s : State) (h : Kept k s) : Kept k (dropTrigger g met s) := by
  unfold dropTrigger
  grind (splits := 30) (gen := 30) (ematch := 30) [forEach_kept, stopStage_kept, set_kept, foldl_kept, host_upd_kept, md_upd_kept,
    plan_upd_kept, loop_upd_kept, web_upd_kept, spar_upd_kept, pwm_upd_kept, adc_upd_kept, fbk_upd_kept, cap_upd_kept, net_upd_kept,
    shr_upd_kept, fld_upd_kept, pwr_upd_kept, img_upd_kept, dbg_upd_kept, free_upd_kept]

theorem groupCmd_kept (d : Sys2Proof.Desc) (g : Nat) (from' : List Nat) (rank : Nat) (ok : Bool) (act : Sys2Proof.Machine.State →
    Sys2Proof.Machine.State) (h_act : ∀ t, Kept k t → Kept k (act t)) (s : State) (h : Kept k s) :
    Kept k (groupCmd d g from' rank ok act s).1 := by
  unfold groupCmd
  grind [updGrp_kept, dropTrigger_kept, loseRecord_kept, foldl_kept]

theorem opGroupEnable_kept (d : Sys2Proof.Desc) (s : State) (h : Kept k s) : Kept k (opGroupEnable d s).1 := by
  unfold opGroupEnable
  grind [groupCmd_kept, setGst_kept, forEach_kept, closeLoops_kept, foldl_kept]

theorem opGroupDisable_kept (d : Sys2Proof.Desc) (s : State) (h : Kept k s) : Kept k (opGroupDisable d s).1 := by
  unfold opGroupDisable
  grind [groupCmd_kept, groupToIdle_kept, foldl_kept]

theorem opGroupStop_kept (d : Sys2Proof.Desc) (s : State) (h : Kept k s) : Kept k (opGroupStop d s).1 := by
  unfold opGroupStop
  grind [groupCmd_kept, stopGroup_kept, foldl_kept]

theorem opGroupResume_kept (d : Sys2Proof.Desc) (s : State) (h : Kept k s) : Kept k (opGroupResume d s).1 := by
  unfold opGroupResume
  grind [groupCmd_kept, resumeGroup_kept, foldl_kept]

theorem flushGroup_kept (g : Nat) (s : State) (h : Kept k s) : Kept k (flushGroup g s) := by
  unfold flushGroup
  grind [updGrp_kept, setTargets_kept, planNext_kept, foldl_kept]

theorem opGroupFlush_kept (d : Sys2Proof.Desc) (s : State) (h : Kept k s) : Kept k (opGroupFlush d s).1 := by
  unfold opGroupFlush
  grind [flushGroup_kept, foldl_kept]

theorem opGroupNone_kept (d : Sys2Proof.Desc) (s : State) (h : Kept k s) : Kept k (opGroupNone d s).1 := by
  unfold opGroupNone
  grind [foldl_kept]

theorem opGroupCtrl_kept (d : Sys2Proof.Desc) (s : State) (h : Kept k s) : Kept k (opGroupCtrl d s).1 := by
  unfold opGroupCtrl
  grind [opGroupEnable_kept, opGroupDisable_kept, opGroupStop_kept, opGroupResume_kept, opGroupFlush_kept, opGroupNone_kept, foldl_kept]

theorem queueCouple_kept (g : Nat) (member : Nat) (absent : Bool) (c : Sys2Proof.Machine.Couple) (cl : Nat) (s : State) (h : Kept k s) :
    Kept k (queueCouple g member absent c cl s).1 := by
  unfold queueCouple
  grind [planNext_kept, updGrp_kept, foldl_kept]

theorem gearWith_kept (off : Bool) (d : Sys2Proof.Desc) (s : State) (h : Kept k s) : Kept k (gearWith off d s).1 := by
  unfold gearWith
  grind [queueCouple_kept, foldl_kept]

theorem opGear_kept (d : Sys2Proof.Desc) (s : State) (h : Kept k s) : Kept k (opGear d s).1 := by
  unfold opGear
  grind [gearWith_kept, foldl_kept]

theorem camWith_kept (off : Bool) (d : Sys2Proof.Desc) (s : State) (h : Kept k s) : Kept k (camWith off d s).1 := by
  unfold camWith
  grind [queueCouple_kept, foldl_kept]

theorem opCamEngage_kept (d : Sys2Proof.Desc) (s : State) (h : Kept k s) : Kept k (opCamEngage d s).1 := by
  unfold opCamEngage
  grind [camWith_kept, foldl_kept]

theorem opCamLoad_kept (d : Sys2Proof.Desc) (s : State) (h : Kept k s) : Kept k (opCamLoad d s).1 := by
  unfold opCamLoad
  grind [Kept, Good, State.tablesOk, foldl_kept]

theorem camReady_kept (t : Nat) (s : State) (h : Kept k s) : Kept k (camReady t s) := by
  unfold camReady
  grind [Kept, Good, State.tablesOk, raise_kept, foldl_kept]

theorem opGroupReport_kept (d : Sys2Proof.Desc) (s : State) (h : Kept k s) : Kept k (opGroupReport d s).1 := by
  unfold opGroupReport
  grind [writeReport_kept, foldl_kept]

theorem attnRefresh_kept (n : Nat) (s : State) (h : Kept k s) : Kept k (attnRefresh n s) := by
  unfold attnRefresh
  grind [setB_kept, foldl_kept]

theorem ringFlag_kept (n : Nat) (f : Sys2Proof.Machine.Fld) (s : State) (h : Kept k s) : Kept k (ringFlag n f s) := by
  unfold ringFlag
  grind [attnRefresh_kept, flag_kept, foldl_kept]

theorem grantSum_kept (s : State) (h : Kept k s) : Kept k (grantSum s) := by
  unfold grantSum
  grind [set_kept, foldl_kept]

theorem ringIrq_kept (n : Nat) (s : State) (h : Kept k s) : Kept k (ringIrq n s) := by
  unfold ringIrq
  grind [updRing_kept, irq_kept, foldl_kept]

theorem complete_kept (n : Nat) (d : Sys2Proof.Desc) (status : Nat) (r : Sys2Proof.Machine.Reply) (held : Bool) (s : State) (h : Kept k
    s) : Kept k (complete n d status r held s) := by
  unfold complete
  grind [ringPut_kept, updRing_kept, setReg_kept, bumpSat_kept, ringIrq_kept, foldl_kept]

theorem evPut_kept (e : Sys2Proof.Machine.Event) (s : State) (h : Kept k s) : Kept k (evPut e s) := by
  unfold evPut
  grind (splits := 30) (gen := 30) (ematch := 30) [setReg_kept, hostWrite_kept, foldl_kept, host_upd_kept, md_upd_kept, plan_upd_kept,
    loop_upd_kept, web_upd_kept, spar_upd_kept, pwm_upd_kept, adc_upd_kept, fbk_upd_kept, cap_upd_kept, net_upd_kept, shr_upd_kept,
    fld_upd_kept, pwr_upd_kept, img_upd_kept, dbg_upd_kept, free_upd_kept]

theorem evDrop_kept (s : State) (h : Kept k s) : Kept k (evDrop s) := by
  unfold evDrop
  grind [Kept, Good, State.tablesOk, bumpSat_kept, foldl_kept]

theorem evWrite_kept (e : Sys2Proof.Machine.Event) (s : State) (h : Kept k s) : Kept k (evWrite e s) := by
  unfold evWrite
  grind (splits := 30) (gen := 30) (ematch := 30) [evPut_kept, evDrop_kept, foldl_kept, host_upd_kept, md_upd_kept, plan_upd_kept,
    loop_upd_kept, web_upd_kept, spar_upd_kept, pwm_upd_kept, adc_upd_kept, fbk_upd_kept, cap_upd_kept, net_upd_kept, shr_upd_kept,
    fld_upd_kept, pwr_upd_kept, img_upd_kept, free_upd_kept]

theorem evFlush_kept (s : State) (h : Kept k s) : Kept k (evFlush s) := by
  unfold evFlush
  grind [Kept, Good, State.tablesOk, evWrite_kept, irq_kept, foldl_kept]

theorem stepEvents_kept (before : Sys2Proof.Machine.State) (s : State) (h : Kept k s) : Kept k (stepEvents before s) := by
  unfold stepEvents
  grind [evFlush_kept, foldl_kept]

theorem closeOpen_kept (n : Nat) (opcode : Nat) (d : Sys2Proof.Desc) (s : State) (h : Kept k s) : Kept k (closeOpen n opcode d s) := by
  unfold closeOpen
  grind [endOpen_kept, foldl_kept]

theorem applyDesc_kept (opcode : Nat) (op : Sys2Proof.Machine.Op) (held : Bool) (d : Sys2Proof.Desc) (h_op : ∀ d t, Kept k t → Kept k
    (op d t).1) (s : State) (h : Kept k s) : Kept k (applyDesc opcode op held d s) := by
  unfold applyDesc
  grind [closeOpen_kept, complete_kept, foldl_kept]

theorem runDesc_kept (opcode : Nat) (op : Sys2Proof.Machine.Op) (d : Sys2Proof.Desc) (h_op : ∀ d t, Kept k t → Kept k (op d t).1) (s :
    State) (h : Kept k s) : Kept k (runDesc opcode op d s) := by
  unfold runDesc
  grind [setReg_kept, updRing_kept, stepEvents_kept, applyDesc_kept, foldl_kept]

theorem fenceRelease_kept (app : Nat → Sys2Proof.Machine.Op) (n : Nat) (h_app : ∀ n d t, Kept k t → Kept k (app n d t).1) (s : State) (h
    : Kept k s) : Kept k (fenceRelease app n s) := by
  unfold fenceRelease
  grind [updRing_kept, stepEvents_kept, applyDesc_kept, foldl_kept]

theorem ringOff_kept (n : Nat) (s : State) (h : Kept k s) : Kept k (ringOff n s) := by
  unfold ringOff
  grind [Kept, Good, State.tablesOk, set_kept, updRing_kept, setReg_kept, sessionEnd_kept, grantSum_kept, foldl_kept]

theorem ringOn_kept (n : Nat) (s : State) (h : Kept k s) : Kept k (ringOn n s) := by
  unfold ringOn
  grind (splits := 30) (gen := 30) (ematch := 30) [grantSum_kept, set_kept, updRing_kept, setReg_kept, foldl_kept, host_upd_kept,
    md_upd_kept, plan_upd_kept, loop_upd_kept, web_upd_kept, spar_upd_kept, pwm_upd_kept, adc_upd_kept, fbk_upd_kept, cap_upd_kept,
    net_upd_kept, shr_upd_kept, fld_upd_kept, pwr_upd_kept, img_upd_kept, free_upd_kept]

theorem evOn_kept (s : State) (h : Kept k s) : Kept k (evOn s) := by
  unfold evOn
  grind (splits := 30) (gen := 30) (ematch := 30) [setReg_kept, set_kept, foldl_kept, host_upd_kept, md_upd_kept, plan_upd_kept,
    loop_upd_kept, web_upd_kept, spar_upd_kept, pwm_upd_kept, adc_upd_kept, fbk_upd_kept, cap_upd_kept, net_upd_kept, shr_upd_kept,
    fld_upd_kept, pwr_upd_kept, img_upd_kept, free_upd_kept]

theorem evOff_kept (s : State) (h : Kept k s) : Kept k (evOff s) := by
  unfold evOff
  grind [set_kept, foldl_kept]

theorem crOn_kept (m : Nat) (s : State) (h : Kept k s) : Kept k (crOn m s) := by
  unfold crOn
  grind (splits := 30) (gen := 30) (ematch := 30) [setReg_kept, set_kept, foldl_kept, host_upd_kept, md_upd_kept, plan_upd_kept,
    loop_upd_kept, web_upd_kept, spar_upd_kept, pwm_upd_kept, adc_upd_kept, fbk_upd_kept, cap_upd_kept, net_upd_kept, shr_upd_kept,
    fld_upd_kept, pwr_upd_kept, img_upd_kept, free_upd_kept]

theorem crOff_kept (m : Nat) (s : State) (h : Kept k s) : Kept k (crOff m s) := by
  unfold crOff
  grind [capRingDrop_kept, set_kept, foldl_kept]

theorem hriApply_kept (a : Nat) (v : Sys2Proof.W32) (s : State) (h : Kept k s) : Kept k (hriApply a v s) := by
  unfold hriApply
  extract_lets n o on w old keep m o2 on2 w2 keep2 on3 w3 keep3
  split
  · exact h
  split
  · split
    · split
      · exact h
      · exact wideWrite_kept _ _ _ h
    split
    · exact setReg_kept _ _ _ h
    split
    · exact setReg_kept _ _ _ h
    · exact attnRefresh_kept _ _ (plainWrite_kept _ _ _ h)
  split
  · split
    · split
      · exact h
      · exact wideWrite_kept _ _ _ h
    split
    · exact setReg_kept _ _ _ h
    · exact h
  split
  · split
    · split
      · exact h
      · exact wideWrite_kept _ _ _ h
    split
    · exact setReg_kept _ _ _ h
    · exact h
  · exact plainWrite_kept _ _ _ h

theorem hriWrite_kept (a : Nat) (v : Sys2Proof.W32) (s : State) (h : Kept k s) : Kept k (hriWrite a v s) := by
  unfold hriWrite
  grind [Kept, Good, State.tablesOk, foldl_kept]

theorem hriStep1_kept (s : State) (h : Kept k s) : Kept k (hriStep1 s) := by
  unfold hriStep1
  grind (splits := 30) (gen := 30) (ematch := 30) [hriApply_kept, forEach_kept, ringOff_kept, evOff_kept, crOff_kept, ringOn_kept,
    evOn_kept, crOn_kept, foldl_kept, host_upd_kept, md_upd_kept, plan_upd_kept, loop_upd_kept, web_upd_kept, spar_upd_kept,
    pwm_upd_kept, adc_upd_kept, fbk_upd_kept, cap_upd_kept, net_upd_kept, shr_upd_kept, fld_upd_kept, pwr_upd_kept, img_upd_kept,
    free_upd_kept]

theorem doorbell_kept (n : Nat) (t : Option Sys2Proof.W32) (x2 : Option Sys2Proof.W32) (s : State) (h : Kept k s) :
    Kept k (doorbell n t x2 s) := by
  unfold doorbell
  grind [updRing_kept, foldl_kept]

theorem recordDb_kept (n : Nat) (s : State) (h : Kept k s) : Kept k (recordDb n s) := by
  unfold recordDb
  grind [updRing_kept, setReg_kept, whenB_kept, ringFlag_kept, foldl_kept]

theorem hriStep2_kept (s : State) (h : Kept k s) : Kept k (hriStep2 s) := by
  unfold hriStep2
  grind (splits := 30) (gen := 30) (ematch := 30) [forEach_kept, recordDb_kept, capRelease_kept, foldl_kept, host_upd_kept, md_upd_kept,
    plan_upd_kept, loop_upd_kept, web_upd_kept, spar_upd_kept, pwm_upd_kept, adc_upd_kept, fbk_upd_kept, cap_upd_kept, net_upd_kept,
    shr_upd_kept, fld_upd_kept, pwr_upd_kept, img_upd_kept, dbg_upd_kept, free_upd_kept]

theorem stepMark_kept (s : State) (h : Kept k s) : Kept k (stepMark s) := by
  unfold stepMark
  grind [Kept, Good, State.tablesOk, foldl_kept]

theorem patchHost_kept (s : State) (h : Kept k s) : Kept k (patchHost s) := by
  unfold patchHost
  grind (splits := 30) (gen := 30) (ematch := 30) [patchRecord_kept, foldl_kept, host_upd_kept, md_upd_kept, plan_upd_kept,
    loop_upd_kept, web_upd_kept, spar_upd_kept, pwm_upd_kept, adc_upd_kept, fbk_upd_kept, cap_upd_kept, net_upd_kept, shr_upd_kept,
    fld_upd_kept, pwr_upd_kept, img_upd_kept, dbg_upd_kept, free_upd_kept]

theorem decided_kept (s : State) (h : Kept k s) : Kept k (decided s) := by
  unfold decided
  grind [imgMode_kept, patchHost_kept, foldl_kept]

theorem decideNow_kept (target : Nat) (cause : Nat) (rank : Nat) (s : State) (h : Kept k s) : Kept k (decideNow target cause rank s) := by
  unfold decideNow
  grind [decided_kept, decideMode_kept, foldl_kept]

theorem haulDecide_kept (cause : Nat) (s : State) (h : Kept k s) : Kept k (haulDecide cause s) := by
  unfold haulDecide
  grind [decideNow_kept, foldl_kept]

theorem wdAct_kept (n : Nat) (s : State) (h : Kept k s) : Kept k (wdAct n s) := by
  unfold wdAct
  grind [ringFlag_kept, updRing_kept, raise_kept, haulDecide_kept, forEach_kept, stopGroup_kept, foldl_kept]

theorem ringWatchdog_kept (n : Nat) (s : State) (h : Kept k s) : Kept k (ringWatchdog n s) := by
  unfold ringWatchdog
  grind [wdAct_kept, foldl_kept]

theorem freeBytes_kept (n : Nat) (s : State) (h : Kept k s) : Kept k (freeBytes n s).2 := by
  induction n generalizing s with
  | zero => exact h
  | succ n ih => exact ih _ (draw_kept _ h)

theorem undoWrites_kept (l : List Sys2Proof.Machine.RingWrite) (s : State) (h : Kept k s) : Kept k (undoWrites l s) := by
  unfold undoWrites
  grind [hostWrite_kept, freeBytes_kept, foldl_kept]

theorem ringUndo_kept (n : Nat) (addr : Nat) (s : State) (h : Kept k s) : Kept k (ringUndo n addr s) := by
  unfold ringUndo
  grind [setReg_kept, updRing_kept, undoWrites_kept, foldl_kept]

theorem evUndo_kept (addr : Nat) (s : State) (h : Kept k s) : Kept k (evUndo addr s) := by
  unfold evUndo
  grind (splits := 30) (gen := 30) (ematch := 30) [setReg_kept, undoWrites_kept, foldl_kept, host_upd_kept, md_upd_kept, plan_upd_kept,
    loop_upd_kept, web_upd_kept, spar_upd_kept, pwm_upd_kept, adc_upd_kept, fbk_upd_kept, cap_upd_kept, net_upd_kept, shr_upd_kept,
    fld_upd_kept, pwr_upd_kept, img_upd_kept, dbg_upd_kept, free_upd_kept]

theorem crUndo_kept (m : Nat) (addr : Nat) (s : State) (h : Kept k s) : Kept k (crUndo m addr s) := by
  unfold crUndo
  grind (splits := 30) (gen := 30) (ematch := 30) [setReg_kept, undoWrites_kept, forEach_kept, capRefresh_kept, foldl_kept,
    host_upd_kept, md_upd_kept, plan_upd_kept, loop_upd_kept, web_upd_kept, spar_upd_kept, pwm_upd_kept, adc_upd_kept, fbk_upd_kept,
    cap_upd_kept, net_upd_kept, shr_upd_kept, fld_upd_kept, pwr_upd_kept, img_upd_kept, dbg_upd_kept, free_upd_kept]

theorem dmaError_kept (ring : Nat) (wr : Bool) (addr : Sys2Proof.W64) (s : State) (h : Kept k s) : Kept k (dmaError ring wr addr s) := by
  unfold dmaError
  grind (splits := 30) (gen := 30) (ematch := 30) [raise_kept, ringUndo_kept, updRing_kept, set_kept, ringFlag_kept, wdAct_kept,
    sessionEnd_kept, flag_kept, evOff_kept, evUndo_kept, crOff_kept, crUndo_kept, foldl_kept, host_upd_kept, md_upd_kept, plan_upd_kept,
    loop_upd_kept, web_upd_kept, spar_upd_kept, pwm_upd_kept, adc_upd_kept, fbk_upd_kept, cap_upd_kept, net_upd_kept, shr_upd_kept,
    fld_upd_kept, pwr_upd_kept, img_upd_kept, dbg_upd_kept, free_upd_kept]

theorem hostLoss_kept (kind : Nat) (s : State) (h : Kept k s) : Kept k (hostLoss kind s) := by
  unfold hostLoss
  extract_lets s1 s2 s3 s4 s5 s6
  have h1 : Kept k s1 := forEach_kept _ _ (fun n t ht => by split; exact wdAct_kept _ _ ht; exact ht) _ h
  have h2 : Kept k s2 := by
    show Kept k (match s1.shr.session with | some _ => sessionEnd 3 s1 | none => s1)
    split
    · exact sessionEnd_kept _ _ h1
    · exact h1
  have h3 : Kept k s3 := forEach_kept _ _ (fun _ _ ht => ringOff_kept _ _ ht) _ h2
  have h4 : Kept k s4 := forEach_kept _ _ (fun _ _ ht => crOff_kept _ _ ht) _ (evOff_kept _ h3)
  have h5 : Kept k s5 := raise_kept _ _ _ _ _ _ h4
  have h6 : Kept k s6 := by
    show Kept k (if _ then _ else _)
    split
    · exact dbgDetach_kept _ h5
    · exact h5
  split
  · exact host_upd_kept _ _ (regsFilter_kept _ _ h6)
  · exact h6

theorem bookFault_kept (what : Nat) (which : Nat) (place' : Nat) (s : State) (h : Kept k s) : Kept k (bookFault what which place' s) := by
  unfold bookFault
  grind [raise_kept, foldl_kept]

theorem updMd_kept (f : Sys2Proof.Machine.ModeSt → Sys2Proof.Machine.ModeSt) (s : State) (h : Kept k s) : Kept k (State.updMd s f) := by
  unfold State.updMd
  grind [Kept, Good, State.tablesOk, foldl_kept]

theorem engineFault_kept (e : Nat) (s : State) (h : Kept k s) : Kept k (engineFault e s) := by
  unfold engineFault
  grind [updEng_kept, set_kept, whenB_kept, haulNow_kept, axisFault_kept, forEach_kept, groupFault_kept, portLeave_kept, capFault_kept,
    foldl_kept]

theorem neRestart_kept (s : State) (h : Kept k s) : Kept k (neRestart s) := by
  unfold neRestart
  grind [Kept, Good, State.tablesOk, setClock_kept, foldl_kept]

theorem engineRestart_kept (e : Nat) (s : State) (h : Kept k s) : Kept k (engineRestart e s) := by
  unfold engineRestart
  grind [Kept, Good, State.tablesOk, loadEngine_kept, set_kept, draw_kept, updMd_kept, raise_kept, neRestart_kept, foldl_kept]

theorem stopOthers_kept (g : Nat) (s : State) (h : Kept k s) : Kept k (stopOthers g s) := by
  unfold stopOthers
  grind [planNext_kept, foldl_kept]

theorem enterHauldown_kept (s : State) (h : Kept k s) : Kept k (enterHauldown s) := by
  unfold enterHauldown
  grind [haulBegin_kept, forEach_kept, stopOthers_kept, stopGroup_kept, foldl_kept]

theorem keepPath_kept (g : Nat) (s : State) (h : Kept k s) : Kept k (keepPath g s) := by
  unfold keepPath
  grind [updGrp_kept, foldl_kept]

theorem endHauldown_kept (s : State) (h : Kept k s) : Kept k (endHauldown s) := by
  unfold endHauldown
  grind (splits := 30) (gen := 30) (ematch := 30) [forEach_kept, setGst_kept, keepPath_kept, discardPlan_kept, raise_kept, foldl_kept,
    host_upd_kept, md_upd_kept, plan_upd_kept, loop_upd_kept, web_upd_kept, spar_upd_kept, pwm_upd_kept, adc_upd_kept, fbk_upd_kept,
    cap_upd_kept, net_upd_kept, shr_upd_kept, fld_upd_kept, pwr_upd_kept, img_upd_kept, free_upd_kept]

theorem dropHauldown_kept (s : State) (h : Kept k s) : Kept k (dropHauldown s) := by
  unfold dropHauldown
  grind (splits := 30) (gen := 30) (ematch := 30) [forEach_kept, discardPlan_kept, foldl_kept, host_upd_kept, md_upd_kept,
    plan_upd_kept, loop_upd_kept, web_upd_kept, spar_upd_kept, pwm_upd_kept, adc_upd_kept, fbk_upd_kept, cap_upd_kept, net_upd_kept,
    shr_upd_kept, fld_upd_kept, pwr_upd_kept, img_upd_kept, dbg_upd_kept, free_upd_kept]

theorem restartHalted_kept (e : Nat) (s : State) (h : Kept k s) : Kept k (restartHalted e s) := by
  unfold restartHalted
  grind [beginReload_kept, resumeEngine_kept, loadEngine_kept, foldl_kept]

theorem enterMode_kept (target cause : Nat) (s : State) (h : Kept k s) : Kept k (enterMode target cause s) := by
  unfold enterMode
  extract_lets old s1 src s1b s2 s3 s4 s5 s6 s7 s8 s9 u s10
  have h1 : Kept k s1 := set_kept _ _ _ (set_kept _ _ _ (set_kept _ _ _ (imgEnter_kept _ _ h)))
  have h1b : Kept k s1b := clk_upd_kept _ _ rfl rfl h1
  have h3 : Kept k s3 := raise_kept _ _ _ _ _ _ (set64_kept _ _ _ h1b)
  have h4 : Kept k s4 := forEach_kept _ _ (fun _ _ ht => dropResidues_kept _ _ ht) _ h3
  have h5 : Kept k s5 := whenB_kept _ _ (fun _ ht => forEach_kept _ _ (fun _ _ hu => slotSafe_kept _ _ hu) _ ht) _ h4
  have h6 : Kept k s6 := updMd_kept _ _ h5
  have h7 : Kept k s7 := by
    unfold s7
    split
    · split
      · exact endHauldown_kept _ h6
      · exact dropHauldown_kept _ h6
    · exact h6
  have h8 : Kept k s8 := by
    unfold s8
    split
    · exact set_kept _ _ _ h7
    · exact h7
  have h9 : Kept k s9 := by
    unfold s9
    split
    · exact forEach_kept _ _ (fun _ _ ht => restartHalted_kept _ _ ht) _ h8
    · exact h8
  have h10 : Kept k s10 := by
    unfold s10
    split
    · refine forEach_kept _ _ (fun _ _ ht => ?_) _ h9
      split
      · exact groupToIdle_kept _ _ ht
      · exact ht
    · split
      · exact forEach_kept _ _ (fun _ _ ht => stopGroup_kept _ _ ht) _
          (forEach_kept _ _ (fun _ _ ht => abortIdent_kept _ _ _ ht) _ h9)
      · split
        · exact enterHauldown_kept _ h9
        · exact h9
  exact dbgRefresh_kept _ (forEach_kept _ _ (fun _ _ ht => convRefresh_kept _ _ ht) _ h10)

theorem supplyStep_kept (m : Nat) (arr : List Bool) (backFrom : Nat) (t : State) (h : Kept k t) : Kept k (supplyStep m arr backFrom t) := by
  unfold supplyStep
  grind [decideMode_kept, updMd_kept, updPwr_kept, foldl_kept]

theorem decideStep_kept (s : State) (h : Kept k s) : Kept k (decideStep s) := by
  unfold decideStep
  grind (splits := 30) (gen := 30) (ematch := 30) [updMd_kept, updPwr_kept, decideMode_kept, supplyStep_kept, decided_kept, foldl_kept,
    host_upd_kept, md_upd_kept, plan_upd_kept, loop_upd_kept, web_upd_kept, spar_upd_kept, pwm_upd_kept, adc_upd_kept, fbk_upd_kept,
    cap_upd_kept, net_upd_kept, shr_upd_kept, fld_upd_kept, pwr_upd_kept, img_upd_kept, dbg_upd_kept, free_upd_kept]

theorem windowExpiry_kept (s : State) (h : Kept k s) : Kept k (windowExpiry s) := by
  unfold windowExpiry
  grind [decideNow_kept, foldl_kept]

theorem openInputs_kept (a : Nat) (s : State) (h : Kept k s) : Kept k (openInputs a s) := by
  unfold openInputs
  grind [forEach_kept, openRecovery_kept, foldl_kept]

theorem groupClear_kept (g : Nat) (s : State) (h : Kept k s) : Kept k (groupClear g s) := by
  unfold groupClear
  grind [forEach_kept, updAxis_kept, openInputs_kept, groupToIdle_kept, foldl_kept]

theorem clearGroups_kept (mask : Nat) (s : State) (h : Kept k s) : Kept k (clearGroups mask s).1 := by
  unfold clearGroups
  grind [forEach_kept, beginReload_kept, loadEngine_kept, updEimg_kept, groupClear_kept, foldl_kept]

theorem engineRecovered_kept (e : Nat) (s : State) (h : Kept k s) : Kept k (engineRecovered e s) := by
  unfold engineRecovered
  grind [updEimg_kept, set_kept, forEach_kept, groupClear_kept, raise_kept, foldl_kept]

theorem modeWith_kept (target : Option Nat) (clamped : Bool) (d : Sys2Proof.Desc) (s : State) (h : Kept k s) :
    Kept k (modeWith target clamped d s).1 := by
  unfold modeWith
  grind [clearGroups_kept, decideNow_kept, updMd_kept, foldl_kept]

theorem opMode_kept (d : Sys2Proof.Desc) (s : State) (h : Kept k s) : Kept k (opMode d s).1 := by
  unfold opMode
  grind [modeWith_kept, foldl_kept]

theorem pllLoss_kept (refLoss : Bool) (s : State) (h : Kept k s) : Kept k (pllLoss refLoss s) := by
  unfold pllLoss
  grind [set_kept, forEach_kept, updMd_kept, flag_kept, foldl_kept]

theorem pllRegained_kept (s : State) (h : Kept k s) : Kept k (pllRegained s) := by
  unfold pllRegained
  grind [forEach_kept, set_kept, updMd_kept, foldl_kept]

theorem bootStop_kept (err : Nat) (s : State) (h : Kept k s) : Kept k (bootStop err s) := by
  unfold bootStop
  grind [updMd_kept, set_kept, foldl_kept]

theorem bootTo_kept (n : Nat) (s : State) (h : Kept k s) : Kept k (bootTo n s) := by
  unfold bootTo
  grind [updMd_kept, foldl_kept]

theorem lcWipe_kept (s : State) (h : Kept k s) : Kept k (lcWipe s) := by
  unfold lcWipe
  grind (splits := 30) (gen := 30) (ematch := 30) [logAdd_kept, forEach_kept, putSlot_kept, updImg_kept, setB_kept, set_kept,
    updShr_kept, cfgClear_kept, updMd_kept, foldl_kept, host_upd_kept, md_upd_kept, plan_upd_kept, loop_upd_kept, web_upd_kept,
    spar_upd_kept, pwm_upd_kept, adc_upd_kept, fbk_upd_kept, cap_upd_kept, net_upd_kept, shr_upd_kept, fld_upd_kept, pwr_upd_kept,
    img_upd_kept, dbg_upd_kept, free_upd_kept]

theorem pendingWipe_kept (s : State) (h : Kept k s) : Kept k (pendingWipe s) := by
  unfold pendingWipe
  grind [lcWipe_kept, foldl_kept]

theorem pendingWipeTimeout_kept (s : State) (h : Kept k s) : Kept k (pendingWipeTimeout s) := by
  unfold pendingWipeTimeout
  grind [bootStop_kept, foldl_kept]

theorem pllLock_kept (ok : Bool) (s : State) (h : Kept k s) : Kept k (pllLock ok s) := by
  unfold pllLock
  grind [bootTo_kept, set64_kept, set_kept, foldl_kept]

theorem wipeComplete_kept (ok : Bool) (ms : Nat) (s : State) (h : Kept k s) : Kept k (wipeComplete ok ms s) := by
  unfold wipeComplete
  grind [bootStop_kept, bootTo_kept, set64_kept, set_kept, foldl_kept]

theorem calibrate_kept (c : Sys2Proof.CalResult) (s : State) (h : Kept k s) : Kept k (calibrate c s) := by
  unfold calibrate
  grind (splits := 30) (gen := 30) (ematch := 30) [forEach_kept, setB_kept, convRefresh_kept, whenB_kept, convHalt_kept, setReg_kept,
    set_kept, chanRefresh_kept, raise_kept, foldl_kept, host_upd_kept, md_upd_kept, plan_upd_kept, loop_upd_kept, web_upd_kept,
    spar_upd_kept, pwm_upd_kept, adc_upd_kept, fbk_upd_kept, cap_upd_kept, net_upd_kept, shr_upd_kept, fld_upd_kept, pwr_upd_kept,
    img_upd_kept, dbg_upd_kept, free_upd_kept]

theorem calibrationDone_kept (c : Sys2Proof.CalResult) (s : State) (h : Kept k s) : Kept k (calibrationDone c s) := by
  unfold calibrationDone
  grind [bootTo_kept, calibrate_kept, request_kept, foldl_kept]

theorem raiseFirst_kept (code : Nat) (sev : Nat) (ctrl : Nat) (p : List (Nat × Nat × Nat)) (s : State) (h : Kept k s) :
    Kept k (raiseFirst code sev ctrl p s) := by
  unfold raiseFirst
  grind (splits := 30) (gen := 30) (ematch := 30) [raise_kept, foldl_kept, host_upd_kept, md_upd_kept, plan_upd_kept, loop_upd_kept,
    web_upd_kept, spar_upd_kept, pwm_upd_kept, adc_upd_kept, fbk_upd_kept, cap_upd_kept, net_upd_kept, shr_upd_kept, fld_upd_kept,
    pwr_upd_kept, img_upd_kept, dbg_upd_kept, free_upd_kept]

theorem startUp_kept (pairs : List (Nat × Nat × BitVec 256)) (readyMs : Nat) (s : State) (h : Kept k s) :
    Kept k (startUp pairs readyMs s) := by
  unfold startUp
  grind [raiseFirst_kept, set_kept, bootImages_kept, bootTo_kept, fldStartUp_kept, enterMode_kept, dbgRefresh_kept, foldl_kept]

theorem lcRequest_kept (v : Sys2Proof.W32) (s : State) (h : Kept k s) : Kept k (lcRequest v s) := by
  unfold lcRequest
  grind [setReg_kept, set_kept, updMd_kept, flag_kept, foldl_kept]

theorem delayWrite_kept (a : Nat) (v : Sys2Proof.W32) (s : State) (h : Kept k s) : Kept k (delayWrite a v s) := by
  unfold delayWrite
  split
  · exact h
  · split
    · exact setReg_kept _ _ _ h
    · exact clk_upd_kept _ _ rfl rfl (setReg_kept _ _ _ h)

theorem netApply_kept (a : Nat) (v : Sys2Proof.W32) (s : State) (h : Kept k s) : Kept k (netApply a v s) := by
  unfold netApply
  extract_lets w w1 p o mode old
  split
  · exact setReg_kept _ _ _ h
  split
  · exact setReg_kept _ _ _ h
  split
  · exact setReg_kept _ _ _ h
  split
  · exact setReg_kept _ _ _ h
  split
  · exact portRole_kept _ _ _ (setReg_kept _ _ _ h)
  split
  · split
    · exact wideWrite_kept _ _ _ h
    · exact h
  split
  · split
    · exact setReg_kept _ _ _ h
    · exact h
  · exact setReg_kept _ _ _ h

theorem ptpApply_kept (a : Nat) (v : Sys2Proof.W32) (s : State) (h : Kept k s) : Kept k (ptpApply a v s) := by
  unfold ptpApply
  grind [setReg_kept, foldl_kept]

theorem tickWrites_kept (s : State) (h : Kept k s) : Kept k (tickWrites s) := by
  unfold tickWrites
  grind [Kept, Good, State.tablesOk, setReg_kept, netApply_kept, ptpApply_kept, foldl_kept]

theorem halCutRefresh_kept (s : State) (h : Kept k s) : Kept k (halCutRefresh s) := by
  unfold halCutRefresh
  grind [set_kept, foldl_kept]

theorem clkWrite_kept (a : Nat) (v : Sys2Proof.W32) (s : State) (h : Kept k s) : Kept k (clkWrite a v s) := by
  unfold clkWrite
  grind [halCutRefresh_kept, plainWrite_kept, foldl_kept]

theorem imgWrite_kept (a : Nat) (v : Sys2Proof.W32) (s : State) (h : Kept k s) : Kept k (imgWrite a v s) := by
  unfold imgWrite
  grind [setReg_kept, plainWrite_kept, foldl_kept]

theorem capWrite_kept (a : Nat) (v : Sys2Proof.W32) (s : State) (h : Kept k s) : Kept k (capWrite a v s) := by
  unfold capWrite
  extract_lets w u o m
  split
  · split
    · exact plainWrite_kept _ _ _ h
    · split
      · exact h
      · repeat' split
        all_goals exact setReg_kept _ _ _ h
  · split
    · exact h
    · split
      · split
        · exact h
        · exact wideWrite_kept _ _ _ h
      · exact plainWrite_kept _ _ _ h

theorem netWrite_kept (a : Nat) (v : Sys2Proof.W32) (s : State) (h : Kept k s) : Kept k (netWrite a v s) := by
  unfold netWrite
  grind [txtsPop_kept, delayWrite_kept, foldl_kept]

theorem dioWrite_kept (a : Nat) (v : Sys2Proof.W32) (s : State) (h : Kept k s) : Kept k (dioWrite a v s) := by
  unfold dioWrite
  grind [inFiltWrite_kept, plainWrite_kept, foldl_kept]

theorem shrWrite_kept (a : Nat) (v : Sys2Proof.W32) (s : State) (h : Kept k s) : Kept k (shrWrite a v s) := by
  unfold shrWrite
  grind [setReg_kept, foldl_kept]

theorem msixWrite_kept (i : Nat) (v : Sys2Proof.W32) (s : State) (h : Kept k s) : Kept k (msixWrite i v s) := by
  unfold msixWrite
  grind [Kept, Good, State.tablesOk, foldl_kept]

theorem pathRead_kept (p : Sys2Proof.RegPath) (a : Nat) (s : State) (h : Kept k s) : Kept k (pathRead p a s) := by
  unfold pathRead
  grind (splits := 30) (gen := 30) (ematch := 30) [hostRead_kept, regRead_kept, draw_kept, foldl_kept, host_upd_kept, md_upd_kept,
    plan_upd_kept, loop_upd_kept, web_upd_kept, spar_upd_kept, pwm_upd_kept, adc_upd_kept, fbk_upd_kept, cap_upd_kept, net_upd_kept,
    shr_upd_kept, fld_upd_kept, pwr_upd_kept, img_upd_kept, dbg_upd_kept, free_upd_kept]

theorem opInputBind_kept (d : Sys2Proof.Desc) (s : State) (h : Kept k s) : Kept k (opInputBind d s).1 := by
  unfold opInputBind
  grind [bindLater_kept, foldl_kept]

theorem opFeedbackBind_kept (d : Sys2Proof.Desc) (s : State) (h : Kept k s) : Kept k (opFeedbackBind d s).1 := by
  unfold opFeedbackBind
  grind [bindLater_kept, foldl_kept]

theorem overrun_kept (e : Nat) (s : State) (h : Kept k s) : Kept k (overrun e s) :=
  clk_upd_kept _ _ rfl rfl (updEng_kept _ _ _ (flag_kept _ _ (bumpSat_kept _ _ _ (bumpSat_kept _ _ _ h))))

theorem tickKept_kept (e : Nat) (s : State) (h : Kept k s) : Kept k (tickKept e s) := by
  exact clk_upd_kept _ _ rfl rfl (updEng_kept _ _ _ (set_kept _ _ _ h))

theorem subClear_kept (e : Nat) (s : State) (h : Kept k s) : Kept k (subClear e s) := by
  unfold subClear
  grind [Kept, Good, State.tablesOk, foldl_kept]

theorem checkEngine_kept (late : BitVec 38) (e : Nat) (s : State) (h : Kept k s) : Kept k (checkEngine late e s) := by
  unfold checkEngine
  grind [setB_kept, tickKept_kept, overrun_kept, subClear_kept, engineFault_kept, foldl_kept]

theorem thirdOverrun_kept (e : Nat) (s : State) (h : Kept k s) : Kept k (thirdOverrun e s) := by
  unfold thirdOverrun
  grind [subClear_kept, engineFault_kept, overrun_kept, foldl_kept]

theorem strobeEngine_kept (e : Nat) (s : State) (h : Kept k s) : Kept k (strobeEngine e s) := by
  unfold strobeEngine
  grind [updEng_kept, foldl_kept]

theorem swapGroup_kept (g : Nat) (s : State) (h : Kept k s) : Kept k (swapGroup g s) := by
  unfold swapGroup
  grind [forEach_kept, updAxis_kept, foldl_kept]

theorem groupTick_kept (g : Nat) (s : State) (h : Kept k s) : Kept k (groupTick g s) := by
  unfold groupTick
  grind [planTick_kept, foldl_kept]

theorem axisTick_kept (a : Nat) (s : State) (h : Kept k s) : Kept k (axisTick a s) := by
  unfold axisTick
  grind [loopTick_kept, updAxisL_kept, foldl_kept]

theorem swapAxis_kept (a : Nat) (s : State) (h : Kept k s) : Kept k (swapAxis a s) := by
  unfold swapAxis
  grind [takeCfg_kept, updAxisL_kept, foldl_kept]

theorem idWatch_kept (a : Nat) (s : State) (h : Kept k s) : Kept k (idWatch a s) := by
  unfold idWatch
  grind [abortIdent_kept, foldl_kept]

theorem modeStrobe_kept (s : State) (h : Kept k s) : Kept k (modeStrobe s) := by
  unfold modeStrobe
  grind [updMd_kept, enterMode_kept, foldl_kept]

theorem veStep_kept (s : State) (h : Kept k s) : Kept k (veStep s) := by
  unfold veStep
  grind [decideStep_kept, stepMark_kept, hriStep2_kept, hriStep1_kept, foldl_kept]

theorem bookCheck_kept (s : State) (h : Kept k s) : Kept k (bookCheck s) := by
  unfold bookCheck
  grind [forEach_kept, bookFault_kept, foldl_kept]

theorem tickClear_kept (s : State) (h : Kept k s) : Kept k (tickClear s) := by
  unfold tickClear
  grind (splits := 30) (gen := 30) (ematch := 30) [updMd_kept, updNet_kept, foldl_kept, host_upd_kept, md_upd_kept, plan_upd_kept,
    loop_upd_kept, web_upd_kept, spar_upd_kept, pwm_upd_kept, adc_upd_kept, fbk_upd_kept, cap_upd_kept, net_upd_kept, shr_upd_kept,
    fld_upd_kept, pwr_upd_kept, img_upd_kept, dbg_upd_kept, free_upd_kept]

theorem watchVe_kept (s : State) (h : Kept k s) : Kept k (watchVe s) := by
  unfold watchVe
  grind [updMd_kept, foldl_kept]

theorem tickIrq_kept (s : State) (h : Kept k s) : Kept k (tickIrq s) := by
  unfold tickIrq
  grind [irq_kept, foldl_kept]

theorem strobeSwap_kept (s : State) (h : Kept k s) : Kept k (strobeSwap s) := by
  unfold strobeSwap
  grind (splits := 30) (gen := 30) (ematch := 30) [tickWrites_kept, whenB_kept, netRate_kept, tickClear_kept, takeBinds_kept,
    forEach_kept, strobeEngine_kept, webSwap_kept, modeStrobe_kept, updFld_kept, fldStrobe_kept, swapGroup_kept, swapAxis_kept,
    foldl_kept, host_upd_kept, md_upd_kept, plan_upd_kept, loop_upd_kept, web_upd_kept, spar_upd_kept, pwm_upd_kept, adc_upd_kept,
    fbk_upd_kept, cap_upd_kept, net_upd_kept, shr_upd_kept, fld_upd_kept, pwr_upd_kept, img_upd_kept, dbg_upd_kept, free_upd_kept]

theorem strobeWork_kept (s : State) (h : Kept k s) : Kept k (strobeWork s) := by
  unfold strobeWork
  grind (splits := 30) (gen := 30) (ematch := 30) [forEach_kept, fbCheck_kept, fbSnap_kept, idWatch_kept, loopClears_kept, webTick_kept,
    haulTick_kept, isenseCheckAll_kept, axisTick_kept, groupTick_kept, foldl_kept, host_upd_kept, md_upd_kept, plan_upd_kept,
    loop_upd_kept, web_upd_kept, spar_upd_kept, pwm_upd_kept, adc_upd_kept, fbk_upd_kept, cap_upd_kept, net_upd_kept, shr_upd_kept,
    fld_upd_kept, pwr_upd_kept, img_upd_kept, dbg_upd_kept, free_upd_kept]

theorem strobeUnits_kept (ns : Nat) (vmain : Nat) (vback : Nat) (pIn : Nat) (s : State) (h : Kept k s) :
    Kept k (strobeUnits ns vmain vback pIn s) := by
  unfold strobeUnits
  grind (splits := 30) (gen := 30) (ematch := 30) [halOutput_kept, compareArm_kept, ptpRoles_kept, whenB_kept, halRepeat_kept,
    capStrobe_kept, forEach_kept, closeSegment_kept, pwrStrobe_kept, foldl_kept, host_upd_kept, md_upd_kept, plan_upd_kept,
    loop_upd_kept, web_upd_kept, spar_upd_kept, pwm_upd_kept, adc_upd_kept, fbk_upd_kept, cap_upd_kept, net_upd_kept, shr_upd_kept,
    fld_upd_kept, pwr_upd_kept, img_upd_kept, dbg_upd_kept, free_upd_kept]

theorem strobeVe_kept (s : State) (h : Kept k s) : Kept k (strobeVe s) := by
  unfold strobeVe
  grind [imgStrobe_kept, bookCheck_kept, flushNotes_kept, whenB_kept, evFlush_kept, tickIrq_kept, veStep_kept, foldl_kept]

theorem subDropped_kept (n : Nat) (s : State) (h : Kept k s) : Kept k (subDropped n s) :=
  clk_upd_kept _ _ rfl rfl (callRollback_kept _ _ _ (bumpSat_kept _ _ _ h))

theorem stageBegin_kept (n : Nat) (s : State) (h : Kept k s) : Kept k (stageBegin n s) := by
  unfold stageBegin
  grind [updAxisL_kept, pwmRunSet_kept, pwmCommit_kept, writeStepper_kept, writeServo_kept, foldl_kept]

theorem takeCurrent_kept (n : Nat) (s : State) (h : Kept k s) : Kept k (takeCurrent n s) := by
  unfold takeCurrent
  grind [updAxisL_kept, foldl_kept]

theorem subInterrupt_kept (n : Nat) (i : Nat) (stored : Bool) (s : State) (h : Kept k s) : Kept k (subInterrupt n i stored s) := by
  unfold subInterrupt
  grind [atCyc_kept, updatePoint_kept, subDropped_kept, whenB_kept, takeCurrent_kept, stageBegin_kept, subClear_kept, updateBegin_kept,
    updEng_kept, engIrq_kept, foldl_kept]

theorem inrdyInterrupt_kept (n : Nat) (s : State) (h : Kept k s) : Kept k (inrdyInterrupt n s) := by
  unfold inrdyInterrupt
  grind [inrdyCheck_kept, updEng_kept, updateEnd_kept, foldl_kept]

theorem tmrInterrupt_kept (e : Nat) (s : State) (h : Kept k s) : Kept k (tmrInterrupt e s) := by
  unfold tmrInterrupt
  grind [updEng_kept, engIrq_kept, atCyc_kept, foldl_kept]

theorem byNe_kept (f : Sys2Proof.Machine.State → Sys2Proof.Machine.State) (h_f : ∀ t, Kept k t → Kept k (f t)) (s : State) (h : Kept k
    s) : Kept k (byNe f s) := by
  unfold byNe
  grind [foldl_kept]

theorem handBoxes_kept (s : State) (h : Kept k s) : Kept k (handBoxes s) := by
  unfold handBoxes
  grind [forEach_kept, tseHand_kept, foldl_kept]

theorem cutoff_kept (s : State) (h : Kept k s) : Kept k (cutoff s) := by
  unfold cutoff
  grind [atCyc_kept, halCutoff_kept, handBoxes_kept, forEach_kept, engIrq_kept, updEng_kept, foldl_kept]

theorem ftAdopt_kept (s : State) (h : Kept k s) : Kept k (ftAdopt s) := by
  unfold ftAdopt
  split
  split
  · exact h
  · extract_lets s1 s2 s3 x s4 s5
    have h1 : Kept k s1 := set_kept _ _ _ (set_kept _ _ _ h)
    have h2 : Kept k s2 := by
      show Kept k (if _ then _ else _)
      split
      · exact set_kept _ _ _ h1
      · exact h1
    have h3 : Kept k s3 := set64_kept _ _ _ h2
    have h4 : Kept k s4 := clk_upd_kept _ _ rfl rfl h3
    have h5 : Kept k s5 := forEach_kept _ _ (fun _ _ ht => updAxisL_kept _ _ _ ht) _ h4
    exact halCutRefresh_kept _ h5

theorem opNop_kept (d : Desc) (s : State) (h : Kept k s) : Kept k (opNop d s).1 := h
theorem opFence_kept (d : Desc) (s : State) (h : Kept k s) : Kept k (opFence d s).1 := updRing_kept _ _ _ h
theorem opIdentifyAny_kept (d : Desc) (s : State) (h : Kept k s) : Kept k (opIdentifyAny d s).1 := by
  unfold opIdentifyAny
  split
  · exact opIdentifyAbort_kept d s h
  · exact opIdentify_kept d s h
theorem opRollAny_kept (d : Desc) (s : State) (h : Kept k s) : Kept k (opRollAny d s).1 := by
  unfold opRollAny
  split
  · exact opRollRemove_kept d s h
  · exact opRoll_kept d s h
theorem opSpanAny_kept (d : Desc) (s : State) (h : Kept k s) : Kept k (opSpanAny d s).1 := by
  unfold opSpanAny
  split
  · exact opSpanRemove_kept d s h
  · exact opSpan_kept d s h
theorem opWinderAny_kept (d : Desc) (s : State) (h : Kept k s) : Kept k (opWinderAny d s).1 := by
  unfold opWinderAny
  split
  · exact opWinderRemove_kept d s h
  · exact opWinder_kept d s h
theorem opSwapAny_kept (d : Desc) (s : State) (h : Kept k s) : Kept k (opSwapAny d s).1 := by
  unfold opSwapAny
  split
  · exact opImageRollback_kept d s h
  · exact opImageSwap_kept d s h
theorem opCompareAny_kept (d : Desc) (s : State) (h : Kept k s) : Kept k (opCompareAny d s).1 := by
  unfold opCompareAny
  split
  · exact opTimeCompareCancel_kept d s h
  · exact opTimeCompare_kept d s h
theorem opSessionAny_kept (d : Desc) (s : State) (h : Kept k s) : Kept k (opSessionAny d s).1 := by
  unfold opSessionAny
  split
  · exact opSessionOpen_kept d s h
  · exact opSessionClose_kept d s h
theorem opReportAny_kept (d : Desc) (s : State) (h : Kept k s) : Kept k (opReportAny d s).1 := by
  unfold opReportAny
  split
  · exact opReportLog_kept d s h
  · exact opReportStatus_kept d s h
theorem opDemandAny_kept (d : Desc) (s : State) (h : Kept k s) : Kept k (opDemandAny d s).1 := opDemand_kept _ d s h
theorem opSafetyCfg_kept (d : Desc) (s : State) (h : Kept k s) : Kept k (opSafetyCfg d s).1 := opSafetyConfig_kept _ d s h
theorem opOfHost_kept (n : Nat) (d : Desc) (s : State) (h : Kept k s) : Kept k (opOfHost n d s).1 := by
  unfold opOfHost
  split
  · exact opFence_kept d s h
  · exact opMode_kept d s h
  · exact opNop_kept d s h
theorem opOfPlan_kept (n : Nat) (d : Desc) (s : State) (h : Kept k s) : Kept k (opOfPlan n d s).1 := by
  unfold opOfPlan
  split
  · exact opAxisBind_kept d s h
  · exact opAxisLimits_kept d s h
  · exact opProfile_kept d s h
  · exact opMove_kept d s h
  · exact opMoveCont_kept d s h
  · exact opGroupCtrl_kept d s h
  · exact opGear_kept d s h
  · exact opCamLoad_kept d s h
  · exact opCamEngage_kept d s h
  · exact opGroupReport_kept d s h
theorem opOfLoop_kept (n : Nat) (d : Desc) (s : State) (h : Kept k s) : Kept k (opOfLoop n d s).1 := by
  unfold opOfLoop
  split
  · exact opMotor_kept d s h
  · exact opIsense_kept d s h
  · exact opCurrentLoop_kept d s h
  · exact opVelocityLoop_kept d s h
  · exact opPositionLoop_kept d s h
  · exact opNotch_kept d s h
  · exact opNotchRaw_kept d s h
  · exact opStepper_kept d s h
  · exact opIdentifyAny_kept d s h
  · exact opLoopReport_kept d s h
  · exact opIdReport_kept d s h
  · exact opLoopFlagsClr_kept d s h
theorem opOfWeb_kept (n : Nat) (d : Desc) (s : State) (h : Kept k s) : Kept k (opOfWeb n d s).1 := by
  unfold opOfWeb
  split
  · exact opLine_kept d s h
  · exact opRollAny_kept d s h
  · exact opSpanAny_kept d s h
  · exact opTensionLoop_kept d s h
  · exact opWinderAny_kept d s h
  · exact opMaterial_kept d s h
  · exact opDiameterSet_kept d s h
  · exact opLineReport_kept d s h
theorem opOfImage_kept (n : Nat) (d : Desc) (s : State) (h : Kept k s) : Kept k (opOfImage n d s).1 := by
  unfold opOfImage
  split
  · exact opImageStore_kept d s h
  · exact opImageLoad_kept d s h
  · exact opSwapAny_kept d s h
  · exact opImageOverride_kept d s h
  · exact opEngineParam_kept d s h
  · exact opImageKey_kept d s h
theorem opOfNet_kept (n : Nat) (d : Desc) (s : State) (h : Kept k s) : Kept k (opOfNet n d s).1 := by
  unfold opOfNet
  split
  · exact opNodeCfg_kept d s h
  · exact opNodeIo_kept d s h
  · exact opPtpStep_kept d s h
  · exact opCompareAny_kept d s h
  · exact opNetSend_kept d s h
  · exact opNetReport_kept d s h
theorem opOfField_kept (n : Nat) (d : Desc) (s : State) (h : Kept k s) : Kept k (opOfField n d s).1 := by
  unfold opOfField
  split
  · exact opFieldOut_kept d s h
  · exact opFieldReenable_kept d s h
theorem opOfPower_kept (n : Nat) (d : Desc) (s : State) (h : Kept k s) : Kept k (opOfPower n d s).1 := by
  unfold opOfPower
  split
  · exact opThermalMeasure_kept d s h
  · exact opChargeCtrl_kept d s h
theorem opOfSafety_kept (n : Nat) (d : Desc) (s : State) (h : Kept k s) : Kept k (opOfSafety n d s).1 := by
  unfold opOfSafety
  split
  · exact opSessionAny_kept d s h
  · exact opPassword_kept d s h
  · exact opSafetyCfg_kept d s h
  · exact opSafetyConfirm_kept d s h
  · exact opDemandAny_kept d s h
  · exact opReportAny_kept d s h
theorem opOf_kept (n : Nat) (d : Desc) (s : State) (h : Kept k s) : Kept k (opOf n d s).1 := by
  unfold opOf
  split
  · exact opOfHost_kept n d s h
  · exact opOfPlan_kept n d s h
  · exact opOfLoop_kept n d s h
  · exact opOfWeb_kept n d s h
  · exact opOfImage_kept n d s h
  · exact opInputBind_kept d s h
  · exact opFeedbackBind_kept d s h
  · exact opCapture_kept d s h
  · exact opOfNet_kept n d s h
  · exact opOfSafety_kept n d s h
  · exact opOfField_kept n d s h
  · exact opOfPower_kept n d s h
  · exact opNop_kept d s h
theorem fenceGo_kept (n : Nat) (s : State) (h : Kept k s) : Kept k (fenceGo n s) := by
  exact fenceRelease_kept opOf n (fun n d t ht => opOf_kept n d t ht) s h

theorem rejectDesc_kept (opcode : Nat) (d : Sys2Proof.Desc) (s : State) (h : Kept k s) : Kept k (rejectDesc opcode d s) := by
  unfold rejectDesc
  split
  · exact h
  · exact runDesc_kept _ _ _ (fun d t ht => opNop_kept d t ht) _ h

theorem evDoorbell_kept (v : Sys2Proof.W32) (s : State) (h : Kept k s) : Kept k (evDoorbell v s) := by
  unfold evDoorbell
  grind [Kept, Good, State.tablesOk, foldl_kept]

theorem crDoorbell_kept (m : Nat) (v : Sys2Proof.W32) (s : State) (h : Kept k s) : Kept k (crDoorbell m v s) := by
  unfold crDoorbell
  grind [Kept, Good, State.tablesOk, foldl_kept]

theorem lineStandstill_kept (s : State) (h : Kept k s) : Kept k (lineStandstill s) := by
  unfold lineStandstill
  grind [request_kept, foldl_kept]

theorem pwmFault_kept (f : Nat) (s : State) (h : Kept k s) : Kept k (pwmFault f s) := by
  unfold pwmFault
  grind [forEach_kept, fltScan_kept, flag_kept, set_kept, foldl_kept]

theorem faultInputHigh_kept (f : Nat) (s : State) (h : Kept k s) : Kept k (faultInputHigh f s) := by
  unfold faultInputHigh
  grind [forEach_kept, fltRefresh_kept, set_kept, foldl_kept]

theorem adcTimerTrigger_kept (c : Nat) (s : State) (h : Kept k s) : Kept k (adcTimerTrigger c s) := by
  unfold adcTimerTrigger
  grind [adcTrigger_kept, foldl_kept]

theorem adcEventTrigger_kept (c : Nat) (s : State) (h : Kept k s) : Kept k (adcEventTrigger c s) := by
  unfold adcEventTrigger
  grind [adcTrigger_kept, foldl_kept]

theorem resolverTrigger_kept (n : Nat) (s : State) (h : Kept k s) : Kept k (resolverTrigger n s) := by
  unfold resolverTrigger
  grind [forEach_kept, adcTrigger_kept, foldl_kept]

theorem tapReset_kept (s : State) (h : Kept k s) : Kept k (tapReset s) := by
  unfold tapReset
  grind [jtagLoad_kept, dbgDetach_kept, foldl_kept]

end Sys2Proof.Machine
end

