-- ==== Sys2Proof/Laws/Good.lean ====
section
/-!
SUPPORT. The operations that restart the part, move its clock or write a register: they leave the queue, and keep registers and host
memory in their canonical form.
-/
namespace Sys2Proof.Machine

set_option Elab.async false

theorem kept_of_good {P : State → State} (hp : ∀ k t, Kept k t → Kept k (P t)) {q : List Instr} {ok : Bool} {s : State} (h : Good q ok s) :
    Good q ok (P s) := (hp _ s h.kept).good

theorem whenB_good {q : List Instr} {ok : Bool} (c : Bool) (f : State → State) (hf : ∀ t, Good q ok t → Good q ok (f t)) (s : State)
    (h : Good q ok s) : Good q ok (whenB c f s) := by
  cases c
  · exact h
  · exact hf s h

variable {q : List Instr} {ok : Bool}

theorem resetModule_good (causes : Nat) (shr : Bool) (s : State) (h : Good q ok s) : Good q ok (resetModule causes shr s) := by
  have h0 : Good q ok (sessionEnd 2 s) := (sessionEnd_kept 2 s h.kept).good
  unfold resetModule
  extract_lets s0 kept src r s1 s2 s3 s4
  have hr : Good q ok r := by
    refine ⟨h0.1, fun hk => ?_⟩
    have h2 := h0.2 hk
    simp only [State.tablesOk, Bool.and_eq_true] at *
    exact ⟨Table.wf_filter regReset _ _ h2.1, h2.2⟩
  have h1 : Kept ⟨q, r.clk.ticks, r.clk.clk, ok⟩ s1 := foldl_kept _ _ (fun _ _ ht => setReg_kept _ _ _ ht) _ hr.kept
  have h2 : Kept ⟨q, r.clk.ticks, r.clk.clk, ok⟩ s2 := by
    show Kept _ (match s0.md.lcTarget with | some t => s1.set F.glbLc_LC_STATE t | none => s1)
    split
    · exact set_kept _ _ _ h1
    · exact h1
  have h3 := set_kept F.glbResetCause_CAUSE causes _ h2
  have h4 : Kept ⟨q, r.clk.ticks, r.clk.clk, ok⟩ s4 := by
    show Kept _ (if _ then _ else _)
    split
    · exact set_kept _ _ _ (set_kept _ _ _ h3)
    · exact shrApply_kept _ (updShr_kept _ _ h3)
  exact (dbgRefresh_kept _ h4).good

theorem powerOnReset_good (also : Nat) (s : State) (h : Good q ok s) : Good q ok (powerOnReset also s) :=
  resetModule_good _ _ _ h
theorem padReset_good (also : Nat) (s : State) (h : Good q ok s) : Good q ok (padReset also s) := resetModule_good _ _ _ h
theorem perstReset_good (also : Nat) (s : State) (h : Good q ok s) : Good q ok (perstReset also s) := by
  unfold perstReset
  split
  · exact resetModule_good _ _ _ h
  · exact (hostLoss_kept _ _ h.kept).good
theorem pllReset_good (also : Nat) (s : State) (h : Good q ok s) : Good q ok (pllReset also s) := by
  unfold pllReset
  split
  · exact resetModule_good _ _ _ h
  · exact h
theorem supervisorReset_good (also : Nat) (s : State) (h : Good q ok s) : Good q ok (supervisorReset also s) := by
  unfold supervisorReset
  split
  · split
    · exact resetModule_good _ _ _ h
    · exact h
  · exact h
theorem resetCtrlWrite_good (v : W32) (s : State) (h : Good q ok s) : Good q ok (resetCtrlWrite v s) := by
  unfold resetCtrlWrite
  extract_lets s1 s2
  have h1 : Good q ok s1 := by
    show Good q ok (if _ then _ else _)
    split
    · exact (set_kept _ _ _ h.kept).good
    · exact h
  have h2 : Good q ok s2 := (set_kept _ _ _ h1.kept).good
  split
  · exact h1
  · split
    · exact h2
    · split
      · exact (set_kept _ _ _ h2.kept).good
      · exact resetModule_good _ _ _ h2
theorem lcComplete_good (s : State) (h : Good q ok s) : Good q ok (lcComplete s) := by
  unfold lcComplete
  split
  · exact h
  · exact resetModule_good _ _ _ (lcWipe_kept _ (sessionEnd_kept _ _ (set_kept _ _ _ (logAdd_kept _ _ _ _ _ _ h.kept)))).good
theorem glbWrite_good (a : Nat) (v : W32) (s : State) (h : Good q ok s) : Good q ok (glbWrite a v s) := by
  unfold glbWrite
  split
  · exact resetCtrlWrite_good _ _ h
  · split
    · exact (lcRequest_kept _ _ h.kept).good
    · exact (plainWrite_kept _ _ _ h.kept).good
theorem barWrite_good (a : Nat) (w : W32) (s : State) (h : Good q ok s) : Good q ok (barWrite a w s) := by
  have hk := h.kept
  unfold barWrite
  extract_lets v
  split
  · exact h
  split
  · exact glbWrite_good _ _ _ h
  split
  · exact (hriWrite_kept _ _ _ hk).good
  split
  · exact (clkWrite_kept _ _ _ hk).good
  split
  · exact (delayWrite_kept _ _ _ hk).good
  split
  · exact (imgWrite_kept _ _ _ hk).good
  split
  · exact (ioWrite_kept _ _ _ _ hk).good
  split
  · exact (capWrite_kept _ _ _ hk).good
  split
  · exact (netWrite_kept _ _ _ hk).good
  split
  · exact (dioWrite_kept _ _ _ hk).good
  split
  · exact (shrWrite_kept _ _ _ hk).good
  · exact (dbgWrite_kept _ _ _ _ hk).good
theorem pathWrite_good (p : RegPath) (a : Nat) (v : W32) (s : State) (h : Good q ok s) : Good q ok (pathWrite p a v s) := by
  unfold pathWrite
  split
  · exact barWrite_good _ _ _ h
  · split
    · exact h
    · exact h
  · split
    · exact (dbgWrite_kept _ _ _ _ h.kept).good
    · exact h
  · exact h
theorem regAs_good (who : Option (Fin 38)) (a : Nat) (v : W32) (s : State) (h : Good q ok s) : Good q ok (regAs who a v s) := by
  unfold regAs
  split
  · exact barWrite_good _ _ _ h
  · split
    · exact (ioWrite_kept _ _ _ _ h.kept).good
    · exact (stick_kept _ _ _ h.kept).good
theorem hostWrite64_good (a : Nat) (v : W64) (s : State) (h : Good q ok s) : Good q ok (hostWrite64 a v s) := by
  unfold hostWrite64
  split
  · exact barWrite_good _ _ _ (barWrite_good _ _ _ h)
  · exact h
theorem dbgAs_good (jtag : Bool) (a : Nat) (v : W32) (s : State) (h : Good q ok s) : Good q ok (dbgAs jtag a v s) := by
  unfold dbgAs
  split
  · exact pathWrite_good _ _ _ _ h
  · exact barWrite_good _ _ _ h
theorem clockStrobe_good (s : State) (h : Good q ok s) : Good q ok (clockStrobe s) := by
  unfold clockStrobe
  have hg : Good q ok { s with clk := { s.clk with
    clk := s.clk.clk + s.tickCycles * s.clk.incr, cyc := 0, longTick := false, ticks := s.clk.ticks + 1 } } := h
  exact (set64_kept _ _ _ hg.kept).good
theorem strobeChecks_good (late : BitVec 38) (s : State) (h : Good q ok s) : Good q ok (strobeChecks late s) :=
  (watchVe_kept _ (forEach_kept _ _ (fun _ _ ht => checkEngine_kept _ _ _ ht) _ (clockStrobe_good _ h).kept)).good
theorem tickStrobe_good (late : BitVec 38) (vmain vback pIn : Nat) (s : State) (h : Good q ok s) : Good q ok (tickStrobe late vmain vback pIn s) := by
  unfold tickStrobe
  split
  · exact h
  · exact (strobeVe_kept _ (strobeUnits_kept _ _ _ _ _ (strobeWork_kept _ (strobeSwap_kept _ (strobeChecks_good _ _ h).kept)))).good
theorem clockStep_good (s : State) (h : Good q ok s) : Good q ok (clockStep s) := by
  unfold clockStep
  split
  · exact h
  · split
    · exact h
    · split
      · exact (set_kept _ _ _ h.kept).good
      · rename_i amount first _ _ _
        extract_lets x src src2 s1 s2 s3 s4 s5
        have h1 : Good q ok s1 := h
        have h2 : Kept ⟨q, s1.clk.ticks, s1.clk.clk, ok⟩ s2 := set_kept _ _ _ (flag_kept _ _ (set64_kept _ _ _ h1.kept))
        have h3 : Kept ⟨q, s1.clk.ticks, s1.clk.clk, ok⟩ s3 := whenB_kept _ _ (fun _ ht => set_kept _ _ _ ht) _ (updPtp_kept _ _ h2)
        have h5 : Kept ⟨q, s1.clk.ticks, s1.clk.clk, ok⟩ s5 := disarmAll_kept _ (raise_kept _ _ _ _ _ _ h3)
        split
        · exact (setClock_kept _ _ h5).good
        · exact h5.good

end Sys2Proof.Machine
end

