-- ==== Sys2Proof/Laws/Rows.lean ====
section
/-!
SUPPORT. One lemma for each command: it answers a next state that has the same queue, and whose registers and host memory are in
canonical form if they were.
-/
namespace Sys2Proof.Machine

set_option Elab.async false

/-! ## Tick -/

theorem execTickStrobe_good (late : BitVec 38) (vmain : BitVec 16) (vback : BitVec 16) (pIn : BitVec 16) (s : State) :
    ∃ s', execTickStrobe late vmain vback pIn s = .next s' ∧ Good s.pending s.tablesOk s' :=
  ⟨_, rfl, by have h0 : Good s.pending s.tablesOk s := (kept_self s).good; grind [tickStrobe_good, whenB_good]⟩
theorem execEngineFault_good (e : Fin 38) (s : State) : ∃ s', execEngineFault e s = .next s' ∧ Good s.pending s.tablesOk s' :=
  ⟨_, rfl, by have hk := kept_self s; exact (show Kept s.keep (thirdOverrun e.val s) from by grind [thirdOverrun_kept]).good⟩
theorem execEngineRestart_good (e : Fin 38) (s : State) : ∃ s', execEngineRestart e s = .next s' ∧ Good s.pending s.tablesOk s' :=
  ⟨_, rfl, by have hk := kept_self s; exact (show Kept s.keep (engineRestart e.val s) from by grind [engineRestart_kept]).good⟩
theorem execSubInterrupt_good (n : Fin 24) (b : SubBoundary) (s : State) :
    ∃ s', execSubInterrupt n b s = .next s' ∧ Good s.pending s.tablesOk s' :=
  ⟨_, rfl, by have hk := kept_self s; exact (show Kept s.keep (subInterrupt n.val b.i.val b.stored s) from by grind [subInterrupt_kept]).good⟩
theorem execInrdyInterrupt_good (n : Fin 24) (cyc : Nat) (s : State) :
    ∃ s', execInrdyInterrupt n cyc s = .next s' ∧ Good s.pending s.tablesOk s' :=
  ⟨_, rfl, by have hk := kept_self s; have h1 : Kept s.keep (s.atCyc cyc) := atCyc_kept cyc s hk; exact (show Kept s.keep
    (inrdyInterrupt n.val (s.atCyc cyc)) from by grind [inrdyInterrupt_kept, atCyc_kept]).good⟩
theorem execInrdyTimeout_good (n : Fin 24) (cyc : Nat) (s : State) :
    ∃ s', execInrdyTimeout n cyc s = .next s' ∧ Good s.pending s.tablesOk s' :=
  ⟨_, rfl, by have hk := kept_self s; have h1 : Kept s.keep (s.atCyc cyc) := atCyc_kept cyc s hk; exact (show Kept s.keep (whenB
    ((s.atCyc cyc).slotPresent n.val) (inrdyTimeout n.val) (s.atCyc cyc)) from by grind [whenB_kept, atCyc_kept,
    inrdyTimeout_kept]).good⟩
theorem execTmrInterrupt_good (e : Fin 38) (s : State) : ∃ s', execTmrInterrupt e s = .next s' ∧ Good s.pending s.tablesOk s' :=
  ⟨_, rfl, by have hk := kept_self s; exact (show Kept s.keep (tmrInterrupt e.val s) from by grind [tmrInterrupt_kept]).good⟩
theorem execHalCutoff_good (s : State) : ∃ s', execHalCutoff s = .next s' ∧ Good s.pending s.tablesOk s' :=
  ⟨_, rfl, by have hk := kept_self s; exact (show Kept s.keep (cutoff s) from by grind [cutoff_kept]).good⟩
theorem execFtAdopt_good (s : State) : ∃ s', execFtAdopt s = .next s' ∧ Good s.pending s.tablesOk s' :=
  ⟨_, rfl, by have hk := kept_self s; exact (show Kept s.keep (ftAdopt s) from by grind [ftAdopt_kept]).good⟩
theorem execClockStep_good (s : State) : ∃ s', execClockStep s = .next s' ∧ Good s.pending s.tablesOk s' :=
  ⟨_, rfl, by have h0 : Good s.pending s.tablesOk s := (kept_self s).good; grind [clockStep_good, whenB_good]⟩

/-! ## Host -/

theorem execHostLoss_good (kind : Fin 4) (s : State) : ∃ s', execHostLoss kind s = .next s' ∧ Good s.pending s.tablesOk s' :=
  ⟨_, rfl, by have hk := kept_self s; exact (show Kept s.keep (hostLoss kind.val s) from by grind [hostLoss_kept]).good⟩
theorem execSubmissionDoorbell_good (n : Fin 64) (t : Option W32) (k : Option W32) (s : State) :
    ∃ s', execSubmissionDoorbell n t k s = .next s' ∧ Good s.pending s.tablesOk s' :=
  ⟨_, rfl, by have hk := kept_self s; exact (show Kept s.keep (doorbell n.val t k s) from by grind [doorbell_kept]).good⟩
theorem execEventRingDoorbell_good (v : W32) (s : State) : ∃ s', execEventRingDoorbell v s = .next s' ∧ Good s.pending s.tablesOk s' :=
  ⟨_, rfl, by have hk := kept_self s; exact (show Kept s.keep (evDoorbell v s) from by grind [evDoorbell_kept]).good⟩
theorem execCaptureRingDoorbell_good (m : Fin 4) (v : W32) (s : State) :
    ∃ s', execCaptureRingDoorbell m v s = .next s' ∧ Good s.pending s.tablesOk s' :=
  ⟨_, rfl, by have hk := kept_self s; exact (show Kept s.keep (crDoorbell m.val v s) from by grind [crDoorbell_kept]).good⟩
theorem execRingEnable_good (n : Fin 64) (v : W32) (s : State) : ∃ s', execRingEnable n v s = .next s' ∧ Good s.pending s.tablesOk s' :=
  ⟨_, rfl, by have h0 : Good s.pending s.tablesOk s := (kept_self s).good; exact barWrite_good _ _ _ h0⟩
theorem execRingDisable_good (n : Fin 64) (v : W32) (s : State) : ∃ s', execRingDisable n v s = .next s' ∧ Good s.pending s.tablesOk s' :=
  ⟨_, rfl, by have h0 : Good s.pending s.tablesOk s := (kept_self s).good; exact barWrite_good _ _ _ h0⟩
theorem execEventRingEnable_good (v : W32) (s : State) : ∃ s', execEventRingEnable v s = .next s' ∧ Good s.pending s.tablesOk s' :=
  ⟨_, rfl, by have h0 : Good s.pending s.tablesOk s := (kept_self s).good; exact barWrite_good _ _ _ h0⟩
theorem execEventRingDisable_good (v : W32) (s : State) : ∃ s', execEventRingDisable v s = .next s' ∧ Good s.pending s.tablesOk s' :=
  ⟨_, rfl, by have h0 : Good s.pending s.tablesOk s := (kept_self s).good; exact barWrite_good _ _ _ h0⟩
theorem execCaptureRingEnable_good (m : Fin 4) (v : W32) (s : State) :
    ∃ s', execCaptureRingEnable m v s = .next s' ∧ Good s.pending s.tablesOk s' :=
  ⟨_, rfl, by have h0 : Good s.pending s.tablesOk s := (kept_self s).good; exact barWrite_good _ _ _ h0⟩
theorem execCaptureRingDisable_good (m : Fin 4) (v : W32) (s : State) :
    ∃ s', execCaptureRingDisable m v s = .next s' ∧ Good s.pending s.tablesOk s' :=
  ⟨_, rfl, by have h0 : Good s.pending s.tablesOk s := (kept_self s).good; exact barWrite_good _ _ _ h0⟩
theorem execRingDmaError_good (ring : Fin 69) (wr : Bool) (addr : W64) (s : State) :
    ∃ s', execRingDmaError ring wr addr s = .next s' ∧ Good s.pending s.tablesOk s' :=
  ⟨_, rfl, by have hk := kept_self s; exact (show Kept s.keep (dmaError ring.val wr addr s) from by grind [dmaError_kept]).good⟩
theorem execRingWatchdog_good (n : Fin 64) (s : State) : ∃ s', execRingWatchdog n s = .next s' ∧ Good s.pending s.tablesOk s' :=
  ⟨_, rfl, by have hk := kept_self s; exact (show Kept s.keep (ringWatchdog n.val s) from by grind [ringWatchdog_kept]).good⟩
theorem execNop_good (d : Desc) (s : State) : ∃ s', execNop d s = .next s' ∧ Good s.pending s.tablesOk s' :=
  ⟨_, rfl, by exact (runDesc_kept _ _ _ (fun d t ht => opNop_kept d t ht) _ (kept_self s)).good⟩
theorem execFence_good (d : Desc) (s : State) : ∃ s', execFence d s = .next s' ∧ Good s.pending s.tablesOk s' :=
  ⟨_, rfl, by exact (runDesc_kept _ _ _ (fun d t ht => opFence_kept d t ht) _ (kept_self s)).good⟩
theorem execFenceRelease_good (n : Fin 64) (s : State) : ∃ s', execFenceRelease n s = .next s' ∧ Good s.pending s.tablesOk s' :=
  ⟨_, rfl, by have hk := kept_self s; exact (show Kept s.keep (fenceGo n.val s) from by grind [fenceGo_kept]).good⟩
theorem execRejectedOpcode_good (opcode : BitVec 16) (d : Desc) (s : State) :
    ∃ s', execRejectedOpcode opcode d s = .next s' ∧ Good s.pending s.tablesOk s' :=
  ⟨_, rfl, by have hk := kept_self s; exact (show Kept s.keep (rejectDesc opcode.toNat d s) from by grind [rejectDesc_kept]).good⟩
theorem execWideRegisterRead_good (r : RegAt) (s : State) :
    ∃ s', execWideRegisterRead r s = .next s' ∧ Good s.pending s.tablesOk s' :=
  ⟨_, rfl, by have hk := kept_self s; exact (show Kept s.keep (pathRead r.path r.a.toNat s) from by grind [pathRead_kept]).good⟩
theorem execWideRegisterWrite_good (a : BitVec 18) (v : W64) (s : State) :
    ∃ s', execWideRegisterWrite a v s = .next s' ∧ Good s.pending s.tablesOk s' :=
  ⟨_, rfl, by have h0 : Good s.pending s.tablesOk s := (kept_self s).good; exact hostWrite64_good _ _ _ h0⟩
theorem execTimeRead_good (word : Fin 3) (cyc : Nat) (s : State) :
    ∃ s', execTimeRead word cyc s = .next s' ∧ Good s.pending s.tablesOk s' :=
  ⟨_, rfl, by have hk := kept_self s; have h1 : Kept s.keep (s.atCyc cyc) := atCyc_kept cyc s hk; exact (show Kept s.keep (hostRead
    (A.ptpTimeLo + 4 * word.val) (s.atCyc cyc)) from by grind [hostRead_kept, atCyc_kept]).good⟩
theorem execResRead_good (sdi : Bool) (k : Fin 96) (word : Fin 2) (s : State) :
    ∃ s', execResRead sdi k word s = .next s' ∧ Good s.pending s.tablesOk s' :=
  ⟨_, rfl, by have hk := kept_self s; exact (show Kept s.keep (whenB (s.inPresent sdi k.val) (hostRead ((if sdi then A.adcSdiRes k.val
    else A.adcAinRes k.val) + 4 * word.val)) s) from by grind [whenB_kept, hostRead_kept]).good⟩
theorem execSeg0SumRead_good (sdi : Bool) (k : Fin 96) (word : Fin 4) (s : State) :
    ∃ s', execSeg0SumRead sdi k word s = .next s' ∧ Good s.pending s.tablesOk s' :=
  ⟨_, rfl, by have hk := kept_self s; exact (show Kept s.keep (whenB (s.inPresent sdi k.val) (hostRead (inSeg0 sdi k.val + 4 *
    word.val)) s) from by grind [whenB_kept, hostRead_kept]).good⟩
theorem execPosRead_good (n : Fin 32) (word : Fin 4) (cyc : Nat) (s : State) :
    ∃ s', execPosRead n word cyc s = .next s' ∧ Good s.pending s.tablesOk s' :=
  ⟨_, rfl, by have hk := kept_self s; have h1 : Kept s.keep (s.atCyc cyc) := atCyc_kept cyc s hk; exact (show Kept s.keep (hostRead
    (A.fbkFbPos n.val + 4 * word.val) (s.atCyc cyc)) from by grind [hostRead_kept, atCyc_kept]).good⟩
theorem execRegisterWrite_good (p : RegPath) (a : BitVec 20) (v : W32) (cyc : Nat) (s : State) :
    ∃ s', execRegisterWrite p a v cyc s = .next s' ∧ Good s.pending s.tablesOk s' :=
  ⟨_, rfl, by have h0 : Good s.pending s.tablesOk s := (kept_self s).good; have h1 : Good s.pending s.tablesOk (s.atCyc cyc) :=
    (atCyc_kept cyc s (kept_self s)).good; grind [pathWrite_good, whenB_good]⟩

/-! ## Mode -/

theorem execMode_good (d : Desc) (s : State) : ∃ s', execMode d s = .next s' ∧ Good s.pending s.tablesOk s' :=
  ⟨_, rfl, by exact (runDesc_kept _ _ _ (fun d t ht => opMode_kept d t ht) _ (kept_self s)).good⟩
theorem execGroupClr_good (d : Desc) (s : State) : ∃ s', execGroupClr d s = .next s' ∧ Good s.pending s.tablesOk s' :=
  ⟨_, rfl, by exact (runDesc_kept _ _ _ (fun d t ht => opMode_kept d t ht) _ (kept_self s)).good⟩
theorem execEngineRecovered_good (e : Fin 38) (s : State) : ∃ s', execEngineRecovered e s = .next s' ∧ Good s.pending s.tablesOk s' :=
  ⟨_, rfl, by have hk := kept_self s; exact (show Kept s.keep (engineRecovered e.val s) from by grind [engineRecovered_kept]).good⟩
theorem execBackstayWindowExpiry_good (cyc : Nat) (s : State) :
    ∃ s', execBackstayWindowExpiry cyc s = .next s' ∧ Good s.pending s.tablesOk s' :=
  ⟨_, rfl, by have hk := kept_self s; have h1 : Kept s.keep (s.atCyc cyc) := atCyc_kept cyc s hk; exact (show Kept s.keep (windowExpiry
    (s.atCyc cyc)) from by grind [windowExpiry_kept, atCyc_kept]).good⟩
theorem execPowerOnReset_good (also : BitVec 7) (s : State) : ∃ s', execPowerOnReset also s = .next s' ∧ Good s.pending s.tablesOk s' :=
  ⟨_, rfl, by have h0 : Good s.pending s.tablesOk s := (kept_self s).good; grind [powerOnReset_good, whenB_good]⟩
theorem execPadReset_good (also : BitVec 7) (s : State) : ∃ s', execPadReset also s = .next s' ∧ Good s.pending s.tablesOk s' :=
  ⟨_, rfl, by have h0 : Good s.pending s.tablesOk s := (kept_self s).good; grind [padReset_good, whenB_good]⟩
theorem execPerstReset_good (also : BitVec 7) (s : State) : ∃ s', execPerstReset also s = .next s' ∧ Good s.pending s.tablesOk s' :=
  ⟨_, rfl, by have h0 : Good s.pending s.tablesOk s := (kept_self s).good; grind [perstReset_good, whenB_good]⟩
theorem execSoftReset_good (v : W32) (s : State) : ∃ s', execSoftReset v s = .next s' ∧ Good s.pending s.tablesOk s' :=
  ⟨_, rfl, by have h0 : Good s.pending s.tablesOk s := (kept_self s).good; exact barWrite_good _ _ _ h0⟩
theorem execPllLockLoss_good (refLoss : Bool) (s : State) : ∃ s', execPllLockLoss refLoss s = .next s' ∧ Good s.pending s.tablesOk s' :=
  ⟨_, rfl, by have hk := kept_self s; exact (show Kept s.keep (pllLoss refLoss s) from by grind [pllLoss_kept]).good⟩
theorem execPllReset_good (also : BitVec 7) (s : State) : ∃ s', execPllReset also s = .next s' ∧ Good s.pending s.tablesOk s' :=
  ⟨_, rfl, by have h0 : Good s.pending s.tablesOk s := (kept_self s).good; grind [pllReset_good, whenB_good]⟩
theorem execSupervisorReset_good (also : BitVec 7) (s : State) :
    ∃ s', execSupervisorReset also s = .next s' ∧ Good s.pending s.tablesOk s' :=
  ⟨_, rfl, by have h0 : Good s.pending s.tablesOk s := (kept_self s).good; grind [supervisorReset_good, whenB_good]⟩
theorem execPllLock_good (ok : Bool) (s : State) : ∃ s', execPllLock ok s = .next s' ∧ Good s.pending s.tablesOk s' :=
  ⟨_, rfl, by have hk := kept_self s; exact (show Kept s.keep (pllLock ok s) from by grind [pllLock_kept]).good⟩
theorem execMemoryWipeComplete_good (ok : Bool) (ms : Nat) (s : State) :
    ∃ s', execMemoryWipeComplete ok ms s = .next s' ∧ Good s.pending s.tablesOk s' :=
  ⟨_, rfl, by have hk := kept_self s; exact (show Kept s.keep (wipeComplete ok ms s) from by grind [wipeComplete_kept]).good⟩
theorem execCalibrationDone_good (c : CalResult) (s : State) : ∃ s', execCalibrationDone c s = .next s' ∧ Good s.pending s.tablesOk s' :=
  ⟨_, rfl, by have hk := kept_self s; exact (show Kept s.keep (calibrationDone c s) from by grind [calibrationDone_kept]).good⟩
theorem execStartUp_good (pairs : List (Nat × Nat × BitVec 256)) (readyMs : Nat) (s : State) :
    ∃ s', execStartUp pairs readyMs s = .next s' ∧ Good s.pending s.tablesOk s' :=
  ⟨_, rfl, by have hk := kept_self s; exact (show Kept s.keep (startUp pairs readyMs s) from by grind [startUp_kept]).good⟩
theorem execLcChangeRequest_good (v : W32) (s : State) : ∃ s', execLcChangeRequest v s = .next s' ∧ Good s.pending s.tablesOk s' :=
  ⟨_, rfl, by have h0 : Good s.pending s.tablesOk s := (kept_self s).good; exact barWrite_good _ _ _ h0⟩
theorem execLcChangeComplete_good (s : State) : ∃ s', execLcChangeComplete s = .next s' ∧ Good s.pending s.tablesOk s' :=
  ⟨_, rfl, by have h0 : Good s.pending s.tablesOk s := (kept_self s).good; grind [lcComplete_good, whenB_good]⟩
theorem execPendingWipeStart_good (s : State) : ∃ s', execPendingWipeStart s = .next s' ∧ Good s.pending s.tablesOk s' :=
  ⟨_, rfl, by have hk := kept_self s; exact (show Kept s.keep (pendingWipe s) from by grind [pendingWipe_kept]).good⟩
theorem execPendingWipeTimeout_good (s : State) : ∃ s', execPendingWipeTimeout s = .next s' ∧ Good s.pending s.tablesOk s' :=
  ⟨_, rfl, by have hk := kept_self s; exact (show Kept s.keep (pendingWipeTimeout s) from by grind [pendingWipeTimeout_kept]).good⟩
theorem execPllLockRegained_good (s : State) : ∃ s', execPllLockRegained s = .next s' ∧ Good s.pending s.tablesOk s' :=
  ⟨_, rfl, by have hk := kept_self s; exact (show Kept s.keep (pllRegained s) from by grind [pllRegained_kept]).good⟩

/-! ## Plan -/

theorem execAxisBind_good (d : Desc) (s : State) : ∃ s', execAxisBind d s = .next s' ∧ Good s.pending s.tablesOk s' :=
  ⟨_, rfl, by exact (runDesc_kept _ _ _ (fun d t ht => opAxisBind_kept d t ht) _ (kept_self s)).good⟩
theorem execAxisLimits_good (d : Desc) (s : State) : ∃ s', execAxisLimits d s = .next s' ∧ Good s.pending s.tablesOk s' :=
  ⟨_, rfl, by exact (runDesc_kept _ _ _ (fun d t ht => opAxisLimits_kept d t ht) _ (kept_self s)).good⟩
theorem execProfile_good (d : Desc) (s : State) : ∃ s', execProfile d s = .next s' ∧ Good s.pending s.tablesOk s' :=
  ⟨_, rfl, by exact (runDesc_kept _ _ _ (fun d t ht => opProfile_kept d t ht) _ (kept_self s)).good⟩
theorem execMove_good (d : Desc) (s : State) : ∃ s', execMove d s = .next s' ∧ Good s.pending s.tablesOk s' :=
  ⟨_, rfl, by exact (runDesc_kept _ _ _ (fun d t ht => opMove_kept d t ht) _ (kept_self s)).good⟩
theorem execMoveImmediate_good (d : Desc) (s : State) : ∃ s', execMoveImmediate d s = .next s' ∧ Good s.pending s.tablesOk s' :=
  ⟨_, rfl, by exact (runDesc_kept _ _ _ (fun d t ht => opMove_kept d t ht) _ (kept_self s)).good⟩
theorem execMoveCont_good (d : Desc) (s : State) : ∃ s', execMoveCont d s = .next s' ∧ Good s.pending s.tablesOk s' :=
  ⟨_, rfl, by exact (runDesc_kept _ _ _ (fun d t ht => opMoveCont_kept d t ht) _ (kept_self s)).good⟩
theorem execMoveIncomplete_good (ring : Fin 64) (s : State) : ∃ s', execMoveIncomplete ring s = .next s' ∧ Good s.pending s.tablesOk s' :=
  ⟨_, rfl, by have hk := kept_self s; exact (show Kept s.keep (moveIncomplete ring.val s) from by grind [moveIncomplete_kept]).good⟩
theorem execGroupEnable_good (d : Desc) (s : State) : ∃ s', execGroupEnable d s = .next s' ∧ Good s.pending s.tablesOk s' :=
  ⟨_, rfl, by exact (runDesc_kept _ _ _ (fun d t ht => opGroupCtrl_kept d t ht) _ (kept_self s)).good⟩
theorem execGroupDisable_good (d : Desc) (s : State) : ∃ s', execGroupDisable d s = .next s' ∧ Good s.pending s.tablesOk s' :=
  ⟨_, rfl, by exact (runDesc_kept _ _ _ (fun d t ht => opGroupCtrl_kept d t ht) _ (kept_self s)).good⟩
theorem execGroupStop_good (d : Desc) (s : State) : ∃ s', execGroupStop d s = .next s' ∧ Good s.pending s.tablesOk s' :=
  ⟨_, rfl, by exact (runDesc_kept _ _ _ (fun d t ht => opGroupCtrl_kept d t ht) _ (kept_self s)).good⟩
theorem execGroupResume_good (d : Desc) (s : State) : ∃ s', execGroupResume d s = .next s' ∧ Good s.pending s.tablesOk s' :=
  ⟨_, rfl, by exact (runDesc_kept _ _ _ (fun d t ht => opGroupCtrl_kept d t ht) _ (kept_self s)).good⟩
theorem execGroupFlush_good (d : Desc) (s : State) : ∃ s', execGroupFlush d s = .next s' ∧ Good s.pending s.tablesOk s' :=
  ⟨_, rfl, by exact (runDesc_kept _ _ _ (fun d t ht => opGroupCtrl_kept d t ht) _ (kept_self s)).good⟩
theorem execGroupCtrlNoAction_good (d : Desc) (s : State) : ∃ s', execGroupCtrlNoAction d s = .next s' ∧ Good s.pending s.tablesOk s' :=
  ⟨_, rfl, by exact (runDesc_kept _ _ _ (fun d t ht => opGroupCtrl_kept d t ht) _ (kept_self s)).good⟩
theorem execQueueStart_good (g : Fin 32) (s : State) : ∃ s', execQueueStart g s = .next s' ∧ Good s.pending s.tablesOk s' :=
  ⟨_, rfl, by have hk := kept_self s; exact (show Kept s.keep (startQueue g.val (skipOf s) s) from by grind [startQueue_kept]).good⟩
theorem execSegmentEnd_good (g : Fin 32) (s : State) : ∃ s', execSegmentEnd g s = .next s' ∧ Good s.pending s.tablesOk s' :=
  ⟨_, rfl, by have hk := kept_self s; exact (show Kept s.keep (endSegment g.val (skipOf s) s) from by grind [endSegment_kept]).good⟩
theorem execGearEngage_good (d : Desc) (s : State) : ∃ s', execGearEngage d s = .next s' ∧ Good s.pending s.tablesOk s' :=
  ⟨_, rfl, by exact (runDesc_kept _ _ _ (fun d t ht => opGear_kept d t ht) _ (kept_self s)).good⟩
theorem execGearDisengage_good (d : Desc) (s : State) : ∃ s', execGearDisengage d s = .next s' ∧ Good s.pending s.tablesOk s' :=
  ⟨_, rfl, by exact (runDesc_kept _ _ _ (fun d t ht => opGear_kept d t ht) _ (kept_self s)).good⟩
theorem execCamLoad_good (d : Desc) (s : State) : ∃ s', execCamLoad d s = .next s' ∧ Good s.pending s.tablesOk s' :=
  ⟨_, rfl, by exact (runDesc_kept _ _ _ (fun d t ht => opCamLoad_kept d t ht) _ (kept_self s)).good⟩
theorem execCamReady_good (t : Fin 32) (s : State) : ∃ s', execCamReady t s = .next s' ∧ Good s.pending s.tablesOk s' :=
  ⟨_, rfl, by have hk := kept_self s; exact (show Kept s.keep (camReady t.val s) from by grind [camReady_kept]).good⟩
theorem execCamEngage_good (d : Desc) (s : State) : ∃ s', execCamEngage d s = .next s' ∧ Good s.pending s.tablesOk s' :=
  ⟨_, rfl, by exact (runDesc_kept _ _ _ (fun d t ht => opCamEngage_kept d t ht) _ (kept_self s)).good⟩
theorem execCamDisengage_good (d : Desc) (s : State) : ∃ s', execCamDisengage d s = .next s' ∧ Good s.pending s.tablesOk s' :=
  ⟨_, rfl, by exact (runDesc_kept _ _ _ (fun d t ht => opCamEngage_kept d t ht) _ (kept_self s)).good⟩
theorem execGroupReport_good (d : Desc) (s : State) : ∃ s', execGroupReport d s = .next s' ∧ Good s.pending s.tablesOk s' :=
  ⟨_, rfl, by exact (runDesc_kept _ _ _ (fun d t ht => opGroupReport_kept d t ht) _ (kept_self s)).good⟩

/-! ## Loop -/

theorem execMotor_good (d : Desc) (s : State) : ∃ s', execMotor d s = .next s' ∧ Good s.pending s.tablesOk s' :=
  ⟨_, rfl, by exact (runDesc_kept _ _ _ (fun d t ht => opMotor_kept d t ht) _ (kept_self s)).good⟩
theorem execIsense_good (d : Desc) (s : State) : ∃ s', execIsense d s = .next s' ∧ Good s.pending s.tablesOk s' :=
  ⟨_, rfl, by exact (runDesc_kept _ _ _ (fun d t ht => opIsense_kept d t ht) _ (kept_self s)).good⟩
theorem execCurrentLoop_good (d : Desc) (s : State) : ∃ s', execCurrentLoop d s = .next s' ∧ Good s.pending s.tablesOk s' :=
  ⟨_, rfl, by exact (runDesc_kept _ _ _ (fun d t ht => opCurrentLoop_kept d t ht) _ (kept_self s)).good⟩
theorem execVelocityLoop_good (d : Desc) (s : State) : ∃ s', execVelocityLoop d s = .next s' ∧ Good s.pending s.tablesOk s' :=
  ⟨_, rfl, by exact (runDesc_kept _ _ _ (fun d t ht => opVelocityLoop_kept d t ht) _ (kept_self s)).good⟩
theorem execPositionLoop_good (d : Desc) (s : State) : ∃ s', execPositionLoop d s = .next s' ∧ Good s.pending s.tablesOk s' :=
  ⟨_, rfl, by exact (runDesc_kept _ _ _ (fun d t ht => opPositionLoop_kept d t ht) _ (kept_self s)).good⟩
theorem execNotch_good (d : Desc) (s : State) : ∃ s', execNotch d s = .next s' ∧ Good s.pending s.tablesOk s' :=
  ⟨_, rfl, by exact (runDesc_kept _ _ _ (fun d t ht => opNotch_kept d t ht) _ (kept_self s)).good⟩
theorem execNotchRaw_good (d : Desc) (s : State) : ∃ s', execNotchRaw d s = .next s' ∧ Good s.pending s.tablesOk s' :=
  ⟨_, rfl, by exact (runDesc_kept _ _ _ (fun d t ht => opNotchRaw_kept d t ht) _ (kept_self s)).good⟩
theorem execStepper_good (d : Desc) (s : State) : ∃ s', execStepper d s = .next s' ∧ Good s.pending s.tablesOk s' :=
  ⟨_, rfl, by exact (runDesc_kept _ _ _ (fun d t ht => opStepper_kept d t ht) _ (kept_self s)).good⟩
theorem execIdentify_good (d : Desc) (s : State) : ∃ s', execIdentify d s = .next s' ∧ Good s.pending s.tablesOk s' :=
  ⟨_, rfl, by exact (runDesc_kept _ _ _ (fun d t ht => opIdentifyAny_kept d t ht) _ (kept_self s)).good⟩
theorem execIdentifyAbort_good (d : Desc) (s : State) : ∃ s', execIdentifyAbort d s = .next s' ∧ Good s.pending s.tablesOk s' :=
  ⟨_, rfl, by exact (runDesc_kept _ _ _ (fun d t ht => opIdentifyAny_kept d t ht) _ (kept_self s)).good⟩
theorem execIdState_good (a : Fin 256) (r : IdResult) (cause : Option (Fin 256)) (s : State) :
    ∃ s', execIdState a r cause s = .next s' ∧ Good s.pending s.tablesOk s' :=
  ⟨_, rfl, by have hk := kept_self s; exact (show Kept s.keep (idStep a.val r (cause.map (·.val)) s) from by grind [idStep_kept]).good⟩
theorem execLoopReport_good (d : Desc) (s : State) : ∃ s', execLoopReport d s = .next s' ∧ Good s.pending s.tablesOk s' :=
  ⟨_, rfl, by exact (runDesc_kept _ _ _ (fun d t ht => opLoopReport_kept d t ht) _ (kept_self s)).good⟩
theorem execIdReport_good (d : Desc) (s : State) : ∃ s', execIdReport d s = .next s' ∧ Good s.pending s.tablesOk s' :=
  ⟨_, rfl, by exact (runDesc_kept _ _ _ (fun d t ht => opIdReport_kept d t ht) _ (kept_self s)).good⟩
theorem execLoopFlagsClr_good (d : Desc) (s : State) : ∃ s', execLoopFlagsClr d s = .next s' ∧ Good s.pending s.tablesOk s' :=
  ⟨_, rfl, by exact (runDesc_kept _ _ _ (fun d t ht => opLoopFlagsClr_kept d t ht) _ (kept_self s)).good⟩

/-! ## Web -/

theorem execLine_good (d : Desc) (s : State) : ∃ s', execLine d s = .next s' ∧ Good s.pending s.tablesOk s' :=
  ⟨_, rfl, by exact (runDesc_kept _ _ _ (fun d t ht => opLine_kept d t ht) _ (kept_self s)).good⟩
theorem execRoll_good (d : Desc) (s : State) : ∃ s', execRoll d s = .next s' ∧ Good s.pending s.tablesOk s' :=
  ⟨_, rfl, by exact (runDesc_kept _ _ _ (fun d t ht => opRollAny_kept d t ht) _ (kept_self s)).good⟩
theorem execRollRemove_good (d : Desc) (s : State) : ∃ s', execRollRemove d s = .next s' ∧ Good s.pending s.tablesOk s' :=
  ⟨_, rfl, by exact (runDesc_kept _ _ _ (fun d t ht => opRollAny_kept d t ht) _ (kept_self s)).good⟩
theorem execSpan_good (d : Desc) (s : State) : ∃ s', execSpan d s = .next s' ∧ Good s.pending s.tablesOk s' :=
  ⟨_, rfl, by exact (runDesc_kept _ _ _ (fun d t ht => opSpanAny_kept d t ht) _ (kept_self s)).good⟩
theorem execSpanRemove_good (d : Desc) (s : State) : ∃ s', execSpanRemove d s = .next s' ∧ Good s.pending s.tablesOk s' :=
  ⟨_, rfl, by exact (runDesc_kept _ _ _ (fun d t ht => opSpanAny_kept d t ht) _ (kept_self s)).good⟩
theorem execTensionLoop_good (d : Desc) (s : State) : ∃ s', execTensionLoop d s = .next s' ∧ Good s.pending s.tablesOk s' :=
  ⟨_, rfl, by exact (runDesc_kept _ _ _ (fun d t ht => opTensionLoop_kept d t ht) _ (kept_self s)).good⟩
theorem execWinder_good (d : Desc) (s : State) : ∃ s', execWinder d s = .next s' ∧ Good s.pending s.tablesOk s' :=
  ⟨_, rfl, by exact (runDesc_kept _ _ _ (fun d t ht => opWinderAny_kept d t ht) _ (kept_self s)).good⟩
theorem execWinderRemove_good (d : Desc) (s : State) : ∃ s', execWinderRemove d s = .next s' ∧ Good s.pending s.tablesOk s' :=
  ⟨_, rfl, by exact (runDesc_kept _ _ _ (fun d t ht => opWinderAny_kept d t ht) _ (kept_self s)).good⟩
theorem execMaterial_good (d : Desc) (s : State) : ∃ s', execMaterial d s = .next s' ∧ Good s.pending s.tablesOk s' :=
  ⟨_, rfl, by exact (runDesc_kept _ _ _ (fun d t ht => opMaterial_kept d t ht) _ (kept_self s)).good⟩
theorem execMaterialEnter_good (i : Nat) (s : State) : ∃ s', execMaterialEnter i s = .next s' ∧ Good s.pending s.tablesOk s' :=
  ⟨_, rfl, by have hk := kept_self s; exact (show Kept s.keep (matEnter i s) from by grind [matEnter_kept]).good⟩
theorem execMaterialReach_good (i : Nat) (winder : Bool) (k : Fin 24) (s : State) :
    ∃ s', execMaterialReach i winder k s = .next s' ∧ Good s.pending s.tablesOk s' :=
  ⟨_, rfl, by have hk := kept_self s; exact (show Kept s.keep (matReach i winder k.val s) from by grind [matReach_kept]).good⟩
theorem execDiameterSet_good (d : Desc) (s : State) : ∃ s', execDiameterSet d s = .next s' ∧ Good s.pending s.tablesOk s' :=
  ⟨_, rfl, by exact (runDesc_kept _ _ _ (fun d t ht => opDiameterSet_kept d t ht) _ (kept_self s)).good⟩
theorem execLineReport_good (d : Desc) (s : State) : ∃ s', execLineReport d s = .next s' ∧ Good s.pending s.tablesOk s' :=
  ⟨_, rfl, by exact (runDesc_kept _ _ _ (fun d t ht => opLineReport_kept d t ht) _ (kept_self s)).good⟩
theorem execWinderRevolution_good (w : Fin 8) (s : State) : ∃ s', execWinderRevolution w s = .next s' ∧ Good s.pending s.tablesOk s' :=
  ⟨_, rfl, by have hk := kept_self s; exact (show Kept s.keep (winderRev w.val s) from by grind [winderRev_kept]).good⟩
theorem execWebBreak_good (k : Fin 24) (s : State) : ∃ s', execWebBreak k s = .next s' ∧ Good s.pending s.tablesOk s' :=
  ⟨_, rfl, by have hk := kept_self s; exact (show Kept s.keep (webBreak k.val s) from by grind [webBreak_kept]).good⟩
theorem execLineStandstill_good (s : State) : ∃ s', execLineStandstill s = .next s' ∧ Good s.pending s.tablesOk s' :=
  ⟨_, rfl, by have hk := kept_self s; exact (show Kept s.keep (lineStandstill s) from by grind [lineStandstill_kept]).good⟩
theorem execLineStatusPublish_good (ok : Bool) (s : State) : ∃ s', execLineStatusPublish ok s = .next s' ∧ Good s.pending s.tablesOk s' :=
  ⟨_, rfl, by have hk := kept_self s; exact (show Kept s.keep (linePublish ok s) from by grind [linePublish_kept]).good⟩

/-! ## Alu -/

theorem execAddi_good (i : SparAt) (rd : Fin 64) (ra : Fin 64) (imm : BitVec 14) (s : State) :
    ∃ s', execAddi i rd ra imm s = .next s' ∧ Good s.pending s.tablesOk s' :=
  ⟨_, rfl, by exact (sparStep_kept _ _ (fun t ht => by grind [op1_kept]) _ (kept_self s)).good⟩
theorem execAndi_good (i : SparAt) (rd : Fin 64) (ra : Fin 64) (imm : BitVec 14) (s : State) :
    ∃ s', execAndi i rd ra imm s = .next s' ∧ Good s.pending s.tablesOk s' :=
  ⟨_, rfl, by exact (sparStep_kept _ _ (fun t ht => by grind [op1_kept]) _ (kept_self s)).good⟩
theorem execLdi_good (i : SparAt) (rd : Fin 64) (imm : BitVec 16) (s : State) :
    ∃ s', execLdi i rd imm s = .next s' ∧ Good s.pending s.tablesOk s' :=
  ⟨_, rfl, by exact (sparStep_kept _ _ (fun t ht => by grind [setG_kept]) _ (kept_self s)).good⟩
theorem execLdk_good (i : SparAt) (rd : Fin 64) (lane : Fin 4) (imm : BitVec 16) (s : State) :
    ∃ s', execLdk i rd lane imm s = .next s' ∧ Good s.pending s.tablesOk s' :=
  ⟨_, rfl, by exact (sparStep_kept _ _ (fun t ht => by grind [op1_kept]) _ (kept_self s)).good⟩
theorem execSel_good (i : SparAt) (rd : Fin 64) (ra : Fin 64) (rb : Fin 64) (rc : Fin 64) (s : State) :
    ∃ s', execSel i rd ra rb rc s = .next s' ∧ Good s.pending s.tablesOk s' :=
  ⟨_, rfl, by exact (sparStep_kept _ _ (fun t ht => by grind [op2_kept]) _ (kept_self s)).good⟩
theorem execLd_good (i : SparAt) (rd : Fin 64) (sz : Fin 7) (m : MemAddr) (s : State) :
    ∃ s', execLd i rd sz m s = .next s' ∧ Good s.pending s.tablesOk s' :=
  ⟨_, rfl, by exact (sparStep_kept _ _ (fun t ht => by grind [opLoad_kept]) _ (kept_self s)).good⟩
theorem execSt_good (i : SparAt) (rs : Fin 64) (sz : Fin 7) (m : MemAddr) (s : State) :
    ∃ s', execSt i rs sz m s = .next s' ∧ Good s.pending s.tablesOk s' :=
  ⟨_, rfl, by exact (sparStep_kept _ _ (fun t ht => by grind [opStore_kept]) _ (kept_self s)).good⟩
theorem execAdd_good (i : SparAt) (rd : Fin 64) (ra : Fin 64) (rb : Fin 64) (s : State) :
    ∃ s', execAdd i rd ra rb s = .next s' ∧ Good s.pending s.tablesOk s' :=
  ⟨_, rfl, by exact (sparStep_kept _ _ (fun t ht => by grind [op2_kept]) _ (kept_self s)).good⟩
theorem execAdds_good (i : SparAt) (rd : Fin 64) (ra : Fin 64) (rb : Fin 64) (s : State) :
    ∃ s', execAdds i rd ra rb s = .next s' ∧ Good s.pending s.tablesOk s' :=
  ⟨_, rfl, by exact (sparStep_kept _ _ (fun t ht => by grind [op2_kept]) _ (kept_self s)).good⟩
theorem execSub_good (i : SparAt) (rd : Fin 64) (ra : Fin 64) (rb : Fin 64) (s : State) :
    ∃ s', execSub i rd ra rb s = .next s' ∧ Good s.pending s.tablesOk s' :=
  ⟨_, rfl, by exact (sparStep_kept _ _ (fun t ht => by grind [op2_kept]) _ (kept_self s)).good⟩
theorem execSubs_good (i : SparAt) (rd : Fin 64) (ra : Fin 64) (rb : Fin 64) (s : State) :
    ∃ s', execSubs i rd ra rb s = .next s' ∧ Good s.pending s.tablesOk s' :=
  ⟨_, rfl, by exact (sparStep_kept _ _ (fun t ht => by grind [op2_kept]) _ (kept_self s)).good⟩
theorem execAnd_good (i : SparAt) (rd : Fin 64) (ra : Fin 64) (rb : Fin 64) (s : State) :
    ∃ s', execAnd i rd ra rb s = .next s' ∧ Good s.pending s.tablesOk s' :=
  ⟨_, rfl, by exact (sparStep_kept _ _ (fun t ht => by grind [op2_kept]) _ (kept_self s)).good⟩
theorem execOr_good (i : SparAt) (rd : Fin 64) (ra : Fin 64) (rb : Fin 64) (s : State) :
    ∃ s', execOr i rd ra rb s = .next s' ∧ Good s.pending s.tablesOk s' :=
  ⟨_, rfl, by exact (sparStep_kept _ _ (fun t ht => by grind [op2_kept]) _ (kept_self s)).good⟩
theorem execXor_good (i : SparAt) (rd : Fin 64) (ra : Fin 64) (rb : Fin 64) (s : State) :
    ∃ s', execXor i rd ra rb s = .next s' ∧ Good s.pending s.tablesOk s' :=
  ⟨_, rfl, by exact (sparStep_kept _ _ (fun t ht => by grind [op2_kept]) _ (kept_self s)).good⟩
theorem execShl_good (i : SparAt) (rd : Fin 64) (ra : Fin 64) (rb : Fin 64) (s : State) :
    ∃ s', execShl i rd ra rb s = .next s' ∧ Good s.pending s.tablesOk s' :=
  ⟨_, rfl, by exact (sparStep_kept _ _ (fun t ht => by grind [op2_kept]) _ (kept_self s)).good⟩
theorem execShr_good (i : SparAt) (rd : Fin 64) (ra : Fin 64) (rb : Fin 64) (s : State) :
    ∃ s', execShr i rd ra rb s = .next s' ∧ Good s.pending s.tablesOk s' :=
  ⟨_, rfl, by exact (sparStep_kept _ _ (fun t ht => by grind [op2_kept]) _ (kept_self s)).good⟩
theorem execSra_good (i : SparAt) (rd : Fin 64) (ra : Fin 64) (rb : Fin 64) (s : State) :
    ∃ s', execSra i rd ra rb s = .next s' ∧ Good s.pending s.tablesOk s' :=
  ⟨_, rfl, by exact (sparStep_kept _ _ (fun t ht => by grind [op2_kept]) _ (kept_self s)).good⟩
theorem execShls_good (i : SparAt) (rd : Fin 64) (ra : Fin 64) (rb : Fin 64) (s : State) :
    ∃ s', execShls i rd ra rb s = .next s' ∧ Good s.pending s.tablesOk s' :=
  ⟨_, rfl, by exact (sparStep_kept _ _ (fun t ht => by grind [op2_kept]) _ (kept_self s)).good⟩
theorem execShli_good (i : SparAt) (rd : Fin 64) (ra : Fin 64) (n : Fin 64) (s : State) :
    ∃ s', execShli i rd ra n s = .next s' ∧ Good s.pending s.tablesOk s' :=
  ⟨_, rfl, by exact (sparStep_kept _ _ (fun t ht => by grind [op1_kept]) _ (kept_self s)).good⟩
theorem execShri_good (i : SparAt) (rd : Fin 64) (ra : Fin 64) (n : Fin 64) (s : State) :
    ∃ s', execShri i rd ra n s = .next s' ∧ Good s.pending s.tablesOk s' :=
  ⟨_, rfl, by exact (sparStep_kept _ _ (fun t ht => by grind [op1_kept]) _ (kept_self s)).good⟩
theorem execSrai_good (i : SparAt) (rd : Fin 64) (ra : Fin 64) (n : Fin 64) (s : State) :
    ∃ s', execSrai i rd ra n s = .next s' ∧ Good s.pending s.tablesOk s' :=
  ⟨_, rfl, by exact (sparStep_kept _ _ (fun t ht => by grind [op1_kept]) _ (kept_self s)).good⟩
theorem execShlsi_good (i : SparAt) (rd : Fin 64) (ra : Fin 64) (n : Fin 64) (s : State) :
    ∃ s', execShlsi i rd ra n s = .next s' ∧ Good s.pending s.tablesOk s' :=
  ⟨_, rfl, by exact (sparStep_kept _ _ (fun t ht => by grind [op1_kept]) _ (kept_self s)).good⟩
theorem execMin_good (i : SparAt) (rd : Fin 64) (ra : Fin 64) (rb : Fin 64) (s : State) :
    ∃ s', execMin i rd ra rb s = .next s' ∧ Good s.pending s.tablesOk s' :=
  ⟨_, rfl, by exact (sparStep_kept _ _ (fun t ht => by grind [op2_kept]) _ (kept_self s)).good⟩
theorem execMax_good (i : SparAt) (rd : Fin 64) (ra : Fin 64) (rb : Fin 64) (s : State) :
    ∃ s', execMax i rd ra rb s = .next s' ∧ Good s.pending s.tablesOk s' :=
  ⟨_, rfl, by exact (sparStep_kept _ _ (fun t ht => by grind [op2_kept]) _ (kept_self s)).good⟩
theorem execMinu_good (i : SparAt) (rd : Fin 64) (ra : Fin 64) (rb : Fin 64) (s : State) :
    ∃ s', execMinu i rd ra rb s = .next s' ∧ Good s.pending s.tablesOk s' :=
  ⟨_, rfl, by exact (sparStep_kept _ _ (fun t ht => by grind [op2_kept]) _ (kept_self s)).good⟩
theorem execMaxu_good (i : SparAt) (rd : Fin 64) (ra : Fin 64) (rb : Fin 64) (s : State) :
    ∃ s', execMaxu i rd ra rb s = .next s' ∧ Good s.pending s.tablesOk s' :=
  ⟨_, rfl, by exact (sparStep_kept _ _ (fun t ht => by grind [op2_kept]) _ (kept_self s)).good⟩
theorem execAbss_good (i : SparAt) (rd : Fin 64) (ra : Fin 64) (s : State) :
    ∃ s', execAbss i rd ra s = .next s' ∧ Good s.pending s.tablesOk s' :=
  ⟨_, rfl, by exact (sparStep_kept _ _ (fun t ht => by grind [op1_kept]) _ (kept_self s)).good⟩
theorem execNegs_good (i : SparAt) (rd : Fin 64) (ra : Fin 64) (s : State) :
    ∃ s', execNegs i rd ra s = .next s' ∧ Good s.pending s.tablesOk s' :=
  ⟨_, rfl, by exact (sparStep_kept _ _ (fun t ht => by grind [op1_kept]) _ (kept_self s)).good⟩
theorem execSlt_good (i : SparAt) (rd : Fin 64) (ra : Fin 64) (rb : Fin 64) (s : State) :
    ∃ s', execSlt i rd ra rb s = .next s' ∧ Good s.pending s.tablesOk s' :=
  ⟨_, rfl, by exact (sparStep_kept _ _ (fun t ht => by grind [op2_kept]) _ (kept_self s)).good⟩
theorem execSltu_good (i : SparAt) (rd : Fin 64) (ra : Fin 64) (rb : Fin 64) (s : State) :
    ∃ s', execSltu i rd ra rb s = .next s' ∧ Good s.pending s.tablesOk s' :=
  ⟨_, rfl, by exact (sparStep_kept _ _ (fun t ht => by grind [op2_kept]) _ (kept_self s)).good⟩
theorem execSeq_good (i : SparAt) (rd : Fin 64) (ra : Fin 64) (rb : Fin 64) (s : State) :
    ∃ s', execSeq i rd ra rb s = .next s' ∧ Good s.pending s.tablesOk s' :=
  ⟨_, rfl, by exact (sparStep_kept _ _ (fun t ht => by grind [op2_kept]) _ (kept_self s)).good⟩
theorem execSext32_good (i : SparAt) (rd : Fin 64) (ra : Fin 64) (s : State) :
    ∃ s', execSext32 i rd ra s = .next s' ∧ Good s.pending s.tablesOk s' :=
  ⟨_, rfl, by exact (sparStep_kept _ _ (fun t ht => by grind [op1_kept]) _ (kept_self s)).good⟩
theorem execSext16_good (i : SparAt) (rd : Fin 64) (ra : Fin 64) (s : State) :
    ∃ s', execSext16 i rd ra s = .next s' ∧ Good s.pending s.tablesOk s' :=
  ⟨_, rfl, by exact (sparStep_kept _ _ (fun t ht => by grind [op1_kept]) _ (kept_self s)).good⟩
theorem execSext8_good (i : SparAt) (rd : Fin 64) (ra : Fin 64) (s : State) :
    ∃ s', execSext8 i rd ra s = .next s' ∧ Good s.pending s.tablesOk s' :=
  ⟨_, rfl, by exact (sparStep_kept _ _ (fun t ht => by grind [op1_kept]) _ (kept_self s)).good⟩
theorem execNorm_good (i : SparAt) (rd : Fin 64) (ra : Fin 64) (s : State) :
    ∃ s', execNorm i rd ra s = .next s' ∧ Good s.pending s.tablesOk s' :=
  ⟨_, rfl, by exact (sparStep_kept _ _ (fun t ht => by grind [op1_kept]) _ (kept_self s)).good⟩
theorem execExpx_good (i : SparAt) (rd : Fin 64) (ra : Fin 64) (q : Fin 64) (s : State) :
    ∃ s', execExpx i rd ra q s = .next s' ∧ Good s.pending s.tablesOk s' :=
  ⟨_, rfl, by exact (sparStep_kept _ _ (fun t ht => by grind [op1_kept]) _ (kept_self s)).good⟩
theorem execGmul_good (i : SparAt) (rd : Fin 64) (ra : Fin 64) (rb : Fin 64) (s : State) :
    ∃ s', execGmul i rd ra rb s = .next s' ∧ Good s.pending s.tablesOk s' :=
  ⟨_, rfl, by exact (sparStep_kept _ _ (fun t ht => by grind [op2_kept]) _ (kept_self s)).good⟩
theorem execMulh_good (i : SparAt) (rd : Fin 64) (ra : Fin 64) (rb : Fin 64) (s : State) :
    ∃ s', execMulh i rd ra rb s = .next s' ∧ Good s.pending s.tablesOk s' :=
  ⟨_, rfl, by exact (sparStep_kept _ _ (fun t ht => by grind [op2_kept]) _ (kept_self s)).good⟩
theorem execMull_good (i : SparAt) (rd : Fin 64) (ra : Fin 64) (rb : Fin 64) (s : State) :
    ∃ s', execMull i rd ra rb s = .next s' ∧ Good s.pending s.tablesOk s' :=
  ⟨_, rfl, by exact (sparStep_kept _ _ (fun t ht => by grind [op2_kept]) _ (kept_self s)).good⟩
theorem execClips_good (i : SparAt) (rd : Fin 64) (ra : Fin 64) (rb : Fin 64) (s : State) :
    ∃ s', execClips i rd ra rb s = .next s' ∧ Good s.pending s.tablesOk s' :=
  ⟨_, rfl, by exact (sparStep_kept _ _ (fun t ht => by grind [op2_kept]) _ (kept_self s)).good⟩

/-! ## Mac -/

theorem execMul_good (i : SparAt) (ra : Fin 64) (rb : Fin 64) (acc : Bool) (sg : MacSign) (s : State) :
    ∃ s', execMul i ra rb acc sg s = .next s' ∧ Good s.pending s.tablesOk s' :=
  ⟨_, rfl, by exact (sparStep_kept _ _ (fun t ht => by grind [macTo_kept]) _ (kept_self s)).good⟩
theorem execMac_good (i : SparAt) (ra : Fin 64) (rb : Fin 64) (acc : Bool) (sg : MacSign) (s : State) :
    ∃ s', execMac i ra rb acc sg s = .next s' ∧ Good s.pending s.tablesOk s' :=
  ⟨_, rfl, by exact (sparStep_kept _ _ (fun t ht => by grind [macTo_kept]) _ (kept_self s)).good⟩
theorem execMsu_good (i : SparAt) (ra : Fin 64) (rb : Fin 64) (acc : Bool) (sg : MacSign) (s : State) :
    ∃ s', execMsu i ra rb acc sg s = .next s' ∧ Good s.pending s.tablesOk s' :=
  ⟨_, rfl, by exact (sparStep_kept _ _ (fun t ht => by grind [macTo_kept]) _ (kept_self s)).good⟩
theorem execMulld_good (i : SparAt) (ra : Fin 64) (rb : Fin 64) (agx : Fin 4) (agy : Fin 4) (acc : Bool) (sg : MacSign) (s : State) :
    ∃ s', execMulld i ra rb agx agy acc sg s = .next s' ∧ Good s.pending s.tablesOk s' :=
  ⟨_, rfl, by exact (sparStep_kept _ _ (fun t ht => by grind [macLoad_kept]) _ (kept_self s)).good⟩
theorem execMacld_good (i : SparAt) (ra : Fin 64) (rb : Fin 64) (agx : Fin 4) (agy : Fin 4) (acc : Bool) (sg : MacSign) (s : State) :
    ∃ s', execMacld i ra rb agx agy acc sg s = .next s' ∧ Good s.pending s.tablesOk s' :=
  ⟨_, rfl, by exact (sparStep_kept _ _ (fun t ht => by grind [macLoad_kept]) _ (kept_self s)).good⟩
theorem execMsuld_good (i : SparAt) (ra : Fin 64) (rb : Fin 64) (agx : Fin 4) (agy : Fin 4) (acc : Bool) (sg : MacSign) (s : State) :
    ∃ s', execMsuld i ra rb agx agy acc sg s = .next s' ∧ Good s.pending s.tablesOk s' :=
  ⟨_, rfl, by exact (sparStep_kept _ _ (fun t ht => by grind [macLoad_kept]) _ (kept_self s)).good⟩
theorem execExtr_good (i : SparAt) (rd : Fin 64) (shift : Fin 128) (acc : Bool) (rnd : Bool) (s : State) :
    ∃ s', execExtr i rd shift acc rnd s = .next s' ∧ Good s.pending s.tablesOk s' :=
  ⟨_, rfl, by exact (sparStep_kept _ _ (fun t ht => by grind [opExtr_kept]) _ (kept_self s)).good⟩
theorem execAcld_good (i : SparAt) (ra : Fin 64) (shift : Fin 128) (acc : Bool) (s : State) :
    ∃ s', execAcld i ra shift acc s = .next s' ∧ Good s.pending s.tablesOk s' :=
  ⟨_, rfl, by exact (sparStep_kept _ _ (fun t ht => by grind [opAcld_kept]) _ (kept_self s)).good⟩
theorem execNorma_good (i : SparAt) (rd : Fin 64) (acc : Bool) (s : State) :
    ∃ s', execNorma i rd acc s = .next s' ∧ Good s.pending s.tablesOk s' :=
  ⟨_, rfl, by exact (sparStep_kept _ _ (fun t ht => by grind [setG_kept]) _ (kept_self s)).good⟩
theorem execDiv_good (i : SparAt) (rd : Fin 64) (ra : Fin 64) (rb : Fin 64) (s : State) :
    ∃ s', execDiv i rd ra rb s = .next s' ∧ Good s.pending s.tablesOk s' :=
  ⟨_, rfl, by exact (sparStep_kept _ _ (fun t ht => by grind [opDivide_kept]) _ (kept_self s)).good⟩
theorem execDivu_good (i : SparAt) (rd : Fin 64) (ra : Fin 64) (rb : Fin 64) (s : State) :
    ∃ s', execDivu i rd ra rb s = .next s' ∧ Good s.pending s.tablesOk s' :=
  ⟨_, rfl, by exact (sparStep_kept _ _ (fun t ht => by grind [opDivide_kept]) _ (kept_self s)).good⟩
theorem execDiva0_good (i : SparAt) (rd : Fin 64) (ra : Fin 64) (s : State) :
    ∃ s', execDiva0 i rd ra s = .next s' ∧ Good s.pending s.tablesOk s' :=
  ⟨_, rfl, by exact (sparStep_kept _ _ (fun t ht => by grind [opDivide_kept]) _ (kept_self s)).good⟩
theorem execDiva1_good (i : SparAt) (rd : Fin 64) (ra : Fin 64) (s : State) :
    ∃ s', execDiva1 i rd ra s = .next s' ∧ Good s.pending s.tablesOk s' :=
  ⟨_, rfl, by exact (sparStep_kept _ _ (fun t ht => by grind [opDivide_kept]) _ (kept_self s)).good⟩
theorem execSqrtu_good (i : SparAt) (rd : Fin 64) (ra : Fin 64) (s : State) :
    ∃ s', execSqrtu i rd ra s = .next s' ∧ Good s.pending s.tablesOk s' :=
  ⟨_, rfl, by exact (sparStep_kept _ _ (fun t ht => by grind [op1_kept]) _ (kept_self s)).good⟩
theorem execSincos_good (i : SparAt) (rd : Fin 64) (ra : Fin 64) (rb : Fin 64) (s : State) :
    ∃ s', execSincos i rd ra rb s = .next s' ∧ Good s.pending s.tablesOk s' :=
  ⟨_, rfl, by exact (sparStep_kept _ _ (fun t ht => by grind [opSincos_kept]) _ (kept_self s)).good⟩
theorem execAtan2_good (i : SparAt) (rd : Fin 64) (ra : Fin 64) (rb : Fin 64) (s : State) :
    ∃ s', execAtan2 i rd ra rb s = .next s' ∧ Good s.pending s.tablesOk s' :=
  ⟨_, rfl, by exact (sparStep_kept _ _ (fun t ht => by grind [op2_kept]) _ (kept_self s)).good⟩

/-! ## Flow -/

theorem execBeqz_good (i : SparAt) (ra : Fin 64) (off : BitVec 16) (s : State) :
    ∃ s', execBeqz i ra off s = .next s' ∧ Good s.pending s.tablesOk s' :=
  ⟨_, rfl, by exact (sparStep_kept _ _ (fun t ht => by grind [branchIf_kept]) _ (kept_self s)).good⟩
theorem execBnez_good (i : SparAt) (ra : Fin 64) (off : BitVec 16) (s : State) :
    ∃ s', execBnez i ra off s = .next s' ∧ Good s.pending s.tablesOk s' :=
  ⟨_, rfl, by exact (sparStep_kept _ _ (fun t ht => by grind [branchIf_kept]) _ (kept_self s)).good⟩
theorem execBltz_good (i : SparAt) (ra : Fin 64) (off : BitVec 16) (s : State) :
    ∃ s', execBltz i ra off s = .next s' ∧ Good s.pending s.tablesOk s' :=
  ⟨_, rfl, by exact (sparStep_kept _ _ (fun t ht => by grind [branchIf_kept]) _ (kept_self s)).good⟩
theorem execBgez_good (i : SparAt) (ra : Fin 64) (off : BitVec 16) (s : State) :
    ∃ s', execBgez i ra off s = .next s' ∧ Good s.pending s.tablesOk s' :=
  ⟨_, rfl, by exact (sparStep_kept _ _ (fun t ht => by grind [branchIf_kept]) _ (kept_self s)).good⟩
theorem execBgtz_good (i : SparAt) (ra : Fin 64) (off : BitVec 16) (s : State) :
    ∃ s', execBgtz i ra off s = .next s' ∧ Good s.pending s.tablesOk s' :=
  ⟨_, rfl, by exact (sparStep_kept _ _ (fun t ht => by grind [branchIf_kept]) _ (kept_self s)).good⟩
theorem execBlez_good (i : SparAt) (ra : Fin 64) (off : BitVec 16) (s : State) :
    ∃ s', execBlez i ra off s = .next s' ∧ Good s.pending s.tablesOk s' :=
  ⟨_, rfl, by exact (sparStep_kept _ _ (fun t ht => by grind [branchIf_kept]) _ (kept_self s)).good⟩
theorem execB_good (i : SparAt) (off : BitVec 16) (s : State) : ∃ s', execB i off s = .next s' ∧ Good s.pending s.tablesOk s' :=
  ⟨_, rfl, by exact (sparStep_kept _ _ (fun t ht => by grind [jumpBy_kept]) _ (kept_self s)).good⟩
theorem execBloop_good (i : SparAt) (off : BitVec 16) (s : State) : ∃ s', execBloop i off s = .next s' ∧ Good s.pending s.tablesOk s' :=
  ⟨_, rfl, by exact (sparStep_kept _ _ (fun t ht => by grind [opBloop_kept]) _ (kept_self s)).good⟩
theorem execBloopr_good (i : SparAt) (off : BitVec 16) (s : State) : ∃ s', execBloopr i off s = .next s' ∧ Good s.pending s.tablesOk s' :=
  ⟨_, rfl, by exact (sparStep_kept _ _ (fun t ht => by grind [opBloopr_kept]) _ (kept_self s)).good⟩
theorem execJal_good (i : SparAt) (rd : Fin 64) (off : BitVec 16) (s : State) :
    ∃ s', execJal i rd off s = .next s' ∧ Good s.pending s.tablesOk s' :=
  ⟨_, rfl, by exact (sparStep_kept _ _ (fun t ht => by grind [jumpBy_kept, setG_kept]) _ (kept_self s)).good⟩
theorem execJr_good (i : SparAt) (ra : Fin 64) (s : State) : ∃ s', execJr i ra s = .next s' ∧ Good s.pending s.tablesOk s' :=
  ⟨_, rfl, by exact (sparStep_kept _ _ (fun t ht => by grind [updEng_kept]) _ (kept_self s)).good⟩
theorem execMfc_good (i : SparAt) (rd : Fin 64) (num : BitVec 8) (s : State) :
    ∃ s', execMfc i rd num s = .next s' ∧ Good s.pending s.tablesOk s' :=
  ⟨_, rfl, by exact (sparStep_kept _ _ (fun t ht => by grind [opMfc_kept]) _ (kept_self s)).good⟩
theorem execMtc_good (i : SparAt) (ra : Fin 64) (num : BitVec 8) (s : State) :
    ∃ s', execMtc i ra num s = .next s' ∧ Good s.pending s.tablesOk s' :=
  ⟨_, rfl, by exact (sparStep_kept _ _ (fun t ht => by grind [opMtc_kept]) _ (kept_self s)).good⟩
theorem execMfs_good (i : SparAt) (rd : Fin 64) (ra : Fin 64) (s : State) :
    ∃ s', execMfs i rd ra s = .next s' ∧ Good s.pending s.tablesOk s' :=
  ⟨_, rfl, by exact (sparStep_kept _ _ (fun t ht => by grind [setG_kept]) _ (kept_self s)).good⟩
theorem execMts_good (i : SparAt) (rd : Fin 64) (ra : Fin 64) (s : State) :
    ∃ s', execMts i rd ra s = .next s' ∧ Good s.pending s.tablesOk s' :=
  ⟨_, rfl, by exact (sparStep_kept _ _ (fun t ht => by grind [updEng_kept]) _ (kept_self s)).good⟩
theorem execSparNop_good (i : SparAt) (s : State) : ∃ s', execSparNop i s = .next s' ∧ Good s.pending s.tablesOk s' :=
  ⟨_, rfl, by exact (sparStep_kept _ _ (fun _ ht => ht) _ (kept_self s)).good⟩
theorem execDone_good (i : SparAt) (s : State) : ∃ s', execDone i s = .next s' ∧ Good s.pending s.tablesOk s' :=
  ⟨_, rfl, by exact (sparStep_kept _ _ (fun t ht => by grind [opDone_kept]) _ (kept_self s)).good⟩
theorem execWaitt_good (i : SparAt) (s : State) : ∃ s', execWaitt i s = .next s' ∧ Good s.pending s.tablesOk s' :=
  ⟨_, rfl, by exact (sparStep_kept _ _ (fun t ht => by grind [opWaitt_kept]) _ (kept_self s)).good⟩
theorem execWaitc_good (i : SparAt) (s : State) : ∃ s', execWaitc i s = .next s' ∧ Good s.pending s.tablesOk s' :=
  ⟨_, rfl, by exact (sparStep_kept _ _ (fun t ht => by grind [opWaitc_kept]) _ (kept_self s)).good⟩
theorem execReti_good (i : SparAt) (s : State) : ∃ s', execReti i s = .next s' ∧ Good s.pending s.tablesOk s' :=
  ⟨_, rfl, by exact (sparStep_kept _ _ (fun t ht => by grind [opReti_kept]) _ (kept_self s)).good⟩
theorem execBrk_good (i : SparAt) (s : State) : ∃ s', execBrk i s = .next s' ∧ Good s.pending s.tablesOk s' :=
  ⟨_, rfl, by exact (sparStep_kept _ _ (fun t ht => by grind [opBrk_kept]) _ (kept_self s)).good⟩
theorem execFenceIo_good (i : SparAt) (s : State) : ∃ s', execFenceIo i s = .next s' ∧ Good s.pending s.tablesOk s' :=
  ⟨_, rfl, by exact (sparStep_kept _ _ (fun _ ht => ht) _ (kept_self s)).good⟩
theorem execIllegalInstruction_good (i : SparAt) (w : W32) (s : State) :
    ∃ s', execIllegalInstruction i w s = .next s' ∧ Good s.pending s.tablesOk s' :=
  ⟨_, rfl, by exact (sparStep_kept _ _ (fun t ht => by grind [sparExc_kept]) _ (kept_self s)).good⟩
theorem execDmaComplete_good (e : Fin 38) (cyc : Nat) (s : State) :
    ∃ s', execDmaComplete e cyc s = .next s' ∧ Good s.pending s.tablesOk s' :=
  ⟨_, rfl, by have hk := kept_self s; have h1 : Kept s.keep (s.atCyc cyc) := atCyc_kept cyc s hk; exact (show Kept s.keep (dmaComplete
    e.val (s.atCyc cyc)) from by grind [dmaComplete_kept, atCyc_kept]).good⟩

/-! ## Pwm -/

theorem execPwmCommit_good (who : Option (Fin 38)) (n : Fin 24) (cyc : Nat) (s : State) :
    ∃ s', execPwmCommit who n cyc s = .next s' ∧ Good s.pending s.tablesOk s' :=
  ⟨_, rfl, by have h0 : Good s.pending s.tablesOk s := (kept_self s).good; have h1 : Good s.pending s.tablesOk (s.atCyc cyc) :=
    (atCyc_kept cyc s (kept_self s)).good; grind [regAs_good, whenB_good]⟩
theorem execPwmCommitEffect_good (n : Fin 24) (cyc : Nat) (s : State) :
    ∃ s', execPwmCommitEffect n cyc s = .next s' ∧ Good s.pending s.tablesOk s' :=
  ⟨_, rfl, by have hk := kept_self s; have h1 : Kept s.keep (s.atCyc cyc) := atCyc_kept cyc s hk; exact (show Kept s.keep (whenB
    ((s.atCyc cyc).slotPresent n.val) (pwmCommitEffect n.val) (s.atCyc cyc)) from by grind [whenB_kept, atCyc_kept,
    pwmCommitEffect_kept]).good⟩
theorem execPwmPeriodBoundary_good (n : Fin 24) (cyc : Nat) (s : State) :
    ∃ s', execPwmPeriodBoundary n cyc s = .next s' ∧ Good s.pending s.tablesOk s' :=
  ⟨_, rfl, by have hk := kept_self s; have h1 : Kept s.keep (s.atCyc cyc) := atCyc_kept cyc s hk; exact (show Kept s.keep (whenB
    ((s.atCyc cyc).slotPresent n.val) (pwmBoundary n.val) (s.atCyc cyc)) from by grind [whenB_kept, atCyc_kept, pwmBoundary_kept]).good⟩
theorem execPwmRunSet_good (who : Option (Fin 38)) (n : Fin 24) (cyc : Nat) (s : State) :
    ∃ s', execPwmRunSet who n cyc s = .next s' ∧ Good s.pending s.tablesOk s' :=
  ⟨_, rfl, by have h0 : Good s.pending s.tablesOk s := (kept_self s).good; have h1 : Good s.pending s.tablesOk (s.atCyc cyc) :=
    (atCyc_kept cyc s (kept_self s)).good; grind [regAs_good, whenB_good]⟩
theorem execPwmRunClear_good (who : Option (Fin 38)) (n : Fin 24) (cyc : Nat) (s : State) :
    ∃ s', execPwmRunClear who n cyc s = .next s' ∧ Good s.pending s.tablesOk s' :=
  ⟨_, rfl, by have h0 : Good s.pending s.tablesOk s := (kept_self s).good; have h1 : Good s.pending s.tablesOk (s.atCyc cyc) :=
    (atCyc_kept cyc s (kept_self s)).good; grind [regAs_good, whenB_good]⟩
theorem execPwmFault_good (f : Fin 8) (cyc : Nat) (s : State) : ∃ s', execPwmFault f cyc s = .next s' ∧ Good s.pending s.tablesOk s' :=
  ⟨_, rfl, by have hk := kept_self s; have h1 : Kept s.keep (s.atCyc cyc) := atCyc_kept cyc s hk; exact (show Kept s.keep (pwmFault
    f.val (s.atCyc cyc)) from by grind [pwmFault_kept, atCyc_kept]).good⟩
theorem execFltLatchClear_good (n : Fin 24) (s : State) : ∃ s', execFltLatchClear n s = .next s' ∧ Good s.pending s.tablesOk s' :=
  ⟨_, rfl, by have h0 : Good s.pending s.tablesOk s := (kept_self s).good; exact barWrite_good _ _ _ h0⟩
theorem execPwmEdge_good (n : Fin 24) (p : Fin 4) (rising : Bool) (cyc : Nat) (s : State) :
    ∃ s', execPwmEdge n p rising cyc s = .next s' ∧ Good s.pending s.tablesOk s' :=
  ⟨_, rfl, by have hk := kept_self s; have h1 : Kept s.keep (s.atCyc cyc) := atCyc_kept cyc s hk; exact (show Kept s.keep (whenB
    ((s.atCyc cyc).slotPresent n.val) (pwmEdge n.val p.val rising) (s.atCyc cyc)) from by grind [whenB_kept, atCyc_kept,
    pwmEdge_kept]).good⟩
theorem execPwmMidPeriod_good (n : Fin 24) (cyc : Nat) (s : State) :
    ∃ s', execPwmMidPeriod n cyc s = .next s' ∧ Good s.pending s.tablesOk s' :=
  ⟨_, rfl, by have hk := kept_self s; have h1 : Kept s.keep (s.atCyc cyc) := atCyc_kept cyc s hk; exact (show Kept s.keep (whenB
    ((s.atCyc cyc).slotPresent n.val) (pwmMid n.val) (s.atCyc cyc)) from by grind [whenB_kept, atCyc_kept, pwmMid_kept]).good⟩
theorem execFaultInputHigh_good (f : Fin 8) (cyc : Nat) (s : State) :
    ∃ s', execFaultInputHigh f cyc s = .next s' ∧ Good s.pending s.tablesOk s' :=
  ⟨_, rfl, by have hk := kept_self s; have h1 : Kept s.keep (s.atCyc cyc) := atCyc_kept cyc s hk; exact (show Kept s.keep
    (faultInputHigh f.val (s.atCyc cyc)) from by grind [faultInputHigh_kept, atCyc_kept]).good⟩

/-! ## Adc -/

theorem execInputBind_good (d : Desc) (s : State) : ∃ s', execInputBind d s = .next s' ∧ Good s.pending s.tablesOk s' :=
  ⟨_, rfl, by exact (runDesc_kept _ _ _ (fun d t ht => opInputBind_kept d t ht) _ (kept_self s)).good⟩
theorem execAdcSoftwareTrigger_good (who : Option (Fin 38)) (c : Fin 32) (cyc : Nat) (s : State) :
    ∃ s', execAdcSoftwareTrigger who c cyc s = .next s' ∧ Good s.pending s.tablesOk s' :=
  ⟨_, rfl, by have h0 : Good s.pending s.tablesOk s := (kept_self s).good; have h1 : Good s.pending s.tablesOk (s.atCyc cyc) :=
    (atCyc_kept cyc s (kept_self s)).good; grind [regAs_good, whenB_good]⟩
theorem execAdcTimerTrigger_good (c : Fin 32) (cyc : Nat) (s : State) :
    ∃ s', execAdcTimerTrigger c cyc s = .next s' ∧ Good s.pending s.tablesOk s' :=
  ⟨_, rfl, by have hk := kept_self s; have h1 : Kept s.keep (s.atCyc cyc) := atCyc_kept cyc s hk; exact (show Kept s.keep
    (adcTimerTrigger c.val (s.atCyc cyc)) from by grind [adcTimerTrigger_kept, atCyc_kept]).good⟩
theorem execAdcEventTrigger_good (c : Fin 32) (cyc : Nat) (s : State) :
    ∃ s', execAdcEventTrigger c cyc s = .next s' ∧ Good s.pending s.tablesOk s' :=
  ⟨_, rfl, by have hk := kept_self s; have h1 : Kept s.keep (s.atCyc cyc) := atCyc_kept cyc s hk; exact (show Kept s.keep
    (adcEventTrigger c.val (s.atCyc cyc)) from by grind [adcEventTrigger_kept, atCyc_kept]).good⟩
theorem execAdcResult_good (c : Fin 32) (code : Int) (cyc : Nat) (s : State) :
    ∃ s', execAdcResult c code cyc s = .next s' ∧ Good s.pending s.tablesOk s' :=
  ⟨_, rfl, by have hk := kept_self s; have h1 : Kept s.keep (s.atCyc cyc) := atCyc_kept cyc s hk; exact (show Kept s.keep (adcResult
    c.val code (s.atCyc cyc)) from by grind [adcResult_kept, atCyc_kept]).good⟩
theorem execAdcCfgApply_good (c : Fin 32) (cyc : Nat) (s : State) :
    ∃ s', execAdcCfgApply c cyc s = .next s' ∧ Good s.pending s.tablesOk s' :=
  ⟨_, rfl, by have hk := kept_self s; have h1 : Kept s.keep (s.atCyc cyc) := atCyc_kept cyc s hk; exact (show Kept s.keep (convApply
    c.val (s.atCyc cyc)) from by grind [convApply_kept, atCyc_kept]).good⟩
theorem execDiagInjection_good (j : Fin 16) (cyc : Nat) (s : State) :
    ∃ s', execDiagInjection j cyc s = .next s' ∧ Good s.pending s.tablesOk s' :=
  ⟨_, rfl, by have hk := kept_self s; have h1 : Kept s.keep (s.atCyc cyc) := atCyc_kept cyc s hk; exact (show Kept s.keep (whenB
    (s.convPresent (2 * j.val)) (diagInject j.val) (s.atCyc cyc)) from by grind [whenB_kept, diagInject_kept, atCyc_kept]).good⟩
theorem execSdiWord_good (i : Fin 48) (value : Int) (run : Nat) (cyc : Nat) (s : State) :
    ∃ s', execSdiWord i value run cyc s = .next s' ∧ Good s.pending s.tablesOk s' :=
  ⟨_, rfl, by have hk := kept_self s; have h1 : Kept s.keep (s.atCyc cyc) := atCyc_kept cyc s hk; exact (show Kept s.keep (sdiWord i.val
    value run (s.atCyc cyc)) from by grind [sdiWord_kept, atCyc_kept]).good⟩
theorem execSdiStuck_good (i : Fin 48) (cyc : Nat) (s : State) : ∃ s', execSdiStuck i cyc s = .next s' ∧ Good s.pending s.tablesOk s' :=
  ⟨_, rfl, by have hk := kept_self s; have h1 : Kept s.keep (s.atCyc cyc) := atCyc_kept cyc s hk; exact (show Kept s.keep (sdiStuck
    i.val (s.atCyc cyc)) from by grind [sdiStuck_kept, atCyc_kept]).good⟩
theorem execSegmentPublish_good (sdi : Bool) (k : Fin 96) (cyc : Nat) (s : State) :
    ∃ s', execSegmentPublish sdi k cyc s = .next s' ∧ Good s.pending s.tablesOk s' :=
  ⟨_, rfl, by have hk := kept_self s; have h1 : Kept s.keep (s.atCyc cyc) := atCyc_kept cyc s hk; exact (show Kept s.keep (whenB
    (s.inPresent sdi k.val) (segPublish sdi k.val) (s.atCyc cyc)) from by grind [whenB_kept, segPublish_kept, atCyc_kept]).good⟩
theorem execDiagFaultClear_good (who : Option (Fin 38)) (c : Fin 32) (cyc : Nat) (s : State) :
    ∃ s', execDiagFaultClear who c cyc s = .next s' ∧ Good s.pending s.tablesOk s' :=
  ⟨_, rfl, by have h0 : Good s.pending s.tablesOk s := (kept_self s).good; have h1 : Good s.pending s.tablesOk (s.atCyc cyc) :=
    (atCyc_kept cyc s (kept_self s)).good; grind [regAs_good, whenB_good]⟩
theorem execStuckClear_good (who : Option (Fin 38)) (i : Fin 48) (cyc : Nat) (s : State) :
    ∃ s', execStuckClear who i cyc s = .next s' ∧ Good s.pending s.tablesOk s' :=
  ⟨_, rfl, by have h0 : Good s.pending s.tablesOk s := (kept_self s).good; have h1 : Good s.pending s.tablesOk (s.atCyc cyc) :=
    (atCyc_kept cyc s (kept_self s)).good; grind [regAs_good, whenB_good]⟩
theorem execRecoveryWindowEnd_good (sdi : Bool) (k : Fin 96) (cyc : Nat) (s : State) :
    ∃ s', execRecoveryWindowEnd sdi k cyc s = .next s' ∧ Good s.pending s.tablesOk s' :=
  ⟨_, rfl, by have hk := kept_self s; have h1 : Kept s.keep (s.atCyc cyc) := atCyc_kept cyc s hk; exact (show Kept s.keep (whenB
    (s.inPresent sdi k.val) (recoveryEnd sdi k.val) (s.atCyc cyc)) from by grind [whenB_kept, recoveryEnd_kept, atCyc_kept]).good⟩

/-! ## Fbk -/

theorem execFeedbackBind_good (d : Desc) (s : State) : ∃ s', execFeedbackBind d s = .next s' ∧ Good s.pending s.tablesOk s' :=
  ⟨_, rfl, by exact (runDesc_kept _ _ _ (fun d t ht => opFeedbackBind_kept d t ht) _ (kept_self s)).good⟩
theorem execFbEnable_good (who : Option (Fin 38)) (n : Fin 32) (cyc : Nat) (s : State) :
    ∃ s', execFbEnable who n cyc s = .next s' ∧ Good s.pending s.tablesOk s' :=
  ⟨_, rfl, by have h0 : Good s.pending s.tablesOk s := (kept_self s).good; have h1 : Good s.pending s.tablesOk (s.atCyc cyc) :=
    (atCyc_kept cyc s (kept_self s)).good; grind [regAs_good, whenB_good]⟩
theorem execFbDisable_good (who : Option (Fin 38)) (n : Fin 32) (cyc : Nat) (s : State) :
    ∃ s', execFbDisable who n cyc s = .next s' ∧ Good s.pending s.tablesOk s' :=
  ⟨_, rfl, by have h0 : Good s.pending s.tablesOk s := (kept_self s).good; have h1 : Good s.pending s.tablesOk (s.atCyc cyc) :=
    (atCyc_kept cyc s (kept_self s)).good; grind [regAs_good, whenB_good]⟩
theorem execFbCount_good (n : Fin 32) (lines : Fin 8) (cyc : Nat) (s : State) :
    ∃ s', execFbCount n lines cyc s = .next s' ∧ Good s.pending s.tablesOk s' :=
  ⟨_, rfl, by have hk := kept_self s; have h1 : Kept s.keep (s.atCyc cyc) := atCyc_kept cyc s hk; exact (show Kept s.keep (fbLines n.val
    lines.val (s.atCyc cyc)) from by grind [fbLines_kept, atCyc_kept]).good⟩
theorem execFbIndex_good (n : Fin 32) (cyc : Nat) (s : State) : ∃ s', execFbIndex n cyc s = .next s' ∧ Good s.pending s.tablesOk s' :=
  ⟨_, rfl, by have hk := kept_self s; have h1 : Kept s.keep (s.atCyc cyc) := atCyc_kept cyc s hk; exact (show Kept s.keep (fbIndex n.val
    (s.atCyc cyc)) from by grind [fbIndex_kept, atCyc_kept]).good⟩
theorem execFbStill_good (n : Fin 32) (cyc : Nat) (s : State) : ∃ s', execFbStill n cyc s = .next s' ∧ Good s.pending s.tablesOk s' :=
  ⟨_, rfl, by have hk := kept_self s; have h1 : Kept s.keep (s.atCyc cyc) := atCyc_kept cyc s hk; exact (show Kept s.keep (fbStill n.val
    (s.atCyc cyc)) from by grind [fbStill_kept, atCyc_kept]).good⟩
theorem execFbGate_good (n : Fin 32) (cyc : Nat) (s : State) : ∃ s', execFbGate n cyc s = .next s' ∧ Good s.pending s.tablesOk s' :=
  ⟨_, rfl, by have hk := kept_self s; have h1 : Kept s.keep (s.atCyc cyc) := atCyc_kept cyc s hk; exact (show Kept s.keep (fbGate n.val
    (s.atCyc cyc)) from by grind [fbGate_kept, atCyc_kept]).good⟩
theorem execSerialReadStart_good (n : Fin 32) (cyc : Nat) (s : State) :
    ∃ s', execSerialReadStart n cyc s = .next s' ∧ Good s.pending s.tablesOk s' :=
  ⟨_, rfl, by have hk := kept_self s; have h1 : Kept s.keep (s.atCyc cyc) := atCyc_kept cyc s hk; exact (show Kept s.keep (serialStart
    n.val (s.atCyc cyc)) from by grind [serialStart_kept, atCyc_kept]).good⟩
theorem execSerialReadDone_good (n : Fin 32) (started : Bool) (raw : W64) (nE : Bool) (nW : Bool) (crc : Fin 64) (cyc : Nat) (s : State) :
    ∃ s', execSerialReadDone n started raw nE nW crc cyc s = .next s' ∧ Good s.pending s.tablesOk s' :=
  ⟨_, rfl, by have hk := kept_self s; have h1 : Kept s.keep (s.atCyc cyc) := atCyc_kept cyc s hk; exact (show Kept s.keep (serialDone
    n.val started raw.toNat nE nW crc.val (s.atCyc cyc)) from by grind [serialDone_kept, atCyc_kept]).good⟩
theorem execResolverTrigger_good (n : Fin 32) (cyc : Nat) (s : State) :
    ∃ s', execResolverTrigger n cyc s = .next s' ∧ Good s.pending s.tablesOk s' :=
  ⟨_, rfl, by have hk := kept_self s; have h1 : Kept s.keep (s.atCyc cyc) := atCyc_kept cyc s hk; exact (show Kept s.keep
    (resolverTrigger n.val (s.atCyc cyc)) from by grind [resolverTrigger_kept, atCyc_kept]).good⟩
theorem execFbFaultClear_good (who : Option (Fin 38)) (n : Fin 32) (cyc : Nat) (s : State) :
    ∃ s', execFbFaultClear who n cyc s = .next s' ∧ Good s.pending s.tablesOk s' :=
  ⟨_, rfl, by have h0 : Good s.pending s.tablesOk s := (kept_self s).good; have h1 : Good s.pending s.tablesOk (s.atCyc cyc) :=
    (atCyc_kept cyc s (kept_self s)).good; grind [regAs_good, whenB_good]⟩
theorem execLatchEdge_good (i : Fin 16) (rise : Bool) (taps : Fin 128) (cyc : Nat) (s : State) :
    ∃ s', execLatchEdge i rise taps cyc s = .next s' ∧ Good s.pending s.tablesOk s' :=
  ⟨_, rfl, by have hk := kept_self s; have h1 : Kept s.keep (s.atCyc cyc) := atCyc_kept cyc s hk; exact (show Kept s.keep (latchEdge
    i.val rise taps.val (s.atCyc cyc)) from by grind [latchEdge_kept, atCyc_kept]).good⟩
theorem execLatchRecord_good (i : Fin 16) (s : State) : ∃ s', execLatchRecord i s = .next s' ∧ Good s.pending s.tablesOk s' :=
  ⟨_, rfl, by have hk := kept_self s; exact (show Kept s.keep (latchRecord i.val s) from by grind [latchRecord_kept]).good⟩
theorem execLatchRecordTimeout_good (i : Fin 16) (cyc : Nat) (s : State) :
    ∃ s', execLatchRecordTimeout i cyc s = .next s' ∧ Good s.pending s.tablesOk s' :=
  ⟨_, rfl, by have hk := kept_self s; have h1 : Kept s.keep (s.atCyc cyc) := atCyc_kept cyc s hk; exact (show Kept s.keep (latchTimeout
    i.val (s.atCyc cyc)) from by grind [latchTimeout_kept, atCyc_kept]).good⟩
theorem execLatchArm_good (who : Option (Fin 38)) (i : Fin 16) (cyc : Nat) (s : State) :
    ∃ s', execLatchArm who i cyc s = .next s' ∧ Good s.pending s.tablesOk s' :=
  ⟨_, rfl, by have h0 : Good s.pending s.tablesOk s := (kept_self s).good; have h1 : Good s.pending s.tablesOk (s.atCyc cyc) :=
    (atCyc_kept cyc s (kept_self s)).good; grind [regAs_good, whenB_good]⟩
theorem execLatchPop_good (who : Option (Fin 38)) (i : Fin 16) (cyc : Nat) (s : State) :
    ∃ s', execLatchPop who i cyc s = .next s' ∧ Good s.pending s.tablesOk s' :=
  ⟨_, rfl, by have h0 : Good s.pending s.tablesOk s := (kept_self s).good; have h1 : Good s.pending s.tablesOk (s.atCyc cyc) :=
    (atCyc_kept cyc s (kept_self s)).good; grind [regAs_good, whenB_good]⟩
theorem execLatchFlush_good (who : Option (Fin 38)) (i : Fin 16) (cyc : Nat) (s : State) :
    ∃ s', execLatchFlush who i cyc s = .next s' ∧ Good s.pending s.tablesOk s' :=
  ⟨_, rfl, by have h0 : Good s.pending s.tablesOk s := (kept_self s).good; have h1 : Good s.pending s.tablesOk (s.atCyc cyc) :=
    (atCyc_kept cyc s (kept_self s)).good; grind [regAs_good, whenB_good]⟩
theorem execTdcRecalibration_good (i : Fin 16) (ok : Bool) (s : State) :
    ∃ s', execTdcRecalibration i ok s = .next s' ∧ Good s.pending s.tablesOk s' :=
  ⟨_, rfl, by have hk := kept_self s; exact (show Kept s.keep (tdcCheck i.val ok s) from by grind [tdcCheck_kept]).good⟩

/-! ## Cap -/

theorem execCaptureArm_good (d : Desc) (s : State) : ∃ s', execCaptureArm d s = .next s' ∧ Good s.pending s.tablesOk s' :=
  ⟨_, rfl, by exact (runDesc_kept _ _ _ (fun d t ht => opCapture_kept d t ht) _ (kept_self s)).good⟩
theorem execCaptureStop_good (d : Desc) (s : State) : ∃ s', execCaptureStop d s = .next s' ∧ Good s.pending s.tablesOk s' :=
  ⟨_, rfl, by exact (runDesc_kept _ _ _ (fun d t ht => opCapture_kept d t ht) _ (kept_self s)).good⟩
theorem execCaptureForce_good (d : Desc) (s : State) : ∃ s', execCaptureForce d s = .next s' ∧ Good s.pending s.tablesOk s' :=
  ⟨_, rfl, by exact (runDesc_kept _ _ _ (fun d t ht => opCapture_kept d t ht) _ (kept_self s)).good⟩
theorem execCaptureDisarm_good (d : Desc) (s : State) : ∃ s', execCaptureDisarm d s = .next s' ∧ Good s.pending s.tablesOk s' :=
  ⟨_, rfl, by exact (runDesc_kept _ _ _ (fun d t ht => opCapture_kept d t ht) _ (kept_self s)).good⟩
theorem execCaptureCtrlNoAction_good (d : Desc) (s : State) : ∃ s', execCaptureCtrlNoAction d s = .next s' ∧ Good s.pending s.tablesOk s' :=
  ⟨_, rfl, by exact (runDesc_kept _ _ _ (fun d t ht => opCapture_kept d t ht) _ (kept_self s)).good⟩
theorem execCaptureBlocksReserved_good (u : Fin 4) (s : State) :
    ∃ s', execCaptureBlocksReserved u s = .next s' ∧ Good s.pending s.tablesOk s' :=
  ⟨_, rfl, by have hk := kept_self s; exact (show Kept s.keep (capReserve u.val s) from by grind [capReserve_kept]).good⟩
theorem execCaptureSample_good (u : Fin 4) (full : Bool) (cyc : Nat) (s : State) :
    ∃ s', execCaptureSample u full cyc s = .next s' ∧ Good s.pending s.tablesOk s' :=
  ⟨_, rfl, by have hk := kept_self s; have h1 : Kept s.keep (s.atCyc cyc) := atCyc_kept cyc s hk; exact (show Kept s.keep (capSample
    u.val full (s.atCyc cyc)) from by grind [capSample_kept, atCyc_kept]).good⟩
theorem execSequencerTimeout_good (u : Fin 4) (full : Bool) (cyc : Nat) (s : State) :
    ∃ s', execSequencerTimeout u full cyc s = .next s' ∧ Good s.pending s.tablesOk s' :=
  ⟨_, rfl, by have hk := kept_self s; have h1 : Kept s.keep (s.atCyc cyc) := atCyc_kept cyc s hk; exact (show Kept s.keep (whenB
    (capExpires (s.atCyc cyc) u.val) (capSample u.val full) (s.atCyc cyc)) from by grind [whenB_kept, atCyc_kept, capSample_kept]).good⟩
theorem execCaptureRestart_good (u : Fin 4) (full : Bool) (cyc : Nat) (s : State) :
    ∃ s', execCaptureRestart u full cyc s = .next s' ∧ Good s.pending s.tablesOk s' :=
  ⟨_, rfl, by have hk := kept_self s; have h1 : Kept s.keep (s.atCyc cyc) := atCyc_kept cyc s hk; exact (show Kept s.keep (whenB
    (capRestarts (s.atCyc cyc) u.val) (capSample u.val full) (s.atCyc cyc)) from by grind [whenB_kept, atCyc_kept,
    capSample_kept]).good⟩
theorem execCaptureRingWrite_good (m : Fin 4) (s : State) : ∃ s', execCaptureRingWrite m s = .next s' ∧ Good s.pending s.tablesOk s' :=
  ⟨_, rfl, by have hk := kept_self s; exact (show Kept s.keep (whenB (s.engWorks eCE && !Table.look false s.clk.late eCE) (capRingWrite
    m.val) s) from by grind [whenB_kept, capRingWrite_kept]).good⟩

/-! ## Net -/

theorem execLinkChange_good (p : Fin 2) (up : Bool) (speed : Fin 3) (s : State) :
    ∃ s', execLinkChange p up speed s = .next s' ∧ Good s.pending s.tablesOk s' :=
  ⟨_, rfl, by have hk := kept_self s; exact (show Kept s.keep (linkChange p.val up speed.val s) from by grind [linkChange_kept]).good⟩
theorem execRxFrame_good (p : Fin 2) (err : Bool) (s : State) : ∃ s', execRxFrame p err s = .next s' ∧ Good s.pending s.tablesOk s' :=
  ⟨_, rfl, by have hk := kept_self s; exact (show Kept s.keep (rxFrame p.val err s) from by grind [rxFrame_kept]).good⟩
theorem execSync_good (p : Fin 2) (m : PtpMsg) (egress : W64) (s : State) :
    ∃ s', execSync p m egress s = .next s' ∧ Good s.pending s.tablesOk s' :=
  ⟨_, rfl, by have hk := kept_self s; exact (show Kept s.keep (byNe (ptpSync p.val m egress) s) from by grind [byNe_kept,
    ptpSync_kept]).good⟩
theorem execFollowUp_good (p : Fin 2) (m : PtpMsg) (residence : W64) (s : State) :
    ∃ s', execFollowUp p m residence s = .next s' ∧ Good s.pending s.tablesOk s' :=
  ⟨_, rfl, by have hk := kept_self s; exact (show Kept s.keep (byNe (ptpFollowUp p.val m residence) s) from by grind [byNe_kept,
    ptpFollowUp_kept]).good⟩
theorem execPtpAnnounce_good (p : Fin 2) (a : PtpAnn) (s : State) : ∃ s', execPtpAnnounce p a s = .next s' ∧ Good s.pending s.tablesOk s' :=
  ⟨_, rfl, by have hk := kept_self s; exact (show Kept s.keep (byNe (ptpAnnounce p.val a) s) from by grind [byNe_kept,
    ptpAnnounce_kept]).good⟩
theorem execDelayReq_good (p : Fin 2) (m : PtpMsg) (egress : W64) (s : State) :
    ∃ s', execDelayReq p m egress s = .next s' ∧ Good s.pending s.tablesOk s' :=
  ⟨_, rfl, by have hk := kept_self s; exact (show Kept s.keep (byNe (delayReq p.val m egress) s) from by grind [byNe_kept,
    delayReq_kept]).good⟩
theorem execDelayResp_good (p : Fin 2) (m : PtpMsg) (s : State) : ∃ s', execDelayResp p m s = .next s' ∧ Good s.pending s.tablesOk s' :=
  ⟨_, rfl, by have hk := kept_self s; exact (show Kept s.keep (byNe (delayResp p.val m) s) from by grind [byNe_kept, delayResp_kept]).good⟩
theorem execPdelayReq_good (p : Fin 2) (m : PtpMsg) (egress : W64) (s : State) :
    ∃ s', execPdelayReq p m egress s = .next s' ∧ Good s.pending s.tablesOk s' :=
  ⟨_, rfl, by have hk := kept_self s; exact (show Kept s.keep (byNe (pdelayReq p.val m egress) s) from by grind [byNe_kept,
    pdelayReq_kept]).good⟩
theorem execPdelayResp_good (p : Fin 2) (m : PtpMsg) (t : PeerTimes) (s : State) :
    ∃ s', execPdelayResp p m t s = .next s' ∧ Good s.pending s.tablesOk s' :=
  ⟨_, rfl, by have hk := kept_self s; exact (show Kept s.keep (byNe (pdelayResp p.val m t.t3 t.egress) s) from by grind [byNe_kept,
    pdelayResp_kept]).good⟩
theorem execPtpTransmit_good (p : Fin 2) (kind : Fin 3) (stamp : W64) (s : State) :
    ∃ s', execPtpTransmit p kind stamp s = .next s' ∧ Good s.pending s.tablesOk s' :=
  ⟨_, rfl, by have hk := kept_self s; exact (show Kept s.keep (byNe (ptpTransmit p.val kind.val stamp) s) from by grind [byNe_kept,
    ptpTransmit_kept]).good⟩
theorem execAnnounceReceiptTimeout_good (p : Fin 2) (s : State) :
    ∃ s', execAnnounceReceiptTimeout p s = .next s' ∧ Good s.pending s.tablesOk s' :=
  ⟨_, rfl, by have hk := kept_self s; exact (show Kept s.keep (byNe (announceTimeout p.val) s) from by grind [byNe_kept,
    announceTimeout_kept]).good⟩
theorem execSyncReceiptTimeout_good (p : Fin 2) (s : State) : ∃ s', execSyncReceiptTimeout p s = .next s' ∧ Good s.pending s.tablesOk s' :=
  ⟨_, rfl, by have hk := kept_self s; exact (show Kept s.keep (byNe (syncTimeout p.val) s) from by grind [byNe_kept,
    syncTimeout_kept]).good⟩
theorem execDelayRespTimeout_good (p : Fin 2) (s : State) : ∃ s', execDelayRespTimeout p s = .next s' ∧ Good s.pending s.tablesOk s' :=
  ⟨_, rfl, by have hk := kept_self s; exact (show Kept s.keep (byNe (delayTimeout p.val) s) from by grind [byNe_kept,
    delayTimeout_kept]).good⟩
theorem execPathHoldExpiry_good (s : State) : ∃ s', execPathHoldExpiry s = .next s' ∧ Good s.pending s.tablesOk s' :=
  ⟨_, rfl, by have hk := kept_self s; exact (show Kept s.keep (byNe (pathHoldExpire) s) from by grind [byNe_kept,
    pathHoldExpire_kept]).good⟩
theorem execStepAuthLapse_good (s : State) : ∃ s', execStepAuthLapse s = .next s' ∧ Good s.pending s.tablesOk s' :=
  ⟨_, rfl, by have hk := kept_self s; exact (show Kept s.keep (byNe (authLapse) s) from by grind [byNe_kept, authLapse_kept]).good⟩
theorem execPtpStepAuthorise_good (d : Desc) (s : State) : ∃ s', execPtpStepAuthorise d s = .next s' ∧ Good s.pending s.tablesOk s' :=
  ⟨_, rfl, by exact (runDesc_kept _ _ _ (fun d t ht => opPtpStep_kept d t ht) _ (kept_self s)).good⟩
theorem execPtpStep_good (d : Desc) (s : State) : ∃ s', execPtpStep d s = .next s' ∧ Good s.pending s.tablesOk s' :=
  ⟨_, rfl, by exact (runDesc_kept _ _ _ (fun d t ht => opPtpStep_kept d t ht) _ (kept_self s)).good⟩
theorem execTimeCompare_good (d : Desc) (s : State) : ∃ s', execTimeCompare d s = .next s' ∧ Good s.pending s.tablesOk s' :=
  ⟨_, rfl, by exact (runDesc_kept _ _ _ (fun d t ht => opCompareAny_kept d t ht) _ (kept_self s)).good⟩
theorem execTimeCompareCancel_good (d : Desc) (s : State) : ∃ s', execTimeCompareCancel d s = .next s' ∧ Good s.pending s.tablesOk s' :=
  ⟨_, rfl, by exact (runDesc_kept _ _ _ (fun d t ht => opCompareAny_kept d t ht) _ (kept_self s)).good⟩
theorem execTimeCompareFire_good (c : Fin 8) (cyc : Nat) (s : State) :
    ∃ s', execTimeCompareFire c cyc s = .next s' ∧ Good s.pending s.tablesOk s' :=
  ⟨_, rfl, by have hk := kept_self s; have h1 : Kept s.keep (s.atCyc cyc) := atCyc_kept cyc s hk; exact (show Kept s.keep (compareFire
    c.val (s.atCyc cyc)) from by grind [compareFire_kept, atCyc_kept]).good⟩
theorem execNetSend_good (d : Desc) (s : State) : ∃ s', execNetSend d s = .next s' ∧ Good s.pending s.tablesOk s' :=
  ⟨_, rfl, by exact (runDesc_kept _ _ _ (fun d t ht => opNetSend_kept d t ht) _ (kept_self s)).good⟩
theorem execTimedLaunch_good (k : Fin 8) (cyc : Nat) (s : State) :
    ∃ s', execTimedLaunch k cyc s = .next s' ∧ Good s.pending s.tablesOk s' :=
  ⟨_, rfl, by have hk := kept_self s; have h1 : Kept s.keep (s.atCyc cyc) := atCyc_kept cyc s hk; exact (show Kept s.keep (timedLaunch
    k.val (s.atCyc cyc)) from by grind [timedLaunch_kept, atCyc_kept]).good⟩
theorem execTxTimestamp_good (p : Fin 2) (stamp : W64) (s : State) :
    ∃ s', execTxTimestamp p stamp s = .next s' ∧ Good s.pending s.tablesOk s' :=
  ⟨_, rfl, by have hk := kept_self s; exact (show Kept s.keep (txStamp p.val stamp s) from by grind [txStamp_kept]).good⟩
theorem execTxtsIdRead_good (p : Fin 2) (s : State) : ∃ s', execTxtsIdRead p s = .next s' ∧ Good s.pending s.tablesOk s' :=
  ⟨_, rfl, by have hk := kept_self s; exact (show Kept s.keep (hostRead (A.ptpPortTxtsId p.val) s) from by grind [hostRead_kept]).good⟩
theorem execTxtsPop_good (p : Fin 2) (s : State) : ∃ s', execTxtsPop p s = .next s' ∧ Good s.pending s.tablesOk s' :=
  ⟨_, rfl, by have h0 : Good s.pending s.tablesOk s := (kept_self s).good; exact barWrite_good _ _ _ h0⟩
theorem execNetReport_good (d : Desc) (s : State) : ∃ s', execNetReport d s = .next s' ∧ Good s.pending s.tablesOk s' :=
  ⟨_, rfl, by exact (runDesc_kept _ _ _ (fun d t ht => opNetReport_kept d t ht) _ (kept_self s)).good⟩
theorem execNodeCfg_good (d : Desc) (s : State) : ∃ s', execNodeCfg d s = .next s' ∧ Good s.pending s.tablesOk s' :=
  ⟨_, rfl, by exact (runDesc_kept _ _ _ (fun d t ht => opNodeCfg_kept d t ht) _ (kept_self s)).good⟩
theorem execNodeIo_good (d : Desc) (s : State) : ∃ s', execNodeIo d s = .next s' ∧ Good s.pending s.tablesOk s' :=
  ⟨_, rfl, by exact (runDesc_kept _ _ _ (fun d t ht => opNodeIo_kept d t ht) _ (kept_self s)).good⟩
theorem execDiscover_good (s : State) : ∃ s', execDiscover s = .next s' ∧ Good s.pending s.tablesOk s' :=
  ⟨_, rfl, by have hk := kept_self s; exact (show Kept s.keep (byNe (halDiscover) s) from by grind [byNe_kept, halDiscover_kept]).good⟩
theorem execAnnounce_good (p : Fin 2) (a : HalAnnounce) (s : State) : ∃ s', execAnnounce p a s = .next s' ∧ Good s.pending s.tablesOk s' :=
  ⟨_, rfl, by have hk := kept_self s; exact (show Kept s.keep (byNe (halAnnounce p.val a) s) from by grind [byNe_kept,
    halAnnounce_kept]).good⟩
theorem execJoinReq_good (n : Fin 128) (s : State) : ∃ s', execJoinReq n s = .next s' ∧ Good s.pending s.tablesOk s' :=
  ⟨_, rfl, by have hk := kept_self s; exact (show Kept s.keep (byNe (joinReq n.val) s) from by grind [byNe_kept, joinReq_kept]).good⟩
theorem execJoinAck_good (p : Fin 2) (mac : BitVec 48) (n : Fin 128) (s : State) :
    ∃ s', execJoinAck p mac n s = .next s' ∧ Good s.pending s.tablesOk s' :=
  ⟨_, rfl, by have hk := kept_self s; exact (show Kept s.keep (byNe (joinAck p.val mac n.val) s) from by grind [byNe_kept,
    joinAck_kept]).good⟩
theorem execJoinTimeout_good (n : Fin 128) (s : State) : ∃ s', execJoinTimeout n s = .next s' ∧ Good s.pending s.tablesOk s' :=
  ⟨_, rfl, by have hk := kept_self s; exact (show Kept s.keep (byNe (joinTimeout n.val) s) from by grind [byNe_kept,
    joinTimeout_kept]).good⟩
theorem execReply_good (p : Fin 2) (r : HalReply) (s : State) : ∃ s', execReply p r s = .next s' ∧ Good s.pending s.tablesOk s' :=
  ⟨_, rfl, by have hk := kept_self s; exact (show Kept s.keep (byNe (halReply p.val r) s) from by grind [byNe_kept, halReply_kept]).good⟩
theorem execLeave_good (p : Fin 2) (mac : BitVec 48) (s : State) : ∃ s', execLeave p mac s = .next s' ∧ Good s.pending s.tablesOk s' :=
  ⟨_, rfl, by have hk := kept_self s; exact (show Kept s.keep (byNe (halLeave p.val mac) s) from by grind [byNe_kept, halLeave_kept]).good⟩
theorem execPartnerWatchdog_good (n : Fin 128) (s : State) : ∃ s', execPartnerWatchdog n s = .next s' ∧ Good s.pending s.tablesOk s' :=
  ⟨_, rfl, by have hk := kept_self s; exact (show Kept s.keep (byNe (partnerWatchdog n.val) s) from by grind [byNe_kept,
    partnerWatchdog_kept]).good⟩

/-! ## Shroud -/

theorem execShroudTick_good (m : ShroudSample) (s : State) : ∃ s', execShroudTick m s = .next s' ∧ Good s.pending s.tablesOk s' :=
  ⟨_, rfl, by have hk := kept_self s; exact (show Kept s.keep (jtagWatch s (shroudTick m s)) from by grind [jtagWatch_kept,
    shroudTick_kept]).good⟩
theorem execShroudStartUp_good (s : State) : ∃ s', execShroudStartUp s = .next s' ∧ Good s.pending s.tablesOk s' :=
  ⟨_, rfl, by have hk := kept_self s; exact (show Kept s.keep (jtagWatch s (shrStartUp s)) from by grind [jtagWatch_kept,
    shrStartUp_kept]).good⟩
theorem execSafetyInputChange_good (p : Fin 8) (b : Bool) (level : Bool) (s : State) :
    ∃ s', execSafetyInputChange p b level s = .next s' ∧ Good s.pending s.tablesOk s' :=
  ⟨_, rfl, by have hk := kept_self s; exact (show Kept s.keep (inputChange p.val b level s) from by grind [inputChange_kept]).good⟩
theorem execDiscrepancyTimeout_good (p : Fin 8) (s : State) : ∃ s', execDiscrepancyTimeout p s = .next s' ∧ Good s.pending s.tablesOk s' :=
  ⟨_, rfl, by have hk := kept_self s; exact (show Kept s.keep (jtagWatch s (discrepancy p.val s)) from by grind [jtagWatch_kept,
    discrepancy_kept]).good⟩
theorem execInputTestPulse_good (srcB : Bool) (dark : BitVec 16) (s : State) :
    ∃ s', execInputTestPulse srcB dark s = .next s' ∧ Good s.pending s.tablesOk s' :=
  ⟨_, rfl, by have hk := kept_self s; exact (show Kept s.keep (inputPulse srcB dark.toNat s) from by grind [inputPulse_kept]).good⟩
theorem execResetWindowExpiry_good (z : Fin 16) (s : State) : ∃ s', execResetWindowExpiry z s = .next s' ∧ Good s.pending s.tablesOk s' :=
  ⟨_, rfl, by have hk := kept_self s; exact (show Kept s.keep (resetExpiry z.val s) from by grind [resetExpiry_kept]).good⟩
theorem execStopComplete_good (k : Fin 32) (s : State) : ∃ s', execStopComplete k s = .next s' ∧ Good s.pending s.tablesOk s' :=
  ⟨_, rfl, by have hk := kept_self s; exact (show Kept s.keep (jtagWatch s (stopComplete k.val s)) from by grind [jtagWatch_kept,
    stopComplete_kept]).good⟩
theorem execSlsReact_good (k : Fin 32) (s : State) : ∃ s', execSlsReact k s = .next s' ∧ Good s.pending s.tablesOk s' :=
  ⟨_, rfl, by have hk := kept_self s; exact (show Kept s.keep (jtagWatch s (slsReact k.val s)) from by grind [jtagWatch_kept,
    slsReact_kept]).good⟩
theorem execBrakeDelay_good (k : Fin 32) (s : State) : ∃ s', execBrakeDelay k s = .next s' ∧ Good s.pending s.tablesOk s' :=
  ⟨_, rfl, by have hk := kept_self s; exact (show Kept s.keep (brakeDelay k.val s) from by grind [brakeDelay_kept]).good⟩
theorem execOutputTestPulse_good (q : Fin 4) (x : DarkPulse) (s : State) :
    ∃ s', execOutputTestPulse q x s = .next s' ∧ Good s.pending s.tablesOk s' :=
  ⟨_, rfl, by have hk := kept_self s; have h1 : Kept s.keep (s.atCyc x.cyc) := atCyc_kept x.cyc s hk; exact (show Kept s.keep (outputPulse
    q.val x.b x.fell (s.atCyc x.cyc)) from by grind [outputPulse_kept, atCyc_kept]).good⟩
theorem execFieldDriverTimeout_good (q : Fin 4) (b : Bool) (s : State) :
    ∃ s', execFieldDriverTimeout q b s = .next s' ∧ Good s.pending s.tablesOk s' :=
  ⟨_, rfl, by have hk := kept_self s; exact (show Kept s.keep (fieldTimeout q.val b s) from by grind [fieldTimeout_kept]).good⟩
theorem execTseMessage_good (c : Fin 127) (s : State) : ∃ s', execTseMessage c s = .next s' ∧ Good s.pending s.tablesOk s' :=
  ⟨_, rfl, by have hk := kept_self s; exact (show Kept s.keep (tseMessage c.val s) from by grind [tseMessage_kept]).good⟩
theorem execTseWatchdog_good (c : Fin 127) (s : State) : ∃ s', execTseWatchdog c s = .next s' ∧ Good s.pending s.tablesOk s' :=
  ⟨_, rfl, by have hk := kept_self s; exact (show Kept s.keep (jtagWatch s (tseWatch c.val s)) from by grind [jtagWatch_kept,
    tseWatch_kept]).good⟩
theorem execTseConnectionStart_good (c : Fin 127) (s : State) :
    ∃ s', execTseConnectionStart c s = .next s' ∧ Good s.pending s.tablesOk s' :=
  ⟨_, rfl, by have hk := kept_self s; exact (show Kept s.keep (tseStart c.val s) from by grind [tseStart_kept]).good⟩
theorem execSafetySessionOpen_good (d : Desc) (s : State) : ∃ s', execSafetySessionOpen d s = .next s' ∧ Good s.pending s.tablesOk s' :=
  ⟨_, rfl, by exact (runDesc_kept _ _ _ (fun d t ht => opSessionAny_kept d t ht) _ (kept_self s)).good⟩
theorem execSafetySessionClose_good (d : Desc) (s : State) : ∃ s', execSafetySessionClose d s = .next s' ∧ Good s.pending s.tablesOk s' :=
  ⟨_, rfl, by exact (runDesc_kept _ _ _ (fun d t ht => opSessionAny_kept d t ht) _ (kept_self s)).good⟩
theorem execSessionTimeout_good (s : State) : ∃ s', execSessionTimeout s = .next s' ∧ Good s.pending s.tablesOk s' :=
  ⟨_, rfl, by have hk := kept_self s; exact (show Kept s.keep (sessionTimeout s) from by grind [sessionTimeout_kept]).good⟩
theorem execLockoutEnd_good (s : State) : ∃ s', execLockoutEnd s = .next s' ∧ Good s.pending s.tablesOk s' :=
  ⟨_, rfl, by have hk := kept_self s; exact (show Kept s.keep (lockoutEnd s) from by grind [lockoutEnd_kept]).good⟩
theorem execSafetyPassword_good (d : Desc) (s : State) : ∃ s', execSafetyPassword d s = .next s' ∧ Good s.pending s.tablesOk s' :=
  ⟨_, rfl, by exact (runDesc_kept _ _ _ (fun d t ht => opPassword_kept d t ht) _ (kept_self s)).good⟩
theorem execSafetyConfig_good (d : Desc) (s : State) : ∃ s', execSafetyConfig d s = .next s' ∧ Good s.pending s.tablesOk s' :=
  ⟨_, rfl, by exact (runDesc_kept _ _ _ (fun d t ht => opSafetyCfg_kept d t ht) _ (kept_self s)).good⟩
theorem execSafetyConfirm_good (d : Desc) (s : State) : ∃ s', execSafetyConfirm d s = .next s' ∧ Good s.pending s.tablesOk s' :=
  ⟨_, rfl, by exact (runDesc_kept _ _ _ (fun d t ht => opSafetyConfirm_kept d t ht) _ (kept_self s)).good⟩
theorem execConfirmTimeout_good (s : State) : ∃ s', execConfirmTimeout s = .next s' ∧ Good s.pending s.tablesOk s' :=
  ⟨_, rfl, by have hk := kept_self s; exact (show Kept s.keep (confirmTimeout s) from by grind [confirmTimeout_kept]).good⟩
theorem execSafetyDemand_good (d : Desc) (s : State) : ∃ s', execSafetyDemand d s = .next s' ∧ Good s.pending s.tablesOk s' :=
  ⟨_, rfl, by exact (runDesc_kept _ _ _ (fun d t ht => opDemandAny_kept d t ht) _ (kept_self s)).good⟩
theorem execDeviceSto_good (d : Desc) (s : State) : ∃ s', execDeviceSto d s = .next s' ∧ Good s.pending s.tablesOk s' :=
  ⟨_, rfl, by exact (runDesc_kept _ _ _ (fun d t ht => opDemandAny_kept d t ht) _ (kept_self s)).good⟩
theorem execSafetyReportStatus_good (d : Desc) (s : State) : ∃ s', execSafetyReportStatus d s = .next s' ∧ Good s.pending s.tablesOk s' :=
  ⟨_, rfl, by exact (runDesc_kept _ _ _ (fun d t ht => opReportAny_kept d t ht) _ (kept_self s)).good⟩
theorem execSafetyReportLog_good (d : Desc) (s : State) : ∃ s', execSafetyReportLog d s = .next s' ∧ Good s.pending s.tablesOk s' :=
  ⟨_, rfl, by exact (runDesc_kept _ _ _ (fun d t ht => opReportAny_kept d t ht) _ (kept_self s)).good⟩
theorem execStoCheck_good (rsv : BitVec 30) (pulse : Bool) (s : State) : ∃ s', execStoCheck rsv pulse s = .next s' ∧ Good s.pending s.tablesOk s' :=
  ⟨_, rfl, by have h0 : Good s.pending s.tablesOk s := (kept_self s).good; exact barWrite_good _ _ _ h0⟩
theorem execPulseNow_good (rest : BitVec 31) (s : State) : ∃ s', execPulseNow rest s = .next s' ∧ Good s.pending s.tablesOk s' :=
  ⟨_, rfl, by have h0 : Good s.pending s.tablesOk s := (kept_self s).good; exact barWrite_good _ _ _ h0⟩

/-! ## Field -/

theorem execFldUvSet_good (mv : BitVec 16) (cyc : Nat) (s : State) :
    ∃ s', execFldUvSet mv cyc s = .next s' ∧ Good s.pending s.tablesOk s' :=
  ⟨_, rfl, by have hk := kept_self s; have h1 : Kept s.keep (s.atCyc cyc) := atCyc_kept cyc s hk; exact (show Kept s.keep (fldUvSet
    mv.toNat (s.atCyc cyc)) from by grind [fldUvSet_kept, atCyc_kept]).good⟩
theorem execFldUvClear_good (mv : BitVec 16) (cyc : Nat) (s : State) :
    ∃ s', execFldUvClear mv cyc s = .next s' ∧ Good s.pending s.tablesOk s' :=
  ⟨_, rfl, by have hk := kept_self s; have h1 : Kept s.keep (s.atCyc cyc) := atCyc_kept cyc s hk; exact (show Kept s.keep (fldUvClear
    mv.toNat (s.atCyc cyc)) from by grind [fldUvClear_kept, atCyc_kept]).good⟩
theorem execFldOff_good (mv : BitVec 16) (cyc : Nat) (s : State) : ∃ s', execFldOff mv cyc s = .next s' ∧ Good s.pending s.tablesOk s' :=
  ⟨_, rfl, by have hk := kept_self s; have h1 : Kept s.keep (s.atCyc cyc) := atCyc_kept cyc s hk; exact (show Kept s.keep (fldOff
    mv.toNat (s.atCyc cyc)) from by grind [fldOff_kept, atCyc_kept]).good⟩
theorem execInValid_good (mv : BitVec 16) (cyc : Nat) (s : State) : ∃ s', execInValid mv cyc s = .next s' ∧ Good s.pending s.tablesOk s' :=
  ⟨_, rfl, by have hk := kept_self s; have h1 : Kept s.keep (s.atCyc cyc) := atCyc_kept cyc s hk; exact (show Kept s.keep (fldInValid
    mv.toNat (s.atCyc cyc)) from by grind [fldInValid_kept, atCyc_kept]).good⟩
theorem execFieldReenable_good (d : Desc) (s : State) : ∃ s', execFieldReenable d s = .next s' ∧ Good s.pending s.tablesOk s' :=
  ⟨_, rfl, by exact (runDesc_kept _ _ _ (fun d t ht => opFieldReenable_kept d t ht) _ (kept_self s)).good⟩
theorem execFieldOut_good (d : Desc) (s : State) : ∃ s', execFieldOut d s = .next s' ∧ Good s.pending s.tablesOk s' :=
  ⟨_, rfl, by exact (runDesc_kept _ _ _ (fun d t ht => opFieldOut_kept d t ht) _ (kept_self s)).good⟩
theorem execFieldOutputUpdate_good (read : BitVec 16) (s : State) :
    ∃ s', execFieldOutputUpdate read s = .next s' ∧ Good s.pending s.tablesOk s' :=
  ⟨_, rfl, by have hk := kept_self s; exact (show Kept s.keep (outputUpdate read s) from by grind [outputUpdate_kept]).good⟩
theorem execFieldInput_good (j : Fin 32) (samples : List Bool) (cyc : Nat) (s : State) :
    ∃ s', execFieldInput j samples cyc s = .next s' ∧ Good s.pending s.tablesOk s' :=
  ⟨_, rfl, by have hk := kept_self s; have h1 : Kept s.keep (s.atCyc cyc) := atCyc_kept cyc s hk; exact (show Kept s.keep (inputSamples
    j.val samples (s.atCyc cyc)) from by grind [inputSamples_kept, atCyc_kept]).good⟩
theorem execInFiltWrite_good (m : Fin 8) (v : W32) (s : State) : ∃ s', execInFiltWrite m v s = .next s' ∧ Good s.pending s.tablesOk s' :=
  ⟨_, rfl, by have h0 : Good s.pending s.tablesOk s := (kept_self s).good; exact barWrite_good _ _ _ h0⟩
theorem execOverload_good (q : Fin 16) (s : State) : ∃ s', execOverload q s = .next s' ∧ Good s.pending s.tablesOk s' :=
  ⟨_, rfl, by have hk := kept_self s; exact (show Kept s.keep (overload q.val s) from by grind [overload_kept]).good⟩
theorem execThermalOffPhase_good (q : Fin 16) (s : State) : ∃ s', execThermalOffPhase q s = .next s' ∧ Good s.pending s.tablesOk s' :=
  ⟨_, rfl, by have hk := kept_self s; exact (show Kept s.keep (thermalOff q.val s) from by grind [thermalOff_kept]).good⟩
theorem execThermalOffEnd_good (q : Fin 16) (s : State) : ∃ s', execThermalOffEnd q s = .next s' ∧ Good s.pending s.tablesOk s' :=
  ⟨_, rfl, by have hk := kept_self s; exact (show Kept s.keep (thermalOffEnd q.val s) from by grind [thermalOffEnd_kept]).good⟩
theorem execExtHigh_good (q : Fin 16) (s : State) : ∃ s', execExtHigh q s = .next s' ∧ Good s.pending s.tablesOk s' :=
  ⟨_, rfl, by have hk := kept_self s; exact (show Kept s.keep (extHigh q.val s) from by grind [extHigh_kept]).good⟩
theorem execHoldSeen_good (s : State) : ∃ s', execHoldSeen s = .next s' ∧ Good s.pending s.tablesOk s' :=
  ⟨_, rfl, by have hk := kept_self s; exact (show Kept s.keep (holdSeen s) from by grind [holdSeen_kept]).good⟩
theorem execFieldCpl_good (out : Bool) (ch : Fin 32) (cyc : Nat) (s : State) :
    ∃ s', execFieldCpl out ch cyc s = .next s' ∧ Good s.pending s.tablesOk s' :=
  ⟨_, rfl, by have hk := kept_self s; have h1 : Kept s.keep (s.atCyc cyc) := atCyc_kept cyc s hk; exact (show Kept s.keep (cplFault out
    ch.val (s.atCyc cyc)) from by grind [cplFault_kept, atCyc_kept]).good⟩
theorem execCouplerRestored_good (out : Bool) (ch : Fin 32) (s : State) :
    ∃ s', execCouplerRestored out ch s = .next s' ∧ Good s.pending s.tablesOk s' :=
  ⟨_, rfl, by have hk := kept_self s; exact (show Kept s.keep (cplRestored out ch.val s) from by grind [cplRestored_kept]).good⟩

/-! ## Power -/

theorem execVmainLost_good (vmain : BitVec 16) (vback : BitVec 16) (cyc : Nat) (s : State) :
    ∃ s', execVmainLost vmain vback cyc s = .next s' ∧ Good s.pending s.tablesOk s' :=
  ⟨_, rfl, by have hk := kept_self s; have h1 : Kept s.keep (s.atCyc cyc) := atCyc_kept cyc s hk; exact (show Kept s.keep (vmainLost
    vmain.toNat vback.toNat (s.atCyc cyc)) from by grind [vmainLost_kept, atCyc_kept]).good⟩
theorem execReturnQualification_good (vmain : BitVec 16) (cyc : Nat) (s : State) :
    ∃ s', execReturnQualification vmain cyc s = .next s' ∧ Good s.pending s.tablesOk s' :=
  ⟨_, rfl, by have hk := kept_self s; have h1 : Kept s.keep (s.atCyc cyc) := atCyc_kept cyc s hk; exact (show Kept s.keep (returnQual
    vmain.toNat (s.atCyc cyc)) from by grind [returnQual_kept, atCyc_kept]).good⟩
theorem execVmainBack_good (vmain : BitVec 16) (vback : BitVec 16) (cyc : Nat) (s : State) :
    ∃ s', execVmainBack vmain vback cyc s = .next s' ∧ Good s.pending s.tablesOk s' :=
  ⟨_, rfl, by have hk := kept_self s; have h1 : Kept s.keep (s.atCyc cyc) := atCyc_kept cyc s hk; exact (show Kept s.keep (vmainBack
    vmain.toNat vback.toNat (s.atCyc cyc)) from by grind [vmainBack_kept, atCyc_kept]).good⟩
theorem execVbackAbsent_good (vback : BitVec 16) (cyc : Nat) (s : State) :
    ∃ s', execVbackAbsent vback cyc s = .next s' ∧ Good s.pending s.tablesOk s' :=
  ⟨_, rfl, by have hk := kept_self s; have h1 : Kept s.keep (s.atCyc cyc) := atCyc_kept cyc s hk; exact (show Kept s.keep (vbackAbsent
    vback.toNat (s.atCyc cyc)) from by grind [vbackAbsent_kept, atCyc_kept]).good⟩
theorem execChargeState_good (vback : BitVec 16) (mA : BitVec 16) (cyc : Nat) (s : State) :
    ∃ s', execChargeState vback mA cyc s = .next s' ∧ Good s.pending s.tablesOk s' :=
  ⟨_, rfl, by have hk := kept_self s; have h1 : Kept s.keep (s.atCyc cyc) := atCyc_kept cyc s hk; exact (show Kept s.keep (chargeState
    vback.toNat mA.toNat (s.atCyc cyc)) from by grind [chargeState_kept, atCyc_kept]).good⟩
theorem execBankTempMeasure_good (t : Int) (cyc : Nat) (s : State) :
    ∃ s', execBankTempMeasure t cyc s = .next s' ∧ Good s.pending s.tablesOk s' :=
  ⟨_, rfl, by have hk := kept_self s; have h1 : Kept s.keep (s.atCyc cyc) := atCyc_kept cyc s hk; exact (show Kept s.keep (bankTemp t
    (s.atCyc cyc)) from by grind [bankTemp_kept, atCyc_kept]).good⟩
theorem execChargeTimeout_good (cyc : Nat) (s : State) : ∃ s', execChargeTimeout cyc s = .next s' ∧ Good s.pending s.tablesOk s' :=
  ⟨_, rfl, by have hk := kept_self s; have h1 : Kept s.keep (s.atCyc cyc) := atCyc_kept cyc s hk; exact (show Kept s.keep (chargeTimeout
    (s.atCyc cyc)) from by grind [chargeTimeout_kept, atCyc_kept]).good⟩
theorem execChargeCtrl_good (d : Desc) (s : State) : ∃ s', execChargeCtrl d s = .next s' ∧ Good s.pending s.tablesOk s' :=
  ⟨_, rfl, by exact (runDesc_kept _ _ _ (fun d t ht => opChargeCtrl_kept d t ht) _ (kept_self s)).good⟩
theorem execTempMeasure_good (k : Fin 10) (t : Int) (cyc : Nat) (s : State) :
    ∃ s', execTempMeasure k t cyc s = .next s' ∧ Good s.pending s.tablesOk s' :=
  ⟨_, rfl, by have hk := kept_self s; have h1 : Kept s.keep (s.atCyc cyc) := atCyc_kept cyc s hk; exact (show Kept s.keep (tempMeasure
    k.val t (s.atCyc cyc)) from by grind [tempMeasure_kept, atCyc_kept]).good⟩
theorem execThermalMeasure_good (d : Desc) (s : State) : ∃ s', execThermalMeasure d s = .next s' ∧ Good s.pending s.tablesOk s' :=
  ⟨_, rfl, by exact (runDesc_kept _ _ _ (fun d t ht => opThermalMeasure_kept d t ht) _ (kept_self s)).good⟩
theorem execThermalTrip_good (src : BitVec 6) (cyc : Nat) (s : State) :
    ∃ s', execThermalTrip src cyc s = .next s' ∧ Good s.pending s.tablesOk s' :=
  ⟨_, rfl, by have hk := kept_self s; have h1 : Kept s.keep (s.atCyc cyc) := atCyc_kept cyc s hk; exact (show Kept s.keep (thermalTrip
    src (s.atCyc cyc)) from by grind [thermalTrip_kept, atCyc_kept]).good⟩
theorem execThermalRelease_good (src : BitVec 6) (cyc : Nat) (s : State) :
    ∃ s', execThermalRelease src cyc s = .next s' ∧ Good s.pending s.tablesOk s' :=
  ⟨_, rfl, by have hk := kept_self s; have h1 : Kept s.keep (s.atCyc cyc) := atCyc_kept cyc s hk; exact (show Kept s.keep
    (thermalRelease src (s.atCyc cyc)) from by grind [thermalRelease_kept, atCyc_kept]).good⟩

/-! ## Image -/

theorem execImageStore_good (d : Desc) (s : State) : ∃ s', execImageStore d s = .next s' ∧ Good s.pending s.tablesOk s' :=
  ⟨_, rfl, by exact (runDesc_kept _ _ _ (fun d t ht => opImageStore_kept d t ht) _ (kept_self s)).good⟩
theorem execImageStored_good (ok : Bool) (s : State) : ∃ s', execImageStored ok s = .next s' ∧ Good s.pending s.tablesOk s' :=
  ⟨_, rfl, by have hk := kept_self s; exact (show Kept s.keep (imageStored ok s) from by grind [imageStored_kept]).good⟩
theorem execImageLoad_good (d : Desc) (s : State) : ∃ s', execImageLoad d s = .next s' ∧ Good s.pending s.tablesOk s' :=
  ⟨_, rfl, by exact (runDesc_kept _ _ _ (fun d t ht => opImageLoad_kept d t ht) _ (kept_self s)).good⟩
theorem execEngineReload_good (e : Fin 34) (s : State) : ∃ s', execEngineReload e s = .next s' ∧ Good s.pending s.tablesOk s' :=
  ⟨_, rfl, by have hk := kept_self s; exact (show Kept s.keep (engineReload e.val s) from by grind [engineReload_kept]).good⟩
theorem execImageStaged_good (e : Fin 34) (s : State) : ∃ s', execImageStaged e s = .next s' ∧ Good s.pending s.tablesOk s' :=
  ⟨_, rfl, by have hk := kept_self s; exact (show Kept s.keep (imageStaged e.val s) from by grind [imageStaged_kept]).good⟩
theorem execImageSwap_good (d : Desc) (s : State) : ∃ s', execImageSwap d s = .next s' ∧ Good s.pending s.tablesOk s' :=
  ⟨_, rfl, by exact (runDesc_kept _ _ _ (fun d t ht => opSwapAny_kept d t ht) _ (kept_self s)).good⟩
theorem execImageRollback_good (d : Desc) (s : State) : ∃ s', execImageRollback d s = .next s' ∧ Good s.pending s.tablesOk s' :=
  ⟨_, rfl, by exact (runDesc_kept _ _ _ (fun d t ht => opSwapAny_kept d t ht) _ (kept_self s)).good⟩
theorem execSwapTakeEffect_good (e : Fin 34) (s : State) : ∃ s', execSwapTakeEffect e s = .next s' ∧ Good s.pending s.tablesOk s' :=
  ⟨_, rfl, by have hk := kept_self s; exact (show Kept s.keep (swapTake e.val s) from by grind [swapTake_kept]).good⟩
theorem execSwapAbandon_good (e : Fin 34) (s : State) : ∃ s', execSwapAbandon e s = .next s' ∧ Good s.pending s.tablesOk s' :=
  ⟨_, rfl, by have hk := kept_self s; exact (show Kept s.keep (swapAbandon e.val s) from by grind [swapAbandon_kept]).good⟩
theorem execSwapRollback_good (e : Fin 34) (s : State) : ∃ s', execSwapRollback e s = .next s' ∧ Good s.pending s.tablesOk s' :=
  ⟨_, rfl, by have hk := kept_self s; exact (show Kept s.keep (swapRollback e.val s) from by grind [swapRollback_kept]).good⟩
theorem execProbationEnd_good (e : Fin 34) (s : State) : ∃ s', execProbationEnd e s = .next s' ∧ Good s.pending s.tablesOk s' :=
  ⟨_, rfl, by have hk := kept_self s; exact (show Kept s.keep (probationEnd e.val s) from by grind [probationEnd_kept]).good⟩
theorem execBootSlotWrite_good (s : State) : ∃ s', execBootSlotWrite s = .next s' ∧ Good s.pending s.tablesOk s' :=
  ⟨_, rfl, by have hk := kept_self s; exact (show Kept s.keep (bootSlotWrite s) from by grind [bootSlotWrite_kept]).good⟩
theorem execImageOverride_good (d : Desc) (s : State) : ∃ s', execImageOverride d s = .next s' ∧ Good s.pending s.tablesOk s' :=
  ⟨_, rfl, by exact (runDesc_kept _ _ _ (fun d t ht => opImageOverride_kept d t ht) _ (kept_self s)).good⟩
theorem execEngineParam_good (d : Desc) (s : State) : ∃ s', execEngineParam d s = .next s' ∧ Good s.pending s.tablesOk s' :=
  ⟨_, rfl, by exact (runDesc_kept _ _ _ (fun d t ht => opEngineParam_kept d t ht) _ (kept_self s)).good⟩
theorem execImageKey_good (d : Desc) (s : State) : ∃ s', execImageKey d s = .next s' ∧ Good s.pending s.tablesOk s' :=
  ⟨_, rfl, by exact (runDesc_kept _ _ _ (fun d t ht => opImageKey_kept d t ht) _ (kept_self s)).good⟩

/-! ## Debug -/

theorem execDebugAttach_good (x : AttachBy) (s : State) :
    ∃ s', execDebugAttach x s = .next s' ∧ Good s.pending s.tablesOk s' :=
  ⟨_, rfl, by have h0 : Good s.pending s.tablesOk s := (kept_self s).good; have h1 : Good s.pending s.tablesOk (s.atCyc x.cyc) :=
    (atCyc_kept x.cyc s (kept_self s)).good; grind [dbgAs_good, whenB_good]⟩
theorem execDebugDetach_good (jtag : Bool) (s : State) : ∃ s', execDebugDetach jtag s = .next s' ∧ Good s.pending s.tablesOk s' :=
  ⟨_, rfl, by have h0 : Good s.pending s.tablesOk s := (kept_self s).good; grind [dbgAs_good, whenB_good]⟩
theorem execTapReset_good (s : State) : ∃ s', execTapReset s = .next s' ∧ Good s.pending s.tablesOk s' :=
  ⟨_, rfl, by have hk := kept_self s; exact (show Kept s.keep (tapReset s) from by grind [tapReset_kept]).good⟩
theorem execHalt_good (jtag : Bool) (e : Fin 40) (s : State) : ∃ s', execHalt jtag e s = .next s' ∧ Good s.pending s.tablesOk s' :=
  ⟨_, rfl, by have h0 : Good s.pending s.tablesOk s := (kept_self s).good; grind [dbgAs_good, whenB_good]⟩
theorem execResume_good (jtag : Bool) (e : Fin 40) (s : State) : ∃ s', execResume jtag e s = .next s' ∧ Good s.pending s.tablesOk s' :=
  ⟨_, rfl, by have h0 : Good s.pending s.tablesOk s := (kept_self s).good; grind [dbgAs_good, whenB_good]⟩
theorem execStep_good (jtag : Bool) (e : Fin 40) (s : State) : ∃ s', execStep jtag e s = .next s' ∧ Good s.pending s.tablesOk s' :=
  ⟨_, rfl, by have h0 : Good s.pending s.tablesOk s := (kept_self s).good; grind [dbgAs_good, whenB_good]⟩
theorem execMemoryTransfer_good (jtag : Bool) (v : W32) (s : State) :
    ∃ s', execMemoryTransfer jtag v s = .next s' ∧ Good s.pending s.tablesOk s' :=
  ⟨_, rfl, by have h0 : Good s.pending s.tablesOk s := (kept_self s).good; grind [dbgAs_good, whenB_good]⟩
theorem execMemoryTransferDone_good (s : State) : ∃ s', execMemoryTransferDone s = .next s' ∧ Good s.pending s.tablesOk s' :=
  ⟨_, rfl, by have hk := kept_self s; exact (show Kept s.keep (dbgTransfer s) from by grind [dbgTransfer_kept]).good⟩
theorem execBypass_good (s : State) : ∃ s', execBypass s = .next s' ∧ Good s.pending s.tablesOk s' :=
  ⟨_, rfl, by have hk := kept_self s; exact (show Kept s.keep (jtagLoad .bypass s) from by grind [jtagLoad_kept]).good⟩
theorem execIdcode_good (s : State) : ∃ s', execIdcode s = .next s' ∧ Good s.pending s.tablesOk s' :=
  ⟨_, rfl, by have hk := kept_self s; exact (show Kept s.keep (jtagLoad .idcode s) from by grind [jtagLoad_kept]).good⟩
theorem execSamplePreload_good (pads : List Bool) (drive : List Bool) (s : State) :
    ∃ s', execSamplePreload pads drive s = .next s' ∧ Good s.pending s.tablesOk s' :=
  ⟨_, rfl, by have hk := kept_self s; exact (show Kept s.keep (jtagSample pads drive s) from by grind [jtagSample_kept]).good⟩
theorem execExtest_good (s : State) : ∃ s', execExtest s = .next s' ∧ Good s.pending s.tablesOk s' :=
  ⟨_, rfl, by have hk := kept_self s; exact (show Kept s.keep (jtagLoad .extest s) from by grind [jtagLoad_kept]).good⟩
theorem execHighz_good (s : State) : ∃ s', execHighz s = .next s' ∧ Good s.pending s.tablesOk s' :=
  ⟨_, rfl, by have hk := kept_self s; exact (show Kept s.keep (jtagLoad .highz s) from by grind [jtagLoad_kept]).good⟩
theorem execClamp_good (s : State) : ∃ s', execClamp s = .next s' ∧ Good s.pending s.tablesOk s' :=
  ⟨_, rfl, by have hk := kept_self s; exact (show Kept s.keep (jtagLoad .clamp s) from by grind [jtagLoad_kept]).good⟩

end Sys2Proof.Machine
end

