-- ==== Sys2Proof/Laws/Spar.lean ====
section
/-!
SUPPORT. Instructions of an engine: what an issue is, and what an instruction that writes one register leaves.
-/
namespace Sys2Proof.Machine

set_option Elab.async false

/-- An engine that issues its next instruction runs the instruction's effect on the issued state, and nothing more. -/
theorem sparStep_issues {s : State} {i : SparAt} (f : State → State) (h : s.issues i) : sparStep i f s = f (s.issued i) := by
  obtain ⟨h1, h2, h3, h4⟩ := h
  have hi : takeIrq i.e.val (s.atCyc i.cyc) = s.atCyc i.cyc := by
    unfold takeIrq
    rcases h4 with h4 | ⟨h4, _⟩
    · simp [State.eng, State.atCyc] at *; simp [h4]
    · simp [State.eng, State.atCyc] at *; simp [h4]
  have hw : ¬((!((s.atCyc i.cyc).eng i.e.val).inH) = true ∧ ((s.atCyc i.cyc).eng i.e.val).wait ≠ .none) := by
    rcases h4 with h4 | ⟨_, h4⟩ <;> simp [State.eng, State.atCyc] at * <;> simp [h4]
  have hp : ¬(0xBFFC < ((s.atCyc i.cyc).eng i.e.val).pc) := by
    simp [State.eng, State.atCyc] at *; omega
  have hs : ((s.atCyc i.cyc).eng i.e.val).stepOne = false := h2
  unfold sparStep
  simp only [h1, hi, Bool.not_true, Bool.false_eq_true, if_false, if_neg hw, if_neg hp, hs, false_and]
  rfl

theorem RegSet.phys_inj (r : RegSet) {a b : Nat} (ha : a < 64) (hb : b < 64) (h : r.phys a = r.phys b) : a = b := by
  unfold RegSet.phys at h
  split at h <;> split at h <;> omega

@[simp] theorem RegSet.rd_wr_same (r : RegSet) (n : Nat) (v : W64) : (r.wr n v).rd n = v := by
  simp [RegSet.rd, RegSet.wr, RegSet.phys]

theorem RegSet.rd_wr_other (r : RegSet) {n m : Nat} (v : W64) (hn : n < 64) (hm : m < 64) (h : m ≠ n) : (r.wr n v).rd m = r.rd m := by
  have hp : r.phys m ≠ r.phys n := fun e => h (RegSet.phys_inj r hm hn e)
  exact Table.look_put_other 0 v 0 hp r.g

theorem RegSet.wr_wrote (r : RegSet) {n : Nat} (v : W64) (hn : n < 64) (k : Nat) :
    r.wrote { r.wr n v with sticky := (r.wr n v).sticky ||| k } n v k :=
  ⟨RegSet.rd_wr_same r n v, fun _ hm h => RegSet.rd_wr_other r v hn hm h, rfl⟩

theorem eng_issued (s : State) (i : SparAt) :
    (s.issued i).eng i.e.val = { s.eng i.e.val with pc := (s.eng i.e.val).pc + 4 } := by
  simp only [State.issued, State.eng_updEng_same]; rfl

@[simp] theorem g_issued (s : State) (i : SparAt) (r : Nat) : (s.issued i).g i.e.val r = s.g i.e.val r := by
  simp only [State.g, eng_issued]; rfl

@[simp] theorem acc_issued (s : State) (i : SparAt) (k : Bool) : (s.issued i).acc i.e.val k = s.acc i.e.val k := by
  simp only [State.acc, eng_issued]; rfl

theorem set_issued (s : State) (i : SparAt) : ((s.issued i).eng i.e.val).set' = (s.eng i.e.val).set' := by
  simp only [eng_issued]; rfl

theorem issued_other (s : State) (i : SparAt) {e : Nat} (h : e ≠ i.e.val) : (s.issued i).eng e = s.eng e := by
  simp only [State.issued, State.eng_updEng_other _ _ h]; rfl

/-- An issued state in which the engine has changed by `f` differs in nothing but that engine. -/
theorem onlyEngine_upd (s : State) (i : SparAt) (f : Eng → Eng) : OnlyEngine i s ((s.issued i).updEng i.e.val f) :=
  ⟨rfl, fun e h => by rw [State.eng_updEng_other _ _ h, issued_other s i h]⟩

/-- The engine's register set in use is changed by `f`, and nothing else. -/
theorem eng_updSet (s : State) (i : SparAt) (f : RegSet → RegSet) :
    ((((s.issued i).updEng i.e.val (fun x => x.updSet f))).eng i.e.val).set' = f (s.eng i.e.val).set' ∧
    ((((s.issued i).updEng i.e.val (fun x => x.updSet f))).eng i.e.val).other = (s.eng i.e.val).other ∧
    (((s.issued i).updEng i.e.val (fun x => x.updSet f))).eng i.e.val = { s.eng i.e.val with
      pc := (s.eng i.e.val).pc + 4
      base := ((((s.issued i).updEng i.e.val (fun x => x.updSet f))).eng i.e.val).base
      intr := ((((s.issued i).updEng i.e.val (fun x => x.updSet f))).eng i.e.val).intr } := by
  simp only [State.eng_updEng_same, eng_issued, Eng.updSet, Eng.set', Eng.other]
  cases (s.eng i.e.val).inH <;> simp

/-- A second change of the same engine is a change by both. -/
theorem updEng_updEng (s : State) (e : Nat) (f g : Eng → Eng) : (s.updEng e f).updEng e g = s.updEng e (fun x => g (f x)) := by
  simp only [State.updEng, Table.upd_upd]

/-- What an instruction leaves whose whole effect on the issued state is one change `f` of the register set in use. -/
theorem updSet_wrote (s : State) (i : SparAt) (f : RegSet → RegSet) {rd : Nat} {v : W64} {k : Nat}
    (h : (s.eng i.e.val).set'.wrote (f (s.eng i.e.val).set') rd v k) :
    i.wrote s ((s.issued i).updEng i.e.val (fun x => x.updSet f)) rd v k := by
  obtain ⟨h1, h2, h3⟩ := eng_updSet s i f
  exact ⟨onlyEngine_upd s i _, h1 ▸ h, h2, h3⟩

theorem updSet_updSet (f g : RegSet → RegSet) (x : Eng) : (x.updSet f).updSet g = x.updSet (fun r => g (f r)) := by
  by_cases h : x.inH = true <;> simp [Eng.updSet, h]

theorem setG_stick (s : State) (e rd b : Nat) (v : W64) : (s.setG e rd v).stick e b =
    s.updEng e (fun x => x.updSet (fun r => { r.wr rd v with sticky := (r.wr rd v).sticky ||| 2 ^ b })) := by
  simp only [State.setG, State.stick, updEng_updEng, updSet_updSet]

theorem setG_wrote (s : State) (i : SparAt) {rd : Nat} (h : rd < 64) (v : W64) : i.wrote s ((s.issued i).setG i.e.val rd v) rd v 0 := by
  refine updSet_wrote s i _ ?_
  have := RegSet.wr_wrote (s.eng i.e.val).set' v h 0
  simpa using this

/-- A register is written, and a flag where a condition holds. -/
theorem setG_stickIf_wrote (s : State) (i : SparAt) {rd : Nat} (h : rd < 64) (v : W64) (c : Bool) (b : Nat) :
    i.wrote s (stickIf c i.e.val b ((s.issued i).setG i.e.val rd v)) rd v (if c then 2 ^ b else 0) := by
  cases c
  · exact setG_wrote s i h v
  · simp only [stickIf, if_true, setG_stick]
    exact updSet_wrote s i _ (RegSet.wr_wrote _ v h _)

theorem op2_wrote (s : State) (i : SparAt) {rd : Nat} (h : rd < 64) (ra rb : Nat) (f : W64 → W64 → W64 × Bool) :
    i.wrote s (op2 i.e.val rd ra rb f (s.issued i)) rd (f (s.g i.e.val ra) (s.g i.e.val rb)).1
      (satFlag (f (s.g i.e.val ra) (s.g i.e.val rb)).2) := by
  simp only [op2, g_issued]
  exact setG_stickIf_wrote s i h _ _ 0

/-- An issued instruction completes with its effect on the issued state. -/
theorem exec_issues {c : Instr} {s : State} {i : SparAt} {f : State → State} (hc : exec c s = .next (sparStep i f s)) (h : s.issues i) :
    exec c s = .next (f (s.issued i)) := by rw [hc, sparStep_issues f h]

theorem writes_of {c : Instr} {s : State} {i : SparAt} {f : State → State} {rd : Nat} {v : W64} {k : Nat}
    (hc : exec c s = .next (sparStep i f s)) (h : s.issues i) (hw : i.wrote s (f (s.issued i)) rd v k) : i.writes c s rd v k :=
  ⟨_, exec_issues hc h, hw⟩

theorem makes_of {c : Instr} {s : State} {i : SparAt} {f : State → State} {g : Eng → Eng}
    (hc : exec c s = .next (sparStep i f s)) (h : s.issues i) (hw : f (s.issued i) = (s.issued i).updEng i.e.val g) : i.makes c s g :=
  ⟨_, exec_issues hc h, by rw [hw]; exact onlyEngine_upd s i g, by rw [hw, State.eng_updEng_same, eng_issued]⟩

end Sys2Proof.Machine
end

