-- ==== Sys2Proof/WellFormed.lean ====
section
/-!
DEFINITION. Which commands are well-formed: operands that the spec's encodings and register map admit. A command that is not is no command of
the part; `exec` still gives it a meaning (an illegal instruction raises its exception, a write to no register changes nothing).
-/
namespace Sys2Proof

/-- Whether a command is well-formed. -/
def Instr.wf : Instr → Bool
  | .tickStrobe .. => true
  | .engineFault .. => true
  | .engineRestart .. => true
  | .subInterrupt .. => true
  | .inrdyInterrupt .. => true
  | .inrdyTimeout .. => true
  | .tmrInterrupt .. => true
  | .halCutoff => true
  | .ftAdopt => true
  | .clockStep => true
  | .shroudTick .. => true
  | .shroudStartUp => true
  | .hostLoss .. => true
  | .submissionDoorbell .. => true
  | .eventRingDoorbell .. => true
  | .captureRingDoorbell .. => true
  | .ringEnable .. => true
  | .ringDisable .. => true
  | .eventRingEnable .. => true
  | .eventRingDisable .. => true
  | .captureRingEnable .. => true
  | .captureRingDisable .. => true
  | .ringDmaError .. => true
  | .ringWatchdog .. => true
  | .nop .. => true
  | .fence .. => true
  | .fenceRelease .. => true
  | .mode .. => true
  | .groupClr .. => true
  | .engineRecovered .. => true
  | .backstayWindowExpiry .. => true
  | .powerOnReset .. => true
  | .padReset .. => true
  | .perstReset .. => true
  | .softReset .. => true
  | .pllLockLoss .. => true
  | .pllReset .. => true
  | .supervisorReset .. => true
  | .pllLock .. => true
  | .memoryWipeComplete .. => true
  | .calibrationDone .. => true
  | .startUp .. => true
  | .lcChangeRequest v => decide (Machine.bits v 31 16 = 0x4C43)
  | .lcChangeComplete => true
  | .pendingWipeStart => true
  | .pendingWipeTimeout => true
  | .axisBind .. => true
  | .axisLimits .. => true
  | .profile .. => true
  | .move .. => true
  | .moveImmediate .. => true
  | .moveCont .. => true
  | .moveIncomplete .. => true
  | .groupEnable .. => true
  | .groupDisable .. => true
  | .groupStop .. => true
  | .groupResume .. => true
  | .groupFlush .. => true
  | .queueStart .. => true
  | .segmentEnd .. => true
  | .gearEngage .. => true
  | .gearDisengage .. => true
  | .camLoad .. => true
  | .camReady .. => true
  | .camEngage .. => true
  | .camDisengage .. => true
  | .groupReport .. => true
  | .motor .. => true
  | .isense .. => true
  | .currentLoop .. => true
  | .velocityLoop .. => true
  | .positionLoop .. => true
  | .notch .. => true
  | .notchRaw .. => true
  | .stepper .. => true
  | .identify .. => true
  | .identifyAbort .. => true
  | .idState .. => true
  | .loopReport .. => true
  | .idReport .. => true
  | .loopFlagsClr .. => true
  | .line .. => true
  | .roll .. => true
  | .rollRemove .. => true
  | .span .. => true
  | .spanRemove .. => true
  | .tensionLoop .. => true
  | .winder .. => true
  | .winderRemove .. => true
  | .material .. => true
  | .materialEnter .. => true
  | .materialReach _ w k => !w || decide (k.val < 8)
  | .diameterSet .. => true
  | .lineReport .. => true
  | .winderRevolution .. => true
  | .webBreak .. => true
  | .lineStandstill => true
  | .lineStatusPublish .. => true
  | .addi .. => true
  | .andi .. => true
  | .ldi .. => true
  | .ldk .. => true
  | .sel .. => true
  | .ld .. => true
  | .st .. => true
  | .add .. => true
  | .adds .. => true
  | .sub .. => true
  | .subs .. => true
  | .and .. => true
  | .or .. => true
  | .xor .. => true
  | .shl .. => true
  | .shr .. => true
  | .sra .. => true
  | .shls .. => true
  | .shli .. => true
  | .shri .. => true
  | .srai .. => true
  | .shlsi .. => true
  | .min .. => true
  | .max .. => true
  | .minu .. => true
  | .maxu .. => true
  | .abss .. => true
  | .negs .. => true
  | .slt .. => true
  | .sltu .. => true
  | .seq .. => true
  | .sext32 .. => true
  | .sext16 .. => true
  | .sext8 .. => true
  | .norm .. => true
  | .expx .. => true
  | .gmul .. => true
  | .mulh .. => true
  | .mull .. => true
  | .clips .. => true
  | .mul .. => true
  | .mac .. => true
  | .msu .. => true
  | .mulld _ ra rb x y _ _ => ra != rb && x != y
  | .macld _ ra rb x y _ _ => ra != rb && x != y
  | .msuld _ ra rb x y _ _ => ra != rb && x != y
  | .extr _ _ sh _ _ => decide (sh.val ≤ 96)
  | .acld _ _ sh _ => decide (sh.val ≤ 96)
  | .norma .. => true
  | .div .. => true
  | .divu .. => true
  | .diva0 .. => true
  | .diva1 .. => true
  | .sqrtu .. => true
  | .sincos .. => true
  | .atan2 .. => true
  | .beqz .. => true
  | .bnez .. => true
  | .bltz .. => true
  | .bgez .. => true
  | .bgtz .. => true
  | .blez .. => true
  | .b .. => true
  | .bloop .. => true
  | .bloopr .. => true
  | .jal .. => true
  | .jr .. => true
  | .mfc .. => true
  | .mtc .. => true
  | .mfs .. => true
  | .mts .. => true
  | .sparNop .. => true
  | .done .. => true
  | .waitt .. => true
  | .waitc .. => true
  | .reti .. => true
  | .brk .. => true
  | .fenceIo .. => true
  | .dmaComplete .. => true
  | .pwmCommit .. => true
  | .pwmCommitEffect .. => true
  | .pwmPeriodBoundary .. => true
  | .pwmRunSet .. => true
  | .pwmRunClear .. => true
  | .pwmFault .. => true
  | .fltLatchClear .. => true
  | .inputBind .. => true
  | .adcSoftwareTrigger .. => true
  | .adcTimerTrigger .. => true
  | .adcEventTrigger .. => true
  | .adcResult .. => true
  | .adcCfgApply .. => true
  | .diagInjection .. => true
  | .sdiWord .. => true
  | .sdiStuck .. => true
  | .segmentPublish sdi k _ => !sdi || decide (k.val < 48)
  | .diagFaultClear .. => true
  | .stuckClear .. => true
  | .recoveryWindowEnd sdi k _ => !sdi || decide (k.val < 48)
  | .feedbackBind .. => true
  | .fbEnable .. => true
  | .fbDisable .. => true
  | .fbCount .. => true
  | .fbIndex .. => true
  | .fbStill .. => true
  | .fbGate .. => true
  | .serialReadStart .. => true
  | .serialReadDone .. => true
  | .resolverTrigger .. => true
  | .fbFaultClear .. => true
  | .latchEdge .. => true
  | .latchRecord .. => true
  | .latchRecordTimeout .. => true
  | .latchArm .. => true
  | .latchPop .. => true
  | .latchFlush .. => true
  | .tdcRecalibration .. => true
  | .captureArm .. => true
  | .captureStop .. => true
  | .captureForce .. => true
  | .captureDisarm .. => true
  | .captureBlocksReserved .. => true
  | .captureSample .. => true
  | .sequencerTimeout .. => true
  | .captureRestart .. => true
  | .captureRingWrite .. => true
  | .linkChange .. => true
  | .rxFrame .. => true
  | .sync .. => true
  | .followUp .. => true
  | .ptpAnnounce .. => true
  | .delayReq .. => true
  | .delayResp .. => true
  | .pdelayReq .. => true
  | .pdelayResp .. => true
  | .ptpTransmit .. => true
  | .announceReceiptTimeout .. => true
  | .syncReceiptTimeout .. => true
  | .delayRespTimeout .. => true
  | .pathHoldExpiry => true
  | .stepAuthLapse => true
  | .ptpStepAuthorise .. => true
  | .ptpStep .. => true
  | .timeCompare .. => true
  | .timeCompareCancel .. => true
  | .timeCompareFire .. => true
  | .netSend .. => true
  | .timedLaunch .. => true
  | .txTimestamp .. => true
  | .txtsIdRead .. => true
  | .txtsPop .. => true
  | .netReport .. => true
  | .nodeCfg .. => true
  | .nodeIo .. => true
  | .discover => true
  | .announce .. => true
  | .joinReq .. => true
  | .joinAck .. => true
  | .joinTimeout .. => true
  | .reply .. => true
  | .leave .. => true
  | .partnerWatchdog .. => true
  | .safetyInputChange .. => true
  | .discrepancyTimeout .. => true
  | .inputTestPulse .. => true
  | .resetWindowExpiry .. => true
  | .stopComplete .. => true
  | .slsReact .. => true
  | .brakeDelay .. => true
  | .outputTestPulse .. => true
  | .fieldDriverTimeout .. => true
  | .tseMessage .. => true
  | .tseWatchdog .. => true
  | .tseConnectionStart .. => true
  | .safetySessionOpen .. => true
  | .safetySessionClose .. => true
  | .sessionTimeout => true
  | .lockoutEnd => true
  | .safetyPassword .. => true
  | .safetyConfig .. => true
  | .safetyConfirm .. => true
  | .confirmTimeout => true
  | .safetyDemand .. => true
  | .deviceSto .. => true
  | .safetyReportStatus .. => true
  | .safetyReportLog .. => true
  | .stoCheck .. => true
  | .pulseNow .. => true
  | .fldUvSet .. => true
  | .fldUvClear .. => true
  | .fldOff .. => true
  | .inValid .. => true
  | .fieldReenable .. => true
  | .fieldOut .. => true
  | .fieldOutputUpdate .. => true
  | .fieldInput .. => true
  | .inFiltWrite .. => true
  | .overload .. => true
  | .thermalOffPhase .. => true
  | .thermalOffEnd .. => true
  | .extHigh .. => true
  | .holdSeen => true
  | .fieldCpl out ch _ => !out || decide (ch.val < 16)
  | .couplerRestored out ch => !out || decide (ch.val < 16)
  | .vmainLost .. => true
  | .returnQualification .. => true
  | .vmainBack .. => true
  | .vbackAbsent .. => true
  | .chargeState .. => true
  | .bankTempMeasure .. => true
  | .chargeTimeout .. => true
  | .chargeCtrl .. => true
  | .tempMeasure .. => true
  | .thermalMeasure .. => true
  | .thermalTrip .. => true
  | .thermalRelease .. => true
  | .imageStore .. => true
  | .imageStored .. => true
  | .imageLoad .. => true
  | .engineReload .. => true
  | .imageStaged .. => true
  | .imageSwap .. => true
  | .imageRollback .. => true
  | .swapTakeEffect .. => true
  | .swapAbandon .. => true
  | .swapRollback .. => true
  | .probationEnd .. => true
  | .bootSlotWrite => true
  | .imageOverride .. => true
  | .engineParam .. => true
  | .imageKey .. => true
  | .debugAttach .. => true
  | .debugDetach .. => true
  | .tapReset => true
  | .halt .. => true
  | .resume .. => true
  | .step .. => true
  | .memoryTransfer .. => true
  | .memoryTransferDone => true
  | .bypass => true
  | .idcode => true
  | .samplePreload .. => true
  | .extest => true
  | .highz => true
  | .clamp => true
  | .wideRegisterRead r => decide (r.a.toNat % 4 = 0)
  | .wideRegisterWrite a _ => Machine.wideWritable a.toNat
  | .timeRead .. => true
  | .resRead sdi k _ => !sdi || decide (k.val < 48)
  | .seg0SumRead sdi k _ => !sdi || decide (k.val < 48)
  | .posRead .. => true
  | .registerWrite _ a _ _ => decide (a.toNat % 4 = 0)
  | .rejectedOpcode op _ => (Machine.opInfo op.toNat).isNone
  | .groupCtrlNoAction .. => true
  | .captureCtrlNoAction .. => true
  | .illegalInstruction _ w => !Machine.sparLegal w
  | .pwmEdge .. => true
  | .pwmMidPeriod .. => true
  | .faultInputHigh .. => true
  | .pllLockRegained => true

end Sys2Proof
end

