-- ==== Sys2Proof/Tests/Slice0.lean ====
section
/-!
SUPPORT. Tests of the model: a command that each check of WellFormed refuses, and for each statement with hypotheses states and
operands that meet them: `met<Statement>` says of a state and operands which clauses' hypotheses they meet, a column a clause, and
`test_<Statement>_met` that each column is met in some row.
-/
set_option Elab.async false
set_option linter.unusedVariables false
namespace Sys2Proof.Tests
open Sys2Proof Sys2Proof.Machine


/-! ## Ill-formed commands -/

theorem test_wf_refuses_lc_without_confirm : (Instr.lcChangeRequest 0x00000002).wf = false := by decide
theorem test_wf_refuses_winder_8 : (Instr.materialReach 0 true 8).wf = false := by decide
theorem test_wf_refuses_mulld_same_register : (Instr.mulld ⟨5, 0⟩ 1 1 0 1 false .ss).wf = false := by decide
theorem test_wf_refuses_macld_same_generator : (Instr.macld ⟨5, 0⟩ 1 2 3 3 false .ss).wf = false := by decide
theorem test_wf_refuses_msuld_same_generator : (Instr.msuld ⟨5, 0⟩ 1 2 0 0 true .uu).wf = false := by decide
theorem test_wf_refuses_extr_97 : (Instr.extr ⟨5, 0⟩ 1 97 false false).wf = false := by decide
theorem test_wf_refuses_acld_97 : (Instr.acld ⟨5, 0⟩ 1 97 false).wf = false := by decide
theorem test_wf_refuses_segment_of_sdi_48 : (Instr.segmentPublish true 48 0).wf = false := by decide
theorem test_wf_refuses_recovery_of_sdi_48 : (Instr.recoveryWindowEnd true 48 0).wf = false := by decide
theorem test_wf_refuses_cpl_of_output_16 : (Instr.fieldCpl true 16 0).wf = false := by decide
theorem test_wf_refuses_coupler_of_output_16 : (Instr.couplerRestored true 16).wf = false := by decide
theorem test_wf_refuses_read_off_a_word : (Instr.wideRegisterRead ⟨.bar0, 0x1002⟩).wf = false := by decide
theorem test_wf_refuses_wide_write_of_a_narrow_register : (Instr.wideRegisterWrite 0x0 5).wf = false := by decide
theorem test_wf_refuses_res_of_sdi_48 : (Instr.resRead true 48 0).wf = false := by decide
theorem test_wf_refuses_seg_of_sdi_48 : (Instr.seg0SumRead true 48 0).wf = false := by decide
theorem test_wf_refuses_write_off_a_word : (Instr.registerWrite .bar0 0x1003 5 0).wf = false := by decide
theorem test_wf_refuses_rejecting_nop : (Instr.rejectedOpcode 0x0000 { ring := 0, tag := 0, seq := 0, len := 0, w1 := 0, w2 := 0 }).wf = false := by decide
theorem test_wf_refuses_a_legal_word : (Instr.illegalInstruction ⟨5, 0⟩ 0x00000000).wf = false := by decide

/-! ## States -/

/-- A part that is up in a mode, with ring 0 enabled and credit. -/
def live (m : Nat) : State :=
  let s := ((((((State.reset.set F.glbStatus_READY 1).set F.glbMode_MODE_ACT m).set (F.hriRingStatus_STATE 0) 1).setReg (A.hriRingCfg 0)
    0x81000004).setReg (A.hriRingCqBaseLo 0) 0x1000).updRing 0 (fun r => { r with t := 3, g := 8 }))
  { s with md := { s.md with bootStep := 4 } }
/-- A descriptor of ring 0. -/
def D (n : Fin 8) (w1 w2 : W64 := 0) (w3 w4 w5 w6 : W64 := 0) : Desc :=
  { ring := 0, tag := 0x1234, seq := 0x55AA, len := n, w1 := w1, w2 := w2, w3 := w3, w4 := w4, w5 := w5, w6 := w6 }
def hdr0 : Hdr := { kind := 0, signer := 0, version := 0, epoch := 0, revMin := 0, revMax := 255, xhash := 0, shash := 0, phash := 0 }
/-- Group 2 with the axes 5 and 6, in a mode and a group state. -/
def grpS (m st : Nat) : State :=
  (((live m).updAxis 5 (fun (x : AxisP) => { x with bound := some (2, 3), vmax := 100000 * 2 ^ 24, amax := 1000000 * 65536, jmax := 50000000 * 65536 })).updAxis 6 (fun (x : AxisP) => { x with bound := some (2, 4), vmax := 100000 * 2 ^ 24, amax := 1000000 * 65536, jmax := 0, target := 77, softMax := 5000000000 })).set (grpFld 2) st
/-- The group enabled, with a move queued, moving and stopping. -/
def stG : State := grpS mRun gEnabled
def stSeg : Seg := (buildSeg stG { group := 2, tag := 5, ctol := 0, feed := 1024, prof := 0, rel := false, imm := false, targets := [(3, 100)], parts := 0, step := 0, reserved := false }).2.1
def stQ : State :=
  let s := stG.updGrp 2 (fun (p : GroupP) => { p with queue := [.move stSeg] })
  { s with clk := { s.clk with ticks := 5 } }
/-- The group at the end of its move, or at the end of a stop, in a group state. -/
def stEnd (stopped : Bool) (st : Nat) : State :=
  (stG.updGrp 2 (fun (p : GroupP) => { p with
    cur := some { seg := stSeg, phases := [], el := 125, total := 1, tailFrom := 0, stopped := stopped } })).set (grpFld 2) st
/-- Axis 5 ready for its loops. -/
def stRdy : State :=
  let s := (grpS mStandby gIdle).updAxis 6 (fun (x : AxisP) => { x with bound := none })
  (({ s with loop := { State.reset.loop with axes := [] } } : State).updAxisL 5 (fun x =>
    { x with cfg := { x.cfg with motorDone := true, isenseDone := true } })).set F.shrStoCmd_TORQUE 0xFFFFFF
/-- A safety configuration with one zone, one connection and one function, and a Shroud in RUN under it. -/
def shrCfg : SafetyCfg :=
  { pairs := (List.range 8).map (fun k => { kind := (if k = 3 then 3 else if k = 2 then 2 else 1), dt := 20, filt := 1, test := true }),
    tpIn := [5, 5], outs := List.replicate 4 { use := 1, zone := 4, tp := 20 }, zones := [(4, { slots := 0x30, line := false, rst := .pair 3 })],
    axes := [], conns := [(9, { node := 5, connId := 77, wd := 10, zone := 4, axmap := [none, none, none, none] })],
    fns := [(2, { func := 1, zone := 4, pairs := 0, host := true, tse := none, restart := false, react := false, tDelay := 5, tRamp := 7, hd := false, share := 30000, margin := 0, reef := false, tReact := 9, dir := false, out := 1, tBrake := 6 })] }
def shrRun : State := (live mRun).set F.shrStatus_STATE 2
def shr0 : State := { shrRun with shr := { shrRun.shr with started := true, tick := 1000, cfg := some (shrCfg, 5) } }
/-- Engine `e` at work, in its handler or not. -/
def engS (e : Nat) (h : Bool) : State :=
  (live mRun).updEng e (fun x => { x with run := true, inH := h, pc := 0x100, ret := 0x44, update := true, tmrCmp := 77 })

/-! ## Hypotheses that are met -/

/-- `Accepts` and `issues` as tests. -/
def accepts (s : State) (o : Nat) (d : Desc) : Bool :=
  s.ringTakes d.ring.val && (s.ring d.ring.val).fence.isNone && (Table.look none s.plan.opens d.ring.val).isNone &&
    (s.mode != mQuarantine || o / 256 == 0 || o / 256 == 4) &&
    (match opInfo o with | some x => decide (x.1 ≤ d.len.val ∧ d.len.val ≤ x.2.1) | none => false)
theorem accepts_sound {s : State} {o : Nat} {d : Desc} (h : accepts s o d = true) : Accepts s o d := by
  simp only [accepts, Bool.and_eq_true, Option.isNone_iff_eq_none] at h
  obtain ⟨⟨⟨⟨h1, h2⟩, h3⟩, h4⟩, h5⟩ := h
  refine ⟨h1, h2, h3, fun hq => ?_, ?_⟩
  · simpa [hq, or_assoc] using h4
  · split at h5
    · rename_i x hx
      exact ⟨x, hx, (of_decide_eq_true h5).1, (of_decide_eq_true h5).2⟩
    · simp at h5
def issues (s : State) (i : SparAt) : Bool :=
  s.sparRuns i.e.val && !(s.eng i.e.val).stepOne && decide ((s.eng i.e.val).pc ≤ 0xBFFC) &&
    ((s.eng i.e.val).inH || ((s.eng i.e.val).irqNext.isNone && decide ((s.eng i.e.val).wait = .none)))
theorem issues_sound {s : State} {i : SparAt} (h : issues s i = true) : s.issues i := by
  simpa [issues, State.issues, and_assoc] using h
/-- The columns of a clause that is stated for each item of a list. -/
def orCols (n : Nat) (l : List (List Bool)) : List Bool := l.foldl (List.zipWith (· || ·)) (List.replicate n false)
/-- Each column is met in some row. -/
def covers : List (List Bool) → Bool
  | [] => false
  | r :: rs => (rs.foldl (fun a b => List.zipWith (· || ·) a b) r).all id && rs.all (fun b => b.length == r.length)

/-! ## The statements -/

def metStepRunsFront (s : State) : List Bool :=
  [decide (s.pending ≠ []), decide (s.pending = [])]

theorem test_StepRunsFront_met : covers [
   metStepRunsFront (live mRun),
   metStepRunsFront { live mRun with pending := [.hostLoss 1] }] = true := by decide +kernel

def metTablesStayCanonical (s t : State) : List Bool :=
  [s.tablesOk, match step s with | .next u => decide (u = t) | _ => false]

theorem test_TablesStayCanonical_met : covers [
   metTablesStayCanonical State.reset State.reset] = true := by decide +kernel

def metAluIntegers (i : SparAt) (rd ra rb rc : Fin 64) (s : State) : List Bool :=
  [decide (issues s i = true)]

theorem test_AluIntegers_met : covers [
   metAluIntegers ⟨5, 0⟩ 1 2 3 4 (engS 5 true)] = true := by decide +kernel

def metAluNormalised (i : SparAt) (rd ra rb q : Fin 64) (s : State) : List Bool :=
  (if issues s i = true then
    ([true] ++
     (let a := s.g i.e.val ra.val
      [decide (a = 0)]))
   else List.replicate 2 false)

theorem test_AluNormalised_met : covers [
   metAluNormalised ⟨5, 0⟩ 1 2 3 4 (engS 5 true)] = true := by decide +kernel

def metMacAccumulator (i : SparAt) (rd ra rb : Fin 64) (acc : Bool) (s : State) : List Bool :=
  (if issues s i = true then
    ([true] ++
     (orCols 1 (([0, 1, 2, 3] : List (Fin 4)).map (fun gx =>
        orCols 1 (([0, 1, 2, 3] : List (Fin 4)).map (fun gy =>
          (if gx ≠ gy then
            (if ra ≠ rb then
              (let ax := ((s.eng i.e.val).set'.ag gx.val).at' 0
               let ay := ((s.eng i.e.val).set'.ag gy.val).at' 0
               [decide ((ax % 8 = 0) ∧ (ay % 8 = 0) ∧ (ax < 0x40000) ∧ ay < 0x40000)])
             else List.replicate 1 false)
           else List.replicate 1 false)))))) ++
     (orCols 1 (([0, 1, 2, 3, 5, 7, 9] : List (Fin 128)).map (fun shift =>
        [decide (shift.val ≤ 96)]))))
   else List.replicate 3 false)

theorem test_MacAccumulator_met : covers [
   metMacAccumulator ⟨5, 0⟩ 1 2 3 false (engS 5 true)] = true := by decide +kernel

def metDivision (i : SparAt) (rd ra rb : Fin 64) (s : State) : List Bool :=
  [decide (issues s i = true)]

theorem test_Division_met : covers [
   metDivision ⟨5, 0⟩ 1 2 3 (engS 5 true)] = true := by decide +kernel

def metAngleFunctions (i : SparAt) (rd ra rb : Fin 64) (s : State) : List Bool :=
  (if issues s i = true then
    ([true] ++
     [decide (rd ≠ rb)])
   else List.replicate 2 false)

theorem test_AngleFunctions_met : covers [
   metAngleFunctions ⟨5, 0⟩ 1 2 3 (engS 5 true)] = true := by decide +kernel

def metLoadStore (i : SparAt) (rd : Fin 64) (sz : Fin 7) (m : MemAddr) (s : State) : List Bool :=
  (if issues s i = true then
    (let x := s.eng i.e.val
     let n := match sz.val with | 0 | 4 => 1 | 1 | 5 => 2 | 2 | 6 => 4 | _ => 8
     let a := x.set'.memAt n m
     (if a % n = 0 then
       ([true] ++
        [decide (a < 0x40000)] ++
        [decide (0x80000 ≤ a ∧ a < 0x80000 + 0x1000)] ++
        [decide (0x90000 ≤ a ∧ a < 0x90000 + 0x1000 ∧ (24 ≤ i.e.val) ∧ i.e.val < 32)] ++
        [decide (0xA0000 ≤ a ∧ a < 0xA0000 + 0x1000)] ++
        [decide (a < 0x40000)])
      else List.replicate 6 false))
   else List.replicate 6 false)

theorem test_LoadStore_met : covers [
   metLoadStore ⟨5, 0⟩ 1 3 (.base 2 0) ((engS 5 true).updEng 5 (fun x
      => { x with base := { x.base with g := [(2, 0x10)] }, intr := { x.intr with g := [(2, 0x10)] } })),
   metLoadStore ⟨5, 0⟩ 1 3 (.base 2 0) (
        (engS 5 true).updEng 5 (fun x => { x with base := { x.base with g := [(2, 0x80010)] }, intr := { x.intr with g := [(2, 0x80010)] } })),
   metLoadStore ⟨5, 0⟩ 1 3 (.base 2 0) (
        (engS 5 true).updEng 5 (fun x => { x with base := { x.base with g := [(2, 0xA0010)] }, intr := { x.intr with g := [(2, 0xA0010)] } })),
   metLoadStore ⟨25, 0⟩ 1 3 (.base 2 0) (
        (engS 25 true).updEng 25 (fun x => { x with base := { x.base with g := [(2, 0x90010)] }, intr := { x.intr with g := [(2, 0x90010)] } }))] = true := by decide +kernel

def metBranches (i : SparAt) (rd ra : Fin 64) (off : BitVec 16) (s : State) : List Bool :=
  (if issues s i = true then
    ([true] ++
     (let a := s.g i.e.val ra.val
      [decide (a.toNat % 4 = 0)]))
   else List.replicate 2 false)

theorem test_Branches_met : covers [
   metBranches ⟨5, 0⟩ 1 2 4 (engS 5 true)] = true := by decide +kernel

def metControlRegisters (i : SparAt) (rd ra : Fin 64) (s : State) : List Bool :=
  (if issues s i = true then
    ([true] ++
     (let v := s.g i.e.val ra.val
      [decide (v.getLsbD 31 = false)]))
   else List.replicate 2 false)

theorem test_ControlRegisters_met : covers [
   metControlRegisters ⟨5, 0⟩ 1 2 (engS 5 true)] = true := by decide +kernel

def metHandshake (i : SparAt) (s : State) : List Bool :=
  (if issues s i = true then
    ([true] ++
     (let x := s.eng i.e.val
      [decide (x.inH = false), decide (x.inH = false)] ++
      (if x.inH = true then
        ((if x.src ≠ 0 then
           ([decide (x.ipend &&& x.ien = 0)] ++
            (orCols 1 ((List.range (5)).map (fun k =>
               [decide (((x.ipend &&& x.ien).testBit k) ∧ (∀ j ∈ List.range k, (x.ipend &&& x.ien).testBit j = false))]))))
          else List.replicate 2 false))
       else List.replicate 2 false) ++
      [decide (s.mode ≠ mService ∨ s.get F.dbgCtrl_OWNER = 0), decide ((s.mode = mService) ∧ s.get F.dbgCtrl_OWNER ≠ 0)]))
   else List.replicate 7 false)

theorem test_Handshake_met : covers [
   metHandshake ⟨5, 0⟩ (engS 5 false),
   metHandshake ⟨5, 0⟩ ((engS 5 true).updEng 5 (fun x => { x with src := 1 })),
   metHandshake ⟨5, 0⟩ (((engS 5 true).set F.glbMode_MODE_ACT mService).set F.dbgCtrl_OWNER 1),
   metHandshake ⟨5, 0⟩ ((engS 5 true).updEng 5 (fun x => { x with src := 1, ipend := 1, ien := 1 }))] = true := by decide +kernel

def metEngineExceptions (i : SparAt) (ra rb : Fin 64) (sz : Fin 7) (m : MemAddr) (s : State) : List Bool :=
  (if issues s i = true then
    ([true] ++
     (let x := s.eng i.e.val
      let n := match sz.val with | 0 | 4 => 1 | 1 | 5 => 2 | 2 | 6 => 4 | _ => 8
      let a := x.set'.memAt n m
      (orCols 1 (([0, 1, 2, 3, 5, 7, 9, 100] : List (Fin 128)).map (fun shift =>
         [decide (96 < shift.val)]))) ++
      (orCols 1 (([0, 1, 2, 3] : List (Fin 4)).map (fun gx =>
         orCols 1 (([0, 1, 2, 3] : List (Fin 4)).map (fun gy =>
           [decide (gx = gy ∨ ra = rb)]))))) ++
      [decide (a % n ≠ 0), decide ((a % n = 0) ∧ (0x126000 ≤ a) ∧ a < 0x408000), decide ((a % n = 0) ∧ (0xA0000 ≤ a) ∧ a < 0xA1000), decide (x.inH = true)]))
   else List.replicate 7 false)

theorem test_EngineExceptions_met : covers [
   metEngineExceptions ⟨5, 0⟩ 1 1 3 (.base 2 0) (
        (engS 5 true).updEng 5 (fun x => { x with base := { x.base with g := [(2, 0x11)] }, intr := { x.intr with g := [(2, 0x11)] } })),
   metEngineExceptions ⟨5, 0⟩ 1 1 3 (.base 2 0) (
        (engS 5 true).updEng 5 (fun x => { x with base := { x.base with g := [(2, 0xA0010)] }, intr := { x.intr with g := [(2, 0xA0010)] } })),
   metEngineExceptions ⟨5, 0⟩ 1 1 3 (.base 2 0) (
        (engS 5 true).updEng 5 (fun x => { x with base := { x.base with g := [(2, 0x126000)] }, intr := { x.intr with g := [(2, 0x126000)] } }))] = true := by decide +kernel

def metEngineDma (i : SparAt) (ra : Fin 64) (s : State) : List Bool :=
  let x := s.eng i.e.val
  let v := s.g i.e.val ra.val
  let len := v.toNat % 2 ^ 17
  [decide ((issues s i = true) ∧ (v.getLsbD 31 = true) ∧ x.dma.isSome = true),
   decide ((issues s i = true) ∧ (v.getLsbD 31 = true) ∧ (x.dma = none) ∧ (v.getLsbD 29 = false) ∧ (len % 8 = 0) ∧ (8 ≤ len) ∧ (len ≤ 65536) ∧ (x.dmaLoc + len ≤ 0x40000) ∧ x.dmaExt + len ≤ 2 ^ 23)] ++
  (orCols 1 ((x.dma.toList : List (Dma)).map (fun d =>
     [decide (x.dma = some d)])))

theorem test_EngineDma_met : covers [
   metEngineDma ⟨5, 0⟩ 2 (
        (engS 5 true).updEng 5 (
          fun x => { x with
            base := { x.base with g := [(2, 0x80000008)] }, intr := { x.intr with g := [(2, 0x80000008)] },
            dma := some { toRegion := false, cam := none, len := 8, loc := 0, ext := 0 } })),
   metEngineDma ⟨5, 0⟩ 2 ((engS 5 true).updEng 5 (fun x
      => { x with base := { x.base with g := [(2, 0x80000008)] }, intr := { x.intr with g := [(2, 0x80000008)] } }))] = true := by decide +kernel

def metTickStrobe (late : BitVec 38) (vmain vback pIn : BitVec 16) (s : State) : List Bool :=
  [decide (s.md.bootStep = 0), decide ((s.md.bootStep ≠ 0) ∧ 0 < s.clk.incr)]

theorem test_TickStrobe_met : covers [
   metTickStrobe 0 0 0 0 State.reset,
   metTickStrobe 0 0 0 0 ((let u : State := live mRun; { u with clk := { u.clk with incr := 10737418240 } } : State))] = true := by decide +kernel

def metEngineTickEvents (e : Fin 38) (n : Fin 24) (i : Fin 8) (stored : Bool) (cyc : Nat) (s : State) : List Bool :=
  let counts : Bool := decide (s.md.bootStep ≠ 0)
  (let x := s.eng e.val
   let due : Bool := decide (counts ∧ x.run = true ∧ x.tmrCmp ≠ 0 ∧ x.tmrDone = false ∧ s.clk.cyc ≤ x.tmrCmp ∧ x.tmrCmp < s.tickCycles)
   [decide (¬ due), decide (due)]) ++
  (let y := s.eng n.val
   let due : Bool := decide (counts ∧ s.slotPresent n.val = true ∧ i.val < 2 ^ Table.look 0 s.clk.subAct n.val)
   let w := s.atCyc (s.subCycle n.val i.val)
   let u := if s.getB (F.pwmSlotCfg_TB n.val) then w else updatePoint n.val w
   let halt := s.getB (F.clkEngStat_HALT n.val)
   let works : Bool := decide (y.run = true ∧ y.exc = none ∧ s.engFaulted n.val = false)
   let own := s.ephagon n.val
   let busy := if own then (s.axisL n.val).updating else y.update
   [decide (¬ due), decide ((due) ∧ ¬ works), decide ((due) ∧ (works) ∧ (halt = true) ∧ (own = true ∨ busy = true)),
    decide ((due) ∧ (works) ∧ (halt = false) ∧ busy = true), decide ((due) ∧ (works) ∧ (own = false) ∧ busy = false)] ++
   (if due then
     ((if works then
        ((if halt = false then
           ((if own = true then
              ((if busy = false then
                 (let z := u.axisL n.val
                  (if z.curRun = true ∨ u.loopsClosed n.val = false ∨ (u.get F.shrStoCmd_TORQUE).testBit n.val = false then
                    ([decide (z.curRun = true ∧ u.loopsClosed n.val = true), decide (z.curRun = false ∨ u.loopsClosed n.val = false)])
                   else List.replicate 2 false) ++
                  [decide ((z.curRun = false) ∧ (u.loopsClosed n.val = true) ∧ (u.get F.shrStoCmd_TORQUE).testBit n.val = true)])
                else List.replicate 3 false))
             else List.replicate 3 false))
          else List.replicate 3 false))
       else List.replicate 3 false))
    else List.replicate 3 false)) ++
  (let w := s.atCyc cyc
   let y := s.eng n.val
   let waits : Bool := decide (s.slotPresent n.val = true ∧ s.getB (F.adcGate_EN n.val) = true ∧ Table.look false s.adc.inrdyDone n.val = false)
   let tEnd := (s.slot n.val).tEnd
   let late : Bool := decide (tEnd + s.get F.adcInrdyMax_MAX * s.clk.incr ≤ w.nowFx)
   let ready : Bool := decide (if s.getB (F.adcGate_AVG n.val) then ∀ a ∈ s.gateInputs n.val, tEnd ≤ (s.ain a.1 a.2).published
     else tEnd + 4 * s.clk.incr ≤ w.nowFx ∧ ∀ a ∈ s.gateInputs n.val, (s.slot n.val).tPrev < (s.ain a.1 a.2).last)
   let ends : Bool := decide (s.doesWork n.val = true ∧ (s.axisL n.val).updating = true)
   [decide (¬ (waits ∧ late)), decide ((waits) ∧ late), decide (s.slotPresent n.val = false)] ++
   (if s.slotPresent n.val = true then
     (if ¬ ends then
       ([decide (¬ (waits ∧ ready)), decide ((waits) ∧ ready)])
      else List.replicate 2 false)
    else List.replicate 2 false) ++
   (if s.slotPresent n.val = true then
     (if ends then
       (let pending : Bool := decide ((waits ∧ ready) ∨ y.ipend.testBit 1 = true ∨ s.getB (F.adcGate_EN n.val) = false)
        [decide (¬ pending), decide (pending)])
      else List.replicate 2 false)
    else List.replicate 2 false)) ++
  (let due : Bool := decide (counts ∧ (s.eng 24).cutPassed = false)
   [decide (¬ due), decide (due)])

def st19a : State :=
  (
    (
      (((((live mRun)).set F.shrStoCmd_TORQUE 0xFFFFFF)).updEng 5 (fun x => { x with run := true, ipend := 3 }))).updEimg 5 (fun x => { x with act := some { hdr0 with signer := 0 } }))

theorem test_EngineTickEvents_met : covers [
   metEngineTickEvents 5 13 0 true 0 ((live mRun).set F.glbCaps_SLOTS 12),
   metEngineTickEvents 5 5 1 true 0
        (let u : State := (((live mRun)).updEng 5 (fun x => { x with run := true, tmrCmp := 77 }));
         { u with clk := { u.clk with subAct := [(5, 1)] } }),
   metEngineTickEvents 5 5 1 false 12000
        (let u : State := ((((live mRun)).set (F.adcGate_EN 5) 1).updAin false 0 (fun x => { x with published := 9, last := 7 }));
         { u with clk := { u.clk with subAct := [(5, 1)] } }),
   metEngineTickEvents 5 5 0 true 0 (
        (
          (((live mRun).set (F.adcGate_EN 5) 1).updEng 5 (fun x => { x with run := true })).updEimg 5 (fun x => { x with act := some hdr0 })).updAxisL 5 (fun x => { x with updating := true })),
   metEngineTickEvents 5 5 1 true 0
        (let u : State := ({ (live mRun) with md := { ((live mRun)).md with bootStep := 0 } } : State);
         { u with clk := { u.clk with subAct := [(5, 1)] } }),
   metEngineTickEvents 5 5 1 true 0
        (let u : State := (
            (
              (((live mRun)).updEng 5 (fun x => { x with run := true, update := true }))).updEimg 5 (fun x => { x with act := some { hdr0 with signer := 1 } })).set (F.clkEngStat_HALT 5) 1;
         { u with clk := { u.clk with subAct := [(5, 1)] } }),
   metEngineTickEvents 5 5 1 true 0 (let u : State := st19a; { u with clk := { u.clk with subAct := [(5, 1)] } }),
   metEngineTickEvents 5 5 1 true 0
        (let u : State := (
            (
              (
                (
                  (((live mRun)).updEng 5 (fun x => { x with run := true, ipend := 3, update := true }))).updEimg 5 (fun x => { x with act := some { hdr0 with signer := 0 } }))).updAxisL 5 (fun x => { x with updating := true, iNext := 44 }));
         { u with clk := { u.clk with subAct := [(5, 1)] } }),
   metEngineTickEvents 5 5 1 true 0
        (let u : State := ((st19a).updAxisL 5 (fun x => { x with closed := true, iNext := 44, vd := 7 }));
         { u with clk := { u.clk with subAct := [(5, 1)] } }),
   metEngineTickEvents 5 5 1 true 0
        (let u : State := ((st19a).updAxisL 5 (fun x => { x with curRun := true, closed := true, iNext := 44 }));
         { u with clk := { u.clk with subAct := [(5, 1)] } })] = true := by decide +kernel

def metRingDescriptors (d : Desc) (s : State) : List Bool :=
  let n := d.ring.val
  (orCols 1 (([s] : List (State)).map (fun u =>
     [decide (s.host.evBuf ≠ [] ∨ u.host.evBuf = [])]))) ++
  [decide (accepts s 0x0000 d = true), decide (accepts s 0x0001 d = true), decide ((s.ringTakes n = true) ∧ (s.ring n).fence.isSome = true),
   decide ((s.ring n).fence = none)] ++
  (match (s.ring n).fence with
   | some f =>
     let met : Bool := decide (∀ e ∈ f.covered, if e.1 < n then (s.ring e.1).gen ≠ e.2.2 ∨ 0 ≤ cdiff (s.ring e.1).done e.2.1
       else (s.ring e.1).gen0 ≠ e.2.2 ∨ 0 ≤ cdiff (s.ring e.1).done0 e.2.1)
     let due : Bool := decide (s.veWorks = true ∧ f.step < s.clk.ticks ∧ met)
     [decide (¬ due), decide ((due) ∧ (s.ring n).held = []), decide ((due) ∧ ((s.ring n).held = [(0x0000, d)]) ∧ d.len = 0)] ++
     (match (s.ring n).held with
      | (0x0001, d2) :: h =>
        [decide ((due) ∧ (d2.ring = d.ring) ∧ d2.len = 1)]
      | _ => List.replicate 1 false)
   | _ => List.replicate 4 false) ++
  (orCols 1 (([0, 1, 5] : List (BitVec 16)).map (fun k =>
     [decide ((opInfo k.toNat = none) ∧ (s.ringTakes n = true) ∧ ((s.ring n).fence = none) ∧ Table.look none s.plan.opens n = none)]))) ++
  [decide ((s.ringTakes n = true) ∧ ((s.ring n).fence = none) ∧ (Table.look none s.plan.opens n = none) ∧ 0 < d.len.val)]

theorem test_RingDescriptors_met : covers [
   metRingDescriptors (D 1 0x202) (live mRun),
   metRingDescriptors (D 0)
        (let u : State := (live mRun);
         { (
              u.updRing 0 (fun r => { r with fence := some { covered := [], step := 6 }, held := [] })).updRing 1 (fun r => { r with done := 5, done0 := 4, t := 6, gen := 2, gen0 := 1 }) with
            clk := { u.clk with ticks := 7 } } : State),
   metRingDescriptors (D 0) (live mRun),
   metRingDescriptors (D 0)
        (let u : State := (live mRun);
         { (
              u.updRing 0 (fun r => { r with fence := some { covered := [], step := 7 }, held := [] })).updRing 1 (fun r => { r with done := 5, done0 := 4, t := 6, gen := 2, gen0 := 1 }) with
            clk := { u.clk with ticks := 7 } } : State),
   metRingDescriptors (D 0)
        (let u : State := (live mRun);
         { (
              u.updRing 0 (fun r => { r with fence := some { covered := [], step := 6 }, held := [(0x0000, D 0)] })).updRing 1 (fun r => { r with done := 5, done0 := 4, t := 6, gen := 2, gen0 := 1 }) with
            clk := { u.clk with ticks := 7 } } : State),
   metRingDescriptors (D 0)
        (let u : State := (live mRun);
         { (
              u.updRing 0 (fun r => { r with fence := some { covered := [], step := 6 }, held := [(0x0001, D 1 2)] })).updRing 1 (fun r => { r with done := 5, done0 := 4, t := 6, gen := 2, gen0 := 1 }) with
            clk := { u.clk with ticks := 7 } } : State)] = true := by decide +kernel

def metDoorbells (n : Fin 64) (m : Fin 4) (t0 k0 : Option W32) (v : W32) (s : State) : List Bool :=
  [decide (s.ready = true), decide (¬ (s.ready = true)), decide (s.ready = true), decide (¬ (s.ready = true)),
   decide (s.ready = true), decide (¬ (s.ready = true)), decide (s.ready = true), decide (¬ (s.ready = true)),
   decide (s.ready = true), decide (¬ (s.ready = true)), decide (s.ready = true), decide (¬ (s.ready = true)),
   decide (s.ready = true), decide (¬ (s.ready = true)), decide (s.ready = true), decide (¬ (s.ready = true)),
   decide (s.ready = true), decide (¬ (s.ready = true))]

theorem test_Doorbells_met : covers [
   metDoorbells 0 1 none none 0 (live mRun),
   metDoorbells 0 1 none none 0 State.reset] = true := by decide +kernel

def metClockAndEngineFaults (e : Fin 38) (s : State) : List Bool :=
  let sel := s.get F.clkFtCtrl_FT_SEL
  let act := s.get F.clkFtStatus_FT_ACT
  let raised : Bool := decide (sel = 0 ∧ ∃ k ∈ List.range 8, 12 < s.peLoad k)
  let got := if raised then 1 else sel
  let idle : Bool := decide (∀ g ∈ List.range 32, s.gst g = gIdle)
  let wanted : Bool := decide (sel ≠ act ∨ ∃ n ∈ List.range s.slots, s.subSel n ≠ Table.look 0 s.clk.subAct n)
  let path : Bool := decide (((s.mode = mReset ∨ s.mode = mCalibrate ∨ s.mode = mStandby) ∧ idle) ∨ (s.mode = mStandby ∧ s.clk.ftDue = true))
  [decide (s.md.bootStep ≠ 0 ∧ wanted ∧ path ∧ s.clk.cyc = 0 ∧ s.tickNo * s.ftNs % (31250 * 2 ^ got) = 0),
   decide (¬ (s.md.bootStep ≠ 0 ∧ wanted ∧ path ∧ s.clk.cyc = 0 ∧ s.tickNo * s.ftNs % (31250 * 2 ^ got) = 0)), decide (s.net.ptp.step = none)] ++
  (orCols 3 (([-5, 0, 77] : List (Int)).map (fun amount =>
     orCols 3 (([false, true] : List (Bool)).map (fun first =>
       (if s.net.ptp.step = some (amount, first) then
         ([decide (s.md.bootStep = 0 ∨ s.clk.cyc ≠ 0)] ++
          (if ¬ (s.md.bootStep = 0 ∨ s.clk.cyc ≠ 0) then
            ([decide ((∃ g ∈ List.range 32, s.gst g = gMoving) ∨ s.mode = mHauldown ∨ s.mode = mBackstay),
              decide (¬ ((∃ g ∈ List.range 32, s.gst g = gMoving) ∨ s.mode = mHauldown ∨ s.mode = mBackstay))])
           else List.replicate 2 false))
        else List.replicate 3 false)))))) ++
  (let counted : Bool := decide ((s.eng e.val).run = true ∧ s.engFaulted e.val = false ∧ s.getB (F.clkEngStat_HALT e.val) = false ∧
      s.get (F.imgEng_STEP e.val) ≠ 4)
   let sub : Bool := decide (3 ≤ Table.look 0 s.clk.subOvrRun e.val)
   let third : Bool := decide (s.get (F.clkEngStat_OVR_RUN e.val) = 2 ∧ (s.eimg e.val).act.isSome = true ∧
      (s.ephagon e.val = true ∨ (s.eng e.val).xDone = false))
   [decide (s.md.bootStep ≠ 0 ∧ counted ∧ (sub ∨ third)), decide (¬ (s.md.bootStep ≠ 0 ∧ counted ∧ (sub ∨ third)))]) ++
  [decide (34 ≤ e.val ∧ s.engFaulted e.val = true), decide (¬ (34 ≤ e.val ∧ s.engFaulted e.val = true))]

theorem test_ClockAndEngineFaults_met : covers [
   metClockAndEngineFaults 5 ((live mRun)),
   metClockAndEngineFaults 5 (((live mStandby)).set F.clkFtCtrl_FT_SEL 1),
   metClockAndEngineFaults 5 (let u : State := (live mRun); { u with net := { u.net with ptp := { u.net.ptp with step := some (77, true) } } }),
   metClockAndEngineFaults 5
      (let u : State := (live mHauldown); { u with net := { u.net with ptp := { u.net.ptp with step := some (77, true) } } }),
   metClockAndEngineFaults 36 (
        (
          (
            ((((live mRun)).set (F.clkEngStat_FAULT 36) 1).set (F.clkEngStat_OVR_RUN 36) 3)).updEng 36 (fun x => {x with exc := some default, pc := 8 }))),
   metClockAndEngineFaults 5 (
        (
          (
            (((stG).updEng 5 (fun x => { x with run := true })).set (F.clkEngStat_OVR_RUN 5) 2)).updEimg 5 (fun x => { x with act := some { hdr0 with signer := 0 } }))),
   metClockAndEngineFaults 5
        (let u : State := (let u : State := (live mRun); { u with clk := { u.clk with cyc := 3 } });
         { u with net := { u.net with ptp := { u.net.ptp with step := some (77, true) } } })] = true := by decide +kernel

def metRingFaults (n : Fin 64) (m : Fin 4) (kind : Fin 4) (wr : Bool) (addr : W64) (s : State) : List Bool :=
  let wd := s.get (F.hriRingWd_WD_TICKS n.val)
  let due : Bool := decide (s.ringState n.val ≠ 0 ∧ s.veWorks = true ∧ wd ≠ 0) &&
    (s.ring n.val).armed.any (fun t0 => decide (t0 + wd ≤ s.clk.ticks))
  [decide (due), decide (¬ (due)), decide (s.ringState n.val = 1), decide (¬ (s.ringState n.val = 1)),
   decide (s.getB F.hriEvtCfg_EN = true), decide (¬ (s.getB F.hriEvtCfg_EN = true)),
   decide (s.getB (F.hriCrCfg_EN m.val) = true), decide (¬ (s.getB (F.hriCrCfg_EN m.val) = true))]

theorem test_RingFaults_met : covers [
   metRingFaults 0 0 0 false 0 State.reset,
   metRingFaults 0 0 0 false 0
        (let u : State := ((((((live mRun).set (F.hriRingWd_WD_TICKS 0) 5)).set (F.hriCrCfg_EN 0) 1)).set F.hriEvtCfg_EN 1);
         { u with shr := { u.shr with session := some (3, 1) } }),
   metRingFaults 0 0 0 false 0
        (let u : State := ((((live mRun).set (F.hriRingWd_WD_TICKS 0) 5)).updRing 0 (fun r => { r with armed := some 1 }));
         { u with clk := { u.clk with ticks := 6 } })] = true := by decide +kernel

def metRingEnabling (n : Fin 64) (m : Fin 4) (s : State) : List Bool :=
  let granted := ((List.range 64).map (fun k => s.get (F.hriRingStatus_GRANT_ACT k))).sum
  let g := min (s.get (F.hriRingCfg_GRANT n.val)) (min (2 ^ s.get (F.hriRingCfg_SIZE n.val)) (256 - granted))
  let x := s.ring n.val
  (if s.ringState n.val = 0 then
    ((if granted ≤ 256 then
       ([true] ++
        [decide (g = 0)] ++
        (if 0 < g then
          ([true] ++
           [decide ((x.g = s.get (F.hriRingStatus_GRANT_ACT n.val)) ∧ s.get (F.hriRingStatus_GRANT_ACT n.val) = 0)])
         else List.replicate 2 false))
      else List.replicate 4 false))
   else List.replicate 4 false) ++
  [decide (s.ringState n.val ≠ 0), decide (s.ringState n.val = 0)] ++
  (if s.ringState n.val ≠ 0 then
    ([true] ++
     [decide (s.shr.session.map (·.1) ≠ some n.val), decide (s.shr.session.map (·.1) = some n.val)])
   else List.replicate 3 false) ++
  [decide (s.getB F.hriEvtCfg_EN = true), decide (s.getB F.hriEvtCfg_EN = false), decide (s.getB (F.hriCrCfg_EN m.val) = true),
   decide (s.getB (F.hriCrCfg_EN m.val) = false)]

theorem test_RingEnabling_met : covers [
   metRingEnabling 1 0 ((live mRun)),
   metRingEnabling 0 0 (((live mRun)).set F.hriEvtCfg_EN 1),
   metRingEnabling 0 0 ((let u : State := (live mRun); { u with shr := { u.shr with session := some (0, 1) } })),
   metRingEnabling 0 0 (((let u : State := (live mRun); { u with cap := { u.cap with handed := [(0, [3,4])] } })).set (F.hriCrCfg_EN 0) 1),
   metRingEnabling 1 0 ((((((((live mRun)).set (F.hriRingStatus_GRANT_ACT 0) 200).set (F.hriRingStatus_GRANT_ACT 5) 56)).set (F.hriRingCfg_GRANT
      1) 4).set (F.hriRingCfg_SIZE 1) 4))] = true := by decide +kernel

def metModeRequests (d : Desc) (e : Fin 38) (cyc : Nat) (s : State) : List Bool :=
  let target := d.w1.toNat % 16
  [decide ((accepts s 0x0002 d = true) ∧ (d.w 2 = 0) ∧ 12 ≤ target), decide ((accepts s 0x0002 d = true) ∧ (d.w 2 = 0) ∧ target < 12)] ++
  (let named := (List.range 32).filter (fun g => (d.w 2).getLsbD g)
   [decide ((accepts s 0x0002 d = true) ∧ (named ≠ []) ∧ target = 15)]) ++
  [decide ((s.eimg e.val).recover = none)] ++
  (match (s.eimg e.val).recover with
   | some gs =>
     let first : Bool := (s.eng e.val).run && (s.ephagon e.val || (s.eimg e.val).act.isNone || (s.eng e.val).xDone)
     [decide (first), decide (¬ (first))]
   | _ => List.replicate 2 false) ++
  [decide (s.md.windowDue = none)] ++
  (match s.md.windowDue with
   | some k =>
     [decide (s.mode = mBackstay ∧ s.veWorks = true ∧ k ≤ s.clk.ticks), decide (¬ (s.mode = mBackstay ∧ s.veWorks = true ∧ k ≤ s.clk.ticks))]
   | _ => List.replicate 2 false)

theorem test_ModeRequests_met : covers [
   metModeRequests (D 1 0) 5 0 (live mRun),
   metModeRequests (D 1 15) 5 0 ((let u : State := (live mRun); { u with md := { u.md with windowDue := some 0 } })),
   metModeRequests (D 2 15 4) 5 0 (grpS mRun gFaulted),
   metModeRequests (D 1 15) 5 0 (
        (let u : State := (let u : State := live mBackstay; { u with clk := { u.clk with ticks := 9 } });
           { u with md := { u.md with windowDue := some 9 } })),
   metModeRequests (D 1 15) 5 0 (
        (
          (
            (((grpS mStandby gEnabled)).set (F.clkEngStat_FAULT 5) 1).updEimg 5 (
              fun x => { x with recover := some 4, act := some { hdr0 with signer := 0 } })).updEng 5 (fun x => { x with run := true }))),
   metModeRequests (D 1 15) 5 0 (
        (
          (
            (
              (
                (((grpS mStandby gFaulted).updAxis 5 (fun x => { x with faulted := true })).updAxis 6 (fun x => { x with faulted := true }))).set (F.clkEngStat_FAULT 5) 1).updEimg 5 (fun x => { x with recover := some 4, act := some { hdr0 with signer := 1 } })).updEng 5 (fun x => { x with run := true })))] = true := by decide +kernel

def metResetSources (also : BitVec 7) (v : W32) (ref : Bool) (s : State) : List Bool :=
  let key : Bool := decide (v.toNat / 2 ^ 16 = 0xA5C3)
  let refused : Bool := decide (s.mode = mHauldown ∨ s.mode = mBackstay ∨ (v.getLsbD 1 = false ∧ ∃ g ∈ List.range 32, s.gst g = gMoving))
  [decide (s.getB F.glbResetCfg_PERST_ACT = true), decide (s.getB F.glbResetCfg_PERST_ACT = false), decide ((key) ∧ (v.getLsbD 0 = true) ∧ ¬ refused),
   decide ((key) ∧ (v.getLsbD 0 = true) ∧ refused), decide ((Table.look 0 s.clk.fresh A.glbResetCtrl = 0) ∧ ¬ (key ∧ v.getLsbD 0 = true)),
   decide (s.md.pllLost = false), decide (s.md.pllLost = true), decide (s.md.veWatch = none)] ++
  (match s.md.veWatch with
   | some k =>
     [decide (100 ≤ k), decide (k < 100)]
   | _ => List.replicate 2 false) ++
  (match s.md.lcTarget with
   | some k =>
     [decide ((1 ≤ k) ∧ k ≤ 4)]
   | _ => List.replicate 1 false)

theorem test_ResetSources_met : covers [
   metResetSources 0 0xA5C30001 true (let u : State := (live mRun); { u with md := { u.md with lcTarget := some 3 } }),
   metResetSources 0 0xA5C30001 true
        (let u : State :=
            (let u : State := (
                (((grpS mRun gMoving).set F.pwtThermStatus_TRIP 1).set F.glbStatus_THERM_LATCH 1).set F.clkPllStatus_LOCK 1).set F.glbLc_LC_STATE 3;
             { u with
                shr := { u.shr with session := some (0, 1), password := some (5,6) }, hostMem := [(4, 7)], img := { u.img with key := some [5] } });
         { u with md := { u.md with pllLost := true, veWatch := some 200, lcTarget := some 4 } }),
   metResetSources 1 0x00000007 true (((live mRun)).set F.glbResetCfg_PERST_ACT 1),
   metResetSources 0 0xA5C30001 true (let u : State := (live mRun); { u with md := { u.md with veWatch := some 99 } })] = true := by decide +kernel

def metStartUpSteps (pairs : List (Nat × Nat × BitVec 256)) (ms : Fin 65536) (ok : Bool) (c : CalResult) (s : State) : List Bool :=
  let at' (n : Nat) : Bool := decide (s.md.bootStep = n ∧ s.md.bootStop = false)
  [decide ((at' 0) ∧ (s.md.wipeMark = false) ∧ ok = true), decide (¬ (at' 0 ∧ s.md.wipeMark = false ∧ ok = true)),
   decide ((at' 0) ∧ s.md.wipeMark = true), decide (¬ (at' 0 ∧ s.md.wipeMark = true)), decide (at' 1), decide (¬ at' 1)] ++
  [decide (s.mode = mCalibrate ∧ s.md.bootStep = 2 ∧ s.md.bootStop = false)] ++
  (if ¬ (s.mode = mCalibrate ∧ s.md.bootStep = 2 ∧ s.md.bootStop = false) then
    ([decide (s.mode = mCalibrate ∧ s.ready = true), decide (¬ (s.mode = mCalibrate ∧ s.ready = true))])
   else List.replicate 2 false) ++
  [decide (at' 3), decide (¬ at' 3)]

theorem test_StartUpSteps_met : covers [
   metStartUpSteps [] 0 true {} State.reset,
   metStartUpSteps [] 0 true {} (live mCalibrate),
   metStartUpSteps [] 0 true {} (let u : State := State.reset; { u with md := { u.md with bootStep := 1 } }),
   metStartUpSteps [] 0 true {} (let u : State := State.reset; { u with md := { u.md with bootStep := 3 } }),
   metStartUpSteps [] 0 true {}
      (let u : State := ((State.reset).set F.glbMode_MODE_ACT mCalibrate); { u with md := { u.md with bootStep := 2 } }),
   metStartUpSteps [] 0 true {}
        (let u : State :=
            (let u : State := (
                (
                  [(1,0),(2,1),(3,2),(4,3),(5,4),(6,5),(7,6)].foldl (
                    fun (u : State) (p : Nat × Nat) => { u with
                      img := { u.img with slots := (u.img.slots ++ [(p.1, some { h := { hdr0 with kind := p.2 }, code := [], data := [] })]) } }) (State.reset)));
             { u with shr := { u.shr with password := some (5,6) }, img := { u.img with key := some [5] } });
         { u with md := { u.md with wipeMark := true, lcTarget := some 3 } })] = true := by decide +kernel

def metLifeCycle (v : W32) (s : State) : List Bool :=
  [decide (s.shr.session = none), decide ((s.shr.session.isSome = true) ∧ (v.toNat / 2 ^ 16 ≠ 0x4C43 ∨ s.md.lcTarget.isSome = true)),
   decide ((s.shr.session.isSome = true) ∧ (v.toNat / 2 ^ 16 = 0x4C43) ∧ s.md.lcTarget = none), decide (s.md.lcTarget = none)] ++
  (match s.md.lcTarget with
   | some k =>
     [decide ((1 ≤ k) ∧ k ≤ 4)]
   | _ => List.replicate 1 false)

theorem test_LifeCycle_met : covers [
   metLifeCycle 2 State.reset,
   metLifeCycle 2
        (let u : State := (
            (
              (let u : State := (live mStandby);
                 { u with shr := { u.shr with session := some (0, 1), password := some (5,6) }, img := { u.img with key := some [5] } })).set F.glbLc_LC_STATE 1);
         { u with md := { u.md with lcTarget := some 2 } }),
   metLifeCycle 0x4C430002
        (let u : State := (live mStandby);
         { u with shr := { u.shr with session := some (0, 1), password := some (5,6) }, img := { u.img with key := some [5] } })] = true := by decide +kernel

def metAxisDescriptors (d : Desc) (s : State) : List Bool :=
  let a := d.f 1 7 0
  let g := d.f 1 12 8
  let m := d.f 1 19 16
  let free : Bool := decide (s.gst g = gIdle ∧ s.axisIdle a = true ∧ (s.memberAxis g m = none ∨ s.memberAxis g m = some a) ∧
    ((s.axis a).bound = none ∨ (s.axis a).bound = some (g, m)))
  (if accepts s 0x0100 d = true then
    ([decide (s.axisPresent a = false), decide ((s.axisPresent a = true) ∧ (d.fb 1 23 = true) ∧ (∀ h, s.groupOf a = some h → s.gst h = gIdle)),
      decide ((s.axisPresent a = true) ∧ (if d.fb 1 23 then ((s.groupOf a).any (fun h => decide (s.gst h ≠ gIdle))) = true else s.gst g ≠ gIdle ∨ s.axisIdle a = false)),
      decide ((s.axisPresent a = true) ∧ (d.fb 1 23 = false) ∧ (s.gst g = gIdle) ∧ (s.axisIdle a = true) ∧ ((((s.memberAxis g m).any (fun b => decide (b ≠ a))) = true) ∨ (((s.axis a).bound).any (fun x => decide (x ≠ (g, m)))) = true)),
      decide ((s.axisPresent a = true) ∧ (d.fb 1 23 = false) ∧ (free) ∧ (a < 24 ∨ (s.axis a).pe.isSome = true)),
      decide ((s.axisPresent a = true) ∧ (d.fb 1 23 = false) ∧ (free) ∧ (24 ≤ a) ∧ ((s.axis a).pe = none) ∧ s.peLoad s.peFor < s.peCap),
      decide ((s.axisPresent a = true) ∧ (d.fb 1 23 = false) ∧ (free) ∧ (24 ≤ a) ∧ ((s.axis a).pe = none) ∧ (s.peCap ≤ s.peLoad s.peFor) ∧ s.host.evBuf.length < 256)])
   else List.replicate 7 false) ++
  [decide ((accepts s 0x0101 d = true) ∧ s.axisPresent a = true), decide ((accepts s 0x0101 d = true) ∧ s.axisPresent a = false),
   decide (accepts s 0x0102 d = true)]

theorem test_AxisDescriptors_met : covers [
   metAxisDescriptors (D 6 200) (live mStandby),
   metAxisDescriptors (D 1 (5 + 0x200)) (grpS mRun gEnabled),
   metAxisDescriptors (D 1 (w1:=5+0x200+0x30000)) (live mStandby),
   metAxisDescriptors (D 1 (w1:=200+0x200+0x30000)) (live mStandby),
   metAxisDescriptors (D 1 (w1:=5+0x800000+0x200+0x30000)) (live mStandby),
   metAxisDescriptors (D 5 (w1:=0x25) (w2:=5) (w3:=0) (w4:=2^63+1) (w5:=3) (w6:=0)) (live mStandby),
   metAxisDescriptors (D 6 (w1:=5) (w2:=-5) (w3:=-100) (w4:=2^63+1) (w5:=3) (w6:=0)) (live mStandby),
   metAxisDescriptors (D 1 (w1:=5+0x200+0x30000)) ((live mStandby).updAxis 6 (fun x => {x with bound := some (2,3)})),
   metAxisDescriptors (D 1 (w1:=30+0x200+0x30000)) (
        { (live mStandby) with
          net := { (live mStandby).net with
            nodes := [
              (
                3,
                {
                  cfg := some {
                    owner := 1, wd := 4, rejoin := false, tse := false, port := 0, product := 0, vendor := 0, serial := 0, count := 8, base := 24,
                    ioOut := 0, ioIn := 0 } })] } }),
   metAxisDescriptors (D 1 (w1:=30+0x200+0x30000)) (
        (List.range 96).foldl (fun (s : State) k => s.updAxis (100+k) (fun x => {x with pe := some (24 + k % 8), bound := some (3,0)})) (
          { (live mStandby) with
            net := { (live mStandby).net with
              nodes := [
                (
                  3,
                  {
                    cfg := some {
                      owner := 1, wd := 4, rejoin := false, tse := false, port := 0, product := 0, vendor := 0, serial := 0, count := 8, base := 24,
                      ioOut := 0, ioIn := 0 } })] } }))] = true := by decide +kernel

def metMoves (d : Desc) (n : Fin 64) (s : State) : List Bool :=
  let g := d.f 1 4 0
  let o (imm more : Bool) : OpenMove := {
    group := g, tag := d.tag.toNat, ctol := d.f 1 63 48, feed := if d.f 1 42 32 = 0 then 1024 else min (d.f 1 42 32) 1024
    prof := d.f 1 7 5, rel := d.fb 1 8, imm := imm, targets := (matchTargets s d g (d.fb 1 8)).1, parts := 0
    step := s.clk.ticks, reserved := more }
  let b := buildSeg s (o false false)
  let takes : Bool := decide (takesEntries (s.gst g) = true)
  let m1 := d.force 1 9 9 0
  let m2 := d.force 1 9 9 1
  (if accepts s 0x0103 m1 = true then
    (if takes then
      (if d.fb 1 10 = false then
        ([decide ((0 < s.free? g) ∧ b.1 = 0), decide ((s.free? g = 0) ∧ b.1 = 0), decide (b.1 ≠ 0)])
       else List.replicate 3 false)
     else List.replicate 3 false)
   else List.replicate 3 false) ++
  [decide (b.2.1.len ≠ 0), decide ((accepts s 0x0103 m1 = true) ∧ ¬ takes)] ++
  (if accepts s 0x0103 m1 = true then
    (if takes then
      (if d.fb 1 10 = true then
        ([decide (0 < s.free? g), decide (s.free? g = 0)])
       else List.replicate 2 false)
     else List.replicate 2 false)
   else List.replicate 2 false) ++
  (if accepts s 0x0103 m2 = true then
    ([decide ((takes) ∧ (d.fb 1 10 = false) ∧ b.1 = 0), decide ((takes) ∧ (d.fb 1 10 = false) ∧ b.1 ≠ 0), decide ((takes) ∧ d.fb 1 10 = true),
      decide (¬ takes)])
   else List.replicate 4 false) ++
  [decide (accepts s 0x0104 d = true)] ++
  (match Table.look none s.plan.opens d.ring.val with
   | some x =>
     (if s.ringTakes d.ring.val = true then
       ((if (s.ring d.ring.val).fence = none then
          ((if s.mode ≠ mQuarantine then
             ((if 2 ≤ d.len.val then
                ((if x.group = g then
                   ((if x.reserved = true then
                      (let y : OpenMove := { x with
                         targets := x.targets.filter (fun e => !(matchTargets s d g x.rel).1.any (fun z => z.1 == e.1)) ++ (matchTargets s d g x.rel).1
                         parts := x.parts + 1, step := s.clk.ticks }
                       [decide ((d.fb 1 10 = true) ∧ x.parts = 0), decide ((d.fb 1 10 = false ∨ 1 ≤ x.parts) ∧ (x.imm = false) ∧ (buildSeg s y).1 = 0)])
                     else List.replicate 2 false))
                  else List.replicate 2 false))
               else List.replicate 2 false))
            else List.replicate 2 false))
         else List.replicate 2 false))
      else List.replicate 2 false)
   | _ => List.replicate 2 false) ++
  (match Table.look none s.plan.opens n.val with
   | some x =>
     [decide ((x.step + 16 ≤ s.clk.ticks) ∧ (x.imm = false) ∧ (x.reserved = true) ∧ ((buildSeg s x).1 = 0) ∧ s.host.evBuf.length < 256)]
   | _ => List.replicate 1 false)

theorem test_Moves_met : covers [
   metMoves (D 3 (w1:=2+0x180000) (w2:=0x100000000) (w3:=-0x200000000)) 0 (grpS mRun gIdle),
   metMoves (D 3 (w1:=2+0x180000) (w2:=0x100000000) (w3:=-0x200000000)) 0 (grpS mRun gEnabled),
   metMoves (D 3 (2 + 2 ^ 10) 0x100000000 5) 5 (stG.updGrp 2 (fun (p : GroupP) => { p with queue := List.replicate 256 (.move stSeg) })),
   metMoves (D 3 (w1:=2+0x180000) (w2:=0x100000000) (w3:=-0x200000000)) 0 (
        ((grpS mRun gEnabled).updAxis 5 (fun (x : AxisP) => { x with vmax := 0 })).updAxis 6 (fun (x : AxisP) => { x with vmax := 0 })),
   metMoves (D 3 (w1:=2+0x180000) (w2:=0x100000000) (w3:=-0x200000000)) 0 (
        { (
            { (grpS mRun gEnabled) with
              plan := { (grpS mRun gEnabled).plan with
                opens := [
                  (
                    0,
                    some {
                      group := 2, tag := 9, ctol := 0, feed := 1024, prof := 0, rel := true, imm := false, targets := [(3, 500)], parts := 0,
                      step := 0, reserved := true })] } }) with
          clk := { (
              { (grpS mRun gEnabled) with
                plan := { (grpS mRun gEnabled).plan with
                  opens := [
                    (
                      0,
                      some {
                        group := 2, tag := 9, ctol := 0, feed := 1024, prof := 0, rel := true, imm := false, targets := [(3, 500)], parts := 0,
                        step := 0, reserved := true })] } }).clk with
            ticks := 20 } }),
   metMoves (D 3 (w1:=2+0x180400) (w2:=0x100000000) (w3:=-0x200000000)) 0 (
        { (grpS mRun gEnabled) with
          plan := { (grpS mRun gEnabled).plan with
            opens := [
              (
                0,
                some {
                  group := 2, tag := 9, ctol := 0, feed := 1024, prof := 0, rel := true, imm := false, targets := [(3, 500)], parts := 0, step := 0,
                  reserved := true })] } }),
   metMoves (D 3 (w1:=2+0x180400) (w2:=0x100000000) (w3:=-0x200000000)) 0 (
        (grpS mRun gEnabled).updGrp 2 (
          fun (p : GroupP) => { p with
            queue := [
              .move (
                buildSeg (grpS mRun gEnabled) {
                  group := 2, tag := 5, ctol := 0, feed := 1024, prof := 0, rel := false, imm := false, targets := [(3, 100)], parts := 0, step := 0,
                  reserved := false }).2.1] })),
   metMoves (D 3 (w1:=2+0x180000) (w2:=0x100000000) (w3:=-0x200000000)) 0 (
        (grpS mRun gEnabled).updGrp 2 (
          fun (p : GroupP) => { p with
            queue := List.replicate 256 (
              .move (
                buildSeg (grpS mRun gEnabled) {
                  group := 2, tag := 5, ctol := 0, feed := 1024, prof := 0, rel := false, imm := false, targets := [(3, 100)], parts := 0, step := 0,
                  reserved := false }).2.1) }))] = true := by decide +kernel

def metGroupCommands (d : Desc) (k : Fin 32) (s : State) : List Bool :=
  let g := d.f 1 4 0
  let first : Bool := decide ((s.grp g).trig.filter (fun x => x.step == s.clk.ticks) = none)
  (if accepts s 0x0105 (d.force 1 11 8 1) = true then
    (if first then
      ([decide ((s.gst g = gIdle) ∧ s.mayEnable g = true), decide (s.gst g ≠ gIdle ∨ s.mayEnable g = false)])
     else List.replicate 2 false)
   else List.replicate 2 false) ++
  (if accepts s 0x0105 (d.force 1 11 8 2) = true then
    (if first then
      ([decide (s.gst g = gEnabled ∨ s.gst g = gHolding), decide ((s.gst g ≠ gEnabled) ∧ s.gst g ≠ gHolding)])
     else List.replicate 2 false)
   else List.replicate 2 false) ++
  (if accepts s 0x0105 (d.force 1 11 8 3) = true then
    (if first then
      ([decide (s.gst g = gMoving), decide (s.gst g ≠ gMoving)])
     else List.replicate 2 false)
   else List.replicate 2 false) ++
  (match (s.grp k.val).cur with
   | some e =>
     [decide ((e.stopped = false) ∧ (e.stopAt = none) ∧ (s.grp k.val).rels = [])]
   | _ => List.replicate 1 false) ++
  [decide (((s.grp k.val).cur = none) ∧ (s.grp k.val).stops = [])] ++
  (if accepts s 0x0105 (d.force 1 11 8 4) = true then
    (if first then
      ([decide ((s.gst g = gHolding) ∧ s.motionOk = true), decide (s.gst g ≠ gHolding ∨ s.motionOk = false)])
     else List.replicate 2 false)
   else List.replicate 2 false) ++
  (match (s.grp k.val).cur with
   | some e =>
     [decide ((e.stopped = true) ∧ (e.beyond = none) ∧ (e.stopAt = none) ∧ (e.done = true) ∧ (s.gst k.val = gMoving) ∧ (s.web.haul = none) ∧ (s.grp k.val).stops = [])]
   | _ => List.replicate 1 false) ++
  [decide (accepts s 0x0105 (d.force 1 11 8 5) = true), decide (accepts s 0x0105 (d.noCmd 5) = true)] ++
  (match (s.grp k.val).queue with
   | Entry.move b :: r =>
     [decide ((s.sees (.move b) = true) ∧ (s.gst k.val = gEnabled) ∧ (s.motionOk = true) ∧ ((s.grp k.val).rels = []) ∧ (s.grp k.val).cur = none)]
   | _ => List.replicate 1 false) ++
  (match (s.grp k.val).cur with
   | some e =>
     [decide ((e.done = true) ∧ (e.stopped = false) ∧ (e.beyond = none) ∧ (s.gst k.val = gMoving) ∧ ((s.grp k.val).nxt = none) ∧ ((s.grp k.val).queue = []) ∧ ((s.grp k.val).rels = []) ∧ ((s.grp k.val).stops = []) ∧ s.web.haul = none)]
   | _ => List.replicate 1 false)

theorem test_GroupCommands_met : covers [
   metGroupCommands (D 1 (w1:=2)) 2 stQ,
   metGroupCommands (D 1 (w1:=2)) 2 (stEnd false gMoving),
   metGroupCommands (D 1 (w1:=2)) 2 stRdy,
   metGroupCommands (D 1 (w1:=2)) 2 (stEnd false gHolding),
   metGroupCommands (D 1 (w1:=2)) 2 (stEnd true gMoving)] = true := by decide +kernel

def metCouplings (d : Desc) (k : Fin 32) (s : State) : List Bool :=
  let g := d.f 1 4 0
  let m := d.f 1 11 8
  let ct := d.f 1 30 26
  let src := if d.f 1 25 24 ≤ 2 then d.f 1 25 24 else 0
  let takes : Bool := decide (takesEntries (s.gst g) = true)
  let room : Bool := decide (0 < s.free? g)
  let bound : Bool := decide ((s.memberAxis g m).isSome = true)
  let master : Bool := decide (if src = 2 then s.web.refAxis ≠ 0xFF else s.axisPresent (d.f 1 23 16) = true)
  let table : Bool := decide ((Table.look {} s.plan.cams ct).ready = true)
  let engaged : Bool := s.plan.groups.any (fun e => e.2.rels.any (fun r => r.c.cam == some (d.f 1 4 0)))
  (if accepts s 0x0106 (d.force 1 27 27 0) = true then
    ([decide ((bound) ∧ (master) ∧ (takes) ∧ room), decide (¬ bound ∨ ¬ master), decide ((bound) ∧ (master) ∧ ¬ takes),
      decide ((bound) ∧ (master) ∧ (takes) ∧ ¬ room)])
   else List.replicate 4 false) ++
  (if accepts s 0x0106 (d.force 1 27 27 1) = true then
    ([decide ((bound) ∧ (takes) ∧ room), decide (¬ bound), decide ((bound) ∧ ¬ takes), decide ((bound) ∧ (takes) ∧ ¬ room)])
   else List.replicate 4 false) ++
  (if accepts s 0x0108 (d.force 1 31 31 0) = true then
    ([decide ((bound) ∧ (master) ∧ (table) ∧ (takes) ∧ room), decide (¬ bound ∨ ¬ master ∨ ¬ table), decide ((bound) ∧ (master) ∧ (table) ∧ ¬ takes),
      decide ((bound) ∧ (master) ∧ (table) ∧ (takes) ∧ ¬ room)])
   else List.replicate 4 false) ++
  (if accepts s 0x0108 (d.force 1 31 31 1) = true then
    ([decide ((bound) ∧ (takes) ∧ room), decide (¬ bound), decide ((bound) ∧ ¬ takes), decide ((bound) ∧ (takes) ∧ ¬ room)])
   else List.replicate 4 false) ++
  (if accepts s 0x0107 d = true then
    ([decide ((engaged = false) ∧ 2 ≤ d.f 1 28 16), decide ((engaged = false) ∧ d.f 1 28 16 < 2), decide (engaged = true)])
   else List.replicate 3 false) ++
  (match (Table.look {} s.plan.cams k.val).next with
   | some (pts, per) =>
     (if s.host.evBuf.length < 256 then
       ([decide (firstFall 0 pts = none), (match firstFall 0 pts with | some _ => true | _ => false)])
      else List.replicate 2 false)
   | _ => List.replicate 2 false) ++
  [decide (accepts s 0x0109 d = true)]

theorem test_Couplings_met : covers [
   metCouplings { D 2 (w1:=2+0x300+0x50000+0x4000000) (w2:=0x1000) (w3:=5) with len := 3 } 1 (
        { stG with
          plan := { stG.plan with cams := [(1, { next := some ([(0,0),(5,5)], true) }), (2, { next := some ([(0,0),(0,5)], true) })] } } : State),
   metCouplings { D 2 (w1:=2+0x300+0x50000+0x4000000) (w2:=0x1000) (w3:=5) with len := 3 } 1 (
        ({ stG with plan := { stG.plan with cams := [(1, { pts := [(0,0),(5,5)], ready := true })] } } : State).set (grpFld 2) 0),
   metCouplings { D 2 (w1:=2+0x300+0x50000+0x4000000) (w2:=0x1000) (w3:=5) with len := 3 } 1 (
        (
          { stG with plan := { stG.plan with cams := [(1, { pts := [(0,0),(5,5)], ready := true })] } } : State).updGrp 2 (fun (p : GroupP) => { p with queue := List.replicate 256 (.move stSeg) })),
   metCouplings (D 3 (w1:=2) (w2:=0x5000)) 1 (grpS mRun gIdle),
   metCouplings (D 2 (w1:=2) (w2:=0x5000)) 1 stQ,
   metCouplings { D 2 (w1:=2+0x300+0x50000+0x4000000) (w2:=0x1000) (w3:=5) with len := 3 } 1 (
        { stG with plan := { stG.plan with cams := [(1, { pts := [(0,0),(5,5)], ready := true })] } } : State),
   metCouplings { D 2 (w1:=5+0x50020) (w2:=0x1000) with data := (List.range 80).map (fun i => BitVec.ofNat 8 i) } 1 (
        { stG with plan := { stG.plan with cams := [(1, { pts := [(0,0),(5,5)], ready := true })] } } : State),
   metCouplings { D 2 (w1:=2+0x300+0x50000+0x4000000) (w2:=0x1000) (w3:=5) with len := 3 } 2 (
        { stG with
          plan := { stG.plan with cams := [(1, { next := some ([(0,0),(5,5)], true) }), (2, { next := some ([(0,0),(0,5)], true) })] } } : State),
   metCouplings { D 2 (w1:=5+0x50020) (w2:=0x1000) with data := (List.range 80).map (fun i => BitVec.ofNat 8 i) } 1 (
        { (
            { stG with
              plan := { stG.plan with cams := [(1, { next := some ([(0,0),(5,5)], true) }), (2, { next := some ([(0,0),(0,5)], true) })] } } : State) with
          plan := { (
              { stG with
                plan := { stG.plan with cams := [(1, { next := some ([(0,0),(5,5)], true) }), (2, { next := some ([(0,0),(0,5)], true) })] } } : State).plan with
            groups := [
              (
                7,
                {
                  rels := [
                    {
                      c := {
                        tag := 0, off := false, cam := some 5, source := 0, master := 0, member := 0, catchUp := false, num := 0, den := 1,
                        clutch := 0, mOff := 0, sOff := 0 }, m0 := 0, s0 := 0 }] })] } } : State)] = true := by decide +kernel

def metLoopDescriptors (d : Desc) (s : State) : List Bool :=
  let a := d.f 1 7 0
  (let op : Nat := 0x0200
   [decide (accepts s op d = true)]) ++
  (let op : Nat := 0x0201
   [decide (accepts s op d = true)]) ++
  (let op : Nat := 0x0202
   [decide (accepts s op d = true)]) ++
  (let op : Nat := 0x0203
   [decide (accepts s op d = true)]) ++
  (let op : Nat := 0x0204
   [decide (accepts s op d = true)]) ++
  (let op : Nat := 0x0205
   [decide (accepts s op d = true)]) ++
  (let op : Nat := 0x0206
   [decide (accepts s op d = true)]) ++
  (let op : Nat := 0x0207
   [decide (accepts s op d = true)]) ++
  (let op : Nat := 0x020B
   [decide (accepts s op d = true)]) ++
  (let x := s.axisL a
   [decide (x.notchPend = [])] ++
   (match x.notchPend with
    | [e] =>
      (orCols 1 ((List.range (4)).map (fun i =>
         [decide (i ≠ e.1)])))
    | _ => List.replicate 1 false) ++
   (match x.notchPend with
    | [e] =>
      [true] ++
      [decide (e.2.mode = 0)]
    | _ => List.replicate 2 false))

theorem test_LoopDescriptors_met : covers [
   metLoopDescriptors { (D 4 (w1:=5+0x1900) (w2:=0x1000300000640000) (w3:=0x0100000000400000) (w4:=5)) with len := 4 } (
        (
          ({ (live mStandby) with fbk := { (live mStandby).fbk with fbOwner := [(4,5)] } } : State).set (F.adcAinStatus_OWNER 7) 5).updAxisL 5 (fun x => { x with notches := [(0, { mode := 2, x1 := 7 })], notchPend := [(0, { mode := 0 })] })),
   metLoopDescriptors (D 5 (w1:=30)) (live mStandby),
   metLoopDescriptors (D 1 (w1:=30)) (live mStandby),
   metLoopDescriptors { (D 2 (w1:=5+0) (w2:=0xFFFFFFFFFFFFFFFF) (w3:=0x1234567812345678) (w4:=0x3) (w5:=0x100000002) (w6:=7)) with len := 2 } (
        ({ (live mStandby) with fbk := { (live mStandby).fbk with fbOwner := [(4,5)] } } : State).set (F.adcAinStatus_OWNER 7) 5),
   metLoopDescriptors { (D 3 (w1:=5+0x40400) (w2:=0xFFFFFFFFFFFFFFFF) (w3:=0x1234567812345678) (w4:=0x3) (w5:=0x100000002) (w6:=7)) with
        len := 3 } (({ (live mStandby) with fbk := { (live mStandby).fbk with fbOwner := [(4,5)] } } : State).set (F.adcAinStatus_OWNER 7) 5),
   metLoopDescriptors { (D 6 (w1:=5+0x1300) (w2:=0xFFFFFFFFFFFFFFFF) (w3:=0x1234567812345678) (w4:=0x3) (w5:=0x100000002) (w6:=7)) with len := 6 } (
        (
          ({ (live mStandby) with fbk := { (live mStandby).fbk with fbOwner := [(4,5)] } } : State).set (F.adcAinStatus_OWNER 7) 5).updNotch 5 3 (fun x => { x with mode := 2 }))] = true := by decide +kernel

def metIdentification (d : Desc) (k : Fin 256) (r : IdResult) (s : State) : List Bool :=
  let a := d.f 1 7 0
  let x := (s.axisL k.val).ident
  let room : Bool := decide (s.host.evBuf.length + 2 ≤ 256)
  [decide ((room) ∧ accepts s 0x0208 (d.force 1 13 13 0) = true)] ++
  (if room then
    (if accepts s 0x0208 (d.force 1 13 13 1) = true then
      ([decide (s.axisPresent a = false), decide ((s.axisPresent a = true) ∧ idRunning (s.axisL a).ident = false),
        decide ((s.axisPresent a = true) ∧ idRunning (s.axisL a).ident = true)])
     else List.replicate 3 false)
   else List.replicate 3 false) ++
  [decide (idRunning x = false)] ++
  (if room then
    ((if idRunning x = true then
       ([true] ++
        (let outside : Bool := decide (x.state = 1 ∧ (x.start < (s.axis k.val).softMin ∨ (s.axis k.val).softMax < x.start))
         let ready : Bool := decide (x.run = .excite ∨ (x.run = .rest ∧ idRuns s k.val ≤ x.begun))
         [decide (outside), decide ((¬ outside) ∧ ¬ ready), decide ((¬ outside) ∧ (ready) ∧ x.state < 6), decide ((ready) ∧ x.state = 6)]))
      else List.replicate 5 false))
   else List.replicate 5 false) ++
  (orCols 2 ((List.range (6)).map (fun st =>
     [decide (idNext x.steps st < 6)] ++
     (orCols 1 ((List.range (idNext x.steps st)).map (fun j =>
        [decide ((st < j) ∧ 2 ≤ j)])))))) ++
  (if accepts s 0x0209 d = true then
    ([decide (s.axisPresent a = false), decide (s.axisPresent a = true)])
   else List.replicate 2 false) ++
  (if accepts s 0x020A d = true then
    ([decide (s.axisPresent a = false), decide (s.axisPresent a = true)])
   else List.replicate 2 false)

def st35a : State :=
  (
    ((grpS mCommission gEnabled)).updAxisL 5 (
      fun x => { x with
        actual := 777,
        ident := { x.ident with
          steps := 15, state := 1, begun := 20, run := .rest, start := 0, xq := 99999, rs := 3, ampl := 50,
          res := [{ f := 5000000, damp := 3, peak := 5000}] } }))

theorem test_Identification_met : covers [
   metIdentification (D 2 (w1:=5) (w2:=0x5000)) 5 ({ rs := 1, xd := 2, xq := 3, angleOfs := 4, runs := [(3000000,4000000),(6000000,7000000)], steps := [(500,600000,7000000)], peaks := [(5000000,5,7000),(6000000,6,100),(7,7,8000),(500000,6,0x10000000000)], ampl := 44 } : IdResult) (
        ((grpS mCommission gEnabled)).updAxisL 5 (
          fun x => { x with
            actual := 777,
            ident := { x.ident with
              steps := 15, state := 6, begun := 20, run := .rest, start := 0, xq := 99999, rs := 3, ampl := 50,
              res := [{ f := 5000000, damp := 3, peak := 5000}] } })),
   metIdentification (D 4 (w1:=30+0x900)) 5 (
        {
          rs := 1, xd := 2, xq := 3, angleOfs := 4, runs := [(3000000,4000000),(6000000,7000000)], steps := [(500,600000,7000000)],
          peaks := [(5000000,5,7000),(6000000,6,100),(7,7,8000),(500000,6,0x10000000000)], ampl := 44 } : IdResult) ((grpS mCommission gEnabled)),
   metIdentification (D 2 (w1:=30+0x900)) 5 (
        {
          rs := 1, xd := 2, xq := 3, angleOfs := 4, runs := [(3000000,4000000),(6000000,7000000)], steps := [(500,600000,7000000)],
          peaks := [(5000000,5,7000),(6000000,6,100),(7,7,8000),(500000,6,0x10000000000)], ampl := 44 } : IdResult) ((grpS mCommission gEnabled)),
   metIdentification (D 4 (w1:=5+0x900) (w2:=1000) (w3:=50) (w4:=0xFFFFFFFF00000005)) 5 ({ rs := 1, xd := 2, xq := 3, angleOfs := 4, runs := [(3000000,4000000),(6000000,7000000)], steps := [(500,600000,7000000)], peaks := [(5000000,5,7000),(6000000,6,100),(7,7,8000),(500000,6,0x10000000000)], ampl := 44 } : IdResult) (
        ((grpS mCommission gEnabled)).updAxisL 5 (
          fun x => { x with
            actual := 777,
            ident := { x.ident with
              steps := 15, state := 2, begun := 0, run := .rest, start := 0, xq := 99999, rs := 3, ampl := 50,
              res := [{ f := 5000000, damp := 3, peak := 5000}] } })),
   metIdentification (D 4 (w1:=5+0x000) (w3:=50)) 5 (
        {
          rs := 1, xd := 2, xq := 3, angleOfs := 4, runs := [(3000000,4000000),(6000000,7000000)], steps := [(500,600000,7000000)],
          peaks := [(5000000,5,7000),(6000000,6,100),(7,7,8000),(500000,6,0x10000000000)], ampl := 44 } : IdResult) ((grpS mCommission gEnabled)),
   metIdentification (D 4 (w1:=5+0x900) (w2:=1000) (w3:=50) (w4:=0xFFFFFFFF00000005)) 5 (
        {
          rs := 1, xd := 2, xq := 3, angleOfs := 4, runs := [(3000000,4000000),(6000000,7000000)], steps := [(500,600000,7000000)],
          peaks := [(5000000,5,7000),(6000000,6,100),(7,7,8000),(500000,6,0x10000000000)], ampl := 44 } : IdResult) st35a,
   metIdentification (D 4 (w1:=5+0x900) (w2:=1000) (w3:=50) (w4:=0xFFFFFFFF00000005)) 5 (
        {
          rs := 1, xd := 2, xq := 3, angleOfs := 4, runs := [(3000000,4000000),(6000000,7000000)], steps := [(500,600000,7000000)],
          peaks := [(5000000,5,7000),(6000000,6,100),(7,7,8000),(500000,6,0x10000000000)], ampl := 44 } : IdResult) (st35a.updAxis 5 (fun (x : AxisP) => { x with softMin := 5 }))] = true := by decide +kernel

def metWebDescriptors (d : Desc) (s : State) : List Bool :=
  (let op : Nat := 0x0300
   let d' : Desc := d
   [decide (accepts s op d' = true)]) ++
  (let op : Nat := 0x0301
   let d' : Desc := (d.force 1 15 15 0)
   [decide (accepts s op d' = true)]) ++
  (let op : Nat := 0x0301
   let d' : Desc := (d.force 1 15 15 1)
   [decide (accepts s op d' = true)]) ++
  (let op : Nat := 0x0302
   let d' : Desc := (d.force 1 32 32 0)
   [decide (accepts s op d' = true)]) ++
  (let op : Nat := 0x0302
   let d' : Desc := (d.force 1 32 32 1)
   [decide (accepts s op d' = true)]) ++
  (let op : Nat := 0x0303
   let d' : Desc := d
   [decide (accepts s op d' = true)]) ++
  (let op : Nat := 0x0304
   let d' : Desc := (d.force 1 25 25 0)
   [decide (accepts s op d' = true)]) ++
  (let op : Nat := 0x0304
   let d' : Desc := (d.force 1 25 25 1)
   [decide (accepts s op d' = true)]) ++
  (let op : Nat := 0x0306
   let d' : Desc := d
   [decide (accepts s op d' = true)]) ++
  (let op : Nat := 0x0305
   let d' : Desc := d
   [decide (accepts s op d' = true)]) ++
  [decide (accepts s 0x0307 d = true)]

def st36a : State :=
  (
    (
      (
        (
          (
            (
              (live mStandby).updRoll 3 (fun x => { x with on := true, cpr := 4096, dFix := 2^30 })).updRoll 4 (fun x => { x with on := true, cpr := 4096, dFix := 2^30 })).updRoll 5 (fun x => { x with on := true, cpr := 4096, dFix := 2^30 })).updSpan 7 (fun x => { x with on := true, up := 3, dn := 4, len := 2^33, tMax := 99 })).updSpan 8 (fun x => { x with on := true, up := 4, dn := 5, upstream := 7, len := 2^33, source := 3 })).updWinder 2 (fun x => { x with on := true, axis := 5, span := 8, d := 5*2^40, dMax := 9, dCore := 2 }))

theorem test_WebDescriptors_met : covers [
   metWebDescriptors { (D 7 (w1:=0xFF+0x50000)) with len := 7 } (live mStandby),
   metWebDescriptors
      { (D 2 (w1:=2) (w2:=0xF00000F000000FFF) (w3:=0x0000001234567812) (w4:=0x3) (w5:=0x100000002) (w6:=7)) with len := 2, w7 := 0x1234567812345678 }
      st36a,
   metWebDescriptors
      { (D 4 (w1:=200) (w2:=0xF00000F000000FFF) (w3:=0x0000001234567812) (w4:=0x3) (w5:=0x100000002) (w6:=7)) with len := 4, w7 := 0x1234567812345678 }
      st36a,
   metWebDescriptors
      { (D 5 (w1:=0x8) (w2:=0xF00000F000000FFF) (w3:=0x0000001234567812) (w4:=0x3) (w5:=0x100000002) (w6:=7)) with len := 5, w7 := 0x1234567812345678 }
      st36a,
   metWebDescriptors
      { (D 3 (w1:=7) (w2:=0xF00000F000000FFF) (w3:=0x0000001234567812) (w4:=0x3) (w5:=0x100000002) (w6:=7)) with len := 3, w7 := 0x1234567812345678 }
      st36a] = true := by decide +kernel

def metWebEvents (i : Nat) (k : Fin 24) (w : Fin 8) (s : State) : List Bool :=
  let room : Bool := decide (s.host.evBuf.length < 256)
  (match s.web.mats[i]? with
   | some m =>
     (match m.wait with
      | some p =>
        (if p ≤ (s.axis s.web.refAxis).visPos ∨ s.web.refAxis = 0xFF then
          ([decide (m.all = false), decide (m.all = true)])
         else List.replicate 2 false)
      | _ => List.replicate 2 false) ++
     (match m.wait with
      | some p =>
        [decide (((s.axis s.web.refAxis).visPos < p) ∧ s.web.refAxis ≠ 0xFF)]
      | _ => List.replicate 1 false) ++
     (match webTo s m.span 26 k.val with
      | some l =>
        [decide ((m.wait = none) ∧ (m.spans.contains k.val = false) ∧ ((s.span k.val).on = true) ∧ ((l + (s.span k.val).len / 2 : Nat) : Int) ≤ s.web.sL - m.entered)]
      | _ => List.replicate 1 false) ++
     (match webTo s m.span 26 k.val with
      | some l =>
        [decide (s.web.sL - m.entered < ((l + (s.span k.val).len / 2 : Nat) : Int))]
      | _ => List.replicate 1 false) ++
     (match webTo s m.span 26 (s.winder k.val).span with
      | some l =>
        [decide ((m.wait = none) ∧ (m.winders.contains k.val = false) ∧ ((s.winder k.val).on = true) ∧ ((s.winder k.val).unwind = false) ∧ ((l + (s.span (s.winder k.val).span).len : Nat) : Int) ≤ s.web.sL - m.entered)]
      | _ => List.replicate 1 false)
   | _ => List.replicate 6 false) ++
  (let x := s.winder w.val
   let ratio := rdiv (x.revLen.natAbs * 2 ^ 96 : Nat) piQ64
   (if x.on = true then
     (if (s.roll x.axis).cpr * 65536 ≤ (s.actual x.axis - x.revPos).natAbs then
       ([decide (x.slow = true), decide ((x.slow = false) ∧ (x.devMax = 0 ∨ (ratio - x.d).natAbs * 1000000 ≤ x.devMax * 2 ^ 64)),
         decide ((x.slow = false) ∧ (¬ (x.devMax = 0 ∨ (ratio - x.d).natAbs * 1000000 ≤ x.devMax * 2 ^ 64)) ∧ (x.dev = false) ∧ room)])
      else List.replicate 3 false)
    else List.replicate 3 false)) ++
  (let x := s.winder w.val
   [decide ((x.on = true) ∧ (s.actual x.axis - x.revPos).natAbs < (s.roll x.axis).cpr * 65536)]) ++
  (if (s.span k.val).on = true then
    (if (s.span k.val).broke = false then
      (if room then
        ([decide (16 ≤ (s.span k.val).breakRun), decide ((s.span k.val).breakRun < 16)])
       else List.replicate 2 false)
     else List.replicate 2 false)
   else List.replicate 2 false) ++
  (match s.web.haul with
   | some h =>
     (if s.mode = mHauldown then
       ([decide (16 ≤ h.still), decide (h.still < 16)])
      else List.replicate 2 false)
   | _ => List.replicate 2 false) ++
  (if s.web.pubDiv ≠ 0 then
    ((if s.tickNo % s.web.pubDiv = 0 then
       ([true] ++
        [decide (room)])
      else List.replicate 2 false))
   else List.replicate 2 false) ++
  [decide (s.web.pubDiv = 0 ∨ s.tickNo % s.web.pubDiv ≠ 0)]

def st37b : State :=
  (
    (
      (
        (
          (
            (live mStandby).updRoll 3 (fun x => { x with on := true, cpr := 4096, dFix := 2^30 })).updRoll 4 (fun x => { x with on := true, cpr := 4096, dFix := 2^30 })).updRoll 5 (fun x => { x with on := true, cpr := 4096, dFix := 2^30 })).updSpan 7 (fun x => { x with on := true, up := 3, dn := 4, len := 2^33, tMax := 99 })).updSpan 8 (fun x => { x with on := true, up := 4, dn := 5, upstream := 7, len := 2^33, source := 3 }))
def st37a : State :=
  (st37b.updWinder 2 (fun x => { x with on := true, axis := 5, span := 8, d := 5*2^40, dMax := 9, dCore := 2 }))

theorem test_WebEvents_met : covers [
   metWebEvents 0 7 2 (
        { st37a with
          web := { st37a.web with
            mats := [
              { ea := 5, h := 6, span := 7, all := false, wait := none, entered := 0, spans := [], winders := [] },
              { ea := 5, h := 6, span := 7, all := false, wait := some (-5), entered := 0, spans := [7], winders := [] }], sL := 2^36, refAxis := 3,
            pubDiv := 1, pubAddr := 0x4000 } } : State),
   metWebEvents 0 7 2 (
        (
          { (live mStandby) with web := { (live mStandby).web with haul := some { phases := [], t0 := 0, v0 := 0, aHd := 1, still := 16 } } } : State).set F.glbMode_MODE_ACT mHauldown),
   metWebEvents 1 7 2 (
        (
          { (live mStandby) with web := { (live mStandby).web with haul := some { phases := [], t0 := 0, v0 := 0, aHd := 1, still := 15 } } } : State).set F.glbMode_MODE_ACT mHauldown),
   metWebEvents 0 7 2 (st37b.updSpan 7 (fun x => { x with breakRun := 16 })),
   metWebEvents 0 7 2 (st37a.updAxisL 5 (fun x => { x with actual := 4096*65536 })),
   metWebEvents 0 7 2 ((st37a.updAxisL 5 (fun x => { x with actual := 4096*65536 })).updWinder 2 (fun x => { x with slow := true })),
   metWebEvents 0 7 2 ((st37a.updAxisL 5 (fun x => { x with actual := 4096*65536 })).updWinder 2 (fun x
      => { x with revLen := 2^33, devMax := 1 })),
   metWebEvents 0 7 2 (
        { st37a with
          web := { st37a.web with
            mats := [
              { ea := 5, h := 6, span := 7, all := true, wait := some (-5), entered := 0, spans := [], winders := [] },
              { ea := 5, h := 6, span := 8, all := false, wait := some 50, entered := 0, spans := [8], winders := [] }], sL := 2^36, refAxis := 3 } } : State),
   metWebEvents 1 7 2 (
        { st37a with
          web := { st37a.web with
            mats := [
              { ea := 5, h := 6, span := 7, all := true, wait := some (-5), entered := 0, spans := [], winders := [] },
              { ea := 5, h := 6, span := 8, all := false, wait := some 50, entered := 0, spans := [8], winders := [] }], sL := 2^36, refAxis := 3 } } : State),
   metWebEvents 1 7 2 (
        { st37a with
          web := { st37a.web with
            mats := [
              { ea := 5, h := 6, span := 7, all := false, wait := none, entered := 0, spans := [], winders := [] },
              { ea := 5, h := 6, span := 7, all := false, wait := some (-5), entered := 0, spans := [7], winders := [] }], sL := 2^36, refAxis := 3,
            pubDiv := 1, pubAddr := 0x4000 } } : State),
   metWebEvents 0 2 2 (
        { st37a with
          web := { st37a.web with
            mats := [
              { ea := 5, h := 6, span := 7, all := false, wait := none, entered := 0, spans := [], winders := [] },
              { ea := 5, h := 6, span := 7, all := false, wait := some (-5), entered := 0, spans := [7], winders := [] }], sL := 2^36, refAxis := 3,
            pubDiv := 1, pubAddr := 0x4000 } } : State),
   metWebEvents 0 7 2 (
        (
          { (
              { st37a with
                web := { st37a.web with
                  mats := [
                    { ea := 5, h := 6, span := 7, all := false, wait := none, entered := 0, spans := [], winders := [] },
                    { ea := 5, h := 6, span := 7, all := false, wait := some (-5), entered := 0, spans := [7], winders := [] }], sL := 2^36,
                  refAxis := 3, pubDiv := 1, pubAddr := 0x4000 } } : State) with
            web := { (
                { st37a with
                  web := { st37a.web with
                    mats := [
                      { ea := 5, h := 6, span := 7, all := false, wait := none, entered := 0, spans := [], winders := [] },
                      { ea := 5, h := 6, span := 7, all := false, wait := some (-5), entered := 0, spans := [7], winders := [] }], sL := 2^36,
                    refAxis := 3, pubDiv := 1, pubAddr := 0x4000 } } : State).web with
              sL := 0 } } : State))] = true := by decide +kernel

def metPwmUpdates (who : Option (Fin 38)) (n : Fin 24) (p : Fin 4) (cyc : Nat) (s : State) : List Bool :=
  (if s.slotPresent n.val = true then
    ([true] ++
     (let x := s.slot n.val
      let now := (s.atCyc cyc).nowFx
      let u := s.atCyc cyc
      let own : Bool := decide (who.map (·.val) = some n.val ∨
        (who = none ∧ s.ready = true ∧ s.mode = mService ∧ u.clk.engWrote.contains (A.pwmSlotCommit n.val) = false))
      let q := x.pair p.val
      let free := s.getB (F.pwmSlotCfg_TB n.val)
      let live : Bool := decide (s.frozen n.val = false)
      [decide (own)] ++
      (orCols 1 (([0, 1, 2, 3, 5, 7, 9] : List (Fin 38)).map (fun e =>
         [decide (e.val ≠ n.val)]))) ++
      [decide (who = none ∧ (s.ready = false ∨ s.mode ≠ mService))] ++
      (match x.commit with
       | some c =>
         (if s.getB (F.pwmSlotCfg_TAKE n.val) = true then
           (if c.per = none then
             (if live then
               ([decide (c.due ≤ now), decide (now < c.due)])
              else List.replicate 2 false)
            else List.replicate 2 false)
          else List.replicate 2 false)
       | _ => List.replicate 2 false) ++
      [decide (free = true)] ++
      (match u.carrierAt n.val false with
       | some t0 =>
         [decide (free = false)]
       | _ => List.replicate 1 false) ++
      [decide (s.frozen n.val = true ∨ u.carrierAt n.val false = none), decide (s.frozen n.val = true ∨ u.carrierAt n.val true = none)] ++
      (match u.carrierAt n.val false with
       | some t0 =>
         [decide ((live) ∧ (s.getB (F.pwmSlotCtrl_RUN n.val) = true) ∧ (x.commit = none) ∧ (s.get (F.pwmSlotPerAct_PER_ACT n.val) = 0 ∨ s.get (F.pwmSlotPerAct_PER_ACT n.val) = s.periodOf n.val))]
       | _ => List.replicate 1 false) ++
      (if live then
        ((if x.pulsing = true then
           ((match q.rise with
             | some t0 =>
               [decide ((t0 < now + s.clk.incr) ∧ q.on = false)]
             | _ => List.replicate 1 false) ++
            (match q.fall with
             | some t0 =>
               [decide ((t0 < now + s.clk.incr) ∧ q.on = true)]
             | _ => List.replicate 1 false) ++
            [decide (q.rise = none)] ++
            (match q.rise with
             | some t0 =>
               [decide (now + s.clk.incr ≤ t0)]
             | _ => List.replicate 1 false) ++
            (match q.fall with
             | some t0 =>
               [decide (now + s.clk.incr ≤ t0)]
             | _ => List.replicate 1 false))
          else List.replicate 5 false))
       else List.replicate 5 false) ++
      [decide (free = true)] ++
      (match u.carrierAt n.val true with
       | some t0 =>
         [decide ((live) ∧ s.getB (F.pwmSlotCfg_DBL n.val) = false)]
       | _ => List.replicate 1 false) ++
      (match u.carrierAt n.val true with
       | some t0 =>
         [decide ((live) ∧ (free = true) ∧ (s.getB (F.pwmSlotCfg_DBL n.val) = true) ∧ x.commit = none)]
       | _ => List.replicate 1 false)))
   else List.replicate 19 false)

def st38a : State :=
  (
    (
      (
        (((live mRun).set (F.pwmSlotCtrl_RUN 5) 1).setReg (A.pwmSlotTiming 5) 0x00500030).set (F.pwmSlotCmpaAct_CMPA_ACT 5 1) 1000).set (F.pwmSlotCmpbAct_CMPB_ACT 5 1) 9000).set (F.pwmSlotCmpa_CMPA 5 1) 77)
def st38b : State :=
  (
    (((live mRun).set (F.pwmSlotCtrl_RUN 5) 1).set (F.pwmSlotCfg_TAKE 5) 1).updSlot 5 (
      fun x => { x with
        tEnd := 5, commit := some { a := [1, 2, 3, 4], b := [5, 6, 7, 8], per := none, wrote := 0, made := 7, due := 0x50000000, meas := some 5 } }))

theorem test_PwmUpdates_met : covers [
   metPwmUpdates (some 5) 5 1 300 (((st38a.set (F.pwmSlotCfg_TB 5) 1).set (F.pwmSlotCfg_DBL 5) 1).set (F.pwmSlotPer_PER 5) 50000),
   metPwmUpdates none 5 1 0 st38a,
   metPwmUpdates none 5 1 300 (
        (st38a.updSlot 5 (fun x => { x with pulsing := true })).updPair 5 1 (
          fun q => { q with fall := some 0x500000000, on := true, high := some 0x4F0000000 })),
   metPwmUpdates none 5 1 3 (
        (st38a.updSlot 5 (fun x => { x with pulsing := true })).updPair 5 1 (
          fun q => { q with rise := some 0x50000000000000, fall := some 0x50000000000000, on := true })),
   metPwmUpdates none 5 1 80000 st38a,
   metPwmUpdates (some 5) 5 1 0 st38b,
   metPwmUpdates (some 5) 5 1 2000 st38b,
   metPwmUpdates none 5 1 300 ((st38a.updSlot 5 (fun x => { x with pulsing := true })).updPair 5 1 (fun q
      => { q with rise := some 0x500000000 })),
   metPwmUpdates (some 5) 5 1 80000 ((((st38a.set (F.pwmSlotCfg_TB 5) 1).set (F.pwmSlotCfg_DBL 5) 1).set (F.pwmSlotPer_PER 5) 50000).set
      (F.pwmSlotStatus_SAFE 5) 0)] = true := by decide +kernel

def metPwmFaults (who : Option (Fin 38)) (n : Fin 24) (f : Fin 8) (cyc : Nat) (s : State) : List Bool :=
  (if s.slotPresent n.val = true then
    ([true] ++
     (let u := s.atCyc cyc
      let own : Bool := decide (who.map (·.val) = some n.val ∨
        (who = none ∧ s.ready = true ∧ s.mode = mService ∧ u.clk.engWrote.contains (A.pwmSlotCtrl n.val) = false)
      )
      let latch := s.getB (F.pwmSlotStatus_FLT_LATCH n.val)
      let may : Bool := decide (latch = false ∧ s.getB (F.pwmSlotStatus_CAL_FAULT n.val) = false ∧
        s.mode ∉ [mReset, mCalibrate, mSto, mThermal, mQuarantine] ∧ s.getB F.pwtThermStatus_TRIP = false ∧
        s.getB (F.pwmSlotStatus_FLT_ACTIVE n.val) = false ∧ (s.slot n.val).excepted = false)
      let run (t : State) : Bool := t.getB (F.pwmSlotCtrl_RUN n.val)
      (if own then
        ([decide (may), decide (¬ may), decide (run s = true), decide (run s = false)])
       else List.replicate 4 false) ++
      [decide (who = none ∧ (s.ready = false ∨ s.mode ≠ mService)), decide (s.ready = false ∨ s.clk.engWrote.contains (A.pwmSlotStatus n.val) = true),
       decide ((s.ready = true) ∧ (s.clk.engWrote.contains (A.pwmSlotStatus n.val) = false) ∧ s.spared (A.pwmSlotStatus n.val) 2 = 2)]))
   else List.replicate 8 false)

def st39a : State :=
  (
    (
      (
        (((live mRun).set (F.pwmSlotCtrl_RUN 5) 1).setReg (A.pwmSlotTiming 5) 0x00500030).set (F.pwmSlotCmpaAct_CMPA_ACT 5 1) 1000).set (F.pwmSlotCmpbAct_CMPB_ACT 5 1) 9000).set (F.pwmSlotCmpa_CMPA 5 1) 77)

theorem test_PwmFaults_met : covers [
   metPwmFaults (some 5) 5 2 3 (live mRun),
   metPwmFaults none 5 1 0 ((live mRun).set F.glbStatus_READY 0),
   metPwmFaults (some 5) 5 2 3 st39a,
   metPwmFaults (some 5) 5 2 3 (pwmFault 2 (st39a.setReg (A.pwmSlotCfg 5) 0x0C000001))] = true := by decide +kernel

def metAdcTriggers (who : Option (Fin 38)) (c : Fin 32) (cyc : Nat) (s : State) : List Bool :=
  (if c.val / 2 < s.get F.adcInfo_PAIRS then
    ([true] ++
     (let u := s.atCyc cyc
      let j := c.val / 2
      let x := s.conv c.val
      let now := u.nowFx
      let ilv := s.getB (F.adcPairCfg_ILV j)
      let lead := if ilv then j * 2 else c.val
      let mode := s.get (F.adcConvCfg_MODE lead)
      let acq := s.get (F.adcConvCfg_ACQ lead)
      let ok (m : Nat) : Bool := decide (mode ≠ 0 ∧ s.getB (F.adcConvStatus_DIAG_FAULT m) = false ∧ s.getB (F.adcPairStatus_CAL_FAULT j) = false
      )
      let src := s.get (F.adcConvTrig_SRC c.val)
      let per := s.get (F.adcConvTimer_PERIOD c.val)
      let ph := s.get (F.adcConvTimer_PHASE c.val)
      let ev := s.get (F.adcConvTrig_EVENT c.val)
      [decide ((who = none) ∧ (s.ready = true) ∧ u.clk.engWrote.contains (A.adcConvSwtrig c.val) = false),
       decide (s.ready = false ∨ u.clk.engWrote.contains (A.adcConvSwtrig c.val) = true)] ++
      (orCols 2 (([0, 1, 2, 3, 5, 7, 9] : List (Fin 38)).map (fun e =>
         (if who = some e then
           ([decide (s.ioMay e.val (A.adcConvSwtrig c.val) = true), decide (s.ioMay e.val (A.adcConvSwtrig c.val) = false)])
          else List.replicate 2 false)))) ++
      [decide ((src = 1) ∧ (ph ≤ cyc) ∧ (cyc - ph) % per = 0), decide (¬ (src = 1 ∧ ph ≤ cyc ∧ (cyc - ph) % per = 0))] ++
      (let te := Table.look none (s.slot (ev / 8)).events (ev % 8)
       let edge (e : Nat) := s.clk.clk + (e - s.clk.clk + s.clk.incr - 1) / s.clk.incr * s.clk.incr
       (match te with
        | some e =>
          [decide ((src = 2) ∧ edge e = now)]
        | _ => List.replicate 1 false) ++
       [decide (src ≠ 2 ∨ te = none ∨ ∀ e, te = some e → edge e ≠ now)]) ++
      (let conv := x.start + acq * s.clk.incr
       let done := conv + 25 * s.clk.incr
       [decide ((ok c.val) ∧ (x.running = true) ∧ (x.injecting = false) ∧ (x.inject = none) ∧ (done ≤ now) ∧ x.entry < 8),
        decide (¬ (ok c.val ∧ (x.running = true ∨ x.injecting = true) ∧ done ≤ now))] ++
       (match x.inject with
        | some i =>
          [true] ++
          [decide ((ok c.val) ∧ (x.running = true) ∧ (x.injecting = false) ∧ (done ≤ now) ∧ (mode ≠ 2) ∧ (ilv = false) ∧ s.get (F.adcConvCfg_LEN c.val) ≤ x.entry)]
        | _ => List.replicate 2 false)) ++
      (let pass : Bool := decide (mode = 2 ∧ x.entry = 0 ∧ x.start ≤ now ∧ now < x.start + s.clk.incr)
       let apply : Bool := decide ((x.running = false ∨ pass) ∧ x.injecting = false)
       (orCols 1 (([0, 1, 5] : List (W32)).map (fun v =>
          [decide ((x.pend = [(A.adcConvTimer c.val, v)]) ∧ apply)]))) ++
       [decide (x.pend = [] ∨ ¬ apply)])))
   else List.replicate 15 false)

theorem test_AdcTriggers_met : covers [
   metAdcTriggers none 3 20000 (
        (
          (
            (
              (
                (((live mRun).setReg (A.adcConvCfg 3) 0x00200101).setReg (A.adcConvSeq 3 0) 0x00000502).set (F.adcConvTrig_SRC 3) 1).updConv 3 (fun x => { x with running := true, entry := 1, start := (live mRun).nowFx })).updConv 2 (fun x => { x with pend := [(A.adcConvTimer 2, 0x1234)] }))).updConv 3 (fun x => { x with inject := some (0, 1) })),
   metAdcTriggers none 3 0 ((live mRun).set F.glbStatus_READY 0),
   metAdcTriggers none 3 0 ((live mRun).updConv 3 (fun x => { x with pend := [(A.adcConvTimer 3, 5)] })),
   metAdcTriggers (some 1) 3 0 ((List.range 96).foldl (fun (u : State) k => u.set (F.adcAinStatus_OWNER k) 1) ((live mRun).setReg (A.adcConvCfg
      3) 0x00200101)),
   metAdcTriggers (some 2) 3 0 ((List.range 96).foldl (fun (u : State) k => u.set (F.adcAinStatus_OWNER k) 1) ((live mRun).setReg (A.adcConvCfg
      3) 0x00200101)),
   metAdcTriggers none 3 20000 (
        (
          (
            (((live mRun).setReg (A.adcConvCfg 3) 0x00200101).setReg (A.adcConvSeq 3 0) 0x00000502).set (F.adcConvTrig_SRC 3) 1).updConv 3 (fun x => { x with running := true, pend := [(A.adcConvTimer 3, 0x1234)] }))),
   metAdcTriggers none 3 0x60 (
        (
          (
            (
              (
                (
                  (((live mRun).setReg (A.adcConvCfg 3) 0x00200101).setReg (A.adcConvSeq 3 0) 0x00000502).set (F.adcConvTrig_SRC 3) 1).setReg (A.adcConvTimer 3) 0x00280010).set (F.adcConvTrig_SRC 3) 2).set (F.adcConvTrig_DELAY 3) 9).updSlot 0 (fun x => { x with events := Table.put none 0 (some ((live mRun).nowFx + 0x5F * (live mRun).clk.incr + 1)) x.events })))] = true := by decide +kernel

def metAdcChannels (d : Desc) (who : Option (Fin 38)) (sdi : Bool) (k : Fin 96) (i : Fin 48) (j : Fin 16) (c : Fin 32) (cyc : Nat) (s : State) : List Bool :=
  let u := s.atCyc cyc
  let now := u.nowFx
  let e0 := d.f 1 29 24
  let e := if e0 ≤ 33 ∨ e0 = 35 then e0 else 35
  let there : Bool := decide ((sdi = true ∧ k.val < 48) ∨ (sdi = false ∧ k.val < s.get F.adcInfo_AINS))
  let y := s.ain sdi k.val
  let x := s.ain true i.val
  let pairs := s.get F.adcInfo_PAIRS
  let lead (m : Nat) := if s.getB (F.adcPairCfg_ILV (m / 2)) then m / 2 * 2 else m
  let mode (m : Nat) := s.get (F.adcConvCfg_MODE (lead m))
  let ok (m : Nat) : Bool := decide (m / 2 < pairs ∧ mode m ≠ 0 ∧
    s.getB (F.adcConvStatus_DIAG_FAULT m) = false ∧ s.getB (F.adcPairStatus_CAL_FAULT (m / 2)) = false
  )
  let taken (a : Nat) : Bool := decide ((who = none ∧ s.ready = true ∧ u.clk.engWrote.contains a = false) ∨
    ((who).any (fun e => decide (s.ioMay e.val a = true))) = true)
  [decide (accepts s 0x0600 d = true)] ++
  (let on : Bool := decide (s.getB (F.adcSdiCfg_EN i.val) = true ∧ (s.get F.adcSdclkCfg_OFF).testBit (i.val / 4) = false)
   [decide (on), decide (¬ on)]) ++
  [decide (s.getB (F.adcSdiCfg_EN i.val) = false), decide (s.getB (F.adcSdiCfg_EN i.val) = true)] ++
  (if there then
    (let runs : Bool := decide (s.getB (F.adcSdiCfg_EN k.val) = true ∧ (s.get F.adcSdclkCfg_OFF).testBit (k.val / 4) = false)
     let grid := 16 * 2 ^ s.get (F.adcSdiCfg_OSR k.val) * (if (s.get F.adcSdclkCfg_DIV).testBit (k.val / 4) then 40 else 20) * s.clk.incr
     let due (at' : Nat) : Bool := decide ((sdi = false ∧ at' + 120 * s.clk.incr ≤ now) ∨
       (sdi = true ∧ (¬ runs ∨ y.last = 0 ∨ at' < y.last + grid)))
     (match y.closed.head? with
      | some g =>
        [decide (due g.at')]
      | _ => List.replicate 1 false) ++
     [decide (∀ g, y.closed.head? = some g → ¬ due g.at')])
   else List.replicate 2 false) ++
  [decide (¬ there)] ++
  (let z := Table.look {} s.adc.diags j.val
   let per := s.get (F.adcPairCfg_DIAG_PERIOD j.val)
   let due : Bool := decide (j.val < pairs ∧ s.getB (F.adcPairStatus_DIAG_OFF j.val) = false ∧ 0 < per ∧ per ≤ z.ticks)
   [decide (due), decide (¬ due)]) ++
  (let p := s.conv c.val
   let conv := p.start + s.get (F.adcConvCfg_ACQ (lead c.val)) * s.clk.incr
   let done := conv + 25 * s.clk.incr
   (match p.inject with
    | some n =>
      [true] ++
      [decide ((p.injecting = true) ∧ (ok c.val) ∧ (done ≤ now) ∧ n.1 < 8)]
    | _ => List.replicate 2 false)) ++
  (let a := A.adcConvStatus c.val
   let clears : Bool := decide (c.val / 2 < pairs ∧ s.getB (F.adcConvStatus_DIAG_FAULT c.val) = true ∧ u.spared a 0x100 = 0x100)
   [decide ((taken a) ∧ clears), decide ((taken a) ∧ ¬ clears)] ++
   [decide ((who = none) ∧ (s.ready = false ∨ u.clk.engWrote.contains a = true))] ++
   (orCols 1 (([0, 1, 2, 3, 5, 7, 9] : List (Fin 38)).map (fun e =>
      [decide ((who = some e) ∧ s.ioMay e.val a = false)])))) ++
  (let a := A.adcSdiStatus i.val
   let clears : Bool := decide (s.getB (F.adcSdiStatus_STUCK i.val) = true ∧ x.toggled = true ∧ u.spared a 4 = 4)
   [decide ((taken a) ∧ clears), decide ((taken a) ∧ ¬ clears)] ++
   [decide ((who = none) ∧ (s.ready = false ∨ u.clk.engWrote.contains a = true))] ++
   (orCols 1 (([0, 1, 2, 3, 5, 7, 9] : List (Fin 38)).map (fun e =>
      [decide ((who = some e) ∧ s.ioMay e.val a = false)])))) ++
  (match y.recover with
   | some w =>
     [decide ((there) ∧ w ≤ now)]
   | _ => List.replicate 1 false) ++
  [decide (¬ there ∨ y.recover = none ∨ ∀ w, y.recover = some w → now < w)]

def st41a : State :=
  (
    (
      (
        (((live mRun).setReg (A.adcSdiCfg 7) 0x00000803).setReg (A.adcSdiStatus 7) 0x05000000).updAin true 7 (
          fun x => { x with
            last := 5, closed := [{ at' := 5, sum := 7, cnt := 9, clip := true }, { at' := 8, sum := 1, cnt := 2 }], recover := some 0x500,
            toggled := true })).updAin false 7 (fun x => { x with closed := [{ at' := 5, sum := 7, cnt := 9}], recover := some 0x5000000000, toggled := true })).updAxisL 4 (fun x => { x with cfg := { x.cfg with sdi := true, inA := 7 } }))

theorem test_AdcChannels_met : covers [
   metAdcChannels (D 1) none true 70 7 1 3 20000 (
        (
          (((((live mRun).setReg (A.adcConvCfg 3) 0x00200101).setReg (A.adcPairCfg 1) 0x00031000).set (F.adcPairStatus_DIAG_OFF 1) 0))).updConv 3 (fun x => { x with inject := some (0, 1), injecting := true })),
   metAdcChannels (D 1 0x18010700) (some 5) true 7 7 1 3 20000 ((st41a.set (F.adcSdiStatus_STUCK 7) 1).set (F.adcSdiStatus_FAULT 7) 1),
   metAdcChannels (D 1) none true 7 7 1 3 0 ((live mRun).set F.glbStatus_READY 0),
   metAdcChannels (D 1) (some 1) true 7 7 1 3 0 (live mRun),
   metAdcChannels (D 1 0x18000700) none false 7 7 1 3 200000 (
        { ((((((live mRun).setReg (A.adcConvCfg 3) 0x00200101).setReg (A.adcPairCfg 1) 0x00031000).set (F.adcPairStatus_DIAG_OFF 1) 0))) with
          adc := { ((((((live mRun).setReg (A.adcConvCfg 3) 0x00200101).setReg (A.adcPairCfg 1) 0x00031000).set (F.adcPairStatus_DIAG_OFF 1) 0))).adc with
            diags := [(1, ({ ticks := 3, level := 2, entry1 := 1 } : PairDiag))] } } : State),
   metAdcChannels (D 1 0x22000700) none false 7 7 1 3 200000 ((st41a.set (F.adcConvStatus_DIAG_FAULT 3) 1).setReg (A.adcConvCfg 3) 0x00200101)] = true := by decide +kernel

def metFeedback (d : Desc) (who : Option (Fin 38)) (n : Fin 32) (lines : Fin 8) (cyc : Nat) (s : State) : List Bool :=
  let x := s.fb n.val
  let u := s.atCyc cyc
  let now := u.nowFx
  let e0 := d.f 1 29 24
  let e := if e0 ≤ 33 ∨ e0 = 35 then e0 else 35
  let mode := s.get (F.fbkFbCfg_MODE n.val)
  let en := s.getB (F.fbkFbCtrl_EN n.val)
  let meth := s.getB (F.fbkFbStatus_METHOD n.val)
  let flt := s.getB (F.fbkFbStatus_FAULT n.val)
  let runs : Bool := decide (en = true ∧ mode ≠ 0 ∧ s.getB (F.fbkFbStatus_CFG_ERR n.val) = false)
  let stat := A.fbkFbStatus n.val
  let taken (a : Nat) : Bool := decide ((who = none ∧ s.ready = true ∧ u.clk.engWrote.contains a = false) ∨
    ((who).any (fun e => decide (s.ioMay e.val a = true))) = true)
  [decide (accepts s 0x0700 d = true)] ++
  (let a := A.fbkFbCtrl n.val
   [decide ((taken a) ∧ en = false), decide ((taken a) ∧ en = true)] ++
   [decide ((who = none) ∧ (s.ready = false ∨ u.clk.engWrote.contains a = true))] ++
   (orCols 1 (([0, 1, 2, 3, 5, 7, 9] : List (Fin 38)).map (fun e =>
      [decide ((who = some e) ∧ s.ioMay e.val a = false)]))) ++
   [decide ((taken a) ∧ en = true), decide ((taken a) ∧ en = false)] ++
   [decide ((who = none) ∧ (s.ready = false ∨ u.clk.engWrote.contains a = true))] ++
   (orCols 1 (([0, 1, 2, 3, 5, 7, 9] : List (Fin 38)).map (fun e =>
      [decide ((who = some e) ∧ s.ioMay e.val a = false)])))) ++
  (let seq : List Nat := if mode = 1 then [0, 1, 3, 2] else [1, 3, 2, 6, 4, 5]
   let from' := if mode = 1 then x.lines % 4 else x.hall
   let to' := if mode = 1 then lines.val % 4 else lines.val
   let step := (seq.idxOf to' + seq.length - seq.idxOf from') % seq.length
   let fwd := !s.getB (F.fbkFbCfg_INV n.val)
   let counting : Bool := decide (runs ∧ (mode = 1 ∨ mode = 2) ∧ lines.val ≠ x.lines)
   let counts (up : Bool) : Bool := decide (counting ∧ from' ∈ seq ∧ to' ∈ seq ∧ step = (if up = fwd then 1 else seq.length - 1))
   let illegal : Bool := decide (counting ∧ ((mode = 1 ∧ step = 2) ∨ (mode = 2 ∧ (lines.val = 0 ∨ lines.val = 7 ∨
    (from' ∈ seq ∧ 2 ≤ step ∧ step ≤ 4))))
   )
   (orCols 1 (([false, true] : List (Bool)).map (fun up =>
      [decide (counts up)]))) ++
   [decide (illegal), decide ((¬ illegal) ∧ (∀ up : Bool, ¬ counts up))]) ++
  [decide ((runs) ∧ mode = 1), decide (¬ (runs ∧ mode = 1))] ++
  (let due (t0 : Nat) : Bool := decide (runs ∧ (mode = 1 ∨ mode = 2) ∧ meth = false ∧ t0 + s.get (F.fbkFbSpd_STILL_T n.val) * 10000 * 2 ^ 32 ≤ now)
   (match x.times.head? with
    | some t0 =>
      [decide (due t0)]
    | _ => List.replicate 1 false) ++
   [decide (∀ t0, x.times.head? = some t0 → ¬ due t0)]) ++
  (let div := s.get (F.fbkFbSpd_GDIV n.val)
   let due : Bool := decide (runs ∧ (mode = 1 ∨ mode = 2) ∧ now % (s.ftNs * 2 ^ 32 / 2 ^ div) < s.clk.incr)
   [decide (¬ due), decide ((due) ∧ x.gateOk = false), decide ((due) ∧ x.gateOk = true)]) ++
  (let clears : Bool := decide (flt = true ∧ u.spared stat 0x100 = 0x100)
   [decide ((taken stat) ∧ clears), decide ((taken stat) ∧ ¬ clears)] ++
   (let a : Nat := stat
    [decide ((who = none) ∧ (s.ready = false ∨ u.clk.engWrote.contains a = true))] ++
    (orCols 1 (([0, 1, 2, 3, 5, 7, 9] : List (Fin 38)).map (fun e =>
       [decide ((who = some e) ∧ s.ioMay e.val a = false)])))))

def st42a : State :=
  (
    ((((live mRun).setReg (A.fbkFbCfg 5) 0x501).set (F.fbkFbCtrl_EN 5) 1).set (F.fbkFbStatus_STILL 5) 0).updFb 5 (
      fun x => { x with lines := 1, times := [0x500, 0x300,0x200], gate := 3, gateOk := true, perSpeed := 0x1234, badAt := some 5, speed := 9 }))

theorem test_Feedback_met : covers [
   metFeedback (D 1) (some 1) 5 1 0 (live mRun),
   metFeedback (D 1) none 5 3 2000000 st42a,
   metFeedback (D 1) none 5 1 0 ((live mRun).set F.glbStatus_READY 0),
   metFeedback (D 1 0x05000700) none 5 1 20000 (live mRun),
   metFeedback (D 1 0x05010700) none 5 3 20000 (((live mRun).setReg (A.fbkFbCfg 5) 0x501).set (F.fbkFbCtrl_EN 5) 1),
   metFeedback (D 1 0x05000500) none 5 3 2000000 (
        (grpS mRun gEnabled).setReg (A.fbkFbCtrl 5) 1 |>.updAxisL 5 (fun x => { x with cfg := { x.cfg with fbCh := 5 } }) |>.set (F.fbkFbStatus_FAULT 5) 1),
   metFeedback (D 1) none 29 3 2000000 (
        (
          ((st42a.setReg (A.fbkFbCfg 29) 0x501).set (F.fbkFbCtrl_EN 29) 1).set (F.fbkFbStatus_STILL 29) 0).updFb 29 (fun x => { x with lines := 1, times := [0x500, 0x300], raw := 7, turn := 7 }))] = true := by decide +kernel

def metSerialEncoders (n : Fin 32) (started : Bool) (raw : W64) (nE nW : Bool) (crc : Fin 64) (cyc : Nat) (s : State) : List Bool :=
  let x := s.fb n.val
  let u := s.atCyc cyc
  let now := u.nowFx
  let mode := s.get (F.fbkFbCfg_MODE n.val)
  let runs : Bool := decide (s.getB (F.fbkFbCtrl_EN n.val) = true ∧ mode ≠ 0 ∧ s.getB (F.fbkFbStatus_CFG_ERR n.val) = false)
  (let owner := s.fbOwner n.val
   let due : Bool := decide (runs ∧ (mode = 3 ∨ mode = 4) ∧ (cyc = 0 ∨ (s.getB (F.fbkFbSer_TRIG n.val) = true ∧ owner < 24 ∧
     (List.range (s.subN owner)).any (fun i => s.subCycle owner i == cyc) = true)))
   [decide ((due) ∧ (x.busy = false) ∧ x.freeAt ≤ now), decide ((due) ∧ (x.busy = true ∨ now < x.freeAt)), decide (¬ due)]) ++
  (let width := s.get (F.fbkFbSer_BITS n.val)
   let got := raw.toNat % 2 ^ width
   let word := got * 4 + (if nE then 2 else 0) + (if nW then 1 else 0)
   let good : Bool := decide (started = true ∧ (mode = 3 ∨ (nE = true ∧ crc.val = 63 - crc6 (width + 2) word 0)))
   [decide ((x.busy = true) ∧ (good) ∧ x.prevV < 2 ^ width), decide ((x.busy = true) ∧ ¬ good), decide (x.busy = false)]) ++
  (let a := s.get (F.fbkFbAna_SIN_IN n.val)
   let j := a / 6
   [decide ((runs) ∧ (mode = 6) ∧ j < 16), decide (¬ (runs ∧ mode = 6))])

theorem test_SerialEncoders_met : covers [
   metSerialEncoders 5 true 0x3 true true 0 0 (((live mRun).setReg (A.fbkFbCfg 5) 0x3).set (F.fbkFbCtrl_EN 5) 1),
   metSerialEncoders 5 true 0x123456 true true 0 2000 (
        (((live mRun).setReg (A.fbkFbCfg 5) 0x3).set (F.fbkFbCtrl_EN 5) 1).updFb 5 (
          fun x => { x with busy := true, readAt := 0x123456789A, fails := 2})),
   metSerialEncoders 5 true 0x3 true true 0 0 ((((live mRun).setReg (A.fbkFbCfg 5) 0x3).set (F.fbkFbCtrl_EN 5) 1).updFb 5 (fun x
      => { x with freeAt := 2^80 })),
   metSerialEncoders 5 false 0x123456 true true 0 2000 (
        (((live mRun).setReg (A.fbkFbCfg 5) 0x3).set (F.fbkFbCtrl_EN 5) 1).updFb 5 (
          fun x => { x with busy := true, readAt := 0x123456789A, fails := 2})),
   metSerialEncoders 5 true 0x123456 true true 0 2000 ((((((live mRun).setReg (A.fbkFbCfg 5) 0x6).set (F.fbkFbCtrl_EN 5) 1).setReg (A.fbkFbAna 5)
      0x000C0908).setReg (A.adcConvCfg 2) 0x00200001).setReg (A.adcConvSeq 2 0) 2)] = true := by decide +kernel

def metLatches (who : Option (Fin 38)) (i : Fin 16) (rise : Bool) (taps : Fin 128) (ok : Bool) (cyc : Nat) (s : State) : List Bool :=
  let l := s.lat i.val
  let u := s.atCyc cyc
  let now := u.nowFx
  let t0 := now + taps.val * s.clk.incr / 128
  let sel := s.get (F.latLatCfg_EDGE i.val)
  let n := s.get (F.latLatCfg_FB_CH i.val)
  let single := s.getB (F.latLatCfg_SINGLE i.val)
  let armed := s.getB (F.latLatStatus_ARMED i.val)
  let ctrl := A.latLatCtrl i.val
  (let takes : Bool := decide ((sel = 3 ∨ (sel = 1 ∧ rise = true) ∨ (sel = 2 ∧ rise = false)) ∧ armed = true ∧
     s.getB (F.latLatStatus_CAL_FAULT i.val) = false ∧ l.holdoff ≤ t0 ∧ (single = true → l.armedAt ≤ now))
   let inside : Bool := decide (s.getB (F.latLatCfg_WIN_EN i.val) = false ∨
     (s.reg (A.fbkFbPos n) - s.reg (A.latLatWinCenter i.val)).toInt.natAbs ≤ s.get (F.latLatWinHalf_HALF i.val))
   [decide ((takes) ∧ inside), decide ((takes) ∧ ¬ inside), decide (¬ takes)]) ++
  (match l.waiting.head? with
   | some w =>
     let still := s.get (F.fbkFbSpd_STILL_T w.ch) * 10000 * 2 ^ 32
     (match w.ta with
      | some ta =>
        (match w.nb with
         | some nb =>
           (if w.ch < 32 then
             (if w.bad = false then
               (if ta ≤ w.time then
                 (if ta < nb.2.1 then
                   (let gap := nb.2.1 - ta
                    let inTime : Bool := decide (nb.2.1 ≤ w.time + still)
                    let pair : Bool := decide (gap ≤ still ∧ nb.2.2 = w.down ∧ inTime)
                    [decide ((w.counting = true) ∧ (pair) ∧ (w.down = false) ∧ nb.1 = w.na + 1),
                     decide ((w.counting = true) ∧ (pair) ∧ (w.down = true) ∧ nb.1 = w.na - 1),
                     decide ((w.counting = true) ∧ (¬ pair ∨ (w.down = false ∧ nb.1 ≠ w.na + 1) ∨ (w.down = true ∧ nb.1 ≠ w.na - 1))),
                     decide ((w.counting = false) ∧ inTime), decide ((w.counting = false) ∧ ¬ inTime)])
                  else List.replicate 5 false)
                else List.replicate 5 false)
              else List.replicate 5 false)
            else List.replicate 5 false)
         | _ => List.replicate 5 false)
      | _ => List.replicate 5 false) ++
     [decide ((w.ch < 32) ∧ (w.bad = true ∨ (w.ta = none ∧ w.nb ≠ none))), decide ((w.nb = none) ∧ w.bad = false),
      decide ((w.ch < 32) ∧ (w.nb = none) ∧ w.time + still < now), decide (w.nb ≠ none ∨ now ≤ w.time + still)]
   | _ => List.replicate 9 false) ++
  [decide (l.waiting = [])] ++
  (let taken : Bool := decide ((who = none ∧ s.ready = true ∧ u.clk.engWrote.contains ctrl = false) ∨
    ((who).any (fun e => decide (s.ioMay e.val ctrl = true))) = true)
   let may : Bool := decide (who ≠ none ∨ s.mode = mService ∨ s.latOwner i.val = 35)
   [decide ((taken) ∧ (single = true) ∧ armed = false), decide ((taken) ∧ (single = false ∨ armed = true)), decide ((taken) ∧ may),
    decide ((taken) ∧ ¬ may)] ++
   [decide ((who = none) ∧ (s.ready = false ∨ u.clk.engWrote.contains ctrl = true))] ++
   (orCols 1 (([0, 1, 2, 3, 5, 7, 9] : List (Fin 38)).map (fun e =>
      [decide ((who = some e) ∧ s.ioMay e.val ctrl = false)]))) ++
   [decide ((who = none) ∧ (s.ready = false ∨ u.clk.engWrote.contains ctrl = true))] ++
   (orCols 1 (([0, 1, 2, 3, 5, 7, 9] : List (Fin 38)).map (fun e =>
      [decide ((who = some e) ∧ s.ioMay e.val ctrl = false)]))) ++
   [decide ((who = none) ∧ (s.ready = false ∨ u.clk.engWrote.contains ctrl = true))] ++
   (orCols 1 (([0, 1, 2, 3, 5, 7, 9] : List (Fin 38)).map (fun e =>
      [decide ((who = some e) ∧ s.ioMay e.val ctrl = false)])))) ++
  (let fails : Bool := decide (s.mode = mRun ∧ ok = false ∧ s.getB (F.latLatStatus_CAL_FAULT i.val) = false)
   [decide (fails), decide (¬ fails)])

def st44a : State :=
  (
    (((((live mRun).setReg (A.latLatCfg 3) 0x0005050B).set (F.latLatStatus_ARMED 3) 1).setReg (A.fbkFbPos 5) 0x1234).setReg (A.fbkFbSpd 5) 0x01900004).updLat 3 (
      fun l => { l with
        seq := 300,
        waiting := [
          {
            time := 5000002000644531250*4294967296/1000000000, ch := 5, rise := true, na := 0x123450, ta := some (5000001250*4294967296),
            down := false, counting := true, bad := false, nb := none : LatWait },
          {
            time := 5000002000644531250*4294967296/1000000000, ch := 5, rise := true, na := 0x123450, ta := some (5000001250*4294967296),
            down := false, counting := true, bad := false, nb := none : LatWait }], recs := List.replicate 2 { time := 5, pos := 7, info := 8 } }))

theorem test_Latches_met : covers [
   metLatches (some 5) 3 false 5 false 200 ({st44a with fbk := { st44a.fbk with latOwner := [(3, 4)] } } : State),
   metLatches none 3 true 5 true 0 ((live mRun).set F.glbStatus_READY 0),
   metLatches none 3 true 5 false 200 (((((live mRun).setReg (A.latLatCfg 3) 0x0005050B).set (F.latLatStatus_ARMED 3) 1).setReg (A.fbkFbPos 5)
      0x1234).set (F.latLatCfg_WIN_EN 3) 1),
   metLatches none 3 true 5 true 200 (((((live mRun).setReg (A.latLatCfg 3) 0x0005050B).set (F.latLatStatus_ARMED 3) 1).setReg (A.fbkFbPos 5)
      0x1234).set (F.latLatStatus_ARMED 3) 0),
   metLatches none 3 true 5 true 200 (
        (((((live mRun).setReg (A.latLatCfg 3) 0x0005050B).set (F.latLatStatus_ARMED 3) 1).setReg (A.fbkFbPos 5) 0x1234).setReg (A.fbkFbSpd 5) 0x01900004).updLat 3 (
          fun l => { l with
            seq := 300,
            waiting := [
              {
                time := 5000002000644531250*4294967296/1000000000, ch := 5, rise := true, na := 0x123450, ta := some (5000001250*4294967296),
                down := false, counting := true, bad := true, nb := none : LatWait },
              {
                time := 5000002000644531250*4294967296/1000000000, ch := 5, rise := true, na := 0x123450, ta := some (5000001250*4294967296),
                down := false, counting := true, bad := true, nb := none : LatWait }], recs := List.replicate 2 { time := 5, pos := 7, info := 8 } })),
   metLatches none 3 true 5 true 200 (
        (((((live mRun).setReg (A.latLatCfg 3) 0x0005050B).set (F.latLatStatus_ARMED 3) 1).setReg (A.fbkFbPos 5) 0x1234).setReg (A.fbkFbSpd 5) 0x01900004).updLat 3 (
          fun l => { l with
            seq := 300,
            waiting := [
              {
                time := 5000002000644531250*4294967296/1000000000, ch := 5, rise := true, na := 0x123450, ta := some (5000001250*4294967296),
                down := true, counting := true, bad := false, nb := (some (0x12344F, 5000003250*4294967296, true)) : LatWait },
              {
                time := 5000002000644531250*4294967296/1000000000, ch := 5, rise := true, na := 0x123450, ta := some (5000001250*4294967296),
                down := true, counting := true, bad := false, nb := (some (0x12344F, 5000003250*4294967296, true)) : LatWait }],
            recs := List.replicate 6 { time := 5, pos := 7, info := 8 } })),
   metLatches none 3 true 5 true 200 (
        (((((live mRun).setReg (A.latLatCfg 3) 0x0005050B).set (F.latLatStatus_ARMED 3) 1).setReg (A.fbkFbPos 5) 0x1234).setReg (A.fbkFbSpd 5) 0x01900004).updLat 3 (
          fun l => { l with
            seq := 300,
            waiting := [
              {
                time := 5000002000644531250*4294967296/1000000000, ch := 5, rise := true, na := 0x123450, ta := some (5000001250*4294967296),
                down := true, counting := true, bad := false, nb := (some (0x12344F, 5000003250*4294967296, false)) : LatWait },
              {
                time := 5000002000644531250*4294967296/1000000000, ch := 5, rise := true, na := 0x123450, ta := some (5000001250*4294967296),
                down := true, counting := true, bad := false, nb := (some (0x12344F, 5000003250*4294967296, false)) : LatWait }],
            recs := List.replicate 15 { time := 5, pos := 7, info := 8 } })),
   metLatches none 3 true 5 false 200 (
        (((((live mRun).setReg (A.latLatCfg 3) 0x0005050B).set (F.latLatStatus_ARMED 3) 1).setReg (A.fbkFbPos 5) 0x1234).setReg (A.fbkFbSpd 5) 0x01900004).updLat 3 (
          fun l => { l with
            seq := 300,
            waiting := [
              {
                time := 5000002000644531250*4294967296/1000000000, ch := 5, rise := true, na := 0x123450, ta := some (5000001250*4294967296),
                down := false, counting := true, bad := false, nb := (some (0x123451, 5000003250*4294967296, false)) : LatWait },
              {
                time := 5000002000644531250*4294967296/1000000000, ch := 5, rise := true, na := 0x123450, ta := some (5000001250*4294967296),
                down := false, counting := true, bad := false, nb := (some (0x123451, 5000003250*4294967296, false)) : LatWait }],
            recs := List.replicate 0 { time := 5, pos := 7, info := 8 } })),
   metLatches none 3 true 5 true 200 (
        (((((live mRun).setReg (A.latLatCfg 3) 0x0005050B).set (F.latLatStatus_ARMED 3) 1).setReg (A.fbkFbPos 5) 0x1234).setReg (A.fbkFbSpd 5) 0x01900004).updLat 3 (
          fun l => { l with
            seq := 300,
            waiting := [
              {
                time := 5000002000644531250*4294967296/1000000000, ch := 5, rise := true, na := 0x123450, ta := some (5000001250*4294967296),
                down := false, counting := false, bad := false, nb := (some (0x123471, 5000003250*4294967296, false)) : LatWait },
              {
                time := 5000002000644531250*4294967296/1000000000, ch := 5, rise := true, na := 0x123450, ta := some (5000001250*4294967296),
                down := false, counting := false, bad := false, nb := (some (0x123471, 5000003250*4294967296, false)) : LatWait }],
            recs := List.replicate 2 { time := 5, pos := 7, info := 8 } })),
   metLatches none 3 true 5 true 200 (
        (((((live mRun).setReg (A.latLatCfg 3) 0x0005050B).set (F.latLatStatus_ARMED 3) 1).setReg (A.fbkFbPos 5) 0x1234).setReg (A.fbkFbSpd 5) 0x01900004).updLat 3 (
          fun l => { l with
            seq := 300,
            waiting := [
              {
                time := 5000002000644531250*4294967296/1000000000, ch := 5, rise := true, na := 0x123450, ta := some (5000001250*4294967296),
                down := false, counting := false, bad := false, nb := (some (0x123451, 5004003250*4294967296, false)) : LatWait },
              {
                time := 5000002000644531250*4294967296/1000000000, ch := 5, rise := true, na := 0x123450, ta := some (5000001250*4294967296),
                down := false, counting := false, bad := false, nb := (some (0x123451, 5004003250*4294967296, false)) : LatWait }],
            recs := List.replicate 2 { time := 5, pos := 7, info := 8 } })),
   metLatches none 3 true 5 true 200 ({ st44a with clk := { st44a.clk with clk := 2^90 } } : State),
   metLatches none 3 true 5 true 200 ({st44a with fbk := { st44a.fbk with latOwner := [(3, 4)] } } : State)] = true := by decide +kernel

def metCaptureControl (d : Desc) (m : Fin 4) (s : State) : List Bool :=
  (let d' : Desc := (d.force 1 11 8 1)
   [decide (accepts s 0x0800 d' = true)]) ++
  (let d' : Desc := (d.force 1 11 8 2)
   [decide (accepts s 0x0800 d' = true)]) ++
  (let d' : Desc := (d.force 1 11 8 3)
   [decide (accepts s 0x0800 d' = true)]) ++
  (let d' : Desc := (d.force 1 11 8 4)
   [decide (accepts s 0x0800 d' = true)]) ++
  (let d' : Desc := (d.noCmd 4)
   [decide (accepts s 0x0800 d' = true)]) ++
  (let k := m.val
   let z := s.cu k
   let su := s.get (F.capCuStatus_STATE k)
   let need := s.get (F.capCuAlloc_ALLOC k)
   let free := s.get F.capFree_FREE
   (match s.cap.cmds.head? with
    | some x =>
      (if s.cap.cmds.length = 1 then
        ((if x.unit = k then
           ([true] ++
            (orCols 1 (([0, 1, 2, 3] : List (Fin 4)).map (fun j =>
               [decide (j ≠ m)]))) ++
            [decide ((x.cmd = 1) ∧ su = 0)] ++
            (if x.cmd = 1 then
              ((if su = 0 then
                 ((if need ≤ free then
                    ([true] ++
                     (orCols 1 (([0, 1, 2, 3] : List (Fin 4)).map (fun j =>
                        [decide (j ≠ m)]))))
                   else List.replicate 2 false))
                else List.replicate 2 false))
             else List.replicate 2 false) ++
            (if x.cmd = 1 then
              ((if su = 0 then
                 ((if free < need then
                    ([true] ++
                     [decide (s.host.evBuf.length < 256)])
                   else List.replicate 2 false))
                else List.replicate 2 false))
             else List.replicate 2 false) ++
            [decide ((x.cmd = 2) ∧ (su = 2 ∨ su = 3)), decide ((x.cmd = 2) ∧ (su = 1 ∨ su = 4)), decide (x.cmd = 3), decide ((x.cmd = 4) ∧ su ≠ 0),
             decide ((x.cmd = 1 ∧ su ≠ 0) ∨ ((x.cmd = 2 ∨ x.cmd = 4) ∧ su = 0))])
          else List.replicate 12 false))
       else List.replicate 12 false)
    | _ => List.replicate 12 false) ++
   (let arming : Bool := decide (su = 1 ∧ need ≤ free ∧ s.clk.cyc = 0)
    let dead : Bool := decide (su = 4 ∧ need ≤ free ∧ z.reserved = false)
    [decide (arming), decide (dead), decide ((¬ arming) ∧ ¬ dead)])) ++
  (let k := m.val
   let waits : List CapEntry := Table.look [] s.cap.queues k
   let works : Bool := decide (s.engWorks eCE = true ∧ Table.look false s.clk.late eCE = false ∧ s.getB (F.hriCrCfg_EN k) = true)
   let n := 2 ^ s.get (F.hriCrCfg_SIZE k)
   let tail := s.reg (A.hriCrTail k)
   let room : Bool := decide ((tail - s.reg (A.hriCrHead k)).toInt < (n : Int))
   (if works then
     (match waits.head? with
      | some e =>
        [decide ((room) ∧ (e.body.length = 126) ∧ e.unit < 4)]
      | _ => List.replicate 1 false)
    else List.replicate 1 false) ++
   [decide ((works) ∧ (waits ≠ []) ∧ ¬ room), decide (¬ works ∨ waits = [])])

def st45a : State :=
  (
    (
      (
        ((live mRun).set (F.capCuAlloc_ALLOC 1) 16).set (F.capCuStatus_STATE 1) 2).updCu 1 (fun x => { x with own := 3, recs := [{ time := 5, words := [1] }] })))

theorem test_CaptureControl_met : covers [
   metCaptureControl (D 2) 1 (
        (
          { (((live mRun).set (F.capCuAlloc_ALLOC 1) 16)) with
            cap := { (((live mRun).set (F.capCuAlloc_ALLOC 1) 16)).cap with
              cmds := [({ unit := 1, cmd := 1, count := 0, pre := 5, post := 7, clamped := false } : CapCmd)] } } : State)),
   metCaptureControl (D 2) 1 (
        (
          { (((live mRun).setReg (A.capCuAlloc 1) 0x7000)) with
            cap := { (((live mRun).setReg (A.capCuAlloc 1) 0x7000)).cap with
              cmds := [({ unit := 1, cmd := 1, count := 0, pre := 5, post := 7, clamped := false } : CapCmd)] } } : State)),
   metCaptureControl (D 2) 1 (
        (
          { ((((live mRun).set (F.capCuAlloc_ALLOC 1) 16).set (F.capCuStatus_STATE 1) 4)) with
            cap := { ((((live mRun).set (F.capCuAlloc_ALLOC 1) 16).set (F.capCuStatus_STATE 1) 4)).cap with
              cmds := [({ unit := 1, cmd := 2, count := 0, pre := 5, post := 7, clamped := false } : CapCmd)] } } : State)),
   metCaptureControl (D 2) 1 (((live mRun).set (F.capCuAlloc_ALLOC 1) 16).set (F.capCuStatus_STATE 1) 1),
   metCaptureControl (D 2) 1 (
        (
          { (((live mRun).set (F.capCuAlloc_ALLOC 1) 16)) with
            cap := { (((live mRun).set (F.capCuAlloc_ALLOC 1) 16)).cap with
              cmds := [({ unit := 1, cmd := 2, count := 0, pre := 5, post := 7, clamped := false } : CapCmd)] } } : State)),
   metCaptureControl (D 2) 1 (
        (
          { (((live mRun).set (F.capCuAlloc_ALLOC 1) 16)) with
            cap := { (((live mRun).set (F.capCuAlloc_ALLOC 1) 16)).cap with
              cmds := [({ unit := 1, cmd := 3, count := 0, pre := 5, post := 7, clamped := false } : CapCmd)] } } : State)),
   metCaptureControl (D 2) 1
        (let u := (
            (
              ((((live mRun).set (F.capCuAlloc_ALLOC 1) 16).updEng 35 (fun x => { x with run := true }))).set (F.hriCrCfg_EN 1) 1).set (F.hriCrCfg_SIZE 1) 2).setReg (A.hriCrTail 1) 6 |>.setReg (A.hriCrHead 1) 3 |>.setReg (A.capCrDataLo 1) 0x20000;
         (
            { u with
              cap := { u.cap with
                queues := [
                  (
                    1,
                    [
                      { ({ unit := 1, body := List.replicate 126 0x55, data := [1,2,3], header := false, no := 0, done := 0 } : CapEntry) with
                        no := 0 }])] } } : State)),
   metCaptureControl (D 2) 1 (
        (
          { st45a with
            cap := { st45a.cap with cmds := [({ unit := 1, cmd := 2, count := 0, pre := 5, post := 7, clamped := false } : CapCmd)] } } : State)),
   metCaptureControl (D 2) 1 (
        (
          { st45a with
            cap := { st45a.cap with cmds := [({ unit := 1, cmd := 4, count := 0, pre := 5, post := 7, clamped := false } : CapCmd)] } } : State)),
   metCaptureControl (D 2) 1 (
        (let u := (
              (
                ((((live mRun).set (F.capCuAlloc_ALLOC 1) 16).updEng 35 (fun x => { x with run := true }))).set (F.hriCrCfg_EN 1) 1).set (F.hriCrCfg_SIZE 1) 2).setReg (A.hriCrTail 1) 6 |>.setReg (A.hriCrHead 1) 3 |>.setReg (A.capCrDataLo 1) 0x20000;
           (
              { u with
                cap := { u.cap with
                  queues := [
                    (
                      1,
                      [
                        { ({ unit := 1, body := List.replicate 126 0x55, data := [1,2,3], header := false, no := 0, done := 0 } : CapEntry) with
                          no := 0 }])] } } : State)).setReg (A.hriCrHead 1) 2)] = true := by decide +kernel

def metCaptureSamples (m : Fin 4) (full : Bool) (cyc : Nat) (s : State) : List Bool :=
  let u := m.val
  let x := s.cu u
  let v := s.atCyc cyc
  let now := v.nowFx
  let clk := s.get (F.capCuCfg_CLK u)
  let state := s.get (F.capCuStatus_STATE u)
  let nsrc := s.get (F.capCuCfg_NSRC_M1 u) + 1
  let rs := 8 * s.get (F.capCuCfg_TSTAMP u) + 4 * nsrc
  let src (i : Nat) : W32 := s.reg (A.capCuSrc u i)
  let ev := s.get (F.capCuClkSrc_EVENT u)
  let per := s.get (F.capCuClk_SPER u) * 5 * 2 ^ 31
  let grid := x.t0 + (now - x.t0) / per * per
  let edge (e : Nat) := s.clk.clk + (e - s.clk.clk + s.clk.incr - 1) / s.clk.incr * s.clk.incr
  let got := (s.ain (s.getB (F.capCuClkSrc_IN_KIND u)) ev).last
  let sample : Option Nat :=
    if x.on = false then none
    else if clk = 0 then (if x.t0 ≤ now ∧ x.k ≤ (now - x.t0) / per ∧ now < grid + s.clk.incr then some grid else none)
    else if clk = 1 then (match Table.look none (s.slot (ev / 8)).events (ev % 8) with
      | some e => if x.last < e ∧ now = edge e + s.get (F.capCuClkSrc_DELAY u) * s.clk.incr ∧ x.t0 ≤ now then some now else none
      | none => none)
    else if clk = 2 then (if x.last < got then some got else none)
    else if cyc = 0 ∧ x.prevT ≠ some s.clk.clk then some s.clk.clk else none
  let ws := (capWords v u).1
  let value (l : List W32) (i : Nat) : Int :=
    let w := l.getD i 0
    if bits (src i) 31 28 = 1 then w.toInt / 2 ^ 16 else if bits (src i) 31 28 = 2 then w.toInt / 2 ^ 8 else w.toInt
  let op (c : Nat) := s.get (F.capCuCmpCfg_OP u c)
  let slot (c : Nat) := s.get (F.capCuCmpCfg_SLOT u c)
  let a (c : Nat) : Int := (s.reg (A.capCuCmpA u c)).toInt
  let b (c : Nat) : Int := (s.reg (A.capCuCmpB u c)).toInt
  let y (c : Nat) : Int := if slot c < nsrc then value ws (slot c) else 0
  let y' (c : Nat) : Int := if slot c < nsrc then value x.prev (slot c) else 0
  let raw (l : List W32) (c : Nat) : W32 := if slot c < nsrc then l.getD (slot c) 0 else 0
  let marks (g c : Nat) : List Nat := (x.seen.filter (fun q => q.1 == (op c == 9) && q.2.1 == wrapN 32 (a c) &&
    decide (q.2.2 + (if op c = 9 then 10 * 2 ^ 32 else 0) ≤ g))).map (fun q => q.2.2)
  let past (t c : Nat) : Int := (BitVec.ofNat 32 (t / 2 ^ 32) - s.reg (A.capCuCmpA u c)).toInt
  let holds (g c : Nat) : Bool := decide ((op c = 1 ∧ a c < y c) ∨ (op c = 2 ∧ y c < a c) ∨ (op c = 3 ∧ a c ≤ y c ∧ y c ≤ b c) ∨
    (op c = 4 ∧ (y c < a c ∨ b c < y c)) ∨ (op c = 5 ∧ x.prevT.isSome = true ∧ y' c ≤ a c ∧ a c < y c) ∨
    (op c = 6 ∧ x.prevT.isSome = true ∧ a c ≤ y' c ∧ y c < a c) ∨
    (op c = 7 ∧ raw ws c &&& s.reg (A.capCuCmpB u c) = s.reg (A.capCuCmpA u c)) ∨
    (op c = 8 ∧ x.prevT.isSome = true ∧ raw ws c ≠ raw x.prev c) ∨ ((op c = 9 ∨ op c = 10) ∧ marks g c ≠ []) ∨
    (op c = 11 ∧ x.prevT.isSome = true ∧ past (x.prevT.getD 0) c < 0 ∧ 0 ≤ past g c))
  let begins : Bool := decide (state = 4)
  let q := if begins then 0 else s.get (F.capCuStatus_SEQ u)
  let timer := if begins then 0 else x.timer
  let en (e : Nat) : Bool := s.getB (F.capCuStExit_EN u q e)
  let neg (e : Nat) : Bool := s.getB (F.capCuStExit_NEG u q e)
  let cmp (e : Nat) := s.get (F.capCuStExit_CMP u q e)
  let true' (g e : Nat) : Bool := en e && (holds g (cmp e) != neg e)
  let count (g e : Nat) : Nat := (if begins then 0 else x.counts.getD e 0) + if true' g e then 1 else 0
  let done (g e : Nat) : Bool := true' g e && decide (s.get (F.capCuStExit_NEED u q e) ≤ count g e)
  let taken (g : Nat) : Option Nat := (List.range 4).find? (done g)
  let tmo := s.get (F.capCuStTmo_TMO u q)
  let expired (g : Nat) : Bool := (taken g).isNone && decide (tmo ≠ 0 ∧ tmo ≤ timer)
  let evaluates (g : Nat) : Bool := decide (state = 2 ∨ state = 3 ∨ (state = 4 ∧ x.reserved = true ∧ x.endT + 1000 * 2 ^ 32 ≤ g))
  let overflows (g : Nat) : Bool := decide (full = true ∧ ((x.prevT).any (fun tp => decide (2 * (g - tp) < 5 * rs * 2 ^ 32))) = true)
  (orCols 21 ((List.range (nsrc)).map (fun i =>
     let n := bits (src i) 23 16
     let kind := bits (src i) 31 28
     (let k : Nat := 0
      let there : Bool := decide (True)
      (if kind = k then
        ([decide (there), decide (¬ there)])
       else List.replicate 2 false)) ++
     (let k : Nat := 1
      let there : Bool := decide ((n < s.get F.adcInfo_AINS))
      (if kind = k then
        ([decide (there), decide (¬ there)])
       else List.replicate 2 false)) ++
     (let k : Nat := 2
      let there : Bool := decide ((n < 48))
      (if kind = k then
        ([decide (there), decide (¬ there)])
       else List.replicate 2 false)) ++
     (let k : Nat := 3
      let there : Bool := decide ((n < 32))
      (if kind = k then
        ([decide (there), decide (¬ there)])
       else List.replicate 2 false)) ++
     (let k : Nat := 4
      let there : Bool := decide ((n < 32))
      (if kind = k then
        ([decide (there), decide (¬ there)])
       else List.replicate 2 false)) ++
     [decide ((kind = 5) ∧ s.slots ≤ n), decide ((kind = 5) ∧ n < s.slots)] ++
     (let k : Nat := 6
      let there : Bool := decide ((n < 38))
      (if kind = k then
        ([decide (there), decide (¬ there)])
       else List.replicate 2 false)) ++
     (let k : Nat := 7
      let there : Bool := decide ((n = 0))
      (if kind = k then
        ([decide (there), decide (¬ there)])
       else List.replicate 2 false)) ++
     (let k : Nat := 8
      let there : Bool := decide ((n = 0))
      (if kind = k then
        ([decide (there), decide (¬ there)])
       else List.replicate 2 false)) ++
     (let k : Nat := 9
      let there : Bool := decide ((n < 32))
      (if kind = k then
        ([decide (there), decide (¬ there)])
       else List.replicate 2 false)) ++
     [decide (10 ≤ kind)]))) ++
  [decide (sample = none)] ++
  (match sample with
   | some g =>
     [decide (¬ evaluates g), decide ((evaluates g) ∧ overflows g), decide ((evaluates g) ∧ ¬ overflows g)]
   | _ => List.replicate 3 false) ++
  (let is : Bool := decide (((sample).any (fun g => decide ((state = 2 ∨ state = 3) ∧ expired g = true))) = true)
   [decide (is), decide (¬ is)]) ++
  (let is : Bool := decide (((sample).any (fun g => decide (state = 4 ∧ evaluates g))) = true)
   [decide (is), decide (¬ is)])

def st46a : State :=
  (
    (
      (((((live mRun)).set (F.capCuStatus_STATE 1) 2).setReg (A.capCuCfg 1) 0x00030000).setReg (A.capCuSrc 1 0) 0x300C0000).setReg (A.capCuSrc 1 1) 0x80000000 |>.setReg (A.capCuSrc 1 2) 0x90020000 |>.setReg (A.fbkFbPos 12) 0x777 |>.updCu 1 (
        fun x => { x with
          on := true, t0 := 0, k := 0, pre := 2, post := 5, prevT := some 0x1000, prev := [5,6,7],
          recs := [{ time := 5, words := [1] },{ time := 6, words := [1] }] })))

/-- Column 1 has no state: a source of kind 0 always reads. -/
theorem test_CaptureSamples_met : covers [
   (metCaptureSamples 1 false 0 ((((((((((((live mRun).set (F.capCuCfg_NSRC_M1 1) 9).setReg (A.capCuSrc 1 0) 0x00000000).setReg (A.capCuSrc 1 1)
      0x10000000).setReg (A.capCuSrc 1 2) 0x20000000).setReg (A.capCuSrc 1 3) 0x30000000).setReg (A.capCuSrc 1 4) 0x40000000).setReg (A.capCuSrc
      1 5) 0x50000000).setReg (A.capCuSrc 1 6) 0x60000000).setReg (A.capCuSrc 1 7) 0x70000000).setReg (A.capCuSrc 1 8) 0x80000000).setReg
      (A.capCuSrc 1 9) 0x90000000)).set 1 true,
   (metCaptureSamples 1 false 0 (((((((((((live mRun).set (F.capCuCfg_NSRC_M1 1) 8).setReg (A.capCuSrc 1 0) 0x10FF0000).setReg (A.capCuSrc 1 1)
      0x20FF0000).setReg (A.capCuSrc 1 2) 0x30FF0000).setReg (A.capCuSrc 1 3) 0x40FF0000).setReg (A.capCuSrc 1 4) 0x50FF0000).setReg (A.capCuSrc
      1 5) 0x60FF0000).setReg (A.capCuSrc 1 6) 0x70FF0000).setReg (A.capCuSrc 1 7) 0x80FF0000).setReg (A.capCuSrc 1 8) 0x90FF0000)).set 1 true,
   (metCaptureSamples 1 false 800 (((st46a.set (F.capCuStatus_STATE 1) 4).updCu 1 (fun x => { x with reserved := true, endT := 0x200 })))).set 1
      true,
   (metCaptureSamples 1 false 0 (((live mRun).set (F.capCuCfg_NSRC_M1 1) 0).setReg (A.capCuSrc 1 0) 0xA0000000)).set 1 true,
   (
        metCaptureSamples 1 true 0 (
          (((live mRun).set (F.capCuStatus_STATE 1) 2).setReg (A.capCuCfg 1) 0x00030000).updCu 1 (fun x => { x with on := true, prevT := some 0 }))).set 1 true,
   (metCaptureSamples 1 false 800 (((st46a.set (F.capCuStatus_STATE 1) 4).updCu 1 (fun x => { x with reserved := false, endT := 0x200 })))).set 1
      true,
   (metCaptureSamples 1 false 400 ((((st46a.setReg (A.capCuStTmo 1 0) 20).setReg (A.capCuStTmoExit 1 0) 0x05000000).updCu 1 (fun x
      => { x with timer := 20 })))).set 1 true] = true := by decide +kernel

def metPtpSync (p : Fin 2) (m : PtpMsg) (egress residence stamp : W64) (a : PtpAnn) (s : State) : List Bool :=
  let u := ptpExpire p.val s
  let q := 1 - p.val
  let works : Bool := decide (s.engWorks eNE = true)
  let x := u.net.ptp
  let y := u.pp p.val
  let kind (v : State) := if 2 ≤ v.get F.ptpCfg_CLOCK ∧ ¬ (v.portMode 0 = 1 ∧ v.portMode 1 = 1) then 1 else v.get F.ptpCfg_CLOCK
  let clock := kind u
  let tc : Bool := decide (2 ≤ clock)
  let onPort (v : State) : Bool := decide (v.getB (F.ptpPortCfg_EN p.val) = true ∧ (v.portMode p.val = 2 ∨ (v.portMode p.val = 1 ∧ v.get F.ptpCfg_CLOCK ≠ 0)))
  let takes (domain : BitVec 8) : Bool := decide (onPort u ∧ domain.toNat = u.get F.ptpCfg_DOMAIN)
  let counts (t : State) : Bool := decide (t.reg (A.netPortRxPtp p.val) = u.reg (A.netPortRxPtp p.val) + if u.portMode p.val = 0 then 0 else 1)
  let ports (t : State) (z : PtpPort) (fw : Option (Nat × Nat × Int)) : Bool := decide (counts t ∧ t.pp p.val = z ∧
    t.pp q = { u.pp q with sent := fw.or (u.pp q).sent } ∧
    t.reg (A.netPortTxFrames q) = u.reg (A.netPortTxFrames q) + if fw.isSome then 1 else 0
  )
  let log : Int := sx 4 (u.get (F.ptpPortCfg_LOG_SYNC p.val))
  let mx : Int := ((u.reg A.ptpRateMax).toNat : Int) * 2 ^ 32
  let limit := (u.reg A.ptpStepLimit).toNat * 65536
  let thr := (u.reg A.ptpLockThresh).toNat * 65536
  let st0 := u.get F.ptpStatus_STATE
  let stepped := u.getB F.ptpStatus_STEPPED
  let moving : Bool := decide ((∃ g ∈ List.range 32, u.gst g = gMoving) ∨ u.mode = mHauldown ∨ u.mode = mBackstay)
  let measured (heard : Prop) [Decidable heard] (t : State) (off : Option Int) : Prop :=
    let some' := off.isSome
    let o := off.getD 0
    let starts : Prop := heard ∧ st0 = 0
    let st := if starts then (if stepped then 3 else 1) else st0
    let next' := if some' ∧ st = 3 then 2 else st
    let free : Prop := some' = true ∧ st ≠ 0 ∧ x.step = none
    let steps : Prop := free ∧ (st = 1 ∨ x.authDue.isSome = true)
    let meets : Prop := free ∧ st ≠ 1 ∧ x.authDue = none ∧ x.hold = none
    let refuse : Prop := meets ∧ limit < o.natAbs ∧ x.byRate = false
    let feed : Prop := meets ∧ ¬ (limit < o.natAbs ∧ x.byRate = false)
    let perS := o * 2 ^ (-log).toNat
    let i := clampI (-mx) mx (x.integ + u.get F.ptpServo_KI * perS)
    let r := clampI (-mx) mx (-(u.get F.ptpServo_KP * perS + i))
    let within := o.natAbs ≤ thr
    let good0 := if starts then 0 else x.good
    let bad0 := if starts then 0 else x.bad
    let good := if feed then (if within then good0 + 1 else 0) else good0
    let bad := if feed then (if within then 0 else bad0 + 1) else bad0
    let lock0 := !decide starts && u.getB F.ptpStatus_LOCKED
    let slave := if heard then p.val else if u.getB F.ptpStatus_SLAVE then u.get F.ptpStatus_SLAVE_PORT else 0xFF
    let state (old new : Nat) : Event := { code := 0x0906, sev := if new = 3 then sevWarn else sevInfo, data := 0, ctrl := 0x89FF
                                           time := BitVec.ofNat 64 u.nowNs, payload := BitVec.ofNat 128 (new + old * 2 ^ 8 + slave * 2 ^ 16) }
    t.net.ptp = { x with
      ports := t.net.ptp.ports
      integ := if feed then i else x.integ
      rate := if feed then r else x.rate
      good := good
      bad := bad
      step := if steps then some (-o, decide (st = 1)) else x.step
      authDue := if steps then none else x.authDue
      refused := if refuse then true else if feed then false else x.refused
      byRate := if feed then x.byRate && decide (limit < o.natAbs) else x.byRate } ∧
    t.clk.incrNext = (if feed then some (nearestAway (5 * 2 ^ 31 * (1000000000 * 2 ^ 32 + r)) (1000000000 * 2 ^ 32)).toNat else u.clk.incrNext) ∧
    t.get F.ptpStatus_STATE = next' ∧
    t.getB F.ptpStatus_LOCKED = (if feed ∧ 8 ≤ good then true else if feed ∧ 4 ≤ bad then false else lock0) ∧
    t.getB F.ptpStatus_AUTH = (if steps then false else u.getB F.ptpStatus_AUTH) ∧
    t.getB F.ptpStatus_STEP_PENDING = (if steps then decide moving else u.getB F.ptpStatus_STEP_PENDING) ∧
    t.getB F.ptpStatus_STEP_REFUSED = (if refuse then true else u.getB F.ptpStatus_STEP_REFUSED) ∧
    t.getB F.ptpStatus_SLAVE = (if heard then true else u.getB F.ptpStatus_SLAVE) ∧
    t.get F.ptpStatus_SLAVE_PORT = (if heard then p.val else u.get F.ptpStatus_SLAVE_PORT) ∧
    t.get64 A.ptpMasterIdLo = (if heard then m.src.toNat else u.get64 A.ptpMasterIdLo) ∧
    (∀ f, f ∈ [F.ptpStatus_STEPPED, F.ptpStatus_PATH_HOLD, F.ptpStatus_ASYM, F.ptpStatus_CLOCK_ERR] → t.get f = u.get f) ∧
    t.reg A.ptpOffset = (if some' then BitVec.ofInt 32 (held 32 (qdiv o 65536)) else u.reg A.ptpOffset) ∧
    t.reg A.ptpRate = (if feed then BitVec.ofInt 32 (qdiv r (2 ^ 32)) else u.reg A.ptpRate) ∧
    (u.host.evBuf.length ≤ 253 → t.host.evBuf = u.host.evBuf ++ (if starts then [state 0 st] else []) ++
      (if some' ∧ st = 3 then [state 3 2] else []) ++
      (if refuse ∧ x.refused = false then
        [{ code := 0x0907, sev := sevWarn, data := 0, ctrl := BitVec.ofNat 16 (0x8980 + p.val), time := BitVec.ofNat 64 u.nowNs
           payload := BitVec.ofNat 128 (wrapN 64 (qdiv o 65536) * 2 ^ 64) }] else [])) ∧
    (∀ a, a ∉ [A.netPortRxPtp p.val, A.netPortTxFrames q, A.ptpStatus, A.ptpMasterIdLo, A.ptpMasterIdLo + 4, A.ptpOffset, A.ptpRate,
      A.hriEvtLost] → t.reg a = u.reg a) ∧
    t = { u with
      regs := t.regs
      host := { u.host with evBuf := t.host.evBuf, evDropped := t.host.evDropped }
      net := { u.net with ptp := t.net.ptp }
      clk := { u.clk with incrNext := t.clk.incrNext, fresh := t.clk.fresh } }
  [decide (¬ works),
   decide (((s.pp p.val).parent = none ∨ s.clk.ticks < (s.pp p.val).syncDue) ∧ (s.clk.ticks < (s.pp p.val).annDue ∨ s.get (F.ptpPortState_PORT_STATE p.val) = 6) ∧ (∀ r, (s.pp p.val).req = some r → s.clk.ticks < r.2.2) ∧ (∀ h, s.net.ptp.hold = some h → s.clk.ticks < h.due))] ++
  (match exec (.syncReceiptTimeout p) s with
   | .next b =>
     (if b.engWorks eNE = true then
       (match exec (.announceReceiptTimeout p) b with
        | .next c =>
          (if c.engWorks eNE = true then
            (match exec (.delayRespTimeout p) c with
             | .next d =>
               [decide ((d.engWorks eNE = true) ∧ works)]
             | _ => List.replicate 1 false)
           else List.replicate 1 false)
        | _ => List.replicate 1 false)
      else List.replicate 1 false)
   | _ => List.replicate 1 false) ++
  (if works then
    ((let ours : Bool := decide (takes m.domain ∧ (tc ∨ y.parent = some (m.src, m.srcPort)))
      [decide (¬ ours), decide (ours)]) ++
     (let matched : Bool := decide (takes m.domain ∧ ((y.sync).any (fun z => decide (z.seq = m.seq ∧ z.src = m.src ∧ z.srcPort = m.srcPort))) = true)
      [decide (¬ takes m.domain), decide ((takes m.domain) ∧ ¬ matched)] ++
      (match y.sync with
       | some z =>
         [decide (matched)]
       | _ => List.replicate 1 false)) ++
     (let bmca : Bool := decide (¬ tc ∧ u.portMode p.val = 1 ∧ a.src ≠ u.clockId)
      let l := y.foreign
      let now := u.clk.ticks + 1
      let win := u.ivTicks 4 (sx 4 (u.get (F.ptpPortCfg_LOG_ANN p.val)))
      let same (f : Foreign) : Bool := f.ann.src == a.src && f.ann.srcPort == a.srcPort
      [decide (¬ takes a.domain ∨ (¬ tc ∧ ¬ bmca)), decide ((takes a.domain) ∧ tc)] ++
      (if takes a.domain then
        ((if bmca then
           ([decide (l.any same = true), decide ((l.any same = false) ∧ l.length < 8)] ++
            (if l.any same = false then
              (if 8 ≤ l.length then
                (orCols 2 ((l).map (fun w =>
                   (if ∀ f, f ∈ l → f ≠ w → annBetter f.ann p.val w.ann p.val = true then
                     ([decide (annBetter a p.val w.ann p.val = true), decide (annBetter a p.val w.ann p.val = false)])
                    else List.replicate 2 false))))
               else List.replicate 2 false)
             else List.replicate 2 false) ++
            (match l.head? with
             | some f =>
               [decide ((l.length = 1) ∧ (same f = true) ∧ (now < f.step + win) ∧ (1 ≤ f.n) ∧ (u.portMode q ≠ 1) ∧ (u.get (F.ptpPortState_PORT_STATE p.val) ≠ 3) ∧ (128 ≤ u.get F.ptpCfg2_CLOCK_CLASS) ∧ annBetter u.ownSet 0 a p.val = false)]
             | _ => List.replicate 1 false))
          else List.replicate 5 false))
       else List.replicate 5 false)) ++
     (let z := s.pp p.val
      let peer : Bool := decide (s.getB (F.ptpPortCfg_P2P p.val) = true ∨ kind s = 3)
      let master : Bool := decide (s.get (F.ptpPortState_PORT_STATE p.val) = 6)
      (let k : Fin 3 := 0
       let may : Bool := decide (master)
       let due : Bool := decide (onPort s ∧ s.linkUp p.val = true ∧ may ∧ z.txDue.getD k.val 0 ≤ s.clk.ticks)
       [decide (due), decide (¬ due)]) ++
      (let k : Fin 3 := 1
       let may : Bool := decide (master)
       let due : Bool := decide (onPort s ∧ s.linkUp p.val = true ∧ may ∧ z.txDue.getD k.val 0 ≤ s.clk.ticks)
       [decide (due), decide (¬ due)]) ++
      (let k : Fin 3 := 2
       let may : Bool := decide (((peer ∧ s.portMode p.val = 1) ∨ z.parent.isSome = true))
       let due : Bool := decide (onPort s ∧ s.linkUp p.val = true ∧ may ∧ z.txDue.getD k.val 0 ≤ s.clk.ticks)
       [decide (due), decide (¬ due)])))
   else List.replicate 18 false)

def st47a : State :=
  (
    (
      (
        (
          ((((live mRun).set F.ptpCfg_CLOCK 1).set (F.netPortCfg_MODE 0) 1).set (F.ptpPortCfg_EN 0) 1).set F.ptpCfg2_CLOCK_CLASS 248).set (F.ptpPortState_PORT_STATE 0) 9).updEng eNE (fun x => { x with run := true })).updPp 0 (fun y => { y with annDue := 100, syncDue := 100, txDue := [3,3,3] }))
def st47b : State :=
  (
    ((((((live mRun).set F.ptpCfg_CLOCK 1).set (F.netPortCfg_MODE 0) 1).set (F.ptpPortCfg_EN 0) 1).updEng eNE (fun x => { x with run := true }))).updPp 0 (
      fun y => { y with
        annDue := 99, syncDue := 99,
        foreign := List.replicate 7 { ann := { domain := 0, src := 9, srcPort := 6, gm := 5, prio1 := 0, cls := 6, acc := 1, var := 1, prio2 := 1, steps := 0 }, n := 1, step := 0 } ++ [
          {
            ann := { domain := 0, src := 99, srcPort := 6, gm := 5, prio1 := 8, cls := 6, acc := 1, var := 1, prio2 := 1, steps := 0 }, n := 1,
            step := 0 }] }))

theorem test_PtpSync_met : covers [
   metPtpSync 0 { domain := 0, src := 5, srcPort := 6, seq := 7, corr := 0x10000, time := 1000, twoStep := false, stamp := 8000 : PtpMsg } 9000 77 4000 { domain := 0, src := 5, srcPort := 6, gm := 5, prio1 := 1, cls := 6, acc := 1, var := 1, prio2 := 1, steps := 0 : PtpAnn } (
        ({ st47a with clk := { (st47a).clk with ticks := 6 } } : State).updPp 0 (
          fun y => { y with
            foreign := [
              {
                ann := { domain := 0, src := 5, srcPort := 6, gm := 5, prio1 := 1, cls := 6, acc := 1, var := 1, prio2 := 1, steps := 0 : PtpAnn },
                n := 1, step := 0 }] })),
   metPtpSync 0 { domain := 0, src := 5, srcPort := 6, seq := 7, corr := 0x10000, time := 1000, twoStep := false, stamp := 8000 : PtpMsg } 9000 77 4000 { domain := 0, src := 5, srcPort := 6, gm := 5, prio1 := 1, cls := 6, acc := 1, var := 1, prio2 := 1, steps := 0 : PtpAnn } (
        (
          (
            (
              (
                ({ st47a with clk := { (st47a).clk with ticks := 6 } } : State).updPp 0 (
                  fun y => { y with
                    parent := some (5,6),
                    sync := some { ({ domain := 0, src := 5, srcPort := 6, seq := 7, corr := 0x10000, time := 1000, twoStep := false, stamp := 8000 : PtpMsg }) with
                      twoStep := true } })).updPtp (fun x => { x with d := some 1000, integ := 500000, good := 7 })).set F.ptpStatus_STATE 2).set (F.ptpPortState_PORT_STATE 0) 6).set (F.netPortStatus_LINK 0) 1),
   metPtpSync 0 { ({ domain := 0, src := 5, srcPort := 6, seq := 7, corr := 0x10000, time := 1000, twoStep := false, stamp := 8000 : PtpMsg }) with domain := 1, twoStep := true } 9000 77 4000 { domain := 0, src := 5, srcPort := 6, gm := 5, prio1 := 1, cls := 6, acc := 1, var := 1, prio2 := 1, steps := 0 : PtpAnn } (
        (
          (
            (
              (
                (
                  ({ st47a with clk := { (st47a).clk with ticks := 6 } } : State).updPp 0 (
                    fun y => { y with
                      parent := some (5,6),
                      sync := some { ({ domain := 0, src := 5, srcPort := 6, seq := 7, corr := 0x10000, time := 1000, twoStep := false, stamp := 8000 : PtpMsg }) with
                        twoStep := true } })).updPtp (fun x => { x with d := some 1000, integ := 500000, good := 7 })).set F.ptpStatus_STATE 2).set F.ptpCfg_CLOCK 2).set (F.netPortCfg_MODE 1) 1).set (F.ptpPortCfg_EN 1) 1),
   metPtpSync 0 { domain := 0, src := 5, srcPort := 6, seq := 7, corr := 0x10000, time := 1000, twoStep := false, stamp := 8000 } 9000 77 4000 { domain := 9, src := 5, srcPort := 6, gm := 5, prio1 := 1, cls := 6, acc := 1, var := 1, prio2 := 1, steps := 0 } (
        (((((live mRun).set F.ptpCfg_CLOCK 1).set (F.netPortCfg_MODE 0) 1).set (F.ptpPortCfg_EN 0) 1).updEng eNE (fun x => { x with run := true }))),
   metPtpSync 0 { domain := 0, src := 5, srcPort := 6, seq := 7, corr := 0x10000, time := 1000, twoStep := false, stamp := 8000 } 9000 77 4000 {
        domain := 0, src := 5, srcPort := 6, gm := 5, prio1 := 1, cls := 6, acc := 1, var := 1, prio2 := 1, steps := 0 } st47b,
   metPtpSync 0 { domain := 0, src := 5, srcPort := 6, seq := 7, corr := 0x10000, time := 1000, twoStep := false, stamp := 8000 } 9000 77 4000 {
        domain := 0, src := 200, srcPort := 6, gm := 5, prio1 := 100, cls := 6, acc := 1, var := 1, prio2 := 1, steps := 0 } st47b,
   metPtpSync 0 { domain := 0, src := 5, srcPort := 6, seq := 7, corr := 0x10000, time := 1000, twoStep := false, stamp := 8000 : PtpMsg } 9000 77 4000 { domain := 0, src := 5, srcPort := 6, gm := 5, prio1 := 1, cls := 6, acc := 1, var := 1, prio2 := 1, steps := 0 : PtpAnn } (
        (
          (
            (
              ({ st47a with clk := { (st47a).clk with ticks := 6 } } : State).updPp 0 (
                fun y => { y with
                  parent := some (5,6),
                  sync := some { ({ domain := 0, src := 5, srcPort := 6, seq := 7, corr := 0x10000, time := 1000, twoStep := false, stamp := 8000 : PtpMsg }) with
                    twoStep := true } })).updPtp (fun x => { x with d := some 1000, integ := 500000, good := 7 })).set F.ptpStatus_STATE 2).updEng eNE (fun x => { x with run := false }))] = true := by decide +kernel

def metPathDelay (p : Fin 2) (m : PtpMsg) (egress t3 : W64) (s : State) : List Bool :=
  let works : Bool := decide (s.engWorks eNE = true)
  let now := s.clk.ticks
  let kind (v : State) := if 2 ≤ v.get F.ptpCfg_CLOCK ∧ ¬ (v.portMode 0 = 1 ∧ v.portMode 1 = 1) then 1 else v.get F.ptpCfg_CLOCK
  let takes (v : State) : Bool := decide (v.getB (F.ptpPortCfg_EN p.val) = true ∧
    (v.portMode p.val = 2 ∨ (v.portMode p.val = 1 ∧ v.get F.ptpCfg_CLOCK ≠ 0)) ∧ m.domain.toNat = v.get F.ptpCfg_DOMAIN)
  let p2p (v : State) : Bool := decide (v.getB (F.ptpPortCfg_P2P p.val) = true)
  let u := ptpExpire p.val s
  let y := u.pp p.val
  [decide (¬ works)] ++
  (if works then
    ((let answers : Bool := decide (s.get (F.ptpPortState_PORT_STATE p.val) = 6 ∧ ¬ p2p s)
      [decide ((takes s) ∧ 2 ≤ kind s), decide ((takes s) ∧ (kind s < 2) ∧ answers), decide (¬ takes s ∨ (kind s < 2 ∧ ¬ answers))]) ++
     (let answers : Bool := decide (kind s = 3 ∨ (kind s < 2 ∧ p2p s))
      [decide ((takes s) ∧ kind s = 2), decide ((takes s) ∧ answers), decide (¬ takes s ∨ (kind s < 2 ∧ ¬ answers))]) ++
     (let matched : Bool := decide (takes u ∧ ¬ p2p u ∧ y.last.isSome = true ∧ ((y.req).any (fun r => decide (r.1 = m.seq))) = true)
      [decide (¬ matched)] ++
      (if matched then
        (match y.req with
         | some r =>
           [(match y.last with | some _ => true | _ => false)]
         | _ => List.replicate 1 false)
       else List.replicate 1 false)) ++
     (let matched : Bool := decide (takes u ∧ (kind u = 3 ∨ p2p u) ∧ ((y.req).any (fun r => decide (r.1 = m.seq))) = true)
      [decide (¬ matched)] ++
      (if matched then
        ([(match y.req with | some _ => true | _ => false)])
       else List.replicate 1 false)) ++
     [decide (∀ r, (s.pp p.val).req = some r → now < r.2.2)] ++
     (match (s.pp p.val).req with
      | some r =>
        [decide (r.2.2 ≤ now)]
      | _ => List.replicate 1 false) ++
     (let z := s.net.ptp
      [decide (∀ h, z.hold = some h → now < h.due)] ++
      (match z.hold with
       | some h =>
         [decide ((h.due ≤ now) ∧ h.aside.length < 4)]
       | _ => List.replicate 1 false) ++
      (match z.hold with
       | some h =>
         [decide ((h.due ≤ now) ∧ 4 ≤ h.aside.length)]
       | _ => List.replicate 1 false)))
   else List.replicate 15 false)

def st48a : State :=
  (
    (
      (
        (
          ((((live mRun).set F.ptpCfg_CLOCK 1).set (F.netPortCfg_MODE 0) 1).set (F.ptpPortCfg_EN 0) 1).set F.ptpCfg2_CLOCK_CLASS 248).set (F.ptpPortState_PORT_STATE 0) 9).updEng eNE (fun x => { x with run := true })).updPp 0 (fun y => { y with annDue := 100, syncDue := 100, txDue := [3,3,3] }))

theorem test_PathDelay_met : covers [
   metPathDelay 0 {
        domain := 0, src := 5, srcPort := 6, seq := 7, corr := 0, time := 0, twoStep := false, stamp := 1408 : PtpMsg } 9000 0 ({ st48a with clk := { (st48a).clk with ticks := 4 } } : State),
   metPathDelay 0 { domain := 0, src := 5, srcPort := 6, seq := 7, corr := 0, time := 0, twoStep := false, stamp := 1408 : PtpMsg } 9000 0 (
        (
          (
            (
              (
                ({ st48a with clk := { (st48a).clk with ticks := 4 } } : State).updPp 0 (
                  fun y => { y with req := some (7, 0, 5), last := some (0, 200, 0) })).set F.ptpCfg_CLOCK 2).set (F.netPortCfg_MODE 1) 1).set (F.ptpPortCfg_EN 1) 1).set F.ptpCfg_CLOCK 3),
   metPathDelay 0 { domain := 0, src := 5, srcPort := 6, seq := 7, corr := 0, time := 0, twoStep := false, stamp := 1408 : PtpMsg } 9000 0 (
        (
          (
            ({ st48a with clk := { (st48a).clk with ticks := 4 } } : State).updPp 0 (
              fun y => { y with req := some (7, 0, 5), last := some (0, 200, 0) })).set (F.ptpPortState_PORT_STATE 0) 6).set (F.netPortStatus_LINK 0) 1),
   metPathDelay 0 { domain := 0, src := 5, srcPort := 6, seq := 7, corr := 0, time := 0, twoStep := false, stamp := 1408 : PtpMsg } 9000 0 (
        (
          (
            (
              ({ st48a with clk := { (st48a).clk with ticks := 4 } } : State).updPp 0 (
                fun y => { y with req := some (7, 0, 5), last := some (0, 200, 0) })).set F.ptpCfg_CLOCK 2).set (F.netPortCfg_MODE 1) 1).set (F.ptpPortCfg_EN 1) 1),
   metPathDelay 0 { domain := 0, src := 5, srcPort := 6, seq := 7, corr := 0, time := 0, twoStep := false, stamp := 1408 : PtpMsg } 9000 0 (
        (
          ({ st48a with clk := { (st48a).clk with ticks := 4 } } : State).updPp 0 (
            fun y => { y with req := some (7, 0, 5), last := some (0, 200, 0) })).updPtp (fun x => { x with d := some 99, meas := [90], hold := some { due := 0, aside := [1,2,3] } })),
   metPathDelay 0 { domain := 0, src := 5, srcPort := 6, seq := 7, corr := 0, time := 0, twoStep := false, stamp := 1408 : PtpMsg } 9000 0 (
        (
          ({ st48a with clk := { (st48a).clk with ticks := 4 } } : State).updPp 0 (
            fun y => { y with req := some (7, 0, 5), last := some (0, 200, 0) })).updPtp (fun x => { x with d := some 65536, meas := [65536], hold := some { due := 0, aside := [65536, 65536, 65536, 65536] } })),
   metPathDelay 0 { domain := 0, src := 5, srcPort := 6, seq := 7, corr := 0, time := 0, twoStep := false, stamp := 1408 : PtpMsg } 9000 0 (
        (
          (
            ({ st48a with clk := { (st48a).clk with ticks := 4 } } : State).updPp 0 (
              fun y => { y with req := some (7, 0, 5), last := some (0, 200, 0) })).updPtp (fun x => { x with d := some 99, meas := [90], hold := some { due := 0, aside := [1,2,3,5] } })).updEng eNE (fun x => { x with run := false })),
   metPathDelay 0 { domain := 0, src := 5, srcPort := 6, seq := 7, corr := 0, time := 0, twoStep := false, stamp := 1408 : PtpMsg } 9000 0 (
        { (
            ({ st48a with clk := { (st48a).clk with ticks := 4 } } : State).updPp 0 (
              fun y => { y with req := some (7, 0, 5), last := some (0, 200, 0) })) with
          clk := { (
              (
                ({ st48a with clk := { (st48a).clk with ticks := 4 } } : State).updPp 0 (
                  fun y => { y with req := some (7, 0, 5), last := some (0, 200, 0) }))).clk with
            ticks := 77 } } : State)] = true := by decide +kernel

def metPtpControl (d : Desc) (p : Fin 2) (c : Fin 8) (cyc : Nat) (s : State) : List Bool :=
  let x := s.net.ptp
  let y := s.pp p.val
  let now := s.clk.ticks
  let works : Bool := decide (s.engWorks eNE = true)
  let plant (n : Nat) : Bool := decide (s.portMode n = 1)
  let kind := if 2 ≤ s.get F.ptpCfg_CLOCK ∧ ¬ (plant 0 ∧ plant 1) then 1 else s.get F.ptpCfg_CLOCK
  let state := s.get (F.ptpPortState_PORT_STATE p.val)
  let bmca : Bool := decide (s.getB (F.ptpPortCfg_EN p.val) = true ∧ plant p.val ∧ kind = 1)
  [decide (¬ works)] ++
  (if works then
    ((let due : Bool := decide (bmca ∧ y.annDue ≤ now ∧ state ≠ 6)
      [decide (due), decide (¬ due)]) ++
     (let due : Bool := decide (y.parent.isSome = true ∧ y.syncDue ≤ now)
      [decide (due), decide (¬ due)]) ++
     [decide (∀ due, x.authDue = some due → now < due)] ++
     (match x.authDue with
      | some due =>
        [decide (due ≤ now)]
      | _ => List.replicate 1 false))
   else List.replicate 6 false) ++
  (let unit (v : State) (k : Nat) : Option (Compare × Bool) := Table.look none v.net.units k
   (if accepts s 0x0903 (d.force 1 1 1 0) = true then
     ([decide (s.net.pendList.length < 64), decide (64 ≤ s.net.pendList.length)])
    else List.replicate 2 false) ++
   [decide (accepts s 0x0903 (d.force 1 1 1 1) = true)] ++
   (let v := s.atCyc cyc
    let came (u : Compare × Bool) : Bool := decide (0 ≤ cdiff (BitVec.ofNat 32 v.nowNs) (BitVec.ofNat 32 u.1.target))
    [decide (∀ u, unit s c.val = some u → ¬ came u)] ++
    (match unit s c.val with
     | some u =>
       [decide (came u)]
     | _ => List.replicate 1 false)))

def st49a : State :=
  (
    (
      (
        (
          ((((live mRun).set F.ptpCfg_CLOCK 1).set (F.netPortCfg_MODE 0) 1).set (F.ptpPortCfg_EN 0) 1).set F.ptpCfg2_CLOCK_CLASS 248).set (F.ptpPortState_PORT_STATE 0) 9).updEng eNE (fun x => { x with run := true })))

theorem test_PtpControl_met : covers [
   metPtpControl (D 3 0x50002 0x50 0) 0 2 40 ({ st49a with clk := { (st49a).clk with ticks := 3 } } : State),
   metPtpControl (D 3 0x50002 0x50 0) 0 2 40 (
        (
          (
            (
              ({ st49a with clk := { (st49a).clk with ticks := 3 } } : State).updPp 0 (
                fun y => { y with
                  parent := some (5,6),
                  foreign := [
                    {
                      ann := {
                        domain := 0, src := 5, srcPort := 6, gm := 5, prio1 := 1, cls := 6, acc := 1, var := 1, prio2 := 1, steps := 0 : PtpAnn },
                      n := 3, step := 0 }] })).set F.ptpStatus_STATE 2).set F.ptpStatus_SLAVE 1).updPtp (fun x => { x with authDue := some 0 }) |>.set F.ptpStatus_AUTH 1),
   metPtpControl (D 3 0x50002 0x50 0) 0 2 40 (
        ({ st49a with clk := { (st49a).clk with ticks := 3 } } : State).updNet (
          fun y => { y with pendList := List.replicate 64 (.compare { id := 5, target := 7, period := 9 }) })),
   metPtpControl (D 3 0x50002 0x50 0) 0 2 40 (
        (
          (
            (
              ({ st49a with clk := { (st49a).clk with ticks := 3 } } : State).updPp 0 (
                fun y => { y with
                  parent := some (5,6),
                  foreign := [
                    {
                      ann := {
                        domain := 0, src := 5, srcPort := 6, gm := 5, prio1 := 1, cls := 6, acc := 1, var := 1, prio2 := 1, steps := 0 : PtpAnn },
                      n := 3, step := 0 }] })).set F.ptpStatus_STATE 2).set F.ptpStatus_SLAVE 1).updPp 0 (fun y => { y with annDue := 9, syncDue := 9 })),
   metPtpControl (D 3 0x50002 0x50 0) 0 2 40 (
        ({ st49a with clk := { (st49a).clk with ticks := 3 } } : State).updNet (
          fun y => { y with
            pendList := [
              .compare { id := 5, target := 7, period := 9 },.compare { id := 6, target := 7, period := 9 },.frame {
                port := 0, data := [], tsId := 5, entry := false, launch := none }],
            units := [(2, some ({ id := 5, target := 7, period := 9 }, true)),(3, some ({ id := 15, target := 7000, period := 9 }, true))] })),
   metPtpControl (D 3 0x50002 0x50 0) 0 2 40 (
        (
          (
            (
              (
                ({ st49a with clk := { (st49a).clk with ticks := 3 } } : State).updPp 0 (
                  fun y => { y with
                    parent := some (5,6),
                    foreign := [
                      {
                        ann := {
                          domain := 0, src := 5, srcPort := 6, gm := 5, prio1 := 1, cls := 6, acc := 1, var := 1, prio2 := 1, steps := 0 : PtpAnn },
                        n := 3, step := 0 }] })).set F.ptpStatus_STATE 2).set F.ptpStatus_SLAVE 1).updPtp (fun x => { x with authDue := some 0 }) |>.set F.ptpStatus_AUTH 1).updEng eNE (fun x => { x with run := false }))] = true := by decide +kernel

def metNetFrames (d : Desc) (p : Fin 2) (up : Bool) (speed : Fin 3) (err : Bool) (k : Fin 8) (stamp : W64) (cyc : Nat) (s : State) : List Bool :=
  let mode := s.portMode p.val
  let x := s.port p.val
  let was := s.linkUp p.val
  (let same : Bool := decide (mode = 0 ∨ (was = up ∧ (up = false ∨ s.get (F.netPortStatus_SPEED p.val) = speed.val)))
   [decide (same), decide ((¬ same) ∧ s.linkNodes p.val = [])]) ++
  [decide (accepts s 0x0904 d = true)] ++
  (let v := s.atCyc cyc
   let slot (t : State) (j : Nat) : Option TxFrame := Table.look none t.net.launch j
   let due (f : TxFrame) : Bool := decide (f.launch.getD 0 ≤ v.nowNs + 5)
   [decide (∀ f, slot s k.val = some f → ¬ due f)] ++
   (match slot s k.val with
    | some f =>
      [decide (due f)]
    | _ => List.replicate 1 false)) ++
  [decide (x.sending = []), (match x.sending.head? with | some _ => true | _ => false), decide (s.ready = false), decide (s.ready = true),
   decide (accepts s 0x0905 d = true)]

theorem test_NetFrames_met : covers [
   metNetFrames (D 2 0 0x100000) 0 true 1 false 3 9000 28 (((live mRun).set (F.netPortCfg_MODE 0) 1).set (F.netPortStatus_LINK 0) 1),
   metNetFrames (D 3 0x0040_0005_0002 0x2000 0x99) 0 false 2 true 3 9000 29 (
        (
          (
            (
              (((live mRun).set (F.netPortCfg_MODE 0) 1).set (F.netPortStatus_LINK 0) 1).updPort 0 (
                fun y => { y with
                  sending := [
                    { port := 0, data := List.replicate 60 1, tsId := 5, entry := true, launch := some 70 : TxFrame },{ ({ port := 0, data := List.replicate 60 1, tsId := 5, entry := true, launch := some 70 : TxFrame }) with
                      launch := some 9000, entry := false },{ ({ port := 0, data := List.replicate 60 1, tsId := 5, entry := true, launch := some 70 : TxFrame }) with launch := none }],
                  awaiting := 3, ready := [{ id := 7, status := 1, time := 0x123456789ABCDEF }] })).updNet (fun y => { y with launch := [(3, some { port := 0, data := List.replicate 60 1, tsId := 5, entry := true, launch := some 70 : TxFrame })], pendList := [.frame { port := 0, data := List.replicate 60 1, tsId := 5, entry := true, launch := some 70 : TxFrame }, .frame { ({ port := 0, data := List.replicate 60 1, tsId := 5, entry := true, launch := some 70 : TxFrame }) with port := 1 }, .compare { id := 5, target := 7, period := 9 }] })).set (F.netPortCfg_MODE 0) 2).set (F.netPortStatus_LINK 0) 0),
   metNetFrames (D 3) 0 true 2 false 3 900 200 State.reset] = true := by decide +kernel

def metHalyard (d : Desc) (p : Fin 2) (n : Fin 128) (mac : BitVec 48) (a : HalAnnounce) (r : HalReply) (up : Bool) (speed : Fin 3) (s : State) : List Bool :=
  let works : Bool := decide (s.engWorks eNE = true)
  let now := s.clk.ticks
  let late := if (s.eng 24).cutPassed then 1 else 0
  let step' := now + late
  let k := s.tickNo + late
  let onLink (j : Nat) : Bool := decide (s.nodeSt j = 3 ∨ s.nodeSt j = 4)
  let x := s.node n.val
  let st := s.nodeSt n.val
  let m := d.f 1 6 0
  let busy (j : Nat) : Bool := decide (s.nodeSt j = 2 ∨ s.nodeSt j = 3 ∨ s.nodeSt j = 4
  )
  [(match x.cfg with | some _ => true | _ => false), decide ((accepts s 0x0900 d = true) ∧ d.fb 1 10 = false)] ++
  (if accepts s 0x0900 d = true then
    ((if d.fb 1 10 = true then
       ([decide ((s.node m).cfg = none)] ++
        (match (s.node m).cfg with
         | some c =>
           [decide ((busy m) ∧ s.nodeIdle c = false)]
         | _ => List.replicate 1 false) ++
        (match (s.node m).cfg with
         | some c =>
           [decide (¬ (busy m ∧ s.nodeIdle c = false))]
         | _ => List.replicate 1 false))
      else List.replicate 3 false))
   else List.replicate 3 false) ++
  [decide (accepts s 0x0901 d = true), decide (¬ works)] ++
  (if works then
    ((let sec := s.clk.clk / (2 ^ 32 * 1000000000)
      let due : Bool := decide (s.net.second < sec ∧ s.clk.cyc = 0)
      [decide (¬ due), decide (due)]) ++
     (let due : Bool := decide (x.cfg.isSome = true ∧ x.invite = true ∧ (st = 1 ∨ st = 5) ∧ x.seenIn.getD 0 < now ∧ s.clk.cyc = 0)
      [decide (¬ due)] ++
      (match x.cfg with
       | some c =>
         [decide (due)]
       | _ => List.replicate 1 false)) ++
     (let macA := a.mac.toNat
      let gone : Bool := decide (((s.nodes).any (fun e => decide ((s.node e.1).mac = macA ∧ (s.node e.1).leftIn = some step'))) = true)
      let mine := (s.linkNodes p.val).filter (fun e => (s.node e.1).mac == macA)
      let matched (e : Nat × NodeCfg) : Bool := (s.nodeSt e.1 == 1 || s.nodeSt e.1 == 5) && (e.2.port == p.val || e.2.port == 2) &&
       e.2.vendor == a.vendor.toNat && e.2.product == a.product.toNat && (e.2.serial == 0 || e.2.serial == a.serial.toNat)
      [decide (s.portMode p.val ≠ 2 ∨ gone)] ++
      (if s.portMode p.val = 2 then
        ((if ¬ gone then
           ((match x.cfg with
             | some c =>
               [decide (mine = [(n.val, c)])]
             | _ => List.replicate 1 false) ++
            (if mine = [] then
              (if s.nodes.filter matched = [] then
                (let again : Bool := decide (((s.net.seenMacs.find? (fun e => e.1 == macA)).any (fun e => decide (s.nowNs < e.2 + 60000000000))) = true)
                 [decide (again), decide (¬ again)])
               else List.replicate 2 false)
             else List.replicate 2 false) ++
            (match x.cfg with
             | some c =>
               (if mine = [] then
                 (if (s.nodes.filter matched).head? = some (n.val, c) then
                   ([decide ((x.seenIn = some step') ∧ x.mac < macA), decide (¬ (x.seenIn = some step' ∧ x.mac < macA))])
                  else List.replicate 2 false)
                else List.replicate 2 false)
             | _ => List.replicate 2 false))
          else List.replicate 5 false))
       else List.replicate 5 false)) ++
     (let ok : Bool := decide (x.cfg.isSome = true ∧ s.portMode p.val = 2 ∧ st = 2 ∧ x.mac = mac.toNat ∧ x.port = p.val ∧ step' ≤ x.joinDue)
      [decide (¬ ok)] ++
      (match x.cfg with
       | some c =>
         [decide (ok)]
       | _ => List.replicate 1 false)) ++
     (let due : Bool := decide ((st = 2 ∧ x.joinDue < step') ∨ (st = 3 ∧ x.wdDue < step'))
      [decide (due), decide (¬ due), decide ((st = 3) ∧ x.wdDue < step'), decide (¬ onLink n.val ∨ step' ≤ x.wdDue)] ++
      (match x.cfg with
       | some c =>
         [decide ((st = 4) ∧ x.wdDue < step')]
       | _ => List.replicate 1 false)) ++
     (let found := s.nodes.find? (fun e => (s.nodeSt e.1 == 3 || s.nodeSt e.1 == 4) && (s.node e.1).mac == r.mac.toNat && (s.node e.1).port == p.val)
      [decide (found = none)] ++
      (match x.cfg with
       | some c =>
         (if found = some (n.val, c) then
           (let valid : Bool := decide (r.node.toNat = n.val ∧ r.axes.length = c.count ∧ r.input.length = c.ioIn ∧
              r.tse.length = (if c.tse then 32 else 0) ∧ (r.tick.toNat = k ∨ r.tick.toNat + 1 = k))
            [decide (x.wdDue < step'), decide ((step' ≤ x.wdDue) ∧ ¬ valid), decide ((step' ≤ x.wdDue) ∧ valid)])
          else List.replicate 3 false)
       | _ => List.replicate 3 false)) ++
     (let mine := (s.linkNodes p.val).filter (fun e => (s.node e.1).mac == mac.toNat)
      [decide (mine = [])] ++
      (match x.cfg with
       | some c =>
         [decide ((onLink n.val) ∧ (x.port = p.val) ∧ x.mac = mac.toNat)]
       | _ => List.replicate 1 false)))
   else List.replicate 23 false) ++
  (match x.cfg with
   | some c =>
     [decide ((onLink n.val) ∧ (x.port = p.val) ∧ (s.portMode p.val = 2) ∧ (s.linkUp p.val = true) ∧ (up = false ∨ (speed.val = 2 ∧ s.get (F.netPortStatus_SPEED p.val) ≠ 2)))]
   | _ => List.replicate 1 false)

def st51a : State :=
  (
    ((((live mRun).set (F.netPortCfg_MODE 0) 2).set (F.netPortStatus_LINK 0) 1).updEng eNE (fun x => { x with run := true })).updNode 5 (
      fun y => { y with
        cfg := some {
          owner := 0xFF, wd := 3, rejoin := true, tse := false, port := 2, product := 1, vendor := 2, serial := 0, count := 2, base := 40,
          ioOut := 12, ioIn := 1 }, port := 0, mac := 0x123456789A, invite := false, wdDue := 9, joinDue := 9, lastTick := 77 }))

theorem test_Halyard_met : covers [
   metHalyard (D 4 (5 + 2 ^ 10) 0x0000000100000002 0x00020028 0x050C) 0 5 0x123456789A { mac := 0x123456789A, vendor := 2, product := 1, serial := 9, axes := 2, ioIn := 4, ioOut := 40, caps := 0 } {
        mac := 0x123456789A, node := 5, tick := 0, tSample := 4, nstat := 0,
        axes := [{ pos := 1, vel := 2, iAct := 3, astat := 1 }, { pos := 1, vel := 2, iAct := 3, astat := 1 }], input := [7], tse := [] } true 2 (((st51a.set (nodeFld 5) 4).set F.clkHalCutAct_CUT_ACT 10000).updAxis 40 (fun x => { x with bound := some (2, 0), pe := some 24 })),
   metHalyard (D 4 0x001B_1005 0x0000000100000002 0x0002_0028 0x050C) 0 5 0x123456789B { ({ mac := 0x123456789A, vendor := 2, product := 1, serial := 9, axes := 2, ioIn := 4, ioOut := 40, caps := 0 : HalAnnounce }) with axes := 1, mac := 0x223456789A } { mac := 0x123456789A, node := 6, tick := 0, tSample := 4, nstat := 0, axes := [], input := [7], tse := [] : HalReply } false 0 (
        (
          (
            (
              { ((((live mRun).set (F.netPortCfg_MODE 0) 2).set (F.netPortStatus_LINK 0) 1).updEng eNE (fun x => { x with run := true })) with
                clk := { (((((live mRun).set (F.netPortCfg_MODE 0) 2).set (F.netPortStatus_LINK 0) 1).updEng eNE (fun x => { x with run := true }))).clk with
                  ticks := 3, clk := 5 * 2^32 * 1000000 } } : State).updNode 5 (fun y => { y with cfg := some { owner := 0xFF, wd := 3, rejoin := true, tse := false, port := 2, product := 1, vendor := 2, serial := 0, count := 2, base := 40, ioOut := 12, ioIn := 1 : NodeCfg }, port := 0, mac := 0x123456789A, invite := false, wdDue := 0, joinDue := 0, lastTick := 77 })).set (nodeFld 5) 3).set F.clkHalCutAct_CUT_ACT 10000),
   metHalyard (D 4 0x0003_0405 0 0 0) 0 5 0x123456789A { mac := 0x123456789A, vendor := 2, product := 1, serial := 9, axes := 2, ioIn := 4, ioOut := 40, caps := 0 : HalAnnounce } { mac := 0x123456789A, node := 5, tick := 160, tSample := 4, nstat := 0, axes := [{ pos := 1, vel := 2, iAct := 3, astat := 1 },{ pos := 1, vel := 2, iAct := 3, astat := 1 }], input := [7], tse := [] : HalReply } true 2 (
        (
          { ((((live mRun).set (F.netPortCfg_MODE 0) 2).set (F.netPortStatus_LINK 0) 1).updEng eNE (fun x => { x with run := true })) with
            clk := { (((((live mRun).set (F.netPortCfg_MODE 0) 2).set (F.netPortStatus_LINK 0) 1).updEng eNE (fun x => { x with run := true }))).clk with
              ticks := 3, clk := 5 * 2^32 * 1000000 } } : State).updNet (fun x => { x with seenMacs := [(0x123456789A, 0)] })),
   metHalyard (D 4 0x0003_0405 0 0 0) 0 5 0x123456789B { ({ mac := 0x123456789A, vendor := 2, product := 1, serial := 9, axes := 2, ioIn := 4, ioOut := 40, caps := 0 : HalAnnounce }) with axes := 1, mac := 0x223456789A } { mac := 0x123456789A, node := 6, tick := 0, tSample := 4, nstat := 0, axes := [], input := [7], tse := [] : HalReply } false 0 (
        (
          (
            (
              { ((((live mRun).set (F.netPortCfg_MODE 0) 2).set (F.netPortStatus_LINK 0) 1).updEng eNE (fun x => { x with run := true })) with
                clk := { (((((live mRun).set (F.netPortCfg_MODE 0) 2).set (F.netPortStatus_LINK 0) 1).updEng eNE (fun x => { x with run := true }))).clk with
                  ticks := 3, clk := 5 * 2^32 * 1000000 } } : State).updNode 5 (fun y => { y with cfg := some { owner := 0xFF, wd := 3, rejoin := true, tse := false, port := 2, product := 1, vendor := 2, serial := 0, count := 2, base := 40, ioOut := 12, ioIn := 1 : NodeCfg }, port := 0, mac := 0x123456789A, invite := true, wdDue := 0, joinDue := 0, lastTick := 77 })).set (nodeFld 5) 1).set F.clkHalCutAct_CUT_ACT 10000),
   metHalyard (D 2 7) 0 5 0x123456789A { mac := 0x123456789A, vendor := 2, product := 1, serial := 9, axes := 2, ioIn := 4, ioOut := 40, caps := 0 } {
        mac := 0x123456789A, node := 5, tick := 0, tSample := 4, nstat := 0,
        axes := [{ pos := 1, vel := 2, iAct := 3, astat := 1 }, { pos := 1, vel := 2, iAct := 3, astat := 1 }], input := [7], tse := [] } true 2 ((st51a.set (nodeFld 5) 2).set F.clkHalCutAct_CUT_ACT 10000),
   metHalyard (D 2 7) 0 5 0x123456789A { mac := 0x123456789A, vendor := 2, product := 1, serial := 9, axes := 2, ioIn := 4, ioOut := 40, caps := 0 } {
        mac := 0x123456789A, node := 5, tick := 1, tSample := 4, nstat := 0,
        axes := [{ pos := 1, vel := 2, iAct := 3, astat := 1 }, { pos := 1, vel := 2, iAct := 3, astat := 1 }], input := [7], tse := [] } true 2 ((st51a.set (nodeFld 5) 3).set F.clkHalCutAct_CUT_ACT 10000),
   metHalyard (D 2 7) 0 5 0x123456789A { mac := 0x123456789A, vendor := 2, product := 1, serial := 9, axes := 2, ioIn := 4, ioOut := 40, caps := 0 } {
        mac := 0x123456789A, node := 5, tick := 0, tSample := 4, nstat := 0,
        axes := [{ pos := 1, vel := 2, iAct := 3, astat := 1 }, { pos := 1, vel := 2, iAct := 3, astat := 1 }], input := [7], tse := [] } true 2 ((((st51a.set (nodeFld 5) 3).set F.clkHalCutAct_CUT_ACT 10000)).set (F.netPortCfg_MODE 0) 1),
   metHalyard (D 2 7) 0 5 0x123456789A { mac := 0x323456789A, vendor := 2, product := 1, serial := 9, axes := 2, ioIn := 4, ioOut := 40, caps := 0 } {
        mac := 0x123456789A, node := 5, tick := 0, tSample := 4, nstat := 0,
        axes := [{ pos := 1, vel := 2, iAct := 3, astat := 1 }, { pos := 1, vel := 2, iAct := 3, astat := 1 }], input := [7], tse := [] } true 2 (((st51a.set (nodeFld 5) 1).set F.clkHalCutAct_CUT_ACT 10000).updNode 5 (fun y => { y with seenIn := some 0 })),
   metHalyard (D 4 (5 + 2 ^ 10) 0x0000000100000002 0x00020028 0x050C) 0 5 0x123456789A { mac := 0x123456789A, vendor := 2, product := 1, serial := 9, axes := 2, ioIn := 4, ioOut := 40, caps := 0 } {
        mac := 0x123456789A, node := 5, tick := 0, tSample := 4, nstat := 0,
        axes := [{ pos := 1, vel := 2, iAct := 3, astat := 1 }, { pos := 1, vel := 2, iAct := 3, astat := 1 }], input := [7], tse := [] } true 2 ((((st51a.set (nodeFld 5) 4).set F.clkHalCutAct_CUT_ACT 10000).updAxis 40 (fun x => { x with bound := some (2, 0), pe := some 24 })).set (grpFld 2) gEnabled),
   metHalyard (D 4 0x0003_0405 0 0 0) 0 5 0x123456789B { ({ mac := 0x123456789A, vendor := 2, product := 1, serial := 9, axes := 2, ioIn := 4, ioOut := 40, caps := 0 : HalAnnounce }) with axes := 1, mac := 0x223456789A } { mac := 0x123456789A, node := 6, tick := 0, tSample := 4, nstat := 0, axes := [], input := [7], tse := [] : HalReply } false 0 (
        (
          (
            (
              { ((((live mRun).set (F.netPortCfg_MODE 0) 2).set (F.netPortStatus_LINK 0) 1).updEng eNE (fun x => { x with run := true })) with
                clk := { (((((live mRun).set (F.netPortCfg_MODE 0) 2).set (F.netPortStatus_LINK 0) 1).updEng eNE (fun x => { x with run := true }))).clk with
                  ticks := 3, clk := 5 * 2^32 * 1000000 } } : State).updNode 5 (fun y => { y with cfg := some { owner := 0xFF, wd := 3, rejoin := true, tse := false, port := 2, product := 1, vendor := 2, serial := 0, count := 2, base := 40, ioOut := 12, ioIn := 1 : NodeCfg }, port := 0, mac := 0x123456789A, invite := false, wdDue := 0, joinDue := 0, lastTick := 77 })).set (nodeFld 5) 4).set F.clkHalCutAct_CUT_ACT 10000),
   metHalyard (D 4 0x0003_0405 0 0 0) 0 5 0x123456789B { ({ mac := 0x123456789A, vendor := 2, product := 1, serial := 9, axes := 2, ioIn := 4, ioOut := 40, caps := 0 : HalAnnounce }) with axes := 1, mac := 0x223456789A } { mac := 0x123456789A, node := 6, tick := 0, tSample := 4, nstat := 0, axes := [], input := [7], tse := [] : HalReply } false 0 (
        { (
            { ((((live mRun).set (F.netPortCfg_MODE 0) 2).set (F.netPortStatus_LINK 0) 1).updEng eNE (fun x => { x with run := true })) with
              clk := { (((((live mRun).set (F.netPortCfg_MODE 0) 2).set (F.netPortStatus_LINK 0) 1).updEng eNE (fun x => { x with run := true }))).clk with
                ticks := 3, clk := 5 * 2^32 * 1000000 } } : State) with
          clk := { (
              (
                { ((((live mRun).set (F.netPortCfg_MODE 0) 2).set (F.netPortStatus_LINK 0) 1).updEng eNE (fun x => { x with run := true })) with
                  clk := { (((((live mRun).set (F.netPortCfg_MODE 0) 2).set (F.netPortStatus_LINK 0) 1).updEng eNE (fun x => { x with run := true }))).clk with
                    ticks := 3, clk := 5 * 2^32 * 1000000 } } : State)).clk with
            clk := 2^64 } } : State),
   metHalyard (D 4 0x0003_0405 0 0 0) 0 5 0x123456789B { ({ mac := 0x123456789A, vendor := 2, product := 1, serial := 9, axes := 2, ioIn := 4, ioOut := 40, caps := 0 : HalAnnounce }) with axes := 1, mac := 0x223456789A } { mac := 0x123456789A, node := 6, tick := 0, tSample := 4, nstat := 0, axes := [], input := [7], tse := [] : HalReply } false 0 (
        (
          (
            (
              (
                (
                  { ((((live mRun).set (F.netPortCfg_MODE 0) 2).set (F.netPortStatus_LINK 0) 1).updEng eNE (fun x => { x with run := true })) with
                    clk := { (((((live mRun).set (F.netPortCfg_MODE 0) 2).set (F.netPortStatus_LINK 0) 1).updEng eNE (fun x => { x with run := true }))).clk with
                      ticks := 3, clk := 5 * 2^32 * 1000000 } } : State).updNode 5 (fun y => { y with cfg := some { owner := 0xFF, wd := 3, rejoin := true, tse := false, port := 2, product := 1, vendor := 2, serial := 0, count := 2, base := 40, ioOut := 12, ioIn := 1 : NodeCfg }, port := 0, mac := 0x123456789A, invite := false, wdDue := 3, joinDue := 3, lastTick := 77 })).set (nodeFld 5) 1).set F.clkHalCutAct_CUT_ACT 10000)).updEng eNE (fun x => { x with run := false }))] = true := by decide +kernel

def metShroudInputs (p : Fin 8) (b level srcB : Bool) (dark : BitVec 16) (z : Fin 16) (m : ShroudSample) (s : State) : List Bool :=
  let c := s.scfg
  let pc := c.pair p.val
  let x := s.pairIn p.val
  let step := s.shr.tick + 1
  [decide (∀ i, x.left = some i → s.shr.tick ≤ i + pc.dt)] ++
  (match x.left with
   | some i =>
     [decide (i + pc.dt < s.shr.tick)]
   | _ => List.replicate 1 false) ++
  (let zone := c.zones.find? (fun e => e.1 == z.val)
   let press (r : RstSrc) : Option Nat := match r with | .pair i => (s.pairIn i).press | .tse i => (s.tseC i).press
   let jammed (v : State) (r : RstSrc) : Bool := match r with | .pair i => (v.pairIn i).jammed | .tse i => (v.tseC i).jammed
   let due : Bool := decide (((zone).any (fun e => decide (jammed s e.2.rst = false ∧ ((press e.2.rst).any (fun r => decide (r + 500 ≤ s.shr.tick))) = true))) = true)
   [decide (¬ due)] ++
   (match zone with
    | some e =>
      [decide (due)]
    | _ => List.replicate 1 false)) ++
  [decide (s.shr.started = true)] ++
  (if s.shr.started = false then
    (if s.shrState ≠ 3 then
      ([decide (s.shr.store = none), (match s.shr.store with | some _ => true | _ => false)])
     else List.replicate 2 false)
   else List.replicate 2 false) ++
  (let w := s.atCyc m.cyc
   let late := if m.agree then 0 else s.shr.disagree + 1
   let cause := if m.selfTest = false then 2 else if 2 ≤ late then 1 else 0
   [decide (s.shr.started = false), decide ((s.shr.started = true) ∧ (s.shr.apply = none) ∧ (s.shrState ≠ 3) ∧ cause ≠ 0)] ++
   (match s.shr.apply with
    | some y =>
      [decide ((s.shr.started = true) ∧ (cause = 0) ∧ s.shrState ≠ 3)]
    | _ => List.replicate 1 false) ++
   (if s.shr.started = true then
     ((if s.shr.apply = none then
        ((if cause = 0 then
           ((if s.shrState = 2 then
              ([true] ++
               (let v := (w.updShr (fun y => { y with tick := step, disagree := late })).bump F.shrTick_STICK
                let i := forEach c.axes (safeStep m) v
                let j := tseLeft (soReadback m (stoReadback m i))
                let k := shrTests m j
                let n := if s.shr.deviceSto then forEach (c.zones.map (·.1)) (fun e o => o.updZone e (fun y => { y with held := true })) k else k
                (if (c.axes.map (·.1)).Nodup then
                  ((orCols 3 ((c.axes).map (fun e =>
                      let y := s.sa e.1
                      [decide (e.2.src = 2), decide ((e.2.src ≠ 2) ∧ y.c1 = none)] ++
                      (match y.c1 with
                       | some o =>
                         [decide (e.2.src ≠ 2)]
                       | _ => List.replicate 1 false)))))
                 else List.replicate 3 false) ++
                [decide (∀ e, e ∈ c.zones → (n.zone e.1).edge = false)] ++
                (orCols 3 ((c.zones).map (fun e =>
                   (if c.zones.filter (fun o => (n.zone o.1).edge) = [e] then
                     ([true] ++
                      [decide ((c.axes.map (·.1)).Nodup)] ++
                      (if (c.fns.map (·.1)).Nodup then
                        (orCols 1 ((c.fns).map (fun o =>
                           [decide (o.2.func ≠ 7)])))
                       else List.replicate 1 false))
                    else List.replicate 3 false))))))
             else List.replicate 8 false))
          else List.replicate 8 false))
       else List.replicate 8 false))
    else List.replicate 8 false))

theorem test_ShroudInputs_met : covers [
   metShroudInputs 1 true true false 0x0 4 ({ agree := false, counts0 := [(3, 5)] } : ShroudSample)
        (let u : State :=
            (let u : State :=
                (let u : State := shr0;
                 { u with
                    shr := { u.shr with
                      cfg := some (
                        { (shrCfg) with
                          fns := [
                            (
                              1,
                              { (
                                  {
                                    func := 1, zone := 4, pairs := 0, host := true, tse := none, restart := false, react := false, tDelay := 5,
                                    tRamp := 7, hd := false, share := 30000, margin := 0, reef := false, tReact := 9, dir := false, out := 1,
                                    tBrake := 6 : FnCfg }) with
                                func := 1, pairs := 2 }),
                            (
                              2,
                              { (
                                  {
                                    func := 1, zone := 4, pairs := 0, host := true, tse := none, restart := false, react := false, tDelay := 5,
                                    tRamp := 7, hd := false, share := 30000, margin := 0, reef := false, tReact := 9, dir := false, out := 1,
                                    tBrake := 6 : FnCfg }) with
                                func := 2, react := true, host:=true }),
                            (
                              3,
                              { (
                                  {
                                    func := 1, zone := 4, pairs := 0, host := true, tse := none, restart := false, react := false, tDelay := 5,
                                    tRamp := 7, hd := false, share := 30000, margin := 0, reef := false, tReact := 9, dir := false, out := 1,
                                    tBrake := 6 : FnCfg }) with
                                func := 5, pairs := 4, react := true }),
                            (
                              4,
                              { (
                                  {
                                    func := 1, zone := 4, pairs := 0, host := true, tse := none, restart := false, react := false, tDelay := 5,
                                    tRamp := 7, hd := false, share := 30000, margin := 0, reef := false, tReact := 9, dir := false, out := 1,
                                    tBrake := 6 : FnCfg }) with
                                func := 4, pairs:=2 }),
                            (
                              5,
                              { (
                                  {
                                    func := 1, zone := 4, pairs := 0, host := true, tse := none, restart := false, react := false, tDelay := 5,
                                    tRamp := 7, hd := false, share := 30000, margin := 0, reef := false, tReact := 9, dir := false, out := 1,
                                    tBrake := 6 : FnCfg }) with
                                func := 6, host:=true }),
                            (
                              6,
                              { (
                                  {
                                    func := 1, zone := 4, pairs := 0, host := true, tse := none, restart := false, react := false, tDelay := 5,
                                    tRamp := 7, hd := false, share := 30000, margin := 0, reef := false, tReact := 9, dir := false, out := 1,
                                    tBrake := 6 : FnCfg }) with
                                func := 7, out := 1 }),
                            (
                              7,
                              { (
                                  {
                                    func := 1, zone := 4, pairs := 0, host := true, tse := none, restart := false, react := false, tDelay := 5,
                                    tRamp := 7, hd := false, share := 30000, margin := 0, reef := false, tReact := 9, dir := false, out := 1,
                                    tBrake := 6 : FnCfg }) with
                                func := 1, zone := 6, restart := true, host:=true })],
                          axes := [
                            (7, { axis := 4, src := 0, fb1 := 3, fb2 := 4, num := 1, den := 1, axNum := 1, axDen := 1, posTol := 5, vRef := 10000, vTol := 100, vZero := 10, posWin := 20, sdiTol := 9 : SafeAxisCfg }),(
                              8,
                              { (
                                  {
                                    axis := 4, src := 0, fb1 := 3, fb2 := 4, num := 1, den := 1, axNum := 1, axDen := 1, posTol := 5, vRef := 10000,
                                    vTol := 100, vZero := 10, posWin := 20, sdiTol := 9 : SafeAxisCfg }) with
                                src := 2, axis := 5 })],
                          outs := [
                            { use := 1, zone := 4, tp := 20 }, { use := 2, zone := 4, tp := 20 },
                            { use := 0, zone := 4, tp := 20 },{ use := 1, zone := 6, tp := 20 }],
                          zones := [(4, { slots := 0x30, line := false, rst := .pair 3 }),(6, { slots := 0x40, line := true, rst := .tse 9 })],
                          conns := [(9, { node := 5, connId := 77, wd := 10, zone := 4, axmap := [some 8,none,none,none] })] }, 5),
                      zones := [(4, { acked := true, sto := false }),(6, { acked := true, sto := false })] } });
             let u := (forEach (List.range 8) (fun p o => o.updPairIn p (fun x => { x with a := p != 3 && p != 2, b := p != 3, state := false })) u);
             u.updTse 9 (fun x => { x with state := 2 }));
         (u.updTse 9 (fun x => { x with state := 3, press := some 700, hold := true })).updZone 6 (fun y => { y with edge := true })),
   metShroudInputs 1 true true false 0x0 4 ({ agree := false, counts0 := [(3, 5)] } : ShroudSample)
        (let u : State :=
            (let u : State :=
                (let u : State := shr0;
                 { u with
                    shr := { u.shr with
                      cfg := some (
                        { (shrCfg) with
                          fns := [
                            (
                              1,
                              { (
                                  {
                                    func := 1, zone := 4, pairs := 0, host := true, tse := none, restart := false, react := false, tDelay := 5,
                                    tRamp := 7, hd := false, share := 30000, margin := 0, reef := false, tReact := 9, dir := false, out := 1,
                                    tBrake := 6 : FnCfg }) with
                                func := 1, pairs := 2 }),
                            (
                              2,
                              { (
                                  {
                                    func := 1, zone := 4, pairs := 0, host := true, tse := none, restart := false, react := false, tDelay := 5,
                                    tRamp := 7, hd := false, share := 30000, margin := 0, reef := false, tReact := 9, dir := false, out := 1,
                                    tBrake := 6 : FnCfg }) with
                                func := 2, react := true, host:=true }),
                            (
                              3,
                              { (
                                  {
                                    func := 1, zone := 4, pairs := 0, host := true, tse := none, restart := false, react := false, tDelay := 5,
                                    tRamp := 7, hd := false, share := 30000, margin := 0, reef := false, tReact := 9, dir := false, out := 1,
                                    tBrake := 6 : FnCfg }) with
                                func := 5, pairs := 4, react := true }),
                            (
                              4,
                              { (
                                  {
                                    func := 1, zone := 4, pairs := 0, host := true, tse := none, restart := false, react := false, tDelay := 5,
                                    tRamp := 7, hd := false, share := 30000, margin := 0, reef := false, tReact := 9, dir := false, out := 1,
                                    tBrake := 6 : FnCfg }) with
                                func := 4, pairs:=2 }),
                            (
                              5,
                              { (
                                  {
                                    func := 1, zone := 4, pairs := 0, host := true, tse := none, restart := false, react := false, tDelay := 5,
                                    tRamp := 7, hd := false, share := 30000, margin := 0, reef := false, tReact := 9, dir := false, out := 1,
                                    tBrake := 6 : FnCfg }) with
                                func := 6, host:=true }),
                            (
                              6,
                              { (
                                  {
                                    func := 1, zone := 4, pairs := 0, host := true, tse := none, restart := false, react := false, tDelay := 5,
                                    tRamp := 7, hd := false, share := 30000, margin := 0, reef := false, tReact := 9, dir := false, out := 1,
                                    tBrake := 6 : FnCfg }) with
                                func := 7, out := 1 }),
                            (
                              7,
                              { (
                                  {
                                    func := 1, zone := 4, pairs := 0, host := true, tse := none, restart := false, react := false, tDelay := 5,
                                    tRamp := 7, hd := false, share := 30000, margin := 0, reef := false, tReact := 9, dir := false, out := 1,
                                    tBrake := 6 : FnCfg }) with
                                func := 1, zone := 6, restart := true, host:=true })],
                          axes := [
                            (7, { axis := 4, src := 0, fb1 := 3, fb2 := 4, num := 1, den := 1, axNum := 1, axDen := 1, posTol := 5, vRef := 10000, vTol := 100, vZero := 10, posWin := 20, sdiTol := 9 : SafeAxisCfg }),(
                              8,
                              { (
                                  {
                                    axis := 4, src := 0, fb1 := 3, fb2 := 4, num := 1, den := 1, axNum := 1, axDen := 1, posTol := 5, vRef := 10000,
                                    vTol := 100, vZero := 10, posWin := 20, sdiTol := 9 : SafeAxisCfg }) with
                                src := 2, axis := 5 })],
                          outs := [
                            { use := 1, zone := 4, tp := 20 }, { use := 2, zone := 4, tp := 20 },
                            { use := 0, zone := 4, tp := 20 },{ use := 1, zone := 6, tp := 20 }],
                          zones := [(4, { slots := 0x30, line := false, rst := .pair 3 }),(6, { slots := 0x40, line := true, rst := .tse 9 })],
                          conns := [(9, { node := 5, connId := 77, wd := 10, zone := 4, axmap := [some 8,none,none,none] })] }, 5),
                      zones := [(4, { acked := true, sto := false }),(6, { acked := true, sto := false })] } });
             let u := (forEach (List.range 8) (fun p o => o.updPairIn p (fun x => { x with a := p != 3 && p != 2, b := p != 3, state := false })) u);
             u.updTse 9 (fun x => { x with state := 2 }));
         (u.updPairIn 3 (fun x => { x with press := some 500 })).updPairIn 1 (fun x => { x with left := some 979, a := false })),
   metShroudInputs 1 true false false 0xAA 6 ({ selfTest := false, cyc := 5 } : ShroudSample) (
        { shrRun with shr := { (shrRun).shr with tick := 1000, cfg := some (shrCfg, 5) } } : State),
   metShroudInputs 1 true false false 0xAA 6 ({ selfTest := false, cyc := 5 } : ShroudSample) shr0,
   metShroudInputs 1 true true false 0x0 4 ({ agree := false, counts0 := [(3, 5)] } : ShroudSample)
        (let u : State :=
            (let u : State :=
                (let u : State := shr0;
                 { u with
                    shr := { u.shr with
                      cfg := some (
                        { (shrCfg) with
                          fns := [
                            (
                              2,
                              { (
                                  {
                                    func := 1, zone := 4, pairs := 0, host := true, tse := none, restart := false, react := false, tDelay := 5,
                                    tRamp := 7, hd := false, share := 30000, margin := 0, reef := false, tReact := 9, dir := false, out := 1,
                                    tBrake := 6 : FnCfg }) with
                                func := 3, host:=true, restart := true }),
                            (
                              3,
                              { (
                                  {
                                    func := 1, zone := 4, pairs := 0, host := true, tse := none, restart := false, react := false, tDelay := 5,
                                    tRamp := 7, hd := false, share := 30000, margin := 0, reef := false, tReact := 9, dir := false, out := 1,
                                    tBrake := 6 : FnCfg }) with
                                func := 5, host := true }),
                            (
                              7,
                              { (
                                  {
                                    func := 1, zone := 4, pairs := 0, host := true, tse := none, restart := false, react := false, tDelay := 5,
                                    tRamp := 7, hd := false, share := 30000, margin := 0, reef := false, tReact := 9, dir := false, out := 1,
                                    tBrake := 6 : FnCfg }) with
                                func := 1, zone := 6 })],
                          axes := [
                            (7, { axis := 4, src := 0, fb1 := 3, fb2 := 4, num := 1, den := 1, axNum := 1, axDen := 1, posTol := 5, vRef := 10000, vTol := 100, vZero := 10, posWin := 20, sdiTol := 9 : SafeAxisCfg }),(
                              8,
                              { (
                                  {
                                    axis := 4, src := 0, fb1 := 3, fb2 := 4, num := 1, den := 1, axNum := 1, axDen := 1, posTol := 5, vRef := 10000,
                                    vTol := 100, vZero := 10, posWin := 20, sdiTol := 9 : SafeAxisCfg }) with
                                src := 2, axis := 5 })],
                          outs := [
                            { use := 1, zone := 4, tp := 20 }, { use := 2, zone := 4, tp := 20 },
                            { use := 0, zone := 4, tp := 20 },{ use := 1, zone := 6, tp := 20 }],
                          zones := [(4, { slots := 0x30, line := false, rst := .pair 3 }),(6, { slots := 0x40, line := true, rst := .tse 9 })],
                          conns := [(9, { node := 5, connId := 77, wd := 10, zone := 4, axmap := [some 8,none,none,none] })] }, 5),
                      zones := [(4, { acked := true, sto := false }),(6, { acked := true, sto := false })] } });
             let u := (forEach (List.range 8) (fun p o => o.updPairIn p (fun x => { x with a := p != 3 && p != 2, b := p != 3, state := false })) u);
             u.updTse 9 (fun x => { x with state := 2 }));
         (
            (u.updFn 2 (fun x => { x with state := 3, sos := true, pos := [(7, 100)]})).updFn 3 (fun x => { x with state := 1, live := true })).updSa 7 (fun y => { y with c1 := some 5, c2 := 80, speed := 9000 })),
   metShroudInputs 1 true true false 0x0 4 ({ agree := false, counts0 := [(3, 5)] } : ShroudSample)
        (let u : State := shr0;
         { u with
            shr := { u.shr with
              apply := some (
                { (shrCfg) with
                  fns := [
                    (
                      1,
                      { (
                          {
                            func := 1, zone := 4, pairs := 0, host := true, tse := none, restart := false, react := false, tDelay := 5, tRamp := 7,
                            hd := false, share := 30000, margin := 0, reef := false, tReact := 9, dir := false, out := 1, tBrake := 6 : FnCfg }) with
                        func := 1, pairs := 2 }),
                    (
                      2,
                      { (
                          {
                            func := 1, zone := 4, pairs := 0, host := true, tse := none, restart := false, react := false, tDelay := 5, tRamp := 7,
                            hd := false, share := 30000, margin := 0, reef := false, tReact := 9, dir := false, out := 1, tBrake := 6 : FnCfg }) with
                        func := 2, react := true, host:=true }),
                    (
                      3,
                      { (
                          {
                            func := 1, zone := 4, pairs := 0, host := true, tse := none, restart := false, react := false, tDelay := 5, tRamp := 7,
                            hd := false, share := 30000, margin := 0, reef := false, tReact := 9, dir := false, out := 1, tBrake := 6 : FnCfg }) with
                        func := 5, pairs := 4, react := true }),
                    (
                      4,
                      { (
                          {
                            func := 1, zone := 4, pairs := 0, host := true, tse := none, restart := false, react := false, tDelay := 5, tRamp := 7,
                            hd := false, share := 30000, margin := 0, reef := false, tReact := 9, dir := false, out := 1, tBrake := 6 : FnCfg }) with
                        func := 4, pairs:=2 }),
                    (
                      5,
                      { (
                          {
                            func := 1, zone := 4, pairs := 0, host := true, tse := none, restart := false, react := false, tDelay := 5, tRamp := 7,
                            hd := false, share := 30000, margin := 0, reef := false, tReact := 9, dir := false, out := 1, tBrake := 6 : FnCfg }) with
                        func := 6, host:=true }),
                    (
                      6,
                      { (
                          {
                            func := 1, zone := 4, pairs := 0, host := true, tse := none, restart := false, react := false, tDelay := 5, tRamp := 7,
                            hd := false, share := 30000, margin := 0, reef := false, tReact := 9, dir := false, out := 1, tBrake := 6 : FnCfg }) with
                        func := 7, out := 1 }),
                    (
                      7,
                      { (
                          {
                            func := 1, zone := 4, pairs := 0, host := true, tse := none, restart := false, react := false, tDelay := 5, tRamp := 7,
                            hd := false, share := 30000, margin := 0, reef := false, tReact := 9, dir := false, out := 1, tBrake := 6 : FnCfg }) with
                        func := 1, zone := 6, restart := true, host:=true })],
                  axes := [
                    (7, { axis := 4, src := 0, fb1 := 3, fb2 := 4, num := 1, den := 1, axNum := 1, axDen := 1, posTol := 5, vRef := 10000, vTol := 100, vZero := 10, posWin := 20, sdiTol := 9 : SafeAxisCfg }),(
                      8,
                      { (
                          {
                            axis := 4, src := 0, fb1 := 3, fb2 := 4, num := 1, den := 1, axNum := 1, axDen := 1, posTol := 5, vRef := 10000,
                            vTol := 100, vZero := 10, posWin := 20, sdiTol := 9 : SafeAxisCfg }) with
                        src := 2, axis := 5 })],
                  outs := [
                    { use := 1, zone := 4, tp := 20 }, { use := 2, zone := 4, tp := 20 },
                    { use := 0, zone := 4, tp := 20 },{ use := 1, zone := 6, tp := 20 }],
                  zones := [(4, { slots := 0x30, line := false, rst := .pair 3 }),(6, { slots := 0x40, line := true, rst := .tse 9 })],
                  conns := [(9, { node := 5, connId := 77, wd := 10, zone := 4, axmap := [some 8,none,none,none] })] }, 77, 3) } }),
   metShroudInputs 1 true false false 0xAA 6 ({ selfTest := false, cyc := 5 } : ShroudSample) (
        { shrRun with
          shr := { (shrRun).shr with
            tick := 1000, cfg := some (shrCfg, 5),
            store := some (
              { (shrCfg) with
                fns := [
                  (
                    1,
                    { (
                        {
                          func := 1, zone := 4, pairs := 0, host := true, tse := none, restart := false, react := false, tDelay := 5, tRamp := 7,
                          hd := false, share := 30000, margin := 0, reef := false, tReact := 9, dir := false, out := 1, tBrake := 6 : FnCfg }) with
                      func := 1, pairs := 2 }),
                  (
                    2,
                    { (
                        {
                          func := 1, zone := 4, pairs := 0, host := true, tse := none, restart := false, react := false, tDelay := 5, tRamp := 7,
                          hd := false, share := 30000, margin := 0, reef := false, tReact := 9, dir := false, out := 1, tBrake := 6 : FnCfg }) with
                      func := 2, react := true, host:=true }),
                  (
                    3,
                    { (
                        {
                          func := 1, zone := 4, pairs := 0, host := true, tse := none, restart := false, react := false, tDelay := 5, tRamp := 7,
                          hd := false, share := 30000, margin := 0, reef := false, tReact := 9, dir := false, out := 1, tBrake := 6 : FnCfg }) with
                      func := 5, pairs := 4, react := true }),
                  (
                    4,
                    { (
                        {
                          func := 1, zone := 4, pairs := 0, host := true, tse := none, restart := false, react := false, tDelay := 5, tRamp := 7,
                          hd := false, share := 30000, margin := 0, reef := false, tReact := 9, dir := false, out := 1, tBrake := 6 : FnCfg }) with
                      func := 4, pairs:=2 }),
                  (
                    5,
                    { (
                        {
                          func := 1, zone := 4, pairs := 0, host := true, tse := none, restart := false, react := false, tDelay := 5, tRamp := 7,
                          hd := false, share := 30000, margin := 0, reef := false, tReact := 9, dir := false, out := 1, tBrake := 6 : FnCfg }) with
                      func := 6, host:=true }),
                  (
                    6,
                    { (
                        {
                          func := 1, zone := 4, pairs := 0, host := true, tse := none, restart := false, react := false, tDelay := 5, tRamp := 7,
                          hd := false, share := 30000, margin := 0, reef := false, tReact := 9, dir := false, out := 1, tBrake := 6 : FnCfg }) with
                      func := 7, out := 1 }),
                  (
                    7,
                    { (
                        {
                          func := 1, zone := 4, pairs := 0, host := true, tse := none, restart := false, react := false, tDelay := 5, tRamp := 7,
                          hd := false, share := 30000, margin := 0, reef := false, tReact := 9, dir := false, out := 1, tBrake := 6 : FnCfg }) with
                      func := 1, zone := 6, restart := true, host:=true })],
                axes := [
                  (7, { axis := 4, src := 0, fb1 := 3, fb2 := 4, num := 1, den := 1, axNum := 1, axDen := 1, posTol := 5, vRef := 10000, vTol := 100, vZero := 10, posWin := 20, sdiTol := 9 : SafeAxisCfg }),(
                    8,
                    { (
                        {
                          axis := 4, src := 0, fb1 := 3, fb2 := 4, num := 1, den := 1, axNum := 1, axDen := 1, posTol := 5, vRef := 10000,
                          vTol := 100, vZero := 10, posWin := 20, sdiTol := 9 : SafeAxisCfg }) with
                      src := 2, axis := 5 })],
                outs := [
                  { use := 1, zone := 4, tp := 20 }, { use := 2, zone := 4, tp := 20 },
                  { use := 0, zone := 4, tp := 20 },{ use := 1, zone := 6, tp := 20 }],
                zones := [(4, { slots := 0x30, line := false, rst := .pair 3 }),(6, { slots := 0x40, line := true, rst := .tse 9 })],
                conns := [(9, { node := 5, connId := 77, wd := 10, zone := 4, axmap := [some 8,none,none,none] })] }, 9) } } : State)] = true := by decide +kernel

def metShroudFunctions (k : Fin 32) (q : Fin 4) (fell b : Bool) (cyc : Nat) (c : Fin 127) (m : ShroudSample) (s : State) : List Bool :=
  let cfg := s.scfg
  let tick := s.shr.tick
  let inst := cfg.fns.find? (fun e => e.1 == k.val)
  (let x := s.fn k.val
   (let due : FnCfg → Prop := (fun f => (f.func = 2 ∨ f.func = 3) ∧ x.state = 2 ∧ x.onset + x.env.1 + x.env.2 ≤ tick)
    [decide (∀ e, inst = some e → ¬ due e.2)] ++
    (match inst with
     | some e =>
       [decide (due e.2)]
     | _ => List.replicate 1 false)) ++
   (let due : FnCfg → Prop := (fun f => f.func = 5 ∧ x.state = 1 ∧ x.onset + f.tReact ≤ tick)
    [decide (∀ e, inst = some e → ¬ due e.2)] ++
    (match inst with
     | some e =>
       [decide (due e.2)]
     | _ => List.replicate 1 false))) ++
  (let due (f : FnCfg) : Bool := decide (f.func = 7 ∧ (((s.outP f.out).brakeDue).any (fun d => decide (d ≤ tick))) = true)
   [decide (∀ e, inst = some e → ¬ due e.2)] ++
   (match inst with
    | some e =>
      [decide (due e.2)]
    | _ => List.replicate 1 false)) ++
  (let o := s.outP q.val
   [decide (o.on = false), decide (o.on = true)]) ++
  (let conn := cfg.conns.find? (fun e => e.1 == c.val)
   let x := s.tseC c.val
   [decide (conn = none ∨ x.box = none)] ++
   (match conn with
    | some e =>
      [(match x.box with | some _ => true | _ => false)]
    | _ => List.replicate 1 false) ++
   (let due : Bool := decide (x.flying = true ∧ x.wdDue ≤ tick ∧ x.state ≠ 3)
    [decide (¬ due)] ++
    (match conn with
     | some e =>
       [decide (due)]
     | _ => List.replicate 1 false)) ++
   (let due (w : TseCfg) : Bool := decide (s.nodeSt w.node = nJoined ∧ (x.state = 0 ∨ x.state = 3)
    )
    [decide (∀ e, conn = some e → ¬ due e.2)] ++
    (match conn with
     | some e =>
       [decide (due e.2)]
     | _ => List.replicate 1 false) ++
    (let runs : Bool := decide (s.shr.started = true ∧ s.shr.apply = none ∧ m.selfTest = true ∧ m.agree = true ∧ s.shrState = 2 ∧
       (∀ e, e ∈ cfg.zones → (s.zone e.1).edge = false))
     [decide (runs)]))) ++
  (let open' : Bool := decide (s.ready = true ∧ s.shr.session.isSome = true ∧ s.shr.started = true)
   [decide (open'), decide (¬ open')])

theorem test_ShroudFunctions_met : covers [
   metShroudFunctions 2 1 false false 3 9 ({ cyc := 7, counts0 := [(3, 100)], counts1 := [(4, 90)], stoA := 0xFF, stoB := 0xFF, outA := 2, checkA := 0x10, checkB := 0x10, fell := 3 } : ShroudSample)
        (let u : State := shr0;
         (((u.set (nodeFld 5) 4).updTse 9 (fun x => { x with state := 3 })).updSa 8 (fun x => { x with pos := 1000, tsePos := some 0x123450 }))),
   metShroudFunctions 2 1 false false 3 9 ({ cyc := 7, counts0 := [(3, 100)], counts1 := [(4, 90)], stoA := 0xFF, stoB := 0xFF, outA := 2, checkA := 0x10, checkB := 0x10, fell := 3 } : ShroudSample)
        (let u : State := shr0;
         (
            (
              (u.set (nodeFld 5) 4).updTse 9 (
                fun x => { x with
                  state := 1, tx := 1, prev := (1 - 1), rx := 0, flying := true, wdDue := 1000,
                  box := some
                    (let b : List Byte := rep [(2, 1), (2, 0), (2, 10), (1, 3), (1, 0), (4, 77), (2, 5), (2,1), (3, 0x123456), (9, 0)];
                     b ++ leBytes 4 (crc32c (BitVec.ofNat 32 77) b).toNat) })).updSa 8 (fun x => { x with pos := 1000, tsePos := some 0x123450 }))),
   metShroudFunctions 3 1 true true 4 9 ({ cyc := 9, stoB := 1, outA := 2, outB := 4, checkB := 0x30, fell := 0xFC } : ShroudSample)
        (let u : State :=
            (let u : State := shr0;
             let u := forEach (List.range 8) (fun p o => o.updPairIn p (fun x => { x with a := p != 3 && p != 2, b := p != 3, state := false })) u;
             { u with
                shr := { u.shr with
                  cfg := some (
                    { (
                        { (shrCfg) with
                          fns := [
                            (
                              2,
                              { (
                                  {
                                    func := 1, zone := 4, pairs := 0, host := true, tse := none, restart := false, react := false, tDelay := 5,
                                    tRamp := 7, hd := false, share := 30000, margin := 0, reef := false, tReact := 9, dir := false, out := 1,
                                    tBrake := 6 : FnCfg }) with
                                func := 2, react := true, host:=true }),
                            (
                              3,
                              { (
                                  {
                                    func := 1, zone := 4, pairs := 0, host := true, tse := none, restart := false, react := false, tDelay := 5,
                                    tRamp := 7, hd := false, share := 30000, margin := 0, reef := false, tReact := 9, dir := false, out := 1,
                                    tBrake := 6 : FnCfg }) with
                                func := 5, host := true, react := true }),
                            (
                              6,
                              { (
                                  {
                                    func := 1, zone := 4, pairs := 0, host := true, tse := none, restart := false, react := false, tDelay := 5,
                                    tRamp := 7, hd := false, share := 30000, margin := 0, reef := false, tReact := 9, dir := false, out := 1,
                                    tBrake := 6 : FnCfg }) with
                                func := 7, out := 1 }),
                            (
                              7,
                              { (
                                  {
                                    func := 1, zone := 4, pairs := 0, host := true, tse := none, restart := false, react := false, tDelay := 5,
                                    tRamp := 7, hd := false, share := 30000, margin := 0, reef := false, tReact := 9, dir := false, out := 1,
                                    tBrake := 6 : FnCfg }) with
                                func := 7, zone := 6, out := 2, tBrake := 0 }),
                            (
                              8,
                              { (
                                  {
                                    func := 1, zone := 4, pairs := 0, host := true, tse := none, restart := false, react := false, tDelay := 5,
                                    tRamp := 7, hd := false, share := 30000, margin := 0, reef := false, tReact := 9, dir := false, out := 1,
                                    tBrake := 6 : FnCfg }) with
                                func := 3, zone := 6, host := true })],
                          axes := [
                            (7, { axis := 4, src := 0, fb1 := 3, fb2 := 4, num := 1, den := 1, axNum := 1, axDen := 1, posTol := 5, vRef := 10000, vTol := 100, vZero := 10, posWin := 20, sdiTol := 9 : SafeAxisCfg }),(
                              8,
                              { (
                                  {
                                    axis := 4, src := 0, fb1 := 3, fb2 := 4, num := 1, den := 1, axNum := 1, axDen := 1, posTol := 5, vRef := 10000,
                                    vTol := 100, vZero := 10, posWin := 20, sdiTol := 9 : SafeAxisCfg }) with
                                src := 2, axis := 5 })],
                          outs := [
                            { use := 1, zone := 4, tp := 20 }, { use := 2, zone := 4, tp := 20 },
                            { use := 0, zone := 4, tp := 20 },{ use := 1, zone := 6, tp := 20 }],
                          zones := [(4, { slots := 0x30, line := false, rst := .pair 3 }),(6, { slots := 0x40, line := true, rst := .tse 9 })],
                          conns := [(9, { node := 5, connId := 77, wd := 10, zone := 4, axmap := [some 8,none,none,none] })] }) with
                      outs := [
                        { use := 1, zone := 4, tp := 20 }, { use := 2, zone := 4, tp := 20 },
                        { use := 2, zone := 4, tp := 20 },{ use := 1, zone := 6, tp := 20 }] }, 5),
                  zones := [(4, { acked := true, sto := false }),(6, { acked := true, sto := false })] } }.updTse 9 (fun x => { x with state := 2, sent := 1000, flying := true, wdDue := 1004 }));
         (
            (({ u with shr := { u.shr with session := some (1, 5000) } }).set F.shrTest_STO_CHECK 1).updOut 1 (fun x => { x with on := true })).set F.shrTest_PULSE_NOW 1),
   metShroudFunctions 3 1 true true 4 9 ({ cyc := 9, stoB := 1, outA := 2, outB := 4, checkB := 0x30, fell := 0xFC } : ShroudSample)
        (let u : State :=
            (let u : State := shr0;
             let u := forEach (List.range 8) (fun p o => o.updPairIn p (fun x => { x with a := p != 3 && p != 2, b := p != 3, state := false })) u;
             { u with
                shr := { u.shr with
                  cfg := some (
                    { (
                        { (shrCfg) with
                          fns := [
                            (
                              2,
                              { (
                                  {
                                    func := 1, zone := 4, pairs := 0, host := true, tse := none, restart := false, react := false, tDelay := 5,
                                    tRamp := 7, hd := false, share := 30000, margin := 0, reef := false, tReact := 9, dir := false, out := 1,
                                    tBrake := 6 : FnCfg }) with
                                func := 2, react := true, host:=true }),
                            (
                              3,
                              { (
                                  {
                                    func := 1, zone := 4, pairs := 0, host := true, tse := none, restart := false, react := false, tDelay := 5,
                                    tRamp := 7, hd := false, share := 30000, margin := 0, reef := false, tReact := 9, dir := false, out := 1,
                                    tBrake := 6 : FnCfg }) with
                                func := 5, host := true, react := true }),
                            (
                              6,
                              { (
                                  {
                                    func := 1, zone := 4, pairs := 0, host := true, tse := none, restart := false, react := false, tDelay := 5,
                                    tRamp := 7, hd := false, share := 30000, margin := 0, reef := false, tReact := 9, dir := false, out := 1,
                                    tBrake := 6 : FnCfg }) with
                                func := 7, out := 1 }),
                            (
                              7,
                              { (
                                  {
                                    func := 1, zone := 4, pairs := 0, host := true, tse := none, restart := false, react := false, tDelay := 5,
                                    tRamp := 7, hd := false, share := 30000, margin := 0, reef := false, tReact := 9, dir := false, out := 1,
                                    tBrake := 6 : FnCfg }) with
                                func := 7, zone := 6, out := 2, tBrake := 0 }),
                            (
                              8,
                              { (
                                  {
                                    func := 1, zone := 4, pairs := 0, host := true, tse := none, restart := false, react := false, tDelay := 5,
                                    tRamp := 7, hd := false, share := 30000, margin := 0, reef := false, tReact := 9, dir := false, out := 1,
                                    tBrake := 6 : FnCfg }) with
                                func := 3, zone := 6, host := true })],
                          axes := [
                            (7, { axis := 4, src := 0, fb1 := 3, fb2 := 4, num := 1, den := 1, axNum := 1, axDen := 1, posTol := 5, vRef := 10000, vTol := 100, vZero := 10, posWin := 20, sdiTol := 9 : SafeAxisCfg }),(
                              8,
                              { (
                                  {
                                    axis := 4, src := 0, fb1 := 3, fb2 := 4, num := 1, den := 1, axNum := 1, axDen := 1, posTol := 5, vRef := 10000,
                                    vTol := 100, vZero := 10, posWin := 20, sdiTol := 9 : SafeAxisCfg }) with
                                src := 2, axis := 5 })],
                          outs := [
                            { use := 1, zone := 4, tp := 20 }, { use := 2, zone := 4, tp := 20 },
                            { use := 0, zone := 4, tp := 20 },{ use := 1, zone := 6, tp := 20 }],
                          zones := [(4, { slots := 0x30, line := false, rst := .pair 3 }),(6, { slots := 0x40, line := true, rst := .tse 9 })],
                          conns := [(9, { node := 5, connId := 77, wd := 10, zone := 4, axmap := [some 8,none,none,none] })] }) with
                      outs := [
                        { use := 1, zone := 4, tp := 20 }, { use := 2, zone := 4, tp := 20 },
                        { use := 2, zone := 4, tp := 20 },{ use := 1, zone := 6, tp := 20 }] }, 5),
                  zones := [(4, { acked := true, sto := false }),(6, { acked := true, sto := false })] } }.updTse 9 (fun x => { x with state := 2, sent := 1000, flying := true, wdDue := 1004 }));
         u.updFn 3 (fun x => { x with state := 1, onset := 991, host := true })),
   metShroudFunctions 8 2 false true 4 9 ({ cyc := 9, stoB := 1, outA := 2, outB := 4, checkB := 0x30, fell := 0xFC } : ShroudSample)
        (let u : State :=
            (let u : State := shr0;
             let u := forEach (List.range 8) (fun p o => o.updPairIn p (fun x => { x with a := p != 3 && p != 2, b := p != 3, state := false })) u;
             { u with
                shr := { u.shr with
                  cfg := some (
                    { (
                        { (shrCfg) with
                          fns := [
                            (
                              2,
                              { (
                                  {
                                    func := 1, zone := 4, pairs := 0, host := true, tse := none, restart := false, react := false, tDelay := 5,
                                    tRamp := 7, hd := false, share := 30000, margin := 0, reef := false, tReact := 9, dir := false, out := 1,
                                    tBrake := 6 : FnCfg }) with
                                func := 2, react := true, host:=true }),
                            (
                              3,
                              { (
                                  {
                                    func := 1, zone := 4, pairs := 0, host := true, tse := none, restart := false, react := false, tDelay := 5,
                                    tRamp := 7, hd := false, share := 30000, margin := 0, reef := false, tReact := 9, dir := false, out := 1,
                                    tBrake := 6 : FnCfg }) with
                                func := 5, host := true, react := true }),
                            (
                              6,
                              { (
                                  {
                                    func := 1, zone := 4, pairs := 0, host := true, tse := none, restart := false, react := false, tDelay := 5,
                                    tRamp := 7, hd := false, share := 30000, margin := 0, reef := false, tReact := 9, dir := false, out := 1,
                                    tBrake := 6 : FnCfg }) with
                                func := 7, out := 1 }),
                            (
                              7,
                              { (
                                  {
                                    func := 1, zone := 4, pairs := 0, host := true, tse := none, restart := false, react := false, tDelay := 5,
                                    tRamp := 7, hd := false, share := 30000, margin := 0, reef := false, tReact := 9, dir := false, out := 1,
                                    tBrake := 6 : FnCfg }) with
                                func := 7, zone := 6, out := 2, tBrake := 0 }),
                            (
                              8,
                              { (
                                  {
                                    func := 1, zone := 4, pairs := 0, host := true, tse := none, restart := false, react := false, tDelay := 5,
                                    tRamp := 7, hd := false, share := 30000, margin := 0, reef := false, tReact := 9, dir := false, out := 1,
                                    tBrake := 6 : FnCfg }) with
                                func := 3, zone := 6, host := true })],
                          axes := [
                            (7, { axis := 4, src := 0, fb1 := 3, fb2 := 4, num := 1, den := 1, axNum := 1, axDen := 1, posTol := 5, vRef := 10000, vTol := 100, vZero := 10, posWin := 20, sdiTol := 9 : SafeAxisCfg }),(
                              8,
                              { (
                                  {
                                    axis := 4, src := 0, fb1 := 3, fb2 := 4, num := 1, den := 1, axNum := 1, axDen := 1, posTol := 5, vRef := 10000,
                                    vTol := 100, vZero := 10, posWin := 20, sdiTol := 9 : SafeAxisCfg }) with
                                src := 2, axis := 5 })],
                          outs := [
                            { use := 1, zone := 4, tp := 20 }, { use := 2, zone := 4, tp := 20 },
                            { use := 0, zone := 4, tp := 20 },{ use := 1, zone := 6, tp := 20 }],
                          zones := [(4, { slots := 0x30, line := false, rst := .pair 3 }),(6, { slots := 0x40, line := true, rst := .tse 9 })],
                          conns := [(9, { node := 5, connId := 77, wd := 10, zone := 4, axmap := [some 8,none,none,none] })] }) with
                      outs := [
                        { use := 1, zone := 4, tp := 20 }, { use := 2, zone := 4, tp := 20 },
                        { use := 2, zone := 4, tp := 20 },{ use := 1, zone := 6, tp := 20 }] }, 5),
                  zones := [(4, { acked := true, sto := false }),(6, { acked := true, sto := false })] } }.updTse 9 (fun x => { x with state := 2, sent := 1000, flying := true, wdDue := 1004 }));
         u.updFn 8 (fun x => { x with state := 2, env := (5,7), onset := 988, host := true })),
   metShroudFunctions 6 2 false true 4 9 ({ cyc := 9, stoB := 1, outA := 2, outB := 4, checkB := 0x30, fell := 0xFC } : ShroudSample)
        (let u : State :=
            (let u : State := shr0;
             let u := forEach (List.range 8) (fun p o => o.updPairIn p (fun x => { x with a := p != 3 && p != 2, b := p != 3, state := false })) u;
             { u with
                shr := { u.shr with
                  cfg := some (
                    { (
                        { (shrCfg) with
                          fns := [
                            (
                              2,
                              { (
                                  {
                                    func := 1, zone := 4, pairs := 0, host := true, tse := none, restart := false, react := false, tDelay := 5,
                                    tRamp := 7, hd := false, share := 30000, margin := 0, reef := false, tReact := 9, dir := false, out := 1,
                                    tBrake := 6 : FnCfg }) with
                                func := 2, react := true, host:=true }),
                            (
                              3,
                              { (
                                  {
                                    func := 1, zone := 4, pairs := 0, host := true, tse := none, restart := false, react := false, tDelay := 5,
                                    tRamp := 7, hd := false, share := 30000, margin := 0, reef := false, tReact := 9, dir := false, out := 1,
                                    tBrake := 6 : FnCfg }) with
                                func := 5, host := true, react := true }),
                            (
                              6,
                              { (
                                  {
                                    func := 1, zone := 4, pairs := 0, host := true, tse := none, restart := false, react := false, tDelay := 5,
                                    tRamp := 7, hd := false, share := 30000, margin := 0, reef := false, tReact := 9, dir := false, out := 1,
                                    tBrake := 6 : FnCfg }) with
                                func := 7, out := 1 }),
                            (
                              7,
                              { (
                                  {
                                    func := 1, zone := 4, pairs := 0, host := true, tse := none, restart := false, react := false, tDelay := 5,
                                    tRamp := 7, hd := false, share := 30000, margin := 0, reef := false, tReact := 9, dir := false, out := 1,
                                    tBrake := 6 : FnCfg }) with
                                func := 7, zone := 6, out := 2, tBrake := 0 }),
                            (
                              8,
                              { (
                                  {
                                    func := 1, zone := 4, pairs := 0, host := true, tse := none, restart := false, react := false, tDelay := 5,
                                    tRamp := 7, hd := false, share := 30000, margin := 0, reef := false, tReact := 9, dir := false, out := 1,
                                    tBrake := 6 : FnCfg }) with
                                func := 3, zone := 6, host := true })],
                          axes := [
                            (7, { axis := 4, src := 0, fb1 := 3, fb2 := 4, num := 1, den := 1, axNum := 1, axDen := 1, posTol := 5, vRef := 10000, vTol := 100, vZero := 10, posWin := 20, sdiTol := 9 : SafeAxisCfg }),(
                              8,
                              { (
                                  {
                                    axis := 4, src := 0, fb1 := 3, fb2 := 4, num := 1, den := 1, axNum := 1, axDen := 1, posTol := 5, vRef := 10000,
                                    vTol := 100, vZero := 10, posWin := 20, sdiTol := 9 : SafeAxisCfg }) with
                                src := 2, axis := 5 })],
                          outs := [
                            { use := 1, zone := 4, tp := 20 }, { use := 2, zone := 4, tp := 20 },
                            { use := 0, zone := 4, tp := 20 },{ use := 1, zone := 6, tp := 20 }],
                          zones := [(4, { slots := 0x30, line := false, rst := .pair 3 }),(6, { slots := 0x40, line := true, rst := .tse 9 })],
                          conns := [(9, { node := 5, connId := 77, wd := 10, zone := 4, axmap := [some 8,none,none,none] })] }) with
                      outs := [
                        { use := 1, zone := 4, tp := 20 }, { use := 2, zone := 4, tp := 20 },
                        { use := 2, zone := 4, tp := 20 },{ use := 1, zone := 6, tp := 20 }] }, 5),
                  zones := [(4, { acked := true, sto := false }),(6, { acked := true, sto := false })] } }.updTse 9 (fun x => { x with state := 2, sent := 1000, flying := true, wdDue := 1004 }));
         (
            u.updOut 1 (fun x => { x with on := true, brakeDue := some 1000, darkA := some 5 })).updOut 2 (fun x => { x with on := true, brakeDue := some 1000, darkA := some 5 }))] = true := by decide +kernel

def metShroudSessions (d : Desc) (k : Fin 32) (s : State) : List Bool :=
  let tick := s.shr.tick
  (let op : Nat := 0x0A00
   let d' : Desc := (d.force 1 0 0 1)
   [decide (accepts s op d' = true)]) ++
  (let op : Nat := 0x0A00
   let d' : Desc := (d.force 1 0 0 0)
   [decide (accepts s op d' = true)]) ++
  (let due : Bool := decide (((s.shr.session).any (fun x => decide (x.2 ≤ tick))) = true)
   [decide (¬ due)] ++
   (match s.shr.session with
    | some x =>
      [decide (due)]
    | _ => List.replicate 1 false)) ++
  (let due : Bool := decide (((s.shr.lockDue).any (fun x => decide (x ≤ tick))) = true)
   [decide (¬ due), decide (due)]) ++
  (let due : Bool := decide (((s.shr.pend).any (fun x => decide (x.2.2 ≤ tick))) = true)
   [decide (¬ due), decide (due)]) ++
  (let op : Nat := 0x0A01
   let d' : Desc := d
   [decide (accepts s op d' = true)]) ++
  (let op : Nat := 0x0A02
   let d' : Desc := d
   [decide (accepts s op d' = true)]) ++
  (let op : Nat := 0x0A03
   let d' : Desc := d
   [decide (accepts s op d' = true)]) ++
  (let op : Nat := 0x0A04
   let d' : Desc := (d.force 1 63 63 0)
   [decide (accepts s op d' = true)]) ++
  (let op : Nat := 0x0A04
   let d' : Desc := (d.force 1 63 63 1)
   [decide (accepts s op d' = true)]) ++
  (let d' : Desc := (d.force 1 0 0 0)
   [decide (accepts s 0x0A05 d' = true)]) ++
  (let d' : Desc := (d.force 1 0 0 1)
   [decide (accepts s 0x0A05 d' = true)])

theorem test_ShroudSessions_met : covers [
   metShroudSessions (D 5 0) 2 shr0,
   metShroudSessions (D 1 77) 2 (let u : State := shr0; { u with shr := { u.shr with lockDue := some 1000 } }),
   metShroudSessions (D 2 0 0x8040) 2 (let u : State := shr0; { u with shr := { u.shr with password := some (7, 1), wrong := 1 } }),
   metShroudSessions (D 5 0) 2 (let u : State := shr0; { u with shr := { u.shr with session := some (0, 1000) } }),
   metShroudSessions (D 5 0) 2
        (let u : State := (let u : State := shr0; { u with shr := { u.shr with pend := some (shrCfg, 77, 1000), deviceSto := true } });
         (u.set F.shrStatus_PW_EMPTY 0).set F.pwtThermStatus_FLASH_OK 1)] = true := by decide +kernel

def metFieldSupply (mv : BitVec 16) (cyc : Nat) (d : Desc) (out : Bool) (ch : Fin 32) (read : BitVec 16) (s : State) : List Bool :=
  let v := mv.toNat
  [decide (11000 ≤ v), decide (v < 11000), decide (accepts s 0x0B01 d = true), decide (accepts s 0x0B00 d = true)] ++
  (let cpl := if out then A.dioCplFaultOut else A.dioCplFaultIn
   let there : Bool := decide (out = false ∨ ch.val < 16)
   [decide (¬ there ∨ s.bitAt cpl ch.val = true), decide ((there) ∧ s.bitAt cpl ch.val = false), decide (¬ there), decide (there)])

theorem test_FieldSupply_met : covers [
   metFieldSupply 0 17 (D 0) true 0 0x5A5A (live mRun),
   metFieldSupply 11000 17 (D 0) true 16 0x5A5A (live mRun),
   metFieldSupply 0 17 (D 1 0xFFF00) true 8 0xFF (live mRun)] = true := by decide +kernel

def metFieldChannels (j : Fin 32) (r : Bool) (n cyc : Nat) (more : List Bool) (m : Fin 8) (v : W32) (q : Fin 16) (s : State) : List Bool :=
  let filt := s.filt j.val
  let c := Table.look 0 s.fld.ctr j.val
  let counts : Bool := decide (s.getB F.dioFldStatus_IN_VALID = true ∧ s.bitAt A.dioCplFaultIn j.val = false
  )
  (if counts then
    (if 1 ≤ filt then
      (if 1 ≤ n then
        (if c ≤ filt then
          ([decide ((c + n < filt) ∧ 1 ≤ c), decide (filt ≤ c + n), decide ((n < c) ∧ c < filt), decide (c ≤ n)])
         else List.replicate 4 false)
       else List.replicate 4 false)
     else List.replicate 4 false)
   else List.replicate 4 false) ++
  [decide (counts), decide (¬ counts), decide (s.ready = false), decide (s.ready = true)] ++
  (let ilim := s.bitAt A.dioOutLimit q.val
   let cooling := s.bitAt A.dioOutLimit (16 + q.val)
   [decide (s.fld.on.getLsbD q.val = false ∨ cooling = true), decide ((s.fld.on.getLsbD q.val = true) ∧ cooling = false), decide (ilim = false),
    decide (ilim = true), decide (s.bitAt A.dioOutCmd q.val = true), decide (s.bitAt A.dioOutCmd q.val = false)])

theorem test_FieldChannels_met : covers [
   metFieldChannels 7 true 40 17 [true, true] 1 0 0 ((live mRun).set F.dioFldStatus_IN_VALID 1),
   metFieldChannels 7 true 1 17 [true, true] 1 0 0 (
        { ((live mRun).set F.dioFldStatus_IN_VALID 1) with
          fld := { (((live mRun).set F.dioFldStatus_IN_VALID 1)).fld with ctr := [(7,5)], on := 0xFFFF } } : State),
   metFieldChannels 7 true 0 17 [true, true] 1 0 0 (
        (
          (
            { ((live mRun).set F.dioFldStatus_IN_VALID 1) with
              fld := { (((live mRun).set F.dioFldStatus_IN_VALID 1)).fld with on := 0xF0F, lat := 0xFF, held := 0x33, enab := true } } : State).setReg A.dioCplFaultIn 0x80).setReg A.dioOutCmd 0x0F0F),
   metFieldChannels 7 true 0 17 [true, true] 1 0 0 (((live mRun).set F.dioFldStatus_IN_VALID 1).set F.glbStatus_READY 0),
   metFieldChannels 7 true 0 17 [true, true] 1 0 0 (
        (
          (
            (
              { ((live mRun).set F.dioFldStatus_IN_VALID 1) with
                fld := { (((live mRun).set F.dioFldStatus_IN_VALID 1)).fld with ctr := [(7,39)], on := 0x0F0F } } : State).setReg A.dioInLevel 0xF0F).setReg A.dioInEvt 0xFFFFFFFF).setReg A.dioOutLimit 0xFF00FF)] = true := by decide +kernel

def metSupplies (vmain vback mA : BitVec 16) (cyc : Nat) (d : Desc) (s : State) : List Bool :=
  let vm := vmain.toNat
  let w := s.atCyc cyc
  let now (v : State) : Nat := v.pwr.upNs + v.clk.cyc * 5 / 2
  let lost := s.getB F.pwtSupStatus_VMAIN_LOST
  let qual := s.getB F.pwtSupStatus_RET_QUAL
  let st := s.chState
  let ccTotal (v : State) : Nat := s.pwr.ccNs + if st = 1 then now v - s.pwr.ccFrom else 0
  (let due : Bool := decide (vm < s.get F.pwtVmainTh_LOSS ∧ lost = false)
   [decide (¬ due), decide (due)]) ++
  (let due : Bool := decide (s.get F.pwtVmainTh_RETURN < vm ∧ qual = true ∧ s.pwr.qual + s.get F.pwtVmainRet_RET_US * 1000 ≤ now w)
   [decide (¬ due), decide (due)]) ++
  (let due : Bool := decide (st = 1 ∧ s.get F.pwtBankP_CHG_TMO ≠ 0 ∧ s.get F.pwtBankP_CHG_TMO * 1000000000 ≤ ccTotal w)
   [decide (¬ due), decide (due)]) ++
  [decide (accepts s 0x0C01 d = true)]

theorem test_Supplies_met : covers [
   metSupplies 1799 500 700 17 (D 1 0) (live mRun),
   metSupplies 1800 599 700 17 (D 1 0)
        (let u : State := (
            (
              (((((live mRun).set F.pwtBankCfg_KIND 1).set F.pwtBankCfg_CHG_EN 1).set F.pwtVmainTh_LOSS 1800).set F.pwtVmainTh_RETURN 2000)).set F.pwtBankStatus_CHG_STATE 1);
         ({ u with pwr := { u.pwr with ccNs := 600000000000 } } : State)),
   metSupplies 2001 3200 700 17 (D 1 0)
        (let u : State := (
            (
              (
                (
                  (
                    (
                      (((((live mRun).set F.pwtBankCfg_KIND 1).set F.pwtBankCfg_CHG_EN 1).set F.pwtVmainTh_LOSS 1800).set F.pwtVmainTh_RETURN 2000)).set F.pwtBankStatus_CHG_STATE 4)).set F.pwtSupStatus_VMAIN_LOST 1).set F.pwtSupStatus_RET_QUAL 1).set F.pwtVmainRet_RET_US 900);
         ({ u with pwr := { u.pwr with upNs := 9000000, qual := 9000000 - 900000 + 42 } } : State))] = true := by decide +kernel

def metSensors (k : Fin 10) (deg : Int) (cyc : Nat) (d : Desc) (src : BitVec 6) (s : State) : List Bool :=
  let now := s.pwr.upNs + cyc * 5 / 2
  let kept (j : Nat) := (s.sensor j).hist.filter (fun e => decide (now ≤ e.1 + 10000000000))
  let old (j : Nat) := (kept j).find? (fun e => decide (e.1 + 1000000000 ≤ now))
  (let mode := s.measMode k.val
   let asked := (s.sensor k.val).asked
   let runs : Bool := decide (mode ≠ 2 ∧ (mode = 1 → k.val < 6 ∨ asked = true) ∧ (mode = 0 → Table.look false s.clk.late eHE = false ∨ asked = true))
   [decide (¬ runs), decide (runs)]) ++
  (let st := s.chState
   [decide (¬ (st = 1 ∨ st = 2 ∨ st = 3)), decide (st = 1 ∨ st = 2 ∨ st = 3)]) ++
  [decide (accepts s 0x0C00 d = true)] ++
  (let old := s.get F.pwtThermStatus_TRIP_SRC
   [decide (old ||| src.toNat = old), decide (old ||| src.toNat ≠ old)])

theorem test_Sensors_met : covers [
   metSensors 2 (0) 17 (D 1 1) 5 (((((((shr0.set F.pwtBankCfg_KIND 1).set F.pwtBankCfg_CHG_EN 1).set F.pwtVmainTh_LOSS 1800).set
      F.pwtVmainTh_RETURN 2000)).set F.pwtBankStatus_CHG_STATE 0).set (F.pwtTsMeas_MODE 6) 0),
   metSensors 8 (0) 17 (D 1 0x104) 0 ((((((((((shr0.set F.pwtBankCfg_KIND 1).set F.pwtBankCfg_CHG_EN 1).set F.pwtVmainTh_LOSS 1800).set
      F.pwtVmainTh_RETURN 2000)).set F.pwtBankStatus_CHG_STATE 2).set (F.pwtTsMeas_MODE 6) 0)).set (F.pwtTsMeas_MODE 6) 1).set (F.pwtTsMeas_MODE
      2) 2)] = true := by decide +kernel

def metImageLoading (d : Desc) (ok : Bool) (e : Fin 34) (s : State) : List Bool :=
  let slot := d.f 1 5 0
  (let op : Nat := 0x0400
   [decide (accepts s op d = true)]) ++
  [decide (s.img.write = none)] ++
  (match s.img.write with
   | some w =>
     [decide (w.1 < 64)]
   | _ => List.replicate 1 false) ++
  (let mask := engMask (d.f 2 33 0)
   let test (m : Image) (n : Nat) : Option Nat := s.check n m.h
   let groups := s.servedAll mask
   let idle : Bool := groups.all (fun g => s.gst g == gIdle || s.gst g == gQuarantined)
   let same (m : Image) : Bool := mask.all (fun n => match (s.eimg n).act with | some a => a.shash == m.h.shash | none => false)
   let fits (m : Image) : Bool := same m && groups.all (fun g => s.gst g == gIdle || s.gst g == gEnabled)
   let first := mask.headD 0
   let verdict (m : Image) : Nat × Nat :=
     match mask.find? (fun n => !s.engPresent n), mask.find? (fun n => kindOf n != m.h.kind), mask.find? s.engBusy,
         mask.find? (fun n => (test m n).isSome) with
     | some n, _, _, _ => (1, n)
     | none, some n, _, _ => (9, n)
     | none, none, some n, _ => (3, n)
     | none, none, none, some n => (5, n)
     | none, none, none, none => if mask = [] then (1, 0) else if idle then (if reloadMode s.mode then (0, 0) else (2, first))
       else if fits m then (if swapMode s.mode then (0, 0) else (2, first)) else (6, first)
   let out : Nat × Nat := match s.imgSlot slot with | none => (1, 0) | some m => verdict m
   (if out.1 ≠ 5 then
     (let op : Nat := 0x0401
      [decide (accepts s op d = true)])
    else List.replicate 1 false) ++
   (match s.imgSlot slot with
    | some m =>
      [decide ((out.1 = 5) ∧ accepts s 0x0401 d = true)]
    | _ => List.replicate 1 false)) ++
  (let x := s.eimg e.val
   let y := s.eng e.val
   [decide (x.reload = none ∨ y.run = true)] ++
   (match x.reload with
    | some r =>
      [decide ((r.1 < 64) ∧ y.run = false)]
    | _ => List.replicate 1 false)) ++
  [decide (s.flashOk = false), decide (s.flashOk = true)] ++
  (let op : Nat := 0x0403
   [decide (accepts s op d = true)]) ++
  (let op : Nat := 0x0404
   [decide (accepts s op d = true)]) ++
  (let op : Nat := 0x0405
   [decide (accepts s op d = true)])

theorem test_ImageLoading_met : covers [
   metImageLoading (D 2 7 33) true 5
        (let u : State := (grpS mRun gIdle);
         (
            { u with
              img := { u.img with
                pairs := [],
                slots := [
                  (
                    20,
                    some (
                      {
                        h := ({ hdr0 with kind := 5, signer := 1, epoch := 7, xhash := 9, shash := 3, phash := 11 } : Hdr), code := [1,2,0,3],
                        data := [7,8] } : Image)),
                  (
                    21,
                    some (
                      {
                        h := ({ hdr0 with kind := 5, signer := 1, epoch := 7, xhash := 9, shash := 4 } : Hdr), code := [1,2,0,3], data := [7,8] } : Image))],
                engs := [], overrides := [(2, [(5, 11)])] } } : State)),
   metImageLoading (D 1 2) true 5
        (let u : State :=
            (let u : State := (grpS mRun gIdle);
             (
                { u with
                  img := { u.img with
                    pairs := [(5, 7, (9 : BitVec 256))],
                    slots := [
                      (
                        20,
                        some (
                          {
                            h := ({ hdr0 with kind := 5, signer := 1, epoch := 7, xhash := 9, shash := 3, phash := 11 } : Hdr), code := [1,2,0,3],
                            data := [7,8] } : Image)),
                      (
                        21,
                        some (
                          {
                            h := ({ hdr0 with kind := 5, signer := 1, epoch := 7, xhash := 9, shash := 4 } : Hdr), code := [1,2,0,3], data := [7,8] } : Image))],
                    engs := [
                      (
                        5,
                        {
                          act := some ({ hdr0 with kind := 5, signer := 1, epoch := 7, xhash := 9, shash := 3, phash := 11 } : Hdr),
                          reload := some (20, true) })], bootPend := [(5, 21)] } } : State));
         let v : State := { u with
            pwr := { u.pwr with
              sensors := [
                (0, { hist := [(0, 5000)] }),
                (1, { hist := [(0, 5000)] }),(2, { hist := [(0, 5000)] }),(3, { hist := [(0, 5000)] }),(4, { hist := [(0, 5000)] }),(5, { hist := [(0, 5000)] })] } };
         v),
   metImageLoading (D 2 20 0x20) true 5
        (let u : State := (grpS mRun gIdle);
         (
            { u with
              img := { u.img with
                pairs := [],
                slots := [
                  (
                    20,
                    some (
                      {
                        h := ({ hdr0 with kind := 5, signer := 1, epoch := 7, xhash := 9, shash := 3, phash := 11 } : Hdr), code := [1,2,0,3],
                        data := [7,8] } : Image)),
                  (
                    21,
                    some (
                      {
                        h := ({ hdr0 with kind := 5, signer := 1, epoch := 7, xhash := 9, shash := 4 } : Hdr), code := [1,2,0,3], data := [7,8] } : Image))],
                engs := [], overrides := [(2, [(5, 11)])] } } : State)),
   metImageLoading (D 0) true 5
        (let u : State :=
            (let u : State := (grpS mRun gIdle);
             (
                { u with
                  img := { u.img with
                    pairs := [(5, 7, (9 : BitVec 256))],
                    slots := [
                      (
                        20,
                        some (
                          {
                            h := ({ hdr0 with kind := 5, signer := 1, epoch := 7, xhash := 9, shash := 3, phash := 11 } : Hdr), code := [1,2,0,3],
                            data := [7,8] } : Image)),
                      (
                        21,
                        some (
                          {
                            h := ({ hdr0 with kind := 5, signer := 1, epoch := 7, xhash := 9, shash := 4 } : Hdr), code := [1,2,0,3], data := [7,8] } : Image))],
                    engs := [
                      (
                        5,
                        {
                          act := some ({ hdr0 with kind := 5, signer := 1, epoch := 7, xhash := 9, shash := 3, phash := 11 } : Hdr),
                          failed := some (20, 4) })],
                    write := some (
                      20,
                      (
                        {
                          h := ({ hdr0 with kind := 5, signer := 1, epoch := 7, xhash := 9, shash := 4 } : Hdr), code := [1,2,0,3], data := [7,8] } : Image)) } } : State));
         let v : State := { u with
            pwr := { u.pwr with
              sensors := [
                (0, { hist := [(0, 5000)] }),
                (1, { hist := [(0, 5000)] }),(2, { hist := [(0, 5000)] }),(3, { hist := [(0, 5000)] }),(4, { hist := [(0, 5000)] }),(5, { hist := [(0, 5000)] })] } };
         v)] = true := by decide +kernel

def metImageSwaps (d : Desc) (e : Fin 34) (s : State) : List Bool :=
  (let staging := s.img.staging.find? (fun y => y.mask.contains e.val)
   [decide (staging = none)] ++
   (match staging with
    | some w =>
      [decide (s.imgSlot w.slot = none)] ++
      (match s.imgSlot w.slot with
       | some i =>
         [decide (w.slot < 64)]
       | _ => List.replicate 1 false)
    | _ => List.replicate 2 false)) ++
  (let d' : Desc := (d.force 1 63 63 0)
   [decide (accepts s 0x0402 d' = true)]) ++
  (let d' : Desc := (d.force 1 63 63 1)
   [decide (accepts s 0x0402 d' = true)]) ++
  (let mine := s.jobOf e.val
   [decide (mine = none)] ++
   (match mine with
    | some j =>
      let tries := s.get F.imgSwapCfg_TRIES
      let served := s.servedAll j.mask
      let ready : Bool := decide (j.done = false ∧ s.clk.cyc = 0 ∧ 2 ≤ j.count ∧ j.count ≤ tries + 1 ∧ s.allDone j.mask = true ∧ (∀ g, g ∈ served → s.gst g = gSwapping))
      let expired : Bool := decide (j.done = false ∧ (tries + 1 < j.count ∨ (j.count = tries + 1 ∧ s.allDone j.mask = false) ∨
        served.any (fun g => s.gst g == gFaulted || s.gst g == gQuarantined) = true))
      let called : Bool := decide (s.clk.cyc = 0 ∧ ((j.roll).any (fun r => decide (r.2 < s.clk.ticks))) = true)
      let exceeds' : Bool := decide (j.done = true ∧ j.roll = none ∧ s.get F.imgSwapCfg_PROBATION ≤ j.count)
      [decide (¬ ready), decide (ready), decide (¬ expired), decide (expired), decide (¬ called)] ++
      (match j.roll with
       | some r =>
         [decide ((called) ∧ r.1 < 256)]
       | _ => List.replicate 1 false) ++
      [decide (¬ exceeds'), decide (exceeds')]
    | _ => List.replicate 8 false))

theorem test_ImageSwaps_met : covers [
   metImageSwaps (D 1 0) 5
        (let u : State := (grpS mRun gSwapping);
         (
            { u with
              img := { u.img with
                pairs := [(5, 7, (9 : BitVec 256))],
                slots := [
                  (
                    20,
                    some (
                      {
                        h := ({ hdr0 with kind := 5, signer := 1, epoch := 7, xhash := 9, shash := 3, phash := 11 } : Hdr), code := [1,2,0,3],
                        data := [7,8] } : Image)),
                  (
                    21,
                    some (
                      {
                        h := ({ hdr0 with kind := 5, signer := 1, epoch := 7, xhash := 9, shash := 4 } : Hdr), code := [1,2,0,3], data := [7,8] } : Image))],
                jobs := [{ mask := [5,6], count := 2, done := true, prev := [(2, 1)] }],
                engs := [
                  (
                    5,
                    {
                      act := some ({ hdr0 with kind := 5, signer := 1, epoch := 7, xhash := 9, shash := 3, phash := 11 } : Hdr),
                      other := some ({ hdr0 with kind := 5, signer := 1, epoch := 7, xhash := 9, shash := 3, phash := 11 } : Hdr) }),
                  (
                    6,
                    {
                      act := some ({ hdr0 with kind := 5, signer := 1, epoch := 7, xhash := 9, shash := 3, phash := 11 } : Hdr),
                      other := some ({ hdr0 with kind := 5, signer := 1, epoch := 7, xhash := 9, shash := 3, phash := 11 } : Hdr) })] } } : State)),
   metImageSwaps (D 1 0) 5
        (let u : State := (grpS mRun gEnabled);
         (
            { u with
              img := { u.img with
                pairs := [(5, 7, (9 : BitVec 256))],
                slots := [
                  (
                    20,
                    some (
                      {
                        h := ({ hdr0 with kind := 5, signer := 1, epoch := 7, xhash := 9, shash := 3, phash := 11 } : Hdr), code := [1,2,0,3],
                        data := [7,8] } : Image)),
                  (
                    21,
                    some (
                      {
                        h := ({ hdr0 with kind := 5, signer := 1, epoch := 7, xhash := 9, shash := 4 } : Hdr), code := [1,2,0,3], data := [7,8] } : Image))],
                staging := [{ mask := [5], slot := 33, swap := true, boot := true }] } } : State)),
   metImageSwaps (D 1 0) 5
        (let u : State := (grpS mRun gEnabled);
         (
            { u with
              img := { u.img with
                pairs := [(5, 7, (9 : BitVec 256))],
                slots := [
                  (
                    20,
                    some (
                      {
                        h := ({ hdr0 with kind := 5, signer := 1, epoch := 7, xhash := 9, shash := 3, phash := 11 } : Hdr), code := [1,2,0,3],
                        data := [7,8] } : Image)),
                  (
                    21,
                    some (
                      {
                        h := ({ hdr0 with kind := 5, signer := 1, epoch := 7, xhash := 9, shash := 4 } : Hdr), code := [1,2,0,3], data := [7,8] } : Image))],
                staging := [{ mask := [5,6], slot := 20, swap := false, boot := true }],
                engs := [
                  (
                    5,
                    {
                      act := some ({ hdr0 with kind := 5, signer := 1, epoch := 7, xhash := 9, shash := 3, phash := 11 } : Hdr),
                      other := some ({ hdr0 with kind := 5, signer := 1, epoch := 7, xhash := 9, shash := 4 } : Hdr) }),
                  (
                    6,
                    {
                      act := some ({ hdr0 with kind := 5, signer := 1, epoch := 7, xhash := 9, shash := 4 } : Hdr),
                      other := some ({ hdr0 with kind := 5, signer := 1, epoch := 7, xhash := 9, shash := 3, phash := 11 } : Hdr) })] } } : State)),
   metImageSwaps (D 1 0) 5
        (let u : State := (grpS mRun gSwapping);
         (
            { u with
              img := { u.img with
                pairs := [(5, 7, (9 : BitVec 256))],
                slots := [
                  (
                    20,
                    some (
                      {
                        h := ({ hdr0 with kind := 5, signer := 1, epoch := 7, xhash := 9, shash := 3, phash := 11 } : Hdr), code := [1,2,0,3],
                        data := [7,8] } : Image)),
                  (
                    21,
                    some (
                      {
                        h := ({ hdr0 with kind := 5, signer := 1, epoch := 7, xhash := 9, shash := 4 } : Hdr), code := [1,2,0,3], data := [7,8] } : Image))],
                jobs := [{ mask := [5,6], count := 64, done := true, boots := [(5, 20)], prev := [(2, 1)] }],
                engs := [
                  (
                    5,
                    {
                      act := some ({ hdr0 with kind := 5, signer := 1, epoch := 7, xhash := 9, shash := 3, phash := 11 } : Hdr),
                      other := some ({ hdr0 with kind := 5, signer := 1, epoch := 7, xhash := 9, shash := 3, phash := 11 } : Hdr) }),
                  (
                    6,
                    {
                      act := some ({ hdr0 with kind := 5, signer := 1, epoch := 7, xhash := 9, shash := 3, phash := 11 } : Hdr),
                      other := some ({ hdr0 with kind := 5, signer := 1, epoch := 7, xhash := 9, shash := 3, phash := 11 } : Hdr) })] } } : State)),
   metImageSwaps (D 1 0) 5
        (let u : State := (grpS mRun gFaulted);
         (
            { u with
              img := { u.img with
                pairs := [(5, 7, (9 : BitVec 256))],
                slots := [
                  (
                    20,
                    some (
                      {
                        h := ({ hdr0 with kind := 5, signer := 1, epoch := 7, xhash := 9, shash := 3, phash := 11 } : Hdr), code := [1,2,0,3],
                        data := [7,8] } : Image)),
                  (
                    21,
                    some (
                      {
                        h := ({ hdr0 with kind := 5, signer := 1, epoch := 7, xhash := 9, shash := 4 } : Hdr), code := [1,2,0,3], data := [7,8] } : Image))],
                jobs := [{ mask := [5,6], count := 2, prev := [(2, 1)] }],
                engs := [
                  (
                    5,
                    {
                      act := some ({ hdr0 with kind := 5, signer := 1, epoch := 7, xhash := 9, shash := 3, phash := 11 } : Hdr),
                      other := some ({ hdr0 with kind := 5, signer := 1, epoch := 7, xhash := 9, shash := 4 } : Hdr), staged := some (20, true) }),
                  (
                    6,
                    {
                      act := some ({ hdr0 with kind := 5, signer := 1, epoch := 7, xhash := 9, shash := 3, phash := 11 } : Hdr),
                      other := some ({ hdr0 with kind := 5, signer := 1, epoch := 7, xhash := 9, shash := 3, phash := 11 } : Hdr),
                      staged := some (20, true) })] } } : State)),
   metImageSwaps (D 1 0) 5 (
        (
          (
            (let u : State := (grpS mRun gSwapping);
               (
                  { u with
                    img := { u.img with
                      pairs := [(5, 7, (9 : BitVec 256))],
                      slots := [
                        (
                          20,
                          some (
                            {
                              h := ({ hdr0 with kind := 5, signer := 1, epoch := 7, xhash := 9, shash := 3, phash := 11 } : Hdr), code := [1,2,0,3],
                              data := [7,8] } : Image)),
                        (
                          21,
                          some (
                            {
                              h := ({ hdr0 with kind := 5, signer := 1, epoch := 7, xhash := 9, shash := 4 } : Hdr), code := [1,2,0,3], data := [7,8] } : Image))],
                      jobs := [{ mask := [5,6], count := 2, prev := [(2, 1)] }],
                      engs := [
                        (
                          5,
                          {
                            act := some ({ hdr0 with kind := 5, signer := 1, epoch := 7, xhash := 9, shash := 3, phash := 11 } : Hdr),
                            other := some ({ hdr0 with kind := 5, signer := 1, epoch := 7, xhash := 9, shash := 4 } : Hdr), staged := some (20, true) }),
                        (
                          6,
                          {
                            act := some ({ hdr0 with kind := 5, signer := 1, epoch := 7, xhash := 9, shash := 3, phash := 11 } : Hdr),
                            other := some ({ hdr0 with kind := 5, signer := 1, epoch := 7, xhash := 9, shash := 3, phash := 11 } : Hdr),
                            staged := some (20, true) })] } } : State))).set (F.clkEngStat_DONE 5) 1).set (F.clkEngStat_DONE 6) 1),
   metImageSwaps (D 1 0) 5
        (let u : State :=
            (let u : State := (grpS mRun gSwapping);
             (
                { u with
                  img := { u.img with
                    pairs := [(5, 7, (9 : BitVec 256))],
                    slots := [
                      (
                        20,
                        some (
                          {
                            h := ({ hdr0 with kind := 5, signer := 1, epoch := 7, xhash := 9, shash := 3, phash := 11 } : Hdr), code := [1,2,0,3],
                            data := [7,8] } : Image)),
                      (
                        21,
                        some (
                          {
                            h := ({ hdr0 with kind := 5, signer := 1, epoch := 7, xhash := 9, shash := 4 } : Hdr), code := [1,2,0,3], data := [7,8] } : Image))],
                    jobs := [{ mask := [5,6], count := 2, done := true, roll := some (3, 49), prev := [(2, 1)] }],
                    engs := [
                      (
                        5,
                        {
                          act := some ({ hdr0 with kind := 5, signer := 1, epoch := 7, xhash := 9, shash := 3, phash := 11 } : Hdr),
                          other := some ({ hdr0 with kind := 5, signer := 1, epoch := 7, xhash := 9, shash := 3, phash := 11 } : Hdr) }),
                      (
                        6,
                        {
                          act := some ({ hdr0 with kind := 5, signer := 1, epoch := 7, xhash := 9, shash := 3, phash := 11 } : Hdr),
                          other := some ({ hdr0 with kind := 5, signer := 1, epoch := 7, xhash := 9, shash := 3, phash := 11 } : Hdr) })] } } : State));
         ({ u with clk := { u.clk with ticks := 50 } } : State))] = true := by decide +kernel

def metDebugAccess (jtag : Bool) (e : Fin 40) (v : W32) (cyc : Nat) (s : State) : List Bool :=
  let path := if jtag then 2 else 1
  let owner := s.get F.dbgCtrl_OWNER
  let reaches : Bool := decide (if jtag then s.lc = 1 ∨ s.lc = 2 else s.ready = true)
  let other : Bool := decide (owner ≠ 0 ∧ owner ≠ path)
  let n := e.val
  let halted (k : Nat) : Bool := s.getB (F.dbgEngStatus_HALTED k)
  (let both : Bool := decide (jtag = false ∧ owner = 2 ∧ s.dbg.since = (s.clk.ticks, cyc))
   [decide (¬ reaches)] ++
   (if reaches then
     ([decide (owner = 0 ∨ both), decide (owner = path)] ++
      (if other then
        ([true] ++
         [decide (¬ both)])
       else List.replicate 2 false) ++
      [decide (owner = path), decide (owner = 0)])
    else List.replicate 6 false)) ++
  [decide (owner = 2), decide (owner ≠ 2)] ++
  (let may : Bool := decide ((n < 34 ∨ s.lc = 1) ∧ n < 38 ∧ s.mode = mService)
   [decide (¬ reaches ∨ owner = 0), decide ((reaches) ∧ other)] ++
   (if reaches then
     ((if owner = path then
        ([true] ++
         [decide (¬ (may ∧ halted n = false ∧ s.sparRuns n = true)), decide ((may) ∧ (halted n = false) ∧ s.sparRuns n = true),
          decide (¬ (may ∧ halted n = true)), decide ((may) ∧ halted n = true)])
       else List.replicate 5 false))
    else List.replicate 5 false)) ++
  [decide (s.dbg.xfer = none)] ++
  (match s.dbg.xfer with
   | some r =>
     let who := bits r.1 5 0
     let write := r.1.getLsbD 30
     let space := bits r.1 29 27
     let addr := r.2.1
     let at8 := addr / 8 * 8
     let data := r.2.2 % 2 ^ 64
     let y := s.eng who
     let allowed : Bool := decide ((who < 34 ∨ s.lc = 1) ∧ who < 38 ∧ (s.mode = mService ∨ s.lc = 1 ∨ (s.lc = 2 ∧ write = false)) ∧
       (write = true → halted who = true))
     let u : State := { (s.set F.dbgMemCtrl_BUSY 0) with dbg := { s.dbg with xfer := none } }
     let set : RegSet := if space = 2 then y.base else y.intr
     let code : Table Byte := if y.active then y.code1 else y.code0
     let word (k : Nat) (acc : BitVec 160) : Nat := acc.toNat / 2 ^ (64 * k) % 2 ^ (if k = 2 then 32 else 64)
     let read : Option (Nat × State) :=
       if space = 0 then (match sparLoad who at8 8 u with | .ok p => some p | .error _ => none)
       else if space = 1 then (if addr < 0xC000 then some (memLe code at8 8, u) else none)
       else if space = 2 ∨ space = 3 then
         (if addr < 64 then some ((Table.look 0 set.g addr).toNat, u) else if addr < 67 then some (word (addr - 64) set.acc0, u)
           else if addr < 70 then some (word (addr - 67) set.acc1, u) else none)
       else (mfc who addr u).map (fun p => (p.toNat, u))
     let patch (k : Nat) (acc : BitVec 160) : BitVec 160 := BitVec.ofNat 160 (acc.toNat - word k acc * 2 ^ (64 * k) +
       data % 2 ^ (if k = 2 then 32 else 64) * 2 ^ (64 * k))
     let poke (z : RegSet) : Option RegSet := if addr < 64 then some { z with g := Table.put 0 addr (BitVec.ofNat 64 data) z.g }
       else if addr < 67 then some { z with acc0 := patch (addr - 64) z.acc0 } else if addr < 70 then some { z with acc1 := patch (addr - 67) z.acc1 }
       else none
     let stored : Option State :=
       if space = 0 then (match sparStore who at8 8 data u with | .ok t => some t | .error _ => none)
       else if space = 1 then (if addr < 0xC000 then some (u.updEng who (fun z =>
         if z.active then { z with code1 := memPut data at8 8 z.code1 } else { z with code0 := memPut data at8 8 z.code0 })) else none)
       else if space = 2 then (poke y.base).map (fun z => u.updEng who (fun x => { x with base := z }))
       else if space = 3 then (poke y.intr).map (fun z => u.updEng who (fun x => { x with intr := z }))
       else mtc who addr (BitVec.ofNat 64 data) u
     [decide (¬ allowed)] ++
     (if allowed then
       (if write = false then
         ([decide (read = none), (match read with | some _ => true | _ => false)])
        else List.replicate 2 false)
      else List.replicate 2 false) ++
     (if allowed then
       (if write = true then
         ([decide (stored = none), (match stored with | some _ => true | _ => false)])
        else List.replicate 2 false)
      else List.replicate 2 false)
   | _ => List.replicate 5 false)

def st61a : State :=
  (
    (((live mService).set F.glbLc_LC_STATE 2).set F.glbId_REV 0xB2).updEng 5 (
      fun x => { x with
        run := true, pc := 0x1234, active := true, sram := [(16, 7), (17,1)], code1 := [(16, 9)], code0 := [(17,3)],
        base := { x.base with g := [(9, 77)], acc0 := 0x123456789ABCDEF0FEDCBA9876543210AABBCCDD },
        intr := { x.intr with acc1 := 0x1122334455667788AABBCCDDEEFF00112233445566 } }))

theorem test_DebugAccess_met : covers [
   metDebugAccess true 39 7 17 (((st61a).set F.dbgCtrl_OWNER 2).set F.dbgCtrl_ATTACH 1),
   metDebugAccess true 39 7 17
        (let u : State := (((((st61a).set F.dbgCtrl_OWNER 1).set F.dbgCtrl_ATTACH 1)).set F.dbgMemCtrl_BUSY 1);
         { u with dbg := { u.dbg with xfer := some (7,8,9) } }),
   metDebugAccess true 39 7 17
        (let u : State := ((((st61a).set F.dbgMemCtrl_BUSY 1).set F.dbgMemCtrl_ENGINE 5));
         { u with dbg := { u.dbg with xfer := some (BitVec.ofNat 32 (0x80000000 + 1 * 2^30 + 2 * 2^27 + 5), 9, 0x1122334455667788) } }),
   metDebugAccess false 39 7 17 (st61a.set F.glbStatus_READY 0),
   metDebugAccess true 5 0x44000005 17 (((st61a).set F.dbgCtrl_OWNER 2).set F.dbgCtrl_ATTACH 1),
   metDebugAccess true 5 0x44000005 17 ((((((st61a).set (F.dbgEngStatus_HALTED 5) 1).set (F.clkEngStat_HALT 5) 1)).set F.dbgCtrl_OWNER 2).set
      F.dbgCtrl_ATTACH 1),
   metDebugAccess true 39 7 17
        (let u : State := ((((st61a).set F.dbgMemCtrl_BUSY 1).set F.dbgMemCtrl_ENGINE 5));
         { u with dbg := { u.dbg with xfer := some (BitVec.ofNat 32 (0x80000000 + 0 * 2^30 + 3 * 2^27 + 5), 70, 0x1122334455667788) } }),
   metDebugAccess true 39 7 17
        (let u : State := (
            ((((((st61a).set (F.dbgEngStatus_HALTED 5) 1).set (F.clkEngStat_HALT 5) 1)).set F.dbgMemCtrl_BUSY 1).set F.dbgMemCtrl_ENGINE 5));
         { u with dbg := { u.dbg with xfer := some (BitVec.ofNat 32 (0x80000000 + 1 * 2^30 + 2 * 2^27 + 5), 9, 0x1122334455667788) } }),
   metDebugAccess true 39 7 17
        (let u : State := (
            ((((((st61a).set (F.dbgEngStatus_HALTED 5) 1).set (F.clkEngStat_HALT 5) 1)).set F.dbgMemCtrl_BUSY 1).set F.dbgMemCtrl_ENGINE 5));
         { u with dbg := { u.dbg with xfer := some (BitVec.ofNat 32 (0x80000000 + 1 * 2^30 + 3 * 2^27 + 5), 70, 0x1122334455667788) } })] = true := by decide +kernel

def metJtagPort (pads drive : List Bool) (m : ShroudSample) (p : Fin 8) (k : Fin 32) (c : Fin 127) (s : State) : List Bool :=
  [decide (s.padsTaken = true)] ++
  (let u : State := (shroudTick m s)
   let fell : Bool := decide (s.padsTaken = true ∧ u.getB F.shrStatus_STO_ALL = false)
   [decide (¬ fell), decide (fell)]) ++
  (let u : State := (shrStartUp s)
   let fell : Bool := decide (s.padsTaken = true ∧ u.getB F.shrStatus_STO_ALL = false)
   [decide (¬ fell), decide (fell)]) ++
  (let u : State := (discrepancy p.val s)
   let fell : Bool := decide (s.padsTaken = true ∧ u.getB F.shrStatus_STO_ALL = false)
   [decide (¬ fell), decide (fell)]) ++
  (let u : State := (stopComplete k.val s)
   let fell : Bool := decide (s.padsTaken = true ∧ u.getB F.shrStatus_STO_ALL = false)
   [decide (¬ fell), decide (fell)]) ++
  (let u : State := (slsReact k.val s)
   let fell : Bool := decide (s.padsTaken = true ∧ u.getB F.shrStatus_STO_ALL = false)
   [decide (¬ fell), decide (fell)]) ++
  (let u : State := (tseWatch c.val s)
   let fell : Bool := decide (s.padsTaken = true ∧ u.getB F.shrStatus_STO_ALL = false)
   [decide (¬ fell), decide (fell)])

/-- Column 4 has no state: the Shroud's start-up holds every zone, so that STO_ALL never falls there. -/
theorem test_JtagPort_met : covers [
   (
        metJtagPort [true,false] [false] {} 1 2 9 (
          (
            (let u : State := (
                  fun u : State => (
                    ((u.set (F.pwmSlotCtrl_RUN 3) 1).set (F.pwmSlotCtrl_RUN 5) 1).set (F.pwmSlotResidue_RESIDUE 3 2) 77).updSlot 5 (fun x => { x with pulsing := true })) shr0;
               (({ u with dbg := { u.dbg with ir := .clamp } } : State).set F.shrStatus_STO_ALL 1))).set F.glbId_REV 0xB1)).set 4 true,
   (
        metJtagPort [true] [false] {} 1 2 9
          (let c : SafetyCfg := { shrCfg with
              zones := [(4, { slots := 0x30, line := false, rst := .pair 3 }), (6, { slots := 0x40, line := false, rst := .pair 3 })],
              conns := shrCfg.conns.map (fun e => (e.1, { e.2 with zone := 6 })),
              fns := [
                (
                  2,
                  {
                    func := 3, zone := 4, pairs := 0, host := true, tse := none, restart := false, react := false, tDelay := 5, tRamp := 7,
                    hd := false, share := 30000, margin := 0, reef := false, tReact := 9, dir := false, out := 1, tBrake := 6 }),
                (
                  3,
                  {
                    func := 5, zone := 4, pairs := 0, host := true, tse := none, restart := false, react := false, tDelay := 5, tRamp := 7,
                    hd := false, share := 30000, margin := 0, reef := false, tReact := 9, dir := false, out := 1, tBrake := 6 })] };
           let u : State := (
              (
                (
                  (
                    (
                      { shr0 with
                        shr := { shr0.shr with
                          cfg := some (c, 5), zones := [(4, { acked := true, sto := false }), (6, { acked := true, sto := false })] },
                        dbg := { shr0.dbg with ir := .extest } } : State).set F.shrStatus_STO_ALL 1).updFn 2 (fun x => { x with state := 2 })).updFn 3 (fun x => { x with state := 1 })).updPairIn 1 (fun x => { x with left := some 0 })).updTse 9 (fun x => { x with flying := true });
           u)).set 4 true,
   (
        metJtagPort [true] [false] {} 1 3 9
          (let c : SafetyCfg := { shrCfg with
              zones := [(4, { slots := 0x30, line := false, rst := .pair 3 }), (6, { slots := 0x40, line := false, rst := .pair 3 })],
              conns := shrCfg.conns.map (fun e => (e.1, { e.2 with zone := 6 })),
              fns := [
                (
                  2,
                  {
                    func := 3, zone := 4, pairs := 0, host := true, tse := none, restart := false, react := false, tDelay := 5, tRamp := 7,
                    hd := false, share := 30000, margin := 0, reef := false, tReact := 9, dir := false, out := 1, tBrake := 6 }),
                (
                  3,
                  {
                    func := 5, zone := 4, pairs := 0, host := true, tse := none, restart := false, react := false, tDelay := 5, tRamp := 7,
                    hd := false, share := 30000, margin := 0, reef := false, tReact := 9, dir := false, out := 1, tBrake := 6 })] };
           let u : State := (
              (
                (
                  (
                    (
                      { shr0 with
                        shr := { shr0.shr with
                          cfg := some (c, 5), zones := [(4, { acked := true, sto := false }), (6, { acked := true, sto := false })] },
                        dbg := { shr0.dbg with ir := .extest } } : State).set F.shrStatus_STO_ALL 1).updFn 2 (fun x => { x with state := 2 })).updFn 3 (fun x => { x with state := 1 })).updPairIn 1 (fun x => { x with left := some 0 })).updTse 9 (fun x => { x with flying := true });
           u)).set 4 true] = true := by decide +kernel

def metRegisters (p : RegPath) (a : BitVec 20) (w : W32) (b : BitVec 18) (v : W64) (word3 : Fin 3) (word2 : Fin 2) (word4 : Fin 4) (sdi : Bool) (k : Fin 96) (f : Fin 32) (q : Fin 2) (i : Fin 32) (cyc : Nat) (s : State) : List Bool :=
  let y := a.toNat
  let z := b.toNat
  let u := s.atCyc cyc
  let early (adr : Nat) : Bool := decide (s.ready = false ∧ 0x1000 ≤ adr)
  let res := if sdi then A.adcSdiRes k.val else A.adcAinRes k.val
  let seg := inSeg0 sdi k.val
  let pos := A.fbkFbPos f.val
  (if p = .bar0 then
    ([true] ++
     [decide (early y ∨ 0x20000 ≤ y)] ++
     (if ¬ early y then
       (if y < 0x20000 then
         (if y ≠ A.ptpPortTxtsId 0 then
           (if y ≠ A.ptpPortTxtsId 1 then
             (let x : State := s
              let adr : Nat := y
              [(match x.held adr with | some _ => true | _ => false), decide (x.held adr = none)])
            else List.replicate 2 false)
          else List.replicate 2 false)
        else List.replicate 2 false)
      else List.replicate 2 false) ++
     [decide ((s.ready = true) ∧ y = A.ptpPortTxtsId q.val), decide (wideLow y = true), decide (y < 0x8000)] ++
     (orCols 1 (([0, 1, 2, 3, 5, 7, 9] : List (Fin 24)).map (fun n =>
        [decide ((s.slotPresent n.val = false) ∧ (0x8000 + 0x100 * n.val ≤ y) ∧ y < 0x8100 + 0x100 * n.val)]))) ++
     [decide ((s.inPresent false k.val = false) ∧ (0xA600 + 0x20 * k.val ≤ y) ∧ y < 0xA620 + 0x20 * k.val)])
   else List.replicate 9 false) ++
  [decide (p = .bar2)] ++
  (if p = .jtag then
    (let reached : Bool := decide (0x1C000 ≤ y ∧ y < 0x20000 ∧ (s.lc = 1 ∨ s.lc = 2))
     (if reached then
       (let x : State := s
        let adr : Nat := y
        [(match x.held adr with | some _ => true | _ => false), decide (x.held adr = none)])
      else List.replicate 2 false) ++
     [decide (¬ reached)])
   else List.replicate 3 false) ++
  (if p = .config then
    ([decide (s.getB F.clkPllStatus_LOCK = false)] ++
     (if s.getB F.clkPllStatus_LOCK = true then
       ([decide (y = 0), decide (y = 8), decide (y = 0x2C), decide (y ∉ [0, 8, 0x2C])])
      else List.replicate 4 false))
   else List.replicate 5 false) ++
  (let time := A.ptpTimeLo + 4 * word3.val
   [decide (s.ready = false)] ++
   (if s.ready = true then
     (let x : State := u
      let adr : Nat := time
      [(match x.held adr with | some _ => true | _ => false), decide (x.held adr = none)])
    else List.replicate 2 false)) ++
  [decide (s.inPresent sdi k.val = false), decide ((s.inPresent sdi k.val = true) ∧ s.ready = false)] ++
  (if s.inPresent sdi k.val = true then
    ((if s.ready = true then
       ([true] ++
        (let x : State := s
         let adr : Nat := (res + 4 * word2.val)
         [(match x.held adr with | some _ => true | _ => false), decide (x.held adr = none)]) ++
        (let x : State := s
         let adr : Nat := (seg + 4 * word4.val)
         [(match x.held adr with | some _ => true | _ => false), decide (x.held adr = none)]))
      else List.replicate 5 false))
   else List.replicate 5 false) ++
  [decide (s.ready = false)] ++
  (if s.ready = true then
    ([true] ++
     (let x : State := u
      let adr : Nat := (pos + 4 * word4.val)
      [(match x.held adr with | some _ => true | _ => false), decide (x.held adr = none)]))
   else List.replicate 3 false) ++
  [decide (wideWritable z = false), decide (wideWritable z = true)] ++
  [decide ((z = A.dbgMemDataLo) ∧ (s.ready = true) ∧ s.get F.dbgCtrl_OWNER = 1)] ++
  (orCols 2 (([0, 1, 2, 3] : List (Fin 4)).map (fun m =>
     (if z = A.capCrDataLo m.val then
       (if s.ready = true then
         ([decide (s.getB (F.hriCrCfg_EN m.val) = true), decide (s.getB (F.hriCrCfg_EN m.val) = false)])
        else List.replicate 2 false)
      else List.replicate 2 false)))) ++
  [decide (p = .config)] ++
  (if p = .bar2 then
    (let table : Bool := decide (0x60000 ≤ y ∧ y < 0x60200 ∧ y % 4 = 0)
     [decide (¬ table), decide (table)])
   else List.replicate 2 false) ++
  (if p = .jtag then
    ([decide (y < 0x1C000 ∨ 0x20000 ≤ y ∨ regGroup? y = none), decide ((y = A.dbgMemAddr) ∧ (s.lc = 1 ∨ s.lc = 2) ∧ s.get F.dbgCtrl_OWNER = 2)])
   else List.replicate 2 false) ++
  [decide ((p = .bar0) ∧ (early y ∨ regGroup? y = none))] ++
  (if p = .bar0 then
    ((if ¬ early y then
       ((match regGroup? y with
         | some g =>
           [true] ++
           [decide ((y < 0x1000) ∧ (y ≠ A.glbResetCtrl) ∧ y ≠ A.glbLcCtrl), decide ((0x1000 ≤ y) ∧ y < 0x2000),
            decide ((0x2000 ≤ y) ∧ (y < 0x3000) ∧ y ≠ A.clkHalCut), decide (y = A.clkHalCut),
            decide (((0x3000 ≤ y ∧ y < 0x4000) ∨ (0x12000 ≤ y ∧ y < 0x16000)) ∧ (y ≠ A.ptpPortTxtsPop 0) ∧ y ≠ A.ptpPortTxtsPop 1),
            decide ((0x4000 ≤ y) ∧ (y < 0x8000) ∧ y ≠ A.imgSwapCfg), decide (y = A.imgSwapCfg), decide ((0x8000 ≤ y) ∧ (y < 0x10000) ∧ y ∈ u.clk.engWrote)] ++
           (if 0x10000 ≤ y then
             (if y < 0x11000 then
               (let n := (y - 0x10000) / 0x400
                let at0 := (y - 0x10000) % 0x400
                [decide (at0 = 0x10), decide ((at0 ≠ 0x10) ∧ s.cuState n ≠ cIdle), decide ((at0 ≠ 0x10) ∧ s.cuState n = cIdle)])
              else List.replicate 3 false)
            else List.replicate 3 false) ++
           [decide ((0x16000 ≤ y) ∧ (y < 0x18000) ∧ ¬ (0x16040 ≤ y ∧ y < 0x16060))] ++
           (orCols 1 (([0, 1, 2, 3, 4, 5, 6, 7] : List (Fin 8)).map (fun m =>
              [decide (y = A.dioInFilt m.val)]))) ++
           (if 0x18000 ≤ y then
             (if y < 0x1C000 then
               (let may : Bool := decide (y = A.shrTest ∧ s.shr.session.isSome = true ∧ s.shr.started = true)
                [decide (¬ may), decide (may)])
              else List.replicate 2 false)
            else List.replicate 2 false) ++
           [decide ((y = A.dbgMemAddr) ∧ s.get F.dbgCtrl_OWNER = 1)]
         | _ => List.replicate 17 false))
      else List.replicate 17 false))
   else List.replicate 17 false)

def st63a : State :=
  (
    (
      ((((live mService).setReg (A.adcAinRes 3) 0x1234).setReg (A.fbkFbPos 2) 77).setReg A.dioInRise 0xFF00FF00).set F.glbLc_LC_STATE 2).set F.clkPllStatus_LOCK 1)

theorem test_Registers_met : covers [
   metRegisters .bar0 (BitVec.ofNat 20 (0x1200)) 0xF0F0A5A5 (BitVec.ofNat 18 (0x1200)) 0x8877665544332211 0 0 0 false 3 2 0 1 9 (
        { shr0 with shr := { shr0.shr with session := some (0, 5) } } : State),
   metRegisters .jtag (BitVec.ofNat 20 (0x2C)) 0xF0F0A5A5 (BitVec.ofNat 18 (0x2C)) 0x8877665544332211 0 0 0 false 3 2 0 1 9 (
        { (((((live mService).setReg (A.adcAinRes 3) 0x1234).setReg (A.fbkFbPos 2) 77).setReg A.dioInRise 0xFF00FF00).set F.glbLc_LC_STATE 2) with
          host := { ((((((live mService).setReg (A.adcAinRes 3) 0x1234).setReg (A.fbkFbPos 2) 77).setReg A.dioInRise 0xFF00FF00).set F.glbLc_LC_STATE 2)).host with
            holds := [
              (0x1204, some 11), (A.adcAinRes 3, some 6), (A.adcAinRes 3 + 4, some 8), (inSeg0 false 3 + 8, some 3), (inSeg0 false 3, some 3),
              (A.fbkFbPos 2, some 9), (A.ptpTimeHi, some 5), (A.ptpTimeLo, some 5), (A.dbgMemDataHi, some 0x77), (A.dbgMemDataLo, some 0x77),
              (0x1C004, some 4)] } } : State),
   metRegisters .bar0 (BitVec.ofNat 20 (0x1200)) 0xF0F0A5A5 (BitVec.ofNat 18 (0x1200)) 0x8877665544332211 0 0 0 false 3 2 0 1 9 ((live mRun).set
      F.glbStatus_READY 0),
   metRegisters .bar0 (BitVec.ofNat 20 (A.ptpPortTxtsId 0)) 0xF0F0A5A5 (BitVec.ofNat 18 (A.ptpPortTxtsId 0)) 0x8877665544332211 0 0 0 false 3 2 0 1 9 (
        { shr0 with shr := { shr0.shr with session := some (0, 5) } } : State),
   metRegisters .config (BitVec.ofNat 20 (0)) 0xF0F0A5A5 (BitVec.ofNat 18 (0)) 0x8877665544332211 0 0 0 false 3 2 0 1 9 (((((live
      mService).setReg (A.adcAinRes 3) 0x1234).setReg (A.fbkFbPos 2) 77).setReg A.dioInRise 0xFF00FF00).set F.glbLc_LC_STATE 2),
   metRegisters .bar2 (BitVec.ofNat 20 (0x1000)) 0xF0F0A5A5 (BitVec.ofNat 18 (0x1000)) 0x8877665544332211 0 0 0 false 3 2 0 1 9 st63a,
   metRegisters .jtag (BitVec.ofNat 20 (A.dbgMemAddr)) 0xF0F0A5A5 (BitVec.ofNat 18 (A.dbgMemAddr)) 0x8877665544332211 0 0 0 false 3 2 0 1 9
      ((((((live mService).setReg (A.adcAinRes 3) 0x1234).setReg (A.fbkFbPos 2) 77).setReg A.dioInRise 0xFF00FF00).set F.glbLc_LC_STATE 2).set
      F.dbgCtrl_OWNER 2),
   metRegisters .bar0 (BitVec.ofNat 20 (A.adcAinRes 90)) 0xF0F0A5A5 (BitVec.ofNat 18 (A.ptpTimeLo)) 0x8877665544332211 0 0 0 false 90 2 0 1 9
      ((((((live mService).setReg (A.adcAinRes 3) 0x1234).setReg (A.fbkFbPos 2) 77).setReg A.dioInRise 0xFF00FF00).set F.glbLc_LC_STATE 2).set
      F.adcInfo_AINS 36),
   metRegisters .bar0 (BitVec.ofNat 20 (0x8100 + 0x800)) 0xF0F0A5A5 (BitVec.ofNat 18 (A.capCrDataLo 1)) 0x8877665544332211 0 0 0 false 3 2 0 1 9
      (((((((live mService).setReg (A.adcAinRes 3) 0x1234).setReg (A.fbkFbPos 2) 77).setReg A.dioInRise 0xFF00FF00).set F.glbLc_LC_STATE 2).set
      F.glbCaps_SLOTS 9)),
   metRegisters .bar0 (BitVec.ofNat 20 (0x8000)) 0xF0F0A5A5 (BitVec.ofNat 18 (A.dbgMemDataLo)) 0x8877665544332211 0 0 0 false 3 2 0 1 9
        (let u : State := (
            ((((live mService).setReg (A.adcAinRes 3) 0x1234).setReg (A.fbkFbPos 2) 77).setReg A.dioInRise 0xFF00FF00).set F.glbLc_LC_STATE 2).set F.dbgCtrl_OWNER 1;
         { u with clk := { u.clk with engWrote := [0x8000], cyc := 9 } }),
   metRegisters .bar0 (BitVec.ofNat 20 (0x2C)) 0xF0F0A5A5 (BitVec.ofNat 18 (0x2C)) 0x8877665544332211 0 0 0 false 3 2 0 1 9 ((live mRun).set
      F.glbStatus_READY 0),
   metRegisters .bar0 (BitVec.ofNat 20 (0x2008)) 0xF0F0A5A5 (BitVec.ofNat 18 (0x2008)) 0x8877665544332211 0 0 0 false 3 2 0 1 9 (
        { shr0 with shr := { shr0.shr with session := some (0, 5) } } : State),
   metRegisters .bar0 (BitVec.ofNat 20 (0x4400)) 0xF0F0A5A5 (BitVec.ofNat 18 (0x4400)) 0x8877665544332211 0 0 0 false 3 2 0 1 9 (
        { shr0 with shr := { shr0.shr with session := some (0, 5) } } : State),
   metRegisters .bar0 (BitVec.ofNat 20 (0x10010)) 0xF0F0A5A5 (BitVec.ofNat 18 (0x10010)) 0x8877665544332211 0 0 0 false 3 2 0 1 9 (
        { shr0 with shr := { shr0.shr with session := some (0, 5) } } : State),
   metRegisters .bar0 (BitVec.ofNat 20 (0x10000)) 0xF0F0A5A5 (BitVec.ofNat 18 (0x10000)) 0x8877665544332211 0 0 0 false 3 2 0 1 9 (
        { shr0 with shr := { shr0.shr with session := some (0, 5) } } : State),
   metRegisters .bar0 (BitVec.ofNat 20 (0x16004)) 0xF0F0A5A5 (BitVec.ofNat 18 (0x16004)) 0x8877665544332211 0 0 0 false 3 2 0 1 9 (
        { shr0 with shr := { shr0.shr with session := some (0, 5) } } : State),
   metRegisters .bar0 (BitVec.ofNat 20 (0x19008)) 0xF0F0A5A5 (BitVec.ofNat 18 (0x19008)) 0x8877665544332211 0 0 0 false 3 2 0 1 9 (
        { shr0 with shr := { shr0.shr with session := some (0, 5) } } : State),
   metRegisters .bar0 (BitVec.ofNat 20 (A.clkHalCut)) 0xF0F0A5A5 (BitVec.ofNat 18 (A.clkHalCut)) 0x8877665544332211 0 0 0 false 3 2 0 1 9 (
        { shr0 with shr := { shr0.shr with session := some (0, 5) } } : State),
   metRegisters .bar0 (BitVec.ofNat 20 (A.imgSwapCfg)) 0xF0F0A5A5 (BitVec.ofNat 18 (A.imgSwapCfg)) 0x8877665544332211 0 0 0 false 3 2 0 1 9 (
        { shr0 with shr := { shr0.shr with session := some (0, 5) } } : State),
   metRegisters .bar0 (BitVec.ofNat 20 (A.dioInFilt 2)) 0xF0F0A5A5 (BitVec.ofNat 18 (A.dioInFilt 2)) 0x8877665544332211 0 0 0 false 3 2 0 1 9 (
        { shr0 with shr := { shr0.shr with session := some (0, 5) } } : State),
   metRegisters .bar0 (BitVec.ofNat 20 (0x19008)) 0xF0F0A5A5 (BitVec.ofNat 18 (0x19008)) 0x8877665544332211 0 0 0 false 3 2 0 1 9 (((((live
      mService).setReg (A.adcAinRes 3) 0x1234).setReg (A.fbkFbPos 2) 77).setReg A.dioInRise 0xFF00FF00).set F.glbLc_LC_STATE 2),
   metRegisters .config (BitVec.ofNat 20 (0)) 0xF0F0A5A5 (BitVec.ofNat 18 (0)) 0x8877665544332211 0 0 0 false 3 2 0 1 9 st63a,
   metRegisters .config (BitVec.ofNat 20 (8)) 0xF0F0A5A5 (BitVec.ofNat 18 (8)) 0x8877665544332211 0 0 0 false 3 2 0 1 9 st63a,
   metRegisters .config (BitVec.ofNat 20 (0x2C)) 0xF0F0A5A5 (BitVec.ofNat 18 (0x2C)) 0x8877665544332211 0 0 0 false 3 2 0 1 9 st63a,
   metRegisters .config (BitVec.ofNat 20 (0x30)) 0xF0F0A5A5 (BitVec.ofNat 18 (0x30)) 0x8877665544332211 0 0 0 false 3 2 0 1 9 st63a,
   metRegisters .bar2 (BitVec.ofNat 20 (0x60004)) 0xF0F0A5A5 (BitVec.ofNat 18 (0x60004)) 0x8877665544332211 0 0 0 false 3 2 0 1 9 st63a,
   metRegisters .bar0 (BitVec.ofNat 20 (0x10000)) 0xF0F0A5A5 (BitVec.ofNat 18 (0x10000)) 0x8877665544332211 0 0 0 false 3 2 0 1 9 ((((((live
      mService).setReg (A.adcAinRes 3) 0x1234).setReg (A.fbkFbPos 2) 77).setReg A.dioInRise 0xFF00FF00).set F.glbLc_LC_STATE 2).set
      (F.capCuStatus_STATE 0) 1),
   metRegisters .bar0 (BitVec.ofNat 20 (A.dbgMemAddr)) 0xF0F0A5A5 (BitVec.ofNat 18 (A.dbgMemAddr)) 0x8877665544332211 0 0 0 false 3 2 0 1 9
      ((((((live mService).setReg (A.adcAinRes 3) 0x1234).setReg (A.fbkFbPos 2) 77).setReg A.dioInRise 0xFF00FF00).set F.glbLc_LC_STATE 2).set
      F.dbgCtrl_OWNER 1),
   metRegisters .bar0 (BitVec.ofNat 20 (0x8F00)) 0xF0F0A5A5 (BitVec.ofNat 18 (A.capCrDataLo 1)) 0x8877665544332211 0 0 0 false 3 2 0 1 9
      ((((((((live mService).setReg (A.adcAinRes 3) 0x1234).setReg (A.fbkFbPos 2) 77).setReg A.dioInRise 0xFF00FF00).set F.glbLc_LC_STATE 2).set
      F.glbCaps_SLOTS 12)).set (F.hriCrCfg_EN 1) 1),
   metRegisters .bar0 (BitVec.ofNat 20 (0x1204)) 0xF0F0A5A5 (BitVec.ofNat 18 (0x1204)) 0x8877665544332211 0 0 0 false 3 2 0 1 9 (
        { (((((live mService).setReg (A.adcAinRes 3) 0x1234).setReg (A.fbkFbPos 2) 77).setReg A.dioInRise 0xFF00FF00).set F.glbLc_LC_STATE 2) with
          host := { ((((((live mService).setReg (A.adcAinRes 3) 0x1234).setReg (A.fbkFbPos 2) 77).setReg A.dioInRise 0xFF00FF00).set F.glbLc_LC_STATE 2)).host with
            holds := [
              (0x1204, some 11), (A.adcAinRes 3, some 6), (A.adcAinRes 3 + 4, some 8), (inSeg0 false 3 + 8, some 3), (inSeg0 false 3, some 3),
              (A.fbkFbPos 2, some 9), (A.ptpTimeHi, some 5), (A.ptpTimeLo, some 5), (A.dbgMemDataHi, some 0x77), (A.dbgMemDataLo, some 0x77),
              (0x1C004, some 4)] } } : State),
   metRegisters .jtag (BitVec.ofNat 20 (0x1C004)) 0xF0F0A5A5 (BitVec.ofNat 18 (0x1C004)) 0x8877665544332211 0 0 0 false 3 2 0 1 9 (
        { (((((live mService).setReg (A.adcAinRes 3) 0x1234).setReg (A.fbkFbPos 2) 77).setReg A.dioInRise 0xFF00FF00).set F.glbLc_LC_STATE 2) with
          host := { ((((((live mService).setReg (A.adcAinRes 3) 0x1234).setReg (A.fbkFbPos 2) 77).setReg A.dioInRise 0xFF00FF00).set F.glbLc_LC_STATE 2)).host with
            holds := [
              (0x1204, some 11), (A.adcAinRes 3, some 6), (A.adcAinRes 3 + 4, some 8), (inSeg0 false 3 + 8, some 3), (inSeg0 false 3, some 3),
              (A.fbkFbPos 2, some 9), (A.ptpTimeHi, some 5), (A.ptpTimeLo, some 5), (A.dbgMemDataHi, some 0x77), (A.dbgMemDataLo, some 0x77),
              (0x1C004, some 4)] } } : State)] = true := by decide +kernel

end Sys2Proof.Tests
end

section
/-!
PROOF. Every command keeps the canonical form of the registers and of host memory. The lemmas of `Laws/Rows` say it of each command's
meaning; here they are put together over `exec` and `step`.
-/
namespace Sys2Proof.Machine

/-- What holds of every command's meaning holds of the dispatch: it is answered, leaves the queue and keeps the tables' canonical form. -/
theorem exec_good (i : Instr) (s : State) : ∃ t, exec i s = .next t ∧ Good s.pending s.tablesOk t :=
  match i with
  | .tickStrobe .. => execTickStrobe_good ..
  | .engineFault .. => execEngineFault_good ..
  | .engineRestart .. => execEngineRestart_good ..
  | .subInterrupt .. => execSubInterrupt_good ..
  | .inrdyInterrupt .. => execInrdyInterrupt_good ..
  | .inrdyTimeout .. => execInrdyTimeout_good ..
  | .tmrInterrupt .. => execTmrInterrupt_good ..
  | .halCutoff => execHalCutoff_good ..
  | .ftAdopt => execFtAdopt_good ..
  | .clockStep => execClockStep_good ..
  | .shroudTick .. => execShroudTick_good ..
  | .shroudStartUp => execShroudStartUp_good ..
  | .hostLoss .. => execHostLoss_good ..
  | .submissionDoorbell .. => execSubmissionDoorbell_good ..
  | .eventRingDoorbell .. => execEventRingDoorbell_good ..
  | .captureRingDoorbell .. => execCaptureRingDoorbell_good ..
  | .ringEnable .. => execRingEnable_good ..
  | .ringDisable .. => execRingDisable_good ..
  | .eventRingEnable .. => execEventRingEnable_good ..
  | .eventRingDisable .. => execEventRingDisable_good ..
  | .captureRingEnable .. => execCaptureRingEnable_good ..
  | .captureRingDisable .. => execCaptureRingDisable_good ..
  | .ringDmaError .. => execRingDmaError_good ..
  | .ringWatchdog .. => execRingWatchdog_good ..
  | .nop .. => execNop_good ..
  | .fence .. => execFence_good ..
  | .fenceRelease .. => execFenceRelease_good ..
  | .mode .. => execMode_good ..
  | .groupClr .. => execGroupClr_good ..
  | .engineRecovered .. => execEngineRecovered_good ..
  | .backstayWindowExpiry .. => execBackstayWindowExpiry_good ..
  | .powerOnReset .. => execPowerOnReset_good ..
  | .padReset .. => execPadReset_good ..
  | .perstReset .. => execPerstReset_good ..
  | .softReset .. => execSoftReset_good ..
  | .pllLockLoss .. => execPllLockLoss_good ..
  | .pllReset .. => execPllReset_good ..
  | .supervisorReset .. => execSupervisorReset_good ..
  | .pllLock .. => execPllLock_good ..
  | .memoryWipeComplete .. => execMemoryWipeComplete_good ..
  | .calibrationDone .. => execCalibrationDone_good ..
  | .startUp .. => execStartUp_good ..
  | .lcChangeRequest .. => execLcChangeRequest_good ..
  | .lcChangeComplete => execLcChangeComplete_good ..
  | .pendingWipeStart => execPendingWipeStart_good ..
  | .pendingWipeTimeout => execPendingWipeTimeout_good ..
  | .axisBind .. => execAxisBind_good ..
  | .axisLimits .. => execAxisLimits_good ..
  | .profile .. => execProfile_good ..
  | .move .. => execMove_good ..
  | .moveImmediate .. => execMoveImmediate_good ..
  | .moveCont .. => execMoveCont_good ..
  | .moveIncomplete .. => execMoveIncomplete_good ..
  | .groupEnable .. => execGroupEnable_good ..
  | .groupDisable .. => execGroupDisable_good ..
  | .groupStop .. => execGroupStop_good ..
  | .groupResume .. => execGroupResume_good ..
  | .groupFlush .. => execGroupFlush_good ..
  | .queueStart .. => execQueueStart_good ..
  | .segmentEnd .. => execSegmentEnd_good ..
  | .gearEngage .. => execGearEngage_good ..
  | .gearDisengage .. => execGearDisengage_good ..
  | .camLoad .. => execCamLoad_good ..
  | .camReady .. => execCamReady_good ..
  | .camEngage .. => execCamEngage_good ..
  | .camDisengage .. => execCamDisengage_good ..
  | .groupReport .. => execGroupReport_good ..
  | .motor .. => execMotor_good ..
  | .isense .. => execIsense_good ..
  | .currentLoop .. => execCurrentLoop_good ..
  | .velocityLoop .. => execVelocityLoop_good ..
  | .positionLoop .. => execPositionLoop_good ..
  | .notch .. => execNotch_good ..
  | .notchRaw .. => execNotchRaw_good ..
  | .stepper .. => execStepper_good ..
  | .identify .. => execIdentify_good ..
  | .identifyAbort .. => execIdentifyAbort_good ..
  | .idState .. => execIdState_good ..
  | .loopReport .. => execLoopReport_good ..
  | .idReport .. => execIdReport_good ..
  | .loopFlagsClr .. => execLoopFlagsClr_good ..
  | .line .. => execLine_good ..
  | .roll .. => execRoll_good ..
  | .rollRemove .. => execRollRemove_good ..
  | .span .. => execSpan_good ..
  | .spanRemove .. => execSpanRemove_good ..
  | .tensionLoop .. => execTensionLoop_good ..
  | .winder .. => execWinder_good ..
  | .winderRemove .. => execWinderRemove_good ..
  | .material .. => execMaterial_good ..
  | .materialEnter .. => execMaterialEnter_good ..
  | .materialReach .. => execMaterialReach_good ..
  | .diameterSet .. => execDiameterSet_good ..
  | .lineReport .. => execLineReport_good ..
  | .winderRevolution .. => execWinderRevolution_good ..
  | .webBreak .. => execWebBreak_good ..
  | .lineStandstill => execLineStandstill_good ..
  | .lineStatusPublish .. => execLineStatusPublish_good ..
  | .addi .. => execAddi_good ..
  | .andi .. => execAndi_good ..
  | .ldi .. => execLdi_good ..
  | .ldk .. => execLdk_good ..
  | .sel .. => execSel_good ..
  | .ld .. => execLd_good ..
  | .st .. => execSt_good ..
  | .add .. => execAdd_good ..
  | .adds .. => execAdds_good ..
  | .sub .. => execSub_good ..
  | .subs .. => execSubs_good ..
  | .and .. => execAnd_good ..
  | .or .. => execOr_good ..
  | .xor .. => execXor_good ..
  | .shl .. => execShl_good ..
  | .shr .. => execShr_good ..
  | .sra .. => execSra_good ..
  | .shls .. => execShls_good ..
  | .shli .. => execShli_good ..
  | .shri .. => execShri_good ..
  | .srai .. => execSrai_good ..
  | .shlsi .. => execShlsi_good ..
  | .min .. => execMin_good ..
  | .max .. => execMax_good ..
  | .minu .. => execMinu_good ..
  | .maxu .. => execMaxu_good ..
  | .abss .. => execAbss_good ..
  | .negs .. => execNegs_good ..
  | .slt .. => execSlt_good ..
  | .sltu .. => execSltu_good ..
  | .seq .. => execSeq_good ..
  | .sext32 .. => execSext32_good ..
  | .sext16 .. => execSext16_good ..
  | .sext8 .. => execSext8_good ..
  | .norm .. => execNorm_good ..
  | .expx .. => execExpx_good ..
  | .gmul .. => execGmul_good ..
  | .mulh .. => execMulh_good ..
  | .mull .. => execMull_good ..
  | .clips .. => execClips_good ..
  | .mul .. => execMul_good ..
  | .mac .. => execMac_good ..
  | .msu .. => execMsu_good ..
  | .mulld .. => execMulld_good ..
  | .macld .. => execMacld_good ..
  | .msuld .. => execMsuld_good ..
  | .extr .. => execExtr_good ..
  | .acld .. => execAcld_good ..
  | .norma .. => execNorma_good ..
  | .div .. => execDiv_good ..
  | .divu .. => execDivu_good ..
  | .diva0 .. => execDiva0_good ..
  | .diva1 .. => execDiva1_good ..
  | .sqrtu .. => execSqrtu_good ..
  | .sincos .. => execSincos_good ..
  | .atan2 .. => execAtan2_good ..
  | .beqz .. => execBeqz_good ..
  | .bnez .. => execBnez_good ..
  | .bltz .. => execBltz_good ..
  | .bgez .. => execBgez_good ..
  | .bgtz .. => execBgtz_good ..
  | .blez .. => execBlez_good ..
  | .b .. => execB_good ..
  | .bloop .. => execBloop_good ..
  | .bloopr .. => execBloopr_good ..
  | .jal .. => execJal_good ..
  | .jr .. => execJr_good ..
  | .mfc .. => execMfc_good ..
  | .mtc .. => execMtc_good ..
  | .mfs .. => execMfs_good ..
  | .mts .. => execMts_good ..
  | .sparNop .. => execSparNop_good ..
  | .done .. => execDone_good ..
  | .waitt .. => execWaitt_good ..
  | .waitc .. => execWaitc_good ..
  | .reti .. => execReti_good ..
  | .brk .. => execBrk_good ..
  | .fenceIo .. => execFenceIo_good ..
  | .dmaComplete .. => execDmaComplete_good ..
  | .pwmCommit .. => execPwmCommit_good ..
  | .pwmCommitEffect .. => execPwmCommitEffect_good ..
  | .pwmPeriodBoundary .. => execPwmPeriodBoundary_good ..
  | .pwmRunSet .. => execPwmRunSet_good ..
  | .pwmRunClear .. => execPwmRunClear_good ..
  | .pwmFault .. => execPwmFault_good ..
  | .fltLatchClear .. => execFltLatchClear_good ..
  | .inputBind .. => execInputBind_good ..
  | .adcSoftwareTrigger .. => execAdcSoftwareTrigger_good ..
  | .adcTimerTrigger .. => execAdcTimerTrigger_good ..
  | .adcEventTrigger .. => execAdcEventTrigger_good ..
  | .adcResult .. => execAdcResult_good ..
  | .adcCfgApply .. => execAdcCfgApply_good ..
  | .diagInjection .. => execDiagInjection_good ..
  | .sdiWord .. => execSdiWord_good ..
  | .sdiStuck .. => execSdiStuck_good ..
  | .segmentPublish .. => execSegmentPublish_good ..
  | .diagFaultClear .. => execDiagFaultClear_good ..
  | .stuckClear .. => execStuckClear_good ..
  | .recoveryWindowEnd .. => execRecoveryWindowEnd_good ..
  | .feedbackBind .. => execFeedbackBind_good ..
  | .fbEnable .. => execFbEnable_good ..
  | .fbDisable .. => execFbDisable_good ..
  | .fbCount .. => execFbCount_good ..
  | .fbIndex .. => execFbIndex_good ..
  | .fbStill .. => execFbStill_good ..
  | .fbGate .. => execFbGate_good ..
  | .serialReadStart .. => execSerialReadStart_good ..
  | .serialReadDone .. => execSerialReadDone_good ..
  | .resolverTrigger .. => execResolverTrigger_good ..
  | .fbFaultClear .. => execFbFaultClear_good ..
  | .latchEdge .. => execLatchEdge_good ..
  | .latchRecord .. => execLatchRecord_good ..
  | .latchRecordTimeout .. => execLatchRecordTimeout_good ..
  | .latchArm .. => execLatchArm_good ..
  | .latchPop .. => execLatchPop_good ..
  | .latchFlush .. => execLatchFlush_good ..
  | .tdcRecalibration .. => execTdcRecalibration_good ..
  | .captureArm .. => execCaptureArm_good ..
  | .captureStop .. => execCaptureStop_good ..
  | .captureForce .. => execCaptureForce_good ..
  | .captureDisarm .. => execCaptureDisarm_good ..
  | .captureBlocksReserved .. => execCaptureBlocksReserved_good ..
  | .captureSample .. => execCaptureSample_good ..
  | .sequencerTimeout .. => execSequencerTimeout_good ..
  | .captureRestart .. => execCaptureRestart_good ..
  | .captureRingWrite .. => execCaptureRingWrite_good ..
  | .linkChange .. => execLinkChange_good ..
  | .rxFrame .. => execRxFrame_good ..
  | .sync .. => execSync_good ..
  | .followUp .. => execFollowUp_good ..
  | .ptpAnnounce .. => execPtpAnnounce_good ..
  | .delayReq .. => execDelayReq_good ..
  | .delayResp .. => execDelayResp_good ..
  | .pdelayReq .. => execPdelayReq_good ..
  | .pdelayResp .. => execPdelayResp_good ..
  | .ptpTransmit .. => execPtpTransmit_good ..
  | .announceReceiptTimeout .. => execAnnounceReceiptTimeout_good ..
  | .syncReceiptTimeout .. => execSyncReceiptTimeout_good ..
  | .delayRespTimeout .. => execDelayRespTimeout_good ..
  | .pathHoldExpiry => execPathHoldExpiry_good ..
  | .stepAuthLapse => execStepAuthLapse_good ..
  | .ptpStepAuthorise .. => execPtpStepAuthorise_good ..
  | .ptpStep .. => execPtpStep_good ..
  | .timeCompare .. => execTimeCompare_good ..
  | .timeCompareCancel .. => execTimeCompareCancel_good ..
  | .timeCompareFire .. => execTimeCompareFire_good ..
  | .netSend .. => execNetSend_good ..
  | .timedLaunch .. => execTimedLaunch_good ..
  | .txTimestamp .. => execTxTimestamp_good ..
  | .txtsIdRead .. => execTxtsIdRead_good ..
  | .txtsPop .. => execTxtsPop_good ..
  | .netReport .. => execNetReport_good ..
  | .nodeCfg .. => execNodeCfg_good ..
  | .nodeIo .. => execNodeIo_good ..
  | .discover => execDiscover_good ..
  | .announce .. => execAnnounce_good ..
  | .joinReq .. => execJoinReq_good ..
  | .joinAck .. => execJoinAck_good ..
  | .joinTimeout .. => execJoinTimeout_good ..
  | .reply .. => execReply_good ..
  | .leave .. => execLeave_good ..
  | .partnerWatchdog .. => execPartnerWatchdog_good ..
  | .safetyInputChange .. => execSafetyInputChange_good ..
  | .discrepancyTimeout .. => execDiscrepancyTimeout_good ..
  | .inputTestPulse .. => execInputTestPulse_good ..
  | .resetWindowExpiry .. => execResetWindowExpiry_good ..
  | .stopComplete .. => execStopComplete_good ..
  | .slsReact .. => execSlsReact_good ..
  | .brakeDelay .. => execBrakeDelay_good ..
  | .outputTestPulse .. => execOutputTestPulse_good ..
  | .fieldDriverTimeout .. => execFieldDriverTimeout_good ..
  | .tseMessage .. => execTseMessage_good ..
  | .tseWatchdog .. => execTseWatchdog_good ..
  | .tseConnectionStart .. => execTseConnectionStart_good ..
  | .safetySessionOpen .. => execSafetySessionOpen_good ..
  | .safetySessionClose .. => execSafetySessionClose_good ..
  | .sessionTimeout => execSessionTimeout_good ..
  | .lockoutEnd => execLockoutEnd_good ..
  | .safetyPassword .. => execSafetyPassword_good ..
  | .safetyConfig .. => execSafetyConfig_good ..
  | .safetyConfirm .. => execSafetyConfirm_good ..
  | .confirmTimeout => execConfirmTimeout_good ..
  | .safetyDemand .. => execSafetyDemand_good ..
  | .deviceSto .. => execDeviceSto_good ..
  | .safetyReportStatus .. => execSafetyReportStatus_good ..
  | .safetyReportLog .. => execSafetyReportLog_good ..
  | .stoCheck .. => execStoCheck_good ..
  | .pulseNow .. => execPulseNow_good ..
  | .fldUvSet .. => execFldUvSet_good ..
  | .fldUvClear .. => execFldUvClear_good ..
  | .fldOff .. => execFldOff_good ..
  | .inValid .. => execInValid_good ..
  | .fieldReenable .. => execFieldReenable_good ..
  | .fieldOut .. => execFieldOut_good ..
  | .fieldOutputUpdate .. => execFieldOutputUpdate_good ..
  | .fieldInput .. => execFieldInput_good ..
  | .inFiltWrite .. => execInFiltWrite_good ..
  | .overload .. => execOverload_good ..
  | .thermalOffPhase .. => execThermalOffPhase_good ..
  | .thermalOffEnd .. => execThermalOffEnd_good ..
  | .extHigh .. => execExtHigh_good ..
  | .holdSeen => execHoldSeen_good ..
  | .fieldCpl .. => execFieldCpl_good ..
  | .couplerRestored .. => execCouplerRestored_good ..
  | .vmainLost .. => execVmainLost_good ..
  | .returnQualification .. => execReturnQualification_good ..
  | .vmainBack .. => execVmainBack_good ..
  | .vbackAbsent .. => execVbackAbsent_good ..
  | .chargeState .. => execChargeState_good ..
  | .bankTempMeasure .. => execBankTempMeasure_good ..
  | .chargeTimeout .. => execChargeTimeout_good ..
  | .chargeCtrl .. => execChargeCtrl_good ..
  | .tempMeasure .. => execTempMeasure_good ..
  | .thermalMeasure .. => execThermalMeasure_good ..
  | .thermalTrip .. => execThermalTrip_good ..
  | .thermalRelease .. => execThermalRelease_good ..
  | .imageStore .. => execImageStore_good ..
  | .imageStored .. => execImageStored_good ..
  | .imageLoad .. => execImageLoad_good ..
  | .engineReload .. => execEngineReload_good ..
  | .imageStaged .. => execImageStaged_good ..
  | .imageSwap .. => execImageSwap_good ..
  | .imageRollback .. => execImageRollback_good ..
  | .swapTakeEffect .. => execSwapTakeEffect_good ..
  | .swapAbandon .. => execSwapAbandon_good ..
  | .swapRollback .. => execSwapRollback_good ..
  | .probationEnd .. => execProbationEnd_good ..
  | .bootSlotWrite => execBootSlotWrite_good ..
  | .imageOverride .. => execImageOverride_good ..
  | .engineParam .. => execEngineParam_good ..
  | .imageKey .. => execImageKey_good ..
  | .debugAttach .. => execDebugAttach_good ..
  | .debugDetach .. => execDebugDetach_good ..
  | .tapReset => execTapReset_good ..
  | .halt .. => execHalt_good ..
  | .resume .. => execResume_good ..
  | .step .. => execStep_good ..
  | .memoryTransfer .. => execMemoryTransfer_good ..
  | .memoryTransferDone => execMemoryTransferDone_good ..
  | .bypass => execBypass_good ..
  | .idcode => execIdcode_good ..
  | .samplePreload .. => execSamplePreload_good ..
  | .extest => execExtest_good ..
  | .highz => execHighz_good ..
  | .clamp => execClamp_good ..
  | .wideRegisterRead .. => execWideRegisterRead_good ..
  | .wideRegisterWrite .. => execWideRegisterWrite_good ..
  | .timeRead .. => execTimeRead_good ..
  | .resRead .. => execResRead_good ..
  | .seg0SumRead .. => execSeg0SumRead_good ..
  | .posRead .. => execPosRead_good ..
  | .registerWrite .. => execRegisterWrite_good ..
  | .rejectedOpcode .. => execRejectedOpcode_good ..
  | .groupCtrlNoAction .. => execGroupCtrlNoAction_good ..
  | .captureCtrlNoAction .. => execCaptureCtrlNoAction_good ..
  | .illegalInstruction .. => execIllegalInstruction_good ..
  | .pwmEdge .. => execPwmEdge_good ..
  | .pwmMidPeriod .. => execPwmMidPeriod_good ..
  | .faultInputHigh .. => execFaultInputHigh_good ..
  | .pllLockRegained => execPllLockRegained_good ..

/-- A step is answered and leaves the queue without its front, the tables in canonical form if they were. -/
theorem step_good (s : State) : ∃ t, step s = .next t ∧ Good s.pending.tail s.tablesOk t := by
  unfold step
  cases h : s.pending with
  | nil => exact ⟨s, rfl, h, id⟩
  | cons c rest => exact exec_good c { s with pending := rest }

/-- Settles O4: `Good`, which every command's lemma in `Laws/Rows` carries, holds of every step and names the canonical form. -/
theorem tablesStayCanonical : Obligations.TablesStayCanonical := by
  intro s t hs hstep
  obtain ⟨u, hu, -, hok⟩ := step_good s
  obtain rfl : u = t := Host.Outcome.next.inj (hu.symm.trans hstep)
  exact hok hs

end Sys2Proof.Machine
end

section
/-!
PROOF. The clock at a strobe (spec/01_architecture_and_tick.md, R27, R28, R31): where the next multiple of FT lies, how many cycles reach it,
and that the strobe's work leaves the clock as `clockStrobe` has set it.
-/
namespace Sys2Proof.Machine

theorem State.ftNs_pos (s : State) : 0 < s.ftNs := by
  unfold State.ftNs ftNsOf
  positivity

theorem State.dvd_nextMultiple (s : State) : s.ftNs * 2 ^ 32 ∣ s.nextMultiple := by
  unfold State.nextMultiple
  dsimp only
  split
  · exact Nat.dvd_mul_left ..
  · exact Nat.dvd_mul_left ..

/-- The next strobe lies at most one FT after the latest; in a long tick at least one and less than two (R31). -/
theorem State.nextMultiple_range (s : State) :
    if s.clk.longTick then s.clk.clk + s.ftNs * 2 ^ 32 ≤ s.nextMultiple ∧ s.nextMultiple < s.clk.clk + 2 * (s.ftNs * 2 ^ 32)
    else s.clk.clk < s.nextMultiple ∧ s.nextMultiple ≤ s.clk.clk + s.ftNs * 2 ^ 32 := by
  have hft : 0 < s.ftNs * 2 ^ 32 := Nat.mul_pos s.ftNs_pos (by decide)
  unfold State.nextMultiple
  dsimp only
  generalize s.ftNs * 2 ^ 32 = ft at hft
  split
  · have hdiv := Nat.div_add_mod' (s.clk.clk + 2 * ft - 1) ft
    have hmod := Nat.mod_lt (s.clk.clk + 2 * ft - 1) hft
    omega
  · have hdiv := Nat.div_add_mod' s.clk.clk ft
    have hmod := Nat.mod_lt s.clk.clk hft
    rw [Nat.succ_mul]
    omega

theorem State.clk_lt_nextMultiple (s : State) : s.clk.clk < s.nextMultiple := by
  have hrange := s.nextMultiple_range
  have hft : 0 < s.ftNs * 2 ^ 32 := Nat.mul_pos s.ftNs_pos (by decide)
  split at hrange <;> omega

/-- The ending tick has the fewest cycles that reach the next multiple of FT (R28). -/
theorem State.tickCycles_reach (s : State) (h : 0 < s.clk.incr) :
    s.nextMultiple ≤ s.clk.clk + s.tickCycles * s.clk.incr ∧ s.clk.clk + s.tickCycles * s.clk.incr < s.nextMultiple + s.clk.incr := by
  have hlt := s.clk_lt_nextMultiple
  have hdiv := Nat.div_add_mod' (s.nextMultiple - s.clk.clk + s.clk.incr - 1) s.clk.incr
  have hmod := Nat.mod_lt (s.nextMultiple - s.clk.clk + s.clk.incr - 1) h
  unfold State.tickCycles
  omega

/-- Before the PLL locks a strobe does nothing (R109). -/
theorem tickStrobe_of_not_ticking (late : BitVec 38) (vmain vback pIn : Nat) (s : State) (h : s.md.bootStep = 0) :
    tickStrobe late vmain vback pIn s = s := by
  simp [tickStrobe, State.ticking, h]

/-- Once the part counts ticks, the strobe moves the clock as `clockStrobe` does: all later work keeps the ticks and the local time. -/
theorem tickStrobe_clk (late : BitVec 38) (vmain vback pIn : Nat) (s : State) (h : s.md.bootStep ≠ 0) :
    (tickStrobe late vmain vback pIn s).clk.ticks = s.clk.ticks + 1 ∧
      (tickStrobe late vmain vback pIn s).clk.clk = s.clk.clk + s.tickCycles * s.clk.incr := by
  have hchecks : Kept (clockStrobe s).keep (strobeChecks late s) :=
    watchVe_kept _ (forEach_kept _ _ (fun _ _ => checkEngine_kept _ _ _) _ (kept_self (clockStrobe s)))
  have hall := strobeVe_kept _ (strobeUnits_kept (s.tickCycles * 5 / 2) vmain vback pIn _ (strobeWork_kept _ (strobeSwap_kept _ hchecks)))
  rw [tickStrobe, if_neg (by simpa [State.ticking] using h)]
  exact hall.1

namespace Settled

/-- Settles O16: the first cycle at or after the next multiple of FT, which all of the strobe's later work keeps. It stands in a namespace of
its own, for the model's operation has its name. -/
theorem tickStrobe : Obligations.TickStrobe := by
  intro late vmain vback pIn s ft
  refine ⟨fun h => congrArg Host.Outcome.next (tickStrobe_of_not_ticking late _ _ _ s h), fun h hincr => ?_⟩
  obtain ⟨hticks, hclk⟩ := tickStrobe_clk late vmain.toNat vback.toNat pIn.toNat s h
  obtain ⟨m, hm⟩ := s.dvd_nextMultiple
  have hm : s.nextMultiple = m * ft := hm.trans (Nat.mul_comm _ _)
  obtain ⟨hreach, hfewest⟩ := s.tickCycles_reach hincr
  have hrange := s.nextMultiple_range
  rw [hm] at hreach hfewest hrange
  exact ⟨_, s.tickCycles, m, rfl, hticks, hclk, hclk ▸ hreach, hclk ▸ hfewest, hrange⟩

end Settled
end Sys2Proof.Machine
end

section
/-!
PROOF. Engine events of the tick (R43, R551): a dropped sub-tick interrupt of an engine on probation calls the rollback, and with it
IMG.STATUS follows the list of swaps. A state in which the two disagree shows that more than CLK.ENG_STAT is written.
-/
namespace Sys2Proof.Machine

/-- Engine 0 runs an Ephagon image that a swap has brought and whose probation has not ended, an update of its current stage is in progress,
and IMG.STATUS.SWAP_BUSY does not show the swap. -/
def probationUnshown : State :=
  { md := { bootStep := 4 }
    spar := { engs := [(0, { run := true })] }
    loop := { axes := [(0, { updating := true })] }
    img := {
      engs := [(0, { act := some { kind := 5, signer := 0, version := 0, epoch := 0, revMin := 0, revMax := 255, xhash := 0, shash := 0, phash := 0 } })]
      jobs := [{ mask := [0], done := true }] } }

/-- The boundary at the strobe is dropped, the rollback is called, and SWAP_BUSY sets. -/
theorem subInterrupt_writes_swapBusy :
    probationUnshown.reg A.imgStatus = 0 ∧ (subInterrupt 0 0 false probationUnshown).reg A.imgStatus = 2 := by
  decide +kernel

/-- The update point before it leaves IMG.STATUS. -/
theorem updatePoint_keeps_imgStatus :
    (updatePoint 0 (probationUnshown.atCyc (probationUnshown.subCycle 0 0))).reg A.imgStatus = probationUnshown.reg A.imgStatus := by
  decide +kernel

/-- Refutes O17: the clause of the dropped boundary lets it write CLK.ENG_STAT alone, but the rollback that it calls (R551) also brings
IMG.STATUS.SWAP_BUSY up to date with the swaps, which changes the register in a state where it did not show them; the clause would need
their agreement as a hypothesis. -/
theorem not_engineTickEvents : ¬ Obligations.EngineTickEvents := by
  intro h
  obtain ⟨-, ⟨-, -, -, hdropped, -⟩, -⟩ := h 0 0 0 false 0 probationUnshown
  obtain ⟨t, ht, -, -, hregs, -⟩ := hdropped (by decide +kernel) (by decide +kernel) (by decide +kernel) (by decide +kernel)
  obtain rfl : subInterrupt 0 0 false probationUnshown = t := Host.Outcome.next.inj ht
  have hkept : (subInterrupt 0 0 false probationUnshown).reg A.imgStatus =
      (updatePoint 0 (probationUnshown.atCyc (probationUnshown.subCycle 0 0))).reg A.imgStatus := hregs A.imgStatus (by decide)
  obtain ⟨hbefore, hafter⟩ := subInterrupt_writes_swapBusy
  rw [hafter, updatePoint_keeps_imgStatus, hbefore] at hkept
  exact absurd hkept (by decide)

end Sys2Proof.Machine
end

section
/-!
PROOF. A step of the clock (R424, R439): it returns every armed target to the pending list, and PTP.CMP_STATUS shows that.
-/
namespace Sys2Proof.Machine

/-- STANDBY at a strobe: a step of the clock waits, and one compare target is armed, as PTP.CMP_STATUS shows. -/
def stepWithArmedTarget : State :=
  { ((State.reset.set F.glbMode_MODE_ACT mStandby).set F.ptpCmpStatus_ARMED 1) with
    md := { bootStep := 4 }
    net := {
      ptp := { step := some (65536, false) }
      units := [(0, some ({ id := 1, target := 1000, period := 0 }, false))] } }

/-- The step disarms the unit: in PTP.CMP_STATUS its target moves from ARMED to PENDING. -/
theorem clockStep_writes_cmpStatus :
    stepWithArmedTarget.reg A.ptpCmpStatus = 0x00001 ∧ (clockStep stepWithArmedTarget).reg A.ptpCmpStatus = 0x10000 := by
  decide +kernel

/-- Refutes O20: the clause of the applied step does not name PTP.CMP_STATUS among the registers it writes, but a step that finds a target
armed returns it to the pending list (R439), and both counts of the register follow. -/
theorem not_clockAndEngineFaults : ¬ Obligations.ClockAndEngineFaults := by
  intro h
  obtain ⟨-, -, hstep, -⟩ := h 0 stepWithArmedTarget
  have happlied := hstep 65536 false rfl
  rw [if_neg (by decide +kernel), if_neg (by decide +kernel)] at happlied
  obtain ⟨t, ht, -, hregs, -⟩ := happlied
  obtain rfl : clockStep stepWithArmedTarget = t := Host.Outcome.next.inj ht
  obtain ⟨hbefore, hafter⟩ := clockStep_writes_cmpStatus
  have hkept := hregs A.ptpCmpStatus (by decide)
  rw [hbefore, hafter] at hkept
  exact absurd hkept (by decide)

end Sys2Proof.Machine
end

section
/-!
PROOF. What VE finds at its next step (spec/02_host_rings.md, R65, R71, R74, R85): a doorbell is recorded at once, and a write to a register
of the HRI block joins the writes that wait.
-/
namespace Sys2Proof.Machine

/-- Before READY a write outside the GLB block is dropped (R54). -/
theorem barWrite_of_not_ready {a : Nat} (w : W32) {s : State} (ha : 0x1000 ≤ a) (hready : ¬s.ready = true) : barWrite a w s = s :=
  if_pos (.inl ⟨ha, by simpa using hready⟩)

/-- In a ready device a write to a register of the HRI block waits for VE's next step (R65). -/
theorem barWrite_of_hri {a : Nat} (w : W32) {s : State} (ha : 0x1000 ≤ a) (hhri : a < 0x2000) (hreg : (regGroup? a).isSome = true)
    (hready : s.ready = true) : barWrite a w s = hriWrite a (s.spared a w) s := by
  have htaken : ¬((0x1000 ≤ a ∧ !s.ready) ∨ (regGroup? a).isNone) := by simp [hready, Option.isSome_iff_ne_none.mp hreg]
  unfold barWrite
  rw [if_neg htaken, if_neg (by omega), if_pos hhri]

/-- A command that writes a register of the HRI block: before READY it changes nothing, else the write waits and nothing else changes. -/
theorem exec_hriWrite_waits {c : Instr} {a : Nat} {w : W32} {s : State} (hc : exec c s = .next (barWrite a w s)) (ha : 0x1000 ≤ a)
    (hhri : a < 0x2000) (hreg : (regGroup? a).isSome = true) :
    if s.ready = true then ∃ t, exec c s = .next t ∧ t = { s with host := { s.host with hriPend := t.host.hriPend } } ∧
      t.host.hriPend = s.host.hriPend ++ [(a, s.spared a w)] else exec c s = .next s := by
  split
  next hready => exact ⟨_, hc.trans (congrArg _ (barWrite_of_hri w ha hhri hreg hready)), rfl, rfl⟩
  next hready => exact hc.trans (congrArg _ (barWrite_of_not_ready w ha hready))

theorem hriRingCfg_isReg (n : Fin 64) : (regGroup? (A.hriRingCfg n.val)).isSome = true := by
  revert n
  decide +kernel

theorem hriCrCfg_isReg (m : Fin 4) : (regGroup? (A.hriCrCfg m.val)).isSome = true := by
  revert m
  decide +kernel

theorem hriEvtCfg_isReg : (regGroup? A.hriEvtCfg).isSome = true := by decide +kernel

/-- The latest value stands: a doorbell's own where it names one, else the one recorded before. -/
theorem orElse_eq_ite {α : Type} (x y : Option α) : (x.orElse fun _ => y) = if x.isSome then x else y := by
  cases x <;> rfl

theorem doorbell_of_not_ready (n : Nat) (t k : Option W32) {s : State} (hready : ¬s.ready = true) : doorbell n t k s = s :=
  if_pos (by simpa using hready)

theorem doorbell_of_ready (n : Nat) (t k : Option W32) {s : State} (hready : s.ready = true) : doorbell n t k s =
    s.updRing n (fun r => { r with dbT := if t.isSome then t else r.dbT, dbK := if k.isSome then k else r.dbK, arrival := true }) := by
  unfold doorbell
  rw [if_neg (by simp [hready])]
  simp only [orElse_eq_ite]

theorem evDoorbell_eq_ite (v : W32) (s : State) :
    evDoorbell v s = if s.ready = true then { s with host := { s.host with evDb := some v } } else s := by
  cases h : s.ready <;> simp [evDoorbell, h]

theorem crDoorbell_of_ready (m : Nat) (v : W32) {s : State} (hready : s.ready = true) :
    crDoorbell m v s = { s with host := { s.host with crDb := Table.put none m (some v) s.host.crDb } } := by
  simp [crDoorbell, hready]

theorem crDoorbell_of_not_ready (m : Nat) (v : W32) {s : State} (hready : ¬s.ready = true) : crDoorbell m v s = s :=
  if_pos (by simpa using hready)

/-- Settles O19: a doorbell's record by the lemma of its operation, a configuration write by `exec_hriWrite_waits`. -/
theorem doorbells : Obligations.Doorbells := by
  intro n m t0 k0 v s waits
  have hring (c : Instr) (w : W32) (hc : exec c s = .next (barWrite (A.hriRingCfg n.val) w s)) : waits c (A.hriRingCfg n.val) w :=
    exec_hriWrite_waits hc (by unfold A.hriRingCfg; omega) (by unfold A.hriRingCfg; omega) (hriRingCfg_isReg n)
  have hevent (c : Instr) (w : W32) (hc : exec c s = .next (barWrite A.hriEvtCfg w s)) : waits c A.hriEvtCfg w :=
    exec_hriWrite_waits hc (by decide) (by decide) hriEvtCfg_isReg
  have hcapture (c : Instr) (w : W32) (hc : exec c s = .next (barWrite (A.hriCrCfg m.val) w s)) : waits c (A.hriCrCfg m.val) w :=
    exec_hriWrite_waits hc (by unfold A.hriCrCfg; omega) (by unfold A.hriCrCfg; omega) (hriCrCfg_isReg m)
  refine ⟨?_, ?_, ?_, hring _ _ rfl, hring _ _ rfl, hevent _ _ rfl, hevent _ _ rfl, hcapture _ _ rfl, hcapture _ _ rfl⟩
  · split
    next hready =>
      refine ⟨_, congrArg Host.Outcome.next (doorbell_of_ready n.val t0 k0 hready), rfl, ?_, fun r hr => ?_⟩
      · exact State.ring_updRing_same ..
      · exact State.ring_updRing_other _ _ hr
    next hready => exact congrArg Host.Outcome.next (doorbell_of_not_ready n.val t0 k0 hready)
  · have hexec : exec (.eventRingDoorbell v) s = .next (evDoorbell v s) := rfl
    rw [hexec, evDoorbell_eq_ite]
    split <;> rfl
  · split
    next hready =>
      refine ⟨_, congrArg Host.Outcome.next (crDoorbell_of_ready m.val v hready), rfl, ?_, fun r hr => ?_⟩
      · exact Table.look_put_same ..
      · exact Table.look_put_other _ _ _ hr _
    next hready => exact congrArg Host.Outcome.next (crDoorbell_of_not_ready m.val v hready)

end Sys2Proof.Machine
end

section
/-!
PROOF. Faults of rings (R81, R553): a watchdog that decides HAULDOWN withdraws a swap that is armed, and so changes the images' state.
-/
namespace Sys2Proof.Machine

/-- RUN: ring 0 is enabled, its watchdog of one tick with action 2 is due, and a swap of engine 0 is armed. -/
def watchdogInArmedSwap : State :=
  { (((((State.reset.set F.glbStatus_READY 1).set F.glbMode_MODE_ACT mRun).set (F.hriRingStatus_STATE 0) 1).set
      (F.hriRingWd_WD_TICKS 0) 1).set (F.hriRingWd_WD_ACT 0) 2) with
    host := { rings := [(0, { armed := some 0 })] }
    clk := { ticks := 1 }
    img := { jobs := [{ mask := [0] }] } }

/-- The decision withdraws the swap. -/
theorem ringWatchdog_withdraws_swap : (ringWatchdog 0 watchdogInArmedSwap).img.jobs = [] := by decide +kernel

/-- Refutes O21: the clause of a due watchdog names registers, host interface, modes, plan and clock as all that it changes, but the decision for
HAULDOWN also withdraws an armed swap (R553), which stands in the images' state. -/
theorem not_ringFaults : ¬ Obligations.RingFaults := by
  intro h
  obtain ⟨hwatchdog, -⟩ := h 0 0 0 false 0 watchdogInArmedSwap
  rw [if_pos (by decide +kernel)] at hwatchdog
  obtain ⟨t, ht, hframe, -⟩ := hwatchdog
  obtain rfl : ringWatchdog 0 watchdogInArmedSwap = t := Host.Outcome.next.inj ht
  have hkept : (ringWatchdog 0 watchdogInArmedSwap).img.jobs = [{ mask := [0] }] := congrArg (·.img.jobs) hframe
  rw [ringWatchdog_withdraws_swap] at hkept
  exact absurd hkept (by decide)

end Sys2Proof.Machine
end

section
/-!
PROOF. Enabling and disabling rings (spec/02_host_rings.md, R73, R75, R83, R85): the registers that each operation of VE's step 1 writes, and
that the granted credits stay in their book.
-/
namespace Sys2Proof.Machine

/-! ## Fields of a register whose word is known -/

theorem State.get_of_reg {s : State} {f : Fld} {w : W32} (h : s.reg f.a = w) : s.get f = bits w f.hi f.lo := by rw [State.get, h]

theorem State.getB_of_get {s : State} {f : Fld} {v : Nat} (h : s.get f = v) : s.getB f = (v != 0) := by rw [State.getB, h]

/-! ## What the operations on a submission ring may touch -/

/-- The registers that show a submission ring: its own, and the sum of the grants. -/
def ringOwn (n : Nat) : List Nat :=
  [A.hriRingCfg n, A.hriRingStatus n, A.hriRingHead n, A.hriRingCqTail n, A.hriRingClampCount n, A.hriRingCredit n, A.hriGrantSum]

/-- Between two states nothing differs but a ring and the registers that show it. -/
structure TouchesRing (n : Nat) (s t : State) : Prop where
  frame : ∃ r x, t = { s with regs := r, host := { s.host with rings := x } }
  regs : ∀ a, a ∉ ringOwn n → t.reg a = s.reg a
  rings : ∀ k, k ≠ n → t.ring k = s.ring k

namespace TouchesRing
variable {n : Nat} {s t : State}

theorem refl (n : Nat) (s : State) : TouchesRing n s s := ⟨⟨s.regs, s.host.rings, rfl⟩, fun _ _ => rfl, fun _ _ => rfl⟩

theorem setReg (h : TouchesRing n s t) {a : Nat} (ha : a ∈ ringOwn n) (v : W32) : TouchesRing n s (t.setReg a v) := by
  obtain ⟨r, x, hframe⟩ := h.frame
  refine ⟨⟨_, x, congrArg (fun u : State => u.setReg a v) hframe⟩, fun b hb => ?_, h.rings⟩
  rw [State.reg_setReg_other t v (fun hab : b = a => hb (hab ▸ ha)), h.regs b hb]

theorem set (h : TouchesRing n s t) (f : Fld) (hf : f.a ∈ ringOwn n) (v : Nat) : TouchesRing n s (t.set f v) := h.setReg hf _

theorem updRing (h : TouchesRing n s t) (f : Ring → Ring) : TouchesRing n s (t.updRing n f) := by
  obtain ⟨r, x, hframe⟩ := h.frame
  refine ⟨⟨r, _, congrArg (fun u : State => u.updRing n f) hframe⟩, h.regs, fun k hk => ?_⟩
  rw [State.ring_updRing_other t f hk, h.rings k hk]

theorem grantSum (h : TouchesRing n s t) : TouchesRing n s (grantSum t) := h.set _ (by simp [ringOwn, F.hriGrantSum_GRANT_SUM]) _

/-- The frame as the statement writes it. -/
theorem only (h : TouchesRing n s t) : t = { s with regs := t.regs, host := { s.host with rings := t.host.rings } } ∧
    (∀ a, a ∉ ringOwn n → t.reg a = s.reg a) ∧ ∀ k, k ≠ n → t.ring k = s.ring k := by
  refine ⟨?_, h.regs, h.rings⟩
  obtain ⟨r, x, rfl⟩ := h.frame
  rfl

end TouchesRing

/-- No other ring's STATUS is among them. -/
theorem hriRingStatus_not_own {n k : Nat} (hk : k ≠ n) : A.hriRingStatus k ∉ ringOwn n := by
  simp only [ringOwn, A.hriRingCfg, A.hriRingStatus, A.hriRingHead, A.hriRingCqTail, A.hriRingClampCount, A.hriRingCredit, A.hriGrantSum,
    List.mem_cons, List.not_mem_nil, or_false, not_or]
  omega

/-! ## The sum of the granted credits -/

/-- The credits that all rings have been granted. -/
def State.grantTotal (s : State) : Nat := ((List.range 64).map (fun k => s.get (F.hriRingStatus_GRANT_ACT k))).sum

theorem grantSum_reg (s : State) {a : Nat} (ha : a ≠ A.hriGrantSum) : (grantSum s).reg a = s.reg a := State.reg_set_other _ _ _ ha

theorem grantSum_get_sum (s : State) : (grantSum s).get F.hriGrantSum_GRANT_SUM = s.grantTotal % 512 := State.get_set_same _ _ _ (by decide)

/-- The book is read from the rings' STATUS alone. -/
theorem grantSum_grantTotal (s : State) : (grantSum s).grantTotal = s.grantTotal := by
  have hgrants (k : Nat) : (grantSum s).get (F.hriRingStatus_GRANT_ACT k) = s.get (F.hriRingStatus_GRANT_ACT k) :=
    State.get_set_reg _ _ (by simp only [F.hriRingStatus_GRANT_ACT, F.hriGrantSum_GRANT_SUM, A.hriRingStatus, A.hriGrantSum]; omega)
  simp only [State.grantTotal, hgrants]

/-- Where one term goes from 0 to a value and the others stay, the sum rises by that value. -/
theorem sum_map_range_of_one {f f' : Nat → Nat} {m n g : Nat} (hn : n < m) (hzero : f n = 0) (hown : f' n = g)
    (hothers : ∀ k, k ≠ n → f' k = f k) : ((List.range m).map f').sum = ((List.range m).map f).sum + g := by
  have hf : f' = fun k => f k + if k = n then g else 0 := by
    funext k
    by_cases hk : k = n
    · simp [hk, hzero, hown]
    · simp [hk, hothers k hk]
  have hsum (u : Nat → Nat) : ((List.range m).map u).sum = ∑ k ∈ Finset.range m, u k := rfl
  rw [hf, hsum, hsum, Finset.sum_add_distrib, Finset.sum_ite_eq', if_pos (Finset.mem_range.mpr hn)]

theorem grantTotal_of_one {s t : State} {n g : Nat} (hn : n < 64) (hzero : s.get (F.hriRingStatus_GRANT_ACT n) = 0)
    (hown : t.get (F.hriRingStatus_GRANT_ACT n) = g)
    (hothers : ∀ k, k ≠ n → t.get (F.hriRingStatus_GRANT_ACT k) = s.get (F.hriRingStatus_GRANT_ACT k)) :
    t.grantTotal = s.grantTotal + g := sum_map_range_of_one hn hzero hown hothers

/-! ## Enabling a submission ring (R73) -/

/-- The effective grant of a ring that is to be enabled (R73). -/
def State.grantOf (s : State) (n : Nat) : Nat :=
  min (s.get (F.hriRingCfg_GRANT n)) (min (2 ^ s.get (F.hriRingCfg_SIZE n)) (256 - s.grantTotal))

/-- A ring as it begins with a grant: its counts are 0 and its watchdog is armed. -/
def Ring.begun (x : Ring) (g now : Nat) : Ring :=
  { g := g, gen := x.gen + 1, gen0 := x.gen0, done0 := x.done0, armed := some now, wrote := x.wrote, irqSent := x.irqSent
    dbT := x.dbT, dbK := x.dbK, arrival := x.arrival }

/-- What enabling a ring with a grant writes. -/
def ringGranted (n g : Nat) (s : State) : State :=
  let s1 := s.updRing n (fun x => x.begun g s.clk.ticks)
  let s2 := (((s1.set (F.hriRingCfg_EN n) 1).set (F.hriRingStatus_STATE n) 1).set (F.hriRingStatus_GRANT_ACT n) g).set (F.hriRingStatus_NO_GRANT n) 0
  (((s2.setReg (A.hriRingHead n) 0).setReg (A.hriRingCqTail n) 0).setReg (A.hriRingClampCount n) 0).setReg (A.hriRingCredit n) (BitVec.ofNat 32 g)

theorem ringOn_of_enabled {n : Nat} {s : State} (h : s.ringState n ≠ 0) : ringOn n s = s := if_pos h

/-- A disabled ring is enabled with its effective grant, or left disabled where that is 0. -/
theorem ringOn_of_disabled {n : Nat} {s : State} (h : s.ringState n = 0) (hsum : s.grantTotal ≤ 256) : ringOn n s =
    if s.grantOf n = 0 then ((grantSum s).set (F.hriRingCfg_EN n) 0).set (F.hriRingStatus_NO_GRANT n) 1
    else grantSum (ringGranted n (s.grantOf n) (grantSum s)) := by
  have hbook : (grantSum s).get F.hriGrantSum_GRANT_SUM = s.grantTotal := by rw [grantSum_get_sum]; omega
  unfold ringOn
  rw [if_neg (not_not.mpr h)]
  simp only [hbook]
  rfl

theorem TouchesRing.ringGranted {n : Nat} {s t : State} (h : TouchesRing n s t) (g : Nat) : TouchesRing n s (ringGranted n g t) := by
  refine ((((((((h.updRing _).set _ ?_ _).set _ ?_ _).set _ ?_ _).set _ ?_ _).setReg ?_ _).setReg ?_ _).setReg ?_ _).setReg ?_ _
  all_goals simp [ringOwn, F.hriRingCfg_EN, F.hriRingStatus_STATE, F.hriRingStatus_GRANT_ACT, F.hriRingStatus_NO_GRANT]

/-- The registers of a ring that has been enabled with a grant. -/
theorem ringGranted_regs (n g : Nat) (s : State) :
    let t := grantSum (ringGranted n g (grantSum s))
    t.reg (A.hriRingCfg n) = setBits (s.reg (A.hriRingCfg n)) 31 31 1 ∧
    t.reg (A.hriRingStatus n) = setBits (setBits (setBits (s.reg (A.hriRingStatus n)) 1 0 1) 24 16 g) 7 7 0 ∧
    t.reg (A.hriRingHead n) = 0 ∧ t.reg (A.hriRingCqTail n) = 0 ∧ t.reg (A.hriRingClampCount n) = 0 ∧
    t.reg (A.hriRingCredit n) = BitVec.ofNat 32 g := by
  simp (disch := omega) only [grantSum, ringGranted, State.set, F.hriGrantSum_GRANT_SUM, F.hriRingCfg_EN, F.hriRingStatus_STATE,
    F.hriRingStatus_GRANT_ACT, F.hriRingStatus_NO_GRANT, A.hriGrantSum, A.hriRingCfg, A.hriRingStatus, A.hriRingHead, A.hriRingCqTail,
    A.hriRingClampCount, A.hriRingCredit, State.reg_setReg_same, State.reg_setReg_other, State.updRing_reg, and_self]

/-- The registers of a ring that has been left without a grant. -/
theorem ringDenied_regs (n : Nat) (s : State) :
    let t := ((grantSum s).set (F.hriRingCfg_EN n) 0).set (F.hriRingStatus_NO_GRANT n) 1
    t.reg (A.hriRingCfg n) = setBits (s.reg (A.hriRingCfg n)) 31 31 0 ∧
    t.reg (A.hriRingStatus n) = setBits (s.reg (A.hriRingStatus n)) 7 7 1 := by
  simp (disch := omega) only [grantSum, State.set, F.hriGrantSum_GRANT_SUM, F.hriRingCfg_EN, F.hriRingStatus_NO_GRANT, A.hriGrantSum,
    A.hriRingCfg, A.hriRingStatus, State.reg_setReg_same, State.reg_setReg_other, and_self]

/-- A ring left without a grant stays disabled, and says so (R73). -/
theorem ringOn_no_grant {n : Nat} {s : State} (h : s.ringState n = 0) (hsum : s.grantTotal ≤ 256) (hg : s.grantOf n = 0) :
    TouchesRing n s (ringOn n s) ∧ (ringOn n s).ringState n = 0 ∧ (ringOn n s).getB (F.hriRingStatus_NO_GRANT n) = true ∧
      (ringOn n s).getB (F.hriRingCfg_EN n) = false ∧ (ringOn n s).ring n = s.ring n := by
  rw [ringOn_of_disabled h hsum, if_pos hg]
  obtain ⟨hcfg, hstatus⟩ := ringDenied_regs n s
  refine ⟨?_, ?_, ?_, ?_, rfl⟩
  · exact ((TouchesRing.refl n s).grantSum.set _ (by simp [ringOwn, F.hriRingCfg_EN]) _).set _ (by simp [ringOwn, F.hriRingStatus_NO_GRANT]) _
  · exact ((State.get_of_reg hstatus).trans (bits_setBits_other _ 7 7 1 1 0 (by decide))).trans h
  · exact State.getB_of_get (v := 1) ((State.get_of_reg hstatus).trans (bits_setBits_same _ 7 7 1 (by decide)))
  · exact State.getB_of_get (v := 0) ((State.get_of_reg hcfg).trans (bits_setBits_same _ 31 31 0 (by decide)))

/-- A ring enabled with a grant: its registers, its counts, and the book where the ring's grant was 0 (R73). -/
theorem ringOn_granted {n : Nat} (hn : n < 64) {s : State} (h : s.ringState n = 0) (hsum : s.grantTotal ≤ 256) (hg : 0 < s.grantOf n) :
    TouchesRing n s (ringOn n s) ∧ (ringOn n s).ringState n = 1 ∧ (ringOn n s).get (F.hriRingStatus_GRANT_ACT n) = s.grantOf n ∧
      (ringOn n s).getB (F.hriRingCfg_EN n) = true ∧ (ringOn n s).getB (F.hriRingStatus_NO_GRANT n) = false ∧
      (ringOn n s).reg (A.hriRingHead n) = 0 ∧ (ringOn n s).reg (A.hriRingCqTail n) = 0 ∧
      (ringOn n s).reg (A.hriRingClampCount n) = 0 ∧ (ringOn n s).reg (A.hriRingCredit n) = BitVec.ofNat 32 (s.grantOf n) ∧
      (ringOn n s).ring n = (s.ring n).begun (s.grantOf n) s.clk.ticks ∧
      (s.get (F.hriRingStatus_GRANT_ACT n) = 0 → (ringOn n s).get F.hriGrantSum_GRANT_SUM = s.grantTotal + s.grantOf n) := by
  have hroom : s.grantOf n + s.grantTotal ≤ 256 := by unfold State.grantOf; omega
  rw [ringOn_of_disabled h hsum, if_neg (by omega)]
  obtain ⟨hcfg, hstatus, hhead, htail, hclamps, hcredit⟩ := ringGranted_regs n (s.grantOf n) s
  have htouches := (TouchesRing.refl n s).grantSum.ringGranted (s.grantOf n) |>.grantSum
  have hstate : (grantSum (ringGranted n (s.grantOf n) (grantSum s))).ringState n = 1 :=
    ((State.get_of_reg hstatus).trans (bits_setBits_other _ 7 7 0 1 0 (by decide))).trans
      ((bits_setBits_other _ 24 16 _ 1 0 (by decide)).trans (bits_setBits_same _ 1 0 1 (by decide)))
  have hgrant : (grantSum (ringGranted n (s.grantOf n) (grantSum s))).get (F.hriRingStatus_GRANT_ACT n) = s.grantOf n :=
    ((State.get_of_reg hstatus).trans (bits_setBits_other _ 7 7 0 24 16 (by decide))).trans
      ((bits_setBits_same _ 24 16 _ (by decide)).trans (Nat.mod_eq_of_lt (by omega)))
  refine ⟨htouches, hstate, hgrant, ?_, ?_, hhead, htail, hclamps, hcredit, State.ring_updRing_same .., fun hzero => ?_⟩
  · exact State.getB_of_get (v := 1) ((State.get_of_reg hcfg).trans (bits_setBits_same _ 31 31 1 (by decide)))
  · exact State.getB_of_get (v := 0) ((State.get_of_reg hstatus).trans (bits_setBits_same _ 7 7 0 (by decide)))
  · have htotal := grantTotal_of_one hn hzero hgrant (fun k hk => congrArg (bits · 24 16) (htouches.regs _ (hriRingStatus_not_own hk)))
    rw [grantSum_get_sum, ← grantSum_grantTotal, htotal]
    omega

/-! ## Disabling a submission ring (R75) -/

/-- A ring as its disable leaves it: the counts, the grant and what it held are lost. -/
def Ring.ended (x : Ring) : Ring :=
  { gen := x.gen + 1, gen0 := x.gen0, done0 := x.done0, wrote := x.wrote, irqSent := x.irqSent
    dbT := x.dbT, dbK := x.dbK, arrival := x.arrival }

/-- What disabling a ring writes before a session ends. -/
def ringEnded (n : Nat) (s : State) : State :=
  ((((s.updRing n Ring.ended).set (F.hriRingCfg_EN n) 0).set (F.hriRingStatus_STATE n) 0).set (F.hriRingStatus_GRANT_ACT n) 0).setReg
    (A.hriRingCredit n) 0

theorem TouchesRing.ringEnded {n : Nat} {s t : State} (h : TouchesRing n s t) : TouchesRing n s (ringEnded n t) := by
  refine ((((h.updRing _).set _ ?_ _).set _ ?_ _).set _ ?_ _).setReg ?_ _
  all_goals simp [ringOwn, F.hriRingCfg_EN, F.hriRingStatus_STATE, F.hriRingStatus_GRANT_ACT]

theorem ringEnded_regs (n : Nat) (s : State) :
    (ringEnded n s).reg (A.hriRingCfg n) = setBits (s.reg (A.hriRingCfg n)) 31 31 0 ∧
    (ringEnded n s).reg (A.hriRingStatus n) = setBits (setBits (s.reg (A.hriRingStatus n)) 1 0 0) 24 16 0 ∧
    (ringEnded n s).reg (A.hriRingCredit n) = 0 := by
  simp (disch := omega) only [ringEnded, State.set, F.hriRingCfg_EN, F.hriRingStatus_STATE, F.hriRingStatus_GRANT_ACT, A.hriRingCfg,
    A.hriRingStatus, A.hriRingCredit, State.reg_setReg_same, State.reg_setReg_other, State.updRing_reg, and_self]

theorem ringOff_of_disabled {n : Nat} {s : State} (h : s.ringState n = 0) : ringOff n s = s.set (F.hriRingCfg_EN n) 0 := if_pos h

/-- An enabled ring is disabled, and a session that it carries ends. -/
theorem ringOff_of_enabled {n : Nat} {s : State} (h : s.ringState n ≠ 0) : ringOff n s =
    grantSum (if s.shr.session.map (·.1) = some n then sessionEnd 0 (ringEnded n s) else ringEnded n s) := by
  have hshr : (ringEnded n s).shr = s.shr := rfl
  rw [← hshr]
  unfold ringOff
  rw [if_neg h]
  show grantSum (match (ringEnded n s).shr.session with
    | some (r, _) => if r = n then sessionEnd 0 (ringEnded n s) else ringEnded n s
    | none => ringEnded n s) = _
  rcases (ringEnded n s).shr.session with _ | ⟨r, x⟩
  · rfl
  · simp

/-! ## The end of a session, as rings see it -/

theorem State.raise_reg (s : State) (code sev data ctrl : Nat) (p : List (Nat × Nat × Nat)) {a : Nat} (ha : a ≠ A.hriEvtLost) :
    (s.raise code sev data ctrl p).reg a = s.reg a := by
  unfold State.raise State.raiseAt
  split
  · exact State.reg_set_other _ _ _ ha
  · rfl

theorem State.raise_ring (s : State) (code sev data ctrl : Nat) (p : List (Nat × Nat × Nat)) (n : Nat) :
    (s.raise code sev data ctrl p).ring n = s.ring n := by
  unfold State.raise State.raiseAt
  split <;> rfl

/-- A session's end leaves the rings' registers. -/
theorem sessionEnd_reg (cause : Nat) (s : State) {a : Nat} (hlo : 0x1400 ≤ a) (hhi : a < 0x2000) : (sessionEnd cause s).reg a = s.reg a := by
  unfold sessionEnd
  split
  · rfl
  · simp only [logSession, logAdd, dropPend]
    rw [State.raise_reg _ _ _ _ _ _ (by unfold A.hriEvtLost; omega)]
    simp (disch := omega) only [State.set, F.shrLogCount_ENTRY, F.shrStatus_PENDING, F.shrPendCrc_PEND_CRC, F.shrStatus_SESSION,
      F.glbStatus_SAFE_SESS, A.shrLogCount, A.shrStatus, A.shrPendCrc, A.glbStatus, State.reg_setReg_other, State.updShr_reg]

theorem sessionEnd_ring (cause : Nat) (s : State) (n : Nat) : (sessionEnd cause s).ring n = s.ring n := by
  unfold sessionEnd
  split
  · rfl
  · exact State.raise_ring ..

theorem sessionEnd_session (cause : Nat) (s : State) : (sessionEnd cause s).shr.session = none := by
  unfold sessionEnd
  split
  next h => exact h
  next => simp only [logSession, State.raise_shr]; rfl

/-! ## What a disable leaves -/

theorem ringOff_reg {n : Nat} {s : State} (h : s.ringState n ≠ 0) {a : Nat} (hlo : 0x1400 ≤ a) (hhi : a < 0x2000) :
    (ringOff n s).reg a = (ringEnded n s).reg a := by
  rw [ringOff_of_enabled h, grantSum_reg _ (by unfold A.hriGrantSum; omega)]
  split
  · exact sessionEnd_reg _ _ hlo hhi
  · rfl

theorem ringOff_ring {n : Nat} {s : State} (h : s.ringState n ≠ 0) : (ringOff n s).ring n = (s.ring n).ended := by
  rw [ringOff_of_enabled h]
  show (if s.shr.session.map (·.1) = some n then sessionEnd 0 (ringEnded n s) else ringEnded n s).ring n = _
  split
  · exact (sessionEnd_ring ..).trans (State.ring_updRing_same ..)
  · exact State.ring_updRing_same ..

/-- A ring that VE disables shows it in its registers (R75). -/
theorem ringOff_enabled_regs {n : Nat} (hn : n < 64) {s : State} (h : s.ringState n ≠ 0) :
    (ringOff n s).ringState n = 0 ∧ (ringOff n s).getB (F.hriRingCfg_EN n) = false ∧
      (ringOff n s).get (F.hriRingStatus_GRANT_ACT n) = 0 ∧ (ringOff n s).reg (A.hriRingCredit n) = 0 := by
  obtain ⟨hcfg, hstatus, hcredit⟩ := ringEnded_regs n s
  have hcfg := (ringOff_reg h (by unfold A.hriRingCfg; omega) (by unfold A.hriRingCfg; omega)).trans hcfg
  have hstatus := (ringOff_reg h (by unfold A.hriRingStatus; omega) (by unfold A.hriRingStatus; omega)).trans hstatus
  have hcredit := (ringOff_reg h (by unfold A.hriRingCredit; omega) (by unfold A.hriRingCredit; omega)).trans hcredit
  refine ⟨?_, ?_, ?_, hcredit⟩
  · exact (State.get_of_reg hstatus).trans ((bits_setBits_other _ 24 16 0 1 0 (by decide)).trans (bits_setBits_same _ 1 0 0 (by decide)))
  · exact State.getB_of_get (v := 0) ((State.get_of_reg hcfg).trans (bits_setBits_same _ 31 31 0 (by decide)))
  · exact (State.get_of_reg hstatus).trans (bits_setBits_same _ 24 16 0 (by decide))

/-- The end of a session is all that a disable may do beyond its ring (R75). -/
theorem ringOff_session {n : Nat} {s : State} (h : s.ringState n ≠ 0) :
    (s.shr.session.map (·.1) ≠ some n → TouchesRing n s (ringOff n s)) ∧
      (s.shr.session.map (·.1) = some n → (ringOff n s).shr.session = none) := by
  rw [ringOff_of_enabled h]
  refine ⟨fun hother => ?_, fun hown => ?_⟩
  · rw [if_neg hother]
    exact (TouchesRing.refl n s).ringEnded.grantSum
  · rw [if_pos hown]
    exact sessionEnd_session ..

/-! ## The event ring and the capture rings (R83, R85) -/

theorem evOn_of_on {s : State} (h : s.getB F.hriEvtCfg_EN = true) : evOn s = s := if_pos h

/-- The event ring begins with TAIL and LOST 0. -/
theorem evOn_of_off {s : State} (h : s.getB F.hriEvtCfg_EN = false) :
    (evOn s).getB F.hriEvtCfg_EN = true ∧ (evOn s).reg A.hriEvtTail = 0 ∧ (evOn s).reg A.hriEvtLost = 0 ∧
      (evOn s).host = { s.host with evHost := 0 } ∧
      ∀ a, a ∉ [A.hriEvtCfg, A.hriEvtTail, A.hriEvtLost] → (evOn s).reg a = s.reg a := by
  have hregs (a : Nat) : (evOn s).reg a = (((s.set F.hriEvtCfg_EN 1).setReg A.hriEvtTail 0).setReg A.hriEvtLost 0).reg a := by
    unfold evOn
    rw [if_neg (by simp [h])]
    rfl
  have hcfg : (evOn s).reg A.hriEvtCfg = setBits (s.reg A.hriEvtCfg) 31 31 1 := by
    rw [hregs, State.reg_setReg_other _ _ (by decide), State.reg_setReg_other _ _ (by decide)]
    exact State.reg_setReg_same ..
  refine ⟨?_, ?_, ?_, ?_, fun a ha => ?_⟩
  · exact State.getB_of_get (v := 1) ((State.get_of_reg hcfg).trans (bits_setBits_same _ 31 31 1 (by decide)))
  · rw [hregs, State.reg_setReg_other _ _ (by decide), State.reg_setReg_same]
  · rw [hregs, State.reg_setReg_same]
  · unfold evOn
    rw [if_neg (by simp [h])]
    rfl
  · simp only [List.mem_cons, List.not_mem_nil, or_false, not_or] at ha
    obtain ⟨hcfg, htail, hlost⟩ := ha
    rw [hregs, State.reg_setReg_other _ _ hlost, State.reg_setReg_other _ _ htail, State.reg_set_other _ _ _ hcfg]

theorem crOn_of_on {m : Nat} {s : State} (h : s.getB (F.hriCrCfg_EN m) = true) : crOn m s = s := if_pos h

theorem crOff_of_off {m : Nat} {s : State} (h : s.getB (F.hriCrCfg_EN m) = false) : crOff m s = s := if_neg (by simp [h])

/-- A capture ring begins with TAIL and HEAD 0. -/
theorem crOn_of_off {m : Nat} {s : State} (h : s.getB (F.hriCrCfg_EN m) = false) :
    (crOn m s).getB (F.hriCrCfg_EN m) = true ∧ (crOn m s).reg (A.hriCrTail m) = 0 ∧ (crOn m s).reg (A.hriCrHead m) = 0 ∧
      ∀ a, a ∉ [A.hriCrCfg m, A.hriCrTail m, A.hriCrHead m] → (crOn m s).reg a = s.reg a := by
  have hon : crOn m s = ((s.set (F.hriCrCfg_EN m) 1).setReg (A.hriCrTail m) 0).setReg (A.hriCrHead m) 0 := if_neg (by simp [h])
  rw [hon]
  have htail : A.hriCrTail m ≠ A.hriCrHead m := by unfold A.hriCrTail A.hriCrHead; omega
  have hcfg : (((s.set (F.hriCrCfg_EN m) 1).setReg (A.hriCrTail m) 0).setReg (A.hriCrHead m) 0).reg (A.hriCrCfg m) =
      setBits (s.reg (A.hriCrCfg m)) 31 31 1 := by
    rw [State.reg_setReg_other _ _ (by unfold A.hriCrCfg A.hriCrHead; omega),
      State.reg_setReg_other _ _ (by unfold A.hriCrCfg A.hriCrTail; omega)]
    exact State.reg_setReg_same ..
  refine ⟨?_, ?_, ?_, fun a ha => ?_⟩
  · exact State.getB_of_get (v := 1) ((State.get_of_reg hcfg).trans (bits_setBits_same _ 31 31 1 (by decide)))
  · rw [State.reg_setReg_other _ _ htail, State.reg_setReg_same]
  · rw [State.reg_setReg_same]
  · simp only [List.mem_cons, List.not_mem_nil, or_false, not_or] at ha
    obtain ⟨hcfg, htail, hhead⟩ := ha
    rw [State.reg_setReg_other _ _ hhead, State.reg_setReg_other _ _ htail, State.reg_set_other _ _ _ hcfg]

theorem capRingDrop_reg (m : Nat) (s : State) {a : Nat} (hfree : a ≠ A.capFree) (hstatus : a ≠ A.capCrStatus m) :
    (capRingDrop m s).reg a = s.reg a := (State.reg_set_other _ _ _ hstatus).trans (State.reg_set_other _ _ _ hfree)

/-- A capture ring that goes off gives back the blocks that it has handed over. -/
theorem crOff_of_on {m : Nat} (hm : m < 4) {s : State} (h : s.getB (F.hriCrCfg_EN m) = true) :
    (crOff m s).getB (F.hriCrCfg_EN m) = false ∧ Table.look [] (crOff m s).cap.handed m = [] := by
  have hoff : crOff m s = capRingDrop m (s.set (F.hriCrCfg_EN m) 0) := if_pos h
  rw [hoff]
  have hcfg : (capRingDrop m (s.set (F.hriCrCfg_EN m) 0)).reg (A.hriCrCfg m) = setBits (s.reg (A.hriCrCfg m)) 31 31 0 := by
    rw [capRingDrop_reg _ _ (by unfold A.hriCrCfg A.capFree; omega) (by unfold A.hriCrCfg A.capCrStatus; omega)]
    exact State.reg_setReg_same ..
  refine ⟨?_, ?_⟩
  · exact State.getB_of_get (v := 0) ((State.get_of_reg hcfg).trans (bits_setBits_same _ 31 31 0 (by decide)))
  · exact Table.look_put_same ..

/-- Settles O22: each operation by the lemma that says what it writes; `TouchesRing` carries "nothing else", and `grantTotal_of_one` the book of
granted credits. -/
theorem ringEnabling : Obligations.RingEnabling := by
  intro n m s granted g mine only x
  have honly {t : State} (h : TouchesRing n.val s t) : only t := h.only
  refine ⟨fun hoff hsum => ?_, ringOn_of_enabled, ringOff_of_disabled, fun hon => ?_, evOn_of_on, evOn_of_off, fun hon => ?_, fun hoff => ?_⟩
  · refine ⟨?_, fun hg => ?_, fun hg => ?_⟩
    · rcases Nat.eq_zero_or_pos g with hg | hg
      · exact honly (ringOn_no_grant hoff hsum hg).1
      · exact honly (ringOn_granted n.isLt hoff hsum hg).1
    · exact (ringOn_no_grant hoff hsum hg).2
    · obtain ⟨-, hstate, hgrant, hen, hno, hhead, htail, hclamps, hcredit, hring, hbook⟩ := ringOn_granted n.isLt hoff hsum hg
      rw [hring]
      exact ⟨hstate, hgrant, hen, hno, hhead, htail, hclamps, hcredit, rfl, rfl, rfl, rfl, rfl, rfl, rfl, fun _ => hbook⟩
  · obtain ⟨hstate, hen, hgrant, hcredit⟩ := ringOff_enabled_regs n.isLt hon
    obtain ⟨hother, hown⟩ := ringOff_session hon
    exact ⟨hstate, hen, hgrant, hcredit, ringOff_ring hon, fun h => honly (hother h), hown⟩
  · exact ⟨crOn_of_on hon, crOff_of_on m.isLt hon⟩
  · exact ⟨crOff_of_off hoff, crOn_of_off hoff⟩

end Sys2Proof.Machine
end

section
/-!
PROOF. The last step of start-up (R112, R540, R543): it writes GLB.BOOT_TIME first and quarantines groups after, and the registers that show a
group's state stand for groups 0 to 31. A state that binds an axis to a higher group shows that the frame of the clause needs more than the
start-up step.
-/
namespace Sys2Proof.Machine

/-- An image of a kind that every revision runs, with pairing epoch 0. -/
def bareImage (kind : Nat) : Option Image :=
  some { h := { kind := kind, signer := 0, version := 0, epoch := 0, revMin := 0, revMax := 255, xhash := 0, shash := 0, phash := 0 }
         code := [], data := [] }

/-- What the supervisor pairs with its own image: the network, capture and house engines' images of epoch 0. -/
def barePairs : List (Nat × Nat × BitVec 256) := [(2, 0, 0), (3, 0, 0), (4, 0, 0)]

/-- Self-calibration has ended. The store holds the images of the supervisor and of the network, capture and house engines, but none for the
axis engines, and axis 0 is bound to a group whose state would stand in bits 19:16 of the word at 0x38, which is GLB.BOOT_TIME. -/
def startUpWithStrayGroup : State :=
  { md := { bootStep := 3 }
    plan := { axes := [(0, { bound := some (52, 0) })] }
    img := { slots := [(0, bareImage 1), (1, bareImage 2), (2, bareImage 3), (3, bareImage 4)] } }

/-- AE0 has no image, so the group that it serves is quarantined, and the code of that state lands in READY_MS. -/
theorem startUp_quarantine_writes_readyMs :
    (startUp barePairs 0 startUpWithStrayGroup).get F.glbBootTime_READY_MS = gQuarantined := by
  decide +kernel

/-- Refutes O25: the clause of START_UP gives READY_MS in every state, but the check of an axis engine's image that fails quarantines the group
that the engine serves (R543), and a group number above 31 has no field of its own; the clause would need the bound groups to be in range,
as they are in every state that a reset begins. -/
theorem not_startUpSteps : ¬ Obligations.StartUpSteps := by
  intro h
  obtain ⟨-, -, -, -, -, -, -, hstart, -⟩ := h barePairs 0 true {} startUpWithStrayGroup
  obtain ⟨t, ht, -, -, hms, -⟩ := hstart ⟨rfl, rfl⟩
  obtain rfl : startUp barePairs 0 startUpWithStrayGroup = t := Host.Outcome.next.inj ht
  rw [startUp_quarantine_writes_readyMs] at hms
  exact absurd hms (by decide)

end Sys2Proof.Machine
end

section
/-!
PROOF. The request for a life-cycle change (spec/03_modes_and_startup.md, R114, R115, Table 3.9): which refusal holds, and what a write of
GLB.LC_CTRL leaves.
-/
namespace Sys2Proof.Machine

/-- GLB.LC_CTRL is a register, and no bit of it is W1C. -/
theorem lcCtrl_group : ∃ g, regGroup? A.glbLcCtrl = some g ∧ g.w1c = 0 := ⟨_, rfl, rfl⟩

/-- The command is the operation of R115: GLB takes writes before READY too, and the word goes in as it is. -/
theorem exec_lcChangeRequest (v : W32) (s : State) : exec (.lcChangeRequest v) s = .next (lcRequest v s) := by
  obtain ⟨g, hg, hw1c⟩ := lcCtrl_group
  have hexec : exec (.lcChangeRequest v) s = .next (barWrite A.glbLcCtrl v s) := rfl
  have hspared : s.spared A.glbLcCtrl v = v := by
    simp only [State.spared, hg, hw1c, Nat.and_zero]
    exact BitVec.and_allOnes
  have htaken : ¬((0x1000 ≤ A.glbLcCtrl ∧ (!s.ready) = true) ∨ (regGroup? A.glbLcCtrl).isNone = true) := by
    rw [hg]
    simp [A.glbLcCtrl]
  rw [hexec, barWrite, if_neg htaken, if_pos (by decide), glbWrite, if_neg (by decide), if_pos rfl, hspared]

/-- The reason for which R115 refuses a change to a life-cycle state; 0 where it accepts it. -/
def State.lcRefusal (s : State) (target : Nat) : Nat :=
  if !s.lcStep target then 1 else if s.mode ≠ mStandby ∧ s.mode ≠ mService then 2
  else if (upto 32).any (fun g => s.gst g != gIdle) then 3 else if !s.flashOk then 4 else 0

theorem State.lcStep_eq (s : State) (target : Nat) : s.lcStep target =
    (decide (target = s.lc + 1 ∧ target ≤ 4) || (decide (s.lc = 4 ∧ target = 2) && (s.imgSlot 15).any (fun i => i.h.kind == 0xB))) := by
  unfold State.lcStep
  cases s.imgSlot 15 <;> simp [Bool.decide_and, beq_eq_decide]

/-- The word is stored with its fields alone, and no other register changes but GLB.LC. -/
def LcStored (v : W32) (s t : State) : Prop :=
  t.reg A.glbLcCtrl = v &&& 0xFFFF000F ∧ ∀ a, a ≠ A.glbLcCtrl → a ≠ A.glbLc → t.reg a = s.reg a

theorem lcStored_setReg (v : W32) (s : State) : LcStored v s (s.setReg A.glbLcCtrl (v &&& 0xFFFF000F)) :=
  ⟨State.reg_setReg_same .., fun _ ha _ => State.reg_setReg_other _ _ ha⟩

theorem LcStored.set {v : W32} {s t : State} (h : LcStored v s t) {f : Fld} (hf : f.a = A.glbLc) (x : Nat) : LcStored v s (t.set f x) := by
  refine ⟨?_, fun a ha hlc => ?_⟩
  · rw [State.reg_set_other _ _ _ (by rw [hf]; decide), h.1]
  · rw [State.reg_set_other _ _ _ (by rw [hf]; exact hlc), h.2 a ha hlc]

theorem lcRequest_of_no_session (v : W32) {s : State} (h : s.shr.session = none) : lcRequest v s = s := by simp [lcRequest, h]

/-- CONFIRM and TARGET are what the write carries there. -/
theorem lcCtrl_confirm (v : W32) : bits v 31 16 = v.toNat / 2 ^ 16 := by
  have := v.isLt
  unfold bits nbits
  omega

theorem lcCtrl_target (v : W32) : bits v 3 0 = v.toNat % 16 := by simp [bits, nbits]

/-- Without the key, or while an accepted change is under way, the write is stored and asks for nothing. -/
theorem lcRequest_without_request {v : W32} {s : State} (h : s.shr.session.isSome = true)
    (hidle : v.toNat / 2 ^ 16 ≠ 0x4C43 ∨ s.md.lcTarget.isSome = true) : lcRequest v s = s.setReg A.glbLcCtrl (v &&& 0xFFFF000F) := by
  unfold lcRequest
  rw [lcCtrl_confirm, if_neg (by simpa using Option.isSome_iff_ne_none.mp h), if_pos hidle]

/-- With the key the request is accepted, or refused with its reason. -/
theorem lcRequest_with_key {v : W32} {s : State} (h : s.shr.session.isSome = true) (hkey : v.toNat / 2 ^ 16 = 0x4C43)
    (hfree : s.md.lcTarget = none) : lcRequest v s =
      (let u := (s.setReg A.glbLcCtrl (v &&& 0xFFFF000F)).set F.glbLc_REASON (s.lcRefusal (v.toNat % 16))
       if s.lcRefusal (v.toNat % 16) = 0 then u.updMd (fun m => { m with lcTarget := some (v.toNat % 16) }) else u.flag F.glbLc_REFUSED) := by
  unfold lcRequest
  rw [lcCtrl_confirm, lcCtrl_target, if_neg (by simpa using Option.isSome_iff_ne_none.mp h),
    if_neg (not_or.mpr ⟨not_not.mpr hkey, by simp [hfree]⟩)]
  rfl

theorem State.lcRefusal_lt (s : State) (target : Nat) : s.lcRefusal target < 16 := by
  unfold State.lcRefusal
  split_ifs <;> decide

/-- What an accepted request leaves. -/
theorem lcRequest_accepted {v : W32} {s : State} (h : s.shr.session.isSome = true) (hkey : v.toNat / 2 ^ 16 = 0x4C43)
    (hfree : s.md.lcTarget = none) (haccept : s.lcRefusal (v.toNat % 16) = 0) :
    LcStored v s (lcRequest v s) ∧ (lcRequest v s).get F.glbLc_REASON = 0 ∧ (lcRequest v s).lc = s.lc ∧
      lcRequest v s = { s with regs := (lcRequest v s).regs, md := { s.md with lcTarget := some (v.toNat % 16) } } ∧
      (lcRequest v s).getB F.glbLc_REFUSED = s.getB F.glbLc_REFUSED := by
  rw [lcRequest_with_key h hkey hfree, haccept]
  refine ⟨(lcStored_setReg v s).set rfl _, State.get_set_same _ F.glbLc_REASON 0 (by decide), ?_, rfl, ?_⟩
  · exact (State.get_set_bits _ _ (by decide)).trans (congrArg (bits · 3 0) (State.reg_setReg_other _ _ (by decide)))
  · refine State.getB_of_get ?_
    exact (State.get_set_bits _ _ (by decide)).trans (congrArg (bits · 4 4) (State.reg_setReg_other _ _ (by decide)))

/-- What a refused request leaves: the reason, and REFUSED as a flag that hardware has set (R11). -/
theorem lcRequest_refused {v : W32} {s : State} (h : s.shr.session.isSome = true) (hkey : v.toNat / 2 ^ 16 = 0x4C43)
    (hfree : s.md.lcTarget = none) (hrefuse : s.lcRefusal (v.toNat % 16) ≠ 0) :
    LcStored v s (lcRequest v s) ∧ (lcRequest v s).get F.glbLc_REASON = s.lcRefusal (v.toNat % 16) ∧ (lcRequest v s).lc = s.lc ∧
      lcRequest v s = { s with regs := (lcRequest v s).regs, clk := { s.clk with fresh := (lcRequest v s).clk.fresh } } ∧
      (lcRequest v s).getB F.glbLc_REFUSED = true := by
  rw [lcRequest_with_key h hkey hfree]
  dsimp only
  rw [if_neg hrefuse]
  generalize hr : s.lcRefusal (v.toNat % 16) = r
  have hlt : r < 16 := hr ▸ s.lcRefusal_lt _
  refine ⟨((lcStored_setReg v s).set rfl r).set (f := F.glbLc_REFUSED) rfl 1, ?_, ?_, rfl, ?_⟩
  · exact (State.get_set_bits (f := F.glbLc_REFUSED) _ 1 (by decide)).trans
      ((State.get_set_same _ F.glbLc_REASON r (by decide)).trans (Nat.mod_eq_of_lt hlt))
  · exact (State.get_set_bits (f := F.glbLc_REFUSED) (g := F.glbLc_LC_STATE) _ 1 (by decide)).trans
      ((State.get_set_bits _ r (by decide)).trans (congrArg (bits · 3 0) (State.reg_setReg_other _ _ (by decide))))
  · exact State.getB_of_get (v := 1) (State.get_set_same _ F.glbLc_REFUSED 1 (by decide))

/-- The tests of R115 in the words of the statement. -/
theorem State.lcRefusal_eq (s : State) (target : Nat) : s.lcRefusal target =
    (let legal : Bool := decide (target = s.lc + 1 ∧ target ≤ 4) ||
       (decide (s.lc = 4 ∧ target = 2) && (s.imgSlot 15).any (fun i => i.h.kind == 0xB))
     if legal = false then 1 else if s.mode ≠ mStandby ∧ s.mode ≠ mService then 2
     else if (∃ g ∈ List.range 32, s.gst g ≠ gIdle) then 3 else if s.flashOk = false then 4 else 0) := by
  unfold State.lcRefusal
  rw [State.lcStep_eq]
  refine if_congr (by simp only [Bool.not_eq_true']) rfl (if_congr Iff.rfl rfl (if_congr (by simp [upto]) rfl (if_congr (by simp) rfl rfl)))

end Sys2Proof.Machine
end

section
/-!
PROOF. What a life-cycle change writes on its way to the reset (R116, Table 3.9): the change log and the end of the session, and the wipe.
-/
namespace Sys2Proof.Machine

/-! ## An operation done for each number of a list -/

/-- What every step of a fold leaves, the fold leaves. -/
theorem forEach_eq_of_step {α β : Type} (g : State → β) {l : List α} {f : α → State → State}
    (hf : ∀ x ∈ l, ∀ t, g (f x t) = g t) (s : State) : g (forEach l f s) = g s := by
  induction l generalizing s with
  | nil => rfl
  | cons x r ih =>
    exact (ih (fun y hy => hf y (List.mem_cons_of_mem _ hy)) (f x s)).trans (hf x List.mem_cons_self s)

/-- What one step of a fold brings about and the others keep holds after the fold. -/
theorem forEach_of_mem {α : Type} {P : State → Prop} {l : List α} {f : α → State → State} {x : α} (hx : x ∈ l) (hmake : ∀ t, P (f x t))
    (hkeep : ∀ y ∈ l, ∀ t, P t → P (f y t)) (s : State) : P (forEach l f s) := by
  have hkept : ∀ (m : List α), (∀ y ∈ m, y ∈ l) → ∀ t, P t → P (forEach m f t) := by
    intro m hm t ht
    induction m generalizing t with
    | nil => exact ht
    | cons y r ih => exact ih (fun z hz => hm z (List.mem_cons_of_mem _ hz)) _ (hkeep y (hm y List.mem_cons_self) t ht)
  obtain ⟨before, after, rfl⟩ := List.append_of_mem hx
  have hsplit : forEach (before ++ x :: after) f s = forEach after f (f x (forEach before f s)) := List.foldl_append ..
  rw [hsplit]
  exact hkept after (fun y hy => by simp [hy]) _ (hmake _)

/-! ## The change log and the end of a session -/

/-- A new entry stands before the entries that the log held. -/
theorem logAdd_log_take (kind ring old new detail : Nat) (s : State) {n : Nat} (hn : n < 256) :
    ∃ x : LogEntry, x.kind = kind ∧ x.detail = detail ∧
      (logAdd kind ring old new detail s).shr.log.take (n + 1) = x :: s.shr.log.take n := by
  refine ⟨{ no := s.get F.shrLogCount_ENTRY + 1, time := s.nowNs, kind := kind, ring := ring, lc := s.lc, oldCrc := old, newCrc := new
            detail := detail }, rfl, rfl, ?_⟩
  simp only [logAdd, State.set_shr]
  show List.take (n + 1) (List.take 256 _) = _
  rw [List.take_take, Nat.min_eq_left (by omega), List.take_succ_cons]

/-- An entry among the latest `n` is among the latest `n + 1` when another has come. -/
theorem mem_log_of_logAdd {x : LogEntry} {kind ring old new detail : Nat} {s : State} {n : Nat} (hn : n < 256) (hx : x ∈ s.shr.log.take n) :
    x ∈ (logAdd kind ring old new detail s).shr.log.take (n + 1) := by
  obtain ⟨y, -, -, hlog⟩ := logAdd_log_take kind ring old new detail s hn
  rw [hlog]
  exact List.mem_cons_of_mem _ hx

theorem sessionEnd_of_none (cause : Nat) {s : State} (h : s.shr.session = none) : sessionEnd cause s = s := by simp [sessionEnd, h]

/-- The end of a session enters one entry at most. -/
theorem mem_log_of_sessionEnd {x : LogEntry} {cause : Nat} {s : State} {n : Nat} (hn : n < 256) (hx : x ∈ s.shr.log.take n) :
    x ∈ (sessionEnd cause s).shr.log.take (n + 1) := by
  unfold sessionEnd
  split
  · exact (List.take_subset_take_left _ (Nat.le_succ n)) hx
  · simp only [logSession, State.raise_shr]
    exact mem_log_of_logAdd hn hx

/-- A session's end leaves images, the field side and host memory. -/
theorem sessionEnd_frame (cause : Nat) (s : State) :
    (sessionEnd cause s).img = s.img ∧ (sessionEnd cause s).fld = s.fld ∧ (sessionEnd cause s).hostMem = s.hostMem := by
  unfold sessionEnd
  split
  · exact ⟨rfl, rfl, rfl⟩
  · simp only [logSession, State.raise_img, State.raise_fld, State.raise_hostMem]
    exact ⟨rfl, rfl, rfl⟩

/-- Of the GLB registers a session's end writes STATUS alone. -/
theorem sessionEnd_glb (cause : Nat) (s : State) {a : Nat} (ha : a < 0x1000) (hstatus : a ≠ A.glbStatus) :
    (sessionEnd cause s).reg a = s.reg a := by
  unfold sessionEnd
  split
  · rfl
  · simp only [logSession, logAdd, dropPend]
    rw [State.raise_reg _ _ _ _ _ _ (by unfold A.hriEvtLost; omega)]
    unfold A.glbStatus at hstatus
    simp (disch := omega) only [State.set, F.shrLogCount_ENTRY, F.shrStatus_PENDING, F.shrPendCrc_PEND_CRC, F.shrStatus_SESSION,
      F.glbStatus_SAFE_SESS, A.shrLogCount, A.shrStatus, A.shrPendCrc, A.glbStatus, State.reg_setReg_other, State.updShr_reg]

/-! ## The image store in the wipe -/

/-- The slots of the integrator's images. -/
def integratorSlots : List Nat := (upto 48).map (· + 16)

theorem mem_integratorSlots {k : Nat} : k ∈ integratorSlots ↔ 16 ≤ k ∧ k < 64 := by
  simp only [integratorSlots, upto, List.mem_map, List.mem_range]
  constructor
  · rintro ⟨j, hj, rfl⟩
    omega
  · rintro ⟨hlo, hhi⟩
    exact ⟨k - 16, by omega, by omega⟩

theorem putSlot_slots (k : Nat) (i : Option Image) (s : State) : (putSlot k i s).img.slots = Table.put none k i s.img.slots := by
  unfold putSlot slotRegs
  cases i <;> rfl

theorem imgSlot_putSlot_same (k : Nat) (i : Option Image) (s : State) : (putSlot k i s).imgSlot k = i := by
  rw [State.imgSlot, putSlot_slots, Table.look_put_same]

theorem imgSlot_putSlot_other {k j : Nat} (i : Option Image) (s : State) (h : j ≠ k) : (putSlot k i s).imgSlot j = s.imgSlot j := by
  rw [State.imgSlot, putSlot_slots, Table.look_put_other _ _ _ h, State.imgSlot]

/-- Emptying a slot writes the four registers that show it. -/
theorem putSlot_none_reg (k : Nat) (s : State) {a : Nat} (ha : a < 0x4400) : (putSlot k none s).reg a = s.reg a := by
  simp (disch := omega) only [putSlot, slotRegs, A.imgSlot, A.imgSlotVersion, A.imgSlotEpoch, A.imgSlotShash, State.reg_setReg_other,
    State.updImg_reg]

/-! ## The wipe (Table 3.9) -/

/-- What no write to a register of the SHR block changes stays when the registers of a configuration are cleared. -/
theorem cfgClear_eq_of_setReg {β : Type} (g : State → β) (hg : ∀ a, 0x18000 ≤ a → ∀ v t, g (State.setReg t a v) = g t) (s : State) :
    g (cfgClear s) = g s := by
  have hclear (l : List Nat) (hl : ∀ a ∈ l, 0x18000 ≤ a) (t : State) : g (forEach l (fun a u => u.setReg a (regReset a)) t) = g t :=
    forEach_eq_of_step g (fun a ha u => hg a (hl a ha) _ u) t
  unfold cfgClear
  dsimp only
  rw [hclear _ ?_, hclear _ ?_, hclear _ ?_]
  · simp only [List.mem_map, A.shrFn]
    rintro a ⟨e, -, rfl⟩
    omega
  · simp only [List.mem_flatMap, List.mem_cons, List.not_mem_nil, or_false, A.shrSa, A.shrSaSpeed, A.shrSaCeil, A.shrSaPos]
    rintro a ⟨e, -, ha⟩
    omega
  · simp only [List.mem_flatMap, List.mem_cons, List.not_mem_nil, or_false, A.shrTse, A.shrTseSeq, A.shrTseCnt, A.shrTseId]
    rintro a ⟨e, -, ha⟩
    omega

/-- The first of the four steps of the wipe, which `lcWipe_steps` ties to it: the integrator's slots are emptied. -/
def emptySlots (s : State) : State := forEach integratorSlots (fun k t => putSlot k none t) s

/-- Key, overrides and waiting writes of the image store go. -/
def wipeStore (s : State) : State :=
  let t := s.updImg (fun x => { x with
    key := none, overrides := [], bootPend := [], write := match x.write with | some (k, i) => if k < 16 then some (k, i) else none | none => none })
  (((t.set F.imgStatus_KEY_SET 0).set F.imgStatus_OVERRIDE 0).set F.imgStatus_BOOT_PENDING 0).setB F.imgStatus_STORE_BUSY t.img.write.isSome

/-- No engine has a boot slot of its own. -/
def wipeBootSlots (s : State) : State := forEach (upto 38) (fun e t => t.set (F.imgEng_BOOT_SLOT e) 0x3F) s

/-- Configuration and password go; a Shroud that has started and has not faulted is `unconfigured`. -/
def wipeShroud (unconfigured : Prop) [Decidable unconfigured] (s : State) : State :=
  let t := ((cfgClear s).updShr (fun x => { x with
    store := none, cfg := none, fns := [], axes := [], conns := [], password := none, apply := none })).set F.shrStatus_PW_EMPTY 1
  ((if unconfigured then t.set F.shrStatus_STATE 1 else t).set F.shrStatus_CFG_VALID 0).set F.shrCfgCrc_CFG_CRC 0

theorem lcWipe_steps (s : State) : ∃ old, lcWipe s =
    (wipeShroud (s.shr.started ∧ s.shrState ≠ 3) (wipeBootSlots (wipeStore (emptySlots (logAdd 9 0xFF old 0 0 s))))).updMd
      (fun m => { m with wipeMark := false, lcTarget := none }) := ⟨_, rfl⟩

theorem emptySlots_imgSlot_integrator (s : State) {k : Nat} (hlo : 16 ≤ k) (hhi : k < 64) : (emptySlots s).imgSlot k = none := by
  unfold emptySlots
  refine forEach_of_mem (P := fun t => t.imgSlot k = none) (mem_integratorSlots.mpr ⟨hlo, hhi⟩) (fun t => imgSlot_putSlot_same k none t) ?_ s
  intro j _ t ht
  by_cases hj : k = j
  · exact hj ▸ imgSlot_putSlot_same k none t
  · exact (imgSlot_putSlot_other none t hj).trans ht

theorem emptySlots_imgSlot_low (s : State) {j : Nat} (hj : j < 16) : (emptySlots s).imgSlot j = s.imgSlot j := by
  unfold emptySlots
  refine forEach_eq_of_step (fun t => t.imgSlot j) (fun k hk t => imgSlot_putSlot_other none t ?_) s
  have := mem_integratorSlots.mp hk
  omega

/-- What an emptied slot leaves, the emptied slots leave. -/
theorem emptySlots_eq_of_putSlot {β : Type} (g : State → β) (hg : ∀ k t, g (putSlot k none t) = g t) (s : State) : g (emptySlots s) = g s :=
  forEach_eq_of_step g (fun k _ t => hg k t) s

theorem emptySlots_reg (s : State) {a : Nat} (ha : a < 0x4400) : (emptySlots s).reg a = s.reg a :=
  emptySlots_eq_of_putSlot (·.reg a) (fun k t => putSlot_none_reg k t ha) s

theorem wipeStore_img (s : State) :
    (wipeStore s).img.slots = s.img.slots ∧ (wipeStore s).img.key = none ∧ (wipeStore s).img.overrides = [] := ⟨rfl, rfl, rfl⟩

theorem wipeStore_reg (s : State) {a : Nat} (ha : a ≠ A.imgStatus) : (wipeStore s).reg a = s.reg a := by
  unfold wipeStore
  dsimp only
  rw [State.setB, State.reg_set_other _ _ _ ha, State.reg_set_other _ _ _ ha, State.reg_set_other _ _ _ ha, State.reg_set_other _ _ _ ha,
    State.updImg_reg]

/-- What the wipe leaves of a state beside its images, the Shroud and registers. -/
def State.beyondWipe (s : State) : ModeSt × FldSt × Table Byte := (s.md, s.fld, s.hostMem)

theorem emptySlots_frame (s : State) : (emptySlots s).shr = s.shr ∧ (emptySlots s).beyondWipe = s.beyondWipe :=
  ⟨emptySlots_eq_of_putSlot (·.shr) (fun _ _ => rfl) s, emptySlots_eq_of_putSlot State.beyondWipe (fun _ _ => rfl) s⟩

theorem wipeStore_frame (s : State) : (wipeStore s).shr = s.shr ∧ (wipeStore s).beyondWipe = s.beyondWipe := ⟨rfl, rfl⟩

/-- What a write of a boot slot leaves, the wipe of the boot slots leaves. -/
theorem wipeBootSlots_eq_of_set {β : Type} (g : State → β) (hg : ∀ e t, g (State.set t (F.imgEng_BOOT_SLOT e) 0x3F) = g t) (s : State) :
    g (wipeBootSlots s) = g s := forEach_eq_of_step g (fun e _ t => hg e t) s

theorem wipeBootSlots_frame (s : State) : (wipeBootSlots s).img = s.img ∧ (wipeBootSlots s).shr = s.shr ∧
    (wipeBootSlots s).beyondWipe = s.beyondWipe :=
  ⟨wipeBootSlots_eq_of_set (·.img) (fun _ _ => rfl) s, wipeBootSlots_eq_of_set (·.shr) (fun _ _ => rfl) s,
    wipeBootSlots_eq_of_set State.beyondWipe (fun _ _ => rfl) s⟩

theorem wipeBootSlots_reg (s : State) {a : Nat} (ha : a < 0x4100) : (wipeBootSlots s).reg a = s.reg a :=
  wipeBootSlots_eq_of_set (·.reg a) (fun e t => State.reg_set_other t _ _ (by simp only [F.imgEng_BOOT_SLOT, A.imgEng]; omega)) s

/-- Every engine's boot slot reads 0x3F. -/
theorem wipeBootSlots_bootSlot (s : State) {e : Nat} (he : e < 38) : (wipeBootSlots s).get (F.imgEng_BOOT_SLOT e) = 0x3F := by
  have hset (t : State) : (t.set (F.imgEng_BOOT_SLOT e) 0x3F).get (F.imgEng_BOOT_SLOT e) = 0x3F :=
    State.get_set_same t _ 0x3F (by simp [F.imgEng_BOOT_SLOT])
  unfold wipeBootSlots
  refine forEach_of_mem (P := fun t => t.get (F.imgEng_BOOT_SLOT e) = 0x3F) (x := e) (by simpa [upto] using he) hset ?_ s
  intro k _ t ht
  by_cases hk : k = e
  · exact hk ▸ hset t
  · exact (State.get_set_reg t _ (by simp only [F.imgEng_BOOT_SLOT, A.imgEng]; omega)).trans ht

theorem wipeShroud_shr (c : Prop) [Decidable c] (s : State) : (wipeShroud c s).shr =
    { s.shr with store := none, cfg := none, fns := [], axes := [], conns := [], password := none, apply := none } := by
  rw [← cfgClear_eq_of_setReg (·.shr) (fun _ _ _ _ => rfl) s]
  unfold wipeShroud
  split <;> rfl

theorem wipeShroud_frame (c : Prop) [Decidable c] (s : State) :
    (wipeShroud c s).img = s.img ∧ (wipeShroud c s).beyondWipe = s.beyondWipe := by
  rw [← cfgClear_eq_of_setReg (·.img) (fun _ _ _ _ => rfl) s, ← cfgClear_eq_of_setReg State.beyondWipe (fun _ _ _ _ => rfl) s]
  unfold wipeShroud
  split <;> exact ⟨rfl, rfl⟩

theorem wipeShroud_reg (c : Prop) [Decidable c] (s : State) {a : Nat} (ha : a < 0x18000) : (wipeShroud c s).reg a = s.reg a := by
  rw [← cfgClear_eq_of_setReg (·.reg a) (fun b hb v t => State.reg_setReg_other t v (by omega)) s]
  unfold wipeShroud
  split <;> simp (disch := omega) only [State.set, F.shrStatus_PW_EMPTY, F.shrStatus_STATE, F.shrStatus_CFG_VALID, F.shrCfgCrc_CFG_CRC,
    A.shrStatus, A.shrCfgCrc, State.reg_setReg_other, State.updShr_reg]

/-- What the wipe of a life-cycle change leaves (Table 3.9). -/
structure LcWiped (s t : State) : Prop where
  wipeMark : t.md.wipeMark = false
  lcTarget : t.md.lcTarget = none
  key : t.img.key = none
  overrides : t.img.overrides = []
  integrator : ∀ k, 16 ≤ k → k < 64 → t.imgSlot k = none
  ephagon : ∀ j, j < 16 → t.imgSlot j = s.imgSlot j
  bootSlot : ∀ e, e < 38 → t.get (F.imgEng_BOOT_SLOT e) = 0x3F
  store : t.shr.store = none
  cfg : t.shr.cfg = none
  password : t.shr.password = none
  session : t.shr.session = s.shr.session
  log : ∀ x n, n < 256 → x ∈ s.shr.log.take n → x ∈ t.shr.log.take (n + 1)
  glb : ∀ a, a < 0x1000 → t.reg a = s.reg a
  fld : t.fld = s.fld
  hostMem : t.hostMem = s.hostMem

/-- The Shroud after the wipe. -/
theorem lcWipe_shr (s : State) : ∃ old, (lcWipe s).shr = { (logAdd 9 0xFF old 0 0 s).shr with
    store := none, cfg := none, fns := [], axes := [], conns := [], password := none, apply := none } := by
  obtain ⟨old, hsteps⟩ := lcWipe_steps s
  refine ⟨old, ?_⟩
  rw [hsteps, State.updMd, wipeShroud_shr, (wipeBootSlots_frame _).2.1, (wipeStore_frame _).1, (emptySlots_frame _).1]

theorem lcWipe_beyondWipe (s : State) : (lcWipe s).fld = s.fld ∧ (lcWipe s).hostMem = s.hostMem := by
  obtain ⟨old, hsteps⟩ := lcWipe_steps s
  have hframe : (wipeShroud (s.shr.started ∧ s.shrState ≠ 3)
      (wipeBootSlots (wipeStore (emptySlots (logAdd 9 0xFF old 0 0 s))))).beyondWipe = s.beyondWipe := by
    rw [(wipeShroud_frame _ _).2, (wipeBootSlots_frame _).2.2, (wipeStore_frame _).2, (emptySlots_frame _).2]
    rfl
  rw [hsteps, State.updMd]
  exact ⟨congrArg (·.2.1) hframe, congrArg (·.2.2) hframe⟩

theorem lcWipe_img (s : State) : (lcWipe s).img.key = none ∧ (lcWipe s).img.overrides = [] ∧
    ∃ old, (lcWipe s).img.slots = (emptySlots (logAdd 9 0xFF old 0 0 s)).img.slots := by
  obtain ⟨old, hsteps⟩ := lcWipe_steps s
  obtain ⟨hslots, hkey, hoverrides⟩ := wipeStore_img (emptySlots (logAdd 9 0xFF old 0 0 s))
  rw [hsteps, State.updMd]
  simp only [wipeShroud_frame, wipeBootSlots_frame]
  exact ⟨hkey, hoverrides, old, hslots⟩

theorem lcWipe_glb (s : State) {a : Nat} (ha : a < 0x1000) : (lcWipe s).reg a = s.reg a := by
  obtain ⟨old, hsteps⟩ := lcWipe_steps s
  have hmd (t : State) (f : ModeSt → ModeSt) : (t.updMd f).reg a = t.reg a := rfl
  rw [hsteps, hmd, wipeShroud_reg _ _ (by omega), wipeBootSlots_reg _ (by omega), wipeStore_reg _ (by unfold A.imgStatus; omega),
    emptySlots_reg _ (by omega), logAdd, State.reg_set_other _ _ _ (by simp only [F.shrLogCount_ENTRY, A.shrLogCount]; omega), State.updShr_reg]

theorem lcWipe_bootSlot (s : State) {e : Nat} (he : e < 38) : (lcWipe s).get (F.imgEng_BOOT_SLOT e) = 0x3F := by
  obtain ⟨old, hsteps⟩ := lcWipe_steps s
  rw [hsteps]
  show bits (State.reg (wipeShroud _ _) (A.imgEng e)) 13 8 = 0x3F
  rw [wipeShroud_reg _ _ (by unfold A.imgEng; omega)]
  exact wipeBootSlots_bootSlot _ he

theorem lcWipe_wiped (s : State) : LcWiped s (lcWipe s) := by
  obtain ⟨old, hshr⟩ := lcWipe_shr s
  obtain ⟨hkey, hoverrides, old', hslots⟩ := lcWipe_img s
  obtain ⟨hfld, hhostMem⟩ := lcWipe_beyondWipe s
  have hslot (k : Nat) : (lcWipe s).imgSlot k = (emptySlots (logAdd 9 0xFF old' 0 0 s)).imgSlot k := by rw [State.imgSlot, hslots, State.imgSlot]
  exact {
    wipeMark := rfl, lcTarget := rfl, key := hkey, overrides := hoverrides, fld := hfld, hostMem := hhostMem
    integrator := fun k hlo hhi => (hslot k).trans (emptySlots_imgSlot_integrator _ hlo hhi)
    ephagon := fun j hj => (hslot j).trans (emptySlots_imgSlot_low _ hj)
    bootSlot := fun e he => lcWipe_bootSlot s he
    glb := fun a ha => lcWipe_glb s ha
    store := by rw [hshr]
    cfg := by rw [hshr]
    password := by rw [hshr]
    session := by rw [hshr]; rfl
    log := fun x n hn hx => by rw [hshr]; exact mem_log_of_logAdd hn hx }

end Sys2Proof.Machine
end

section
/-!
PROOF. The reset that ends a life-cycle change (R105 to R107, R116), in which the Shroud runs on without a configuration.
-/
namespace Sys2Proof.Machine

/-! ## Operations that show the Shroud and the debug block -/

/-- Between two states nothing differs but safety outputs and registers of the SHR and DBG blocks. -/
structure ShowsShroud (s t : State) : Prop where
  frame : ∃ r x, t = { s with regs := r, shr := { s.shr with outs := x } }
  regs : ∀ a, a < 0x18000 → t.reg a = s.reg a

theorem forEach_nil {α : Type} (f : α → State → State) (s : State) : forEach [] f s = s := rfl

namespace ShowsShroud
variable {s t : State}

theorem refl (s : State) : ShowsShroud s s := ⟨⟨s.regs, s.shr.outs, rfl⟩, fun _ _ => rfl⟩

theorem setReg (h : ShowsShroud s t) {a : Nat} (ha : 0x18000 ≤ a) (v : W32) : ShowsShroud s (t.setReg a v) := by
  obtain ⟨r, x, hframe⟩ := h.frame
  refine ⟨⟨_, x, congrArg (fun u : State => u.setReg a v) hframe⟩, fun b hb => ?_⟩
  rw [State.reg_setReg_other t v (by omega), h.regs b hb]

theorem set (h : ShowsShroud s t) (f : Fld) (hf : 0x18000 ≤ f.a) (v : Nat) : ShowsShroud s (t.set f v) := h.setReg hf _

theorem setB (h : ShowsShroud s t) (f : Fld) (hf : 0x18000 ≤ f.a) (b : Bool) : ShowsShroud s (t.setB f b) := h.set f hf _

theorem get (h : ShowsShroud s t) {f : Fld} (hf : f.a < 0x18000) : t.get f = s.get f := congrArg (bits · f.hi f.lo) (h.regs _ hf)

theorem updOut (h : ShowsShroud s t) (q : Nat) (f : OutPair → OutPair) : ShowsShroud s (t.updOut q f) := by
  obtain ⟨r, x, hframe⟩ := h.frame
  exact ⟨⟨r, _, congrArg (fun u : State => u.updOut q f) hframe⟩, h.regs⟩

theorem forEach {α : Type} {f : α → State → State} (hf : ∀ x u, ShowsShroud s u → ShowsShroud s (f x u)) (l : List α)
    (h : ShowsShroud s t) : ShowsShroud s (forEach l f t) := by
  induction l generalizing t with
  | nil => exact h
  | cons x r ih => exact ih (hf x t h)

theorem scfg (h : ShowsShroud s t) : t.scfg = s.scfg := by
  obtain ⟨r, x, rfl⟩ := h.frame
  rfl

/-- Without a configuration the Shroud shows its inputs, outputs and zones alone. -/
theorem shrPublish (h : ShowsShroud s t) (hcfg : s.shr.cfg = none) : ShowsShroud s (shrPublish t) := by
  obtain ⟨hfns, haxes, hconns⟩ : t.scfg.fns = [] ∧ t.scfg.axes = [] ∧ t.scfg.conns = [] := by
    rw [h.scfg, State.scfg, hcfg]
    exact ⟨rfl, rfl, rfl⟩
  unfold Machine.shrPublish
  simp only [hfns, haxes, hconns, forEach_nil]
  exact ((((h.set _ (by decide) _).set _ (by decide) _).set _ (by decide) _).set _ (by decide) _).setB _ (by decide) _

/-- Without a configuration the Shroud has no zone that could lose torque: it commands its outputs and shows its state. -/
theorem shrApply (h : ShowsShroud s t) (hcfg : s.shr.cfg = none) : ShowsShroud s (shrApply t) := by
  have hzones : t.scfg.zones = [] := by rw [h.scfg, State.scfg, hcfg]
  unfold Machine.shrApply
  simp only [hzones, List.map_nil, List.filter_nil, forEach_nil, ite_self]
  exact ShowsShroud.shrPublish (ShowsShroud.forEach (fun q u hu => (hu.updOut _ _).updOut _ _) _ h) hcfg

theorem dbgRefresh (h : ShowsShroud s t) : ShowsShroud s (dbgRefresh t) :=
  ShowsShroud.forEach (fun e u hu => hu.setB _ (by simp only [F.dbgEngStatus_ACCESS, A.dbgEngStatus]; omega) _) _ (h.set _ (by decide) _)

end ShowsShroud

/-! ## What a reset keeps -/

/-- A table that keeps the numbers of a set reads as before there, and as empty elsewhere. -/
theorem Table.look_filter_keys {α : Type} (d : α) (p : Nat → Bool) (k : Nat) (t : Table α) :
    Table.look d (t.filter (fun e => p e.1)) k = if p k then Table.look d t k else d := by
  induction t with
  | nil => simp
  | cons e r ih =>
    obtain ⟨j, v⟩ := e
    by_cases hj : j = k
    · subst hj
      cases hp : p j
      · simpa [hp] using ih
      · simp [hp, Table.look]
    · cases hp : p j
      · simpa [hp, Table.look, hj] using ih
      · simpa [hp, Table.look, hj] using ih

/-- Bits of registers are taken over from a state. -/
def keepBits (l : List (Nat × W32)) (src t : State) : State :=
  l.foldl (fun u e => u.setReg e.1 ((u.reg e.1 &&& ~~~e.2) ||| (src.reg e.1 &&& e.2))) t

theorem keepBits_frame (l : List (Nat × W32)) (src t : State) : ∃ r, keepBits l src t = { t with regs := r } := by
  induction l generalizing t with
  | nil => exact ⟨t.regs, rfl⟩
  | cons e l ih =>
    obtain ⟨r, hr⟩ := ih (t.setReg e.1 ((t.reg e.1 &&& ~~~e.2) ||| (src.reg e.1 &&& e.2)))
    exact ⟨r, hr⟩

theorem keepBits_reg_other {l : List (Nat × W32)} (src t : State) {a : Nat} (ha : ∀ e ∈ l, e.1 ≠ a) : (keepBits l src t).reg a = t.reg a := by
  induction l generalizing t with
  | nil => rfl
  | cons e l ih =>
    exact (ih _ (fun x hx => ha x (List.mem_cons_of_mem _ hx))).trans (State.reg_setReg_other _ _ (ha e List.mem_cons_self).symm)

/-- A step of the fold takes over the bits that it names, and leaves the others. -/
theorem keepBits_step_bit (src t : State) (e : Nat × W32) (a i : Nat) :
    ((t.setReg e.1 ((t.reg e.1 &&& ~~~e.2) ||| (src.reg e.1 &&& e.2))).reg a).getLsbD i =
      if e.1 = a ∧ e.2.getLsbD i = true then (src.reg a).getLsbD i else (t.reg a).getLsbD i := by
  by_cases ha : e.1 = a
  · subst ha
    rw [State.reg_setReg_same]
    cases hi : e.2.getLsbD i
    · have hlt : (t.reg e.1).getLsbD i = true → i < 32 := BitVec.lt_of_getLsbD
      cases ht : (t.reg e.1).getLsbD i <;> simp_all
    · simp [hi]
  · rw [State.reg_setReg_other _ _ (Ne.symm ha), if_neg (fun h => ha h.1)]

/-- A bit that is named, or agrees already, agrees after. -/
theorem keepBits_bit (l : List (Nat × W32)) (src t : State) (a i : Nat)
    (h : (t.reg a).getLsbD i = (src.reg a).getLsbD i ∨ ∃ e ∈ l, e.1 = a ∧ e.2.getLsbD i = true) :
    ((keepBits l src t).reg a).getLsbD i = (src.reg a).getLsbD i := by
  induction l generalizing t with
  | nil => exact h.resolve_right (by simp)
  | cons e l ih =>
    refine ih _ ?_
    rw [keepBits_step_bit]
    by_cases he : e.1 = a ∧ e.2.getLsbD i = true
    · exact .inl (if_pos he)
    · rw [if_neg he]
      refine h.imp_right ?_
      rintro ⟨x, hx, hxi⟩
      rcases List.mem_cons.mp hx with rfl | hx
      · exact absurd hxi he
      · exact ⟨x, hx, hxi⟩

/-- Fields whose bits agree are equal. -/
theorem bits_congr {x y : W32} {hi lo : Nat} (h : ∀ i, lo ≤ i → i ≤ hi → x.getLsbD i = y.getLsbD i) : bits x hi lo = bits y hi lo := by
  refine Nat.eq_of_testBit_eq fun i => ?_
  simp only [bits, nbits_testBit]
  by_cases hi' : i < hi + 1 - lo
  · have hbit := h (lo + i) (by omega) (by omega)
    simp only [BitVec.getLsbD] at hbit
    rw [hbit]
  · simp [hi']

/-- A field that the mask of a kept entry covers is taken over. -/
theorem keepBits_get {l : List (Nat × W32)} (src t : State) (f : Fld) {m : W32} (hmem : (f.a, m) ∈ l)
    (hm : ∀ i < f.hi + 1, f.lo ≤ i → m.getLsbD i = true) : (keepBits l src t).get f = src.get f :=
  bits_congr fun i hlo hhi => keepBits_bit l src t f.a i (.inr ⟨_, hmem, rfl, hm i (by omega) hlo⟩)

/-! ## The reset that spares the Shroud -/

/-- The part with what such a reset keeps, before its cause is written and the Shroud holds STO. -/
def resetBase (s : State) : State :=
  { regs := s.regs.filter (fun e => keptReg false e.1), fld := s.fld
    img := { slots := s.img.slots, key := s.img.key, overrides := s.img.overrides }
    shr := s.shr, md := { wipeMark := s.md.wipeMark || s.md.lcTarget.isSome }, dbg := { s.dbg with xfer := none }
    hostMem := s.hostMem, free := s.free, pending := s.pending }

def resetKept (causes : Nat) (s : State) : State :=
  ((keepBits (keptBits s) s (resetBase s)).set F.glbResetCause_CAUSE causes).updShr
    (fun x => { x with zones := Table.mapVals {} (fun z => { z with acked := false }) x.zones })

theorem resetModule_eq (causes : Nat) {s : State} (hsession : s.shr.session = none) (htarget : s.md.lcTarget = none) :
    resetModule causes false s = dbgRefresh (shrApply (resetKept causes s)) := by
  unfold resetModule
  rw [sessionEnd_of_none 2 hsession]
  extract_lets s0 kept src r s1 s2 s3 s4
  have htaken : s2 = s1 := by
    show (match s.md.lcTarget with | some t => s1.set F.glbLc_LC_STATE t | none => s1) = s1
    rw [htarget]
  have hspared : s4 = shrApply (s3.updShr (fun x => { x with zones := Table.mapVals {} (fun z => { z with acked := false }) x.zones })) := rfl
  rw [hspared]
  show dbgRefresh (shrApply ((s2.set F.glbResetCause_CAUSE causes).updShr _)) = _
  rw [htaken]
  rfl

/-- The registers of GLB and IMG are as the reset has left them before the Shroud and the debug block show theirs. -/
theorem resetModule_shows (causes : Nat) {s : State} (hsession : s.shr.session = none) (htarget : s.md.lcTarget = none)
    (hcfg : s.shr.cfg = none) : ShowsShroud (resetKept causes s) (resetModule causes false s) := by
  have hkept : (resetKept causes s).shr.cfg = none := by
    obtain ⟨r, hr⟩ := keepBits_frame (keptBits s) s (resetBase s)
    rw [resetKept, hr]
    exact hcfg
  rw [resetModule_eq causes hsession htarget]
  exact ((ShowsShroud.refl _).shrApply hkept).dbgRefresh

/-- What stands behind the registers after such a reset. -/
theorem resetKept_frame (causes : Nat) (s : State) : ∃ r z, resetKept causes s =
    { regs := r, fld := s.fld, img := { slots := s.img.slots, key := s.img.key, overrides := s.img.overrides }
      shr := { s.shr with zones := z }, md := { wipeMark := s.md.wipeMark || s.md.lcTarget.isSome }, dbg := { s.dbg with xfer := none }
      hostMem := s.hostMem, free := s.free, pending := s.pending } := by
  obtain ⟨r, hr⟩ := keepBits_frame (keptBits s) s (resetBase s)
  rw [resetKept, hr]
  exact ⟨_, _, rfl⟩

theorem resetKept_reg (causes : Nat) (s : State) {a : Nat} (ha : a ≠ A.glbResetCause) :
    (resetKept causes s).reg a = (keepBits (keptBits s) s (resetBase s)).reg a := State.reg_set_other _ _ _ ha

theorem resetKept_cause (causes : Nat) (s : State) : (resetKept causes s).get F.glbResetCause_CAUSE = causes % 2 ^ 7 :=
  State.get_set_same _ F.glbResetCause_CAUSE causes (by decide)

/-- A register of which the reset keeps nothing has its reset word. -/
theorem resetBase_reg (s : State) {a : Nat} (ha : keptReg false a = false) : (resetBase s).reg a = regReset a := by
  show Table.look (regReset a) (s.regs.filter (fun e => keptReg false e.1)) a = _
  rw [Table.look_filter_keys, ha]
  rfl

theorem glbMode_not_kept (s : State) : ∀ e ∈ keptBits s, e.1 ≠ A.glbMode := by
  intro e he
  simp only [keptBits, List.mem_append] at he
  rcases he with (he | he) | he
  · revert e
    decide
  · split at he
    · revert e
      decide
    · exact absurd he List.not_mem_nil
  · obtain ⟨k, -, rfl⟩ := List.mem_map.mp he
    simp only [A.imgEng, A.glbMode]
    omega

theorem lc_mem_keptBits (s : State) : (A.glbLc, 0xF) ∈ keptBits s := by simp [keptBits]

theorem imgEng_mem_keptBits (s : State) {e : Nat} (he : e < 38) : (A.imgEng e, 0x3F00) ∈ keptBits s := by
  unfold keptBits
  exact List.mem_append_right _ (List.mem_map.mpr ⟨e, by simpa [upto] using he, rfl⟩)

theorem resetKept_mode (causes : Nat) (s : State) : (resetKept causes s).mode = mReset := by
  show bits ((resetKept causes s).reg A.glbMode) 3 0 = mReset
  rw [resetKept_reg _ _ (by decide), keepBits_reg_other _ _ (glbMode_not_kept s), resetBase_reg _ (by decide)]
  decide

/-- The life-cycle state is not reset, and no boot slot is. -/
theorem resetKept_lc (causes : Nat) (s : State) : (resetKept causes s).lc = s.lc := by
  show bits ((resetKept causes s).reg A.glbLc) 3 0 = s.lc
  rw [resetKept_reg _ _ (by decide)]
  exact keepBits_get s (resetBase s) F.glbLc_LC_STATE (lc_mem_keptBits s) (by decide)

theorem resetKept_bootSlot (causes : Nat) (s : State) {e : Nat} (he : e < 38) :
    (resetKept causes s).get (F.imgEng_BOOT_SLOT e) = s.get (F.imgEng_BOOT_SLOT e) := by
  have hmask : ∀ i < 14, 8 ≤ i → (0x3F00 : W32).getLsbD i = true := by decide
  show bits ((resetKept causes s).reg (A.imgEng e)) 13 8 = _
  rw [resetKept_reg _ _ (by simp only [A.imgEng, A.glbResetCause]; omega)]
  exact keepBits_get s (resetBase s) (F.imgEng_BOOT_SLOT e) (imgEng_mem_keptBits s he) hmask

end Sys2Proof.Machine
end

section
/-!
PROOF. The life cycle as the host sees it (spec/03_modes_and_startup.md, R114 to R116, Table 3.9): its request, and its completion.
-/
namespace Sys2Proof.Machine

/-- A change as it comes into force, before the wipe: it is logged, the state is written, and the session ends. -/
def lcEntered (ring k : Nat) (s : State) : State := sessionEnd 4 ((logAdd 8 ring 0 0 (s.lc * 256 + k) s).set F.glbLc_LC_STATE k)

theorem lcComplete_of_target {s : State} {k : Nat} (h : s.md.lcTarget = some k) :
    ∃ ring, lcComplete s = resetModule 64 false (lcWipe (lcEntered ring k s)) := by
  unfold lcComplete
  rw [h]
  exact ⟨_, rfl⟩

theorem lcComplete_of_no_target {s : State} (h : s.md.lcTarget = none) : lcComplete s = s := by simp [lcComplete, h]

theorem lcEntered_frame (ring k : Nat) (s : State) :
    (lcEntered ring k s).img = s.img ∧ (lcEntered ring k s).fld = s.fld ∧ (lcEntered ring k s).hostMem = s.hostMem := sessionEnd_frame 4 _

theorem lcEntered_lc (ring : Nat) (s : State) {k : Nat} (hk : k < 16) : (lcEntered ring k s).lc = k := by
  have hreg : (lcEntered ring k s).reg A.glbLc = ((logAdd 8 ring 0 0 (s.lc * 256 + k) s).set F.glbLc_LC_STATE k).reg A.glbLc :=
    sessionEnd_glb 4 _ (by decide) (by decide)
  show bits ((lcEntered ring k s).reg A.glbLc) 3 0 = k
  rw [hreg]
  exact (State.get_set_same _ F.glbLc_LC_STATE k (by decide)).trans (Nat.mod_eq_of_lt hk)

/-- The change is one of the latest two entries of the log. -/
theorem lcEntered_log (ring k : Nat) (s : State) :
    ∃ x ∈ (lcEntered ring k s).shr.log.take 2, x.kind = 8 ∧ x.detail = s.lc * 256 + k := by
  obtain ⟨x, hkind, hdetail, hlog⟩ := logAdd_log_take 8 ring 0 0 (s.lc * 256 + k) s (n := 0) (by decide)
  refine ⟨x, mem_log_of_sessionEnd (by decide) ?_, hkind, hdetail⟩
  rw [State.set_shr, hlog]
  exact List.mem_cons_self

/-- What stands behind the registers of the wiped part after its reset. -/
theorem resetModule_of_lcWiped {u w : State} (h : LcWiped u w) (hsession : u.shr.session = none) : ∃ r z x, resetModule 64 false w =
    { regs := r, fld := u.fld, img := { slots := w.img.slots }, shr := { w.shr with zones := z, outs := x }, dbg := { w.dbg with xfer := none }
      hostMem := u.hostMem, free := w.free, pending := w.pending } := by
  obtain ⟨⟨r, x, hframe⟩, -⟩ := resetModule_shows 64 (h.session.trans hsession) h.lcTarget h.cfg
  obtain ⟨_, z, hkept⟩ := resetKept_frame 64 w
  refine ⟨r, z, x, hframe.trans ?_⟩
  rw [hkept, h.fld, h.hostMem, h.key, h.overrides, h.wipeMark, h.lcTarget]
  rfl

/-- What the registers of the wiped part show after its reset. -/
theorem resetModule_regs_of_lcWiped {u w : State} (h : LcWiped u w) (hsession : u.shr.session = none) :
    (resetModule 64 false w).lc = u.lc ∧ (∀ e, e < 38 → (resetModule 64 false w).get (F.imgEng_BOOT_SLOT e) = 0x3F) ∧
      (resetModule 64 false w).get F.glbResetCause_CAUSE = 64 ∧ (resetModule 64 false w).mode = mReset := by
  have hshows := resetModule_shows 64 (h.session.trans hsession) h.lcTarget h.cfg
  refine ⟨?_, fun e he => ?_, (hshows.get (by decide)).trans (resetKept_cause 64 w), (hshows.get (by decide)).trans (resetKept_mode 64 w)⟩
  · calc (resetModule 64 false w).lc = (resetKept 64 w).lc := hshows.get (by decide)
      _ = w.lc := resetKept_lc 64 w
      _ = u.lc := congrArg (bits · 3 0) (h.glb A.glbLc (by decide))
  · calc (resetModule 64 false w).get (F.imgEng_BOOT_SLOT e) = (resetKept 64 w).get (F.imgEng_BOOT_SLOT e) :=
          hshows.get (by simp only [F.imgEng_BOOT_SLOT, A.imgEng]; omega)
      _ = w.get (F.imgEng_BOOT_SLOT e) := resetKept_bootSlot 64 w he
      _ = 0x3F := h.bootSlot e he

/-- The completion of an accepted change (R116, Table 3.9): a reset of what the wipe has left. -/
theorem lcComplete_completes {s : State} {k : Nat} (hk : k < 16) (h : s.md.lcTarget = some k) : ∃ u w,
    lcComplete s = resetModule 64 false w ∧ LcWiped u w ∧ u.shr.session = none ∧ u.lc = k ∧ u.img = s.img ∧ u.fld = s.fld ∧
      u.hostMem = s.hostMem ∧ ∃ x ∈ u.shr.log.take 2, x.kind = 8 ∧ x.detail = s.lc * 256 + k := by
  obtain ⟨ring, ht⟩ := lcComplete_of_target h
  obtain ⟨himg, hfld, hhostMem⟩ := lcEntered_frame ring k s
  exact ⟨_, _, ht, lcWipe_wiped _, sessionEnd_session .., lcEntered_lc ring s hk, himg, hfld, hhostMem, lcEntered_log ring k s⟩

/-- Settles O26: a request by the lemma of its case, with `lcRefusal` for the tests of R115, and the completion by what the wipe leaves
(`LcWiped`) and what the reset after it keeps. -/
theorem lifeCycle : Obligations.LifeCycle := by
  intro v s target stored legal reason
  have hreason : s.lcRefusal target = reason := s.lcRefusal_eq target
  refine ⟨fun hnone => ?_, fun hsome hidle => ?_, fun hsome hkey hfree => ?_, fun hnone => ?_, fun k _ hk htarget => ?_⟩
  · rw [exec_lcChangeRequest, lcRequest_of_no_session v hnone]
  · rw [exec_lcChangeRequest, lcRequest_without_request hsome hidle]
    exact ⟨_, rfl, rfl, lcStored_setReg v s, State.reg_setReg_other _ _ (by decide)⟩
  · refine ⟨_, exec_lcChangeRequest v s, ?_⟩
    by_cases haccept : reason = 0
    · obtain ⟨hstored, hreg, hlc, hframe, hflag⟩ := lcRequest_accepted hsome hkey hfree (hreason.trans haccept)
      rw [if_pos haccept]
      exact ⟨hstored, hreg.trans haccept.symm, hlc, hframe, hflag⟩
    · obtain ⟨hstored, hreg, hlc, hframe, hflag⟩ := lcRequest_refused hsome hkey hfree (fun h => haccept (hreason.symm.trans h))
      rw [if_neg haccept]
      exact ⟨hstored, hreg.trans hreason, hlc, hframe, hflag⟩
  · exact congrArg Host.Outcome.next (lcComplete_of_no_target hnone)
  · obtain ⟨u, w, ht, hwiped, hsession, hlc, himg, hfld, hhostMem, x, hx, hentry⟩ := lcComplete_completes (by omega) htarget
    obtain ⟨r, z, y, hframe⟩ := resetModule_of_lcWiped hwiped hsession
    obtain ⟨htlc, hboot, hcause, hmode⟩ := resetModule_regs_of_lcWiped hwiped hsession
    refine ⟨_, congrArg Host.Outcome.next ht, htlc.trans hlc, ?_, ?_, ?_, ?_, ?_, ?_, ?_, ?_, ?_, hboot, ?_, hcause, hmode, ?_, ?_⟩
    all_goals rw [hframe]
    · exact hwiped.session.trans hsession
    · exact hwiped.store
    · exact hwiped.cfg
    · exact hwiped.password
    · exact hwiped.integrator
    · intro j hj
      have hslot : w.imgSlot j = s.imgSlot j := by rw [hwiped.ephagon j hj, State.imgSlot, himg, State.imgSlot]
      exact hslot
    · exact ⟨x, List.mem_of_mem_take (hwiped.log x 2 (by decide) hx), hentry⟩
    · exact hfld
    · exact hhostMem

end Sys2Proof.Machine
end

section
/-!
PROOF. Descriptors (spec/02_host_rings.md): the fields of a descriptor that a row of the opcode table forces into its form, and the rows whose
operation writes the planner or a report alone, with everything that such a row leaves.
-/
namespace Sys2Proof.Machine

/-! ## A field put into payload word 1 -/

theorem nbits_lt (x hi lo : Nat) : nbits x hi lo < 2 ^ (hi + 1 - lo) := Nat.mod_lt _ (by positivity)

theorem nbits_congr {x y hi lo : Nat} (h : ∀ i, lo ≤ i → i ≤ hi → x.testBit i = y.testBit i) : nbits x hi lo = nbits y hi lo := by
  refine Nat.eq_of_testBit_eq fun i => ?_
  rw [nbits_testBit, nbits_testBit]
  by_cases hi' : i < hi + 1 - lo
  · rw [h _ (by omega) (by omega)]
  · simp [hi']

/-- A number, split around its field [hi:lo]. -/
theorem eq_of_nbits (x hi lo : Nat) :
    x = 2 ^ lo * (2 ^ (hi + 1 - lo) * (x / 2 ^ lo / 2 ^ (hi + 1 - lo))) + nbits x hi lo * 2 ^ lo + x % 2 ^ lo := by
  conv_lhs => rw [← Nat.div_add_mod x (2 ^ lo), ← Nat.div_add_mod (x / 2 ^ lo) (2 ^ (hi + 1 - lo)), Nat.mul_add]
  rw [nbits, Nat.mul_comm (2 ^ lo) (_ % _)]

/-- The bits of a number with the field [hi:lo] at `v`. -/
theorem testBit_replace_field {hi lo v : Nat} (x : Nat) (hlo : lo ≤ hi) (hv : v < 2 ^ (hi + 1 - lo)) (i : Nat) :
    (x - nbits x hi lo * 2 ^ lo + v * 2 ^ lo).testBit i = if lo ≤ i ∧ i ≤ hi then v.testBit (i - lo) else x.testBit i := by
  have hsplit := eq_of_nbits x hi lo
  have hnew : x - nbits x hi lo * 2 ^ lo + v * 2 ^ lo =
      2 ^ lo * (2 ^ (hi + 1 - lo) * (x / 2 ^ lo / 2 ^ (hi + 1 - lo)) + v) + x % 2 ^ lo := by
    rw [Nat.mul_add, Nat.mul_comm _ v]
    omega
  rw [hnew, Nat.testBit_two_pow_mul_add _ (Nat.mod_lt _ (by positivity)), Nat.testBit_two_pow_mul_add _ hv, Nat.testBit_mod_two_pow,
    Nat.testBit_div_two_pow, Nat.testBit_div_two_pow]
  rcases Nat.lt_or_ge i lo with hlow | hlow
  · rw [if_pos hlow, if_neg (by omega), decide_eq_true hlow, Bool.true_and]
  · rw [if_neg (by omega)]
    rcases Nat.lt_or_ge hi i with hhigh | hhigh
    · rw [if_neg (by omega), if_neg (by omega)]
      congr 1
      omega
    · rw [if_pos (by omega), if_pos ⟨hlow, hhigh⟩]

/-- Forcing a field of payload word 1 is putting it there. -/
theorem force_w1 {hi lo v : Nat} (d : Desc) (hhi : hi < 64) (hlo : lo ≤ hi) (hv : v < 2 ^ (hi + 1 - lo)) :
    (d.force 1 hi lo v).w1.toNat = d.w1.toNat - nbits d.w1.toNat hi lo * 2 ^ lo + v * 2 ^ lo := by
  have hx := d.w1.isLt
  have hnew : d.w1.toNat - nbits d.w1.toNat hi lo * 2 ^ lo + v * 2 ^ lo < 2 ^ 64 := by
    refine Nat.lt_pow_two_of_testBit _ fun i hi' => ?_
    rw [testBit_replace_field _ hlo hv, if_neg (by omega)]
    exact Nat.testBit_lt_two_pow (hx.trans_le (Nat.pow_le_pow_right (by decide) hi'))
  have hle := eq_of_nbits d.w1.toNat hi lo
  simp only [Desc.force, if_true, bits, BitVec.toNat_add, BitVec.toNat_sub, BitVec.toNat_ofNat]
  generalize nbits d.w1.toNat hi lo * 2 ^ lo = b at *
  generalize v * 2 ^ lo = c at *
  omega

@[simp] theorem force_ring (d : Desc) (w hi lo v : Nat) : (d.force w hi lo v).ring = d.ring := by unfold Desc.force; split <;> rfl
@[simp] theorem force_tag (d : Desc) (w hi lo v : Nat) : (d.force w hi lo v).tag = d.tag := by unfold Desc.force; split <;> rfl
@[simp] theorem force_seq (d : Desc) (w hi lo v : Nat) : (d.force w hi lo v).seq = d.seq := by unfold Desc.force; split <;> rfl
@[simp] theorem force_len (d : Desc) (w hi lo v : Nat) : (d.force w hi lo v).len = d.len := by unfold Desc.force; split <;> rfl

theorem desc_w_one (d : Desc) : d.w 1 = if d.len.val < 1 then 0 else d.w1 := rfl

/-- The words but word 1 stay. -/
theorem force_w_other (d : Desc) (hi lo v : Nat) {w : Nat} (hw : w ≠ 1) : (d.force 1 hi lo v).w w = d.w w := by
  unfold Desc.w
  rw [force_len]
  split
  · rfl
  · split
    case h_1 => exact absurd rfl hw
    all_goals rfl

theorem force_f_word (d : Desc) (hi lo v : Nat) {w : Nat} (hw : w ≠ 1) (hi' lo' : Nat) : (d.force 1 hi lo v).f w hi' lo' = d.f w hi' lo' := by
  rw [Desc.f, force_w_other d hi lo v hw, Desc.f]

theorem force_fi_word (d : Desc) (hi lo v : Nat) {w : Nat} (hw : w ≠ 1) (hi' lo' : Nat) : (d.force 1 hi lo v).fi w hi' lo' = d.fi w hi' lo' := by
  rw [Desc.fi, force_w_other d hi lo v hw, Desc.fi]

theorem force_n_word (d : Desc) (hi lo v : Nat) {w : Nat} (hw : w ≠ 1) : (d.force 1 hi lo v).n w = d.n w := by
  rw [Desc.n, force_w_other d hi lo v hw, Desc.n]

theorem force_i_word (d : Desc) (hi lo v : Nat) {w : Nat} (hw : w ≠ 1) : (d.force 1 hi lo v).i w = d.i w := by
  rw [Desc.i, force_w_other d hi lo v hw, Desc.i]

/-- A bit of word 1 outside the field stays. -/
theorem force_bit_other {hi lo v : Nat} (d : Desc) (hhi : hi < 64) (hlo : lo ≤ hi) (hv : v < 2 ^ (hi + 1 - lo)) {i : Nat}
    (h : i < lo ∨ hi < i) : ((d.force 1 hi lo v).w 1).toNat.testBit i = (d.w 1).toNat.testBit i := by
  rw [desc_w_one, desc_w_one, force_len]
  split
  · rfl
  · rw [force_w1 d hhi hlo hv, testBit_replace_field _ hlo hv, if_neg (by omega)]

section
variable {i : Nat} (d : Desc) (hi : i < 64) (b : Bool)
include hi

/-- A row that forces one bit of word 1 leaves the fields beside it. -/
theorem forceBit_f {hi' lo' : Nat} (h : hi' < i ∨ i < lo') : (d.force 1 i i b.toNat).f 1 hi' lo' = d.f 1 hi' lo' :=
  nbits_congr fun _ _ _ => force_bit_other d hi le_rfl (by simpa using b.toNat_lt) (by omega)

theorem forceBit_fb_other {j : Nat} (h : j < i ∨ i < j) : (d.force 1 i i b.toNat).fb 1 j = d.fb 1 j :=
  force_bit_other d hi le_rfl (by simpa using b.toNat_lt) h

/-- The forced bit, where the descriptor has word 1. -/
theorem forceBit_fb_same (hlen : 1 ≤ d.len.val) : (d.force 1 i i b.toNat).fb 1 i = b := by
  have hv : b.toNat < 2 ^ (i + 1 - i) := by simpa using b.toNat_lt
  have hbit : (d.force 1 i i b.toNat).w1.toNat.testBit i = b := by
    rw [force_w1 d hi le_rfl hv, testBit_replace_field _ le_rfl hv, if_pos ⟨le_rfl, le_rfl⟩, Nat.sub_self]
    cases b <;> rfl
  rw [Desc.fb, desc_w_one, force_len, if_neg (by omega)]
  exact hbit

end

theorem desc_f_lt (d : Desc) (w hi lo : Nat) : d.f w hi lo < 2 ^ (hi + 1 - lo) := nbits_lt ..

/-! ## What an accepted descriptor is known by -/

/-- The LEN of an accepted descriptor is one that its opcode allows. -/
theorem accepts_len {s : State} {opcode lo hi : Nat} {m : List Nat} {d : Desc} (h : Accepts s opcode d)
    (ho : opInfo opcode = some (lo, hi, m)) : lo ≤ d.len.val ∧ d.len.val ≤ hi := by
  obtain ⟨-, -, -, -, x, hx, hlen⟩ := h
  rw [ho] at hx
  obtain rfl := Option.some.inj hx
  exact hlen

/-- So is that of a row's form of it. -/
theorem accepts_force_len {s : State} {opcode lo hi w fhi flo v : Nat} {m : List Nat} {d : Desc} (h : Accepts s opcode (d.force w fhi flo v))
    (ho : opInfo opcode = some (lo, hi, m)) : lo ≤ d.len.val := by
  simpa using (accepts_len h ho).1

/-! ## What the fetch leaves -/

@[simp] theorem fetched_web (s : State) (d : Desc) : (s.fetched d).web = s.web := rfl
@[simp] theorem fetched_net (s : State) (d : Desc) : (s.fetched d).net = s.net := rfl

/-- A fetch writes no register but HEAD of its ring. -/
theorem fetched_reg (s : State) (d : Desc) {a : Nat} (ha : a ≠ A.hriRingHead d.ring.val) : (s.fetched d).reg a = s.reg a :=
  State.reg_setReg_other _ _ ha

theorem fetched_get (s : State) (d : Desc) {f : Fld} (hf : f.a ≠ A.hriRingHead d.ring.val) : (s.fetched d).get f = s.get f := by
  rw [State.get, fetched_reg s d hf, State.get]

theorem fetched_gst (s : State) (d : Desc) {g : Nat} (hg : g < 32) : (s.fetched d).gst g = s.gst g :=
  fetched_get s d (by simp only [grpFld, A.glbGrpState, A.hriRingHead]; omega)

theorem fetched_axisPresent (s : State) (d : Desc) (a : Nat) : (s.fetched d).axisPresent a = s.axisPresent a := by
  have hslots : (s.fetched d).slots = s.slots :=
    fetched_get s d (by simp only [F.glbCaps_SLOTS, A.glbCaps, A.hriRingHead]; omega)
  rw [State.axisPresent, hslots, fetched_net, State.axisPresent]

theorem fetched_masterAbsent (s : State) (d : Desc) (source master : Nat) :
    (s.fetched d).masterAbsent source master = s.masterAbsent source master := by
  rw [State.masterAbsent, fetched_axisPresent, fetched_web, State.masterAbsent]

theorem fetched_recordAt (s : State) (d : Desc) : (s.fetched d).recordAt d.ring.val = s.recordAt d.ring.val := by
  have hbase : (s.fetched d).get64 (A.hriRingCqBaseLo d.ring.val) = s.get64 (A.hriRingCqBaseLo d.ring.val) := by
    rw [State.get64, fetched_reg s d (by unfold A.hriRingCqBaseLo A.hriRingHead; omega),
      fetched_reg s d (by unfold A.hriRingCqBaseLo A.hriRingHead; omega), State.get64]
  have hsize : (s.fetched d).get (F.hriRingCfg_SIZE d.ring.val) = s.get (F.hriRingCfg_SIZE d.ring.val) :=
    fetched_get s d (by simp only [F.hriRingCfg_SIZE, A.hriRingCfg, A.hriRingHead]; omega)
  have hcount : ((s.fetched d).ring d.ring.val).c = (s.ring d.ring.val).c := by
    rw [State.fetched, State.ring, State.setReg_host, ← State.ring, State.ring_updRing_same]
  rw [State.recordAt, hbase, hsize, hcount, State.recordAt]

/-! ## What a completion leaves -/

/-- From `s` to `t` nothing but registers, the host interface and host memory has changed, and of the rings none but ring `n`. -/
structure WritesRing (n : Nat) (s t : State) : Prop where
  frame : ∃ regs host mem, t = { s with regs := regs, host := host, hostMem := mem }
  rings : ∀ m, m ≠ n → t.ring m = s.ring m

namespace WritesRing
variable {n : Nat} {s t : State}

theorem refl (n : Nat) (s : State) : WritesRing n s s := ⟨⟨_, _, _, rfl⟩, fun _ _ => rfl⟩

theorem setReg (h : WritesRing n s t) (a : Nat) (v : W32) : WritesRing n s (t.setReg a v) := by
  obtain ⟨⟨regs, host, mem, rfl⟩, hrings⟩ := h
  exact ⟨⟨_, _, _, rfl⟩, hrings⟩

theorem bumpSat (h : WritesRing n s t) (f : Fld) (k : Nat) : WritesRing n s (t.bumpSat f k) := h.setReg _ _

theorem updRing (h : WritesRing n s t) (f : Ring → Ring) : WritesRing n s (t.updRing n f) := by
  obtain ⟨⟨regs, host, mem, rfl⟩, hrings⟩ := h
  exact ⟨⟨_, _, _, rfl⟩, fun m hm => (State.ring_updRing_other _ f hm).trans (hrings m hm)⟩

theorem ringPut (h : WritesRing n s t) (a : Nat) (b : List Byte) : WritesRing n s (ringPut n a b t) := by
  refine updRing ?_ _
  obtain ⟨⟨regs, host, mem, rfl⟩, hrings⟩ := h
  exact ⟨⟨_, _, _, rfl⟩, hrings⟩

theorem ringIrq (h : WritesRing n s t) : WritesRing n s (ringIrq n t) := by
  unfold Machine.ringIrq
  split
  · exact h
  · refine updRing ?_ _
    obtain ⟨⟨regs, host, mem, rfl⟩, hrings⟩ := h
    exact ⟨⟨_, _, _, rfl⟩, hrings⟩

theorem complete (h : WritesRing n s t) (d : Desc) (st : Nat) (r : Reply) (held : Bool) : WritesRing n s (complete n d st r held t) := by
  have hrecord : ∀ a b f v, WritesRing n s (((Machine.ringPut n a b t).updRing n f).setReg (A.hriRingCqTail n) v) :=
    fun a b f v => ((h.ringPut a b).updRing f).setReg _ v
  unfold Machine.complete
  dsimp only
  split <;> split
  · exact ((hrecord _ _ _ _).bumpSat _ _).ringIrq
  · exact (hrecord _ _ _ _).ringIrq
  · exact (hrecord _ _ _ _).bumpSat _ _
  · exact hrecord _ _ _ _

end WritesRing

/-- A completion writes no byte of host memory but its record. -/
theorem complete_hostByte (n : Nat) (d : Desc) (st : Nat) (r : Reply) (h : Bool) (s : State) {q : Nat}
    (hq : ∀ j, j < 16 → q ≠ (s.recordAt n + j) % 2 ^ 64) : (complete n d st r h s).hostByte q = s.hostByte q := by
  obtain ⟨flags, -, hmem⟩ := complete_hostMem n d st r h s
  rw [State.hostByte, hmem]
  exact hostWriteAux_other _ _ _ _ fun k hk => hq k (by simpa [leBytes] using hk)

/-- A completion adds its record, CQ_TAIL and CLAMP_COUNT to what a descriptor has written. -/
theorem OnlyRing.complete {d : Desc} {s u : State} {also : List Nat} {addr len : Nat} (h : OnlyRing d s u also addr len)
    (hrecord : u.recordAt d.ring.val = s.recordAt d.ring.val) (e : Desc) (st : Nat) (r : Reply) (held : Bool) :
    OnlyRing d s (complete d.ring.val e st r held u) also addr len := by
  obtain ⟨hregs, hrings, hbytes⟩ := h
  refine ⟨fun a hhead htail hclamp halso => ?_, fun m hm => ?_, fun q hq hreport => ?_⟩
  · exact (complete_reg _ e st r held u htail hclamp).trans (hregs a hhead htail hclamp halso)
  · exact (((WritesRing.refl _ u).complete e st r held).rings m hm).trans (hrings m hm)
  · exact (complete_hostByte _ e st r held u (hrecord ▸ hq)).trans (hbytes q hq hreport)

/-- A fetch writes the counts and HEAD of its ring. -/
theorem onlyRing_fetched (d : Desc) (s : State) (addr len : Nat) : OnlyRing d s (s.fetched d) [] addr len :=
  ⟨fun _ hhead _ _ _ => fetched_reg s d hhead, fun _ hm => State.ring_updRing_other s _ hm, fun _ _ _ => rfl⟩

/-! ## Rows that write the planner alone -/

/-- Nothing differs but the planner and what the fetch and the completion of a descriptor write. -/
def PlanOnly (d : Desc) (s t : State) : Prop :=
  t = { s with regs := t.regs, host := t.host, hostMem := t.hostMem, plan := t.plan } ∧ OnlyRing d s t []

/-- A row runs an operation by a form of its descriptor: the ring, TAG and SEQ are the descriptor's own. -/
def RunsForm (c : Instr) (opcode : Nat) (op : Op) (d e : Desc) (s : State) : Prop :=
  exec c s = .next (runDesc opcode op e s) ∧ e.ring = d.ring ∧ e.tag = d.tag ∧ e.seq = d.seq

theorem runsForm_force {c : Instr} {opcode : Nat} {op : Op} {d : Desc} {w hi lo v : Nat} {s : State}
    (h : exec c s = .next (runDesc opcode op (d.force w hi lo v) s)) : RunsForm c opcode op d (d.force w hi lo v) s :=
  ⟨h, force_ring .., force_tag .., force_seq ..⟩

/-- The completion of an accepted descriptor answers it. -/
theorem RunsForm.answers {c : Instr} {opcode : Nat} {op : Op} {d e : Desc} {s u : State} {r : Reply} (hc : RunsForm c opcode op d e s)
    (h : Accepts s opcode e) (hop : op e (s.fetched e) = (u, r)) :
    Answers c d s (complete d.ring.val e 0 (r.counted opcode e) false u) r.noEffect r.result := by
  obtain ⟨hexec, hring, htag, hseq⟩ := hc
  have hanswers := row_accepts hexec h hop
  simp only [Answers, Answered, hring, htag, hseq] at hanswers ⊢
  exact hanswers

/-- An accepted descriptor whose operation makes the planner `p` completes with that and nothing else. -/
theorem RunsForm.writes_plan {c : Instr} {opcode : Nat} {op : Op} {d e : Desc} {s : State} {p : PlanSt} {r : Reply}
    (hc : RunsForm c opcode op d e s) (h : Accepts s opcode e) (hop : op e (s.fetched e) = ({ s.fetched e with plan := p }, r)) :
    ∃ t, Answers c d s t r.noEffect r.result ∧ PlanOnly d s t ∧ t.plan = p := by
  have ⟨_, hring, _⟩ := hc
  have hfetch : s.fetched e = s.fetched d := by rw [State.fetched, State.fetched, hring]
  refine ⟨_, hc.answers h hop, ⟨?_, ?_⟩, ?_⟩
  · obtain ⟨regs, host, mem, ht⟩ := ((WritesRing.refl d.ring.val { s.fetched e with plan := p }).complete e 0 (r.counted opcode e) false).frame
    rw [ht]
    rfl
  · refine OnlyRing.complete ?_ ?_ e 0 _ false
    · rw [hfetch]
      exact onlyRing_fetched d s 0 0
    · rw [hfetch]
      exact fetched_recordAt s d
  · exact complete_plan ..

/-! ## Rows that write a report -/

theorem ringPut_recordAt (s : State) (n a : Nat) (b : List Byte) : (ringPut n a b s).recordAt n = s.recordAt n := by
  unfold State.recordAt State.get64 State.get
  simp only [ringPut_reg, (ringPut_ring n a b s).1]

/-- An accepted descriptor whose operation writes a report completes with it, and with nothing else but its completion. -/
theorem RunsForm.writes_report {c : Instr} {opcode : Nat} {op : Op} {d : Desc} {s : State} {addr : Nat} {bytes : List Byte} {r : Reply}
    (hc : RunsForm c opcode op d d s) (h : Accepts s opcode d) (hop : op d (s.fetched d) = (ringPut d.ring.val addr bytes (s.fetched d), r))
    (hlen : bytes.length ≤ 2 ^ 64) :
    ∃ t, Answers c d s t r.noEffect r.result ∧ t = { s with regs := t.regs, host := t.host, hostMem := t.hostMem } ∧
      OnlyRing d s t [] addr bytes.length ∧ Reported s t d addr bytes := by
  have hrecord := (ringPut_recordAt (s.fetched d) d.ring.val addr bytes).trans (fetched_recordAt s d)
  have hwrites := (WritesRing.refl d.ring.val (s.fetched d)).ringPut addr bytes
  have honly : OnlyRing d s (ringPut d.ring.val addr bytes (s.fetched d)) [] addr bytes.length := by
    obtain ⟨hregs, hrings, hbytes⟩ := onlyRing_fetched d s addr bytes.length
    exact ⟨hregs, fun m hm => (hwrites.rings m hm).trans (hrings m hm),
      fun q hq hreport => (hostWriteAux_other bytes addr q _ hreport).trans (hbytes q hq hreport)⟩
  refine ⟨_, hc.answers h hop, ?_, honly.complete hrecord .., fun k hk hfree => ?_⟩
  · obtain ⟨regs, host, mem, ht⟩ := (hwrites.complete d 0 (r.counted opcode d) false).frame
    rw [ht]
    rfl
  · rw [complete_hostByte _ _ _ _ _ _ (fun j hj => by rw [hrecord]; exact (hfree j hj).symm), State.hostByte, ringPut_hostMem,
      hostWriteAux_same bytes hlen addr k _ hk, List.getD_eq_getElem _ _ hk]

end Sys2Proof.Machine
end

section
/-!
PROOF. Gears, cams and the group report (spec/04_motion_planner.md, R155 to R161): a coupling entry joins a queue by `queueCouple`, whatever row
brings it; a cam table and a report write a part of the state each.
-/
namespace Sys2Proof.Machine

/-! ## An entry joins a queue -/

/-- An entry stands behind the queue of a group, and its planner engine is to take it into its window. -/
def State.enqueued (s : State) (g : Nat) (e : Entry) : State :=
  planNext g .window (s.updGrp g (fun p => { p with queue := p.queue ++ [e] }))

theorem enqueued_grp_same (s : State) (g : Nat) (e : Entry) :
    (s.enqueued g e).grp g = { s.grp g with queue := (s.grp g).queue ++ [e], todo := (s.grp g).todo ++ [.window] } := by
  rw [State.enqueued, planNext, State.grp_updGrp_same, State.grp_updGrp_same]

theorem enqueued_grp_other (s : State) {g h : Nat} (e : Entry) (hh : h ≠ g) : (s.enqueued g e).grp h = s.grp h :=
  (State.grp_updGrp_other _ _ hh).trans (State.grp_updGrp_other _ _ hh)

theorem enqueued_frame (s : State) (g : Nat) (e : Entry) :
    s.enqueued g e = { s with plan := { s.plan with groups := (s.enqueued g e).plan.groups } } := rfl

/-- The entry takes one slot. -/
theorem enqueued_free (s : State) (g : Nat) (e : Entry) : (s.enqueued g e).free? g = s.free? g - 1 := by
  have hused : (s.enqueued g e).slotsUsed g = s.slotsUsed g + 1 := by
    have hopens : (s.enqueued g e).plan.opens = s.plan.opens := rfl
    simp only [State.slotsUsed, enqueued_grp_same, List.length_append, List.length_singleton, hopens]
    omega
  have hfreed : ((s.enqueued g e).grp g).freed = (s.grp g).freed := by rw [enqueued_grp_same]
  rw [State.free?, hused, hfreed, State.free?]
  omega

/-- What a command leaves that puts an entry behind a group's queue: the entry's slot is counted, and no other group changes. -/
def Queues (c : Instr) (d : Desc) (s : State) (g : Nat) (e : Entry) : Prop :=
  ∃ t, Answers c d s t false (s.free? g - 1) ∧ PlanOnly d s t ∧
    (t.plan = { s.plan with groups := t.plan.groups } ∧ ∀ h, h ≠ g → t.grp h = s.grp h) ∧
    t.grp g = { s.grp g with queue := (s.grp g).queue ++ [e], todo := (s.grp g).todo ++ [.window] }

/-- A command of a planner descriptor is answered with a reason and changes nothing. -/
def Refuses (c : Instr) (d : Desc) (s : State) (g reason : Nat) : Prop :=
  ∃ t, Answers c d s t true (reason * 2 ^ 24 + s.free? g) ∧ PlanOnly d s t ∧ t.plan = s.plan

theorem RunsForm.refuses {c : Instr} {opcode : Nat} {op : Op} {d e : Desc} {s : State} {g reason cl : Nat}
    (hc : RunsForm c opcode op d e s) (h : Accepts s opcode e) (hreason : reason ≠ 0)
    (hop : op e (s.fetched e) = (s.fetched e, planReply (s.fetched e) g reason cl)) : Refuses c d s g reason := by
  obtain ⟨t, hanswers, honly, hplan⟩ := hc.writes_plan (p := s.plan) h hop
  have hnoEffect : (planReply (s.fetched e) g reason cl).noEffect = true := by simpa [planReply, why] using hreason
  rw [hnoEffect] at hanswers
  exact ⟨t, hanswers, honly, hplan⟩

theorem RunsForm.queues {c : Instr} {opcode : Nat} {op : Op} {d e : Desc} {s : State} {g cl : Nat} {x : Entry}
    (hc : RunsForm c opcode op d e s) (h : Accepts s opcode e)
    (hop : op e (s.fetched e) = ((s.fetched e).enqueued g x, planReply ((s.fetched e).enqueued g x) g 0 cl)) : Queues c d s g x := by
  obtain ⟨t, hanswers, honly, hplan⟩ := hc.writes_plan (p := (s.enqueued g x).plan) h hop
  have hresult : (planReply ((s.fetched e).enqueued g x) g 0 cl).result = s.free? g - 1 := by
    rw [planReply, why, enqueued_free, Nat.zero_mul, Nat.zero_add]
    rfl
  rw [hresult] at hanswers
  have hgrp : ∀ k, t.grp k = (s.enqueued g x).grp k := fun k => by rw [State.grp, hplan, State.grp]
  refine ⟨t, hanswers, honly, ⟨?_, fun k hk => (hgrp k).trans (enqueued_grp_other s x hk)⟩, (hgrp g).trans (enqueued_grp_same s g x)⟩
  rw [hplan, enqueued_frame]

/-! ## The cases of a coupling entry (Table 4.7, Table 4.8) -/

section
variable {s : State} {g m cl : Nat} {absent : Bool} {x : Couple}

theorem queueCouple_of_absent (h : absent = true ∨ ¬ (s.memberAxis g m).isSome = true) :
    queueCouple g m absent x cl s = (s, planReply s g 1 cl) :=
  if_pos (h.imp_right fun hbound => by simpa using hbound)

theorem queueCouple_of_not_taking (h : absent = false) (hbound : (s.memberAxis g m).isSome = true)
    (htakes : ¬ takesEntries (s.gst g) = true) : queueCouple g m absent x cl s = (s, planReply s g 2 cl) := by
  rw [queueCouple, h, Option.isNone_eq_false_iff.2 hbound, if_neg (by decide), if_pos (by simpa using htakes)]

theorem queueCouple_of_full (h : absent = false) (hbound : (s.memberAxis g m).isSome = true) (htakes : takesEntries (s.gst g) = true)
    (hroom : s.free? g = 0) : queueCouple g m absent x cl s = (s, planReply s g 3 cl) := by
  rw [queueCouple, h, Option.isNone_eq_false_iff.2 hbound, htakes, if_neg (by decide), if_neg (by decide), if_pos hroom]

theorem queueCouple_of_room (h : absent = false) (hbound : (s.memberAxis g m).isSome = true) (htakes : takesEntries (s.gst g) = true)
    (hroom : s.free? g ≠ 0) :
    queueCouple g m absent x cl s =
      (s.enqueued g (.couple { x with step := s.clk.ticks }), planReply (s.enqueued g (.couple { x with step := s.clk.ticks })) g 0 cl) := by
  rw [queueCouple, h, Option.isNone_eq_false_iff.2 hbound, htakes, if_neg (by decide), if_neg (by decide), if_neg hroom]
  rfl

end

/-- How a coupling row is answered, in the order of its reasons: an absent master, table or member (0x01), a group that takes no entries
(0x02), no free slot (0x03), or the entry joins the queue. -/
def CoupleAnswers (c : Instr) (d : Desc) (s : State) (g m : Nat) (absent : Bool) (x : Couple) : Prop :=
  let bound : Prop := (s.memberAxis g m).isSome = true
  let takes : Prop := takesEntries (s.gst g) = true
  (absent = true ∨ ¬ bound → Refuses c d s g 1) ∧
  (absent = false → bound → ¬ takes → Refuses c d s g 2) ∧
  (absent = false → bound → takes → ¬ 0 < s.free? g → Refuses c d s g 3) ∧
  (absent = false → bound → takes → 0 < s.free? g → Queues c d s g (.couple { x with step := s.clk.ticks }))

theorem RunsForm.couples {c : Instr} {opcode : Nat} {op : Op} {d e : Desc} {s : State} {g m cl : Nat} {absent : Bool} {x : Couple}
    (hc : RunsForm c opcode op d e s) (h : Accepts s opcode e) (hg : g < 32)
    (hop : op e (s.fetched e) = queueCouple g m absent x cl (s.fetched e)) : CoupleAnswers c d s g m absent x := by
  have hgst := fetched_gst s e hg
  refine ⟨fun habsent => ?_, fun hpresent hbound htakes => ?_, fun hpresent hbound htakes hroom => ?_, fun hpresent hbound htakes hroom => ?_⟩
  · exact hc.refuses h (by decide) (hop.trans (queueCouple_of_absent habsent))
  · exact hc.refuses h (by decide) (hop.trans (queueCouple_of_not_taking hpresent hbound (hgst ▸ htakes)))
  · exact hc.refuses h (by decide) (hop.trans (queueCouple_of_full hpresent hbound (hgst ▸ htakes) (Nat.eq_zero_of_not_pos hroom)))
  · exact hc.queues h (hop.trans (queueCouple_of_room hpresent hbound (hgst ▸ htakes) hroom.ne'))

/-! ## The coupling rows -/

/-- The source of a coupling: a code above 2 falls back to 0. -/
def coupleSource (d : Desc) : Nat := if d.f 1 25 24 ≤ 2 then d.f 1 25 24 else 0

theorem cE_source (d : Desc) : (cE 2 0 (d.f 1 25 24)).val = coupleSource d := by
  unfold cE coupleSource
  split <;> rfl

/-- The entry of a GEAR, as VE has read it. -/
def gearEntry (d : Desc) (off : Bool) : Couple :=
  { tag := d.tag.toNat, off := off, cam := none, source := coupleSource d, master := d.f 1 23 16, member := d.f 1 11 8, catchUp := d.fb 1 26
    num := d.fi 2 31 0, den := max 1 (d.f 2 63 32), clutch := d.n 3, mOff := 0, sOff := 0 }

/-- The entry of a CAM_ENGAGE, as VE has read it. -/
def camEntry (d : Desc) (off : Bool) : Couple :=
  { tag := d.tag.toNat, off := off, cam := some (d.f 1 30 26), source := coupleSource d, master := d.f 1 23 16, member := d.f 1 11 8
    catchUp := d.fb 1 12, num := 0, den := 1, clutch := 0, mOff := d.i 2, sOff := d.i 3 }

theorem cN_den (d : Desc) : (cN 1 (2 ^ 32 - 1) (d.f 2 63 32)).val = max 1 (d.f 2 63 32) := by
  have hlt := desc_f_lt d 2 63 32
  simp only [cN, clampN]
  split
  · omega
  · rw [if_neg (by omega)]
    omega

theorem opGear_form (d : Desc) (off : Bool) (hlen : 1 ≤ d.len.val) (s : State) :
    opGear (d.force 1 27 27 off.toNat) s =
      queueCouple (d.f 1 4 0) (d.f 1 11 8) (!off && s.masterAbsent (coupleSource d) (d.f 1 23 16)) (gearEntry d off)
        (clampMask [(1, (cE 2 0 (d.f 1 25 24)).hit), (2, (cN 1 (2 ^ 32 - 1) (d.f 2 63 32)).hit)]) s := by
  simp (disch := decide) only [opGear, gearWith, gearEntry, forceBit_fb_same d (by decide : 27 < 64) off hlen, forceBit_f, forceBit_fb_other,
    force_f_word, force_fi_word, force_n_word, force_tag, cE_source, cN_den]

theorem opCamEngage_form (d : Desc) (off : Bool) (hlen : 1 ≤ d.len.val) (s : State) :
    opCamEngage (d.force 1 31 31 off.toNat) s =
      queueCouple (d.f 1 4 0) (d.f 1 11 8)
        (!off && (s.masterAbsent (coupleSource d) (d.f 1 23 16) || !(Table.look {} s.plan.cams (d.f 1 30 26)).ready)) (camEntry d off)
        (clampMask [(1, (cE 2 0 (d.f 1 25 24)).hit)]) s := by
  simp (disch := decide) only [opCamEngage, camWith, camEntry, forceBit_fb_same d (by decide : 31 < 64) off hlen, forceBit_f,
    forceBit_fb_other, force_i_word, force_tag, cE_source]

theorem masterAbsent_eq_false_iff (s : State) (source master : Nat) : s.masterAbsent source master = false ↔
    if source = 2 then s.web.refAxis ≠ 0xFF else s.axisPresent master = true := by
  unfold State.masterAbsent
  split <;> simp

theorem gear_coupleAnswers {c : Instr} {d : Desc} {s : State} (off : Bool)
    (hc : exec c s = .next (runDesc 0x0106 opGear (d.force 1 27 27 off.toNat) s)) (h : Accepts s 0x0106 (d.force 1 27 27 off.toNat)) :
    CoupleAnswers c d s (d.f 1 4 0) (d.f 1 11 8) (!off && s.masterAbsent (coupleSource d) (d.f 1 23 16)) (gearEntry d off) := by
  have hlen : 3 ≤ d.len.val := accepts_force_len h rfl
  have hform := opGear_form d off (by omega) (s.fetched (d.force 1 27 27 off.toNat))
  rw [fetched_masterAbsent] at hform
  exact (runsForm_force hc).couples h (desc_f_lt d 1 4 0) hform

theorem cam_coupleAnswers {c : Instr} {d : Desc} {s : State} (off : Bool)
    (hc : exec c s = .next (runDesc 0x0108 opCamEngage (d.force 1 31 31 off.toNat) s)) (h : Accepts s 0x0108 (d.force 1 31 31 off.toNat)) :
    CoupleAnswers c d s (d.f 1 4 0) (d.f 1 11 8)
      (!off && (s.masterAbsent (coupleSource d) (d.f 1 23 16) || !(Table.look {} s.plan.cams (d.f 1 30 26)).ready)) (camEntry d off) := by
  have hlen : 3 ≤ d.len.val := accepts_force_len h rfl
  have hform := opCamEngage_form d off (by omega) (s.fetched (d.force 1 31 31 off.toNat))
  rw [fetched_masterAbsent] at hform
  exact (runsForm_force hc).couples h (desc_f_lt d 1 4 0) hform

/-- The cases of a coupling row whose master and table are present just when `present` holds. -/
theorem CoupleAnswers.of_present_iff {c : Instr} {d : Desc} {s : State} {g m : Nat} {absent : Bool} {x : Couple} {present : Prop}
    (h : CoupleAnswers c d s g m absent x) (hpresent : absent = false ↔ present) :
    let bound : Prop := (s.memberAxis g m).isSome = true
    let takes : Prop := takesEntries (s.gst g) = true
    (bound → present → takes → 0 < s.free? g → Queues c d s g (.couple { x with step := s.clk.ticks })) ∧
    (¬ bound ∨ ¬ present → Refuses c d s g 1) ∧
    (bound → present → ¬ takes → Refuses c d s g 2) ∧
    (bound → present → takes → ¬ 0 < s.free? g → Refuses c d s g 3) := by
  obtain ⟨habsent, hnot, hfull, hqueued⟩ := h
  refine ⟨fun hb hp => hqueued (hpresent.2 hp) hb, fun hno => habsent ?_, fun hb hp => hnot (hpresent.2 hp) hb,
    fun hb hp => hfull (hpresent.2 hp) hb⟩
  rcases hno with hno | hno
  · exact .inr hno
  · exact .inl (Bool.eq_true_of_not_eq_false fun h => hno (hpresent.1 h))

/-! ## Cam tables (R158) -/

theorem opCamLoad_of_engaged {d : Desc} {s : State} (h : s.camEngaged (d.f 1 4 0) = true) :
    ∃ cl, opCamLoad d s = (s, why 0x07 0 cl) := ⟨_, if_pos h⟩

theorem opCamLoad_of_short {d : Desc} {s : State} (h : s.camEngaged (d.f 1 4 0) = false) (hn : d.f 1 28 16 < 2) :
    ∃ cl, opCamLoad d s = (s, why 0x0A 0 cl) :=
  ⟨_, (if_neg (by simp [h])).trans (if_pos hn)⟩

/-- The plan with the points of a CAM_LOAD staged. -/
def camStaged (d : Desc) (p : PlanSt) : PlanSt :=
  { p with cams := Table.upd {} (d.f 1 4 0) (fun c => { c with next := some (camPoints (min (d.f 1 28 16) 4096) d.data, d.fb 1 5) }) p.cams }

theorem camStaged_same (d : Desc) (p : PlanSt) : Table.look {} (camStaged d p).cams (d.f 1 4 0) =
    { Table.look {} p.cams (d.f 1 4 0) with next := some (camPoints (min (d.f 1 28 16) 4096) d.data, d.fb 1 5) } := by
  rw [camStaged, Table.look_upd_same]

theorem camStaged_other (d : Desc) (p : PlanSt) {i : Nat} (hi : i ≠ d.f 1 4 0) :
    Table.look {} (camStaged d p).cams i = Table.look {} p.cams i := by
  rw [camStaged, Table.look_upd_other _ _ hi]

theorem opCamLoad_of_points {d : Desc} {s : State} (h : s.camEngaged (d.f 1 4 0) = false) (hn : 2 ≤ d.f 1 28 16) :
    ∃ cl, opCamLoad d s = ({ s with plan := camStaged d s.plan }, why 0 0 cl) :=
  ⟨_, (if_neg (by simp [h])).trans (if_neg (by omega))⟩

theorem camLoad_runs {d : Desc} {s : State} : RunsForm (.camLoad d) 0x0107 opCamLoad d d s := ⟨rfl, rfl, rfl, rfl⟩

/-- From `s` to `t` cam table `k` has become `x`, and one event with a code tells of it. -/
def CamMade (k : Nat) (s t : State) (x : Cam) (code : BitVec 16) : Prop :=
  t = { s with host := { s.host with evBuf := t.host.evBuf }, plan := { s.plan with cams := t.plan.cams } } ∧
    (∀ i, i ≠ k → Table.look {} t.plan.cams i = Table.look {} s.plan.cams i) ∧ Table.look {} t.plan.cams k = x ∧
    ∃ r, t.host.evBuf = s.host.evBuf ++ [r] ∧ r.code = code ∧ r.ctrl = 0x607F

theorem camMade_raise {s : State} (hroom : s.host.evBuf.length < 256) (k : Nat) (x : Cam) (code sev : Nat) (p : List (Nat × Nat × Nat)) :
    CamMade k s (State.raise { s with plan := { s.plan with cams := Table.put {} k x s.plan.cams } } code sev 0 0x607F p) x
      (BitVec.ofNat 16 code) := by
  rw [State.raise_room { s with plan := { s.plan with cams := Table.put {} k x s.plan.cams } } code sev 0 0x607F p hroom]
  exact ⟨rfl, fun i hi => Table.look_put_other _ _ _ hi _, Table.look_put_same .., _, rfl, rfl, rfl⟩

/-- A table whose masters rise is ready, and CAM_READY tells so. -/
theorem camReady_of_rising {k : Nat} {s : State} {pts : List (Int × Int)} {per : Bool}
    (hnext : (Table.look {} s.plan.cams k).next = some (pts, per)) (hroom : s.host.evBuf.length < 256) (hrise : firstFall 0 pts = none) :
    CamMade k s (camReady k s) { pts := pts, periodic := per, ready := true, next := none } 0x0107 := by
  simp only [camReady, hnext, hrise]
  exact camMade_raise hroom k _ _ _ _

/-- A table whose masters do not rise keeps what it held, and CAM_INVALID tells so. -/
theorem camReady_of_fall {k i : Nat} {s : State} {pts : List (Int × Int)} {per : Bool}
    (hnext : (Table.look {} s.plan.cams k).next = some (pts, per)) (hroom : s.host.evBuf.length < 256) (hfall : firstFall 0 pts = some i) :
    CamMade k s (camReady k s) { Table.look {} s.plan.cams k with next := none } 0x0108 := by
  simp only [camReady, hnext, hfall]
  exact camMade_raise hroom k _ _ _ _

/-! ## The group report -/

/-- The blocks of a flattened list whose parts have one length. -/
theorem flatMap_block {α β : Type} {f : α → List β} {k : Nat} (hf : ∀ x, (f x).length = k) (l : List α) (i : Nat) (hi : i < l.length) :
    ((l.flatMap f).drop (k * i)).take k = f l[i] := by
  induction l generalizing i with
  | nil => exact absurd hi (Nat.not_lt_zero i)
  | cons x r ih =>
    rw [List.flatMap_cons]
    cases i with
    | zero => rw [Nat.mul_zero, List.drop_zero, List.take_left' (hf x)]; rfl
    | succ i =>
      have hskip : k * (i + 1) = (f x).length + k * i := by rw [hf x]; ring
      rw [hskip, List.drop_length_add_append]
      exact ih i (by simpa using hi)

theorem leBytes_length (n x : Nat) : (leBytes n x).length = n := by
  induction n generalizing x with
  | zero => rfl
  | succ n ih => rw [leBytes, List.length_cons, ih]

/-- A member's 16 bytes of the group report. -/
def memberReport (s : State) (g m : Nat) : List Byte :=
  match s.memberAxis g m with
  | some a => leBytes 8 (wrapN 64 (s.axis a).visPos) ++ leBytes 8 (wrapN 64 (s.axis a).visVel)
  | none => leBytes 16 0

theorem memberReport_length (s : State) (g m : Nat) : (memberReport s g m).length = 16 := by
  unfold memberReport
  split
  · rw [List.length_append, leBytes_length, leBytes_length]
  · exact leBytes_length 16 0

/-- The 32 bytes of the group and 32 spare ones that stand before the members. -/
def groupHead (s : State) (g : Nat) : List Byte :=
  let p := s.grp g
  rep [(1, p.visState), (1, p.visFlags), (2, p.visFree), (2, p.visQueued), (2, p.visTag), (8, p.visNs), repI 8 p.visLeft, repI 8 p.visV] ++
    leBytes 32 0

theorem groupHead_length (s : State) (g : Nat) : (groupHead s g).length = 64 := rfl

theorem groupReport_eq (s : State) (g : Nat) : groupReport s g = groupHead s g ++ (upto 16).flatMap (memberReport s g) := by
  unfold groupReport
  refine congrArg (groupHead s g ++ ·) (List.flatMap_congr fun m _ => ?_)
  unfold memberReport
  cases s.memberAxis g m with
  | none => rfl
  | some a => exact congrArg (leBytes 8 (wrapN 64 (s.axis a).visPos) ++ ·) (List.append_nil _)

theorem groupReport_length (s : State) (g : Nat) : (groupReport s g).length = 320 := by
  rw [groupReport_eq, List.length_append, groupHead_length, List.length_flatMap]
  simp only [memberReport_length, upto, List.map_const', List.length_range, List.sum_replicate, smul_eq_mul]

theorem groupReport_member (s : State) (g : Nat) (i : Fin 16) :
    ((groupReport s g).drop (64 + 16 * i.val)).take 16 = memberReport s g i.val := by
  rw [groupReport_eq, ← groupHead_length s g, List.drop_length_add_append, flatMap_block (memberReport_length s g) _ _ (by simp [upto])]
  simp [upto]

theorem groupReport_runs {d : Desc} {s : State} : RunsForm (.groupReport d) 0x0109 opGroupReport d d s := ⟨rfl, rfl, rfl, rfl⟩

theorem opGroupReport_eq (d : Desc) (s : State) : opGroupReport d s =
    (ringPut d.ring.val (reportAddr d 2) (groupReport s (d.f 1 4 0)) s, { result := s.free? (d.f 1 4 0) }) := by
  simp [opGroupReport, writeReport]

/-- Settles O30: the four coupling rows by the cases of `queueCouple`, the others by what their operation writes. -/
theorem couplings : Obligations.Couplings := by
  intro d k s g m ct only src gear cam rest queued refused takes room bound master table engaged
  have hmaster : s.masterAbsent src (d.f 1 23 16) = false ↔ master := masterAbsent_eq_false_iff s src (d.f 1 23 16)
  refine ⟨fun h => ?_, fun h => ?_, fun h => ?_, fun h => ?_, fun h => ⟨fun hfree hn => ?_, fun hfree hn => ?_, fun hengaged => ?_⟩,
    fun pts per hnext hroom => ⟨fun hrise => ?_, fun i hfall => ?_⟩, fun h => ?_⟩
  · exact (gear_coupleAnswers (c := .gearEngage d) false rfl h).of_present_iff hmaster
  · obtain ⟨habsent, hnot, hfull, hqueued⟩ := gear_coupleAnswers (c := .gearDisengage d) true rfl h
    exact ⟨hqueued rfl, fun hno => habsent (.inr hno), hnot rfl, hfull rfl⟩
  · have hpresent : (!false && (s.masterAbsent src (d.f 1 23 16) || !(Table.look {} s.plan.cams ct).ready)) = false ↔ master ∧ table := by
      rw [← hmaster]
      simp [table]
    obtain ⟨hqueued, habsent, hnot, hfull⟩ := (cam_coupleAnswers (c := .camEngage d) false rfl h).of_present_iff hpresent
    exact ⟨fun hb hm ht => hqueued hb ⟨hm, ht⟩, fun hno => habsent (hno.imp_right fun hno hp => hno.elim (· hp.1) (· hp.2)),
      fun hb hm ht => hnot hb ⟨hm, ht⟩, fun hb hm ht => hfull hb ⟨hm, ht⟩⟩
  · obtain ⟨habsent, hnot, hfull, hqueued⟩ := cam_coupleAnswers (c := .camDisengage d) true rfl h
    exact ⟨hqueued rfl, fun hno => habsent (.inr hno), hnot rfl, hfull rfl⟩
  · obtain ⟨cl, hop⟩ := opCamLoad_of_points (s := s.fetched d) hfree hn
    obtain ⟨t, hanswers, honly, hplan⟩ := camLoad_runs.writes_plan h hop
    refine ⟨t, hanswers, honly, ?_, fun i hi => ?_, ?_⟩ <;> rw [hplan]
    · rfl
    · exact camStaged_other d s.plan hi
    · exact camStaged_same d s.plan
  · obtain ⟨cl, hop⟩ := opCamLoad_of_short (s := s.fetched d) hfree hn
    exact camLoad_runs.writes_plan (p := s.plan) h hop
  · obtain ⟨cl, hop⟩ := opCamLoad_of_engaged (s := s.fetched d) hengaged
    exact camLoad_runs.writes_plan (p := s.plan) h hop
  · exact ⟨_, rfl, camReady_of_rising hnext hroom hrise⟩
  · exact ⟨_, rfl, camReady_of_fall hnext hroom hfall⟩
  · refine ⟨groupReport_length s g, rfl, rfl, rfl, rfl, groupReport_member s g, ?_⟩
    have hlen : (groupReport s g).length ≤ 2 ^ 64 := (groupReport_length s g).trans_le (by decide)
    obtain ⟨t, hanswers, hframe, honly, hreport⟩ := groupReport_runs.writes_report h (opGroupReport_eq d (s.fetched d)) hlen
    rw [groupReport_length] at honly
    exact ⟨t, hanswers, hframe, honly, hreport⟩

end Sys2Proof.Machine
end

section
/-!
PROOF. What group commands and moves write beside the group: a change of state that finds the event buffer full (R83, R118), and the targets of
members that no segment holds (R119, R129).
-/
namespace Sys2Proof.Machine

/-- A part that is up in RUN, with one descriptor of ring 0 submitted and granted, `waiting` events in VE's buffer, and group 0 in a state. -/
def groupOnRing (st waiting : Nat) : State :=
  let event : Event := { code := 0x0021, sev := sevInfo, data := 0x3000, ctrl := 0x907F, time := 0, payload := 0 }
  let s : State := { host := { rings := [(0, { t := 1, g := 1 })], evBuf := List.replicate waiting event } }
  (((s.set F.glbStatus_READY 1).set F.glbMode_MODE_ACT mRun).set (F.hriRingStatus_STATE 0) 1).set (grpFld 0) st

/-- Where events wait, those of the step do not go out in it. -/
theorem stepEvents_of_waiting {s : State} (t : State) (h : s.host.evBuf.isEmpty = false) : stepEvents s t = t := by
  rw [stepEvents, if_neg (by simp [h])]

/-! ## A STOP and a full event buffer -/

/-- A GROUP_CTRL of group 0, whose CMD its row sets. -/
def commandOfGroup0 : Desc := { ring := 0, len := 1 }

/-- Group 0 moves, and VE's buffer of 256 events is full. -/
def movingWithFullBuffer : State := groupOnRing gMoving 256

theorem movingWithFullBuffer_accepts : Accepts movingWithFullBuffer 0x0105 (commandOfGroup0.force 1 11 8 3) :=
  ⟨by decide +kernel, by decide +kernel, by decide +kernel, fun h => absurd h (by decide +kernel), _, rfl, by decide, by decide⟩

/-- The STOP takes the group to HOLDING, and the event that tells of it is dropped and counted. -/
theorem groupStop_writes_evtLost : ∃ t, exec (.groupStop commandOfGroup0) movingWithFullBuffer = .next t ∧
    t.reg A.hriEvtLost = 1 ∧ movingWithFullBuffer.reg A.hriEvtLost = 0 :=
  ⟨_, rfl, by decide +kernel, by decide +kernel⟩

/-- Refutes O29: the clause of STOP names the registers of the group's state and of the descriptor's ring as all that changes, but the change of
state raises GROUP_STATE, and where VE's buffer holds 256 events HRI.EVT_LOST counts it (R83). The clauses that change a group's state would need
room in the buffer as a hypothesis. -/
theorem not_groupCommands : ¬ Obligations.GroupCommands := by
  intro h
  obtain ⟨-, -, hstop, -⟩ := h commandOfGroup0 0 movingWithFullBuffer
  obtain ⟨hmoving, -⟩ := hstop movingWithFullBuffer_accepts (by decide +kernel)
  obtain ⟨t, ⟨hexec, -⟩, ⟨-, hregs, -⟩, -⟩ := hmoving (by decide +kernel)
  rw [stepEvents_of_waiting t (by decide +kernel)] at hexec
  obtain ⟨u, hu, hlost, hnone⟩ := groupStop_writes_evtLost
  obtain rfl : t = u := Host.Outcome.next.inj (hexec.symm.trans hu)
  have hkept : t.reg A.hriEvtLost = movingWithFullBuffer.reg A.hriEvtLost := hregs _ (by decide) (by decide) (by decide) (by decide)
  rw [hlost, hnone] at hkept
  exact absurd hkept (by decide)

/-! ## A MOVE and a slot beyond the members -/

/-- A MOVE of group 0 that names no member. -/
def moveOfNone : Desc := { ring := 0, len := 2 }

/-- Group 0 is enabled, and its one axis stands in slot 16, which the 4-bit field of AXIS_BIND cannot name. -/
def enabledWithStrayMember : State := { groupOnRing gEnabled 1 with plan := { axes := [(0, { bound := some (0, 16), target := 77 })] } }

theorem enabledWithStrayMember_accepts : Accepts enabledWithStrayMember 0x0103 (moveOfNone.force 1 9 9 0) :=
  ⟨by decide +kernel, by decide +kernel, by decide +kernel, fun h => absurd h (by decide +kernel), _, rfl, by decide, by decide⟩

/-- The segment that the MOVE queues holds no target for slot 16, and the axis keeps its previous one. -/
theorem move_keeps_stray_target : ∃ t, exec (.move moveOfNone) enabledWithStrayMember = .next t ∧ (t.axis 0).target = 77 :=
  ⟨_, rfl, by decide +kernel⟩

/-- Refutes O28: the clause of a queued MOVE gives every axis of the group the target that the segment holds for its slot, and 0 where it holds
none, but an axis whose slot is not one of the 16 (R119) keeps its target. The clause would need slots below 16 as a hypothesis. -/
theorem not_moves : ¬ Obligations.Moves := by
  intro h
  obtain ⟨hmove, -⟩ := h moveOfNone 0 enabledWithStrayMember
  obtain ⟨hqueued, -⟩ := hmove enabledWithStrayMember_accepts (by decide +kernel) (by decide +kernel)
  obtain ⟨t, ⟨hexec, -⟩, -, ⟨-, htarget, -⟩, -⟩ := hqueued (by decide +kernel) (by decide +kernel)
  rw [stepEvents_of_waiting t (by decide +kernel)] at hexec
  obtain ⟨u, hu, hkept⟩ := move_keeps_stray_target
  obtain rfl : t = u := Host.Outcome.next.inj (hexec.symm.trans hu)
  have hzero : (t.axis 0).target = 0 := htarget (16, 0) (by decide +kernel)
  rw [hzero] at hkept
  exact absurd hkept (by decide)

end Sys2Proof.Machine
end

section
/-!
PROOF. What the fetch of a descriptor changes for a group number out of range (spec/05_servo_loops.md, R203, R210): the states of groups 0 to 31
stand in GLB.GRP_STATE, and the field of a higher number lies in another register. Where that register is HEAD of the ring, the fetch itself
moves the group from one state to another, and VE weighs IDLE and ENABLED of Table 5.19 in the state after the fetch.
-/
namespace Sys2Proof.Machine

/-- An accepted descriptor has one answer, NO_EFFECT as its operation reports it. -/
theorem RunsForm.noEffect_of_answers {c : Instr} {opcode : Nat} {op : Op} {d e : Desc} {s t : State} {noEffect : Bool} {result : Nat}
    (hc : RunsForm c opcode op d e s) (haccepts : Accepts s opcode e) (hwaiting : s.host.evBuf.isEmpty = false)
    (h : Answers c d s t noEffect result) : noEffect = (op e (s.fetched e)).2.noEffect := by
  obtain ⟨hexec, -, -, -, -, -, -, hbit, -⟩ := h
  obtain ⟨hexec', -, -, -, -, -, -, hbit', -⟩ := hc.answers haccepts rfl
  rw [stepEvents_of_waiting _ hwaiting] at hexec hexec'
  obtain rfl := Host.Outcome.next.inj (hexec.symm.trans hexec')
  exact hbit.symm.trans hbit'

/-- The number of the group whose state would stand in bits 3:0 of HEAD of ring 0. -/
def groupOfHead : Nat := 8 * ((A.hriRingHead 0 - A.glbGrpState 0) / 4)

/-- COMMISSION, and axis 0 is bound to the group of HEAD. Ring 0 has not fetched yet, so that the group reads IDLE; the first fetch counts HEAD
to 1, which reads ENABLED. One descriptor is submitted and one event waits. -/
def boundToHead : State :=
  { (groupOnRing gIdle 1).set F.glbMode_MODE_ACT mCommission with plan := { axes := [(0, { bound := some (groupOfHead, 0) })] } }

/-! ## A MOTOR to an IDLE group -/

/-- MOTOR of axis 0 as a stepper, without a feedback channel and without a supply input. -/
def motorOfAxis0 : Desc := { ring := 0, len := 5, w1 := 0x000000FF00000100, w4 := 0x000000FF00000000 }

theorem boundToHead_accepts_motor : Accepts boundToHead 0x0200 motorOfAxis0 :=
  ⟨by decide +kernel, by decide +kernel, by decide +kernel, fun h => absurd h (by decide +kernel), _, rfl, by decide, by decide⟩

/-- After the fetch the axis is not idle, and the MOTOR has no effect. -/
theorem motor_refused_after_fetch : (opMotor motorOfAxis0 (boundToHead.fetched motorOfAxis0)).2.noEffect = true := by decide +kernel

/-- Refutes O31: the clause of MOTOR weighs whether the axis is idle in the state before the fetch, but the fetch writes HEAD of the ring, and for
a group number out of range HEAD holds the group's state, so that the descriptor is answered with reason 0x02. The clauses of MOTOR, ISENSE and
STEPPER would need the axis's group to be one of 0 to 31 as a hypothesis. -/
theorem not_loopDescriptors : ¬ Obligations.LoopDescriptors := by
  intro h
  obtain ⟨hmotor, -⟩ := h motorOfAxis0 boundToHead
  obtain ⟨t, hanswers, -⟩ := hmotor boundToHead_accepts_motor
  have hform : RunsForm (.motor motorOfAxis0) 0x0200 opMotor motorOfAxis0 motorOfAxis0 boundToHead := ⟨rfl, rfl, rfl, rfl⟩
  have happlied := hform.noEffect_of_answers boundToHead_accepts_motor (by decide +kernel) hanswers
  rw [motor_refused_after_fetch] at happlied
  exact absurd happlied (by decide +kernel)

/-! ## An IDENTIFY to an IDLE group -/

/-- IDENTIFY of axis 0 with the step ELECTRICAL. -/
def identifyAxis0 : Desc := { ring := 0, len := 4, w1 := 0x100 }

theorem boundToHead_accepts_identify : Accepts boundToHead 0x0208 (identifyAxis0.force 1 13 13 0) :=
  ⟨by decide +kernel, by decide +kernel, by decide +kernel, fun h => absurd h (by decide +kernel), _, rfl, by decide, by decide⟩

/-- After the fetch the group is ENABLED, and identification begins. -/
theorem identify_applied_after_fetch :
    (opIdentifyAny (identifyAxis0.force 1 13 13 0) (boundToHead.fetched (identifyAxis0.force 1 13 13 0))).2.noEffect = false := by
  decide +kernel

/-- Refutes O32: the clause of IDENTIFY weighs whether the axis's group is ENABLED in the state before the fetch, but for a group number out of
range the fetch changes the group's state with HEAD of the ring: an IDLE group has become ENABLED, and identification begins where the clause
gives reason 0x02. The clause would need the axis's group to be one of 0 to 31 as a hypothesis. -/
theorem not_identification : ¬ Obligations.Identification := by
  intro h
  obtain ⟨hidentify, -⟩ := h identifyAxis0 0 {} boundToHead
  obtain ⟨t, hanswers, -⟩ := hidentify (by decide) boundToHead_accepts_identify
  have hrefused := (runsForm_force rfl).noEffect_of_answers boundToHead_accepts_identify (by decide +kernel) hanswers
  rw [identify_applied_after_fetch] at hrefused
  exact absurd hrefused (by decide +kernel)

end Sys2Proof.Machine
end

section
/-!
PROOF. The web line (spec/06_web_spans_and_hauldown.md): what the fetch of a descriptor changes for an axis in a group number out of range (R217),
and a winder at a bound of its diameter that finds the event buffer full (R83, R236).
-/
namespace Sys2Proof.Machine

/-! ## A ROLL to an axis at rest -/

/-- ROLL of axis 0 with 4096 counts per revolution and a diameter of 1 m. -/
def rollOfAxis0 : Desc := { ring := 0, len := 4, w1 := 0x10000000, w2 := 0x100000000 }

theorem boundToHead_accepts_roll : Accepts boundToHead 0x0301 (rollOfAxis0.force 1 15 15 0) :=
  ⟨by decide +kernel, by decide +kernel, by decide +kernel, fun h => absurd h (by decide +kernel), _, rfl, by decide, by decide⟩

/-- After the fetch the group of the axis reads ENABLED, and the ROLL has no effect. -/
theorem roll_refused_after_fetch :
    (opRollAny (rollOfAxis0.force 1 15 15 0) (boundToHead.fetched (rollOfAxis0.force 1 15 15 0))).2.noEffect = true := by decide +kernel

/-- Refutes O33: the clause of ROLL weighs whether the axis is in an IDLE group in the state before the fetch, but the fetch writes HEAD of the
ring, and for a group number out of range HEAD holds the group's state: the group has become ENABLED, and the ROLL is answered with reason 0x02
where the clause has it applied. Each clause that weighs R217 would need the groups of its axes to be of 0 to 31 as a hypothesis. -/
theorem not_webDescriptors : ¬ Obligations.WebDescriptors := by
  intro h
  obtain ⟨-, hroll, -⟩ := h rollOfAxis0 boundToHead
  obtain ⟨t, hanswers, -⟩ := hroll boundToHead_accepts_roll
  have hreported := (runsForm_force rfl).noEffect_of_answers boundToHead_accepts_roll (by decide +kernel) hanswers
  rw [roll_refused_after_fetch] at hreported
  exact absurd hreported (by decide +kernel)

/-! ## A revolution that ends at D_CORE -/

/-- A rewinder of 4096 counts per revolution stands at its D_CORE of 0.01 m and has turned once, while 0.031 m of web passed: D_ratio lies
below D_CORE. No excursion has been raised yet, and VE's buffer of 256 events is full. -/
def revolutionAtCore : State :=
  { groupOnRing gIdle 256 with
    loop := { axes := [(0, { actual := 4096 * 65536 })] }
    web := {
      rolls := [(0, { on := true, cpr := 4096 })]
      winders := [(0, { on := true, dCore := 167772, dMax := 4 * 2 ^ 24, d := 167772 * 2 ^ 40, revLen := 133143986 })] } }

/-- The diameter is held at D_CORE, and the DIAM_LIMIT that tells of it is dropped and counted. -/
theorem winderRev_writes_evtLost :
    (winderRev 0 revolutionAtCore).reg A.hriEvtLost = 1 ∧ revolutionAtCore.reg A.hriEvtLost = 0 := by
  decide +kernel

/-- Refutes O34: the clause of a revolution without deviation names the winder and the host interface as all that changes, but where D meets a
bound DIAM_LIMIT is raised (R236), and where VE's buffer holds 256 events HRI.EVT_LOST counts it (R83). The clause would need room in the buffer
as a hypothesis, as the clause of DIAM_DEV has it. -/
theorem not_webEvents : ¬ Obligations.WebEvents := by
  intro h
  obtain ⟨-, hrevolution, -⟩ := h 0 0 0 revolutionAtCore
  obtain ⟨-, htrusted, -⟩ := hrevolution (by decide +kernel) (by decide +kernel)
  obtain ⟨t, ht, hframe, -⟩ := htrusted (by decide +kernel) (.inl (by decide +kernel))
  obtain rfl : winderRev 0 revolutionAtCore = t := Host.Outcome.next.inj ht
  have hregs : (winderRev 0 revolutionAtCore).regs = revolutionAtCore.regs := congrArg (·.regs) hframe
  have hkept : (winderRev 0 revolutionAtCore).reg A.hriEvtLost = revolutionAtCore.reg A.hriEvtLost := by rw [State.reg, hregs, State.reg]
  obtain ⟨hlost, hnone⟩ := winderRev_writes_evtLost
  rw [hlost, hnone] at hkept
  exact absurd hkept (by decide)

end Sys2Proof.Machine
end

section
/-!
PROOF. Instructions of an engine (spec/07_spar_engines.md): saturation and rounding in the terms of the statements, and what one change of an
engine, and of its register set in use, makes of the issued state.
-/
namespace Sys2Proof.Machine

/-! ## Saturation and rounding (R4, R272, R274) -/

theorem clampI_eq_max_min {lo hi : Int} (h : lo ≤ hi) (x : Int) : clampI lo hi x = max lo (min hi x) := by
  unfold clampI
  split
  · omega
  · split <;> omega

theorem satI_eq_held (w : Nat) (x : Int) : satI w x = held w x := by
  have hpos : (0 : Int) < 2 ^ (w - 1) := by positivity
  rw [satI, held, clampI_eq_max_min] <;> push_cast
  · rfl
  · omega

theorem held_ne_iff_outside (w : Nat) (x : Int) : held w x ≠ x ↔ outside w x = true := by
  have hpos : (0 : Int) < 2 ^ (w - 1) := by positivity
  simp only [held, outside, decide_eq_true_eq]
  omega

theorem decide_satI_ne (w : Nat) (x : Int) : decide (satI w x ≠ x) = outside w x := by
  rw [satI_eq_held, Bool.eq_iff_iff, decide_eq_true_eq, held_ne_iff_outside]

theorem sat64_eq (x : Int) : sat64 x = (BitVec.ofInt 64 (held 64 x), outside 64 x) := by
  rw [sat64, decide_satI_ne, satI_eq_held]

theorem rdiv_eq_nearestAway (x : Int) {d : Nat} (hd : 0 < d) : rdiv x d = nearestAway x d := by
  have hd' : (d : Int) ≠ 0 := by omega
  have hsign : ¬ ((d : Int) < 0) := by omega
  simp only [rdiv, if_neg hd', nearestAway, Int.natAbs_natCast, hsign, decide_false]
  rcases lt_trichotomy x 0 with hx | rfl | hx
  · simp [hx, Int.sign_eq_neg_one_of_neg hx]
  · have hzero : (d : Int) / (2 * d) = 0 := Int.ediv_eq_zero_of_lt (by omega) (by omega)
    simp [hzero]
  · simp [Int.not_lt.2 hx.le, Int.sign_eq_one_of_pos hx]

/-! ## One change of an engine -/

/-- A change counts by what it makes of the engine as it stands. -/
theorem updEng_congr {s : State} {e : Nat} {f g : Eng → Eng} (h : f (s.eng e) = g (s.eng e)) : s.updEng e f = s.updEng e g := by
  simp only [State.eng] at h
  simp only [State.updEng, Table.upd, h]

/-- A second change of an engine that finds nothing to do leaves the first. -/
theorem updEng_updEng_fixed {s : State} {e : Nat} {f g : Eng → Eng} (h : f (g (s.eng e)) = g (s.eng e)) :
    (s.updEng e g).updEng e f = s.updEng e g := by
  rw [updEng_updEng]
  exact updEng_congr h

theorem issued_updEng_fixed {s : State} {i : SparAt} {f : Eng → Eng} (h : f ((s.issued i).eng i.e.val) = (s.issued i).eng i.e.val) :
    (s.issued i).updEng i.e.val f = s.issued i := by
  rw [State.issued, State.eng_updEng_same] at h
  exact updEng_updEng_fixed h

theorem updSet_congr {x : Eng} {f g : RegSet → RegSet} (h : f x.set' = g x.set') : x.updSet f = x.updSet g := by
  by_cases hin : x.inH = true <;> simp_all [Eng.updSet, Eng.set']

theorem updSet_fixed {x : Eng} {f : RegSet → RegSet} (h : f x.set' = x.set') : x.updSet f = x := by
  rw [updSet_congr (g := fun r => r) h, Eng.updSet]
  split <;> rfl

/-- A flag that sets after a change of the register set in use is part of that change. -/
theorem stickIf_updSet (c : Bool) (e b : Nat) (f : RegSet → RegSet) (s : State) :
    stickIf c e b (s.updEng e (fun x => x.updSet f)) =
      s.updEng e (fun x => x.updSet (fun r => { f r with sticky := (f r).sticky ||| if c then 2 ^ b else 0 })) := by
  cases c
  · simp [stickIf]
  · simp only [stickIf, if_true, State.stick, updEng_updEng, updSet_updSet]

/-! ## Shapes of instructions -/

/-- An instruction that changes nothing passes. -/
theorem makes_id_of {c : Instr} {s : State} {i : SparAt} {f : State → State} (hc : exec c s = .next (sparStep i f s)) (h : s.issues i)
    (hw : f (s.issued i) = s.issued i) : i.makes c s id :=
  makes_of hc h (hw.trans (issued_updEng_fixed rfl).symm)

theorem setG_writes {c : Instr} {s : State} {i : SparAt} {rd : Fin 64} {f : State → W64} {v : W64}
    (hc : exec c s = .next (sparStep i (fun t => t.setG i.e.val rd.val (f t)) s)) (h : s.issues i) (hv : f (s.issued i) = v) :
    i.writes c s rd.val v 0 :=
  writes_of hc h (hv ▸ setG_wrote s i rd.isLt _)

/-- An instruction of two registers that sets no flag. -/
theorem op2_writes {c : Instr} {s : State} {i : SparAt} {rd : Fin 64} {ra rb : Nat} {f : W64 → W64 → W64 × Bool} {v : W64}
    (hc : exec c s = .next (sparStep i (op2 i.e.val rd.val ra rb f) s)) (h : s.issues i)
    (hf : f (s.g i.e.val ra) (s.g i.e.val rb) = noSat v) : i.writes c s rd.val v 0 := by
  have hw := op2_wrote s i rd.isLt ra rb f
  rw [hf] at hw
  exact writes_of hc h hw

/-- An instruction of two registers whose result and whether SAT sets are known. -/
theorem op2_writes_flag {c : Instr} {s : State} {i : SparAt} {rd : Fin 64} {ra rb : Nat} {f : W64 → W64 → W64 × Bool} {v : W64} {b : Bool}
    (hc : exec c s = .next (sparStep i (op2 i.e.val rd.val ra rb f) s)) (h : s.issues i)
    (hf : f (s.g i.e.val ra) (s.g i.e.val rb) = (v, b)) : i.writes c s rd.val v (satFlag b) := by
  have hw := op2_wrote s i rd.isLt ra rb f
  rw [hf] at hw
  exact writes_of hc h hw

/-- An instruction of two registers whose result saturates. -/
theorem op2_writes_sat {c : Instr} {s : State} {i : SparAt} {rd : Fin 64} {ra rb : Nat} {f : W64 → W64 → W64 × Bool} {x : Int}
    (hc : exec c s = .next (sparStep i (op2 i.e.val rd.val ra rb f) s)) (h : s.issues i)
    (hf : f (s.g i.e.val ra) (s.g i.e.val rb) = sat64 x) :
    i.writes c s rd.val (BitVec.ofInt 64 (held 64 x)) (satFlag (outside 64 x)) :=
  op2_writes_flag hc h (hf.trans (sat64_eq x))

end Sys2Proof.Machine
end

section
/-!
PROOF. The integer instructions (spec/07_spar_engines.md, R272, R277): each one's function of its operands is the manual's.
-/
namespace Sys2Proof.Machine

theorem putLane_getLsbD (a : W64) (lane : Fin 4) (imm : BitVec 16) {k : Nat} (hk : k < 64) :
    (putLane a lane.val imm).getLsbD k = if k / 16 = lane.val then imm.getLsbD (k % 16) else a.getLsbD k := by
  have hmask : (0xFFFF : W64) = BitVec.ofNat 64 (2 ^ 16 - 1) := rfl
  simp only [putLane, BitVec.getLsbD_or, BitVec.getLsbD_and, BitVec.getLsbD_not, BitVec.getLsbD_shiftLeft, hmask, BitVec.getLsbD_ofNat,
    Nat.testBit_two_pow_sub_one, BitVec.getLsbD_setWidth]
  split
  case isTrue h =>
    have hsub : k - 16 * lane.val = k % 16 := by omega
    simp [hk, hsub, show ¬ k < 16 * lane.val by omega, show k % 16 < 16 by omega, show k % 16 < 64 by omega]
  case isFalse h =>
    by_cases hlow : k < 16 * lane.val
    · simp [hk, hlow]
    · have hhigh : ¬ k - 16 * lane.val < 16 := by omega
      simp [hk, hlow, hhigh, show imm.getLsbD (k - 16 * lane.val) = false from BitVec.getLsbD_of_ge _ _ (by omega)]

theorem shl_of_lt (a : W64) (n : Fin 64) : shl a n.val = a <<< n.val := if_neg (by omega)

theorem shr_of_lt (a : W64) (n : Fin 64) : shr a n.val = a >>> n.val := if_neg (by omega)

theorem sra_of_lt (a : W64) (n : Fin 64) : sra a n.val = a.sshiftRight n.val := by rw [sra, Nat.min_eq_left (by omega)]

/-- An arithmetic shift by 64 or more gives the sign (R277). -/
theorem sra_eq (a : W64) (n : Nat) : sra a n = if 64 ≤ n then (if a.toInt < 0 then -1 else 0) else a.sshiftRight n := by
  by_cases hn : 64 ≤ n
  · rw [if_pos hn, sra, Nat.min_eq_right (by omega)]
    apply BitVec.eq_of_toInt_eq
    have hlo := BitVec.le_toInt a
    have hhi := BitVec.toInt_lt (x := a)
    rw [BitVec.toInt_sshiftRight, Int.shiftRight_eq_div_pow]
    split
    · rw [show (-1 : W64).toInt = -1 from rfl]; omega
    · rw [show (0 : W64).toInt = 0 from rfl]; omega
  · rw [if_neg hn, sra, Nat.min_eq_left (by omega)]

theorem shls_eq (a : W64) (n : Nat) : shls a n = sat64 (if 64 ≤ n then a.toInt * 2 ^ 64 else a.toInt * 2 ^ n) := by
  rw [shls]
  by_cases hn : 64 ≤ n
  · rw [if_pos hn, Nat.min_eq_right hn, Nat.cast_pow, Nat.cast_ofNat]
  · rw [if_neg hn, Nat.min_eq_left (by omega), Nat.cast_pow, Nat.cast_ofNat]

theorem shls_of_lt (a : W64) (n : Fin 64) : shls a n.val = sat64 (a.toInt * 2 ^ n.val) := by rw [shls_eq, if_neg (by omega)]

/-- Where equals choose alike, a choice by `≤` is one by `<`. -/
theorem ite_le_eq_ite_lt {α β : Type} [LinearOrder α] {x y : α} {p q : β} (h : x = y → p = q) :
    (if x ≤ y then p else q) = if x < y then p else q := by
  rcases lt_trichotomy x y with hxy | hxy | hxy
  · rw [if_pos hxy, if_pos hxy.le]
  · rw [h hxy, ite_self, ite_self]
  · rw [if_neg hxy.not_ge, if_neg hxy.not_gt]

theorem b2w_decide (p : Prop) [Decidable p] : b2w (decide p) = if p then 1 else 0 := by
  by_cases h : p <;> simp [b2w, h]

/-- The low half of a signed product is the wrapping product. -/
theorem mul_eq_ofInt (a b : W64) : a * b = BitVec.ofInt 64 (a.toInt * b.toInt) := by
  rw [BitVec.ofInt_mul, BitVec.ofInt_toInt, BitVec.ofInt_toInt]

/-- CLIPS holds the operand within the limits, which never lie beyond the register format. -/
theorem clips_eq (a b : W64) : clips a b =
    (BitVec.ofInt 64 (max (-(b.toInt.natAbs : Int)) (min b.toInt.natAbs a.toInt)),
      decide (max (-(b.toInt.natAbs : Int)) (min b.toInt.natAbs a.toInt) ≠ a.toInt)) := by
  have hsat : satI 64 (max (-(b.toInt.natAbs : Int)) (min b.toInt.natAbs a.toInt)) =
      max (-(b.toInt.natAbs : Int)) (min b.toInt.natAbs a.toInt) := by
    have ha := BitVec.toInt_lt (x := a)
    have hb := BitVec.le_toInt b
    have hb' := BitVec.toInt_lt (x := b)
    rw [satI_eq_held, held]
    omega
  rw [clips, clampI_eq_max_min (by omega), hsat]

/-- SEL reads three registers: the condition chooses between the other two. -/
theorem sel_writes (i : SparAt) (rd ra rb rc : Fin 64) {s : State} (h : s.issues i) :
    i.writes (.sel i rd ra rb rc) s rd.val (if s.g i.e.val ra.val ≠ 0 then s.g i.e.val rb.val else s.g i.e.val rc.val) 0 := by
  rw [← g_issued s i ra.val]
  exact writes_of rfl h (op2_wrote s i rd.isLt _ _ _)

/-- Settles O5: every integer instruction writes its function of the operands, by the rule of its shape. -/
theorem aluIntegers : Obligations.AluIntegers := by
  intro i rd ra rb rc s h
  refine ⟨fun imm => ⟨op2_writes rfl h rfl, op2_writes rfl h rfl⟩, fun imm => setG_writes rfl h rfl,
    fun lane imm => ⟨_, op2_writes rfl h rfl, fun k hk => putLane_getLsbD _ lane imm hk⟩, sel_writes i rd ra rb rc h,
    op2_writes rfl h rfl, op2_writes_sat rfl h rfl, op2_writes rfl h rfl, op2_writes_sat rfl h rfl,
    op2_writes rfl h rfl, op2_writes rfl h rfl, op2_writes rfl h rfl, op2_writes rfl h rfl, op2_writes rfl h rfl,
    op2_writes rfl h (congrArg noSat (sra_eq _ _)), op2_writes_sat rfl h (shls_eq _ _),
    fun n => ⟨op2_writes rfl h (congrArg noSat (shl_of_lt _ n)), op2_writes rfl h (congrArg noSat (shr_of_lt _ n)),
      op2_writes rfl h (congrArg noSat (sra_of_lt _ n)), op2_writes_sat rfl h (shls_of_lt _ n)⟩,
    op2_writes rfl h (congrArg noSat (ite_le_eq_ite_lt BitVec.eq_of_toInt_eq)),
    op2_writes rfl h (congrArg noSat (ite_le_eq_ite_lt fun e => (BitVec.eq_of_toInt_eq e).symm)),
    op2_writes rfl h (congrArg noSat (ite_le_eq_ite_lt BitVec.eq_of_toNat_eq)),
    op2_writes rfl h (congrArg noSat (ite_le_eq_ite_lt fun e => (BitVec.eq_of_toNat_eq e).symm)),
    op2_writes_sat rfl h rfl, op2_writes_sat rfl h rfl,
    op2_writes rfl h (congrArg noSat (b2w_decide _)), op2_writes rfl h (congrArg noSat (b2w_decide _)),
    op2_writes rfl h (congrArg noSat (b2w_decide _)),
    op2_writes rfl h rfl, op2_writes rfl h rfl, op2_writes rfl h rfl, op2_writes rfl h rfl,
    op2_writes rfl h (congrArg noSat (mul_eq_ofInt _ _)), op2_writes_flag rfl h (clips_eq _ _)⟩

end Sys2Proof.Machine
end

section
/-!
PROOF. Normalised values (spec/07_spar_engines.md, R274, R275): the count of sign bits, the gain word of EXPX and the product of GMUL.
-/
namespace Sys2Proof.Machine

/-! ## The length of a number in bits -/

theorem bitLen_le_iff {x n : Nat} : bitLen x ≤ n ↔ x < 2 ^ n := by
  unfold bitLen
  split
  case isTrue h => simp [h]
  case isFalse h => rw [Nat.add_one_le_iff, Nat.log2_lt h]

theorem testBit_of_bitLen_le {x k : Nat} (h : bitLen x ≤ k) : x.testBit k = false := Nat.testBit_lt_two_pow (bitLen_le_iff.1 h)

theorem testBit_bitLen_sub_one {x : Nat} (h : 0 < bitLen x) : x.testBit (bitLen x - 1) = true := by
  have hlow : 2 ^ (bitLen x - 1) ≤ x := Nat.not_lt.1 fun hlt => by have := bitLen_le_iff.2 hlt; omega
  have hhigh : x < 2 ^ (bitLen x - 1 + 1) := bitLen_le_iff.1 (by omega)
  exact Nat.testBit_of_two_pow_le_and_two_pow_add_one_gt hlow hhigh

theorem bitLen_of_leading {x p : Nat} (hlow : 2 ^ p ≤ x) (hhigh : x < 2 ^ (p + 1)) : bitLen x = p + 1 := by
  have hle : bitLen x ≤ p + 1 := bitLen_le_iff.2 hhigh
  have hlt : ¬ bitLen x ≤ p := fun h => Nat.not_lt.2 hlow (bitLen_le_iff.1 h)
  omega

/-! ## Sign bits (R274, R275) -/

/-- A word with its bits inverted where it is negative: a bit of it is set where that bit of the word differs from the sign. -/
def signCleared {w : Nat} (v : BitVec w) : BitVec w := if v.msb then ~~~v else v

theorem signCleared_getLsbD {top : Nat} (v : BitVec (top + 1)) {k : Nat} (hk : k ≤ top) :
    (signCleared v).getLsbD k = (v.getLsbD k != v.getLsbD top) := by
  have htop : v.msb = v.getLsbD top := BitVec.msb_eq_getLsbD_last v
  rw [signCleared, ← htop]
  cases hsign : v.msb <;> simp [show k < top + 1 by omega]

theorem normOf_toInt {top : Nat} (v : BitVec (top + 1)) : normOf top v.toInt = top - bitLen (signCleared v).toNat := by
  have hv := v.isLt
  rw [normOf, signCleared, BitVec.toInt_eq_msb_cond]
  cases hsign : v.msb
  · have hpos : ¬ (v.toNat : Int) < 0 := by omega
    simp [hpos]
  · have hneg : (v.toNat : Int) - (2 ^ (top + 1) : Nat) < 0 := by omega
    simp only [if_true, if_pos hneg, BitVec.toNat_not]
    congr 2
    omega

theorem bitLen_signCleared_le {top : Nat} (v : BitVec (top + 1)) : bitLen (signCleared v).toNat ≤ top := by
  refine bitLen_le_iff.2 (Nat.lt_pow_two_of_testBit _ fun k hk => ?_)
  rcases Nat.eq_or_lt_of_le hk with rfl | hk
  · exact (signCleared_getLsbD v (Nat.le_refl top)).trans (bne_self_eq_false _)
  · exact BitVec.getLsbD_of_ge _ _ hk

/-- The count of NORM and NORMA: that many bits below the sign equal it, and the next one, where there is one, does not. -/
theorem normOf_counts {top : Nat} (v : BitVec (top + 1)) : normOf top v.toInt ≤ top ∧
    (∀ k, top - normOf top v.toInt ≤ k → k < top → v.getLsbD k = v.getLsbD top) ∧
    (normOf top v.toInt < top → v.getLsbD (top - 1 - normOf top v.toInt) ≠ v.getLsbD top) := by
  have hle := bitLen_signCleared_le v
  rw [normOf_toInt v]
  refine ⟨Nat.sub_le .., fun k hk hlt => ?_, fun hn => ?_⟩
  · have hbit := signCleared_getLsbD v hlt.le
    rw [BitVec.getLsbD, testBit_of_bitLen_le (by omega)] at hbit
    simpa using hbit.symm
  · rw [show top - 1 - (top - bitLen (signCleared v).toNat) = bitLen (signCleared v).toNat - 1 by omega]
    have hbit := signCleared_getLsbD v (show bitLen (signCleared v).toNat - 1 ≤ top by omega)
    rw [BitVec.getLsbD, testBit_bitLen_sub_one (by omega)] at hbit
    simpa using hbit.symm

/-! ## Gain words (R275, Table 5.3) -/

/-- Rounding to nearest by a shift, ties up: half of the divisor added, or one added to twice the number. -/
theorem shift_round_eq (a : Nat) {n : Nat} (hn : 0 < n) : (a + 2 ^ (n - 1)) / 2 ^ n = (2 * a + 2 ^ n) / 2 ^ (n + 1) := by
  obtain ⟨k, rfl⟩ : ∃ k, n = k + 1 := ⟨n - 1, by omega⟩
  rw [Nat.add_sub_cancel, pow_succ 2 (k + 1), Nat.mul_comm _ 2, ← Nat.mul_div_mul_left _ _ (show 0 < 2 by omega), Nat.mul_add, pow_succ 2 k,
    Nat.mul_comm (2 ^ k)]

/-- The mantissa of EXPX before a carry, from the position of the leading 1. -/
theorem expx_mantissa (a p : Nat) : (if p ≤ 31 then a * 2 ^ (31 - p) else (a + 2 ^ (p - 32)) / 2 ^ (p - 31)) =
    if p ≤ 31 then a * 2 ^ (31 - p) else (2 * a + 2 ^ (p - 31)) / 2 ^ (p - 30) := by
  refine ite_congr rfl (fun _ => rfl) fun hp => ?_
  have hround := shift_round_eq a (show 0 < p - 31 by omega)
  rwa [show p - 31 - 1 = p - 32 by omega, show p - 31 + 1 = p - 30 by omega] at hround

/-- The exponent byte of a gain word, as `sbits` and as a slice of the word read it. -/
theorem sbits_exponent (b : W64) : sbits b 39 32 = (BitVec.extractLsb' 32 8 b).toInt := by
  rw [BitVec.toInt_eq_toNat_cond, BitVec.extractLsb'_toNat, Nat.shiftRight_eq_div_pow, sbits, sx, bits, nbits]
  norm_num
  split <;> split <;> omega

theorem gmul_eq (a b : W64) :
    let e : Int := max (-64) (min 63 (BitVec.extractLsb' 32 8 b).toInt)
    let y := a.toInt * (b.toNat % 2 ^ 32 : Nat)
    gmul a b = sat64 (if 31 ≤ e then y * 2 ^ (e - 31).toNat else nearestAway y (2 ^ (31 - e).toNat)) := by
  intro e y
  have hexp : clampI (-64) 63 (sbits b 39 32) = e := by rw [clampI_eq_max_min (by omega), sbits_exponent]
  have hmant : bits b 31 0 = b.toNat % 2 ^ 32 := by simp [bits, nbits]
  rw [gmul, hexp, hmant]
  refine congrArg sat64 (ite_congr rfl (fun _ => ?_) fun _ => ?_)
  · push_cast; rfl
  · exact rdiv_eq_nearestAway y (by positivity)

theorem expx_zero (q : Nat) : expx 0 q = noSat 0 := if_pos rfl

/-- EXPX of a number whose leading 1 stands at `p`. -/
theorem expx_eq {a p : Nat} (hlow : 2 ^ p ≤ a) (hhigh : a < 2 ^ (p + 1)) (q : Nat) :
    let m0 := if p ≤ 31 then a * 2 ^ (31 - p) else (2 * a + 2 ^ (p - 31)) / 2 ^ (p - 30)
    let m := if m0 = 2 ^ 32 then 2 ^ 31 else m0
    let x : Int := (if m0 = 2 ^ 32 then p + 1 else p : Nat) - (q : Int)
    expx a q = (BitVec.ofNat 64 (if 63 < x then 63 * 2 ^ 32 + (2 ^ 32 - 1)
      else if x < -64 then (256 - 64) * 2 ^ 32 + (2 * m + 2 ^ (-64 - x).toNat) / 2 ^ ((-64 - x).toNat + 1)
      else (x % 256).toNat * 2 ^ 32 + m), decide (63 < x)) := by
  intro m0 m x
  have hpos : a ≠ 0 := by have := Nat.two_pow_pos p; omega
  have hp : bitLen a - 1 = p := by rw [bitLen_of_leading hlow hhigh, Nat.add_sub_cancel]
  have hm0 : (if p ≤ 31 then a * 2 ^ (31 - p) else (a + 2 ^ (p - 32)) / 2 ^ (p - 31)) = m0 := expx_mantissa a p
  rw [expx, if_neg hpos]
  simp only [hp, hm0]
  by_cases hbig : 63 < x
  · rw [if_pos hbig, decide_eq_true hbig, if_pos hbig]
  · rw [if_neg hbig, decide_eq_false hbig, if_neg hbig]
    by_cases hsmall : x < -64
    · rw [if_pos hsmall, if_pos hsmall, shift_round_eq m (show 0 < (-64 - x).toNat by omega)]
    · rw [if_neg hsmall, if_neg hsmall]; rfl

/-- Settles O6: NORM by the bits that differ from the sign, EXPX from the position of the leading 1, GMUL by the gain word's two fields. -/
theorem aluNormalised : Obligations.AluNormalised := by
  intro i rd ra rb q s h a b
  refine ⟨?_, fun ha => op2_writes rfl h ?_, fun p hlow hhigh => op2_writes_flag rfl h (expx_eq hlow hhigh q.val),
    op2_writes_sat rfl h (gmul_eq a b)⟩
  · obtain ⟨hle, heq, hne⟩ := normOf_counts (top := 63) a
    exact ⟨_, hle, op2_writes rfl h rfl, heq, hne⟩
  · show expx a.toNat q.val = noSat 0
    rw [ha]
    exact expx_zero q.val

end Sys2Proof.Machine
end

section
/-!
PROOF. Address generators and the data SRAM (spec/07_spar_engines.md, R263, R269, R270): the model's addresses and write-backs are those of the
statements, and what bytes a load reads and a store leaves.
-/
namespace Sys2Proof.Machine

/-! ## Address generators (R270) -/

theorem Ag.eff_eq_offset (x : Ag) : x.eff = x.offset := by
  unfold Ag.eff Ag.offset
  by_cases hlen : x.len = 0
  · rw [if_pos hlen, if_pos (.inl hlen)]
  · by_cases hofs : x.ofs.toNat < x.len
    · rw [if_neg hlen, if_pos (.inr hofs), Nat.mod_eq_of_lt hofs]
    · rw [if_neg hlen, if_neg (by tauto)]

theorem Ag.addr_eq_at (x : Ag) (step : Int) : x.addr step = x.at' step := by rw [Ag.addr, Ag.at', Ag.eff_eq_offset]

/-- The register set after a post-modify takes the generator and the fold flag that the model's step gives. -/
theorem RegSet.stepped_eq_post (r : RegSet) (k : Nat) (n : Int) : r.stepped k n =
    { r.updAg k (fun _ => ((r.ag k).post n).1) with sticky := r.sticky ||| if ((r.ag k).post n).2 then 2 ^ 2 else 0 } := by
  by_cases hlen : (r.ag k).len = 0
  · simp [RegSet.stepped, Ag.post, hlen]
  · simp [RegSet.stepped, Ag.post, hlen, Ag.eff_eq_offset]

theorem postAg_eq (e k : Nat) (step : Int) (s : State) : postAg e k step s = s.updEng e (fun x => x.updSet (fun r => r.stepped k step)) := by
  refine (stickIf_updSet _ e 2 _ s).trans (updEng_congr (updSet_congr ?_))
  exact (RegSet.stepped_eq_post _ k step).symm

/-- The address of an access and its write-back, in the terms of the statements (Table 7.3). -/
theorem memAddr_address (e n : Nat) (m : MemAddr) (s : State) : (memAddr e n m s).1 = (s.eng e).set'.memAt n m := by
  cases m with
  | base ra k => rfl
  | gen a post k => cases post <;> exact Ag.addr_eq_at _ _

/-- The write-back after an engine has already changed by `g`. -/
theorem afterMem_updEng (e n : Nat) (m : MemAddr) (g : Eng → Eng) (s t : State) :
    afterMem e (memAddr e n m s).2 (t.updEng e g) = t.updEng e (fun x => (g x).updSet (fun r => r.memAfter n m)) := by
  have hkeep : t.updEng e g = t.updEng e (fun x => (g x).updSet (fun r => r)) := updEng_congr (updSet_fixed rfl).symm
  cases m with
  | base ra k => exact hkeep
  | gen a post k =>
    cases post with
    | false => exact hkeep
    | true => exact (postAg_eq e a.val (k.toInt * n) (t.updEng e g)).trans (updEng_updEng ..)

/-! ## Bytes of a sparse memory -/

theorem memLe_lt (t : Table Byte) (a n : Nat) : memLe t a n < 2 ^ (8 * n) := by
  induction n generalizing a with
  | zero => simp [memLe]
  | succ n ih =>
    have hbyte : (Table.look 0 t a).toNat < 2 ^ 8 := (Table.look 0 t a).isLt
    have hrest := ih (a + 1)
    rw [memLe, show 8 * (n + 1) = 8 * n + 8 by omega, pow_add]
    omega

/-- A store leaves every byte outside its range. -/
theorem look_memPut_outside (v a n : Nat) (t : Table Byte) {b : Nat} (hb : b < a ∨ a + n ≤ b) :
    Table.look 0 (memPut v a n t) b = Table.look 0 t b := by
  induction n generalizing v a t with
  | zero => rfl
  | succ n ih =>
    rw [memPut, ih (v / 256) (a + 1) _ (by omega)]
    exact Table.look_put_other 0 _ 0 (by omega) t

/-- A store puts the bytes of its number, the low one first (R7). -/
theorem look_memPut_inside (v a n : Nat) (t : Table Byte) {k : Nat} (hk : k < n) :
    Table.look 0 (memPut v a n t) (a + k) = BitVec.ofNat 8 (v / 256 ^ k) := by
  induction n generalizing v a t k with
  | zero => omega
  | succ n ih =>
    rw [memPut]
    cases k with
    | zero => rw [look_memPut_outside _ _ _ _ (by omega), Nat.add_zero, Table.look_put_same, pow_zero, Nat.div_one]
    | succ k =>
      rw [show a + (k + 1) = a + 1 + k by omega, ih _ _ _ (by omega), Nat.div_div_eq_div_mul, pow_succ']

/-- A byte of a number within its low `n` bytes. -/
theorem ofNat_byte_mod (v : Nat) {k n : Nat} (hk : k < n) : BitVec.ofNat 8 (v % 256 ^ n / 256 ^ k) = BitVec.ofNat 8 (v / 256 ^ k) := by
  apply BitVec.eq_of_toNat_eq
  obtain ⟨j, rfl⟩ : ∃ j, n = k + 1 + j := ⟨n - (k + 1), by omega⟩
  rw [BitVec.toNat_ofNat, BitVec.toNat_ofNat, pow_add, pow_succ, Nat.mul_assoc, Nat.mod_mul_right_div_self]
  exact Nat.mod_mul_right_mod _ (2 ^ 8) _

/-! ## The data SRAM (R263) -/

theorem sparLoad_sram {e a n : Nat} {s : State} (halign : a % n = 0) (ha : a < 0x40000) : sparLoad e a n s = .ok (memLe (s.eng e).sram a n, s) := by
  simp only [sparLoad, halign, ne_eq, not_true_eq_false, if_false, ha, if_true]

theorem sparStore_sram {e a n v : Nat} {s : State} (halign : a % n = 0) (ha : a < 0x40000) :
    sparStore e a n v s = .ok (s.updEng e (fun y => { y with sram := memPut v a n y.sram })) := by
  simp only [sparStore, halign, ne_eq, not_true_eq_false, if_false, ha, if_true]

end Sys2Proof.Machine
end

section
/-!
PROOF. The accumulator (spec/07_spar_engines.md, R273, R274): the MAC class with its reload forms, EXTR, ACLD and NORMA.
-/
namespace Sys2Proof.Machine

@[simp] theorem updSet_sram (x : Eng) (f : RegSet → RegSet) : (x.updSet f).sram = x.sram := by
  by_cases hin : x.inH = true <;> simp [Eng.updSet, hin]

/-- The register set after an accumulation whose exact result is `x`: saturated, with ASAT (R273). -/
def RegSet.accumulated (r : RegSet) (k : Bool) (x : Int) : RegSet := r.withAcc k (held 160 x) (asatFlag (outside 160 x))

/-- The register set after both operands of a reload form have been loaded and both generators have stepped (R273). -/
def RegSet.reloaded (r : RegSet) (ra rb gx gy : Nat) (wx wy : W64) : RegSet :=
  (((r.wr ra wx).wr rb wy).stepped gx 8).stepped gy 8

theorem setAcc_eq (s : State) (e : Nat) (k : Bool) (v : Int) :
    s.setAcc e k v = s.updEng e (fun x => x.updSet (fun r => r.withAcc k v 0)) := by
  cases k <;> simp [State.setAcc, RegSet.withAcc]

theorem RegSet.withAcc_stick (r : RegSet) (k : Bool) (v : Int) (n : Nat) :
    { r.withAcc k v 0 with sticky := (r.withAcc k v 0).sticky ||| n } = r.withAcc k v n := by
  cases k <;> simp [RegSet.withAcc]

section MacClass
variable {s : State} {i : SparAt} {ra rb : Fin 64} {acc : Bool} {sg : MacSign} {f : Int → Int → Int}

/-- The exact result of an instruction of the MAC class that an engine issues. -/
def State.macResult (s : State) (e : Nat) (ra rb : Fin 64) (acc : Bool) (sg : MacSign) (f : Int → Int → Int) : Int :=
  f (s.acc e acc).toInt (macProd sg (s.g e ra.val) (s.g e rb.val))

theorem macTo_eq (e : Nat) : macTo e ra.val rb.val acc sg f s =
    s.updEng e (fun x => x.updSet (fun r => r.accumulated acc (s.macResult e ra rb acc sg f))) := by
  have hflag (x : Int) : (held 160 x != x) = outside 160 x := by rw [Bool.eq_iff_iff, bne_iff_ne, held_ne_iff_outside]
  simp only [macTo, setAcc_eq, stickIf_updSet, satI_eq_held, hflag, RegSet.withAcc_stick]
  rfl

theorem macResult_issued : (s.issued i).macResult i.e.val ra rb acc sg f = s.macResult i.e.val ra rb acc sg f := by
  simp only [State.macResult, acc_issued, g_issued]

theorem macTo_makes {c : Instr} (hc : exec c s = .next (sparStep i (macTo i.e.val ra.val rb.val acc sg f) s)) (h : s.issues i) :
    i.makes c s (fun x => x.updSet (fun r => r.accumulated acc (s.macResult i.e.val ra rb acc sg f))) := by
  rw [← macResult_issued]
  exact makes_of hc h (macTo_eq i.e.val)

variable {gx gy : Fin 4} {mf : Nat}

/-- The word that a reload form reads through a generator (R273). -/
def Eng.reloadWord (x : Eng) (g : Fin 4) : W64 := BitVec.ofNat 64 (memLe x.sram ((x.set'.ag g.val).at' 0) 8)

/-- The generator reads an aligned word of the data SRAM. -/
def Eng.reads8 (x : Eng) (g : Fin 4) : Prop := (x.set'.ag g.val).at' 0 % 8 = 0 ∧ (x.set'.ag g.val).at' 0 < 0x40000

theorem macLoad_eq (e : Nat) (hreg : ra ≠ rb) (hgen : gx ≠ gy) (hx : (s.eng e).reads8 gx) (hy : (s.eng e).reads8 gy) :
    macLoad e ra.val rb.val mf gx.val gy.val acc sg f s = s.updEng e (fun x => x.updSet (fun r =>
      (r.accumulated acc (s.macResult e ra rb acc sg f)).reloaded ra.val rb.val gx.val gy.val
        ((s.eng e).reloadWord gx) ((s.eng e).reloadWord gy))) := by
  obtain ⟨hxalign, hxin⟩ := hx
  obtain ⟨hyalign, hyin⟩ := hy
  have hdistinct : ¬ (ra.val = rb.val ∨ gx.val = gy.val) := by
    rintro (hab | hab)
    · exact hreg (Fin.ext hab)
    · exact hgen (Fin.ext hab)
  simp only [macLoad, if_neg hdistinct, Ag.addr_eq_at, macTo_eq, sparLoad_sram hxalign hxin, sparLoad_sram hyalign hyin, State.setG, postAg_eq,
    updEng_updEng, updSet_updSet, State.eng_updEng_same, updSet_sram]
  rfl

theorem macLoad_makes {c : Instr} (hc : exec c s = .next (sparStep i (macLoad i.e.val ra.val rb.val mf gx.val gy.val acc sg f) s))
    (h : s.issues i) (hreg : ra ≠ rb) (hgen : gx ≠ gy) (hx : (s.eng i.e.val).reads8 gx) (hy : (s.eng i.e.val).reads8 gy) :
    i.makes c s (fun x => x.updSet (fun r =>
      (r.accumulated acc (s.macResult i.e.val ra rb acc sg f)).reloaded ra.val rb.val gx.val gy.val
        ((s.eng i.e.val).reloadWord gx) ((s.eng i.e.val).reloadWord gy))) := by
  have heng := eng_issued s i
  have hword (g : Fin 4) : ((s.issued i).eng i.e.val).reloadWord g = (s.eng i.e.val).reloadWord g := by rw [heng]; rfl
  have hreads (g : Fin 4) (hg : (s.eng i.e.val).reads8 g) : ((s.issued i).eng i.e.val).reads8 g := by rw [heng]; exact hg
  rw [← macResult_issued, ← hword gx, ← hword gy]
  exact makes_of hc h (macLoad_eq i.e.val hreg hgen (hreads gx hx) (hreads gy hy))

end MacClass

/-- EXTR rounds or truncates, saturates and sets ASAT where it clamps (R274). -/
theorem extr_writes (i : SparAt) (rd : Fin 64) {shift : Fin 128} (acc rnd : Bool) {s : State} (h : s.issues i) (hshift : shift.val ≤ 96) :
    let v := (s.acc i.e.val acc).toInt
    let q : Int := if rnd then nearestAway v (2 ^ shift.val) else v.fdiv (2 ^ shift.val)
    i.writes (.extr i rd shift acc rnd) s rd.val (BitVec.ofInt 64 (held 64 q)) (asatFlag (outside 64 q)) := by
  intro v q
  have hq : (if rnd then rdiv v (2 ^ shift.val : Nat) else fdiv v (2 ^ shift.val : Nat)) = q := by
    refine ite_congr rfl (fun _ => rdiv_eq_nearestAway v (by positivity)) fun _ => ?_
    push_cast; rfl
  have heffect : opExtr i.e.val rd.val shift.val acc rnd (s.issued i) =
      stickIf (outside 64 q) i.e.val 1 ((s.issued i).setG i.e.val rd.val (BitVec.ofInt 64 (held 64 q))) := by
    simp only [opExtr, if_neg (Nat.not_lt.2 hshift), acc_issued]
    rw [hq, sat64_eq]
  refine writes_of rfl h ?_
  show i.wrote s (opExtr i.e.val rd.val shift.val acc rnd (s.issued i)) _ _ _
  rw [heffect]
  exact setG_stickIf_wrote s i rd.isLt _ _ 1

theorem acld_makes (i : SparAt) (ra : Fin 64) {shift : Fin 128} (acc : Bool) {s : State} (h : s.issues i) (hshift : shift.val ≤ 96) :
    i.makes (.acld i ra shift acc) s
      (fun x => x.updSet (fun r => r.withAcc acc ((s.g i.e.val ra.val).toInt * 2 ^ shift.val) 0)) := by
  refine makes_of rfl h ?_
  simp only [opAcld, if_neg (Nat.not_lt.2 hshift), g_issued, setAcc_eq]
  push_cast; rfl

/-- Settles O7: the MAC class by its exact result, the reload forms by the two words read through the generators, NORMA by the bits that differ
from the sign. -/
theorem macAccumulator : Obligations.MacAccumulator := by
  intro i rd ra rb acc s h a b v
  refine ⟨fun sg => ?_, fun shift rnd hshift => ⟨extr_writes i rd acc rnd h hshift, acld_makes i ra acc h hshift⟩, ?_⟩
  · intro p put
    have hp : macProd sg a b = p := by cases sg <;> rfl
    have hresult (f : Int → Int → Int) : s.macResult i.e.val ra rb acc sg f = f v p := by rw [← hp]; rfl
    refine ⟨hresult (fun _ p => p) ▸ macTo_makes rfl h, hresult (fun a p => a + p) ▸ macTo_makes rfl h,
      hresult (fun a p => a - p) ▸ macTo_makes rfl h, ?_⟩
    intro gx gy hgen hreg ax ay hax hay hax' hay' word reload
    have hx : (s.eng i.e.val).reads8 gx := ⟨hax, hax'⟩
    have hy : (s.eng i.e.val).reads8 gy := ⟨hay, hay'⟩
    exact ⟨hresult (fun _ p => p) ▸ macLoad_makes rfl h hreg hgen hx hy, hresult (fun a p => a + p) ▸ macLoad_makes rfl h hreg hgen hx hy,
      hresult (fun a p => a - p) ▸ macLoad_makes rfl h hreg hgen hx hy⟩
  · obtain ⟨hle, heq, hne⟩ := normOf_counts (top := 159) (s.acc i.e.val acc)
    exact ⟨_, hle, setG_writes rfl h (by rw [acc_issued]), heq, hne⟩

end Sys2Proof.Machine
end

section
/-!
PROOF. Divisions and the square root (spec/07_spar_engines.md, R276).
-/
namespace Sys2Proof.Machine

/-- The result of a division into a format from `lo` to `hi`: clamped, and for a divisor of 0 the largest magnitude with the dividend's sign. -/
def divided (lo hi a b : Int) : Int :=
  if b = 0 then (if a = 0 then 0 else if a < 0 then lo else hi) else clampI lo hi (a.tdiv b)

/-- The flags of a division: DIVZ for a divisor of 0, else SAT where the quotient was clamped. -/
def dividedFlags (lo hi a b : Int) : Nat :=
  divzFlag (decide (b = 0)) ||| satFlag (decide (b ≠ 0) && decide (clampI lo hi (a.tdiv b) ≠ a.tdiv b))

theorem opDivide_wrote (s : State) (i : SparAt) (rd : Fin 64) (signed : Bool) (a b : Int) :
    let lo : Int := if signed then -(2 ^ 63) else 0
    let hi : Int := if signed then 2 ^ 63 - 1 else 2 ^ 64 - 1
    i.wrote s (opDivide i.e.val rd.val signed a b (s.issued i)) rd.val (BitVec.ofInt 64 (divided lo hi a b)) (dividedFlags lo hi a b) := by
  intro lo hi
  by_cases hb : b = 0
  · have hflags : dividedFlags lo hi a b = 2 ^ 3 := by simp [dividedFlags, divzFlag, satFlag, hb]
    have heffect : opDivide i.e.val rd.val signed a b (s.issued i) =
        stickIf true i.e.val 3 ((s.issued i).setG i.e.val rd.val (BitVec.ofInt 64 (divided lo hi a b))) := by
      rw [opDivide, if_pos hb, divided, if_pos hb]; rfl
    rw [heffect, hflags]
    exact setG_stickIf_wrote s i rd.isLt _ true 3
  · have hflags : dividedFlags lo hi a b = satFlag (decide (clampI lo hi (a.tdiv b) ≠ a.tdiv b)) := by simp [dividedFlags, divzFlag, hb]
    have hne (x y : Int) : (x != y) = decide (x ≠ y) := by rw [Bool.eq_iff_iff, bne_iff_ne, decide_eq_true_iff]
    have heffect : opDivide i.e.val rd.val signed a b (s.issued i) =
        stickIf (decide (clampI lo hi (a.tdiv b) ≠ a.tdiv b)) i.e.val 0
          ((s.issued i).setG i.e.val rd.val (BitVec.ofInt 64 (divided lo hi a b))) := by
      rw [opDivide, if_neg hb, divided, if_neg hb, ← hne]
    rw [heffect, hflags]
    exact setG_stickIf_wrote s i rd.isLt _ _ 0

theorem clampI_signed (q : Int) : clampI (-(2 ^ 63)) (2 ^ 63 - 1) q = held 64 q := by
  rw [clampI_eq_max_min (by norm_num), held]

theorem divided_signed (a b : Int) : divided (-(2 ^ 63)) (2 ^ 63 - 1) a b =
    if b = 0 then (if a = 0 then 0 else if a < 0 then -(2 ^ 63) else 2 ^ 63 - 1) else held 64 (a.tdiv b) := by
  rw [divided, clampI_signed]

theorem dividedFlags_signed (a b : Int) : dividedFlags (-(2 ^ 63)) (2 ^ 63 - 1) a b =
    divzFlag (decide (b = 0)) ||| satFlag (decide (b ≠ 0) && outside 64 (a.tdiv b)) := by
  rw [dividedFlags, clampI_signed, ← decide_satI_ne, satI_eq_held]

/-- A quotient of unsigned operands lies within the format. -/
theorem clampI_unsigned (a b : W64) : clampI 0 (2 ^ 64 - 1) (Int.tdiv a.toNat b.toNat) = (a.toNat / b.toNat : Nat) := by
  have hle := Nat.div_le_self a.toNat b.toNat
  have ha := a.isLt
  rw [← Int.ofNat_tdiv, clampI_eq_max_min (by norm_num)]
  generalize a.toNat / b.toNat = q at *
  omega

theorem divided_unsigned (a b : W64) : BitVec.ofInt 64 (divided 0 (2 ^ 64 - 1) a.toNat b.toNat) =
    if b = 0 then (if a = 0 then 0 else -1) else BitVec.ofNat 64 (a.toNat / b.toNat) := by
  have hzero (x : W64) : (x.toNat : Int) = 0 ↔ x = 0 := by rw [Int.natCast_eq_zero, ← BitVec.toNat_inj]; rfl
  have hsign : ¬ ((a.toNat : Int) < 0) := by omega
  simp only [divided, hzero, hsign, if_false, clampI_unsigned]
  split
  · split <;> rfl
  · rfl

theorem dividedFlags_unsigned (a b : W64) : dividedFlags 0 (2 ^ 64 - 1) a.toNat b.toNat = divzFlag (decide (b = 0)) := by
  have hzero : (b.toNat : Int) = 0 ↔ b = 0 := by rw [Int.natCast_eq_zero, ← BitVec.toNat_inj]; rfl
  have hquotient : clampI 0 (2 ^ 64 - 1) (Int.tdiv a.toNat b.toNat) = Int.tdiv a.toNat b.toNat := by
    rw [clampI_unsigned, Int.ofNat_tdiv]
  rw [dividedFlags, hquotient, decide_eq_false (not_not_intro rfl), Bool.and_false, decide_eq_decide.2 hzero]
  exact Nat.or_zero _

/-- A signed division, of whatever dividend and divisor the instruction reads. -/
theorem signed_divide_writes {c : Instr} {s : State} {i : SparAt} {rd : Fin 64} {x y : State → Int} {a b : Int}
    (hc : exec c s = .next (sparStep i (fun t => opDivide i.e.val rd.val true (x t) (y t) t) s)) (h : s.issues i)
    (hx : x (s.issued i) = a) (hy : y (s.issued i) = b) :
    i.writes c s rd.val
      (BitVec.ofInt 64 (if b = 0 then (if a = 0 then 0 else if a < 0 then -(2 ^ 63) else 2 ^ 63 - 1) else held 64 (a.tdiv b)))
      (divzFlag (decide (b = 0)) ||| satFlag (decide (b ≠ 0) && outside 64 (a.tdiv b))) := by
  rw [← divided_signed, ← dividedFlags_signed, ← hx, ← hy]
  exact writes_of hc h (opDivide_wrote s i rd true _ _)

theorem divu_writes (i : SparAt) (rd ra rb : Fin 64) {s : State} (h : s.issues i) :
    i.writes (.divu i rd ra rb) s rd.val
      (if s.g i.e.val rb.val = 0 then (if s.g i.e.val ra.val = 0 then 0 else -1)
        else BitVec.ofNat 64 ((s.g i.e.val ra.val).toNat / (s.g i.e.val rb.val).toNat))
      (divzFlag (decide (s.g i.e.val rb.val = 0))) := by
  rw [← divided_unsigned, ← dividedFlags_unsigned (s.g i.e.val ra.val), ← g_issued s i ra.val, ← g_issued s i rb.val]
  exact writes_of rfl h (opDivide_wrote s i rd false _ _)

/-- Bit by bit from bit `n - 1` down, the root stays within `2 ^ n` of the true one. -/
theorem isqrtAux_bounds (x n r : Nat) (hlow : r * r ≤ x) (hhigh : x < (r + 2 ^ n) * (r + 2 ^ n)) :
    isqrtAux x n r * isqrtAux x n r ≤ x ∧ x < (isqrtAux x n r + 1) * (isqrtAux x n r + 1) := by
  induction n generalizing r with
  | zero => exact ⟨hlow, hhigh⟩
  | succ n ih =>
    rw [isqrtAux]
    split
    case isTrue hbit =>
      refine ih _ hbit ?_
      rwa [Nat.add_assoc, ← Nat.two_mul, ← pow_succ']
    case isFalse hbit => exact ih r hlow (Nat.not_le.1 hbit)

theorem isqrt_bounds {x : Nat} (hx : x < 2 ^ 128) : isqrt x * isqrt x ≤ x ∧ x < (isqrt x + 1) * (isqrt x + 1) :=
  isqrtAux_bounds x 64 0 (Nat.zero_le x) (by simpa [← pow_add] using hx)

/-- Settles O8: the divisions by what their common operation writes, the square root by its two bounds. -/
theorem division : Obligations.Division := by
  intro i rd ra rb s h a b signed
  have hroot := isqrt_bounds (lt_trans a.isLt (by norm_num))
  exact ⟨signed_divide_writes rfl h (by rw [g_issued]) (by rw [g_issued]), divu_writes i rd ra rb h,
    signed_divide_writes rfl h (by rw [acc_issued]; rfl) (by rw [g_issued]),
    signed_divide_writes rfl h (by rw [acc_issued]; rfl) (by rw [g_issued]), _, op2_writes rfl h rfl, hroot⟩

end Sys2Proof.Machine
end

section
/-!
PROOF. Loads and stores (spec/07_spar_engines.md, R263, R270, R280): the windows of Table 7.2, and LD and ST over them.
-/
namespace Sys2Proof.Machine

/-! ## Windows of the data address space (Table 7.2) -/

section Windows
variable {e n : Nat} {s : State}

theorem inWin_offset {base size o : Nat} (ho : o < size) : inWin (base + o) base size = true := by
  rw [inWin, decide_eq_true_eq]; omega

theorem inWin_outside {a base size : Nat} (ha : a < base ∨ base + size ≤ a) : inWin a base size = false := by
  rw [inWin, decide_eq_false_iff_not]; omega

/-- The engine's exchange write image, where a word not written in this tick reads as published (R265). -/
theorem sparLoad_image {o : Nat} (ho : o < 0x1000) (halign : (0x80000 + o) % n = 0) : sparLoad e (0x80000 + o) n s =
    .ok (memLe (if (s.eng e).xwMask.contains (o / 8) then (s.eng e).xw else (s.eng e).pub) o n, s) := by
  simp [sparLoad, halign, inWin_offset ho, show ¬ 0x80000 + o < 0x40000 by omega]

/-- A planner engine's Halyard input buffer. -/
theorem sparLoad_halyard {o : Nat} (ho : o < 0x1000) (hlo : 24 ≤ e) (hhi : e < 32) (halign : (0x90000 + o) % n = 0) :
    sparLoad e (0x90000 + o) n s = .ok (memLe (s.eng e).hal o n, s) := by
  simp [sparLoad, halign, isPe, hlo, hhi, inWin_offset ho, inWin_outside (show 0x90000 + o < 0x80000 ∨ 0x80000 + 0x1000 ≤ 0x90000 + o by omega),
    show ¬ 0x90000 + o < 0x40000 by omega]

/-- The parameter window (R268). -/
theorem sparLoad_parameters {o : Nat} (ho : o < 0x1000) (halign : (0xA0000 + o) % n = 0) :
    sparLoad e (0xA0000 + o) n s = .ok (memLe (s.eng e).prm o n, s) := by
  simp [sparLoad, halign, inWin_offset ho, inWin_outside (show 0xA0000 + o < 0x80000 ∨ 0x80000 + 0x1000 ≤ 0xA0000 + o by omega),
    inWin_outside (show 0xA0000 + o < 0x90000 ∨ 0x90000 + 0x1000 ≤ 0xA0000 + o by omega), show ¬ 0xA0000 + o < 0x40000 by omega]

/-- The published exchange of an engine: its own, or that of an engine that runs a Spar image (R265). -/
theorem sparLoad_published {k o : Nat} (hk : k < 38) (ho : o < 0x1000) (hown : k = e ∨ s.ephagon k = false)
    (halign : (0x100000 + 0x1000 * k + o) % n = 0) : sparLoad e (0x100000 + 0x1000 * k + o) n s = .ok (memLe (s.eng k).pub o n, s) := by
  have hbeyond (base : Nat) (hb : base ≤ 0xA0000) : inWin (0x100000 + 0x1000 * k + o) base 0x1000 = false := inWin_outside (.inr (by omega))
  have hin : inWin (0x100000 + 0x1000 * k + o) 0x100000 0x26000 = true := by
    rw [Nat.add_assoc]; exact inWin_offset (by omega)
  have hengine : (0x100000 + 0x1000 * k + o - 0x100000) / 0x1000 = k := by omega
  have hoffset : (0x100000 + 0x1000 * k + o) % 0x1000 = o := by omega
  have hspar : ¬ (k ≠ e ∧ s.ephagon k = true) := by
    rintro ⟨hne, heph⟩
    rcases hown with hke | heph'
    · exact hne hke
    · rw [heph] at heph'; cases heph'
  simp only [sparLoad, halign, hbeyond 0x80000 (by omega), hbeyond 0x90000 (by omega), hbeyond 0xA0000 (by omega), hin, hengine, hoffset,
    if_neg hspar, show ¬ 0x100000 + 0x1000 * k + o < 0x40000 by omega, ne_eq, not_true_eq_false, if_false, if_true, Bool.false_eq_true, false_and]

end Windows

/-! ## LD and ST -/

@[simp] theorem issued_pub (s : State) (i : SparAt) (e : Nat) : ((s.issued i).eng e).pub = (s.eng e).pub := by
  by_cases h : e = i.e.val
  · rw [h, eng_issued]
  · rw [issued_other s i h]

/-- The extension of a loaded value by its size code (R280). -/
theorem extend_eq (sz v : Nat) (hv : v < 2 ^ (8 * szBytes sz)) : extend sz v =
    if sz < 4 then BitVec.ofNat 64 v
    else if v < 2 ^ (8 * szBytes sz - 1) then BitVec.ofNat 64 v else BitVec.ofInt 64 (v - 2 ^ (8 * szBytes sz) : Int) := by
  refine ite_congr rfl (fun _ => rfl) fun _ => ?_
  simp only [sx, Nat.mod_eq_of_lt hv]
  split
  · exact BitVec.ofInt_natCast ..
  · push_cast; rfl

section Access
variable {i : SparAt} {rd : Fin 64} {sz : Fin 7} {m : MemAddr} {s : State}

theorem memAddr_issued (n : Nat) : (memAddr i.e.val n m (s.issued i)).1 = (s.eng i.e.val).set'.memAt n m := by
  rw [memAddr_address, set_issued]

/-- A load that finds its value and changes nothing writes back the generator, then the register. -/
theorem ld_makes {v : Nat} (h : s.issues i)
    (hload : sparLoad i.e.val ((s.eng i.e.val).set'.memAt (szBytes sz.val) m) (szBytes sz.val) (s.issued i) = .ok (v, s.issued i)) :
    i.makes (.ld i rd sz m) s
      (fun y => y.updSet (fun r => (r.memAfter (szBytes sz.val) m).wr rd.val (extend sz.val v))) := by
  refine makes_of rfl h ?_
  simp only [opLoad, memAddr_issued, hload]
  rw [State.issued, afterMem_updEng, State.setG, updEng_updEng, updEng_updEng]
  simp only [updSet_updSet]

/-- The engine with the low `n` bytes of a number stored in its data SRAM (R280). -/
def Eng.stored (y : Eng) (a n v : Nat) : Eng := { y with sram := memPut (v % 256 ^ n) a n y.sram }

/-- A store into the data SRAM writes the bytes, then the generator. -/
theorem st_effect (halign : (s.eng i.e.val).set'.memAt (szBytes sz.val) m % szBytes sz.val = 0)
    (ha : (s.eng i.e.val).set'.memAt (szBytes sz.val) m < 0x40000) :
    opStore i.e.val rd.val sz.val m (s.issued i) = (s.issued i).updEng i.e.val (fun y =>
      (y.stored ((s.eng i.e.val).set'.memAt (szBytes sz.val) m) (szBytes sz.val) (s.g i.e.val rd.val).toNat).updSet
        (fun r => r.memAfter (szBytes sz.val) m)) := by
  simp only [opStore, memAddr_issued, sparStore_sram halign ha, g_issued]
  exact afterMem_updEng ..

/-- The pc, the data SRAM and the registers change apart from each other. -/
theorem updSet_stored (x : Eng) (pc a n v : Nat) (f : RegSet → RegSet) : (Eng.stored { x with pc := pc } a n v).updSet f =
    { x.updSet f with pc := pc, sram := memPut (v % 256 ^ n) a n x.sram } := by
  by_cases hin : x.inH = true <;> simp [Eng.updSet, Eng.stored, hin]

theorem st_stores (h : s.issues i) (halign : (s.eng i.e.val).set'.memAt (szBytes sz.val) m % szBytes sz.val = 0)
    (ha : (s.eng i.e.val).set'.memAt (szBytes sz.val) m < 0x40000) :
    ∃ t, exec (.st i rd sz m) s = .next t ∧ OnlyEngine i s t ∧
      t.eng i.e.val = { (s.eng i.e.val).updSet (fun r => r.memAfter (szBytes sz.val) m) with
        pc := (s.eng i.e.val).pc + 4
        sram := memPut ((s.g i.e.val rd.val).toNat % 256 ^ szBytes sz.val) ((s.eng i.e.val).set'.memAt (szBytes sz.val) m)
          (szBytes sz.val) (s.eng i.e.val).sram } := by
  obtain ⟨t, ht, honly, heng⟩ := makes_of (c := .st i rd sz m) rfl h (st_effect halign ha)
  exact ⟨t, ht, honly, heng.trans (updSet_stored (s.eng i.e.val) _ _ _ _ _)⟩

end Access

/-- Settles O10: LD by the window that holds its address, ST by the bytes of the data SRAM that it writes. -/
theorem loadStore : Obligations.LoadStore := by
  intro i rd sz m s h x n a loads halign
  have hn : n = szBytes sz.val := rfl
  clear_value n
  subst hn
  have hloads (t : Table Byte) (o : Nat)
      (hload : sparLoad i.e.val a (szBytes sz.val) (s.issued i) = .ok (memLe t o (szBytes sz.val), s.issued i)) :
      loads (memLe t o (szBytes sz.val)) := by
    have hmakes := ld_makes (rd := rd) h hload
    rw [extend_eq _ _ (memLe_lt t o _)] at hmakes
    exact hmakes
  have heng := eng_issued s i
  refine ⟨fun ha => hloads _ _ ?_, fun o ho ha => hloads _ _ ?_, fun o ho ha hlo hhi => hloads _ _ ?_, fun o ho ha => hloads _ _ ?_,
    fun e o he ho ha hown => hloads _ _ ?_, fun ha => ?_⟩
  · rw [sparLoad_sram halign ha, heng]
  · rw [ha] at halign ⊢
    rw [sparLoad_image ho halign, heng]
  · rw [ha] at halign ⊢
    rw [sparLoad_halyard ho hlo hhi halign, heng]
  · rw [ha] at halign ⊢
    rw [sparLoad_parameters ho halign, heng]
  · rw [ha] at halign ⊢
    rw [sparLoad_published (s := s.issued i) he ho hown halign, issued_pub]
  · obtain ⟨t, ht, honly, hengine⟩ := st_stores (rd := rd) h halign ha
    refine ⟨t, ht, honly, by rw [hengine], fun k hk => ?_, fun b hb => ?_⟩
    · rw [hengine]
      exact (look_memPut_inside _ _ _ _ hk).trans (ofNat_byte_mod _ hk)
    · rw [hengine]
      exact look_memPut_outside _ _ _ _ hb

end Sys2Proof.Machine
end

section
/-!
PROOF. Branches, loops and jumps (spec/07_spar_engines.md, R260, R282).
-/
namespace Sys2Proof.Machine

/-- The engine after a branch that is taken where `c` holds. -/
def Eng.jumped (x : Eng) (c : Bool) (pc : Nat) : Eng := if c then { x with pc := pc } else x

@[simp] theorem updSet_pc (x : Eng) (f : RegSet → RegSet) : (x.updSet f).pc = x.pc := by
  by_cases hin : x.inH = true <;> simp [Eng.updSet, hin]

/-- A jump leaves the register sets alone. -/
theorem jumped_updSet (x : Eng) (c : Bool) (pc : Nat) (f : RegSet → RegSet) : (x.jumped c pc).updSet f = (x.updSet f).jumped c pc := by
  cases c
  · rfl
  · by_cases hin : x.inH = true <;> simp [Eng.updSet, Eng.jumped, hin]

/-- A jump counts from the instruction's own address, which the pc has passed by 4. -/
theorem jumpBy_target (s : State) (i : SparAt) (off : BitVec 16) :
    wrapN 32 ((((s.eng i.e.val).pc + 4 : Nat) : Int) - 4 + 4 * off.toInt) = i.target s off := by
  rw [SparAt.target]; congr 1; omega

section Branch
variable {c : Instr} {s : State} {i : SparAt} {off : BitVec 16}

/-- A branch after an instruction's own change `g` of the engine, which leaves the pc as the issue left it. -/
theorem branchIf_updEng {g : Eng → Eng} (hpc : (g ((s.issued i).eng i.e.val)).pc = (s.eng i.e.val).pc + 4) (taken : Bool) :
    branchIf i.e.val taken off ((s.issued i).updEng i.e.val g) =
      (s.issued i).updEng i.e.val (fun x => (g x).jumped taken (i.target s off)) := by
  cases taken
  · rfl
  · rw [branchIf, if_pos rfl, jumpBy, updEng_updEng]
    refine updEng_congr ?_
    simp only [hpc, jumpBy_target, Eng.jumped, if_true]

theorem branchIf_issued (taken : Bool) : branchIf i.e.val taken off (s.issued i) =
    (s.issued i).updEng i.e.val (fun x => x.jumped taken (i.target s off)) := by
  have hpc : ((s.issued i).eng i.e.val).pc = (s.eng i.e.val).pc + 4 := by rw [eng_issued]
  have hid : (s.issued i).updEng i.e.val id = s.issued i := issued_updEng_fixed rfl
  have hbranch := branchIf_updEng (off := off) (g := id) hpc taken
  rwa [hid] at hbranch

/-- A branch on a condition of the state before it. -/
theorem branch_makes {cond : State → Bool} {taken : Bool} (hc : exec c s = .next (sparStep i (fun t => branchIf i.e.val (cond t) off t) s))
    (h : s.issues i) (htaken : cond (s.issued i) = taken) : i.makes c s (fun x => x.jumped taken (i.target s off)) :=
  makes_of hc h (htaken ▸ branchIf_issued _)

/-- The loop counter after BLOOP: counted down, stopping at 0. -/
def countDown (lc : W64) : W64 := if lc = 0 then 0 else lc - 1

theorem opBloop_effect : opBloop i.e.val off (s.issued i) = (s.issued i).updEng i.e.val (fun x =>
    (x.updSet (fun r => { r with lc := countDown (s.eng i.e.val).set'.lc })).jumped
      (decide (countDown (s.eng i.e.val).set'.lc ≠ 0)) (i.target s off)) := by
  have hne (x : W64) : (x != 0) = decide (x ≠ 0) := by rw [Bool.eq_iff_iff, bne_iff_ne, decide_eq_true_iff]
  simp only [opBloop, set_issued, hne]
  refine branchIf_updEng ?_ _
  rw [updSet_pc, eng_issued]

theorem opBloopr_effect : opBloopr i.e.val off (s.issued i) = (s.issued i).updEng i.e.val (fun x =>
    (x.updSet (fun r => { r with lc := countDown (s.eng i.e.val).set'.lc, rrb := (r.rrb + 31) % 32 })).jumped
      (decide (countDown (s.eng i.e.val).set'.lc ≠ 0)) (i.target s off)) := by
  rw [opBloopr, opBloop_effect, updEng_updEng]
  simp only [jumped_updSet, updSet_updSet]

theorem jal_effect (rd : Fin 64) :
    jumpBy i.e.val off ((s.issued i).setG i.e.val rd.val (BitVec.ofNat 64 ((s.issued i).eng i.e.val).pc)) =
      (s.issued i).updEng i.e.val (fun x =>
        (x.updSet (fun r => r.wr rd.val (BitVec.ofNat 64 ((s.eng i.e.val).pc + 4)))).jumped true (i.target s off)) := by
  have hpc : ((s.issued i).eng i.e.val).pc = (s.eng i.e.val).pc + 4 := by rw [eng_issued]
  rw [hpc]
  exact branchIf_updEng (by rw [updSet_pc, hpc]) true

end Branch

theorem jr_makes (i : SparAt) (ra : Fin 64) {s : State} (h : s.issues i) (halign : (s.g i.e.val ra.val).toNat % 4 = 0) :
    i.makes (.jr i ra) s (fun x => { x with pc := (s.g i.e.val ra.val).toNat % 2 ^ 32 }) := by
  have hword : (s.g i.e.val ra.val).toNat % 2 ^ 32 / 4 * 4 = (s.g i.e.val ra.val).toNat % 2 ^ 32 := by omega
  refine makes_of rfl h ?_
  simp only [g_issued, hword]

/-- Settles O11: each branch by its condition, the loops by the counter that they count down, the jumps by their targets. -/
theorem branches : Obligations.Branches := by
  intro i rd ra off s h a lc jump branch
  have ha : (s.issued i).g i.e.val ra.val = a := g_issued s i ra.val
  exact ⟨branch_makes rfl h (by rw [ha]; rfl),
    branch_makes rfl h (by rw [ha, Bool.eq_iff_iff, bne_iff_ne, decide_eq_true_iff]),
    branch_makes rfl h (by rw [ha]), branch_makes rfl h (by rw [ha]), branch_makes rfl h (by rw [ha]), branch_makes rfl h (by rw [ha]),
    branch_makes (cond := fun _ => true) rfl h rfl,
    ⟨makes_of rfl h opBloop_effect, makes_of rfl h opBloopr_effect⟩,
    makes_of rfl h (jal_effect rd), jr_makes i ra h⟩

end Sys2Proof.Machine
end

section
/-!
PROOF. Control registers and the other register set (spec/07_spar_engines.md, R259, R269, R278, R294, Tables 7.4, 7.14 and 7.16).
-/
namespace Sys2Proof.Machine

section Control
variable {s : State} {i : SparAt} {rd ra : Fin 64} {n : BitVec 8}

/-- MFC of a listed register writes what the register reads as the instruction finds the state. -/
theorem mfc_writes {v : W64} (h : s.issues i) (hm : mfc i.e.val n.toNat (s.issued i) = some v) : i.writes (.mfc i rd n) s rd.val v 0 := by
  have heffect : opMfc i.e.val rd.val n.toNat (s.issued i) = (s.issued i).setG i.e.val rd.val v := by rw [opMfc, hm]
  exact writes_of rfl h (heffect ▸ setG_wrote s i rd.isLt v)

/-- A control register that is part of the engine and does not show the pc. -/
theorem mfc_writes_engine (y : Eng → Nat) (h : s.issues i) (hm : ∀ t, mfc i.e.val n.toNat t = some (BitVec.ofNat 64 (y (t.eng i.e.val)))) :
    i.writes (.mfc i rd n) s rd.val (BitVec.ofNat 64 (y { s.eng i.e.val with pc := (s.eng i.e.val).pc + 4 })) 0 :=
  mfc_writes h (by rw [hm, eng_issued])

/-- MTC of a listed register changes the engine as the register's layout says. -/
theorem mtc_makes {f : Eng → Eng} (h : s.issues i)
    (hm : mtc i.e.val n.toNat (s.g i.e.val ra.val) (s.issued i) = some ((s.issued i).updEng i.e.val f)) : i.makes (.mtc i ra n) s f :=
  makes_of rfl h (by rw [opMtc, g_issued, hm])

/-- MTC of a read-only register passes (Table 7.14). -/
theorem mtc_makes_id (h : s.issues i) (hm : ∀ t, mtc i.e.val n.toNat (s.g i.e.val ra.val) t = some t) : i.makes (.mtc i ra n) s id :=
  makes_id_of rfl h (by rw [opMtc, g_issued, hm])

end Control

/-- MFC of the registers of a generator (R269). -/
theorem mfc_generator (e : Nat) (k : Fin 4) (t : State) :
    mfc e (0x10 + BitVec.ofNat 8 k.val).toNat t = some (BitVec.ofNat 64 ((t.eng e).set'.ag k.val).base.toNat) ∧
    mfc e (0x14 + BitVec.ofNat 8 k.val).toNat t = some (BitVec.ofNat 64 ((t.eng e).set'.ag k.val).len) ∧
    mfc e (0x18 + BitVec.ofNat 8 k.val).toNat t = some (BitVec.ofNat 64 ((t.eng e).set'.ag k.val).ofs.toNat) := by
  fin_cases k <;> exact ⟨rfl, rfl, rfl⟩

/-- MTC of the registers of a generator: AG_BASE and AG_OFS hold 32 bits, AG_LEN a multiple of 8 bytes up to the data SRAM (R269). -/
theorem mtc_generator (e : Nat) (k : Fin 4) (v : W64) (t : State) :
    let puts (f : Ag → Ag) : State := t.updEng e (fun x => x.updSet (fun r => r.updAg k.val f))
    mtc e (0x10 + BitVec.ofNat 8 k.val).toNat v t = some (puts fun g => { g with base := BitVec.ofNat 32 v.toNat }) ∧
    mtc e (0x14 + BitVec.ofNat 8 k.val).toNat v t = some (puts fun g => { g with len := min (v.toNat - v.toNat % 8) 0x40000 }) ∧
    mtc e (0x18 + BitVec.ofNat 8 k.val).toNat v t = some (puts fun g => { g with ofs := BitVec.ofNat 32 v.toNat }) := by
  have hlen : v.toNat - v.toNat % 8 = v.toNat / 8 * 8 := by omega
  rw [hlen]
  fin_cases k <;> exact ⟨rfl, rfl, rfl⟩

/-- The registers that ignore an MTC (Table 7.14). -/
theorem mtc_read_only (e : Nat) (v : W64) (t : State) {n : BitVec 8} (hn : n ∈ [(0x00 : BitVec 8), 0x01, 0x02, 0x03, 0x0B, 0x0C, 0x0D]) :
    mtc e n.toNat v t = some t := by
  fin_cases hn <;> rfl

/-- MTC of a DMA address keeps a multiple of 8 within the SRAM or the region (Table 7.16). -/
theorem dma_address_align (w k : Nat) : w % 2 ^ (k + 3) / 8 * 8 = w % 2 ^ (k + 3) - w % 8 := by
  have hmod : w % 2 ^ (k + 3) % 8 = w % 8 := Nat.mod_mod_of_dvd w (Dvd.intro_left (2 ^ k) (pow_add 2 k 3).symm)
  omega

/-- MTC of DMA_CTL without START only stores its fields. -/
theorem mtc_dmaCtl (e : Nat) {v : W64} (hstart : v.getLsbD 31 = false) (t : State) :
    mtc e 0x22 v t = some (t.updEng e (fun y => { y with dmaCtl := v.toNat &&& 0x7F01FFFF })) := by
  simp only [mtc, hstart, Bool.false_eq_true, if_false]

/-- Settles O12: each register by its row of Tables 7.14 and 7.16, read from and written to the engine as the instruction finds it. -/
theorem controlRegisters : Obligations.ControlRegisters := by
  intro i rd ra s h x r v w b reads set puts
  refine ⟨⟨mfc_writes h rfl, mfc_writes h rfl, mfc_writes h rfl, mfc_writes h rfl,
      mfc_writes_engine (fun y => y.set'.sticky) h fun _ => rfl, mfc_writes_engine (fun y => y.set'.rrb) h fun _ => rfl,
      mfc_writes_engine (fun y => y.set'.lc.toNat) h fun _ => rfl, mfc_writes_engine Eng.ien h fun _ => rfl,
      mfc_writes_engine Eng.ipend h fun _ => rfl, mfc_writes_engine Eng.tmrCmp h fun _ => rfl,
      mfc_writes_engine (fun y => b y.update 4 + if y.inH then 2 * y.src + 1 else 0) h fun t => ?_,
      mfc_writes_engine (fun y => b y.otherValid 2 + b y.swapped 1 + b y.active 0) h fun _ => rfl,
      mfc_writes_engine (fun y => b (y.cutPassed && decide (24 ≤ i.e.val ∧ i.e.val < 32)) 3 + b y.xLate 2 + b y.tickPend 1 + b y.xDone 0) h
        fun _ => rfl,
      mfc_writes_engine Eng.dmaLoc h fun _ => rfl, mfc_writes_engine Eng.dmaExt h fun _ => rfl, mfc_writes_engine Eng.dmaCtl h fun _ => rfl,
      mfc_writes_engine (fun y => b y.dmaDone 1 + b y.dma.isSome 0) h fun _ => rfl⟩,
    fun k => ?_, fun n hn => mtc_makes_id h fun t => mtc_read_only _ _ t hn,
    mtc_makes h rfl, mtc_makes h rfl, mtc_makes h rfl, mtc_makes h rfl, mtc_makes h rfl, mtc_makes h rfl,
    mtc_makes h ?_, mtc_makes h ?_, fun hstart => mtc_makes h (mtc_dmaCtl _ hstart _), mtc_makes h rfl,
    setG_writes rfl h ?_, makes_of rfl h ?_⟩
  · rw [Nat.mul_comm 2]; rfl
  · obtain ⟨hbase, hlen, hofs⟩ := mfc_generator i.e.val k (s.issued i)
    rw [set_issued] at hbase hlen hofs
    obtain ⟨hbase', hlen', hofs'⟩ := mtc_generator i.e.val k v (s.issued i)
    exact ⟨mfc_writes h hbase, mfc_writes h hlen, mfc_writes h hofs, mtc_makes h hbase', mtc_makes h hlen', mtc_makes h hofs'⟩
  · rw [← dma_address_align w 15]; rfl
  · rw [← dma_address_align w 20]; rfl
  · rw [eng_issued]; rfl
  · simp only [g_issued]; rfl

end Sys2Proof.Machine
end

section
/-!
PROOF. The tick handshake, RETI and BRK (spec/07_spar_engines.md, R284, R288 to R290, R296).
-/
namespace Sys2Proof.Machine

/-! ## DONE, WAITT and WAITC (R288, R289) -/

/-- The engine after a done: one of a late tick ends it and discards what it wrote. -/
def Eng.signalled (y : Eng) : Eng := if y.xLate then { y with xLate := false, xw := [], xwMask := [] } else { y with xDone := true }

/-- A second done of a tick that is not late finds done signalled, and changes nothing. -/
theorem opDone_effect (s : State) (i : SparAt) : opDone i.e.val (s.issued i) = (s.issued i).updEng i.e.val Eng.signalled := by
  by_cases hagain : ((s.issued i).eng i.e.val).xDone = true ∧ (!((s.issued i).eng i.e.val).xLate) = true
  · obtain ⟨hdone, hlate⟩ := hagain
    rw [opDone, if_pos ⟨hdone, hlate⟩, issued_updEng_fixed]
    rw [Eng.signalled, if_neg (by simpa using hlate), ← hdone]
  · rw [opDone, if_neg hagain, engDone]
    split
    case isTrue hlate => exact updEng_congr (by rw [Eng.signalled, if_pos hlate])
    case isFalse hlate => exact updEng_congr (by rw [Eng.signalled, if_neg hlate])

theorem opWaitt_effect {s : State} {i : SparAt} (hin : (s.eng i.e.val).inH = false) :
    opWaitt i.e.val (s.issued i) = (s.issued i).updEng i.e.val (fun y =>
      if y.signalled.tickPend then { y.signalled with tickPend := false } else { y.signalled with wait := .tick }) := by
  have hbase : ¬ ((s.issued i).eng i.e.val).inH = true := by rw [eng_issued]; simp [hin]
  rw [opWaitt, if_neg hbase, opDone_effect, updEng_updEng]

theorem opWaitc_effect {s : State} {i : SparAt} (hin : (s.eng i.e.val).inH = false) :
    opWaitc i.e.val (s.issued i) = (s.issued i).updEng i.e.val (fun y =>
      if (24 ≤ i.e.val ∧ i.e.val < 32) ∧ y.cutPassed = false then { y with wait := .cut } else y) := by
  have hbase : ¬ ((s.issued i).eng i.e.val).inH = true := by rw [eng_issued]; simp [hin]
  have hwaits : ((!isPe i.e.val) = true ∨ ((s.issued i).eng i.e.val).cutPassed = true) ↔
      ¬ ((24 ≤ i.e.val ∧ i.e.val < 32) ∧ ((s.issued i).eng i.e.val).cutPassed = false) := by
    rw [isPe, not_and_or, Bool.not_eq_false, Bool.not_eq_true', decide_eq_false_iff_not]
  rw [opWaitc, if_neg hbase]
  by_cases hgo : (!isPe i.e.val) = true ∨ ((s.issued i).eng i.e.val).cutPassed = true
  · rw [if_pos hgo]
    exact (issued_updEng_fixed (if_neg (hwaits.1 hgo))).symm
  · rw [if_neg hgo]
    exact updEng_congr (if_pos (not_not.1 (mt hwaits.2 hgo))).symm

/-! ## RETI (R284, R285) -/

/-- The update of a slot ends with the handler of INRDY. -/
def Eng.updateEnded (x : Eng) : Eng := if x.src = 1 then { x with update := false } else x

/-- The engine after a return: a further pending source is entered directly, else the base level goes on. -/
def Eng.returned (x : Eng) : Eng :=
  match x.irqNext with
  | some k => x.enter k
  | none => { x with inH := false, pc := x.ret }

/-- RETI of a handler that does not make INRDY pending. -/
theorem opReti_effect {e : Nat} {t : State} (hin : (t.eng e).inH = true) (hsrc : (t.eng e).src ≠ 0) :
    opReti e t = t.updEng e (fun x => x.updateEnded.returned) := by
  rw [opReti, if_neg (by simp [hin])]
  by_cases hinrdy : (t.eng e).src = 1
  · rw [if_pos hinrdy, updEng_updEng]
    exact updEng_congr (by rw [Eng.updateEnded, if_pos hinrdy]; rfl)
  · rw [if_neg hinrdy, if_neg (fun hsub => hsrc hsub.1)]
    exact updEng_congr (by rw [Eng.updateEnded, if_neg hinrdy]; rfl)

theorem irqNext_of_none {x : Eng} (hnone : x.ipend &&& x.ien = 0) : x.irqNext = none := by
  refine List.find?_eq_none.2 fun k _ => ?_
  rw [← Nat.testBit_and, hnone, Nat.zero_testBit]
  exact Bool.false_ne_true

theorem irqNext_of_lowest {x : Eng} {k : Nat} (hk : k < 5) (hpend : (x.ipend &&& x.ien).testBit k = true)
    (hlowest : ∀ j, j < k → (x.ipend &&& x.ien).testBit j = false) : x.irqNext = some k := by
  refine List.find?_range_eq_some.2 ⟨?_, List.mem_range.2 hk, fun j hj => ?_⟩
  · rwa [← Nat.testBit_and]
  · rw [← Nat.testBit_and, hlowest j hj]; rfl

/-- Entry clears the pending bit of its source. -/
theorem enter_clears (x : Eng) {k : Nat} (hk : k < 5) : (x.enter k).ipend.testBit k = false := by
  rw [Eng.enter, Nat.testBit_and]
  have hclear : ((2 ^ 5 - 1) - 2 ^ k).testBit k = false := by interval_cases k <;> rfl
  rw [hclear, Bool.and_false]

section Return
variable {s : State} {i : SparAt}

/-- The end of an update neither reads nor changes what decides the next source. -/
theorem irqNext_updateEnded (x : Eng) : x.updateEnded.irqNext = x.irqNext := by
  rw [Eng.updateEnded]; split <;> rfl

theorem reti_effect_issued (hin : (s.eng i.e.val).inH = true) (hsrc : (s.eng i.e.val).src ≠ 0) :
    opReti i.e.val (s.issued i) = (s.issued i).updEng i.e.val (fun x => x.updateEnded.returned) := by
  apply opReti_effect <;> rw [eng_issued]
  · exact hin
  · exact hsrc

theorem reti_returns (h : s.issues i) (hin : (s.eng i.e.val).inH = true) (hsrc : (s.eng i.e.val).src ≠ 0)
    (hnone : (s.eng i.e.val).ipend &&& (s.eng i.e.val).ien = 0) :
    i.makes (.reti i) s (fun _ => { (s.eng i.e.val).updateEnded with inH := false, pc := (s.eng i.e.val).ret }) := by
  refine makes_of rfl h ((reti_effect_issued hin hsrc).trans (updEng_congr ?_))
  have hnext : ((s.issued i).eng i.e.val).updateEnded.irqNext = none := by
    rw [irqNext_updateEnded, eng_issued]; exact irqNext_of_none hnone
  rw [Eng.returned, hnext, eng_issued]
  by_cases hinrdy : (s.eng i.e.val).src = 1 <;> simp [Eng.updateEnded, hinrdy]

theorem reti_enters {k : Nat} (h : s.issues i) (hin : (s.eng i.e.val).inH = true) (hsrc : (s.eng i.e.val).src ≠ 0) (hk : k < 5)
    (hpend : ((s.eng i.e.val).ipend &&& (s.eng i.e.val).ien).testBit k = true)
    (hlowest : ∀ j, j < k → ((s.eng i.e.val).ipend &&& (s.eng i.e.val).ien).testBit j = false) :
    i.makes (.reti i) s (fun x => x.updateEnded.enter k) := by
  refine makes_of rfl h ((reti_effect_issued hin hsrc).trans (updEng_congr ?_))
  have hnext : ((s.issued i).eng i.e.val).updateEnded.irqNext = some k := by
    rw [irqNext_updateEnded, eng_issued]; exact irqNext_of_lowest hk hpend hlowest
  rw [Eng.returned, hnext]

theorem enter_updateEnded_sets (x : Eng) (k : Nat) : (x.updateEnded.enter k).base = x.base ∧ (x.updateEnded.enter k).intr = x.intr := by
  rw [Eng.updateEnded]; split <;> exact ⟨rfl, rfl⟩

end Return

/-! ## BRK (R296) -/

/-- An engine whose halt is shown and whose granted step has ended, with `w` in DBG.ENGe_STATUS. -/
def State.haltShown (s : State) (e : Nat) (w : W32) : State :=
  ((s.set (F.clkEngStat_HALT e) 1).setReg (A.dbgEngStatus e) w).updEng e (fun y => { y with stepOne := false })

/-- A halt is shown, and the slot of an axis engine freezes. -/
theorem haltEngine_steps (e : Nat) (brk : Bool) (s : State) : ∃ w, haltEngine e brk s =
    whenB (s.slotPresent e) (fun t => t.set (F.pwmSlotStatus_HALTED e) 1) (s.haltShown e w) := ⟨_, rfl⟩

theorem haltEngine_stepOne (e : Nat) (brk : Bool) (s : State) : ((haltEngine e brk s).eng e).stepOne = false := by
  obtain ⟨w, hw⟩ := haltEngine_steps e brk s
  have heng : (haltEngine e brk s).eng e = (s.haltShown e w).eng e := by rw [hw, whenB]; split <;> rfl
  rw [heng, State.haltShown, State.eng_updEng_same]

theorem haltShown_halt {e : Nat} (he : e < 38) (s : State) (w : W32) : (s.haltShown e w).get (F.clkEngStat_HALT e) = 1 := by
  have hdebug : (F.clkEngStat_HALT e).a ≠ A.dbgEngStatus e := by simp only [F.clkEngStat_HALT, A.clkEngStat, A.dbgEngStatus]; omega
  rw [State.haltShown, State.updEng_get, State.get, State.reg_setReg_other _ _ hdebug]
  exact State.get_set_same s (F.clkEngStat_HALT e) 1 (by simp [F.clkEngStat_HALT])

theorem haltEngine_halt {e : Nat} (he : e < 38) (brk : Bool) (s : State) : (haltEngine e brk s).getB (F.clkEngStat_HALT e) = true := by
  obtain ⟨w, hw⟩ := haltEngine_steps e brk s
  have hslot : (F.clkEngStat_HALT e).a ≠ (F.pwmSlotStatus_HALTED e).a := by
    simp only [F.clkEngStat_HALT, F.pwmSlotStatus_HALTED, A.clkEngStat, A.pwmSlotStatus]; omega
  have hhalt : (haltEngine e brk s).get (F.clkEngStat_HALT e) = 1 := by
    rw [hw, whenB]
    split
    · rw [State.get_set_reg _ _ hslot, haltShown_halt he]
    · exact haltShown_halt he s w
  exact State.getB_of_get hhalt

/-- A halted engine to which no debug step is granted does not run. -/
theorem haltEngine_stops {e : Nat} (he : e < 38) (brk : Bool) (s : State) : (haltEngine e brk s).sparRuns e = false := by
  simp [State.sparRuns, haltEngine_halt he, haltEngine_stepOne]

/-- Settles O13: DONE, WAITT and WAITC by what they make of the engine, RETI by the lowest pending source, BRK by the halt that it causes. -/
theorem handshake : Obligations.Handshake := by
  intro i s h x done
  have hbrk : opBrk i.e.val (s.issued i) = if s.mode = mService ∧ s.get F.dbgCtrl_OWNER ≠ 0 then haltEngine i.e.val true (s.issued i)
    else s.issued i := rfl
  refine ⟨makes_id_of rfl h rfl, makes_id_of rfl h rfl, makes_of rfl h (opDone_effect s i), fun hin => makes_of rfl h (opWaitt_effect hin),
    fun hin => makes_of rfl h (opWaitc_effect hin), fun hin hsrc => ⟨reti_returns h hin hsrc, fun k hk hpend hlowest => ?_⟩,
    fun hfree => makes_id_of rfl h ?_, fun hmode howner => ?_⟩
  · obtain ⟨t, ht, honly, heng⟩ := reti_enters h hin hsrc hk hpend hlowest
    obtain ⟨hbase, hintr⟩ := enter_updateEnded_sets { s.eng i.e.val with pc := (s.eng i.e.val).pc + 4 } k
    exact ⟨t, ht, honly, by rw [heng]; rfl, by rw [heng]; rfl, by rw [heng]; rfl, by rw [heng]; exact enter_clears _ hk,
      by rw [heng]; exact hbase, by rw [heng]; exact hintr⟩
  · rw [hbrk, if_neg (by tauto)]
  · refine ⟨haltEngine i.e.val true (s.issued i), ?_, haltEngine_stops i.e.isLt _ _, haltEngine_halt i.e.isLt _ _⟩
    rw [exec_issues (f := opBrk i.e.val) rfl h, hbrk, if_pos ⟨hmode, howner⟩]

end Sys2Proof.Machine
end

section
/-!
PROOF. An engine's DMA channel (spec/07_spar_engines.md, R293, Tables 7.14 to 7.16).
-/
namespace Sys2Proof.Machine

/-! ## A start -/

/-- DMA_CTL keeps the length, the direction and the cam bit of what is written. -/
theorem dmaCtl_fields (v : W64) : nbits (v.toNat &&& 0x7F01FFFF) 16 0 = v.toNat % 2 ^ 17 ∧
    (v.toNat &&& 0x7F01FFFF).testBit 30 = v.getLsbD 30 ∧ (v.toNat &&& 0x7F01FFFF).testBit 29 = v.getLsbD 29 := by
  refine ⟨Nat.eq_of_testBit_eq fun k => ?_, ?_, ?_⟩
  · have hmask (hk : k < 17) : (0x7F01FFFF : Nat).testBit k = true := by interval_cases k <;> rfl
    rw [nbits_testBit, Nat.testBit_and, Nat.testBit_mod_two_pow, Nat.zero_add]
    by_cases hk : k < 17
    · simp [hk, hmask hk]
    · simp [hk]
  · rw [Nat.testBit_and]; exact Bool.and_true _
  · rw [Nat.testBit_and]; exact Bool.and_true _

section Start
variable {s : State} {i : SparAt} {ra : Fin 64}

/-- The engine with what an MTC to DMA_CTL stores. -/
def Eng.dmaControlled (y : Eng) (v : W64) : Eng := { y with dmaCtl := v.toNat &&& 0x7F01FFFF }

/-- An MTC to DMA_CTL with START stores the fields, then starts. -/
theorem mtc_start (e : Nat) {v : W64} (hstart : v.getLsbD 31 = true) (t : State) :
    mtc e 0x22 v t = some (dmaStart e (t.updEng e (fun y => y.dmaControlled v))) := by
  simp only [mtc, hstart, if_true]; rfl

/-- With a transfer running a start only sets DMA_REJ. -/
theorem dmaStart_of_busy {e : Nat} {t : State} (hbusy : (t.eng e).dma.isSome = true) : dmaStart e t = t.stick e 6 := by
  rw [dmaStart, if_pos hbusy]

/-- A start between data SRAM and region with a legal range begins a transfer. -/
theorem dmaStart_of_legal {e : Nat} {t : State} {len : Nat} (hidle : (t.eng e).dma = none) (hlen : nbits (t.eng e).dmaCtl 16 0 = len)
    (hcam : (t.eng e).dmaCtl.testBit 29 = false) (halign : len % 8 = 0) (hmin : 8 ≤ len) (hmax : len ≤ 65536)
    (hloc : (t.eng e).dmaLoc + len ≤ 0x40000) (hext : (t.eng e).dmaExt + len ≤ 2 ^ 23) :
    dmaStart e t = t.updEng e (fun y => { y with
      dma := some { toRegion := (t.eng e).dmaCtl.testBit 30, cam := none, len := len, loc := (t.eng e).dmaLoc, ext := (t.eng e).dmaExt } }) := by
  have hrange : ¬ (len = 0 ∨ len % 8 ≠ 0 ∨ 65536 < len ∨ 0x40000 < (t.eng e).dmaLoc + len) := by omega
  have hregion : ¬ (2 ^ 23 < (t.eng e).dmaExt + len) := by omega
  simp only [dmaStart, hidle, hlen, hcam, if_neg hrange, hregion, Option.isSome_none, Bool.false_eq_true, false_and, or_false, if_false]

theorem dmaCtl_makes_reject (h : s.issues i) (hstart : (s.g i.e.val ra.val).getLsbD 31 = true) (hbusy : (s.eng i.e.val).dma.isSome = true) :
    i.makes (.mtc i ra 0x22) s
      (fun y => (y.dmaControlled (s.g i.e.val ra.val)).updSet (fun r => { r with sticky := r.sticky ||| 64 })) := by
  refine mtc_makes h ((mtc_start i.e.val hstart _).trans (congrArg some ?_))
  have hbusy' : (((s.issued i).updEng i.e.val (fun y => y.dmaControlled (s.g i.e.val ra.val))).eng i.e.val).dma.isSome = true := by
    rw [State.eng_updEng_same, eng_issued]; exact hbusy
  exact (dmaStart_of_busy hbusy').trans (updEng_updEng ..)

theorem dmaCtl_makes_start (h : s.issues i) (hidle : (s.eng i.e.val).dma = none) :
    let v := s.g i.e.val ra.val
    let len := v.toNat % 2 ^ 17
    v.getLsbD 31 = true → v.getLsbD 29 = false → len % 8 = 0 → 8 ≤ len → len ≤ 65536 →
      (s.eng i.e.val).dmaLoc + len ≤ 0x40000 → (s.eng i.e.val).dmaExt + len ≤ 2 ^ 23 →
      i.makes (.mtc i ra 0x22) s (fun y => { y.dmaControlled v with
        dma := some { toRegion := v.getLsbD 30, cam := none, len := len, loc := (s.eng i.e.val).dmaLoc, ext := (s.eng i.e.val).dmaExt } }) := by
  intro v len hstart hcam halign hmin hmax hloc hext
  obtain ⟨hlen, hdir, hcamBit⟩ := dmaCtl_fields v
  have heng : ((s.issued i).updEng i.e.val (fun y => y.dmaControlled v)).eng i.e.val =
      Eng.dmaControlled { s.eng i.e.val with pc := (s.eng i.e.val).pc + 4 } v := by
    rw [State.eng_updEng_same, eng_issued]
  have hbegin := dmaStart_of_legal (e := i.e.val) (t := (s.issued i).updEng i.e.val (fun y => y.dmaControlled v))
    (by rw [heng]; exact hidle) (by rw [heng]; exact hlen) (by rw [heng]; exact hcamBit.trans hcam) halign hmin hmax
    (by rw [heng]; exact hloc) (by rw [heng]; exact hext)
  refine mtc_makes h ((mtc_start i.e.val hstart _).trans ?_)
  rw [hbegin, heng, ← hdir]
  exact congrArg some (updEng_updEng ..)

end Start

/-! ## A completion -/

/-- A memory into which `n` bytes have been copied, from address `a` on. -/
def copied (src : Nat → Byte) (a n : Nat) (t : Table Byte) : Table Byte :=
  (upto n).foldl (fun t k => Table.put 0 (a + k) (src k) t) t

theorem look_copied (src : Nat → Byte) (a n : Nat) (t : Table Byte) (q : Nat) :
    Table.look 0 (copied src a n t) q = if a ≤ q ∧ q < a + n then src (q - a) else Table.look 0 t q := by
  induction n with
  | zero => rw [if_neg (by omega)]; rfl
  | succ n ih =>
    have hstep : copied src a (n + 1) t = Table.put 0 (a + n) (src n) (copied src a n t) := by
      simp only [copied, upto, List.range_succ, List.foldl_append, List.foldl_cons, List.foldl_nil]
    rw [hstep]
    by_cases hq : q = a + n
    · rw [hq, Table.look_put_same, if_pos (by omega), Nat.add_sub_cancel_left]
    · rw [Table.look_put_other 0 _ 0 hq, ih]
      exact if_congr (by omega) rfl rfl

/-- What a transfer into the data SRAM reads: the region, or the points of a cam table. -/
def State.dmaSource (s : State) (e : Nat) (d : Dma) (q : Nat) : Byte :=
  match d.cam with
  | none => Table.look 0 (s.eng e).region q
  | some c => (Table.look ({} : Cam) s.plan.cams c).bytes.getD q 0

/-- The memories of an engine when a transfer has moved its bytes. -/
def State.dmaMoved (s : State) (e : Nat) (d : Dma) (x : Eng) : Eng :=
  if d.toRegion then { x with region := copied (fun k => Table.look 0 (s.eng e).sram (d.loc + k)) d.ext d.len x.region }
  else { x with sram := copied (fun k => s.dmaSource e d (d.ext + k)) d.loc d.len x.sram }

theorem dmaComplete_effect {e : Nat} {s : State} {d : Dma} (hd : (s.eng e).dma = some d) :
    dmaComplete e s = s.updEng e (fun x => { s.dmaMoved e d x with dma := none, dmaDone := true, ipend := x.ipend ||| 16 }) := by
  simp only [dmaComplete, hd, State.engIrq, updEng_updEng]
  refine updEng_congr ?_
  obtain ⟨toRegion, cam, len, loc, ext⟩ := d
  cases toRegion
  · cases cam <;> rfl
  · rfl

/-- A completion at an instant of the tick: the transfer's bytes move, and nothing but the engine differs. -/
theorem dmaComplete_completes {i : SparAt} {s : State} {d : Dma} (hd : (s.eng i.e.val).dma = some d) :
    ∃ t, exec (.dmaComplete i.e i.cyc) s = .next t ∧ OnlyEngine i s t ∧ t.eng i.e.val =
      { s.dmaMoved i.e.val d (s.eng i.e.val) with dma := none, dmaDone := true, ipend := (s.eng i.e.val).ipend ||| 16 } := by
  have heffect := dmaComplete_effect (s := s.atCyc i.cyc) hd
  refine ⟨dmaComplete i.e.val (s.atCyc i.cyc), rfl, ?_, ?_⟩
  · rw [heffect]; exact ⟨rfl, fun k hk => State.eng_updEng_other _ _ hk⟩
  · rw [heffect, State.eng_updEng_same]; rfl

/-- Settles O15: a start by the running transfer and the legal range, a completion by the bytes that it copies. -/
theorem engineDma : Obligations.EngineDma := by
  intro i ra s x v len ctl
  refine ⟨fun h hstart hbusy => dmaCtl_makes_reject h hstart hbusy,
    fun h hstart hidle hcam halign hmin hmax hloc hext => dmaCtl_makes_start h hidle hstart hcam halign hmin hmax hloc hext,
    fun d hd => ?_⟩
  obtain ⟨t, ht, honly, heng⟩ := dmaComplete_completes hd
  refine ⟨t, ht, honly, ?_, fun hto => ?_, fun hfrom => ?_⟩
  · rw [heng, State.dmaMoved]; split <;> rfl
  · rw [heng, State.dmaMoved, if_pos hto]
    exact ⟨rfl, fun a => look_copied _ _ _ _ a⟩
  · rw [heng, State.dmaMoved, if_neg (by rw [hfrom]; exact Bool.false_ne_true)]
    refine ⟨rfl, fun a => (look_copied _ _ _ _ a).trans (ite_congr rfl (fun _ => ?_) fun _ => rfl)⟩
    unfold State.dmaSource
    cases d.cam <;> rfl

end Sys2Proof.Machine
end

section
/-!
PROOF. The PWM generator (spec/08_pwm.md): a rising edge in OUTMODE 1 (R304, R305), and a fault input that finds the slot's axis in a group number
out of range (R23, R315).
-/
namespace Sys2Proof.Machine

/-! ## A rising edge in OUTMODE 1 -/

@[simp] theorem State.pair_updPair_same (s : State) (n p : Nat) (f : PairSt → PairSt) :
    ((s.updPair n p f).slot n).pair p = f ((s.slot n).pair p) := by
  rw [State.updPair, State.slot_updSlot_same]
  exact Table.look_upd_same _ p f _

/-- Recording an event leaves the pairs. -/
@[simp] theorem pairs_slotEvent (n e t : Nat) (s : State) : ((slotEvent n e t s).slot n).pairs = (s.slot n).pairs := by
  unfold slotEvent
  split
  · rfl
  · show ((s.updSlot n _).slot n).pairs = (s.slot n).pairs
    rw [State.slot_updSlot_same]

/-- The high side of a pair that turns on conducts after the dead time in OUTMODE 0, and from the pulse's own edge in the other modes (R304). -/
theorem high_pairLevel_on (n p t : Nat) (s : State) : (((pairLevel n p true t s).slot n).pair p).high =
    some (if s.outMode n p = 0 then (offAt ((s.slot n).pair p).low t (s.minOnFx n)).1 + s.deadFx n else t) := by
  simp only [pairLevel, if_true, SlotSt.pair, pairs_slotEvent]
  exact congrArg PairSt.high (State.pair_updPair_same ..)

/-- An edge that is due fires where it changes the level. -/
theorem pwmEdge_of_due {n p t : Nat} {s : State} (hlive : s.frozen n = false) (hpulsing : (s.slot n).pulsing = true)
    (hrise : ((s.slot n).pair p).rise = some t) (hoff : ((s.slot n).pair p).on = false) (hdue : t < s.nowFx + s.clk.incr) :
    pwmEdge n p true s = pairLevel n p true t (s.updPair n p (fun x => { x with rise := none })) := by
  simp [pwmEdge, hlive, hpulsing, hrise, hoff, Nat.not_le.mpr hdue]

/-- Slot 0 pulses with pair 0 in OUTMODE 1. Its low side has conducted for 1 ns, less than MIN_ON, when the pulse rises. -/
def riseOverLowSide : State :=
  { (State.reset.set ⟨A.pwmSlotPairCfg 0, 1, 0⟩ 1) with
    pwm := { slots := [(0, { pulsing := true, pairs := [(0, { rise := some (2 ^ 32), low := some 0 })] })] } }

/-- The high side conducts from the edge on, whatever the low side does. -/
theorem high_pwmEdge_riseOverLowSide :
    (((pwmEdge 0 0 true (riseOverLowSide.atCyc 0)).slot 0).pair 0).high = some (2 ^ 32) := by
  rw [pwmEdge_of_due (t := 2 ^ 32) (by decide +kernel) rfl rfl rfl (by decide), high_pairLevel_on, if_neg (by decide +kernel)]

/-- Refutes O35: the clause of a rising edge has the high side wait for the low side's MIN_ON in every OUTMODE, but in OUTMODE 1 the high side
follows the pulse (R304), and where a low side still conducts the model turns the high side on at the edge. The clause would need OUTMODE 0, or
a low side that does not conduct in OUTMODE 1, as a hypothesis. -/
theorem not_pwmUpdates : ¬ Obligations.PwmUpdates := by
  intro h
  obtain ⟨-, -, -, -, -, -, -, -, -, hedges, -⟩ := h none 0 0 0 riseOverLowSide (by decide +kernel)
  obtain ⟨hrising, -⟩ := hedges (by decide +kernel) rfl
  obtain ⟨t, ht, -, -, -, -, hhigh, -⟩ := hrising (2 ^ 32) rfl (by decide) rfl
  obtain rfl : pwmEdge 0 0 true (riseOverLowSide.atCyc 0) = t := Host.Outcome.next.inj ht
  have hedge := hhigh.symm.trans high_pwmEdge_riseOverLowSide
  exact absurd hedge (by decide +kernel)

/-! ## A fault input and a group out of range -/

/-- The number of the group whose state would stand in bits 3:0 of PWM.FLT_STATE. -/
def groupOfFltState : Nat := 8 * ((A.pwmFltState - A.glbGrpState 0) / 4)

/-- Fault input 0 is mapped to slot 0, and axis 0 is bound to the group of PWM.FLT_STATE. -/
def boundToFltState : State :=
  { State.reset.set (F.pwmSlotCfg_FLT_MASK 0) 1 with plan := { axes := [(0, { bound := some (groupOfFltState, 0) })] } }

/-- The axis faults and takes its group to FAULTED, and the code of that state clears LEVEL of input 0. -/
theorem pwmFault_writes_level : (pwmFault 0 (boundToFltState.atCyc 0)).get F.pwmFltState_LEVEL = gFaulted := by
  decide +kernel

/-- Refutes O36: the clause of a low fault input gives LEVEL in every state, but a slot that latches faults its axis, whose group goes to FAULTED
(R23, R316), and a group number above 31 has no field of its own: the group's state lands in PWM.FLT_STATE. The clause would need the groups of
the axes to be of 0 to 31 as a hypothesis, as they are in every state that AXIS_BIND makes. -/
theorem not_pwmFaults : ¬ Obligations.PwmFaults := by
  intro h
  obtain ⟨-, -, hlow, -⟩ := h none 0 0 0 boundToFltState (by decide +kernel)
  obtain ⟨t, ht, hlevel, -⟩ := hlow
  obtain rfl : pwmFault 0 (boundToFltState.atCyc 0) = t := Host.Outcome.next.inj ht
  have hbit : gFaulted.testBit 0 = true := pwmFault_writes_level ▸ hlevel
  exact absurd hbit (by decide)

end Sys2Proof.Machine
end

section
/-!
PROOF. The converters and sigma-delta inputs (spec/09_converters.md): what a channel that faults in the course of a command writes for an axis in
a group number out of range (R23, R347, R376).
-/
namespace Sys2Proof.Machine

-- As in `Laws/Rows`, the proofs of this section, which run the model in the kernel, are elaborated one after another.
set_option Elab.async false

/-- The number of the group whose state would stand in the four bits from `4 * nibble` on of the register at `a`. -/
def groupInWord (a nibble : Nat) : Nat := 8 * ((a - A.glbGrpState 0) / 4) + nibble

/-! ## A result and a feedback channel without amplitude -/

/-- Feedback channel 0 takes its sine from AIN 0 and its cosine from AIN 1 (R376), and an amplitude out of bounds has been seen before. AIN 1 holds
the code 0 of 15 cycles of acquisition, and converter 0 in MODE 1 runs its one entry, AIN 0, with the same acquisition. Axis 0 reads the channel
and is bound to the group of bits 19:16 of ADC.AIN0_RES. -/
def boundToAinRes : State :=
  { ((((((State.reset.set (F.fbkFbCtrl_EN 0) 1).set (F.fbkFbCfg_MODE 0) 5).set (F.fbkFbAna_SIN_IN 0) 0).set (F.fbkFbAna_COS_IN 0) 1).set
      (F.fbkFbAna2_AMP_MIN 0) 1).set (F.adcConvCfg_MODE 0) 1) with
    adc := { convs := [(0, { running := true })], ains := [(1, { last := 15 * 0x0280000000 })] }
    fbk := { fbs := [(0, { badAt := some 0 })] }
    loop := { axes := [(0, { cfg := { fbCh := 0 } })] }
    plan := { axes := [(0, { bound := some (groupInWord (A.adcAinRes 0) 4, 0) })] } }

/-- The code 0 is a sample without amplitude; the channel faults, the axis with it, and the code of its group's state enters CODE. -/
theorem adcResult_writes_code : (adcResult 0 0 (boundToAinRes.atCyc 1000)).get (F.adcAinRes_CODE 0) = gFaulted := by
  decide +kernel

/-- Refutes O37: the clause of a completed conversion gives the result's CODE in every state, but a result of an analogue feedback channel can
fault the channel and the axes that read it (R376, R380), whose groups go to FAULTED, and a group number above 31 has no field of its own: the
group's state lands in the result register. The clause would need the groups of the axes to be of 0 to 31 as a hypothesis, as they are in every
state that AXIS_BIND makes. -/
theorem not_adcTriggers : ¬ Obligations.AdcTriggers := by
  intro h
  obtain ⟨-, -, -, -, -, -, ⟨hresult, -⟩, -⟩ := h none 0 1000 boundToAinRes (by decide +kernel)
  obtain ⟨t, ht, hcode, -⟩ := hresult 0 (by decide +kernel) rfl rfl rfl (by decide +kernel) (by decide)
  obtain rfl : adcResult 0 0 (boundToAinRes.atCyc 1000) = t := Host.Outcome.next.inj ht
  exact absurd (adcResult_writes_code.symm.trans hcode) (by decide +kernel)

/-! ## A stuck line -/

/-- SDI 0 is enabled. Axis 0 reads it as phase A and is bound to the group of bits 7:4 of ADC.SDI0_STATUS, where FAULT is bit 4. -/
def boundToSdiStatus : State :=
  { State.reset.set (F.adcSdiCfg_EN 0) 1 with
    loop := { axes := [(0, { cfg := { sdi := true, inA := 0 } })] }
    plan := { axes := [(0, { bound := some (groupInWord (A.adcSdiStatus 0) 1, 0) })] } }

/-- The input faults, then the axis, and the code of its group's state clears FAULT of the input. -/
theorem sdiStuck_clears_fault : (sdiStuck 0 (boundToSdiStatus.atCyc 0)).getB (F.adcSdiStatus_FAULT 0) = false := by
  decide +kernel

/-- Refutes O38: the clause of a stuck line sets FAULT in every state, but the fault of the input faults the axes whose phases read it (R347),
whose groups go to FAULTED, and the state of a group above 31 lands in another register, here in SDI0_STATUS over FAULT. The clause would need the
groups of the axes to be of 0 to 31 as a hypothesis. -/
theorem not_adcChannels : ¬ Obligations.AdcChannels := by
  intro h
  obtain ⟨-, -, -, hstuck, -⟩ := h { ring := 0, len := 1 } none true 0 0 0 0 0 boundToSdiStatus
  obtain ⟨t, ht, -, hfault, -⟩ := hstuck (by decide +kernel)
  obtain rfl : sdiStuck 0 (boundToSdiStatus.atCyc 0) = t := Host.Outcome.next.inj ht
  exact absurd (sdiStuck_clears_fault.symm.trans hfault) (by decide)

end Sys2Proof.Machine
end

section
/-!
PROOF. Feedback channels (spec/10_feedback_and_latches.md): what a channel fault writes for an axis in a group number out of range (R23, R359,
R374, R380).
-/
namespace Sys2Proof.Machine

-- As in `Laws/Rows`, the proofs of this section, which run the model in the kernel, are elaborated one after another.
set_option Elab.async false

/-- Feedback channel 0 is enabled in a mode, with the given state of its own and POS 0. Axis 0 reads it and is bound to the group of bits 3:0 of
FBK.FB0_POS. -/
def boundToFbPos (mode : Nat) (channel : FbSt) : State :=
  { (State.reset.set (F.fbkFbCtrl_EN 0) 1).set (F.fbkFbCfg_MODE 0) mode with
    fbk := { fbs := [(0, channel)] }
    loop := { axes := [(0, { cfg := { fbCh := 0 } })] }
    plan := { axes := [(0, { bound := some (groupInWord (A.fbkFbPos 0) 0, 0) })] } }

/-! ## A second illegal transition within 1 ms -/

/-- A quadrature channel at lines 00 that has seen an illegal transition at time 0. -/
def quadratureAfterIllegal : State := boundToFbPos 1 { badAt := some 0 }

/-- Both lines change at once; the channel faults, the axis with it, and the code of its group's state enters POS. -/
theorem fbLines_fault_writes_pos :
    quadratureAfterIllegal.reg (A.fbkFbPos 0) = 0 ∧ (fbLines 0 3 (quadratureAfterIllegal.atCyc 0)).reg (A.fbkFbPos 0) = gFaulted := by
  decide +kernel

/-- Refutes O39: the clause of an illegal transition keeps POS in every state, but the second one within 1 ms faults the channel and the axes that
read it (R359, R380), whose groups go to FAULTED, and a group number above 31 has no field of its own: the group's state lands in POS. The clause
would need the groups of the axes to be of 0 to 31 as a hypothesis, as they are in every state that AXIS_BIND makes. -/
theorem not_feedback : ¬ Obligations.Feedback := by
  intro h
  obtain ⟨-, -, ⟨-, hillegal, -⟩, -⟩ := h { ring := 0, len := 1 } none 0 3 0 quadratureAfterIllegal
  obtain ⟨t, ht, hpos, -⟩ := hillegal (by decide +kernel)
  obtain rfl : fbLines 0 3 (quadratureAfterIllegal.atCyc 0) = t := Host.Outcome.next.inj ht
  obtain ⟨hbefore, hafter⟩ := fbLines_fault_writes_pos
  exact absurd (hafter.symm.trans (hpos.trans hbefore)) (by decide)

/-! ## The last failed read that ERR_LIM allows -/

/-- An SSI channel whose read is in progress and whose ERR_LIM, at most 255, the failures in a row have reached. -/
def ssiAtErrLim : State := boundToFbPos 3 { busy := true, fails := 255 }

/-- The read cannot start; the channel faults, the axis with it, and the code of its group's state enters POS. -/
theorem serialDone_fault_writes_pos :
    ssiAtErrLim.reg (A.fbkFbPos 0) = 0 ∧
      (serialDone 0 false 0 false false 0 (ssiAtErrLim.atCyc 0)).reg (A.fbkFbPos 0) = gFaulted := by
  decide +kernel

/-- Refutes O40: the clause of a failed read keeps POS in every state, but with ERR_LIM failures in a row the channel faults and the axes that read
it (R374, R380), whose groups go to FAULTED, and the state of a group above 31 lands in another register, here in POS. The clause would need the
groups of the axes to be of 0 to 31 as a hypothesis. -/
theorem not_serialEncoders : ¬ Obligations.SerialEncoders := by
  intro h
  obtain ⟨-, ⟨-, hfailed, -⟩, -⟩ := h 0 false 0 false false 0 0 ssiAtErrLim
  obtain ⟨t, ht, -, hpos, -⟩ := hfailed (by decide +kernel) (by rintro ⟨⟨⟩, -⟩)
  obtain rfl : serialDone 0 false 0 false false 0 (ssiAtErrLim.atCyc 0) = t := Host.Outcome.next.inj ht
  obtain ⟨hbefore, hafter⟩ := serialDone_fault_writes_pos
  exact absurd (hafter.symm.trans (hpos.trans hbefore)) (by decide)

end Sys2Proof.Machine
end

section
/-!
PROOF. The form of a step (notes/assumptions/1.md) and the state after a reset (Tables 1.11 to 1.17, 2.17 to 2.21 and 3.10 to 3.13).
-/
namespace Sys2Proof.Machine

/-- Settles O1: both equations are the branches of `step`. -/
theorem stepRunsFront : Obligations.StepRunsFront := by
  refine ⟨fun c q s h => ?_, fun s h => ?_⟩
  · rw [step, h]
  · rw [step, h]

/-- Settles O3, by the step lemma that every command ends in a next state. -/
theorem stepTakesOneCommand : Obligations.StepTakesOneCommand := by
  intro s
  obtain ⟨t, hstep, hqueue, -⟩ := step_good s
  exact ⟨t, hstep, hqueue⟩

/-- Settles O2: the registers of the reset state are evaluated, and its other parts are empty by definition. -/
theorem resetState : Obligations.ResetState := by
  refine ⟨?id, ?mode, ?ready, ?groups, ?rings, ?events, ?period, fun e => rfl, rfl, rfl, ?canonical⟩ <;> decide +kernel

end Sys2Proof.Machine
end

section
/-!
PROOF. The end of a capture (R407, R411): how many captures of a repeat arming are left. A unit with none left that still captures goes to IDLE.
-/
namespace Sys2Proof.Machine

-- As in `Laws/Rows`, the proofs of this section, which run the model in the kernel, are elaborated one after another.
set_option Elab.async false

/-- Capture unit 0 samples at every strobe in a repeat arming of which no capture is left; its capture has its trigger and a POST of 0. -/
def captureAtLastRepeat : State :=
  (((State.reset.set (F.capCuCfg_MODE 0) 1).set (F.capCuCfg_CLK 0) 3).set (F.capCuStatus_STATE 0) cPost).updCu 0 (fun x =>
    { x with on := true, left := some 0, trig := some { time := 0, conds := 0, exits := 0, locked := false } })

/-- The sample of the strobe ends the capture, and the unit goes to IDLE. -/
theorem captureAtLastRepeat_ends_idle :
    (capSample 0 false (captureAtLastRepeat.atCyc 0)).get (F.capCuStatus_STATE 0) = cIdle := by
  decide +kernel

/-- Refutes O43: the clause of an ended capture sends a unit in repeat mode to DEAD unless exactly one capture of its arming is left, but the
model also ends an arming of which none is left. The clause would need as a hypothesis that a running arming has a capture left, as every ARM
leaves it. -/
theorem not_captureSamples : ¬ Obligations.CaptureSamples := by
  intro h
  obtain ⟨-, -, -, hsample, -⟩ := h 0 false 0 captureAtLastRepeat
  obtain ⟨-, -, hevaluated⟩ := hsample captureAtLastRepeat.clk.clk (by decide +kernel)
  obtain ⟨t, ht, -, -, -, -, -, hdone, -⟩ := hevaluated (Or.inr (Or.inl (by decide +kernel))) (fun hfull => absurd hfull.1 (by decide))
  obtain ⟨-, -, hrepeat, -⟩ := hdone ⟨by decide +kernel, rfl, rfl⟩
  obtain ⟨hstate, -⟩ := hrepeat ⟨by decide +kernel, rfl, by decide +kernel⟩
  obtain rfl : capSample 0 false (captureAtLastRepeat.atCyc 0) = t := Host.Outcome.next.inj ht
  exact absurd (captureAtLastRepeat_ends_idle.symm.trans hstate) (by decide)

end Sys2Proof.Machine
end

section
/-!
PROOF. Receipt time-outs (R430): the Sync receipt timer of a port that is LISTENING, while its Announce receipt timer still runs.
-/
namespace Sys2Proof.Machine

-- As in `Laws/Rows`, the proofs of this section, which run the model in the kernel, are elaborated one after another.
set_option Elab.async false

/-- NE works. Port 0 is in plant mode with PTP on an ordinary clock; it is LISTENING, its Announce receipt timer runs until step 1, and it has a
master whose Sync receipt timer has run. -/
def listeningWithMaster : State :=
  (((((State.reset.updEng eNE (fun e => { e with run := true })).set (F.netPortCfg_MODE 0) 1).set F.ptpCfg_CLOCK 1).set (F.ptpPortCfg_EN 0) 1).set
    (F.ptpPortState_PORT_STATE 0) psListening).updPp 0 (fun x => { x with parent := some (0, 0), annDue := 1 })

/-- The port stays LISTENING, as its Announce receipt timer still runs. -/
theorem listeningWithMaster_stays_listening :
    (byNe (syncTimeout 0) listeningWithMaster).get (F.ptpPortState_PORT_STATE 0) = psListening := by
  decide +kernel

/-- Refutes O46: the clause of a receipt time-out makes a port without another master MASTER wherever it is not DISABLED, but a port that is
LISTENING stays so until its Announce receipt timer has run. The clause would need as a hypothesis that a port with a master is SLAVE, as the
roles leave it. -/
theorem not_ptpControl : ¬ Obligations.PtpControl := by
  intro h
  obtain ⟨-, htimeouts, -⟩ := h { ring := 0, len := 1 } 0 0 0 listeningWithMaster
  obtain ⟨-, ⟨hexpires, -⟩, -⟩ := htimeouts (by decide +kernel)
  obtain ⟨t, ht, -, -, -, hbmca, -⟩ := hexpires (by decide +kernel)
  have hforeign : (listeningWithMaster.pp 0).foreign = [] := by decide +kernel
  obtain ⟨-, -, -, hport⟩ := hbmca (by decide +kernel)
    ⟨by decide +kernel, by decide +kernel, fun f hf => absurd (hforeign ▸ hf) List.not_mem_nil⟩ (by decide +kernel)
  obtain rfl : byNe (syncTimeout 0) listeningWithMaster = t := Host.Outcome.next.inj ht
  exact absurd (listeningWithMaster_stays_listening.symm.trans hport) (by decide +kernel)

end Sys2Proof.Machine
end

section
/-!
PROOF. The Halyard link (spec/12_network_and_time.md): what a node that leaves writes for an axis in a group number out of range (R23, R452).
-/
namespace Sys2Proof.Machine

-- As in `Laws/Rows`, the proofs of this section, which run the model in the kernel, are elaborated one after another.
set_option Elab.async false

/-- NE works. The node of slot 0, which the host owns, is JOINED with AUTO_REJOIN, and its watchdog has run. Its axis 0 is bound to the group of
bits 3:0 of NET.NODE_STATE. -/
def joinedNodeWithoutReply : State :=
  let s := (State.reset.updEng eNE (fun e => { e with run := true })).set (nodeFld 0) nJoined
  { (s.updNode 0 (fun x => { x with
      cfg := some {
        owner := 0xFF, wd := 2, rejoin := true, tse := false, port := 2, product := 0, vendor := 0, serial := 0, count := 1, base := 0
        ioOut := 0, ioIn := 0 } })) with
    clk := { s.clk with ticks := 1 }
    plan := { axes := [(0, { bound := some (groupInWord (A.netNodeState 0) 0, 0) })] } }

/-- The node leaves; its axis faults, and the code of the state of the axis's group enters NODE_STATE. -/
theorem partnerWatchdog_writes_group_state :
    (byNe (partnerWatchdog 0) joinedNodeWithoutReply).nodeSt 0 = gFaulted := by
  decide +kernel

/-- Refutes O48: the clause of an expired watchdog makes the slot SEEKING in every state, but the axes of the node fault with it (R452), their
groups go to FAULTED, and a group number above 31 has no field of its own: here its state lands in the slot's. The clause would need the groups of
the axes to be of 0 to 31 as a hypothesis, as they are in every state that AXIS_BIND makes. -/
theorem not_halyard : ¬ Obligations.Halyard := by
  intro h
  obtain ⟨-, -, -, -, -, hworks, -⟩ :=
    h { ring := 0, len := 1 } 0 0 0 ⟨0, 0, 0, 0, 0, 0, 0, 0⟩ ⟨0, 0, 0, 0, 0, [], [], []⟩ false 0 joinedNodeWithoutReply
  obtain ⟨-, -, -, ⟨-, -, -, -, hwatchdog⟩, -⟩ := hworks (by decide +kernel)
  obtain ⟨t, ht, ⟨hstate, -⟩, -⟩ := hwatchdog _ rfl (by decide +kernel) (by decide +kernel)
  obtain rfl : byNe (partnerWatchdog 0) joinedNodeWithoutReply = t := Host.Outcome.next.inj ht
  exact absurd (partnerWatchdog_writes_group_state.symm.trans hstate) (by decide)

end Sys2Proof.Machine
end

section
/-!
PROOF. The Shroud's registers (Tables 13.10 and 13.11): what a step publishes for a function number out of range, whose register is that of a
safe axis.
-/
namespace Sys2Proof.Machine

-- As in `Laws/Rows`, the proofs of this section, which run the model in the kernel, are elaborated one after another.
set_option Elab.async false

/-- Where the JTAG port has not taken the pads, a step of the Shroud is the Shroud's own. -/
theorem jtagWatch_of_pads_free {before : State} (s : State) (h : before.padsTaken = false) : jtagWatch before s = s := by
  simp [jtagWatch, h]

/-- An SLS on zone 0 as function 0, with T_REACT 0, a brake as function 64, which is out of range, and safe axis 0. -/
def crossedConfig : SafetyCfg where
  pairs := [{ kind := 1 }]
  tpIn := []
  outs := []
  zones := []
  axes := [(0, {
    axis := 0, src := 0, fb1 := 0, fb2 := 0, num := 1, den := 1, axNum := 1, axDen := 1, posTol := 0, vRef := 1, vTol := 0, vZero := 0, posWin := 0
    sdiTol := 0 })]
  conns := []
  fns := [(0, crossedFunction 5), (64, crossedFunction 7)]
where
  /-- A function of Table 13.3 on zone 0 without a demand. -/
  crossedFunction (func : Nat) : FnCfg :=
    { func := func, zone := 0, pairs := 0, host := false, tse := none, restart := false, react := false, tDelay := 0, tRamp := 0, hd := false
      share := 0, margin := 0, reef := false, tReact := 0, dir := false, out := 0, tBrake := 0 }

/-- The Shroud in RUN in step 2 under this configuration: the discrepancy timer of pair 0 has run, and so has the reaction time of function 0. -/
def crossedShroud : State :=
  { State.reset.set F.shrStatus_STATE 2 with
    shr := { tick := 2, started := true, cfg := some (crossedConfig, 0), pairs := [(0, { left := some 0 })], fns := [(0, { state := 1 })] } }

/-- Neither timer leaves function 64 with its function in its register: it is SHR.SA of safe axis 0, which is published after it and shows the
standstill of the axis. -/
theorem crossedShroud_publishes_axis :
    ((discrepancy 0 crossedShroud).reg (A.shrFn 64) = 2 ∧ ((discrepancy 0 crossedShroud).fn 64).state = 0) ∧
      (slsReact 0 crossedShroud).reg (A.shrFn 64) = 2 ∧ ((slsReact 0 crossedShroud).fn 64).state = 0 := by
  decide +kernel

/-- The functions have taken no step as `FnsStepped` has it where the register of function 64 does not show the brake's function. -/
theorem not_fnsStepped_of_crossed {u t : State} (hcfg : u.scfg = crossedConfig)
    (hshown : t.reg (A.shrFn 64) = 2 ∧ (t.fn 64).state = 0) : ¬ FnsStepped u t := by
  rintro ⟨-, -, -, hfns, -⟩
  rw [hcfg] at hfns
  obtain ⟨-, hbrake⟩ := hfns (by decide) (64, crossedConfig.crossedFunction 7) (by decide)
  have hdemand : t.srcDem (crossedConfig.crossedFunction 7) (t.fn 64) = 0 := rfl
  rw [hshown.1, hshown.2, hdemand] at hbrake
  exact absurd hbrake (by decide)

/-- Refutes O49: the clause of the discrepancy timer has every function of the configuration in its register after the step, but the register of
function 64 is that of safe axis 0, which the step publishes as well. The clause would need the numbers of functions and safe axes to be in range as
a hypothesis, as they are in a configuration that SAFETY_CONFIG accepts. -/
theorem not_shroudInputs : ¬ Obligations.ShroudInputs := by
  intro h
  obtain ⟨-, -, -, hdiscrepancy, -⟩ := h 0 false false false 0 0 {} crossedShroud
  obtain ⟨t, ht, -, -, -, hstepped, -⟩ := hdiscrepancy 0 rfl (by decide)
  have ht' : jtagWatch crossedShroud (discrepancy 0 crossedShroud) = jtagWatch crossedShroud t := Host.Outcome.next.inj ht
  rw [jtagWatch_of_pads_free _ (by decide), jtagWatch_of_pads_free _ (by decide)] at ht'
  exact not_fnsStepped_of_crossed rfl (ht' ▸ crossedShroud_publishes_axis.1) (hstepped (by decide +kernel))

/-- Refutes O50: the clause of T_REACT has every function of the configuration in its register after the step, but the register of function 64 is
that of safe axis 0, which the step publishes as well. The clause would need the numbers of functions and safe axes to be in range as a hypothesis,
as they are in a configuration that SAFETY_CONFIG accepts. -/
theorem not_shroudFunctions : ¬ Obligations.ShroudFunctions := by
  intro h
  obtain ⟨⟨-, -, hreact⟩, -⟩ := h 0 0 false false 0 0 0 0 {} crossedShroud
  obtain ⟨t, ht, hstepped, -⟩ := hreact _ rfl (by decide)
  have ht' : jtagWatch crossedShroud (slsReact 0 crossedShroud) = jtagWatch crossedShroud t := Host.Outcome.next.inj ht
  rw [jtagWatch_of_pads_free _ (by decide), jtagWatch_of_pads_free _ (by decide)] at ht'
  exact not_fnsStepped_of_crossed rfl (ht' ▸ crossedShroud_publishes_axis.2) (hstepped (by decide +kernel))

end Sys2Proof.Machine
end

section
/-!
PROOF. The thermal trip (R528): what the Shroud publishes at it for a connection in a number out of range, whose registers lie past the block SHR.
-/
namespace Sys2Proof.Machine

-- As in `Laws/Rows`, the proofs of this section, which run the model in the kernel, are elaborated one after another.
set_option Elab.async false

/-- A configuration in force with a TSE connection of node 1 in number 896, of which SHR.TSE would stand at DBG.INFO, past the block SHR. -/
def connectionPastShr : State :=
  { State.reset with shr := { cfg := some ({
      pairs := [], tpIn := [], outs := [], zones := [], axes := [], fns := []
      conns := [(896, { node := 1, connId := 0, wd := 2, zone := 0, axmap := [] })] }, 0) } }

/-- At a trip DBG.INFO shows the connection's node; the safe levels of the slots alone leave it as at reset. -/
theorem thermalTrip_writes_past_shr :
    (thermalTrip 1 (connectionPastShr.atCyc 0)).reg A.dbgInfo = 0x100FF ∧
      (forEach (upto connectionPastShr.slots) slotSafe (connectionPastShr.atCyc 0)).reg A.dbgInfo = 0x28000001 := by
  decide +kernel

/-- Refutes O55: the clause of a trip keeps every register outside the blocks PWM and SHR, but the Shroud publishes its state at a trip, and the
number of a connection is in no range: the register of connection 896 is DBG.INFO. The clause would need the numbers of connections to be in
range as a hypothesis, as they are in a configuration that SAFETY_CONFIG accepts. -/
theorem not_sensors : ¬ Obligations.Sensors := by
  intro h
  obtain ⟨-, -, -, -, htrip, -⟩ := h 0 0 0 { ring := 0, len := 1 } 1 connectionPastShr
  obtain ⟨t, ht, ⟨hregs, -⟩, -⟩ := htrip (by decide +kernel)
  obtain rfl : thermalTrip 1 (connectionPastShr.atCyc 0) = t := Host.Outcome.next.inj ht
  obtain ⟨htripped, hsafe⟩ := thermalTrip_writes_past_shr
  have hkept := hregs A.dbgInfo (.inr (by decide)) (by decide)
  rw [htripped, hsafe] at hkept
  exact absurd hkept (by decide)

end Sys2Proof.Machine
end

section
/-!
PROOF. Images (spec/16_images_and_update.md): what the end of a reload and the end of a swap write for a group number out of range (R547, R553).
-/
namespace Sys2Proof.Machine

-- As in `Laws/Rows`, the proofs of this section, which run the model in the kernel, are elaborated one after another.
set_option Elab.async false

/-! ## The end of a reload -/

/-- Engine 0 has stopped for a reload from slot 0, and its axis is bound to the group of bits 3:0 of IMG.STATUS, where STORE_ERR and STORE_BUSY are
set: the code of QUARANTINED. -/
def reloadOfStatusGroup : State :=
  { (State.reset.set F.imgStatus_STORE_ERR 1).set F.imgStatus_STORE_BUSY 1 with
    img := { engs := [(0, { reload := some (0, false) })] }
    plan := { axes := [(0, { bound := some (groupInWord A.imgStatus 0, 0) })] } }

/-- The engine passes, its group goes to IDLE, and the code of IDLE enters the register. -/
theorem engineReload_writes_group_state :
    reloadOfStatusGroup.get F.imgStatus_STORE_ERR = 1 ∧ (engineReload 0 reloadOfStatusGroup).get F.imgStatus_STORE_ERR = 0 := by
  decide +kernel

/-- Refutes O56: the clause of the end of a reload keeps every flag of IMG.STATUS but BOOT_PENDING, but the groups of the engine that are QUARANTINED
go to IDLE with it (R547), and a group number above 31 has no field of its own: here its state stands in IMG.STATUS. The clause would need the groups
of the axes to be of 0 to 31 as a hypothesis, as they are in every state that AXIS_BIND makes. -/
theorem not_imageLoading : ¬ Obligations.ImageLoading := by
  intro h
  obtain ⟨-, -, -, -, ⟨-, hreload⟩, -⟩ := h { ring := 0, len := 1 } false 0 reloadOfStatusGroup
  obtain ⟨t, ht, -, -, -, -, -, -, -, -, -, -, hflags, -⟩ := hreload (0, false) rfl (by decide) (by decide +kernel)
  obtain rfl : engineReload 0 reloadOfStatusGroup = t := Host.Outcome.next.inj ht
  obtain ⟨hbefore, hafter⟩ := engineReload_writes_group_state
  have hkept := hflags F.imgStatus_STORE_ERR (by decide) (by decide)
  rw [hbefore, hafter] at hkept
  exact absurd hkept (by decide)

/-! ## A swap that is given up -/

/-- A swap of engine 0 is armed for more than TRIES strobes; its one group is that of bits 3:0 of PWT.VOLTS, where the code of SWAPPING stands. -/
def expiredSwapOfVoltsGroup : State :=
  { State.reset.set F.pwtVolts_VBACK gSwapping with
    img := { jobs := [{ mask := [0], count := 300, prev := [(groupInWord A.pwtVolts 0, gIdle)] }] } }

/-- The group goes back to IDLE, and the code of IDLE enters the register. -/
theorem swapAbandon_writes_group_state :
    expiredSwapOfVoltsGroup.reg A.pwtVolts = 4 ∧ (swapAbandon 0 expiredSwapOfVoltsGroup).reg A.pwtVolts = 0 := by
  decide +kernel

/-- Refutes O57: the clause of a swap that is given up keeps every register but those of the images, the group states and GLB.STATUS, but the
groups of the swap go back to what they were (R553), and a group number above 31 has no field of its own: here its state stands in PWT.VOLTS. The
clause would need the groups of a swap to be of 0 to 31 as a hypothesis, as they are in every swap that is armed for groups of AXIS_BIND. -/
theorem not_imageSwaps : ¬ Obligations.ImageSwaps := by
  intro h
  obtain ⟨-, -, -, hjob⟩ := h { ring := 0, len := 1 } 0 expiredSwapOfVoltsGroup
  obtain ⟨-, -, -, habandon, -⟩ := hjob _ rfl
  obtain ⟨t, ht, ⟨hregs, -⟩, -⟩ := habandon (by decide +kernel)
  obtain rfl : swapAbandon 0 expiredSwapOfVoltsGroup = t := Host.Outcome.next.inj ht
  obtain ⟨hbefore, hafter⟩ := swapAbandon_writes_group_state
  have hkept := hregs A.pwtVolts (by decide +kernel)
  rw [hbefore, hafter] at hkept
  exact absurd hkept (by decide)

end Sys2Proof.Machine
end

section
/-!
PROOF. Which registers differ between two states, said once for each way to write one, and what a fold over numbers makes of the part of a state
that one of its steps reads and writes.
-/
namespace Sys2Proof.Machine

/-! ## Registers -/

/-- Between two states only registers of a list differ. -/
def RegsBut (l : List Nat) (s t : State) : Prop := ∀ a, a ∉ l → t.reg a = s.reg a

namespace RegsBut
variable {l : List Nat} {s t u : State}

theorem refl (l : List Nat) (s : State) : RegsBut l s s := fun _ _ => rfl

theorem trans (hst : RegsBut l s t) (htu : RegsBut l t u) : RegsBut l s u := fun a ha => (htu a ha).trans (hst a ha)

theorem mono {m : List Nat} (h : RegsBut l s t) (hlm : l ⊆ m) : RegsBut m s t := fun a ha => h a (fun hl => ha (hlm hl))

theorem of_regs (h : t.regs = s.regs) : RegsBut l s t := fun a _ => congrArg (Table.look (regReset a) · a) h

theorem setReg (h : RegsBut l s t) {a : Nat} (ha : a ∈ l) (v : W32) : RegsBut l s (t.setReg a v) := fun b hb =>
  (State.reg_setReg_other t v (fun hab : b = a => hb (hab ▸ ha))).trans (h b hb)

theorem set (h : RegsBut l s t) {f : Fld} (ha : f.a ∈ l) (v : Nat) : RegsBut l s (t.set f v) := h.setReg ha _

theorem setB (h : RegsBut l s t) {f : Fld} (ha : f.a ∈ l) (b : Bool) : RegsBut l s (t.setB f b) := h.set ha _

theorem setI (h : RegsBut l s t) {f : Fld} (ha : f.a ∈ l) (v : Int) : RegsBut l s (t.setI f v) := h.set ha _

theorem flag (h : RegsBut l s t) {f : Fld} (ha : f.a ∈ l) : RegsBut l s (t.flag f) := h.set ha 1

theorem bump (h : RegsBut l s t) {f : Fld} (ha : f.a ∈ l) : RegsBut l s (t.bump f) := h.set ha _

theorem raise (h : RegsBut l s t) (ha : A.hriEvtLost ∈ l) (code sev data ctrl : Nat) (p : List (Nat × Nat × Nat)) :
    RegsBut l s (t.raise code sev data ctrl p) := by
  unfold State.raise State.raiseAt
  split
  · exact RegsBut.set (f := F.hriEvtLost_LOST) h ha _
  · exact h

theorem whenB {f : State → State} (h : RegsBut l s t) (c : Bool) (hf : RegsBut l s (f t)) : RegsBut l s (whenB c f t) := by
  cases c
  · exact h
  · exact hf

theorem forEach {α : Type} {f : α → State → State} {m : List α} (hf : ∀ x ∈ m, ∀ t, RegsBut l s t → RegsBut l s (f x t))
    (h : RegsBut l s t) : RegsBut l s (forEach m f t) := by
  induction m generalizing t with
  | nil => exact h
  | cons x r ih => exact ih (fun y hy => hf y (List.mem_cons_of_mem _ hy)) (hf x List.mem_cons_self t h)

theorem get (h : RegsBut l s t) {f : Fld} (hf : f.a ∉ l) : t.get f = s.get f := by rw [State.get, State.get, h f.a hf]

theorem getB (h : RegsBut l s t) {f : Fld} (hf : f.a ∉ l) : t.getB f = s.getB f := by rw [State.getB, State.getB, h.get hf]

end RegsBut

/-! ## A fold of which one step makes a part -/

/-- Where the other steps of a fold leave a part of the state alone, the step for `x` makes the part that the fold ends with, from a state that has
the part of the first. -/
theorem forEach_part {α β : Type} (part : State → β) {l : List α} {f : α → State → State} {x : α} (hx : x ∈ l) (hnodup : l.Nodup)
    (hother : ∀ y ∈ l, y ≠ x → ∀ t, part (f y t) = part t) (s : State) :
    ∃ t, part t = part s ∧ part (forEach l f s) = part (f x t) := by
  induction l generalizing s with
  | nil => exact absurd hx List.not_mem_nil
  | cons y r ih =>
    obtain ⟨hyr, hr⟩ := List.nodup_cons.mp hnodup
    by_cases hyx : y = x
    · subst hyx
      exact ⟨s, rfl, forEach_eq_of_step part (fun z hz t => hother z (List.mem_cons_of_mem _ hz) (fun hzy => hyr (hzy ▸ hz)) t) _⟩
    · obtain ⟨t, hbefore, hafter⟩ := ih ((List.mem_cons.mp hx).resolve_left (Ne.symm hyx)) hr
        (fun z hz => hother z (List.mem_cons_of_mem _ hz)) (f y s)
      exact ⟨t, hbefore.trans (hother y List.mem_cons_self hyx s), hafter⟩

end Sys2Proof.Machine
end

section
/-!
PROOF. The JTAG port (spec/17_electrical_and_package.md, R582): the register that an instruction selects, and the safe levels of every slot where
STO_ALL falls.
-/
namespace Sys2Proof.Machine

/-! ## Safe levels of one slot (R313, R314) -/

/-- The registers that show a slot's RUN, its status and its residues. -/
def slotShown (n : Nat) : List Nat := [A.pwmSlotCtrl n, A.pwmSlotStatus n] ++ (upto 4).map (A.pwmSlotResidue n)

/-- The part of a state that the safe levels of slot `n` read and write. -/
def slotPart (n : Nat) (s : State) : Bool × ({a // a ∈ slotShown n} → W32) × SlotSt := (s.slotPresent n, fun a => s.reg a.val, s.slot n)

theorem mem_slotShown {n a : Nat} (h : a ∈ slotShown n) : 0x8000 + 0x100 * n ≤ a ∧ a < 0x8000 + 0x100 * (n + 1) := by
  simp only [slotShown, upto, List.mem_append, List.mem_cons, List.not_mem_nil, or_false, List.mem_map, List.mem_range, A.pwmSlotCtrl,
    A.pwmSlotStatus, A.pwmSlotResidue] at h
  rcases h with h | ⟨p, hp, rfl⟩ <;> omega

theorem slotShown_disjoint {n m : Nat} (h : m ≠ n) {a : Nat} (ha : a ∈ slotShown n) : a ∉ slotShown m := by
  intro hb
  have hn := mem_slotShown ha
  have hm := mem_slotShown hb
  omega

theorem not_mem_slotShown {a : Nat} (h : a < 0x8000) (n : Nat) : a ∉ slotShown n := fun ha => by have := mem_slotShown ha; omega

theorem slotSafe_of_absent {n : Nat} {s : State} (h : s.slotPresent n = false) : slotSafe n s = s := by simp [slotSafe, h]

theorem pwmSlotCtrl_mem_slotShown (n : Nat) : A.pwmSlotCtrl n ∈ slotShown n := List.mem_cons_self

theorem pwmSlotStatus_mem_slotShown (n : Nat) : A.pwmSlotStatus n ∈ slotShown n := List.mem_cons_of_mem _ List.mem_cons_self

theorem pwmSlotResidue_mem_slotShown (n : Nat) {p : Nat} (hp : p ∈ upto 4) : A.pwmSlotResidue n p ∈ slotShown n :=
  List.mem_append_right _ (List.mem_map_of_mem hp)

theorem regsBut_dropResidues (n : Nat) (s : State) : RegsBut ((upto 4).map (A.pwmSlotResidue n)) s (dropResidues n s) :=
  .forEach (fun _ hp _ ht => ht.set (f := F.pwmSlotResidue_RESIDUE n _) (List.mem_map_of_mem hp) 0) (.refl _ s)

theorem pwmSlotCtrl_not_residue (n : Nat) : A.pwmSlotCtrl n ∉ (upto 4).map (A.pwmSlotResidue n) := by
  simp only [upto, List.mem_map, List.mem_range, A.pwmSlotCtrl, A.pwmSlotResidue]
  rintro ⟨p, hp, h⟩
  omega

theorem pwmSlotStatus_not_residue (n : Nat) : A.pwmSlotStatus n ∉ (upto 4).map (A.pwmSlotResidue n) := by
  simp only [upto, List.mem_map, List.mem_range, A.pwmSlotStatus, A.pwmSlotResidue]
  rintro ⟨p, hp, h⟩
  omega

/-- The residues of a slot are dropped. -/
theorem dropResidues_residue {n p : Nat} (hp : p ∈ upto 4) (s : State) : (dropResidues n s).get (F.pwmSlotResidue_RESIDUE n p) = 0 := by
  refine forEach_of_mem (P := fun t => t.get (F.pwmSlotResidue_RESIDUE n p) = 0) hp (fun t => ?_) (fun q _ t ht => ?_) s
  · exact State.get_set_same t _ 0 (show 31 < 32 by decide)
  · by_cases hqp : q = p
    · subst hqp
      exact State.get_set_same t _ 0 (show 31 < 32 by decide)
    · refine (State.get_set_reg t 0 ?_).trans ht
      simp only [F.pwmSlotResidue_RESIDUE, A.pwmSlotResidue]
      omega

theorem regsBut_slotSafe (n : Nat) (s : State) : RegsBut (slotShown n) s (slotSafe n s) := by
  unfold slotSafe
  split
  · exact .refl _ s
  · have hrun := (RegsBut.refl (slotShown n) s).set (f := F.pwmSlotCtrl_RUN n) (pwmSlotCtrl_mem_slotShown n) 0
    have hsafe := hrun.set (f := F.pwmSlotStatus_SAFE n) (pwmSlotStatus_mem_slotShown n) 1
    exact (hsafe.trans (.of_regs (State.updSlot_regs ..))).trans ((regsBut_dropResidues n _).mono (List.subset_append_right ..))

/-- Safe levels clear RUN and leave the rest of the slot's CTRL. -/
theorem slotSafe_ctrl {n : Nat} {s : State} (h : s.slotPresent n = true) :
    (slotSafe n s).reg (A.pwmSlotCtrl n) = setBits (s.reg (A.pwmSlotCtrl n)) 0 0 0 := by
  rw [slotSafe, if_neg (by simp [h]), regsBut_dropResidues n _ _ (pwmSlotCtrl_not_residue n), State.updSlot_reg,
    State.reg_set_other _ _ _ (by simp only [F.pwmSlotStatus_SAFE, A.pwmSlotStatus, A.pwmSlotCtrl]; omega)]
  exact State.reg_setReg_same ..

/-- Safe levels set SAFE and leave the rest of the slot's STATUS. -/
theorem slotSafe_status {n : Nat} {s : State} (h : s.slotPresent n = true) :
    (slotSafe n s).reg (A.pwmSlotStatus n) = setBits (s.reg (A.pwmSlotStatus n)) 8 8 1 := by
  rw [slotSafe, if_neg (by simp [h]), regsBut_dropResidues n _ _ (pwmSlotStatus_not_residue n), State.updSlot_reg]
  refine (State.reg_setReg_same ..).trans ?_
  rw [State.reg_set_other _ _ _ (by simp only [F.pwmSlotStatus_SAFE, F.pwmSlotCtrl_RUN, A.pwmSlotStatus, A.pwmSlotCtrl]; omega)]
  rfl

theorem slotSafe_residue {n p : Nat} {s : State} (h : s.slotPresent n = true) (hp : p ∈ upto 4) :
    (slotSafe n s).get (F.pwmSlotResidue_RESIDUE n p) = 0 := by
  rw [slotSafe, if_neg (by simp [h])]
  exact dropResidues_residue hp _

theorem dropResidues_pwm (n : Nat) (s : State) : (dropResidues n s).pwm = s.pwm := by
  unfold dropResidues
  exact forEach_eq_of_step State.pwm (fun _ _ t => State.set_pwm t _ _) s

/-- A slot at its safe levels pulses no more. -/
theorem slotSafe_slot {n : Nat} {s : State} (h : s.slotPresent n = true) :
    (slotSafe n s).slot n = { s.slot n with pulsing := false, pairs := [] } := by
  rw [slotSafe, if_neg (by simp [h]), State.slot, dropResidues_pwm]
  exact State.slot_updSlot_same ..

theorem slotSafe_slot_other {n m : Nat} (h : m ≠ n) (s : State) : (slotSafe n s).slot m = s.slot m := by
  unfold slotSafe
  split
  · rfl
  · rw [State.slot, dropResidues_pwm]
    exact State.slot_updSlot_other _ _ h

/-- Safe levels change registers and the slots of the PWM block alone. -/
theorem slotSafe_frame (n : Nat) (s : State) :
    { slotSafe n s with regs := [], pwm := { (slotSafe n s).pwm with slots := [] } } = { s with regs := [], pwm := { s.pwm with slots := [] } } := by
  unfold slotSafe
  split <;> rfl

/-! ## Safe levels of every slot -/

theorem slotSafe_slotPresent (n m : Nat) (s : State) : (slotSafe n s).slotPresent m = s.slotPresent m := by
  unfold State.slotPresent State.slots
  rw [(regsBut_slotSafe n s).get (not_mem_slotShown (by decide) n)]

theorem slotSafe_slotPart_other {n m : Nat} (h : m ≠ n) (s : State) : slotPart n (slotSafe m s) = slotPart n s := by
  unfold slotPart
  rw [slotSafe_slotPresent, slotSafe_slot_other h.symm]
  exact congrArg (fun r => (_, r, _)) (funext fun a : {a // a ∈ slotShown n} => regsBut_slotSafe m s a.val (slotShown_disjoint h a.property))

/-- What the safe levels of all 24 slots make of slot `n`, its own make of it. -/
theorem slotPart_slotSafe_all {n : Nat} (hn : n < 24) (u : State) :
    ∃ v, slotPart n v = slotPart n u ∧ slotPart n (forEach (upto 24) slotSafe u) = slotPart n (slotSafe n v) :=
  forEach_part (slotPart n) (List.mem_range.mpr hn) List.nodup_range (fun _ _ h t => slotSafe_slotPart_other h t) u

theorem regsBut_slotSafe_all (u : State) :
    RegsBut (((upto 24).filter u.slotPresent).flatMap slotShown) u (forEach (upto 24) slotSafe u) := by
  refine .forEach (fun n hn t ht => ?_) (.refl _ u)
  have hcaps : A.glbCaps ∉ ((upto 24).filter u.slotPresent).flatMap slotShown := fun h => by
    obtain ⟨m, -, hm⟩ := List.mem_flatMap.mp h
    exact not_mem_slotShown (by decide) m hm
  have hpresent : t.slotPresent n = u.slotPresent n := by
    unfold State.slotPresent State.slots
    rw [ht.get hcaps]
  cases hslot : u.slotPresent n with
  | false => rwa [slotSafe_of_absent (hpresent.trans hslot)]
  | true =>
    exact ht.trans ((regsBut_slotSafe n t).mono (fun a ha => List.mem_flatMap.mpr ⟨n, List.mem_filter.mpr ⟨hn, hslot⟩, ha⟩))

theorem slotSafe_all_frame (u : State) : forEach (upto 24) slotSafe u = { u with
    regs := (forEach (upto 24) slotSafe u).regs, pwm := { u.pwm with slots := (forEach (upto 24) slotSafe u).pwm.slots } } := by
  have h := forEach_eq_of_step (fun t : State => { t with regs := [], pwm := { t.pwm with slots := [] } }) (l := upto 24)
    (fun n _ => slotSafe_frame n) u
  generalize forEach (upto 24) slotSafe u = t at h ⊢
  obtain ⟨⟩ := t
  obtain ⟨⟩ := u
  simp_all

/-! ## The fall of STO_ALL (R582) -/

/-- Every present slot has gone to its safe levels, and nothing else has changed. -/
def SlotsSafe (u t : State) : Prop :=
  (∀ a, a ∉ ((upto 24).filter u.slotPresent).flatMap slotShown → t.reg a = u.reg a) ∧
  (∀ n : Fin 24, (u.slotPresent n.val = false → t.slot n.val = u.slot n.val) ∧
    (u.slotPresent n.val = true → t.getB (F.pwmSlotCtrl_RUN n.val) = false ∧ t.getB (F.pwmSlotStatus_SAFE n.val) = true ∧
      t.slot n.val = { u.slot n.val with pulsing := false, pairs := [] } ∧
      (∀ q : Fin 4, t.get (F.pwmSlotResidue_RESIDUE n.val q.val) = 0) ∧
      (∀ b : Fin 32, b.val ≠ (F.pwmSlotCtrl_RUN n.val).lo →
        (t.reg (A.pwmSlotCtrl n.val)).getLsbD b.val = (u.reg (A.pwmSlotCtrl n.val)).getLsbD b.val) ∧
      (∀ b : Fin 32, b.val ≠ (F.pwmSlotStatus_SAFE n.val).lo →
        (t.reg (A.pwmSlotStatus n.val)).getLsbD b.val = (u.reg (A.pwmSlotStatus n.val)).getLsbD b.val))) ∧
  t = { u with regs := t.regs, pwm := { u.pwm with slots := t.pwm.slots } }

/-- The registers and the slot that a part shows. -/
theorem slotPart_eq {n : Nat} {s t : State} (h : slotPart n s = slotPart n t) :
    s.slotPresent n = t.slotPresent n ∧ (∀ a, a ∈ slotShown n → s.reg a = t.reg a) ∧ s.slot n = t.slot n := by
  obtain ⟨hpresent, hrest⟩ := Prod.mk.inj h
  obtain ⟨hregs, hslot⟩ := Prod.mk.inj hrest
  exact ⟨hpresent, fun a ha => congrFun hregs ⟨a, ha⟩, hslot⟩

theorem slotsSafe_forEach (u : State) : SlotsSafe u (forEach (upto 24) slotSafe u) := by
  refine ⟨regsBut_slotSafe_all u, fun n => ?_, slotSafe_all_frame u⟩
  obtain ⟨v, hbefore, hafter⟩ := slotPart_slotSafe_all n.isLt u
  obtain ⟨hpresent, hregs, hslot⟩ := slotPart_eq hbefore
  obtain ⟨-, hregs', hslot'⟩ := slotPart_eq hafter
  refine ⟨fun habsent => ?_, fun hthere => ?_⟩
  · rw [hslot', slotSafe_of_absent (hpresent.trans habsent), hslot]
  · have hv : v.slotPresent n.val = true := hpresent.trans hthere
    have hctrl := (hregs' _ (pwmSlotCtrl_mem_slotShown n.val)).trans (slotSafe_ctrl hv)
    have hstatus := (hregs' _ (pwmSlotStatus_mem_slotShown n.val)).trans (slotSafe_status hv)
    rw [hregs _ (pwmSlotCtrl_mem_slotShown n.val)] at hctrl
    rw [hregs _ (pwmSlotStatus_mem_slotShown n.val)] at hstatus
    refine ⟨?_, ?_, ?_, fun q => ?_, fun b hb => ?_, fun b hb => ?_⟩
    · rw [State.getB_of_get (State.get_of_reg hctrl)]
      exact congrArg (· != 0) (bits_setBits_same _ 0 0 0 (by decide))
    · rw [State.getB_of_get (State.get_of_reg hstatus)]
      exact congrArg (· != 0) (bits_setBits_same _ 8 8 1 (by decide))
    · rw [hslot', slotSafe_slot hv, hslot]
    · have hq : q.val ∈ upto 4 := List.mem_range.mpr q.isLt
      exact (congrArg (bits · 31 0) (hregs' _ (pwmSlotResidue_mem_slotShown n.val hq))).trans (slotSafe_residue hv hq)
    · rw [hctrl, setBits_getLsbD, if_neg (by rintro ⟨-, h0, h1⟩; exact hb (Nat.le_antisymm h1 h0))]
    · rw [hstatus, setBits_getLsbD, if_neg (by rintro ⟨-, h0, h1⟩; exact hb (Nat.le_antisymm h1 h0))]

/-- While STO_ALL reads 0 no instruction that takes the pads is in force. -/
theorem padsTaken_of_low {u : State} (h : u.getB F.shrStatus_STO_ALL = false) : u.padsTaken = false := by
  unfold State.padsTaken State.jtagIr
  rw [h]
  cases u.dbg.ir <;> rfl

/-- The instructions that take the pads are in force only while STO_ALL reads 1. -/
theorem padsTaken_high {s : State} (h : s.padsTaken = true) :
    s.getB F.shrStatus_STO_ALL = true ∧ s.dbg.ir ∈ [JtagIr.extest, .highz, .clamp] := by
  have hsto : s.getB F.shrStatus_STO_ALL = true := by
    by_contra hlow
    rw [padsTaken_of_low (by simpa using hlow)] at h
    exact Bool.false_ne_true h
  refine ⟨hsto, ?_⟩
  unfold State.padsTaken State.jtagIr at h
  rw [hsto] at h
  generalize s.dbg.ir = i at h ⊢
  cases i
  case extest | highz | clamp => decide
  all_goals exact absurd h (by decide)

/-- A step of the Shroud as the JTAG port watches it: its own, or with every slot at its safe levels where STO_ALL falls under the port. -/
theorem jtagWatch_cases (s u : State) :
    (¬(s.padsTaken = true ∧ u.getB F.shrStatus_STO_ALL = false) → jtagWatch s u = u) ∧
      (s.padsTaken = true ∧ u.getB F.shrStatus_STO_ALL = false → SlotsSafe u (jtagWatch s u)) := by
  refine ⟨fun h => if_neg (fun hfell => h ⟨hfell.1, by simpa using hfell.2.2⟩), fun ⟨htaken, hlow⟩ => ?_⟩
  rw [jtagWatch, if_pos ⟨htaken, by simp [padsTaken_of_low hlow], by simp [hlow]⟩]
  exact slotsSafe_forEach u

/-! ## The instructions -/

/-- The instruction in force once `i` is loaded. -/
theorem jtagLoad_jtagIr (i : JtagIr) (s : State) : (jtagLoad i s).jtagIr =
    if s.getB F.shrStatus_STO_ALL then i else match i with | .extest | .highz | .clamp => .bypass | x => x := rfl

/-- What the data register of an instruction in force captures. -/
def State.jtagCaptured (s : State) (now : JtagIr) : W32 := match now with
  | .idcode => s.idcode
  | _ => 0

/-- Loading an instruction changes the port alone, and selects the data register of the instruction that is then in force. -/
theorem jtagLoad_eq {i now : JtagIr} {s : State} (h : (jtagLoad i s).jtagIr = now) :
    jtagLoad i s = { s with dbg := { s.dbg with ir := i, tdr := s.jtagCaptured now } } := by
  subst h
  rfl

/-- What the load of an instruction leads to: the port with the register that it selects, and whether it takes the pads. -/
def JtagLoads (s t : State) (i : JtagIr) (tdr : W32) (now : JtagIr) (taken : Bool) : Prop :=
  t = { s with dbg := { s.dbg with ir := i, tdr := tdr } } ∧ t.jtagIr = now ∧ t.padsTaken = taken

theorem jtagLoad_bypass (s : State) : JtagLoads s (jtagLoad .bypass s) .bypass 0 .bypass false := by
  have hnow : (jtagLoad .bypass s).jtagIr = .bypass := by rw [jtagLoad_jtagIr, ite_self]
  exact ⟨jtagLoad_eq hnow, hnow, by rw [State.padsTaken, hnow]⟩

theorem jtagLoad_idcode (s : State) : JtagLoads s (jtagLoad .idcode s) .idcode s.idcode .idcode false := by
  have hnow : (jtagLoad .idcode s).jtagIr = .idcode := by rw [jtagLoad_jtagIr, ite_self]
  exact ⟨jtagLoad_eq hnow, hnow, by rw [State.padsTaken, hnow]⟩

/-- EXTEST, HIGHZ and CLAMP are in force while STO_ALL reads 1, and act as BYPASS at any other time. -/
theorem jtagLoad_of_takes {i : JtagIr} (hi : i ∈ [JtagIr.extest, .highz, .clamp]) (s : State) :
    JtagLoads s (jtagLoad i s) i 0 (if s.getB F.shrStatus_STO_ALL then i else .bypass) (s.getB F.shrStatus_STO_ALL) := by
  have hnow : (jtagLoad i s).jtagIr = if s.getB F.shrStatus_STO_ALL then i else .bypass := by
    cases i
    case extest | highz | clamp => rfl
    all_goals exact absurd hi (by decide)
  have hcaptured : s.jtagCaptured (if s.getB F.shrStatus_STO_ALL then i else .bypass) = 0 := by
    cases s.getB F.shrStatus_STO_ALL <;> cases i
    case true.idcode => exact absurd hi (by decide)
    all_goals rfl
  refine ⟨hcaptured ▸ jtagLoad_eq hnow, hnow, ?_⟩
  · rw [State.padsTaken, hnow]
    cases s.getB F.shrStatus_STO_ALL <;> cases i
    case true.extest | true.highz | true.clamp | false.extest | false.highz | false.clamp => rfl
    all_goals exact absurd hi (by decide)

/-- Settles O59: no instruction changes more than the port, and a step of the Shroud that clears STO_ALL under one that takes the pads ends with the
safe levels of all slots. -/
theorem jtagPort : Obligations.JtagPort := by
  intro pads drive m p k c s sto code loads acts watched
  have hloads {i now : JtagIr} {tdr : W32} {taken : Bool} (h : JtagLoads s (jtagLoad i s) i tdr now taken) :
      loads (.next (jtagLoad i s)) i tdr now taken := ⟨_, rfl, h⟩
  have hwatched (u : State) : watched (.next (jtagWatch s u)) u := by
    obtain ⟨hkept, hfell⟩ := jtagWatch_cases s u
    exact ⟨fun h => congrArg _ (hkept h), fun h => ⟨_, rfl, hfell h⟩⟩
  refine ⟨hloads (jtagLoad_bypass s), hloads (jtagLoad_idcode s), ⟨_, rfl, rfl, ?sample, ?free⟩, hloads (jtagLoad_of_takes (by decide) s),
    hloads (jtagLoad_of_takes (by decide) s), hloads (jtagLoad_of_takes (by decide) s), padsTaken_high, hwatched _, hwatched _, hwatched _,
    hwatched _, hwatched _, hwatched _⟩
  case sample => exact ite_self _
  case free =>
    show (match (if s.getB F.shrStatus_STO_ALL then JtagIr.sample else .sample) with | .extest | .highz | .clamp => true | _ => false) = false
    rw [ite_self]

end Sys2Proof.Machine
end

section
/-!
PROOF. What the acts of the field side and of the supplies leave alone, and what a field or a bit of a register reads after each way to write one.
-/
namespace Sys2Proof.Machine

/-! ## Fields and bits -/

theorem State.get_flag (s : State) (f g : Fld) : (s.flag f).get g = (s.set f 1).get g := rfl
theorem State.get_setB (s : State) (f g : Fld) (b : Bool) : (s.setB f b).get g = (s.set f (if b then 1 else 0)).get g := rfl
theorem State.bitAt_flag (s : State) (f : Fld) (a i : Nat) : (s.flag f).bitAt a i = (s.set f 1).bitAt a i := rfl

theorem State.raiseAt_reg (s : State) (time code sev data ctrl : Nat) (p : List (Nat × Nat × Nat)) {a : Nat} (ha : a ≠ A.hriEvtLost) :
    (s.raiseAt time code sev data ctrl p).reg a = s.reg a := by
  unfold State.raiseAt
  split
  · exact State.reg_set_other _ _ _ ha
  · rfl

theorem State.get_raise (s : State) (code sev data ctrl : Nat) (p : List (Nat × Nat × Nat)) {f : Fld} (hf : f.a ≠ A.hriEvtLost) :
    (s.raise code sev data ctrl p).get f = s.get f := by rw [State.get, State.raise_reg _ _ _ _ _ _ hf, State.get]

theorem State.bitAt_of_reg {s t : State} {a : Nat} (h : t.reg a = s.reg a) (i : Nat) : t.bitAt a i = s.bitAt a i := by
  rw [State.bitAt, h, State.bitAt]

theorem State.bitAt_eq_testBit (s : State) (a i : Nat) : s.bitAt a i = (s.reg a).toNat.testBit i := rfl

/-- A bit of a register after one of its fields is written. -/
theorem State.bitAt_set (s : State) (f : Fld) (v i : Nat) (hi : i < 32) :
    (s.set f v).bitAt f.a i = if f.lo ≤ i ∧ i ≤ f.hi then v.testBit (i - f.lo) else s.bitAt f.a i := by
  rw [State.bitAt, State.set, State.reg_setReg_same, setBits_getLsbD]
  simp only [hi, true_and, State.bitAt]

theorem State.bitAt_set_reg (s : State) {f : Fld} (v : Nat) {a : Nat} (h : a ≠ f.a) (i : Nat) : (s.set f v).bitAt a i = s.bitAt a i :=
  State.bitAt_of_reg (State.reg_set_other s f v h) i

theorem getLsbD_two_pow {i : Nat} (hi : i < 32) (j : Nat) : (BitVec.ofNat 32 (2 ^ i)).getLsbD j = decide (j = i) := by
  rw [BitVec.getLsbD_ofNat, Nat.testBit_two_pow]
  by_cases h : j = i
  · simp [h, hi]
  · simp [h, Ne.symm h]

theorem State.bitAt_setBit (s : State) (a : Nat) {i : Nat} (b : Bool) (j : Nat) (hi : i < 32) :
    (s.setBit a i b).bitAt a j = if j = i then b else s.bitAt a j := by
  rw [State.bitAt, State.setBit, State.reg_setReg_same]
  by_cases hj : j < 32
  · by_cases hji : j = i <;> cases b <;>
      simp [-BitVec.getLsbD_eq_getElem, -BitVec.ofNat_eq_ofNat, -BitVec.ofNat_pow, getLsbD_two_pow hi, hj, hji, State.bitAt, hi]
  · have hji : j ≠ i := by omega
    rw [if_neg hji, State.bitAt, BitVec.getLsbD_of_ge _ _ (by omega), BitVec.getLsbD_of_ge _ _ (by omega)]

theorem State.bitAt_setBit_reg (s : State) {a a' : Nat} (h : a' ≠ a) (i : Nat) (b : Bool) (j : Nat) :
    (s.setBit a i b).bitAt a' j = s.bitAt a' j := State.bitAt_of_reg (State.reg_setReg_other s _ h) j

/-- A field of one bit reads as that bit. -/
theorem State.getB_bit (s : State) (a : Nat) {i : Nat} : s.getB ⟨a, i, i⟩ = s.bitAt a i := by
  rw [State.getB, State.get, bits, nbits, Nat.add_sub_cancel_left, State.bitAt, BitVec.getLsbD, Nat.testBit_eq_decide_div_mod_eq, pow_one]
  have h := Nat.mod_two_eq_zero_or_one ((s.reg a).toNat / 2 ^ i)
  rcases h with h | h <;> rw [h] <;> rfl

theorem RegsBut.setBit {l : List Nat} {s t : State} (h : RegsBut l s t) {a : Nat} (ha : a ∈ l) (i : Nat) (b : Bool) :
    RegsBut l s (t.setBit a i b) := h.setReg ha _

theorem RegsBut.raiseAt {l : List Nat} {s t : State} (h : RegsBut l s t) (ha : A.hriEvtLost ∈ l) (time code sev data ctrl : Nat)
    (p : List (Nat × Nat × Nat)) : RegsBut l s (t.raiseAt time code sev data ctrl p) := by
  unfold State.raiseAt
  split
  · exact RegsBut.set (f := F.hriEvtLost_LOST) h ha _
  · exact h

theorem RegsBut.updFld {l : List Nat} {s t : State} (h : RegsBut l s t) (f : FldSt → FldSt) : RegsBut l s (t.updFld f) := h

theorem RegsBut.updPwr {l : List Nat} {s t : State} (h : RegsBut l s t) (f : PwrSt → PwrSt) : RegsBut l s (t.updPwr f) := h

/-! ## What is left of a state without the parts that these acts write -/

/-- A state without its registers, the flags of the cycle, its events, and what the field side and the supplies hold. -/
def State.bare (s : State) : State := { s with
  regs := []
  clk := { s.clk with fresh := [] }
  host := { s.host with evBuf := [], evDropped := 0, notes := [] }
  fld := {}
  pwr := {} }

section
variable (s : State)

@[simp] theorem State.bare_setReg (a : Nat) (v : W32) : (s.setReg a v).bare = s.bare := rfl
@[simp] theorem State.bare_set (f : Fld) (v : Nat) : (s.set f v).bare = s.bare := rfl
@[simp] theorem State.bare_setB (f : Fld) (b : Bool) : (s.setB f b).bare = s.bare := rfl
@[simp] theorem State.bare_flag (f : Fld) : (s.flag f).bare = s.bare := rfl
@[simp] theorem State.bare_setBit (a i : Nat) (b : Bool) : (s.setBit a i b).bare = s.bare := rfl
@[simp] theorem State.bare_updFld (f : FldSt → FldSt) : (s.updFld f).bare = s.bare := rfl
@[simp] theorem State.bare_updPwr (f : PwrSt → PwrSt) : (s.updPwr f).bare = s.bare := rfl

@[simp] theorem State.bare_raiseAt (time code sev data ctrl : Nat) (p : List (Nat × Nat × Nat)) :
    (s.raiseAt time code sev data ctrl p).bare = s.bare := by
  unfold State.raiseAt
  split <;> rfl

@[simp] theorem State.bare_raise (code sev data ctrl : Nat) (p : List (Nat × Nat × Nat)) :
    (s.raise code sev data ctrl p).bare = s.bare := s.bare_raiseAt ..

@[simp] theorem State.bare_note (code data ctrl : Nat) (pre : List (Nat × Nat × Nat)) (byte flags warn : Nat) :
    (s.note code data ctrl pre byte flags warn).bare = s.bare := by
  unfold State.note
  dsimp only
  split <;> rfl

end

/-- Two states that are alike without those parts are alike but for them. -/
theorem State.eq_of_bare {v t : State} (h : t.bare = v.bare) : t = { v with
    clk := { v.clk with fresh := t.clk.fresh }
    regs := t.regs
    host := { v.host with evBuf := t.host.evBuf, evDropped := t.host.evDropped, notes := t.host.notes }
    fld := t.fld
    pwr := t.pwr } := by
  obtain ⟨_, ⟨⟩, ⟨⟩⟩ := t
  obtain ⟨_, ⟨⟩, ⟨⟩⟩ := v
  simp only [State.bare, State.mk.injEq, ClkSt.mk.injEq, HostSt.mk.injEq] at h ⊢
  tauto

/-- An event leaves the notes of its tick. -/
theorem State.raise_notes (s : State) (code sev data ctrl : Nat) (p : List (Nat × Nat × Nat)) :
    (s.raise code sev data ctrl p).host.notes = s.host.notes := by
  unfold State.raise State.raiseAt
  split <;> rfl

/-- An event that finds room stands behind those before it. -/
theorem State.raise_evBuf (s : State) (code sev data ctrl : Nat) (p : List (Nat × Nat × Nat)) (h : s.host.evBuf.length < 256) :
    (s.raise code sev data ctrl p).host.evBuf = s.host.evBuf ++
      [{ code := BitVec.ofNat 16 code, sev := sev, data := BitVec.ofNat 16 data, ctrl := BitVec.ofNat 16 ctrl
         time := BitVec.ofNat 64 s.nowNs, payload := pl p }] :=
  congrArg (fun t => t.host.evBuf) (State.raise_room s code sev data ctrl p h)

/-- An entry of a payload that stands below the others adds its value. -/
theorem pl_cons {o n v R : Nat} {r : List (Nat × Nat × Nat)} (hr : pl r = BitVec.ofNat 128 (2 ^ (8 * (o - 16 + n)) * R)) (hv : v < 2 ^ (8 * n)) :
    pl ((o, n, v) :: r) = BitVec.ofNat 128 (v * 2 ^ (8 * (o - 16)) + 2 ^ (8 * (o - 16 + n)) * R) := by
  have h256 : ∀ k, 256 ^ k = 2 ^ (8 * k) := fun k => (Nat.pow_mul 2 8 k).symm
  have hlow : v * 2 ^ (8 * (o - 16)) < 2 ^ (8 * (o - 16 + n)) := by
    rw [Nat.mul_add, Nat.pow_add, Nat.mul_comm]
    exact (Nat.mul_lt_mul_left (Nat.two_pow_pos _)).mpr hv
  rw [pl, hr, h256, h256, Nat.mod_eq_of_lt hv, ← BitVec.ofNat_or, Nat.or_comm, ← Nat.two_pow_add_eq_or_of_lt hlow, Nat.add_comm]

/-- The last entry of a payload. -/
theorem pl_one {o n v : Nat} (hv : v < 2 ^ (8 * n)) : pl [(o, n, v)] = BitVec.ofNat 128 (v * 2 ^ (8 * (o - 16))) :=
  pl_cons (R := 0) rfl hv

/-! ## Rows that write registers outside the rings -/

/-- An accepted descriptor whose operation writes only registers outside the rings, and no host memory, completes with that and nothing else. -/
theorem RunsForm.completes {c : Instr} {opcode : Nat} {op : Op} {d e : Desc} {s u : State} {r : Reply} {also : List Nat}
    (hc : RunsForm c opcode op d e s) (h : Accepts s opcode e) (hop : op e (s.fetched e) = (u, r)) (hregs : RegsBut also (s.fetched e) u)
    (hfar : ∀ a ∈ also, a < 0x1400 ∨ 0x2000 ≤ a) (hrings : u.host.rings = (s.fetched e).host.rings) (hmem : u.hostMem = s.hostMem) :
    ∃ t, Answers c d s t r.noEffect r.result ∧ OnlyRing d s t also ∧ t = { u with regs := t.regs, host := t.host, hostMem := t.hostMem } ∧
      t.host.evBuf = u.host.evBuf ∧ ∀ a, a < 0x1400 ∨ 0x2000 ≤ a → t.reg a = u.reg a := by
  have ⟨_, hring, _⟩ := hc
  have hfetch : s.fetched e = s.fetched d := by rw [State.fetched, State.fetched, hring]
  rw [hfetch] at hregs hrings
  have hlow : d.ring.val < 64 := d.ring.isLt
  have hin : ∀ a, 0x1400 ≤ a → a < 0x2000 → u.reg a = (s.fetched d).reg a := fun a hlo hhi =>
    hregs a (fun ha => by have := hfar a ha; omega)
  have hcounts : ∀ m, u.ring m = (s.fetched d).ring m := fun m => congrArg (Table.look ({} : Ring) · m) hrings
  have hrecord : u.recordAt d.ring.val = s.recordAt d.ring.val := by
    refine Eq.trans ?_ (fetched_recordAt s d)
    unfold State.recordAt State.get64 State.get
    rw [hin _ (by unfold A.hriRingCqBaseLo; omega) (by unfold A.hriRingCqBaseLo; omega),
      hin _ (by unfold A.hriRingCqBaseLo; omega) (by unfold A.hriRingCqBaseLo; omega), hcounts,
      hin _ (by simp only [F.hriRingCfg_SIZE, A.hriRingCfg]; omega) (by simp only [F.hriRingCfg_SIZE, A.hriRingCfg]; omega)]
  refine ⟨_, hc.answers h hop, OnlyRing.complete ?_ hrecord e 0 _ false, ?_, complete_host_evBuf .., fun a ha => ?_⟩
  · obtain ⟨honly, hothers, -⟩ := onlyRing_fetched d s 0 0
    exact ⟨fun a hhead htail hclamp ha => (hregs a ha).trans (honly a hhead htail hclamp List.not_mem_nil),
      fun m hm => (hcounts m).trans (hothers m hm), fun q _ _ => congrArg (Table.look 0 · q) hmem⟩
  · obtain ⟨regs, host, mem, ht⟩ := ((WritesRing.refl d.ring.val u).complete e 0 (r.counted opcode e) false).frame
    rw [ht]
  · exact complete_reg d.ring.val e 0 _ false u (by unfold A.hriRingCqTail; omega) (by unfold A.hriRingClampCount; omega)

end Sys2Proof.Machine
end

section
/-!
PROOF. The field supply, the commands of the outputs and the couplers (spec/14_field_io.md, R498 to R500, R508, R509 and R511).
-/
namespace Sys2Proof.Machine

/-! ## What an act of the field side leaves alone -/

/-- From `v` to `t` nothing has changed but registers of a list, the flags of the cycle, the events and the field side. -/
structure FieldActs (l : List Nat) (v t : State) : Prop where
  regs : RegsBut l v t
  bare : t.bare = v.bare
  pwr : t.pwr = v.pwr
  notes : t.host.notes = v.host.notes

namespace FieldActs
variable {l : List Nat} {v t : State}

theorem refl (l : List Nat) (v : State) : FieldActs l v v := ⟨.refl l v, rfl, rfl, rfl⟩

theorem mono {m : List Nat} (h : FieldActs l v t) (hlm : l ⊆ m) : FieldActs m v t := ⟨h.regs.mono hlm, h.bare, h.pwr, h.notes⟩

theorem set (h : FieldActs l v t) {f : Fld} (hf : f.a ∈ l) (x : Nat) : FieldActs l v (t.set f x) := ⟨h.regs.set hf x, h.bare, h.pwr, h.notes⟩

theorem flag (h : FieldActs l v t) {f : Fld} (hf : f.a ∈ l) : FieldActs l v (t.flag f) := ⟨h.regs.flag hf, h.bare, h.pwr, h.notes⟩

theorem setBit (h : FieldActs l v t) {a : Nat} (ha : a ∈ l) (i : Nat) (b : Bool) : FieldActs l v (t.setBit a i b) :=
  ⟨h.regs.setBit ha i b, h.bare, h.pwr, h.notes⟩

theorem updFld (h : FieldActs l v t) (f : FldSt → FldSt) : FieldActs l v (t.updFld f) := ⟨h.regs, h.bare, h.pwr, h.notes⟩

theorem raise (h : FieldActs l v t) (ha : A.hriEvtLost ∈ l) (code sev data ctrl : Nat) (p : List (Nat × Nat × Nat)) :
    FieldActs l v (t.raise code sev data ctrl p) :=
  ⟨h.regs.raise ha _ _ _ _ _, (t.bare_raise ..).trans h.bare, (t.raise_pwr ..).trans h.pwr, (t.raise_notes ..).trans h.notes⟩

theorem frame (h : FieldActs l v t) : t = { v with
    clk := { v.clk with fresh := t.clk.fresh }
    regs := t.regs
    host := { v.host with evBuf := t.host.evBuf, evDropped := t.host.evDropped }
    fld := t.fld } := by
  refine (State.eq_of_bare h.bare).trans ?_
  rw [h.pwr, h.notes]

end FieldActs

/-! ## The supply (R498 to R500) -/

/-- FLD_STATUS shows a voltage and its flags; HOLD_SEEN stays. -/
def ShowsSupply (v t : State) (mV : Nat) (uv seen off valid : Bool) : Prop :=
  t.get F.dioFldStatus_VFLD = mV ∧ t.getB F.dioFldStatus_FLD_UV = uv ∧ t.getB F.dioFldStatus_FLD_UV_SEEN = seen ∧
    t.getB F.dioFldStatus_FLD_OFF = off ∧ t.getB F.dioFldStatus_IN_VALID = valid ∧
    t.getB F.dioFldStatus_HOLD_SEEN = v.getB F.dioFldStatus_HOLD_SEEN

/-- The event of the field supply. -/
def supplyEv (kind sev mV time : Nat) : Event :=
  { code := BitVec.ofNat 16 0x0B03, sev := sev, data := 0, ctrl := BitVec.ofNat 16 0x9402, time := BitVec.ofNat 64 time
    payload := BitVec.ofNat 128 (kind + mV * 2 ^ 32) }

theorem pl_supply {kind mV : Nat} (hkind : kind < 256) (hmV : mV < 65536) :
    pl [(16, 1, kind), (20, 4, mV)] = BitVec.ofNat 128 (kind + mV * 2 ^ 32) := by
  rw [pl_cons (R := mV * 2 ^ 24) ((pl_one (by omega)).trans (congrArg _ (by omega))) (by omega)]
  exact congrArg _ (by omega)

theorem fldSupply_evBuf {s : State} (h : s.host.evBuf.length < 256) {kind mV : Nat} (hkind : kind < 256) (hmV : mV < 65536) (sev : Nat) :
    (s.fldSupply kind sev mV).host.evBuf = s.host.evBuf ++ [supplyEv kind sev mV s.nowNs] := by
  rw [State.fldSupply, State.raise_evBuf _ _ _ _ _ _ h, pl_supply hkind hmV]
  rfl

theorem fieldActs_vfld {l : List Nat} (hl : A.dioFldStatus ∈ l) (mv : Nat) (s : State) : FieldActs l s (vfld mv s) :=
  ((FieldActs.refl l s).updFld _).set hl mv

theorem vfld_fld (mv : BitVec 16) (s : State) : (vfld mv.toNat s).fld = { s.fld with mv := mv.toNat } := by
  rw [vfld, State.set_fld, State.updFld, Nat.mod_eq_of_lt mv.isLt]

theorem showsSupply_vfld (mv : BitVec 16) (s : State) : ShowsSupply s (vfld mv.toNat s) mv.toNat (s.getB F.dioFldStatus_FLD_UV)
    (s.getB F.dioFldStatus_FLD_UV_SEEN) (s.getB F.dioFldStatus_FLD_OFF) (s.getB F.dioFldStatus_IN_VALID) := by
  have hmv : mv.toNat % 65536 = mv.toNat := Nat.mod_eq_of_lt mv.isLt
  simp (disch := decide) [ShowsSupply, vfld, State.getB, State.get_set_same, State.get_set_bits, F.dioFldStatus_VFLD, hmv]

/-- A change of the supply: what it leaves alone, what the field side then holds, and what FLD_STATUS shows. -/
structure Measured (v t : State) (fld : FldSt) (mV : Nat) (uv seen off valid : Bool) : Prop where
  acts : FieldActs [A.dioFldStatus, A.hriEvtLost] v t
  fld : t.fld = fld
  shows : ShowsSupply v t mV uv seen off valid

section
variable (mv : BitVec 16) (s : State)

theorem measured_vfld : Measured s (vfld mv.toNat s) { s.fld with mv := mv.toNat } mv.toNat (s.getB F.dioFldStatus_FLD_UV)
    (s.getB F.dioFldStatus_FLD_UV_SEEN) (s.getB F.dioFldStatus_FLD_OFF) (s.getB F.dioFldStatus_IN_VALID) :=
  ⟨fieldActs_vfld (by decide) mv.toNat s, vfld_fld mv s, showsSupply_vfld mv s⟩

/-- VFLD below 18.0 V, and not below it before. -/
theorem fldUvSet_first (h : mv.toNat < 18000 ∧ s.getB F.dioFldStatus_FLD_UV = false) :
    fldUvSet mv.toNat s = (((vfld mv.toNat s).set F.dioFldStatus_FLD_UV 1).flag F.dioFldStatus_FLD_UV_SEEN).fldSupply 0 sevWarn mv.toNat := by
  obtain ⟨hlow, huv⟩ := h
  rw [fldUvSet, if_neg (by simp [huv, hlow])]

theorem fldUvSet_other (h : ¬(mv.toNat < 18000 ∧ s.getB F.dioFldStatus_FLD_UV = false)) : fldUvSet mv.toNat s = vfld mv.toNat s := by
  rw [fldUvSet, if_pos (by by_contra hn; simp_all)]

theorem measured_fldUvSet : Measured s (fldUvSet mv.toNat s) { s.fld with mv := mv.toNat } mv.toNat
    (s.getB F.dioFldStatus_FLD_UV || decide (mv.toNat < 18000))
    (s.getB F.dioFldStatus_FLD_UV_SEEN || decide (mv.toNat < 18000 ∧ s.getB F.dioFldStatus_FLD_UV = false))
    (s.getB F.dioFldStatus_FLD_OFF) (s.getB F.dioFldStatus_IN_VALID) := by
  obtain ⟨hacts, hfld, hshows⟩ := measured_vfld mv s
  by_cases h : mv.toNat < 18000 ∧ s.getB F.dioFldStatus_FLD_UV = false
  · rw [fldUvSet_first mv s h]
    refine ⟨((hacts.set (by decide) 1).flag (by decide)).raise (by decide) .., (State.raise_fld ..).trans hfld, ?_⟩
    obtain ⟨hlow, huv⟩ := h
    simp only [ShowsSupply, State.getB] at hshows huv ⊢
    simp (disch := decide) [State.fldSupply, State.get_raise, State.get_flag, State.get_set_same, State.get_set_bits, hshows, hlow, huv]
  · rw [fldUvSet_other mv s h]
    have hstays : (s.getB F.dioFldStatus_FLD_UV || decide (mv.toNat < 18000)) = s.getB F.dioFldStatus_FLD_UV := by
      by_cases hlow : mv.toNat < 18000 <;> simp_all
    rw [hstays, decide_eq_false h, Bool.or_false]
    exact ⟨hacts, hfld, hshows⟩

theorem fldUvSet_evBuf (hroom : s.host.evBuf.length < 256) : (fldUvSet mv.toNat s).host.evBuf = s.host.evBuf ++
    if mv.toNat < 18000 ∧ s.getB F.dioFldStatus_FLD_UV = false then [supplyEv 0 sevWarn mv.toNat s.nowNs] else [] := by
  by_cases h : mv.toNat < 18000 ∧ s.getB F.dioFldStatus_FLD_UV = false
  · rw [fldUvSet_first mv s h, if_pos h]
    exact fldSupply_evBuf (s := ((vfld mv.toNat s).set F.dioFldStatus_FLD_UV 1).flag F.dioFldStatus_FLD_UV_SEEN) hroom (kind := 0) (by decide)
      mv.isLt sevWarn
  · rw [fldUvSet_other mv s h, if_neg h, List.append_nil]
    rfl

theorem measured_fldUvClear : Measured s (fldUvClear mv.toNat s) { s.fld with mv := mv.toNat } mv.toNat
    (s.getB F.dioFldStatus_FLD_UV && decide (mv.toNat ≤ 18000)) (s.getB F.dioFldStatus_FLD_UV_SEEN)
    (s.getB F.dioFldStatus_FLD_OFF) (s.getB F.dioFldStatus_IN_VALID) := by
  obtain ⟨hacts, hfld, hshows⟩ := measured_vfld mv s
  by_cases h : mv.toNat ≤ 18000
  · rw [fldUvClear, if_pos h, decide_eq_true h, Bool.and_true]
    exact ⟨hacts, hfld, hshows⟩
  · rw [fldUvClear, if_neg h, decide_eq_false h, Bool.and_false]
    refine ⟨hacts.set (by decide) 0, hfld, ?_⟩
    simp only [ShowsSupply, State.getB] at hshows ⊢
    simp (disch := decide) [State.get_set_same, State.get_set_bits, hshows]

theorem fldUvClear_host : (fldUvClear mv.toNat s).host = s.host := by
  unfold fldUvClear
  dsimp only
  split <;> rfl

/-- VFLD passes 11.0 V from below. -/
theorem measured_fldInValid (h : 11000 < mv.toNat ∧ s.fld.up = false) : Measured s (fldInValid mv.toNat s)
    { s.fld with mv := mv.toNat, ctr := [], on := 0, up := true } mv.toNat (s.getB F.dioFldStatus_FLD_UV) (s.getB F.dioFldStatus_FLD_UV_SEEN)
    true true := by
  obtain ⟨hacts, hfld, hshows⟩ := measured_vfld mv s
  obtain ⟨hover, hup⟩ := h
  rw [fldInValid, if_neg (by simp [hover, hup])]
  refine ⟨((hacts.set (by decide) 1).set (by decide) 1).updFld _, congrArg (fun x => { x with ctr := [], on := 0, up := true }) hfld, ?_⟩
  simp only [ShowsSupply, State.getB] at hshows ⊢
  simp (disch := decide) [State.get_set_same, State.get_set_bits, hshows]

theorem fldInValid_other (h : ¬(11000 < mv.toNat ∧ s.fld.up = false)) : fldInValid mv.toNat s = vfld mv.toNat s := by
  rw [fldInValid, if_pos (by by_contra hn; simp_all)]

theorem fldInValid_host : (fldInValid mv.toNat s).host = s.host := by
  unfold fldInValid
  dsimp only
  split <;> rfl

/-! ### VFLD below 11.0 V -/

/-- Inputs hold, every output is off and the latch is set. -/
def fldFell (mv : Nat) (s : State) : State :=
  ((((vfld mv s).set F.dioFldStatus_IN_VALID 0).updFld (fun x => { x with on := 0, up := false })).set F.dioOutLimit_ILIM 0).set
    F.dioFldStatus_FLD_OFF 1

theorem fldOff_fell (h : mv.toNat < 11000) : fldOff mv.toNat s =
    if s.fld.up then (fldFell mv.toNat s).fldSupply 1 sevFault mv.toNat else fldFell mv.toNat s := by
  rw [fldOff, if_neg (by omega)]
  rfl

theorem fieldActs_fldFell : FieldActs [A.dioFldStatus, A.dioOutLimit, A.hriEvtLost] s (fldFell mv.toNat s) :=
  ((((fieldActs_vfld (by decide) mv.toNat s).set (by decide) 0).updFld _).set (by decide) 0).set (by decide) 1

theorem showsSupply_fldFell : ShowsSupply s (fldFell mv.toNat s) mv.toNat (s.getB F.dioFldStatus_FLD_UV) (s.getB F.dioFldStatus_FLD_UV_SEEN)
    true false := by
  have hshows := showsSupply_vfld mv s
  simp only [ShowsSupply, State.getB] at hshows ⊢
  simp (disch := decide) [fldFell, State.get_set_same, State.get_set_bits, State.get_set_reg, hshows]

theorem fldFell_limit : (fldFell mv.toNat s).get F.dioOutLimit_ILIM = 0 ∧
    ∀ q : Fin 16, (fldFell mv.toNat s).bitAt A.dioOutLimit (16 + q.val) = s.bitAt A.dioOutLimit (16 + q.val) := by
  refine ⟨?_, fun q => ?_⟩
  · simp (disch := decide) [fldFell, State.get_set_same, State.get_set_reg]
  · have hq := q.isLt
    rw [fldFell, State.bitAt_set_reg _ _ (by decide)]
    refine (State.bitAt_set _ F.dioOutLimit_ILIM 0 (16 + q.val) (by omega)).trans ?_
    rw [if_neg (by simp only [F.dioOutLimit_ILIM]; omega)]
    exact State.bitAt_of_reg (((fieldActs_vfld (l := [A.dioFldStatus]) (by decide) mv.toNat s).set (by decide) 0).regs _ (by decide)) _

/-- VFLD below 11.0 V. -/
theorem fldOff_below (h : mv.toNat < 11000) : FieldActs [A.dioFldStatus, A.dioOutLimit, A.hriEvtLost] s (fldOff mv.toNat s) ∧
    (fldOff mv.toNat s).fld = { s.fld with mv := mv.toNat, on := 0, up := false } ∧
    ShowsSupply s (fldOff mv.toNat s) mv.toNat (s.getB F.dioFldStatus_FLD_UV) (s.getB F.dioFldStatus_FLD_UV_SEEN) true false ∧
    (fldOff mv.toNat s).get F.dioOutLimit_ILIM = 0 ∧
    (∀ q : Fin 16, (fldOff mv.toNat s).bitAt A.dioOutLimit (16 + q.val) = s.bitAt A.dioOutLimit (16 + q.val)) ∧
    (s.host.evBuf.length < 256 →
      (fldOff mv.toNat s).host.evBuf = s.host.evBuf ++ if s.fld.up then [supplyEv 1 sevFault mv.toNat s.nowNs] else []) := by
  have hacts := fieldActs_fldFell mv s
  have hfld : (fldFell mv.toNat s).fld = { s.fld with mv := mv.toNat, on := 0, up := false } :=
    congrArg (fun x : FldSt => { x with on := 0, up := false }) (vfld_fld mv s)
  have hshows := showsSupply_fldFell mv s
  obtain ⟨hlimit, hthermal⟩ := fldFell_limit mv s
  rw [fldOff_fell mv s h]
  cases s.fld.up with
  | false => exact ⟨hacts, hfld, hshows, hlimit, hthermal, fun _ => (List.append_nil _).symm⟩
  | true =>
    refine ⟨hacts.raise (by decide) .., (State.raise_fld ..).trans hfld, ?_, (State.get_raise _ _ _ _ _ _ (by decide)).trans hlimit,
      fun q => (State.bitAt_of_reg (State.raise_reg _ _ _ _ _ _ (by decide)) _).trans (hthermal q),
      fun hroom => fldSupply_evBuf (s := fldFell mv.toNat s) hroom (kind := 1) (by decide) mv.isLt sevFault⟩
    simp only [ShowsSupply, State.getB] at hshows ⊢
    simp (disch := decide) only [if_true, State.fldSupply, State.get_raise, hshows, and_self]

end

/-! ## FIELD_REENABLE and FIELD_OUT (R499, R508) -/

theorem fetched_getB (s : State) (d : Desc) {f : Fld} (hf : f.a ≠ A.hriRingHead d.ring.val) : (s.fetched d).getB f = s.getB f := by
  rw [State.getB, fetched_get s d hf, State.getB]

/-- No register outside the rings is HEAD of a ring. -/
theorem not_ringHead (d : Desc) {a : Nat} (ha : a < 0x1400 ∨ 0x2000 ≤ a) : a ≠ A.hriRingHead d.ring.val := by
  have := d.ring.isLt
  unfold A.hriRingHead
  omega

/-- FIELD_REENABLE clears the latch where VFLD lies above 18.0 V. -/
theorem opFieldReenable_latched (d : Desc) (s : State) : ∃ u, opFieldReenable d s = (u, why (if s.get F.dioFldStatus_VFLD ≤ 18000 then 2 else 0)) ∧
    RegsBut [A.dioFldStatus, A.hriEvtLost] s u ∧ u = { s with regs := u.regs, host := u.host } ∧ u.host.rings = s.host.rings ∧
    ShowsSupply s u (s.get F.dioFldStatus_VFLD) (s.getB F.dioFldStatus_FLD_UV) (s.getB F.dioFldStatus_FLD_UV_SEEN)
      (s.getB F.dioFldStatus_FLD_OFF && decide (s.get F.dioFldStatus_VFLD ≤ 18000)) (s.getB F.dioFldStatus_IN_VALID) ∧
    (s.host.evBuf.length < 256 → u.host.evBuf = s.host.evBuf ++ if ¬s.get F.dioFldStatus_VFLD ≤ 18000 ∧ s.getB F.dioFldStatus_FLD_OFF = true
      then [supplyEv 2 sevInfo (s.get F.dioFldStatus_VFLD) s.nowNs] else []) := by
  by_cases hlow : s.get F.dioFldStatus_VFLD ≤ 18000
  · refine ⟨s, by rw [opFieldReenable, if_pos hlow, if_pos hlow], .refl _ s, rfl, rfl, ?_, fun _ => ?_⟩
    · simp [ShowsSupply, hlow]
    · simp [hlow]
  · cases hoff : s.getB F.dioFldStatus_FLD_OFF with
    | false =>
      refine ⟨s, by simp [opFieldReenable, hlow, hoff], .refl _ s, rfl, rfl, ?_, fun _ => ?_⟩
      · simp [ShowsSupply, hoff]
      · simp
    | true =>
      have hvfld : s.get F.dioFldStatus_VFLD < 65536 := nbits_lt ..
      refine ⟨(s.set F.dioFldStatus_FLD_OFF 0).fldSupply 2 sevInfo (s.get F.dioFldStatus_VFLD), by simp [opFieldReenable, hlow, hoff],
        ((RegsBut.refl _ s).set (by decide) 0).raise (by decide) _ _ _ _ _, ?_, ?_, ?_, fun hroom => ?_⟩
      · rw [State.fldSupply, State.raise, State.raiseAt]
        split <;> rfl
      · rw [State.fldSupply, State.raise, State.raiseAt]
        split <;> rfl
      · simp (disch := decide) [ShowsSupply, State.fldSupply, State.getB, State.get_raise, State.get_set_same, State.get_set_bits, hlow]
      · rw [if_pos ⟨hlow, rfl⟩]
        exact fldSupply_evBuf (s := s.set F.dioFldStatus_FLD_OFF 0) hroom (kind := 2) (by decide) hvfld sevInfo

theorem desc_f_testBit (d : Desc) (w hi lo i : Nat) : (d.f w hi lo).testBit i = (decide (i < hi + 1 - lo) && (d.w w).getLsbD (lo + i)) :=
  nbits_testBit ..

theorem get_testBit (s : State) (f : Fld) (i : Nat) : (s.get f).testBit i = (decide (i < f.hi + 1 - f.lo) && s.bitAt f.a (f.lo + i)) :=
  nbits_testBit ..

/-- FIELD_OUT gives each output of its mask the command beside it. -/
theorem opFieldOut_cmd (d : Desc) (s : State) (q : Fin 16) : (opFieldOut d s).1.bitAt A.dioOutCmd q.val =
    if (d.w 1).getLsbD q.val then (d.w 1).getLsbD (16 + q.val) else s.bitAt A.dioOutCmd q.val := by
  have hq := q.isLt
  have hmask : 0xFFFF - d.f 1 15 0 = 2 ^ 16 - (d.f 1 15 0 + 1) := by omega
  refine (State.bitAt_set s F.dioOutCmd_CMD _ q.val (by omega)).trans ?_
  rw [if_pos ⟨Nat.zero_le _, show q.val ≤ 15 by omega⟩, Nat.testBit_or, Nat.testBit_and, Nat.testBit_and, hmask,
    Nat.testBit_two_pow_sub_succ (desc_f_lt d 1 15 0)]
  simp only [desc_f_testBit, get_testBit, F.dioOutCmd_CMD, Nat.sub_zero, Nat.zero_add, hq, decide_true, Bool.true_and, show 31 + 1 - 16 = 16 from rfl]
  cases (d.w 1).getLsbD q.val <;> simp

/-! ## An update of the field side (R508, R509) -/

theorem outputUpdate_spec (read : BitVec 16) (s : State) : RegsBut [A.dioOutRead, A.dioOutLimit] s (outputUpdate read s) ∧
    outputUpdate read s = { s with regs := (outputUpdate read s).regs, fld := { s.fld with
      held := (outputUpdate read s).fld.held, on := (outputUpdate read s).fld.on } } ∧
    (outputUpdate read s).get F.dioOutRead_READ = read.toNat := by
  refine ⟨((RegsBut.refl _ s).set (by decide) _).set (by decide) _, rfl, ?_⟩
  refine (State.get_set_reg _ _ (by decide)).trans ((State.get_set_same _ F.dioOutRead_READ _ (by decide)).trans ?_)
  exact Nat.mod_eq_of_lt read.isLt

/-- An update takes the latched command of an output whose coupler refreshes it, and holds that of any other. -/
theorem refreshed_getLsbD (s : State) (x : BitVec 16) (q : Fin 16) :
    ((s.fld.lat &&& ~~~(if s.heServes then BitVec.ofNat 16 (s.get F.dioCplFaultOut_CPL_OUT) else BitVec.allOnes 16)) |||
      (x &&& (if s.heServes then BitVec.ofNat 16 (s.get F.dioCplFaultOut_CPL_OUT) else BitVec.allOnes 16))).getLsbD q.val =
    if s.heServes = true ∧ s.bitAt A.dioCplFaultOut q.val = false then s.fld.lat.getLsbD q.val else x.getLsbD q.val := by
  have hq := q.isLt
  have hfault : (BitVec.ofNat 16 (s.get F.dioCplFaultOut_CPL_OUT)).getLsbD q.val = s.bitAt A.dioCplFaultOut q.val := by
    rw [BitVec.getLsbD_ofNat, get_testBit]
    simp [F.dioCplFaultOut_CPL_OUT, hq]
  rw [BitVec.getLsbD_or, BitVec.getLsbD_and, BitVec.getLsbD_and, BitVec.getLsbD_not]
  cases s.heServes with
  | false =>
    simp only [Bool.false_eq_true, if_false, false_and, BitVec.getLsbD_allOnes, hq]
    simp
  | true =>
    rw [if_pos rfl, hfault]
    cases s.bitAt A.dioCplFaultOut q.val <;> simp [hq]

theorem outputUpdate_output (read : BitVec 16) (s : State) (q : Fin 16) :
    let fed : Prop := s.heServes = true ∧ s.bitAt A.dioCplFaultOut q.val = false
    (outputUpdate read s).fld.held.getLsbD q.val = (if fed then s.fld.lat.getLsbD q.val else s.fld.held.getLsbD q.val) ∧
    (outputUpdate read s).fld.on.getLsbD q.val = (!(s.getB F.dioFldStatus_FLD_OFF || !s.fld.enab) &&
      if fed then s.fld.lat.getLsbD q.val else s.fld.on.getLsbD q.val) := by
  refine ⟨refreshed_getLsbD s s.fld.held q, ?_⟩
  by_cases hoff : s.getB F.dioFldStatus_FLD_OFF ∨ !s.fld.enab
  · have hon : (outputUpdate read s).fld.on = 0 := if_pos hoff
    have hbool : (s.getB F.dioFldStatus_FLD_OFF || !s.fld.enab) = true := by simpa using hoff
    rw [hon, hbool]
    simp
  · have hon := congrArg (fun x : BitVec 16 => x.getLsbD q.val) (show (outputUpdate read s).fld.on = _ from if_neg hoff)
    have hbool : (s.getB F.dioFldStatus_FLD_OFF || !s.fld.enab) = false := by simpa using hoff
    rw [hbool]
    exact hon.trans (refreshed_getLsbD s s.fld.on q)

theorem outputUpdate_limit (read : BitVec 16) (s : State) (q : Fin 16) :
    (outputUpdate read s).bitAt A.dioOutLimit q.val = (s.bitAt A.dioOutLimit q.val && (outputUpdate read s).fld.on.getLsbD q.val) ∧
    (outputUpdate read s).bitAt A.dioOutLimit (16 + q.val) = s.bitAt A.dioOutLimit (16 + q.val) := by
  have hq := q.isLt
  constructor
  · refine (State.bitAt_set _ F.dioOutLimit_ILIM _ q.val (by omega)).trans ?_
    rw [if_pos ⟨Nat.zero_le _, show q.val ≤ 15 by omega⟩, Nat.testBit_and, get_testBit]
    simp only [F.dioOutLimit_ILIM, Nat.sub_zero, Nat.zero_add, hq, decide_true, Bool.true_and]
    rfl
  · refine (State.bitAt_set _ F.dioOutLimit_ILIM _ (16 + q.val) (by omega)).trans ?_
    rw [if_neg (by simp only [F.dioOutLimit_ILIM]; omega)]
    exact State.bitAt_set_reg _ _ (by decide) _

/-! ## Couplers (R509, R511) -/

/-- A change of one bit of the couplers' faults. -/
theorem FieldActs.setBit_only {a : Nat} (s : State) (ch : Fin 32) (b : Bool) :
    FieldActs [a, A.hriEvtLost] s (s.setBit a ch.val b) ∧ (∀ i : Fin 32, i ≠ ch → (s.setBit a ch.val b).bitAt a i.val = s.bitAt a i.val) ∧
      (s.setBit a ch.val b).bitAt a ch.val = b := by
  refine ⟨(FieldActs.refl _ s).setBit List.mem_cons_self _ _, fun i hi => ?_, ?_⟩
  · rw [State.bitAt_setBit _ _ _ _ ch.isLt, if_neg (fun h => hi (Fin.ext h))]
  · rw [State.bitAt_setBit _ _ _ _ ch.isLt, if_pos rfl]

/-- The couplers' faults: of the outputs or of the inputs. -/
def cplReg (out : Bool) : Nat := if out then A.dioCplFaultOut else A.dioCplFaultIn

/-- There is an output's coupler for channels 0 to 15 only. -/
theorem cpl_there (out : Bool) (ch : Fin 32) : ¬(out = true ∧ 16 ≤ ch.val) ↔ out = false ∨ ch.val < 16 := by cases out <;> simp

/-- A coupler that is not there, or at fault already, takes no fault. -/
theorem cplFault_none {out : Bool} {ch : Fin 32} {s : State} (h : ¬(out = false ∨ ch.val < 16) ∨ s.bitAt (cplReg out) ch.val = true) :
    cplFault out ch.val s = s :=
  if_pos (h.imp_left (fun hnone => not_not.mp (mt (cpl_there out ch).mp hnone)))

theorem cplRestored_none {out : Bool} {ch : Fin 32} (h : ¬(out = false ∨ ch.val < 16)) (s : State) : cplRestored out ch.val s = s :=
  if_pos (not_not.mp (mt (cpl_there out ch).mp h))

theorem cplRestored_there {out : Bool} {ch : Fin 32} (h : out = false ∨ ch.val < 16) (s : State) :
    cplRestored out ch.val s = s.setBit (cplReg out) ch.val false :=
  if_neg ((cpl_there out ch).mpr h)

/-- A coupler fault sets its bit and raises FIELD_CPL. -/
theorem cplFault_new {out : Bool} {ch : Fin 32} {s : State} (hthere : out = false ∨ ch.val < 16)
    (hclear : s.bitAt (cplReg out) ch.val = false) :
    cplFault out ch.val s = (s.setBit (cplReg out) ch.val true).raise 0x0B04 sevFault 0
      (if out then 0x9580 + ch.val else 0x9500 + ch.val) [(16, 1, if out then 1 else 0), (17, 1, ch.val)] :=
  if_neg (not_or.mpr ⟨(cpl_there out ch).mpr hthere, ne_true_of_eq_false hclear⟩)

theorem pl_cpl (out : Bool) (ch : Fin 32) : pl [(16, 1, if out then 1 else 0), (17, 1, ch.val)] =
    BitVec.ofNat 128 ((if out then 1 else 0) + ch.val * 2 ^ 8) := by
  have hch := ch.isLt
  rw [pl_cons (R := ch.val) ((pl_one (by omega)).trans (congrArg _ (by omega))) (by cases out <;> decide)]
  exact congrArg _ (by omega)

/-! ## O52 -/

/-- FIELD_REENABLE, as its ring answers it. -/
theorem fieldReenable_answers {d : Desc} {s : State} (h : Accepts s 0x0B01 d) :
    let low : Prop := s.get F.dioFldStatus_VFLD ≤ 18000
    ∃ t, Answers (.fieldReenable d) d s t (decide low) (if low then 0x02000000 else 0) ∧ OnlyRing d s t [A.dioFldStatus, A.hriEvtLost] ∧
      t = { s with regs := t.regs, host := t.host, hostMem := t.hostMem } ∧
      ShowsSupply s t (s.get F.dioFldStatus_VFLD) (s.getB F.dioFldStatus_FLD_UV) (s.getB F.dioFldStatus_FLD_UV_SEEN)
        (s.getB F.dioFldStatus_FLD_OFF && decide low) (s.getB F.dioFldStatus_IN_VALID) ∧
      (s.host.evBuf.length < 256 → t.host.evBuf = s.host.evBuf ++
        if ¬low ∧ s.getB F.dioFldStatus_FLD_OFF = true then [supplyEv 2 sevInfo (s.get F.dioFldStatus_VFLD) s.nowNs] else []) := by
  intro low
  have hhead : A.dioFldStatus ≠ A.hriRingHead d.ring.val := not_ringHead d (by decide)
  have hget : ∀ {f : Fld}, f.a = A.dioFldStatus → (s.fetched d).get f = s.get f := fun hf => fetched_get s d (hf ▸ hhead)
  have hgetB : ∀ {f : Fld}, f.a = A.dioFldStatus → (s.fetched d).getB f = s.getB f := fun hf => fetched_getB s d (hf ▸ hhead)
  obtain ⟨u, hop, hregs, hu, hrings, hshows, hevents⟩ := opFieldReenable_latched d (s.fetched d)
  have hc : RunsForm (.fieldReenable d) 0x0B01 opFieldReenable d d s := ⟨rfl, rfl, rfl, rfl⟩
  obtain ⟨t, hanswers, honly, hframe, hevBuf, hsame⟩ := hc.completes h hop hregs (by decide) hrings (hu ▸ rfl)
  have hshown : ∀ {f : Fld}, f.a = A.dioFldStatus → t.get f = u.get f := fun hf => State.get_of_reg (hsame _ (by rw [hf]; decide))
  simp (disch := decide) only [ShowsSupply, hget, hgetB] at hshows
  refine ⟨t, ?_, honly, hframe.trans (by rw [hu]; rfl), ?_, fun hroom => hevBuf.trans ((hevents hroom).trans ?_)⟩
  · rw [hget rfl] at hanswers
    by_cases hlow : s.get F.dioFldStatus_VFLD ≤ 18000
    · simpa [low, hlow, why] using hanswers
    · simpa [low, hlow, why] using hanswers
  · simpa (disch := decide) only [ShowsSupply, State.getB, hshown] using hshows
  · rw [hget rfl, hgetB rfl]
    rfl

/-- FIELD_OUT, as its ring answers it. -/
theorem fieldOut_answers {d : Desc} {s : State} (h : Accepts s 0x0B00 d) :
    ∃ t, Answers (.fieldOut d) d s t false 0 ∧ OnlyRing d s t [A.dioOutCmd] ∧
      t = { s with regs := t.regs, host := t.host, hostMem := t.hostMem } ∧ t.host.evBuf = s.host.evBuf ∧
      ∀ q : Fin 16, t.bitAt A.dioOutCmd q.val =
        if (d.w 1).getLsbD q.val then (d.w 1).getLsbD (16 + q.val) else s.bitAt A.dioOutCmd q.val := by
  have hc : RunsForm (.fieldOut d) 0x0B00 opFieldOut d d s := ⟨rfl, rfl, rfl, rfl⟩
  obtain ⟨t, hanswers, honly, hframe, hevBuf, hsame⟩ :=
    hc.completes h rfl ((RegsBut.refl [A.dioOutCmd] _).set (f := F.dioOutCmd_CMD) List.mem_cons_self _) (by decide) rfl rfl
  refine ⟨t, hanswers, honly, hframe, hevBuf, fun q => ?_⟩
  rw [State.bitAt_of_reg (hsame A.dioOutCmd (by decide)), ← State.bitAt_of_reg (fetched_reg s d (not_ringHead d (by decide)))]
  exact opFieldOut_cmd d (s.fetched d) q

/-- Settles O52: every act of the field side makes its own fields and bits and leaves all else. -/
theorem fieldSupply : Obligations.FieldSupply := by
  intro mv cyc d out ch read s v w room event supply raised seen uv latched valid status timed supplied
  have hsupplied {t : State} {fld : FldSt} {mV : Nat} {uv seen off valid : Bool} (h : Measured w t fld mV uv seen off valid) :
      supplied t ∧ t.fld = fld ∧ status t mV uv seen off valid := ⟨⟨h.acts.regs, h.acts.frame⟩, h.fld, h.shows⟩
  refine ⟨?uvSet, ?uvClear, ?offAbove, ?offBelow, ?inValid, fun h => fieldReenable_answers h, fun h => fieldOut_answers h, ?update, ?serves,
    ?held, ?couplers⟩
  case uvSet =>
    obtain ⟨hsup, hfld, hstatus⟩ := hsupplied (measured_fldUvSet mv w)
    exact ⟨_, rfl, hsup, hfld, hstatus, fldUvSet_evBuf mv w⟩
  case uvClear =>
    obtain ⟨hsup, hfld, hstatus⟩ := hsupplied (measured_fldUvClear mv w)
    exact ⟨_, rfl, hsup, hfld, hstatus, fldUvClear_host mv w⟩
  case offAbove =>
    intro h
    obtain ⟨hsup, hfld, hstatus⟩ := hsupplied (measured_vfld mv w)
    have hoff : fldOff mv.toNat w = vfld mv.toNat w := if_pos h
    exact ⟨_, congrArg Host.Outcome.next hoff, hsup, hfld, hstatus, rfl⟩
  case offBelow =>
    intro h
    obtain ⟨hacts, hrest⟩ := fldOff_below mv w h
    exact ⟨_, rfl, ⟨hacts.regs, hacts.frame⟩, hrest⟩
  case inValid =>
    intro passes
    refine ⟨_, rfl, ?_, fldInValid_host mv w, fun h => ?_, fun h => ?_⟩
    · by_cases h : passes
      · exact (hsupplied (measured_fldInValid mv w h)).1
      · rw [fldInValid_other mv w h]
        exact (hsupplied (measured_vfld mv w)).1
    · rw [fldInValid_other mv w h]
      exact (hsupplied (measured_vfld mv w)).2
    · exact (hsupplied (measured_fldInValid mv w h)).2
  case update =>
    obtain ⟨hregs, hframe, hread⟩ := outputUpdate_spec read s
    refine ⟨_, rfl, hregs, hframe, hread, fun q => ?_⟩
    obtain ⟨hheld, hon⟩ := outputUpdate_output read s q
    exact ⟨hheld, hon, outputUpdate_limit read s q⟩
  case serves => simp [State.heServes, and_assoc]
  case held =>
    have hacts : FieldActs [A.dioFldStatus] s (holdSeen s) := (FieldActs.refl _ s).flag (by decide)
    refine ⟨_, rfl, ⟨hacts.regs, hacts.frame⟩, rfl, rfl, ?_, ?_, fun f hf => ?_⟩
    · simp (disch := decide) [holdSeen, State.getB, State.get_flag, State.get_set_same]
    · simp (disch := decide) [holdSeen, State.get_flag, State.get_set_bits]
    · fin_cases hf <;> simp (disch := decide) [holdSeen, State.getB, State.get_flag, State.get_set_bits]
  case couplers =>
    intro cpl place there side only
    refine ⟨fun h => ?_, fun h hclear => ?_, fun h => ?_, fun h => ?_⟩
    · exact congrArg Host.Outcome.next (cplFault_none (s := w) h)
    · obtain ⟨hacts, hothers, hset⟩ := FieldActs.setBit_only (a := cpl) w ch true
      have hlost : cpl ≠ A.hriEvtLost := by cases out <;> exact (by decide)
      have hbit (i : Nat) := State.bitAt_of_reg (State.raise_reg (w.setBit cpl ch.val true) 0x0B04 sevFault 0
        (if out then 0x9580 + ch.val else 0x9500 + ch.val) [(16, 1, if out then 1 else 0), (17, 1, ch.val)] hlost) i
      have hraised := hacts.raise (by simp) 0x0B04 sevFault 0 (if out then 0x9580 + ch.val else 0x9500 + ch.val)
        [(16, 1, if out then 1 else 0), (17, 1, ch.val)]
      refine ⟨_, congrArg Host.Outcome.next (cplFault_new (s := w) h hclear), ⟨⟨hraised.regs, hraised.frame⟩, State.raise_fld ..,
        fun i hi => (hbit i.val).trans (hothers i hi)⟩, (hbit ch.val).trans hset, fun hroom => ?_⟩
      refine (State.raise_evBuf (w.setBit cpl ch.val true) _ _ _ _ _ hroom).trans ?_
      rw [pl_cpl]
      cases out <;> rfl
    · exact congrArg Host.Outcome.next (cplRestored_none h s)
    · obtain ⟨hacts, hothers, hclears⟩ := FieldActs.setBit_only (a := cpl) s ch false
      exact ⟨_, congrArg Host.Outcome.next (cplRestored_there h s), ⟨⟨hacts.regs, hacts.frame⟩, rfl, hothers⟩, hclears, rfl⟩

end Sys2Proof.Machine
end

section
/-!
PROOF. Field inputs and the flags of field outputs (spec/14_field_io.md, R502, R503 and R505 to R507).
-/
namespace Sys2Proof.Machine

/-! ## One sample of an input (R503) -/

/-- The registers that samples of inputs write. -/
def inputRegs : List Nat := [A.dioInRaw, A.dioInLevel, A.dioInRise, A.dioInFall, A.hriEvtLost]

/-- A sample counts: the counter of its input and IN_RAW. -/
def State.inputCounted (s : State) (j c : Nat) (raw : Bool) : State :=
  (s.updFld (fun x => { x with ctr := Table.put 0 j c x.ctr })).setBit A.dioInRaw j raw

/-- The register that keeps the edges of one direction. -/
def edgeReg (up : Bool) : Nat := if up then A.dioInRise else A.dioInFall

/-- An input takes a new level: IN_LEVEL, and its edge in IN_RISE or IN_FALL and in the field side's word. -/
def State.inputTurned (s : State) (j : Nat) (up : Bool) : State :=
  ((s.setBit A.dioInLevel j up).flag ⟨edgeReg up, j, j⟩).updFld (fun x =>
    if up then { x with rise := x.rise ||| BitVec.ofNat 32 (2 ^ j) } else { x with fall := x.fall ||| BitVec.ofNat 32 (2 ^ j) })

/-- The counter and the level that a sample leaves. -/
def State.sampleStep (s : State) (j : Nat) (raw : Bool) : Nat × Bool :=
  filtStep (s.filt j) raw (Table.look 0 s.fld.ctr j) (s.bitAt A.dioInLevel j)

/-- A sample after which the level is as before. -/
theorem inputSample_same {s : State} {j : Nat} {raw : Bool} (h : (s.sampleStep j raw).2 = s.bitAt A.dioInLevel j) (ago : Nat) :
    inputSample j raw ago s = s.inputCounted j (s.sampleStep j raw).1 raw := if_pos h

/-- A sample that turns the level. -/
theorem inputSample_turn {s : State} {j : Nat} {raw : Bool} (h : (s.sampleStep j raw).2 ≠ s.bitAt A.dioInLevel j) (ago : Nat) :
    inputSample j raw ago s = if s.bitAt A.dioInEvt j
      then ((s.inputCounted j (s.sampleStep j raw).1 raw).inputTurned j (s.sampleStep j raw).2).raiseAt
        (s.nowNs - 25000 * ago) 0x0B01 sevInfo 0 (0x9500 + j)
        [(16, 1, j), (17, 1, if (s.sampleStep j raw).2 then 1 else 0)]
      else (s.inputCounted j (s.sampleStep j raw).1 raw).inputTurned j (s.sampleStep j raw).2 := if_neg h

/-- What samples of input `j` leave alone: all but registers of the inputs and the field side's words, and of those what belongs to other
inputs. -/
structure InputOnly (j : Fin 32) (s t : State) : Prop where
  acts : FieldActs inputRegs s t
  others : ∀ i : Fin 32, i ≠ j → Table.look 0 t.fld.ctr i.val = Table.look 0 s.fld.ctr i.val ∧ t.fld.rise.getLsbD i.val = s.fld.rise.getLsbD i.val ∧
    t.fld.fall.getLsbD i.val = s.fld.fall.getLsbD i.val ∧
    ∀ a, a ∈ [A.dioInRaw, A.dioInLevel, A.dioInRise, A.dioInFall] → t.bitAt a i.val = s.bitAt a i.val
  fld : t.fld = { s.fld with ctr := t.fld.ctr, rise := t.fld.rise, fall := t.fld.fall }

theorem FieldActs.trans {l : List Nat} {s t u : State} (h : FieldActs l s t) (k : FieldActs l t u) : FieldActs l s u :=
  ⟨h.regs.trans k.regs, k.bare.trans h.bare, k.pwr.trans h.pwr, k.notes.trans h.notes⟩

namespace InputOnly
variable {j : Fin 32} {s t u : State}

theorem refl (j : Fin 32) (s : State) : InputOnly j s s := ⟨.refl _ s, fun _ _ => ⟨rfl, rfl, rfl, fun _ _ => rfl⟩, rfl⟩

theorem trans (h : InputOnly j s t) (k : InputOnly j t u) : InputOnly j s u := by
  refine ⟨h.acts.trans k.acts, fun i hi => ?_, ?_⟩
  · obtain ⟨hctr, hrise, hfall, hbits⟩ := h.others i hi
    obtain ⟨kctr, krise, kfall, kbits⟩ := k.others i hi
    exact ⟨kctr.trans hctr, krise.trans hrise, kfall.trans hfall, fun a ha => (kbits a ha).trans (hbits a ha)⟩
  · rw [k.fld, h.fld]

theorem counted (j : Fin 32) (c : Nat) (raw : Bool) (s : State) : InputOnly j s (s.inputCounted j.val c raw) := by
  refine ⟨((FieldActs.refl _ s).updFld _).setBit (by decide) _ _, fun i hi => ?_, rfl⟩
  have hij : i.val ≠ j.val := fun h => hi (Fin.ext h)
  refine ⟨Table.look_put_other _ _ _ hij _, rfl, rfl, fun a _ => ?_⟩
  by_cases ha : a = A.dioInRaw
  · subst ha
    exact (State.bitAt_setBit _ _ _ _ j.isLt).trans (if_neg hij)
  · exact State.bitAt_setBit_reg _ ha _ _ _

theorem edgeReg_mem (up : Bool) : edgeReg up ∈ inputRegs := by cases up <;> decide

theorem turned (j : Fin 32) (up : Bool) (s : State) : InputOnly j s (s.inputTurned j.val up) := by
  refine ⟨(((FieldActs.refl _ s).setBit (by decide) _ _).flag (edgeReg_mem up)).updFld _, fun i hi => ?_, by cases up <;> rfl⟩
  have hij : i.val ≠ j.val := fun h => hi (Fin.ext h)
  have hword (x : W32) : (x ||| BitVec.ofNat 32 (2 ^ j.val)).getLsbD i.val = x.getLsbD i.val := by
    rw [BitVec.getLsbD_or, getLsbD_two_pow j.isLt, decide_eq_false hij, Bool.or_false]
  refine ⟨by cases up <;> rfl, ?_, ?_, fun a _ => ?_⟩
  · cases up
    · rfl
    · exact hword s.fld.rise
  · cases up
    · exact hword s.fld.fall
    · rfl
  · have hlevel : (s.setBit A.dioInLevel j.val up).bitAt a i.val = s.bitAt a i.val := by
      by_cases ha : a = A.dioInLevel
      · rw [ha, State.bitAt_setBit _ _ _ _ j.isLt, if_neg hij]
      · exact State.bitAt_setBit_reg _ ha _ _ _
    refine Eq.trans ?_ hlevel
    by_cases ha : a = edgeReg up
    · rw [ha]
      exact (State.bitAt_set _ ⟨edgeReg up, j.val, j.val⟩ 1 i.val i.isLt).trans (if_neg (by dsimp only; omega))
    · exact State.bitAt_set_reg _ (f := ⟨edgeReg up, j.val, j.val⟩) _ ha _

theorem raiseAt (h : InputOnly j s t) (time code sev data ctrl : Nat) (p : List (Nat × Nat × Nat)) :
    InputOnly j s (t.raiseAt time code sev data ctrl p) := by
  have hfld : (t.raiseAt time code sev data ctrl p).fld = t.fld := by unfold State.raiseAt; split <;> rfl
  have hpwr : (t.raiseAt time code sev data ctrl p).pwr = t.pwr := by unfold State.raiseAt; split <;> rfl
  have hnotes : (t.raiseAt time code sev data ctrl p).host.notes = t.host.notes := by unfold State.raiseAt; split <;> rfl
  refine ⟨⟨h.acts.regs.raiseAt (by decide) _ _ _ _ _ _, (t.bare_raiseAt ..).trans h.acts.bare, hpwr.trans h.acts.pwr, hnotes.trans h.acts.notes⟩,
    fun i hi => ?_, ?_⟩
  · obtain ⟨hctr, hrise, hfall, hbits⟩ := h.others i hi
    rw [hfld]
    refine ⟨hctr, hrise, hfall, fun a ha => Eq.trans (State.bitAt_of_reg (State.raiseAt_reg _ _ _ _ _ _ _ ?_) _) (hbits a ha)⟩
    fin_cases ha <;> decide
  · rw [hfld]
    exact h.fld

end InputOnly

/-- A sample of an input leaves the other inputs alone. -/
theorem inputOnly_inputSample (j : Fin 32) (raw : Bool) (ago : Nat) (s : State) : InputOnly j s (inputSample j.val raw ago s) := by
  by_cases h : (s.sampleStep j.val raw).2 = s.bitAt A.dioInLevel j.val
  · rw [inputSample_same h]
    exact .counted j _ raw s
  · rw [inputSample_turn h]
    have hturned := (InputOnly.counted j (s.sampleStep j.val raw).1 raw s).trans (.turned j (s.sampleStep j.val raw).2 _)
    split
    · exact hturned.raiseAt ..
    · exact hturned

/-- No edge: IN_RISE, IN_FALL, the field side's words of them and the events are as before. -/
structure NoEdge (s t : State) : Prop where
  rise : t.reg A.dioInRise = s.reg A.dioInRise
  fall : t.reg A.dioInFall = s.reg A.dioInFall
  fld : t.fld = { s.fld with ctr := t.fld.ctr }
  host : t.host = s.host

/-- The event of an input's edge. -/
def inputEv (j : Nat) (up : Bool) (time : Nat) : Event :=
  { code := 0x0B01, sev := sevInfo, data := 0, ctrl := BitVec.ofNat 16 (0x9500 + j), time := BitVec.ofNat 64 time
    payload := BitVec.ofNat 128 (j + (if up then 256 else 0)) }

/-- One edge of input `j`, some samples before now. -/
structure EdgeOf (j : Nat) (s t : State) (up : Bool) (ago : Nat) : Prop where
  bit : t.bitAt (edgeReg up) j = true
  word : (if up then t.fld.rise else t.fld.fall).getLsbD j = true
  other : t.bitAt (edgeReg (!up)) j = s.bitAt (edgeReg (!up)) j
  event : s.host.evBuf.length < 256 →
    t.host.evBuf = s.host.evBuf ++ if s.bitAt A.dioInEvt j then [inputEv j up (s.nowNs - 25000 * ago)] else []

namespace NoEdge
variable {s t u : State}

theorem refl (s : State) : NoEdge s s := ⟨rfl, rfl, rfl, rfl⟩

theorem trans (h : NoEdge s t) (k : NoEdge t u) : NoEdge s u :=
  ⟨k.rise.trans h.rise, k.fall.trans h.fall, by rw [k.fld, h.fld], k.host.trans h.host⟩

theorem bitAt (h : NoEdge s t) (up : Bool) (i : Nat) : t.bitAt (edgeReg up) i = s.bitAt (edgeReg up) i := by
  cases up
  · exact State.bitAt_of_reg h.fall i
  · exact State.bitAt_of_reg h.rise i

theorem words (h : NoEdge s t) (up : Bool) : (if up then t.fld.rise else t.fld.fall) = (if up then s.fld.rise else s.fld.fall) := by
  rw [h.fld]

end NoEdge

/-- An edge after samples without one, from the same instant. -/
theorem EdgeOf.after {j : Fin 32} {s t u : State} {up : Bool} {ago : Nat} (hst : NoEdge s t) (honly : InputOnly j s t)
    (h : EdgeOf j.val t u up ago) : EdgeOf j.val s u up ago := by
  refine ⟨h.bit, h.word, h.other.trans (hst.bitAt _ _), ?_⟩
  have hevt : t.bitAt A.dioInEvt j.val = s.bitAt A.dioInEvt j.val := State.bitAt_of_reg (honly.acts.regs _ (by decide)) _
  have hnow : t.nowNs = s.nowNs := by
    unfold State.nowNs State.nowFx
    rw [honly.acts.frame]
  have h' := h.event
  rwa [hst.host, hevt, hnow] at h'

/-- An edge and then samples without one. -/
theorem EdgeOf.before {j : Nat} {s t u : State} {up : Bool} {ago : Nat} (h : EdgeOf j s t up ago) (htu : NoEdge t u) : EdgeOf j s u up ago :=
  ⟨(htu.bitAt _ _).trans h.bit, by rw [htu.words]; exact h.word, (htu.bitAt _ _).trans h.other,
    fun hroom => (congrArg (·.evBuf) htu.host).trans (h.event hroom)⟩

theorem noEdge_inputCounted (s : State) (j c : Nat) (raw : Bool) : NoEdge s (s.inputCounted j c raw) :=
  ⟨State.reg_setReg_other _ _ (by decide), State.reg_setReg_other _ _ (by decide), rfl, rfl⟩

theorem edgeOf_inputTurned (j : Fin 32) (s : State) (up : Bool) :
    (s.inputTurned j.val up).bitAt (edgeReg up) j.val = true ∧
    (if up then (s.inputTurned j.val up).fld.rise else (s.inputTurned j.val up).fld.fall).getLsbD j.val = true ∧
    (s.inputTurned j.val up).bitAt (edgeReg (!up)) j.val = s.bitAt (edgeReg (!up)) j.val ∧
    (s.inputTurned j.val up).bitAt A.dioInLevel j.val = up := by
  have hword (x : W32) : (x ||| BitVec.ofNat 32 (2 ^ j.val)).getLsbD j.val = true := by
    rw [BitVec.getLsbD_or, getLsbD_two_pow j.isLt, decide_eq_true rfl, Bool.or_true]
  refine ⟨?_, ?_, ?_, ?_⟩
  · exact (State.bitAt_set _ ⟨edgeReg up, j.val, j.val⟩ 1 j.val j.isLt).trans (by simp)
  · cases up
    · exact hword s.fld.fall
    · exact hword s.fld.rise
  · refine (State.bitAt_set_reg _ (f := ⟨edgeReg up, j.val, j.val⟩) _ (show edgeReg (!up) ≠ edgeReg up by cases up <;> decide) _).trans ?_
    exact State.bitAt_setBit_reg _ (by cases up <;> decide) _ _ _
  · refine (State.bitAt_set_reg _ (f := ⟨edgeReg up, j.val, j.val⟩) _ (show A.dioInLevel ≠ edgeReg up by cases up <;> decide) _).trans ?_
    exact (State.bitAt_setBit _ _ _ _ j.isLt).trans (if_pos rfl)

theorem pl_input (j : Fin 32) (up : Bool) :
    pl [(16, 1, j.val), (17, 1, if up then 1 else 0)] = BitVec.ofNat 128 (j.val + (if up then 256 else 0)) := by
  have hj := j.isLt
  rw [pl_cons (R := if up then 1 else 0) ((pl_one (by cases up <;> decide)).trans (by cases up <;> rfl)) (by omega)]
  cases up <;> exact congrArg _ (by simp)

/-- What one sample does: its counter, level and IN_RAW, and the edge where the level turns. -/
theorem inputSample_spec (j : Fin 32) (raw : Bool) (ago : Nat) (s : State) :
    let t := inputSample j.val raw ago s
    let x := s.sampleStep j.val raw
    Table.look 0 t.fld.ctr j.val = x.1 ∧ t.bitAt A.dioInLevel j.val = x.2 ∧ t.bitAt A.dioInRaw j.val = raw ∧
      (x.2 = s.bitAt A.dioInLevel j.val → NoEdge s t) ∧ (x.2 ≠ s.bitAt A.dioInLevel j.val → EdgeOf j.val s t x.2 ago) := by
  intro t x
  have hraw : (s.inputCounted j.val x.1 raw).bitAt A.dioInRaw j.val = raw := (State.bitAt_setBit _ _ _ _ j.isLt).trans (if_pos rfl)
  have hctr : Table.look 0 (s.inputCounted j.val x.1 raw).fld.ctr j.val = x.1 := Table.look_put_same ..
  have hquiet := noEdge_inputCounted s j.val x.1 raw
  by_cases h : x.2 = s.bitAt A.dioInLevel j.val
  · have ht : t = s.inputCounted j.val x.1 raw := inputSample_same h ago
    rw [ht]
    exact ⟨hctr, (State.bitAt_setBit_reg _ (by decide) _ _ _).trans h.symm, hraw, fun _ => hquiet, fun hne => absurd h hne⟩
  · obtain ⟨hbit, hword, hother, hlevel⟩ := edgeOf_inputTurned j (s.inputCounted j.val x.1 raw) x.2
    have honly := InputOnly.turned j x.2 (s.inputCounted j.val x.1 raw)
    generalize hv : (s.inputCounted j.val x.1 raw).inputTurned j.val x.2 = v at hbit hword hother hlevel honly
    have hvctr : v.fld.ctr = (s.inputCounted j.val x.1 raw).fld.ctr := by rw [← hv]; cases x.2 <;> rfl
    have hvraw : v.bitAt A.dioInRaw j.val = raw := by
      refine Eq.trans ?_ hraw
      rw [← hv]
      exact (State.bitAt_set_reg _ (f := ⟨edgeReg x.2, j.val, j.val⟩) _ (show A.dioInRaw ≠ edgeReg x.2 by cases x.2 <;> decide) _).trans
        (State.bitAt_setBit_reg _ (by decide) _ _ _)
    have hvhost : v.host = s.host := by rw [← hv]; rfl
    have ht : t = if s.bitAt A.dioInEvt j.val then v.raiseAt (s.nowNs - 25000 * ago) 0x0B01 sevInfo 0 (0x9500 + j.val)
        [(16, 1, j.val), (17, 1, if x.2 then 1 else 0)] else v := (inputSample_turn h ago).trans (by rw [hv])
    have hfld : t.fld = v.fld := by
      rw [ht]
      unfold State.raiseAt
      split
      · split <;> rfl
      · rfl
    have hregs : ∀ a, a ≠ A.hriEvtLost → ∀ i, t.bitAt a i = v.bitAt a i := fun a ha i => by
      rw [ht]
      split
      · exact State.bitAt_of_reg (State.raiseAt_reg _ _ _ _ _ _ _ ha) i
      · rfl
    have hedge : ∀ up, edgeReg up ≠ A.hriEvtLost := fun up => by cases up <;> decide
    refine ⟨?_, (hregs _ (by decide) _).trans hlevel, (hregs _ (by decide) _).trans hvraw, fun hsame => absurd hsame h, fun _ => ⟨?_, ?_, ?_, ?_⟩⟩
    · rw [hfld, hvctr]
      exact hctr
    · exact (hregs _ (hedge _) _).trans hbit
    · rw [hfld]
      exact hword
    · exact (hregs _ (hedge _) _).trans (hother.trans (hquiet.bitAt _ _))
    · intro hroom
      rw [ht]
      split
      · rw [State.raiseAt_room _ _ _ _ _ _ _ (hvhost ▸ hroom), pl_input, hvhost]
        rfl
      · rw [hvhost, List.append_nil]

/-! ## Samples one after another (R503) -/

/-- An input counts samples while the supply and its coupler are valid. -/
def State.inputCounts (s : State) (j : Nat) : Bool := s.getB F.dioFldStatus_IN_VALID && !s.bitAt A.dioCplFaultIn j

theorem InputOnly.inputCounts {j : Fin 32} {s t : State} (h : InputOnly j s t) : t.inputCounts j.val = s.inputCounts j.val := by
  rw [State.inputCounts, h.acts.regs.getB (by decide), State.bitAt_of_reg (h.acts.regs _ (by decide)), State.inputCounts]

theorem dioInFilt_not_mem (j : Fin 32) : A.dioInFilt (j.val / 4) ∉ inputRegs := by
  have hj := j.isLt
  simp only [inputRegs, A.dioInFilt, A.dioInRaw, A.dioInLevel, A.dioInRise, A.dioInFall, A.hriEvtLost, List.mem_cons, List.not_mem_nil, or_false]
  omega

theorem InputOnly.filt {j : Fin 32} {s t : State} (h : InputOnly j s t) : t.filt j.val = s.filt j.val := by
  rw [State.filt, h.acts.regs _ (dioInFilt_not_mem j), State.filt]

theorem inputSamples_cons {s : State} {j : Nat} (h : s.inputCounts j = true) (r : Bool) (rest : List Bool) :
    inputSamples j (r :: rest) s = inputSamples j rest (inputSample j r rest.length s) :=
  congrArg (inputSamples j rest) (if_pos h)

/-- Without a valid supply or coupler, samples change nothing. -/
theorem inputSamples_held {s : State} {j : Nat} (h : s.inputCounts j = false) (l : List Bool) : inputSamples j l s = s := by
  induction l with
  | nil => rfl
  | cons r rest ih => exact (congrArg (inputSamples j rest) (if_neg (ne_true_of_eq_false h))).trans ih

theorem inputOnly_inputSamples (j : Fin 32) (l : List Bool) (s : State) : InputOnly j s (inputSamples j.val l s) := by
  induction l generalizing s with
  | nil => exact .refl j s
  | cons r rest ih =>
    rw [inputSamples]
    split
    · exact (inputOnly_inputSample j r rest.length s).trans (ih _)
    · exact ih s

/-- How many samples of one value take the counter of an input to that value's bound. -/
def State.inputLeft (s : State) (j : Nat) (r : Bool) : Nat := if r then s.filt j - Table.look 0 s.fld.ctr j else Table.look 0 s.fld.ctr j

/-- A sample takes the counter one nearer to its bound; the level follows where it arrives there. -/
theorem sampleStep_spec {j : Fin 32} {s : State} (r : Bool) (hfilt : 1 ≤ s.filt j.val) (hc : Table.look 0 s.fld.ctr j.val ≤ s.filt j.val) :
    (s.sampleStep j.val r).1 ≤ s.filt j.val ∧
    (if r then s.filt j.val - (s.sampleStep j.val r).1 else (s.sampleStep j.val r).1) = s.inputLeft j.val r - 1 ∧
    (s.sampleStep j.val r).2 = if s.inputLeft j.val r ≤ 1 then r else s.bitAt A.dioInLevel j.val := by
  unfold State.sampleStep State.inputLeft filtStep
  generalize Table.look 0 s.fld.ctr j.val = c at hc ⊢
  generalize s.filt j.val = f at hfilt hc ⊢
  cases r with
  | true =>
    have hcount : (if c < f then c + 1 else c) = min f (c + 1) := by split <;> omega
    have hzero : ¬min f (c + 1) = 0 := by omega
    have htop : min f (c + 1) = f ↔ f - c ≤ 1 := by omega
    simp only [if_true, hcount, hzero, if_false, htop, and_true]
    omega
  | false =>
    have hcount : (if 0 < c then c - 1 else c) = c - 1 := by split <;> omega
    have htop : ¬c - 1 = f := by omega
    have hzero : c - 1 = 0 ↔ c ≤ 1 := by omega
    simp only [Bool.false_eq_true, if_false, hcount, htop, hzero, and_true]
    omega

/-- Samples of one value: the counter goes to that value's bound, and a level that differs turns in the sample in which it arrives there. -/
theorem inputSamples_run {j : Fin 32} (r : Bool) (n : Nat) {s : State} (hcounts : s.inputCounts j.val = true) (hfilt : 1 ≤ s.filt j.val)
    (hc : Table.look 0 s.fld.ctr j.val ≤ s.filt j.val) :
    let t := inputSamples j.val (List.replicate n r) s
    Table.look 0 t.fld.ctr j.val ≤ s.filt j.val ∧ t.inputLeft j.val r = s.inputLeft j.val r - n ∧
      (s.bitAt A.dioInLevel j.val = r ∨ n < s.inputLeft j.val r → t.bitAt A.dioInLevel j.val = s.bitAt A.dioInLevel j.val ∧ NoEdge s t) ∧
      (s.bitAt A.dioInLevel j.val ≠ r → s.inputLeft j.val r ≤ n → 1 ≤ n →
        t.bitAt A.dioInLevel j.val = r ∧ EdgeOf j.val s t r (n - max 1 (s.inputLeft j.val r))) := by
  induction n generalizing s with
  | zero => exact ⟨hc, rfl, fun _ => ⟨rfl, .refl s⟩, fun _ _ h => absurd h (by decide)⟩
  | succ n ih =>
    intro t
    have honly := inputOnly_inputSample j r n s
    obtain ⟨hctr, hlevel, -, hquiet, hedge⟩ := inputSample_spec j r n s
    have ht : t = inputSamples j.val (List.replicate n r) (inputSample j.val r n s) := by
      have h := inputSamples_cons hcounts r (List.replicate n r)
      rwa [List.length_replicate] at h
    obtain ⟨hmost, hleft, hturn⟩ := sampleStep_spec r hfilt hc
    rw [hturn] at hlevel hquiet hedge
    obtain ⟨ihmost, ihleft, ihstays, ihturns⟩ :=
      ih (honly.inputCounts.trans hcounts) (honly.filt.symm ▸ hfilt) (by rw [hctr, honly.filt]; exact hmost)
    have hleft1 : (inputSample j.val r n s).inputLeft j.val r = s.inputLeft j.val r - 1 := by
      rw [State.inputLeft, hctr, honly.filt]
      exact hleft
    rw [← ht, hlevel, hleft1] at ihstays ihturns
    rw [← ht, hleft1] at ihleft
    rw [← ht, honly.filt] at ihmost
    refine ⟨ihmost, by omega, fun h => ?_, fun hne hfew _ => ?_⟩
    · have hstays : (if s.inputLeft j.val r ≤ 1 then r else s.bitAt A.dioInLevel j.val) = s.bitAt A.dioInLevel j.val := by
        rcases h with h | h
        · rw [h, ite_self]
        · rw [if_neg (by omega)]
      rw [hstays] at ihstays hquiet
      obtain ⟨hsame, hno⟩ := ihstays (h.imp_right (by omega))
      exact ⟨hsame, (hquiet rfl).trans hno⟩
    · by_cases hnow : s.inputLeft j.val r ≤ 1
      · rw [if_pos hnow] at ihstays hedge
        obtain ⟨hsame, hno⟩ := ihstays (.inl rfl)
        have hago : n + 1 - max 1 (s.inputLeft j.val r) = n := by omega
        rw [hago]
        exact ⟨hsame, (hedge hne.symm).before hno⟩
      · rw [if_neg hnow] at ihturns hquiet
        obtain ⟨hturned, hlater⟩ := ihturns hne (by omega) (by omega)
        have hago : n + 1 - max 1 (s.inputLeft j.val r) = n - max 1 (s.inputLeft j.val r - 1) := by omega
        rw [hago]
        exact ⟨hturned, hlater.after (hquiet rfl) honly⟩

/-! ## Writes of FILT (R503) -/

/-- The FILT that a write stores for input `i` of its four. -/
def filtByte (v : W32) (i : Nat) : Nat := max 1 (bits v (8 * i + 7) (8 * i))

theorem filtByte_lt (v : W32) (i : Nat) : filtByte v i < 256 := by
  have h : bits v (8 * i + 7) (8 * i) < 2 ^ (8 * i + 7 + 1 - 8 * i) := nbits_lt ..
  rw [show 8 * i + 7 + 1 - 8 * i = 8 by omega] at h
  unfold filtByte
  omega

/-- The word that holds four values of FILT. -/
def filtWord (v : W32) : Nat := filtByte v 0 + filtByte v 1 * 256 + filtByte v 2 * 65536 + filtByte v 3 * 16777216

/-- The counter of input `i` of the four, held within the FILT that a write changes. -/
def clampCtr (s : State) (m : Nat) (v : W32) (i : Nat) (t : State) : State :=
  if s.filt (4 * m + i) = filtByte v i then t
  else t.updFld (fun x => { x with ctr := Table.put 0 (4 * m + i) (min (Table.look 0 x.ctr (4 * m + i)) (filtByte v i)) x.ctr })

/-- A write of FILT stores its four values and clamps the counters of the inputs whose FILT it changes. -/
theorem inFiltWrite_eq (m : Nat) (v : W32) (s : State) :
    inFiltWrite m v s = forEach (upto 4) (clampCtr s m v) (s.setReg (A.dioInFilt m) (BitVec.ofNat 32 (filtWord v))) := by
  have hword : filtWord v = (upto 4).foldl (fun a i => a + filtByte v i * 256 ^ i) 0 := by
    rw [show upto 4 = [0, 1, 2, 3] from rfl, List.foldl_cons, List.foldl_cons, List.foldl_cons, List.foldl_cons, List.foldl_nil, Nat.zero_add,
      pow_zero, pow_one, Nat.mul_one, show 256 ^ 2 = 65536 by norm_num, show 256 ^ 3 = 16777216 by norm_num, filtWord]
  rw [hword]
  unfold inFiltWrite clampCtr filtByte
  rfl

theorem dioInFilt_plain (m : Fin 8) : (regGroup? (A.dioInFilt m.val)).map (·.w1c) = some 0 :=
  match m with
  | 0 | 1 | 2 | 3 | 4 | 5 | 6 | 7 => rfl

theorem barWrite_dioInFilt (m : Fin 8) (v : W32) {s : State} (h : s.ready = true) : barWrite (A.dioInFilt m.val) v s = inFiltWrite m.val v s := by
  obtain ⟨g, hgroup, hw1c⟩ := Option.map_eq_some_iff.mp (dioInFilt_plain m)
  have hspared : s.spared (A.dioInFilt m.val) v = v := by
    rw [State.spared, hgroup]
    show v &&& ~~~BitVec.ofNat 32 (Table.look 0 s.clk.fresh (A.dioInFilt m.val) &&& g.w1c) = v
    rw [hw1c, Nat.and_zero, BitVec.not_zero, BitVec.and_allOnes]
  have hm := m.isLt
  have ha : A.dioInFilt m.val = 0x16040 + 4 * m.val := rfl
  have hdio : dioWrite (A.dioInFilt m.val) v s = inFiltWrite m.val v s := by
    rw [dioWrite, if_pos (by omega), ha, show (0x16040 + 4 * m.val - 0x16040) / 4 = m.val by omega]
  rw [barWrite, if_neg (by simp [h, hgroup]), hspared, if_neg (by omega), if_neg (by omega), if_neg (by omega), if_neg (by omega),
    if_neg (by omega), if_neg (by omega), if_neg (by omega), if_neg (by omega), if_pos (by omega), hdio]

/-- FILT of input `i` of the four, after the write. -/
theorem filt_filtWord (m : Fin 8) (v : W32) (i : Fin 4) {t : State} (h : t.reg (A.dioInFilt m.val) = BitVec.ofNat 32 (filtWord v)) :
    t.filt (4 * m.val + i.val) = filtByte v i.val := by
  have hi := i.isLt
  rw [State.filt, show (4 * m.val + i.val) / 4 = m.val by omega, show (4 * m.val + i.val) % 4 = i.val by omega, h]
  have h0 := filtByte_lt v 0
  have h1 := filtByte_lt v 1
  have h2 := filtByte_lt v 2
  have h3 := filtByte_lt v 3
  have hword : filtWord v % 2 ^ 32 = filtWord v := Nat.mod_eq_of_lt (by unfold filtWord; omega)
  rw [bits, BitVec.toNat_ofNat, hword, nbits, show 8 * i.val + 7 + 1 - 8 * i.val = 8 by omega, filtWord]
  obtain ⟨i, hlt⟩ := i
  interval_cases i <;> dsimp only <;> omega

/-- The clamping of one counter leaves all but that counter. -/
theorem clampCtr_frame (s : State) (m : Nat) (v : W32) (i : Nat) (t : State) :
    { clampCtr s m v i t with fld := { (clampCtr s m v i t).fld with ctr := [] } } = { t with fld := { t.fld with ctr := [] } } := by
  unfold clampCtr
  split <;> rfl

theorem clampCtr_same (s : State) (m : Nat) (v : W32) (i : Nat) (t : State) : Table.look 0 (clampCtr s m v i t).fld.ctr (4 * m + i) =
    if s.filt (4 * m + i) = filtByte v i then Table.look 0 t.fld.ctr (4 * m + i)
    else min (Table.look 0 t.fld.ctr (4 * m + i)) (filtByte v i) := by
  unfold clampCtr
  split
  · rfl
  · exact Table.look_put_same ..

theorem clampCtr_other (s : State) (m : Nat) (v : W32) {i k : Nat} (h : k ≠ 4 * m + i) (t : State) :
    Table.look 0 (clampCtr s m v i t).fld.ctr k = Table.look 0 t.fld.ctr k := by
  unfold clampCtr
  split
  · rfl
  · exact Table.look_put_other _ _ _ h _

theorem inFiltWrite_frame (m : Nat) (v : W32) (s : State) : inFiltWrite m v s =
    { s with regs := (inFiltWrite m v s).regs, fld := { s.fld with ctr := (inFiltWrite m v s).fld.ctr } } := by
  have h := forEach_eq_of_step (fun t : State => { t with fld := { t.fld with ctr := [] } }) (l := upto 4)
    (fun i _ => clampCtr_frame s m v i) (s.setReg (A.dioInFilt m) (BitVec.ofNat 32 (filtWord v)))
  rw [← inFiltWrite_eq] at h
  generalize inFiltWrite m v s = t at h ⊢
  obtain ⟨_, _, _, _, _, _, _, _, _, _, _, _, _, _, ⟨⟩⟩ := t
  obtain ⟨_, _, _, _, _, _, _, _, _, _, _, _, _, _, ⟨⟩⟩ := s
  simp_all [State.setReg]

theorem inFiltWrite_reg (m : Nat) (v : W32) (s : State) (a : Nat) :
    (inFiltWrite m v s).reg a = (s.setReg (A.dioInFilt m) (BitVec.ofNat 32 (filtWord v))).reg a := by
  rw [inFiltWrite_eq]
  exact forEach_eq_of_step (fun t => t.reg a) (fun i _ t => by unfold clampCtr; split <;> rfl) _

/-- The counter of an input whose FILT changes is held within it. -/
theorem inFiltWrite_ctr (m : Nat) (v : W32) (i : Fin 4) (s : State) : Table.look 0 (inFiltWrite m v s).fld.ctr (4 * m + i.val) =
    if s.filt (4 * m + i.val) = filtByte v i.val then Table.look 0 s.fld.ctr (4 * m + i.val)
    else min (Table.look 0 s.fld.ctr (4 * m + i.val)) (filtByte v i.val) := by
  obtain ⟨t, hbefore, hafter⟩ := forEach_part (fun t => Table.look 0 t.fld.ctr (4 * m + i.val)) (l := upto 4) (f := clampCtr s m v)
    (List.mem_range.mpr i.isLt) List.nodup_range (fun k _ hk => clampCtr_other s m v (by omega))
    (s.setReg (A.dioInFilt m) (BitVec.ofNat 32 (filtWord v)))
  rw [inFiltWrite_eq, hafter, clampCtr_same, hbefore]
  rfl

theorem inFiltWrite_ctr_other {m k : Nat} (h : k / 4 ≠ m) (v : W32) (s : State) :
    Table.look 0 (inFiltWrite m v s).fld.ctr k = Table.look 0 s.fld.ctr k := by
  rw [inFiltWrite_eq]
  exact forEach_eq_of_step (fun t => Table.look 0 t.fld.ctr k) (fun i hi => clampCtr_other s m v (by
    have := List.mem_range.mp hi
    omega)) _

/-! ## Flags of the outputs (R505 to R507) -/

/-- Bits of output `q` among those of a register with two fields of 16 outputs. -/
def OthersKept (q : Fin 16) (s t : State) : Prop := t.fld = s.fld ∧ t.host.evBuf = s.host.evBuf ∧ ∀ i : Fin 32, i.val % 16 ≠ q.val →
  ∀ a, a ∈ [A.dioOutLimit, A.dioOutStatus, A.dioOutRead] → t.bitAt a i.val = s.bitAt a i.val

/-- A bit of output `q` is written. -/
theorem OthersKept.setBit {q : Fin 16} {s t : State} (h : OthersKept q s t) (a : Nat) {i : Nat} (hi : i = q.val ∨ i = 16 + q.val) (b : Bool) :
    OthersKept q s (t.setBit a i b) := by
  obtain ⟨hfld, hevents, hbits⟩ := h
  have hq := q.isLt
  refine ⟨hfld, hevents, fun k hk a' ha' => ?_⟩
  by_cases haa : a' = a
  · subst haa
    rw [State.bitAt_setBit _ _ _ _ (by omega), if_neg (by omega)]
    exact hbits k hk a' ha'
  · rw [State.bitAt_setBit_reg _ haa]
    exact hbits k hk a' ha'

/-- From `s` to `t` nothing has changed but registers of a list, the flags of the cycle, the events and their notes, and the field side. -/
structure OutputActs (l : List Nat) (s t : State) : Prop where
  regs : RegsBut l s t
  bare : t.bare = s.bare
  pwr : t.pwr = s.pwr

namespace OutputActs
variable {l : List Nat} {s t : State}

theorem refl (l : List Nat) (s : State) : OutputActs l s s := ⟨.refl l s, rfl, rfl⟩

theorem setBit (h : OutputActs l s t) {a : Nat} (ha : a ∈ l) (i : Nat) (b : Bool) : OutputActs l s (t.setBit a i b) :=
  ⟨h.regs.setBit ha i b, h.bare, h.pwr⟩

theorem frame (h : OutputActs l s t) : t = { s with
    clk := { s.clk with fresh := t.clk.fresh }
    regs := t.regs
    host := { s.host with evBuf := t.host.evBuf, evDropped := t.host.evDropped, notes := t.host.notes }
    fld := t.fld } := by
  refine (State.eq_of_bare h.bare).trans ?_
  rw [h.pwr]

end OutputActs

/-- The notes of a tick after a flag of output `q`. -/
def noteOutput (q flag now : Nat) (notes : List Note) : List Note :=
  let same (x : Note) : Bool := x.code == 0x0B02 && x.data == 0 && x.ctrl == 0x9580 + q && x.pre == [(16, 1, q)]
  if notes.any same then notes.map (fun x => if same x then { x with flags := x.flags ||| flag } else x)
  else notes ++ [{ code := 0x0B02, data := 0, ctrl := 0x9580 + q, pre := [(16, 1, q)], byte := 17, flags := flag, warn := 3, time := now }]

theorem State.note_eq (s : State) (q flag : Nat) : s.note 0x0B02 0 (0x9580 + q) [(16, 1, q)] 17 flag 3 =
    { s with host := { s.host with notes := noteOutput q flag s.nowNs s.host.notes } } := by
  unfold State.note noteOutput
  dsimp only
  split <;> rfl

/-- A flag of output `q`, at one of two halves of OUT_STATUS. -/
theorem outFlag_eq (q flag : Nat) (f : Fld) (s : State) : outFlag q flag f s = { s.flag ⟨f.a, f.lo + q, f.lo + q⟩ with
    host := { s.host with notes := if s.bitAt f.a (f.lo + q) then s.host.notes else noteOutput q flag s.nowNs s.host.notes } } := by
  unfold outFlag
  dsimp only
  rw [State.getB_bit]
  split
  · rfl
  · rw [State.note_eq]
    rfl

section
variable {q : Fin 16} {s t : State} {lo : Nat} {f : Fld}

/-- A flag of OUT_STATUS sets: its bit and the notes, and nothing else. -/
theorem outFlag_spec {l : List Nat} (hacts : OutputActs l s t) (hkept : OthersKept q s t) (hmem : A.dioOutStatus ∈ l)
    (hstatus : t.reg A.dioOutStatus = s.reg A.dioOutStatus) (hhost : t.host = s.host) (hnow : t.nowNs = s.nowNs) (ha : f.a = A.dioOutStatus)
    (hlo : f.lo = 0 ∨ f.lo = 16) (flag : Nat) :
    let u := outFlag q.val flag f t
    OutputActs l s u ∧ OthersKept q s u ∧ u.bitAt A.dioOutStatus (f.lo + q.val) = true ∧
      (∀ i, i < 32 → i ≠ f.lo + q.val → u.bitAt A.dioOutStatus i = s.bitAt A.dioOutStatus i) ∧
      (∀ a, a ≠ A.dioOutStatus → u.reg a = t.reg a) ∧
      u.host.notes = if s.bitAt A.dioOutStatus (f.lo + q.val) then s.host.notes else noteOutput q.val flag s.nowNs s.host.notes := by
  intro u
  have hu : u = _ := outFlag_eq q.val flag f t
  have hq := q.isLt
  obtain ⟨hfld, hevents, hbits⟩ := hkept
  have hreg : ∀ a, u.reg a = (t.set ⟨A.dioOutStatus, f.lo + q.val, f.lo + q.val⟩ 1).reg a := fun a => by rw [hu, ha]; rfl
  have hset : ∀ i, i < 32 → u.bitAt A.dioOutStatus i = if i = f.lo + q.val then true else s.bitAt A.dioOutStatus i := fun i hi => by
    rw [State.bitAt_of_reg (hreg _)]
    refine (State.bitAt_set t ⟨A.dioOutStatus, f.lo + q.val, f.lo + q.val⟩ 1 i hi).trans ?_
    by_cases hsame : i = f.lo + q.val
    · simp [hsame]
    · rw [if_neg (by dsimp only; omega), if_neg hsame]
      exact State.bitAt_of_reg hstatus i
  have hother : ∀ a, a ≠ A.dioOutStatus → u.reg a = t.reg a := fun a hne =>
    (hreg a).trans (State.reg_set_other _ ⟨A.dioOutStatus, f.lo + q.val, f.lo + q.val⟩ _ hne)
  refine ⟨⟨fun a hnot => ?_, ?_, ?_⟩, ⟨?_, ?_, fun i hi a hmem => ?_⟩, ?_, ?_, hother, ?_⟩
  · exact (hother a (fun h => hnot (h ▸ hmem))).trans (hacts.regs a hnot)
  · rw [hu]
    exact hacts.bare
  · rw [hu]
    exact hacts.pwr
  · rw [hu]
    exact hfld
  · rw [hu]
    exact hevents
  · by_cases hstat : a = A.dioOutStatus
    · rw [hstat, hset i.val i.isLt, if_neg (by omega)]
    · exact (State.bitAt_of_reg (hother a hstat) _).trans (hbits i hi a hmem)
  · rw [hset _ (by omega), if_pos rfl]
  · intro i hi hne
    rw [hset i hi, if_neg hne]
  · rw [hu, ha, State.bitAt_of_reg hstatus, hhost, hnow]

end

/-! ## O53 -/

/-- Settles O53: an input by the samples that are left to its bound, an output by its two bits. -/
theorem fieldChannels : Obligations.FieldChannels := by
  intro j r n cyc more m v q s w filt c level counts only inputs edge alone
  have hcounts (h : counts) : w.inputCounts j.val = true := by
    obtain ⟨hvalid, hcoupler⟩ := h
    show (s.getB F.dioFldStatus_IN_VALID && !s.bitAt A.dioCplFaultIn j.val) = true
    rw [hvalid, hcoupler]
    rfl
  have honly {t : State} (h : InputOnly j w t) : only w t [A.dioInRaw, A.dioInLevel, A.dioInRise, A.dioInFall, A.hriEvtLost] :=
    ⟨h.acts.regs, OutputActs.frame ⟨h.acts.regs, h.acts.bare, h.acts.pwr⟩⟩
  have hinputs {t : State} {c' : Nat} {l' : Bool} (h : InputOnly j w t) (hc : Table.look 0 t.fld.ctr j.val = c')
      (hl : t.bitAt A.dioInLevel j.val = l') : inputs t c' l' := ⟨honly h, h.acts.notes, hc, hl, h.others, h.fld⟩
  have halone {t : State} (h : NoEdge w t) : alone t := ⟨h.rise, h.fall, h.fld, h.host⟩
  have hedge {t : State} {up : Bool} {ago : Nat} (h : EdgeOf j.val w t up ago) : edge t up ago := by
    cases up <;> exact ⟨h.bit, h.word, h.other, h.event⟩
  refine ⟨?runs, ?sample, rfl, fun h => ?held, ?filt, ?flags⟩
  case runs =>
    intro hc hfilt hn hle
    have hkept (r : Bool) : InputOnly j w (inputSamples j.val (List.replicate n r) w) := inputOnly_inputSamples j _ w
    have hup := inputSamples_run true n (hcounts hc) hfilt hle
    have hdown := inputSamples_run false n (hcounts hc) hfilt hle
    simp only [State.inputLeft, (hkept true).filt, if_true] at hup
    simp only [State.inputLeft, Bool.false_eq_true, if_false] at hdown
    obtain ⟨(hmost : Table.look 0 (inputSamples j.val (List.replicate n true) w).fld.ctr j.val ≤ filt),
      (hleft : filt - Table.look 0 (inputSamples j.val (List.replicate n true) w).fld.ctr j.val = filt - c - n), hstays, hturns⟩ := hup
    have hmid : c + n < filt → Table.look 0 (inputSamples j.val (List.replicate n true) w).fld.ctr j.val = c + n := fun h => by omega
    have hfull : filt ≤ c + n → Table.look 0 (inputSamples j.val (List.replicate n true) w).fld.ctr j.val = filt := fun h => by omega
    obtain ⟨-, hleft', hstays', hturns'⟩ := hdown
    refine ⟨fun hlow _ => ?_, fun htop => ?_, fun hlow _ => ?_, fun hbottom => ?_⟩
    · obtain ⟨hsame, hno⟩ := hstays (.inr (show n < filt - c by omega))
      exact ⟨_, rfl, hinputs (hkept true) (hmid hlow) hsame, halone hno⟩
    · refine ⟨_, rfl, ?_⟩
      cases hlevel : level with
      | true =>
        obtain ⟨hsame, hno⟩ := hstays (.inl hlevel)
        exact ⟨hinputs (hkept true) (hfull htop) (hsame.trans hlevel), fun h => absurd h (by decide), fun _ _ => halone hno⟩
      | false =>
        obtain ⟨hturned, hone⟩ := hturns (ne_true_of_eq_false hlevel) (show filt - c ≤ n by omega) hn
        have hago : (if c = filt then 1 else filt - c) = max 1 (filt - c) := by split <;> omega
        rw [hago]
        exact ⟨hinputs (hkept true) (hfull htop) hturned, fun _ => hedge hone, fun h => absurd h (by decide)⟩
    · obtain ⟨hsame, hno⟩ := hstays' (.inr hlow)
      exact ⟨_, rfl, hinputs (hkept false) hleft' hsame, halone hno⟩
    · refine ⟨_, rfl, ?_⟩
      have hzero : c - n = 0 := by omega
      cases hlevel : level with
      | false =>
        obtain ⟨hsame, hno⟩ := hstays' (.inl hlevel)
        exact ⟨hinputs (hkept false) (hleft'.trans hzero) (hsame.trans hlevel), fun h => absurd h (by decide), fun _ _ => halone hno⟩
      | true =>
        obtain ⟨hturned, hone⟩ := hturns' (ne_false_of_eq_true hlevel) hbottom hn
        have hago : (if c = 0 then 1 else c) = max 1 c := by split <;> omega
        rw [hago]
        exact ⟨hinputs (hkept false) (hleft'.trans hzero) hturned, fun _ => hedge hone, fun h => absurd h (by decide)⟩
  case sample =>
    intro hc c' l'
    have hstep : w.sampleStep j.val r = (c', l') := by
      have hcount : (if 0 < c then c - 1 else c) = c - 1 := by split <;> omega
      show filtStep filt r c level = (c', l')
      simp only [filtStep, hcount, c', l']
    obtain ⟨hctr, hlevel, hraw, hquiet, hturn⟩ := inputSample_spec j r 0 w
    rw [hstep] at hctr hlevel hquiet hturn
    refine ⟨_, congrArg Host.Outcome.next (inputSamples_cons (hcounts hc) r []), hinputs (inputOnly_inputSample j r 0 w) hctr hlevel, hraw,
      fun h => halone (hquiet h), fun h => hedge (hturn h)⟩
  case held =>
    refine congrArg Host.Outcome.next (inputSamples_held (s := w) ?_ more)
    show (s.getB F.dioFldStatus_IN_VALID && !s.bitAt A.dioCplFaultIn j.val) = false
    by_contra hcount
    exact h (by simpa using hcount)
  case filt =>
    intro byte
    have hbyte (i : Nat) : byte i = filtByte v i := by
      simp only [byte, filtByte]
      split <;> omega
    have hm := m.isLt
    refine ⟨fun hready => ?_, fun hready => ⟨_, congrArg Host.Outcome.next (barWrite_dioInFilt m v hready), fun a ha => ?_,
      inFiltWrite_frame m.val v s, fun i => ⟨?_, ?_⟩, fun i hi => inFiltWrite_ctr_other hi v s⟩⟩
    · exact congrArg Host.Outcome.next (barWrite_of_not_ready v (by simp only [A.dioInFilt]; omega) (ne_true_of_eq_false hready))
    · exact (inFiltWrite_reg m.val v s a).trans (State.reg_setReg_other s _ (List.ne_of_not_mem_cons ha))
    · rw [hbyte]
      exact filt_filtWord m v i ((inFiltWrite_reg m.val v s _).trans (State.reg_setReg_same ..))
    · rw [hbyte]
      exact inFiltWrite_ctr m.val v i s
  case flags =>
    intro ilim cooling others limit flagged
    have hq := q.isLt
    have hself : OthersKept q s s := ⟨rfl, rfl, fun _ _ _ _ => rfl⟩
    have hother (u : State) {a a' : Nat} (h : a' ≠ a) (i : Nat) (b : Bool) (k : Nat) := State.bitAt_setBit_reg u h i b k
    have hsame (u : State) (a : Nat) {i : Nat} (h : i < 32) (b : Bool) : (u.setBit a i b).bitAt a i = b :=
      (State.bitAt_setBit u a b i h).trans (if_pos rfl)
    have hnear (u : State) (a : Nat) {i k : Nat} (h : i < 32) (hk : k ≠ i) (b : Bool) : (u.setBit a i b).bitAt a k = u.bitAt a k :=
      (State.bitAt_setBit u a b k h).trans (if_neg hk)
    refine ⟨fun h => ?_, fun hon hcool => ?_, fun h => ?_, fun h => ?_, ?_, fun h => ?_, fun h => ?_⟩
    · have hnone : overload q.val s = s := if_pos (h.imp_left (by simp))
      exact congrArg Host.Outcome.next hnone
    · have hover : overload q.val s = outFlag q.val 1 F.dioOutStatus_OVERLOAD (s.setBit A.dioOutLimit q.val true) :=
        if_neg (by simp [hon, cooling, hcool])
      obtain ⟨hacts, hkept, hflag, hflags, hregs, hnotes⟩ := outFlag_spec (f := F.dioOutStatus_OVERLOAD)
        ((OutputActs.refl [A.dioOutLimit, A.dioOutStatus] s).setBit (by decide) q.val true) (hself.setBit A.dioOutLimit (.inl rfl) true)
        (by decide) (State.reg_setReg_other _ _ (by decide)) rfl rfl rfl (.inr rfl) 1
      have hlimit (i : Nat) := State.bitAt_of_reg (hregs A.dioOutLimit (by decide)) i
      exact ⟨_, congrArg Host.Outcome.next hover, ⟨hacts.regs, hacts.frame⟩, hkept,
        ⟨(hlimit _).trans (hsame s _ (by omega) _), (hlimit _).trans (hnear s _ (by omega) (by omega) _)⟩,
        hflags _ (by omega) (show q.val ≠ 16 + q.val by omega), hflag, hnotes⟩
    · have hnone : thermalOff q.val s = s := if_pos (by simpa [ilim] using h)
      exact congrArg Host.Outcome.next hnone
    · have hoff : thermalOff q.val s = _ := if_neg (by simpa [ilim] using h)
      have hacts := (((OutputActs.refl [A.dioOutLimit, A.dioOutRead] s).setBit (a := A.dioOutLimit) (by decide) q.val false).setBit
        (a := A.dioOutLimit) (by decide) (16 + q.val) true).setBit (a := A.dioOutRead) (by decide) q.val false
      refine ⟨_, congrArg Host.Outcome.next hoff, ⟨hacts.regs, hacts.frame⟩,
        ((hself.setBit _ (.inl rfl) _).setBit _ (.inr rfl) _).setBit _ (.inl rfl) _, rfl, ⟨?_, ?_⟩, hsame _ _ (by omega) _, ?_⟩
      · exact (hother _ (by decide) _ _ _).trans ((hnear _ _ (by omega) (by omega) _).trans (hsame _ _ (by omega) _))
      · exact (hother _ (by decide) _ _ _).trans (hsame _ _ (by omega) _)
      · exact (hnear _ _ (by omega) (by omega) _).trans ((hother _ (by decide) _ _ _).trans (hother _ (by decide) _ _ _))
    · have hacts := (OutputActs.refl [A.dioOutLimit] s).setBit (a := A.dioOutLimit) (by decide) (16 + q.val) false
      exact ⟨_, rfl, ⟨hacts.regs, hacts.frame⟩, hself.setBit _ (.inr rfl) _, rfl, hnear _ _ (by omega) (by omega) _, hsame _ _ (by omega) _⟩
    · have hnone : extHigh q.val s = s := if_pos h
      exact congrArg Host.Outcome.next hnone
    · have hhigh : extHigh q.val s = outFlag q.val 2 F.dioOutStatus_EXT_HIGH (s.setBit A.dioOutRead q.val true) := if_neg (by simp [h])
      obtain ⟨hacts, hkept, hflag, hflags, hregs, hnotes⟩ := outFlag_spec (f := F.dioOutStatus_EXT_HIGH)
        ((OutputActs.refl [A.dioOutRead, A.dioOutStatus] s).setBit (by decide) q.val true) (hself.setBit A.dioOutRead (.inl rfl) true)
        (by decide) (State.reg_setReg_other _ _ (by decide)) rfl rfl rfl (.inl rfl) 2
      have hzero : F.dioOutStatus_EXT_HIGH.lo + q.val = q.val := Nat.zero_add _
      rw [hzero] at hflag hflags hnotes
      exact ⟨_, congrArg Host.Outcome.next hhigh, ⟨hacts.regs, hacts.frame⟩, hkept,
        (State.bitAt_of_reg (hregs A.dioOutRead (by decide)) _).trans (hsame s _ (by omega) _),
        hflags _ (by omega) (show 16 + q.val ≠ q.val by omega), hflag, hnotes⟩

end Sys2Proof.Machine
end

section
/-!
PROOF. The supplies and the charger (spec/15_power_and_thermal.md, R515 to R522 and R532).
-/
namespace Sys2Proof.Machine

/-! ## What an act of the supplies leaves alone -/

/-- The registers that acts of the supplies and of the charger write. -/
def supplyRegs : List Nat := [A.pwtSupStatus, A.glbStatus, A.pwtVolts, A.pwtPower, A.pwtBankStatus]

/-- The fields of them that they write. -/
def supplyFields : List Fld := [F.pwtSupStatus_VMAIN_LOST, F.pwtSupStatus_RET_QUAL, F.pwtSupStatus_VBACK_ABSENT, F.pwtSupStatus_ON_VBACK,
  F.pwtSupStatus_LOSS_SEEN, F.glbStatus_ON_VBACK, F.pwtVolts_VMAIN, F.pwtVolts_VBACK, F.pwtBankStatus_CHG_STATE, F.pwtBankStatus_CHG_FAULT,
  F.pwtPower_I_CHG_ACT]

/-- The fields beside them. -/
def supplyKept : List Fld := [F.pwtSupStatus_VBACK_LOW, F.pwtPower_P_IN, F.pwtBankStatus_RESERVE_LOW, F.pwtBankStatus_TEMP_HELD]

/-- From `v` to `t` nothing has changed but fields of the supplies and of the charger, the flags of the cycle, the events, and what the supplies
hold. -/
structure PowerActs (v t : State) : Prop where
  regs : RegsBut (A.hriEvtLost :: supplyRegs) v t
  kept : ∀ f ∈ supplyKept, t.get f = v.get f
  glb : ∀ i : Fin 32, i.val ≠ F.glbStatus_ON_VBACK.lo → t.bitAt A.glbStatus i.val = v.bitAt A.glbStatus i.val
  bare : t.bare = v.bare
  fld : t.fld = v.fld
  notes : t.host.notes = v.host.notes

theorem supplyFields_reg : ∀ f ∈ supplyFields, f.a ∈ A.hriEvtLost :: supplyRegs := by decide

theorem supplyFields_kept : ∀ f ∈ supplyFields, ∀ g ∈ supplyKept, g.a ≠ f.a ∨ g.hi < f.lo ∨ f.hi < g.lo := by decide

theorem supplyFields_glb : ∀ f ∈ supplyFields, f.a = A.glbStatus → f.lo = F.glbStatus_ON_VBACK.lo ∧ f.hi = F.glbStatus_ON_VBACK.lo := by decide

namespace PowerActs
variable {v t : State}

theorem refl (v : State) : PowerActs v v := ⟨.refl _ v, fun _ _ => rfl, fun _ _ => rfl, rfl, rfl, rfl⟩

theorem set (h : PowerActs v t) {f : Fld} (hf : f ∈ supplyFields) (x : Nat) : PowerActs v (t.set f x) := by
  refine ⟨h.regs.set (supplyFields_reg f hf) x, fun g hg => Eq.trans ?_ (h.kept g hg), fun i hi => Eq.trans ?_ (h.glb i hi), h.bare, h.fld, h.notes⟩
  · rcases supplyFields_kept f hf g hg with hreg | hbits
    · exact State.get_set_reg t x hreg
    · exact State.get_set_bits t x hbits
  · by_cases hglb : f.a = A.glbStatus
    · obtain ⟨hlo, hhi⟩ := supplyFields_glb f hf hglb
      rw [← hglb, State.bitAt_set _ _ _ _ i.isLt, if_neg (by omega)]
    · exact State.bitAt_set_reg t x (Ne.symm hglb) _

theorem setB (h : PowerActs v t) {f : Fld} (hf : f ∈ supplyFields) (b : Bool) : PowerActs v (t.setB f b) := h.set hf _

theorem flag (h : PowerActs v t) {f : Fld} (hf : f ∈ supplyFields) : PowerActs v (t.flag f) :=
  have k := h.set hf 1
  ⟨k.regs, k.kept, k.glb, k.bare, k.fld, k.notes⟩

theorem updPwr (h : PowerActs v t) (f : PwrSt → PwrSt) : PowerActs v (t.updPwr f) := ⟨h.regs, h.kept, h.glb, h.bare, h.fld, h.notes⟩

theorem raise (h : PowerActs v t) (code sev data ctrl : Nat) (p : List (Nat × Nat × Nat)) : PowerActs v (t.raise code sev data ctrl p) :=
  ⟨h.regs.raise List.mem_cons_self _ _ _ _ _,
    fun f hf => (State.get_raise _ _ _ _ _ _ (by revert f; decide)).trans (h.kept f hf),
    fun i hi => (State.bitAt_of_reg (State.raise_reg _ _ _ _ _ _ (by decide)) _).trans (h.glb i hi),
    (t.bare_raise ..).trans h.bare, (t.raise_fld ..).trans h.fld, (t.raise_notes ..).trans h.notes⟩

theorem supplyEvent (h : PowerActs v t) (kind : Nat) : PowerActs v (t.supplyEvent kind) := h.raise ..

theorem setVolts (h : PowerActs v t) (vmain vback : Nat) : PowerActs v (setVolts vmain vback t) := (h.set (by decide) _).set (by decide) _

theorem setOnVback (h : PowerActs v t) (b : Bool) : PowerActs v (setOnVback b t) := (h.setB (by decide) b).setB (by decide) b

theorem setCharger (h : PowerActs v t) (n : Nat) : PowerActs v (setCharger n t) := by
  unfold Machine.setCharger
  dsimp only
  split
  · exact h
  · exact ((((h.set (by decide) _).setB (by decide) _).set (by decide) _).updPwr _).raise ..

theorem frame (h : PowerActs v t) : t = { v with
    clk := { v.clk with fresh := t.clk.fresh }
    regs := t.regs
    host := { v.host with evBuf := t.host.evBuf, evDropped := t.host.evDropped }
    pwr := t.pwr } := by
  refine (State.eq_of_bare h.bare).trans ?_
  rw [h.fld, h.notes]

theorem nowNs (h : PowerActs v t) : t.nowNs = v.nowNs := by
  unfold State.nowNs State.nowFx
  rw [h.frame]

end PowerActs

/-! ## The charger (R519 to R522) -/

/-- The event of the charger. -/
def chargeEv (n old vback time : Nat) : Event :=
  { code := BitVec.ofNat 16 0x0C02, sev := if n = 5 ∨ n = 3 then sevWarn else sevInfo, data := 0, ctrl := BitVec.ofNat 16 0x9403
    time := BitVec.ofNat 64 time, payload := BitVec.ofNat 128 (n + old * 2 ^ 8 + vback * 2 ^ 32) }

/-- What a charger in state `n` shows and holds, where from state `s` on it has seen no other current than `act`; `now` the up-time. -/
structure Charging (s : State) (now : Nat) (t : State) (n act : Nat) : Prop where
  state : t.chState = n
  fault : t.getB F.pwtBankStatus_CHG_FAULT = if n = s.chState then s.getB F.pwtBankStatus_CHG_FAULT else n == 5
  current : t.get F.pwtPower_I_CHG_ACT = if n = s.chState then act else if n = 1 then s.get F.pwtBankCfg_I_CHG else if n = 2 then act else 0
  pwr : { t.pwr with arr := [], qual := 0 } = { s.pwr with
    arr := []
    qual := 0
    ccFrom := if n = s.chState then s.pwr.ccFrom else now
    ccNs := if n = s.chState then s.pwr.ccNs else if n = 1 then (if s.chState = 0 ∨ s.chState = 5 then 0 else s.pwr.ccNs)
      else s.pwr.ccNs + if s.chState = 1 then now - s.pwr.ccFrom else 0 }

/-- The charger's own part of a state. -/
theorem Charging.congr {s t u : State} {now n act : Nat} (h : Charging s now t n act)
    (hstate : u.get F.pwtBankStatus_CHG_STATE = t.get F.pwtBankStatus_CHG_STATE)
    (hfault : u.get F.pwtBankStatus_CHG_FAULT = t.get F.pwtBankStatus_CHG_FAULT)
    (hcurrent : u.get F.pwtPower_I_CHG_ACT = t.get F.pwtPower_I_CHG_ACT)
    (hpwr : { u.pwr with arr := [], qual := 0 } = { t.pwr with arr := [], qual := 0 }) : Charging s now u n act :=
  ⟨hstate.trans h.state, (congrArg (· != 0) hfault).trans h.fault, hcurrent.trans h.current, hpwr.trans h.pwr⟩

/-- The state before a change. -/
theorem Charging.start {s u : State} (now : Nat) {act : Nat} (hstate : u.get F.pwtBankStatus_CHG_STATE = s.get F.pwtBankStatus_CHG_STATE)
    (hfault : u.get F.pwtBankStatus_CHG_FAULT = s.get F.pwtBankStatus_CHG_FAULT) (hcurrent : u.get F.pwtPower_I_CHG_ACT = act)
    (hpwr : { u.pwr with arr := [], qual := 0 } = { s.pwr with arr := [], qual := 0 }) : Charging s now u s.chState act := by
  refine ⟨hstate, ?_, ?_, ?_⟩
  · rw [if_pos rfl]
    exact congrArg (· != 0) hfault
  · rw [if_pos rfl]
    exact hcurrent
  · rw [if_pos rfl, if_pos rfl]
    exact hpwr

theorem setCharger_same (s : State) : setCharger s.chState s = s := if_pos rfl

/-- A change of the charger's state, before its event. -/
def chargerTurned (n : Nat) (s : State) : State :=
  (((s.set F.pwtBankStatus_CHG_STATE n).setB F.pwtBankStatus_CHG_FAULT (n == chFault)).set F.pwtPower_I_CHG_ACT
    (if n = chCC then s.get F.pwtBankCfg_I_CHG else if n = chCV then s.get F.pwtPower_I_CHG_ACT else 0)).updPwr (fun x =>
      { x with ccFrom := s.upNow, ccNs := if n = chCC then (if s.chState = chOff ∨ s.chState = chFault then 0 else x.ccNs) else s.ccTotal })

theorem setCharger_turn {n : Nat} {s : State} (h : n ≠ s.chState) : setCharger n s =
    (chargerTurned n s).raise 0x0C02 (if n = chFault ∨ n = chTemp then sevWarn else sevInfo) 0 0x9403
      [(16, 1, n), (17, 1, s.chState), (20, 2, s.get F.pwtVolts_VBACK)] := if_neg h

theorem pl_charge {n old vback : Nat} (hn : n < 256) (hold : old < 256) (hvback : vback < 65536) :
    pl [(16, 1, n), (17, 1, old), (20, 2, vback)] = BitVec.ofNat 128 (n + old * 2 ^ 8 + vback * 2 ^ 32) := by
  have hlast : pl [(20, 2, vback)] = BitVec.ofNat 128 (2 ^ (8 * (17 - 16 + 1)) * (vback * 2 ^ 16)) :=
    (pl_one (by omega)).trans (congrArg _ (by omega))
  have hmid : pl [(17, 1, old), (20, 2, vback)] = BitVec.ofNat 128 (2 ^ (8 * (16 - 16 + 1)) * (old + vback * 2 ^ 24)) :=
    (pl_cons hlast (by omega)).trans (congrArg _ (by omega))
  exact (pl_cons hmid (by omega)).trans (congrArg _ (by omega))

theorem chState_lt (s : State) : s.chState < 8 := nbits_lt ..

section
variable {s u : State} {now act n : Nat}

/-- The charger goes to a state. -/
theorem Charging.setCharger (h : Charging s now u s.chState act) (hn : n < 8) (hnow : u.upNow = now)
    (hconfig : u.get F.pwtBankCfg_I_CHG = s.get F.pwtBankCfg_I_CHG) : Charging s now (setCharger n u) n act := by
  by_cases hturn : n = u.chState
  · have hst := hturn.trans h.state
    subst hst
    rw [hturn, setCharger_same, ← hturn]
    exact h
  · have hst : n ≠ s.chState := fun hst => hturn (hst.trans h.state.symm)
    have hcurrent := h.current
    rw [if_pos rfl] at hcurrent
    have hact : act < 65536 := hcurrent ▸ nbits_lt ..
    have hicfg : s.get F.pwtBankCfg_I_CHG < 65536 := nbits_lt ..
    have hstate := h.state
    have hpwr := h.pwr
    rw [if_pos rfl, if_pos rfl] at hpwr
    have hfrom := congrArg PwrSt.ccFrom hpwr
    have hns := congrArg PwrSt.ccNs hpwr
    dsimp only at hfrom hns
    rw [setCharger_turn hturn]
    refine ⟨?_, ?_, ?_, ?_⟩
    · rw [State.chState, State.get_raise _ _ _ _ _ _ (by decide)]
      simp (disch := decide) only [chargerTurned, State.updPwr_get, State.get_setB, State.get_set_bits, State.get_set_reg, State.get_set_same]
      exact Nat.mod_eq_of_lt hn
    · rw [State.getB, State.get_raise _ _ _ _ _ _ (by decide), if_neg hst]
      simp (disch := decide) only [chargerTurned, State.updPwr_get, State.get_setB, State.get_set_reg, State.get_set_same]
      cases n == chFault <;> rfl
    · rw [State.get_raise _ _ _ _ _ _ (by decide), if_neg hst, ← hcurrent, ← hconfig]
      refine (State.get_set_same _ F.pwtPower_I_CHG_ACT _ (by decide)).trans (Nat.mod_eq_of_lt ?_)
      show (if n = chCC then _ else _) < 65536
      split
      · exact nbits_lt ..
      · split
        · exact nbits_lt ..
        · decide
    · have hpart : ((chargerTurned n u).raise 0x0C02 (if n = chFault ∨ n = chTemp then sevWarn else sevInfo) 0 0x9403
          [(16, 1, n), (17, 1, u.chState), (20, 2, u.get F.pwtVolts_VBACK)]).pwr = { u.pwr with
            ccFrom := u.upNow, ccNs := if n = chCC then (if u.chState = chOff ∨ u.chState = chFault then 0 else u.pwr.ccNs) else u.ccTotal } :=
        State.raise_pwr ..
      rw [hpart, if_neg hst, if_neg hst, State.ccTotal, hnow, hstate, hns, hfrom]
      exact congrArg (fun x : PwrSt => { x with
        ccFrom := now
        ccNs := if n = 1 then (if s.chState = 0 ∨ s.chState = 5 then 0 else s.pwr.ccNs)
          else s.pwr.ccNs + if s.chState = 1 then now - s.pwr.ccFrom else 0 }) hpwr

end

/-- The event of a change of the charger's state. -/
theorem setCharger_evBuf {n : Nat} {s : State} (hn : n < 8) (hroom : s.host.evBuf.length < 256) : (setCharger n s).host.evBuf =
    s.host.evBuf ++ if n = s.chState then [] else [chargeEv n s.chState (s.get F.pwtVolts_VBACK) s.nowNs] := by
  have hold := chState_lt s
  have hvback : s.get F.pwtVolts_VBACK < 65536 := nbits_lt ..
  by_cases hturn : n = s.chState
  · rw [if_pos hturn, hturn, setCharger_same, List.append_nil]
  · rw [if_neg hturn, setCharger_turn hturn, State.raise_evBuf (chargerTurned n s) _ _ _ _ _ hroom, pl_charge (by omega) (by omega) hvback]
    rfl

/-- The registers of the charger, and the count of lost events. -/
def chargerRegs : List Nat := [A.pwtBankStatus, A.pwtPower, A.hriEvtLost]

theorem regsBut_setCharger (n : Nat) (s : State) : RegsBut chargerRegs s (setCharger n s) := by
  by_cases hturn : n = s.chState
  · rw [hturn, setCharger_same]
    exact .refl _ s
  · rw [setCharger_turn hturn]
    have hturned : RegsBut chargerRegs s (chargerTurned n s) := (((RegsBut.refl chargerRegs s).set (f := F.pwtBankStatus_CHG_STATE) (by decide)
      n).setB (f := F.pwtBankStatus_CHG_FAULT) (by decide) _).set (f := F.pwtPower_I_CHG_ACT) (by decide) _
    exact hturned.raise (by decide) _ _ _ _ _

/-- The charger leaves every field outside its own registers. -/
theorem get_setCharger (n : Nat) (s : State) {f : Fld} (hf : f.a ∉ chargerRegs) : (setCharger n s).get f = s.get f :=
  (regsBut_setCharger n s).get hf

theorem setCharger_frame (n : Nat) (s : State) : setCharger n s = { s with
    regs := (setCharger n s).regs, host := { s.host with evBuf := (setCharger n s).host.evBuf, evDropped := (setCharger n s).host.evDropped }
    pwr := (setCharger n s).pwr } := by
  by_cases hturn : n = s.chState
  · have hsame : setCharger n s = s := if_pos hturn
    rw [hsame]
  · rw [setCharger_turn hturn]
    unfold State.raise State.raiseAt
    split <;> rfl

theorem setCharger_pwr (n : Nat) (s : State) : (setCharger n s).pwr.arr = s.pwr.arr ∧ (setCharger n s).pwr.qual = s.pwr.qual := by
  by_cases hturn : n = s.chState
  · rw [hturn, setCharger_same]
    exact ⟨rfl, rfl⟩
  · rw [setCharger_turn hturn, State.raise_pwr]
    exact ⟨rfl, rfl⟩

/-- The state that the conditions of R519 give (R519). -/
def chargerNext (s : State) (lost : Bool) (vback : Nat) : Nat :=
  if s.chState = 5 then 5 else if (s.getB F.pwtBankCfg_KIND && s.getB F.pwtBankCfg_CHG_EN) = false then 0 else if lost then 4
  else if (s.getB F.pwtBankStatus_TEMP_HELD || s.getB (F.pwtTsStatus_BROKEN s.bankSensor)) then 3
  else if s.chState = 2 then 2 else if s.chState = 1 then (if s.get F.pwtBankV_V_CHG ≤ vback then 2 else 1) else 1

theorem chargerNext_lt (s : State) (lost : Bool) (vback : Nat) : chargerNext s lost vback < 8 := by
  unfold chargerNext
  repeat' split
  all_goals decide

theorem chargerEval_eq (s : State) :
    chargerEval s = setCharger (chargerNext s (s.getB F.pwtSupStatus_VMAIN_LOST) (s.get F.pwtVolts_VBACK)) s := by
  have hwanted : (!s.getB F.pwtBankCfg_KIND) = true ∨ (!s.getB F.pwtBankCfg_CHG_EN) = true ↔
      (s.getB F.pwtBankCfg_KIND && s.getB F.pwtBankCfg_CHG_EN) = false := by
    rw [Bool.and_eq_false_iff, Bool.not_eq_true', Bool.not_eq_true']
  have hwarm := Bool.or_eq_true (s.getB F.pwtBankStatus_TEMP_HELD) (s.getB (F.pwtTsStatus_BROKEN s.bankSensor))
  refine congrArg (setCharger · s) (if_congr .rfl rfl (if_congr hwanted rfl (if_congr .rfl rfl (if_congr (Iff.of_eq hwarm.symm) rfl ?_))))
  by_cases hcv : s.chState = 2
  · simp [hcv]
  · by_cases hcc : s.chState = 1
    · simp [hcc]
    · simp [hcv, hcc]

/-- What the charger is evaluated by stays where only the supplies act. -/
theorem chargerNext_congr {s t : State} (h : PowerActs s t) (hstate : t.chState = s.chState) (lost : Bool) (vback : Nat) :
    chargerNext t lost vback = chargerNext s lost vback := by
  have hkind := h.regs.getB (f := F.pwtBankCfg_KIND) (by decide)
  have hen := h.regs.getB (f := F.pwtBankCfg_CHG_EN) (by decide)
  have hntc := h.regs.get (f := F.pwtBankCfg_BANK_NTC) (by decide)
  have hvchg := h.regs.get (f := F.pwtBankV_V_CHG) (by decide)
  have hheld : t.getB F.pwtBankStatus_TEMP_HELD = s.getB F.pwtBankStatus_TEMP_HELD := congrArg (· != 0) (h.kept _ (by decide))
  have hbroken (k : Nat) : t.getB (F.pwtTsStatus_BROKEN k) = s.getB (F.pwtTsStatus_BROKEN k) := h.regs.getB (by
    simp only [F.pwtTsStatus_BROKEN, A.pwtTsStatus, supplyRegs, A.hriEvtLost, A.pwtSupStatus, A.glbStatus, A.pwtVolts, A.pwtPower, A.pwtBankStatus,
      List.mem_cons, List.not_mem_nil, or_false]
    omega)
  unfold chargerNext State.bankSensor
  rw [hstate, hkind, hen, hheld, hntc, hvchg, hbroken]

theorem chargerEval_of_acts {s u : State} {lost : Bool} {vback : Nat} (h : PowerActs s u) (hstate : u.chState = s.chState)
    (hlost : u.getB F.pwtSupStatus_VMAIN_LOST = lost) (hvback : u.get F.pwtVolts_VBACK = vback) :
    chargerEval u = setCharger (chargerNext s lost vback) u := by
  rw [chargerEval_eq, hlost, hvback, chargerNext_congr h hstate]

/-! ## What the supplies show (R515 to R517) -/

/-- SUP_STATUS, ON_VBACK of GLB.STATUS and VOLTS; `turn` what becomes of ON_VBACK. -/
def ShowsPower (s t : State) (lost qual absent : Bool) (turn : Bool → Bool) (seen : Bool) (vmain vback : Nat) : Prop :=
  t.getB F.pwtSupStatus_VMAIN_LOST = lost ∧ t.getB F.pwtSupStatus_RET_QUAL = qual ∧ t.getB F.pwtSupStatus_VBACK_ABSENT = absent ∧
    t.getB F.pwtSupStatus_ON_VBACK = turn (s.getB F.pwtSupStatus_ON_VBACK) ∧ t.getB F.pwtSupStatus_LOSS_SEEN = seen ∧
    t.getB F.glbStatus_ON_VBACK = turn (s.getB F.glbStatus_ON_VBACK) ∧
    t.get F.pwtVolts_VMAIN = vmain ∧ t.get F.pwtVolts_VBACK = vback

/-- The event of the supplies. -/
def powerEv (kind vmain vback time : Nat) : Event :=
  { code := BitVec.ofNat 16 0x0C01, sev := if kind = 0 ∨ kind = 2 then sevWarn else sevInfo, data := 0
    ctrl := BitVec.ofNat 16 (if kind < 2 then 0x9400 else 0x9401), time := BitVec.ofNat 64 time
    payload := BitVec.ofNat 128 (kind + vmain * 2 ^ 32 + vback * 2 ^ 48) }

theorem pl_power {kind vmain vback : Nat} (hkind : kind < 256) (hvmain : vmain < 65536) (hvback : vback < 65536) :
    pl [(16, 1, kind), (20, 2, vmain), (22, 2, vback)] = BitVec.ofNat 128 (kind + vmain * 2 ^ 32 + vback * 2 ^ 48) := by
  have hlast : pl [(22, 2, vback)] = BitVec.ofNat 128 (2 ^ (8 * (20 - 16 + 2)) * vback) := (pl_one (by omega)).trans (congrArg _ (by omega))
  have hmid : pl [(20, 2, vmain), (22, 2, vback)] = BitVec.ofNat 128 (2 ^ (8 * (16 - 16 + 1)) * (vmain * 2 ^ 24 + vback * 2 ^ 40)) :=
    (pl_cons hlast (by omega)).trans (congrArg _ (by omega))
  exact (pl_cons hmid (by omega)).trans (congrArg _ (by omega))

theorem supplyEvent_evBuf {s : State} {kind : Nat} (hkind : kind < 256) (hroom : s.host.evBuf.length < 256) : (s.supplyEvent kind).host.evBuf =
    s.host.evBuf ++ [powerEv kind (s.get F.pwtVolts_VMAIN) (s.get F.pwtVolts_VBACK) s.nowNs] := by
  rw [State.supplyEvent, State.raise_evBuf _ _ _ _ _ _ hroom, pl_power hkind (nbits_lt ..) (nbits_lt ..)]
  rfl

theorem get_supplyEvent (s : State) (kind : Nat) {f : Fld} (hf : f.a ≠ A.hriEvtLost) : (s.supplyEvent kind).get f = s.get f :=
  State.get_raise _ _ _ _ _ _ hf

section
variable (vmain vback : BitVec 16) (s : State)

theorem showsPower_setVolts : ShowsPower s (setVolts vmain.toNat vback.toNat s) (s.getB F.pwtSupStatus_VMAIN_LOST)
    (s.getB F.pwtSupStatus_RET_QUAL) (s.getB F.pwtSupStatus_VBACK_ABSENT) id (s.getB F.pwtSupStatus_LOSS_SEEN) vmain.toNat vback.toNat := by
  have hvm : vmain.toNat % 2 ^ 16 = vmain.toNat := Nat.mod_eq_of_lt vmain.isLt
  have hvb : vback.toNat % 2 ^ 16 = vback.toNat := Nat.mod_eq_of_lt vback.isLt
  simp (disch := decide) only [ShowsPower, setVolts, State.getB, State.get_set_reg, State.get_set_bits, State.get_set_same, id, true_and]
  exact ⟨hvm, hvb⟩

theorem charging_setVolts : Charging s s.upNow (setVolts vmain.toNat vback.toNat s) s.chState (s.get F.pwtPower_I_CHG_ACT) := by
  refine .start _ ?_ ?_ ?_ rfl
  all_goals simp (disch := decide) only [setVolts, State.get_set_reg]

/-! ## Loss of VMAIN (R516, R521) -/

/-- VMAIN is lost: the levels and flags, before the charger sees it. -/
def vmainGone (vmain vback : Nat) (s : State) : State :=
  (((setVolts vmain vback s).set F.pwtSupStatus_VMAIN_LOST 1).flag F.pwtSupStatus_LOSS_SEEN).set F.pwtSupStatus_RET_QUAL 0

theorem powerActs_vmainGone : PowerActs s (vmainGone vmain.toNat vback.toNat s) :=
  ((((PowerActs.refl s).setVolts _ _).set (by decide) 1).flag (by decide)).set (by decide) 0

theorem showsPower_vmainGone : ShowsPower s (vmainGone vmain.toNat vback.toNat s) true false (s.getB F.pwtSupStatus_VBACK_ABSENT) id true
    vmain.toNat vback.toNat := by
  have hshows := showsPower_setVolts vmain vback s
  simp only [ShowsPower, State.getB, id] at hshows ⊢
  simp (disch := decide) [vmainGone, State.get_flag, State.get_set_reg, State.get_set_bits, State.get_set_same, hshows]

theorem charging_vmainGone : Charging s s.upNow (vmainGone vmain.toNat vback.toNat s) s.chState (s.get F.pwtPower_I_CHG_ACT) := by
  refine (charging_setVolts vmain vback s).congr ?_ ?_ ?_ rfl
  all_goals simp (disch := decide) only [vmainGone, State.get_flag, State.get_set_reg]

end

/-! ## What later steps of an act keep -/

namespace PowerActs

theorem trans {s t u : State} (h : PowerActs s t) (k : PowerActs t u) : PowerActs s u :=
  ⟨h.regs.trans k.regs, fun f hf => (k.kept f hf).trans (h.kept f hf), fun i hi => (k.glb i hi).trans (h.glb i hi), k.bare.trans h.bare,
    k.fld.trans h.fld, k.notes.trans h.notes⟩

end PowerActs

namespace ShowsPower
variable {s t u : State} {lost qual absent seen : Bool} {turn : Bool → Bool} {vmain vback : Nat}

theorem setCharger (h : ShowsPower s t lost qual absent turn seen vmain vback) (n : Nat) :
    ShowsPower s (setCharger n t) lost qual absent turn seen vmain vback := by
  simp only [ShowsPower, State.getB] at h ⊢
  simpa (disch := decide) only [get_setCharger] using h

theorem supplyEvent (h : ShowsPower s t lost qual absent turn seen vmain vback) (kind : Nat) :
    ShowsPower s (t.supplyEvent kind) lost qual absent turn seen vmain vback := by
  simp only [ShowsPower, State.getB] at h ⊢
  simpa (disch := decide) only [get_supplyEvent] using h

theorem setOnVback (h : ShowsPower s t lost qual absent turn seen vmain vback) (b : Bool) :
    ShowsPower s (setOnVback b t) lost qual absent (fun _ => b) seen vmain vback := by
  simp only [ShowsPower, State.getB] at h ⊢
  simp (disch := decide) only [Machine.setOnVback, State.get_setB, State.get_set_reg, State.get_set_bits, State.get_set_same, h, true_and]
  cases b <;> decide

theorem ofTurn {turn' : Bool → Bool} (h : ShowsPower s t lost qual absent turn seen vmain vback) (hturn : turn = turn') :
    ShowsPower s t lost qual absent turn' seen vmain vback := hturn ▸ h

end ShowsPower

/-- What the charger shows and holds in `u` as in `t`. -/
structure SameCharger (t u : State) : Prop where
  state : u.get F.pwtBankStatus_CHG_STATE = t.get F.pwtBankStatus_CHG_STATE
  fault : u.get F.pwtBankStatus_CHG_FAULT = t.get F.pwtBankStatus_CHG_FAULT
  current : u.get F.pwtPower_I_CHG_ACT = t.get F.pwtPower_I_CHG_ACT
  pwr : { u.pwr with arr := [], qual := 0 } = { t.pwr with arr := [], qual := 0 }

theorem Charging.same {s t u : State} {now n act : Nat} (h : Charging s now t n act) (k : SameCharger t u) : Charging s now u n act :=
  h.congr k.state k.fault k.current k.pwr

theorem SameCharger.trans {s t u : State} (h : SameCharger s t) (k : SameCharger t u) : SameCharger s u :=
  ⟨k.state.trans h.state, k.fault.trans h.fault, k.current.trans h.current, k.pwr.trans h.pwr⟩

theorem sameCharger_supplyEvent (s : State) (kind : Nat) : SameCharger s (s.supplyEvent kind) :=
  ⟨get_supplyEvent s kind (by decide), get_supplyEvent s kind (by decide), get_supplyEvent s kind (by decide),
    congrArg (fun x : PwrSt => { x with arr := [], qual := 0 }) (State.raise_pwr ..)⟩

/-- A write of another register leaves the charger. -/
theorem sameCharger_set (s : State) {f : Fld} (hf : F.pwtBankStatus_CHG_STATE.a ≠ f.a ∧ F.pwtPower_I_CHG_ACT.a ≠ f.a) (x : Nat) :
    SameCharger s (s.set f x) := ⟨State.get_set_reg _ _ hf.1, State.get_set_reg _ _ hf.1, State.get_set_reg _ _ hf.2, rfl⟩

theorem sameCharger_setOnVback (b : Bool) (s : State) : SameCharger s (setOnVback b s) :=
  (sameCharger_set s (by decide) _).trans (sameCharger_set _ (by decide) _)

/-! ## VBACK (R515) -/

section
variable (vback : BitVec 16) (s : State)

theorem vbackAbsent_same (h : decide (vback.toNat < 600) = s.getB F.pwtSupStatus_VBACK_ABSENT) :
    vbackAbsent vback.toNat s = s.set F.pwtVolts_VBACK vback.toNat := if_pos h

/-- VBACK has crossed 6.0 V, before what it takes over. -/
def vbackTurned (vback : Nat) (s : State) : State := (s.set F.pwtVolts_VBACK vback).setB F.pwtSupStatus_VBACK_ABSENT (decide (vback < 600))

theorem showsPower_setVback : ShowsPower s (s.set F.pwtVolts_VBACK vback.toNat) (s.getB F.pwtSupStatus_VMAIN_LOST) (s.getB F.pwtSupStatus_RET_QUAL)
    (s.getB F.pwtSupStatus_VBACK_ABSENT) id (s.getB F.pwtSupStatus_LOSS_SEEN) (s.get F.pwtVolts_VMAIN) vback.toNat := by
  simp (disch := decide) only [ShowsPower, State.getB, State.get_set_reg, State.get_set_bits, State.get_set_same, id, true_and]
  exact Nat.mod_eq_of_lt vback.isLt

theorem showsPower_vbackTurned : ShowsPower s (vbackTurned vback.toNat s) (s.getB F.pwtSupStatus_VMAIN_LOST) (s.getB F.pwtSupStatus_RET_QUAL)
    (decide (vback.toNat < 600)) id (s.getB F.pwtSupStatus_LOSS_SEEN) (s.get F.pwtVolts_VMAIN) vback.toNat := by
  have h := showsPower_setVback vback s
  simp only [ShowsPower, State.getB] at h ⊢
  simp (disch := decide) only [vbackTurned, State.get_setB, State.get_set_reg, State.get_set_bits, State.get_set_same, h, id, true_and, and_true]
  cases decide (vback.toNat < 600) <;> rfl

/-- What VBACK's crossing makes, before its event. -/
def vbackTaken (vback : Nat) (s : State) : State :=
  if (!decide (vback < 600)) = true ∧ s.getB F.pwtSupStatus_VMAIN_LOST = true then setOnVback true (vbackTurned vback s) else vbackTurned vback s

theorem vbackAbsent_turn (h : decide (vback.toNat < 600) ≠ s.getB F.pwtSupStatus_VBACK_ABSENT) : vbackAbsent vback.toNat s =
    (vbackTaken vback.toNat s).supplyEvent (if decide (vback.toNat < 600) then 2 else 3) := if_neg h

theorem vbackTaken_spec (h : s.getB F.pwtSupStatus_VBACK_ABSENT = !decide (vback.toNat < 600)) : let t := vbackTaken vback.toNat s
    PowerActs s t ∧ SameCharger s t ∧ t.pwr = s.pwr ∧ t.host = s.host ∧
    ShowsPower s t (s.getB F.pwtSupStatus_VMAIN_LOST) (s.getB F.pwtSupStatus_RET_QUAL) (decide (vback.toNat < 600))
      (fun b => b || (s.getB F.pwtSupStatus_VMAIN_LOST && s.getB F.pwtSupStatus_VBACK_ABSENT && !decide (vback.toNat < 600)))
      (s.getB F.pwtSupStatus_LOSS_SEEN) (s.get F.pwtVolts_VMAIN) vback.toNat := by
  intro t
  have hacts : PowerActs s (vbackTurned vback.toNat s) := ((PowerActs.refl s).set (by decide) _).setB (by decide) _
  have hkept : SameCharger s (vbackTurned vback.toNat s) := (sameCharger_set s (by decide) _).trans (sameCharger_set _ (by decide) _)
  have hshows := showsPower_vbackTurned vback s
  rw [h]
  by_cases htakes : (!decide (vback.toNat < 600)) = true ∧ s.getB F.pwtSupStatus_VMAIN_LOST = true
  · have ht : t = _ := if_pos htakes
    obtain ⟨hthere, hlost⟩ := htakes
    rw [ht]
    refine ⟨hacts.setOnVback true, hkept.trans (sameCharger_setOnVback true _), rfl, rfl, (hshows.setOnVback true).ofTurn (funext fun b => ?_)⟩
    rw [hlost, hthere, Bool.and_self, Bool.and_self, Bool.or_true]
  · have ht : t = _ := if_neg htakes
    rw [ht]
    refine ⟨hacts, hkept, rfl, rfl, hshows.ofTurn (funext fun b => ?_)⟩
    have hno : (s.getB F.pwtSupStatus_VMAIN_LOST && (!decide (vback.toNat < 600)) && !decide (vback.toNat < 600)) = false := by
      rw [Bool.and_assoc, Bool.and_self, Bool.and_comm]
      exact Bool.eq_false_iff.mpr (fun hboth => htakes (by simpa using hboth))
    rw [hno, Bool.or_false]
    rfl

/-- VBACK measured: what it shows, what it takes over, and its event. -/
theorem vbackAbsent_spec : let t := vbackAbsent vback.toNat s
    let gone := decide (vback.toNat < 600)
    let absent := s.getB F.pwtSupStatus_VBACK_ABSENT
    PowerActs s t ∧ t.pwr = s.pwr ∧ SameCharger s t ∧
    ShowsPower s t (s.getB F.pwtSupStatus_VMAIN_LOST) (s.getB F.pwtSupStatus_RET_QUAL) gone
      (fun b => b || (s.getB F.pwtSupStatus_VMAIN_LOST && absent && !gone)) (s.getB F.pwtSupStatus_LOSS_SEEN) (s.get F.pwtVolts_VMAIN) vback.toNat ∧
    (s.host.evBuf.length < 256 → t.host.evBuf = s.host.evBuf ++
      if gone = absent then [] else [powerEv (if gone then 2 else 3) (s.get F.pwtVolts_VMAIN) vback.toNat s.nowNs]) := by
  intro t gone absent
  have hset := (PowerActs.refl s).set (f := F.pwtVolts_VBACK) (by decide) vback.toNat
  have hsame := sameCharger_set s (f := F.pwtVolts_VBACK) (by decide) vback.toNat
  by_cases h : gone = absent
  · have ht : t = _ := vbackAbsent_same vback s h
    have hshows := showsPower_setVback vback s
    rw [ht, if_pos h]
    refine ⟨hset, rfl, hsame, ?_, fun _ => (List.append_nil _).symm⟩
    have hno : (s.getB F.pwtSupStatus_VMAIN_LOST && absent && !gone) = false := by rw [h]; cases absent <;> simp
    rw [hno, h]
    exact hshows.ofTurn (funext fun b => (Bool.or_false b).symm)
  · have ht : t = _ := vbackAbsent_turn vback s h
    have hwas : absent = !gone := by cases hgone : gone <;> cases habsent : absent <;> simp_all
    obtain ⟨hacts, hkept, hpwr, hhost, hshows⟩ := vbackTaken_spec vback s hwas
    rw [ht, if_neg h]
    refine ⟨hacts.supplyEvent _, (State.raise_pwr ..).trans hpwr, hkept.trans (sameCharger_supplyEvent _ _), hshows.supplyEvent _, fun hroom => ?_⟩
    obtain ⟨-, -, -, -, -, -, hvmain, hvback⟩ := hshows
    rw [supplyEvent_evBuf (by split <;> decide) (hhost ▸ hroom), hvmain, hvback, hacts.nowNs, hhost]

end

/-! ## Loss and return of VMAIN (R516, R521) -/

section
variable (vmain vback : BitVec 16) (s : State)

/-- VBACK takes over from a VMAIN that is lost, or is found absent. -/
def backed (vback : Nat) (s : State) : State := if 600 ≤ vback then setOnVback true s else vbackAbsent vback s

theorem backed_spec (hvback : s.get F.pwtVolts_VBACK = vback.toNat) (hturn : s.getB F.pwtSupStatus_VMAIN_LOST = true) :
    let t := backed vback.toNat s
    PowerActs s t ∧ t.pwr = s.pwr ∧ SameCharger s t ∧
    ShowsPower s t true (s.getB F.pwtSupStatus_RET_QUAL) (s.getB F.pwtSupStatus_VBACK_ABSENT || decide (vback.toNat < 600))
      (fun b => b || decide (600 ≤ vback.toNat)) (s.getB F.pwtSupStatus_LOSS_SEEN) (s.get F.pwtVolts_VMAIN) vback.toNat ∧
    (s.host.evBuf.length < 256 → t.host.evBuf = s.host.evBuf ++ if vback.toNat < 600 ∧ s.getB F.pwtSupStatus_VBACK_ABSENT = false
      then [powerEv 2 (s.get F.pwtVolts_VMAIN) vback.toNat s.nowNs] else []) := by
  intro t
  by_cases h : 600 ≤ vback.toNat
  · have ht : t = setOnVback true s := if_pos h
    have hlow : ¬vback.toNat < 600 := by omega
    have hself : ShowsPower s s true (s.getB F.pwtSupStatus_RET_QUAL) (s.getB F.pwtSupStatus_VBACK_ABSENT) id (s.getB F.pwtSupStatus_LOSS_SEEN)
        (s.get F.pwtVolts_VMAIN) vback.toNat := ⟨hturn, rfl, rfl, rfl, rfl, rfl, rfl, hvback⟩
    rw [ht, decide_eq_true h, decide_eq_false hlow, Bool.or_false, if_neg (fun hboth => hlow hboth.1), List.append_nil]
    exact ⟨(PowerActs.refl s).setOnVback true, rfl, sameCharger_setOnVback true s,
      (hself.setOnVback true).ofTurn (funext fun b => (Bool.or_true b).symm),
      fun _ => rfl⟩
  · have ht : t = vbackAbsent vback.toNat s := if_neg h
    have hlow : vback.toNat < 600 := by omega
    obtain ⟨hacts, hpwr, hkept, hshows, hevents⟩ := vbackAbsent_spec vback s
    rw [decide_eq_true hlow] at hshows hevents
    rw [ht, decide_eq_false h, decide_eq_true hlow, Bool.or_true]
    refine ⟨hacts, hpwr, hkept, (hturn ▸ hshows).ofTurn (funext fun b => by rw [Bool.not_true, Bool.and_false]), fun hroom => ?_⟩
    rw [hevents hroom]
    cases s.getB F.pwtSupStatus_VBACK_ABSENT <;> simp [hlow]

theorem ShowsPower.trans {s t u : State} {lost qual absent seen lost' qual' absent' seen' : Bool} {turn turn' : Bool → Bool}
    {vmain vback vmain' vback' : Nat} (h : ShowsPower s t lost qual absent turn seen vmain vback)
    (k : ShowsPower t u lost' qual' absent' turn' seen' vmain' vback') :
    ShowsPower s u lost' qual' absent' (turn' ∘ turn) seen' vmain' vback' := by
  obtain ⟨-, -, -, hon, -, hglb, -, -⟩ := h
  obtain ⟨klost, kqual, kabsent, kon, kseen, kglb, kvmain, kvback⟩ := k
  exact ⟨klost, kqual, kabsent, kon.trans (congrArg turn' hon), kseen, kglb.trans (congrArg turn' hglb), kvmain, kvback⟩

/-- VMAIN is lost. -/
theorem vmainLost_due (h : vmain.toNat < s.get F.pwtVmainTh_LOSS ∧ s.getB F.pwtSupStatus_VMAIN_LOST = false) :
    vmainLost vmain.toNat vback.toNat s =
      ((backed vback.toNat (setCharger (chargerNext s true vback.toNat) (vmainGone vmain.toNat vback.toNat s))).supplyEvent
      0).updPwr (fun x => { x with arr := x.arr ++ [true] }) := by
  obtain ⟨hlow, hthere⟩ := h
  obtain ⟨hlost, -, -, -, -, -, -, hvback⟩ := showsPower_vmainGone vmain vback s
  rw [vmainLost, if_neg (by simp [hthere, hlow]), ← chargerEval_of_acts (powerActs_vmainGone vmain vback s) (charging_vmainGone vmain vback s).state
    hlost hvback]
  rfl

/-- What the loss of VMAIN makes. -/
theorem vmainLost_spec (h : vmain.toNat < s.get F.pwtVmainTh_LOSS ∧ s.getB F.pwtSupStatus_VMAIN_LOST = false) :
    let t := vmainLost vmain.toNat vback.toNat s
    let n := chargerNext s true vback.toNat
    PowerActs s t ∧ ShowsPower s t true false (s.getB F.pwtSupStatus_VBACK_ABSENT || decide (vback.toNat < 600))
      (fun b => b || decide (600 ≤ vback.toNat)) true vmain.toNat vback.toNat ∧
    Charging s s.upNow t n (s.get F.pwtPower_I_CHG_ACT) ∧ t.pwr.qual = s.pwr.qual ∧ t.pwr.arr = s.pwr.arr ++ [true] ∧
    (s.host.evBuf.length < 254 → t.host.evBuf = s.host.evBuf ++ ((if n = s.chState then [] else [chargeEv n s.chState vback.toNat s.nowNs]) ++
      (if vback.toNat < 600 ∧ s.getB F.pwtSupStatus_VBACK_ABSENT = false then [powerEv 2 vmain.toNat vback.toNat s.nowNs] else []) ++
      [powerEv 0 vmain.toNat vback.toNat s.nowNs])) := by
  intro t n
  have hn : n < 8 := chargerNext_lt s true vback.toNat
  have hgone := powerActs_vmainGone vmain vback s
  have hmade := showsPower_vmainGone vmain vback s
  have hconfig : (vmainGone vmain.toNat vback.toNat s).get F.pwtBankCfg_I_CHG = s.get F.pwtBankCfg_I_CHG := hgone.regs.get (by decide)
  have hcharged := (charging_vmainGone vmain vback s).setCharger hn rfl hconfig
  have hevents := setCharger_evBuf (s := vmainGone vmain.toNat vback.toNat s) hn
  have hpwr := setCharger_pwr n (vmainGone vmain.toNat vback.toNat s)
  have hshows := hmade.setCharger n
  have hacts := hgone.setCharger n
  have hfirst : (vmainGone vmain.toNat vback.toNat s).get F.pwtVolts_VBACK = vback.toNat := hmade.2.2.2.2.2.2.2
  rw [(charging_vmainGone vmain vback s).state, hfirst, hgone.nowNs] at hevents
  have ht : t = ((backed vback.toNat (setCharger n (vmainGone vmain.toNat vback.toNat s))).supplyEvent 0).updPwr _ := vmainLost_due vmain vback s h
  generalize setCharger n (vmainGone vmain.toNat vback.toNat s) = u at *
  have hnow := hacts.nowNs
  obtain ⟨hlost, hqual, habsent, -, hseen, -, hvmain, hvback⟩ := id hshows
  obtain ⟨hback, hbpwr, hbkept, hbshows, hbevents⟩ := backed_spec vback u hvback hlost
  rw [hqual, habsent, hseen, hvmain] at hbshows
  rw [habsent, hvmain, hnow] at hbevents
  rw [ht]
  refine ⟨((hacts.trans hback).supplyEvent 0).updPwr _, (hshows.trans hbshows).supplyEvent 0,
    ((hcharged.same hbkept).same (sameCharger_supplyEvent _ 0)).congr rfl rfl rfl rfl, ?_, ?_, fun hroom => ?_⟩
  · exact (congrArg PwrSt.qual ((State.raise_pwr ..).trans hbpwr)).trans hpwr.2
  · exact congrArg (· ++ [true]) ((congrArg PwrSt.arr ((State.raise_pwr ..).trans hbpwr)).trans hpwr.1)
  · have hfirst : u.host.evBuf = s.host.evBuf ++ if n = s.chState then [] else [chargeEv n s.chState vback.toNat s.nowNs] :=
      hevents (show s.host.evBuf.length < 256 by omega)
    have hlen : u.host.evBuf.length ≤ s.host.evBuf.length + 1 := by
      rw [hfirst, List.length_append]
      split <;> simp
    have hsecond := hbevents (by omega)
    have hlen' : (backed vback.toNat u).host.evBuf.length ≤ u.host.evBuf.length + 1 := by
      rw [hsecond, List.length_append]
      split <;> simp
    obtain ⟨-, -, -, -, -, -, hvmain', hvback'⟩ := hbshows
    refine (supplyEvent_evBuf (s := backed vback.toNat u) (kind := 0) (by decide) (by omega)).trans ?_
    rw [hvmain', hvback', hback.nowNs, hnow, hsecond, hfirst]
    simp only [List.append_assoc]

/-! ### The return -/

/-- VMAIN carries the module again: the levels and flags, before the event and the charger. -/
def vmainReturned (vmain vback : Nat) (s : State) : State :=
  setOnVback false (((setVolts vmain vback s).set F.pwtSupStatus_VMAIN_LOST 0).set F.pwtSupStatus_RET_QUAL 0)

theorem powerActs_vmainReturned : PowerActs s (vmainReturned vmain.toNat vback.toNat s) :=
  ((((PowerActs.refl s).setVolts _ _).set (by decide) 0).set (by decide) 0).setOnVback false

theorem showsPower_vmainReturned : ShowsPower s (vmainReturned vmain.toNat vback.toNat s) false false (s.getB F.pwtSupStatus_VBACK_ABSENT)
    (fun _ => false) (s.getB F.pwtSupStatus_LOSS_SEEN) vmain.toNat vback.toNat := by
  refine ShowsPower.setOnVback (turn := id) ?_ false
  have hshows := showsPower_setVolts vmain vback s
  simp only [ShowsPower, State.getB, id] at hshows ⊢
  simp (disch := decide) [State.get_set_reg, State.get_set_bits, State.get_set_same, hshows]

theorem charging_vmainReturned : Charging s s.upNow (vmainReturned vmain.toNat vback.toNat s) s.chState (s.get F.pwtPower_I_CHG_ACT) := by
  refine (charging_setVolts vmain vback s).same (SameCharger.trans ?_ (sameCharger_setOnVback false _))
  exact (sameCharger_set _ (by decide) _).trans (sameCharger_set _ (by decide) _)

/-- The return has qualified. -/
def returnDue (vmain : Nat) (s : State) : Prop :=
  s.get F.pwtVmainTh_RETURN < vmain ∧ s.getB F.pwtSupStatus_RET_QUAL = true ∧ s.pwr.qual + s.get F.pwtVmainRet_RET_US * 1000 ≤ s.upNow

theorem vmainBack_other (h : ¬returnDue vmain.toNat s) : vmainBack vmain.toNat vback.toNat s = setVolts vmain.toNat vback.toNat s := by
  refine if_pos ?_
  by_contra hdue
  simp only [not_or, Nat.not_le, Nat.not_lt, Bool.not_eq_true', Bool.not_eq_false] at hdue
  exact h hdue

theorem vmainBack_spec (h : returnDue vmain.toNat s) :
    let t := vmainBack vmain.toNat vback.toNat s
    let n := chargerNext s false vback.toNat
    PowerActs s t ∧ ShowsPower s t false false (s.getB F.pwtSupStatus_VBACK_ABSENT) (fun _ => false) (s.getB F.pwtSupStatus_LOSS_SEEN)
      vmain.toNat vback.toNat ∧
    Charging s s.upNow t n (s.get F.pwtPower_I_CHG_ACT) ∧ t.pwr.qual = s.pwr.qual ∧ t.pwr.arr = s.pwr.arr ++ [false] ∧
    (s.host.evBuf.length < 254 → t.host.evBuf = s.host.evBuf ++ powerEv 1 vmain.toNat vback.toNat s.nowNs ::
      (if n = s.chState then [] else [chargeEv n s.chState vback.toNat s.nowNs])) := by
  intro t n
  have hn : n < 8 := chargerNext_lt s false vback.toNat
  obtain ⟨hover, hqual, hlong⟩ := h
  generalize hu : ((vmainReturned vmain.toNat vback.toNat s).supplyEvent 1).updPwr (fun x => { x with arr := x.arr ++ [false] }) = u
  have hacts : PowerActs s u := hu ▸ ((powerActs_vmainReturned vmain vback s).supplyEvent 1).updPwr _
  have hshows : ShowsPower s u false false (s.getB F.pwtSupStatus_VBACK_ABSENT) (fun _ => false) (s.getB F.pwtSupStatus_LOSS_SEEN)
      vmain.toNat vback.toNat := hu ▸ (showsPower_vmainReturned vmain vback s).supplyEvent 1
  have hcharging : Charging s s.upNow u s.chState (s.get F.pwtPower_I_CHG_ACT) :=
    hu ▸ ((charging_vmainReturned vmain vback s).same (sameCharger_supplyEvent _ 1)).congr rfl rfl rfl rfl
  have hpwr : u.pwr = { s.pwr with arr := s.pwr.arr ++ [false] } :=
    hu ▸ congrArg (fun x : PwrSt => { x with arr := x.arr ++ [false] }) (State.raise_pwr ..)
  have hfirst : s.host.evBuf.length < 256 → u.host.evBuf = s.host.evBuf ++ [powerEv 1 vmain.toNat vback.toNat s.nowNs] := fun hroom => by
    obtain ⟨-, -, -, -, -, -, hvmain, hvback⟩ := showsPower_vmainReturned vmain vback s
    rw [← hu]
    refine (supplyEvent_evBuf (s := vmainReturned vmain.toNat vback.toNat s) (kind := 1) (by decide) hroom).trans ?_
    rw [hvmain, hvback, (powerActs_vmainReturned vmain vback s).nowNs]
    rfl
  have hlost := hshows.1
  have hvback : u.get F.pwtVolts_VBACK = vback.toNat := by obtain ⟨-, -, -, -, -, -, -, hvback⟩ := hshows; exact hvback
  have ht : t = setCharger n u := by
    rw [← chargerEval_of_acts hacts hcharging.state hlost hvback, ← hu]
    exact if_neg (by simp [hover, hqual, hlong])
  have hup : u.upNow = s.upNow := by
    unfold State.upNow
    rw [hpwr, hacts.frame]
  obtain ⟨harr, hq⟩ := setCharger_pwr n u
  rw [ht]
  refine ⟨hacts.setCharger n, hshows.setCharger n, hcharging.setCharger hn hup (hacts.regs.get (by decide)), ?_, ?_, fun hroom => ?_⟩
  · rw [hq, hpwr]
  · rw [harr, hpwr]
  · have hone := hfirst (by omega)
    rw [setCharger_evBuf hn (by rw [hone, List.length_append, List.length_singleton]; omega), hone, hcharging.state, hvback, hacts.nowNs,
      List.append_assoc, List.singleton_append]

end

section
variable (vmain : BitVec 16) (s : State)

/-- A level of VMAIN above or below RETURN: the qualification starts, stands or stops. -/
theorem returnQual_spec : let t := returnQual vmain.toNat s
    let lost := s.getB F.pwtSupStatus_VMAIN_LOST
    let qual := s.getB F.pwtSupStatus_RET_QUAL
    let exceeds := decide (s.get F.pwtVmainTh_RETURN < vmain.toNat)
    PowerActs s t ∧ t.host = s.host ∧ ShowsPower s t lost (if lost then exceeds else qual) (s.getB F.pwtSupStatus_VBACK_ABSENT) id
      (s.getB F.pwtSupStatus_LOSS_SEEN) vmain.toNat (s.get F.pwtVolts_VBACK) ∧
    Charging s s.upNow t s.chState (s.get F.pwtPower_I_CHG_ACT) ∧ t.pwr.arr = s.pwr.arr ∧
    t.pwr.qual = if lost = true ∧ (exceeds = false ∨ qual = false) then s.upNow else s.pwr.qual := by
  intro t lost qual exceeds
  have hvm : vmain.toNat % 2 ^ 16 = vmain.toNat := Nat.mod_eq_of_lt vmain.isLt
  have hacts := (PowerActs.refl s).set (f := F.pwtVolts_VMAIN) (by decide) vmain.toNat
  have hkept := sameCharger_set s (f := F.pwtVolts_VMAIN) (by decide) vmain.toNat
  have hcharging : Charging s s.upNow s s.chState (s.get F.pwtPower_I_CHG_ACT) := .start _ rfl rfl rfl rfl
  have hshows : ShowsPower s (s.set F.pwtVolts_VMAIN vmain.toNat) lost qual (s.getB F.pwtSupStatus_VBACK_ABSENT) id
      (s.getB F.pwtSupStatus_LOSS_SEEN) vmain.toNat (s.get F.pwtVolts_VBACK) := by
    simp (disch := decide) only [ShowsPower, State.getB, State.get_set_reg,
      State.get_set_bits, State.get_set_same, id, true_and, and_true, lost, qual]
    exact hvm
  cases hlost : lost with
  | false =>
    have ht : t = s.set F.pwtVolts_VMAIN vmain.toNat := if_pos (by simpa [lost] using hlost)
    rw [hlost] at hshows
    rw [ht, if_neg Bool.false_ne_true, if_neg (fun h => Bool.false_ne_true h.1)]
    exact ⟨hacts, rfl, hshows, hcharging.same hkept, rfl, rfl⟩
  | true =>
    have ht : t = _ := if_neg (by simpa [lost] using hlost)
    rw [ht]
    refine ⟨(hacts.setB (by decide) _).updPwr _, rfl, ?_,
      ((hcharging.same hkept).same (sameCharger_set _ (f := F.pwtSupStatus_RET_QUAL) (by decide) _)).congr rfl rfl rfl rfl, rfl, ?_⟩
    · rw [hlost] at hshows
      show ShowsPower s _ true exceeds _ _ _ _ _
      simp only [ShowsPower, State.getB, id] at hshows ⊢
      simp (disch := decide) only [State.updPwr_get, State.get_setB, State.get_set_reg, State.get_set_bits, State.get_set_same, hshows, and_true]
      refine ⟨hlost, ?_⟩
      show ((if exceeds = true then 1 else 0) % 2 ^ (5 + 1 - 5) != 0) = exceeds
      cases exceeds <;> rfl
    · show (if exceeds && qual then s.pwr.qual else s.upNow) = _
      cases exceeds <;> cases qual <;> rfl

end

/-! ## The charger's own acts (R519, R522) -/

theorem chargeState_spec (vback mA : BitVec 16) (s : State) : let t := chargeState vback.toNat mA.toNat s
    let n := chargerNext s (s.getB F.pwtSupStatus_VMAIN_LOST) vback.toNat
    PowerActs s t ∧ t.pwr.arr = s.pwr.arr ∧ t.pwr.qual = s.pwr.qual ∧
    ShowsPower s t (s.getB F.pwtSupStatus_VMAIN_LOST) (s.getB F.pwtSupStatus_RET_QUAL) (s.getB F.pwtSupStatus_VBACK_ABSENT) id
      (s.getB F.pwtSupStatus_LOSS_SEEN) (s.get F.pwtVolts_VMAIN) vback.toNat ∧
    Charging s s.upNow t n (if s.chState = 1 ∨ s.chState = 2 then mA.toNat else 0) ∧
    (s.host.evBuf.length < 256 → t.host.evBuf = s.host.evBuf ++
      if n = s.chState then [] else [chargeEv n s.chState vback.toNat s.nowNs]) := by
  intro t n
  have hn : n < 8 := chargerNext_lt ..
  generalize hact : (if s.chState = 1 ∨ s.chState = 2 then mA.toNat else 0) = act
  have hsmall : act < 2 ^ 16 := by
    rw [← hact]
    have := mA.isLt
    split <;> omega
  generalize hu : (s.set F.pwtVolts_VBACK vback.toNat).set F.pwtPower_I_CHG_ACT act = u
  have hacts : PowerActs s u := hu ▸ ((PowerActs.refl s).set (by decide) _).set (by decide) _
  have hshows : ShowsPower s u (s.getB F.pwtSupStatus_VMAIN_LOST) (s.getB F.pwtSupStatus_RET_QUAL) (s.getB F.pwtSupStatus_VBACK_ABSENT) id
      (s.getB F.pwtSupStatus_LOSS_SEEN) (s.get F.pwtVolts_VMAIN) vback.toNat := by
    have h := showsPower_setVback vback s
    rw [← hu]
    simp only [ShowsPower, State.getB, id] at h ⊢
    simpa (disch := decide) only [State.get_set_reg] using h
  have hcharging : Charging s s.upNow u s.chState act := by
    rw [← hu]
    refine .start _ ?_ ?_ ?_ rfl
    · simp (disch := decide) only [State.get_set_reg]
    · simp (disch := decide) only [State.get_set_reg]
    · exact (State.get_set_same _ F.pwtPower_I_CHG_ACT _ (by decide)).trans (Nat.mod_eq_of_lt hsmall)
  have hpwr : u.pwr = s.pwr := by rw [← hu]; rfl
  have hhost : u.host = s.host := by rw [← hu]; rfl
  have hup : u.upNow = s.upNow := by rw [← hu]; rfl
  obtain ⟨hlost, -, -, -, -, -, -, hvback⟩ := id hshows
  have ht : t = setCharger n u := by
    rw [← chargerEval_of_acts hacts hcharging.state hlost hvback, ← hu, ← hact]
    rfl
  obtain ⟨harr, hq⟩ := setCharger_pwr n u
  rw [ht]
  refine ⟨hacts.setCharger n, harr.trans (by rw [hpwr]), hq.trans (by rw [hpwr]), hshows.setCharger n,
    hcharging.setCharger hn hup (hacts.regs.get (by decide)), fun hroom => ?_⟩
  rw [setCharger_evBuf hn (hhost ▸ hroom), hhost, hcharging.state, hvback, hacts.nowNs]

/-- The state that CHARGE_CTRL takes the charger to. -/
def chargeCtrlNext (d : Desc) (s : State) : Nat := if d.fb 1 0 = true ∧ s.chState = 5 then 0 else s.chState

theorem chargeCtrlNext_lt (d : Desc) (s : State) : chargeCtrlNext d s < 8 := by
  unfold chargeCtrlNext
  split
  · decide
  · exact chState_lt s

/-- CHARGE_CTRL with CLEAR takes the charger from FAULT to OFF. -/
theorem opChargeCtrl_eq (d : Desc) (s : State) :
    opChargeCtrl d s = (setCharger (chargeCtrlNext d s) s, why (if d.fb 1 0 = true ∧ s.chState ≠ 5 then 2 else 0)) := by
  unfold opChargeCtrl chargeCtrlNext
  cases d.fb 1 0 with
  | false => simp [setCharger_same]
  | true =>
    by_cases hfault : s.chState = 5
    · simp [hfault]
    · simp [hfault, setCharger_same]

/-- CHARGE_CTRL, as its ring answers it. -/
theorem chargeCtrl_answers {d : Desc} {s : State} (h : Accepts s 0x0C01 d) :
    let bad : Prop := d.fb 1 0 = true ∧ s.chState ≠ 5
    let n := chargeCtrlNext d s
    ∃ t, Answers (.chargeCtrl d) d s t (decide bad) (if bad then 0x02000000 else 0) ∧ OnlyRing d s t chargerRegs ∧
      (∀ f ∈ supplyKept, t.get f = s.get f) ∧
      (∀ i : Fin 32, i.val ≠ F.glbStatus_ON_VBACK.lo → t.bitAt A.glbStatus i.val = s.bitAt A.glbStatus i.val) ∧
      t = { s with regs := t.regs, host := t.host, hostMem := t.hostMem, pwr := t.pwr } ∧ t.pwr.arr = s.pwr.arr ∧ t.pwr.qual = s.pwr.qual ∧
      Charging s s.upNow t n (s.get F.pwtPower_I_CHG_ACT) ∧ t.get F.pwtVolts_VBACK = s.get F.pwtVolts_VBACK ∧
      (s.host.evBuf.length < 256 → t.host.evBuf = s.host.evBuf ++
        if n = s.chState then [] else [chargeEv n s.chState (s.get F.pwtVolts_VBACK) s.nowNs]) := by
  intro bad n
  have hn : n < 8 := chargeCtrlNext_lt d s
  have hget {f : Fld} (hf : f.a < 0x1400 ∨ 0x2000 ≤ f.a) : (s.fetched d).get f = s.get f := fetched_get s d (not_ringHead d hf)
  have hstate : (s.fetched d).chState = s.chState := hget (by decide)
  have hnext : chargeCtrlNext d (s.fetched d) = n := by rw [chargeCtrlNext, hstate]; rfl
  generalize hu : setCharger n (s.fetched d) = u
  have hop : opChargeCtrl d (s.fetched d) = (u, why (if bad then 2 else 0)) := by rw [opChargeCtrl_eq, hnext, hu, hstate]
  have hframe : u = _ := hu ▸ setCharger_frame n (s.fetched d)
  have hc : RunsForm (.chargeCtrl d) 0x0C01 opChargeCtrl d d s := ⟨rfl, rfl, rfl, rfl⟩
  obtain ⟨t, hanswers, honly, ht, hevBuf, hsame⟩ := hc.completes h hop (hu ▸ regsBut_setCharger n (s.fetched d)) (by decide)
    (hframe ▸ rfl) (hframe ▸ rfl)
  have hread {f : Fld} (hf : f.a < 0x1400 ∨ 0x2000 ≤ f.a) : t.get f = u.get f := State.get_of_reg (hsame f.a hf)
  have hacts : PowerActs (s.fetched d) u := hu ▸ (PowerActs.refl _).setCharger n
  have hstart : Charging s s.upNow (s.fetched d) s.chState (s.get F.pwtPower_I_CHG_ACT) :=
    .start _ (hget (by decide)) (hget (by decide)) (hget (by decide)) rfl
  have hcharging : Charging s s.upNow u n (s.get F.pwtPower_I_CHG_ACT) := hu ▸ hstart.setCharger hn rfl (hget (by decide))
  obtain ⟨harr, hqual⟩ := setCharger_pwr n (s.fetched d)
  have hpwr : t.pwr = u.pwr := by rw [ht]
  rw [hu] at harr hqual
  refine ⟨t, ?_, honly, fun f hf => ?_, fun i hi => ?_, ht.trans (by rw [hpwr, hframe]; rfl), (congrArg PwrSt.arr hpwr).trans harr,
    (congrArg PwrSt.qual hpwr).trans hqual,
    hcharging.congr (hread (by decide)) (hread (by decide)) (hread (by decide)) (congrArg (fun x : PwrSt => { x with arr := [], qual := 0 }) hpwr),
    ?_, fun hroom => ?_⟩
  · by_cases hbad : bad
    · simpa [hbad, why] using hanswers
    · simpa [hbad, why] using hanswers
  · have hfar : f.a < 0x1400 ∨ 0x2000 ≤ f.a := by revert f; decide
    rw [hread hfar, hacts.kept f hf, hget hfar]
  · rw [State.bitAt_of_reg (hsame A.glbStatus (by decide)), hacts.glb i hi]
    exact State.bitAt_of_reg (fetched_reg s d (not_ringHead d (by decide))) _
  · rw [hread (by decide), ← hu, get_setCharger _ _ (by decide)]
    exact hget (by decide)
  · rw [hevBuf, ← hu, setCharger_evBuf (s := s.fetched d) hn hroom, hstate, hget (by decide)]
    rfl

/-! ## O54 -/

/-- Settles O54: each act by what it shows, what the charger becomes under it, and its events in their order. -/
theorem supplies : Obligations.Supplies := by
  intro vmain vback mA cyc d s vm vb w now lost qual absent seen st act regs part only supplies' wanted warm next ccTotal charger event supply
    charge raised
  have honly {t : State} (h : PowerActs w t) : only t := ⟨h.regs, ⟨h.kept, h.glb⟩, h.frame⟩
  have hcharger {t : State} {n act' : Nat} (h : Charging w w.upNow t n act') : charger w t n act' := ⟨h.state, h.fault, h.current, h.pwr⟩
  have hkept {u : State} {act' : Nat} (h : Charging w w.upNow u w.chState act') : charger w u st act' := hcharger h
  refine ⟨?lost, ?qualifies, ?back, ?vback, ?charger, ?timeout, ?control⟩
  case lost =>
    intro due n
    refine ⟨fun h => ⟨_, rfl, ?_⟩, fun h => ⟨_, rfl, ?_⟩⟩
    · have hnone : vmainLost vm vb w = setVolts vm vb w := by
        refine if_pos ?_
        by_contra hdue
        simp only [not_or, Nat.not_le, Bool.not_eq_true] at hdue
        exact h hdue
      rw [hnone]
      exact ⟨honly ((PowerActs.refl w).setVolts _ _), rfl, rfl, showsPower_setVolts vmain vback w, hkept (charging_setVolts vmain vback w)⟩
    · obtain ⟨hacts, hshows, hcharging, hqual, harr, hevents⟩ := vmainLost_spec vmain vback w h
      refine ⟨honly hacts, hshows, hcharger hcharging, hqual, harr, fun hroom => (hevents hroom).trans ?_⟩
      obtain ⟨-, -, -, -, -, -, hvmain, hvback⟩ := hshows
      simp only [supply, charge, vb]
      rw [hvmain, hvback]
      rfl
  case qualifies =>
    intro exceeds
    obtain ⟨hacts, hhost, hshows, hcharging, harr, hqual⟩ := returnQual_spec vmain w
    exact ⟨_, rfl, honly hacts, hhost, hshows, hkept hcharging, harr, hqual⟩
  case back =>
    intro due n
    refine ⟨fun h => ⟨_, rfl, ?_⟩, fun h => ⟨_, rfl, ?_⟩⟩
    · rw [vmainBack_other vmain vback w h]
      exact ⟨honly ((PowerActs.refl w).setVolts _ _), rfl, rfl, showsPower_setVolts vmain vback w, hkept (charging_setVolts vmain vback w)⟩
    · obtain ⟨hacts, hshows, hcharging, hqual, harr, hevents⟩ := vmainBack_spec vmain vback w h
      refine ⟨honly hacts, hshows, hcharger hcharging, hqual, harr, fun hroom => (hevents hroom).trans ?_⟩
      obtain ⟨-, -, -, -, -, -, hvmain, hvback⟩ := hshows
      simp only [supply, charge]
      rw [hvmain, hvback]
      rfl
  case vback =>
    intro gone
    obtain ⟨hacts, hpwr, hsame, hshows, hevents⟩ := vbackAbsent_spec vback w
    have hstart : Charging w w.upNow w w.chState (w.get F.pwtPower_I_CHG_ACT) := .start _ rfl rfl rfl rfl
    refine ⟨_, rfl, honly hacts, hpwr, hkept (hstart.same hsame), hshows, fun hroom => (hevents (show s.host.evBuf.length < 256 by omega)).trans ?_⟩
    obtain ⟨-, -, -, -, -, -, hvmain, hvback⟩ := hshows
    simp only [supply]
    rw [hvmain, hvback]
    rfl
  case charger =>
    intro n
    obtain ⟨hacts, harr, hqual, hshows, hcharging, hevents⟩ := chargeState_spec vback mA w
    refine ⟨_, rfl, honly hacts, harr, hqual, hshows, hcharger hcharging, fun hroom => (hevents (show s.host.evBuf.length < 256 by omega)).trans ?_⟩
    obtain ⟨-, -, -, -, -, -, -, hvback⟩ := hshows
    simp only [charge]
    rw [hvback]
    rfl
  case timeout =>
    intro due
    refine ⟨fun h => ?_, fun h => ?_⟩
    · have hnone : chargeTimeout w = w := if_neg h
      exact congrArg Host.Outcome.next hnone
    · have hfault : chargeTimeout w = setCharger 5 w := if_pos h
      have hregs := regsBut_setCharger 5 w
      have hstart : Charging w w.upNow w w.chState (w.get F.pwtPower_I_CHG_ACT) := .start _ rfl rfl rfl rfl
      obtain ⟨harr, hqual⟩ := setCharger_pwr 5 w
      refine ⟨_, congrArg Host.Outcome.next hfault, honly ((PowerActs.refl w).setCharger 5), harr, hqual, hregs _ (by decide), hregs _ (by decide),
        hregs _ (by decide), hcharger (hstart.setCharger (by decide) rfl rfl), fun hroom =>
          (setCharger_evBuf (n := 5) (s := w) (by decide) (show s.host.evBuf.length < 256 by omega)).trans ?_⟩
      simp only [charge]
      rw [get_setCharger _ _ (by decide)]
      rfl
  case control =>
    intro clears bad n h
    obtain ⟨t, hanswers, hring, hfields, hglb, hframe, harr, hqual, hcharging, hvback, hevents⟩ := chargeCtrl_answers h
    refine ⟨t, hanswers, hring, ⟨hfields, hglb⟩, hframe, harr, hqual,
      ⟨hcharging.state, hcharging.fault, hcharging.current, hcharging.pwr⟩, fun hroom => (hevents (show s.host.evBuf.length < 256 by omega)).trans ?_⟩
    simp only [charge]
    rw [hvback]
    rfl

end Sys2Proof.Machine
end

section
/-!
PROOF. Attachment to the debug block, halts, resumes, steps and GO, and the memory window (spec/17_electrical_and_package.md, R579 to R581).
-/
namespace Sys2Proof.Machine

/-! ## Writes that reach the block (R579, R580) -/

/-- Whether a path reaches the DBG block: PCIe once the module is ready, JTAG in two states of the life cycle. -/
def DbgReaches (jtag : Bool) (s : State) : Prop := if jtag then s.lc = 1 ∨ s.lc = 2 else s.ready = true

/-- The registers that the debug commands write. -/
def dbgCommanded : List Nat := A.dbgCtrl :: A.dbgMemCtrl :: (upto 40).map A.dbgEngCtrl

theorem dbgCommanded_register : ∀ a ∈ dbgCommanded, 0x1C000 ≤ a ∧ a < 0x20000 ∧ (regGroup? a).isSome = true := by decide +kernel

theorem dbgEngCtrl_commanded (e : Fin 40) : A.dbgEngCtrl e.val ∈ dbgCommanded :=
  List.mem_cons_of_mem _ (List.mem_cons_of_mem _ (List.mem_map_of_mem (List.mem_range.mpr e.isLt)))

theorem dbgPath_of_reaches {jtag : Bool} {s : State} (h : DbgReaches jtag s) : s.dbgPath (pathOf jtag) = true := by
  cases jtag
  · rfl
  · simpa [DbgReaches, State.dbgPath, pathOf] using h

/-- A command of a path that reaches the block is its write to the block. -/
theorem dbgAs_of_reaches {jtag : Bool} {s : State} {a : Nat} (ha : a ∈ dbgCommanded) (h : DbgReaches jtag s) (v : W32) :
    dbgAs jtag a v s = dbgWrite (pathOf jtag) a (s.spared a v) s := by
  obtain ⟨hlo, hhi, hsome⟩ := dbgCommanded_register a ha
  cases jtag
  · have hready : s.ready = true := h
    rw [dbgAs, if_neg Bool.false_ne_true, barWrite, if_neg (by simp [hready, Option.isNone_iff_eq_none, Option.isSome_iff_ne_none.mp hsome])]
    simp only [show ¬ a < 0x1000 by omega, show ¬ a < 0x2000 by omega, show ¬ a < 0x3000 by omega, show ¬ a < 0x4000 by omega,
      show ¬ a < 0x8000 by omega, show ¬ a < 0x10000 by omega, show ¬ a < 0x12000 by omega, show ¬ a < 0x16000 by omega,
      show ¬ a < 0x18000 by omega, show ¬ a < 0x1C000 by omega, if_false]
    rfl
  · rw [dbgAs, if_pos rfl, pathWrite, if_pos ⟨hlo, hhi, hsome⟩]
    rfl

/-- A command of a path that does not reach the block changes nothing. -/
theorem dbgAs_of_unreached {jtag : Bool} {s : State} {a : Nat} (ha : a ∈ dbgCommanded) (h : ¬ DbgReaches jtag s) (v : W32) :
    dbgAs jtag a v s = s := by
  obtain ⟨hlo, hhi, hsome⟩ := dbgCommanded_register a ha
  cases jtag
  · have hready : s.ready = false := by simpa [DbgReaches] using h
    rw [dbgAs, if_neg Bool.false_ne_true, barWrite, if_pos (.inl ⟨by omega, by simp [hready]⟩)]
  · have hpath : s.dbgPath 2 = false := by simpa [DbgReaches, State.dbgPath] using h
    rw [dbgAs, if_pos rfl, pathWrite, if_pos ⟨hlo, hhi, hsome⟩, dbgWrite, if_pos (by simp [hpath])]

theorem spared_of_w1c {a m : Nat} (h : (regGroup? a).map (·.w1c) = some m) (s : State) (v : W32) :
    s.spared a v = v &&& ~~~ BitVec.ofNat 32 (Table.look 0 s.clk.fresh a &&& m) := by
  obtain ⟨g, hg, rfl⟩ := Option.map_eq_some_iff.mp h
  rw [State.spared, hg]

theorem dbgEngCtrl_w1c (e : Fin 40) : (regGroup? (A.dbgEngCtrl e.val)).map (·.w1c) = some 0 := by
  revert e
  decide +kernel

theorem spared_dbgEngCtrl (e : Fin 40) (s : State) (v : W32) : s.spared (A.dbgEngCtrl e.val) v = v := by
  rw [spared_of_w1c (dbgEngCtrl_w1c e), Nat.and_zero]
  exact BitVec.and_allOnes

/-- An attachment and a detachment leave CONTEND, and are written as they are. -/
theorem spared_dbgCtrl (s : State) {v : W32} (hv : v = 0xD5B60001 ∨ v = 0) : s.spared A.dbgCtrl v = v := by
  have hw1c : (regGroup? A.dbgCtrl).map (·.w1c) = some (2 ^ 3) := by decide +kernel
  rw [spared_of_w1c hw1c, Nat.and_two_pow]
  cases (Table.look 0 s.clk.fresh A.dbgCtrl).testBit 3 <;> rcases hv with rfl | rfl <;> decide

/-! ## The path that does not own the block (R580) -/

/-- A write that only sets CONTEND, beside what `u` has of the state `s`. -/
def Contends (s u t : State) : Prop := RegsBut [A.dbgCtrl] s t ∧ t.getB F.dbgCtrl_CONTEND = true ∧
  (∀ f, f ∈ [F.dbgCtrl_OWNER, F.dbgCtrl_ATTACH] → t.get f = s.get f) ∧
  t = { u with clk := { u.clk with fresh := t.clk.fresh }, regs := t.regs }

theorem contends_flag {s u : State} (h : u.regs = s.regs) : Contends s u (u.flag F.dbgCtrl_CONTEND) := by
  have hregs := RegsBut.of_regs (l := [A.dbgCtrl]) h
  refine ⟨hregs.flag (f := F.dbgCtrl_CONTEND) List.mem_cons_self, ?_, fun f hf => ?_, rfl⟩
  · rw [State.getB_of_get ((State.get_flag ..).trans (State.get_set_same _ _ _ (by decide)))]
    rfl
  · have hset : (u.flag F.dbgCtrl_CONTEND).get f = u.get f := by
      rw [State.get_flag, State.get_set_bits]
      revert f
      decide
    rw [hset, State.get, State.reg, h]
    rfl

/-- Both paths attach in one cycle. -/
def DbgBoth (jtag : Bool) (s : State) (cyc : Nat) : Prop := jtag = false ∧ s.get F.dbgCtrl_OWNER = 2 ∧ s.dbg.since = (s.clk.ticks, cyc)

section
variable {jtag : Bool} {s : State}

/-- The owner of the block is the other path. -/
def DbgOther (jtag : Bool) (s : State) : Prop := s.get F.dbgCtrl_OWNER ≠ 0 ∧ s.get F.dbgCtrl_OWNER ≠ pathOf jtag

theorem dbgWrite_of_other {a : Nat} {v : W32} (hreach : DbgReaches jtag s) (hother : DbgOther jtag s)
    (hfirst : ¬ (s.get F.dbgCtrl_OWNER = 2 ∧ pathOf jtag = 1 ∧ (a == A.dbgCtrl && bits v 31 16 == 0xD5B6 && bit v 0) = true ∧
      s.dbg.since = (s.clk.ticks, s.clk.cyc))) :
    dbgWrite (pathOf jtag) a v s = s.flag F.dbgCtrl_CONTEND := by
  rw [dbgWrite, if_neg (by simp [dbgPath_of_reaches hreach]), if_neg hfirst]
  exact if_pos hother

/-- Any other command than an attachment, of the path that does not own the block, only sets CONTEND. -/
theorem dbgAs_of_other {a : Nat} {v : W32} (ha : a ∈ dbgCommanded) (hreach : DbgReaches jtag s) (hother : DbgOther jtag s)
    (hv : (a == A.dbgCtrl && bits (s.spared a v) 31 16 == 0xD5B6 && bit (s.spared a v) 0) = false) : Contends s s (dbgAs jtag a v s) := by
  rw [dbgAs_of_reaches ha hreach, dbgWrite_of_other hreach hother (fun h => by
    rw [hv] at h
    exact Bool.false_ne_true h.2.2.1)]
  exact contends_flag rfl

/-- Where nobody owns the block, only an attachment has an effect. -/
theorem dbgAs_of_unowned {a : Nat} (ha : a ∈ dbgCommanded) (hctrl : a ≠ A.dbgCtrl) (h : s.get F.dbgCtrl_OWNER = 0) (v : W32) :
    dbgAs jtag a v s = s := by
  by_cases hreach : DbgReaches jtag s
  · rw [dbgAs_of_reaches ha hreach, dbgWrite, if_neg (by simp [dbgPath_of_reaches hreach]), if_neg (by omega), if_neg (by simp [h]),
      if_neg hctrl, if_pos h]
  · exact dbgAs_of_unreached ha hreach v

theorem pathOf_ne_zero (jtag : Bool) : pathOf jtag ≠ 0 := by cases jtag <;> decide

/-- The write of the owner to an engine's CTRL. -/
theorem dbgAs_engine (e : Fin 40) (hreach : DbgReaches jtag s) (howner : s.get F.dbgCtrl_OWNER = pathOf jtag) (v : W32) :
    dbgAs jtag (A.dbgEngCtrl e.val) v s = dbgEngWrite e.val v s := by
  have hzero := pathOf_ne_zero jtag
  rw [dbgAs_of_reaches (dbgEngCtrl_commanded e) hreach, spared_dbgEngCtrl, dbgWrite, if_neg (by simp [dbgPath_of_reaches hreach]),
    if_neg (by omega), if_neg (by simp [howner]), if_neg (by simp only [A.dbgEngCtrl, A.dbgCtrl]; omega), if_neg (by omega),
    if_neg (by simp only [A.dbgEngCtrl, A.dbgMemCtrl]; omega), if_pos (by simp only [A.dbgEngCtrl]; omega),
    if_pos (by simp only [A.dbgEngCtrl]; omega)]
  congr 1
  simp only [A.dbgEngCtrl]
  omega

end

/-! ## Halts and resumes (R579, R581) -/

/-- The registers that show whether engine `k` is halted. -/
def State.haltShow (s : State) (k : Nat) : List Nat := [A.dbgEngStatus k, A.clkEngStat k] ++ if s.slotPresent k then [A.pwmSlotStatus k] else []

/-- The fields of an engine beside its halt that a resume leaves. -/
def resumeKept (k : Nat) : List Fld := [F.dbgEngStatus_PC k, F.dbgEngStatus_SET k, F.dbgEngStatus_ACCESS k, F.clkEngStat_FAULT k,
  F.clkEngStat_OVR_RUN k, F.clkEngStat_LATE k, F.clkEngStat_DONE k]

/-- An engine goes on. -/
def EngineGoes (s t : State) (k : Nat) : Prop :=
  t.getB (F.dbgEngStatus_HALTED k) = false ∧ t.getB (F.dbgEngStatus_BRK k) = false ∧ t.getB (F.clkEngStat_HALT k) = false ∧
  (s.slotPresent k = true → t.getB (F.pwmSlotStatus_HALTED k) = false) ∧ t.eng k = { s.eng k with stepOne := false } ∧
  ∀ f, f ∈ resumeKept k → t.get f = s.get f

theorem haltShow_subset (s : State) (k : Nat) : s.haltShow k ⊆ [A.dbgEngStatus k, A.clkEngStat k, A.pwmSlotStatus k] := by
  unfold State.haltShow
  cases s.slotPresent k <;> simp

theorem haltShow_slot {s : State} {k : Nat} (h : s.slotPresent k = true) : A.pwmSlotStatus k ∈ s.haltShow k := by
  simp [State.haltShow, h]

theorem RegsBut.updEng {l : List Nat} {s t : State} (h : RegsBut l s t) (e : Nat) (f : Eng → Eng) : RegsBut l s (t.updEng e f) := h

/-- The registers of an engine that goes on, but for its slot. -/
def State.resumeShown (s : State) (k : Nat) : State :=
  ((s.set (F.clkEngStat_HALT k) 0).set (F.dbgEngStatus_HALTED k) 0).set (F.dbgEngStatus_BRK k) 0

theorem resumeEngine_eq (k : Nat) (s : State) : resumeEngine k s = whenB (s.slotPresent k) (fun t => t.set (F.pwmSlotStatus_HALTED k) 0)
    ((s.resumeShown k).updEng k (fun y => { y with stepOne := false })) := rfl

theorem resumeEngine_regs (k : Nat) (s : State) : RegsBut (s.haltShow k) s (resumeEngine k s) := by
  have hclock := (RegsBut.refl (s.haltShow k) s).set (f := F.clkEngStat_HALT k) (by simp [State.haltShow, F.clkEngStat_HALT]) 0
  have hhalted := hclock.set (f := F.dbgEngStatus_HALTED k) (by simp [State.haltShow, F.dbgEngStatus_HALTED]) 0
  have hbrk := hhalted.set (f := F.dbgEngStatus_BRK k) (by simp [State.haltShow, F.dbgEngStatus_BRK]) 0
  rw [resumeEngine_eq]
  cases hslot : s.slotPresent k
  · exact hbrk.updEng k _
  · exact (hbrk.updEng k _).set (f := F.pwmSlotStatus_HALTED k) (haltShow_slot hslot) 0

theorem resumeShown_eng (s : State) (k m : Nat) : (s.resumeShown k).eng m = s.eng m := by
  rw [State.eng, State.resumeShown, State.set_spar, State.set_spar, State.set_spar, State.eng]

theorem State.eng_set (s : State) (f : Fld) (v k : Nat) : (s.set f v).eng k = s.eng k := rfl

theorem resumeEngine_engs (k m : Nat) (s : State) :
    (resumeEngine k s).eng m = ((s.resumeShown k).updEng k (fun y => { y with stepOne := false })).eng m := by
  rw [resumeEngine_eq]
  cases s.slotPresent k
  · rfl
  · exact State.eng_set ..

theorem resumeEngine_eng (k : Nat) (s : State) : (resumeEngine k s).eng k = { s.eng k with stepOne := false } := by
  rw [resumeEngine_engs, State.eng_updEng_same, resumeShown_eng]

theorem resumeEngine_eng_other {k m : Nat} (h : m ≠ k) (s : State) : (resumeEngine k s).eng m = s.eng m := by
  rw [resumeEngine_engs, State.eng_updEng_other _ _ h, resumeShown_eng]

theorem resumeEngine_frame (k : Nat) (s : State) :
    resumeEngine k s = { s with regs := (resumeEngine k s).regs, spar := (resumeEngine k s).spar } := by
  rw [resumeEngine_eq]
  cases s.slotPresent k <;> rfl

/-- A field of an engine's debug or clock status after a resume, through the fields that the resume writes there. -/
theorem resumeEngine_get {k : Nat} (s : State) {f : Fld} (hf : f.a = A.dbgEngStatus k ∨ f.a = A.clkEngStat k) :
    (resumeEngine k s).get f = (s.resumeShown k).get f := by
  rw [resumeEngine_eq]
  cases s.slotPresent k
  · exact State.updEng_get ..
  · refine (State.get_set_reg _ _ ?_).trans (State.updEng_get ..)
    simp only [F.pwmSlotStatus_HALTED, A.pwmSlotStatus, A.dbgEngStatus, A.clkEngStat] at hf ⊢
    omega

theorem clkEngStat_ne_dbgEngStatus {k : Nat} (hk : k < 38) : A.clkEngStat k ≠ A.dbgEngStatus k := by
  simp only [A.dbgEngStatus, A.clkEngStat]
  omega

theorem resumeEngine_goes {k : Nat} (hk : k < 38) (s : State) : EngineGoes s (resumeEngine k s) k := by
  have hne := clkEngStat_ne_dbgEngStatus hk
  have hget {f : Fld} {v : Nat} (hf : f.a = A.dbgEngStatus k ∨ f.a = A.clkEngStat k)
      (h : (s.resumeShown k).get f = v) : (resumeEngine k s).get f = v := (resumeEngine_get s hf).trans h
  refine ⟨?_, ?_, ?_, fun hslot => ?_, resumeEngine_eng k s, fun f hf => ?_⟩
  · refine State.getB_of_get (v := 0) (hget (.inl rfl) ?_)
    exact (State.get_set_bits _ _ (by simp [F.dbgEngStatus_BRK, F.dbgEngStatus_HALTED])).trans
      (State.get_set_same _ _ _ (by simp [F.dbgEngStatus_HALTED]))
  · exact State.getB_of_get (v := 0) (hget (.inl rfl) (State.get_set_same _ _ _ (by simp [F.dbgEngStatus_BRK])))
  · refine State.getB_of_get (v := 0) (hget (.inr rfl) ?_)
    rw [State.resumeShown, State.get_set_reg _ _ hne, State.get_set_reg _ _ hne]
    exact State.get_set_same _ _ _ (by simp [F.clkEngStat_HALT])
  · rw [resumeEngine_eq, hslot]
    exact State.getB_of_get (v := 0) (State.get_set_same _ _ _ (by simp [F.pwmSlotStatus_HALTED]))
  · have hplace : (f.a = A.dbgEngStatus k ∧ (3 < f.lo ∨ (0 < f.lo ∧ f.hi < 3))) ∨ (f.a = A.clkEngStat k ∧ f.hi < 5) := by
      simp only [resumeKept, List.mem_cons, List.not_mem_nil, or_false] at hf
      rcases hf with rfl | rfl | rfl | rfl | rfl | rfl | rfl
      case inl => exact .inl ⟨rfl, .inl (by simp [F.dbgEngStatus_PC])⟩
      case inr.inl => exact .inl ⟨rfl, .inr (by simp [F.dbgEngStatus_SET])⟩
      case inr.inr.inl => exact .inl ⟨rfl, .inr (by simp [F.dbgEngStatus_ACCESS])⟩
      all_goals exact .inr ⟨rfl, Nat.lt_of_sub_eq_succ rfl⟩
    refine hget (hplace.imp (·.1) (·.1)) ?_
    rw [State.resumeShown]
    rcases hplace with ⟨ha, hbits⟩ | ⟨ha, hbits⟩
    · rw [State.get_set_bits _ _ (by simp only [F.dbgEngStatus_BRK]; omega), State.get_set_bits _ _ (by simp only [F.dbgEngStatus_HALTED]; omega),
        State.get_set_reg _ _ (by rw [ha]; exact hne.symm)]
    · rw [State.get_set_reg _ _ (by rw [ha]; exact hne), State.get_set_reg _ _ (by rw [ha]; exact hne),
        State.get_set_bits _ _ (by simp only [F.clkEngStat_HALT]; omega)]

/-- What a halt shows of an engine. -/
def haltWord (s : State) (k : Nat) (brk : Bool) : W32 := BitVec.ofNat 32 ((s.eng k).pc % 65536 * 65536 + (if brk then 8 else 0) +
  bits (s.reg (A.dbgEngStatus k)) 2 2 * 4 + (if (s.eng k).inH then 2 else 0) + 1)

/-- An engine halts at the debugger's word. -/
def EngineHalts (s t : State) (k : Nat) : Prop := RegsBut (s.haltShow k) s t ∧ (∀ m : Fin 38, m.val ≠ k → t.eng m.val = s.eng m.val) ∧
  t.getB (F.dbgEngStatus_HALTED k) = true ∧ t.getB (F.clkEngStat_HALT k) = true ∧ t.get (F.dbgEngStatus_PC k) = (s.eng k).pc % 65536 ∧
  t.getB (F.dbgEngStatus_SET k) = (s.eng k).inH ∧ t.getB (F.dbgEngStatus_BRK k) = false ∧ t.eng k = { s.eng k with stepOne := false } ∧
  t.sparRuns k = false ∧ (s.slotPresent k = true → t.getB (F.pwmSlotStatus_HALTED k) = true) ∧
  (∀ f, f ∈ [F.dbgEngStatus_ACCESS k, F.clkEngStat_FAULT k, F.clkEngStat_OVR_RUN k, F.clkEngStat_LATE k, F.clkEngStat_DONE k] → t.get f = s.get f) ∧
  t = { s with regs := t.regs, spar := t.spar }

theorem haltEngine_eq (k : Nat) (brk : Bool) (s : State) : haltEngine k brk s =
    whenB (s.slotPresent k) (fun t => t.set (F.pwmSlotStatus_HALTED k) 1) (s.haltShown k (haltWord s k brk)) := rfl

theorem haltEngine_reg {k a : Nat} (s : State) (ha : a ≠ A.pwmSlotStatus k) :
    (haltEngine k false s).reg a = (s.haltShown k (haltWord s k false)).reg a := by
  rw [haltEngine_eq]
  cases s.slotPresent k
  · rfl
  · exact State.reg_set_other _ _ _ ha

theorem haltEngine_status {k : Nat} (hk : k < 38) (s : State) : (haltEngine k false s).reg (A.dbgEngStatus k) = haltWord s k false := by
  rw [haltEngine_reg s (by simp only [A.dbgEngStatus, A.pwmSlotStatus]; omega)]
  exact State.reg_setReg_same ..

theorem haltEngine_clock {k : Nat} (hk : k < 38) (s : State) :
    (haltEngine k false s).reg (A.clkEngStat k) = (s.set (F.clkEngStat_HALT k) 1).reg (A.clkEngStat k) := by
  rw [haltEngine_reg s (by simp only [A.clkEngStat, A.pwmSlotStatus]; omega)]
  exact State.reg_setReg_other _ _ (clkEngStat_ne_dbgEngStatus hk)

/-- The parts of the word that a halt shows. -/
theorem haltWord_bits (s : State) (k : Nat) : bits (haltWord s k false) 31 16 = (s.eng k).pc % 65536 ∧ bits (haltWord s k false) 0 0 = 1 ∧
    bits (haltWord s k false) 1 1 = (if (s.eng k).inH then 1 else 0) ∧ bits (haltWord s k false) 3 3 = 0 ∧
    bits (haltWord s k false) 2 2 = bits (s.reg (A.dbgEngStatus k)) 2 2 := by
  have hpc : (s.eng k).pc % 65536 < 65536 := Nat.mod_lt _ (by decide)
  have haccess : bits (s.reg (A.dbgEngStatus k)) 2 2 < 2 := Nat.mod_lt _ (by decide)
  unfold haltWord
  generalize (s.eng k).pc % 65536 = p at hpc ⊢
  generalize bits (s.reg (A.dbgEngStatus k)) 2 2 = c at haccess ⊢
  simp only [bits, nbits, BitVec.toNat_ofNat]
  cases (s.eng k).inH <;> simp <;> omega

theorem haltEngine_halts {k : Nat} (hk : k < 38) (s : State) : EngineHalts s (haltEngine k false s) k := by
  obtain ⟨hpc, hhalted, hset, hbrk, haccess⟩ := haltWord_bits s k
  have hstatus {f : Fld} (hf : f.a = A.dbgEngStatus k) : (haltEngine k false s).get f = bits (haltWord s k false) f.hi f.lo := by
    rw [State.get, hf, haltEngine_status hk]
  refine ⟨?regs, fun m hm => ?engines, ?_, haltEngine_halt hk false s, (hstatus rfl).trans hpc, ?_, ?_, ?eng, haltEngine_stops hk false s,
    fun hslot => ?slot, fun f hf => ?kept, ?frame⟩
  case regs =>
    have hshown : RegsBut (s.haltShow k) s (s.haltShown k (haltWord s k false)) :=
      (((RegsBut.refl (s.haltShow k) s).set (f := F.clkEngStat_HALT k) (by simp [State.haltShow, F.clkEngStat_HALT]) 1).setReg
        (by simp [State.haltShow]) _).updEng k _
    rw [haltEngine_eq]
    cases hslot : s.slotPresent k
    · exact hshown
    · exact hshown.set (f := F.pwmSlotStatus_HALTED k) (haltShow_slot hslot) 1
  case engines =>
    have hother : (s.haltShown k (haltWord s k false)).eng m.val = s.eng m.val := State.eng_updEng_other _ _ hm
    rw [haltEngine_eq]
    cases s.slotPresent k <;> exact hother
  case eng =>
    have hsame : (s.haltShown k (haltWord s k false)).eng k = { s.eng k with stepOne := false } := State.eng_updEng_same ..
    rw [haltEngine_eq]
    cases s.slotPresent k <;> exact hsame
  case slot =>
    rw [haltEngine_eq, hslot]
    exact State.getB_of_get (v := 1) (State.get_set_same _ _ _ (by simp [F.pwmSlotStatus_HALTED]))
  case kept =>
    have hclock {g : Fld} (hg : g.a = A.clkEngStat k) (hlow : g.hi < 5) : (haltEngine k false s).get g = s.get g := by
      rw [State.get, hg, haltEngine_clock hk, ← hg]
      exact State.get_set_bits _ _ (.inl hlow)
    simp only [List.mem_cons, List.not_mem_nil, or_false] at hf
    rcases hf with rfl | rfl | rfl | rfl | rfl
    · exact (hstatus rfl).trans haccess
    all_goals exact hclock rfl (Nat.lt_of_sub_eq_succ rfl)
  case frame =>
    rw [haltEngine_eq]
    cases s.slotPresent k <;> rfl
  · exact State.getB_of_get (v := 1) ((hstatus rfl).trans hhalted)
  · refine (State.getB_of_get ((hstatus rfl).trans hset)).trans ?_
    cases (s.eng k).inH <;> rfl
  · exact State.getB_of_get (v := 0) ((hstatus rfl).trans hbrk)

/-! ## Attachment and detachment (R580) -/

/-- A path becomes the owner of the block, beside what `w` has of the state `s`. -/
def Attaches (s w t : State) (path cyc : Nat) : Prop := RegsBut [A.dbgCtrl] s t ∧ t.get F.dbgCtrl_OWNER = path ∧ t.getB F.dbgCtrl_ATTACH = true ∧
  (∀ f, f ∈ [F.dbgCtrl_CONTEND] → t.get f = s.get f) ∧
  t = { w with regs := t.regs, dbg := { s.dbg with since := (s.clk.ticks, cyc) } }

theorem dbgAttach_attaches (s : State) {path : Nat} (h : path < 4) (cyc : Nat) :
    Attaches s (s.atCyc cyc) (dbgAttach path (s.atCyc cyc)) path cyc := by
  have hregs : RegsBut [A.dbgCtrl] s (s.atCyc cyc) := .refl _ s
  refine ⟨?_, ?_, ?_, fun f hf => ?_, rfl⟩
  · exact (hregs.set (f := F.dbgCtrl_OWNER) List.mem_cons_self path).set (f := F.dbgCtrl_ATTACH) List.mem_cons_self 1
  · exact (State.get_set_bits _ _ (by decide)).trans ((State.get_set_same _ _ _ (by decide)).trans (Nat.mod_eq_of_lt h))
  · exact State.getB_of_get (v := 1) (State.get_set_same _ _ _ (by decide))
  · obtain rfl := List.mem_singleton.mp hf
    exact (State.get_set_bits _ _ (by decide)).trans (State.get_set_bits _ _ (by decide))

section
variable {jtag : Bool} {s : State} {cyc : Nat}

theorem reaches_atCyc (h : DbgReaches jtag s) : DbgReaches jtag (s.atCyc cyc) := h

theorem dbgAs_attach_eq (h : DbgReaches jtag s) : dbgAs jtag A.dbgCtrl 0xD5B60001 (s.atCyc cyc) =
    dbgWrite (pathOf jtag) A.dbgCtrl 0xD5B60001 (s.atCyc cyc) := by
  rw [dbgAs_of_reaches List.mem_cons_self (reaches_atCyc h), spared_dbgCtrl _ (.inl rfl)]

/-- KEY with ATTACH 1 makes a path the owner of a block that nobody owns, and PCIe of one that JTAG took in the same cycle. -/
theorem dbgAs_attach (h : DbgReaches jtag s) (howner : s.get F.dbgCtrl_OWNER = 0 ∨ DbgBoth jtag s cyc) :
    Attaches s (s.atCyc cyc) (dbgAs jtag A.dbgCtrl 0xD5B60001 (s.atCyc cyc)) (pathOf jtag) cyc := by
  have hpath : (s.atCyc cyc).dbgPath (pathOf jtag) = true := dbgPath_of_reaches (reaches_atCyc h)
  have hzero := pathOf_ne_zero jtag
  have hsmall : pathOf jtag < 4 := by cases jtag <;> decide
  have hattach : dbgWrite (pathOf jtag) A.dbgCtrl 0xD5B60001 (s.atCyc cyc) = dbgAttach (pathOf jtag) (s.atCyc cyc) := by
    rcases howner with hfree | ⟨rfl, htwo, hsince⟩
    · have hnone : (s.atCyc cyc).get F.dbgCtrl_OWNER = 0 := hfree
      rw [dbgWrite, if_neg (by simp [hpath]), if_neg (by omega), if_neg (by omega), if_pos rfl]
      simp only [hnone, hzero.symm, if_false]
      rfl
    · rw [dbgWrite, if_neg (by simp [hpath])]
      exact if_pos ⟨htwo, rfl, rfl, hsince⟩
  rw [dbgAs_attach_eq h, hattach]
  exact dbgAttach_attaches s hsmall cyc

/-- The owner attaches again without effect. -/
theorem dbgAs_attach_owner (h : DbgReaches jtag s) (howner : s.get F.dbgCtrl_OWNER = pathOf jtag) :
    dbgAs jtag A.dbgCtrl 0xD5B60001 (s.atCyc cyc) = s.atCyc cyc := by
  have hpath : (s.atCyc cyc).dbgPath (pathOf jtag) = true := dbgPath_of_reaches (reaches_atCyc h)
  have hmine : (s.atCyc cyc).get F.dbgCtrl_OWNER = pathOf jtag := howner
  rw [dbgAs_attach_eq h, dbgWrite, if_neg (by simp [hpath]), if_neg (by omega), if_neg (by omega), if_pos rfl]
  simp only [hmine]
  rfl

theorem dbgAs_attach_other (h : DbgReaches jtag s) (hother : DbgOther jtag s) (hboth : ¬ DbgBoth jtag s cyc) :
    Contends s (s.atCyc cyc) (dbgAs jtag A.dbgCtrl 0xD5B60001 (s.atCyc cyc)) := by
  have hnot : ¬ ((s.atCyc cyc).get F.dbgCtrl_OWNER = 2 ∧ pathOf jtag = 1 ∧ (A.dbgCtrl == A.dbgCtrl && bits (0xD5B60001 : W32) 31 16 == 0xD5B6 &&
      bit (0xD5B60001 : W32) 0) = true ∧ (s.atCyc cyc).dbg.since = ((s.atCyc cyc).clk.ticks, (s.atCyc cyc).clk.cyc)) := by
    rintro ⟨htwo, hone, -, hsince⟩
    refine hboth ⟨?_, htwo, hsince⟩
    cases jtag
    · rfl
    · exact absurd hone (by decide)
  rw [dbgAs_attach_eq h, dbgWrite_of_other (reaches_atCyc h) hother hnot]
  exact contends_flag rfl

/-! ## Detachment -/

/-- Every engine that the block has halted goes on, and nobody owns the block. -/
def Detached (s t : State) : Prop := t.get F.dbgCtrl_OWNER = 0 ∧ t.getB F.dbgCtrl_ATTACH = false ∧
  (∀ f, f ∈ [F.dbgCtrl_CONTEND] → t.get f = s.get f) ∧
  RegsBut (A.dbgCtrl :: ((upto 38).filter (fun k => s.getB (F.dbgEngStatus_HALTED k))).flatMap s.haltShow) s t ∧
  ∀ k : Fin 38, (s.getB (F.dbgEngStatus_HALTED k.val) = true → EngineGoes s t k.val) ∧
    (s.getB (F.dbgEngStatus_HALTED k.val) = false → t.eng k.val = s.eng k.val)

/-- An engine goes on where the block has halted it. -/
def releaseEngine (e : Nat) (t : State) : State := if t.getB (F.dbgEngStatus_HALTED e) then resumeEngine e t else t

theorem dbgDetach_eq (s : State) : dbgDetach s = forEach (upto 38) releaseEngine ((s.set F.dbgCtrl_OWNER 0).set F.dbgCtrl_ATTACH 0) := rfl

/-- The registers that a halt of engine `k` may show in. -/
def haltRegs (k : Nat) : List Nat := [A.dbgEngStatus k, A.clkEngStat k, A.pwmSlotStatus k]

theorem haltRegs_disjoint {k m : Nat} (hk : k < 38) (hm : m < 38) (h : m ≠ k) {a : Nat} (ha : a ∈ haltRegs k) : a ∉ haltRegs m := by
  simp only [haltRegs, List.mem_cons, List.not_mem_nil, or_false, A.dbgEngStatus, A.clkEngStat, A.pwmSlotStatus] at ha ⊢
  omega

theorem not_mem_haltRegs {a k : Nat} (hk : k < 38) (h : a = A.dbgCtrl ∨ a = A.glbCaps) : a ∉ haltRegs k := by
  simp only [haltRegs, List.mem_cons, List.not_mem_nil, or_false, A.dbgEngStatus, A.clkEngStat, A.pwmSlotStatus, A.dbgCtrl, A.glbCaps] at h ⊢
  omega

/-- The part of a state that the release of engine `k` reads and writes. -/
def enginePart (k : Nat) (s : State) : Bool × ({a // a ∈ haltRegs k} → W32) × Eng := (s.slotPresent k, fun a => s.reg a.val, s.eng k)

theorem enginePart_eq {k : Nat} {s t : State} (h : enginePart k s = enginePart k t) :
    s.slotPresent k = t.slotPresent k ∧ (∀ a, a ∈ haltRegs k → s.reg a = t.reg a) ∧ s.eng k = t.eng k := by
  obtain ⟨hpresent, hrest⟩ := Prod.mk.inj h
  obtain ⟨hregs, heng⟩ := Prod.mk.inj hrest
  exact ⟨hpresent, fun a ha => congrFun hregs ⟨a, ha⟩, heng⟩

theorem releaseEngine_regs (k : Nat) (s : State) : RegsBut (haltRegs k) s (releaseEngine k s) := by
  unfold releaseEngine
  split
  · exact (resumeEngine_regs k s).mono (haltShow_subset s k)
  · exact .refl _ s

theorem slotPresent_of_regs {l : List Nat} {s t : State} (h : RegsBut l s t) (hl : A.glbCaps ∉ l) (n : Nat) :
    t.slotPresent n = s.slotPresent n := by
  unfold State.slotPresent State.slots
  rw [h.get hl]

theorem releaseEngine_other {k m : Nat} (hk : k < 38) (hm : m < 38) (h : m ≠ k) (s : State) : enginePart k (releaseEngine m s) = enginePart k s := by
  have hregs := releaseEngine_regs m s
  have heng : (releaseEngine m s).eng k = s.eng k := by
    unfold releaseEngine
    split
    · exact resumeEngine_eng_other h.symm s
    · rfl
  unfold enginePart
  rw [slotPresent_of_regs hregs (not_mem_haltRegs hm (.inr rfl)), heng]
  exact congrArg (fun r => (_, r, _)) (funext fun a : {a // a ∈ haltRegs k} => hregs a.val (haltRegs_disjoint hk hm h a.property))

/-- An engine goes on between states alike in that engine. -/
theorem EngineGoes.congr {k : Nat} {s s' t t' : State} (h : EngineGoes s t k) (hs : enginePart k s = enginePart k s')
    (ht : enginePart k t = enginePart k t') : EngineGoes s' t' k := by
  obtain ⟨hpresent, hregs, heng⟩ := enginePart_eq hs
  obtain ⟨-, hregs', heng'⟩ := enginePart_eq ht
  have hget {f : Fld} (hf : f.a ∈ haltRegs k) : t'.get f = t.get f := by rw [State.get, State.get, hregs' f.a hf]
  have hgetB {f : Fld} (hf : f.a ∈ haltRegs k) : t'.getB f = t.getB f := by rw [State.getB, State.getB, hget hf]
  obtain ⟨hhalted, hbrk, hhalt, hslot, hstep, hkept⟩ := h
  refine ⟨(hgetB (by simp [haltRegs, F.dbgEngStatus_HALTED])).trans hhalted, (hgetB (by simp [haltRegs, F.dbgEngStatus_BRK])).trans hbrk,
    (hgetB (by simp [haltRegs, F.clkEngStat_HALT])).trans hhalt,
    fun h => (hgetB (by simp [haltRegs, F.pwmSlotStatus_HALTED])).trans (hslot (hpresent.trans h)), ?_, fun f hf => ?_⟩
  · rw [← heng', hstep, heng]
  · have hplace : f.a ∈ haltRegs k := by
      simp only [resumeKept, List.mem_cons, List.not_mem_nil, or_false] at hf
      rcases hf with rfl | rfl | rfl | rfl | rfl | rfl | rfl
      case inl | inr.inl | inr.inr.inl => exact List.mem_cons_self
      all_goals exact List.mem_cons_of_mem _ List.mem_cons_self
    rw [hget hplace, hkept f hf, State.get, State.get, hregs f.a hplace]

/-- Two registers that show halts, one of them an engine's debug status, are of one engine. -/
theorem dbgEngStatus_mem_haltRegs {k m : Nat} (hk : k < 38) (hm : m < 38) (h : A.dbgEngStatus k ∈ haltRegs m) : k = m := by
  by_contra hne
  exact haltRegs_disjoint hk hm (Ne.symm hne) (List.mem_cons_self (a := A.dbgEngStatus k)) h

theorem detach_regs (s : State) : RegsBut (A.dbgCtrl :: ((upto 38).filter (fun k => s.getB (F.dbgEngStatus_HALTED k))).flatMap s.haltShow) s
    (dbgDetach s) := by
  rw [dbgDetach_eq]
  have hstart := ((RegsBut.refl (A.dbgCtrl :: ((upto 38).filter (fun k => s.getB (F.dbgEngStatus_HALTED k))).flatMap s.haltShow) s).set
    (f := F.dbgCtrl_OWNER) List.mem_cons_self 0).set (f := F.dbgCtrl_ATTACH) List.mem_cons_self 0
  refine .forEach (fun k hk t ht => ?_) hstart
  have hk38 : k < 38 := List.mem_range.mp hk
  have hout {a : Nat} (ha : ∀ m, m < 38 → s.getB (F.dbgEngStatus_HALTED m) = true → a ∉ haltRegs m) (hctrl : a ≠ A.dbgCtrl) :
      a ∉ A.dbgCtrl :: ((upto 38).filter (fun k => s.getB (F.dbgEngStatus_HALTED k))).flatMap s.haltShow := by
    simp only [List.mem_cons, List.mem_flatMap, List.mem_filter, not_or, not_exists, not_and]
    exact ⟨hctrl, fun m hm hin => ha m (List.mem_range.mp hm.1) hm.2 (haltShow_subset s m hin)⟩
  unfold releaseEngine
  split
  case isFalse => exact ht
  case isTrue hhalted =>
    have hhere : s.getB (F.dbgEngStatus_HALTED k) = true := by
      by_contra hnot
      refine hnot ((ht.getB (f := F.dbgEngStatus_HALTED k) (hout (fun m hm hmh hin => hnot ?_) ?_)).symm.trans hhalted)
      · exact dbgEngStatus_mem_haltRegs hk38 hm hin ▸ hmh
      · simp only [F.dbgEngStatus_HALTED, A.dbgEngStatus, A.dbgCtrl]; omega
    have hpresent := slotPresent_of_regs ht (hout (fun m hm _ => not_mem_haltRegs hm (.inr rfl)) (by decide)) k
    refine ht.trans ((resumeEngine_regs k t).mono fun a ha => ?_)
    rw [State.haltShow, hpresent] at ha
    exact List.mem_cons_of_mem _ (List.mem_flatMap.mpr ⟨k, List.mem_filter.mpr ⟨hk, hhere⟩, ha⟩)

theorem dbgDetach_detached (s : State) : Detached s (dbgDetach s) := by
  have hrest : RegsBut ((upto 38).flatMap haltRegs) ((s.set F.dbgCtrl_OWNER 0).set F.dbgCtrl_ATTACH 0) (dbgDetach s) :=
    .forEach (fun k hk t ht => ht.trans ((releaseEngine_regs k t).mono fun a ha => List.mem_flatMap.mpr ⟨k, hk, ha⟩)) (.refl _ _)
  have hctrl {f : Fld} (hf : f.a = A.dbgCtrl) : (dbgDetach s).get f = ((s.set F.dbgCtrl_OWNER 0).set F.dbgCtrl_ATTACH 0).get f :=
    hrest.get fun h => by
      obtain ⟨k, hk, hin⟩ := List.mem_flatMap.mp h
      exact not_mem_haltRegs (List.mem_range.mp hk) (.inl hf) hin
  refine ⟨?_, ?_, fun f hf => ?_, detach_regs s, fun k => ?_⟩
  · exact (hctrl rfl).trans ((State.get_set_bits _ _ (by decide)).trans (State.get_set_same _ _ _ (by decide)))
  · exact State.getB_of_get (v := 0) ((hctrl rfl).trans (State.get_set_same _ _ _ (by decide)))
  · obtain rfl := List.mem_singleton.mp hf
    exact (hctrl rfl).trans ((State.get_set_bits _ _ (by decide)).trans (State.get_set_bits _ _ (by decide)))
  · obtain ⟨v, hbefore, hafter⟩ := forEach_part (enginePart k.val) (List.mem_range.mpr k.isLt) List.nodup_range
      (fun m hm h t => releaseEngine_other k.isLt (List.mem_range.mp hm) h t) ((s.set F.dbgCtrl_OWNER 0).set F.dbgCtrl_ATTACH 0)
    have hstart : enginePart k.val ((s.set F.dbgCtrl_OWNER 0).set F.dbgCtrl_ATTACH 0) = enginePart k.val s := by
      have hregs := ((RegsBut.refl [A.dbgCtrl] s).set (f := F.dbgCtrl_OWNER) List.mem_cons_self 0).set (f := F.dbgCtrl_ATTACH)
        List.mem_cons_self 0
      unfold enginePart
      rw [slotPresent_of_regs hregs (by decide)]
      refine congrArg (fun r => (_, r, _)) (funext fun a : {a // a ∈ haltRegs k.val} => hregs a.val fun h => ?_)
      exact not_mem_haltRegs k.isLt (.inl (List.mem_singleton.mp h)) a.property
    have hv := hbefore.trans hstart
    obtain ⟨-, hregs, heng⟩ := enginePart_eq hv
    have hhalted : v.getB (F.dbgEngStatus_HALTED k.val) = s.getB (F.dbgEngStatus_HALTED k.val) := by
      rw [State.getB, State.getB, State.get, State.get]
      exact congrArg (fun w : W32 => bits w 0 0 != 0) (hregs _ List.mem_cons_self)
    refine ⟨fun h => ?_, fun h => ?_⟩
    · rw [releaseEngine, hhalted, if_pos h] at hafter
      exact (resumeEngine_goes k.isLt v).congr hv hafter.symm
    · rw [releaseEngine, hhalted, if_neg (by simp [h])] at hafter
      obtain ⟨-, -, hend⟩ := enginePart_eq hafter
      exact hend.trans heng

theorem dbgDetach_frame (s : State) : dbgDetach s = { s with regs := (dbgDetach s).regs, spar := (dbgDetach s).spar } := by
  have h := forEach_eq_of_step (fun t : State => { t with regs := [], spar := s.spar }) (l := upto 38) (f := releaseEngine)
    (fun k _ t => by
      unfold releaseEngine
      split
      · rw [resumeEngine_frame]
      · rfl) ((s.set F.dbgCtrl_OWNER 0).set F.dbgCtrl_ATTACH 0)
  rw [dbgDetach_eq]
  generalize forEach (upto 38) releaseEngine ((s.set F.dbgCtrl_OWNER 0).set F.dbgCtrl_ATTACH 0) = t at h ⊢
  have hstart : { ((s.set F.dbgCtrl_OWNER 0).set F.dbgCtrl_ATTACH 0) with regs := [], spar := s.spar } = { s with regs := [], spar := s.spar } := rfl
  replace h := h.trans hstart
  obtain ⟨⟩ := t
  obtain ⟨⟩ := s
  simp_all

/-- ATTACH 0 of the owner detaches it, and that of another path or of none does not. -/
theorem dbgAs_detach_eq (h : DbgReaches jtag s) : dbgAs jtag A.dbgCtrl 0 s = dbgWrite (pathOf jtag) A.dbgCtrl 0 s := by
  rw [dbgAs_of_reaches List.mem_cons_self h, spared_dbgCtrl _ (.inr rfl)]

theorem dbgAs_detach_owner (h : DbgReaches jtag s) (howner : s.get F.dbgCtrl_OWNER = pathOf jtag) : dbgAs jtag A.dbgCtrl 0 s = dbgDetach s := by
  have hzero := pathOf_ne_zero jtag
  rw [dbgAs_detach_eq h, dbgWrite, if_neg (by simp [dbgPath_of_reaches h]), if_neg (fun hn => absurd hn.2.2.1 (by decide)), if_neg (by omega),
    if_pos rfl]
  simp only [howner]
  rfl

theorem dbgAs_detach_unowned (h : DbgReaches jtag s) (howner : s.get F.dbgCtrl_OWNER = 0) : dbgAs jtag A.dbgCtrl 0 s = s := by
  have hzero := pathOf_ne_zero jtag
  rw [dbgAs_detach_eq h, dbgWrite, if_neg (by simp [dbgPath_of_reaches h]), if_neg (by omega), if_neg (by omega), if_pos rfl]
  simp only [howner, hzero.symm, if_false]
  rfl

end

/-! ## Engines under the owner (R579, R581) -/

/-- Whether the owner may halt, resume or step engine `k`. -/
def DebugMay (s : State) (k : Nat) : Prop := (k < 34 ∨ s.lc = 1) ∧ k < 38 ∧ s.mode = mService

theorem dbgReach_iff {s : State} {k : Nat} (hk : k < 38) : s.dbgReach k = true ↔ k < 34 ∨ s.lc = 1 := by
  have h40 : k < 40 := by omega
  simp [State.dbgReach, h40]

/-- A write to the CTRL of an engine that the owner may debug. -/
theorem dbgEngWrite_of_may {s : State} {k : Nat} (h : DebugMay s k) (v : W32) : dbgEngWrite k v s =
    if bit v 0 then (if s.getB (F.dbgEngStatus_HALTED k) ∨ !s.sparRuns k then s else haltEngine k false s)
    else if !s.getB (F.dbgEngStatus_HALTED k) then s
    else if bit v 1 then resumeEngine k s
    else if bit v 2 then s.updEng k (fun x => { x with stepOne := true })
    else s := by
  obtain ⟨hreach, hk, hmode⟩ := h
  exact if_neg (by simp [(dbgReach_iff hk).mpr hreach, hk, hmode])

theorem dbgEngWrite_of_not_may {s : State} {k : Nat} (h : ¬ DebugMay s k) (v : W32) : dbgEngWrite k v s = s := by
  refine if_pos ?_
  by_contra hnone
  simp only [Bool.not_eq_true', not_or, Bool.not_eq_false, not_le, ne_eq, not_not] at hnone
  obtain ⟨hreach, hk, hmode⟩ := hnone
  exact h ⟨(dbgReach_iff hk).mp hreach, hk, hmode⟩

theorem dbgEngWrite_halt_none {s : State} {k : Nat}
    (h : ¬ (DebugMay s k ∧ s.getB (F.dbgEngStatus_HALTED k) = false ∧ s.sparRuns k = true)) : dbgEngWrite k 1 s = s := by
  by_cases hmay : DebugMay s k
  · rw [dbgEngWrite_of_may hmay]
    refine (if_pos rfl).trans (if_pos ?_)
    by_contra hnone
    exact h ⟨hmay, by simpa using hnone⟩
  · exact dbgEngWrite_of_not_may hmay 1

theorem dbgEngWrite_halt {s : State} {k : Nat} (h : DebugMay s k) (hhalted : s.getB (F.dbgEngStatus_HALTED k) = false)
    (hruns : s.sparRuns k = true) : dbgEngWrite k 1 s = haltEngine k false s := by
  rw [dbgEngWrite_of_may h]
  exact (if_pos rfl).trans (if_neg (by simp [hhalted, hruns]))

theorem dbgEngWrite_resume {s : State} {k : Nat} (h : DebugMay s k) (hhalted : s.getB (F.dbgEngStatus_HALTED k) = true) :
    dbgEngWrite k 2 s = resumeEngine k s := by
  rw [dbgEngWrite_of_may h]
  exact (if_neg (by decide)).trans ((if_neg (by simp [hhalted])).trans (if_pos rfl))

theorem dbgEngWrite_step {s : State} {k : Nat} (h : DebugMay s k) (hhalted : s.getB (F.dbgEngStatus_HALTED k) = true) :
    dbgEngWrite k 4 s = s.updEng k (fun x => { x with stepOne := true }) := by
  rw [dbgEngWrite_of_may h]
  exact (if_neg (by decide)).trans ((if_neg (by simp [hhalted])).trans ((if_neg (by decide)).trans (if_pos rfl)))

/-- An engine that is not halted, or that the owner may not debug, does not go on. -/
theorem dbgEngWrite_unhalted {s : State} {k : Nat} {v : W32} (h : ¬ (DebugMay s k ∧ s.getB (F.dbgEngStatus_HALTED k) = true))
    (hv : bit v 0 = false) : dbgEngWrite k v s = s := by
  by_cases hmay : DebugMay s k
  · rw [dbgEngWrite_of_may hmay, if_neg (by simp [hv])]
    refine if_pos ?_
    by_contra hhalted
    exact h ⟨hmay, by simpa using hhalted⟩
  · exact dbgEngWrite_of_not_may hmay v

/-! ## GO (R581) -/

/-- The word that GO leaves in DBG.MEM_CTRL, but for BUSY. -/
def goWord (s : State) (v : W32) : W32 := normF 29 27 (fun x => if 5 ≤ x then 0 else x) (s.written A.dbgMemCtrl v)

theorem written_dbgMemCtrl (s : State) (v : W32) {i : Nat} (hi : i < 32) : (s.written A.dbgMemCtrl v).getLsbD i =
    if i < 6 ∨ 27 ≤ i ∧ i < 31 then v.getLsbD i else (s.reg A.dbgMemCtrl).getLsbD i && !(i == 26 && v.getLsbD i) := by
  have hw : s.written A.dbgMemCtrl v =
      ((s.reg A.dbgMemCtrl &&& ~~~(0x7800003f : W32)) ||| (v &&& 0x7800003f)) &&& ~~~(v &&& 0x4000000) := rfl
  have hrw : ∀ j < 32, (0x7800003f : W32).getLsbD j = decide (j < 6 ∨ 27 ≤ j ∧ j < 31) := by decide
  have hw1c : ∀ j < 32, (0x4000000 : W32).getLsbD j = decide (j = 26) := by decide
  rw [hw]
  simp only [BitVec.getLsbD_and, BitVec.getLsbD_or, BitVec.getLsbD_not, hrw i hi, hw1c i hi, hi, decide_true, Bool.true_and]
  by_cases hfield : i < 6 ∨ 27 ≤ i ∧ i < 31
  · have h26 : i ≠ 26 := by omega
    simp [hfield, h26]
  · by_cases h26 : i = 26 <;> simp [hfield, h26]

theorem goWord_space (s : State) (v : W32) : bits (goWord s v) 29 27 = if 5 ≤ bits v 29 27 then 0 else bits v 29 27 := by
  have hspace : bits (s.written A.dbgMemCtrl v) 29 27 = bits v 29 27 := bits_congr fun i hlo hhi => by
    rw [written_dbgMemCtrl s v (by omega), if_pos (by omega)]
  rw [goWord, normF, bits_setBits_same _ _ _ _ (by decide), hspace]
  split
  · rfl
  · exact Nat.mod_eq_of_lt (by omega)

theorem goWord_bit (s : State) (v : W32) {i : Nat} (hi : i < 32) (hout : i < 27 ∨ 29 < i) : (goWord s v).getLsbD i =
    if i < 6 ∨ i = 30 then v.getLsbD i else (s.reg A.dbgMemCtrl).getLsbD i && !(i == 26 && v.getLsbD i) := by
  rw [goWord, normF, setBits_getLsbD, if_neg (by omega), written_dbgMemCtrl s v hi]
  by_cases hfield : i < 6 ∨ i = 30
  · rw [if_pos (by omega), if_pos hfield]
  · rw [if_neg (by omega), if_neg hfield]

theorem goWord_engine (s : State) (v : W32) : bits (goWord s v) 5 0 = bits v 5 0 := bits_congr fun i _ hhi => by
  rw [goWord_bit s v (by omega) (by omega), if_pos (by omega)]

theorem goWord_write (s : State) (v : W32) : (goWord s v).getLsbD 30 = v.getLsbD 30 := by
  rw [goWord_bit s v (by decide) (by decide), if_pos (by decide)]

/-- What GO takes of the written word: its fields, with ERR cleared where `clears`. -/
def GoTakes (s t : State) (v : W32) (clears : Bool) : Prop :=
  RegsBut [A.dbgMemCtrl] s t ∧ t.getB F.dbgMemCtrl_BUSY = true ∧ t.get F.dbgMemCtrl_ENGINE = bits v 5 0 ∧
  t.getB F.dbgMemCtrl_WRITE = v.getLsbD 30 ∧ t.get F.dbgMemCtrl_SPACE = (if 5 ≤ bits v 29 27 then 0 else bits v 29 27) ∧
  t.getB F.dbgMemCtrl_ERR = (s.getB F.dbgMemCtrl_ERR && !clears) ∧
  t = { s with
    regs := t.regs,
    dbg := { s.dbg with
      xfer := if s.getB F.dbgMemCtrl_BUSY then s.dbg.xfer
        else some (t.dbg.xfer.elim 0 (fun r => r.1), s.get F.dbgMemAddr_ADDR, s.get64 A.dbgMemDataLo) } } ∧
  (s.getB F.dbgMemCtrl_BUSY = false → ∃ r, t.dbg.xfer = some r ∧ bits r.1 5 0 = bits v 5 0 ∧ r.1.getLsbD 30 = v.getLsbD 30 ∧
    bits r.1 29 27 = if 5 ≤ bits v 29 27 then 0 else bits v 29 27)

/-- The state after GO. -/
def goState (s : State) (v : W32) : State :=
  if !s.getB F.dbgMemCtrl_BUSY then
    ((s.setReg A.dbgMemCtrl (goWord s v)).set F.dbgMemCtrl_BUSY 1).updDbg
      (fun x => { x with xfer := some (goWord s v, s.get F.dbgMemAddr_ADDR, s.get64 A.dbgMemDataLo) })
  else s.setReg A.dbgMemCtrl (goWord s v)

theorem goState_busy {s : State} (h : s.getB F.dbgMemCtrl_BUSY = true) (v : W32) : goState s v = s.setReg A.dbgMemCtrl (goWord s v) :=
  if_neg (by simp [h])

/-- The register of a GO that starts a transfer. -/
def State.goSet (s : State) (v : W32) : State := (s.setReg A.dbgMemCtrl (goWord s v)).set F.dbgMemCtrl_BUSY 1

theorem goState_idle {s : State} (h : s.getB F.dbgMemCtrl_BUSY = false) (v : W32) : goState s v = (s.goSet v).updDbg
    (fun x => { x with xfer := some (goWord s v, s.get F.dbgMemAddr_ADDR, s.get64 A.dbgMemDataLo) }) := if_pos (by simp [h])

theorem RegsBut.updDbg {l : List Nat} {s t : State} (h : RegsBut l s t) (f : DbgSt → DbgSt) : RegsBut l s (t.updDbg f) := h

theorem goSet_reg (s : State) (v : W32) : (s.goSet v).reg A.dbgMemCtrl = setBits (goWord s v) 25 25 1 := by
  refine (State.reg_setReg_same ..).trans (congrArg (setBits · 25 25 1) ?_)
  exact State.reg_setReg_same s A.dbgMemCtrl _

theorem goSet_frame (s : State) (v : W32) : s.goSet v = { s with regs := (s.goSet v).regs } := rfl

theorem goState_reg (s : State) (v : W32) : (goState s v).reg A.dbgMemCtrl = setBits (goWord s v) 25 25 1 := by
  cases h : s.getB F.dbgMemCtrl_BUSY
  case false =>
    rw [goState_idle h, State.updDbg_reg, goSet_reg]
  case true =>
    have hbusy : (s.reg A.dbgMemCtrl).getLsbD 25 = true := (State.getB_bit s A.dbgMemCtrl).symm.trans h
    rw [goState_busy h, State.reg_setReg_same]
    refine BitVec.eq_of_getLsbD_eq fun i hi => ?_
    rw [setBits_getLsbD]
    by_cases h25 : i = 25
    · subst h25
      rw [goWord_bit s v hi (by decide), hbusy]
      rfl
    · rw [if_neg (by omega)]

theorem goState_takes (s : State) (v : W32) : GoTakes s (goState s v) v (v.getLsbD 26) := by
  have hbit {i : Nat} (hi : i < 32) (h25 : i ≠ 25) : (setBits (goWord s v) 25 25 1).getLsbD i = (goWord s v).getLsbD i := by
    rw [setBits_getLsbD, if_neg (by omega)]
  refine ⟨?regs, ?_, ?_, ?_, ?_, ?err, ?frame, fun hbusy => ?xfer⟩
  case regs =>
    have hword := (RegsBut.refl [A.dbgMemCtrl] s).setReg List.mem_cons_self (goWord s v)
    cases hbusy : s.getB F.dbgMemCtrl_BUSY
    · rw [goState_idle hbusy]
      exact (hword.set (f := F.dbgMemCtrl_BUSY) List.mem_cons_self 1).updDbg _
    · rw [goState_busy hbusy]
      exact hword
  case err =>
    refine (State.getB_bit _ _).trans ?_
    refine Eq.trans ?_ (congrArg (· && _) (State.getB_bit s A.dbgMemCtrl (i := 26)).symm)
    rw [State.bitAt, goState_reg, hbit (by decide) (by decide), goWord_bit s v (by decide) (by decide)]
    rfl
  case frame =>
    cases hbusy : s.getB F.dbgMemCtrl_BUSY
    · rw [goState_idle hbusy, goSet_frame]
      rfl
    · rw [goState_busy hbusy]
      rfl
  case xfer =>
    rw [goState_idle hbusy]
    exact ⟨_, rfl, goWord_engine s v, goWord_write s v, goWord_space s v⟩
  · refine (State.getB_bit _ _).trans ?_
    rw [State.bitAt, goState_reg, setBits_getLsbD]
    rfl
  · rw [State.get, show F.dbgMemCtrl_ENGINE.a = A.dbgMemCtrl from rfl, goState_reg]
    exact (bits_setBits_other _ _ _ _ _ _ (by decide)).trans (goWord_engine s v)
  · refine (State.getB_bit _ _).trans ?_
    rw [State.bitAt, goState_reg, hbit (by decide) (by decide), goWord_write]
  · rw [State.get, show F.dbgMemCtrl_SPACE.a = A.dbgMemCtrl from rfl, goState_reg]
    exact (bits_setBits_other _ _ _ _ _ _ (by decide)).trans (goWord_space s v)

theorem GoTakes.congr {s t : State} {v w : W32} {b c : Bool} (h : GoTakes s t w b) (hb : b = c) (hfield : bits w 5 0 = bits v 5 0)
    (hwrite : w.getLsbD 30 = v.getLsbD 30) (hspace : bits w 29 27 = bits v 29 27) : GoTakes s t v c := by
  unfold GoTakes at h ⊢
  rwa [hb, hfield, hwrite, hspace] at h

/-- A written word of DBG.MEM_CTRL without an ERR that hardware sets in the same cycle. -/
theorem spared_dbgMemCtrl (s : State) (v : W32) {i : Nat} (hi : i < 32) : (s.spared A.dbgMemCtrl v).getLsbD i =
    (v.getLsbD i && !(i == 26 && (Table.look 0 s.clk.fresh A.dbgMemCtrl).testBit 26)) := by
  have hw1c : (regGroup? A.dbgMemCtrl).map (·.w1c) = some (2 ^ 26) := by decide +kernel
  rw [spared_of_w1c hw1c, Nat.and_two_pow]
  simp only [BitVec.getLsbD_and, BitVec.getLsbD_not, hi, decide_true, Bool.true_and]
  cases (Table.look 0 s.clk.fresh A.dbgMemCtrl).testBit 26
  · simp
  · have hone : (BitVec.ofNat 32 (Bool.toNat true * 2 ^ 26)).getLsbD i = decide (i = 26) := by
      rw [Bool.toNat_true, Nat.one_mul]
      exact getLsbD_two_pow (by decide) i
    rw [hone]
    by_cases h26 : i = 26 <;> simp [h26]

section
variable {jtag : Bool} {s : State}

theorem dbgAs_go (hreach : DbgReaches jtag s) (howner : s.get F.dbgCtrl_OWNER = pathOf jtag) (v : W32) :
    dbgAs jtag A.dbgMemCtrl (v ||| 0x80000000) s = goState s (s.spared A.dbgMemCtrl (v ||| 0x80000000)) := by
  have hzero := pathOf_ne_zero jtag
  have hgo : bit (s.spared A.dbgMemCtrl (v ||| 0x80000000)) 31 = true := by
    rw [bit, spared_dbgMemCtrl s _ (by decide), BitVec.getLsbD_or]
    simp
  rw [dbgAs_of_reaches (by decide) hreach, dbgWrite, if_neg (by simp [dbgPath_of_reaches hreach]), if_neg (fun h => absurd h.2.2.1 (by
    simp [A.dbgMemCtrl, A.dbgCtrl])), if_neg (by omega), if_neg (by decide), if_neg (by omega), if_pos rfl, goState]
  simp only [hgo, true_and]
  have hreg : (s.setReg A.dbgMemCtrl (goWord s (s.spared A.dbgMemCtrl (v ||| 0x80000000)))).reg A.dbgMemCtrl =
    goWord s (s.spared A.dbgMemCtrl (v ||| 0x80000000)) := State.reg_setReg_same ..
  unfold goWord at hreg ⊢
  rw [hreg]

theorem dbgAs_go_takes (hreach : DbgReaches jtag s) (howner : s.get F.dbgCtrl_OWNER = pathOf jtag) (v : W32) :
    GoTakes s (dbgAs jtag A.dbgMemCtrl (v ||| 0x80000000) s) v
      (v.getLsbD 26 && !(Table.look 0 s.clk.fresh A.dbgMemCtrl).testBit 26) := by
  rw [dbgAs_go hreach howner]
  have htop : ∀ j < 32, (0x80000000 : W32).getLsbD j = decide (j = 31) := by decide
  have hbit {i : Nat} (hi : i < 31) (h26 : i ≠ 26) : (s.spared A.dbgMemCtrl (v ||| 0x80000000)).getLsbD i = v.getLsbD i := by
    have h31 : i ≠ 31 := by omega
    rw [spared_dbgMemCtrl s _ (by omega), BitVec.getLsbD_or, htop i (by omega)]
    simp [h26, h31]
  refine (goState_takes s _).congr ?_ (bits_congr fun i hlo hhi => hbit (by omega) (by omega)) (hbit (by decide) (by decide))
    (bits_congr fun i hlo hhi => hbit (by omega) (by omega))
  rw [spared_dbgMemCtrl s _ (by decide), BitVec.getLsbD_or, htop 26 (by decide)]
  simp

end

/-! ## The memory window (R581) -/

/-- A transfer as GO took it: the word of DBG.MEM_CTRL, the address and the data. -/
abbrev DbgXfer := W32 × Nat × Nat

section
variable (s : State) (r : DbgXfer)

def xferWho : Nat := bits r.1 5 0
def xferWrite : Bool := r.1.getLsbD 30
def xferSpace : Nat := bits r.1 29 27

/-- Whether the block may move the word of a transfer. -/
def XferAllowed : Prop := (xferWho r < 34 ∨ s.lc = 1) ∧ xferWho r < 38 ∧ (s.mode = mService ∨ s.lc = 1 ∨ (s.lc = 2 ∧ xferWrite r = false)) ∧
  (xferWrite r = true → s.getB (F.dbgEngStatus_HALTED (xferWho r)) = true)

/-- The state in which a transfer has ended. -/
def xferEnded : State := { (s.set F.dbgMemCtrl_BUSY 0) with dbg := { s.dbg with xfer := none } }

/-- A transfer that moves nothing. -/
def XferFailed (t : State) : Prop := RegsBut [A.dbgMemCtrl] s t ∧ t.getB F.dbgMemCtrl_BUSY = false ∧ t.getB F.dbgMemCtrl_ERR = true ∧
  (∀ f, f ∈ [F.dbgMemCtrl_ENGINE, F.dbgMemCtrl_WRITE, F.dbgMemCtrl_SPACE] → t.get f = s.get f) ∧
  t = { xferEnded s with clk := { s.clk with fresh := t.clk.fresh }, regs := t.regs }

theorem xferFailed_flag : XferFailed s ((xferEnded s).flag F.dbgMemCtrl_ERR) := by
  have hbusy : RegsBut [A.dbgMemCtrl] s (s.set F.dbgMemCtrl_BUSY 0) := (RegsBut.refl _ s).set (f := F.dbgMemCtrl_BUSY) List.mem_cons_self 0
  have hended : RegsBut [A.dbgMemCtrl] s (xferEnded s) := hbusy
  have hget (f : Fld) : (xferEnded s).get f = (s.set F.dbgMemCtrl_BUSY 0).get f := rfl
  refine ⟨hended.flag (f := F.dbgMemCtrl_ERR) List.mem_cons_self, ?_, ?_, fun f hf => ?_, rfl⟩
  · refine State.getB_of_get (v := 0) ?_
    rw [State.get_flag, State.get_set_bits _ _ (by decide), hget]
    exact State.get_set_same _ _ _ (by decide)
  · exact State.getB_of_get (v := 1) ((State.get_flag ..).trans (State.get_set_same _ _ _ (by decide)))
  · have hbits : f.hi < 25 ∨ 26 < f.lo := by
      revert f
      decide
    rw [State.get_flag, State.get_set_bits _ _ (by simp only [F.dbgMemCtrl_ERR]; omega), hget,
      State.get_set_bits _ _ (by simp only [F.dbgMemCtrl_BUSY]; omega)]

/-- The 64-bit word `k` of an accumulator; the last holds its upper 32 bits. -/
def accPart (k : Nat) (acc : BitVec 160) : Nat := acc.toNat / 2 ^ (64 * k) % 2 ^ (if k = 2 then 32 else 64)

/-- An accumulator with its word `k` replaced. -/
def accPatch (data k : Nat) (acc : BitVec 160) : BitVec 160 :=
  BitVec.ofNat 160 (acc.toNat - accPart k acc * 2 ^ (64 * k) + data % 2 ^ (if k = 2 then 32 else 64) * 2 ^ (64 * k))

theorem nbits_accPart {k : Nat} (hk : k < 3) (acc : BitVec 160) : nbits acc.toNat (min 159 (64 * k + 63)) (64 * k) = accPart k acc := by
  have hcases : k = 0 ∨ k = 1 ∨ k = 2 := by omega
  rcases hcases with rfl | rfl | rfl <;> rfl

theorem nbits_accPart_width {k : Nat} (hk : k < 3) (acc : BitVec 160) :
    nbits acc.toNat (64 * k + (if k = 2 then 32 else 64) - 1) (64 * k) = accPart k acc := by
  have hcases : k = 0 ∨ k = 1 ∨ k = 2 := by omega
  rcases hcases with rfl | rfl | rfl <;> rfl

/-- What a read of a space gives, with what reading does; none outside the space. -/
def xferRead : Option (Nat × State) :=
  let who := xferWho r
  let space := xferSpace r
  let addr := r.2.1
  let at8 := addr / 8 * 8
  let y := s.eng who
  let u := xferEnded s
  let set : RegSet := if space = 2 then y.base else y.intr
  if space = 0 then (match sparLoad who at8 8 u with | .ok p => some p | .error _ => none)
  else if space = 1 then (if addr < 0xC000 then some (memLe (if y.active then y.code1 else y.code0) at8 8, u) else none)
  else if space = 2 ∨ space = 3 then
    (if addr < 64 then some ((Table.look 0 set.g addr).toNat, u) else if addr < 67 then some (accPart (addr - 64) set.acc0, u)
      else if addr < 70 then some (accPart (addr - 67) set.acc1, u) else none)
  else (mfc who addr u).map (fun p => (p.toNat, u))

/-- A register set with the word at `addr` replaced; none outside it. -/
def setPoke (data addr : Nat) (z : RegSet) : Option RegSet :=
  if addr < 64 then some { z with g := Table.put 0 addr (BitVec.ofNat 64 data) z.g }
  else if addr < 67 then some { z with acc0 := accPatch data (addr - 64) z.acc0 }
  else if addr < 70 then some { z with acc1 := accPatch data (addr - 67) z.acc1 }
  else none

/-- What a write of a space leads to; none outside the space. -/
def xferStored : Option State :=
  let who := xferWho r
  let space := xferSpace r
  let addr := r.2.1
  let at8 := addr / 8 * 8
  let data := r.2.2 % 2 ^ 64
  let y := s.eng who
  let u := xferEnded s
  if space = 0 then (match sparStore who at8 8 data u with | .ok t => some t | .error _ => none)
  else if space = 1 then (if addr < 0xC000 then some (u.updEng who (fun z =>
    if z.active then { z with code1 := memPut data at8 8 z.code1 } else { z with code0 := memPut data at8 8 z.code0 })) else none)
  else if space = 2 then (setPoke data addr y.base).map (fun z => u.updEng who (fun x => { x with base := z }))
  else if space = 3 then (setPoke data addr y.intr).map (fun z => u.updEng who (fun x => { x with intr := z }))
  else mtc who addr (BitVec.ofNat 64 data) u

/-- The read of the model, by the words of a register set. -/
theorem dbgPeek_set (a : Nat) (t : State) (x : RegSet) :
    ((if a < 64 then some (Table.look 0 x.g a).toNat
      else if a < 67 then some (nbits x.acc0.toNat (min 159 (64 * (a - 64) + 63)) (64 * (a - 64)))
      else if a < 70 then some (nbits x.acc1.toNat (min 159 (64 * (a - 67) + 63)) (64 * (a - 67)))
      else none).map (fun v => (v, t)) : Option (Nat × State)) =
    if a < 64 then some ((Table.look 0 x.g a).toNat, t) else if a < 67 then some (accPart (a - 64) x.acc0, t)
      else if a < 70 then some (accPart (a - 67) x.acc1, t) else none := by
  by_cases h64 : a < 64
  · simp only [h64, if_true, Option.map_some]
  · by_cases h67 : a < 67
    · simp only [h64, h67, if_true, if_false, Option.map_some, nbits_accPart (show a - 64 < 3 by omega)]
    · by_cases h70 : a < 70
      · simp only [h64, h67, h70, if_true, if_false, Option.map_some, nbits_accPart (show a - 67 < 3 by omega)]
      · simp only [h64, h67, h70, if_false, Option.map_none]

theorem dbgPeek_eq : dbgPeek (xferWho r) (xferSpace r) r.2.1 (xferEnded s) = xferRead s r := by
  unfold dbgPeek xferRead
  generalize xferSpace r = space
  match space with
  | 0 => rfl
  | 1 => rfl
  | 2 => exact dbgPeek_set r.2.1 (xferEnded s) _
  | 3 => exact dbgPeek_set r.2.1 (xferEnded s) _
  | n + 4 => rfl

/-- The write of the model into a register set. -/
theorem dbgPoke_set (w a : Nat) (v : W64) (hv : v = BitVec.ofNat 64 w) (x : RegSet) :
    (if a < 64 then some { x with g := Table.put 0 a v x.g }
      else if a < 67 then some { x with acc0 := BitVec.ofNat 160 (x.acc0.toNat - nbits x.acc0.toNat (64 * (a - 64) +
        (if a - 64 = 2 then 32 else 64) - 1) (64 * (a - 64)) * 2 ^ (64 * (a - 64)) + w % 2 ^ (if a - 64 = 2 then 32 else 64) * 2 ^ (64 * (a - 64))) }
      else if a < 70 then some { x with acc1 := BitVec.ofNat 160 (x.acc1.toNat - nbits x.acc1.toNat (64 * (a - 67) +
        (if a - 67 = 2 then 32 else 64) - 1) (64 * (a - 67)) * 2 ^ (64 * (a - 67)) + w % 2 ^ (if a - 67 = 2 then 32 else 64) * 2 ^ (64 * (a - 67))) }
      else none) = setPoke w a x := by
  subst hv
  unfold setPoke accPatch
  by_cases h64 : a < 64
  · simp only [h64, if_true]
  · by_cases h67 : a < 67
    · simp only [h64, h67, if_true, if_false, nbits_accPart_width (show a - 64 < 3 by omega)]
    · by_cases h70 : a < 70
      · simp only [h64, h67, h70, if_true, if_false, nbits_accPart_width (show a - 67 < 3 by omega)]
      · simp only [h64, h67, h70, if_false]

theorem dbgPoke_eq : dbgPoke (xferWho r) (xferSpace r) r.2.1 (BitVec.ofNat 64 r.2.2) (xferEnded s) = xferStored s r := by
  have hdata : (BitVec.ofNat 64 r.2.2).toNat = r.2.2 % 2 ^ 64 := BitVec.toNat_ofNat ..
  have hword : BitVec.ofNat 64 r.2.2 = BitVec.ofNat 64 (r.2.2 % 2 ^ 64) := BitVec.eq_of_toNat_eq (by simp)
  unfold dbgPoke xferStored
  dsimp only
  rw [hdata]
  generalize xferSpace r = space
  match space with
  | 0 => rfl
  | 1 => rfl
  | 2 => exact congrArg (Option.map _) (dbgPoke_set _ r.2.1 _ hword _)
  | 3 => exact congrArg (Option.map _) (dbgPoke_set _ r.2.1 _ hword _)
  | n + 4 => exact congrArg (mtc (xferWho r) r.2.1 · (xferEnded s)) hword

theorem xferAllowed_iff : XferAllowed s r ↔ ¬ (!s.dbgReach (xferWho r) ∨ 38 ≤ xferWho r ∨ !s.dbgMemMay (xferWrite r) ∨
    (xferWrite r ∧ !s.getB (F.dbgEngStatus_HALTED (xferWho r)))) := by
  unfold XferAllowed
  by_cases hwho : xferWho r < 38
  · have h38 : ¬ 38 ≤ xferWho r := by omega
    have hreach := dbgReach_iff (s := s) hwho
    have hmay : s.dbgMemMay (xferWrite r) = true ↔ s.mode = mService ∨ s.lc = 1 ∨ (s.lc = 2 ∧ xferWrite r = false) := by
      simp [State.dbgMemMay, or_assoc]
    rw [← hreach, ← hmay]
    simp [hwho, h38]
  · have h38 : 38 ≤ xferWho r := by omega
    simp [hwho, h38]

variable {s r}

theorem dbgTransfer_of_failed (hx : s.dbg.xfer = some r) (h : ¬ XferAllowed s r) : dbgTransfer s = (xferEnded s).flag F.dbgMemCtrl_ERR := by
  rw [xferAllowed_iff, not_not] at h
  rw [dbgTransfer, hx]
  exact if_pos h

theorem dbgTransfer_of_read (hx : s.dbg.xfer = some r) (h : XferAllowed s r) (hw : xferWrite r = false) :
    dbgTransfer s = match xferRead s r with
      | some (v, t) => t.set64 A.dbgMemDataLo v
      | none => (xferEnded s).flag F.dbgMemCtrl_ERR := by
  rw [xferAllowed_iff] at h
  rw [dbgTransfer, hx, ← dbgPeek_eq]
  refine (if_neg h).trans ((if_neg (by simp [show bit r.1 30 = false from hw])).trans ?_)
  rfl

theorem dbgTransfer_of_write (hx : s.dbg.xfer = some r) (h : XferAllowed s r) (hw : xferWrite r = true) :
    dbgTransfer s = match xferStored s r with
      | some t => t
      | none => (xferEnded s).flag F.dbgMemCtrl_ERR := by
  rw [xferAllowed_iff] at h
  rw [dbgTransfer, hx, ← dbgPoke_eq]
  refine (if_neg h).trans ((if_pos hw).trans ?_)
  rfl

end

/-! ## The statement -/

section
variable {jtag : Bool} {s : State}

/-- The port of `s` with IDCODE in force, in a state. -/
def State.tapIdle (t s : State) : State := { t with dbg := { s.dbg with ir := .idcode, tdr := s.idcode } }

/-- A TAP reset detaches a JTAG owner, and puts IDCODE in force in any case. -/
theorem tapReset_eq (s : State) :
    tapReset s = (if s.get F.dbgCtrl_OWNER = 2 then dbgDetach s else s).tapIdle s := by
  unfold tapReset
  split
  · obtain ⟨-, -, -, hregs, -⟩ := dbgDetach_detached s
    have hrev : (dbgDetach s).idcode = s.idcode := by
      unfold State.idcode
      rw [hregs.get (f := F.glbId_REV)]
      simp only [List.mem_cons, List.mem_flatMap, List.mem_filter, not_or, not_exists, not_and]
      refine ⟨by decide, fun k hk hin => ?_⟩
      have hplace := haltShow_subset s k hin
      simp only [List.mem_cons, List.not_mem_nil, or_false, A.dbgEngStatus, A.clkEngStat, A.pwmSlotStatus, F.glbId_REV, A.glbId] at hplace
      omega
    obtain ⟨hload, -, -⟩ := jtagLoad_idcode (dbgDetach s)
    have hframe := congrArg State.dbg (dbgDetach_frame s)
    rw [hload, hrev, hframe]
    rfl
  · exact (jtagLoad_idcode s).1

end

/-- Settles O58: a command is a write of its path to the block, which acts for the owner alone; a transfer moves its word or sets ERR. -/
theorem debugAccess : Obligations.DebugAccess := by
  intro jtag e v cyc s path owner reaches other n halted fields regsBut contend goes shown engines detached attach detach
  have hnext {t u : State} (h : t = u) : (.next t : Host.Outcome State Fault Refusal) = .next u := congrArg _ h
  have hcontend {u t : State} (h : Contends s u t) : contend (.next t) u := ⟨t, rfl, h⟩
  have hdetached : detached (dbgDetach s) := dbgDetach_detached s
  have hctrl : A.dbgCtrl ∈ dbgCommanded := List.mem_cons_self
  have hengine := dbgEngCtrl_commanded e
  have hgo : A.dbgMemCtrl ∈ dbgCommanded := by decide
  refine ⟨⟨fun h => ?unreached, fun h => ⟨fun howner => ?attach, fun howner => ?again, fun hother => ⟨fun hboth => ?foreign, ?leave⟩,
    fun howner => ?detach, fun howner => ?free⟩⟩, ⟨fun howner => ?tap, fun howner => ?quiet⟩, ⟨fun h => ?none, fun h hother => ?others,
    fun h howner => ⟨fun hnot => ?nohalt, fun hmay hhalted hruns => ?halt, fun hnot => ?nostep, fun hmay hhalted => ⟨?resume, ?step⟩, ?go⟩⟩,
    fun hx => ?idle, fun r hx => ⟨fun hnot => ?refused, fun hallowed hw => ?read, fun hallowed hw => ?write⟩⟩
  case unreached => exact ⟨hnext (dbgAs_of_unreached (s := s.atCyc cyc) hctrl h _), hnext (dbgAs_of_unreached hctrl h 0)⟩
  case attach => exact ⟨_, rfl, dbgAs_attach h howner⟩
  case again => exact hnext (dbgAs_attach_owner h howner)
  case foreign => exact hcontend (dbgAs_attach_other h hother hboth)
  case leave => exact hcontend (dbgAs_of_other hctrl h hother (by rw [spared_dbgCtrl s (.inr rfl)]; rfl))
  case detach => exact ⟨_, hnext (dbgAs_detach_owner h howner), hdetached, dbgDetach_frame s⟩
  case free => exact hnext (dbgAs_detach_unowned h howner)
  case tap =>
    have hstate := (tapReset_eq s).trans (by rw [if_pos howner])
    refine ⟨(dbgDetach s).tapIdle s, hnext hstate, hdetached, ?_⟩
    exact congrArg (fun t : State => t.tapIdle s) (dbgDetach_frame s)
  case quiet => exact hnext ((tapReset_eq s).trans (by rw [if_neg howner]; rfl))
  case none =>
    have hsame {a : Nat} (ha : a ∈ dbgCommanded) (hne : a ≠ A.dbgCtrl) (w : W32) : dbgAs jtag a w s = s :=
      h.elim (fun h => dbgAs_of_unreached ha h w) (fun h => dbgAs_of_unowned ha hne h w)
    have hne : A.dbgEngCtrl e.val ≠ A.dbgCtrl := by simp only [A.dbgEngCtrl, A.dbgCtrl]; omega
    exact ⟨hnext (hsame hengine hne 1), hnext (hsame hengine hne 2), hnext (hsame hengine hne 4),
      hnext (hsame hgo (by decide) _)⟩
  case others =>
    have hother' {a : Nat} (ha : a ∈ dbgCommanded) (hne : (a == A.dbgCtrl) = false) (w : W32) : Contends s s (dbgAs jtag a w s) :=
      dbgAs_of_other ha h hother (by rw [hne]; rfl)
    have hne : (A.dbgEngCtrl e.val == A.dbgCtrl) = false := by simp only [A.dbgEngCtrl, A.dbgCtrl, beq_eq_false_iff_ne]; omega
    exact ⟨hcontend (hother' hengine hne 1), hcontend (hother' hengine hne 2), hcontend (hother' hengine hne 4), hcontend (hother' hgo rfl _)⟩
  case nohalt => exact hnext ((dbgAs_engine e h howner 1).trans (dbgEngWrite_halt_none hnot))
  case halt => exact ⟨_, hnext ((dbgAs_engine e h howner 1).trans (dbgEngWrite_halt hmay hhalted hruns)), haltEngine_halts hmay.2.1 s⟩
  case nostep =>
    exact ⟨hnext ((dbgAs_engine e h howner 2).trans (dbgEngWrite_unhalted hnot (by decide))),
      hnext ((dbgAs_engine e h howner 4).trans (dbgEngWrite_unhalted hnot (by decide)))⟩
  case resume =>
    exact ⟨_, hnext ((dbgAs_engine e h howner 2).trans (dbgEngWrite_resume hmay hhalted)), resumeEngine_regs n s,
      fun m hm => resumeEngine_eng_other hm s, resumeEngine_goes hmay.2.1 s, resumeEngine_frame n s⟩
  case step =>
    exact ⟨_, hnext ((dbgAs_engine e h howner 4).trans (dbgEngWrite_step hmay hhalted)), fun m hm => State.eng_updEng_other _ _ hm,
      State.eng_updEng_same .., rfl⟩
  case go => exact ⟨_, rfl, dbgAs_go_takes h howner v⟩
  case idle => exact hnext (by rw [dbgTransfer, hx])
  case refused => exact ⟨_, hnext (dbgTransfer_of_failed hx hnot), xferFailed_flag s⟩
  case read =>
    have hstate := dbgTransfer_of_read hx hallowed hw
    refine ⟨fun hnone => ?_, fun p hp => ?_⟩
    · rw [show xferRead s r = none from hnone] at hstate
      exact ⟨_, hnext hstate, xferFailed_flag s⟩
    · rw [show xferRead s r = some p from hp] at hstate
      exact hnext hstate
  case write =>
    have hstate := dbgTransfer_of_write hx hallowed hw
    refine ⟨fun hnone => ?_, fun t ht => ?_⟩
    · rw [show xferStored s r = none from hnone] at hstate
      exact ⟨_, hnext hstate, xferFailed_flag s⟩
    · rw [show xferStored s r = some t from ht] at hstate
      exact hnext hstate

end Sys2Proof.Machine
end

section
/-!
PROOF. A loss of the link (spec/12_network_and_time.md, R422): what a port's status makes of a node in a slot number out of range, whose state lies
past NET.NODE_STATE.
-/
namespace Sys2Proof.Machine

-- As in `Laws/Rows`, the proofs of this section, which run the model in the kernel, are elaborated one after another.
set_option Elab.async false

/-- Port 0 is in Halyard mode and its link is up. A node slot in number 392 is configured; its state would stand in the low bits of
NET.PORT0_STATUS, past the registers of the 128 slots. -/
def nodePastSlots : State :=
  let s := (State.reset.set (F.netPortCfg_MODE 0) 2).set (F.netPortStatus_LINK 0) 1
  s.updNode 392 (fun x => { x with cfg := some {
    owner := 0xFF, wd := 2, rejoin := true, tse := false, port := 2, product := 0, vendor := 0, serial := 0, count := 0, base := 0
    ioOut := 0, ioIn := 0 } })

theorem nodePastSlots_met : nodePastSlots.portMode 0 = 2 ∧ nodePastSlots.linkUp 0 = true ∧ nodePastSlots.linkNodes 0 = [] ∧
    nodePastSlots.host.evBuf.length = 0 := by
  decide +kernel

/-- The link goes down with SPEED 1: the port's status reads 4 in the bits of that node's state, and the node leaves with an event. -/
theorem linkChange_writes_state_past_slots : (linkChange 0 false 1 nodePastSlots).host.evBuf.length = 2 := by
  decide +kernel

/-- Refutes O47: the clause of a link change without nodes on the link gives one event, but the number of a node slot is in no range: the state of
slot 392 stands in NET.PORT0_STATUS, where SPEED with LINK 0 reads as JOINED, and the node leaves with an event of its own. The clause would need
the configured slots to be of 0 to 127 as a hypothesis, as they are in every state that NODE_CFG makes. -/
theorem not_netFrames : ¬ Obligations.NetFrames := by
  intro h
  obtain ⟨hmode, hlink, hnodes, hroom⟩ := nodePastSlots_met
  obtain ⟨⟨-, hchange⟩, -⟩ := h { ring := 0, len := 1 } 0 false 1 false 0 0 0 nodePastSlots
  obtain ⟨t, ht, -, -, -, -, -, -, -, -, -, -, -, hevents, -⟩ := hchange (fun hsame => by
    rcases hsame with hoff | ⟨hup, -⟩
    · exact absurd (hmode.symm.trans hoff) (by decide)
    · exact absurd (hlink.symm.trans hup) (by decide)) hnodes
  obtain rfl : linkChange 0 false 1 nodePastSlots = t := Host.Outcome.next.inj ht
  have hlength := congrArg List.length (hevents (by omega))
  rw [List.length_append, linkChange_writes_state_past_slots, hroom] at hlength
  exact absurd hlength (by decide)

end Sys2Proof.Machine
end

section
/-!
PROOF. Capture control, the strobe of a unit and the capture rings (spec/11_capture.md, R406 to R419).
-/
namespace Sys2Proof.Machine

/-! ## A field forced in word 1 -/

section
variable {hi lo v : Nat} (d : Desc) (hhi : hi < 64) (hlo : lo ≤ hi) (hv : v < 2 ^ (hi + 1 - lo))
include hhi hlo hv

/-- The forced field, where the descriptor has word 1. -/
theorem force_f_same (hlen : 1 ≤ d.len.val) : (d.force 1 hi lo v).f 1 hi lo = v := by
  rw [Desc.f, desc_w_one, force_len, if_neg (by omega), bits, force_w1 d hhi hlo hv]
  refine Nat.eq_of_testBit_eq fun i => ?_
  rw [nbits_testBit, testBit_replace_field _ hlo hv]
  by_cases hi' : i < hi + 1 - lo
  · rw [if_pos (by omega), Nat.add_sub_cancel_left]
    simp [hi']
  · rw [Nat.testBit_lt_two_pow (hv.trans_le (Nat.pow_le_pow_right (by decide) (Nat.le_of_not_lt hi')))]
    simp [hi']

/-- A field beside the forced one. -/
theorem force_f_beside {hi' lo' : Nat} (h : hi' < lo ∨ hi < lo') : (d.force 1 hi lo v).f 1 hi' lo' = d.f 1 hi' lo' :=
  nbits_congr fun _ _ _ => force_bit_other d hhi hlo hv (by omega)

end

/-- A descriptor with CMD outside 1 to 4 asks for nothing. -/
theorem noCmd_f (d : Desc) : (d.noCmd 4).f 1 11 8 = 0 ∨ 4 < (d.noCmd 4).f 1 11 8 := by
  unfold Desc.noCmd
  split
  case isTrue h =>
    refine .inl (force_f_same d (by decide) (by decide) (by decide) ?_)
    by_contra hlen
    have hzero : d.f 1 11 8 = 0 := by rw [Desc.f, desc_w_one, if_pos (by omega)]; rfl
    omega
  case isFalse h => omega

/-! ## CAPTURE_CTRL (R406, R408) -/

/-- The capacity of a unit in records. -/
def State.capRoom (s : State) (u : Nat) : Nat :=
  s.get (F.capCuAlloc_ALLOC u) * (65536 / (8 * s.get (F.capCuCfg_TSTAMP u) + 4 * (s.get (F.capCuCfg_NSRC_M1 u) + 1)))
/-- POST within the capacity; a stream has none. -/
def State.postIn (s : State) (u post : Nat) : Nat := if s.get (F.capCuCfg_MODE u) = 2 then post else min post (s.capRoom u)
/-- PRE within what POST leaves of the capacity. -/
def State.preIn (s : State) (u pre post : Nat) : Nat :=
  if s.get (F.capCuCfg_MODE u) = 2 then min pre (s.capRoom u) else min pre (s.capRoom u - s.postIn u post)

theorem capClamp_eq (s : State) (u pre post : Nat) : capClamp s u pre post = (s.preIn u pre post, s.postIn u post) := by
  have hroom : s.cuAlloc u * s.perBlock u = s.capRoom u := rfl
  unfold capClamp State.preIn State.postIn State.cuMode
  rw [hroom]
  dsimp only
  by_cases hstream : s.get (F.capCuCfg_MODE u) = 2
  · simp [hstream]
  · simp only [hstream, if_false]
    split
    · exact Prod.ext (show 0 = min pre _ by omega) (show s.capRoom u = min post _ by omega)
    · split
      · exact Prod.ext (show s.capRoom u - post = min pre _ by omega) (show post = min post _ by omega)
      · exact Prod.ext (show pre = min pre _ by omega) (show post = min post _ by omega)

/-- The reason with which CAPTURE_CTRL refuses a command. -/
def State.capWhy (s : State) (u cmd : Nat) : Nat :=
  if cmd = 0 then 0
  else if cmd = 1 then (if s.get (F.capCuStatus_STATE u) ≠ 0 then 2 else if s.get (F.capCuAlloc_ALLOC u) = 0 then 3 else 0)
  else if s.get (F.capCuStatus_STATE u) = 0 then 2 else 0

/-- The command of a descriptor. -/
def capCmdOf (e : Desc) (cmd : Nat) (clamped : Bool) : CapCmd :=
  { unit := e.f 1 1 0, cmd := cmd, count := e.f 1 47 32, pre := e.f 2 31 0, post := e.f 2 63 32, clamped := clamped }

/-- A state in which commands wait for the strobe. -/
def State.asked (s : State) (l : List CapCmd) : State := { s with cap := { s.cap with cmds := s.cap.cmds ++ l } }

/-- Whether ARM clamps. -/
def State.capClamps (s : State) (e : Desc) : Bool :=
  decide (s.preIn (e.f 1 1 0) (e.f 2 31 0) (e.f 2 63 32) ≠ e.f 2 31 0 ∨ s.postIn (e.f 1 1 0) (e.f 2 63 32) ≠ e.f 2 63 32)

theorem asked_nil (s : State) : s.asked [] = s := by
  unfold State.asked
  rw [List.append_nil]

/-- A command, or the reason against it. -/
theorem opCapture_asks {e : Desc} {cmd : Nat} (hcmd : (cE 4 0 (e.f 1 11 8)).val = cmd) (s : State) :
    ∃ clamps, opCapture e s = (s.asked (if s.capWhy (e.f 1 1 0) cmd = 0 ∧ cmd ≠ 0 then
      [capCmdOf e cmd (cmd == 1 && s.capClamps e)] else []), why (s.capWhy (e.f 1 1 0) cmd) 0 clamps) := by
  have hclamps : ((s.preIn (e.f 1 1 0) (e.f 2 31 0) (e.f 2 63 32) != e.f 2 31 0) || (s.postIn (e.f 1 1 0) (e.f 2 63 32) != e.f 2 63 32)) =
      s.capClamps e := by
    rw [State.capClamps, Bool.eq_iff_iff]
    simp
  refine ⟨clampMask [(1, (cE 4 0 (e.f 1 11 8)).hit), (2, cmd == 1 && s.capClamps e)], ?_⟩
  unfold opCapture
  simp only [capClamp_eq, hcmd, hclamps]
  match cmd with
  | 0 => simp [State.capWhy, asked_nil]
  | 1 =>
    by_cases hidle : s.get (F.capCuStatus_STATE (e.f 1 1 0)) = 0
    · by_cases halloc : s.get (F.capCuAlloc_ALLOC (e.f 1 1 0)) = 0
      · simp [State.capWhy, State.cuState, State.cuAlloc, hidle, halloc, asked_nil]
      · simp [State.capWhy, State.cuState, State.cuAlloc, hidle, halloc, State.asked, capCmdOf]
    · simp [State.capWhy, State.cuState, hidle, asked_nil]
  | n + 2 =>
    by_cases hidle : s.get (F.capCuStatus_STATE (e.f 1 1 0)) = 0
    · simp [State.capWhy, State.cuState, hidle, asked_nil]
    · simp [State.capWhy, State.cuState, hidle, State.asked, capCmdOf]

/-- CAPTURE_CTRL, as its ring answers it. -/
theorem captureCtrl_answers {c : Instr} {d e : Desc} {s : State} {cmd : Nat} (hc : RunsForm c 0x0800 opCapture d e s) (h : Accepts s 0x0800 e)
    (hcmd : (cE 4 0 (e.f 1 11 8)).val = cmd) :
    ∃ t, Answers c d s t (decide (s.capWhy (e.f 1 1 0) cmd ≠ 0)) (s.capWhy (e.f 1 1 0) cmd * 2 ^ 24) ∧ OnlyRing d s t [] ∧
      t = { s with regs := t.regs, host := t.host, hostMem := t.hostMem, cap := { s.cap with cmds := t.cap.cmds } } ∧
      t.cap.cmds = s.cap.cmds ++ (if s.capWhy (e.f 1 1 0) cmd = 0 ∧ cmd ≠ 0 then [capCmdOf e cmd (cmd == 1 && s.capClamps e)] else []) := by
  obtain ⟨clamps, hop⟩ := opCapture_asks hcmd (s.fetched e)
  have hget (f : Fld) (hf : f.a < 0x1400 ∨ 0x2000 ≤ f.a) : (s.fetched e).get f = s.get f := fetched_get s e (not_ringHead e hf)
  have hu : e.f 1 1 0 < 4 := desc_f_lt ..
  have hwhy : (s.fetched e).capWhy (e.f 1 1 0) cmd = s.capWhy (e.f 1 1 0) cmd := by
    unfold State.capWhy
    rw [hget _ (by simp only [F.capCuStatus_STATE, A.capCuStatus]; omega), hget _ (by simp only [F.capCuAlloc_ALLOC, A.capCuAlloc]; omega)]
  have hroom : (s.fetched e).capRoom (e.f 1 1 0) = s.capRoom (e.f 1 1 0) := by
    unfold State.capRoom
    rw [hget _ (by simp only [F.capCuAlloc_ALLOC, A.capCuAlloc]; omega), hget _ (by simp only [F.capCuCfg_TSTAMP, A.capCuCfg]; omega),
      hget _ (by simp only [F.capCuCfg_NSRC_M1, A.capCuCfg]; omega)]
  have hclamps : (s.fetched e).capClamps e = s.capClamps e := by
    unfold State.capClamps State.preIn State.postIn
    rw [hroom, hget _ (by simp only [F.capCuCfg_MODE, A.capCuCfg]; omega)]
  rw [hwhy, hclamps] at hop
  obtain ⟨t, hanswers, honly, hframe, -, -⟩ := hc.completes h hop (.refl [] _) (by decide) rfl rfl
  refine ⟨t, ?_, honly, ?_, ?_⟩
  · have hreason (n : Nat) : (n != 0) = decide (n ≠ 0) := by cases n <;> rfl
    simpa only [why, Nat.add_zero, hreason] using hanswers
  · exact hframe.trans (by rw [hframe]; rfl)
  · rw [hframe]
    rfl

/-! ## What the acts of a unit leave alone -/

/-- The registers that a unit's running control writes, beside FULL of the rings and the count of lost events. -/
def unitRegs (u : Nat) : List Nat := [A.capCuStatus u, A.capCuCapno u, A.capCuDeadLast u, A.capCuHeld u, A.capFree]
def controlRegs (u : Nat) : List Nat := unitRegs u ++ (upto 4).map A.capCrStatus ++ [A.hriEvtLost]

/-- The running control of a unit leaves the other units and the commands that wait. -/
structure UnitActs (u : Nat) (s t : State) : Prop where
  units : ∀ j, j ≠ u → t.cu j = s.cu j
  regs : RegsBut (controlRegs u) s t
  cmds : t.cap.cmds = s.cap.cmds

theorem unitRegs_subset (u : Nat) : unitRegs u ⊆ controlRegs u := fun _ h => List.mem_append_left _ (List.mem_append_left _ h)

theorem State.cu_of_cap {s t : State} (h : t.cap = s.cap) (j : Nat) : t.cu j = s.cu j := by rw [State.cu, h, State.cu]

theorem State.cu_set (s : State) (f : Fld) (v j : Nat) : (s.set f v).cu j = s.cu j := State.cu_of_cap (State.set_cap ..) j

theorem evtLost_mem_controlRegs (u : Nat) : A.hriEvtLost ∈ controlRegs u := List.mem_append_right _ List.mem_cons_self

namespace UnitActs
variable {u : Nat} {s t v : State}

theorem refl (u : Nat) (s : State) : UnitActs u s s := ⟨fun _ _ => rfl, .refl _ s, rfl⟩

theorem trans (h : UnitActs u s t) (h' : UnitActs u t v) : UnitActs u s v :=
  ⟨fun j hj => (h'.units j hj).trans (h.units j hj), h.regs.trans h'.regs, h'.cmds.trans h.cmds⟩

theorem set (h : UnitActs u s t) {f : Fld} (hf : f.a ∈ controlRegs u) (x : Nat) : UnitActs u s (t.set f x) := ⟨h.units, h.regs.set hf x, h.cmds⟩

theorem flag (h : UnitActs u s t) {f : Fld} (hf : f.a ∈ controlRegs u) : UnitActs u s (t.flag f) := ⟨h.units, h.regs.flag hf, h.cmds⟩

theorem raise (h : UnitActs u s t) (code sev data ctrl : Nat) (p : List (Nat × Nat × Nat)) : UnitActs u s (t.raise code sev data ctrl p) where
  units j hj := (State.cu_of_cap (State.raise_cap ..) j).trans (h.units j hj)
  regs := h.regs.raise (evtLost_mem_controlRegs u) code sev data ctrl p
  cmds := (congrArg CapSt.cmds (State.raise_cap ..)).trans h.cmds

theorem updCu (h : UnitActs u s t) (f : CapUnit → CapUnit) : UnitActs u s (t.updCu u f) :=
  ⟨fun j hj => (State.cu_updCu_other t f hj).trans (h.units j hj), h.regs, h.cmds⟩

theorem whenB {f : State → State} (h : UnitActs u s t) (c : Bool) (hf : UnitActs u s (f t)) : UnitActs u s (whenB c f t) := by
  cases c
  · exact h
  · exact hf

theorem capRefresh (h : UnitActs u s t) : UnitActs u s (t.capRefresh u) :=
  h.set (f := F.capCuHeld_HELD u) (unitRegs_subset u (by simp [unitRegs, F.capCuHeld_HELD])) _

theorem setFree (h : UnitActs u s t) (n : Nat) : UnitActs u s (t.set F.capFree_FREE n) :=
  h.set (f := F.capFree_FREE) (unitRegs_subset u (by simp [unitRegs, F.capFree_FREE])) n

theorem setState (h : UnitActs u s t) (n : Nat) : UnitActs u s (t.set (F.capCuStatus_STATE u) n) :=
  h.set (f := F.capCuStatus_STATE u) (unitRegs_subset u (by simp [unitRegs, F.capCuStatus_STATE])) n

theorem flagStatus (h : UnitActs u s t) {f : Fld} (hf : f.a = A.capCuStatus u) : UnitActs u s (t.flag f) :=
  h.flag (unitRegs_subset u (by simp [unitRegs, hf]))

theorem capTake (h : UnitActs u s t) (n : Nat) : UnitActs u s (capTake u n t) := ((h.setFree _).updCu _).capRefresh

theorem capReturn (h : UnitActs u s t) (n : Nat) : UnitActs u s (capReturn u n t) := ((h.setFree _).updCu _).capRefresh

theorem capIdle (h : UnitActs u s t) : UnitActs u s (capIdle u t) := (((h.capReturn _).updCu _).setState _).capRefresh

theorem capStart (h : UnitActs u s t) : UnitActs u s (capStart u t) :=
  ((((h.capTake _).updCu _).setState _).set (f := F.capCuStatus_SEQ u) (unitRegs_subset u (by simp [unitRegs, F.capCuStatus_SEQ])) _).set
    (f := F.capCuDeadLast_DEAD_LAST u) (unitRegs_subset u (by simp [unitRegs, F.capCuDeadLast_DEAD_LAST])) _

theorem capQueue (h : UnitActs u s t) (e : CapEntry) : UnitActs u s (capQueue u e t) := ⟨h.units, h.regs, h.cmds⟩

theorem capBlock (h : UnitActs u s t) (rs : List CapRec) : UnitActs u s (capBlock u rs t) := ((h.capQueue _).updCu _).capRefresh

theorem capBlocks (n : Nat) (h : UnitActs u s t) : UnitActs u s (capBlocks u n t) := by
  induction n generalizing t with
  | zero => exact h
  | succ n ih =>
    rw [Machine.capBlocks]
    split
    · exact h
    · exact ih (h.capBlock _)

theorem capRingFull (h : UnitActs u s t) {m : Nat} (hm : m < 4) : UnitActs u s (capRingFull m t) :=
  h.set (f := F.capCrStatus_FULL m)
    (List.mem_append_left _ (List.mem_append_right _ (List.mem_map_of_mem (f := A.capCrStatus) (List.mem_range.mpr hm)))) _

end UnitActs

/-! ## The state of a unit after its acts -/

section
variable (u : Nat) (s : State)

theorem capTake_cu (n : Nat) : (capTake u n s).cu u = { s.cu u with own := (s.cu u).own + n } := by
  rw [capTake, State.capRefresh, State.cu_set, State.cu_updCu_same, State.cu_set]

theorem capTake_regs (n : Nat) : RegsBut [A.capFree, A.capCuHeld u] s (capTake u n s) :=
  (((RegsBut.refl _ s).set (f := F.capFree_FREE) List.mem_cons_self _)).set (f := F.capCuHeld_HELD u) (by simp [F.capCuHeld_HELD]) _

theorem capReturn_regs (n : Nat) : RegsBut [A.capFree, A.capCuHeld u] s (capReturn u n s) :=
  (((RegsBut.refl _ s).set (f := F.capFree_FREE) List.mem_cons_self _)).set (f := F.capCuHeld_HELD u) (by simp [F.capCuHeld_HELD]) _

theorem capIdle_cu : (capIdle u s).cu u = {} := by
  rw [capIdle, State.capRefresh, State.cu_set, State.cu_set, State.cu_updCu_same]

theorem capIdle_regs : RegsBut [A.capFree, A.capCuHeld u, A.capCuStatus u] s (capIdle u s) :=
  ((((capReturn_regs u s _).mono (by simp)).set (f := F.capCuStatus_STATE u) (by simp [F.capCuStatus_STATE]) cIdle)).set
    (f := F.capCuHeld_HELD u) (by simp [F.capCuHeld_HELD]) _

variable {u}

theorem capHeld_ne (a : Nat) (ha : a = A.capFree ∨ a = A.capCuStatus u ∨ a = A.capCuDeadLast u ∨ a = A.capCuCapno u) : a ≠ A.capCuHeld u := by
  simp only [A.capFree, A.capCuStatus, A.capCuDeadLast, A.capCuHeld, A.capCuCapno] at ha ⊢
  omega

theorem capTake_free (n : Nat) : (capTake u n s).get F.capFree_FREE = s.get F.capFree_FREE - n := by
  refine (State.get_set_reg _ _ (capHeld_ne _ (.inl rfl))).trans ((State.get_set_same s F.capFree_FREE _ (by decide)).trans ?_)
  exact Nat.mod_eq_of_lt (Nat.lt_of_le_of_lt (Nat.sub_le _ _) (Nat.mod_lt _ (by decide)))

theorem capIdle_state : (capIdle u s).get (F.capCuStatus_STATE u) = 0 := by
  refine (State.get_set_reg _ _ (capHeld_ne _ (.inr (.inl rfl)))).trans ?_
  exact State.get_set_same _ _ _ (by simp [F.capCuStatus_STATE])

theorem capIdle_capno : (capIdle u s).get (F.capCuCapno_CAPNO u) = s.get (F.capCuCapno_CAPNO u) := by
  refine (capIdle_regs u s).get ?_
  simp only [F.capCuCapno_CAPNO, A.capFree, A.capCuStatus, A.capCuHeld, A.capCuCapno, List.mem_cons, List.not_mem_nil, or_false]
  omega

end

/-- A unit samples from the strobe on. -/
def UnitStarts (u : Nat) (s t : State) : Prop := t.get (F.capCuStatus_STATE u) = 2 ∧ t.get (F.capCuStatus_SEQ u) = 0 ∧ (t.cu u).on = true ∧
  (t.cu u).t0 = s.clk.clk ∧ t.get F.capFree_FREE = s.get F.capFree_FREE - s.get (F.capCuAlloc_ALLOC u) ∧
  t.get (F.capCuDeadLast_DEAD_LAST u) = 0

theorem capStart_cu (u : Nat) (s : State) : ∃ l, (capStart u s).cu u =
    { s.cu u with own := (s.cu u).own + s.cuAlloc u, on := true, t0 := s.clk.clk, last := l } := by
  rw [capStart, State.cu_set, State.cu_set, State.cu_set, State.cu_updCu_same, capTake_cu]
  exact ⟨_, rfl⟩

theorem capStart_starts (u : Nat) (s : State) :
    UnitStarts u s (capStart u s) := by
  obtain ⟨l, hcu⟩ := capStart_cu u s
  have hdead : (F.capCuStatus_STATE u).a ≠ (F.capCuDeadLast_DEAD_LAST u).a := by
    simp only [F.capCuStatus_STATE, F.capCuDeadLast_DEAD_LAST, A.capCuStatus, A.capCuDeadLast]; omega
  have hfree : F.capFree_FREE.a ≠ (F.capCuDeadLast_DEAD_LAST u).a ∧ F.capFree_FREE.a ≠ (F.capCuStatus_STATE u).a ∧
      F.capFree_FREE.a ≠ (F.capCuStatus_SEQ u).a := by
    simp only [F.capFree_FREE, F.capCuDeadLast_DEAD_LAST, F.capCuStatus_STATE, F.capCuStatus_SEQ, A.capFree, A.capCuDeadLast, A.capCuStatus]
    omega
  refine ⟨?_, ?_, by rw [hcu], by rw [hcu], ?_, ?_⟩
  · rw [capStart, State.get_set_reg _ _ hdead, State.get_set_bits _ _ (by simp [F.capCuStatus_STATE, F.capCuStatus_SEQ])]
    exact State.get_set_same _ _ _ (by simp [F.capCuStatus_STATE])
  · rw [capStart, State.get_set_reg (g := F.capCuStatus_SEQ u) _ _ hdead]
    exact State.get_set_same _ _ _ (by simp [F.capCuStatus_SEQ])
  · rw [capStart, State.get_set_reg _ _ hfree.1, State.get_set_reg _ _ hfree.2.2, State.get_set_reg _ _ hfree.2.1, State.updCu_get, capTake_free]
    rfl
  · rw [capStart]
    exact State.get_set_same _ _ _ (by simp [F.capCuDeadLast_DEAD_LAST])

/-! ## A command at its strobe (R406 to R411) -/

/-- A state in which no command waits. -/
def State.unasked (s : State) : State := { s with cap := { s.cap with cmds := [] } }

theorem capStrobe_one {s : State} {x : CapCmd} (h : s.cap.cmds.head? = some x) (hlen : s.cap.cmds.length = 1) :
    capStrobe s = capCmd x s.unasked := by
  obtain ⟨y, hy⟩ := List.length_eq_one_iff.mp hlen
  rw [hy] at h
  obtain rfl := Option.some.inj h
  rw [capStrobe, hy]
  rfl

/-- A capture that has not triggered hands the records before the trigger. -/
def CapUnit.closed (x : CapUnit) : CapUnit := if x.trig.isSome then x else { x with posts := x.recs, preEff := x.recs.length, postEff := 0 }

/-- The capture of a unit that the command STOP ends: its blocks and its header are queued, and CAPNO counts. -/
def capStopped (u : Nat) (s : State) : State :=
  let s1 := s.updCu u (fun _ => (s.cu u).closed)
  let s2 := capBlocks u ((s.cu u).closed.posts.length + 1) s1
  let s3 := (capQueue u (capHeader u true none s2) s2).bump (F.capCuCapno_CAPNO u)
  capRingFull (s.get (F.capCuCfg_RING u)) (capReturn u (s3.cu u).own s3)

theorem capEnd_command (u t : Nat) (s : State) : capEnd u t .command none s = capIdle u (capStopped u s) := by
  unfold capEnd
  exact if_neg (fun h => h.2.1 rfl)

theorem capBlocks_regs (u n : Nat) (s : State) : RegsBut [A.capCuHeld u] s (capBlocks u n s) := by
  induction n generalizing s with
  | zero => exact .refl _ s
  | succ n ih =>
    rw [capBlocks]
    split
    · exact .refl _ s
    · refine RegsBut.trans ?_ (ih _)
      exact (RegsBut.refl [A.capCuHeld u] s).set (f := F.capCuHeld_HELD u) List.mem_cons_self _

theorem capCuCfg_ring_lt (s : State) (u : Nat) : s.get (F.capCuCfg_RING u) < 4 :=
  show bits _ 27 26 < 4 from Nat.mod_lt _ (by decide)

theorem capStopped_acts (u : Nat) (s : State) : UnitActs u s (capStopped u s) := by
  have hring := capCuCfg_ring_lt s u
  refine (UnitActs.capReturn ?_ _).capRingFull hring
  exact ((((UnitActs.refl u s).updCu _).capBlocks _).capQueue _).set (f := F.capCuCapno_CAPNO u)
    (unitRegs_subset u (by simp [unitRegs, F.capCuCapno_CAPNO])) _

theorem capStopped_capno (u : Nat) (s : State) :
    (capStopped u s).get (F.capCuCapno_CAPNO u) = (s.get (F.capCuCapno_CAPNO u) + 1) % 2 ^ 32 := by
  have hring := capCuCfg_ring_lt s u
  have hheld : (F.capCuCapno_CAPNO u).a ∉ [A.capCuHeld u] := by
    simpa using capHeld_ne (F.capCuCapno_CAPNO u).a (.inr (.inr (.inr rfl)))
  have hreturned : (F.capCuCapno_CAPNO u).a ∉ [A.capFree, A.capCuHeld u] := by
    simp only [F.capCuCapno_CAPNO, A.capFree, A.capCuHeld, A.capCuCapno, List.mem_cons, List.not_mem_nil, or_false]
    omega
  have hfull : (F.capCuCapno_CAPNO u).a ≠ (F.capCrStatus_FULL (s.get (F.capCuCfg_RING u))).a := by
    simp only [F.capCuCapno_CAPNO, F.capCrStatus_FULL, A.capCuCapno, A.capCrStatus]
    omega
  rw [capStopped, capRingFull, State.get_setB, State.get_set_reg _ _ hfull, (capReturn_regs u _ _).get hreturned, State.bump,
    State.get_set_same _ _ _ (by simp [F.capCuCapno_CAPNO])]
  exact congrArg (fun n => (n + 1) % 2 ^ 32) ((capBlocks_regs u _ _).get hheld)

/-! ## ARM -/

/-- Whether a source of a unit does not exist. -/
def State.srcMissing (s : State) (u : Nat) : Bool := (upto (s.nsrc u)).any (fun i => !srcOk s (s.reg (A.capCuSrc u i)))

/-- What ARM makes of a unit. -/
def State.armUnit (s : State) (x : CapCmd) : CapUnit :=
  { pre := s.preIn x.unit x.pre x.post, post := s.postIn x.unit x.post
    left := if x.count = 0 ∨ s.get (F.capCuCfg_MODE x.unit) ≠ 1 then none else some x.count
    clamped := x.clamped, srcErr := s.srcMissing x.unit }

/-- A unit that ARM has taken, before its blocks. -/
def State.armed (s : State) (x : CapCmd) : State :=
  whenB (s.srcMissing x.unit) (fun v => v.flag (F.capCuStatus_SRC_ERR x.unit))
    (whenB x.clamped (fun v => v.flag (F.capCuStatus_CLAMPED x.unit)) (s.updCu x.unit (fun _ => s.armUnit x)))

/-- A unit that waits for its blocks. -/
def State.waitsForBlocks (s : State) (u free need : Nat) : State :=
  ((s.set (F.capCuStatus_STATE u) cArming).flag (F.capCuStatus_NO_BLOCKS u)).raise 0x0804 sevWarn 0 (capPlace u) [(16, 2, free), (18, 2, need)]

theorem capCmd_arm {x : CapCmd} {s : State} (hcmd : x.cmd = 1) (hidle : s.get (F.capCuStatus_STATE x.unit) = 0) : capCmd x s =
    if s.cuAlloc x.unit ≤ s.get F.capFree_FREE then capStart x.unit (s.armed x)
    else (s.armed x).waitsForBlocks x.unit (s.get F.capFree_FREE) (s.cuAlloc x.unit) := by
  unfold capCmd
  rw [hcmd]
  dsimp only
  rw [capClamp_eq]
  exact if_neg (not_not.mpr hidle)

section
variable (s : State) (x : CapCmd)

theorem armed_acts : UnitActs x.unit s (s.armed x) := by
  have hunit := (UnitActs.refl x.unit s).updCu (fun _ => s.armUnit x)
  have hclamped := hunit.whenB (f := fun v => v.flag (F.capCuStatus_CLAMPED x.unit)) x.clamped
    (hunit.flagStatus (f := F.capCuStatus_CLAMPED x.unit) rfl)
  exact hclamped.whenB (f := fun v => v.flag (F.capCuStatus_SRC_ERR x.unit)) _ (hclamped.flagStatus (f := F.capCuStatus_SRC_ERR x.unit) rfl)

theorem armed_regs : RegsBut [A.capCuStatus x.unit] s (s.armed x) := by
  have hunit : RegsBut [A.capCuStatus x.unit] s (s.updCu x.unit (fun _ => s.armUnit x)) := .refl _ s
  have hclamped := hunit.whenB (f := fun v => v.flag (F.capCuStatus_CLAMPED x.unit)) x.clamped
    (hunit.flag (f := F.capCuStatus_CLAMPED x.unit) List.mem_cons_self)
  exact hclamped.whenB (f := fun v => v.flag (F.capCuStatus_SRC_ERR x.unit)) _ (hclamped.flag (f := F.capCuStatus_SRC_ERR x.unit) List.mem_cons_self)

theorem armed_cap : (s.armed x).cap = (s.updCu x.unit (fun _ => s.armUnit x)).cap := by
  unfold State.armed
  cases s.srcMissing x.unit <;> cases x.clamped <;> rfl

theorem armed_cu : (s.armed x).cu x.unit = s.armUnit x := (State.cu_of_cap (armed_cap s x) _).trans (State.cu_updCu_same ..)

theorem armed_host : (s.armed x).host = s.host := by
  unfold State.armed
  cases s.srcMissing x.unit <;> cases x.clamped <;> rfl

theorem armed_clock : (s.armed x).clk.clk = s.clk.clk ∧ (s.armed x).nowNs = s.nowNs := by
  unfold State.armed
  cases s.srcMissing x.unit <;> cases x.clamped <;> exact ⟨rfl, rfl⟩

theorem armed_clamped : (s.armed x).getB (F.capCuStatus_CLAMPED x.unit) = (s.getB (F.capCuStatus_CLAMPED x.unit) || x.clamped) := by
  have hbase : (whenB x.clamped (fun v => v.flag (F.capCuStatus_CLAMPED x.unit)) (s.updCu x.unit (fun _ => s.armUnit x))).getB
      (F.capCuStatus_CLAMPED x.unit) = (s.getB (F.capCuStatus_CLAMPED x.unit) || x.clamped) := by
    cases x.clamped
    · exact (Bool.or_false _).symm
    · rw [Bool.or_true]
      exact State.getB_of_get (v := 1) (State.get_set_same _ _ _ (by simp [F.capCuStatus_CLAMPED]))
  refine Eq.trans ?_ hbase
  unfold State.armed
  cases s.srcMissing x.unit
  · rfl
  · rw [whenB, if_pos rfl, State.getB, State.get_flag, State.get_set_bits _ _ (by simp [F.capCuStatus_CLAMPED, F.capCuStatus_SRC_ERR]),
      State.getB]

end

/-- What a start shows in the flags of a unit's STATUS. -/
theorem capStart_flags (u : Nat) (s : State) {f : Fld} (ha : f.a = A.capCuStatus u) (hlo : 6 < f.lo) : (capStart u s).get f = s.get f := by
  have hdead : f.a ≠ (F.capCuDeadLast_DEAD_LAST u).a := by
    simp only [ha, F.capCuDeadLast_DEAD_LAST, A.capCuStatus, A.capCuDeadLast]
    omega
  have htake : f.a ∉ [A.capFree, A.capCuHeld u] := by
    simp only [ha, A.capFree, A.capCuStatus, A.capCuHeld, List.mem_cons, List.not_mem_nil, or_false]
    omega
  rw [capStart, State.get_set_reg _ _ hdead, State.get_set_bits _ _ (.inr (show 6 < f.lo from hlo)),
    State.get_set_bits _ _ (.inr (show 2 < f.lo by omega)), State.updCu_get, (capTake_regs u s _).get htake]

/-- A unit that starts under ARM. -/
theorem armed_starts (s : State) (x : CapCmd) :
    UnitStarts x.unit s (capStart x.unit (s.armed x)) ∧ ((capStart x.unit (s.armed x)).cu x.unit).own = s.get (F.capCuAlloc_ALLOC x.unit) := by
  obtain ⟨hclk, -⟩ := armed_clock s x
  have hget {f : Fld} (hf : f.a ∉ [A.capCuStatus x.unit]) : (s.armed x).get f = s.get f := (armed_regs s x).get hf
  have hfree : (s.armed x).get F.capFree_FREE = s.get F.capFree_FREE := hget (by
    simp only [F.capFree_FREE, A.capFree, A.capCuStatus, List.mem_cons, List.not_mem_nil, or_false]
    omega)
  have halloc : (s.armed x).get (F.capCuAlloc_ALLOC x.unit) = s.get (F.capCuAlloc_ALLOC x.unit) := hget (by
    simp only [F.capCuAlloc_ALLOC, A.capCuAlloc, A.capCuStatus, List.mem_cons, List.not_mem_nil, or_false]
    omega)
  obtain ⟨hstate, hseq, hon, ht0, hfree', hdead⟩ := capStart_starts x.unit (s.armed x)
  obtain ⟨l, hcu⟩ := capStart_cu x.unit (s.armed x)
  refine ⟨⟨hstate, hseq, hon, ht0.trans hclk, by rw [hfree', hfree, halloc], hdead⟩, ?_⟩
  rw [hcu, armed_cu]
  exact (Nat.zero_add _).trans halloc

/-- A unit that waits for its blocks under ARM. -/
theorem armed_waits (s : State) (x : CapCmd) (free need : Nat) :
    let t := (s.armed x).waitsForBlocks x.unit free need
    t.get (F.capCuStatus_STATE x.unit) = 1 ∧ t.getB (F.capCuStatus_NO_BLOCKS x.unit) = true ∧ t.cu x.unit = s.armUnit x ∧
    t.get F.capFree_FREE = s.get F.capFree_FREE ∧
    t.getB (F.capCuStatus_CLAMPED x.unit) = (s.getB (F.capCuStatus_CLAMPED x.unit) || x.clamped) ∧
    (s.host.evBuf.length < 256 → ∃ r, t.host.evBuf = s.host.evBuf ++ [r] ∧ r.code = 0x0804 ∧ r.sev = sevWarn) := by
  have hevt : A.capCuStatus x.unit ≠ A.hriEvtLost ∧ A.capFree ≠ A.hriEvtLost := by
    simp only [A.capCuStatus, A.hriEvtLost, A.capFree]
    omega
  have hfree : F.capFree_FREE.a ≠ A.capCuStatus x.unit := by
    simp only [F.capFree_FREE, A.capFree, A.capCuStatus]
    omega
  have hstatus {f : Fld} (hf : f.a = A.capCuStatus x.unit) : ((s.armed x).waitsForBlocks x.unit free need).get f =
      (((s.armed x).set (F.capCuStatus_STATE x.unit) cArming).set (F.capCuStatus_NO_BLOCKS x.unit) 1).get f :=
    (State.get_raise _ _ _ _ _ _ (by rw [hf]; exact hevt.1)).trans (State.get_flag ..)
  refine ⟨?_, ?_, ?_, ?_, ?_, fun hroom => ?_⟩
  · rw [hstatus rfl, State.get_set_bits _ _ (by simp [F.capCuStatus_STATE, F.capCuStatus_NO_BLOCKS])]
    exact State.get_set_same _ _ _ (by simp [F.capCuStatus_STATE])
  · exact State.getB_of_get (v := 1) ((hstatus rfl).trans (State.get_set_same _ _ _ (by simp [F.capCuStatus_NO_BLOCKS])))
  · exact (State.cu_of_cap (State.raise_cap ..) _).trans (armed_cu s x)
  · refine (State.get_raise _ _ _ _ _ _ hevt.2).trans ((State.get_flag ..).trans ?_)
    rw [State.get_set_reg _ _ hfree, State.get_set_reg _ _ hfree]
    exact (armed_regs s x).get (by simpa using hfree)
  · rw [← armed_clamped, State.getB, hstatus rfl, State.get_set_bits _ _ (by simp [F.capCuStatus_CLAMPED, F.capCuStatus_NO_BLOCKS]),
      State.get_set_bits _ _ (by simp [F.capCuStatus_CLAMPED, F.capCuStatus_STATE]), State.getB]
  · have hbuf : (((s.armed x).set (F.capCuStatus_STATE x.unit) cArming).flag (F.capCuStatus_NO_BLOCKS x.unit)).host.evBuf = s.host.evBuf :=
      congrArg HostSt.evBuf (armed_host s x)
    refine ⟨_, (State.raise_evBuf _ _ _ _ _ _ (by rw [hbuf]; exact hroom)).trans (by rw [hbuf]), rfl, rfl⟩

/-! ## The other commands -/

/-- The blocks of a running capture that wait for the ring. -/
def State.waitingBlocks (s : State) (u : Nat) : Nat :=
  (s.cap.queues.map (fun e => countIf (fun (x : CapEntry) => x.unit == u && x.no == s.get (F.capCuCapno_CAPNO u)) e.2)).sum

/-- A state without the entries of a running capture, whose blocks are free. -/
def State.discarded (s : State) (u : Nat) : State :=
  let mine (x : CapEntry) : Bool := x.unit == u && x.no == s.get (F.capCuCapno_CAPNO u)
  let s1 : State := { s with cap := { s.cap with queues := Table.mapVals [] (fun l => l.filter (fun x => !mine x)) s.cap.queues } }
  s1.set F.capFree_FREE (s1.get F.capFree_FREE + s.waitingBlocks u)

theorem discarded_acts (u : Nat) (s : State) : UnitActs u s (s.discarded u) :=
  ⟨fun _ _ => rfl, (RegsBut.refl _ s).set (f := F.capFree_FREE) (unitRegs_subset u (by simp [unitRegs, F.capFree_FREE])) _, rfl⟩

section
variable {x : CapCmd} {s : State}

theorem capCmd_stop (hcmd : x.cmd = 2) : capCmd x s =
    if s.get (F.capCuStatus_STATE x.unit) = 2 ∨ s.get (F.capCuStatus_STATE x.unit) = 3 then capIdle x.unit (capStopped x.unit s)
    else if s.get (F.capCuStatus_STATE x.unit) = 0 then s else capIdle x.unit s := by
  rw [← capEnd_command x.unit s.clk.clk]
  unfold capCmd
  rw [hcmd]
  rfl

theorem capCmd_force (hcmd : x.cmd = 3) : capCmd x s =
    if s.get (F.capCuStatus_STATE x.unit) = 2 ∨ s.get (F.capCuStatus_STATE x.unit) = 3 then s.updCu x.unit (fun y => { y with force := true })
    else s := by
  unfold capCmd
  rw [hcmd]
  rfl

theorem capCmd_disarm (hcmd : x.cmd = 4) : capCmd x s =
    if s.get (F.capCuStatus_STATE x.unit) = 0 then s else capIdle x.unit (s.discarded x.unit) := by
  unfold capCmd
  rw [hcmd]
  rfl

theorem capCmd_busy (hcmd : x.cmd = 1) (hbusy : s.get (F.capCuStatus_STATE x.unit) ≠ 0) : capCmd x s = s := by
  unfold capCmd
  rw [hcmd]
  exact if_pos hbusy

theorem capCmd_other (h : x.cmd = 0 ∨ 4 < x.cmd) : capCmd x s = s := by
  unfold capCmd
  rcases h with hzero | hhigh
  · rw [hzero]
    rfl
  · obtain ⟨n, hn⟩ : ∃ n, x.cmd = n + 5 := ⟨x.cmd - 5, by omega⟩
    rw [hn]
    rfl

theorem waitsForBlocks_acts (s : State) (u free need : Nat) : UnitActs u s (s.waitsForBlocks u free need) :=
  (((UnitActs.refl u s).setState _).flagStatus (f := F.capCuStatus_NO_BLOCKS u) rfl).raise ..

/-- A command is of its own unit. -/
theorem capCmd_acts (x : CapCmd) (s : State) : UnitActs x.unit s (capCmd x s) := by
  have hcases : x.cmd = 1 ∨ x.cmd = 2 ∨ x.cmd = 3 ∨ x.cmd = 4 ∨ (x.cmd = 0 ∨ 4 < x.cmd) := by omega
  rcases hcases with harm | hstop | hforce | hdisarm | hother
  · by_cases hidle : s.get (F.capCuStatus_STATE x.unit) = 0
    · rw [capCmd_arm harm hidle]
      split
      · exact (armed_acts s x).capStart
      · exact (armed_acts s x).trans (waitsForBlocks_acts ..)
    · rw [capCmd_busy harm hidle]
      exact .refl _ s
  · rw [capCmd_stop hstop]
    split
    · exact (capStopped_acts x.unit s).capIdle
    · split
      · exact .refl _ s
      · exact (UnitActs.refl _ s).capIdle
  · rw [capCmd_force hforce]
    split
    · exact (UnitActs.refl _ s).updCu _
    · exact .refl _ s
  · rw [capCmd_disarm hdisarm]
    split
    · exact .refl _ s
    · exact (discarded_acts x.unit s).capIdle
  · rw [capCmd_other hother]
    exact .refl _ s

end

/-- The other units of the four. -/
def OtherUnits (m : Fin 4) (s t : State) : Prop := ∀ j : Fin 4, j ≠ m → t.cu j.val = s.cu j.val ∧
  t.reg (A.capCuStatus j.val) = s.reg (A.capCuStatus j.val) ∧ t.reg (A.capCuHeld j.val) = s.reg (A.capCuHeld j.val)

theorem UnitActs.others {m : Fin 4} {s t : State} (h : UnitActs m.val s t) : OtherUnits m s t := by
  intro j hj
  have hjm : j.val ≠ m.val := fun h => hj (Fin.ext h)
  have hnot {a : Nat} (ha : a = A.capCuStatus j.val ∨ a = A.capCuHeld j.val) : a ∉ controlRegs m.val := by
    simp only [controlRegs, unitRegs, upto, List.mem_append, List.mem_cons, List.not_mem_nil, or_false, List.mem_map, List.mem_range,
      A.capCuStatus, A.capCuCapno, A.capCuDeadLast, A.capCuHeld, A.capFree, A.capCrStatus, A.hriEvtLost] at ha ⊢
    rintro ((hunit | ⟨n, hn, hring⟩) | hlost) <;> omega
  exact ⟨h.units j.val hjm, h.regs _ (hnot (.inl rfl)), h.regs _ (hnot (.inr rfl))⟩

/-! ## Blocks for a unit that waits (R409, R411) -/

theorem capStart_frame (u : Nat) (s : State) :
    capStart u s = { s with regs := (capStart u s).regs, cap := { s.cap with units := (capStart u s).cap.units } } := rfl

theorem capReserve_arming {u : Nat} {s : State} (hstate : s.get (F.capCuStatus_STATE u) = 1)
    (hfree : s.get (F.capCuAlloc_ALLOC u) ≤ s.get F.capFree_FREE) (hcyc : s.clk.cyc = 0) : capReserve u s = capStart u s :=
  (if_neg (by unfold State.cuAlloc; omega)).trans ((if_pos hstate).trans (if_pos hcyc))

/-- A unit between two captures with its blocks. -/
def capRearmed (u : Nat) (s : State) : State := (capTake u (s.cuAlloc u) s).updCu u (fun y => { y with reserved := true })

theorem capReserve_dead {u : Nat} {s : State} (hstate : s.get (F.capCuStatus_STATE u) = 4)
    (hfree : s.get (F.capCuAlloc_ALLOC u) ≤ s.get F.capFree_FREE) (hreserved : (s.cu u).reserved = false) :
    capReserve u s = capRearmed u s := by
  have hnot : ¬ s.cuState u = cArming := fun h => absurd (hstate.symm.trans h) (by decide)
  exact (if_neg (by unfold State.cuAlloc; omega)).trans ((if_neg hnot).trans (if_pos ⟨hstate, by simp [hreserved]⟩))

theorem capReserve_none {u : Nat} {s : State}
    (harming : ¬ (s.get (F.capCuStatus_STATE u) = 1 ∧ s.get (F.capCuAlloc_ALLOC u) ≤ s.get F.capFree_FREE ∧ s.clk.cyc = 0))
    (hdead : ¬ (s.get (F.capCuStatus_STATE u) = 4 ∧ s.get (F.capCuAlloc_ALLOC u) ≤ s.get F.capFree_FREE ∧ (s.cu u).reserved = false)) :
    capReserve u s = s := by
  unfold capReserve
  split
  case isTrue => rfl
  case isFalse hfree =>
    have hfree' : s.get (F.capCuAlloc_ALLOC u) ≤ s.get F.capFree_FREE := by simpa [State.cuAlloc] using hfree
    split
    case isTrue hstate => exact if_neg (fun hcyc => harming ⟨hstate, hfree', hcyc⟩)
    case isFalse => exact if_neg (fun h => hdead ⟨h.1, hfree', by simpa using h.2⟩)

theorem capRearmed_cu (u : Nat) (s : State) :
    (capRearmed u s).cu u = { s.cu u with reserved := true, own := (s.cu u).own + s.get (F.capCuAlloc_ALLOC u) } := by
  rw [capRearmed, State.cu_updCu_same, capTake_cu]
  rfl

theorem capRearmed_frame (u : Nat) (s : State) :
    capRearmed u s = { s with regs := (capRearmed u s).regs, cap := { s.cap with units := (capRearmed u s).cap.units } } := rfl

theorem capRearmed_state (u : Nat) (s : State) : (capRearmed u s).get (F.capCuStatus_STATE u) = s.get (F.capCuStatus_STATE u) := by
  rw [capRearmed, State.updCu_get]
  refine (capTake_regs u s _).get ?_
  simp only [F.capCuStatus_STATE, A.capFree, A.capCuStatus, A.capCuHeld, List.mem_cons, List.not_mem_nil, or_false]
  omega

theorem capRearmed_free (u : Nat) (s : State) :
    (capRearmed u s).get F.capFree_FREE = s.get F.capFree_FREE - s.get (F.capCuAlloc_ALLOC u) := by
  rw [capRearmed, State.updCu_get, capTake_free]
  rfl

/-! ## A ring (R413, R414) -/

/-- What CE writes for an entry that takes place `i` of ring `m`: its data, then its 128 bytes with PHASE. -/
def ringDataAt (s : State) (m : Nat) : Nat :=
  s.get64 (A.capCrDataLo m) + 65536 * ((s.reg (A.hriCrTail m)).toNat % 2 ^ s.get (F.hriCrCfg_SIZE m))
def ringEntryAt (s : State) (m : Nat) : Nat :=
  s.get64 (A.hriCrBaseLo m) + 128 * ((s.reg (A.hriCrTail m)).toNat % 2 ^ s.get (F.hriCrCfg_SIZE m))
def ringHead (s : State) (m : Nat) (e : CapEntry) : List Byte :=
  leBytes 2 ((if (s.reg (A.hriCrTail m)).toNat / 2 ^ s.get (F.hriCrCfg_SIZE m) % 2 = 0 then 0x8000 else 0) + if e.header then 1 else 0)

/-- The writes of an entry to host memory. -/
def ringWritten (m : Nat) (e : CapEntry) (s : State) : State :=
  capPut m (ringEntryAt s m) (ringHead s m e ++ e.body) e true (if e.header then s else capPut m (ringDataAt s m) e.data e false s)

/-- An entry has left its queue; a block counts as handed. -/
def ringTaken (m : Nat) (e : CapEntry) (r : List CapEntry) (s : State) : State :=
  let s2 := ringWritten m e s
  { s2 with cap := { s2.cap with
    queues := Table.put [] m r s2.cap.queues
    handed := if e.header then s2.cap.handed
      else Table.upd [] m (fun l => l ++ [(s.reg (A.hriCrTail m)).toNat]) s2.cap.handed } }

/-- TAIL has moved, and HELD of the entry's unit is shown. -/
def ringShown (m : Nat) (e : CapEntry) (r : List CapEntry) (s : State) : State :=
  ((ringTaken m e r s).setReg (A.hriCrTail m) (s.reg (A.hriCrTail m) + 1)).capRefresh e.unit

/-- The interrupt of the entry, once a tick. -/
def ringAsked (m : Nat) (e : CapEntry) (r : List CapEntry) (s : State) : State :=
  if (ringShown m e r s).host.irqs.contains 2 then ringShown m e r s else (ringShown m e r s).irq 2

/-- A header reports its capture. -/
def ringTold (m : Nat) (e : CapEntry) (r : List CapEntry) (s : State) : State :=
  whenB e.header (fun t => t.raise 0x0801 sevInfo 0 (capPlace e.unit) [(16, 16, e.done.toNat)]) (ringAsked m e r s)

theorem capRingWrite_eq {m : Nat} {e : CapEntry} {r : List CapEntry} {s : State} (hqueue : Table.look [] s.cap.queues m = e :: r)
    (hon : s.getB (F.hriCrCfg_EN m) = true)
    (hroom : (s.reg (A.hriCrTail m) - s.reg (A.hriCrHead m)).toInt < ((2 ^ s.get (F.hriCrCfg_SIZE m) : Nat) : Int)) :
    capRingWrite m s = capRingFull m (ringTold m e r s) := by
  unfold capRingWrite
  rw [hqueue]
  exact (if_neg (by simp [hon])).trans (if_neg (by unfold cdiff; omega))

theorem capRingWrite_full {m : Nat} {s : State} (hqueue : Table.look [] s.cap.queues m ≠ []) (hon : s.getB (F.hriCrCfg_EN m) = true)
    (hroom : ¬ (s.reg (A.hriCrTail m) - s.reg (A.hriCrHead m)).toInt < ((2 ^ s.get (F.hriCrCfg_SIZE m) : Nat) : Int)) :
    capRingWrite m s = s.set (F.capCrStatus_FULL m) 1 := by
  obtain ⟨e, r, her⟩ := List.exists_cons_of_ne_nil hqueue
  unfold capRingWrite
  rw [her]
  exact (if_neg (by simp [hon])).trans (if_pos (by unfold cdiff; omega))

theorem capRingWrite_empty {m : Nat} {s : State} (hqueue : Table.look [] s.cap.queues m = []) : capRingWrite m s = s := by
  rw [capRingWrite, hqueue]

theorem capRingWrite_off {m : Nat} {s : State} (hoff : s.getB (F.hriCrCfg_EN m) = false) : capRingWrite m s = s := by
  unfold capRingWrite
  split
  · rfl
  · exact if_pos (by simp [hoff])

section
variable (m : Nat) (e : CapEntry) (r : List CapEntry) (s : State)

theorem ringWritten_units : (ringWritten m e s).cap.units = s.cap.units := by
  unfold ringWritten
  cases e.header <;> rfl

theorem ringWritten_handed : (ringWritten m e s).cap.handed = s.cap.handed := by
  unfold ringWritten
  cases e.header <;> rfl

theorem ringWritten_frame : ringWritten m e s = { s with hostMem := (ringWritten m e s).hostMem, cap := (ringWritten m e s).cap } := by
  unfold ringWritten
  cases e.header <;> rfl

theorem ringWritten_hostMem : (ringWritten m e s).hostMem = hostWriteAux (ringEntryAt s m) (ringHead s m e ++ e.body)
    (if e.header then s.hostMem else hostWriteAux (ringDataAt s m) e.data s.hostMem) := by
  unfold ringWritten
  cases e.header <;> rfl

theorem ringShown_frame : ringShown m e r s =
    { s with regs := (ringShown m e r s).regs, hostMem := (ringShown m e r s).hostMem, cap := (ringShown m e r s).cap } := by
  unfold ringShown ringTaken
  rw [ringWritten_frame]
  rfl

theorem ringAsked_regs : (ringAsked m e r s).regs = (ringShown m e r s).regs := by
  unfold ringAsked
  split <;> rfl

theorem ringAsked_frame : ringAsked m e r s = { ringShown m e r s with host := (ringAsked m e r s).host } := by
  unfold ringAsked
  split <;> rfl

theorem ringAsked_evBuf : (ringAsked m e r s).host.evBuf = s.host.evBuf := by
  have hshown : (ringShown m e r s).host.evBuf = s.host.evBuf := by rw [ringShown_frame]
  refine Eq.trans ?_ hshown
  unfold ringAsked
  split <;> rfl

theorem State.raise_frame (s : State) (code sev data ctrl : Nat) (p : List (Nat × Nat × Nat)) : s.raise code sev data ctrl p =
    { s with regs := (s.raise code sev data ctrl p).regs, host := (s.raise code sev data ctrl p).host } := by
  unfold State.raise State.raiseAt
  split <;> rfl

theorem ringTold_frame : capRingFull m (ringTold m e r s) = { s with
    regs := (capRingFull m (ringTold m e r s)).regs, host := (capRingFull m (ringTold m e r s)).host
    hostMem := (ringWritten m e s).hostMem, cap := (ringTaken m e r s).cap } := by
  have htold : ringTold m e r s = { ringAsked m e r s with regs := (ringTold m e r s).regs, host := (ringTold m e r s).host } := by
    unfold ringTold whenB
    split
    · exact State.raise_frame ..
    · rfl
  have hfull : capRingFull m (ringTold m e r s) = { ringTold m e r s with regs := (capRingFull m (ringTold m e r s)).regs } := rfl
  have hshown : ringShown m e r s = { s with
      regs := (ringShown m e r s).regs, hostMem := (ringWritten m e s).hostMem, cap := (ringTaken m e r s).cap } := ringShown_frame m e r s
  rw [hfull, htold, ringAsked_frame, hshown]

theorem ringTold_cap : (capRingFull m (ringTold m e r s)).cap = (ringTaken m e r s).cap := by rw [ringTold_frame]

theorem ringTold_hostByte (q : Nat) : (capRingFull m (ringTold m e r s)).hostByte q = (ringWritten m e s).hostByte q := by
  rw [State.hostByte, ringTold_frame, State.hostByte]

theorem ringTaken_handed : Table.look [] (ringTaken m e r s).cap.handed m =
    Table.look [] s.cap.handed m ++ if e.header then [] else [(s.reg (A.hriCrTail m)).toNat] := by
  unfold ringTaken
  dsimp only
  rw [ringWritten_handed]
  cases e.header
  · exact Table.look_upd_same [] m (fun l => l ++ [(s.reg (A.hriCrTail m)).toNat]) s.cap.handed
  · exact (List.append_nil _).symm

theorem ringTaken_own : ((ringTaken m e r s).cu e.unit).own = (s.cu e.unit).own :=
  congrArg (fun t : Table CapUnit => (Table.look ({} : CapUnit) t e.unit).own) (ringWritten_units m e s)

theorem ringTold_regs_but {l : List Nat} (htail : A.hriCrTail m ∈ l) (hheld : A.capCuHeld e.unit ∈ l) (hfull : A.capCrStatus m ∈ l)
    (hlost : A.hriEvtLost ∈ l) : RegsBut l s (capRingFull m (ringTold m e r s)) := by
  have hregs : (ringWritten m e s).regs = s.regs := by rw [ringWritten_frame]
  have hwritten : RegsBut l s (ringTaken m e r s) := .of_regs hregs
  have hshown : RegsBut l s (ringShown m e r s) :=
    (hwritten.setReg htail _).set (f := F.capCuHeld_HELD e.unit) hheld _
  have hasked : RegsBut l s (ringAsked m e r s) := hshown.trans (.of_regs (ringAsked_regs m e r s))
  have htold : RegsBut l s (ringTold m e r s) := hasked.whenB
    (f := fun t => t.raise 0x0801 sevInfo 0 (capPlace e.unit) [(16, 16, e.done.toNat)]) e.header (hasked.raise hlost _ _ _ _ _)
  exact htold.setB (f := F.capCrStatus_FULL m) hfull _

variable {m} {e}

theorem ringTold_reg {a : Nat} (hfull : a ≠ A.capCrStatus m) (hlost : a ≠ A.hriEvtLost) :
    (capRingFull m (ringTold m e r s)).reg a = (ringShown m e r s).reg a := by
  have hasked : (ringAsked m e r s).reg a = (ringShown m e r s).reg a := by rw [State.reg, ringAsked_regs, State.reg]
  have htold : (ringTold m e r s).reg a = (ringAsked m e r s).reg a := by
    unfold ringTold whenB
    split
    · exact State.raise_reg _ _ _ _ _ _ hlost
    · rfl
  exact (State.reg_set_other _ _ _ hfull).trans (htold.trans hasked)

end

/-- The bytes of an entry that CE has written. -/
theorem ringWritten_bytes {m : Nat} {e : CapEntry} {s : State} (hbody : e.body.length = 126) {j : Nat} (hj : j < 128) :
    (ringWritten m e s).hostByte ((ringEntryAt s m + j) % 2 ^ 64) = (ringHead s m e ++ e.body).getD j 0 := by
  have hlen : (ringHead s m e ++ e.body).length = 128 := by rw [List.length_append, ringHead, leBytes_length, hbody]
  have hj' : j < (ringHead s m e ++ e.body).length := by omega
  rw [State.hostByte, ringWritten_hostMem, hostWriteAux_same _ (by rw [hlen]; decide) _ _ _ hj', List.getD_eq_getElem _ _ hj']

/-- The records of a block that CE has written. -/
theorem ringWritten_data {m : Nat} {e : CapEntry} {s : State} (hbody : e.body.length = 126) (hblock : e.header = false)
    (hlen : e.data.length ≤ 65536) {j : Nat} (hj : j < e.data.length)
    (hfree : ∀ i, i < 128 → (ringEntryAt s m + i) % 2 ^ 64 ≠ (ringDataAt s m + j) % 2 ^ 64) :
    (ringWritten m e s).hostByte ((ringDataAt s m + j) % 2 ^ 64) = e.data.getD j 0 := by
  have hentry : (ringHead s m e ++ e.body).length = 128 := by rw [List.length_append, ringHead, leBytes_length, hbody]
  rw [State.hostByte, ringWritten_hostMem, hostWriteAux_other _ _ _ _ (fun i hi => (hfree i (by omega)).symm), hblock]
  exact (hostWriteAux_same _ (hlen.trans (by decide)) _ _ _ hj).trans (List.getD_eq_getElem _ _ hj).symm

/-- CE writes nothing else. -/
theorem ringWritten_other {m : Nat} {e : CapEntry} {s : State} (hbody : e.body.length = 126) {q : Nat}
    (hentry : ∀ i, i < 128 → q ≠ (ringEntryAt s m + i) % 2 ^ 64)
    (hdata : ∀ j, j < (if e.header then 0 else e.data.length) → q ≠ (ringDataAt s m + j) % 2 ^ 64) :
    (ringWritten m e s).hostByte q = s.hostByte q := by
  have hlen : (ringHead s m e ++ e.body).length = 128 := by rw [List.length_append, ringHead, leBytes_length, hbody]
  rw [State.hostByte, ringWritten_hostMem, hostWriteAux_other _ _ _ _ (fun i hi => hentry i (by omega))]
  cases hheader : e.header
  · rw [hheader] at hdata
    exact hostWriteAux_other _ _ _ _ hdata
  · rfl

/-- The event of a header. -/
theorem ringTold_event {m : Nat} {e : CapEntry} {r : List CapEntry} {s : State} (hheader : e.header = true) (hroom : s.host.evBuf.length < 256) :
    ∃ v, (capRingFull m (ringTold m e r s)).host.evBuf = s.host.evBuf ++ [v] ∧ v.code = 0x0801 ∧ v.sev = sevInfo ∧
      v.ctrl = BitVec.ofNat 16 (0x8C00 + e.unit) ∧ v.payload = e.done := by
  have hbuf := ringAsked_evBuf m e r s
  have htold : (ringTold m e r s).host.evBuf = _ :=
    (congrArg (fun c => (whenB c _ (ringAsked m e r s)).host.evBuf) hheader).trans
      (State.raise_evBuf (ringAsked m e r s) 0x0801 sevInfo 0 (capPlace e.unit) [(16, 16, e.done.toNat)] (by rw [hbuf]; exact hroom))
  rw [hbuf] at htold
  refine ⟨_, htold, rfl, rfl, rfl, ?_⟩
  rw [pl_one (show e.done.toNat < 2 ^ (8 * 16) from e.done.isLt), Nat.sub_self, Nat.mul_zero, pow_zero, Nat.mul_one]
  exact BitVec.eq_of_toNat_eq (by simp)

/-! ## The statement -/

/-- A row of CAPTURE_CTRL that stands for one command. -/
theorem captureCmd_answers {c : Instr} {d : Desc} {s : State} {cmd : Nat} (htop : cmd ≤ 4)
    (hexec : exec c s = .next (runDesc 0x0800 opCapture (d.force 1 11 8 cmd) s)) (h : Accepts s 0x0800 (d.force 1 11 8 cmd)) :
    ∃ t, Answers c d s t (decide (s.capWhy (d.f 1 1 0) cmd ≠ 0)) (s.capWhy (d.f 1 1 0) cmd * 2 ^ 24) ∧ OnlyRing d s t [] ∧
      t = { s with regs := t.regs, host := t.host, hostMem := t.hostMem, cap := { s.cap with cmds := t.cap.cmds } } ∧
      t.cap.cmds = s.cap.cmds ++ (if s.capWhy (d.f 1 1 0) cmd = 0 ∧ cmd ≠ 0 then [capCmdOf d cmd (cmd == 1 && s.capClamps d)] else []) := by
  have hlen : 1 ≤ d.len.val := (accepts_force_len h (lo := 2) rfl).trans' (by decide)
  have hv : cmd < 2 ^ (11 + 1 - 8) := by omega
  have hcmd : (cE 4 0 ((d.force 1 11 8 cmd).f 1 11 8)).val = cmd := by
    rw [force_f_same d (by decide) (by decide) hv hlen, cE, if_pos htop]
  have hunit : (d.force 1 11 8 cmd).f 1 1 0 = d.f 1 1 0 := force_f_beside d (by decide) (by decide) hv (by decide)
  have hcount : (d.force 1 11 8 cmd).f 1 47 32 = d.f 1 47 32 := force_f_beside d (by decide) (by decide) hv (by decide)
  have hword (hi lo : Nat) : (d.force 1 11 8 cmd).f 2 hi lo = d.f 2 hi lo := force_f_word d 11 8 cmd (by decide) hi lo
  have hanswers := captureCtrl_answers (runsForm_force hexec) h hcmd
  simp only [State.capClamps, capCmdOf, hunit, hcount, hword] at hanswers ⊢
  exact hanswers

theorem noCmd_cmd (d : Desc) : (cE 4 0 ((d.noCmd 4).f 1 11 8)).val = 0 := by
  rcases noCmd_f d with hzero | hhigh
  · rw [hzero]
    rfl
  · rw [cE, if_neg (by omega)]

theorem captureCtrlNoAction_runs (d : Desc) (s : State) : RunsForm (.captureCtrlNoAction d) 0x0800 opCapture d (d.noCmd 4) s := by
  refine ⟨rfl, ?_, ?_, ?_⟩ <;> unfold Desc.noCmd <;> split <;> simp

/-- What a unit is after the command that its strobe takes. -/
structure StrobeTakes (s t : State) (x : CapCmd) (u : Nat) : Prop where
  armed : x.cmd = 1 → s.get (F.capCuStatus_STATE u) = 0 →
    (t.cu u).pre = s.preIn u x.pre x.post ∧ (t.cu u).post = s.postIn u x.post ∧ (t.cu u).clamped = x.clamped ∧ (t.cu u).recs = [] ∧
    (t.cu u).trig = none ∧ (t.cu u).left = (if x.count = 0 ∨ s.get (F.capCuCfg_MODE u) ≠ 1 then none else some x.count) ∧
    t.getB (F.capCuStatus_CLAMPED u) = (s.getB (F.capCuStatus_CLAMPED u) || x.clamped)
  starts : x.cmd = 1 → s.get (F.capCuStatus_STATE u) = 0 → s.get (F.capCuAlloc_ALLOC u) ≤ s.get F.capFree_FREE →
    UnitStarts u s t ∧ (t.cu u).own = s.get (F.capCuAlloc_ALLOC u)
  waits : x.cmd = 1 → s.get (F.capCuStatus_STATE u) = 0 → s.get F.capFree_FREE < s.get (F.capCuAlloc_ALLOC u) →
    t.get (F.capCuStatus_STATE u) = 1 ∧ t.getB (F.capCuStatus_NO_BLOCKS u) = true ∧ (t.cu u).on = false ∧
    t.get F.capFree_FREE = s.get F.capFree_FREE ∧
    (s.host.evBuf.length < 256 → ∃ r, t.host.evBuf = s.host.evBuf ++ [r] ∧ r.code = 0x0804 ∧ r.sev = sevWarn)
  stops : x.cmd = 2 → s.get (F.capCuStatus_STATE u) = 2 ∨ s.get (F.capCuStatus_STATE u) = 3 → t.get (F.capCuStatus_STATE u) = 0 ∧
    (t.cu u).on = false ∧ t.get (F.capCuCapno_CAPNO u) = (s.get (F.capCuCapno_CAPNO u) + 1) % 2 ^ 32
  ends : x.cmd = 2 → s.get (F.capCuStatus_STATE u) = 1 ∨ s.get (F.capCuStatus_STATE u) = 4 → t.get (F.capCuStatus_STATE u) = 0 ∧
    t.cu u = {} ∧ t.get (F.capCuCapno_CAPNO u) = s.get (F.capCuCapno_CAPNO u)
  forces : x.cmd = 3 → t.cu u =
    if s.get (F.capCuStatus_STATE u) = 2 ∨ s.get (F.capCuStatus_STATE u) = 3 then { s.cu u with force := true } else s.cu u
  disarms : x.cmd = 4 → s.get (F.capCuStatus_STATE u) ≠ 0 → t.get (F.capCuStatus_STATE u) = 0 ∧ t.cu u = {} ∧
    t.get (F.capCuCapno_CAPNO u) = s.get (F.capCuCapno_CAPNO u)
  keeps : (x.cmd = 1 ∧ s.get (F.capCuStatus_STATE u) ≠ 0) ∨ ((x.cmd = 2 ∨ x.cmd = 4) ∧ s.get (F.capCuStatus_STATE u) = 0) →
    t.cu u = s.cu u ∧ t.regs = s.regs

theorem capCmd_takes (x : CapCmd) (s : State) : StrobeTakes s (capCmd x s) x x.unit where
  armed hcmd hidle := by
    rw [capCmd_arm hcmd hidle]
    split
    · obtain ⟨l, hcu⟩ := capStart_cu x.unit (s.armed x)
      rw [hcu, armed_cu, State.getB, capStart_flags _ _ rfl (show 6 < 10 by decide), ← armed_clamped]
      exact ⟨rfl, rfl, rfl, rfl, rfl, rfl, rfl⟩
    · obtain ⟨-, -, hcu, -, hclamped, -⟩ := armed_waits s x (s.get F.capFree_FREE) (s.cuAlloc x.unit)
      rw [hcu, hclamped]
      exact ⟨rfl, rfl, rfl, rfl, rfl, rfl, rfl⟩
  starts hcmd hidle hfree := by
    rw [capCmd_arm hcmd hidle, if_pos (show s.cuAlloc x.unit ≤ _ from hfree)]
    exact armed_starts s x
  waits hcmd hidle hfree := by
    rw [capCmd_arm hcmd hidle, if_neg (show ¬ s.cuAlloc x.unit ≤ _ from Nat.not_le.mpr hfree)]
    obtain ⟨hstate, hblocks, hcu, hkept, -, hevent⟩ := armed_waits s x (s.get F.capFree_FREE) (s.cuAlloc x.unit)
    exact ⟨hstate, hblocks, by rw [hcu]; rfl, hkept, hevent⟩
  stops hcmd hruns := by
    rw [capCmd_stop hcmd, if_pos hruns, capIdle_cu, capIdle_capno, capStopped_capno]
    exact ⟨capIdle_state _, rfl, rfl⟩
  ends hcmd hwaits := by
    rw [capCmd_stop hcmd, if_neg (by omega), if_neg (by omega)]
    exact ⟨capIdle_state s, capIdle_cu .., capIdle_capno s⟩
  forces hcmd := by
    rw [capCmd_force hcmd]
    split
    · exact State.cu_updCu_same ..
    · rfl
  disarms hcmd hbusy := by
    rw [capCmd_disarm hcmd, if_neg hbusy, capIdle_cu, capIdle_capno]
    refine ⟨capIdle_state _, rfl, State.get_set_reg _ _ ?_⟩
    simp only [F.capCuCapno_CAPNO, F.capFree_FREE, A.capCuCapno, A.capFree]
    omega
  keeps h := by
    rcases h with ⟨hcmd, hbusy⟩ | ⟨hcmd | hcmd, hidle⟩
    · rw [capCmd_busy hcmd hbusy]
      exact ⟨rfl, rfl⟩
    · rw [capCmd_stop hcmd, if_neg (by omega), if_pos hidle]
      exact ⟨rfl, rfl⟩
    · rw [capCmd_disarm hcmd, if_pos hidle]
      exact ⟨rfl, rfl⟩

/-- Settles O42: a command acts on its own unit at its strobe, and an entry takes its place in its ring. -/
theorem captureControl : Obligations.CaptureControl := by
  intro d m s
  refine ⟨?control, ⟨fun x hhead hlen hunit => ?strobe, ?reserved⟩,
    ⟨fun hworks e hwaits hroom hbody hunit => ?entry, fun hworks hwaits hroom => ?full,
    fun hnone => ?quiet⟩⟩
  case control =>
    intro u only post pre rs alloc c stream post' pre' idle answers
    have hanswers {cmd : Nat} {c : Instr} (htop : cmd ≤ 4) (hexec : exec c s = .next (runDesc 0x0800 opCapture (d.force 1 11 8 cmd) s)) :
        answers cmd (d.force 1 11 8 cmd) c (s.capWhy u cmd) (cmd == 1 && s.capClamps d) := fun h => by
      obtain ⟨t, ht, honly, hframe, hcmds⟩ := captureCmd_answers htop hexec h
      exact ⟨t, ht, ⟨honly, hframe⟩, hcmds⟩
    refine ⟨hanswers (c := .captureArm d) (by decide) rfl, hanswers (c := .captureStop d) (by decide) rfl,
      hanswers (c := .captureForce d) (by decide) rfl, hanswers (c := .captureDisarm d) (by decide) rfl, fun h => ?_⟩
    obtain ⟨t, ht, honly, hframe, hcmds⟩ := captureCtrl_answers (captureCtrlNoAction_runs d s) h (noCmd_cmd d)
    exact ⟨t, ht, ⟨honly, hframe⟩, hcmds⟩
  case strobe =>
    have htaken : capStrobe s = capCmd x s.unasked := capStrobe_one hhead hlen
    have hacts : UnitActs m.val s.unasked (capCmd x s.unasked) := hunit ▸ capCmd_acts x s.unasked
    have htakes : StrobeTakes s.unasked (capCmd x s.unasked) x m.val := hunit ▸ capCmd_takes x s.unasked
    have hothers : OtherUnits m s.unasked (capCmd x s.unasked) := hacts.others
    rw [htaken]
    refine ⟨hothers, hacts.cmds, htakes.armed, fun hcmd hidle hfree => ?_, htakes.waits, htakes.stops, htakes.ends, htakes.forces,
      htakes.disarms, htakes.keeps⟩
    obtain ⟨⟨hstate, hseq, hon, ht0, hfree', hlast⟩, hown⟩ := htakes.starts hcmd hidle hfree
    exact ⟨⟨hstate, hseq, hon, ht0, hfree', hlast, hothers⟩, hown⟩
  case reserved =>
    refine ⟨fun ⟨hstate, hfree, hcyc⟩ => ?_, fun ⟨hstate, hfree, hreserved⟩ => ?_, fun harming hdead => ?_⟩
    · obtain ⟨l, hcu⟩ := capStart_cu m.val s
      obtain ⟨hstate', hseq, hon, ht0, hfree', hlast⟩ := capStart_starts m.val s
      refine ⟨_, congrArg Host.Outcome.next (capReserve_arming hstate hfree hcyc), ⟨hstate', hseq, hon, ht0, hfree', hlast, ?_⟩, by rw [hcu]; rfl,
        capStart_frame m.val s⟩
      exact (UnitActs.refl m.val s).capStart.others
    · refine ⟨_, congrArg Host.Outcome.next (capReserve_dead hstate hfree hreserved), capRearmed_cu m.val s, capRearmed_free m.val s,
        (capRearmed_state m.val s).trans hstate, ?_, capRearmed_frame m.val s⟩
      exact (((UnitActs.refl m.val s).capTake _).updCu _).others
    · exact congrArg Host.Outcome.next (capReserve_none harming hdead)
  case entry =>
    obtain ⟨hengine, hlate, hon⟩ := hworks
    obtain ⟨r, hr⟩ := List.head?_eq_some_iff.mp hwaits
    have hm : m.val < 4 := m.isLt
    have hstate : whenB (s.engWorks eCE && !Table.look false s.clk.late eCE) (capRingWrite m.val) s = capRingFull m.val (ringTold m.val e r s) := by
      rw [hengine, hlate]
      exact capRingWrite_eq hr hon hroom
    have hframe := ringTold_frame m.val e r s
    have hcap := ringTold_cap m.val e r s
    have htail : A.hriCrTail m.val ≠ A.capCrStatus m.val ∧ A.hriCrTail m.val ≠ A.hriEvtLost ∧ A.hriCrTail m.val ≠ A.capCuHeld e.unit := by
      simp only [A.hriCrTail, A.capCrStatus, A.hriEvtLost, A.capCuHeld]
      omega
    have hheld : A.capCuHeld e.unit ≠ A.capCrStatus m.val ∧ A.capCuHeld e.unit ≠ A.hriEvtLost := by
      simp only [A.capCuHeld, A.capCrStatus, A.hriEvtLost]
      omega
    have hregs : RegsBut [A.hriCrTail m.val, A.capCuHeld e.unit, A.capCrStatus m.val, A.hriEvtLost] s (capRingFull m.val (ringTold m.val e r s)) :=
      ringTold_regs_but m.val e r s (by simp) (by simp) (by simp) (by simp)
    refine ⟨_, congrArg Host.Outcome.next hstate, ?tail, ?queue, ?units, ?free, ?held,
      fun j hj => ?bytes, fun hblock hlen => ⟨fun j hj hfree => ?data,
      ?handed⟩, fun hheader => ⟨?kept, ringTold_event hheader⟩, fun q hentry hdata => ?other, hregs, ?frame⟩
    case tail =>
      rw [ringTold_reg r s htail.1 htail.2.1, ringShown, State.capRefresh, State.reg_set_other _ _ _ htail.2.2]
      exact State.reg_setReg_same ..
    case queue =>
      rw [hcap]
      exact (Table.look_put_same ..).trans (by rw [hr]; rfl)
    case units => rw [hcap]; exact ringWritten_units m.val e s
    case free =>
      refine hregs.get ?_
      simp only [F.capFree_FREE, A.capFree, A.hriCrTail, A.capCuHeld, A.capCrStatus, A.hriEvtLost, List.mem_cons, List.not_mem_nil, or_false]
      omega
    case held =>
      have hqueued : (capRingFull m.val (ringTold m.val e r s)).queuedOf e.unit = (ringTaken m.val e r s).queuedOf e.unit := by
        rw [State.queuedOf, hcap, State.queuedOf]
      rw [hqueued, ← ringTaken_own m.val e r s, State.get,
        show (F.capCuHeld_HELD e.unit).a = A.capCuHeld e.unit from rfl, ringTold_reg r s hheld.1 hheld.2]
      exact State.get_set_same _ _ _ (by simp [F.capCuHeld_HELD])
    case bytes => rw [ringTold_hostByte]; exact ringWritten_bytes hbody hj
    case data => rw [ringTold_hostByte]; exact ringWritten_data hbody hblock hlen hj hfree
    case handed => exact (congrArg (fun c : CapSt => Table.look [] c.handed m.val) hcap).trans (by rw [ringTaken_handed, hblock]; rfl)
    case kept =>
      exact (congrArg (fun c : CapSt => Table.look [] c.handed m.val) hcap).trans (by rw [ringTaken_handed, hheader]; exact List.append_nil _)
    case other => rw [ringTold_hostByte]; exact ringWritten_other hbody hentry hdata
    case frame =>
      refine hframe.trans ?_
      rw [hframe]
  case full =>
    obtain ⟨hengine, hlate, hon⟩ := hworks
    have hstate : whenB (s.engWorks eCE && !Table.look false s.clk.late eCE) (capRingWrite m.val) s = s.set (F.capCrStatus_FULL m.val) 1 := by
      rw [hengine, hlate]
      exact capRingWrite_full hwaits hon hroom
    exact ⟨_, congrArg Host.Outcome.next hstate, State.getB_of_get (v := 1) (State.get_set_same _ _ _ (by simp [F.capCrStatus_FULL])), rfl,
      (RegsBut.refl _ s).set (f := F.capCrStatus_FULL m.val) List.mem_cons_self 1⟩
  case quiet =>
    refine congrArg Host.Outcome.next (?_ : whenB (s.engWorks eCE && !Table.look false s.clk.late eCE) (capRingWrite m.val) s = s)
    cases hengine : s.engWorks eCE && !Table.look false s.clk.late eCE
    · rfl
    · obtain ⟨hworks, hlate⟩ := Bool.and_eq_true_iff.mp hengine
      rcases hnone with hnot | hempty
      · refine capRingWrite_off ?_
        by_contra hon
        exact hnot ⟨hworks, by simpa using hlate, by simpa using hon⟩
      · exact capRingWrite_empty hempty

end Sys2Proof.Machine
end

section
/-!
PROOF. What the acts of PTP on a port do to its registers and to what the ports hold, and what of a state they leave alone (R426 to R430).
-/
namespace Sys2Proof.Machine

/-! ## Registers that are one field -/

theorem setBits_word (x : W32) (v : Nat) : setBits x 31 0 v = BitVec.ofNat 32 v :=
  BitVec.eq_of_getLsbD_eq (fun i hi => by
    rw [setBits_getLsbD, if_pos ⟨hi, i.zero_le, by omega⟩, BitVec.getLsbD_ofNat, decide_eq_true hi, Bool.true_and, Nat.sub_zero])

theorem State.reg_set_word (s : State) (a v : Nat) : (s.set ⟨a, 31, 0⟩ v).reg a = BitVec.ofNat 32 v := by
  rw [State.set, State.reg_setReg_same, setBits_word]

theorem State.get_word (s : State) (a : Nat) : s.get ⟨a, 31, 0⟩ = (s.reg a).toNat := by
  rw [State.get, bits, nbits, Nat.pow_zero, Nat.div_one]
  exact Nat.mod_eq_of_lt (s.reg a).isLt

/-- A count that fills its register goes on by what is added, wrapping. -/
theorem State.reg_set_add (s : State) (a n : Nat) : (s.set ⟨a, 31, 0⟩ (s.get ⟨a, 31, 0⟩ + n)).reg a = s.reg a + BitVec.ofNat 32 n := by
  rw [State.reg_set_word, State.get_word, BitVec.ofNat_add, BitVec.ofNat_toNat, BitVec.setWidth_eq]

theorem State.reg_setI_word (s : State) (a : Nat) (v : Int) : (s.setI ⟨a, 31, 0⟩ v).reg a = BitVec.ofInt 32 v :=
  (State.reg_set_word s a (wrapN 32 v)).trans (BitVec.eq_of_toNat_eq (by
    rw [BitVec.toNat_ofNat, BitVec.toNat_ofInt, wrapN]
    omega))

theorem State.get64_set64 (s : State) (a : Nat) (v : W64) : (s.set64 a v.toNat).get64 a = v.toNat := by
  rw [State.get64, State.set64, State.reg_setReg_other _ _ (by omega : a ≠ a + 4), State.reg_setReg_same, State.reg_setReg_same]
  have hv := v.isLt
  simp only [BitVec.toNat_ofNat]
  omega

/-! ## The ports -/

@[simp] theorem State.pp_updPp_same (s : State) (p : Nat) (f : PtpPort → PtpPort) : (s.updPp p f).pp p = f (s.pp p) := Table.look_upd_same _ p f _

theorem State.pp_updPp_other (s : State) {p q : Nat} (h : q ≠ p) (f : PtpPort → PtpPort) : (s.updPp p f).pp q = s.pp q :=
  Table.look_upd_other _ _ h f _

@[simp] theorem State.pp_set (s : State) (f : Fld) (v p : Nat) : (s.set f v).pp p = s.pp p := rfl

/-- Between two states only registers of a list, and what the PTP ports hold, differ. -/
structure PortsBut (l : List Nat) (u t : State) : Prop where
  regs : RegsBut l u t
  frame : t = { u with regs := t.regs, net := { u.net with ptp := { u.net.ptp with ports := t.net.ptp.ports } } }

namespace PortsBut
variable {l : List Nat} {u t v : State}

theorem refl (l : List Nat) (u : State) : PortsBut l u u := ⟨RegsBut.refl l u, rfl⟩

theorem set (h : PortsBut l u t) {f : Fld} (hf : f.a ∈ l) (n : Nat) : PortsBut l u (t.set f n) :=
  ⟨h.regs.set hf n, by
    obtain ⟨-, hframe⟩ := h
    generalize t.regs = r at hframe
    generalize t.net.ptp.ports = ps at hframe
    subst hframe
    rfl⟩

theorem updPp (h : PortsBut l u t) (p : Nat) (f : PtpPort → PtpPort) : PortsBut l u (t.updPp p f) :=
  ⟨h.regs, by
    obtain ⟨-, hframe⟩ := h
    generalize t.regs = r at hframe
    generalize t.net.ptp.ports = ps at hframe
    subst hframe
    rfl⟩

theorem mono {m : List Nat} (h : PortsBut l u t) (hlm : l ⊆ m) : PortsBut m u t := ⟨h.regs.mono hlm, h.frame⟩

theorem net (h : PortsBut l u t) : t.net = { u.net with ptp := { u.net.ptp with ports := t.net.ptp.ports } } := congrArg State.net h.frame
theorem ptp (h : PortsBut l u t) : t.net.ptp = { u.net.ptp with ports := t.net.ptp.ports } := congrArg NetSt.ptp h.net
theorem clk (h : PortsBut l u t) : t.clk = u.clk := by rw [h.frame]
theorem host (h : PortsBut l u t) : t.host = u.host := by rw [h.frame]
theorem now (h : PortsBut l u t) : t.nowNs = u.nowNs := congrArg (fun k : ClkSt => (k.clk + k.cyc * k.incr) / 2 ^ 32) h.clk

end PortsBut

/-! ## A message that a port receives -/

/-- A message is counted in RX_PTP of its port and, where it is forwarded, sent on the other port. -/
def State.passed (p : Nat) : Option (Nat × Nat × Int) → State → State
  | none, s => s.ptpRx p
  | some w, s => ((s.ptpRx p).updPp (1 - p) (fun x => { x with sent := some w })).bump (F.netPortTxFrames_COUNT (1 - p))

theorem ptpForward_eq_passed (p kind : Nat) (seq : BitVec 16) (corr : Int) (s : State) :
    ptpForward p kind seq corr (s.ptpRx p) = s.passed p (some (kind, seq.toNat, corr)) := rfl

/-- The registers that a message and its forwarding count in. -/
def passRegs (p : Nat) : List Nat := [A.netPortRxPtp p, A.netPortTxFrames (1 - p)]

theorem rxPtp_ne_txFrames (p q : Nat) : A.netPortRxPtp p ≠ A.netPortTxFrames q := by
  unfold A.netPortRxPtp A.netPortTxFrames
  omega

theorem ptpRx_portsBut {l : List Nat} (p : Nat) (s : State) (hl : A.netPortRxPtp p ∈ l) : PortsBut l s (s.ptpRx p) := by
  unfold State.ptpRx
  split
  · exact PortsBut.refl l s
  · exact (PortsBut.refl l s).set (f := F.netPortRxPtp_COUNT p) hl _

theorem ptpRx_pp (p q : Nat) (s : State) : (s.ptpRx p).pp q = s.pp q := by
  unfold State.ptpRx
  split <;> rfl

theorem ptpRx_counts (p : Nat) (s : State) :
    (s.ptpRx p).reg (A.netPortRxPtp p) = s.reg (A.netPortRxPtp p) + if s.portMode p = 0 then 0 else 1 := by
  unfold State.ptpRx
  split
  · exact (BitVec.add_zero _).symm
  · exact s.reg_set_add _ 1

section
variable (p : Nat) (fw : Option (Nat × Nat × Int)) (s : State)

theorem passed_portsBut : PortsBut (passRegs p) s (s.passed p fw) := by
  have hrx : PortsBut (passRegs p) s (s.ptpRx p) := ptpRx_portsBut p s List.mem_cons_self
  cases fw with
  | none => exact hrx
  | some w => exact (hrx.updPp _ _).set (f := F.netPortTxFrames_COUNT (1 - p)) (List.mem_cons_of_mem _ List.mem_cons_self) _

theorem passed_counts : (s.passed p fw).reg (A.netPortRxPtp p) = s.reg (A.netPortRxPtp p) + if s.portMode p = 0 then 0 else 1 := by
  cases fw with
  | none => exact ptpRx_counts p s
  | some w => exact (State.reg_set_other _ _ _ (rxPtp_ne_txFrames p (1 - p))).trans (ptpRx_counts p s)

theorem passed_frames : (s.passed p fw).reg (A.netPortTxFrames (1 - p)) = s.reg (A.netPortTxFrames (1 - p)) + if fw.isSome then 1 else 0 := by
  have hrx : (s.ptpRx p).reg (A.netPortTxFrames (1 - p)) = s.reg (A.netPortTxFrames (1 - p)) :=
    (ptpRx_portsBut (l := [A.netPortRxPtp p]) p s List.mem_cons_self).regs _
      (fun h => rxPtp_ne_txFrames p (1 - p) (List.mem_singleton.mp h).symm)
  cases fw with
  | none => exact hrx.trans (BitVec.add_zero _).symm
  | some w => exact (State.reg_set_add _ _ 1).trans (congrArg (· + 1) hrx)

theorem passed_pp_other : (s.passed p fw).pp (1 - p) = { s.pp (1 - p) with sent := fw.or (s.pp (1 - p)).sent } := by
  cases fw with
  | none => exact ptpRx_pp p _ s
  | some w =>
    refine (State.pp_updPp_same (s.ptpRx p) (1 - p) _).trans ?_
    rw [ptpRx_pp]
    rfl

theorem passed_pp_self (hp : p < 2) : (s.passed p fw).pp p = s.pp p := by
  cases fw with
  | none => exact ptpRx_pp p p s
  | some w => exact (State.pp_updPp_other (s.ptpRx p) (by omega) _).trans (ptpRx_pp p p s)

end

/-! ## When PTP takes a message -/

/-- The clock kind that a state acts as, in the words of the statements. -/
theorem clockKind_eq (s : State) :
    s.clockKind = if 2 ≤ s.get F.ptpCfg_CLOCK ∧ ¬ (s.portMode 0 = 1 ∧ s.portMode 1 = 1) then 1 else s.get F.ptpCfg_CLOCK := by
  by_cases h0 : s.portMode 0 = 1 <;> simp [State.clockKind, State.bothPlant, h0]

theorem isTc_iff (s : State) : s.isTc = true ↔ 2 ≤ s.clockKind := decide_eq_true_iff

theorem clockKind_ne_zero_iff (s : State) : s.clockKind ≠ 0 ↔ s.get F.ptpCfg_CLOCK ≠ 0 := by
  unfold State.clockKind
  split <;> omega

theorem ptpOn_iff (s : State) (p : Nat) : s.ptpOn p = true ↔
    s.getB (F.ptpPortCfg_EN p) = true ∧ (s.portMode p = 2 ∨ (s.portMode p = 1 ∧ s.get F.ptpCfg_CLOCK ≠ 0)) := by
  simp [State.ptpOn, ← clockKind_ne_zero_iff]

theorem ptpTakes_iff (s : State) (p : Nat) (d : BitVec 8) : s.ptpTakes p d = true ↔
    (s.getB (F.ptpPortCfg_EN p) = true ∧ (s.portMode p = 2 ∨ (s.portMode p = 1 ∧ s.get F.ptpCfg_CLOCK ≠ 0))) ∧
      d.toNat = s.get F.ptpCfg_DOMAIN := by
  rw [State.ptpTakes, Bool.and_eq_true, ptpOn_iff, beq_iff_eq]

theorem byNe_works {s : State} (h : s.engWorks eNE = true) (f : State → State) : byNe f s = f s := if_pos h
theorem byNe_idle {s : State} (h : ¬ s.engWorks eNE = true) (f : State → State) : byNe f s = s := if_neg h

end Sys2Proof.Machine
end

section
/-!
PROOF. Delay exchanges, the measurement of the path delay and the path hold (R428, R430, R435, R436).
-/
namespace Sys2Proof.Machine

/-! ## Requests -/

/-- A message that port `p` receives is counted and sends `n` frames of `what` on port `k`; nothing else changes. -/
def Passes (p k n : Nat) (what : Nat × Nat × Int) (v t : State) : Prop :=
  (t.reg (A.netPortRxPtp p) = v.reg (A.netPortRxPtp p) + (if v.portMode p = 0 then 0 else 1) ∧
    t.reg (A.netPortTxFrames k) = v.reg (A.netPortTxFrames k) + BitVec.ofNat 32 n) ∧
  t.pp k = (if n = 0 then v.pp k else { v.pp k with sent := some what }) ∧ t.pp (1 - k) = v.pp (1 - k) ∧
  (∀ a, a ∉ [A.netPortRxPtp p, A.netPortTxFrames k] → t.reg a = v.reg a) ∧
  t = { v with regs := t.regs, net := { v.net with ptp := { v.net.ptp with ports := t.net.ptp.ports } } }

section
variable {p : Nat} (v : State)

theorem ptpRx_passes (k : Nat) (what : Nat × Nat × Int) : Passes p k 0 what v (v.ptpRx p) := by
  have hrx : PortsBut [A.netPortRxPtp p] v (v.ptpRx p) := ptpRx_portsBut p v List.mem_cons_self
  refine ⟨⟨ptpRx_counts p v, ?_⟩, ptpRx_pp p k v, ptpRx_pp p (1 - k) v, hrx.regs.mono ?_, hrx.frame⟩
  · exact (hrx.regs _ (fun h => rxPtp_ne_txFrames p k (List.mem_singleton.mp h).symm)).trans (BitVec.add_zero _).symm
  · exact List.cons_subset_cons _ (List.nil_subset _)

theorem passed_passes (hp : p < 2) (what : Nat × Nat × Int) : Passes p (1 - p) 1 what v (v.passed p (some what)) := by
  have hother : 1 - (1 - p) = p := by omega
  have hpass := passed_portsBut p (some what) v
  refine ⟨⟨passed_counts p _ v, passed_frames p _ v⟩, passed_pp_other p _ v, ?_, hpass.regs, hpass.frame⟩
  rw [hother]
  exact passed_pp_self p _ v hp

theorem ptpSend_passes (hp : p < 2) (kind seq : Nat) (corr : Int) {n : Nat} (hn : n ≠ 0) :
    Passes p p n (kind, seq, corr) v (ptpSend p kind seq corr n (v.ptpRx p)) := by
  have hrx : PortsBut [A.netPortRxPtp p, A.netPortTxFrames p] v (v.ptpRx p) := ptpRx_portsBut p v List.mem_cons_self
  have hsent : PortsBut [A.netPortRxPtp p, A.netPortTxFrames p] v (ptpSend p kind seq corr n (v.ptpRx p)) :=
    (hrx.updPp p _).set (f := F.netPortTxFrames_COUNT p) (List.mem_cons_of_mem _ List.mem_cons_self) _
  obtain ⟨⟨hcounts, hframes⟩, -⟩ := ptpRx_passes (p := p) v p (kind, seq, corr)
  refine ⟨⟨(State.reg_set_other _ _ _ (rxPtp_ne_txFrames p p)).trans hcounts, ?_⟩, ?_, ?_, hsent.regs, hsent.frame⟩
  · exact (State.reg_set_add _ _ n).trans (congrArg (· + BitVec.ofNat 32 n) (hframes.trans (BitVec.add_zero _)))
  · rw [if_neg hn]
    exact (State.pp_updPp_same (v.ptpRx p) p _).trans (by rw [ptpRx_pp])
  · exact (State.pp_updPp_other (v.ptpRx p) (by omega) _).trans (ptpRx_pp p _ v)

end

/-! ## What follows a measurement -/

/-- A state without its registers, its events, the flags of the cycle and what PTP holds. -/
def State.sansPtp (s : State) : State := { s with
  regs := []
  clk := { s.clk with fresh := [] }
  host := { s.host with evBuf := [], evDropped := 0 }
  net := { s.net with ptp := {} } }

section
variable (s : State)

@[simp] theorem State.sansPtp_set (f : Fld) (v : Nat) : (s.set f v).sansPtp = s.sansPtp := rfl
@[simp] theorem State.sansPtp_setB (f : Fld) (b : Bool) : (s.setB f b).sansPtp = s.sansPtp := rfl
@[simp] theorem State.sansPtp_setI (f : Fld) (v : Int) : (s.setI f v).sansPtp = s.sansPtp := rfl
@[simp] theorem State.sansPtp_setReg (a : Nat) (v : W32) : (s.setReg a v).sansPtp = s.sansPtp := rfl
@[simp] theorem State.sansPtp_set64 (a v : Nat) : (s.set64 a v).sansPtp = s.sansPtp := rfl
@[simp] theorem State.sansPtp_flag (f : Fld) : (s.flag f).sansPtp = s.sansPtp := rfl
@[simp] theorem State.sansPtp_updPtp (f : PtpSt → PtpSt) : (s.updPtp f).sansPtp = s.sansPtp := rfl
@[simp] theorem State.sansPtp_updPp (p : Nat) (f : PtpPort → PtpPort) : (s.updPp p f).sansPtp = s.sansPtp := rfl

@[simp] theorem State.sansPtp_raise (code sev data ctrl : Nat) (p : List (Nat × Nat × Nat)) :
    (s.raise code sev data ctrl p).sansPtp = s.sansPtp := by
  unfold State.raise State.raiseAt
  split <;> rfl

end

theorem PortsBut.sansPtp {l : List Nat} {u t : State} (h : PortsBut l u t) : t.sansPtp = u.sansPtp := by
  rw [h.frame]
  rfl

/-- Two states that are alike without what PTP writes are alike but for it. -/
theorem State.eq_of_sansPtp {u t : State} (h : t.sansPtp = u.sansPtp) : t = { u with
    regs := t.regs
    host := { u.host with evBuf := t.host.evBuf, evDropped := t.host.evDropped }
    net := { u.net with ptp := t.net.ptp }
    clk := { u.clk with fresh := t.clk.fresh } } := by
  obtain ⟨_, ⟨⟩, ⟨⟩, _, _, _, _, _, _, _, _, _, ⟨⟩⟩ := t
  obtain ⟨_, ⟨⟩, ⟨⟩, _, _, _, _, _, _, _, _, _, ⟨⟩⟩ := u
  simp only [State.sansPtp, State.mk.injEq, ClkSt.mk.injEq, HostSt.mk.injEq, NetSt.mk.injEq] at h ⊢
  tauto

/-- The registers that the path delay writes. -/
def pathRegs : List Nat := [A.ptpPathDelay, A.ptpStatus, A.ptpAsymBound, A.hriEvtLost]

/-- The fields of PTP_STATUS that the path delay leaves alone. -/
def PathKept : List Fld := [F.ptpStatus_STATE, F.ptpStatus_STEPPED, F.ptpStatus_SLAVE, F.ptpStatus_SLAVE_PORT, F.ptpStatus_LOCKED,
  F.ptpStatus_AUTH, F.ptpStatus_STEP_PENDING, F.ptpStatus_STEP_REFUSED, F.ptpStatus_CLOCK_ERR]

/-- What PTP holds and shows of the path delay in `t`, with the events raised since `w`; all else is as in `w`, but for registers of a list. -/
structure PathShows (l : List Nat) (w t : State) (x : PtpSt) (delay : Nat) (hold : Bool) (asym bound : Nat) (events : List Event) : Prop where
  ptp : t.net.ptp = x
  delay : t.get F.ptpPathDelay_PATH_DELAY = delay
  hold : t.getB F.ptpStatus_PATH_HOLD = hold
  asym : t.get F.ptpStatus_ASYM = asym
  bound : t.get F.ptpAsymBound_ASYM_BOUND = bound
  kept : ∀ f ∈ PathKept, t.get f = w.get f
  events : w.host.evBuf.length < 256 → t.host.evBuf = w.host.evBuf ++ events
  regs : RegsBut l w t
  frame : t.sansPtp = w.sansPtp

/-- An event of the path delay. -/
def pathEvent (w : State) (code sev ctrl payload : Nat) : Event :=
  { code := BitVec.ofNat 16 code, sev := sev, data := 0, ctrl := BitVec.ofNat 16 ctrl, time := BitVec.ofNat 64 w.nowNs
    payload := BitVec.ofNat 128 payload }

theorem q8_lt (d : Int) : q8 d < 2 ^ 32 := by
  unfold q8 wrapN
  omega

/-- The fields that the path delay leaves share no bit with those that it writes. -/
theorem pathKept_apart : ∀ f ∈ PathKept, f.a = A.ptpStatus ∧ (f.hi < 8 ∨ 8 < f.lo) ∧ (f.hi < 10 ∨ 10 < f.lo) := by decide

theorem State.nowNs_of_sansPtp {w t : State} (h : t.sansPtp = w.sansPtp) : t.nowNs = w.nowNs := by
  show t.sansPtp.nowNs = w.sansPtp.nowNs
  rw [h]

theorem PathShows.raise {l : List Nat} {w t : State} {x : PtpSt} {delay : Nat} {hold : Bool} {asym bound : Nat}
    (h : PathShows l w t x delay hold asym bound []) (hl : pathRegs ⊆ l) (code sev ctrl : Nat) {payload : List (Nat × Nat × Nat)} {value : Nat}
    (hpay : pl payload = BitVec.ofNat 128 value) :
    PathShows l w (t.raise code sev 0 ctrl payload) x delay hold asym bound [pathEvent w code sev ctrl value] where
  ptp := (congrArg NetSt.ptp (State.raise_net ..)).trans h.ptp
  delay := (State.get_raise _ _ _ _ _ _ (by decide)).trans h.delay
  hold := (congrArg (· != 0) (State.get_raise _ _ _ _ _ _ (by decide))).trans h.hold
  asym := (State.get_raise _ _ _ _ _ _ (by decide)).trans h.asym
  bound := (State.get_raise _ _ _ _ _ _ (by decide)).trans h.bound
  kept := fun f hf => by
    obtain ⟨ha, -⟩ := pathKept_apart f hf
    exact (State.get_raise _ _ _ _ _ _ (by rw [ha]; decide)).trans (h.kept f hf)
  events := fun hroom => by
    have hsame : t.host.evBuf = w.host.evBuf := (h.events hroom).trans (List.append_nil _)
    rw [State.raise_evBuf _ _ _ _ _ _ (hsame ▸ hroom), hsame, hpay, State.nowNs_of_sansPtp h.frame]
    rfl
  regs := h.regs.raise (hl (by decide)) _ _ _ _ _
  frame := (State.sansPtp_raise ..).trans h.frame

section
variable {l : List Nat} {w t : State} {x : PtpSt} {delay : Nat} {hold : Bool} {asym bound : Nat}
  (h : PathShows l w t x delay hold asym bound []) (hl : pathRegs ⊆ l)
include h

theorem PathShows.updPtp (f : PtpSt → PtpSt) : PathShows l w (t.updPtp f) (f x) delay hold asym bound [] :=
  { h with ptp := congrArg f h.ptp, hold := h.hold }

include hl

theorem PathShows.setD (d : Int) : PathShows l w (setD d t) { x with d := some d } (q8 d) hold asym bound [] where
  ptp := congrArg (fun y : PtpSt => { y with d := some d }) h.ptp
  delay := (State.get_set_same _ _ _ (by decide)).trans (Nat.mod_eq_of_lt (q8_lt d))
  hold := (congrArg (· != 0) (State.get_set_reg _ _ (by decide))).trans h.hold
  asym := (State.get_set_reg _ _ (by decide)).trans h.asym
  bound := (State.get_set_reg _ _ (by decide)).trans h.bound
  kept := fun f hf => by
    obtain ⟨ha, -⟩ := pathKept_apart f hf
    exact (State.get_set_reg _ _ (by rw [ha]; decide)).trans (h.kept f hf)
  events := h.events
  regs := h.regs.set (f := F.ptpPathDelay_PATH_DELAY) (hl (by decide)) _
  frame := h.frame

theorem PathShows.setHold (b : Bool) : PathShows l w (t.set F.ptpStatus_PATH_HOLD b.toNat) x delay b asym bound [] where
  ptp := h.ptp
  delay := (State.get_set_reg _ _ (by decide)).trans h.delay
  hold := (congrArg (· != 0) (State.get_set_same _ _ _ (by decide))).trans (by cases b <;> rfl)
  asym := (State.get_set_bits _ _ (by decide)).trans h.asym
  bound := (State.get_set_reg _ _ (by decide)).trans h.bound
  kept := fun f hf => by
    obtain ⟨-, happart, -⟩ := pathKept_apart f hf
    exact (State.get_set_bits _ _ happart).trans (h.kept f hf)
  events := h.events
  regs := h.regs.set (f := F.ptpStatus_PATH_HOLD) (hl (by decide)) _
  frame := h.frame

theorem PathShows.flagAsym : PathShows l w (t.flag F.ptpStatus_ASYM) x delay hold 1 bound [] where
  ptp := h.ptp
  delay := (State.get_set_reg _ _ (by decide)).trans h.delay
  hold := (congrArg (· != 0) (State.get_set_bits _ _ (by decide))).trans h.hold
  asym := State.get_set_same _ _ _ (by decide)
  bound := (State.get_set_reg _ _ (by decide)).trans h.bound
  kept := fun f hf => by
    obtain ⟨-, -, happart⟩ := pathKept_apart f hf
    exact (State.get_set_bits _ _ happart).trans (h.kept f hf)
  events := h.events
  regs := h.regs.flag (f := F.ptpStatus_ASYM) (hl (by decide))
  frame := h.frame

theorem PathShows.setBound {n : Nat} (hn : n < 2 ^ 32) : PathShows l w (t.set F.ptpAsymBound_ASYM_BOUND n) x delay hold asym n [] where
  ptp := h.ptp
  delay := (State.get_set_reg _ _ (by decide)).trans h.delay
  hold := (congrArg (· != 0) (State.get_set_reg _ _ (by decide))).trans h.hold
  asym := (State.get_set_reg _ _ (by decide)).trans h.asym
  bound := (State.get_set_same _ _ _ (by decide)).trans (Nat.mod_eq_of_lt hn)
  kept := fun f hf => by
    obtain ⟨ha, -⟩ := pathKept_apart f hf
    exact (State.get_set_reg _ _ (by rw [ha]; decide)).trans (h.kept f hf)
  events := h.events
  regs := h.regs.set (f := F.ptpAsymBound_ASYM_BOUND) (hl (by decide)) _
  frame := h.frame

end

/-! ## A measurement -/

/-- The last 8 measurements, with the new one. -/
def pathLast (x : PtpSt) (v : Int) : List Int := (x.meas ++ [v]).drop (x.meas.length + 1 - 8)

section
variable (p : Nat) (v : Int) (w : State)

theorem pathMeasure_accepts (h : w.net.ptp.d = none ∨ (w.net.ptp.hold = none ∧
    ∀ d, w.net.ptp.d = some d → (v - d).natAbs ≤ w.get F.ptpPath_PATH_STEP_LIMIT * 65536)) :
    pathMeasure p v w = setD (meanOf (pathLast w.net.ptp v)) (w.updPtp (fun y => { y with meas := pathLast w.net.ptp v })) := by
  unfold pathMeasure
  rcases hd : w.net.ptp.d with - | d
  · simp only [hd]
    rfl
  · obtain hnone | ⟨hhold, hnear⟩ := h
    · exact absurd (hd.symm.trans hnone) (by simp)
    · simp only [hd, hhold, if_pos (hnear d hd)]
      rfl

theorem pathMeasure_ends {h : PathHold} {d : Int} (hhold : w.net.ptp.hold = some h) (hd : w.net.ptp.d = some d)
    (hnear : (v - d).natAbs ≤ w.get F.ptpPath_PATH_STEP_LIMIT * 65536) : pathMeasure p v w =
      ((w.updPtp (fun y => { y with hold := none })).set F.ptpStatus_PATH_HOLD 0).raise 0x090A sevInfo 0 (ptpPlace p) [(16, 4, q8 d)] := by
  unfold pathMeasure
  simp only [hd, hhold, if_pos hnear]

theorem pathMeasure_aside {h : PathHold} {d : Int} (hhold : w.net.ptp.hold = some h) (hd : w.net.ptp.d = some d)
    (hfar : ¬ (v - d).natAbs ≤ w.get F.ptpPath_PATH_STEP_LIMIT * 65536) : pathMeasure p v w =
      w.updPtp (fun y => { y with hold := some { h with aside := h.aside ++ [v] } }) := by
  unfold pathMeasure
  simp only [hd, hhold, if_neg hfar]

/-- The bound of ASYM_BOUND for a measurement that deviates by `dev`. -/
def asymBound (dev : Nat) : Nat := min (qdiv dev 65536).toNat (2 ^ 32 - 1)

theorem satN_32 (n : Nat) : satN 32 n = min n (2 ^ 32 - 1) := by
  unfold satN
  split <;> omega

theorem pathMeasure_starts {d : Int} (hhold : w.net.ptp.hold = none) (hd : w.net.ptp.d = some d)
    (hfar : ¬ (v - d).natAbs ≤ w.get F.ptpPath_PATH_STEP_LIMIT * 65536) : pathMeasure p v w =
      ((((w.updPtp (fun y => { y with hold := some { due := w.ptpStep + w.ivTicks (w.get F.ptpPath_PATH_HOLD) 0, aside := [v] } })).set
        F.ptpStatus_PATH_HOLD 1).flag F.ptpStatus_ASYM).set F.ptpAsymBound_ASYM_BOUND (asymBound (v - d).natAbs)).raise 0x0908 sevWarn 0
        (ptpPlace p) [(16, 4, asymBound (v - d).natAbs), (20, 4, q8 v)] := by
  unfold pathMeasure
  simp only [hd, hhold, if_neg hfar, satN_32]
  rfl

end

/-- Registers of a list are counters of the ports. -/
def PortCounters (l : List Nat) : Prop := ∀ a ∈ l, 0x12100 ≤ a ∧ a < 0x12300

theorem passRegs_counters {p : Nat} (hp : p < 2) : PortCounters (passRegs p) := fun a h => by
  simp only [passRegs, A.netPortRxPtp, A.netPortTxFrames, List.mem_cons, List.not_mem_nil, or_false] at h
  omega

theorem PortCounters.not_mem {l : List Nat} {a : Nat} (hl : PortCounters l) (h : a < 0x12100 ∨ 0x12300 ≤ a) : a ∉ l := fun hmem => by
  have := hl a hmem
  omega

/-! ## The three ways to take a measurement, in the words of the statement -/

def PathAccepts (x : PtpSt) (limit : Nat) (v : Int) : Prop := x.d = none ∨ (x.hold = none ∧ ∀ d, x.d = some d → (v - d).natAbs ≤ limit)
def PathStarts (x : PtpSt) (limit : Nat) (v : Int) : Prop := x.hold = none ∧ ∃ d, x.d = some d ∧ limit < (v - d).natAbs
def PathEnds (x : PtpSt) (limit : Nat) (v : Int) : Prop := x.hold.isSome ∧ ∃ d, x.d = some d ∧ (v - d).natAbs ≤ limit

theorem PathAccepts.excludes {x : PtpSt} {limit : Nat} {v : Int} (h : PathAccepts x limit v) : ¬ PathEnds x limit v ∧ ¬ PathStarts x limit v := by
  constructor
  · rintro ⟨hsome, d, hd, -⟩
    rcases h with hnone | ⟨hhold, -⟩
    · exact Option.some_ne_none d (hd.symm.trans hnone)
    · rw [hhold] at hsome
      exact Bool.false_ne_true hsome
  · rintro ⟨-, d, hd, hfar⟩
    rcases h with hnone | ⟨-, hnear⟩
    · exact Option.some_ne_none d (hd.symm.trans hnone)
    · exact absurd (hnear d hd) (by omega)

/-- What a measurement `v` makes of what PTP holds and shows, and the events that it raises. -/
def PathTaken (l : List Nat) (p : Nat) (v : Int) (u t : State) (x : PtpSt) (accept ends starts : Prop) [Decidable accept] [Decidable ends]
    [Decidable starts] : Prop :=
  PathShows (l ++ pathRegs) u t
    { x with
      d := if accept then some (meanOf (pathLast x v)) else x.d
      meas := if accept then pathLast x v else x.meas
      hold := if accept then x.hold else if ends then none
        else if starts then some { due := u.clk.ticks + 1 + u.ivTicks (u.get F.ptpPath_PATH_HOLD) 0, aside := [v] }
        else x.hold.map (fun h => { h with aside := h.aside ++ [v] }) }
    (if accept then q8 (meanOf (pathLast x v)) else u.get F.ptpPathDelay_PATH_DELAY)
    (if accept then u.getB F.ptpStatus_PATH_HOLD else if ends then false else if starts then true else u.getB F.ptpStatus_PATH_HOLD)
    (if starts then 1 else u.get F.ptpStatus_ASYM)
    (if starts then asymBound (v - x.d.getD 0).natAbs else u.get F.ptpAsymBound_ASYM_BOUND)
    ((if starts then [pathEvent u 0x0908 sevWarn (0x8980 + p) (asymBound (v - x.d.getD 0).natAbs + q8 v * 2 ^ 32)] else []) ++
      (if ends then [pathEvent u 0x090A sevInfo (0x8980 + p) (q8 (x.d.getD 0))] else []))

section
variable {l : List Nat} {p : Nat} {v : Int} {u w : State} (hc : PortCounters l) (hw : PortsBut l u w)
include hc hw

/-- A message alone shows nothing of the path delay. -/
theorem PortsBut.shows : PathShows (l ++ pathRegs) u w w.net.ptp (u.get F.ptpPathDelay_PATH_DELAY)
    (u.getB F.ptpStatus_PATH_HOLD) (u.get F.ptpStatus_ASYM) (u.get F.ptpAsymBound_ASYM_BOUND) [] where
  ptp := rfl
  delay := hw.regs.get (hc.not_mem (by decide))
  hold := hw.regs.getB (hc.not_mem (by decide))
  asym := hw.regs.get (hc.not_mem (by decide))
  bound := hw.regs.get (hc.not_mem (by decide))
  kept := fun f hf => by
    obtain ⟨ha, -⟩ := pathKept_apart f hf
    exact hw.regs.get (hc.not_mem (by rw [ha]; decide))
  events := fun _ => by rw [hw.host, List.append_nil]
  regs := hw.regs.mono (List.subset_append_left _ _)
  frame := hw.sansPtp

theorem PortsBut.limit : w.get F.ptpPath_PATH_STEP_LIMIT = u.get F.ptpPath_PATH_STEP_LIMIT :=
  hw.regs.get (hc.not_mem (by decide))

theorem PortsBut.holdDue : w.ptpStep + w.ivTicks (w.get F.ptpPath_PATH_HOLD) 0 =
    u.clk.ticks + 1 + u.ivTicks (u.get F.ptpPath_PATH_HOLD) 0 := by
  have hft : w.ftNs = u.ftNs := congrArg ftNsOf (hw.regs.get (hc.not_mem (by decide)))
  rw [State.ptpStep, hw.clk, State.ivTicks, State.ivTicks, hft, hw.regs.get (hc.not_mem (by decide))]

/-- A measurement that is taken into the mean. -/
theorem pathMeasure_accepts_shows (h : PathAccepts u.net.ptp (u.get F.ptpPath_PATH_STEP_LIMIT * 65536) v) :
    PathShows (l ++ pathRegs) u (pathMeasure p v w) { u.net.ptp with
        ports := w.net.ptp.ports, d := some (meanOf (pathLast u.net.ptp v)), meas := pathLast u.net.ptp v }
      (q8 (meanOf (pathLast u.net.ptp v))) (u.getB F.ptpStatus_PATH_HOLD) (u.get F.ptpStatus_ASYM) (u.get F.ptpAsymBound_ASYM_BOUND) [] := by
  have hlast : pathLast w.net.ptp v = pathLast u.net.ptp v := by rw [hw.ptp]; rfl
  have htaken := ((hw.shows hc).updPtp (fun y => { y with meas := pathLast u.net.ptp v })).setD (List.subset_append_right _ _)
    (meanOf (pathLast u.net.ptp v))
  rw [hw.ptp] at htaken
  rw [pathMeasure_accepts p v w (by rw [hw.ptp, hw.limit hc]; exact h), hlast]
  exact htaken

/-- A measurement near D ends a path hold. -/
theorem pathMeasure_ends_shows {h : PathHold} {d : Int} (hhold : u.net.ptp.hold = some h) (hd : u.net.ptp.d = some d)
    (hnear : (v - d).natAbs ≤ u.get F.ptpPath_PATH_STEP_LIMIT * 65536) :
    PathShows (l ++ pathRegs) u (pathMeasure p v w) { u.net.ptp with ports := w.net.ptp.ports, hold := none }
      (u.get F.ptpPathDelay_PATH_DELAY) false (u.get F.ptpStatus_ASYM) (u.get F.ptpAsymBound_ASYM_BOUND)
      [pathEvent u 0x090A sevInfo (0x8980 + p) (q8 d)] := by
  have hl : pathRegs ⊆ l ++ pathRegs := List.subset_append_right _ _
  have hpay : pl [(16, 4, q8 d)] = BitVec.ofNat 128 (q8 d) := (pl_one (q8_lt d)).trans (congrArg _ (Nat.mul_one _))
  have hended := ((((hw.shows hc).updPtp (fun y => { y with hold := none })).setHold hl false).raise hl 0x090A sevInfo (ptpPlace p) hpay)
  rw [hw.ptp] at hended
  rw [pathMeasure_ends p v w (h := h) (d := d) (by rw [hw.ptp]; exact hhold) (by rw [hw.ptp]; exact hd) (by rw [hw.limit hc]; exact hnear)]
  exact hended

/-- A measurement far from D is kept aside during a path hold. -/
theorem pathMeasure_aside_shows {h : PathHold} {d : Int} (hhold : u.net.ptp.hold = some h) (hd : u.net.ptp.d = some d)
    (hfar : ¬ (v - d).natAbs ≤ u.get F.ptpPath_PATH_STEP_LIMIT * 65536) :
    PathShows (l ++ pathRegs) u (pathMeasure p v w)
      { u.net.ptp with ports := w.net.ptp.ports, hold := some { h with aside := h.aside ++ [v] } }
      (u.get F.ptpPathDelay_PATH_DELAY) (u.getB F.ptpStatus_PATH_HOLD) (u.get F.ptpStatus_ASYM) (u.get F.ptpAsymBound_ASYM_BOUND) [] := by
  have haside := (hw.shows hc).updPtp (fun y => { y with hold := some { h with aside := h.aside ++ [v] } })
  rw [hw.ptp] at haside
  rw [pathMeasure_aside p v w (h := h) (d := d) (by rw [hw.ptp]; exact hhold) (by rw [hw.ptp]; exact hd) (by rw [hw.limit hc]; exact hfar)]
  exact haside

/-- A measurement far from D starts a path hold. -/
theorem pathMeasure_starts_shows {d : Int} (hhold : u.net.ptp.hold = none) (hd : u.net.ptp.d = some d)
    (hfar : ¬ (v - d).natAbs ≤ u.get F.ptpPath_PATH_STEP_LIMIT * 65536) :
    PathShows (l ++ pathRegs) u (pathMeasure p v w) { u.net.ptp with
        ports := w.net.ptp.ports
        hold := some { due := u.clk.ticks + 1 + u.ivTicks (u.get F.ptpPath_PATH_HOLD) 0, aside := [v] } }
      (u.get F.ptpPathDelay_PATH_DELAY) true 1 (asymBound (v - d).natAbs)
      [pathEvent u 0x0908 sevWarn (0x8980 + p) (asymBound (v - d).natAbs + q8 v * 2 ^ 32)] := by
  have hl : pathRegs ⊆ l ++ pathRegs := List.subset_append_right _ _
  have hbound : asymBound (v - d).natAbs < 2 ^ 32 := lt_of_le_of_lt (Nat.min_le_right _ _) (by decide)
  have hsecond : pl [(20, 4, q8 v)] = BitVec.ofNat 128 (2 ^ (8 * (16 - 16 + 4)) * q8 v) := (pl_one (q8_lt v)).trans (congrArg _ (Nat.mul_comm _ _))
  have hpay : pl [(16, 4, asymBound (v - d).natAbs), (20, 4, q8 v)] = BitVec.ofNat 128 (asymBound (v - d).natAbs + q8 v * 2 ^ 32) :=
    (pl_cons hsecond hbound).trans (congrArg _ (congrArg₂ (· + ·) (Nat.mul_one _) (Nat.mul_comm _ _)))
  have hstarted := ((((((hw.shows hc).updPtp (fun y => { y with
    hold := some { due := u.clk.ticks + 1 + u.ivTicks (u.get F.ptpPath_PATH_HOLD) 0, aside := [v] } })).setHold hl true).flagAsym hl).setBound hl
    hbound).raise hl 0x0908 sevWarn (ptpPlace p) hpay)
  rw [hw.ptp] at hstarted
  rw [pathMeasure_starts p v w (d := d) (by rw [hw.ptp]; exact hhold) (by rw [hw.ptp]; exact hd) (by rw [hw.limit hc]; exact hfar),
    hw.holdDue hc]
  exact hstarted

theorem pathMeasure_taken {dA : Decidable (PathAccepts u.net.ptp (u.get F.ptpPath_PATH_STEP_LIMIT * 65536) v)}
    {dE : Decidable (PathEnds u.net.ptp (u.get F.ptpPath_PATH_STEP_LIMIT * 65536) v)}
    {dS : Decidable (PathStarts u.net.ptp (u.get F.ptpPath_PATH_STEP_LIMIT * 65536) v)} :
    PathTaken l p v u (pathMeasure p v w) { u.net.ptp with ports := w.net.ptp.ports }
      (PathAccepts u.net.ptp (u.get F.ptpPath_PATH_STEP_LIMIT * 65536) v)
      (PathEnds u.net.ptp (u.get F.ptpPath_PATH_STEP_LIMIT * 65536) v)
      (PathStarts u.net.ptp (u.get F.ptpPath_PATH_STEP_LIMIT * 65536) v) := by
  unfold PathTaken
  by_cases ha : PathAccepts u.net.ptp (u.get F.ptpPath_PATH_STEP_LIMIT * 65536) v
  · obtain ⟨hnotE, hnotS⟩ := ha.excludes
    simp only [if_pos ha, if_neg hnotS, if_neg hnotE]
    exact pathMeasure_accepts_shows hc hw ha
  · obtain ⟨d, hd⟩ : ∃ d, u.net.ptp.d = some d := Option.ne_none_iff_exists'.mp (fun hnone => ha (Or.inl hnone))
    have hd' : u.net.ptp.d.getD 0 = d := by rw [hd]; rfl
    rcases Option.eq_none_or_eq_some u.net.ptp.hold with hhold | ⟨h, hhold⟩
    · have hfar : ¬ (v - d).natAbs ≤ u.get F.ptpPath_PATH_STEP_LIMIT * 65536 := fun hnear =>
        ha (Or.inr ⟨hhold, fun e he => Option.some.inj (hd.symm.trans he) ▸ hnear⟩)
      have hstarts : PathStarts u.net.ptp (u.get F.ptpPath_PATH_STEP_LIMIT * 65536) v := ⟨hhold, d, hd, Nat.lt_of_not_le hfar⟩
      have hnotE : ¬ PathEnds u.net.ptp (u.get F.ptpPath_PATH_STEP_LIMIT * 65536) v := fun h => by
        rw [PathEnds, hhold] at h
        exact Bool.false_ne_true h.1
      simp only [if_neg ha, if_neg hnotE, if_pos hstarts, hd', List.append_nil]
      exact pathMeasure_starts_shows hc hw hhold hd hfar
    · have hnotS : ¬ PathStarts u.net.ptp (u.get F.ptpPath_PATH_STEP_LIMIT * 65536) v := fun hs => by
        rw [PathStarts, hhold] at hs
        exact Option.some_ne_none h hs.1
      by_cases hnear : (v - d).natAbs ≤ u.get F.ptpPath_PATH_STEP_LIMIT * 65536
      · have hends : PathEnds u.net.ptp (u.get F.ptpPath_PATH_STEP_LIMIT * 65536) v := ⟨by rw [hhold]; rfl, d, hd, hnear⟩
        simp only [if_neg ha, if_pos hends, if_neg hnotS, hd', List.nil_append]
        exact pathMeasure_ends_shows hc hw hhold hd hnear
      · have hnotE : ¬ PathEnds u.net.ptp (u.get F.ptpPath_PATH_STEP_LIMIT * 65536) v := by
          rintro ⟨-, e, he, hnear'⟩
          exact hnear (Option.some.inj (hd.symm.trans he) ▸ hnear')
        simp only [if_neg ha, if_neg hnotE, if_neg hnotS, List.nil_append]
        simp only [hhold, Option.map_some]
        exact pathMeasure_aside_shows hc hw hhold hd hnear

end

/-- A measurement writes no counter of the ports, and leaves what the ports hold. -/
theorem pathMeasure_beside (p : Nat) (v : Int) (w : State) :
    RegsBut pathRegs w (pathMeasure p v w) ∧ (pathMeasure p v w).net.ptp.ports = w.net.ptp.ports := by
  have htaken := pathMeasure_taken (p := p) (v := v) (l := []) (fun _ h => absurd h List.not_mem_nil) (PortsBut.refl [] w)
    (dA := Classical.dec _) (dE := Classical.dec _) (dS := Classical.dec _)
  exact ⟨htaken.regs, by rw [htaken.ptp]⟩

/-! ## The commands -/

section
variable (p : Nat) (m : PtpMsg) (egress t3 : W64) (s : State)

theorem delayReq_eq : delayReq p m egress s =
    if s.ptpTakes p m.domain = true then
      if 2 ≤ s.clockKind then
        s.passed p (some (1, m.seq.toNat, m.corr.toInt + (s.txTime (1 - p) egress - s.rxTime p m.stamp)))
      else if s.get (F.ptpPortState_PORT_STATE p) = 6 ∧ ¬ s.getB (F.ptpPortCfg_P2P p) = true then
        ptpSend p 9 m.seq.toNat m.corr.toInt 1 (s.ptpRx p)
      else s.ptpRx p
    else s.ptpRx p := by
  simp only [delayReq, Bool.not_eq_true', isTc_iff, ptpForward_eq_passed, Bool.not_eq_true]
  by_cases ht : s.ptpTakes p m.domain = true <;> simp [ht]

theorem pdelayReq_eq : pdelayReq p m egress s =
    if s.ptpTakes p m.domain = true then
      if s.clockKind = 2 then
        s.passed p (some (2, m.seq.toNat, m.corr.toInt + (s.txTime (1 - p) egress - s.rxTime p m.stamp)))
      else if s.clockKind = 3 ∨ s.getB (F.ptpPortCfg_P2P p) = true then
        ptpSend p 3 m.seq.toNat m.corr.toInt 2 (s.ptpRx p)
      else s.ptpRx p
    else s.ptpRx p := by
  have htwo : (s.isTc = true ∧ s.clockKind = 2) ↔ s.clockKind = 2 := ⟨And.right, fun h => ⟨(isTc_iff s).mpr (by omega), h⟩⟩
  simp only [pdelayReq, Bool.not_eq_true', htwo, ptpForward_eq_passed]
  by_cases ht : s.ptpTakes p m.domain = true <;> simp [ht]

/-- The measurement of a response to a delay request. -/
def delayMeas (m : PtpMsg) (r : BitVec 16 × Int × Nat) (l : Int × Int × Int) : Int :=
  qdiv ((l.2.1 - l.1 - l.2.2) + ((m.time.toNat : Int) * 65536 - r.2.1 - m.corr.toInt)) 2

theorem delayResp_matched {r : BitVec 16 × Int × Nat} {l : Int × Int × Int} (ht : (ptpExpire p s).ptpTakes p m.domain = true)
    (hp2p : ¬ (ptpExpire p s).getB (F.ptpPortCfg_P2P p) = true) (hr : ((ptpExpire p s).pp p).req = some r) (hseq : r.1 = m.seq)
    (hl : ((ptpExpire p s).pp p).last = some l) : delayResp p m s = pathMeasure p (delayMeas m r l)
      (((ptpExpire p s).passed p (if 2 ≤ (ptpExpire p s).clockKind then some (9, m.seq.toNat, m.corr.toInt) else none)).updPp p
        (fun x => { x with req := none })) := by
  obtain ⟨q, t, due⟩ := r
  obtain ⟨t1, t2, c⟩ := l
  simp only at hseq
  simp only [delayResp, ht, hr, hl, hseq, Bool.not_true, Bool.false_eq_true, if_false, hp2p, ne_eq, not_true_eq_false, or_self, isTc_iff,
    ptpForward_eq_passed]
  by_cases htc : 2 ≤ (ptpExpire p s).clockKind <;> simp [htc, delayMeas, State.passed]

theorem delayResp_unmatched (h : ¬ ((ptpExpire p s).ptpTakes p m.domain = true ∧ ¬ (ptpExpire p s).getB (F.ptpPortCfg_P2P p) = true ∧
    ((ptpExpire p s).pp p).last.isSome = true ∧ ∃ r, ((ptpExpire p s).pp p).req = some r ∧ r.1 = m.seq)) :
    delayResp p m s = (ptpExpire p s).passed p (if (ptpExpire p s).ptpTakes p m.domain = true ∧ 2 ≤ (ptpExpire p s).clockKind then
      some (9, m.seq.toNat, m.corr.toInt) else none) := by
  generalize hu : ptpExpire p s = u at h ⊢
  simp only [delayResp, hu, isTc_iff, ptpForward_eq_passed]
  by_cases ht : u.ptpTakes p m.domain = true
  · simp only [ht, true_and, Bool.not_true, Bool.false_eq_true, if_false] at h ⊢
    rcases hr : (u.pp p).req with - | ⟨q, t, due⟩
    · by_cases htc : 2 ≤ u.clockKind <;> simp [htc, State.passed]
    · rcases hl : (u.pp p).last with - | ⟨t1, t2, c⟩
      · by_cases htc : 2 ≤ u.clockKind <;> simp [htc, State.passed]
      · have hcond : q ≠ m.seq ∨ u.getB (F.ptpPortCfg_P2P p) = true := by
          by_contra hno
          push Not at hno
          exact h ⟨hno.2, by rw [hl]; rfl, _, hr, hno.1⟩
        by_cases htc : 2 ≤ u.clockKind <;> simp [htc, State.passed, hcond]
  · simp [ht, State.passed]

/-- The measurement of a response to a peer delay request. -/
def pdelayMeas (p : Nat) (m : PtpMsg) (t3 : W64) (u : State) (r : BitVec 16 × Int × Nat) : Int :=
  qdiv (u.rxTime p m.stamp - r.2.1 - ((t3.toNat : Int) - m.time.toNat) * 65536 - m.corr.toInt) 2

/-- A port that asks for no peer delay. -/
theorem noPeer_iff : (!(s.clockKind == 3 || s.getB (F.ptpPortCfg_P2P p))) = true ↔ ¬ (s.clockKind = 3 ∨ s.getB (F.ptpPortCfg_P2P p) = true) := by
  rw [Bool.not_eq_true', ← Bool.not_eq_true, Bool.or_eq_true, beq_iff_eq]

theorem pdelayResp_matched {r : BitVec 16 × Int × Nat} (ht : (ptpExpire p s).ptpTakes p m.domain = true)
    (hpeer : (ptpExpire p s).clockKind = 3 ∨ (ptpExpire p s).getB (F.ptpPortCfg_P2P p) = true)
    (hr : ((ptpExpire p s).pp p).req = some r) (hseq : r.1 = m.seq) :
    pdelayResp p m t3 egress s = pathMeasure p (pdelayMeas p m t3 (ptpExpire p s) r)
      (((ptpExpire p s).passed p (if (ptpExpire p s).clockKind = 2 then some (3, m.seq.toNat, m.corr.toInt +
        ((ptpExpire p s).txTime (1 - p) egress - (ptpExpire p s).rxTime p m.stamp)) else none)).updPp p (fun x => { x with req := none })) := by
  obtain ⟨q, t, due⟩ := r
  simp only at hseq
  have htwo : ((ptpExpire p s).isTc = true ∧ (ptpExpire p s).clockKind = 2) ↔ (ptpExpire p s).clockKind = 2 :=
    ⟨And.right, fun h => ⟨(isTc_iff _).mpr (by omega), h⟩⟩
  have hpeer' := Bool.eq_false_iff.mpr (mt (noPeer_iff p (ptpExpire p s)).mp (not_not.mpr hpeer))
  simp only [pdelayResp, ht, hr, hseq, hpeer', Bool.not_true, Bool.false_eq_true, if_false, ne_eq, not_true_eq_false, or_self, htwo,
    ptpForward_eq_passed]
  by_cases htc : (ptpExpire p s).clockKind = 2 <;> simp [htc, pdelayMeas, State.passed]

theorem pdelayResp_unmatched (h : ¬ ((ptpExpire p s).ptpTakes p m.domain = true ∧
    ((ptpExpire p s).clockKind = 3 ∨ (ptpExpire p s).getB (F.ptpPortCfg_P2P p) = true) ∧
    ∃ r, ((ptpExpire p s).pp p).req = some r ∧ r.1 = m.seq)) :
    pdelayResp p m t3 egress s = (ptpExpire p s).passed p (if (ptpExpire p s).ptpTakes p m.domain = true ∧ (ptpExpire p s).clockKind = 2 then
      some (3, m.seq.toNat, m.corr.toInt + ((ptpExpire p s).txTime (1 - p) egress - (ptpExpire p s).rxTime p m.stamp)) else none) := by
  generalize hu : ptpExpire p s = u at h ⊢
  have htwo : (u.isTc = true ∧ u.clockKind = 2) ↔ u.clockKind = 2 := ⟨And.right, fun h => ⟨(isTc_iff u).mpr (by omega), h⟩⟩
  simp only [pdelayResp, hu, htwo, ptpForward_eq_passed]
  by_cases ht : u.ptpTakes p m.domain = true
  · simp only [ht, true_and, Bool.not_true, Bool.false_eq_true, if_false] at h ⊢
    rcases hr : (u.pp p).req with - | ⟨q, t, due⟩
    · by_cases htc : u.clockKind = 2 <;> simp [htc, State.passed]
    · have hcond : q ≠ m.seq ∨ (!(u.clockKind == 3 || u.getB (F.ptpPortCfg_P2P p))) = true := by
        by_contra hno
        rw [not_or] at hno
        obtain ⟨hseq, hpeer⟩ := hno
        exact h ⟨not_not.mp (mt (noPeer_iff p u).mpr hpeer), _, hr, not_not.mp hseq⟩
      simp only [if_pos hcond]
      by_cases htc : u.clockKind = 2 <;> simp [htc, State.passed]
  · simp [ht, State.passed]

end

/-! ## The timers -/

section
variable (p : Nat) (s : State)

theorem delayTimeout_before (h : ∀ r, (s.pp p).req = some r → s.clk.ticks < r.2.2) : delayTimeout p s = s := by
  unfold delayTimeout
  rcases hr : (s.pp p).req with - | ⟨q, t, due⟩
  · rfl
  · exact if_pos (h _ hr)

theorem delayTimeout_after {r : BitVec 16 × Int × Nat} (hr : (s.pp p).req = some r) (h : r.2.2 ≤ s.clk.ticks) :
    delayTimeout p s = (s.updPp p (fun x => { x with req := none })).bumpSat (F.ptpPortState_DELAY_MISSED p) := by
  obtain ⟨q, t, due⟩ := r
  unfold delayTimeout
  rw [hr]
  exact if_neg (Nat.not_lt.mpr h)

theorem pathHoldExpire_before (h : ∀ h, s.net.ptp.hold = some h → s.clk.ticks < h.due) : pathHoldExpire s = s := by
  unfold pathHoldExpire
  rcases hh : s.net.ptp.hold with - | x
  · rfl
  · exact if_pos (h x hh)

theorem pathHoldExpire_again {h : PathHold} (hh : s.net.ptp.hold = some h) (hdue : h.due ≤ s.clk.ticks) (hfew : h.aside.length < 4) :
    pathHoldExpire s =
      s.updPtp (fun y => { y with hold := some { h with due := s.clk.ticks + s.ivTicks (s.get F.ptpPath_PATH_HOLD) 0 } }) := by
  unfold pathHoldExpire
  simp only [hh, if_neg (Nat.not_lt.mpr hdue), if_pos hfew]

/-- A path hold that expires with enough measurements adopts their mean. -/
theorem pathHoldExpire_adopts {h : PathHold} (hh : s.net.ptp.hold = some h) (hdue : h.due ≤ s.clk.ticks) (hmany : 4 ≤ h.aside.length) :
    PathShows pathRegs s (pathHoldExpire s) { s.net.ptp with
        hold := none, meas := h.aside.drop (h.aside.length - 8), byRate := true, d := some (meanOf h.aside) }
      (q8 (meanOf h.aside)) false (s.get F.ptpStatus_ASYM) (s.get F.ptpAsymBound_ASYM_BOUND)
      [pathEvent s 0x0909 sevInfo 0x89FF (q8 (meanOf h.aside) + q8 (s.net.ptp.d.getD 0) * 2 ^ 32)] := by
  have hsecond : pl [(20, 4, q8 (s.net.ptp.d.getD 0))] = BitVec.ofNat 128 (2 ^ (8 * (16 - 16 + 4)) * q8 (s.net.ptp.d.getD 0)) :=
    (pl_one (q8_lt _)).trans (congrArg _ (Nat.mul_comm _ _))
  have hpay : pl [(16, 4, q8 (meanOf h.aside)), (20, 4, q8 (s.net.ptp.d.getD 0))] =
      BitVec.ofNat 128 (q8 (meanOf h.aside) + q8 (s.net.ptp.d.getD 0) * 2 ^ 32) :=
    (pl_cons hsecond (q8_lt _)).trans (congrArg _ (congrArg₂ (· + ·) (Nat.mul_one _) (Nat.mul_comm _ _)))
  have hl : pathRegs ⊆ [] ++ pathRegs := List.Subset.refl _
  have hstart := PortsBut.shows (l := []) (fun _ h => absurd h List.not_mem_nil) (PortsBut.refl [] s)
  have hadopted := ((((hstart.updPtp (fun y => { y with hold := none, meas := h.aside.drop (h.aside.length - 8), byRate := true })).setD hl
    (meanOf h.aside)).setHold hl false).raise hl 0x0909 sevInfo ptpNoPort hpay)
  unfold pathHoldExpire
  simp only [hh, if_neg (Nat.not_lt.mpr hdue), if_neg (Nat.not_lt.mpr hmany)]
  exact hadopted

end

/-! ## The statement -/

/-- A clock kind is at most 3. -/
theorem clockKind_le (s : State) : s.clockKind ≤ 3 := by
  have h : s.get F.ptpCfg_CLOCK < 4 := Nat.mod_lt _ (by decide)
  unfold State.clockKind
  split <;> omega

theorem passed_passes_of (c : Prop) [Decidable c] {p : Nat} (hp : p < 2) (what : Nat × Nat × Int) (v : State) :
    Passes p (1 - p) (if c then 1 else 0) what v (v.passed p (if c then some what else none)) := by
  by_cases h : c
  · rw [if_pos h, if_pos h]
    exact passed_passes v hp what
  · rw [if_neg h, if_neg h]
    exact ptpRx_passes v (1 - p) what

/-- A bit that is set under a condition, and kept otherwise. -/
theorem bne_one_or {c : Prop} {d : Decidable c} (n : Nat) : ((if c then 1 else n) != 0) = if c then true else n != 0 := by
  by_cases h : c
  · rw [if_pos h, if_pos h]
    rfl
  · rw [if_neg h, if_neg h]

theorem pathHoldExpire_clk (s : State) : (pathHoldExpire s).clk = s.clk := by
  unfold pathHoldExpire
  split
  · rfl
  · split
    · rfl
    · split
      · rfl
      · exact State.raise_clk ..

/-- The registers of the path delay are no counters of the ports. -/
theorem pathRegs_far : ∀ a ∈ pathRegs, a < 0x12100 ∨ 0x12300 ≤ a := by decide

/-- Settles O45: each command is reduced to what a port passes on and to the way in which a measurement is taken. -/
theorem pathDelay : Obligations.PathDelay := by
  unfold Obligations.PathDelay
  intro p m egress t3 s q works now kind takes p2p corr residence counts sends none' u x y limit q8' event ctrl measured
  have hp : p.val < 2 := p.isLt
  have hkind : ∀ v, v.clockKind = kind v := clockKind_eq
  have htakes : ∀ v : State, v.ptpTakes p.val m.domain = true ↔ takes v := fun v => by
    rw [ptpTakes_iff, and_assoc]
  have hsends : ∀ {i v k n what t}, exec i s = .next t → Passes p.val k n what v t → sends i v k n what :=
    fun hexec hpass => ⟨_, hexec, hpass⟩
  have hmeasured : ∀ i fw v, exec i s = .next (pathMeasure p.val v ((u.passed p.val fw).updPp p.val (fun z => { z with req := none }))) →
      measured i fw v := by
    intro i fw v hexec
    have hw : PortsBut (passRegs p.val) u ((u.passed p.val fw).updPp p.val (fun z => { z with req := none })) :=
      (passed_portsBut p.val fw u).updPp _ _
    obtain ⟨hregs, hports⟩ := pathMeasure_beside p.val v ((u.passed p.val fw).updPp p.val (fun z => { z with req := none }))
    have hfar : ∀ {a}, a ∈ passRegs p.val → a ∉ pathRegs := fun ha hpath => (passRegs_counters hp).not_mem (pathRegs_far _ hpath) ha
    have hpp : ∀ n, (pathMeasure p.val v ((u.passed p.val fw).updPp p.val (fun z => { z with req := none }))).pp n =
        ((u.passed p.val fw).updPp p.val (fun z => { z with req := none })).pp n := fun n => by rw [State.pp, hports, State.pp]
    refine ⟨_, hexec, ⟨?counts, ?frames⟩, ?self, ?other, ?rest⟩
    case counts => exact (hregs _ (hfar List.mem_cons_self)).trans (passed_counts p.val fw u)
    case frames =>
      refine (hregs _ (hfar (List.mem_cons_of_mem _ List.mem_cons_self))).trans ((passed_frames p.val fw u).trans ?_)
      split <;> rfl
    case self => exact (hpp _).trans ((State.pp_updPp_same ..).trans (by rw [passed_pp_self _ _ _ hp]))
    case other => exact (hpp _).trans ((State.pp_updPp_other _ (by omega) _).trans (passed_pp_other p.val fw u))
    case rest =>
      intro accept starts ends dev bound l mean
      rw [hports]
      have htaken := pathMeasure_taken (p := p.val) (v := v) (passRegs_counters hp) hw (dA := (inferInstance : Decidable accept))
        (dE := (inferInstance : Decidable ends)) (dS := (inferInstance : Decidable starts))
      refine ⟨htaken.ptp, htaken.delay, htaken.hold, ?asym, htaken.bound, htaken.kept, fun hroom => ?events, htaken.regs,
        State.eq_of_sansPtp htaken.frame⟩
      case asym => exact (congrArg (· != 0) htaken.asym).trans (bne_one_or _)
      case events => exact (htaken.events hroom).trans (List.append_assoc ..).symm
  refine ⟨fun hidle => ?idle, fun hworks => ⟨?delayReq, ?pdelayReq, ?delayResp, ?pdelayResp, ?early, ?missed, ?hold⟩⟩
  case idle =>
    have hnext : ∀ {i f}, exec i s = .next (byNe f s) → exec i s = .next s := fun h => h.trans (congrArg Host.Outcome.next (byNe_idle hidle _))
    exact ⟨hnext rfl, hnext rfl, hnext rfl, hnext rfl, hnext rfl, hnext rfl⟩
  case delayReq => 
    have hexec : exec (.delayReq p m egress) s = .next (delayReq p.val m egress s) :=
      congrArg Host.Outcome.next (byNe_works hworks _)
    rw [delayReq_eq] at hexec
    refine ⟨fun ht hk => hsends hexec ?_, fun ht hk ha => hsends hexec ?_, fun h => hsends hexec ?_⟩
    · rw [if_pos ((htakes s).mpr ht), if_pos (by rw [hkind]; exact hk)]
      exact passed_passes s hp _
    · rw [if_pos ((htakes s).mpr ht), if_neg (by rw [hkind]; omega), if_pos ha]
      exact ptpSend_passes s hp _ _ _ (by decide)
    · by_cases ht : s.ptpTakes p.val m.domain = true
      · obtain ⟨hk, ha⟩ := h.resolve_left (not_not.mpr ((htakes s).mp ht))
        rw [if_pos ht, if_neg (by rw [hkind]; omega), if_neg ha]
        exact ptpRx_passes s _ _
      · rw [if_neg ht]
        exact ptpRx_passes s _ _
  case pdelayReq =>
    have hexec : exec (.pdelayReq p m egress) s = .next (pdelayReq p.val m egress s) := congrArg Host.Outcome.next (byNe_works hworks _)
    rw [pdelayReq_eq] at hexec
    refine ⟨fun ht hk => hsends hexec ?_, fun ht ha => hsends hexec ?_, fun h => hsends hexec ?_⟩
    · rw [if_pos ((htakes s).mpr ht), if_pos (by rw [hkind]; exact hk)]
      exact passed_passes s hp _
    · rw [← hkind] at ha
      rw [if_pos ((htakes s).mpr ht), if_neg (by omega), if_pos (ha.imp_right And.right)]
      exact ptpSend_passes s hp _ _ _ (by decide)
    · by_cases ht : s.ptpTakes p.val m.domain = true
      · obtain ⟨hk, ha⟩ := h.resolve_left (not_not.mpr ((htakes s).mp ht))
        rw [← hkind] at hk ha
        rw [if_pos ht, if_neg (by omega), if_neg (fun hpeer => ha (hpeer.imp_right (fun h2 => ⟨hk, h2⟩)))]
        exact ptpRx_passes s _ _
      · rw [if_neg ht]
        exact ptpRx_passes s _ _
  case delayResp =>
    have hexec : exec (.delayResp p m) s = .next (delayResp p.val m s) := congrArg Host.Outcome.next (byNe_works hworks _)
    refine ⟨fun hno => hsends hexec ?_, fun ⟨ht, hnot, hlast, r, hr, hseq⟩ r' hr' l hl => hmeasured _ _ _ (hexec.trans ?_)⟩
    · rw [delayResp_unmatched p m s (by rw [htakes]; exact hno)]
      simp only [htakes, hkind]
      exact passed_passes_of _ hp _ u
    · obtain rfl := Option.some.inj (hr.symm.trans hr')
      rw [delayResp_matched p m s ((htakes u).mpr ht) hnot hr hseq hl, hkind]
      rfl
  case pdelayResp =>
    have hexec : exec (.pdelayResp p m ⟨t3, egress⟩) s = .next (pdelayResp p.val m t3 egress s) :=
      congrArg Host.Outcome.next (byNe_works hworks _)
    refine ⟨fun hno => hsends hexec ?_, fun ⟨ht, hpeer, r, hr, hseq⟩ r' hr' => hmeasured _ _ _ (hexec.trans ?_)⟩
    · rw [pdelayResp_unmatched p m egress t3 s (by rw [htakes, hkind]; exact hno)]
      simp only [htakes, hkind]
      exact passed_passes_of _ hp _ u
    · obtain rfl := Option.some.inj (hr.symm.trans hr')
      rw [pdelayResp_matched p m egress t3 s ((htakes u).mpr ht) (by rw [hkind]; exact hpeer) hr hseq, hkind]
      rfl
  case early => exact fun h => congrArg Host.Outcome.next ((byNe_works hworks _).trans (delayTimeout_before p.val s h))
  case missed =>
    intro r hr hdue
    have hexec : exec (.delayRespTimeout p) s =
        .next ((s.updPp p.val (fun z => { z with req := none })).bumpSat (F.ptpPortState_DELAY_MISSED p.val)) :=
      congrArg Host.Outcome.next ((byNe_works hworks (delayTimeout p.val)).trans (delayTimeout_after p.val s hr hdue))
    have hport : PortsBut [A.ptpPortState p.val] s ((s.updPp p.val (fun z => { z with req := none })).bumpSat (F.ptpPortState_DELAY_MISSED p.val)) :=
      ((PortsBut.refl _ s).updPp _ _).set (f := F.ptpPortState_DELAY_MISSED p.val) List.mem_cons_self _
    refine ⟨_, hexec, State.pp_updPp_same s p.val _, State.pp_updPp_other s (by omega) _, ?_,
      State.get_set_bits _ _ (Or.inl (show 3 < 16 by decide)), hport.regs, hport.frame⟩
    exact (State.get_set_same _ _ _ (show 31 < 32 by decide)).trans
      (Nat.mod_eq_of_lt (lt_of_le_of_lt (Nat.min_le_right _ _) (show 2 ^ 16 - 1 < 2 ^ 16 by decide)))
  case hold =>
    intro z
    have hexec : exec .pathHoldExpiry s = .next (pathHoldExpire s) := congrArg Host.Outcome.next (byNe_works hworks _)
    refine ⟨fun h => ?_, fun h hh hdue hfew => ?_, fun h hh hdue hmany => ⟨_, hexec, ?_⟩⟩
    · rw [hexec, pathHoldExpire_before s h]
    · rw [hexec, pathHoldExpire_again s hh hdue hfew]
      rfl
    · have hadopts := pathHoldExpire_adopts s hh hdue hmany
      have hclk := pathHoldExpire_clk s
      generalize pathHoldExpire s = t at hadopts hclk
      have hframe := State.eq_of_sansPtp hadopts.frame
      refine ⟨?net, hadopts.delay, hadopts.hold, hadopts.events, ?fields, ?regs, ?frame⟩
      case net =>
        have hnet : t.net = { s.net with ptp := t.net.ptp } := by rw [hframe]
        rw [hnet, hadopts.ptp]
        rfl
      case fields =>
        intro f hf
        by_cases hasym : f = F.ptpStatus_ASYM
        · rw [hasym]
          exact hadopts.asym
        · exact hadopts.kept f (by simpa [PathKept, hasym] using hf)
      case regs =>
        intro a ha
        by_cases hbound : a = A.ptpAsymBound
        · have hget := hadopts.bound
          rw [F.ptpAsymBound_ASYM_BOUND, State.get_word, State.get_word] at hget
          rw [hbound]
          exact BitVec.eq_of_toNat_eq hget
        · exact hadopts.regs a (by simpa [pathRegs, hbound] using ha)
      case frame =>
        rw [hclk] at hframe
        refine hframe.trans ?_
        rw [hframe]

end Sys2Proof.Machine
end

section
/-!
PROOF. What the clock holds and shows: the acts that change it, an offset that is measured, and a master that is heard (R431 to R437).
-/
namespace Sys2Proof.Machine

/-! ## The values -/

/-- What the clock holds and shows; the ports are left out. -/
structure ClockVals where
  ptp : PtpSt
  incr : Option Nat
  state : Nat
  locked : Nat
  auth : Nat
  pending : Nat
  refused : Nat
  slave : Nat
  slavePort : Nat
  rest : Fld → Nat
  id : Nat
  offset : W32
  rate : W32
  events : List Event

/-- What a field of PTP_STATUS reads. -/
def ClockVals.status (v : ClockVals) (f : Fld) : Nat :=
  if f = F.ptpStatus_STATE then v.state else if f = F.ptpStatus_LOCKED then v.locked else if f = F.ptpStatus_AUTH then v.auth
  else if f = F.ptpStatus_STEP_PENDING then v.pending else if f = F.ptpStatus_STEP_REFUSED then v.refused
  else if f = F.ptpStatus_SLAVE then v.slave else if f = F.ptpStatus_SLAVE_PORT then v.slavePort else v.rest f

/-- The fields of PTP_STATUS. -/
def ptpStatusFields : List Fld := [F.ptpStatus_STATE, F.ptpStatus_STEPPED, F.ptpStatus_SLAVE, F.ptpStatus_SLAVE_PORT, F.ptpStatus_LOCKED,
  F.ptpStatus_AUTH, F.ptpStatus_STEP_PENDING, F.ptpStatus_PATH_HOLD, F.ptpStatus_STEP_REFUSED, F.ptpStatus_ASYM, F.ptpStatus_CLOCK_ERR]

theorem ptpStatusFields_apart : ∀ f ∈ ptpStatusFields, f.a = A.ptpStatus ∧ f.hi < 32 ∧
    ∀ g ∈ ptpStatusFields, g ≠ f → g.hi < f.lo ∨ f.hi < g.lo := by decide

/-- The registers of the clock that these acts write. -/
def clockRegs : List Nat := [A.ptpStatus, A.ptpMasterIdLo, A.ptpMasterIdLo + 4, A.ptpOffset, A.ptpRate, A.hriEvtLost]

theorem clockRegs_far : ∀ a ∈ clockRegs, a < 0x12100 ∨ 0x12300 ≤ a := by decide

/-- A state without its registers, its events, the flags of the cycle, the increment for the next strobe and what PTP holds. -/
def State.sansClock (s : State) : State := { s with
  regs := []
  clk := { s.clk with fresh := [], incrNext := none }
  host := { s.host with evBuf := [], evDropped := 0 }
  net := { s.net with ptp := {} } }

theorem State.sansClock_raise (s : State) (code sev data ctrl : Nat) (p : List (Nat × Nat × Nat)) :
    (s.raise code sev data ctrl p).sansClock = s.sansClock := by
  unfold State.raise State.raiseAt
  split <;> rfl

/-- Two states that are alike without what the clock writes are alike but for it. -/
theorem State.eq_of_sansClock {u t : State} (h : t.sansClock = u.sansClock) : t = { u with
    regs := t.regs
    host := { u.host with evBuf := t.host.evBuf, evDropped := t.host.evDropped }
    net := { u.net with ptp := t.net.ptp }
    clk := { u.clk with incrNext := t.clk.incrNext, fresh := t.clk.fresh } } := by
  obtain ⟨_, ⟨⟩, ⟨⟩, _, _, _, _, _, _, _, _, _, ⟨⟩⟩ := t
  obtain ⟨_, ⟨⟩, ⟨⟩, _, _, _, _, _, _, _, _, _, ⟨⟩⟩ := u
  simp only [State.sansClock, State.mk.injEq, ClkSt.mk.injEq, HostSt.mk.injEq, NetSt.mk.injEq] at h ⊢
  tauto

theorem State.nowNs_of_sansClock {u t : State} (h : t.sansClock = u.sansClock) : t.nowNs = u.nowNs := by
  show t.sansClock.nowNs = u.sansClock.nowNs
  rw [h]

/-- In `t` the clock holds and shows `v`, with the events raised since `u`; all else is as in `u`, but for registers of a list and for the ports. -/
structure ClockShows (l : List Nat) (u t : State) (v : ClockVals) : Prop where
  ptp : t.net.ptp = { v.ptp with ports := t.net.ptp.ports }
  incr : t.clk.incrNext = v.incr
  status : ∀ f ∈ ptpStatusFields, t.get f = v.status f
  id : t.get64 A.ptpMasterIdLo = v.id
  offset : t.reg A.ptpOffset = v.offset
  rate : t.reg A.ptpRate = v.rate
  events : u.host.evBuf.length + v.events.length ≤ 256 → t.host.evBuf = u.host.evBuf ++ v.events
  regs : RegsBut (l ++ clockRegs) u t
  frame : t.sansClock = u.sansClock

/-- What the clock holds and shows in a state. -/
def State.clockVals (s : State) : ClockVals where
  ptp := s.net.ptp
  incr := s.clk.incrNext
  state := s.get F.ptpStatus_STATE
  locked := s.get F.ptpStatus_LOCKED
  auth := s.get F.ptpStatus_AUTH
  pending := s.get F.ptpStatus_STEP_PENDING
  refused := s.get F.ptpStatus_STEP_REFUSED
  slave := s.get F.ptpStatus_SLAVE
  slavePort := s.get F.ptpStatus_SLAVE_PORT
  rest := s.get
  id := s.get64 A.ptpMasterIdLo
  offset := s.reg A.ptpOffset
  rate := s.reg A.ptpRate
  events := []

/-- What holds of each field of PTP_STATUS holds of all. -/
theorem forall_ptpStatusFields {P : Fld → Prop} (hstate : P F.ptpStatus_STATE) (hstepped : P F.ptpStatus_STEPPED) (hslave : P F.ptpStatus_SLAVE)
    (hport : P F.ptpStatus_SLAVE_PORT) (hlocked : P F.ptpStatus_LOCKED) (hauth : P F.ptpStatus_AUTH) (hpending : P F.ptpStatus_STEP_PENDING)
    (hhold : P F.ptpStatus_PATH_HOLD) (hrefused : P F.ptpStatus_STEP_REFUSED) (hasym : P F.ptpStatus_ASYM) (herr : P F.ptpStatus_CLOCK_ERR) :
    ∀ f ∈ ptpStatusFields, P f := by
  simp only [ptpStatusFields, List.forall_mem_cons]
  exact ⟨hstate, hstepped, hslave, hport, hlocked, hauth, hpending, hhold, hrefused, hasym, herr, fun _ h => absurd h List.not_mem_nil⟩

theorem State.clockVals_status (s : State) : ∀ f ∈ ptpStatusFields, s.get f = s.clockVals.status f :=
  forall_ptpStatusFields rfl rfl rfl rfl rfl rfl rfl rfl rfl rfl rfl

theorem ClockShows.refl (l : List Nat) (u : State) : ClockShows l u u u.clockVals :=
  ⟨rfl, rfl, u.clockVals_status, rfl, rfl, rfl, fun _ => (List.append_nil _).symm, RegsBut.refl _ u, rfl⟩

/-! ## One act -/

theorem mem_clockRegs {l : List Nat} {a : Nat} (h : a ∈ clockRegs) : a ∈ l ++ clockRegs := List.mem_append_right _ h

namespace ClockShows
variable {l : List Nat} {u t : State} {v : ClockVals} (h : ClockShows l u t v)
include h

theorem setStatus {f : Fld} (hf : f ∈ ptpStatusFields) {n : Nat} (hn : n < 2 ^ (f.hi + 1 - f.lo)) {v' : ClockVals}
    (hv : v' = { v with
      state := v'.state, locked := v'.locked, auth := v'.auth, pending := v'.pending, refused := v'.refused, slave := v'.slave
      slavePort := v'.slavePort })
    (hstatus : ∀ g ∈ ptpStatusFields, v'.status g = if g = f then n else v.status g) : ClockShows l u (t.set f n) v' := by
  obtain ⟨ha, hhi, happart⟩ := ptpStatusFields_apart f hf
  have hother : ∀ {b}, b ≠ A.ptpStatus → (t.set f n).reg b = t.reg b := fun hb => State.reg_set_other t f n (by rw [ha]; exact hb)
  have hget : ∀ g ∈ ptpStatusFields, (t.set f n).get g = v'.status g := fun g hg => by
    rw [hstatus g hg]
    by_cases hgf : g = f
    · rw [if_pos hgf, hgf, State.get_set_same t f n hhi, Nat.mod_eq_of_lt hn]
    · rw [if_neg hgf, State.get_set_bits t n (happart g hg hgf)]
      exact h.status g hg
  refine ⟨?_, ?_, hget, ?_, ?_, ?_, ?_, h.regs.set (mem_clockRegs (by rw [ha]; decide)) n, h.frame⟩
  · rw [hv]
    exact h.ptp
  · rw [hv]
    exact h.incr
  · rw [hv, State.get64, hother (by decide), hother (by decide)]
    exact h.id
  · rw [hv, hother (by decide)]
    exact h.offset
  · rw [hv, hother (by decide)]
    exact h.rate
  · rw [hv]
    exact h.events

theorem updPtp {f : PtpSt → PtpSt} (hf : ∀ x ps, f { x with ports := ps } = { f x with ports := ps }) :
    ClockShows l u (t.updPtp f) { v with ptp := f v.ptp } :=
  { h with
    ptp := by
      have hx : (t.updPtp f).net.ptp = { f v.ptp with ports := t.net.ptp.ports } := (congrArg f h.ptp).trans (hf _ _)
      rw [hx]
    frame := h.frame }

/-- What a port does leaves the clock alone. -/
theorem ports {t' : State} {l' : List Nat} (ht : PortsBut l' t t') (hl : l' ⊆ l) (hc : PortCounters l') : ClockShows l u t' v := by
  have hreg : ∀ {a}, a ∈ clockRegs → t'.reg a = t.reg a := fun ha => ht.regs _ (hc.not_mem (clockRegs_far _ ha))
  refine ⟨?_, by rw [ht.clk]; exact h.incr, fun f hf => ?_, ?_, (hreg (by decide)).trans h.offset, (hreg (by decide)).trans h.rate,
    by rw [ht.host]; exact h.events, h.regs.trans (ht.regs.mono (fun a ha => List.mem_append_left _ (hl ha))), ?_⟩
  · rw [ht.ptp, h.ptp]
  · rw [State.get, (ptpStatusFields_apart f hf).1, hreg (by decide), ← (ptpStatusFields_apart f hf).1]
    exact h.status f hf
  · rw [State.get64, hreg (by decide), hreg (by decide)]
    exact h.id
  · refine Eq.trans ?_ h.frame
    rw [ht.frame]
    rfl

theorem setOffset (w : W32) : ClockShows l u (t.setReg A.ptpOffset w) { v with offset := w } := by
  have hother : ∀ {b}, b ≠ A.ptpOffset → (t.setReg A.ptpOffset w).reg b = t.reg b := fun hb => State.reg_setReg_other t w hb
  refine ⟨h.ptp, h.incr, fun f hf => ?_, ?_, State.reg_setReg_same .., (hother (by decide)).trans h.rate, h.events,
    h.regs.setReg (mem_clockRegs (by decide)) w, h.frame⟩
  · rw [State.get, (ptpStatusFields_apart f hf).1, hother (by decide), ← (ptpStatusFields_apart f hf).1]
    exact h.status f hf
  · rw [State.get64, hother (by decide), hother (by decide)]
    exact h.id

theorem setRate (r : Int) : ClockShows l u (t.setI ⟨A.ptpRate, 31, 0⟩ r) { v with rate := BitVec.ofInt 32 r } := by
  have hother : ∀ {b}, b ≠ A.ptpRate → (t.setI ⟨A.ptpRate, 31, 0⟩ r).reg b = t.reg b := fun hb => State.reg_set_other t _ _ hb
  refine ⟨h.ptp, h.incr, fun f hf => ?_, ?_, (hother (by decide)).trans h.offset, State.reg_setI_word .., h.events,
    h.regs.setI (f := ⟨A.ptpRate, 31, 0⟩) (mem_clockRegs (by decide)) r, h.frame⟩
  · rw [State.get, (ptpStatusFields_apart f hf).1, hother (by decide), ← (ptpStatusFields_apart f hf).1]
    exact h.status f hf
  · rw [State.get64, hother (by decide), hother (by decide)]
    exact h.id

theorem setId (w : W64) : ClockShows l u (t.set64 A.ptpMasterIdLo w.toNat) { v with id := w.toNat } := by
  have hother : ∀ {b}, b ≠ A.ptpMasterIdLo → b ≠ A.ptpMasterIdLo + 4 → (t.set64 A.ptpMasterIdLo w.toNat).reg b = t.reg b := fun hlo hhi =>
    (State.reg_setReg_other _ _ hhi).trans (State.reg_setReg_other _ _ hlo)
  refine ⟨h.ptp, h.incr, fun f hf => ?_, State.get64_set64 .., (hother (by decide) (by decide)).trans h.offset,
    (hother (by decide) (by decide)).trans h.rate, h.events,
    (h.regs.setReg (mem_clockRegs (by decide)) _).setReg (mem_clockRegs (by decide)) _, h.frame⟩
  rw [State.get, (ptpStatusFields_apart f hf).1, hother (by decide) (by decide), ← (ptpStatusFields_apart f hf).1]
  exact h.status f hf

theorem setIncr (n : Option Nat) : ClockShows l u { t with clk := { t.clk with incrNext := n } } { v with incr := n } :=
  { h with incr := rfl, frame := h.frame }

theorem raise (code sev ctrl : Nat) {payload : List (Nat × Nat × Nat)} {value : Nat} (hpay : pl payload = BitVec.ofNat 128 value) :
    ClockShows l u (t.raise code sev 0 ctrl payload) { v with events := v.events ++ [pathEvent u code sev ctrl value] } where
  ptp := by
    rw [State.raise_net]
    exact h.ptp
  incr := by
    rw [State.raise_clk]
    exact h.incr
  status := fun f hf => (State.get_raise _ _ _ _ _ _ (by rw [(ptpStatusFields_apart f hf).1]; decide)).trans (h.status f hf)
  id := by
    rw [State.get64, State.raise_reg _ _ _ _ _ _ (by decide), State.raise_reg _ _ _ _ _ _ (by decide)]
    exact h.id
  offset := (State.raise_reg _ _ _ _ _ _ (by decide)).trans h.offset
  rate := (State.raise_reg _ _ _ _ _ _ (by decide)).trans h.rate
  events := fun hroom => by
    rw [List.length_append, List.length_singleton] at hroom
    have hbefore := h.events (by omega)
    rw [State.raise_evBuf _ _ _ _ _ _ (by rw [hbefore, List.length_append]; omega), hbefore, hpay, State.nowNs_of_sansClock h.frame,
      List.append_assoc]
    rfl
  regs := h.regs.raise (mem_clockRegs (by decide)) _ _ _ _ _
  frame := (State.sansClock_raise ..).trans h.frame

theorem setState {n : Nat} (hn : n < 4) : ClockShows l u (t.set F.ptpStatus_STATE n) { v with state := n } :=
  h.setStatus (by decide) hn rfl (forall_ptpStatusFields rfl rfl rfl rfl rfl rfl rfl rfl rfl rfl rfl)

theorem setLocked {n : Nat} (hn : n < 2) : ClockShows l u (t.set F.ptpStatus_LOCKED n) { v with locked := n } :=
  h.setStatus (by decide) hn rfl (forall_ptpStatusFields rfl rfl rfl rfl rfl rfl rfl rfl rfl rfl rfl)

theorem setAuth {n : Nat} (hn : n < 2) : ClockShows l u (t.set F.ptpStatus_AUTH n) { v with auth := n } :=
  h.setStatus (by decide) hn rfl (forall_ptpStatusFields rfl rfl rfl rfl rfl rfl rfl rfl rfl rfl rfl)

theorem setPending {n : Nat} (hn : n < 2) : ClockShows l u (t.set F.ptpStatus_STEP_PENDING n) { v with pending := n } :=
  h.setStatus (by decide) hn rfl (forall_ptpStatusFields rfl rfl rfl rfl rfl rfl rfl rfl rfl rfl rfl)

theorem setRefused {n : Nat} (hn : n < 2) : ClockShows l u (t.set F.ptpStatus_STEP_REFUSED n) { v with refused := n } :=
  h.setStatus (by decide) hn rfl (forall_ptpStatusFields rfl rfl rfl rfl rfl rfl rfl rfl rfl rfl rfl)

theorem setSlave {n : Nat} (hn : n < 2) : ClockShows l u (t.set F.ptpStatus_SLAVE n) { v with slave := n } :=
  h.setStatus (by decide) hn rfl (forall_ptpStatusFields rfl rfl rfl rfl rfl rfl rfl rfl rfl rfl rfl)

theorem setSlavePort {n : Nat} (hn : n < 2) : ClockShows l u (t.set F.ptpStatus_SLAVE_PORT n) { v with slavePort := n } :=
  h.setStatus (by decide) hn rfl (forall_ptpStatusFields rfl rfl rfl rfl rfl rfl rfl rfl rfl rfl rfl)

theorem flagRefused : ClockShows l u (t.flag F.ptpStatus_STEP_REFUSED) { v with refused := 1 } :=
  let hset := h.setRefused (n := 1) (by decide)
  ⟨hset.ptp, hset.incr, hset.status, hset.id, hset.offset, hset.rate, hset.events, hset.regs, hset.frame⟩

theorem get {f : Fld} (hf : f.a ∉ l ++ clockRegs) : t.get f = u.get f := h.regs.get hf

end ClockShows

/-! ## The clock enters a state -/

/-- PTP_STATE: the clock enters a state from another. -/
def clockEvent (u : State) (old new slave : Nat) : Event :=
  pathEvent u 0x0906 (if new = 3 then sevWarn else sevInfo) 0x89FF (new + old * 2 ^ 8 + slave * 2 ^ 16)

/-- The port that PTP_STATE names. -/
def ClockVals.slaveShown (v : ClockVals) : Nat := if v.slave ≠ 0 then v.slavePort else 0xFF

/-- What the clock holds and shows once it has entered a state. -/
def ClockVals.enters (v : ClockVals) (u : State) (st : Nat) : ClockVals := { v with
  state := st
  locked := if st = 2 then v.locked else 0
  ptp := if st = 2 then v.ptp else { v.ptp with good := 0, bad := 0 }
  events := v.events ++ [clockEvent u v.state st v.slaveShown] }

theorem pl_state {st old sp : Nat} (hst : st < 2 ^ 8) (hold : old < 2 ^ 8) (hsp : sp < 2 ^ 8) :
    pl [(16, 1, st), (17, 1, old), (18, 1, sp)] = BitVec.ofNat 128 (st + old * 2 ^ 8 + sp * 2 ^ 16) := by
  have hthird : pl [(18, 1, sp)] = BitVec.ofNat 128 (2 ^ (8 * (17 - 16 + 1)) * sp) := (pl_one hsp).trans (congrArg _ (Nat.mul_comm _ _))
  have hsecond : pl [(17, 1, old), (18, 1, sp)] = BitVec.ofNat 128 (2 ^ (8 * (16 - 16 + 1)) * (old + 2 ^ 8 * sp)) :=
    (pl_cons hthird hold).trans (congrArg _ (by omega))
  exact (pl_cons hsecond hst).trans (congrArg _ (by omega))

section
variable {l : List Nat} {u t : State} {v : ClockVals} (h : ClockShows l u t v)
include h

theorem ClockShows.get_state : t.get F.ptpStatus_STATE = v.state := h.status F.ptpStatus_STATE (by decide)
theorem ClockShows.get_slave : t.get F.ptpStatus_SLAVE = v.slave := h.status F.ptpStatus_SLAVE (by decide)
theorem ClockShows.get_slavePort : t.get F.ptpStatus_SLAVE_PORT = v.slavePort := h.status F.ptpStatus_SLAVE_PORT (by decide)
theorem ClockShows.state_lt : v.state < 4 := h.get_state ▸ Nat.mod_lt _ (by decide)
theorem ClockShows.slavePort_lt : v.slavePort < 2 := h.get_slavePort ▸ Nat.mod_lt _ (by decide)

theorem ClockShows.slaveShown_lt : v.slaveShown < 2 ^ 8 := by
  have hport := h.slavePort_lt
  unfold ClockVals.slaveShown
  split <;> omega

theorem ClockShows.slave_read :
    (if t.getB F.ptpStatus_SLAVE then t.get F.ptpStatus_SLAVE_PORT else 0xFF) = v.slaveShown := by
  rw [State.getB, h.get_slave, h.get_slavePort, ClockVals.slaveShown]
  simp only [bne_iff_ne]

/-- PTP_STATE is raised. -/
theorem ClockShows.raiseState (old st : Nat) (hold : old < 4) (hst : st < 4) : ClockShows l u
    (t.raise 0x0906 (if st = 3 then sevWarn else sevInfo) 0 ptpNoPort [(16, 1, st), (17, 1, old),
      (18, 1, if t.getB F.ptpStatus_SLAVE then t.get F.ptpStatus_SLAVE_PORT else 0xFF)])
    { v with events := v.events ++ [clockEvent u old st v.slaveShown] } := by
  rw [h.slave_read]
  exact h.raise 0x0906 _ ptpNoPort (pl_state (by omega) (by omega) h.slaveShown_lt)

theorem ClockShows.setClock {st : Nat} (hst : st < 4) (hne : v.state ≠ st) : ClockShows l u (setClock st t) (v.enters u st) := by
  have hold := h.state_lt
  have hstate := h.setState hst
  unfold Machine.setClock
  dsimp only
  rw [h.get_state, if_neg hne]
  unfold ClockVals.enters
  by_cases htwo : st = 2
  · rw [if_pos htwo, if_pos htwo, if_pos htwo]
    exact hstate.raiseState v.state st hold hst
  · rw [if_neg htwo, if_neg htwo, if_neg htwo]
    exact ((hstate.setLocked (n := 0) (by decide)).updPtp (f := fun x => { x with good := 0, bad := 0 }) (fun _ _ => rfl)).raiseState
      v.state st hold hst

/-! ## A master is heard -/

/-- What the clock holds and shows once it follows a master on a port. -/
def ClockVals.follows (v : ClockVals) (u : State) (q : Nat) (src : W64) : ClockVals :=
  let w : ClockVals := { v with slave := 1, slavePort := q, id := src.toNat }
  if v.state = 0 then w.enters u (if u.getB F.ptpStatus_STEPPED then 3 else 1) else w

theorem ClockShows.followPort {q : Nat} (hq : q < 2) {src : W64} {port : BitVec 16} (hparent : (t.pp q).parent = some (src, port))
    (hrest : v.rest F.ptpStatus_STEPPED = u.get F.ptpStatus_STEPPED) :
    ClockShows l u (followPort (some q) t) (v.follows u q src) := by
  have hstepped : t.getB F.ptpStatus_STEPPED = u.getB F.ptpStatus_STEPPED := by
    rw [State.getB, h.status F.ptpStatus_STEPPED (by decide), State.getB, ← hrest]
    rfl
  have hw := ((h.setSlave (n := 1) (by decide)).setSlavePort hq).setId src
  unfold Machine.followPort ClockVals.follows
  dsimp only
  rw [hparent, h.get_state, hstepped]
  dsimp only
  by_cases hfree : v.state = 0
  · rw [if_pos hfree, if_pos hfree]
    refine hw.setClock ?_ ?_
    · split <;> decide
    · show v.state ≠ _
      rw [hfree]
      split <;> decide
  · rw [if_neg hfree, if_neg hfree]
    exact hw

end

/-! ## An offset -/

section
variable (p : Nat) (u : State) (v : ClockVals) (o : Int)

/-- RATE_MAX in 2^-32 ppb, and the offset taken out per second. -/
def servoMax : Int := ((u.reg A.ptpRateMax).toNat : Int) * 2 ^ 32
def servoPerS : Int := o * 2 ^ (-(sx 4 (u.get (F.ptpPortCfg_LOG_SYNC p)))).toNat

/-- The integrator and the rate that an offset makes (R432). -/
def servoInteg : Int := clampI (-(servoMax u)) (servoMax u) (v.ptp.integ + u.get F.ptpServo_KI * servoPerS p u o)
def servoRate : Int :=
  clampI (-(servoMax u)) (servoMax u) (-(u.get F.ptpServo_KP * servoPerS p u o + servoInteg p u v o))

def offsetLimit : Nat := (u.reg A.ptpStepLimit).toNat * 65536
def offsetThresh : Nat := (u.reg A.ptpLockThresh).toNat * 65536

/-- What the clock holds and shows once the offset has been fed to the servo (R432, R433). -/
def ClockVals.served : ClockVals :=
  let good := if o.natAbs ≤ offsetThresh u then v.ptp.good + 1 else 0
  let bad := if o.natAbs ≤ offsetThresh u then 0 else v.ptp.bad + 1
  { v with
    ptp := { v.ptp with integ := servoInteg p u v o, rate := servoRate p u v o, good := good, bad := bad }
    incr := some (nearestAway (5 * 2 ^ 31 * (1000000000 * 2 ^ 32 + servoRate p u v o)) (1000000000 * 2 ^ 32)).toNat
    rate := BitVec.ofInt 32 (qdiv (servoRate p u v o) (2 ^ 32))
    locked := if 8 ≤ good then 1 else if 4 ≤ bad then 0 else v.locked }

end

/-- The servo leaves its integrator, its rate with the increment, its counts and LOCKED. -/
def servoLeaves (i r : Int) (incr good bad : Nat) (lock : Bool) (s : State) : State :=
  let s1 := s.updPtp (fun y => { y with integ := i, rate := r, good := good, bad := bad })
  let s2 := { s1 with clk := { s1.clk with incrNext := some incr } }
  (s2.setI ⟨A.ptpRate, 31, 0⟩ (qdiv r (2 ^ 32))).setB F.ptpStatus_LOCKED lock

theorem servo_eq {p : Nat} {o : Int} {s : State} {i r : Int} {good bad : Nat} {perS mx : Int}
    (hperS : o * 2 ^ (-(s.logOf (F.ptpPortCfg_LOG_SYNC p))).toNat = perS) (hmx : s.rateMax = mx)
    (hi : clampI (-mx) mx (s.net.ptp.integ + s.get F.ptpServo_KI * perS) = i)
    (hr : clampI (-mx) mx (-(s.get F.ptpServo_KP * perS + i)) = r)
    (hgood : (if decide (o.natAbs ≤ (s.reg A.ptpLockThresh).toNat * 2 ^ 16) then s.net.ptp.good + 1 else 0) = good)
    (hbad : (if decide (o.natAbs ≤ (s.reg A.ptpLockThresh).toNat * 2 ^ 16) then 0 else s.net.ptp.bad + 1) = bad) :
    servo p o s = servoLeaves i r (rdiv (5 * 2 ^ 31 * (1000000000 * 2 ^ 32 + r)) (1000000000 * 2 ^ 32)).toNat good bad
      (if 8 ≤ good then true else if 4 ≤ bad then false else s.getB F.ptpStatus_LOCKED) s := by
  subst hperS hmx hi hr hgood hbad
  rfl

theorem rdiv_incr (x : Int) : rdiv x (1000000000 * 2 ^ 32) = nearestAway x (1000000000 * 2 ^ 32) := by
  rw [← rdiv_eq_nearestAway x (by decide)]
  norm_num

section
variable {l : List Nat} {u t : State} {v : ClockVals} (hc : PortCounters l) (h : ClockShows l u t v)
include hc h

/-- A register that configures the clock is not written. -/
theorem ClockShows.reg_config {a : Nat} (ha : 0x14000 ≤ a) (hfar : a ∉ clockRegs) : t.reg a = u.reg a :=
  h.regs a (fun hmem => (List.mem_append.mp hmem).elim (hc.not_mem (Or.inr (by omega))) hfar)

theorem ClockShows.servo {p : Nat} (hp : p < 2) (o : Int) : ClockShows l u (servo p o t) (v.served p u o) := by
  have hreg : ∀ {a}, 0x14000 ≤ a → a ∉ clockRegs → t.reg a = u.reg a := fun ha hfar => h.reg_config hc ha hfar
  have hport : A.ptpPortCfg p ∉ clockRegs := fun hmem => by
    have hle := (by decide : ∀ a ∈ clockRegs, a < 0x14100) _ hmem
    unfold A.ptpPortCfg at hle
    omega
  have hlog : t.logOf (F.ptpPortCfg_LOG_SYNC p) = sx 4 (u.get (F.ptpPortCfg_LOG_SYNC p)) := by
    rw [State.logOf, State.get, State.get, hreg (a := (F.ptpPortCfg_LOG_SYNC p).a) (Nat.le_trans (by decide) (Nat.le_add_right _ _)) hport]
  have hki : t.get F.ptpServo_KI = u.get F.ptpServo_KI := by rw [State.get, State.get, hreg (by decide) (by decide)]
  have hkp : t.get F.ptpServo_KP = u.get F.ptpServo_KP := by rw [State.get, State.get, hreg (by decide) (by decide)]
  have hmax : t.rateMax = servoMax u := by rw [State.rateMax, servoMax, hreg (by decide) (by decide)]
  have hinteg : t.net.ptp.integ = v.ptp.integ := by rw [h.ptp]
  have hgood : t.net.ptp.good = v.ptp.good := by rw [h.ptp]
  have hbad : t.net.ptp.bad = v.ptp.bad := by rw [h.ptp]
  have hlocked : t.get F.ptpStatus_LOCKED = v.locked := h.status F.ptpStatus_LOCKED (by decide)
  have hlt : v.locked < 2 := hlocked ▸ Nat.mod_lt _ (by decide)
  rw [servo_eq (i := servoInteg p u v o) (r := servoRate p u v o) (perS := servoPerS p u o) (mx := servoMax u)
    (good := if o.natAbs ≤ offsetThresh u then v.ptp.good + 1 else 0) (bad := if o.natAbs ≤ offsetThresh u then 0 else v.ptp.bad + 1)
    (by rw [hlog]; rfl) hmax (by rw [hinteg, hki]; rfl) (by rw [hkp]; rfl)
    (by simp only [hgood, hreg (a := A.ptpLockThresh) (by decide) (by decide), decide_eq_true_eq]; rfl)
    (by simp only [hbad, hreg (a := A.ptpLockThresh) (by decide) (by decide), decide_eq_true_eq]; rfl), rdiv_incr]
  unfold servoLeaves ClockVals.served
  dsimp only
  generalize (if o.natAbs ≤ offsetThresh u then v.ptp.good + 1 else 0) = good
  generalize (if o.natAbs ≤ offsetThresh u then 0 else v.ptp.bad + 1) = bad
  have hlock : (if (if 8 ≤ good then true else if 4 ≤ bad then false else t.getB F.ptpStatus_LOCKED) = true then 1 else 0) =
      if 8 ≤ good then 1 else if 4 ≤ bad then 0 else v.locked := by
    rw [State.getB, hlocked]
    by_cases h8 : 8 ≤ good
    · simp only [if_pos h8, if_true]
    · by_cases h4 : 4 ≤ bad
      · simp [h8, h4]
      · rcases (by omega : v.locked = 0 ∨ v.locked = 1) with hv | hv <;> simp [h8, h4, hv]
  rw [State.setB, hlock]
  refine (((h.updPtp (f := fun y => { y with integ := servoInteg p u v o, rate := servoRate p u v o, good := good, bad := bad })
    (fun _ _ => rfl)).setIncr (some (nearestAway (5 * 2 ^ 31 * (1000000000 * 2 ^ 32 + servoRate p u v o)) (1000000000 * 2 ^ 32)).toNat)).setRate
    (qdiv (servoRate p u v o) (2 ^ 32))).setLocked ?_
  split
  · decide
  · split
    · decide
    · exact hlt

end

/-! ## What an offset does -/

section
variable (u : State) (v : ClockVals) (off : Option Int)

/-- An offset can be used: the clock has a state and no step waits. -/
abbrev OffFree : Prop := off.isSome = true ∧ v.state ≠ 0 ∧ v.ptp.step = none
/-- It is stepped out. -/
abbrev OffSteps : Prop := OffFree v off ∧ (v.state = 1 ∨ v.ptp.authDue.isSome = true)
/-- It meets a clock that tracks, outside a path hold. -/
abbrev OffMeets : Prop := OffFree v off ∧ v.state ≠ 1 ∧ v.ptp.authDue = none ∧ v.ptp.hold = none
/-- It is refused. -/
abbrev OffRefuse : Prop := OffMeets v off ∧ offsetLimit u < (off.getD 0).natAbs ∧ v.ptp.byRate = false
/-- It is fed to the servo. -/
abbrev OffFeed : Prop := OffMeets v off ∧ ¬ (offsetLimit u < (off.getD 0).natAbs ∧ v.ptp.byRate = false)

/-- OFFSET_REFUSED (R434). -/
def refusedEvent (p : Nat) (u : State) (o : Int) : Event :=
  pathEvent u 0x0907 sevWarn (0x8980 + p) (wrapN 64 (qdiv o 65536) * 2 ^ 64)

/-- The counts of offsets within and beyond the threshold. -/
def offGood : Nat := if OffFeed u v off then (if (off.getD 0).natAbs ≤ offsetThresh u then v.ptp.good + 1 else 0) else v.ptp.good
def offBad : Nat := if OffFeed u v off then (if (off.getD 0).natAbs ≤ offsetThresh u then 0 else v.ptp.bad + 1) else v.ptp.bad

/-- What the clock holds and shows after an offset, or after none. -/
def ClockVals.takes (p : Nat) : ClockVals :=
  let o := off.getD 0
  { v with
    ptp := { v.ptp with
      integ := if OffFeed u v off then servoInteg p u v o else v.ptp.integ
      rate := if OffFeed u v off then servoRate p u v o else v.ptp.rate
      good := offGood u v off
      bad := offBad u v off
      step := if OffSteps v off then some (-o, decide (v.state = 1)) else v.ptp.step
      authDue := if OffSteps v off then none else v.ptp.authDue
      refused := if OffRefuse u v off then true else if OffFeed u v off then false else v.ptp.refused
      byRate := if OffFeed u v off then v.ptp.byRate && decide (offsetLimit u < o.natAbs) else v.ptp.byRate }
    incr := if OffFeed u v off then
      some (nearestAway (5 * 2 ^ 31 * (1000000000 * 2 ^ 32 + servoRate p u v o)) (1000000000 * 2 ^ 32)).toNat else v.incr
    state := if off.isSome ∧ v.state = 3 then 2 else v.state
    locked := if OffFeed u v off ∧ 8 ≤ offGood u v off then 1 else if OffFeed u v off ∧ 4 ≤ offBad u v off then 0 else v.locked
    auth := if OffSteps v off then 0 else v.auth
    pending := if OffSteps v off then u.stepHeld.toNat else v.pending
    refused := if OffRefuse u v off then 1 else v.refused
    offset := if off.isSome then BitVec.ofInt 32 (held 32 (qdiv o 65536)) else v.offset
    rate := if OffFeed u v off then BitVec.ofInt 32 (qdiv (servoRate p u v o) (2 ^ 32)) else v.rate
    events := v.events ++ (if off.isSome ∧ v.state = 3 then [clockEvent u 3 2 v.slaveShown] else []) ++
      (if OffRefuse u v off ∧ v.ptp.refused = false then [refusedEvent p u o] else []) }

theorem ClockVals.takes_none (p : Nat) : v.takes u none p = v := by
  have hfree : ¬ OffFree v none := fun h => Bool.false_ne_true h.1
  have hsteps : ¬ OffSteps v none := fun h => hfree h.1
  have hfeed : ¬ OffFeed u v none := fun h => hfree h.1.1
  have hrefuse : ¬ OffRefuse u v none := fun h => hfree h.1.1
  simp only [ClockVals.takes, offGood, offBad, if_neg hsteps, hfeed, hrefuse, false_and, if_false,
    Option.isSome_none, Bool.false_eq_true, List.append_nil]

end

/-! ## The clock while an offset is taken -/

theorem stepHeld_iff (s : State) :
    s.stepHeld = true ↔ (∃ g, g < 32 ∧ s.gst g = gMoving) ∨ s.mode = mHauldown ∨ s.mode = mBackstay := by
  simp [State.stepHeld, upto, or_assoc]

section
variable {l : List Nat} {u t : State} {v : ClockVals} (hc : PortCounters l) (h : ClockShows l u t v)
include hc h

theorem ClockShows.get_low {f : Fld} (hf : f.a < 0x1000) : t.get f = u.get f :=
  h.get (fun hmem => (List.mem_append.mp hmem).elim (hc.not_mem (Or.inl (by omega)))
    (fun hclock => absurd ((by decide : ∀ a ∈ clockRegs, 0x1000 ≤ a) _ hclock) (by omega)))

theorem ClockShows.stepHeld : t.stepHeld = u.stepHeld := by
  have hmode : t.mode = u.mode := h.get_low hc (by decide)
  have hgst : ∀ g, g < 32 → t.gst g = u.gst g := fun g hg => h.get_low hc (by show 0x20 + 4 * (g / 8) < 0x1000; omega)
  rw [Bool.eq_iff_iff, stepHeld_iff, stepHeld_iff, hmode]
  refine or_congr_left (exists_congr (fun g => and_congr_right (fun hg => ?_)))
  rw [hgst g hg]

theorem ClockShows.askStep (amount : Int) (first : Bool) :
    ClockShows l u (askStep amount first t) { v with ptp := { v.ptp with step := some (amount, first) }, pending := u.stepHeld.toNat } := by
  have hstep := h.updPtp (f := fun x => { x with step := some (amount, first) }) (fun _ _ => rfl)
  unfold Machine.askStep
  rw [h.stepHeld hc, State.setB]
  have hval : (if u.stepHeld = true then 1 else 0) = u.stepHeld.toNat := by cases u.stepHeld <;> rfl
  rw [hval]
  exact hstep.setPending (Bool.toNat_lt _)

end

theorem wrapN_lt (w : Nat) (x : Int) : wrapN w x < 2 ^ w := by
  have hpos : (0 : Int) < (2 ^ w : Nat) := by positivity
  have hlt := Int.emod_lt_of_pos x hpos
  have hnonneg := Int.emod_nonneg x hpos.ne'
  unfold wrapN
  omega

/-- What the clock holds and shows once an offset has been measured, before it is used. -/
def ClockVals.meets (v : ClockVals) (u : State) (o : Int) : ClockVals := { v with
  offset := BitVec.ofInt 32 (held 32 (qdiv o 65536))
  state := if v.state = 3 then 2 else v.state
  events := v.events ++ (if v.state = 3 then [clockEvent u 3 2 v.slaveShown] else []) }

section
variable {u : State} {v : ClockVals} {o : Int} {p : Nat}

/-- An offset that is neither stepped out nor refused nor fed to the servo is measured only. -/
theorem ClockVals.takes_of_unused (hsteps : ¬ OffSteps v (some o)) (hmeets : ¬ OffMeets v (some o)) :
    v.takes u (some o) p = v.meets u o := by
  have hfeed : ¬ OffFeed u v (some o) := fun h => hmeets h.1
  have hrefuse : ¬ OffRefuse u v (some o) := fun h => hmeets h.1
  simp only [ClockVals.takes, ClockVals.meets, offGood, offBad, if_neg hsteps, hfeed, hrefuse, false_and, if_false, List.append_nil,
    Option.isSome_some, true_and, if_true, Option.getD_some]

theorem ClockVals.takes_of_steps (h : OffSteps v (some o)) : v.takes u (some o) p = { v.meets u o with
    ptp := { v.ptp with step := some (-o, decide (v.state = 1)), authDue := none }, auth := 0, pending := u.stepHeld.toNat } := by
  have hmeets : ¬ OffMeets v (some o) := fun ⟨_, hstate, hauth, _⟩ => h.2.elim hstate (fun hsome => by
    rw [hauth] at hsome
    exact Bool.false_ne_true hsome)
  have hfeed : ¬ OffFeed u v (some o) := fun h => hmeets h.1
  have hrefuse : ¬ OffRefuse u v (some o) := fun h => hmeets h.1
  simp only [ClockVals.takes, ClockVals.meets, offGood, offBad, if_pos h, hfeed, hrefuse, false_and, if_false, List.append_nil,
    Option.isSome_some, true_and, if_true, Option.getD_some]

theorem OffMeets.not_steps {off : Option Int} (h : OffMeets v off) : ¬ OffSteps v off := fun ⟨_, hsteps⟩ =>
  let ⟨_, hstate, hauth, _⟩ := h
  hsteps.elim hstate (fun hsome => by
    rw [hauth] at hsome
    exact Bool.false_ne_true hsome)

theorem ClockVals.takes_of_refuse (h : OffRefuse u v (some o)) : v.takes u (some o) p = { v.meets u o with
    ptp := { v.ptp with refused := true }
    refused := 1
    events := (v.meets u o).events ++ (if v.ptp.refused = false then [refusedEvent p u o] else []) } := by
  have hsteps := h.1.not_steps
  have hfeed : ¬ OffFeed u v (some o) := fun hfeed => hfeed.2 h.2
  simp only [ClockVals.takes, ClockVals.meets, offGood, offBad, if_neg hsteps, hfeed, eq_true h, false_and, if_false,
    Option.isSome_some, true_and, if_true, Option.getD_some]

theorem ClockVals.takes_of_feed (h : OffFeed u v (some o)) : v.takes u (some o) p = { v.meets u o with
    ptp := { v.ptp with refused := false, byRate := v.ptp.byRate && decide (offsetLimit u < o.natAbs) } : ClockVals }.served p u o := by
  have hsteps := h.1.not_steps
  have hrefuse : ¬ OffRefuse u v (some o) := fun hrefuse => h.2 hrefuse.2
  simp only [ClockVals.takes, ClockVals.meets, ClockVals.served, offGood, offBad, if_neg hsteps,
    hrefuse, eq_true h, false_and, if_false, List.append_nil,
    Option.isSome_some, true_and, if_true, Option.getD_some]
  rfl

end

section
variable {l : List Nat} {u t : State} {v : ClockVals} (hc : PortCounters l) (h : ClockShows l u t v)
include hc h

omit hc in
theorem ClockShows.meets (o : Int) : ClockShows l u (if t.get F.ptpStatus_STATE = 3 then
      Machine.setClock 2 (t.setReg A.ptpOffset (BitVec.ofInt 32 (satI 32 (qdiv o 65536))))
    else t.setReg A.ptpOffset (BitVec.ofInt 32 (satI 32 (qdiv o 65536)))) (v.meets u o) := by
  have hset := h.setOffset (BitVec.ofInt 32 (satI 32 (qdiv o 65536)))
  rw [satI_eq_held] at hset ⊢
  rw [h.get_state]
  unfold ClockVals.meets
  by_cases h3 : v.state = 3
  · rw [if_pos h3, if_pos h3, if_pos h3]
    have hentered := hset.setClock (st := 2) (by decide) (by show v.state ≠ 2; omega)
    simp only [ClockVals.enters, if_true, h3] at hentered
    exact hentered
  · rw [if_neg h3, if_neg h3, if_neg h3, List.append_nil]
    exact hset

theorem ClockShows.ptpOffset {p : Nat} (hp : p < 2) (o : Int) : ClockShows l u (ptpOffset p o t) (v.takes u (some o) p) := by
  have hmeets := h.meets o
  have hlimit : (t.reg A.ptpStepLimit).toNat * 65536 = offsetLimit u := by
    rw [offsetLimit, h.reg_config hc (by decide) (by decide)]
  have hstep : t.net.ptp.step = v.ptp.step := by rw [h.ptp]
  have hauth : t.net.ptp.authDue = v.ptp.authDue := by rw [h.ptp]
  have hhold : t.net.ptp.hold = v.ptp.hold := by rw [h.ptp]
  have hbyRate : t.net.ptp.byRate = v.ptp.byRate := by rw [h.ptp]
  have hrefused : t.net.ptp.refused = v.ptp.refused := by rw [h.ptp]
  unfold Machine.ptpOffset
  dsimp only
  rw [hlimit, hstep, hauth, hhold, hbyRate, hrefused]
  revert hmeets
  generalize hs1 : (if t.get F.ptpStatus_STATE = 3 then Machine.setClock 2 (t.setReg A.ptpOffset (BitVec.ofInt 32 (satI 32 (qdiv o 65536))))
    else t.setReg A.ptpOffset (BitVec.ofInt 32 (satI 32 (qdiv o 65536)))) = s1
  intro hmeets
  by_cases hstate : v.state = 0
  · have hs0 : t.setReg A.ptpOffset (BitVec.ofInt 32 (satI 32 (qdiv o 65536))) = s1 := by
      rw [← hs1, if_neg (by rw [h.get_state]; omega)]
    rw [h.get_state, if_pos hstate, hs0, ClockVals.takes_of_unused (fun hsteps => hsteps.1.2.1 hstate) (fun hmeets => hmeets.1.2.1 hstate)]
    exact hmeets
  rw [h.get_state, if_neg hstate]
  by_cases hwaits : v.ptp.step.isSome = true
  · have hfree : ¬ OffFree v (some o) := fun ⟨_, _, hnone⟩ => by
      rw [hnone] at hwaits
      exact Bool.false_ne_true hwaits
    rw [if_pos hwaits, ClockVals.takes_of_unused (fun hsteps => hfree hsteps.1) (fun hmeets => hfree hmeets.1)]
    exact hmeets
  have hfree : OffFree v (some o) := ⟨rfl, hstate, Option.not_isSome_iff_eq_none.mp hwaits⟩
  rw [if_neg hwaits]
  by_cases hsteps : v.state = 1 ∨ v.ptp.authDue.isSome = true
  · rw [if_pos hsteps, ClockVals.takes_of_steps ⟨hfree, hsteps⟩]
    exact ((hmeets.setAuth (n := 0) (by decide)).updPtp (f := fun y => { y with authDue := none }) (fun _ _ => rfl)).askStep hc _ _
  obtain ⟨hnotAcquire, hnoAuth⟩ := not_or.mp hsteps
  rw [if_neg hsteps]
  by_cases hheld : v.ptp.hold.isSome = true
  · rw [if_pos hheld, ClockVals.takes_of_unused (fun hs => hsteps hs.2) (fun ⟨_, _, _, hnone⟩ => by
      rw [hnone] at hheld
      exact Bool.false_ne_true hheld)]
    exact hmeets
  have htracks : OffMeets v (some o) :=
    ⟨hfree, hnotAcquire, Option.not_isSome_iff_eq_none.mp hnoAuth, Option.not_isSome_iff_eq_none.mp hheld⟩
  rw [if_neg hheld]
  by_cases hfar : offsetLimit u < o.natAbs ∧ v.ptp.byRate = false
  · have hrefused := (hmeets.flagRefused).updPtp (f := fun y => { y with refused := true }) (fun _ _ => rfl)
    rw [if_pos (by simpa using hfar), ClockVals.takes_of_refuse ⟨htracks, hfar⟩]
    cases hold : v.ptp.refused with
    | true =>
      rw [if_neg (by decide), List.append_nil]
      exact hrefused
    | false =>
      rw [if_pos rfl]
      exact hrefused.raise 0x0907 sevWarn (ptpPlace p) (pl_one (wrapN_lt 64 _))
  · rw [if_neg (by simpa using hfar), ClockVals.takes_of_feed ⟨htracks, hfar⟩]
    exact (hmeets.updPtp (f := fun y => { y with refused := false, byRate := y.byRate && decide (offsetLimit u < o.natAbs) })
      (fun _ _ => rfl)).servo hc hp o

end
end Sys2Proof.Machine
end

section
/-!
PROOF. What a Sync and a Follow_Up show: the master that may have been heard, what passes on the ports,
and the offset that the times give (R428 to R434).
-/
namespace Sys2Proof.Machine

/-! ## A master that is heard, and an offset, in the words of the statement -/

section
variable (p : Nat) (u : State) (src : W64) (heard : Prop) [Decidable heard]

/-- The state that the clock has once a master may have been heard. -/
def heardState : Nat := if heard ∧ u.get F.ptpStatus_STATE = 0 then (if u.getB F.ptpStatus_STEPPED then 3 else 1) else u.get F.ptpStatus_STATE

/-- The port that PTP_STATE names. -/
def heardSlave : Nat := if heard then p else if u.getB F.ptpStatus_SLAVE then u.get F.ptpStatus_SLAVE_PORT else 0xFF

/-- What the clock holds and shows once a master may have been heard. -/
def heardVals : ClockVals := { u.clockVals with
  ptp := { u.net.ptp with
    good := if heard ∧ u.get F.ptpStatus_STATE = 0 then 0 else u.net.ptp.good
    bad := if heard ∧ u.get F.ptpStatus_STATE = 0 then 0 else u.net.ptp.bad }
  state := heardState u heard
  locked := if heard ∧ u.get F.ptpStatus_STATE = 0 then 0 else u.get F.ptpStatus_LOCKED
  slave := if heard then 1 else u.get F.ptpStatus_SLAVE
  slavePort := if heard then p else u.get F.ptpStatus_SLAVE_PORT
  id := if heard then src.toNat else u.get64 A.ptpMasterIdLo
  events := if heard ∧ u.get F.ptpStatus_STATE = 0 then [clockEvent u 0 (heardState u heard) (heardSlave p u heard)] else [] }

theorem heardVals_slaveShown : (heardVals p u src heard).slaveShown = heardSlave p u heard := by
  unfold ClockVals.slaveShown heardSlave heardVals
  by_cases h : heard <;> simp [h, State.getB]

theorem heardVals_of_heard (h : heard) : u.clockVals.follows u p src = heardVals p u src heard := by
  have hshown : ∀ v : ClockVals, v.slave = 1 → v.slaveShown = v.slavePort := fun v hv => if_pos (by rw [hv]; decide)
  unfold ClockVals.follows heardVals heardState heardSlave
  dsimp only
  by_cases hfree : u.get F.ptpStatus_STATE = 0
  · have hne : ∀ {b : Bool}, (if b then 3 else 1) ≠ 2 := fun {b} => by cases b <;> decide
    rw [if_pos (show u.clockVals.state = 0 from hfree)]
    simp only [ClockVals.enters, hfree, h, and_self, if_true, if_neg hne, hshown, State.clockVals, List.nil_append]
  · rw [if_neg (show ¬ u.clockVals.state = 0 from hfree)]
    simp only [hfree, h, and_false, if_true, if_false, State.clockVals]

theorem heardVals_of_not (h : ¬ heard) : u.clockVals = heardVals p u src heard := by
  unfold heardVals heardState
  simp only [h, false_and, if_false, State.clockVals]

end

/-! ## What the clock's acts leave of the ports -/

theorem setClock_ports (st : Nat) (s : State) : (setClock st s).net.ptp.ports = s.net.ptp.ports := by
  unfold setClock
  dsimp only
  split
  · rfl
  · rw [State.raise_net]
    split <;> rfl

theorem followPort_some_ports (q : Nat) (s : State) : (followPort (some q) s).net.ptp.ports = s.net.ptp.ports := by
  unfold followPort
  dsimp only
  split
  · exact setClock_ports _ _
  · rfl

theorem servoLeaves_ports (i r : Int) (incr good bad : Nat) (lock : Bool) (s : State) :
    (servoLeaves i r incr good bad lock s).net.ptp.ports = s.net.ptp.ports := by
  unfold servoLeaves
  rw [State.setB_net, State.setI_net]
  rfl

theorem servo_ports (p : Nat) (o : Int) (s : State) : (servo p o s).net.ptp.ports = s.net.ptp.ports :=
  (congrArg (fun t : State => t.net.ptp.ports) (servo_eq rfl rfl rfl rfl rfl rfl)).trans (servoLeaves_ports ..)

theorem askStep_ports (amount : Int) (first : Bool) (s : State) : (askStep amount first s).net.ptp.ports = s.net.ptp.ports := by
  unfold askStep
  rw [State.setB_net]
  rfl

theorem ptpOffset_ports (p : Nat) (o : Int) (s : State) : (ptpOffset p o s).net.ptp.ports = s.net.ptp.ports := by
  have hmeasured : ∀ t : State, t.net.ptp.ports = s.net.ptp.ports →
      (if s.get F.ptpStatus_STATE = 3 then setClock 2 t else t).net.ptp.ports = s.net.ptp.ports := fun t ht => by
    split
    · exact (setClock_ports 2 t).trans ht
    · exact ht
  unfold ptpOffset
  dsimp only
  split
  · rfl
  split
  · exact hmeasured _ rfl
  split
  · rw [askStep_ports]
    exact hmeasured _ rfl
  split
  · exact hmeasured _ rfl
  split
  · unfold whenB
    split
    · rw [State.raise_net]
      exact hmeasured _ rfl
    · exact hmeasured _ rfl
  · rw [servo_ports]
    exact hmeasured _ rfl

/-- The clock's acts write its own registers and leave what the ports hold. -/
structure ClockOnly (t t' : State) : Prop where
  ports : t'.net.ptp.ports = t.net.ptp.ports
  regs : RegsBut clockRegs t t'

theorem clockOnly_followPort {q : Nat} (hq : q < 2) {t : State} {src : W64} {port : BitVec 16} (hparent : (t.pp q).parent = some (src, port)) :
    ClockOnly t (followPort (some q) t) :=
  ⟨followPort_some_ports q t, ((ClockShows.refl [] t).followPort hq hparent rfl).regs⟩

theorem clockOnly_ptpOffset {p : Nat} (hp : p < 2) (o : Int) (t : State) : ClockOnly t (ptpOffset p o t) :=
  ⟨ptpOffset_ports p o t, ((ClockShows.refl [] t).ptpOffset (fun _ h => absurd h List.not_mem_nil) hp o).regs⟩

/-! ## The ports after a message -/

/-- A message that port `p` receives is counted, the port then holds `z`, and the other one has sent `fw`. -/
structure PortShows (p : Nat) (u t : State) (z : PtpPort) (fw : Option (Nat × Nat × Int)) : Prop where
  counts : t.reg (A.netPortRxPtp p) = u.reg (A.netPortRxPtp p) + if u.portMode p = 0 then 0 else 1
  self : t.pp p = z
  other : t.pp (1 - p) = { u.pp (1 - p) with sent := fw.or (u.pp (1 - p)).sent }
  frames : t.reg (A.netPortTxFrames (1 - p)) = u.reg (A.netPortTxFrames (1 - p)) + if fw.isSome then 1 else 0

theorem portShows_passed {p : Nat} (hp : p < 2) (u : State) (fw : Option (Nat × Nat × Int)) : PortShows p u (u.passed p fw) (u.pp p) fw :=
  ⟨passed_counts p fw u, passed_pp_self p fw u hp, passed_pp_other p fw u, passed_frames p fw u⟩

section
variable {p : Nat} {u t : State} {z : PtpPort} {fw : Option (Nat × Nat × Int)}

theorem PortShows.updPp (hp : p < 2) (h : PortShows p u t z fw) (f : PtpPort → PtpPort) : PortShows p u (t.updPp p f) (f z) fw :=
  ⟨h.counts, (State.pp_updPp_same t p f).trans (congrArg f h.self), (State.pp_updPp_other t (by omega) f).trans h.other, h.frames⟩

theorem PortShows.clock {t' : State} (hp : p < 2) (h : PortShows p u t z fw) (ht : ClockOnly t t') : PortShows p u t' z fw := by
  have hpp : ∀ n, t'.pp n = t.pp n := fun n => by rw [State.pp, ht.ports, State.pp]
  have hreg : ∀ {a}, a ∈ passRegs p → t'.reg a = t.reg a := fun ha =>
    ht.regs _ (fun hclock => (passRegs_counters hp).not_mem (clockRegs_far _ hclock) ha)
  exact ⟨(hreg List.mem_cons_self).trans h.counts, (hpp p).trans h.self, (hpp _).trans h.other,
    (hreg (List.mem_cons_of_mem _ List.mem_cons_self)).trans h.frames⟩

theorem PortShows.forward (hp : p < 2) (h : PortShows p u t z none) (kind : Nat) (seq : BitVec 16) (corr : Int) :
    PortShows p u (ptpForward p kind seq corr t) z (some (kind, seq.toNat, corr)) := by
  refine ⟨(State.reg_set_other _ _ _ (rxPtp_ne_txFrames p (1 - p))).trans h.counts, (State.pp_updPp_other t (by omega) _).trans h.self,
    (State.pp_updPp_same t (1 - p) _).trans (by rw [h.other]; rfl), ?_⟩
  exact (State.reg_set_add _ _ 1).trans (congrArg (· + 1) (h.frames.trans (BitVec.add_zero _)))

theorem ptpForward_portsBut (p kind : Nat) (seq : BitVec 16) (corr : Int) (t : State) : PortsBut (passRegs p) t (ptpForward p kind seq corr t) :=
  ((PortsBut.refl _ t).updPp _ _).set (f := F.netPortTxFrames_COUNT (1 - p)) (List.mem_cons_of_mem _ List.mem_cons_self) _

end

/-! ## A Sync -/

/-- A Sync that its port takes keeps the message, or its times. -/
def syncKept (u : State) (p : Nat) (m : PtpMsg) (z : PtpPort) : PtpPort := { z with
  sync := if m.twoStep then some m else none
  syncDue := u.ptpStep + u.ivTicks (u.get (F.ptpPortCfg_SYNC_TMO p)) (u.logOf (F.ptpPortCfg_LOG_SYNC p)) }

/-- A Sync that the port of a transparent clock receives is forwarded, and its sender is the master. -/
def syncHeard (p : Nat) (m : PtpMsg) (egress : W64) (u : State) : State :=
  ptpForward p kSync m.seq (m.corr.toInt + (if u.clockKind = 3 then u.net.ptp.d.getD 0 else 0) +
      (if m.twoStep then 0 else u.txTime (1 - p) egress - u.rxTime p m.stamp))
    (followPort (some p) ((u.ptpRx p).updPp p (fun x => { x with parent := some (m.src, m.srcPort) })))

/-- The state in which the Sync finds its port. -/
def syncFinds (p : Nat) (m : PtpMsg) (egress : W64) (u : State) : State := if u.isTc then syncHeard p m egress u else u.ptpRx p

theorem ptpSync_eq (p : Nat) (m : PtpMsg) (egress : W64) (s : State) : ptpSync p m egress s =
    if !(ptpExpire p s).ptpTakes p m.domain then (ptpExpire p s).ptpRx p
    else if ((syncFinds p m egress (ptpExpire p s)).pp p).parent ≠ some (m.src, m.srcPort) then syncFinds p m egress (ptpExpire p s)
    else
      let s2 := (syncFinds p m egress (ptpExpire p s)).updPp p (syncKept (ptpExpire p s) p m)
      if m.twoStep then s2 else syncUse p (m.time.toNat * 65536) ((ptpExpire p s).rxTime p m.stamp) m.corr.toInt s2 := rfl

/-! ## What a Sync and a Follow_Up show -/

/-- After a message: what the ports hold, and what the clock holds and shows. -/
structure PtpShows (p : Nat) (u t : State) (z : PtpPort) (fw : Option (Nat × Nat × Int)) (v : ClockVals) : Prop where
  ports : PortShows p u t z fw
  clock : ClockShows (passRegs p) u t v

section
variable {p : Nat} (hp : p < 2) {u : State}
include hp

theorem ptpShows_passed (fw : Option (Nat × Nat × Int)) : PtpShows p u (u.passed p fw) (u.pp p) fw u.clockVals :=
  ⟨portShows_passed hp u fw, (ClockShows.refl _ u).ports (passed_portsBut p fw u) (List.Subset.refl _) (passRegs_counters hp)⟩

section
variable {t : State} {z : PtpPort} {fw : Option (Nat × Nat × Int)} {v : ClockVals} (h : PtpShows p u t z fw v)
include h

theorem PtpShows.updPp (f : PtpPort → PtpPort) : PtpShows p u (t.updPp p f) (f z) fw v :=
  ⟨h.ports.updPp hp f, h.clock.ports ((PortsBut.refl (passRegs p) t).updPp p f) (List.Subset.refl _) (passRegs_counters hp)⟩

theorem PtpShows.ptpOffset (o : Int) : PtpShows p u (ptpOffset p o t) z fw (v.takes u (some o) p) :=
  ⟨h.ports.clock hp (clockOnly_ptpOffset hp o t), h.clock.ptpOffset (passRegs_counters hp) hp o⟩

/-- The times of a Sync give an offset once there is a path delay. -/
theorem PtpShows.syncUse (t1 t2 c : Int) :
    PtpShows p u (syncUse p t1 t2 c t) { z with last := some (t1, t2, c) } fw (v.takes u (v.ptp.d.map (fun d => t2 - t1 - c - d)) p) := by
  have hlast := h.updPp hp (fun x => { x with last := some (t1, t2, c) })
  have hd : (t.updPp p (fun x => { x with last := some (t1, t2, c) })).net.ptp.d = v.ptp.d := by rw [hlast.clock.ptp]
  unfold Machine.syncUse
  dsimp only
  rw [hd]
  cases v.ptp.d with
  | none =>
    rw [Option.map_none, ClockVals.takes_none]
    exact hlast
  | some d => exact hlast.ptpOffset hp _

end

/-- The port and the clock as a Sync finds them. -/
theorem syncFinds_shows (m : PtpMsg) (egress : W64) : PtpShows p u (syncFinds p m egress u)
    (if 2 ≤ u.clockKind then { u.pp p with parent := some (m.src, m.srcPort) } else u.pp p)
    (if 2 ≤ u.clockKind then some (0, m.seq.toNat, m.corr.toInt + (if u.clockKind = 3 then u.net.ptp.d.getD 0 else 0) +
      (if m.twoStep then 0 else u.txTime (1 - p) egress - u.rxTime p m.stamp)) else none)
    (heardVals p u m.src (2 ≤ u.clockKind)) := by
  unfold syncFinds
  by_cases htc : 2 ≤ u.clockKind
  · rw [if_pos ((isTc_iff u).mpr htc), if_pos htc, if_pos htc, ← heardVals_of_heard p u m.src _ htc]
    have hparent := (ptpShows_passed hp (u := u) none).updPp hp (fun x => { x with parent := some (m.src, m.srcPort) })
    have hself := congrArg PtpPort.parent hparent.ports.self
    have hfollow : PtpShows p u _ _ _ _ :=
      ⟨hparent.ports.clock hp (clockOnly_followPort hp hself), hparent.clock.followPort hp hself rfl⟩
    exact ⟨hfollow.ports.forward hp _ _ _,
      hfollow.clock.ports (ptpForward_portsBut p _ _ _ _) (List.Subset.refl _) (passRegs_counters hp)⟩
  · rw [if_neg (fun h => htc ((isTc_iff u).mp h)), if_neg htc, if_neg htc, ← heardVals_of_not p u m.src _ htc]
    exact ptpShows_passed hp none

/-- A Sync of the port's master, or one that a transparent clock hears. -/
theorem ptpSync_shows {s : State} (hu : ptpExpire p s = u) (m : PtpMsg) (egress : W64) (htakes : u.ptpTakes p m.domain = true)
    (hours : 2 ≤ u.clockKind ∨ (u.pp p).parent = some (m.src, m.srcPort)) : PtpShows p u (ptpSync p m egress s)
    { u.pp p with
      parent := some (m.src, m.srcPort)
      sync := if m.twoStep then some m else none
      last := if m.twoStep then (u.pp p).last else some ((m.time.toNat * 65536 : Int), u.rxTime p m.stamp, m.corr.toInt)
      syncDue := u.clk.ticks + 1 + u.ivTicks (u.get (F.ptpPortCfg_SYNC_TMO p)) (sx 4 (u.get (F.ptpPortCfg_LOG_SYNC p))) }
    (if 2 ≤ u.clockKind then some (0, m.seq.toNat, m.corr.toInt + (if u.clockKind = 3 then u.net.ptp.d.getD 0 else 0) +
      (if m.twoStep then 0 else u.txTime (1 - p) egress - u.rxTime p m.stamp)) else none)
    ((heardVals p u m.src (2 ≤ u.clockKind)).takes u
      (if m.twoStep then none else u.net.ptp.d.map (fun d => u.rxTime p m.stamp - m.time.toNat * 65536 - m.corr.toInt - d)) p) := by
  have hfinds := syncFinds_shows hp (u := u) m egress
  have hport : (if 2 ≤ u.clockKind then { u.pp p with parent := some (m.src, m.srcPort) } else u.pp p) =
      { u.pp p with parent := some (m.src, m.srcPort) } := by
    split
    · rfl
    · rw [← hours.resolve_left (by assumption)]
  rw [hport] at hfinds
  have hkept := hfinds.updPp hp (syncKept u p m)
  rw [ptpSync_eq, hu, htakes, if_neg (by decide), if_neg (by rw [hfinds.ports.self]; exact not_not.mpr rfl)]
  dsimp only
  have hshown : PtpShows p u ((syncFinds p m egress u).updPp p (syncKept u p m)) { u.pp p with
      parent := some (m.src, m.srcPort)
      sync := if m.twoStep then some m else none
      syncDue := u.clk.ticks + 1 + u.ivTicks (u.get (F.ptpPortCfg_SYNC_TMO p)) (sx 4 (u.get (F.ptpPortCfg_LOG_SYNC p))) } _ _ := hkept
  by_cases htwo : m.twoStep = true
  · simp only [if_pos htwo, ClockVals.takes_none] at hshown ⊢
    exact hshown
  · simp only [if_neg htwo] at hshown ⊢
    exact hshown.syncUse hp _ _ _

omit hp in
/-- Any other Sync only counts. -/
theorem ptpSync_ignored {s : State} (hu : ptpExpire p s = u) (m : PtpMsg) (egress : W64)
    (hours : ¬ (u.ptpTakes p m.domain = true ∧ (2 ≤ u.clockKind ∨ (u.pp p).parent = some (m.src, m.srcPort)))) :
    ptpSync p m egress s = u.ptpRx p := by
  rw [ptpSync_eq, hu]
  by_cases htakes : u.ptpTakes p m.domain = true
  · obtain ⟨htc, hparent⟩ := not_or.mp (fun h => hours ⟨htakes, h⟩)
    have hfinds : syncFinds p m egress u = u.ptpRx p := if_neg (fun h => htc ((isTc_iff u).mp h))
    rw [htakes, hfinds, if_neg (by decide), if_pos (by rw [ptpRx_pp]; exact hparent)]
  · rw [Bool.not_eq_true] at htakes
    rw [htakes]
    rfl

/-! ## A Follow_Up -/

/-- What a transparent clock sends on of a Follow_Up. -/
def followUpSent (u : State) (m : PtpMsg) (residence : W64) : Option (Nat × Nat × Int) :=
  if 2 ≤ u.clockKind then some (8, m.seq.toNat, m.corr.toInt + (residence.toNat : Int)) else none

omit hp in
theorem followUp_passes (u : State) (m : PtpMsg) (residence : W64) :
    (if u.isTc = true then ptpForward p kFollowUp m.seq (m.corr.toInt + residence.toNat) (u.ptpRx p) else u.ptpRx p) =
      u.passed p (followUpSent u m residence) := by
  unfold followUpSent
  simp only [isTc_iff]
  split <;> rfl

omit hp in
theorem ptpFollowUp_ignored {s : State} (hu : ptpExpire p s = u) (m : PtpMsg) (residence : W64) (htakes : ¬ u.ptpTakes p m.domain = true) :
    ptpFollowUp p m residence s = u.ptpRx p := by
  unfold ptpFollowUp
  dsimp only
  rw [hu, if_pos (by rw [Bool.eq_false_iff.mpr htakes]; rfl)]

/-- A Follow_Up that matches no Sync is passed on only. -/
theorem ptpFollowUp_unmatched_shows {s : State} (hu : ptpExpire p s = u) (m : PtpMsg) (residence : W64) (htakes : u.ptpTakes p m.domain = true)
    (hno : ∀ z, (u.pp p).sync = some z → ¬ (z.seq = m.seq ∧ z.src = m.src ∧ z.srcPort = m.srcPort)) :
    PtpShows p u (ptpFollowUp p m residence s) (u.pp p) (followUpSent u m residence) u.clockVals := by
  have hpassed : ptpFollowUp p m residence s = u.passed p (followUpSent u m residence) := by
    unfold ptpFollowUp
    dsimp only
    rw [hu, htakes, if_neg (by decide), followUp_passes]
    rcases hsync : (u.pp p).sync with - | z
    · rfl
    · exact if_neg (hno z hsync)
  rw [hpassed]
  exact ptpShows_passed hp _

/-- A Follow_Up that matches its Sync completes it. -/
theorem ptpFollowUp_matched_shows {s : State} (hu : ptpExpire p s = u) (m : PtpMsg) (residence : W64) (htakes : u.ptpTakes p m.domain = true)
    {z : PtpMsg} (hsync : (u.pp p).sync = some z) (hmatch : z.seq = m.seq ∧ z.src = m.src ∧ z.srcPort = m.srcPort) :
    PtpShows p u (ptpFollowUp p m residence s)
      { u.pp p with sync := none, last := some ((m.time.toNat * 65536 : Int), u.rxTime p z.stamp, z.corr.toInt + m.corr.toInt) }
      (followUpSent u m residence) (u.clockVals.takes u
        (u.net.ptp.d.map (fun d => u.rxTime p z.stamp - m.time.toNat * 65536 - (z.corr.toInt + m.corr.toInt) - d)) p) := by
  have hcompleted : ptpFollowUp p m residence s = syncUse p (m.time.toNat * 65536) (u.rxTime p z.stamp) (z.corr.toInt + m.corr.toInt)
      ((u.passed p (followUpSent u m residence)).updPp p (fun x => { x with sync := none })) := by
    unfold ptpFollowUp
    dsimp only
    rw [hu, htakes, if_neg (by decide), followUp_passes, hsync]
    exact if_pos hmatch
  rw [hcompleted]
  exact ((ptpShows_passed hp (followUpSent u m residence)).updPp hp (fun x => { x with sync := none })).syncUse hp _ _ _

end
end Sys2Proof.Machine
end

section
/-!
PROOF. The foreign masters that an Announce leaves, and the roles that follow (R426, R427).
-/
namespace Sys2Proof.Machine

/-! ## The order of masters -/

theorem lexLt_asymm : ∀ {l m : List Nat}, lexLt l m = true → lexLt m l = false
  | [], [], h => absurd h (by decide)
  | [], _ :: _, _ => rfl
  | _ :: _, [], h => absurd h (by simp [lexLt])
  | a :: r, b :: t, h => by
    simp only [lexLt, Bool.or_eq_true, decide_eq_true_eq, Bool.and_eq_true, beq_iff_eq] at h
    simp only [lexLt, Bool.or_eq_false_iff, decide_eq_false_iff_not, Bool.and_eq_false_iff, beq_eq_false_iff_ne]
    rcases h with hlt | ⟨rfl, hrest⟩
    · exact ⟨by omega, Or.inl (by omega)⟩
    · exact ⟨by omega, Or.inr (lexLt_asymm hrest)⟩

theorem annBetter_asymm {a b : PtpAnn} {p q : Nat} (h : annBetter a p b q = true) : annBetter b q a p = false := by
  unfold annBetter at h ⊢
  dsimp only at h ⊢
  by_cases hgm : a.gm = b.gm
  · rw [if_pos hgm] at h
    rw [if_pos hgm.symm]
    exact lexLt_asymm h
  · rw [if_neg hgm] at h
    rw [if_neg (Ne.symm hgm)]
    exact lexLt_asymm h

/-- The search for the worst of a list ends with the entry that every other one is better than. -/
theorem foldl_worst {p : Nat} {w : Foreign} : ∀ (r : List Foreign) (c : Foreign), (c = w ∨ w ∈ r) →
    (c ≠ w → annBetter c.ann p w.ann p = true) → (∀ f ∈ r, f ≠ w → annBetter f.ann p w.ann p = true) →
    r.foldl (fun w f => if annBetter w.ann p f.ann p then f else w) c = w
  | [], c, hin, _, _ => hin.resolve_right List.not_mem_nil
  | f :: r, c, hin, hc, hr => by
    refine foldl_worst r _ ?_ ?_ (fun g hg => hr g (List.mem_cons_of_mem _ hg))
    · dsimp only
      by_cases hcw : c = w
      · by_cases hfw : f = w
        · exact Or.inl (by rw [hcw, hfw]; exact ite_self w)
        · have hnot := annBetter_asymm (hr f List.mem_cons_self hfw)
          rw [hcw, hnot]
          exact Or.inl rfl
      · rcases List.mem_cons.mp (hin.resolve_left hcw) with rfl | hmem
        · rw [if_pos (hc hcw)]
          exact Or.inl rfl
        · exact Or.inr hmem
    · dsimp only
      intro hne
      by_cases hbetter : annBetter c.ann p f.ann p = true
      · rw [if_pos hbetter] at hne ⊢
        exact hr f List.mem_cons_self hne
      · rw [if_neg hbetter] at hne ⊢
        exact hc hne

/-! ## An Announce -/

/-- The foreign masters after an Announce (R427). -/
def announceList (u : State) (p : Nat) (a : PtpAnn) : List Foreign :=
  let win := u.ivTicks 4 (u.logOf (F.ptpPortCfg_LOG_ANN p))
  let l := (u.pp p).foreign
  let same (f : Foreign) : Bool := f.ann.src == a.src && f.ann.srcPort == a.srcPort
  let fresh : Foreign := { ann := a, n := 1, step := u.ptpStep }
  if l.any same then l.map (fun f => if same f then { ann := a, n := if u.ptpStep < f.step + win then f.n + 1 else 1, step := u.ptpStep } else f)
  else if l.length < 8 then l ++ [fresh]
  else
    match l with
    | [] => [fresh]
    | h :: r =>
      let worst := r.foldl (fun w f => if annBetter w.ann p f.ann p then f else w) h
      if annBetter a p worst.ann p then (l.filter (fun f => f != worst)) ++ [fresh] else l

/-- When the Announce receipt timer of the port expires then. -/
def announceDue (u : State) (p : Nat) (a : PtpAnn) (x : PtpPort) : Nat :=
  if (u.pp p).parent == some (a.src, a.srcPort) || (u.pp p).parent.isNone then
    u.ptpStep + u.ivTicks (u.get (F.ptpPortCfg_ANN_TMO p)) (u.logOf (F.ptpPortCfg_LOG_ANN p)) else x.annDue

/-- An Announce that is heard. -/
def announceHeard (p : Nat) (a : PtpAnn) (u : State) : State :=
  (u.ptpRx p).updPp p (fun x => { x with foreign := announceList u p a, annDue := announceDue u p a x })

theorem ptpAnnounce_eq (p : Nat) (a : PtpAnn) (s : State) : ptpAnnounce p a s =
    if !(ptpExpire p s).ptpTakes p a.domain then (ptpExpire p s).ptpRx p
    else if (ptpExpire p s).isTc then (ptpExpire p s).passed p (some (11, 0, 0))
    else if !(ptpExpire p s).inBmca p ∨ a.src = (ptpExpire p s).clockId then (ptpExpire p s).ptpRx p
    else ptpRoles (announceHeard p a (ptpExpire p s)) := rfl

/-! ## The roles of the ports -/

/-- The state that a port goes to when the roles are formed. -/
def roleOf (p : Nat) (t : State) : Nat :=
  let st := if !t.ptpOn p then psDisabled else if t.portMode p = 2 then psMaster
    else if t.isTc then t.get (F.ptpPortState_PORT_STATE p) else decidePort t p
  if t.get (F.ptpPortState_PORT_STATE p) = psDisabled ∧ t.inBmca p then psListening else st

/-- The master that it follows then. -/
def roleParent (p : Nat) (t : State) : Option (W64 × BitVec 16) :=
  if roleOf p t = psSlave then (t.bestOf p).map (fun a => (a.src, a.srcPort)) else if t.isTc then (t.pp p).parent else none

/-- What the port holds then. -/
def rolePort (p : Nat) (t : State) (x : PtpPort) : PtpPort :=
  if x.parent = roleParent p t then x
  else { x with
    parent := roleParent p t, sync := none, last := none
    syncDue := t.clk.ticks + t.ivTicks (t.get (F.ptpPortCfg_SYNC_TMO p)) (t.logOf (F.ptpPortCfg_LOG_SYNC p))
    annDue := if (roleParent p t).isSome then t.annEnd p else x.annDue }

/-- The role of one port is formed. -/
def roleStep (p : Nat) (t : State) : State :=
  let t1 := if t.get (F.ptpPortState_PORT_STATE p) = psDisabled ∧ t.inBmca p then t.updPp p (fun x => { x with annDue := t.annEnd p }) else t
  (t1.updPp p (rolePort p t)).set (F.ptpPortState_PORT_STATE p) (roleOf p t)

/-- Both roles are formed, before the clock follows. -/
def rolesFormed (s : State) : State :=
  roleStep 1 (roleStep 0 (s.setB F.ptpStatus_CLOCK_ERR (s.clockKind != s.get F.ptpCfg_CLOCK)))

theorem ptpRoles_eq (s : State) :
    ptpRoles s = followPort ([0, 1].find? (fun p => ((rolesFormed s).pp p).parent.isSome)) (rolesFormed s) := rfl

theorem rolePort_foreign (p : Nat) (t : State) (x : PtpPort) : (rolePort p t x).foreign = x.foreign := by
  unfold rolePort
  split <;> rfl

theorem rolePort_parent (p : Nat) (t : State) (x : PtpPort) : (rolePort p t x).parent = roleParent p t := by
  unfold rolePort
  split
  · assumption
  · rfl

theorem updPp_foreign (s : State) (p n : Nat) {f : PtpPort → PtpPort} (hf : ∀ x, (f x).foreign = x.foreign) :
    ((s.updPp p f).pp n).foreign = (s.pp n).foreign := by
  by_cases hn : n = p
  · rw [hn, State.pp_updPp_same, hf]
  · rw [State.pp_updPp_other s hn]

theorem roleStep_foreign (p n : Nat) (t : State) : ((roleStep p t).pp n).foreign = (t.pp n).foreign := by
  unfold roleStep
  dsimp only
  rw [State.pp_set, updPp_foreign _ _ _ (rolePort_foreign p t)]
  split
  · exact updPp_foreign t p n (fun _ => rfl)
  · rfl

theorem roleStep_regs (p : Nat) (t : State) : RegsBut [A.ptpPortState p] t (roleStep p t) := by
  have hbefore : RegsBut [A.ptpPortState p] t
      (if t.get (F.ptpPortState_PORT_STATE p) = psDisabled ∧ t.inBmca p then t.updPp p (fun x => { x with annDue := t.annEnd p }) else t) := by
    split <;> exact RegsBut.refl _ t
  exact RegsBut.set (f := F.ptpPortState_PORT_STATE p) hbefore List.mem_cons_self _

/-- The registers that the roles write. -/
def roleRegs : List Nat := [A.ptpPortState 0, A.ptpPortState 1] ++ clockRegs

theorem rolesFormed_foreign (s : State) (n : Nat) : ((rolesFormed s).pp n).foreign = (s.pp n).foreign := by
  unfold rolesFormed
  rw [roleStep_foreign, roleStep_foreign]
  rfl

theorem rolesFormed_regs (s : State) : RegsBut roleRegs s (rolesFormed s) :=
  (((RegsBut.refl roleRegs s).setB (f := F.ptpStatus_CLOCK_ERR) (by decide) _).trans
    ((roleStep_regs 0 _).mono (by decide))).trans ((roleStep_regs 1 _).mono (by decide))

theorem setClock_regs (st : Nat) (s : State) : RegsBut clockRegs s (setClock st s) := by
  unfold setClock
  dsimp only
  split
  · exact RegsBut.refl _ s
  · refine RegsBut.raise ?_ (by decide) _ _ _ _ _
    split
    · exact RegsBut.set (f := F.ptpStatus_STATE) (RegsBut.refl _ s) (by decide) _
    · exact RegsBut.set (f := F.ptpStatus_LOCKED) (RegsBut.set (f := F.ptpStatus_STATE) (RegsBut.refl _ s) (by decide) _) (by decide) _

theorem followPort_regs (p : Option Nat) (s : State) : RegsBut clockRegs s (followPort p s) := by
  have hslave : ∀ v, RegsBut clockRegs s (s.set F.ptpStatus_SLAVE v) := fun v => (RegsBut.refl _ s).set (f := F.ptpStatus_SLAVE) (by decide) v
  cases p with
  | some q =>
    have hwritten : ∀ id, RegsBut clockRegs s (((s.set F.ptpStatus_SLAVE 1).set F.ptpStatus_SLAVE_PORT q).set64 A.ptpMasterIdLo id) := fun id =>
      (((hslave 1).set (f := F.ptpStatus_SLAVE_PORT) (by decide) q).setReg (by decide) _).setReg (by decide) _
    unfold followPort
    dsimp only
    split
    · exact (hwritten _).trans (setClock_regs _ _)
    · exact hwritten _
  | none =>
    unfold followPort
    dsimp only
    split
    · exact (hslave 0).trans (setClock_regs _ _)
    split
    · exact (hslave 0).trans (RegsBut.trans (fun _ _ => rfl) (setClock_regs _ _))
    split
    · exact (hslave 0).trans (setClock_regs _ _)
    · exact hslave 0

theorem followPort_ports (p : Option Nat) (s : State) : (followPort p s).net.ptp.ports = s.net.ptp.ports := by
  cases p with
  | some q => exact followPort_some_ports q s
  | none =>
    unfold followPort
    dsimp only
    split
    · exact setClock_ports _ _
    split
    · exact setClock_ports _ _
    split
    · exact setClock_ports _ _
    · rfl

theorem ptpRoles_foreign (s : State) (n : Nat) : ((ptpRoles s).pp n).foreign = (s.pp n).foreign := by
  rw [ptpRoles_eq, State.pp, followPort_ports]
  exact rolesFormed_foreign s n

theorem ptpRoles_regs (s : State) : RegsBut roleRegs s (ptpRoles s) := by
  rw [ptpRoles_eq]
  exact (rolesFormed_regs s).trans ((followPort_regs _ _).mono (List.subset_append_right _ _))

/-! ## A port that hears one better master -/

/-- The registers written before the role of port `p` is formed. -/
def electRegs (p : Nat) : List Nat := [A.netPortRxPtp p, A.ptpPortState (1 - p), A.ptpStatus]

/-- What decides the role of port `p` reads in `t` as in `u`. -/
structure SameRole (p : Nat) (u t : State) : Prop where
  clk : t.clk = u.clk
  regs : RegsBut (electRegs p) u t

section
variable {p : Nat} (hp : p < 2) {u t : State} (h : SameRole p u t)
include hp h

theorem SameRole.get {f : Fld} (hf : f.a ∉ electRegs 0 ∧ f.a ∉ electRegs 1) : t.get f = u.get f := by
  rcases (by omega : p = 0 ∨ p = 1) with rfl | rfl
  · exact h.regs.get hf.1
  · exact h.regs.get hf.2

theorem SameRole.portMode {n : Nat} (hn : n < 2) : t.portMode n = u.portMode n := by
  rcases (by omega : n = 0 ∨ n = 1) with rfl | rfl
  · exact h.get hp (by decide)
  · exact h.get hp (by decide)

theorem SameRole.clockKind : t.clockKind = u.clockKind := by
  rw [clockKind_eq, clockKind_eq, h.get hp (by decide), h.portMode hp (by decide), h.portMode hp (by decide)]

theorem SameRole.isTc : t.isTc = u.isTc := by rw [State.isTc, State.isTc, h.clockKind hp]

theorem SameRole.ptpOn : t.ptpOn p = u.ptpOn p := by
  have hen : t.get (F.ptpPortCfg_EN p) = u.get (F.ptpPortCfg_EN p) := by
    rcases (by omega : p = 0 ∨ p = 1) with rfl | rfl
    · exact h.get hp (by decide)
    · exact h.get hp (by decide)
  rw [State.ptpOn, State.ptpOn, State.getB, State.getB, hen, h.portMode hp hp, h.clockKind hp]

theorem SameRole.portState : t.get (F.ptpPortState_PORT_STATE p) = u.get (F.ptpPortState_PORT_STATE p) := by
  rcases (by omega : p = 0 ∨ p = 1) with rfl | rfl
  · exact h.regs.get (by decide)
  · exact h.regs.get (by decide)

theorem SameRole.ownSet : t.ownSet = u.ownSet := by
  have hlo : t.reg (A.netPortMacLo 0) = u.reg (A.netPortMacLo 0) := by
    rcases (by omega : p = 0 ∨ p = 1) with rfl | rfl
    · exact h.regs _ (by decide)
    · exact h.regs _ (by decide)
  have hid : t.clockId = u.clockId := by rw [State.clockId, State.clockId, hlo, h.get hp (by decide)]
  rw [State.ownSet, State.ownSet, hid, h.get hp (by decide), h.get hp (by decide), h.get hp (by decide), h.get hp (by decide),
    h.get hp (by decide), h.get hp (by decide)]

theorem SameRole.window : t.ivTicks 4 (t.logOf (F.ptpPortCfg_LOG_ANN p)) = u.ivTicks 4 (u.logOf (F.ptpPortCfg_LOG_ANN p)) := by
  have hlog : t.get (F.ptpPortCfg_LOG_ANN p) = u.get (F.ptpPortCfg_LOG_ANN p) := by
    rcases (by omega : p = 0 ∨ p = 1) with rfl | rfl
    · exact h.get hp (by decide)
    · exact h.get hp (by decide)
  have hft : t.ftNs = u.ftNs := congrArg ftNsOf (h.get hp (by decide))
  rw [State.ivTicks, State.ivTicks, State.logOf, State.logOf, hlog, hft]

end

/-- A port outside plant mode is no slave. -/
theorem roleOf_ne_slave {q : Nat} {t : State} (hmode : t.portMode q ≠ 1) : roleOf q t ≠ psSlave := by
  have hbmca : ¬ t.inBmca q = true := by simp [State.inBmca, hmode]
  unfold roleOf
  dsimp only
  rw [if_neg (fun hboth => hbmca hboth.2)]
  by_cases hon : t.ptpOn q = true
  · have htwo : t.portMode q = 2 := ((ptpOn_iff t q).mp hon).2.resolve_right (fun hone => hmode hone.1)
    simp [hon, htwo]
  · simp [hon]

theorem roleStep_pp_other {p n : Nat} (hn : n ≠ p) (t : State) : (roleStep p t).pp n = t.pp n := by
  unfold roleStep
  dsimp only
  rw [State.pp_set, State.pp_updPp_other _ hn]
  split
  · exact State.pp_updPp_other t hn _
  · rfl

theorem roleStep_parent (p : Nat) (t : State) : ((roleStep p t).pp p).parent = roleParent p t := by
  unfold roleStep
  dsimp only
  rw [State.pp_set, State.pp_updPp_same, rolePort_parent]

theorem roleStep_clk (p : Nat) (t : State) : (roleStep p t).clk = t.clk := by
  unfold roleStep
  dsimp only
  rw [State.set_clk, State.updPp_clk]
  split <;> rfl

theorem roleStep_portState (p : Nat) (t : State) : (roleStep p t).get (F.ptpPortState_PORT_STATE p) = roleOf p t % 16 :=
  State.get_set_same _ _ _ (show 3 < 32 by decide)

theorem roleParent_beside {q : Nat} {t : State} (hmode : t.portMode q ≠ 1) (htc : ¬ t.isTc = true) : roleParent q t = none := by
  rw [roleParent, if_neg (roleOf_ne_slave hmode), if_neg htc]

/-- A port of which the clock runs and which hears one better master becomes its slave. -/
theorem roleOf_elects {p : Nat} (hp : p < 2) {t : State} {e : PtpAnn} (hon : t.ptpOn p = true) (hplant : t.portMode p = 1)
    (hbeside : t.portMode (1 - p) ≠ 1) (htc : ¬ t.isTc = true) (hnow : t.get (F.ptpPortState_PORT_STATE p) ≠ 3)
    (hclass : ¬ t.ownSet.cls.toNat < 128) (hworse : annBetter t.ownSet 0 e p = false) (hbest : t.bestOf p = some e) :
    roleOf p t = psSlave := by
  have hbmca : t.inBmca p = true := by simp [State.inBmca, hon, hplant, htc]
  have hother : t.inBmca (1 - p) = false := by simp [State.inBmca, hbeside]
  have hall : t.bestAll = some (e, p) := by
    unfold State.bestAll
    rcases (by omega : p = 0 ∨ p = 1) with rfl | rfl
    · simp [hbmca, hother, hbest]
    · simp [hbmca, hother, hbest]
  have hdecide : decidePort t p = psSlave := by
    unfold decidePort
    dsimp only
    rw [hall]
    dsimp only
    rw [if_neg hclass, hworse, if_neg Bool.false_ne_true, if_pos rfl]
  unfold roleOf
  dsimp only
  rw [if_neg (fun hboth => hnow hboth.1), hon, hplant, hdecide]
  simp [htc]

/-- One foreign master that has qualified is the best of its port. -/
theorem bestOf_single {p : Nat} (hp : p < 2) {u t : State} (h : SameRole p u t) {f : Foreign} (hforeign : (t.pp p).foreign = [f]) (hn : 2 ≤ f.n)
    (hwin : u.clk.ticks < f.step + u.ivTicks 4 (u.logOf (F.ptpPortCfg_LOG_ANN p))) : t.bestOf p = some f.ann := by
  unfold State.bestOf
  dsimp only
  rw [hforeign, h.window hp, h.clk]
  simp [hn, hwin]

/-- What a state must show for its port `p` to become the slave of the master `e`. -/
structure Elects (p : Nat) (u : State) (e : PtpAnn) : Prop where
  on : u.ptpOn p = true
  plant : u.portMode p = 1
  beside : u.portMode (1 - p) ≠ 1
  tc : ¬ u.isTc = true
  enabled : u.get (F.ptpPortState_PORT_STATE p) ≠ 3
  cls : ¬ u.ownSet.cls.toNat < 128
  worse : annBetter u.ownSet 0 e p = false

section
variable {p : Nat} (hp : p < 2) {u t : State} (h : SameRole p u t) {e : PtpAnn} (he : Elects p u e)
include hp h he

theorem Elects.roleOf (hbest : t.bestOf p = some e) : roleOf p t = psSlave :=
  roleOf_elects hp (by rw [h.ptpOn hp]; exact he.on) (by rw [h.portMode hp hp]; exact he.plant)
    (by rw [h.portMode hp (by omega)]; exact he.beside) (by rw [h.isTc hp]; exact he.tc) (by rw [h.portState hp]; exact he.enabled)
    (by rw [h.ownSet hp]; exact he.cls) (by rw [h.ownSet hp]; exact he.worse) hbest

theorem Elects.roleParent_other : roleParent (1 - p) t = none :=
  roleParent_beside (by rw [h.portMode hp (by omega)]; exact he.beside) (by rw [h.isTc hp]; exact he.tc)

theorem Elects.roleParent_self (hbest : t.bestOf p = some e) : roleParent p t = some (e.src, e.srcPort) := by
  rw [roleParent, if_pos (he.roleOf hp h hbest), hbest, Option.map_some]

end

/-- The role of the other port leaves what decides the role of port `p`. -/
theorem SameRole.roleStep_other {p : Nat} {u t : State} (h : SameRole p u t) : SameRole p u (roleStep (1 - p) t) :=
  ⟨(roleStep_clk _ t).trans h.clk, h.regs.trans ((roleStep_regs _ t).mono (by simp [electRegs]))⟩

theorem roleStep_isTc (t : State) : (roleStep 0 t).isTc = t.isTc := by
  have hmode : ∀ n, n < 2 → (roleStep 0 t).portMode n = t.portMode n := fun n hn => by
    rcases (by omega : n = 0 ∨ n = 1) with rfl | rfl
    · exact (roleStep_regs 0 t).get (by decide)
    · exact (roleStep_regs 0 t).get (by decide)
  rw [State.isTc, State.isTc, clockKind_eq, clockKind_eq, (roleStep_regs 0 t).get (by decide), hmode 0 (by decide), hmode 1 (by decide)]

/-- The roles make port `p` the slave of its one better master. -/
theorem rolesFormed_elects {p : Nat} (hp : p < 2) {u s : State} {e : PtpAnn} (he : Elects p u e)
    (h : SameRole p u (s.setB F.ptpStatus_CLOCK_ERR (s.clockKind != s.get F.ptpCfg_CLOCK))) {f : Foreign} (hforeign : (s.pp p).foreign = [f])
    (hann : f.ann = e) (hn : 2 ≤ f.n) (hwin : u.clk.ticks < f.step + u.ivTicks 4 (u.logOf (F.ptpPortCfg_LOG_ANN p))) :
    ((rolesFormed s).pp p).parent = some (e.src, e.srcPort) ∧ ((rolesFormed s).pp (1 - p)).parent = none ∧
      (rolesFormed s).get (F.ptpPortState_PORT_STATE p) = 9 := by
  subst hann
  have hforeign0 : ((s.setB F.ptpStatus_CLOCK_ERR (s.clockKind != s.get F.ptpCfg_CLOCK)).pp p).foreign = [f] := hforeign
  unfold rolesFormed
  generalize s.setB F.ptpStatus_CLOCK_ERR (s.clockKind != s.get F.ptpCfg_CLOCK) = s0 at h hforeign0
  rcases (by omega : p = 0 ∨ p = 1) with rfl | rfl
  · have hbest := bestOf_single hp h hforeign0 hn hwin
    refine ⟨?_, ?_, ?_⟩
    · rw [roleStep_pp_other (by decide), roleStep_parent]
      exact he.roleParent_self hp h hbest
    · refine (roleStep_parent 1 _).trans (roleParent_beside ?_ ?_)
      · rw [State.portMode, (roleStep_regs 0 s0).get (by decide)]
        exact (h.portMode hp (by decide)).trans_ne he.beside
      · rw [roleStep_isTc, h.isTc hp]
        exact he.tc
    · rw [(roleStep_regs 1 _).get (by decide), roleStep_portState, he.roleOf hp h hbest]
      rfl
  · have h1 : SameRole 1 u (roleStep 0 s0) := h.roleStep_other
    have hbest := bestOf_single hp h1 ((roleStep_foreign 0 1 s0).trans hforeign0) hn hwin
    refine ⟨?_, ?_, ?_⟩
    · rw [roleStep_parent]
      exact he.roleParent_self hp h1 hbest
    · refine (congrArg PtpPort.parent (roleStep_pp_other (by decide) _)).trans ((roleStep_parent 0 s0).trans ?_)
      exact he.roleParent_other hp h
    · rw [roleStep_portState, he.roleOf hp h1 hbest]
      rfl

/-- The roles leave the fields of PTP_STATUS but for CLOCK_ERR. -/
theorem rolesFormed_status (s : State) {f : Fld} (ha : f.a = A.ptpStatus) (hf : f.hi < 11 ∨ 11 < f.lo) :
    (rolesFormed s).get f = s.get f := by
  have hport : ∀ p, f.a ∉ [A.ptpPortState p] := fun p hmem => by
    rw [ha, List.mem_singleton] at hmem
    unfold A.ptpStatus A.ptpPortState at hmem
    omega
  unfold rolesFormed
  rw [(roleStep_regs 1 _).get (hport 1), (roleStep_regs 0 _).get (hport 0)]
  exact State.get_set_bits _ _ hf

section
variable {p : Nat} (hp : p < 2) {u : State} {a : PtpAnn}
include hp

omit hp in
theorem announceHeard_portsBut : PortsBut [A.netPortRxPtp p] u (announceHeard p a u) :=
  (ptpRx_portsBut p u List.mem_cons_self).updPp _ _

omit hp in
theorem sameRole_announceHeard : SameRole p u ((announceHeard p a u).setB F.ptpStatus_CLOCK_ERR
    ((announceHeard p a u).clockKind != (announceHeard p a u).get F.ptpCfg_CLOCK)) :=
  have hheard := announceHeard_portsBut (u := u) (a := a)
  ⟨hheard.clk, (hheard.regs.mono (by simp [electRegs])).setB (f := F.ptpStatus_CLOCK_ERR) (by simp [electRegs, F.ptpStatus_CLOCK_ERR]) _⟩

/-- What an Announce of one better master that has qualified shows (R427, R431). -/
theorem announceHeard_elects (he : Elects p u a) {f : Foreign} (hlist : announceList u p a = [f]) (hann : f.ann = a) (hn : 2 ≤ f.n)
    (hwin : u.clk.ticks < f.step + u.ivTicks 4 (u.logOf (F.ptpPortCfg_LOG_ANN p))) :
    let t := ptpRoles (announceHeard p a u)
    t.get (F.ptpPortState_PORT_STATE p) = 9 ∧ (t.pp p).parent = some (a.src, a.srcPort) ∧ t.getB F.ptpStatus_SLAVE = true ∧
      t.get F.ptpStatus_SLAVE_PORT = p ∧ t.get64 A.ptpMasterIdLo = a.src.toNat ∧
      t.get F.ptpStatus_STATE = (if u.get F.ptpStatus_STATE = 0 then (if u.getB F.ptpStatus_STEPPED then 3 else 1)
        else u.get F.ptpStatus_STATE) := by
  intro t
  have hforeign : ((announceHeard p a u).pp p).foreign = [f] := by
    unfold announceHeard
    rw [State.pp_updPp_same]
    exact hlist
  obtain ⟨hparent, hother, hstate⟩ := rolesFormed_elects hp he (sameRole_announceHeard) hforeign hann hn hwin
  have hstatus : ∀ {g : Fld}, g.a = A.ptpStatus → g.hi < 11 → (rolesFormed (announceHeard p a u)).get g = u.get g := fun ha hg =>
    (rolesFormed_status _ ha (Or.inl hg)).trans ((announceHeard_portsBut).regs.get (by
      rw [ha, List.mem_singleton]
      unfold A.ptpStatus A.netPortRxPtp
      omega))
  have hfind : [0, 1].find? (fun n => ((rolesFormed (announceHeard p a u)).pp n).parent.isSome) = some p := by
    rcases (by omega : p = 0 ∨ p = 1) with rfl | rfl
    · simp [hparent]
    · simp [hparent, hother]
  have ht : t = followPort (some p) (rolesFormed (announceHeard p a u)) := (ptpRoles_eq _).trans (by rw [hfind])
  generalize rolesFormed (announceHeard p a u) = s1 at hparent hstate hstatus ht
  have hshows := (ClockShows.refl [] s1).followPort hp hparent rfl
  rw [heardVals_of_heard p s1 a.src True trivial] at hshows
  rw [ht]
  refine ⟨?_, ?_, ?_, ?_, ?_, ?_⟩
  · refine (hshows.regs.get ?_).trans hstate
    rcases (by omega : p = 0 ∨ p = 1) with rfl | rfl <;> decide
  · rw [State.pp, followPort_ports]
    exact hparent
  · rw [State.getB, hshows.get_slave]
    rfl
  · rw [hshows.get_slavePort]
    rfl
  · rw [hshows.id]
    rfl
  · have hstepped : s1.getB F.ptpStatus_STEPPED = u.getB F.ptpStatus_STEPPED := congrArg (· != 0) (hstatus rfl (by decide))
    refine hshows.get_state.trans ?_
    show heardState s1 True = _
    rw [heardState, hstatus (g := F.ptpStatus_STATE) rfl (by decide), hstepped]
    by_cases hfree : u.get F.ptpStatus_STATE = 0
    · rw [if_pos ⟨trivial, hfree⟩, if_pos hfree]
    · rw [if_neg (fun hboth => hfree hboth.2), if_neg hfree]

end
end Sys2Proof.Machine
end

section
/-!
PROOF. What a port sends of its own (R426), and the statement O44 from the facts above.
-/
namespace Sys2Proof.Machine

/-! ## A transmission -/

/-- A port may send a message of a kind. -/
def TxMay (p kind : Nat) (s : State) : Prop :=
  if kind = 2 then ((s.getB (F.ptpPortCfg_P2P p) = true ∨ s.clockKind = 3) ∧ s.portMode p = 1) ∨ (s.pp p).parent.isSome = true
  else s.get (F.ptpPortState_PORT_STATE p) = 6

/-- The interval of a message kind. -/
def txLog (p kind : Nat) : Fld :=
  if kind = 0 then F.ptpPortCfg_LOG_SYNC p else if kind = 1 then F.ptpPortCfg_LOG_ANN p else F.ptpPortCfg_LOG_DELAY p

/-- A message falls due on a port. -/
def TxDue (p kind : Nat) (s : State) : Prop :=
  s.ptpOn p = true ∧ s.linkUp p = true ∧ TxMay p kind s ∧ (s.pp p).txDue.getD kind 0 ≤ s.clk.ticks

/-- What the port holds once it has sent the message. -/
def txPort (p kind : Nat) (stamp : W64) (s : State) (y : PtpPort) : PtpPort := { y with
  txDue := y.txDue.set kind (s.clk.ticks + s.ivTicks 1 (s.logOf (txLog p kind)))
  seqs := y.seqs.set kind ((s.pp p).seqs.getD kind 0 % 65536 + 1)
  req := if kind = 2 then some (BitVec.ofNat 16 ((s.pp p).seqs.getD kind 0 % 65536), s.txTime p stamp, s.clk.ticks + s.ivTicks 1 0) else y.req }

theorem ptpTransmit_eq (p kind : Nat) (stamp : W64) (s : State) : ptpTransmit p kind stamp s =
    if !(s.ptpOn p && s.linkUp p && (if kind = 2 then
        ((s.getB (F.ptpPortCfg_P2P p) || s.clockKind == 3) && s.portMode p == 1) || (s.pp p).parent.isSome
      else s.get (F.ptpPortState_PORT_STATE p) == psMaster)) ∨ s.clk.ticks < (s.pp p).txDue.getD kind 0 then s
    else ptpSend p (if kind = 0 then kSync else if kind = 1 then kAnnounce
        else if s.getB (F.ptpPortCfg_P2P p) || s.clockKind == 3 then kPdelayReq else kDelayReq)
      ((s.pp p).seqs.getD kind 0 % 65536) 0 (if kind = 0 ∧ !s.getB (F.ptpPortCfg_ONE_STEP p) then 2 else 1)
      (s.updPp p (txPort p kind stamp s)) := rfl

theorem txMay_iff (p kind : Nat) (s : State) : (if kind = 2 then
      ((s.getB (F.ptpPortCfg_P2P p) || s.clockKind == 3) && s.portMode p == 1) || (s.pp p).parent.isSome
    else s.get (F.ptpPortState_PORT_STATE p) == psMaster) = true ↔ TxMay p kind s := by
  unfold TxMay
  split
  · rw [Bool.or_eq_true, Bool.and_eq_true, Bool.or_eq_true, beq_iff_eq, beq_iff_eq]
  · rw [beq_iff_eq]

theorem ptpTransmit_early (p kind : Nat) (stamp : W64) (s : State) (h : ¬ TxDue p kind s) : ptpTransmit p kind stamp s = s := by
  rw [ptpTransmit_eq, if_pos]
  by_contra hnot
  obtain ⟨hmay, hdue⟩ := not_or.mp hnot
  rw [Bool.not_eq_true', Bool.not_eq_false, Bool.and_eq_true, Bool.and_eq_true, txMay_iff] at hmay
  exact h ⟨hmay.1.1, hmay.1.2, hmay.2, Nat.not_lt.mp hdue⟩

theorem ptpTransmit_due (p kind : Nat) (stamp : W64) (s : State) (h : TxDue p kind s) : ptpTransmit p kind stamp s =
    ptpSend p (if kind = 0 then kSync else if kind = 1 then kAnnounce
        else if s.getB (F.ptpPortCfg_P2P p) || s.clockKind == 3 then kPdelayReq else kDelayReq)
      ((s.pp p).seqs.getD kind 0 % 65536) 0 (if kind = 0 ∧ !s.getB (F.ptpPortCfg_ONE_STEP p) then 2 else 1)
      (s.updPp p (txPort p kind stamp s)) := by
  obtain ⟨hon, hlink, hmay, hdue⟩ := h
  rw [ptpTransmit_eq, if_neg]
  rw [not_or, Bool.not_eq_true', Bool.not_eq_false, Bool.and_eq_true, Bool.and_eq_true, txMay_iff]
  exact ⟨⟨⟨hon, hlink⟩, hmay⟩, Nat.not_lt.mpr hdue⟩

/-- What a port shows once it has sent a message of its own. -/
theorem ptpSend_shows {p : Nat} (hp : p < 2) (code seq n : Nat) (f : PtpPort → PtpPort) (s : State) :
    let t := ptpSend p code seq 0 n (s.updPp p f)
    t.pp (1 - p) = s.pp (1 - p) ∧ t.pp p = { f (s.pp p) with sent := some (code, seq, 0) } ∧
      t.reg (A.netPortTxFrames p) = s.reg (A.netPortTxFrames p) + BitVec.ofNat 32 n ∧ PortsBut [A.netPortTxFrames p] s t := by
  intro t
  refine ⟨?_, ?_, State.reg_set_add _ _ n, ?_⟩
  · exact (State.pp_updPp_other (s.updPp p f) (by omega) _).trans (State.pp_updPp_other s (by omega) _)
  · exact (State.pp_updPp_same (s.updPp p f) p _).trans (by rw [State.pp_updPp_same])
  · exact (((PortsBut.refl _ s).updPp p f).updPp p _).set (f := F.netPortTxFrames_COUNT p) List.mem_cons_self _

/-! ## The statement -/

theorem ptpRx_frame (p : Nat) (u : State) : u.ptpRx p = { u with regs := (u.ptpRx p).regs } := by
  unfold State.ptpRx
  split <;> rfl

/-- Where no timer of a port has run, nothing expires. -/
theorem ptpExpire_before (p : Nat) (s : State) (hsync : (s.pp p).parent = none ∨ s.clk.ticks < (s.pp p).syncDue)
    (hann : s.clk.ticks < (s.pp p).annDue ∨ s.get (F.ptpPortState_PORT_STATE p) = 6)
    (hreq : ∀ r, (s.pp p).req = some r → s.clk.ticks < r.2.2) (hhold : ∀ h, s.net.ptp.hold = some h → s.clk.ticks < h.due) :
    ptpExpire p s = s := by
  have hs : syncTimeout p s = s := if_pos (hsync.imp_left (fun h => by rw [h]; rfl))
  have ha : announceTimeout p s = s := if_pos (Or.inr hann)
  rw [ptpExpire, hs, ha, delayTimeout_before p s hreq, pathHoldExpire_before s hhold]

/-- A bit that is cleared under a condition, and kept otherwise. -/
theorem bne_zero_or {c : Prop} {d : Decidable c} (n : Nat) : ((if c then 0 else n) != 0) = if c then false else n != 0 := by
  by_cases h : c <;> simp [h]

/-- A bit that is written under a condition, and kept otherwise. -/
theorem bne_toNat_or {c : Prop} {d : Decidable c} (b : Bool) (n : Nat) : ((if c then b.toNat else n) != 0) = if c then b else n != 0 := by
  by_cases h : c <;> cases b <;> simp [h]

/-- LOCKED: it is set, cleared, or kept of a clock that has not just got its first master. -/
theorem bne_one_zero_or {c d e : Prop} {dc : Decidable c} {dd : Decidable d} {de : Decidable e} (n : Nat) :
    ((if c then 1 else if d then 0 else if e then 0 else n) != 0) = if c then true else if d then false else !decide e && n != 0 := by
  by_cases hc : c <;> by_cases hd : d <;> by_cases he : e <;> simp [hc, hd, he]

/-- A list of at most one event. -/
theorem length_ite_le {α : Type} (c : Prop) [Decidable c] (x : α) : (if c then [x] else []).length ≤ 1 := by
  split <;> simp

section
variable {p : Nat} (hp : p < 2) (u : State) (a : PtpAnn)
include hp

theorem announceRoles_counts : (ptpRoles (announceHeard p a u)).reg (A.netPortRxPtp p) =
    u.reg (A.netPortRxPtp p) + if u.portMode p = 0 then 0 else 1 := by
  refine (ptpRoles_regs _ _ (fun hmem => ?_)).trans (ptpRx_counts p u)
  exact (passRegs_counters hp).not_mem ((by decide : ∀ b ∈ roleRegs, b < 0x12100 ∨ 0x12300 ≤ b) _ hmem) List.mem_cons_self

omit hp in
theorem announceRoles_foreign_self : ((ptpRoles (announceHeard p a u)).pp p).foreign = announceList u p a := by
  rw [ptpRoles_foreign, announceHeard, State.pp_updPp_same]

theorem announceRoles_foreign_other : ((ptpRoles (announceHeard p a u)).pp (1 - p)).foreign = (u.pp (1 - p)).foreign := by
  rw [ptpRoles_foreign, announceHeard, State.pp_updPp_other _ (by omega), ptpRx_pp]

end

section
variable {p : Nat} {u : State} {a : PtpAnn}

theorem announceList_same (h : (u.pp p).foreign.any (fun f => f.ann.src == a.src && f.ann.srcPort == a.srcPort) = true) :
    announceList u p a = (u.pp p).foreign.map (fun f => if f.ann.src == a.src && f.ann.srcPort == a.srcPort then
      { ann := a, n := if u.ptpStep < f.step + u.ivTicks 4 (u.logOf (F.ptpPortCfg_LOG_ANN p)) then f.n + 1 else 1, step := u.ptpStep } else f) :=
  if_pos h

theorem announceList_room (h : (u.pp p).foreign.any (fun f => f.ann.src == a.src && f.ann.srcPort == a.srcPort) = false)
    (hroom : (u.pp p).foreign.length < 8) : announceList u p a = (u.pp p).foreign ++ [{ ann := a, n := 1, step := u.ptpStep }] := by
  unfold announceList
  dsimp only
  rw [if_neg (by rw [h]; decide), if_pos hroom]

/-- A full list gives its worst entry up for a better one. -/
theorem announceList_full (h : (u.pp p).foreign.any (fun f => f.ann.src == a.src && f.ann.srcPort == a.srcPort) = false)
    (hfull : 8 ≤ (u.pp p).foreign.length) {w : Foreign} (hw : w ∈ (u.pp p).foreign)
    (hworst : ∀ f ∈ (u.pp p).foreign, f ≠ w → annBetter f.ann p w.ann p = true) :
    announceList u p a = if annBetter a p w.ann p then
      (u.pp p).foreign.filter (fun f => f != w) ++ [{ ann := a, n := 1, step := u.ptpStep }] else (u.pp p).foreign := by
  unfold announceList
  dsimp only
  rw [if_neg (by rw [h]; decide), if_neg (by omega)]
  rcases hl : (u.pp p).foreign with - | ⟨e, r⟩
  · rw [hl] at hw
    exact absurd hw List.not_mem_nil
  · rw [hl] at hw hworst
    dsimp only
    rw [foldl_worst r e ((List.mem_cons.mp hw).imp_left Eq.symm) (hworst e List.mem_cons_self)
      (fun f hf => hworst f (List.mem_cons_of_mem _ hf))]

end

section
variable (p : Nat) (u : State) (src : W64) (heard : Prop) [Decidable heard] (off : Option Int)

theorem heardVals_takes_events : ((heardVals p u src heard).takes u off p).events =
    (if heard ∧ u.get F.ptpStatus_STATE = 0 then [clockEvent u 0 (heardState u heard) (heardSlave p u heard)] else []) ++
      (if off.isSome ∧ heardState u heard = 3 then [clockEvent u 3 2 (heardSlave p u heard)] else []) ++
      (if OffRefuse u (heardVals p u src heard) off ∧ u.net.ptp.refused = false then [refusedEvent p u (off.getD 0)] else []) := by
  show _ ++ (if _ then [clockEvent u 3 2 (heardVals p u src heard).slaveShown] else []) ++ _ = _
  rw [heardVals_slaveShown]
  rfl

theorem heardVals_takes_events_length : ((heardVals p u src heard).takes u off p).events.length ≤ 3 := by
  rw [heardVals_takes_events, List.length_append, List.length_append]
  exact Nat.add_le_add (Nat.add_le_add (length_ite_le _ _) (length_ite_le _ _)) (length_ite_le _ _)

end

namespace PtpClock

/-- Settles O44: each message is reduced to what its port passes on, and to what the clock holds and shows after a master that may have been heard
and an offset that may have been measured. -/
theorem ptpSync : Obligations.PtpSync := by
  unfold Obligations.PtpSync
  intro p m egress residence stamp a s u q works x y kind clock tc onPort takes counts ignored ports log mx limit thr st0 stepped moving measured
    t2 t1 corr
  have hp : p.val < 2 := p.isLt
  have hkind : ∀ v, v.clockKind = kind v := clockKind_eq
  have htc : u.isTc = true ↔ tc := by rw [isTc_iff, hkind]
  have htakes : ∀ d, u.ptpTakes p.val d = true ↔ takes d := fun d => ptpTakes_iff u p.val d
  have hignored : ∀ i, exec i s = .next (u.ptpRx p.val) → ignored i := fun i hexec =>
    ⟨_, hexec, ptpRx_frame p.val u, ptpRx_counts p.val u, (ptpRx_portsBut p.val u List.mem_cons_self).regs⟩
  have hports : ∀ {t z fw}, PortShows p.val u t z fw → ports t z fw := fun h => ⟨h.counts, h.self, h.other, h.frames⟩
  have hmeasured : ∀ (heard : Prop) [Decidable heard] t off,
      ClockShows (passRegs p.val) u t ((heardVals p.val u m.src heard).takes u off p.val) → measured heard t off := by
    intro heard _ t off h
    refine ⟨h.ptp, h.incr, h.get_state, ?locked, ?auth, ?pending, ?refused, ?slave, h.get_slavePort, h.id, ?kept, h.offset, h.rate, ?events,
      h.regs, State.eq_of_sansClock h.frame⟩
    case locked => exact (congrArg (· != 0) (h.status F.ptpStatus_LOCKED (by decide))).trans (bne_one_zero_or _)
    case auth => exact (congrArg (· != 0) (h.status F.ptpStatus_AUTH (by decide))).trans (bne_zero_or _)
    case pending =>
      have hheld : u.stepHeld = decide moving := Bool.eq_iff_iff.mpr ((stepHeld_iff u).trans decide_eq_true_iff.symm)
      refine (congrArg (· != 0) (h.status F.ptpStatus_STEP_PENDING (by decide))).trans ((bne_toNat_or _ _).trans ?_)
      rw [hheld]
      rfl
    case refused => exact (congrArg (· != 0) (h.status F.ptpStatus_STEP_REFUSED (by decide))).trans (bne_one_or _)
    case slave => exact (congrArg (· != 0) (h.status F.ptpStatus_SLAVE (by decide))).trans (bne_one_or _)
    case kept =>
      simp only [List.forall_mem_cons]
      exact ⟨h.status F.ptpStatus_STEPPED (by decide), h.status F.ptpStatus_PATH_HOLD (by decide), h.status F.ptpStatus_ASYM (by decide),
        h.status F.ptpStatus_CLOCK_ERR (by decide), fun _ hf => absurd hf List.not_mem_nil⟩
    case events =>
      intro hroom
      rw [h.events (by have := heardVals_takes_events_length p.val u m.src heard off; omega), heardVals_takes_events, ← List.append_assoc,
        ← List.append_assoc]
      rfl
  have hnone : ∀ {t off}, ClockShows (passRegs p.val) u t (u.clockVals.takes u off p.val) → measured False t off := fun h => by
    rw [heardVals_of_not p.val u m.src False not_false] at h
    exact hmeasured _ _ _ h
  refine ⟨fun hidle => ?idle, ptpExpire_before p.val s, ?timers, fun hworks => ⟨?sync, ?followUp, ?announce, ?transmit⟩⟩
  case idle =>
    have hnext : ∀ {i f}, exec i s = .next (byNe f s) → exec i s = .next s := fun h => h.trans (congrArg Host.Outcome.next (byNe_idle hidle _))
    exact ⟨hnext rfl, hnext rfl, hnext rfl, fun _ => hnext rfl⟩
  case timers =>
    intro b hb hworksB c hc hworksC d hd hworksD hworks
    have hb' : syncTimeout p.val s = b := (byNe_works hworks _).symm.trans (Host.Outcome.next.inj hb)
    have hc' : announceTimeout p.val b = c := (byNe_works hworksB _).symm.trans (Host.Outcome.next.inj hc)
    have hd' : delayTimeout p.val c = d := (byNe_works hworksC _).symm.trans (Host.Outcome.next.inj hd)
    have hu : pathHoldExpire d = u := by rw [← hd', ← hc', ← hb']; rfl
    exact congrArg Host.Outcome.next ((byNe_works hworksD _).trans hu)
  case sync =>
    have hexec : exec (.sync p m egress) s = .next (Machine.ptpSync p.val m egress s) := congrArg Host.Outcome.next (byNe_works hworks _)
    intro ours
    have hours : (u.ptpTakes p.val m.domain = true ∧ (2 ≤ u.clockKind ∨ (u.pp p.val).parent = some (m.src, m.srcPort))) ↔ ours := by
      rw [htakes, hkind]
    refine ⟨fun hno => hignored _ (hexec.trans ?_), fun hyes => ⟨_, hexec, ?_⟩⟩
    · rw [ptpSync_ignored (u := u) rfl m egress (mt hours.mp hno)]
    · obtain ⟨htaken, hheard⟩ := hours.mpr hyes
      have hshows := ptpSync_shows hp (u := u) rfl m egress htaken hheard
      rw [hkind] at hshows
      exact ⟨hports hshows.ports, hmeasured _ _ _ hshows.clock⟩
  case followUp =>
    have hexec : exec (.followUp p m residence) s = .next (ptpFollowUp p.val m residence s) := congrArg Host.Outcome.next (byNe_works hworks _)
    have hsent : followUpSent u m residence = if tc then some (8, m.seq.toNat, corr + (residence.toNat : Int)) else none := by
      rw [followUpSent, hkind]
    intro matched fw
    refine ⟨fun hno => hignored _ (hexec.trans ?_), fun hyes hno => ⟨_, hexec, ?_⟩, fun z hz hmatched => ⟨_, hexec, ?_⟩⟩
    · rw [ptpFollowUp_ignored (u := u) rfl m residence (mt (htakes _).mp hno)]
    · have hshows := ptpFollowUp_unmatched_shows hp (u := u) rfl m residence ((htakes _).mpr hyes)
        (fun z hz hsame => hno ⟨hyes, z, hz, hsame⟩)
      rw [hsent] at hshows
      exact ⟨hports hshows.ports, hnone (off := none) (by rw [ClockVals.takes_none]; exact hshows.clock)⟩
    · obtain ⟨hyes, z', hz', hsame⟩ := hmatched
      obtain rfl := Option.some.inj (hz.symm.trans hz')
      have hshows := ptpFollowUp_matched_shows hp (u := u) rfl m residence ((htakes _).mpr hyes) hz hsame
      rw [hsent] at hshows
      exact ⟨hports hshows.ports, hnone hshows.clock⟩
  case announce =>
    have hexec : exec (.ptpAnnounce p a) s = .next (ptpAnnounce p.val a s) := congrArg Host.Outcome.next (byNe_works hworks _)
    rw [ptpAnnounce_eq] at hexec
    intro bmca l now win fresh same lists
    have hbmca : takes a.domain → (u.inBmca p.val = true ∧ a.src ≠ u.clockId ↔ bmca) := fun htaken => by
      have hon : u.ptpOn p.val = true := (ptpOn_iff u p.val).mpr htaken.1
      rw [State.inBmca, hon, Bool.true_and, Bool.and_eq_true, beq_iff_eq, Bool.not_eq_true', ← Bool.not_eq_true, htc,
        and_comm (a := u.portMode p.val = 1), and_assoc]
    have hheard : takes a.domain → bmca → exec (.ptpAnnounce p a) s = .next (ptpRoles (announceHeard p.val a u)) := fun htaken hin => by
      obtain ⟨hport, hsrc⟩ := (hbmca htaken).mpr hin
      rw [hexec, (htakes _).mpr htaken, if_neg (by decide), if_neg (fun h => hin.1 (htc.mp h)), hport,
        if_neg (by simpa using hsrc)]
    have hlists : ∀ l', takes a.domain → bmca → announceList u p.val a = l' → lists l' := fun l' htaken hin hlist =>
      ⟨_, hheard htaken hin, announceRoles_counts hp u a, (announceRoles_foreign_self u a).trans hlist, announceRoles_foreign_other hp u a⟩
    refine ⟨fun hno => hignored _ (hexec.trans ?_), fun htaken htc' => ⟨_, hexec, ?_⟩, fun htaken hin =>
      ⟨fun hany => hlists _ htaken hin (announceList_same hany), fun hany hfew => hlists _ htaken hin (announceList_room hany hfew),
        fun hany hfull w hw hworst => ⟨fun hbetter => hlists _ htaken hin ?_, fun hworse => hlists _ htaken hin ?_⟩,
        fun f hf hlen hsame hwin hn hbeside hstate hclass hworse => ⟨_, hheard htaken hin, ?_⟩⟩⟩
    · by_cases htaken : takes a.domain
      · obtain ⟨hnot, hout⟩ := hno.resolve_left (not_not.mpr htaken)
        have hcond : (!u.inBmca p.val) = true ∨ a.src = u.clockId := by
          by_contra hin
          rw [not_or, Bool.not_eq_true', Bool.not_eq_false] at hin
          exact hout ((hbmca htaken).mp hin)
        rw [(htakes _).mpr htaken, if_neg (by decide), if_neg (mt htc.mp hnot), if_pos hcond]
      · rw [Bool.eq_false_iff.mpr (mt (htakes _).mp htaken)]
        rfl
    · rw [(htakes _).mpr htaken, if_neg (by decide), if_pos (htc.mpr htc')]
      have hshows := ptpShows_passed hp (u := u) (some (11, 0, 0))
      exact ⟨hports hshows.ports, hnone (off := none) (by rw [ClockVals.takes_none]; exact hshows.clock)⟩
    · rw [announceList_full hany hfull hw hworst, if_pos hbetter]
      rfl
    · rw [announceList_full hany hfull hw hworst, if_neg (by rw [hworse]; decide)]
    · obtain ⟨hport, -⟩ := (hbmca htaken).mpr hin
      have hl : (u.pp p.val).foreign = [f] := by
        obtain ⟨e, he⟩ := List.length_eq_one_iff.mp hlen
        have hhead : l.head? = some e := congrArg List.head? he
        rw [Option.some.inj (hf.symm.trans hhead)]
        exact he
      have hcls : u.ownSet.cls.toNat = u.get F.ptpCfg2_CLOCK_CLASS :=
        (BitVec.toNat_ofNat ..).trans (Nat.mod_eq_of_lt (Nat.mod_lt _ (by decide)))
      have helects : Elects p.val u a := ⟨(ptpOn_iff u p.val).mpr htaken.1, hin.2.1, hbeside, mt htc.mp hin.1, hstate,
        by rw [hcls]; exact Nat.not_lt.mpr hclass, hworse⟩
      refine announceHeard_elects hp helects (f := { ann := a, n := f.n + 1, step := u.ptpStep }) ?_ rfl (Nat.succ_le_succ hn)
        (by show u.clk.ticks < u.clk.ticks + 1 + _; omega)
      have hsame' : (f.ann.src == a.src && f.ann.srcPort == a.srcPort) = true := hsame
      have hwin' : u.ptpStep < f.step + u.ivTicks 4 (u.logOf (F.ptpPortCfg_LOG_ANN p.val)) := hwin
      rw [announceList_same (by rw [hl, List.any_cons, hsame', Bool.true_or]), hl, List.map_singleton, if_pos hsame', if_pos hwin']
  case transmit =>
    have hexec : ∀ k : Fin 3, exec (.ptpTransmit p k stamp) s = .next (ptpTransmit p.val k.val stamp s) := fun k =>
      congrArg Host.Outcome.next (byNe_works hworks _)
    intro z peer master sends
    have hsends : ∀ (k : Fin 3) may f code frames, (TxMay p.val k.val s ↔ may) → txLog p.val k.val = f →
        (if k.val = 0 then kSync else if k.val = 1 then kAnnounce
          else if s.getB (F.ptpPortCfg_P2P p.val) || s.clockKind == 3 then kPdelayReq else kDelayReq) = code →
        (if k.val = 0 ∧ !s.getB (F.ptpPortCfg_ONE_STEP p.val) then 2 else 1) = frames → sends k may f code frames := by
      intro k may f code frames hmay hlog hcode hframes
      have hdue : TxDue p.val k.val s ↔ onPort s ∧ s.linkUp p.val = true ∧ may ∧ z.txDue.getD k.val 0 ≤ s.clk.ticks := by
        rw [TxDue, ptpOn_iff, hmay]
      refine ⟨fun hyes => ⟨_, hexec k, ?_⟩, fun hno => (hexec k).trans ?_⟩
      · rw [ptpTransmit_due _ _ _ _ (hdue.mpr hyes), hcode, hframes]
        obtain ⟨hother, hself, hcount, honly⟩ := ptpSend_shows hp code ((s.pp p.val).seqs.getD k.val 0 % 65536) frames
          (txPort p.val k.val stamp s) s
        refine ⟨hother, hself.trans ?_, hcount, honly.regs, honly.frame⟩
        have hreq : ∀ A B : Option (BitVec 16 × Int × Nat), (if k.val = 2 then A else B) = if k = 2 then A else B := fun A B =>
          if_congr (by rw [Fin.ext_iff]; rfl) rfl rfl
        rw [txPort, hlog, hreq]
        rfl
      · rw [ptpTransmit_early _ _ _ _ (mt hdue.mp hno)]
    refine ⟨hsends 0 _ _ _ _ Iff.rfl rfl rfl ?_, hsends 1 _ _ _ _ Iff.rfl rfl rfl rfl, hsends 2 _ _ _ _ ?_ rfl ?_ rfl⟩
    · cases s.getB (F.ptpPortCfg_ONE_STEP p.val) <;> rfl
    · show TxMay p.val 2 s ↔ _
      rw [TxMay, if_pos rfl, hkind]
    · have hpeer : (s.getB (F.ptpPortCfg_P2P p.val) || s.clockKind == 3) = true ↔ peer := by
        rw [Bool.or_eq_true, beq_iff_eq, hkind]
      show (if (s.getB (F.ptpPortCfg_P2P p.val) || s.clockKind == 3) = true then kPdelayReq else kDelayReq) = _
      exact if_congr hpeer rfl rfl

end PtpClock
end Sys2Proof.Machine
end
